-- ==== Sys2Proof/Word.lean ====
section
/-! DEFINITION. The words of the model: bytes, cache blocks, and the little sums on them that need no rule. -/

namespace Sys2Proof

/-- One byte. -/
abbrev Byte := BitVec 8

/-- One 4 KiB block of a tenant, byte 0 in bits 7:0 (00_scope R6, R9; 06 R280). -/
abbrev Block := BitVec 32768

/-- A dictionary key: index × 256 + sub-index (04 R132). -/
abbrev Key := Nat

end Sys2Proof
end

