-- ==== Sys2Proof/Syntax.lean ====
section
/-! DEFINITION. The commands of the block: one constructor of `Instr` for each row of spec/opcode_table.json, in its order,
with the operands that the row's rule needs. The table gives no row any bits; the operands are read from the rules. -/

namespace Sys2Proof

/-- The transport session a dictionary request comes from (01 R32 to R36, 04 R139): a function's mailbox, or a USDO client node. -/
inductive Session where
  | mailbox (fn : Fin 16)
  | usdo (node : Fin 128)
  deriving DecidableEq, Repr

/-- The two energy channels (07 R335). -/
inductive Channel where
  | pack
  | bank
  deriving DecidableEq, Repr

/-- The islands that `2101h IslandState` reports, in its order (01 R46). -/
inductive Island where
  | supervisor | control | host | memory | flash
  | capture0 | capture1 | capture2 | capture3
  | pixel | entropy
  deriving DecidableEq, Repr

/-- A USDO request: a read or a write of one entry, or a service that is not supported, block transfer included (04 R162). -/
inductive UsdoReq where
  | read (index : BitVec 16) (sub : BitVec 8) (len : Nat)
  | write (index : BitVec 16) (sub : BitVec 8) (data : List Byte)
  | unsupported
  deriving DecidableEq, Repr

/-- What a flash read of one stripe or codeword gave: all pages good; some codewords rebuilt from the stripe, each with the die
whose page was rebuilt; or the pages of two dies unreadable (12 R656, R678, R681). -/
inductive ReadResult where
  | good
  | rebuilt (die : Fin 16)
  | lost (a b : Fin 16)
  deriving DecidableEq, Repr

/-- One submission entry fetch: the 64 bytes, byte 0 in bits 7:0, or a fetch that failed (05 R221, QSTATUS code 0x03). -/
inductive FetchResult where
  | entry (sqe : BitVec 512)
  | failed
  deriving DecidableEq, Repr

/-- What host memory gave for a command: its element list (empty without DataList) and, for a PUT, its data (05 R222, R223). -/
structure Element where
  address : BitVec 64
  length : BitVec 32
  reserved : BitVec 32
  deriving DecidableEq, Repr

/-- The end of a PUT's data transfer: the blocks read from host memory, or a DMA read that failed (05 R228, R255). -/
inductive DmaResult where
  | data (blocks : List Block)
  | failed
  deriving DecidableEq, Repr

/-- What probing found at one die position (12 R647, R648): nothing, a die that is rejected, or an accepted one with its
block count, pages per block and codewords per page C. -/
inductive DieProbe where
  | missing
  | rejected
  | accepted (blocks pages c : Nat)
  deriving DecidableEq, Repr

/-- What the hardware reports at the end of a BOOT step, beyond the step having ended (02 **BOOT steps**).
`firmware` says for each slot whether it verifies, with its version; `flash` gives the probe of the 16 die positions, whether
each of the two key-area copies is the newer one, and whether a channel trained below its best interface. -/
inductive BootReport where
  | done
  | firmware (aOk bOk : Bool) (aVersion bVersion : BitVec 32) (aReads bReads : Nat)
  | dram (gib : Nat)
  | flash (dies : List DieProbe) (interface : Nat) (rate : Nat) (downgraded : Bool) (badCopies : Nat)
  deriving DecidableEq, Repr

/-- The registers of a queue pair as the tenant has programmed them before Enable (05 R207, QSIZE, QCTRL). -/
structure QueueRegs where
  sqBase : BitVec 64
  cqBase : BitVec 64
  cqSize : BitVec 10
  sqSize : BitVec 10
  aggTime : BitVec 8
  vector : BitVec 5
  aggCount : BitVec 4
  irqEn : Bool
  deriving DecidableEq, Repr

/-- How a CSI-2 packet arrived (13 R715): intact, with a corrected header bit, with a bad CRC, or with an uncorrectable header. -/
inductive PacketCheck where
  | good | corrected | badCrc | badHeader
  deriving DecidableEq, Repr

/-- How a direct CCI transfer ended (13 R735). -/
inductive CciEnd where
  | ok (data : BitVec 32)
  | nack
  | timeout
  deriving DecidableEq, Repr

/-- A CAN FD error condition (04 R170). -/
inductive CanError where
  | errorPassive | busOff
  deriving DecidableEq, Repr

/-- What rate control made of a row: the bits of the frame, which count at its last row, and the row's QP; or that the frame would
overflow the buffer at QpMax (14 R790, R791). -/
inductive CodeResult where
  | coded (bits : Nat) (qp : Nat)
  | saturated
  deriving DecidableEq, Repr

/-- How the hardware's part of a window commit ended (04 R188, R192): the image verified and was written and read back, its
verification failed before anything was written, or the write or the read-back failed. -/
inductive CommitEnd where
  | written | rejected | failed
  deriving DecidableEq, Repr

/-- A 4:2:0 planar picture of 8-bit samples, row by row (13 R717). -/
structure Picture where
  y : List (List Nat)
  cb : List (List Nat)
  cr : List (List Nat)
  deriving DecidableEq, Repr, Inhabited

/-- A decoded picture in output order: its samples, whether decoding may begin at it, its picture order, and the timestamp of its
segment's metadata (14 R819). -/
structure Decoded where
  picture : Picture
  randomAccess : Bool
  order : BitVec 32
  time : BitVec 64
  deriving DecidableEq, Repr

/-- A rectangle of luma samples: left, top, width, height. -/
structure Area where
  x : Nat
  y : Nat
  w : Nat
  h : Nat
  deriving DecidableEq, Repr

/-- How the decoder's next picture came out, with the bytes of input read for it (14 R771, R818, R820): whole; with the areas of
slices that failed; or a stop with error code 1 or 2. -/
inductive DecodeResult where
  | picture (p : Decoded) (read : Nat) (last : Bool)
  | concealed (p : Decoded) (failed : List Area) (read : Nat) (last : Bool)
  | stop (code : Fin 2)
  deriving DecidableEq, Repr

/-- The commands, one for each row of spec/opcode_table.json in its order. -/
inductive Instr where
  -- islands, time, samples
  | dictionaryWrite (p : Session) (index : BitVec 16) (sub : BitVec 8) (data : List Byte)
  | islandHandshakeTimeout (p : Session) (index : BitVec 16) (sub : BitVec 8) (data : List Byte)
  | islandRestart (i : Island)
  | egPublication
  | estimatorStale
  | crystalFail
  | wallClockWrite (p : Session) (seconds : BitVec 32) (fraction : BitVec 16)
  | sample (c : Channel) (mv : Nat) (ma : Int) (dt : Int)
  -- life cycle
  | vkeepCollapse (tornKeep tornStore : Bool)
  | vkeepRise (wakeHigh : Bool)
  | wake
  | bootStepComplete (r : BootReport)
  | bootStepTimeout
  | inputQualifyTimeout
  | firmwareRestart (p : Session)
  | coldRestart (p : Session)
  | clearHalt (p : Session)
  | sleepRequest (p : Session)
  | watchdogExpiry
  | trialConfirm
  | restoreProgressUpdate
  | restoreComplete
  | onDemandFetchComplete (id : Nat) (r : ReadResult) (eccBad : Option Nat)
  -- the dictionary
  | encryptionWrite (p : Session) (v : Byte)
  | expertOpen (p : Session) (code : BitVec 32)
  | expertClose (p : Session)
  | expertIdleTimeout
  | expertLockoutEnd
  | expertCodeWrite (p : Session) (code : BitVec 32)
  | configLockWrite (p : Session) (v : Byte)
  | storeAll (p : Session) (sig : BitVec 32)
  | storeCommunication (p : Session) (sig : BitVec 32)
  | storeApplication (p : Session) (sig : BitVec 32)
  | storeComplete (ok : Bool)
  | restoreDefaultsAll (p : Session) (sig : BitVec 32)
  | nmtStart (node : Fin 128)
  | nmtStop (node : Fin 128)
  | nmtEnterPreOperational (node : Fin 128)
  | nmtResetNode (node : Fin 128)
  | nmtResetCommunication (node : Fin 128)
  | usdoRequest (client : Fin 128) (req : UsdoReq)
  | heartbeat
  | tpdoTransmit (k : Fin 4)
  | mbxRead (fn : Fin 16) (irqEn : Bool) (tag : Byte) (index : BitVec 16) (sub : BitVec 8) (len : BitVec 9)
  | mbxWrite (fn : Fin 16) (irqEn : Bool) (tag : Byte) (index : BitVec 16) (sub : BitVec 8) (data : List Byte)
  | mbxNextEntry (fn : Fin 16) (irqEn : Bool) (tag : Byte) (index : BitVec 16) (sub : BitVec 8)
  | windowOpenRead (p : Session) (w : Fin 7)
  | windowOpenWrite (p : Session) (w : Fin 7)
  | windowDataRead (p : Session) (w : Fin 7) (len : Nat)
  | windowDataWrite (p : Session) (w : Fin 7) (data : List Byte)
  | windowCommit (p : Session) (w : Fin 7)
  | windowCommitComplete (w : Fin 7) (r : CommitEnd)
  | windowAbort (p : Session) (w : Fin 7)
  | windowIdleTimeout (w : Fin 7)
  -- the host port
  | functionLevelReset (fn : Fin 16)
  | vfEnableClear
  | linkUp (speed : Nat) (width : Nat) (vfs : Nat)
  | linkDown
  | hotReset
  | busMasterEnable (fn : Fin 16) (mps mrrs : Nat)
  | queueEnable (fn : Fin 16) (qp : Fin 4) (regs : QueueRegs)
  | queueDisable (fn : Fin 16) (qp : Fin 4)
  | queueReadyFall (fn : Fin 16) (qp : Fin 4)
  | sqTailDoorbell (fn : Fin 16) (qp : Fin 4) (value : BitVec 32)
  | cqHeadDoorbell (fn : Fin 16) (qp : Fin 4) (value : BitVec 32)
  | commandFetch (results : List FetchResult)
  | put (id : Nat) (elems : Option (List Element))
  | putApply (id : Nat) (r : DmaResult)
  | get (id : Nat) (elems : Option (List Element)) (eccBad : Option Nat)
  | clean (id : Nat)
  | drop (id : Nat)
  | list (id : Nat) (elems : Option (List Element))
  | fence (id : Nat)
  | fenceComplete (id : Nat)
  | segmentRead (id : Nat) (elems : Option (List Element)) (eccBad : Option Nat)
  | completionPost (fn : Fin 16) (qp : Fin 4)
  | irqAggTimer (fn : Fin 16) (qp : Fin 4)
  -- energy store and admission
  | ebyteReset (p : Session)
  | channelRemoved (c : Channel)
  | channelConfigWrite (p : Session) (index : BitVec 16) (sub : BitVec 8) (data : List Byte)
  | endOfCharge (c : Channel)
  | prechargeTimeout
  | chargerOvercurrent (c : Channel)
  | chargerStuckOn (c : Channel)
  | overcharge (c : Channel)
  | channelClearFault (p : Session) (c : Channel)
  | chargeTargetReached (c : Channel)
  | cellImbalance
  | inputSag
  | sagCleared
  | holdUpFault
  | holdUpRecovered
  -- the estimator
  | precisionReached
  | endOfDischarge (c : Channel)
  | ocvRelaxed (c : Channel)
  | impedanceSample (c : Channel) (dmv : Int) (dma : Int)
  | geyserDue (c : Channel)
  | geyserStart (c : Channel)
  | geyserRequestStart (p : Session) (c : Channel)
  | geyserRequestAbort (p : Session) (c : Channel)
  | channelReset (p : Session) (c : Channel)
  | snapshotHourly
  -- rails
  | scanSlot (reading : Int)
  | railWarning (r : Fin 12)
  | railCleared (r : Fin 12)
  | railFaultTime (r : Fin 12)
  | rampLagTrip (g : Fin 8) (lagMv : Nat)
  | rampEnd (g : Fin 8) (lagMv : Nat)
  | rampTimeout (g : Fin 8) (lagMv : Nat)
  | railGood (r : Fin 12)
  | railGoodTimeout (r : Fin 12)
  | upStepDelay
  | downStepEnd
  | downStepTimeout
  | enableGood
  | enableTimeout
  | railMask (p : Session) (r : Fin 12) (v : Byte)
  | railSwitchOff (p : Session) (r : Fin 12)
  | railSwitchOn (p : Session) (r : Fin 12)
  | resetRelease (k : Fin 4)
  | resetPulse (p : Session) (k : Fin 4)
  | trimTargetWrite (p : Session) (t : Fin 4) (v : BitVec 16)
  | trimTargetReached (t : Fin 4)
  | keepStoreWrite
  -- the Tremor line
  | tremorAdvance
  | tremorRelease
  | tremorLineFall
  | tremorReset
  | tremorDownRequest
  | tremorSendDownRequest
  | tremorSendReset
  | tremorBootHold
  | gatherWaiting
  | tremorStepTimeout
  | tremorWireFault
  -- the outage path
  | inputFail
  | supervisorLedOutage
  | drainPoint
  | warnWindowEnd
  | drvactLow (k : Fin 2)
  | driveActiveStuck
  | driveSettleEnd
  | sinterDeadlineExpiry
  | simmerTimerExpiry
  | deadlineAckTimeout
  | sinterCopyComplete (energyMj durationMs : Nat)
  | manifestCommitted
  | powerReturn
  | keepTimeExpiry
  | keepFloorReached
  -- flash and the image
  | programFail (die : Fin 16)
  | eraseFail (die : Fin 16)
  | dieCommandTimeout (die : Fin 16)
  | backgroundErase (die : Fin 16)
  | imageRelease
  | releaseRequest (p : Session)
  | dieRetire (p : Session) (die : Fin 16)
  | dieReturn (p : Session) (die : Fin 16) (answers : Bool)
  | probationBlockVerified (die : Fin 16) (ok : Bool)
  | sanitize (p : Session) (v : Byte)
  | sanitizeComplete
  -- capture
  | frameStart (port : Fin 4) (vc : Fin 4)
  | longPacket (port : Fin 4) (vc : Fin 4) (dataType : BitVec 6) (data : List Byte) (check : PacketCheck)
  | frameEnd (port : Fin 4) (vc : Fin 4)
  | clockLaneLost (port : Fin 4)
  | clockLaneUp (port : Fin 4) (laneRate : Nat)
  | exposureCommit (p : Session) (n : Fin 16)
  | exposureClear (p : Session) (n : Fin 16)
  | cciBurstComplete (port : Fin 4)
  | cciNack (port : Fin 4)
  | cciBusStuck (port : Fin 4)
  | cciDirectWrite (p : Session) (n : Fin 16)
  | cciDirectRead (p : Session) (n : Fin 16)
  | tickToleranceExpiry (n : Fin 16)
  -- video coding
  | pixelRowComplete (n : Fin 16) (ringFill : Nat) (r : CodeResult)
  | syntaxRingCleared (ringFill : Nat)
  | liveSliceWrite (n : Fin 16) (nal : List Byte) (consumer : BitVec 64)
  | forceIdr (p : Session) (n : Fin 16)
  | segmentFlush (n : Fin 16)
  | decodeOpen (p : Session) (d : Fin 2)
  | decodeClose (p : Session) (d : Fin 2)
  | decodeEndOfInput (p : Session) (d : Fin 2)
  | decodePictureOutput (d : Fin 2) (r : DecodeResult)
  -- events
  | eventVectorRaise (fn : Fin 16)
  | eventAcknowledge (p : Session) (bank : Fin 28) (bits : BitVec 64)
  | clearLog (p : Session)
  | emcyTransmit
  -- CAN, and ends of background work
  | canErrorPassiveOrBusOff (e : CanError)
  | preSinterPageProgrammed
  | backgroundRestoreRead (r : ReadResult)
  | recordingFrameEncoded (n : Fin 16) (nal : List Byte)
  | cciDirectTransferDone (n : Fin 16) (e : CciEnd)
  deriving DecidableEq, Repr

end Sys2Proof
end

