-- ==== Sys2Proof/Decode.lean ====
section
/-! DEFINITION. The commands a word spells. The opcode table gives no row any bits: a command reaches the controller as a dictionary
request, a register access, a queue entry, a message or an event of its surroundings, and no word of the table spells one. -/

namespace Sys2Proof

/-- No row of the table has bits, so no word spells a command (log 100). -/
def decodeTableWord (_nbits _w : Nat) : Option Instr := none

end Sys2Proof
end

