-- ==== Sys2Proof/Machine/State.lean ====
section
/-! DEFINITION. The state of the controller, all of it plain data, and `State.reset`: the controller in OFF, before VKEEP first
rises. Each field's docstring reads: meaning | width | rule | reset. Counters are natural numbers, read through the dictionary
modulo their entry's width. -/

namespace Sys2Proof.Machine

/-- A finite map from natural numbers, as a list of pairs with strictly rising keys. What a key that is not listed stands for is
said where the map is used. -/
abbrev SMap (α : Type) := List (Nat × α)

/-- Why a step can stop the machine. No command of this model raises one: every row has an effect in every state.
`outsideGuarantee` is kept for an access outside every limit of the manual; nobody raises it (it would be safe). -/
inductive Fault where
  | outsideGuarantee
  deriving DecidableEq, Repr

/-- Why a step can be refused. `notModelled` is raised by no arm of this model once every row has its meaning (it would be safe). -/
inductive Refusal where
  | notModelled (mnemonic : String)
  deriving DecidableEq, Repr

/-- Device states, codes 0 to 9 in this order (02 R53). -/
inductive DevState where
  | off | sleep | boot | restore | serve | warn | simmer | sinter | keep | halt
  deriving DecidableEq, Repr

/-- The state of an island as `2101h` codes it: 0 stopped, 1 starting, 2 running, 3 fault (01 Time and island entries). -/
inductive IslandRun where
  | stopped | starting | running | fault
  deriving DecidableEq, Repr

/-- Causes named by the rules for which the manual gives no code (02 R66 and others); their codes are `Config.causeCode`. -/
inductive Cause where
  | wake | vkeep | inputFail | powerReturn | fatalFault | request | watchdog | timer | completion | bootFailure
  | idrFirst | idrRejoin | idrSegment | idrForced | idrOverflow
  | closeDuration | closeSize | closeStop | closeClass | closePause | closeSinter | closeBoot
  | pauseThrottled | pauseNotProtected | pauseStaging | pauseNoSpace
  | streamDisabled | streamState | decodeRequest | decodeEnd
  | learnCharge | learnTemperature | learnSleep | learnAborted | learnFlat | learnAccepted | learnQuarantined | sanitize | sticky
  deriving DecidableEq, Repr

/-! ### Time, islands, life cycle -/

structure Time where
  /-- microseconds since `State.reset`, the model's own clock for spans between commands | Nat | model | 0 -/
  now : Nat
  /-- `2100h:01 TimeBase`, µs since the start of BOOT | 64 | 01 R37, R38 | 0 -/
  timeBase : Nat
  /-- `2100h:04 TimeSource` reads 1 (RC) | 1 | 01 R40 | false -/
  onRc : Bool
  /-- the wall clock has been set | 1 | 08 R440, 09 R530 | false -/
  wallSet : Bool
  /-- wall clock in 1/65,536 µs: `2100h:02`, `:03` | 48 (32 + 16) | 01 R45 | 0 -/
  wall : Nat
  /-- powered time, µs | 64 | 08 R428 | 0 -/
  powered : Nat
  deriving DecidableEq, Repr

structure Islands where
  /-- `2101h:01` to `:0B IslandState` | 11 × 2 | 01 R46 | stopped -/
  run : Vector IslandRun 11
  /-- values written to CONTROL and not yet in the island: key and the value the island still holds | map | 01 R23, R27 | [] -/
  undelivered : SMap Nat
  /-- values delivered as an island started whose effects inside it are still to be set off: key and the value it had | map |
  01 R26, R27 | [] -/
  handed : SMap Nat
  /-- commands written to entries of an island that was stopped or in fault, oldest first: key and value | list | 01 R27, R29 | [] -/
  waiting : List (Nat × Nat)
  /-- time of the latest handshake timeout of each island | 11 × Nat | 01 R31 | none -/
  lastTimeout : Vector (Option Nat) 11
  deriving DecidableEq, Repr

/-- Facts fixed at manufacture or found on the board (04 R157): read-only entries whose value the manual leaves to the part. -/
structure Factory where
  /-- `2000h:03 Grade`: true is E | 1 | 04 R157 | false, DESIGN CHOICE -/
  gradeE : Bool
  /-- `2000h:04 SiliconRevision` | 16 | 04 R157 | 0, DESIGN CHOICE -/
  siliconRevision : Nat
  /-- `2000h:06 SerialNumber`, 16 characters | 128 | 04 R157 | zeros, DESIGN CHOICE -/
  serial : List Byte
  /-- `1018h:01` to `:04` | 4 × 32 | 04 Communication entries | zeros, DESIGN CHOICE -/
  ids : List Nat
  deriving DecidableEq, Repr

/-- How the present BOOT runs (02 R68, R75, R80). -/
inductive BootKind where
  | none
  | cold
  | warm (back : DevState)
  deriving DecidableEq, Repr

structure Life where
  /-- `2010h:01 DeviceState` | 4 | 02 R53 | off -/
  dev : DevState
  /-- `2010h:02 PreviousState` | 4 | 02 R66 | off, DESIGN CHOICE -/
  prev : DevState
  /-- `2010h:03 StateEntryTime` | 64 | 02 R66 | 0, DESIGN CHOICE -/
  entryTime : Nat
  /-- model clock at the latest state entry | Nat | 01 R51, model | 0 -/
  enteredAt : Nat
  /-- `2010h:04 LastResetCause` | 8 | 02 R109 | 0 -/
  resetCause : Nat
  /-- `2010h:05 BootCount` | 32 | 02 R112 | 0 -/
  bootCount : Nat
  /-- `2010h:06 HaltCause` | 16 | 02 R104 | 0 -/
  haltCause : Nat
  /-- `2010h:07 HaltRepeatCount` | 8 | 02 R107 | 0 -/
  haltRepeat : Nat
  /-- the kind of BOOT that runs | - | 02 R68, R75 | none -/
  boot : BootKind
  /-- an outage-path firmware restart runs: steps 6, 7 and 12 beside the outage path | 1 | 02 R80 | false -/
  restarting : Bool
  /-- `2102h:02 BootStep`, the highest step started | 4 | 02 R68 | 1 -/
  bootStep : Nat
  /-- step 2, which runs alongside the others, has ended in this BOOT | 1 | 02 R68 | false -/
  step2Done : Bool
  /-- model clock at the start of BOOT | Nat | 02 R68 | 0 -/
  bootAt : Nat
  /-- model clock at the latest end of step 7 | Nat | 01 R51 | 0 -/
  configuredAt : Nat
  /-- the chosen firmware slot did not load in this BOOT, and the other one is tried | 1 | 02 R68, R86 | false -/
  otherSlot : Bool
  /-- that slot was a trial slot, whose trial is cancelled | 1 | 02 R86 | false -/
  otherTrial : Bool
  /-- the estimators hold a state of charge: step 7 has started them in this run of SUPERVISOR | 1 | 08 R438 | false -/
  socKnown : Bool
  /-- a critical die temperature in HALT: the enables are released when the down walk ends | 1 | 02 R61 | false -/
  dieHot : Bool
  /-- `2102h:03 BootDuration` | 32 | 02 R68 | 0 -/
  bootDuration : Nat
  /-- BringUpFlags bit 6 ImageAbsent | 1 | 02 R114 | false -/
  imageAbsent : Bool
  /-- BringUpFlags bit 5 WarmBoot | 1 | 02 R114 | false -/
  warmBoot : Bool
  /-- BringUpFlags bit 4 FirmwareFallback | 1 | 02 R114 | false -/
  fwFallback : Bool
  /-- BringUpFlags bit 3 FirmwareTrial | 1 | 02 R114 | false -/
  fwTrial : Bool
  /-- BringUpFlags bit 1 EstimatorConservative | 1 | 02 R114 | true -/
  estConservative : Bool
  /-- BringUpFlags bit 0 ScannerReduced | 1 | 02 R114 | true -/
  scanReduced : Bool
  /-- times of the watchdog expiries of the last 10 min | list | 02 R79 | [] -/
  watchdogTimes : List Nat
  /-- the outage path was started by, or met, a fatal fault and ends in HALT | 1 | 02 R57, R60 | false -/
  fatalPath : Bool
  /-- the outage began in RESTORE and the restore is not complete | 1 | 02 R64 | false -/
  fromRestore : Bool
  /-- HALT is held by SUPERVISOR alone | 1 | 09 R474, 02 R61 | false -/
  supervisorHalt : Bool
  /-- the HALT cause to enter when the down walk of a failed BOOT ends, 0 none | 16 | 02 R58, 09 R485 | 0 -/
  haltPending : Nat
  /-- what follows the down walk of a request: 2 cold BOOT, 4 SLEEP, 0 none | 8 | 02 R108 | 0 -/
  afterDown : Nat
  /-- WAKE_N reads high | 1 | 02 R54, R101 | true -/
  wakeHigh : Bool
  /-- a qualified WAKE_N edge fell during SLEEP entry | 1 | 02 R100 | false -/
  wakeHeld : Bool
  /-- `2012h:01 ActiveFirmwareSlot`: true is B | 1 | 02 R84 | false -/
  activeB : Bool
  /-- the slot the running firmware came from: true is B | 1 | 02 R81 | false -/
  runningB : Bool
  /-- `2012h:02 TrialState` 0 none, 1 pending, 2 running | 2 | 02 R71a | 0 -/
  trialState : Nat
  /-- TrialBootsUsed | 8 | 02 R82 | 0 -/
  trialUsed : Nat
  /-- `2000h:05 FirmwareVersion` of the running image | 32 | 04 R157 | 0, DESIGN CHOICE -/
  fwVersion : BitVec 32
  /-- highest manifest format the running firmware reads | 8 | 12 R674 | 1 -/
  fwReads : Nat
  /-- `2000h:07 DramSize`, GiB, 0 before detection | 8 | 04 R157 | 0, DESIGN CHOICE -/
  dramGib : Nat
  /-- model clock of the latest wake from SLEEP or OFF | Nat | 08 R445 | none -/
  wokeAt : Option Nat
  /-- DRAM is in self-refresh | 1 | 02 R75, 11 R611 | false -/
  selfRefresh : Bool
  /-- DRAM contents are lost (never trained, or a memory rail fell) | 1 | 02 R109, 09 R496 | true -/
  dramLost : Bool
  /-- the parts beside the controller | - | 04 R157 | see Factory -/
  factory : Factory
  deriving DecidableEq, Repr

/-! ### Modes, dictionary, transports -/

structure Modes where
  /-- `2020h:01 EnergyFit` as last reported | 2 | 03 R115 | 0, DESIGN CHOICE -/
  fit : Nat
  /-- `2020h:04 GroupRole` | 1 | 10 R561 | 0 -/
  group : Nat
  /-- `2020h:07 HostAttach` | 1 | 03 R116 | 1 -/
  host : Nat
  /-- `2020h:03 GeyserActivity` | 1 | 03 R115 | 0 -/
  geyser : Nat
  /-- `2020h:09 OutagePolicyEffective` as last reported | 2 | 03 R120 | 1, DESIGN CHOICE -/
  outageEff : Nat
  /-- the policy in force for the outage that runs | 2 | 03 R118 | 1, DESIGN CHOICE -/
  outageInForce : Nat
  /-- `3010h:03 CachePolicyEffective` of each tenant as last reported | 16 × 2 | 03 R120 | 0, DESIGN CHOICE -/
  policyEff : Vector Nat 16
  /-- `2020h:05 VideoMode` taken at BOOT step 9 for the DRAM layout | 2 | 06 R280, R281 | 1 -/
  videoAtBoot : Nat
  /-- the holder of the expert session | - | 03 R124, R126 | none -/
  expert : Option Session
  /-- model clock of the holder's latest request | Nat | 03 R128 | 0 -/
  expertLast : Nat
  /-- times of the refused ExpertOpen writes of the last 10 min | list | 04 R161 | [] -/
  expertRefusals : List Nat
  /-- end of the ExpertOpen lockout on the model clock | Nat | 04 R161 | none -/
  lockoutEnd : Option Nat
  /-- `2030h:01 ConfigLock` reads 1 | 1 | 04 R143 | false -/
  lock : Bool
  deriving DecidableEq, Repr

/-- Which entries a store saves (04 R146), or that the saved configuration is marked void (04 R147). -/
inductive StoreKind where
  | all | communication | application
  deriving DecidableEq, Repr

/-- One configuration copy in SPI NOR (04 R149): its CRC verdict, sequence and the saved values that are not at default. -/
structure NorCopy where
  /-- magic and CRC-32 hold | 1 | 04 R149 | false -/
  valid : Bool
  /-- sequence number | 32 | 04 R149 | 0 -/
  seq : Nat
  /-- marked void by RestoreDefaultsAll | 1 | 04 R147 | false -/
  void : Bool
  /-- saved values of P entries that differ from their default | map | 04 R146 | [] -/
  values : SMap Nat
  deriving DecidableEq, Repr

/-- One firmware slot of 8 MiB (02 section 5, 04 R192). -/
structure FwSlot where
  /-- image bytes | up to 8 MiB | 04 R192 | [] -/
  image : List Byte
  /-- the slot holds no partly written image | 1 | 04 R192 | true, DESIGN CHOICE -/
  whole : Bool
  deriving DecidableEq, Repr

structure Nor where
  /-- configuration copies at 0x0100_0000 and 0x0101_0000 | 2 | 04 R152 | invalid -/
  copyA : NorCopy
  copyB : NorCopy
  /-- firmware slots A and B | 2 × 8 MiB | 04 R152 | empty, DESIGN CHOICE -/
  slotA : FwSlot
  slotB : FwSlot
  /-- a store that is being written: what, and who asked | - | 04 R150 | none -/
  storing : Option (StoreKind × Session)
  /-- `2030h:02 StoreState` | 2 | 04 R157 | 0 -/
  storeState : Nat
  /-- `2030h:03 StoreCount` | 32 | 04 R157 | 0 -/
  storeCount : Nat
  /-- StepDelay and EnableTimeout for step 4, copied at the store command | 2 × 16 | 09 R471 | 1, 5 -/
  stepDelay4 : Nat
  enableTimeout4 : Nat
  deriving DecidableEq, Repr

structure Dict where
  /-- the values CONTROL holds of writable entries, at default where not listed | map | 01 section 3, 04 R132 | [] -/
  values : SMap Nat
  /-- `2C00h:10 AccessRefusals` for mailbox sessions | 16 × 32 | 04 R198 | 0 -/
  refusedMbx : Vector Nat 16
  /-- the same for USDO client nodes | 128 × 32 | 04 R198 | 0 -/
  refusedUsdo : Vector Nat 128
  deriving DecidableEq, Repr

/-- NMT states of the CAN FD node (04 R163). -/
inductive Nmt where
  | initialising | preOperational | operational | stopped
  deriving DecidableEq, Repr

structure Tpdo where
  /-- the mapped values of the latest transmission | 16 bytes | 04 R168 | [] -/
  last : List Byte
  /-- model clock of the latest transmission | Nat | 04 R168 | none -/
  sentAt : Option Nat
  deriving DecidableEq, Repr

structure Can where
  /-- NMT state | 2 | 04 R163 | initialising -/
  nmt : Nmt
  /-- node-ID in force | 7 | 04 R158 | 32 -/
  node : Nat
  /-- arbitration and data rates in force, kbit/s | 2 × 16 | 04 R158 | 500, 2,000 -/
  arbRate : Nat
  dataRate : Nat
  /-- error-passive or bus-off since the last NMT reset | 1 | 04 R170 | false -/
  errorSeen : Bool
  /-- USDO clients whose request (a store) is not answered yet | list | 04 R165 | [] -/
  busy : List (Fin 128)
  /-- EMCY queue, 32 messages of 16 bytes, oldest first | 32 × 128 | 15 R852 | [] -/
  emcy : List (List Byte)
  /-- `2C00h:04 EmcyDroppedCount` | 32 | 15 R852 | 0 -/
  emcyDropped : Nat
  /-- a message has been dropped since the latest sent one | 1 | 15 R852 | false -/
  emcyDropSeen : Bool
  /-- TPDO1 to TPDO4 | 4 | 04 R168 | unsent -/
  tpdo : Vector Tpdo 4
  deriving DecidableEq, Repr

/-- One function's mailbox (04 R171). -/
structure Mbx where
  /-- MBX_ADDR | 32 | 04 R171 | 0 -/
  addr : BitVec 32
  /-- MBX_LEN | 9 | 04 R171 | 0 -/
  len : BitVec 9
  /-- MBX_CTRL Go | 1 | 04 R171 | false -/
  go : Bool
  /-- MBX_CTRL Tag | 8 | 04 R171 | 0 -/
  tag : Byte
  /-- MBX_CTRL Op | 2 | 04 R171 | 0 -/
  op : BitVec 2
  /-- MBX_STATUS Done | 1 | 04 R171 | false -/
  done : Bool
  /-- MBX_STATUS Result | 3 | 04 R171 | 0 -/
  result : BitVec 3
  /-- MBX_STATUS Tag | 8 | 04 R171 | 0 -/
  statusTag : Byte
  /-- MBX_STATUS Length | 9 | 04 R171 | 0 -/
  statusLen : BitVec 9
  /-- MBX_ABORT | 32 | 04 R171 | 0 -/
  abort : BitVec 32
  /-- MBX_IRQ DoneIrqEn | 1 | 04 R171 | false -/
  irqEn : Bool
  /-- MBX_DATA, bytes from offset 0x100, zero beyond the list | 256 bytes | 04 R171 | [] -/
  data : List Byte
  deriving DecidableEq, Repr

/-- One data window (04 R179). -/
structure Win where
  /-- Target | 32 | 04 Window sub-entries | 0 -/
  target : Nat
  /-- Offset | 32 | 04 | 0 -/
  offset : Nat
  /-- Length | 32 | 04 | 0 -/
  length : Nat
  /-- Status 0 to 5 | 3 | 04 | 0 -/
  status : Nat
  /-- Crc | 32 | 04 | 0 -/
  crc : BitVec 32
  /-- Owner | 8 | 04 | none -/
  owner : Option Session
  /-- the snapshot of an open read or the staging buffer of an open write | Length bytes | 04 R180, R181 | [] -/
  buf : List Byte
  /-- the buffer is a staging buffer, which a refused commit keeps open | 1 | 04 R187 | false -/
  writing : Bool
  /-- model clock of the Owner's latest access | Nat | 04 R190 | 0 -/
  lastAccess : Nat
  deriving DecidableEq, Repr

/-! ### Host port and cache -/

/-- A completion that waits for its queue (05 R224). -/
structure Completion where
  result : BitVec 64
  commandId : BitVec 16
  status : Byte
  detail : Byte
  sqHead : BitVec 16
  segmentEnd : Bool
  notProtected : Bool
  onDemand : Bool
  deriving DecidableEq, Repr

/-- One queue pair (05 R207 to R220). -/
structure Pair where
  /-- SQ_BASE | 64 | 05 R207 | 0 -/
  sqBase : BitVec 64
  /-- CQ_BASE | 64 | 05 R207 | 0 -/
  cqBase : BitVec 64
  /-- QSIZE SqSize, CqSize (entries minus 1) | 2 × 10 | 05 R207 | 0 -/
  sqSize : BitVec 10
  cqSize : BitVec 10
  /-- QCTRL Enable | 1 | 05 R207 | false -/
  enable : Bool
  /-- QCTRL AggTime, Vector, AggCount, IrqEn | 8, 5, 4, 1 | 05 R207 | 0 -/
  aggTime : BitVec 8
  vector : BitVec 5
  aggCount : BitVec 4
  irqEn : Bool
  /-- QSTATUS Ready | 1 | 05 R207 | false -/
  ready : Bool
  /-- QSTATUS Fault | 1 | 05 R207 | false -/
  fault : Bool
  /-- QSTATUS ErrorCode | 8 | 05 R207 | 0 -/
  error : Byte
  /-- submission head, the next entry to fetch | 10 | 05 R209 | 0 -/
  sqHead : Nat
  /-- SQ_TAIL as taken | 10 | 05 R212 | 0 -/
  sqTail : Nat
  /-- doorbell writes recorded while nothing may be fetched, oldest first: true is CQ_HEAD | list | 02 R76, 05 R204 | [] -/
  recorded : List (Bool × BitVec 32)
  /-- CQ_HEAD as taken | 10 | 05 R212 | 0 -/
  cqHead : Nat
  /-- next completion entry to write | 10 | 05 R209 | 0 -/
  cqTail : Nat
  /-- Phase of the present pass | 1 | 05 R210 | true -/
  phase : Bool
  /-- completions that wait to be posted, oldest first | list | 05 R217 | [] -/
  waiting : List Completion
  /-- posted completions not yet signalled | Nat | 05 R220 | 0 -/
  unsignalled : Nat
  deriving DecidableEq, Repr

/-- What a fetched command is doing (05 R218, R228, R244). -/
inductive Stage where
  | fetched
  | transferring
  | fencing
  | fetching
  deriving DecidableEq, Repr

/-- A fetched command that has not completed. -/
structure Cmd where
  /-- its place in the total fetch order | Nat | 05 R249 | - -/
  id : Nat
  fn : Fin 16
  qp : Fin 4
  sqe : BitVec 512
  /-- submission head after its fetch | 10 | 05 R224 | - -/
  sqHead : Nat
  stage : Stage
  /-- the tenant was write-back at the PUT's check | 1 | 06 R288 | false -/
  protect : Bool
  /-- slots charged at the check of this PUT and not yet applied | Nat | 06 R301 | 0 -/
  charged : Nat
  /-- slots taken for this PUT and not yet written | Nat | 06 R285 | 0 -/
  slots : Nat
  /-- on-demand fetches still to come, as slot numbers | list | 02 R90 | [] -/
  fetches : List Nat
  /-- element list kept for the end of an on-demand GET | list | 05 R222 | [] -/
  elems : List Element
  deriving DecidableEq, Repr

structure Func where
  /-- Bus Master Enable | 1 | 05 R204 | false -/
  bme : Bool
  /-- the function is enabled (PF0 always, a VF while VF Enable covers it) | 1 | 05 R201, 04 R197 | false -/
  enabled : Bool
  /-- Max_Payload_Size and Max_Read_Request_Size, bytes | 3, 3 | 05 R203 | 128 and 512, PRESUMED (PCIe) -/
  mps : Nat
  mrrs : Nat
  /-- the queue pair whose transfer had the latest turn | 2 | 05 R275 | 3, DESIGN CHOICE -/
  lastQp : Fin 4
  /-- MSI-X table, 32 entries of 16 bytes | 32 × 128 | 05 R206 | zeros -/
  msix : List (BitVec 128)
  /-- MSI-X pending bit array | 32 | 05 R206 | 0 -/
  pba : BitVec 32
  /-- queue pairs 0 to 3 | 4 | 05 R207 | - -/
  pairs : Vector Pair 4
  deriving DecidableEq, Repr

structure Port where
  /-- `2200h:01 LinkState` | 2 | 05 R200 | 0 -/
  linkState : Nat
  /-- `2200h:02 LinkSpeed` | 2 | 05 R200 | 0 -/
  linkSpeed : Nat
  /-- `2200h:03 LinkWidth` | 3 | 05 R200 | 0 -/
  linkWidth : Nat
  /-- `2200h:05 VfsEnabled` | 4 | 05 R201 | 0 -/
  vfs : Nat
  /-- the port is ready to train (step 11 of a BOOT, or the host rails back) | 1 | 02 R71, 09 R506 | false -/
  ready : Bool
  /-- the sixteen functions | 16 | 05 R201 | - -/
  fns : Vector Func 16
  /-- fetched commands in fetch order | list | 05 R249 | [] -/
  cmds : List Cmd
  /-- commands fetched so far | Nat | 05 R249 | 0 -/
  fetched : Nat
  /-- the function whose transfer had the latest turn | 4 | 05 R275 | 15, DESIGN CHOICE -/
  lastFn : Fin 16
  /-- commands fetched before the latest fetch cycle | Nat | 05 R249, 06 R293 | 0 -/
  cycleFrom : Nat
  /-- fetching has stopped at the end of the warn window | 1 | 11 R588 | false -/
  fetchStopped : Bool
  deriving DecidableEq, Repr

/-- One slot and its directory entry (06 R282). -/
structure Slot where
  lba : Nat
  handle : Nat
  tenant : Fin 16
  seq : Nat
  dirty : Bool
  frozen : Bool
  copyValid : Bool
  unrestored : Bool
  fromImage : Bool
  recording : Bool
  /-- the image copy could not be recovered | 1 | 02 R94 | false -/
  lost : Bool
  data : Block
  /-- stamp of the latest use | Nat | 06 R285 | - -/
  used : Nat
  /-- the block's image copy, as (epoch, ordinal) | - | 12 R666 | none -/
  copy : Option (Nat × Nat)
  deriving DecidableEq, Repr

structure Tenant where
  /-- the write sequence counter, last number given | 56 | 05 R234 | 0 -/
  writeSeq : Nat
  /-- the tenant's slots are frozen | 1 | 05 R267 | false -/
  frozen : Bool
  /-- forced to write-through | 1 | 06 R313 | false -/
  forced : Bool
  /-- `3020h:02 CommandsCompleted` | 64 | 05 | 0 -/
  completed : Nat
  /-- `3020h:03 ThrottledCount` | 32 | 05 | 0 -/
  throttled : Nat
  /-- `3020h:06 OnDemandGets` | 32 | 05 R262 | 0 -/
  onDemand : Nat
  /-- the latest PUT that ended did so with THROTTLED | 1 | 06 Admission events | false -/
  lastThrottled : Bool
  /-- `3030h:07 GuaranteedSlots` | 32 | 06 R302 | 0 -/
  guaranteed : Nat
  /-- slots charged for PUTs checked and not yet applied | Nat | 06 R301 | 0 -/
  reserved : Nat
  /-- `3040h:01 KeyGeneration` | 32 | 12 R702 | 0 -/
  keyGen : Nat
  /-- the tenant's wrapped key exists | 1 | 12 R699 | false -/
  hasKey : Bool
  /-- `3040h:02 SanitizedSlots` | 32 | 12 R682 | 0 -/
  sanitized : Nat
  /-- thawed since the latest recomputation: it does not borrow | 1 | 06 R333 | false -/
  thawed : Bool
  /-- volumes that cursors of LIST name, by the cursor's upper 16 bits | list | 05 R241 | [] -/
  listVolumes : List (BitVec 32)
  deriving DecidableEq, Repr

structure Cache where
  /-- slots in use by slot number; a slot that is not listed is free | map, 4 KiB each | 06 R280, R282 | [] -/
  slots : SMap Slot
  /-- volume handles: handle to tenant and volume | 4,096 | 06 R283 | [] -/
  handles : SMap (Fin 16 × BitVec 32)
  /-- `2400h:01 UsableSlots` | 32 | 06 R281 | 0, DESIGN CHOICE -/
  usable : Nat
  /-- the video tenant in force | 4 | 06 R292 | 15 -/
  videoTenant : Fin 16
  /-- the tenants | 16 | 06 | - -/
  tenants : Vector Tenant 16
  /-- use stamps given so far | Nat | 06 R285 | 0 -/
  stamp : Nat
  deriving DecidableEq, Repr

structure Adm where
  /-- `2410h:01 EgTotal` | 32 | 06 R294 | 0 -/
  egTotal : Nat
  /-- D_max numerator: D_max in GiB is this over `dmaxDen` | Nat | 06 R294 | 0 -/
  dmaxNum : Nat
  /-- D_max denominator | Nat | 06 R294 | 1 -/
  dmaxDen : Nat
  /-- `2410h:03 DirtyCeiling` | 32 | 06 R296 | 0 -/
  ceiling : Nat
  /-- `2410h:05 AdmissionStage` | 2 | 06 R318 | 3 -/
  stage : Nat
  /-- `2410h:06 PublicationSequence` | 32 | 01 R48 | 0 -/
  pubSeq : Nat
  /-- model clock of the latest publication | Nat | 01 R51 | none -/
  pubAt : Option Nat
  /-- admission holds D_max at 0 because publications stopped | 1 | 01 R51 | false -/
  stale : Bool
  /-- the image has a format this firmware does not read | 1 | 12 R674 | false -/
  formatHold : Bool
  /-- SinterSpace holds D_max down; fewer than 3 active dies do | 2 | 12 R688 | false -/
  flashHold : Bool
  dieHold : Bool
  /-- borrowing is stopped | 1 | 06 R310 | false -/
  borrowStopped : Bool
  /-- every write-back tenant is forced for the rest of a Geyser cycle | 1 | 06 R315 | false -/
  geyserForce : Bool
  /-- CeilingBelowDirty has been raised and the charge is not within the ceiling yet | 1 | 06 R319 | false -/
  belowDirty : Bool
  /-- `2420h:03 EByte`, mJ/GiB | 32 | 06 R320 | 6,000 -/
  eByte : Nat
  /-- EByte as it enters the recomputation | 32 | 06 R323 | 6,000 -/
  eByteInUse : Nat
  deriving DecidableEq, Repr

/-! ### Energy store and estimator -/

/-- Charge phases as `2501h:01` codes them, 0 to 8 (07 R345). -/
inductive Phase where
  | off | inhibited | precharge | constCurrent | constVoltage | complete | float | fault | assist
  deriving DecidableEq, Repr

/-- Which row of the PACK charge window holds (07 R349). -/
inductive TempZone where
  | below | cool | normal | warm | above
  deriving DecidableEq, Repr

structure Chan where
  /-- the channel counts as fitted | 1 | 07 R336 | false -/
  fitted : Bool
  /-- it was removed while the controller ran | 1 | 07 R337, 08 R448 | false -/
  wasRemoved : Bool
  /-- latest sample: voltage mV, current mA, temperature 0.1 °C | 16, 32, 16 | 08 R378 | 0, DESIGN CHOICE -/
  mv : Nat
  ma : Int
  dt : Int
  /-- CHGx_EN | 1 | 07 R342 | false -/
  enable : Bool
  /-- at end of charge, PACK only, until its voltage falls to the recharge level | 1 | 07 **Charge inhibits**, R352 | false -/
  full : Bool
  /-- ChargePhase | 4 | 07 R345 | off -/
  phase : Phase
  /-- InhibitCause bits 7:0 | 8 | 07 R342 | 0x01 -/
  inhibit : BitVec 8
  /-- ChargeTarget at the start of the present slew, mV | 16 | 07 R354 | 0 -/
  target : Nat
  /-- ChargeTargetFinal, mV | 16 | 07 R354 | 0 -/
  targetFinal : Nat
  /-- model clock at the start of the slew | Nat | 07 R354 | 0 -/
  slewAt : Nat
  /-- the target is slewing | 1 | 07 R354 | false -/
  slewing : Bool
  /-- IsetCode | 10 | 07 R344 | 0 -/
  iset : Nat
  /-- ChannelFault | 16 | 07 R358 | 0 -/
  fault : Nat
  /-- row of the charge window in force | - | 07 R349 | normal, DESIGN CHOICE -/
  zone : TempZone
  /-- model clock since which the taper condition holds | Nat | 07 R350 | none -/
  taperAt : Option Nat
  /-- consecutive samples above the overcharge level | 2 | 07 R360 | 0 -/
  overRun : Nat
  /-- consecutive samples at or below V_eod | 2 | 08 R399 | 0 -/
  eod : Nat
  /-- the channel's charge setpoint, mA | 16 | 07 R344 | 0 -/
  setpoint : Nat
  deriving DecidableEq, Repr

/-- A chemistry profile as loaded through `2E03h` (08 R386). Each list is one table; `params` is the 32-byte block. -/
structure Profile where
  chemistry : Nat
  ocv : List Nat
  capacity : List Nat
  impedance : List Nat
  counts : List Nat
  params : List Byte
  deriving DecidableEq, Repr

/-- One capacity learn result (08 R446). -/
structure Learn where
  value : Nat
  temp : Int
  powered : Nat
  outcome : Nat
  deriving DecidableEq, Repr

/-- A snapshot of a channel (08 R446): SoC and u_SoC in 0.01 %, temperature, wall clock, kind 0 hourly, 1 SLEEP, 2 KEEP. -/
structure Snap where
  socInt : Nat
  socRep : Nat
  uSoc : Nat
  temp : Int
  wallSet : Bool
  wall : Nat
  kind : Nat
  deriving DecidableEq, Repr

/-- GeyserState 0 to 4 (08 Estimator entries). -/
inductive Geyser where
  | idle | due | discharging | suspended | recharging
  deriving DecidableEq, Repr

structure Est where
  /-- internal SoC as a fraction of 1 | 16 (0.01 %) | 08 R390 | 0, DESIGN CHOICE -/
  socInt : Rat
  /-- reported SoC as a fraction of 1 | 16 (0.01 %) | 08 R394 | 0, DESIGN CHOICE -/
  socRep : Rat
  /-- reported SoC may not rise before the first relaxed reading | 1 | 08 R442 | false -/
  holdRep : Bool
  /-- reported SoC falls to 0 at 10 %/s | 1 | 08 R396 | false -/
  dropRep : Bool
  /-- u_cal | fraction | 08 R393 | 3/10, DESIGN CHOICE -/
  uCal : Rat
  /-- charge counted since the last calibration point, µAs | Nat | 08 R392 | 0 -/
  sinceCharge : Nat
  /-- model clock of the last calibration point | Nat | 08 R392 | 0 -/
  sinceAt : Nat
  /-- FCC: mAh (PACK) or mF per cell (BANK); none is the design value | 16, 32 | 08 R383 | none (design) -/
  fcc : Option Nat
  /-- quarantined value, 0 none | 16, 32 | 08 R413 | 0 -/
  quarantined : Nat
  /-- quarantines in a row without agreement | Nat | 08 R414 | 0 -/
  quarantines : Nat
  /-- powered time of the last accepted learn, s; none if never learned | 32 | 08 R429 | none -/
  learnedAt : Option Nat
  /-- the last four learn results, newest first | 4 | 08 R446 | [] -/
  history : List Learn
  /-- cycle count in 0.01 cycle | 32 | 08 R427 | 0 -/
  cycles : Nat
  /-- discharged charge not yet counted in a whole 0.01 cycle, µAs | Nat | 08 R427 | 0 -/
  cycleRest : Nat
  /-- learned impedance cells by band: value 0.1 mΩ and count; a cell not listed has no sample | 80 | 08 R406 | [] -/
  impedance : SMap (Nat × Nat)
  /-- consecutive discarded impedance samples | 4 | 08 R407 | 0 -/
  discards : Nat
  /-- the loaded profile; none is the default one | - | 08 R388 | none -/
  profile : Option Profile
  /-- a committed table that takes effect at the next publication | - | 08 R388 | none -/
  pendingProfile : Option Profile
  /-- CoulombCounter | 40 | 08 R381 | 0 -/
  counter : BitVec 40
  /-- profile mismatch | 1 | 08 R403 | false -/
  mismatch : Bool
  /-- waits for its first relaxed reading after Sleep | 1 | 08 R436 | false -/
  awaiting : Bool
  /-- the SoC lower edge is widened by 10 % until relaxation | 1 | 08 R443 | false -/
  widened : Bool
  /-- samples taken since calibration, up to 1,000 | 10 | 02 R72 | 0 -/
  samples : Nat
  /-- GuaranteedEnergy | 32 | 08 R433 | 0 -/
  eg : Nat
  /-- E_g is held at 0 from end of discharge until the channel charges | 1 | 08 R400 | false -/
  empty : Bool
  /-- currents of the last 10 s, newest first | 10,000 × 32 | 08 R390 | [] -/
  recent : List Int
  /-- discharge powers of the last 1 s, mW, newest first | 1,000 × 32 | 11 R618 | [] -/
  power : List Nat
  /-- model clock since which |I| is below C/100, and the voltage extremes of the last 5 min of it | - | 08 R402 | none -/
  restAt : Option Nat
  /-- voltage at the start of the present 5 min rest span and its clock | - | 08 R402 | 0 -/
  restMv : Nat
  restMvAt : Nat
  /-- a capacity learn runs | 1 | 08 R410 | false -/
  learning : Bool
  /-- its discharged charge and charge taken, µAs | 2 × 40 | 08 R410 | 0 -/
  learnOut : Nat
  learnIn : Nat
  /-- sum of its temperatures, sum of its discharge currents, samples, voltage at its start | - | 08 R411 | 0 -/
  learnTemp : Int
  learnRate : Nat
  learnCount : Nat
  learnMv : Nat
  /-- a temperature outside 10 to 40 °C was seen during it | 1 | 08 R410 | false -/
  learnHot : Bool
  /-- GeyserState | 3 | 08 R416 | idle -/
  geyser : Geyser
  /-- powered time, s, before which an aborted cycle is not due again | 32 | 08 R423 | 0 -/
  geyserAfter : Nat
  /-- powered time at which DaysSinceLearn counts from, s | 32 | 08 R428 | 0 -/
  daysFrom : Nat
  /-- HealthLow has been raised and not re-armed | 1 | 08 R426 | false -/
  healthLow : Bool
  /-- the snapshot the SoC was started from, for a later wall clock write | - | 08 R441 | none -/
  startSnap : Option Snap
  /-- counter reading of the entry to KEEP | 40 | 08 R444 | 0 -/
  keepCounter : BitVec 40
  /-- counter reading at the latest SoC update | 40 | 08 R381 | 0 -/
  lastCounter : BitVec 40
  deriving DecidableEq, Repr

structure Hold where
  /-- HOLD_EN | 1 | 07 R369 | false -/
  en : Bool
  /-- HoldState 0 to 4 | 3 | 07 R373 | 0 -/
  state : Nat
  /-- PACK and BANK source switches closed | 2 | 07 R369 | false -/
  packClosed : Bool
  bankClosed : Bool
  /-- the channel an assist discharges | - | 07 R374 | none -/
  assist : Option Channel
  /-- the assist trim is at zero current for a sag | 1 | 07 R375 | false -/
  assistHeld : Bool
  /-- VIN sags | 1 | 11 R580 | false -/
  sag : Bool
  /-- VIN has failed and power has not returned | 1 | 11 R578 | true, DESIGN CHOICE -/
  failed : Bool
  /-- BANK cell voltages, mV | 6 × 16 | 07 section 5 | 0, DESIGN CHOICE -/
  cells : Vector Nat 6
  /-- BAL0 to BAL5 | 6 | 07 R363 | low -/
  bal : Vector Bool 6
  /-- SourceGateMissing has been raised for the present configuration | 1 | 07 R372 | false -/
  gateMissing : Bool
  deriving DecidableEq, Repr

/-! ### Rails, sequencing, keep store -/

/-- RailStatus 0 to 6 (09 Rail and sequencing entries). -/
inductive RailStatus where
  | off | ramping | pending | good | warning | failed | masked
  deriving DecidableEq, Repr

/-- Why a rail is off (10 R558): never up, by command, by a fault action or failure, by a walk. -/
inductive OffBy where
  | never | command | fault | walk
  deriving DecidableEq, Repr

structure Rail where
  /-- RailStatus | 3 | 09 | off -/
  status : RailStatus
  /-- Voltage, mV | 16 | 09 R450 | 0, DESIGN CHOICE -/
  mv : Nat
  /-- consecutive readings out of window, and in window | 2 × 4 | 09 R453, R454 | 0 -/
  outRun : Nat
  inRun : Nat
  /-- the latest reading lay above the window | 1 | 09 R453 | false -/
  high : Bool
  /-- the ramp has ended and the rail waits to be good | 1 | 09 R466 | false -/
  ramped : Bool
  /-- scans since the ramp ended | 4 | 09 R466 | 0 -/
  scans : Nat
  /-- why the rail is off | - | 10 R558 | never -/
  offBy : OffBy
  /-- a down step of this rail runs | 1 | 09 R480 | false -/
  falling : Bool
  /-- Mask | 1 | 09 R499 | false -/
  mask : Bool
  deriving DecidableEq, Repr

/-- GateState 0 to 4 (09). -/
inductive GateRun where
  | off | ramping | on | failed | source
  deriving DecidableEq, Repr

structure GateReg where
  /-- GateState | 3 | 09 | off -/
  state : GateRun
  /-- the gate is driven | 1 | 09 R463 | false -/
  driven : Bool
  /-- LagMax, mV | 16 | 09 R468 | 0 -/
  lagMax : Nat
  deriving DecidableEq, Repr

/-- ResetState 0 to 2 (09). -/
inductive ResetRun where
  | asserted | stretching | released
  deriving DecidableEq, Repr

structure Trim where
  /-- code at the start of the present slew | 10 | 09 R512 | 512 -/
  present : Nat
  /-- the final target | 10 | 09 R514 | 512 -/
  target : Nat
  /-- the trim slews | 1 | 09 R514 | false -/
  slewing : Bool
  /-- model clock at the start of the slew | Nat | 09 R514 | 0 -/
  slewAt : Nat
  deriving DecidableEq, Repr

/-- A walk of rails (09 section 5). `groups` are the save groups it covers; `pos` is the present position. -/
inductive WalkKind where
  | none
  | up (groups : List Nat)
  | down (groups : List Nat)
  deriving DecidableEq, Repr

/-- The fault record (09 R530). -/
structure FaultRec where
  kind : Nat
  rail : Nat
  switch : Nat
  dev : Nat
  bootStep : Nat
  position : Nat
  reading : Nat
  time : Nat
  bootCount : Nat
  railsGood : Nat
  gatesOn : Nat
  enablesOn : Nat
  wallSeconds : Nat
  haltCause : Nat
  later : Nat
  lagMax : Nat
  deriving DecidableEq, Repr

structure Rails where
  /-- RAIL0 to RAIL11 | 12 | 09 | - -/
  rail : Vector Rail 12
  /-- GATE0 to GATE7 | 8 | 09 | - -/
  gate : Vector GateReg 8
  /-- EN0 to EN3 high | 4 | 09 R470 | low -/
  en : Vector Bool 4
  /-- ResetState of RSTO0_N to RSTO3_N | 4 × 2 | 09 R505 | asserted -/
  rst : Vector ResetRun 4
  /-- TRIM0 to TRIM3 | 4 | 09 R512 | - -/
  trim : Vector Trim 4
  /-- the outputs are released to their pull-downs | 1 | 02 R98, 09 R520 | true -/
  released : Bool
  /-- next scanner slot | 5 | 09 R449 | 0 -/
  slot : Nat
  /-- `2600h:02 DieTemperature`, 0.1 °C | 16 | 09 R518 | 0, DESIGN CHOICE -/
  dieTemp : Int
  /-- `2600h:03 VkeepVoltage`, mV | 16 | 09 R519 | 0, DESIGN CHOICE -/
  vkeep : Nat
  /-- die temperature and VKEEP warnings are in force | 2 | 09 R518, R519 | false -/
  dieWarn : Bool
  dieCritical : Bool
  vkeepLow : Bool
  /-- the walk that runs and its present position | - | 09 R477, R479 | none, 0 -/
  walk : WalkKind
  pos : Nat
  /-- the position's rails are good and StepDelay runs | 1 | 09 R478 | false -/
  delaying : Bool
  /-- PFW_N is driven low | 1 | 11 R579 | false -/
  pfwLow : Bool
  /-- `2700h:06 FaultLatched` | 1 | 09 R498 | false -/
  latched : Bool
  /-- the fault record | 64 bytes | 09 R530 | zeros -/
  fault : FaultRec
  deriving DecidableEq, Repr

/-- One channel's record in the keep store (09 Estimator record). -/
structure KeepEst where
  fcc : Option Nat
  quarantined : Nat
  quarantines : Nat
  learnedAt : Option Nat
  history : List Learn
  cycles : Nat
  impedance : SMap (Nat × Nat)
  snap : Option Snap
  daysFrom : Nat
  deriving DecidableEq, Repr

/-- One logged event in decoded form (15 R830). -/
structure Rec where
  time : Nat
  event : Nat
  severity : Nat
  early : Bool
  seeded : Bool
  data : BitVec 32
  bootCount : Nat
  rep : Nat
  dev : Nat
  island : Nat
  /-- model clock at the write, for the coalescing window | Nat | 15 R839 | - -/
  stamp : Nat
  deriving DecidableEq, Repr

/-- The record of the keep store (09 R522). -/
structure KeepRec where
  bootCount : Nat
  haltCause : Nat
  haltRepeat : Nat
  activeB : Bool
  trialState : Nat
  trialUsed : Nat
  packFault : Nat
  bankFault : Nat
  storeCount : Nat
  eByte : Nat
  lifeEnd : Nat
  latched : Bool
  stepDelay : Nat
  enableTimeout : Nat
  pack : KeepEst
  bank : KeepEst
  powered : Nat
  fault : FaultRec
  events : List Rec
  deriving DecidableEq, Repr

/-- One of the two copies (09 R523, R526). -/
structure KeepCopy where
  valid : Bool
  seq : BitVec 32
  body : KeepRec
  deriving DecidableEq, Repr

structure Keep where
  /-- copies A and B | 2 × 2,048 bytes | 09 R522 | valid with factory values, DESIGN CHOICE -/
  copyA : KeepCopy
  copyB : KeepCopy
  /-- an event-driven write waits for its 60 s spacing | 1 | 09 R525 | false -/
  pending : Bool
  /-- model clock of the latest event-driven write | Nat | 09 R525 | none -/
  lastWrite : Option Nat
  /-- the LifeEnd the next write carries | 8 | 09 R529 | 1, DESIGN CHOICE -/
  lifeEnd : Nat
  deriving DecidableEq, Repr

/-! ### Tremor, outage, flash -/

/-- WalkState 0 to 5 (10 WalkState codes). -/
inductive TremorWalk where
  | idleDown | gathering | upWalk | idleUp | downWalk | fault
  deriving DecidableEq, Repr

/-- What a down walk is for (10 EV-0386): nothing, a request, the host save, the drive save. -/
inductive DownCause where
  | none | request | hostSave | driveSave
  deriving DecidableEq, Repr

structure Tremor where
  /-- `2740h:08 TremorState` | 4 | 10 R540 | 0 -/
  counter : Nat
  /-- `2740h:09 WalkState` | 3 | 10 R540 | idleDown -/
  walk : TremorWalk
  /-- this member pulls the line | 1 | 10 R533 | false -/
  pulling : Bool
  /-- `2740h:0A LineLevel` reads high | 1 | 10 | true, DESIGN CHOICE -/
  high : Bool
  /-- a spontaneous low runs | 1 | 10 R547 | false -/
  low : Bool
  /-- a down request or a reset waits to be sent | - | 10 R551 | none, false -/
  wantDown : DownCause
  wantReset : Bool
  /-- what this member goes down for in the present walk | - | 10 R563 | none -/
  down : DownCause
  /-- the BOOT hold of step 1 runs, and the member has reached step 8 | 2 | 10 R553, R554 | false -/
  bootHold : Bool
  atStep8 : Bool
  /-- model clock at the latest pull of the line | Nat | 10 R554 | 0 -/
  heldAt : Nat
  /-- a down request has been seen: the next advance enters state N of a down walk | 1 | 10 R549 | false -/
  asked : Bool
  deriving DecidableEq, Repr

/-- OutagePhase codes 0 to 10 (11 OutagePhase codes). -/
inductive OutPhase where
  | none | preSinter | warnWindow | drain | waitDrvact | settle | simmer | copy | commit | keep | returning
  deriving DecidableEq, Repr

structure Outage where
  /-- `2800h:05 OutagePhase` | 4 | 11 | none -/
  phase : OutPhase
  /-- SUPERVISOR times this outage itself | 1 | 11 R584 | false -/
  supervisorLed : Bool
  /-- the drain point has passed | 1 | 11 R587 | false -/
  drained : Bool
  /-- the warn window has ended | 1 | 11 R588 | false -/
  warnEnded : Bool
  /-- the settle window has started, and has ended | 2 | 11 R591, R595 | false -/
  settling : Bool
  settled : Bool
  /-- DRVACT0 and DRVACT1 read low | 2 | 11 R591 | false, DESIGN CHOICE -/
  drvactLow : Vector Bool 2
  /-- the host and the drive group are shut | 2 | 11 R597 | false -/
  hostShut : Bool
  driveShut : Bool
  /-- the first Simmer decision allowed it | 1 | 11 R608 | false -/
  simmerOk : Bool
  /-- model clock at entry to SIMMER | Nat | 11 R611 | 0 -/
  simmerAt : Nat
  /-- the deadline timer, model clock of its expiry | Nat | 11 R617 | none -/
  deadline : Option Nat
  /-- `2810h:07 SimmerDrainPower`, mW | 16 | 11 R618 | 0 -/
  drainPower : Nat
  /-- power returned during SINTER | 1 | 11 R636 | false -/
  returned : Bool
  /-- the cause SinterStarted carried | 3 | 11 R630 | 0 -/
  sinterCause : Nat
  /-- bytes, duration ms, energy mJ of the Sinter that runs | - | 11 R627 | 0 -/
  bytes : Nat
  duration : Nat
  energy : Nat
  /-- `2840h:01` to `:04` | 64, 32, 32, 32 | 11 | 0 -/
  lastBytes : Nat
  lastDuration : Nat
  lastEnergy : Nat
  lastSimmer : Nat
  deriving DecidableEq, Repr

/-- One slot copy in an epoch, by ordinal (12 R657, R658, R663). -/
structure Copy where
  tenant : Fin 16
  volume : BitVec 32
  lba : Nat
  seq : Nat
  recording : Bool
  data : Block
  deriving DecidableEq, Repr

/-- Where a codeword lies: die, image block, page, codeword of the page, and the block's erase count (12 R655, R701). -/
structure Place where
  die : Fin 16
  block : Nat
  page : Nat
  codeword : Nat
  erases : Nat
  deriving DecidableEq, Repr

/-- A codeword as a page holds it: 4,096 bytes of data, the sector header, and the LDPC parity (12 R655). -/
structure Codeword where
  data : Block
  header : BitVec 128
  ldpc : BitVec 2816
  deriving DecidableEq, Repr

/-- A removal record (12 R663). -/
structure Removal where
  tenant : Fin 16
  volume : BitVec 32
  lba : Nat
  deriving DecidableEq, Repr

/-- A run of stripes with one die mask (12 R661, Epoch entry): the mask as die numbers, stripes, first parity die. -/
structure Run where
  dies : List (Fin 16)
  stripes : Nat
  firstParity : Nat
  deriving DecidableEq, Repr

/-- One epoch of the image (12 R663, R668). A relocated slot (12 R684) has its copy at a later ordinal; `dead` names the ordinals
that hold no copy of their block any more, among them `strays`, whose slots changed while they were programmed (06 R327). -/
structure Epoch where
  number : Nat
  byPreSinter : Bool
  inRestore : Bool
  narrow : Bool
  copies : List Copy
  dead : List Nat
  strays : List Nat
  removals : List Removal
  runs : List Run
  /-- the page of each stripe on each of its dies, stripes in order: die, image block, page | list | 12 R657 | - -/
  stripes : List (List (Fin 16 × Nat × Nat))
  /-- dies and blocks used, in order | list | 12 Block list | - -/
  blocks : List (Fin 16 × Nat)
  /-- KeyGeneration of each tenant at the time of writing | 16 × 32 | 12 | - -/
  keyGens : List Nat
  deriving DecidableEq, Repr

/-- A committed manifest with the chain it names (12 R668). -/
structure Manifest where
  format : Nat
  sequence : Nat
  top : Nat
  encrypted : Bool
  cPerPage : Nat
  activeDies : List (Fin 16)
  time : Nat
  wallSeconds : Nat
  bootCount : Nat
  writeSeqs : List Nat
  chain : List Epoch
  deriving DecidableEq, Repr

/-- DieState 0 to 3 (12 Die states). -/
inductive DieRun where
  | absent | active | retired | probation
  deriving DecidableEq, Repr

/-- A block of a die (12 R654, R683, R685): erased, written by an epoch, stale, or grown bad; with its erase count. -/
inductive BlockUse where
  | erased | used | stale | bad
  deriving DecidableEq, Repr

structure Die where
  /-- DieState | 2 | 12 R692 | absent -/
  state : DieRun
  /-- RetireCause | 3 | 12 | 0 -/
  cause : Nat
  /-- retired in the block table, which outlives BOOTs | 1 | 12 R693 | false -/
  retiredInTable : Bool
  /-- image blocks, pages per block, C | - | 12 R648, R654 | 0 -/
  blocks : Nat
  pages : Nat
  c : Nat
  /-- use and erase count of image blocks; a block not listed is erased with count 0 | map | 12 R683 | [] -/
  table : SMap (BlockUse × Nat)
  /-- the block being written and its next page | - | 12 R657 | none, 0 -/
  cur : Option Nat
  nextPage : Nat
  /-- command timeouts since BOOT | 2 | 12 R692 | 0 -/
  timeouts : Nat
  /-- powered seconds of the rebuilds of the last 24 h; RebuildCount is their number | list | 12 R692 | [] -/
  rebuilds : List Nat
  /-- RebuildCount in all | 16 | 12 | 0 -/
  rebuildCount : Nat
  /-- probation: blocks verified | Nat | 12 R696 | 0 -/
  verified : Nat
  deriving DecidableEq, Repr

structure Flash where
  /-- dies 0 to 15 | 16 | 12 R652 | absent -/
  die : Vector Die 16
  /-- FlashInterface and InterfaceRate | 2, 16 | 12 R649 | 0 -/
  interface : Nat
  rate : Nat
  /-- committed manifest, its buffer (false A, true B), and the manifest of the other buffer | 2 × 4,096 bytes | 12 R670 | none, DESIGN CHOICE -/
  committed : Option Manifest
  buffer : Bool
  previous : Option Manifest
  /-- dies whose copy of the manifest buffer to be written next is not erased yet | list | 12 R671 | [] -/
  bufferDirty : List (Fin 16)
  /-- ImageState 0, 1, 2 | 2 | 12 | 0 -/
  imageState : Nat
  /-- the open epochs of the present pre-sinter or Sinter, oldest first | list | 12 R662, R669 | [] -/
  open_ : List Epoch
  /-- the open epoch starts a new base | 1 | 12 R667 | false -/
  newBase : Bool
  /-- pre-sinter runs | 1 | 11 R598 | false -/
  preSinter : Bool
  /-- the video tenant's write sequence as pre-sinter started | 56 | 03 **Mode matrix** | 0 -/
  preSeq : Nat
  /-- the slots of the page that pre-sinter programs, each with what it holds in it | list | 11 R599, 06 R327 | [] -/
  copying : List (Nat × Copy)
  /-- blocks of the chain cleaned or dropped since the last commit | list | 12 R665 | [] -/
  removals : List Removal
  /-- the base has been released | 1 | 12 R667 | false -/
  released : Bool
  /-- background erases since the block tables were written | 7 | 12 R683 | 0 -/
  erases : Nat
  /-- `2F10h:02 SanitizeState` and whether it replaces keys | 2 | 12 R706 | 0 -/
  sanitizeState : Nat
  sanitizeKeys : Bool
  /-- a ReleaseRequest waits | 1 | 12 R689 | false -/
  releaseWanted : Bool
  /-- an uncommitted epoch of an interrupted Sinter: number and slots copied | - | 11 R642 | none -/
  incomplete : Option (Nat × Nat)
  /-- the two key-area copies hold different generations | 1 | 12 R703 | false, DESIGN CHOICE -/
  keyMismatch : Bool
  /-- `2102h:04 RestoreSlotsTotal`, `:05 RestoreSlotsDone`, `:06 RestoreRemaining`, as last updated | 3 × 32 | 02 R95 | 0 -/
  restoreTotal : Nat
  restoreDoneShown : Nat
  restoreRemaining : Nat
  /-- slots restored so far in this restore | 32 | 02 R95 | 0 -/
  restoreDone : Nat
  /-- the restore runs, and is complete | 2 | 02 R64, R96 | false -/
  restoring : Bool
  /-- `2102h:07 OnDemandFetches` | 32 | 02 | 0 -/
  onDemandFetches : Nat
  deriving DecidableEq, Repr

/-! ### Capture and video -/

/-- PortState 0 to 3 (13 Capture entries). -/
inductive PortRun where
  | noClock | idle | receiving | error
  deriving DecidableEq, Repr

structure CsiPort where
  /-- PortState | 2 | 13 | noClock -/
  state : PortRun
  /-- LaneRate, Mbit/s | 16 | 13 R707 | 0 -/
  rate : Nat
  /-- PacketErrors and UnknownPackets | 2 × 32 | 13 R711, R715 | 0 -/
  errors : Nat
  unknown : Nat
  /-- model clock of the latest PacketError and UnknownDataType event | - | 13 R711, R715 | none -/
  errorAt : Option Nat
  unknownAt : Option Nat
  /-- a CCI burst of an exposure set runs: stream, set ID, the number of the frame it follows, whether a frame start met it | - | 13 R726 | none -/
  burst : Option (Fin 16 × Nat × Nat × Bool)
  deriving DecidableEq, Repr

/-- A queued exposure set (13 R723): ID, staged writes, and how often it failed. -/
structure ExpSet where
  id : Nat
  writes : List (BitVec 64)
  failures : Nat
  /-- it may be sent now: before the first frame, or in the present blanking | 1 | 13 R725, R726, R731 | false -/
  due : Bool
  deriving DecidableEq, Repr

/-- A set that takes effect at a frame (13 R730, R732, R733). -/
structure Effect where
  frame : Nat
  id : Nat
  late : Bool
  failed : Bool
  deriving DecidableEq, Repr

/-- Frame metadata in decoded form (13 R738). -/
structure Meta where
  number : Nat
  set : Nat
  time : Nat
  tick : Nat
  inserted : Bool
  black : Bool
  late : Bool
  failedSet : Bool
  surplus : Bool
  layers : Nat
  group : Nat
  wallSeconds : Nat
  wallFraction : Nat
  deriving DecidableEq, Repr

/-- A frame being received or waiting for the pixel engine. -/
structure Frame where
  md : Meta
  /-- the lines received so far, first line first | - | 13 R714 | - -/
  lines : List (List Byte)
  format : Nat
  /-- the picture in its buffer, with its layers drawn, once the frame is complete | - | 13 R717, R750 | - -/
  picture : Picture
  /-- macroblock or CTB rows still to code | Nat | 14 R774 | - -/
  rowsLeft : Nat
  /-- its coding has started | 1 | 14 R774 | - -/
  started : Bool
  /-- it asks for an IDR frame: a group rejoin | 1 | 13 R747 | - -/
  rejoin : Bool
  /-- the ROIs in force at its start | 8 × 64 | 13 R766, 14 R793 | - -/
  rois : List Nat
  /-- model clock of its start, by which the pixel engine takes the oldest frame | Nat | 14 R772 | - -/
  born : Nat
  deriving DecidableEq, Repr

/-- One overlay layer (13 R751): current and next buffers, the next ready. -/
structure Layer where
  current : Option (List Byte)
  next : Option (List Byte)
  deriving DecidableEq, Repr

/-- The statistics block (13 R737): histogram, zone means, ROI means, with its metadata. -/
structure Stats where
  md : Meta
  histogram : List Nat
  zones : List Nat
  rois : List Nat
  deriving DecidableEq, Repr

/-- StreamState 0 to 4 (13 Capture entries). -/
inductive StreamRun where
  | off | waiting | running | suspended | stopped
  deriving DecidableEq, Repr

structure Stream where
  /-- StreamState | 3 | 13 R720 | off -/
  state : StreamRun
  /-- InputFormat | 2 | 13 R713 | 0 -/
  format : Nat
  /-- FramesCaptured, FramesDropped, FramesInserted | 3 × 32 | 13 | 0 -/
  captured : Nat
  dropped : Nat
  inserted : Nat
  /-- FrameNumber of the latest frame | 32 | 13 R738 | 0 -/
  number : Nat
  /-- the frame in reception | - | 13 R717 | none -/
  cur : Option Frame
  /-- complete frames in the three buffers, oldest first | 3 | 13 R718 | [] -/
  queue : List Frame
  /-- model clock of the latest FrameDropped and SurplusDropped event | - | 13 R719, R742 | none -/
  dropAt : Option Nat
  surplusAt : Option Nat
  /-- a surplus frame was dropped since the previous frame | 1 | 13 R738 | false -/
  surplus : Bool
  /-- staged writes | 8 × 64 | 13 R722 | 0 (dictionary) -/
  pendingSets : List ExpSet
  /-- LastQueuedSet | 32 | 13 R723 | 0 -/
  lastSet : Nat
  /-- effects to come and in force, oldest first | list | 13 R734 | [] -/
  effects : List Effect
  /-- ExposureSetInEffect | 32 | 13 R734 | 0 -/
  inEffect : Nat
  /-- the last 8 blankings, µs, newest first, and the clock of the latest frame end | - | 13 R728 | [], none -/
  blankings : List Nat
  endAt : Option Nat
  /-- L0 to L3 | 4 | 13 R751 | empty -/
  layers : Vector Layer 4
  /-- LayerEnable as taken at the latest frame start | 4 | 13 R758 | 0 -/
  layersOn : Nat
  /-- PrivacyMaskPending has been raised and no mask is current | 1 | 13 R756 | false -/
  maskPending : Bool
  /-- ROI values as taken at the latest frame start | 8 × 64 | 13 R766 | [] -/
  rois : List Nat
  /-- latest statistics | 432 bytes | 13 R739 | none -/
  stats : Option Stats
  /-- next tick to fill, ticks with a frame, consecutive inserted frames | - | 13 R741 | 0 -/
  nextTick : Nat
  underrun : Nat
  /-- model clock of the latest accepted frame start | - | 14 R785 | none -/
  startAt : Option Nat
  /-- direct CCI transfer: CciResult, pending op, running | 3 | 13 R735 | 0 -/
  cciResult : Nat
  cciOp : Nat
  cciRunning : Bool
  deriving DecidableEq, Repr

structure Group where
  /-- t_0 on the time base, set when the first member starts | 64 | 13 R740 | none -/
  start : Option Nat
  /-- TickCount | 32 | 13 | 0 -/
  ticks : Nat
  deriving DecidableEq, Repr

/-- EncoderState 0 to 4 (14 Video entries). -/
inductive EncRun where
  | off | waiting | encoding | paused | refused
  deriving DecidableEq, Repr

/-- A motion vector: in samples of its search level, or in quarter pels once refined (14 R786). -/
structure Vec where
  x : Int
  y : Int
  deriving DecidableEq, Repr

/-- A partition that is predicted from a reference: its area, whether that is the long-term reference, and its vector in quarter
pels (14 R788). -/
structure Part where
  area : Area
  long : Bool
  vec : Vec
  deriving DecidableEq, Repr

/-- How a block is coded (14 R788). -/
inductive Mode where
  | intra
  | inter (parts : List Part)
  | skip
  deriving DecidableEq, Repr

/-- What the pixel engine decided for a macroblock or coding unit: its place and size, its QP and its mode (14 R788, R793). -/
structure Choice where
  x : Nat
  y : Nat
  size : Nat
  qp : Nat
  mode : Mode
  deriving DecidableEq, Repr

/-- A frame whose coding has started and whose output has not ended (14 R774, R795, R801). -/
structure Coded where
  md : Meta
  idr : Bool
  /-- rows of the frame, rows of a slice, and the decisions of the rows done, top row first | - | 14 R774, R788, R798 | - -/
  total : Nat
  sliceRows : Nat
  rows : List (List Choice)
  /-- it is replaced by, or is, an all-skip P frame | 1 | 14 R791, R797 | - -/
  skip : Bool
  qp : Nat
  /-- predicted from the long-term reference after an overflow | 1 | 14 R801 | - -/
  fromLtr : Bool
  /-- it becomes the long-term reference | 1 | 14 R796 | - -/
  becomesLtr : Bool
  deriving DecidableEq, Repr

structure Encoder where
  /-- EncoderState | 3 | 14 | off -/
  state : EncRun
  /-- FramesEncoded | 32 | 14 | 0 -/
  frames : Nat
  /-- the level idc in use | 8 | 14 R768 | 0 -/
  level : Nat
  /-- frames since the latest IDR | 16 | 14 R795 | 0 -/
  sinceIdr : Nat
  /-- an IDR is due for a cause other than the interval | - | 14 R795 | none -/
  idrCause : Option Cause
  /-- the reconstructed pictures of the short-term and the long-term reference | 2 | 14 R767, R788, R796 | none -/
  shortRef : Option Picture
  longRef : Option Picture
  /-- a long-term reference exists, frames since its refresh, all its slices written | - | 14 R796, R801 | false, 0, false -/
  ltr : Bool
  ltrAge : Nat
  ltrWhole : Bool
  /-- QP added by backpressure | 6 | 14 R776 | 0 -/
  extraQp : Nat
  /-- VBV fullness, bits | 32 | 14 R790 | 0 -/
  vbv : Nat
  /-- frames whose coding has started and whose output has not ended, oldest first | list | 14 R774 | [] -/
  coding : List Coded
  /-- model clock of the latest RateControlSaturated event | - | 14 R791 | none -/
  satAt : Option Nat
  /-- live ring: producer offset, last consumer offset read | 2 × 64 | 14 R799 | 0 -/
  producer : Nat
  consumer : Nat
  /-- next slice index, and the rest of the frame is discarded after an overflow | - | 14 R800, R801 | 0, false -/
  slice : Nat
  overflow : Bool
  /-- the next frame is predicted from the long-term reference | 1 | 14 R801 | false -/
  nextLtr : Bool
  /-- all slices of the present frame were written so far | 1 | 14 R801 | true -/
  whole : Bool
  /-- LiveOverflows | 32 | 14 | 0 -/
  overflows : Nat
  deriving DecidableEq, Repr

/-- A recording segment (14 R808): its number, header facts, and the record bytes. -/
structure Segment where
  number : Nat
  codec : Nat
  profile : Nat
  level : Nat
  width : Nat
  height : Nat
  hasInserted : Bool
  frames : Nat
  firstTime : Nat
  lastTime : Nat
  wallSeconds : Nat
  bootCount : Nat
  /-- bytes of records PUT, after the header | 32 | 14 R808 | 0 -/
  put : Nat
  /-- record bytes staged beyond them | 2 × 256 KiB | 14 R810 | [] -/
  staged : List Byte
  /-- record bytes of the present half that have been PUT | 256 KiB | 14 R810 | [] -/
  tail : List Byte
  /-- end, frames and last timestamp of the last whole record PUT | 32, 32, 64 | 14 R813 | - -/
  ended : Nat
  framesPut : Nat
  lastPut : Nat
  /-- model clock of the opening | Nat | 14 R811 | - -/
  openedAt : Nat
  deriving DecidableEq, Repr

structure Recorder where
  /-- the open segment | - | 14 R811 | none -/
  seg : Option Segment
  /-- recording is paused | 1 | 14 R813 | false -/
  paused : Bool
  /-- `4040h:0B CurrentSegment` | 32 | 14 | 0 -/
  current : Nat
  /-- ends of closed segments: number to byte length with the header | map | 14 R812 | [] -/
  ends : SMap Nat
  deriving DecidableEq, Repr

structure Session_ where
  /-- State 0 to 3 | 2 | 14 | 0 -/
  state : Nat
  /-- ErrorCode | 8 | 14 | 0 -/
  error : Nat
  /-- PicturesDecoded | 32 | 14 | 0 -/
  pictures : Nat
  /-- the end of input is marked | 1 | 14 R821 | false -/
  ending : Bool
  /-- input consumer and output producer offsets | 2 × 64 | 14 R818 | 0 -/
  consumer : Nat
  producer : Nat
  /-- the latest picture output, from which failed slices are concealed | - | 14 R820 | none -/
  previous : Option Picture
  deriving DecidableEq, Repr

structure Video where
  /-- CSI-2 ports 0 to 3 | 4 | 13 | - -/
  port : Vector CsiPort 4
  /-- streams S0 to S15 | 16 | 13 | - -/
  stream : Vector Stream 16
  /-- stream groups G0 to G3 | 4 | 13 | - -/
  group : Vector Group 4
  /-- encoder channels E0 to E15 | 16 | 14 | - -/
  enc : Vector Encoder 16
  /-- recorders of the sixteen streams | 16 | 14 | - -/
  recorder : Vector Recorder 16
  /-- decode sessions D0, D1 | 2 | 14 | - -/
  dec : Vector Session_ 2
  /-- SyntaxRingFill, ‰ | 10 | 14 R775 | 0 -/
  ringFill : Nat
  /-- backpressure is on; the pixel engine stalls | 2 | 14 R776, R778 | false -/
  ringHigh : Bool
  ringFull : Bool
  deriving DecidableEq, Repr

/-! ### Events, outputs, the whole state -/

structure EvRing where
  /-- EventRingProducer | 16 | 15 R844 | 0 -/
  producer : Nat
  /-- EventRingConsumer | 16 | 15 R846 | 0 -/
  consumer : Nat
  /-- EventRingEntries | 16 | 15 R844 | 0 -/
  entries : Nat
  /-- EventRingLost | 32 | 15 R846 | 0 -/
  lost : Nat
  /-- Phase of the present pass | 1 | 15 R845 | true -/
  phase : Bool
  /-- a record has been lost since the latest one written | 1 | 15 R846 | false -/
  lossSeen : Bool
  /-- records written since the vector was last raised | 1 | 15 R847 | false -/
  due : Bool
  /-- model clock of the latest message | - | 15 R847 | none -/
  sentAt : Option Nat
  deriving DecidableEq, Repr

structure Events where
  /-- the log, newest first, up to 4,096 records (in HALT the 256-record buffer) | 4,096 × 128 | 15 R832, R833 | [] -/
  log : List Rec
  /-- the log has started (step 9), or the HALT buffer serves | 1 | 02 R73, 15 R833 | false -/
  started : Bool
  /-- the log is the HALT buffer | 1 | 15 R833 | false -/
  haltBuffer : Bool
  /-- LogWritten | 32 | 15 | 0 -/
  written : Nat
  /-- events held in SUPERVISOR, oldest first | 16 | 02 R67, 15 R836 | [] -/
  heldSup : List Rec
  /-- events held in CONTROL before the log starts, oldest first | 64 | 15 R834 | [] -/
  heldCtl : List Rec
  /-- events the two stores did not take | 2 × Nat | 02 R67, 15 R835 | 0 -/
  droppedSup : Nat
  droppedCtl : Nat
  /-- Pending of each bank | 28 × 64 | 15 R827 | 0 -/
  pendingBits : Vector (BitVec 64) 28
  /-- the event rings of the functions | 16 | 15 R844 | - -/
  ring : Vector EvRing 16
  deriving DecidableEq, Repr

/-- A feature that SET FEATURES writes and GET FEATURES reads: interface and rate, output drive, on-die termination, the SLC mode with
its address and value (12 R646, R649, R650). -/
inductive Feature where
  | timing (interface rate : Nat)
  | drive
  | odt
  | slc (address value : Nat)
  deriving DecidableEq, Repr

/-- A block of a die: one of its eight reserved blocks, which hold in order the die header, manifest buffers A and B, key-area copies
X and Y, and three blocks of block table; or a block of the image area (12 R654). -/
inductive FlashBlock where
  | reserved (k : Fin 8)
  | image (b : Nat)
  deriving DecidableEq, Repr

/-- What a page is programmed with: codewords, bytes, or a block table, whose layout the manual does not give (12 R654, R655). -/
inductive PageData where
  | codewords (ws : List Codeword)
  | bytes (bs : List Byte)
  | blockTable
  deriving DecidableEq, Repr

/-- The ONFI operations that the flash engine uses, and no others (12 R646). The cache variants of READ and PAGE PROGRAM differ from
them in timing only. -/
inductive FlashOp where
  | reset
  | readId
  | readParameterPage
  | setFeatures (f : Feature)
  | getFeatures (f : Feature)
  | zqCalibration (long : Bool)
  | read (b : FlashBlock) (page : Nat)
  | changeReadColumn (codeword : Nat)
  | pageProgram (b : FlashBlock) (page : Nat) (data : PageData)
  | blockErase (b : FlashBlock)
  | readStatusEnhanced
  deriving DecidableEq, Repr

/-- What the controller sends out: CAN FD frames, answers to USDO requests (client node, index, sub-index, abort code with 0 for
success, data; their frames are CiA 1301's), MSI-X messages, DMA writes to host memory, CCI transfers, cache data returned to a
function, and operations on flash dies. -/
inductive Output where
  | can (id : Nat) (bytes : List Byte)
  | usdo (id : Nat) (client : Fin 128) (index sub abort : Nat) (data : List Byte)
  | msix (fn : Fin 16) (vector : Nat)
  | dma (fn : Fin 16) (address : Nat) (bytes : List Byte)
  | dmaRead (fn : Fin 16) (address length : Nat)
  | dmaBlocks (fn : Fin 16) (elems : List (Nat × Nat)) (blocks : List Block)
  | cci (port : Fin 4) (address : Nat) (bytes : List Byte)
  | flash (die : Fin 16) (op : FlashOp)
  deriving DecidableEq, Repr

/-- The whole state. -/
structure State where
  time : Time
  isl : Islands
  life : Life
  mode : Modes
  nor : Nor
  dict : Dict
  can : Can
  /-- the sixteen mailboxes | 16 | 04 R171 | reset values of the registers -/
  mbx : Vector Mbx 16
  /-- the seven data windows | 7 | 04 R179 | closed -/
  win : Vector Win 7
  port : Port
  cache : Cache
  adm : Adm
  /-- PACK and BANK | 2 | 07 | - -/
  pack : Chan
  bank : Chan
  /-- their estimators | 2 | 08 | - -/
  packEst : Est
  bankEst : Est
  hold : Hold
  rails : Rails
  keep : Keep
  tremor : Tremor
  outage : Outage
  flash : Flash
  video : Video
  ev : Events
  /-- everything sent out so far, oldest first; nothing reads it | list | model | [] -/
  out : List Output
  /-- the commands that are waiting, first in first out | list | model | [] -/
  pending : List Instr
  deriving DecidableEq, Repr

/-! ### Reset -/

def Time.reset : Time := { now := 0, timeBase := 0, onRc := false, wallSet := false, wall := 0, powered := 0 }

def Islands.reset : Islands :=
  { run := Vector.replicate 11 .stopped, undelivered := [], handed := [], waiting := [], lastTimeout := Vector.replicate 11 none }

def Factory.reset : Factory :=
  { gradeE := false, siliconRevision := 0, serial := List.replicate 16 0, ids := [0, 0, 0, 0] }

def Life.reset : Life :=
  { dev := .off, prev := .off, entryTime := 0, enteredAt := 0, resetCause := 0, bootCount := 0, haltCause := 0, haltRepeat := 0,
    boot := .none, restarting := false, bootStep := 1, step2Done := false, bootAt := 0, configuredAt := 0,
    otherSlot := false, otherTrial := false, socKnown := false, dieHot := false, bootDuration := 0,
    imageAbsent := false, warmBoot := false, fwFallback := false, fwTrial := false, estConservative := true, scanReduced := true,
    watchdogTimes := [], fatalPath := false, fromRestore := false, supervisorHalt := false, haltPending := 0, afterDown := 0,
    wakeHigh := true, wakeHeld := false, activeB := false, runningB := false, trialState := 0, trialUsed := 0, fwVersion := 0,
    fwReads := 1, dramGib := 0, wokeAt := none, selfRefresh := false, dramLost := true, factory := Factory.reset }

def Modes.reset : Modes :=
  { fit := 0, group := 0, host := 1, geyser := 0, outageEff := 1, outageInForce := 1, policyEff := Vector.replicate 16 0,
    videoAtBoot := 1, expert := none, expertLast := 0, expertRefusals := [], lockoutEnd := none, lock := false }

def NorCopy.reset : NorCopy := { valid := false, seq := 0, void := false, values := [] }

def Nor.reset : Nor :=
  { copyA := NorCopy.reset, copyB := NorCopy.reset, slotA := ⟨[], true⟩, slotB := ⟨[], true⟩, storing := none, storeState := 0,
    storeCount := 0, stepDelay4 := 1, enableTimeout4 := 5 }

def Dict.reset : Dict := { values := [], refusedMbx := Vector.replicate 16 0, refusedUsdo := Vector.replicate 128 0 }

def Can.reset : Can :=
  { nmt := .initialising, node := 32, arbRate := 500, dataRate := 2000, errorSeen := false, busy := [], emcy := [],
    emcyDropped := 0, emcyDropSeen := false, tpdo := Vector.replicate 4 ⟨[], none⟩ }

def Mbx.reset : Mbx :=
  { addr := 0, len := 0, go := false, tag := 0, op := 0, done := false, result := 0, statusTag := 0, statusLen := 0, abort := 0,
    irqEn := false, data := [] }

def Win.reset : Win :=
  { target := 0, offset := 0, length := 0, status := 0, crc := 0, owner := none, buf := [], writing := false, lastAccess := 0 }

def Pair.reset : Pair :=
  { sqBase := 0, cqBase := 0, sqSize := 0, cqSize := 0, enable := false, aggTime := 0, vector := 0, aggCount := 0, irqEn := false,
    ready := false, fault := false, error := 0, sqHead := 0, sqTail := 0, recorded := [], cqHead := 0, cqTail := 0, phase := true,
    waiting := [], unsignalled := 0 }

def Func.reset : Func :=
  { bme := false, enabled := false, mps := 128, mrrs := 512, lastQp := 3, msix := List.replicate 32 0, pba := 0, pairs := Vector.replicate 4 Pair.reset }

def Port.reset : Port :=
  { linkState := 0, linkSpeed := 0, linkWidth := 0, vfs := 0, ready := false, fns := Vector.replicate 16 Func.reset, cmds := [],
    fetched := 0, lastFn := 15, cycleFrom := 0, fetchStopped := false }

def Tenant.reset : Tenant :=
  { writeSeq := 0, frozen := false, forced := false, completed := 0, throttled := 0, onDemand := 0, lastThrottled := false,
    guaranteed := 0, reserved := 0, keyGen := 0, hasKey := false, sanitized := 0, thawed := false, listVolumes := [] }

def Cache.reset : Cache :=
  { slots := [], handles := [], usable := 0, videoTenant := 15, tenants := Vector.replicate 16 Tenant.reset, stamp := 0 }

def Adm.reset : Adm :=
  { egTotal := 0, dmaxNum := 0, dmaxDen := 1, ceiling := 0, stage := 3, pubSeq := 0, pubAt := none, stale := false,
    formatHold := false, flashHold := false, dieHold := false, borrowStopped := false, geyserForce := false, belowDirty := false, eByte := 6000, eByteInUse := 6000 }

def Chan.reset : Chan :=
  { fitted := false, wasRemoved := false, mv := 0, ma := 0, dt := 0, enable := false, full := false, phase := .off, inhibit := 1, target := 0,
    targetFinal := 0, slewAt := 0, slewing := false, iset := 0, fault := 0, zone := .normal, taperAt := none, overRun := 0, eod := 0,
    setpoint := 0 }

def Est.reset : Est :=
  { socInt := 0, socRep := 0, holdRep := false, dropRep := false, uCal := 3 / 10, sinceCharge := 0, sinceAt := 0, fcc := none,
    quarantined := 0, quarantines := 0, learnedAt := none, history := [], cycles := 0, cycleRest := 0, impedance := [],
    discards := 0, profile := none, pendingProfile := none, counter := 0, mismatch := false, awaiting := false, widened := false,
    samples := 0, eg := 0, empty := false, recent := [], power := [], restAt := none, restMv := 0, restMvAt := 0,
    learning := false, learnOut := 0, learnIn := 0, learnTemp := 0, learnRate := 0, learnCount := 0, learnMv := 0,
    learnHot := false, geyser := .idle, geyserAfter := 0, daysFrom := 0, healthLow := false, startSnap := none, keepCounter := 0,
    lastCounter := 0 }

def Hold.reset : Hold :=
  { en := false, state := 0, packClosed := false, bankClosed := false, assist := none, assistHeld := false, sag := false,
    failed := true, cells := Vector.replicate 6 0, bal := Vector.replicate 6 false, gateMissing := false }

def Rail.reset : Rail :=
  { status := .off, mv := 0, outRun := 0, inRun := 0, high := false, ramped := false, scans := 0, offBy := .never,
    falling := false, mask := false }

def FaultRec.reset : FaultRec :=
  { kind := 0, rail := 0, switch := 0, dev := 0, bootStep := 0, position := 0, reading := 0, time := 0, bootCount := 0,
    railsGood := 0, gatesOn := 0, enablesOn := 0, wallSeconds := 0, haltCause := 0, later := 0, lagMax := 0 }

def Trim.reset : Trim := { present := 512, target := 512, slewing := false, slewAt := 0 }

def Rails.reset : Rails :=
  { rail := Vector.replicate 12 Rail.reset, gate := Vector.replicate 8 ⟨.off, false, 0⟩, en := Vector.replicate 4 false,
    rst := Vector.replicate 4 .asserted, trim := Vector.replicate 4 Trim.reset, released := true, slot := 0, dieTemp := 0,
    vkeep := 0, dieWarn := false, dieCritical := false, vkeepLow := false, walk := .none, pos := 0, delaying := false,
    pfwLow := false, latched := false, fault := FaultRec.reset }

/-- The factory values of a channel's record (09 R528). -/
def KeepEst.factory : KeepEst :=
  { fcc := none, quarantined := 0, quarantines := 0, learnedAt := none, history := [], cycles := 0, impedance := [], snap := none,
    daysFrom := 0 }

/-- Factory values of the keep store: counts 0, FCC at design capacity, EByte 6,000 mJ/GiB, no fault (09 R528). -/
def KeepRec.factory : KeepRec :=
  { bootCount := 0, haltCause := 0, haltRepeat := 0, activeB := false, trialState := 0, trialUsed := 0, packFault := 0,
    bankFault := 0, storeCount := 0, eByte := 6000, lifeEnd := 1, latched := false, stepDelay := 1, enableTimeout := 5,
    pack := KeepEst.factory, bank := KeepEst.factory, powered := 0, fault := FaultRec.reset, events := [] }

def Keep.reset : Keep :=
  { copyA := ⟨true, 1, KeepRec.factory⟩, copyB := ⟨true, 0, KeepRec.factory⟩, pending := false, lastWrite := none, lifeEnd := 1 }

def Tremor.reset : Tremor :=
  { counter := 0, walk := .idleDown, pulling := false, high := true, low := false, wantDown := .none, wantReset := false,
    down := .none, bootHold := false, atStep8 := false, heldAt := 0, asked := false }

def Outage.reset : Outage :=
  { phase := .none, supervisorLed := false, drained := false, warnEnded := false, settling := false,
    settled := false, drvactLow := Vector.replicate 2 false, hostShut := false, driveShut := false, simmerOk := false,
    simmerAt := 0, deadline := none, drainPower := 0, returned := false, sinterCause := 0, bytes := 0, duration := 0, energy := 0,
    lastBytes := 0, lastDuration := 0, lastEnergy := 0, lastSimmer := 0 }

def Die.reset : Die :=
  { state := .absent, cause := 0, retiredInTable := false, blocks := 0, pages := 0, c := 0, table := [], cur := none,
    nextPage := 0, timeouts := 0, rebuilds := [], rebuildCount := 0, verified := 0 }

def Flash.reset : Flash :=
  { die := Vector.replicate 16 Die.reset, interface := 0, rate := 0, committed := none, buffer := false, previous := none, bufferDirty := [],
    imageState := 0, open_ := [], newBase := false, preSinter := false, preSeq := 0, copying := [], removals := [], released := false,
    erases := 0, sanitizeState := 0, sanitizeKeys := false, releaseWanted := false, incomplete := none, keyMismatch := false,
    restoreTotal := 0, restoreDoneShown := 0, restoreRemaining := 0, restoreDone := 0, restoring := false, onDemandFetches := 0 }

def CsiPort.reset : CsiPort :=
  { state := .noClock, rate := 0, errors := 0, unknown := 0, errorAt := none, unknownAt := none, burst := none }

def Stream.reset : Stream :=
  { state := .off, format := 0, captured := 0, dropped := 0, inserted := 0, number := 0, cur := none, queue := [], dropAt := none,
    surplusAt := none, surplus := false, pendingSets := [], lastSet := 0, effects := [], inEffect := 0, blankings := [],
    endAt := none, layers := Vector.replicate 4 ⟨none, none⟩, layersOn := 0, maskPending := false, rois := [], stats := none,
    nextTick := 0, underrun := 0, startAt := none, cciResult := 0, cciOp := 0, cciRunning := false }

def Encoder.reset : Encoder :=
  { state := .off, frames := 0, level := 0, sinceIdr := 0, idrCause := none, shortRef := none, longRef := none, ltr := false, ltrAge := 0,
    ltrWhole := false, extraQp := 0, vbv := 0, coding := [], satAt := none, producer := 0,
    consumer := 0, slice := 0, overflow := false, nextLtr := false, whole := true, overflows := 0 }

def Video.reset : Video :=
  { port := Vector.replicate 4 CsiPort.reset, stream := Vector.replicate 16 Stream.reset,
    group := Vector.replicate 4 ⟨none, 0⟩, enc := Vector.replicate 16 Encoder.reset,
    recorder := Vector.replicate 16 ⟨none, false, 0, []⟩, dec := Vector.replicate 2 ⟨0, 0, 0, false, 0, 0, none⟩, ringFill := 0,
    ringHigh := false, ringFull := false }

def EvRing.reset : EvRing :=
  { producer := 0, consumer := 0, entries := 0, lost := 0, phase := true, lossSeen := false, due := false, sentAt := none }

def Events.reset : Events :=
  { log := [], started := false, haltBuffer := false, written := 0, heldSup := [], heldCtl := [], droppedSup := 0, droppedCtl := 0,
    pendingBits := Vector.replicate 28 0, ring := Vector.replicate 16 EvRing.reset }

/-- The controller right after reset: OFF, with VKEEP absent, nothing running and every register at its reset value. -/
def State.reset : State :=
  { time := Time.reset, isl := Islands.reset, life := Life.reset, mode := Modes.reset, nor := Nor.reset, dict := Dict.reset,
    can := Can.reset, mbx := Vector.replicate 16 Mbx.reset, win := Vector.replicate 7 Win.reset, port := Port.reset,
    cache := Cache.reset, adm := Adm.reset, pack := Chan.reset, bank := Chan.reset, packEst := Est.reset, bankEst := Est.reset,
    hold := Hold.reset, rails := Rails.reset, keep := Keep.reset, tremor := Tremor.reset, outage := Outage.reset,
    flash := Flash.reset, video := Video.reset, ev := Events.reset, out := [], pending := [] }

end Sys2Proof.Machine
end

