-- ==== Sys2Proof/Config.lean ====
section
/-! DEFINITION. What an implementation fixes and the manual leaves open: free values, each an opaque constant that nothing can
evaluate. No statement rests on a value of one. -/

namespace Sys2Proof.Config

open Sys2Proof.Machine

/-- The code an event carries for a cause that a rule names without giving it a number (02 R66 and others; log 10). -/
opaque causeCode : Cause → BitVec 8

/-- The code of a mode dimension in EV-0010 and EV-0011, by its row in **Mode dimensions** (03 R117, R120; log 10). -/
opaque dimensionCode : Nat → BitVec 8

/-- Points of the default profiles that the manual's excerpts do not give: chemistry, table, and place in its body
(08 **Default profile excerpts**; log 11). -/
opaque profilePoint : Nat → Nat → Nat → Nat

/-- The result of a formula of the manual at operands for which it states none, such as a division by zero: the formula's number
and its operands (08 R411, R431 to R433; log 12). -/
opaque unstated : Nat → List Int → Rat

/-- The code the charge loop drives in constant voltage: channel, present target, voltage (07 R346; log 13). -/
opaque isetHold : Nat → Nat → Nat → BitVec 10

/-- The code the charge loop drives next in precharge or constant current when the measured current lies outside the band that the
manual gives: channel, setpoint, measured current, present code (07 R344; log 13). -/
opaque isetAdjust : Nat → Nat → Int → Nat → BitVec 10

/-- The code the assist loop drives: channel, discharge setpoint (0 while it is held), measured current (07 R374, R375; log 73). -/
opaque assistCode : Nat → Nat → Int → BitVec 10

/-- The measured bitrate of an encoder, whose window the manual does not give: stream, frames encoded (14 **Video entries**; log 14). -/
opaque bitrateMeasured : Nat → Nat → BitVec 32

/-- How well a block of luma samples matches a candidate; the manual does not give the measure (14 R786; log 134). -/
opaque matchCost : List (List Nat) → List (List Nat) → Nat

/-- The prediction of a block at a quarter-pel place of a reference, by the codec's interpolation filter: codec, luma of the
reference, place in quarter pels, width, height (14 R786; log 134). -/
opaque interpolate : Nat → List (List Nat) → Int → Int → Nat → Nat → List (List Nat)

/-- The rate-distortion cost of coding a block in a mode, with its QP: codec, source, references, decision (14 R788; log 134). -/
opaque modeCost : Nat → Picture → List Picture → Choice → Nat

/-- The reconstruction of a slice with the loop filters of its codec, which do not leave it: codec, source rows of the slice,
references, decisions of its rows (14 R788, R798; log 134). -/
opaque reconstruct : Nat → Picture → List Picture → List (List Choice) → Picture

/-- AES-256-XTS under the key of a tenant, which its number and KeyGeneration name: tweak and data. The keys are random (12 R699,
R701; log 132). -/
opaque xtsEncrypt : Nat → Nat → BitVec 128 → Block → Block

/-- The wrapped key of a tenant under the device key, by its number and KeyGeneration (12 R699, R702; log 132). -/
opaque wrappedKey : Nat → Nat → BitVec 576

/-- The LDPC parity over the data and the sector header of a codeword; the manual does not give the code (12 R655; log 132). -/
opaque ldpcParity : Block → BitVec 128 → BitVec 2816

/-- The data of a verify-pattern codeword; the manual does not give the pattern (12 R655, R696; log 132). -/
opaque verifyPattern : Nat → Block

/-- A pixel of the built-in 8 × 16 font, whose shapes the manual does not give: character, column, row (13 R761; log 17). -/
opaque fontPixel : Nat → Nat → Nat → Bool

/-- The words of `1A00h` to `1A03h TpdoMapping`, said to be fixed: TPDO and place (04 **Communication entries**; log 15). -/
opaque tpdoMapping : Nat → Nat → BitVec 32

/-- What a read of an entry that can only be written gives in an event, or bits of a field no rule fills (log 16). -/
opaque openWord : Nat → Nat → BitVec 32

end Sys2Proof.Config
end

