-- ==== Sys2Proof/Machine/EventMap.lean ====
section
/-! DEFINITION. The event sources: which numbers are assigned, their severities and the masks of a bank (15 sections 1 and 2). -/

namespace Sys2Proof.Machine

/-- A number lies in one of the closed spans of a list. -/
def inSpans (spans : List (Nat × Nat)) (n : Nat) : Bool := spans.any (fun p => p.1 ≤ n && n ≤ p.2)

/-- Number of banks and sources (15 **Quick facts**). -/
def eventBanks : Nat := 28

/-- Assigned sources of the banks that are not per tenant, stream or port (15 R822 **Bank map**). -/
def fixedSources : List (Nat × Nat) :=
  [(0, 2), (4, 20), (24, 26), (32, 36), (40, 42), (64, 80), (128, 137), (144, 156), (192, 203), (208, 220), (256, 309),
   (320, 343), (384, 392), (400, 415), (448, 465), (512, 526), (576, 639), (1728, 1737)]

/-- A source is assigned (15 R822). -/
def assigned (ev : Nat) : Bool :=
  if 640 ≤ ev && ev < 1152 then inSpans [(0, 6), (20, 24)] ((ev - 640) % 32)
  else if 1152 ≤ ev && ev < 1664 then inSpans [(0, 11), (16, 26)] ((ev - 1152) % 32)
  else if 1664 ≤ ev && ev < 1728 then (ev - 1664) % 16 ≤ 4
  else inSpans fixedSources ev

/-- Error sources outside the tenant blocks (15 R824 **Severities**). -/
def errorSources : List (Nat × Nat) :=
  [(8, 9), (35, 35), (40, 40), (42, 42), (69, 69), (71, 72), (75, 75), (78, 78), (135, 135), (199, 199), (202, 202),
   (292, 303), (305, 305), (308, 308), (320, 331), (343, 343), (389, 391), (461, 461), (465, 465), (517, 517), (576, 591)]

/-- Warning sources outside the tenant, stream and port blocks (15 R824 **Severities**). -/
def warningSources : List (Nat × Nat) :=
  [(1, 2), (4, 7), (11, 11), (14, 14), (17, 17), (19, 20), (25, 26), (34, 34), (36, 36), (67, 67), (70, 70), (73, 74),
   (77, 77), (79, 80), (129, 130), (146, 146), (150, 150), (152, 153), (193, 194), (203, 203), (210, 210), (214, 214),
   (216, 217), (256, 279), (304, 304), (306, 306), (342, 342), (384, 384), (392, 392), (454, 454), (457, 457), (464, 464),
   (513, 516), (518, 519), (521, 521), (524, 524), (526, 526), (624, 639), (1729, 1729), (1731, 1731), (1736, 1737)]

/-- Severity of a source: 0 info, 1 warning, 2 error (15 R824). -/
def severity (ev : Nat) : Nat :=
  if 640 ≤ ev && ev < 1152 then
    if (ev - 640) % 32 = 24 then 2
    else if inSpans [(0, 2), (4, 6), (20, 20), (23, 23)] ((ev - 640) % 32) then 1 else 0
  else if 1152 ≤ ev && ev < 1664 then
    if inSpans [(2, 5), (7, 10), (19, 20), (23, 23), (26, 26)] ((ev - 1152) % 32) then 1 else 0
  else if 1664 ≤ ev && ev < 1728 then
    if inSpans [(1, 4)] ((ev - 1664) % 16) then 1 else 0
  else if inSpans errorSources ev then 2
  else if inSpans warningSources ev then 1 else 0

/-- The mask of the sources of a bank that have a property, source 64 × b + s in bit s. -/
def bankMask (b : Nat) (p : Nat → Bool) : Nat :=
  (List.range 64).foldl (fun m s => if p (64 * b + s) then m + 2 ^ s else m) 0

/-- Assigned sources of a bank as a mask. -/
def assignedMask (b : Nat) : Nat := bankMask b assigned

/-- Error sources of a bank: `5000h:05 ErrorSources`. -/
def errorMask (b : Nat) : Nat := bankMask b (fun e => assigned e && severity e == 2)

/-- Warning sources of a bank: `5000h:06 WarningSources`. -/
def warningMask (b : Nat) : Nat := bankMask b (fun e => assigned e && severity e == 1)

/-- The tenant whose block a source lies in (00 R13). -/
def tenantOf (ev : Nat) : Option Nat := if 640 ≤ ev && ev < 1152 then some ((ev - 640) / 32) else none

/-- The bit of EventClasses that selects a bank (15 R842 **EventClasses**). -/
def classBit (bank : Nat) : Nat :=
  if bank = 0 then 0 else if bank = 1 then 1 else if bank ≤ 3 then 2 else if bank ≤ 5 then 3 else if bank = 6 then 4
  else if bank = 7 then 5 else if bank ≤ 9 then 6 else if bank ≤ 17 then 8 else 7

/-- Event number of tenant n's source k (00 R13). -/
def tenantEv (n k : Nat) : Nat := 640 + 32 * n + k

/-- Event number of stream n's source k (00 R14). -/
def streamEv (n k : Nat) : Nat := 1152 + 32 * n + k

/-- Event number of port p's source k (15 **Bank map**). -/
def portEv (p k : Nat) : Nat := 1664 + 16 * p + k

end Sys2Proof.Machine
end

