-- ==== Sys2Proof/Machine/Entries.lean ====
section
/-! DEFINITION. The object dictionary's entries: types, access classes and the table of every entry (01 to 15, the entry tables),
with their defaults and ranges. -/

namespace Sys2Proof.Machine

/-- Types of entries (04 R133). -/
inductive Ty where
  | bool | i16 | i32 | u8 | enum8 | u16 | u32 | str | domain | u64
  deriving DecidableEq, Repr

/-- Size in bytes; for VISSTR the maximum (04 **Dictionary types**). -/
def Ty.size : Ty → Nat
  | .bool => 1 | .i16 => 2 | .i32 => 4 | .u8 => 1 | .enum8 => 1 | .u16 => 2 | .u32 => 4 | .str => 64 | .domain => 0 | .u64 => 8

/-- Type code (04 **Dictionary types**). -/
def Ty.code : Ty → Nat
  | .bool => 0x01 | .i16 => 0x03 | .i32 => 0x04 | .u8 => 0x05 | .enum8 => 0x05 | .u16 => 0x06 | .u32 => 0x07 | .str => 0x09
  | .domain => 0x0F | .u64 => 0x1B

/-- The value a code stands for: two's complement for I16 and I32 (04 R133). -/
def Ty.value (t : Ty) (code : Nat) : Int :=
  match t with
  | .i16 => if code % 65536 < 32768 then (code % 65536 : Nat) else (code % 65536 : Nat) - 65536
  | .i32 => if code % 4294967296 < 2147483648 then (code % 4294967296 : Nat) else (code % 4294967296 : Nat) - 4294967296
  | _ => code

/-- The Access column of the entry tables (04 section 3). -/
inductive Acc where
  | gRead | admin | aLock | aWrite | aWriteLock | aRead | ta | taRead
  deriving DecidableEq, Repr

/-- Classes of a session at an entry (04 R139, R140). -/
structure Classes where
  g : Bool
  t : Bool
  a : Bool
  deriving DecidableEq, Repr

def Acc.gRd : Acc → Bool
  | .gRead => true | _ => false
def Acc.tRd : Acc → Bool
  | .ta => true | .taRead => true | _ => false
def Acc.tWr : Acc → Bool
  | .ta => true | _ => false
def Acc.aRd : Acc → Bool
  | .admin => true | .aLock => true | .aRead => true | .ta => true | .taRead => true | _ => false
def Acc.aWr : Acc → Bool
  | .admin => true | .aLock => true | .aWrite => true | .aWriteLock => true | .ta => true | _ => false
/-- L: writable only while the configuration lock is open (04 R142). -/
def Acc.locked : Acc → Bool
  | .aLock => true | .aWriteLock => true | _ => false

/-- A session with these classes may read (04 R141). -/
def Acc.mayRead (a : Acc) (c : Classes) : Bool := (a.gRd && c.g) || (a.tRd && c.t) || (a.aRd && c.a)

/-- A session with these classes may write (04 R141). -/
def Acc.mayWrite (a : Acc) (c : Classes) : Bool := (a.tWr && c.t) || (a.aWr && c.a)

/-- The Level column. -/
inductive Level where
  | basic | expert
  deriving DecidableEq, Repr

/-- The Persist column (04 section 4). -/
inductive Persist where
  | no | stored | keep
  deriving DecidableEq, Repr

/-- Values from `lo` to `hi` in steps. -/
structure Span where
  lo : Int
  hi : Int
  step : Int
  deriving DecidableEq, Repr

/-- A line of the entry tables: it stands for `subs` sub-indices from `sub`, at `count` indices a `stride` apart. An empty range
is the whole type. Defaults of measured and factory values, which are read off the state, stand as 0. -/
structure Row where
  index : Nat
  sub : Nat
  subs : Nat
  count : Nat
  stride : Nat
  ty : Ty
  acc : Acc
  level : Level
  persist : Persist
  dflt : Nat
  range : List Span
  deriving DecidableEq, Repr

/-- A table line. -/
def row (index sub subs count stride : Nat) (ty : Ty) (acc : Acc) (level : Level) (persist : Persist) (dflt : Nat)
    (range : List Span) : Row := ⟨index, sub, subs, count, stride, ty, acc, level, persist, dflt, range⟩

/-- Entries 1000h to 1FFFh (04). -/
def communicationRows : List Row :=
  [
    row 0x1000 0x00 1 1 0x1 .u32 .gRead .basic .no 0 [],  -- DeviceType
    row 0x1001 0x00 1 1 0x1 .u8 .gRead .basic .no 0 [],  -- ErrorRegister
    row 0x1010 0x01 1 1 0x1 .u32 .aWrite .basic .no 0 [],  -- StoreAll
    row 0x1010 0x02 1 1 0x1 .u32 .aWrite .basic .no 0 [],  -- StoreCommunication
    row 0x1010 0x03 1 1 0x1 .u32 .aWrite .basic .no 0 [],  -- StoreApplication
    row 0x1011 0x01 1 1 0x1 .u32 .aWrite .basic .no 0 [],  -- RestoreDefaultsAll
    row 0x1014 0x00 1 1 0x1 .u32 .aLock .expert .stored 160 [⟨129, 255, 1⟩, ⟨2147483777, 2147483903, 1⟩],  -- EmcyCobId
    row 0x1017 0x00 1 1 0x1 .u16 .admin .basic .stored 1000 [],  -- ProducerHeartbeatTime
    row 0x1018 0x01 1 1 0x1 .u32 .gRead .basic .no 0 [],  -- VendorId
    row 0x1018 0x02 1 1 0x1 .u32 .gRead .basic .no 0 [],  -- ProductCode
    row 0x1018 0x03 1 1 0x1 .u32 .gRead .basic .no 0 [],  -- RevisionNumber
    row 0x1018 0x04 1 1 0x1 .u32 .gRead .basic .no 0 []  -- SerialNumber
  ] ++
  [
    row 0x1800 0x03 1 4 0x1 .u16 .admin .expert .stored 100 [],  -- TpdoInhibitTime
    row 0x1800 0x05 1 4 0x1 .u16 .admin .basic .stored 1000 [],  -- TpdoEventTimer
    row 0x1A00 0x01 7 1 0x1 .u32 .gRead .expert .no 0 [],  -- TpdoMapping
    row 0x1A01 0x01 6 1 0x1 .u32 .gRead .expert .no 0 [],  -- TpdoMapping
    row 0x1A02 0x01 6 1 0x1 .u32 .gRead .expert .no 0 [],  -- TpdoMapping
    row 0x1A03 0x01 6 1 0x1 .u32 .gRead .expert .no 0 []  -- TpdoMapping
  ]

/-- Entries 2000h to 200Fh (04). -/
def identityRows : List Row :=
  [
    row 0x2000 0x01 1 1 0x1 .str .gRead .basic .no 0 [],  -- VendorName
    row 0x2000 0x02 1 1 0x1 .str .gRead .basic .no 0 [],  -- PartNumber
    row 0x2000 0x03 1 1 0x1 .enum8 .gRead .basic .no 0 [],  -- Grade
    row 0x2000 0x04 1 1 0x1 .u16 .gRead .basic .no 0 [],  -- SiliconRevision
    row 0x2000 0x05 1 1 0x1 .u32 .gRead .basic .no 0 [],  -- FirmwareVersion
    row 0x2000 0x06 1 1 0x1 .str .gRead .basic .no 0 [],  -- SerialNumber
    row 0x2000 0x07 1 1 0x1 .u8 .gRead .basic .no 0 [],  -- DramSize
    row 0x2000 0x08 1 1 0x1 .u8 .gRead .basic .no 0 [],  -- FlashDies
    row 0x2003 0x01 1 1 0x1 .u8 .aLock .basic .stored 32 [⟨1, 127, 1⟩],  -- CanNodeId
    row 0x2003 0x02 1 1 0x1 .u16 .aLock .expert .stored 500 [⟨125, 125, 1⟩, ⟨250, 250, 1⟩, ⟨500, 500, 1⟩, ⟨1000, 1000, 1⟩],  -- CanArbitrationRate
    row 0x2003 0x03 1 1 0x1 .u16 .aLock .expert .stored 2000 [⟨1000, 1000, 1⟩, ⟨2000, 2000, 1⟩, ⟨4000, 4000, 1⟩, ⟨5000, 5000, 1⟩]  -- CanDataRate
  ]

/-- Entries 2010h to 201Fh (02). -/
def lifeCycleRows : List Row :=
  [
    row 0x2010 0x01 1 1 0x1 .enum8 .gRead .basic .no 0 [],  -- DeviceState
    row 0x2010 0x02 1 1 0x1 .enum8 .gRead .basic .no 0 [],  -- PreviousState
    row 0x2010 0x03 1 1 0x1 .u64 .gRead .basic .no 0 [],  -- StateEntryTime
    row 0x2010 0x04 1 1 0x1 .enum8 .gRead .basic .no 0 [],  -- LastResetCause
    row 0x2010 0x05 1 1 0x1 .u32 .gRead .basic .keep 0 [],  -- BootCount
    row 0x2010 0x06 1 1 0x1 .u16 .gRead .basic .keep 0 [],  -- HaltCause
    row 0x2010 0x07 1 1 0x1 .u8 .gRead .expert .keep 0 [],  -- HaltRepeatCount
    row 0x2011 0x01 1 1 0x1 .enum8 .aWrite .basic .no 0 [⟨1, 4, 1⟩],  -- LifeCycleRequest
    row 0x2012 0x01 1 1 0x1 .enum8 .gRead .basic .keep 0 [],  -- ActiveFirmwareSlot
    row 0x2012 0x02 1 1 0x1 .enum8 .gRead .basic .keep 0 [],  -- TrialState
    row 0x2012 0x03 1 1 0x1 .u16 .aLock .expert .stored 300 [⟨60, 3600, 1⟩],  -- TrialConfirmTime
    row 0x2012 0x04 1 1 0x1 .u8 .aLock .expert .stored 3 [⟨1, 5, 1⟩]  -- TrialBootLimit
  ] ++
  [
    row 0x2013 0x01 1 1 0x1 .u16 .aLock .expert .stored 2000 [⟨500, 10000, 1⟩]  -- WatchdogTimeout
  ]

/-- Entries 2020h to 202Fh (03). -/
def modesRows : List Row :=
  [
    row 0x2020 0x01 1 1 0x1 .enum8 .gRead .basic .no 0 [],  -- EnergyFit
    row 0x2020 0x02 1 1 0x1 .enum8 .admin .basic .stored 1 [⟨0, 2, 1⟩],  -- OutagePolicy
    row 0x2020 0x03 1 1 0x1 .enum8 .gRead .basic .no 0 [],  -- GeyserActivity
    row 0x2020 0x04 1 1 0x1 .enum8 .gRead .basic .no 0 [],  -- GroupRole
    row 0x2020 0x05 1 1 0x1 .enum8 .aLock .basic .stored 1 [⟨0, 2, 1⟩],  -- VideoMode
    row 0x2020 0x06 1 1 0x1 .enum8 .aLock .basic .stored 1 [⟨0, 1, 1⟩],  -- Encryption
    row 0x2020 0x07 1 1 0x1 .enum8 .gRead .basic .no 1 [],  -- HostAttach
    row 0x2020 0x08 1 1 0x1 .enum8 .gRead .basic .no 0 [],  -- ControlLevel
    row 0x2020 0x09 1 1 0x1 .enum8 .gRead .basic .no 0 [],  -- OutagePolicyEffective
    row 0x2021 0x01 1 1 0x1 .u32 .aWrite .basic .no 0 [],  -- ExpertOpen
    row 0x2021 0x02 1 1 0x1 .u8 .gRead .basic .no 255 [],  -- ExpertHolder
    row 0x2021 0x03 1 1 0x1 .u16 .admin .expert .stored 600 [⟨60, 3600, 1⟩]  -- ExpertIdleTimeout
  ]

/-- Entries 2030h to 20FFh (04). -/
def lockRows : List Row :=
  [
    row 0x2030 0x01 1 1 0x1 .enum8 .admin .basic .no 0 [⟨0, 1, 1⟩],  -- ConfigLock
    row 0x2030 0x02 1 1 0x1 .enum8 .gRead .basic .no 0 [],  -- StoreState
    row 0x2030 0x03 1 1 0x1 .u32 .gRead .expert .keep 0 []  -- StoreCount
  ]

/-- Entries 2100h to 21FFh (01 and 02). -/
def timeRows : List Row :=
  [
    row 0x2100 0x01 1 1 0x1 .u64 .gRead .basic .no 0 [],  -- TimeBase
    row 0x2100 0x02 1 1 0x1 .u32 .admin .basic .no 0 [],  -- WallClockSeconds
    row 0x2100 0x03 1 1 0x1 .u16 .admin .basic .no 0 [],  -- WallClockFraction
    row 0x2100 0x04 1 1 0x1 .enum8 .gRead .basic .no 0 [],  -- TimeSource
    row 0x2101 0x01 11 1 0x1 .enum8 .gRead .expert .no 0 [],  -- IslandState
    row 0x2102 0x01 1 1 0x1 .u16 .gRead .basic .no 3 [],  -- BringUpFlags
    row 0x2102 0x02 1 1 0x1 .u8 .gRead .expert .no 1 [],  -- BootStep
    row 0x2102 0x03 1 1 0x1 .u32 .gRead .basic .no 0 [],  -- BootDuration
    row 0x2102 0x04 1 1 0x1 .u32 .gRead .basic .no 0 [],  -- RestoreSlotsTotal
    row 0x2102 0x05 1 1 0x1 .u32 .gRead .basic .no 0 [],  -- RestoreSlotsDone
    row 0x2102 0x06 1 1 0x1 .u32 .gRead .basic .no 0 [],  -- RestoreRemaining
    row 0x2102 0x07 1 1 0x1 .u32 .gRead .expert .no 0 []  -- OnDemandFetches
  ] ++
  [
    row 0x2102 0x08 1 1 0x1 .u16 .aLock .expert .stored 2000 [⟨100, 60000, 1⟩]  -- InputQualifyTimeout
  ]

/-- Entries 2200h to 23FFh (05). -/
def hostRows : List Row :=
  [
    row 0x2200 0x01 1 1 0x1 .enum8 .gRead .basic .no 0 [],  -- LinkState
    row 0x2200 0x02 1 1 0x1 .enum8 .gRead .basic .no 0 [],  -- LinkSpeed
    row 0x2200 0x03 1 1 0x1 .u8 .gRead .basic .no 0 [],  -- LinkWidth
    row 0x2200 0x04 1 1 0x1 .enum8 .aLock .expert .stored 3 [⟨1, 3, 1⟩],  -- MaxLinkSpeed
    row 0x2200 0x05 1 1 0x1 .u8 .gRead .basic .no 0 []  -- VfsEnabled
  ]

/-- Entries 2400h to 24FFh (06). -/
def cacheRows : List Row :=
  [
    row 0x2400 0x01 1 1 0x1 .u32 .gRead .basic .no 0 [],  -- UsableSlots
    row 0x2400 0x02 1 1 0x1 .u32 .gRead .expert .no 0 [],  -- FreeSlots
    row 0x2400 0x03 1 1 0x1 .u32 .gRead .basic .no 0 [],  -- DirtySlotsTotal
    row 0x2400 0x04 1 1 0x1 .u32 .gRead .expert .no 0 [],  -- CleanSlotsTotal
    row 0x2400 0x05 1 1 0x1 .u8 .aLock .basic .stored 15 [⟨0, 15, 1⟩],  -- VideoTenant
    row 0x2400 0x06 1 1 0x1 .u16 .gRead .expert .no 0 [],  -- VolumeHandlesUsed
    row 0x2400 0x07 1 1 0x1 .u16 .aLock .expert .stored 900 [⟨500, 1000, 1⟩],  -- DirtySlotLimit
    row 0x2410 0x01 1 1 0x1 .u32 .gRead .basic .no 0 [],  -- EgTotal
    row 0x2410 0x02 1 1 0x1 .u32 .gRead .basic .no 0 [],  -- DmaxMiB
    row 0x2410 0x03 1 1 0x1 .u32 .gRead .basic .no 0 [],  -- DirtyCeiling
    row 0x2410 0x04 1 1 0x1 .u32 .gRead .expert .no 0 [],  -- FreeRoom
    row 0x2410 0x05 1 1 0x1 .enum8 .gRead .basic .no 3 []  -- AdmissionStage
  ] ++
  [
    row 0x2410 0x06 1 1 0x1 .u32 .gRead .expert .no 0 [],  -- PublicationSequence
    row 0x2410 0x07 1 1 0x1 .u32 .gRead .expert .no 0 [],  -- NextRecompute
    row 0x2410 0x08 1 1 0x1 .u32 .gRead .basic .no 0 [],  -- ImageBackedSlots
    row 0x2420 0x01 1 1 0x1 .u16 .aLock .expert .stored 18 [⟨5, 500, 1⟩],  -- EFixed
    row 0x2420 0x02 1 1 0x1 .u16 .aLock .expert .stored 150 [⟨50, 500, 1⟩],  -- GuardFraction
    row 0x2420 0x03 1 1 0x1 .u32 .gRead .basic .keep 6000 [],  -- EByte
    row 0x2420 0x04 1 1 0x1 .enum8 .aLock .expert .stored 1 [⟨0, 1, 1⟩],  -- EByteLearning
    row 0x2420 0x05 1 1 0x1 .enum8 .aWrite .expert .no 0 [⟨1, 1, 1⟩],  -- EByteReset
    row 0x2420 0x06 1 1 0x1 .u16 .admin .expert .stored 50 [⟨0, 200, 1⟩]  -- ReturnHysteresis
  ]

/-- Entries 2500h to 257Fh (07 and 08). -/
def packRows : List Row :=
  [
    row 0x2500 0x01 1 1 0x1 .enum8 .aLock .basic .stored 0 [⟨0, 2, 1⟩],  -- PackChemistry
    row 0x2500 0x02 1 1 0x1 .u8 .aLock .basic .stored 2 [⟨1, 4, 1⟩],  -- PackCells
    row 0x2500 0x03 1 1 0x1 .u16 .aLock .basic .stored 3000 [⟨500, 10000, 1⟩],  -- PackDesignCapacity
    row 0x2500 0x04 1 1 0x1 .u16 .aLock .expert .stored 4100 [⟨4000, 4200, 1⟩],  -- PackChargeVoltage
    row 0x2500 0x05 1 1 0x1 .u16 .aLock .basic .stored 500 [⟨50, 1000, 1⟩],  -- PackChargeCurrent
    row 0x2500 0x06 1 1 0x1 .u16 .aLock .expert .stored 50 [⟨10, 200, 1⟩],  -- PackTaperCurrent
    row 0x2500 0x07 1 1 0x1 .u16 .aLock .expert .stored 60 [⟨10, 600, 1⟩],  -- PackTaperTime
    row 0x2500 0x08 1 1 0x1 .u16 .aLock .expert .stored 100 [⟨20, 300, 1⟩],  -- PackRechargeDelta
    row 0x2500 0x09 1 1 0x1 .u16 .aLock .basic .stored 5000 [⟨500, 50000, 1⟩],  -- PackShunt
    row 0x2500 0x0A 1 1 0x1 .u16 .aLock .expert .stored 3435 [⟨2500, 5000, 1⟩],  -- PackNtcBeta
    row 0x2500 0x0B 1 1 0x1 .u16 .aLock .basic .stored 3000 [⟨100, 10000, 1⟩],  -- PackChargerFullScale
    row 0x2500 0x0C 1 1 0x1 .u16 .admin .expert .stored 10 [⟨1, 100, 1⟩]  -- ChargeVoltageSlew
  ] ++
  [
    row 0x2500 0x0D 1 1 0x1 .enum8 .aWrite .basic .no 0 [⟨1, 1, 1⟩],  -- PackClearFault
    row 0x2501 0x01 1 1 0x1 .enum8 .gRead .basic .no 0 [],  -- ChargePhase
    row 0x2501 0x02 1 1 0x1 .u16 .gRead .basic .no 1 [],  -- InhibitCause
    row 0x2501 0x03 1 1 0x1 .u16 .gRead .expert .no 0 [],  -- ChargeTarget
    row 0x2501 0x04 1 1 0x1 .u16 .gRead .expert .no 0 [],  -- ChargeTargetFinal
    row 0x2501 0x05 1 1 0x1 .u16 .gRead .expert .no 0 [],  -- IsetCode
    row 0x2501 0x06 1 1 0x1 .u16 .gRead .basic .keep 0 [],  -- ChannelFault
    row 0x2510 0x01 1 1 0x1 .u16 .gRead .expert .no 0 [],  -- InternalSoc
    row 0x2510 0x02 1 1 0x1 .u16 .gRead .basic .no 0 [],  -- ReportedSoc
    row 0x2510 0x03 1 1 0x1 .u16 .gRead .basic .keep 0 [],  -- FullChargeCapacity
    row 0x2510 0x04 1 1 0x1 .u16 .gRead .basic .no 0 [],  -- StateOfHealth
    row 0x2510 0x05 1 1 0x1 .u32 .gRead .basic .keep 0 []  -- CycleCount
  ] ++
  [
    row 0x2510 0x06 1 1 0x1 .u32 .gRead .basic .no 0 [],  -- GuaranteedEnergy
    row 0x2510 0x07 1 1 0x1 .u16 .gRead .basic .no 0 [],  -- Voltage
    row 0x2510 0x08 1 1 0x1 .i32 .gRead .basic .no 0 [],  -- Current
    row 0x2510 0x09 1 1 0x1 .i16 .gRead .basic .no 0 [],  -- Temperature
    row 0x2510 0x0A 1 1 0x1 .u64 .gRead .expert .no 0 [],  -- CoulombCounter
    row 0x2510 0x0B 1 1 0x1 .u16 .gRead .expert .no 0 [],  -- SocUncertainty
    row 0x2510 0x0C 1 1 0x1 .enum8 .gRead .basic .no 0 [],  -- EstimatorMode
    row 0x2510 0x0D 1 1 0x1 .u16 .gRead .expert .keep 0 [],  -- QuarantinedCapacity
    row 0x2510 0x0E 1 1 0x1 .u16 .gRead .basic .keep 0 [],  -- DaysSinceLearn
    row 0x2510 0x0F 1 1 0x1 .enum8 .gRead .basic .no 0 [],  -- GeyserState
    row 0x2510 0x10 1 1 0x1 .u16 .gRead .expert .no 0 [],  -- Resistance
    row 0x2511 0x01 1 1 0x1 .u16 .aLock .expert .stored 3200 [⟨2500, 3400, 1⟩]  -- EodVoltage
  ] ++
  [
    row 0x2511 0x02 1 1 0x1 .u16 .admin .expert .stored 10 [⟨1, 100, 1⟩],  -- ReportedSocSlew
    row 0x2511 0x03 1 1 0x1 .u16 .aLock .basic .stored 90 [⟨0, 0, 1⟩, ⟨7, 365, 1⟩],  -- GeyserInterval
    row 0x2511 0x04 1 1 0x1 .u16 .aLock .expert .stored 200 [⟨100, 500, 1⟩],  -- GeyserCurrent
    row 0x2511 0x05 1 1 0x1 .u16 .admin .expert .stored 0 [⟨0, 1439, 1⟩],  -- GeyserWindowStart
    row 0x2511 0x06 1 1 0x1 .u16 .admin .expert .stored 0 [⟨0, 1439, 1⟩],  -- GeyserWindowEnd
    row 0x2511 0x07 1 1 0x1 .enum8 .aWrite .basic .no 0 [⟨1, 2, 1⟩],  -- GeyserRequest
    row 0x2511 0x08 1 1 0x1 .u16 .aLock .expert .stored 30 [⟨1, 3650, 1⟩],  -- AssumedSleepDays
    row 0x2511 0x09 1 1 0x1 .u16 .admin .expert .stored 7000 [⟨3000, 9500, 1⟩],  -- HealthWarnLevel
    row 0x2511 0x0A 1 1 0x1 .enum8 .aWrite .basic .no 0 [⟨1, 1, 1⟩],  -- ChannelReset
    row 0x2570 0x01 1 1 0x1 .enum8 .aLock .expert .stored 0 [⟨0, 1, 1⟩],  -- ChargeSequence
    row 0x2570 0x02 1 1 0x1 .u8 .aLock .basic .stored 255 [⟨0, 7, 1⟩, ⟨255, 255, 1⟩],  -- PackSourceGate
    row 0x2570 0x03 1 1 0x1 .u8 .aLock .basic .stored 255 [⟨0, 7, 1⟩, ⟨255, 255, 1⟩]  -- BankSourceGate
  ] ++
  [
    row 0x2570 0x04 1 1 0x1 .u8 .aLock .basic .stored 255 [⟨0, 3, 1⟩, ⟨255, 255, 1⟩],  -- AssistTrim
    row 0x2570 0x05 1 1 0x1 .enum8 .gRead .basic .no 0 [],  -- HoldState
    row 0x2570 0x06 1 1 0x1 .u16 .aLock .basic .stored 8000 [⟨1000, 40000, 1⟩],  -- SaveLoadPower
    row 0x2572 0x01 6 1 0x1 .u16 .aLock .expert .stored 900 [⟨500, 1000, 1⟩]  -- HoldEfficiency
  ]

/-- Entries 2580h to 25FFh (07 and 08). -/
def bankRows : List Row :=
  [
    row 0x2580 0x01 1 1 0x1 .u8 .aLock .basic .stored 0 [⟨0, 0, 1⟩, ⟨2, 6, 1⟩],  -- BankCells
    row 0x2580 0x02 1 1 0x1 .u16 .aLock .basic .stored 50 [⟨1, 3000, 1⟩],  -- BankCellCapacitance
    row 0x2580 0x03 1 1 0x1 .u16 .aLock .basic .stored 2700 [⟨2000, 3000, 1⟩],  -- BankCellVoltage
    row 0x2580 0x04 1 1 0x1 .u16 .aLock .basic .stored 2500 [⟨100, 10000, 1⟩],  -- BankChargeCurrent
    row 0x2580 0x05 1 1 0x1 .u16 .aLock .basic .stored 4200 [⟨1000, 15000, 1⟩],  -- BankFloorVoltage
    row 0x2580 0x06 1 1 0x1 .u16 .aLock .expert .stored 20 [⟨5, 100, 1⟩],  -- BalanceThreshold
    row 0x2580 0x07 1 1 0x1 .u16 .aLock .basic .stored 5000 [⟨500, 50000, 1⟩],  -- BankShunt
    row 0x2580 0x08 1 1 0x1 .u16 .aLock .expert .stored 3435 [⟨2500, 5000, 1⟩],  -- BankNtcBeta
    row 0x2580 0x09 1 1 0x1 .u16 .aLock .basic .stored 5000 [⟨100, 10000, 1⟩],  -- BankChargerFullScale
    row 0x2580 0x0A 1 1 0x1 .enum8 .aWrite .basic .no 0 [⟨1, 1, 1⟩],  -- BankClearFault
    row 0x2581 0x01 1 1 0x1 .enum8 .gRead .basic .no 0 [],  -- ChargePhase
    row 0x2581 0x02 1 1 0x1 .u16 .gRead .basic .no 1 []  -- InhibitCause
  ] ++
  [
    row 0x2581 0x03 1 1 0x1 .u16 .gRead .expert .no 0 [],  -- ChargeTarget
    row 0x2581 0x04 1 1 0x1 .u16 .gRead .expert .no 0 [],  -- ChargeTargetFinal
    row 0x2581 0x05 1 1 0x1 .u16 .gRead .expert .no 0 [],  -- IsetCode
    row 0x2581 0x06 1 1 0x1 .u16 .gRead .basic .keep 0 [],  -- ChannelFault
    row 0x2581 0x07 1 1 0x1 .u8 .gRead .expert .no 0 [],  -- BalanceActive
    row 0x2590 0x01 1 1 0x1 .u16 .gRead .expert .no 0 [],  -- InternalSoc
    row 0x2590 0x02 1 1 0x1 .u16 .gRead .basic .no 0 [],  -- ReportedSoc
    row 0x2590 0x03 1 1 0x1 .u32 .gRead .basic .keep 0 [],  -- FullChargeCapacity
    row 0x2590 0x04 1 1 0x1 .u16 .gRead .basic .no 0 [],  -- StateOfHealth
    row 0x2590 0x05 1 1 0x1 .u32 .gRead .basic .keep 0 [],  -- CycleCount
    row 0x2590 0x06 1 1 0x1 .u32 .gRead .basic .no 0 [],  -- GuaranteedEnergy
    row 0x2590 0x07 1 1 0x1 .u16 .gRead .basic .no 0 []  -- Voltage
  ] ++
  [
    row 0x2590 0x08 1 1 0x1 .i32 .gRead .basic .no 0 [],  -- Current
    row 0x2590 0x09 1 1 0x1 .i16 .gRead .basic .no 0 [],  -- Temperature
    row 0x2590 0x0A 1 1 0x1 .u64 .gRead .expert .no 0 [],  -- CoulombCounter
    row 0x2590 0x0B 1 1 0x1 .u16 .gRead .expert .no 0 [],  -- SocUncertainty
    row 0x2590 0x0C 1 1 0x1 .enum8 .gRead .basic .no 0 [],  -- EstimatorMode
    row 0x2590 0x0D 1 1 0x1 .u32 .gRead .expert .keep 0 [],  -- QuarantinedCapacity
    row 0x2590 0x0E 1 1 0x1 .u16 .gRead .basic .keep 0 [],  -- DaysSinceLearn
    row 0x2590 0x0F 1 1 0x1 .enum8 .gRead .basic .no 0 [],  -- GeyserState
    row 0x2590 0x10 1 1 0x1 .u16 .gRead .expert .no 0 [],  -- Resistance
    row 0x2591 0x02 1 1 0x1 .u16 .admin .expert .stored 10 [⟨1, 100, 1⟩],  -- ReportedSocSlew
    row 0x2591 0x03 1 1 0x1 .u16 .aLock .basic .stored 90 [⟨0, 0, 1⟩, ⟨7, 365, 1⟩],  -- GeyserInterval
    row 0x2591 0x04 1 1 0x1 .u16 .aLock .expert .stored 1000 [⟨100, 10000, 1⟩]  -- GeyserCurrent
  ] ++
  [
    row 0x2591 0x05 1 1 0x1 .u16 .admin .expert .stored 0 [⟨0, 1439, 1⟩],  -- GeyserWindowStart
    row 0x2591 0x06 1 1 0x1 .u16 .admin .expert .stored 0 [⟨0, 1439, 1⟩],  -- GeyserWindowEnd
    row 0x2591 0x07 1 1 0x1 .enum8 .aWrite .basic .no 0 [⟨1, 2, 1⟩],  -- GeyserRequest
    row 0x2591 0x08 1 1 0x1 .u16 .aLock .expert .stored 30 [⟨1, 3650, 1⟩],  -- AssumedSleepDays
    row 0x2591 0x09 1 1 0x1 .u16 .admin .expert .stored 7000 [⟨3000, 9500, 1⟩],  -- HealthWarnLevel
    row 0x2591 0x0A 1 1 0x1 .enum8 .aWrite .basic .no 0 [⟨1, 1, 1⟩],  -- ChannelReset
    row 0x25F2 0x01 6 1 0x1 .u16 .aLock .expert .stored 900 [⟨500, 1000, 1⟩]  -- HoldEfficiency
  ]

/-- Entries 2600h to 26FFh (09). -/
def railsRows : List Row :=
  [
    row 0x2600 0x01 1 1 0x1 .enum8 .gRead .basic .no 0 [],  -- ScanPrecision
    row 0x2600 0x02 1 1 0x1 .i16 .gRead .basic .no 0 [],  -- DieTemperature
    row 0x2600 0x03 1 1 0x1 .u16 .gRead .basic .no 0 [],  -- VkeepVoltage
    row 0x2600 0x04 1 1 0x1 .i16 .aLock .expert .stored 100 [⟨60, 115, 1⟩],  -- DieTempWarn
    row 0x2600 0x05 1 1 0x1 .u16 .aLock .expert .stored 2600 [⟨2300, 3500, 1⟩],  -- VkeepWarn
    row 0x2610 0x01 1 12 0x1 .u16 .aLock .basic .stored 0 [⟨0, 0, 1⟩, ⟨500, 15000, 1⟩],  -- Nominal
    row 0x2610 0x02 1 12 0x1 .u16 .aLock .basic .stored 1000 [⟨1000, 20000, 1⟩],  -- DividerRatio
    row 0x2610 0x03 1 12 0x1 .u16 .aLock .expert .stored 925 [⟨700, 990, 1⟩],  -- UvLevel
    row 0x2610 0x04 1 12 0x1 .u16 .aLock .expert .stored 1075 [⟨1010, 1300, 1⟩],  -- OvLevel
    row 0x2610 0x05 1 12 0x1 .u8 .aLock .expert .stored 1 [⟨1, 8, 1⟩],  -- FilterCount
    row 0x2610 0x06 1 12 0x1 .u16 .aLock .expert .stored 500 [⟨200, 800, 1⟩],  -- ShortLevel
    row 0x2610 0x07 1 12 0x1 .u16 .aLock .expert .stored 1150 [⟨1050, 1400, 1⟩]  -- OvTripLevel
  ] ++
  [
    row 0x2610 0x08 1 12 0x1 .enum8 .aLock .basic .stored 0 [⟨0, 2, 1⟩],  -- Source
    row 0x2610 0x09 1 12 0x1 .u8 .aLock .basic .stored 255 [⟨0, 7, 1⟩, ⟨255, 255, 1⟩],  -- SourceNumber
    row 0x2610 0x0A 1 12 0x1 .u8 .aLock .basic .stored 0 [⟨0, 12, 1⟩],  -- UpPosition
    row 0x2610 0x0B 1 12 0x1 .enum8 .aLock .basic .stored 1 [⟨0, 4, 1⟩],  -- SaveGroup
    row 0x2610 0x0C 1 12 0x1 .u8 .aLock .basic .stored 0 [⟨0, 15, 1⟩],  -- CameraPorts
    row 0x2610 0x0D 1 12 0x1 .u8 .aLock .basic .stored 255 [⟨0, 11, 1⟩, ⟨255, 255, 1⟩],  -- Parent
    row 0x2610 0x0E 1 12 0x1 .enum8 .aLock .expert .stored 2 [⟨0, 2, 1⟩],  -- FaultAction
    row 0x2610 0x0F 1 12 0x1 .u16 .aLock .expert .stored 10 [⟨1, 5000, 1⟩],  -- FaultTime
    row 0x2610 0x10 1 12 0x1 .bool .admin .basic .no 0 [⟨0, 1, 1⟩],  -- Mask
    row 0x2610 0x11 1 12 0x1 .enum8 .aWrite .basic .no 0 [⟨0, 1, 1⟩],  -- Switch
    row 0x2610 0x12 1 12 0x1 .u16 .gRead .basic .no 0 [],  -- Voltage
    row 0x2610 0x13 1 12 0x1 .enum8 .gRead .basic .no 0 []  -- RailStatus
  ]

/-- Entries 2700h to 27FFh (09 and 10). -/
def sequencingRows : List Row :=
  [
    row 0x2700 0x01 1 1 0x1 .u16 .aLock .expert .stored 1 [⟨0, 100, 1⟩],  -- StepDelay
    row 0x2700 0x02 1 1 0x1 .u16 .aLock .expert .stored 5 [⟨1, 5, 1⟩],  -- EnableTimeout
    row 0x2700 0x03 1 1 0x1 .u16 .aLock .expert .stored 50 [⟨1, 1000, 1⟩],  -- DownStepTimeout
    row 0x2700 0x04 1 1 0x1 .u16 .aLock .expert .stored 100 [⟨50, 300, 1⟩],  -- OffLevel
    row 0x2700 0x05 1 1 0x1 .enum8 .gRead .basic .no 0 [],  -- SequenceState
    row 0x2700 0x06 1 1 0x1 .bool .gRead .basic .keep 0 [],  -- FaultLatched
    row 0x2710 0x01 1 8 0x1 .u16 .aLock .basic .stored 100 [⟨5, 2000, 1⟩],  -- Slew
    row 0x2710 0x02 1 8 0x1 .enum8 .gRead .basic .no 0 [],  -- GateState
    row 0x2710 0x03 1 8 0x1 .u16 .gRead .expert .no 0 [],  -- LagMax
    row 0x2720 0x01 1 4 0x1 .u16 .admin .basic .stored 512 [⟨0, 1023, 1⟩],  -- TrimTarget
    row 0x2720 0x02 1 4 0x1 .u16 .admin .expert .stored 100 [⟨1, 10000, 1⟩],  -- TrimSlew
    row 0x2720 0x03 1 4 0x1 .u16 .gRead .expert .no 512 []  -- TrimPresent
  ] ++
  [
    row 0x2730 0x01 1 4 0x1 .u8 .aLock .basic .stored 255 [⟨0, 11, 1⟩, ⟨255, 255, 1⟩],  -- ResetRail
    row 0x2730 0x02 1 4 0x1 .u16 .aLock .basic .stored 200 [⟨1, 1000, 1⟩],  -- StretchTime
    row 0x2730 0x03 1 4 0x1 .enum8 .aWrite .expert .no 0 [⟨1, 1, 1⟩],  -- ResetPulse
    row 0x2730 0x04 1 4 0x1 .enum8 .gRead .basic .no 0 [],  -- ResetState
    row 0x2740 0x01 1 1 0x1 .enum8 .aLock .basic .stored 0 [⟨0, 1, 1⟩],  -- TremorEnable
    row 0x2740 0x02 1 1 0x1 .u8 .aLock .basic .stored 12 [⟨1, 15, 1⟩],  -- GroupLength
    row 0x2740 0x03 1 1 0x1 .u8 .aLock .basic .stored 2 [⟨1, 15, 1⟩],  -- BootHoldState
    row 0x2740 0x04 1 1 0x1 .u16 .aLock .expert .stored 50 [⟨5, 5000, 1⟩],  -- StepTimeout
    row 0x2740 0x05 1 1 0x1 .u16 .aLock .expert .stored 1000 [⟨100, 10000, 1⟩],  -- BootHoldTimeout
    row 0x2740 0x06 1 1 0x1 .u16 .aLock .expert .stored 6000 [⟨100, 10000, 1⟩],  -- OutageStepTimeout
    row 0x2740 0x07 1 1 0x1 .u16 .aLock .expert .stored 5000 [⟨1000, 60000, 1⟩],  -- GatherTimeout
    row 0x2740 0x08 1 1 0x1 .u8 .gRead .basic .no 0 []  -- TremorState
  ] ++
  [
    row 0x2740 0x09 1 1 0x1 .enum8 .gRead .basic .no 0 [],  -- WalkState
    row 0x2740 0x0A 1 1 0x1 .bool .gRead .expert .no 0 []  -- LineLevel
  ]

/-- Entries 2800h to 28FFh (11). -/
def outageRows : List Row :=
  [
    row 0x2800 0x01 1 1 0x1 .u16 .aLock .basic .stored 8 [⟨1, 200, 1⟩],  -- WarnTime
    row 0x2800 0x02 1 1 0x1 .u16 .aLock .basic .stored 400 [⟨0, 5000, 1⟩],  -- DriveSettle
    row 0x2800 0x03 1 1 0x1 .u16 .aLock .expert .stored 1000 [⟨0, 5000, 1⟩],  -- DrvactWaitMax
    row 0x2800 0x04 1 1 0x1 .u8 .aLock .basic .stored 3 [⟨0, 3, 1⟩],  -- DrvactUse
    row 0x2800 0x05 1 1 0x1 .enum8 .gRead .basic .no 0 [],  -- OutagePhase
    row 0x2810 0x01 1 1 0x1 .u32 .aLock .basic .stored 1800 [⟨60, 259200, 1⟩],  -- SimmerTimer
    row 0x2810 0x02 1 1 0x1 .u16 .aLock .expert .stored 60 [⟨0, 3600, 1⟩],  -- SimmerMinimum
    row 0x2810 0x03 1 1 0x1 .u16 .aLock .expert .stored 1200 [⟨200, 10000, 1⟩],  -- SimmerBasePower
    row 0x2810 0x04 1 1 0x1 .u16 .aLock .expert .stored 900 [⟨0, 5000, 1⟩],  -- RecordPowerPerStream
    row 0x2810 0x05 1 1 0x1 .u16 .aLock .expert .stored 20 [⟨5, 1000, 1⟩],  -- SimmerMargin
    row 0x2810 0x06 1 1 0x1 .u32 .gRead .basic .no 0 [],  -- SinterDeadline
    row 0x2810 0x07 1 1 0x1 .u16 .gRead .expert .no 0 []  -- SimmerDrainPower
  ] ++
  [
    row 0x2820 0x01 1 1 0x1 .u16 .aLock .basic .stored 0 [],  -- OutageStreams
    row 0x2830 0x01 1 1 0x1 .u32 .aLock .basic .stored 60 [⟨1, 86400, 1⟩],  -- KeepTime
    row 0x2830 0x02 1 1 0x1 .u16 .aLock .expert .stored 200 [⟨0, 1000, 1⟩],  -- KeepFloorMargin
    row 0x2840 0x01 1 1 0x1 .u64 .gRead .basic .no 0 [],  -- LastSinterBytes
    row 0x2840 0x02 1 1 0x1 .u32 .gRead .basic .no 0 [],  -- LastSinterDuration
    row 0x2840 0x03 1 1 0x1 .u32 .gRead .expert .no 0 [],  -- LastSinterEnergy
    row 0x2840 0x04 1 1 0x1 .u32 .gRead .basic .no 0 []  -- LastSimmerDuration
  ]

/-- Entries 2900h to 29FFh (12). -/
def flashRows : List Row :=
  [
    row 0x2900 0x01 1 1 0x1 .enum8 .gRead .basic .no 0 [],  -- FlashInterface
    row 0x2900 0x02 1 1 0x1 .u16 .gRead .basic .no 0 [],  -- InterfaceRate
    row 0x2900 0x03 1 1 0x1 .u16 .aLock .expert .stored 400 [⟨100, 100, 1⟩, ⟨200, 200, 1⟩, ⟨267, 267, 1⟩, ⟨333, 333, 1⟩, ⟨400, 400, 1⟩],  -- MaxInterfaceRate
    row 0x2900 0x04 1 1 0x1 .u8 .gRead .basic .no 0 [],  -- ActiveDies
    row 0x2900 0x05 1 1 0x1 .u8 .gRead .basic .no 0 [],  -- StripeWidth
    row 0x2900 0x06 1 1 0x1 .u8 .aLock .expert .stored 0 [],  -- SlcFeatureAddress
    row 0x2900 0x07 1 1 0x1 .u32 .aLock .expert .stored 0 [],  -- SlcFeatureValue
    row 0x2900 0x08 1 1 0x1 .u16 .aLock .expert .stored 0 [⟨0, 0, 1⟩, ⟨64, 4096, 1⟩],  -- SlcPagesPerBlock
    row 0x2901 0x01 1 1 0x1 .u32 .gRead .expert .no 0 [],  -- ErasedSlots
    row 0x2901 0x02 1 1 0x1 .u32 .gRead .basic .no 0 [],  -- SinterSpace
    row 0x2901 0x03 1 1 0x1 .u32 .gRead .expert .no 0 [],  -- StalePages
    row 0x2901 0x04 1 1 0x1 .u8 .gRead .basic .no 0 []  -- ChainDepth
  ] ++
  [
    row 0x2901 0x05 1 1 0x1 .u32 .gRead .basic .no 0 [],  -- TopEpoch
    row 0x2901 0x06 1 1 0x1 .u64 .gRead .expert .no 0 [],  -- ManifestSequence
    row 0x2901 0x07 1 1 0x1 .u8 .aLock .expert .stored 8 [⟨2, 16, 1⟩],  -- ReleaseDepth
    row 0x2901 0x08 1 1 0x1 .u16 .aLock .expert .stored 250 [⟨0, 1000, 1⟩],  -- ReleaseFraction
    row 0x2901 0x09 1 1 0x1 .enum8 .gRead .basic .no 0 [],  -- ImageState
    row 0x2901 0x0A 1 1 0x1 .enum8 .aWrite .expert .no 0 [⟨1, 1, 1⟩],  -- ReleaseRequest
    row 0x2902 0x01 1 1 0x1 .u16 .aLock .expert .stored 20 [⟨5, 100, 1⟩],  -- BadBlockLimit
    row 0x2902 0x02 1 1 0x1 .u8 .aLock .expert .stored 8 [⟨1, 64, 1⟩],  -- RebuildLimit
    row 0x2910 0x01 1 16 0x1 .enum8 .gRead .basic .no 0 [],  -- DieState
    row 0x2910 0x02 1 16 0x1 .enum8 .aWrite .expert .no 0 [⟨1, 2, 1⟩],  -- DieCommand
    row 0x2910 0x03 1 16 0x1 .u32 .gRead .expert .no 0 [],  -- EraseCountMax
    row 0x2910 0x04 1 16 0x1 .u16 .gRead .basic .no 0 []  -- GrownBadBlocks
  ] ++
  [
    row 0x2910 0x05 1 16 0x1 .u16 .gRead .expert .no 0 [],  -- RebuildCount
    row 0x2910 0x06 1 16 0x1 .enum8 .gRead .basic .no 0 [],  -- RetireCause
    row 0x2910 0x07 1 16 0x1 .u16 .gRead .basic .no 0 []  -- ProbationProgress
  ]

/-- Entries 2A00h to 2BFFh (13 and 14). -/
def videoRows : List Row :=
  [
    row 0x2A00 0x01 1 1 0x1 .u16 .gRead .basic .no 0 [],  -- PixelBudget
    row 0x2A00 0x02 1 1 0x1 .u16 .gRead .basic .no 0 [],  -- EntropyBudget
    row 0x2A00 0x03 1 1 0x1 .u32 .gRead .expert .no 0 [],  -- PoolUsed
    row 0x2A00 0x04 1 1 0x1 .u16 .gRead .expert .no 0 [],  -- SyntaxRingFill
    row 0x2A00 0x05 1 1 0x1 .u16 .admin .expert .stored 750 [⟨500, 950, 1⟩],  -- SyntaxRingHighMark
    row 0x2A00 0x06 1 1 0x1 .u8 .admin .expert .stored 2 [⟨0, 6, 1⟩],  -- BackpressureQpStep
    row 0x2A10 0x01 1 4 0x1 .u8 .aLock .basic .stored 2 [⟨1, 2, 1⟩],  -- LaneCount
    row 0x2A10 0x02 1 4 0x1 .u16 .gRead .basic .no 0 [],  -- LaneRate
    row 0x2A10 0x03 1 4 0x1 .u16 .aLock .basic .stored 400 [⟨100, 100, 1⟩, ⟨400, 400, 1⟩],  -- CciRate
    row 0x2A10 0x04 1 4 0x1 .enum8 .gRead .basic .no 0 [],  -- PortState
    row 0x2A10 0x05 1 4 0x1 .u32 .gRead .expert .no 0 [],  -- PacketErrors
    row 0x2A10 0x06 1 4 0x1 .u32 .gRead .expert .no 0 []  -- UnknownPackets
  ] ++
  [
    row 0x2A20 0x01 1 4 0x1 .u32 .aLock .basic .stored 40000 [⟨16667, 1000000, 1⟩],  -- GroupPeriod
    row 0x2A20 0x02 1 4 0x1 .u32 .aLock .expert .stored 5000 [],  -- Tolerance
    row 0x2A20 0x03 1 4 0x1 .u8 .aLock .expert .stored 50 [⟨1, 255, 1⟩],  -- UnderrunLimit
    row 0x2A20 0x04 1 4 0x1 .u32 .gRead .expert .no 0 [],  -- TickCount
    row 0x2A40 0x01 1 2 0x1 .enum8 .aWrite .basic .no 0 [⟨1, 3, 1⟩],  -- Control
    row 0x2A40 0x02 1 2 0x1 .enum8 .admin .basic .no 0 [⟨0, 1, 1⟩],  -- Source
    row 0x2A40 0x03 1 2 0x1 .u8 .admin .basic .no 0 [⟨0, 15, 1⟩],  -- SourceStream
    row 0x2A40 0x04 1 2 0x1 .u32 .admin .basic .no 0 [],  -- SourceSegment
    row 0x2A40 0x05 1 2 0x1 .u64 .admin .basic .no 0 [⟨0, 18446744073709547520, 4096⟩],  -- InputRingBase
    row 0x2A40 0x06 1 2 0x1 .u32 .admin .basic .no 0 [⟨0, 0, 1⟩, ⟨65536, 65536, 1⟩, ⟨131072, 131072, 1⟩, ⟨262144, 262144, 1⟩, ⟨524288, 524288, 1⟩, ⟨1048576, 1048576, 1⟩, ⟨2097152, 2097152, 1⟩, ⟨4194304, 4194304, 1⟩, ⟨8388608, 8388608, 1⟩, ⟨16777216, 16777216, 1⟩],  -- InputRingSize
    row 0x2A40 0x07 1 2 0x1 .u64 .admin .basic .no 0 [⟨0, 18446744073709551584, 32⟩],  -- IndexAddress
    row 0x2A40 0x08 1 2 0x1 .u64 .admin .basic .no 0 [⟨0, 18446744073709547520, 4096⟩]  -- OutputRingBase
  ] ++
  [
    row 0x2A40 0x09 1 2 0x1 .u32 .admin .basic .no 0 [⟨0, 0, 1⟩, ⟨65536, 65536, 1⟩, ⟨131072, 131072, 1⟩, ⟨262144, 262144, 1⟩, ⟨524288, 524288, 1⟩, ⟨1048576, 1048576, 1⟩, ⟨2097152, 2097152, 1⟩, ⟨4194304, 4194304, 1⟩, ⟨8388608, 8388608, 1⟩, ⟨16777216, 16777216, 1⟩],  -- OutputRingSize
    row 0x2A40 0x0A 1 2 0x1 .enum8 .gRead .basic .no 0 [],  -- State
    row 0x2A40 0x0B 1 2 0x1 .u8 .gRead .basic .no 0 [],  -- ErrorCode
    row 0x2A40 0x0C 1 2 0x1 .u32 .gRead .basic .no 0 [],  -- PicturesDecoded
    row 0x2A40 0x0D 1 2 0x1 .u32 .admin .basic .stored 20000 [⟨64, 62500, 1⟩],  -- InputBitrateMax
    row 0x2A40 0x0E 1 2 0x1 .u32 .admin .basic .stored 62208 [⟨1000, 522240, 1⟩]  -- DecodePixelRate
  ]

/-- Entries 2C00h to 2CFFh (15 and 04). -/
def eventsRows : List Row :=
  [
    row 0x2C00 0x01 1 1 0x1 .u32 .gRead .expert .no 0 [],  -- LogWritten
    row 0x2C00 0x02 1 1 0x1 .u16 .admin .expert .stored 1000 [⟨0, 0, 1⟩, ⟨10, 60000, 1⟩],  -- CoalesceWindow
    row 0x2C00 0x03 1 1 0x1 .u16 .gRead .basic .no 0 [],  -- LogFill
    row 0x2C00 0x04 1 1 0x1 .u32 .gRead .expert .no 0 [],  -- EmcyDroppedCount
    row 0x2C00 0x05 1 1 0x1 .enum8 .aWrite .basic .no 0 [⟨1, 1, 1⟩],  -- ClearLog
    row 0x2C00 0x10 144 1 0x1 .u32 .aRead .basic .no 0 []  -- AccessRefusals
  ]

/-- Entries 2E00h to 2E0Fh (04). -/
def windowsRows : List Row :=
  [
    row 0x2E00 0x01 1 7 0x1 .u32 .admin .basic .no 0 [],  -- Target
    row 0x2E00 0x02 1 7 0x1 .u32 .admin .basic .no 0 [],  -- Offset
    row 0x2E00 0x03 1 7 0x1 .u32 .admin .basic .no 0 [],  -- Length
    row 0x2E00 0x04 1 7 0x1 .u32 .admin .basic .no 0 [],  -- Data
    row 0x2E00 0x05 1 7 0x1 .enum8 .aWrite .basic .no 0 [⟨1, 4, 1⟩],  -- Control
    row 0x2E00 0x06 1 7 0x1 .enum8 .aRead .basic .no 0 [],  -- Status
    row 0x2E00 0x07 1 7 0x1 .u32 .admin .basic .no 0 [],  -- Crc
    row 0x2E00 0x08 1 7 0x1 .u8 .aRead .basic .no 255 []  -- Owner
  ]

/-- Entries 2F00h to 2FFFh (04 and 12). -/
def securityRows : List Row :=
  [
    row 0x2F00 0x01 1 1 0x1 .u32 .aWrite .expert .stored 0 [],  -- ExpertCode
    row 0x2F00 0x02 1 1 0x1 .bool .gRead .basic .no 0 [],  -- ExpertCodeSet
    row 0x2F00 0x03 1 1 0x1 .u16 .gRead .basic .no 0 [],  -- ExpertLockout
    row 0x2F10 0x01 1 1 0x1 .u8 .aWriteLock .basic .no 0 [⟨0, 15, 1⟩, ⟨255, 255, 1⟩],  -- Sanitize
    row 0x2F10 0x02 1 1 0x1 .enum8 .gRead .basic .no 0 []  -- SanitizeState
  ]

/-- Entries 3000h to 3FFFh (03, 05, 06, 12, 15). -/
def tenantRows : List Row :=
  [
    row 0x3010 0x01 1 16 0x100 .enum8 .ta .basic .stored 0 [⟨0, 2, 1⟩],  -- CachePolicy
    row 0x3010 0x02 1 16 0x100 .bool .ta .basic .stored 0 [⟨0, 1, 1⟩],  -- PreSinter
    row 0x3010 0x03 1 16 0x100 .enum8 .taRead .basic .no 0 [],  -- CachePolicyEffective
    row 0x3020 0x01 1 16 0x100 .u8 .aLock .basic .stored 4 [⟨1, 4, 1⟩],  -- QueuePairsAllowed
    row 0x3020 0x02 1 16 0x100 .u64 .taRead .expert .no 0 [],  -- CommandsCompleted
    row 0x3020 0x03 1 16 0x100 .u32 .taRead .basic .no 0 [],  -- ThrottledCount
    row 0x3020 0x04 1 16 0x100 .u32 .taRead .basic .no 0 [],  -- FrozenSlots
    row 0x3020 0x05 1 16 0x100 .u64 .taRead .basic .no 0 [],  -- WriteSequence
    row 0x3020 0x06 1 16 0x100 .u32 .taRead .expert .no 0 [],  -- OnDemandGets
    row 0x3030 0x01 1 16 0x100 .u16 .aLock .basic .stored 62 [⟨0, 1000, 1⟩],  -- GuaranteedShare
    row 0x3030 0x02 1 16 0x100 .u8 .aLock .basic .stored 4 [⟨0, 7, 1⟩],  -- Priority
    row 0x3030 0x03 1 16 0x100 .bool .aLock .expert .stored 1 [⟨0, 1, 1⟩]  -- BorrowAllowed
  ] ++
  [
    row 0x3030 0x04 1 16 0x100 .u16 .aLock .expert .stored 0 [⟨0, 1000, 1⟩],  -- SlotReserve
    row 0x3030 0x05 1 16 0x100 .u32 .taRead .basic .no 0 [],  -- DirtySlots
    row 0x3030 0x06 1 16 0x100 .u32 .taRead .expert .no 0 [],  -- CleanSlots
    row 0x3030 0x07 1 16 0x100 .u32 .taRead .basic .no 0 [],  -- GuaranteedSlots
    row 0x3030 0x08 1 16 0x100 .u32 .taRead .basic .no 0 [],  -- Headroom
    row 0x3030 0x09 1 16 0x100 .enum8 .taRead .basic .no 0 [],  -- AdmissionState
    row 0x3040 0x01 1 16 0x100 .u32 .taRead .basic .no 0 [],  -- KeyGeneration
    row 0x3040 0x02 1 16 0x100 .u32 .taRead .basic .no 0 [],  -- SanitizedSlots
    row 0x3050 0x01 1 16 0x100 .u8 .ta .basic .stored 1 [⟨0, 31, 1⟩],  -- EventVector
    row 0x3050 0x02 1 16 0x100 .u16 .ta .basic .stored 0 [],  -- EventClasses
    row 0x3050 0x03 1 16 0x100 .u64 .ta .basic .no 0 [⟨0, 18446744073709547520, 4096⟩],  -- EventRingBase
    row 0x3050 0x04 1 16 0x100 .u16 .ta .basic .no 0 [⟨0, 0, 1⟩, ⟨16, 16, 1⟩, ⟨32, 32, 1⟩, ⟨64, 64, 1⟩, ⟨128, 128, 1⟩, ⟨256, 256, 1⟩, ⟨512, 512, 1⟩, ⟨1024, 1024, 1⟩]  -- EventRingEntries
  ] ++
  [
    row 0x3050 0x05 1 16 0x100 .u16 .taRead .basic .no 0 [],  -- EventRingProducer
    row 0x3050 0x06 1 16 0x100 .u16 .ta .basic .no 0 [],  -- EventRingConsumer
    row 0x3050 0x07 1 16 0x100 .u32 .taRead .basic .no 0 []  -- EventRingLost
  ]

/-- Entries 4000h to 4FFFh (13 and 14). -/
def streamRows : List Row :=
  [
    row 0x4000 0x01 1 16 0x100 .bool .aLock .basic .stored 0 [⟨0, 1, 1⟩],  -- StreamEnable
    row 0x4000 0x02 1 16 0x100 .u16 .aLock .basic .stored 1920 [⟨320, 2688, 8⟩],  -- Width
    row 0x4000 0x03 1 16 0x100 .u16 .aLock .basic .stored 1080 [⟨240, 1520, 2⟩],  -- Height
    row 0x4000 0x04 1 16 0x100 .enum8 .gRead .basic .no 0 [],  -- InputFormat
    row 0x4000 0x05 1 16 0x100 .u8 .aLock .basic .stored 2 [⟨1, 4, 1⟩],  -- SensorLatency
    row 0x4000 0x06 1 16 0x100 .u8 .aLock .basic .stored 26 [⟨8, 119, 1⟩],  -- CciAddress
    row 0x4000 0x07 1 16 0x100 .enum8 .aLock .expert .stored 1 [⟨0, 1, 1⟩],  -- CciRegisterWidth
    row 0x4000 0x08 1 16 0x100 .u8 .aLock .basic .stored 255 [⟨0, 3, 1⟩, ⟨255, 255, 1⟩],  -- GroupId
    row 0x4000 0x09 1 16 0x100 .enum8 .gRead .basic .no 0 [],  -- StreamState
    row 0x4000 0x0A 1 16 0x100 .u32 .gRead .basic .no 0 [],  -- FramesCaptured
    row 0x4000 0x0B 1 16 0x100 .u32 .gRead .basic .no 0 [],  -- FramesDropped
    row 0x4000 0x0C 1 16 0x100 .u32 .gRead .basic .no 0 []  -- FramesInserted
  ] ++
  [
    row 0x4000 0x0D 1 16 0x100 .u32 .gRead .basic .no 0 [],  -- ExposureSetInEffect
    row 0x4000 0x0F 1 16 0x100 .u8 .aLock .expert .stored 0 [⟨0, 3, 1⟩],  -- Port
    row 0x4000 0x10 1 16 0x100 .u8 .aLock .expert .stored 0 [⟨0, 3, 1⟩],  -- VirtualChannel
    row 0x4010 0x01 8 16 0x100 .u64 .admin .basic .no 0 [],  -- ExposureWrite0–7
    row 0x4010 0x09 1 16 0x100 .enum8 .aWrite .basic .no 0 [⟨1, 2, 1⟩],  -- ExposureCommit
    row 0x4010 0x0A 1 16 0x100 .u32 .gRead .basic .no 0 [],  -- LastQueuedSet
    row 0x4010 0x0B 1 16 0x100 .u8 .gRead .basic .no 0 [],  -- SetsPending
    row 0x4011 0x01 1 16 0x100 .u16 .admin .expert .no 0 [],  -- CciRegister
    row 0x4011 0x02 1 16 0x100 .u32 .admin .expert .no 0 [],  -- CciData
    row 0x4011 0x03 1 16 0x100 .u8 .admin .expert .no 1 [⟨1, 4, 1⟩],  -- CciLength
    row 0x4011 0x04 1 16 0x100 .enum8 .aWrite .expert .no 0 [⟨1, 2, 1⟩],  -- CciOp
    row 0x4011 0x05 1 16 0x100 .enum8 .gRead .expert .no 0 []  -- CciResult
  ] ++
  [
    row 0x4020 0x01 1 16 0x100 .u8 .aLock .basic .stored 0 [⟨0, 15, 1⟩],  -- LayerEnable
    row 0x4020 0x02 1 16 0x100 .u8 .gRead .basic .no 0 [],  -- LayerHasContent
    row 0x4030 0x01 8 16 0x100 .u64 .admin .basic .stored 0 [],  -- Roi0–Roi7
    row 0x4040 0x01 1 16 0x100 .enum8 .aLock .basic .stored 0 [⟨0, 2, 1⟩],  -- EncodeClass
    row 0x4040 0x02 1 16 0x100 .enum8 .aLock .basic .stored 0 [⟨0, 1, 1⟩],  -- Codec
    row 0x4040 0x03 1 16 0x100 .enum8 .aLock .basic .stored 2 [⟨0, 2, 1⟩],  -- Profile
    row 0x4040 0x04 1 16 0x100 .u8 .aLock .expert .stored 0 [],  -- Level
    row 0x4040 0x05 1 16 0x100 .enum8 .admin .basic .stored 1 [⟨0, 2, 1⟩],  -- RateMode
    row 0x4040 0x06 1 16 0x100 .u32 .admin .basic .stored 2000 [⟨64, 62500, 1⟩],  -- TargetBitrate
    row 0x4040 0x07 1 16 0x100 .enum8 .aLock .basic .stored 0 [⟨0, 1, 1⟩],  -- EncodeScale
    row 0x4040 0x08 1 16 0x100 .enum8 .gRead .basic .no 0 [],  -- EncoderState
    row 0x4040 0x09 1 16 0x100 .u32 .gRead .basic .no 0 []  -- FramesEncoded
  ] ++
  [
    row 0x4040 0x0A 1 16 0x100 .u32 .gRead .basic .no 0 [],  -- BitrateMeasured
    row 0x4040 0x0B 1 16 0x100 .u32 .gRead .basic .no 0 [],  -- CurrentSegment
    row 0x4040 0x0C 1 16 0x100 .enum8 .aWrite .basic .no 0 [⟨1, 1, 1⟩],  -- ForceIdr
    row 0x4040 0x0D 1 16 0x100 .u16 .aLock .basic .stored 2500 [⟨100, 6000, 1⟩],  -- FrameRate
    row 0x4041 0x01 1 16 0x100 .u8 .admin .expert .stored 10 [⟨0, 51, 1⟩],  -- QpMin
    row 0x4041 0x02 1 16 0x100 .u8 .admin .expert .stored 46 [⟨0, 51, 1⟩],  -- QpMax
    row 0x4041 0x03 1 16 0x100 .u8 .admin .expert .stored 28 [⟨0, 51, 1⟩],  -- QpI
    row 0x4041 0x04 1 16 0x100 .u8 .admin .expert .stored 30 [⟨0, 51, 1⟩],  -- QpP
    row 0x4041 0x05 1 16 0x100 .u32 .admin .expert .stored 4000 [⟨64, 62500, 1⟩],  -- MaxBitrate
    row 0x4041 0x06 1 16 0x100 .u32 .admin .expert .stored 0 [⟨0, 0, 1⟩, ⟨64, 78125, 1⟩],  -- VbvSize
    row 0x4041 0x07 1 16 0x100 .u16 .admin .expert .stored 50 [⟨1, 3000, 1⟩],  -- IdrInterval
    row 0x4041 0x08 1 16 0x100 .u16 .admin .expert .stored 250 [⟨0, 0, 1⟩, ⟨10, 3000, 1⟩]  -- LtrRefresh
  ] ++
  [
    row 0x4041 0x09 1 16 0x100 .u8 .admin .expert .stored 3 [⟨1, 3, 1⟩],  -- SearchLevels
    row 0x4041 0x0A 1 16 0x100 .u8 .admin .expert .stored 128 [⟨16, 128, 1⟩],  -- SearchRangeH
    row 0x4041 0x0B 1 16 0x100 .u8 .admin .expert .stored 64 [⟨16, 64, 1⟩],  -- SearchRangeV
    row 0x4041 0x0C 1 16 0x100 .enum8 .admin .expert .stored 2 [⟨0, 2, 1⟩],  -- SubPel
    row 0x4041 0x0D 1 16 0x100 .u8 .aLock .expert .stored 4 [⟨1, 16, 1⟩],  -- SliceRows
    row 0x4041 0x0E 1 16 0x100 .u16 .admin .basic .stored 10 [⟨2, 600, 1⟩],  -- SegmentDuration
    row 0x4042 0x01 8 16 0x100 .i16 .admin .basic .stored 0 [⟨-12, 12, 1⟩],  -- RoiQpOffset0–7
    row 0x4043 0x01 1 16 0x100 .u64 .admin .basic .no 0 [⟨0, 18446744073709547520, 4096⟩],  -- LiveRingBase
    row 0x4043 0x02 1 16 0x100 .u32 .admin .basic .no 0 [⟨0, 0, 1⟩, ⟨65536, 65536, 1⟩, ⟨131072, 131072, 1⟩, ⟨262144, 262144, 1⟩, ⟨524288, 524288, 1⟩, ⟨1048576, 1048576, 1⟩, ⟨2097152, 2097152, 1⟩, ⟨4194304, 4194304, 1⟩, ⟨8388608, 8388608, 1⟩, ⟨16777216, 16777216, 1⟩],  -- LiveRingSize
    row 0x4043 0x03 1 16 0x100 .u64 .admin .basic .no 0 [⟨0, 18446744073709551600, 16⟩],  -- LiveIndexAddress
    row 0x4043 0x04 1 16 0x100 .u8 .admin .basic .stored 2 [⟨0, 31, 1⟩],  -- LiveVector
    row 0x4043 0x05 1 16 0x100 .u32 .gRead .basic .no 0 []  -- LiveOverflows
  ]

/-- Entries 5000h to 50FFh (15). -/
def banksRows : List Row :=
  [
    row 0x5000 0x01 1 28 0x1 .u64 .admin .expert .stored 0 [],  -- Enable
    row 0x5000 0x02 1 28 0x1 .u64 .aRead .basic .no 0 [],  -- Pending
    row 0x5000 0x03 1 28 0x1 .u64 .aWrite .basic .no 0 [],  -- Acknowledge
    row 0x5000 0x04 1 28 0x1 .u64 .admin .expert .stored 0 [],  -- EmcySelect
    row 0x5000 0x05 1 28 0x1 .u64 .aRead .expert .no 0 [],  -- ErrorSources
    row 0x5000 0x06 1 28 0x1 .u64 .aRead .expert .no 0 []  -- WarningSources
  ]
/-- The lines of the table that an index may lie in, by the index map (04 R138). -/
def rowsFor (index : Nat) : List Row :=
  if index < 0x2000 then communicationRows
  else if index < 0x2010 then identityRows
  else if index < 0x2020 then lifeCycleRows
  else if index < 0x2030 then modesRows
  else if index < 0x2100 then lockRows
  else if index < 0x2200 then timeRows
  else if index < 0x2400 then hostRows
  else if index < 0x2500 then cacheRows
  else if index < 0x2580 then packRows
  else if index < 0x2600 then bankRows
  else if index < 0x2700 then railsRows
  else if index < 0x2800 then sequencingRows
  else if index < 0x2900 then outageRows
  else if index < 0x2A00 then flashRows
  else if index < 0x2C00 then videoRows
  else if index < 0x2E00 then eventsRows
  else if index < 0x2F00 then windowsRows
  else if index < 0x3000 then securityRows
  else if index < 0x4000 then tenantRows
  else if index < 0x5000 then streamRows
  else banksRows

/-- The whole table, in rising order of index. -/
def allRows : List Row :=
  communicationRows ++ identityRows ++ lifeCycleRows ++ modesRows ++ lockRows ++ timeRows ++ hostRows ++ cacheRows ++ packRows ++
  bankRows ++ railsRows ++ sequencingRows ++ outageRows ++ flashRows ++ videoRows ++ eventsRows ++ windowsRows ++
  securityRows ++ tenantRows ++ streamRows ++ banksRows

/-- A line covers an index. -/
def Row.hasIndex (r : Row) (index : Nat) : Bool :=
  r.index ≤ index && (index - r.index) % r.stride == 0 && decide ((index - r.index) / r.stride < r.count)

/-- The instance of a line that an index is: rail, die, tenant, stream and so on. -/
def Row.inst (r : Row) (index : Nat) : Nat := (index - r.index) / r.stride

/-- A line covers a sub-index. -/
def Row.hasSub (r : Row) (sub : Nat) : Bool := r.sub ≤ sub && decide (sub < r.sub + r.subs)

/-- The line of an entry. -/
def rowOf (index sub : Nat) : Option Row := (rowsFor index).find? (fun r => r.hasIndex index && r.hasSub sub)

/-- Some entry has this index. -/
def indexExists (index : Nat) : Bool := (rowsFor index).any (fun r => r.hasIndex index)

/-- The highest sub-index at an index, which sub-index 00 reads (04 R132). -/
def highestSub (index : Nat) : Nat :=
  (rowsFor index).foldl (fun m r => if r.hasIndex index then max m (r.sub + r.subs - 1) else m) 0

/-- The line that sub-index 00 stands for where an index has sub-indices: U8, read by whoever may read an entry there (04 R132;
its access class is not given, log 20). -/
def countRow (index : Nat) : Row :=
  row index 0 1 1 1 .u8 (if 0x3000 ≤ index ∧ index < 0x4000 then .taRead else .gRead) .basic .no 0 []

/-- The line of an entry, sub-index 00 included. -/
def entryRow (index sub : Nat) : Option Row :=
  match rowOf index sub with
  | some r => some r
  | none => if sub = 0 ∧ indexExists index then some (countRow index) else none

/-- A key from an index and a sub-index. -/
def key (index sub : Nat) : Key := index * 256 + sub

/-- The tenant of an entry in a tenant block (00 R10). -/
def tenantBlock (index : Nat) : Option Nat := if 0x3000 ≤ index ∧ index < 0x4000 then some ((index - 0x3000) / 256) else none

/-- Level idcs that Level may name: those of the table **Levels** and of the lower levels of both standards (14 R768; log 21). -/
def levelIdcs : List Nat := [0, 10, 11, 12, 13, 20, 21, 22, 30, 31, 32, 40, 41, 42, 60, 63, 90, 93, 120, 123]

/-- The default of an entry that depends on another entry's value or on the instance (the Default column), else the line's. `get`
reads another entry in force. -/
def dynDefault (get : Nat → Nat → Nat) (r : Row) (index sub : Nat) : Nat :=
  if index = 0x1014 then 0x80 + get 0x2003 1
  else if index = 0x2500 ∧ sub = 4 then (if get 0x2500 1 = 2 then 3550 else 4100)
  else if index = 0x2511 ∧ sub = 1 then (if get 0x2500 1 = 2 then 2800 else 3200)
  else if r.index = 0x4000 ∧ sub = 0x0F then r.inst index % 4
  else if r.index = 0x4000 ∧ sub = 0x10 then r.inst index / 4
  else if r.index = 0x3050 ∧ sub = 2 then (if index = 0x3050 then 0x1FF else 0)
  else if r.index = 0x5000 ∧ sub = 1 then assignedMask (r.inst index)
  else if r.index = 0x5000 ∧ sub = 4 then errorMask (r.inst index)
  else r.dflt

/-- The range of an entry where it depends on another entry's value (07 **Channel configurations**; 13 Tolerance; 14 Profile;
15 R843), else the line's. -/
def dynRange (get : Nat → Nat → Nat) (r : Row) (index sub : Nat) : List Span :=
  if index = 0x2500 ∧ sub = 2 then (if get 0x2500 1 = 2 then [⟨1, 4, 1⟩] else [⟨1, 3, 1⟩])
  else if index = 0x2500 ∧ sub = 4 then (if get 0x2500 1 = 2 then [⟨3400, 3650, 1⟩] else [⟨4000, 4200, 1⟩])
  else if r.index = 0x2A20 ∧ sub = 2 then [⟨0, get index 1 / 2, 1⟩]
  else if r.index = 0x4040 ∧ sub = 3 then (if get index 2 = 1 then [⟨1, 1, 1⟩] else [⟨0, 2, 1⟩])
  else if r.index = 0x4040 ∧ sub = 4 then levelIdcs.map (fun (n : Nat) => (⟨(n : Int), (n : Int), 1⟩ : Span))
  else r.range

/-- A value lies in a range; the empty range is the whole type. -/
def inRange (spans : List Span) (v : Int) : Bool :=
  spans.isEmpty || spans.any (fun s => decide (s.lo ≤ v) && decide (v ≤ s.hi) && (v - s.lo) % s.step == 0)

/-- A value lies above every value of a range. -/
def aboveRange (spans : List Span) (v : Int) : Bool := spans.all (fun s => decide (s.hi < v))

/-- A value lies below every value of a range. -/
def belowRange (spans : List Span) (v : Int) : Bool := spans.all (fun s => decide (v < s.lo))

/-- The CAPTURE island of a port number. -/
def captureOf (p : Nat) : Island :=
  match p with | 0 => .capture0 | 1 => .capture1 | 2 => .capture2 | _ => .capture3

/-- The islands whose entry values are held outside CONTROL, by index (01 R16; log 22). -/
def ownerIsland (get : Nat → Nat → Nat) (index sub inst : Nat) : Island :=
  if 0x2200 ≤ index ∧ index < 0x2300 then .host
  else if 0x2400 ≤ index ∧ index < 0x2410 then .memory
  else if 0x2500 ≤ index ∧ index < 0x2510 then .supervisor
  else if 0x2570 ≤ index ∧ index < 0x2590 then .supervisor
  else if 0x25F0 ≤ index ∧ index < 0x2900 then .supervisor
  else if 0x2900 ≤ index ∧ index < 0x2A00 then .flash
  else if 0x2A10 ≤ index ∧ index < 0x2A20 then
    captureOf inst
  else if 0x2A00 ≤ index ∧ index < 0x2A10 then .pixel
  else if 0x2A40 ≤ index ∧ index < 0x2A50 then .entropy
  else if 0x3000 ≤ index ∧ index < 0x4000 ∧ index % 256 = 0x10 then .memory
  else if 0x3000 ≤ index ∧ index < 0x4000 ∧ index % 256 = 0x20 then .host
  else if 0x3000 ≤ index ∧ index < 0x4000 ∧ index % 256 = 0x30 ∧ sub = 4 then .memory
  else if 0x4000 ≤ index ∧ index < 0x5000 ∧ index % 256 < 0x40 then
    captureOf (get (0x4000 + 0x100 * inst) 0x0F)
  else if 0x4000 ≤ index ∧ index < 0x5000 ∧ index % 256 = 0x43 then .entropy
  else if 0x4000 ≤ index ∧ index < 0x5000 then .pixel
  else .control

end Sys2Proof.Machine
end

