-- ==== Sys2Proof/Machine/Ops.lean ====
section
/-! DEFINITION. Named operations over the state that every family shares: maps, vectors, bytes, the little things read off the
state, and the clock. -/

namespace Sys2Proof

/-! ### Codes of islands, sessions and channels -/

/-- Sub-index order of the islands (01 R46). -/
def Island.idx : Island → Fin 11
  | .supervisor => 0 | .control => 1 | .host => 2 | .memory => 3 | .flash => 4
  | .capture0 => 5 | .capture1 => 6 | .capture2 => 7 | .capture3 => 8 | .pixel => 9 | .entropy => 10

/-- The code of a session in ExpertHolder and Owner (03 R126, 04 Window sub-entries): the function, or 0x80 for the manager. -/
def Session.code : Session → Nat
  | .mailbox fn => fn.val
  | .usdo _ => 0x80

/-- The administrator's sessions: PF0's mailbox and every USDO session (04 R139). -/
def Session.isAdmin : Session → Bool
  | .mailbox fn => fn == 0
  | .usdo _ => true

/-- Two sessions are one: each USDO client node has its own, though every one of the manager's reads as 0x80 (03 R126, R127;
04 R186). -/
def Session.same (a b : Session) : Bool := a == b

def Channel.other : Channel → Channel
  | .pack => .bank
  | .bank => .pack

end Sys2Proof

namespace Sys2Proof.Machine

/-! ### Maps -/

/-- The value at a key. -/
def mapFind {α : Type} : SMap α → Nat → Option α
  | [], _ => none
  | (k', v) :: m, k => if k = k' then some v else mapFind m k

/-- Put a value at a key, between the entries below it and those above it. -/
def mapSet {α : Type} (m : SMap α) (k : Nat) (v : α) : SMap α :=
  m.filter (fun p => p.1 < k) ++ (k, v) :: m.filter (fun p => k < p.1)

/-- Take a key out. -/
def mapErase {α : Type} (m : SMap α) (k : Nat) : SMap α := m.filter (fun p => p.1 != k)

/-- Apply a function to every value. -/
def mapVals {α : Type} (f : Nat → α → α) (m : SMap α) : SMap α := m.map (fun p => (p.1, f p.1 p.2))

/-- Every key lies above `k`. -/
def mapAbove {α : Type} (k : Nat) (m : SMap α) : Bool := m.all (fun p => k < p.1)

/-- The canonical form: strictly rising keys. -/
def mapWf {α : Type} : SMap α → Bool
  | [] => true
  | (k, _) :: m => mapAbove k m && mapWf m

/-- The lowest natural number below `n` that is no key. -/
def mapFree {α : Type} (m : SMap α) : Nat → Nat → Option Nat
  | 0, _ => none
  | fuel + 1, k =>
    match m with
    | [] => some k
    | (k', _) :: m' => if k < k' then some k else mapFree m' fuel (k + 1)

/-! ### Vectors -/

/-- Change one place of a vector. -/
def vmod {α : Type} {n : Nat} (v : Vector α n) (i : Fin n) (f : α → α) : Vector α n := v.set i.val (f v[i]) i.isLt

/-- Put a value at one place of a vector. -/
def vset {α : Type} {n : Nat} (v : Vector α n) (i : Fin n) (a : α) : Vector α n := v.set i.val a i.isLt

/-- Change every place of a vector. -/
def vmap {α β : Type} {n : Nat} (f : α → β) (v : Vector α n) : Vector β n :=
  ⟨⟨v.toList.map f⟩, by simp⟩

/-- Change every place of a vector, with its number. -/
def vmapIdx {α β : Type} {n : Nat} (f : Fin n → α → β) (v : Vector α n) : Vector β n :=
  ⟨⟨(List.finRange n).map (fun i => f i v[i])⟩, by simp⟩

/-- Fold a step over every place of a range. -/
def forAll {σ : Type} (n : Nat) (f : σ → Fin n → σ) (s : σ) : σ := (List.finRange n).foldl f s

/-! ### Bytes, little-endian throughout (00 R6) -/

/-- The low `n` bytes of a number, lowest first. -/
def leBytes : Nat → Nat → List Byte
  | 0, _ => []
  | n + 1, v => BitVec.ofNat 8 v :: leBytes n (v / 256)

/-- The number that bytes spell, lowest first. -/
def ofLe : List Byte → Nat
  | [] => 0
  | b :: bs => b.toNat + 256 * ofLe bs

/-- A signed value of `bits` bits read from its two's complement code. -/
def signed (bits v : Nat) : Int := if v % 2 ^ bits < 2 ^ (bits - 1) then (v % 2 ^ bits : Nat) else (v % 2 ^ bits : Nat) - (2 ^ bits : Nat)

/-- The two's complement code of a signed value in `bits` bits. -/
def twos (bits : Nat) (v : Int) : Nat := (v % (2 ^ bits : Nat)).toNat

/-- The four bytes of a buffer at an offset; bytes past its end read 0 (04 R184). -/
def wordAt (buf : List Byte) (off : Nat) : List Byte :=
  (List.range 4).map (fun i => buf.getD (off + i) 0)

/-- Store bytes into a buffer at an offset; bytes past its end are ignored (04 R184). -/
def storeAt : List Byte → Nat → List Byte → List Byte
  | buf, _, [] => buf
  | buf, off, b :: bs => storeAt (buf.set off b) (off + 1) bs

/-- One bit step of the reflected CRC-32. -/
def crcBit (c : BitVec 32) : BitVec 32 :=
  if c.getLsbD 0 then (c >>> 1) ^^^ 0xEDB88320#32 else c >>> 1

/-- One byte step of the CRC-32. -/
def crcByte (c : BitVec 32) (b : Byte) : BitVec 32 :=
  crcBit (crcBit (crcBit (crcBit (crcBit (crcBit (crcBit (crcBit (c ^^^ b.zeroExtend 32))))))))

/-- The CRC-32 of IEEE 802.3 over bytes in rising address order (04 R189). -/
def crc32 (bs : List Byte) : BitVec 32 := (bs.foldl crcByte 0xFFFFFFFF#32) ^^^ 0xFFFFFFFF#32

/-- The low bits of a byte list that a block holds, byte 0 first. -/
def blockBytes (b : Block) : List Byte := leBytes 4096 b.toNat

/-- A block from up to 4,096 bytes, zero beyond them. -/
def blockOf (bs : List Byte) : Block := BitVec.ofNat 32768 (ofLe (bs.take 4096))

/-- Blocks of some bytes, the last one filled with zeros. -/
def blocksFrom : Nat → List Byte → List Block
  | 0, _ => []
  | fuel + 1, bs => if bs.isEmpty then [] else blockOf bs :: blocksFrom fuel (bs.drop 4096)

/-- The bytes of some blocks' worth of data as blocks. -/
def toBlocks (bs : List Byte) : List Block := blocksFrom ((bs.length + 4095) / 4096) bs

/-! ### Codes of the enumerations -/

/-- Device state codes (02 **Device states**). -/
def DevState.code : DevState → Nat
  | .off => 0 | .sleep => 1 | .boot => 2 | .restore => 3 | .serve => 4
  | .warn => 5 | .simmer => 6 | .sinter => 7 | .keep => 8 | .halt => 9

/-- The CAPTURE island of a port. -/
def captureIsland (p : Fin 4) : Island :=
  match p with | 0 => .capture0 | 1 => .capture1 | 2 => .capture2 | 3 => .capture3

/-- Island codes of an event record (15 **Event record** byte 15). -/
inductive EvIsland where
  | keep | supervisor | control | host | memory | flash | capture | pixel | entropy
  deriving DecidableEq, Repr

def EvIsland.code : EvIsland → Nat
  | .keep => 0 | .supervisor => 1 | .control => 2 | .host => 3 | .memory => 4 | .flash => 5 | .capture => 6 | .pixel => 7
  | .entropy => 8

def IslandRun.code : IslandRun → Nat
  | .stopped => 0 | .starting => 1 | .running => 2 | .fault => 3

/-- The state of an island. -/
def State.island (s : State) (i : Island) : IslandRun := s.isl.run[i.idx]

/-- Set the state of an island. -/
def State.setIsland (s : State) (i : Island) (r : IslandRun) : State := { s with isl.run := vset s.isl.run i.idx r }

/-! ### Sessions -/

/-- The code of an optional holder; 0xFF is none. -/
def holderCode : Option Session → Nat
  | none => 0xFF
  | some p => p.code

/-! ### Channels -/

def State.chan (s : State) : Channel → Chan
  | .pack => s.pack
  | .bank => s.bank

def State.setChan (s : State) (c : Channel) (x : Chan) : State :=
  match c with
  | .pack => { s with pack := x }
  | .bank => { s with bank := x }

def State.est (s : State) : Channel → Est
  | .pack => s.packEst
  | .bank => s.bankEst

def State.setEst (s : State) (c : Channel) (x : Est) : State :=
  match c with
  | .pack => { s with packEst := x }
  | .bank => { s with bankEst := x }

/-! ### Places -/

def State.modFn (s : State) (fn : Fin 16) (f : Func → Func) : State := { s with port.fns := vmod s.port.fns fn f }

def State.pair (s : State) (fn : Fin 16) (qp : Fin 4) : Pair := s.port.fns[fn].pairs[qp]

def State.modPair (s : State) (fn : Fin 16) (qp : Fin 4) (f : Pair → Pair) : State :=
  s.modFn fn (fun x => { x with pairs := vmod x.pairs qp f })

def State.ten (s : State) (n : Fin 16) : Tenant := s.cache.tenants[n]

def State.modTen (s : State) (n : Fin 16) (f : Tenant → Tenant) : State := { s with cache.tenants := vmod s.cache.tenants n f }

def State.rl (s : State) (r : Fin 12) : Rail := s.rails.rail[r]

def State.modRail (s : State) (r : Fin 12) (f : Rail → Rail) : State := { s with rails.rail := vmod s.rails.rail r f }

def State.modGate (s : State) (g : Fin 8) (f : GateReg → GateReg) : State := { s with rails.gate := vmod s.rails.gate g f }

def State.modDie (s : State) (d : Fin 16) (f : Die → Die) : State := { s with flash.die := vmod s.flash.die d f }

def State.modPort (s : State) (p : Fin 4) (f : CsiPort → CsiPort) : State := { s with video.port := vmod s.video.port p f }

def State.modStream (s : State) (n : Fin 16) (f : Stream → Stream) : State := { s with video.stream := vmod s.video.stream n f }

def State.modEnc (s : State) (n : Fin 16) (f : Encoder → Encoder) : State := { s with video.enc := vmod s.video.enc n f }

def State.modRec (s : State) (n : Fin 16) (f : Recorder → Recorder) : State := { s with video.recorder := vmod s.video.recorder n f }

def State.modDec (s : State) (d : Fin 2) (f : Session_ → Session_) : State := { s with video.dec := vmod s.video.dec d f }

def State.modMbx (s : State) (fn : Fin 16) (f : Mbx → Mbx) : State := { s with mbx := vmod s.mbx fn f }

def State.modWin (s : State) (w : Fin 7) (f : Win → Win) : State := { s with win := vmod s.win w f }

/-- Send something out. -/
def State.send (s : State) (o : Output) : State := { s with out := s.out ++ [o] }

/-! ### The clock -/

/-- SUPERVISOR runs: every state but OFF and SLEEP (01 R18, R20). -/
def DevState.supervised : DevState → Bool
  | .off => false
  | .sleep => false
  | _ => true

/-- One microsecond passes: the time base, the wall clock and powered time advance while SUPERVISOR runs (01 R37, R45; 08 R428).
This is what a step on an empty queue does (log 1). -/
def tick (s : State) : State :=
  if s.life.dev.supervised then
    { s with time := { s.time with
        now := s.time.now + 1
        timeBase := s.time.timeBase + 1
        wall := if s.time.wallSet then s.time.wall + 65536 else s.time.wall
        powered := s.time.powered + 1 } }
  else { s with time := { s.time with now := s.time.now + 1 } }

/-- Wall clock seconds and fraction (01 R45). -/
def State.wallSeconds (s : State) : Nat := if s.time.wallSet then s.time.wall / 65536000000 else 0

def State.wallFraction (s : State) : Nat := if s.time.wallSet then s.time.wall % 65536000000 / 1000000 else 0

/-- Powered time in seconds. -/
def State.poweredSec (s : State) : Nat := s.time.powered / 1000000

/-! ### Entry values -/

/-- An entry's value in a map of written values, at its fixed default where not listed. -/
def plainValue (vals : SMap Nat) (index sub : Nat) : Nat :=
  match mapFind vals (key index sub) with
  | some v => v
  | none => match rowOf index sub with | some r => r.dflt | none => 0

/-- An entry's default, given the other values in force. -/
def defaultOf (vals : SMap Nat) (index sub : Nat) : Nat :=
  match rowOf index sub with
  | some r => dynDefault (plainValue vals) r index sub
  | none => 0

/-- An entry's value in a map of written values, at its default where not listed. -/
def valueIn (vals : SMap Nat) (index sub : Nat) : Nat :=
  match mapFind vals (key index sub) with
  | some v => v
  | none => defaultOf vals index sub

/-- The value CONTROL holds of an entry (01 section 3). -/
def State.held (s : State) (index sub : Nat) : Nat := valueIn s.dict.values index sub

/-- EmcyCobId: the value written, or 0x080 and the node-ID in force (04 R158, R162). -/
def State.emcyId (s : State) : Nat :=
  match mapFind s.dict.values (key 0x1014 0) with
  | some v => v
  | none => 0x80 + s.can.node

/-- The value in force at the island an entry configures: CONTROL's, unless it is not delivered yet (01 R23, R27). -/
def cfgIn (undelivered vals : SMap Nat) (index sub : Nat) : Nat :=
  match mapFind undelivered (key index sub) with
  | some v => v
  | none => valueIn vals index sub

/-- An entry's value in force. -/
def State.cfg (s : State) (index sub : Nat) : Nat := cfgIn s.isl.undelivered s.dict.values index sub

/-- The island that holds an entry's registers. -/
def State.ownerOf (s : State) (index sub : Nat) : Island :=
  match rowOf index sub with
  | some r => ownerIsland (valueIn s.dict.values) index sub (r.inst index)
  | none => .control

/-- Write a value into a map of values, which lists only what differs from its default. -/
def putValue (vals : SMap Nat) (index sub v : Nat) : SMap Nat :=
  if v = defaultOf vals index sub then mapErase vals (key index sub) else mapSet vals (key index sub) v

/-- CONTROL stores a value of an entry; the island keeps the value it has until it is delivered (01 R27). -/
def State.setHeld (s : State) (index sub v : Nat) : State :=
  { s with dict.values := putValue s.dict.values index sub v }

/-- The value an island holds is kept beside CONTROL's new one until the first handshake after it starts (01 R27). -/
def State.keepUndelivered (s : State) (index sub : Nat) : State :=
  match mapFind s.isl.undelivered (key index sub) with
  | some _ => s
  | none => { s with isl.undelivered := mapSet s.isl.undelivered (key index sub) (s.held index sub) }

/-- The value of a key waits for an island. -/
def State.waitsFor (s : State) (i : Island) (p : Nat × Nat) : Bool := s.ownerOf (p.1 / 256) (p.1 % 256) == i

/-- The first handshake of an island delivers the values that wait for it (01 R27). What they set off inside the island follows with
the command that started it (`handshakes`). -/
def State.deliver (s : State) (i : Island) : State :=
  { s with
    isl.handed := (s.isl.undelivered.filter (s.waitsFor i)).foldl (fun m p => mapSet m p.1 p.2) s.isl.handed
    isl.undelivered := s.isl.undelivered.filter (fun p => !s.waitsFor i p) }

/-- A command written to an entry of an island that does not take it now is stored in CONTROL until the island starts (01 R27, R29). -/
def State.storeCommand (s : State) (index sub v : Nat) : State :=
  { s with isl.waiting := s.isl.waiting ++ [(key index sub, v)] }

/-- The latest command stored for an entry (01 R27). -/
def State.storedCommand (s : State) (index sub : Nat) : Option Nat :=
  (s.isl.waiting.reverse.find? (fun p => p.1 == key index sub)).map (·.2)

/-- An island starts: it runs, and what waits for it is delivered (01 R20, R27). -/
def State.startIsland (s : State) (i : Island) : State := (s.setIsland i .running).deliver i

/-- An island stops (01 R20). -/
def State.stopIsland (s : State) (i : Island) : State := s.setIsland i .stopped

/-- Change the place of a tenant's, stream's or function's block of an index (00 R10, R11). -/
def blockIndex (base n : Nat) : Nat := base + 0x100 * n

end Sys2Proof.Machine
end

