-- ==== Sys2Proof/Machine/Draw.lean ====
section
/-! DEFINITION. Pictures: the conversion to 4:2:0, statistics, and the four overlay layers (13 sections 2, 4, 6 and 7). Quotients that
a rule leaves unrounded are rounded down (log 18). -/

namespace Sys2Proof.Machine

/-! ### Conversion -/

/-- Luma, Cb and Cr samples of a UYVY line (13 R711). -/
def uyvyLine : List Byte → List Nat × List Nat × List Nat
  | u :: y0 :: v :: y1 :: rest =>
    let r := uyvyLine rest
    (y0.toNat :: y1.toNat :: r.1, u.toNat :: r.2.1, v.toNat :: r.2.2)
  | _ => ([], [], [])

/-- Luma and chroma samples of a legacy YUV420 line: one chroma byte before each two luma bytes (log 19). -/
def legacyLine : List Byte → List Nat × List Nat
  | c :: y0 :: y1 :: rest =>
    let r := legacyLine rest
    (y0.toNat :: y1.toNat :: r.1, c.toNat :: r.2)
  | _ => ([], [])

/-- The mean of two lines of chroma (13 R717). -/
def meanLine (a b : List Nat) : List Nat := List.zipWith (fun x y => (x + y) / 2) a b

/-- Two lines join a picture. -/
def addPair (y0 y1 cb cr : List Nat) (p : Picture) : Picture := ⟨y0 :: y1 :: p.y, cb :: p.cb, cr :: p.cr⟩

/-- The planar picture of a frame's lines; format 1 is YUV422, 2 legacy YUV420, whose lines carry Cb and Cr in turn (13 R713, R717). -/
def convert (format : Nat) : List (List Byte) → Picture
  | a :: b :: rest =>
    if format = 1 then
      let x := uyvyLine a
      let y := uyvyLine b
      addPair x.1 y.1 (meanLine x.2.1 y.2.1) (meanLine x.2.2 y.2.2) (convert format rest)
    else addPair (legacyLine a).1 (legacyLine b).1 (legacyLine a).2 (legacyLine b).2 (convert format rest)
  | _ => ⟨[], [], []⟩

/-- Bytes of a line of a width: two a pixel, or three for two pixels (13 R714; log 19). -/
def lineBytes (format width : Nat) : Nat := if format = 1 then 2 * width else 3 * width / 2

/-! ### Statistics (13 R737) -/

/-- The sum of some numbers. -/
def sumOf (l : List Nat) : Nat := l.foldl (· + ·) 0

/-- Mean luma × 256 of a rectangle; 0 for an empty one. -/
def meanLuma (p : Picture) (x y w h : Nat) : Nat :=
  let s := sumOf (((p.y.drop y).take h).map (fun r => sumOf ((r.drop x).take w)))
  if w * h = 0 then 0 else s * 256 / (w * h)

/-- The 64-bin histogram of Y / 4. -/
def histogram (p : Picture) : List Nat :=
  (List.range 64).map (fun b => sumOf (p.y.map (fun r => (r.filter (fun v => v / 4 == b)).length)))

/-- The 64 zone means in row-major order; the last row of zones takes the remaining lines. -/
def zoneMeans (p : Picture) (width height : Nat) : List Nat :=
  let w := width / 8
  let h := height / 8
  (List.range 64).map (fun k => meanLuma p (k % 8 * w) (k / 8 * h) w (if k / 8 = 7 then height - 7 * h else h))

/-- A field of a ROI value: 0 X, 1 Y, 2 width, 3 height (13 R764). -/
def roiField (roi k : Nat) : Nat := roi / 65536 ^ k % 65536

/-- The mean of a ROI, 0 for a disabled one (13 R737, R739). -/
def roiMean (p : Picture) (roi : Nat) : Nat :=
  meanLuma p (roiField roi 0) (roiField roi 1) (roiField roi 2) (roiField roi 3)

/-- The 32 bytes of a metadata record (13 **Frame metadata**). -/
def metaBytes (m : Meta) : List Byte :=
  leBytes 4 m.number ++ leBytes 4 m.set ++ leBytes 8 m.time ++ leBytes 4 m.tick ++
  leBytes 1 ((if m.inserted then 1 else 0) + (if m.black then 2 else 0) + (if m.late then 4 else 0) +
    (if m.failedSet then 8 else 0) + (if m.surplus then 16 else 0)) ++
  leBytes 1 m.layers ++ leBytes 1 m.group ++ leBytes 1 0 ++ leBytes 4 m.wallSeconds ++ leBytes 2 m.wallFraction ++ leBytes 2 0

/-- The 432 bytes of a statistics dump (13 R739). -/
def statsBytes (x : Stats) : List Byte :=
  metaBytes x.md ++ x.histogram.flatMap (leBytes 4) ++ x.zones.flatMap (leBytes 2) ++ x.rois.flatMap (leBytes 2)

/-! ### Layer headers (13 R759, R760) -/

/-- A little-endian field of a layer buffer. -/
def layerField (b : List Byte) (off len : Nat) : Nat := ofLe ((b.drop off).take len)

/-- The body of a layer buffer. -/
def layerBody (b : List Byte) : List Byte := (b.drop 32).take (layerField b 24 4)

/-- Bytes of a row of an L0 mask. -/
def maskPitch (width : Nat) : Nat := (width / 8 + 7) / 8

/-- The body length an L0 or L3 buffer must have; L1 and L2 hold at most as many characters as their limits allow, of which R761
draws what it can (13 **Layer bodies**). -/
def bodyOk (b : List Byte) (layer width height : Nat) : Bool :=
  let n := layerField b 24 4
  b.length == 32 + n &&
  (match layer with
   | 0 => n == (height + 7) / 8 * maskPitch width
   | 1 => decide (1 ≤ n) && decide (n ≤ 65) && (layerBody b).getLast? == some 0
   | 2 => decide (n ≤ 8 * 48 + 7)
   | _ => n == 1024 + layerField b 12 2 * layerField b 14 2)

/-- A layer buffer may be committed for a layer of a stream (13 R760). -/
def layerOk (b : List Byte) (layer width height : Nat) : Bool :=
  layerField b 0 4 == 0x4C515449 && layerField b 4 1 == layer && layerField b 5 1 == 1 &&
  layerField b 8 2 % 2 == 0 && layerField b 10 2 % 2 == 0 && bodyOk b layer width height &&
  (layer != 3 || (decide (layerField b 8 2 + layerField b 12 2 ≤ width) && decide (layerField b 10 2 + layerField b 14 2 ≤ height)))

/-! ### Drawing -/

/-- What a layer puts at a pixel: Y, Cb, Cr and alpha. -/
structure Ink where
  y : Nat
  cb : Nat
  cr : Nat
  alpha : Nat
  deriving DecidableEq, Repr

/-- Blend one component (13 R763). -/
def blend (alpha layer frame : Nat) : Nat := (alpha * layer + (255 - alpha) * frame) / 255

/-- Draw ink over a picture; chroma takes the top-left pixel of its 2 × 2 block (13 R763). -/
def overlay (ink : Nat → Nat → Option Ink) (p : Picture) : Picture :=
  let one := fun (f : Ink → Nat) (x y v : Nat) => match ink x y with | some i => blend i.alpha (f i) v | none => v
  { y := p.y.zipIdx.map (fun r => r.1.zipIdx.map (fun c => one (·.y) c.2 r.2 c.1))
    cb := p.cb.zipIdx.map (fun r => r.1.zipIdx.map (fun c => one (·.cb) (2 * c.2) (2 * r.2) c.1))
    cr := p.cr.zipIdx.map (fun r => r.1.zipIdx.map (fun c => one (·.cr) (2 * c.2) (2 * r.2) c.1)) }

/-- Ink of four header bytes. -/
def inkAt (b : List Byte) (off : Nat) : Ink :=
  ⟨layerField b off 1, layerField b (off + 1) 1, layerField b (off + 2) 1, layerField b (off + 3) 1⟩

/-- The black of the privacy mask (13 R756, **Layer bodies**). -/
def maskInk : Ink := ⟨16, 128, 128, 255⟩

/-- L0: the mask of 8 × 8 blocks. -/
def inkMask (b : List Byte) (width : Nat) (x y : Nat) : Option Ink :=
  if ((b.getD (32 + y / 8 * maskPitch width + x / 64) 0).getLsbD (x / 8 % 8)) then some maskInk else none

/-- L3: the palette entry of the index at a pixel of its rectangle. -/
def inkGraphic (b : List Byte) (x y : Nat) : Option Ink :=
  let x0 := layerField b 8 2
  let y0 := layerField b 10 2
  let w := layerField b 12 2
  let h := layerField b 14 2
  if x0 ≤ x ∧ x < x0 + w ∧ y0 ≤ y ∧ y < y0 + h then
    some (inkAt b (32 + 4 * (b.getD (1056 + (y - y0) * w + (x - x0)) 0).toNat))
  else none

/-- Lines of text in the built-in font; characters outside 0x20 to 0x7E are drawn as spaces (13 R761). -/
def inkText (b : List Byte) (lines : List (List Nat)) (x y : Nat) : Option Ink :=
  let x0 := layerField b 8 2
  let y0 := layerField b 10 2
  let k := layerField b 6 1
  if x < x0 ∨ y < y0 ∨ k = 0 then none
  else
    match (lines[((y - y0) / (16 * k))]?) with
    | none => none
    | some line =>
      match (line.drop ((x - x0) / (8 * k))).head? with
      | none => none
      | some c =>
        let ch := if 0x20 ≤ c ∧ c ≤ 0x7E then c else 0x20
        some (inkAt b (if Config.fontPixel ch ((x - x0) / k % 8) ((y - y0) / k % 16) then 16 else 20))

/-- Split at line feeds (13 **Layer bodies**). -/
def splitLines : List Nat → List (List Nat)
  | [] => [[]]
  | c :: rest =>
    match splitLines rest with
    | [] => [[c]]
    | l :: ls => if c = 0x0A then [] :: l :: ls else (c :: l) :: ls

/-- The last `n` decimal digits of a number, as characters. -/
def digits : Nat → Nat → List Nat
  | 0, _ => []
  | n + 1, v => digits n (v / 10) ++ [0x30 + v % 10]

/-- Days since 1 January 1970 to year, month and day of the Gregorian calendar (log 18). -/
def civil (days : Nat) : Nat × Nat × Nat :=
  let z := days + 719468
  let era := z / 146097
  let doe := z % 146097
  let yoe := (doe - doe / 1460 + doe / 36524 - doe / 146096) / 365
  let doy := doe - (365 * yoe + yoe / 4 - yoe / 100)
  let mp := (5 * doy + 2) / 153
  let m := if mp < 10 then mp + 3 else mp - 9
  (yoe + era * 400 + (if m ≤ 2 then 1 else 0), m, doy - (153 * mp + 2) / 5 + 1)

/-- One field of an L1 format string (13 **Layer bodies**, R762). -/
def stampField (md : Meta) (secs stream c : Nat) : List Nat :=
  let day := civil (secs / 86400)
  let dated := fun (n v : Nat) => if md.wallSeconds = 0 then List.replicate n 0x2D else digits n v
  if c = 0x59 then dated 4 day.1
  else if c = 0x6D then dated 2 day.2.1
  else if c = 0x64 then dated 2 day.2.2
  else if c = 0x48 then dated 2 (secs / 3600 % 24)
  else if c = 0x4D then dated 2 (secs / 60 % 60)
  else if c = 0x53 then dated 2 (secs % 60)
  else if c = 0x4C then dated 3 (md.wallFraction * 1000 / 65536)
  else if c = 0x4E then (if stream < 10 then digits 1 stream else digits 2 stream)
  else if c = 0x25 then [0x25]
  else [0x25, c]

/-- The text of an L1 format string up to its closing zero. -/
def stampText (md : Meta) (secs stream : Nat) : List Nat → List Nat
  | [] => []
  | [c] => if c = 0 then [] else [c]
  | c :: d :: rest =>
    if c = 0 then []
    else if c = 0x25 then stampField md secs stream d ++ stampText md secs stream rest
    else c :: stampText md secs stream (d :: rest)

/-- Local time of a stamp: wall clock plus the offset in 15-minute steps (13 R762). -/
def stampSeconds (b : List Byte) (md : Meta) : Nat := ((md.wallSeconds : Int) + 900 * signed 8 (layerField b 7 1)).toNat

/-- Draw one layer of a stream. -/
def drawLayer (layer stream width : Nat) (md : Meta) (b : List Byte) (p : Picture) : Picture :=
  match layer with
  | 0 => overlay (inkMask b width) p
  | 1 => overlay (inkText b [stampText md (stampSeconds b md) stream ((layerBody b).map (·.toNat))]) p
  | 2 => overlay (inkText b (splitLines ((layerBody b).map (·.toNat)))) p
  | _ => overlay (inkGraphic b) p

/-- A black picture of the same size (13 R756). -/
def blackPicture (p : Picture) : Picture :=
  ⟨p.y.map (fun r => r.map (fun _ => 16)), p.cb.map (fun r => r.map (fun _ => 128)), p.cr.map (fun r => r.map (fun _ => 128))⟩

/-- Draw the enabled layers that have content, L3 first and L0 last (13 R750, R753 to R756). -/
def drawAll (stream width : Nat) (md : Meta) (layers : Vector Layer 4) (p : Picture) : Picture :=
  if md.black then blackPicture p
  else
    ([3, 2, 1, 0] : List (Fin 4)).foldl (fun q l =>
      match layers[l].current with
      | some b => if md.layers.testBit l.val then drawLayer l.val stream width md b q else q
      | none => q) p

/-- Half width and half height with a 2 × 2 box filter (14 R769). -/
def halfPlane : List (List Nat) → List (List Nat)
  | a :: b :: rest =>
    ((List.range (a.length / 2)).map (fun i =>
      (a.getD (2 * i) 0 + a.getD (2 * i + 1) 0 + b.getD (2 * i) 0 + b.getD (2 * i + 1) 0) / 4)) :: halfPlane rest
  | _ => []

/-- Repeat the last element of a list up to a length that is a whole number of units (14 R770). -/
def padList {α : Type} (unit : Nat) (l : List α) : List α :=
  match l.getLast? with
  | some a => l ++ List.replicate ((unit - l.length % unit) % unit) a
  | none => []

def padPlane (unit : Nat) (p : List (List Nat)) : List (List Nat) := padList unit (p.map (padList unit))

/-- The picture that is encoded: scaled, then padded to whole macroblocks or coding tree blocks (14 R769, R770). -/
def encodedPicture (half : Bool) (unit : Nat) (p : Picture) : Picture :=
  let q : Picture := if half then ⟨halfPlane p.y, halfPlane p.cb, halfPlane p.cr⟩ else p
  ⟨padPlane unit q.y, padPlane (unit / 2) q.cb, padPlane (unit / 2) q.cr⟩

end Sys2Proof.Machine
end

