-- ==== Sys2Proof/Machine/Flags.lean ====
section
/-! DEFINITION. Status words the manual lays out bit by bit: ErrorRegister, BringUpFlags, QSTATUS, MBX_CTRL, MBX_STATUS. -/

namespace Sys2Proof.Machine

/-- A bit of a status word. -/
def bitIf (b : Bool) (k : Nat) : Nat := if b then 2 ^ k else 0

/-- Some latched event of severity error is unacknowledged (04 R170). -/
def errorPending (pending : Vector (BitVec 64) 28) : Bool :=
  (List.finRange 28).any (fun b => (pending[b].toNat &&& errorMask b.val) != 0)

/-- `1001h:00 ErrorRegister` (04 R170). -/
def errorRegister (s : State) : Nat :=
  bitIf (errorPending s.ev.pendingBits) 0 + bitIf s.rails.latched 2 + bitIf (s.pack.fault != 0 || s.bank.fault != 0) 3 +
  bitIf s.can.errorSeen 4 + bitIf (s.life.dev == .halt) 7

/-- `2102h:01 BringUpFlags` (02 R114). -/
def bringUpFlags (l : Life) : Nat :=
  bitIf l.scanReduced 0 + bitIf l.estConservative 1 + bitIf (l.dev == .restore) 2 + bitIf l.fwTrial 3 + bitIf l.fwFallback 4 +
  bitIf l.warmBoot 5 + bitIf l.imageAbsent 6

/-- QSTATUS: bit 31 Ready, bit 30 Fault, bits 7:0 ErrorCode (05 **QSTATUS**). -/
def qstatus (p : Pair) : Nat := bitIf p.ready 31 + bitIf p.fault 30 + p.error.toNat

/-- MBX_STATUS (04 R171). -/
def mbxStatus (m : Mbx) : Nat :=
  bitIf m.done 31 + m.result.toNat * 2 ^ 28 + m.statusTag.toNat * 2 ^ 16 + m.statusLen.toNat

/-- MBX_CTRL (04 R171). -/
def mbxCtrl (m : Mbx) : Nat := bitIf m.go 31 + m.tag.toNat * 256 + m.op.toNat

/-- The doubleword of a mailbox at an offset of BAR0; reserved space reads 0 (04 **Mailbox map**; 00 R8). -/
def mbxRegister (m : Mbx) (off : Nat) : Nat :=
  match off with
  | 0x0000 => m.addr.toNat
  | 0x0004 => m.len.toNat
  | 0x0008 => mbxCtrl m
  | 0x000C => mbxStatus m
  | 0x0010 => m.abort.toNat
  | 0x0014 => bitIf m.irqEn 0
  | _ => if 0x0100 ≤ off ∧ off < 0x0200 then ofLe (wordAt m.data (off - 0x0100)) else 0

end Sys2Proof.Machine
end

