-- ==== Sys2Proof/Machine/EventOps.lean ====
section
/-! DEFINITION. How an event travels: held before the log runs, logged, folded, delivered to the rings and queued for EMCY
(15; 02 R67, R73). An event changes the event system, the CAN FD node's queue and what is sent out, and nothing else. -/

namespace Sys2Proof.Machine

/-- Values an event carries, each with its width in bytes, filled from byte 8 upward (15 R831). -/
def packData (vs : List (Nat × Nat)) : BitVec 32 :=
  BitVec.ofNat 32 (ofLe ((vs.flatMap (fun p => leBytes p.1 p.2)).take 4))

/-- The 16 bytes of an event record; `phase` is bit 15 of the source field, 0 outside the rings (15 R830). -/
def recBytes (r : Rec) (phase : Bool) : List Byte :=
  leBytes 6 r.time ++
  leBytes 2 (r.event + 2048 * r.severity + bitIf r.early 13 + bitIf r.seeded 14 + bitIf phase 15) ++
  leBytes 4 r.data.toNat ++ leBytes 2 r.bootCount ++ leBytes 1 r.rep ++ leBytes 1 (r.dev + 16 * r.island)

/-- The part of the state an event changes. -/
structure EvPart where
  ev : Events
  can : Can
  out : List Output

/-- Records the log keeps: 4,096, or the 256 of the HALT buffer (15 R832, R833). -/
def logSize (e : Events) : Nat := if e.haltBuffer then 256 else 4096

/-- A source is enabled in its bank; an error source always is (15 R825, R826). -/
def evEnabled (s : State) (ev : Nat) : Bool :=
  assigned ev && (severity ev == 2 || (s.cfg (0x5000 + ev / 64) 1).testBit (ev % 64))

/-- A function receives a source (15 R842, R850). -/
def receives (s : State) (n : Fin 16) (ev : Nat) : Bool :=
  tenantOf ev == some n.val ||
  ((s.cfg (blockIndex 0x3050 n.val) 2).testBit (classBit (ev / 64)) && (classBit (ev / 64) != 8 || n == 0))

/-- An occurrence may be folded into a record (15 R839, R841). -/
def foldsInto (s : State) (r old : Rec) : Bool :=
  old.event == r.event && decide (r.severity < 2) && old.data == r.data && decide (old.rep < 255) &&
  decide (r.stamp < old.stamp + 1000 * s.cfg 0x2C00 2)

/-- Fold an occurrence into the newest record of its source, if it may be; the log is newest first. -/
def foldLog (s : State) (r : Rec) : List Rec → Option (List Rec)
  | [] => none
  | old :: rest =>
    if old.event = r.event then
      if foldsInto s r old then some ({ old with rep := old.rep + 1 } :: rest) else none
    else (foldLog s r rest).map (old :: ·)

/-- Set a source's pending bit (15 R827). -/
def setPending (e : Events) (ev : Nat) : Events :=
  if h : ev / 64 < 28 then
    { e with pendingBits := vmod e.pendingBits ⟨ev / 64, h⟩ (fun w => w ||| BitVec.ofNat 64 (2 ^ (ev % 64))) }
  else e

/-- A function can take a ring record now: bus mastering is on and HOST runs (15 R848). -/
def ringOpen (s : State) (n : Fin 16) : Bool := s.port.fns[n].bme && s.island .host == .running

/-- Deliver a record to one function's ring; the second part says that its first loss since a record is to be logged
(15 R844 to R848). -/
def ringPut (s : State) (x : EvPart) (n : Fin 16) (r : Rec) : EvPart × Bool :=
  let g := x.ev.ring[n]
  if g.entries = 0 ∨ receives s n r.event = false then (x, false)
  else if (g.producer + 1) % g.entries = g.consumer ∨ ringOpen s n = false then
    ({ x with ev := { x.ev with ring := vset x.ev.ring n { g with lost := g.lost + 1, lossSeen := true } } }, !g.lossSeen)
  else
    ({ x with
        ev := { x.ev with ring := vset x.ev.ring n { g with
          producer := (g.producer + 1) % g.entries
          phase := if g.producer + 1 = g.entries then !g.phase else g.phase
          lossSeen := false
          due := true } }
        out := x.out ++ [.dma n (s.cfg (blockIndex 0x3050 n.val) 3 + 16 * g.producer) (recBytes r g.phase)] }, false)

/-- Deliver a record to every ring; the numbers of the rings whose first loss is to be logged. -/
def ringAll (s : State) (x : EvPart) (r : Rec) : EvPart × List Nat :=
  (List.finRange 16).foldl (fun (a : EvPart × List Nat) n =>
    ((ringPut s a.1 n r).1, if (ringPut s a.1 n r).2 then a.2 ++ [n.val] else a.2)) (x, [])

/-- The EMCY message of a record (04 R167; 15 R851). -/
def emcyBytes (reg : Nat) (r : Rec) : List Byte :=
  [0x00, 0xFF] ++ leBytes 1 reg ++ leBytes 2 r.event ++ leBytes 4 r.time ++ leBytes 4 r.data.toNat ++ [0, 0, 0]

/-- Queue an EMCY message if the source is selected; the second part says that its drop is the first since a sent message
(15 R851, R852). -/
def emcyPut (s : State) (x : EvPart) (r : Rec) : EvPart × Bool :=
  if (s.cfg (0x5000 + r.event / 64) 4).testBit (r.event % 64) = false then (x, false)
  else if 32 ≤ x.can.emcy.length ∨ x.can.nmt = .stopped ∨ s.emcyId.testBit 31 then
    ({ x with can := { x.can with emcyDropped := x.can.emcyDropped + 1, emcyDropSeen := true } }, !x.can.emcyDropSeen)
  else
    ({ x with can := { x.can with
        emcy := x.can.emcy ++ [emcyBytes (errorRegister { s with ev := x.ev, can := x.can }) r] } }, false)

/-- A record of the event system's own, raised while another record is delivered. -/
def ownRec (r : Rec) (ev : Nat) (data : BitVec 32) : Rec :=
  { r with event := ev, severity := severity ev, data := data, rep := 0, early := false, seeded := false, island := 2 }

/-- Enter records into the log in order, with what each sets off. A record that a delivery sets off enters after it; `fuel` bounds
that chain, which the one-time rules of R846 and R852 keep to at most seventeen. -/
def logRecs (s : State) : Nat → List Rec → EvPart → EvPart
  | 0, _, x => x
  | _, [], x => x
  | fuel + 1, r :: rest, x =>
    if evEnabled s r.event = false then logRecs s fuel rest x
    else
      match foldLog s r x.ev.log with
      | some l => logRecs s fuel rest { x with ev := setPending { x.ev with log := l } r.event }
      | none =>
        let x1 := { x with ev := setPending { x.ev with
          log := (r :: x.ev.log).take (logSize x.ev), written := x.ev.written + 1 } r.event }
        let x2 := ringAll s x1 r
        let x3 := emcyPut s x2.1 r
        logRecs s fuel
          (x2.2.map (fun n => ownRec r (tenantEv n 5) 0) ++
            (if x3.2 then [ownRec r 2 (BitVec.ofNat 32 x3.1.can.emcyDropped)] else []) ++ rest)
          x3.1

/-- CONTROL runs. -/
def controlRuns (s : State) : Bool := s.island .control == .running

/-- Take a record: into SUPERVISOR while CONTROL is stopped, into CONTROL before the log starts, else into the log
(02 R67; 15 R834 to R836). -/
def takeRec (s : State) (r : Rec) : EvPart :=
  if controlRuns s = false then
    if s.ev.heldSup.length < 16 then ⟨{ s.ev with heldSup := s.ev.heldSup ++ [{ r with early := true }] }, s.can, s.out⟩
    else ⟨{ s.ev with droppedSup := s.ev.droppedSup + 1 }, s.can, s.out⟩
  else if s.ev.started = false then
    if s.ev.heldCtl.length < 64 then ⟨{ s.ev with heldCtl := s.ev.heldCtl ++ [r] }, s.can, s.out⟩
    else ⟨{ s.ev with droppedCtl := s.ev.droppedCtl + 1 }, s.can, s.out⟩
  else logRecs s 64 [r] ⟨s.ev, s.can, s.out⟩

/-- The record of an occurrence now. DESIGN CHOICE (log 123): the time base that an island holds at its most recent handshake is the
present one; no value of its own is held for an island (01 R42). -/
def newRec (s : State) (ev : Nat) (isl : EvIsland) (data : BitVec 32) : Rec :=
  { time := s.time.timeBase % 2 ^ 48, event := ev, severity := severity ev, early := false, seeded := false, data := data,
    bootCount := s.life.bootCount % 65536, rep := 0, dev := s.life.dev.code, island := isl.code, stamp := s.time.now }

/-- Raise an event with its data word. -/
def raiseWord (s : State) (ev : Nat) (isl : EvIsland) (data : BitVec 32) : State :=
  let x := takeRec s (newRec s ev isl data)
  { s with ev := x.ev, can := x.can, out := x.out }

/-- Raise an event with the values it carries, each with its width in bytes. -/
def raise (s : State) (ev : Nat) (isl : EvIsland) (vs : List (Nat × Nat)) : State := raiseWord s ev isl (packData vs)

/-- Raise an event if a condition holds. -/
def raiseIf (b : Bool) (s : State) (ev : Nat) (isl : EvIsland) (vs : List (Nat × Nat)) : State :=
  if b then raise s ev isl vs else s

/-- The log starts at BOOT step 9: the keep-store seed, the records SUPERVISOR held, those CONTROL held, then what overflowed
(02 R67, R73; 15 R834 to R836, R857). -/
def startLog (s : State) (seed : List Rec) : State :=
  let held := s.ev.heldSup ++ s.ev.heldCtl ++
    (if s.ev.droppedCtl = 0 then [] else [newRec s 1 .control (BitVec.ofNat 32 s.ev.droppedCtl)]) ++
    (if s.ev.droppedSup = 0 then [] else [newRec s 80 .control (BitVec.ofNat 32 s.ev.droppedSup)])
  let e := { s.ev with
    log := (seed.map (fun r => { r with seeded := true })).reverse, started := true, haltBuffer := false
    heldSup := [], heldCtl := [], droppedSup := 0, droppedCtl := 0 }
  let x := logRecs s 256 held ⟨e, s.can, s.out⟩
  { s with ev := x.ev, can := x.can, out := x.out }

/-- CONTROL runs again outside a BOOT, or HALT begins: what SUPERVISOR held enters the log (15 R836). -/
def releaseHeld (s : State) : State :=
  if s.ev.started = false then s
  else
    let x := logRecs s 128 (s.ev.heldSup ++
      (if s.ev.droppedSup = 0 then [] else [newRec s 80 .control (BitVec.ofNat 32 s.ev.droppedSup)]))
      ⟨{ s.ev with heldSup := [], droppedSup := 0 }, s.can, s.out⟩
    { s with ev := x.ev, can := x.can, out := x.out }

end Sys2Proof.Machine
end

