-- ==== Sys2Proof/Machine/KeepOps.lean ====
section
/-! DEFINITION. The keep store: two copies in VKEEP-backed memory, which to use, what a write holds, and the fault record
(09 sections 13 and 14; 15 section 9). -/

namespace Sys2Proof.Machine

/-- The first sequence is the newer one or equal, modulo 2^32 (09 R526). -/
def seqNewer (a b : BitVec 32) : Bool := decide ((a - b).toNat < 2 ^ 31)

/-- Copy A is the one to use: the valid copy, or the valid copy with the higher sequence (09 R526). -/
def useA (k : Keep) : Bool :=
  if k.copyA.valid && k.copyB.valid then seqNewer k.copyA.seq k.copyB.seq else k.copyA.valid

/-- The record in use; none when both copies are invalid (09 R526, R528). -/
def keepNewest (k : Keep) : Option KeepCopy :=
  if useA k then some k.copyA else if k.copyB.valid then some k.copyB else none

/-- The body in use, factory values when there is none (09 R528). -/
def keepBody (k : Keep) : KeepRec :=
  match keepNewest k with
  | some c => c.body
  | none => KeepRec.factory

/-- The sequence of the next write: one above the newer copy's, or 1 (09 R523). -/
def keepNextSeq (k : Keep) : BitVec 32 :=
  match keepNewest k with
  | some c => c.seq + 1
  | none => 1

/-- Write a body: it goes to the copy that is invalid or has the lower sequence (09 R523). -/
def keepPut (k : Keep) (b : KeepRec) : Keep :=
  if useA k then { k with copyB := ⟨true, keepNextSeq k, b⟩ }
  else { k with copyA := ⟨true, keepNextSeq k, b⟩ }

/-- A collapse during a write leaves the copy that was being written invalid (09 R523, 02 *When things meet*). -/
def keepTear (k : Keep) : Keep :=
  if useA k then { k with copyB := { k.copyB with valid := false } } else { k with copyA := { k.copyA with valid := false } }

/-- The estimator record of a channel (09 **Estimator record**); the snapshot stays the stored one unless a new one is given. -/
def keepEst (e : Est) (old : KeepEst) (snap : Option Snap) : KeepEst :=
  { fcc := e.fcc, quarantined := e.quarantined, quarantines := e.quarantines, learnedAt := e.learnedAt, history := e.history,
    cycles := e.cycles, impedance := e.impedance, snap := (match snap with | some x => some x | none => old.snap),
    daysFrom := e.daysFrom }

/-- A record belongs in the keep store: warning, error, or of bank 1 or 7 (15 R856). -/
def keepsEvent (r : Rec) : Bool := decide (1 ≤ r.severity) || r.event / 64 == 1 || r.event / 64 == 7

/-- The last 64 of a list. -/
def last64 {α : Type} (l : List α) : List α := l.drop (l.length - 64)

/-- The event area of a write: the 64 most recent records of the log that belong there, with those SUPERVISOR holds; before the
log runs, those already stored take the place of the log (15 R856; 02 R73). -/
def keepEvents (s : State) : List Rec :=
  last64 ((if s.ev.started then (s.ev.log.filter keepsEvent).reverse else (keepBody s.keep).events) ++ s.ev.heldSup)

/-- The record a write holds now (09 R522). -/
def keepRecord (s : State) (packSnap bankSnap : Option Snap) : KeepRec :=
  { bootCount := s.life.bootCount, haltCause := s.life.haltCause, haltRepeat := s.life.haltRepeat, activeB := s.life.activeB,
    trialState := s.life.trialState, trialUsed := s.life.trialUsed, packFault := s.pack.fault, bankFault := s.bank.fault,
    storeCount := s.nor.storeCount, eByte := s.adm.eByte, lifeEnd := s.keep.lifeEnd, latched := s.rails.latched,
    stepDelay := s.nor.stepDelay4, enableTimeout := s.nor.enableTimeout4,
    pack := keepEst s.packEst (keepBody s.keep).pack packSnap, bank := keepEst s.bankEst (keepBody s.keep).bank bankSnap,
    powered := s.poweredSec, fault := s.rails.fault, events := keepEvents s }

/-- CONTROL is stopped outside a BOOT: what SUPERVISOR holds passes to the keep store (15 R836). -/
def heldGoesToKeep (d : DevState) : Bool := d == .keep || d == .sleep

/-- Write the keep store now, with the snapshots given (09 R523 to R525). -/
def keepWriteSnap (packSnap bankSnap : Option Snap) (s : State) : State :=
  { s with
    keep := { keepPut s.keep (keepRecord s packSnap bankSnap) with pending := false }
    ev.heldSup := if heldGoesToKeep s.life.dev then [] else s.ev.heldSup }

/-- Write the keep store now (09 R525). -/
def keepWrite (s : State) : State := keepWriteSnap none none s

/-- Write the keep store now with a new LifeEnd (09 R529). -/
def keepWriteEnd (n : Nat) (s : State) : State := keepWrite { s with keep.lifeEnd := n }

/-- Ask for an event-driven write, which waits for its 60 s spacing (09 R525). -/
def keepPend (s : State) : State := { s with keep.pending := true }

/-- Take a channel's stored values (09 R522; 08 R446). -/
def loadEst (e : Est) (k : KeepEst) : Est :=
  { e with
    fcc := k.fcc, quarantined := k.quarantined, quarantines := k.quarantines, learnedAt := k.learnedAt,
    history := k.history, cycles := k.cycles, impedance := k.impedance, daysFrom := k.daysFrom }

/-- BOOT step 1 selects the copy and takes its values; an invalid copy is reported (09 R521, R526 to R528). -/
def loadKeep (s : State) : State :=
  let b := keepBody s.keep
  let s1 := { s with
    life := { s.life with
      bootCount := b.bootCount, haltCause := b.haltCause, haltRepeat := b.haltRepeat, activeB := b.activeB,
      trialState := b.trialState, trialUsed := b.trialUsed }
    nor := { s.nor with storeCount := b.storeCount, stepDelay4 := b.stepDelay, enableTimeout4 := b.enableTimeout }
    pack.fault := b.packFault, bank.fault := b.bankFault
    adm := { s.adm with eByte := b.eByte, eByteInUse := b.eByte }
    rails := { s.rails with latched := b.latched, fault := b.fault }
    packEst := loadEst s.packEst b.pack, bankEst := loadEst s.bankEst b.bank
    time.powered := b.powered * 1000000
    keep.lifeEnd := b.lifeEnd }
  let s2 := raiseIf (!s.keep.copyA.valid && !s.keep.copyB.valid) s1 8 .supervisor []
  let s3 := raiseIf (s.keep.copyA.valid != s.keep.copyB.valid) s2 7 .supervisor []
  raiseIf ((keepNewest s.keep).isSome && b.lifeEnd == 0) s3 9 .supervisor []

/-- The records that seed the log at step 9: those of earlier BOOTs in the copy in use (02 R73; 15 R857). -/
def keepSeed (s : State) : List Rec := (keepBody s.keep).events.filter (fun r => r.bootCount != s.life.bootCount % 65536)

/-- The 64 bytes of the fault record; a cleared record is all zeros (09 **Fault record**). -/
def faultBytes (f : FaultRec) : List Byte :=
  leBytes 1 f.kind ++ leBytes 1 f.rail ++ leBytes 1 f.switch ++ leBytes 1 f.dev ++ leBytes 1 f.bootStep ++ leBytes 1 f.position ++
  leBytes 2 f.reading ++ leBytes 8 f.time ++ leBytes 4 f.bootCount ++ leBytes 2 f.railsGood ++ leBytes 1 f.gatesOn ++
  leBytes 1 f.enablesOn ++ leBytes 4 f.wallSeconds ++ leBytes 2 f.haltCause ++ leBytes 1 f.later ++ leBytes 1 f.lagMax ++
  List.replicate 32 0

end Sys2Proof.Machine
end

