-- ==== Sys2Proof/Machine/RailOps.lean ====
section
/-! DEFINITION. Rails, gates, resets, trims and walks: the operations that the supervision commands and the outage path share
(09 sections 1 to 10, 14). -/

namespace Sys2Proof.Machine

/-! ### A rail's configuration -/

/-- A sub-entry of rail r. -/
def State.railCfg (s : State) (r : Fin 12) (sub : Nat) : Nat := s.cfg (0x2610 + r.val) sub

def State.nominal (s : State) (r : Fin 12) : Nat := s.railCfg r 0x01
def State.filterCount (s : State) (r : Fin 12) : Nat := s.railCfg r 0x05
def State.upPosition (s : State) (r : Fin 12) : Nat := s.railCfg r 0x0A
def State.saveGroup (s : State) (r : Fin 12) : Nat := s.railCfg r 0x0B

/-- Save groups (09 SaveGroup): 0 own, 1 host, 2 drive, 3 camera, 4 memory. -/
def allGroups : List Nat := [1, 2, 3, 4]

/-- A rail is configured while its Nominal is not 0 (09 R458). -/
def State.configured (s : State) (r : Fin 12) : Bool := s.nominal r != 0

/-- A rail is switched by this gate driver (09 R459). -/
def State.onGate (s : State) (r : Fin 12) (g : Fin 8) : Bool :=
  s.configured r && s.railCfg r 0x08 == 1 && s.railCfg r 0x09 == g.val

/-- A rail is switched by a gate driver (09 R459). -/
def State.gated (s : State) (r : Fin 12) : Bool := s.configured r && s.railCfg r 0x08 == 1 && decide (s.railCfg r 0x09 < 8)

/-- The gate driver of a gated rail. -/
def State.gateOf (s : State) (r : Fin 12) : Fin 8 := Fin.ofNat 8 (s.railCfg r 0x09)

/-- The rail a gate driver switches. -/
def State.railOf (s : State) (g : Fin 8) : Option (Fin 12) := (List.finRange 12).find? (fun r => s.onGate r g)

/-- A gate driver is the PACK or BANK source switch (07 R372, 09 R469). -/
def State.isSourceGate (s : State) (g : Fin 8) : Bool := s.cfg 0x2570 2 == g.val || s.cfg 0x2570 3 == g.val

/-! ### Comparison -/

/-- Widening of the warning window during reduced precision, in ‰ of nominal (02 R69). -/
def State.widening (s : State) : Nat := if s.life.scanReduced then 40 else 0

/-- A reading is out of the rail's window (09 R452). -/
def State.outOfWindow (s : State) (r : Fin 12) (mv : Nat) : Bool :=
  decide (mv * 1000 < s.nominal r * (s.railCfg r 0x03 - s.widening)) ||
  decide (s.nominal r * (s.railCfg r 0x04 + s.widening) < mv * 1000)

/-- A reading is a short (09 R455). -/
def State.isShort (s : State) (r : Fin 12) (mv : Nat) : Bool := decide (mv * 1000 < s.nominal r * s.railCfg r 0x06)

/-- A reading is an over-voltage trip (09 R455). -/
def State.isTrip (s : State) (r : Fin 12) (mv : Nat) : Bool := decide (s.nominal r * s.railCfg r 0x07 < mv * 1000)

/-- A rail has settled at good or warning. -/
def RailStatus.up : RailStatus → Bool
  | .good => true | .warning => true | _ => false

/-- A rail that is compared at this scan (09 R458 to R460, R466, R499). A rail that failed or is off is not; one whose ramp has
ended or that was unmasked is, while it waits to be good. -/
def State.compared (s : State) (r : Fin 12) : Bool :=
  s.configured r && !(s.rl r).mask && !(s.rl r).falling && (s.rl r).status != .failed &&
  (if s.railCfg r 0x08 = 1 then ((s.rl r).status.up || (s.rl r).status == .pending)
   else if s.railCfg r 0x08 = 2 then s.rails.en[Fin.ofNat 4 (s.railCfg r 0x09)]
   else if s.railCfg r 0x0D = 0xFF then true
   else (s.rl (Fin.ofNat 12 (s.railCfg r 0x0D))).status == .good)

/-- Status and counters of a rail after a reading (09 R453, R454, R466): the runs of readings out of and in the window. -/
def State.countScan (s : State) (r : Fin 12) (mv : Nat) : State :=
  let out := s.outOfWindow r mv
  s.modRail r (fun x => { x with
    mv := mv
    outRun := if out then x.outRun + 1 else 0
    inRun := if out then 0 else x.inRun + 1
    high := decide (s.nominal r * 1000 < mv * 1000)
    scans := x.scans + 1
    status := if x.status = .off then .pending else x.status })

/-! ### The fault record -/

/-- Rails that are good, as bits (09 **Fault record**). -/
def railsGood (x : Rails) : Nat := (List.finRange 12).foldl (fun m r => m + bitIf (x.rail[r].status == .good) r.val) 0

def gatesOn (x : Rails) : Nat := (List.finRange 8).foldl (fun m g => m + bitIf x.gate[g].driven g.val) 0

def enablesOn (x : Rails) : Nat := (List.finRange 4).foldl (fun m k => m + bitIf x.en[k] k.val) 0

/-- Latch the fault record: the first fault since it was cleared fills it, a later one only counts (09 R498, R530, R531). `switch`
is source × 16 + number, `lag` in mV. -/
def latchFault (kind rail switch position reading lag : Nat) (s : State) : State :=
  let f := if s.rails.fault.kind = 0 then
      { kind := kind, rail := rail, switch := switch, dev := s.life.dev.code, bootStep := s.life.bootStep, position := position,
        reading := reading, time := s.time.timeBase, bootCount := s.life.bootCount, railsGood := railsGood s.rails,
        gatesOn := gatesOn s.rails, enablesOn := enablesOn s.rails, wallSeconds := s.wallSeconds, haltCause := 0, later := 0,
        lagMax := min 255 (lag / 100) }
    else { s.rails.fault with later := min 255 (s.rails.fault.later + 1) }
  raise { s with rails := { s.rails with fault := f, latched := true } } 343 .supervisor []

/-- The switch byte of a rail (09 **Fault record** byte 2). -/
def State.switchByte (s : State) (r : Fin 12) : Nat :=
  if s.railCfg r 0x08 = 0 then 0 else s.railCfg r 0x08 * 16 + s.railCfg r 0x09 % 16

/-- Latch a fault of a rail. -/
def latchRail (kind : Nat) (r : Fin 12) (reading lag : Nat) (s : State) : State :=
  latchFault kind r.val (s.switchByte r) (s.upPosition r) reading lag s

/-! ### Resets -/

/-- Reset k follows this rail (09 R505). -/
def State.resetOf (s : State) (k : Fin 4) (r : Fin 12) : Bool := s.cfg (0x2730 + k.val) 1 == r.val

/-- Assert the resets tied to a rail (09 R505, R508). -/
def assertResets (r : Fin 12) (s : State) : State :=
  { s with rails.rst := vmapIdx (fun k x => if s.resetOf k r then .asserted else x) s.rails.rst }

/-- A rail is good: its resets start their stretch, those of a host rail once the PCIe port is ready to train (09 R506). -/
def stretchResets (r : Fin 12) (s : State) : State :=
  let f := fun (k : Fin 4) (x : ResetRun) =>
    if s.resetOf k r && x == .asserted && (s.saveGroup r != 1 || s.port.ready) then .stretching else x
  { s with rails.rst := vmapIdx f s.rails.rst }

/-- The PCIe port is ready to train: the resets of the good host rails start their stretch (09 R506; 02 R71). -/
def portReady (s : State) : State :=
  forAll 12 (fun t r => if (t.rl r).status = .good ∧ t.saveGroup r = 1 then stretchResets r t else t)
    { s with port.ready := true }

/-- Resets without a rail start their stretch at BOOT step 12 (09 R507). -/
def stretchFree (s : State) : State :=
  let f := fun (k : Fin 4) (x : ResetRun) =>
    if s.cfg (0x2730 + k.val) 1 = 0xFF ∧ x = .asserted then .stretching else x
  { s with rails.rst := vmapIdx f s.rails.rst }

/-! ### Gates -/

/-- Start a gate's ramp (09 R463). -/
def rampGate (g : Fin 8) (s : State) : State := s.modGate g (fun _ => ⟨.ramping, true, 0⟩)

/-- Pull a gate down (09 R467). -/
def gateOff (g : Fin 8) (s : State) : State := s.modGate g (fun x => { x with state := .off, driven := false })

/-- A gate's ramp failed: it is pulled down and reads 3 (09 R464, R465). -/
def gateFail (g : Fin 8) (lag : Nat) (s : State) : State := s.modGate g (fun x => ⟨.failed, false, max x.lagMax lag⟩)

/-- Start the ramp of a gated rail (09 R463). -/
def rampRail (r : Fin 12) (s : State) : State :=
  rampGate (s.gateOf r) (s.modRail r (fun x => { x with
    status := .ramping, outRun := 0, inRun := 0, ramped := false, scans := 0, falling := false }))

/-- Shut a gated rail by a down step: resets asserted, then the gate off (09 R479, R508). -/
def dropRail (by_ : OffBy) (st : RailStatus) (r : Fin 12) (s : State) : State :=
  gateOff (s.gateOf r) ((assertResets r s).modRail r (fun x => { x with
    status := st, outRun := 0, inRun := 0, ramped := false, falling := true, offBy := by_ }))

/-- A gate is pulled down at once for a short, a trip or a failed ramp; the rail reads 5 and its resets assert (09 R464, R494,
R508). -/
def pullRail (lag : Nat) (r : Fin 12) (s : State) : State :=
  gateFail (s.gateOf r) lag ((assertResets r s).modRail r (fun x => { x with
    status := .failed, outRun := 0, inRun := 0, ramped := false, falling := false, offBy := .fault }))

/-! ### Walks -/

/-- A camera rail serves a stream that is to record in SIMMER: its CameraPorts name the stream's port (09 R482; 11 R612). -/
def State.servesRecording (s : State) (r : Fin 12) : Bool :=
  s.mode.outageInForce == 2 && (List.finRange 16).any (fun n =>
    (s.cfg 0x2820 1).testBit n.val && s.cfg (blockIndex 0x4040 n.val) 1 == 2 &&
    (s.railCfg r 0x0C).testBit (s.cfg (blockIndex 0x4000 n.val) 0x0F))

/-- The rail lies in one of some groups; 5 stands for the camera rails that serve no recording stream (11 R613). -/
def State.inGroups (s : State) (groups : List Nat) (r : Fin 12) : Bool :=
  groups.contains (s.saveGroup r) || (groups.contains 5 && s.saveGroup r == 3 && !s.servesRecording r)

/-- A gated rail of some groups, at a position. -/
def State.inStep (s : State) (groups : List Nat) (pos : Nat) (r : Fin 12) : Bool :=
  s.gated r && s.inGroups groups r && s.upPosition r == pos

/-- The rail is up or coming up: its gate is driven. -/
def State.driven (s : State) (r : Fin 12) : Bool := s.gated r && s.rails.gate[s.gateOf r].driven

/-- Rails of a step that a walk up ramps: off, and not switched off by command or by a fault (10 R558). -/
def State.upRails (s : State) (groups : List Nat) (pos : Nat) : List (Fin 12) :=
  (List.finRange 12).filter (fun r => s.inStep groups pos r && !s.driven r && (s.rl r).status != .failed &&
    (s.rl r).offBy != .command && (s.rl r).offBy != .fault)

/-- Rails of a step that a walk down shuts. -/
def State.downRails (s : State) (groups : List Nat) (pos : Nat) : List (Fin 12) :=
  (List.finRange 12).filter (fun r => s.inStep groups pos r && s.driven r)

/-- The lowest position from `p` up at which a walk has rails to ramp; 12 is the highest. -/
def State.nextUp (s : State) (groups : List Nat) (p : Nat) : Option Nat :=
  (List.range 13).find? (fun q => p ≤ q && 1 ≤ q && !(s.upRails groups q).isEmpty)

/-- The highest position from `p` down at which a walk has rails to shut; position 0 comes last (09 R483). -/
def State.nextDown (s : State) (groups : List Nat) (p : Nat) : Option Nat :=
  ((List.range 13).reverse).find? (fun q => q ≤ p && !(s.downRails groups q).isEmpty)

/-- Ramp the rails of one step together (09 R478). -/
def rampStep (groups : List Nat) (pos : Nat) (s : State) : State :=
  (s.upRails groups pos).foldl (fun t r => rampRail r t)
    { s with rails := { s.rails with walk := .up groups, pos := pos, delaying := false } }

/-- Shut the rails of one step together (09 R479). -/
def dropStep (groups : List Nat) (pos : Nat) (s : State) : State :=
  (s.downRails groups pos).foldl (fun t r => dropRail .walk .off r t)
    { s with rails := { s.rails with walk := .down groups, pos := pos, delaying := false } }

/-- An up walk has no position left: it ends (EV-0340 UpOrderComplete). -/
def endUpWalk (s : State) : State :=
  raise { s with rails := { s.rails with walk := .none, delaying := false } } 340 .supervisor []

/-- A down walk has no position left: it ends (EV-0341 DownOrderComplete). -/
def endDownWalk (s : State) : State :=
  raise { s with rails := { s.rails with walk := .none, delaying := false } } 341 .supervisor []

/-- Go on with an up walk from a position, or end it (09 R477). -/
def upFrom (groups : List Nat) (p : Nat) (s : State) : State :=
  match s.nextUp groups p with
  | some q => rampStep groups q s
  | none => endUpWalk { s with rails := { s.rails with walk := .up groups, pos := 12 } }

/-- Go on with a down walk from a position, or end it (09 R479). -/
def downFrom (groups : List Nat) (p : Nat) (s : State) : State :=
  match s.nextDown groups p with
  | some q => dropStep groups q s
  | none => endDownWalk { s with rails := { s.rails with walk := .down groups, pos := 0 } }

/-- Start an up walk of some groups; with no rail to ramp there is none. -/
def walkUp (groups : List Nat) (s : State) : State :=
  match s.nextUp groups 1 with
  | some q => rampStep groups q s
  | none => { s with rails := { s.rails with walk := .none, delaying := false } }

/-- Start a down walk of some groups (09 R479); with no rail to shut there is none. -/
def walkDown (groups : List Nat) (s : State) : State :=
  match s.nextDown groups 12 with
  | some q => dropStep groups q s
  | none => { s with rails := { s.rails with walk := .none, delaying := false } }

/-- Every rail of the walk's present position is good, or masked with its ramp ended (09 R478, R499). -/
def State.stepGood (s : State) (groups : List Nat) (pos : Nat) : Bool :=
  (List.finRange 12).all (fun r => !(s.inStep groups pos r && s.driven r) || (s.rl r).status == .good ||
    ((s.rl r).mask && ((s.rl r).ramped || (s.rl r).status.up)))

/-- No switched rail of a group is up or falling (11 R597). -/
def State.groupShut (s : State) (g : Nat) : Bool :=
  (List.finRange 12).all (fun r => !(s.gated r && s.saveGroup r == g) || (!s.driven r && !(s.rl r).falling))

/-- No rail is still falling. -/
def State.noneFalling (s : State) : Bool := (List.finRange 12).all (fun r => !(s.rl r).falling)

/-- Every falling rail reads below its off level (09 R480). -/
def State.fallenAll (s : State) : Bool :=
  (List.finRange 12).all (fun r => !(s.rl r).falling || decide ((s.rl r).mv * 1000 < s.nominal r * s.cfg 0x2700 4))

/-- The falling rails have fallen, or their time is up. -/
def clearFalling (s : State) : State := { s with rails.rail := vmap (fun x => { x with falling := false }) s.rails.rail }

/-- Release the enables in the order EN3 to EN0 (09 R475). The crystal stops with its supply on EN2, and the time base runs from
the RC oscillator (01 R40; 09 R472). -/
def releaseEnables (s : State) : State := { s with rails.en := Vector.replicate 4 false, time.onRc := true }

/-- Every gate, enable, reset, charger enable, balancing output and trim falls to its pull-down (02 R98; 09 R520). The crystal stops
with its supply (01 R40). -/
def releaseOutputs (s : State) : State :=
  { s with
    time.onRc := true
    rails := { s.rails with
      released := true
      rail := vmap (fun x => { x with status := .off, ramped := false, falling := false, outRun := 0, inRun := 0 }) s.rails.rail
      gate := vmap (fun x => { x with state := .off, driven := false }) s.rails.gate
      en := Vector.replicate 4 false
      rst := Vector.replicate 4 .asserted
      walk := .none, delaying := false, pfwLow := false }
    pack := { s.pack with enable := false, phase := .off }
    bank := { s.bank with enable := false, phase := .off }
    hold := { s.hold with
              en := false, state := 0, packClosed := false, bankClosed := false, assist := none,
              bal := Vector.replicate 6 false } }

/-! ### Trims -/

/-- The code a trim outputs at the model's clock (09 R514). -/
def trimCode (s : State) (t : Fin 4) : Nat :=
  let x := s.rails.trim[t]
  if x.slewing then
    let d := s.cfg (0x2720 + t.val) 2 * (s.time.now - x.slewAt) / 1000000
    if x.present ≤ x.target then min x.target (x.present + d) else max x.target (x.present - d)
  else x.present

/-- A new final target: the trim slews from its present code (09 R514). -/
def trimTo (t : Fin 4) (v : Nat) (s : State) : State :=
  let x : Trim := ⟨trimCode s t, v, trimCode s t != v, s.time.now⟩
  { s with rails.trim := vset s.rails.trim t x }

/-- Trims hold their code on the outage path (09 R517). -/
def holdTrims (s : State) : State :=
  { s with rails.trim := vmapIdx (fun t x => { x with present := trimCode s t, slewing := false }) s.rails.trim }

/-- After the path the trims slew on to their targets (09 R514, R517). -/
def freeTrims (s : State) : State := forAll 4 (fun u t => trimTo t u.rails.trim[t].target u) s

/-- RailStatus codes (09). -/
def RailStatus.code : RailStatus → Nat
  | .off => 0 | .ramping => 1 | .pending => 2 | .good => 3 | .warning => 4 | .failed => 5 | .masked => 6

def GateRun.code : GateRun → Nat
  | .off => 0 | .ramping => 1 | .on => 2 | .failed => 3 | .source => 4

def ResetRun.code : ResetRun → Nat
  | .asserted => 0 | .stretching => 1 | .released => 2

/-- `2700h:05 SequenceState`: 0 idle, 1 up, 2 down, 3 save, 4 halted. -/
def sequenceState (s : State) : Nat :=
  match s.rails.walk with
  | .up _ => 1
  | .down _ => if s.outage.phase = .none then 2 else 3
  | .none => if s.life.dev = .halt then 4 else 0

end Sys2Proof.Machine
end

