-- ==== Sys2Proof/Machine/EnergyOps.lean ====
section
/-! DEFINITION. The energy channels: configuration, charge window, inhibits, phases and targets, balancing, the hold-up converter
(07). -/

namespace Sys2Proof.Machine

/-- Event numbers of a channel: PACK at `k`, BANK 64 above (07 **Energy store events**, 08 **Estimator events**). -/
def chanEv (c : Channel) (k : Nat) : Nat :=
  match c with | .pack => k | .bank => k + 64

/-- The code of a channel in an event's data: 0 PACK, 1 BANK (as `2E03h` Target codes it). -/
def chanCode (c : Channel) : Nat :=
  match c with | .pack => 0 | .bank => 1

/-! ### Configuration -/

/-- `2500h:01 PackChemistry`: 1 NMC, 2 LFP; a BANK is EDLC, 3 (07 **Channel configurations**, 08 **Profile header**). -/
def chemistry (s : State) (c : Channel) : Nat :=
  match c with | .pack => s.cfg 0x2500 1 | .bank => 3

/-- Cells in series. -/
def cells (s : State) (c : Channel) : Nat :=
  match c with | .pack => s.cfg 0x2500 2 | .bank => s.cfg 0x2580 1

/-- A channel is configured (07 R336). -/
def chanConfigured (s : State) (c : Channel) : Bool :=
  match c with | .pack => s.cfg 0x2500 1 != 0 | .bank => s.cfg 0x2580 1 != 0

/-- The highest terminal voltage before ConfigMismatch, mV (07 R338). -/
def mismatchLevel (s : State) (c : Channel) : Nat :=
  cells s c * (match chemistry s c with | 1 => 4250 | 2 => 3700 | _ => 3000) + 200

/-- The NTC reads within −40 to 100 °C (07 R336). -/
def ntcOk (x : Chan) : Bool := decide (-400 ≤ x.dt) && decide (x.dt ≤ 1000)

/-- A channel that is not configured does not count as fitted (07 R336). -/
def dropUnconfigured (c : Channel) (s : State) : State :=
  if chanConfigured s c then s else s.setChan c { s.chan c with fitted := false, full := false }

/-- The channel's voltage is above what its configuration allows (07 R338). -/
def configMismatch (s : State) (c : Channel) : Bool := (s.chan c).fitted && decide (mismatchLevel s c < (s.chan c).mv)

/-- The channel is faulted, or counts as faulted (07 R338, R339). -/
def chanFaulted (s : State) (c : Channel) : Bool := (s.chan c).fault != 0 || configMismatch s c

/-- C as a current, mA: the design capacity over an hour; a BANK's charge current stands for it (07 R344; log 30). -/
def cRate (s : State) (c : Channel) : Nat :=
  match c with | .pack => s.cfg 0x2500 3 | .bank => s.cfg 0x2580 4

/-- The charger's full-scale current, mA. -/
def fullScale (s : State) (c : Channel) : Nat :=
  match c with | .pack => s.cfg 0x2500 0x0B | .bank => s.cfg 0x2580 9

/-- The row of the PACK charge window after a temperature in 0.1 °C: a boundary is crossed upward at its temperature and downward
2 °C below it (07 R349). -/
def packZone (old : TempZone) (t : Int) : TempZone :=
  let up := fun (b : Int) (above : Bool) => if above then decide (b - 20 < t) else decide (b ≤ t)
  if up 550 (old == .above) then .above
  else if up 450 (old == .above || old == .warm) then .warm
  else if up 100 (old == .above || old == .warm || old == .normal) then .normal
  else if up 0 (old != .below) then .cool
  else .below

/-- The same for the BANK, charged between −40 and 65 °C, re-entered with 2 °C hysteresis (07 R342, R349). -/
def bankZone (old : TempZone) (t : Int) : TempZone :=
  if 650 < t ∨ (old = .above ∧ 630 < t) then .above
  else if t < -400 ∨ (old = .below ∧ t < -380) then .below
  else .normal

def zoneOf (c : Channel) (old : TempZone) (t : Int) : TempZone :=
  match c with | .pack => packZone old t | .bank => bankZone old t

/-- The final charge target, mV (07 R345, R349). -/
def finalTarget (s : State) (c : Channel) : Nat :=
  match c with
  | .pack => cells s c * (s.cfg 0x2500 4 - if s.pack.zone = .warm then 100 else 0)
  | .bank => cells s c * s.cfg 0x2580 3

/-- The precharge level, mV; a BANK has none (07 **Channel configurations**). -/
def prechargeLevel (s : State) (c : Channel) : Nat :=
  match c with
  | .pack => cells s c * (if s.cfg 0x2500 1 = 2 then 2500 else 3000)
  | .bank => 0

/-- The charge current setpoint of a phase, mA (07 R345, R349). -/
def setpointOf (s : State) (c : Channel) (p : Phase) : Nat :=
  match c, p with
  | .pack, .precharge => cRate s c / 10
  | .pack, _ =>
    let full := cRate s c * s.cfg 0x2500 5 / 1000
    if s.pack.zone = .cool ∨ s.pack.zone = .warm then full / 2 else full
  | .bank, _ => s.cfg 0x2580 4

/-- The taper current, mA (07 R350, R351). -/
def taperCurrent (s : State) (c : Channel) : Nat :=
  match c with | .pack => cRate s c * s.cfg 0x2500 6 / 1000 | .bank => s.cfg 0x2580 4 / 20

/-! ### Inhibits and phases -/

/-- States in which a charger may be enabled (07 R342). -/
def chargeState (l : Life) : Bool :=
  match l.dev with
  | .boot => decide (5 ≤ l.bootStep)
  | .restore => true | .serve => true | .halt => true | _ => false

/-- Bit 7, PACK only: at end of charge until the recharge level (07 **Charge inhibits**). -/
def atEndOfCharge (s : State) (c : Channel) : Bool :=
  c == .pack && s.pack.full &&
  decide (finalTarget s .pack ≤ s.pack.mv + cells s .pack * s.cfg 0x2500 8)

/-- Bit 6: a BANK cell above its voltage limit, set 100 mV above and held until every cell is at or below it (07 R364). -/
def cellsOver (s : State) : Bool :=
  let lim := s.cfg 0x2580 3
  (List.finRange 6).any (fun k => decide (k.val < cells s .bank) &&
    (decide (lim + 100 < s.hold.cells[k]) || (s.bank.inhibit.getLsbD 6 && decide (lim < s.hold.cells[k]))))

/-- The InhibitCause bits that hold now (07 **Charge inhibits**). -/
def inhibits (s : State) (c : Channel) : BitVec 8 :=
  BitVec.ofNat 8 (
    bitIf (!chargeState s.life) 0 + bitIf s.hold.sag 1 +
    bitIf ((s.chan c).zone == .below || (s.chan c).zone == .above) 2 +
    bitIf (chanFaulted s c || !(s.chan c).fitted || !chanConfigured s c) 3 + bitIf (s.hold.assist == some c) 4 +
    bitIf (c == .pack && s.cfg 0x2570 1 == 0 && s.bank.fitted && (s.bank.phase == .precharge || s.bank.phase == .constCurrent)) 5 +
    bitIf (c == .bank && cellsOver s) 6 + bitIf (atEndOfCharge s c) 7)

/-- The ChargePhase of a charger that is held off (07 ChargePhase codes; log 31). -/
def heldPhase (s : State) (c : Channel) : Phase :=
  if s.hold.assist = some c then .assist
  else if chanFaulted s c then .fault
  else if (s.chan c).fitted = false ∨ chargeState s.life = false then .off
  else if atEndOfCharge s c then .complete
  else .inhibited

/-- The present charge target on its slew (07 R354). -/
def presentTarget (s : State) (c : Channel) : Nat :=
  let x := s.chan c
  if x.slewing then
    let d := s.cfg 0x2500 0x0C * cells s c * (s.time.now - x.slewAt) / 1000000
    if x.target ≤ x.targetFinal then min x.targetFinal (x.target + d) else max x.targetFinal (x.target - d)
  else x.target

/-- The phase a running charge is in by its voltage: constant voltage from the present charge target on (07 R345, R346). -/
def runPhase (s : State) (c : Channel) (old : Phase) : Phase :=
  let x := s.chan c
  if x.mv < prechargeLevel s c then .precharge
  else if old = .float then .float
  else if old = .constVoltage ∨ presentTarget s c ≤ x.mv then .constVoltage
  else .constCurrent

/-- The CHGx_ISET code of a setpoint: rounded to the nearest of 1,023 steps of full scale, at most 1,023 (07 section 2). -/
def isetOf (full setpoint : Nat) : Nat := if full = 0 then 1023 else min 1023 ((2 * setpoint * 1023 + full) / (2 * full))

/-- The measured current lies within ±3 % of a setpoint, or within ±C/100 (07 R344). -/
def inBand (s : State) (c : Channel) (sp : Nat) (ma : Int) : Bool :=
  decide (100 * (ma - sp).natAbs ≤ max (3 * sp) (cRate s c))

/-- The code of a current setpoint: the nominal one after a step of the setpoint, held while the measured current lies in the band,
else what the loop drives next (07 R344; log 13). -/
def isetNext (s : State) (c : Channel) (p : Phase) (sp : Nat) : Nat :=
  let x := s.chan c
  if x.setpoint ≠ sp ∨ x.phase ≠ p then isetOf (fullScale s c) sp
  else if inBand s c sp x.ma then x.iset
  else (Config.isetAdjust (chanCode c) sp x.ma x.iset).toNat

/-- The charger drives: its phase by the voltage, its setpoint and code (07 R344 to R346). -/
def driveCharge (s : State) (c : Channel) : State :=
  let x := s.chan c
  let p := runPhase s c x.phase
  let sp := setpointOf s c p
  s.setChan c { x with
    phase := p
    setpoint := sp
    iset :=
      if p = .constVoltage ∨ p = .float then
        if presentTarget s c < x.mv then 0 else (Config.isetHold (chanCode c) (presentTarget s c) x.mv).toNat
      else isetNext s c p sp }

/-- The final target moved: while the charger is enabled the target slews from its present value and the taper time starts again
(07 R353 to R355). -/
def retarget (s : State) (c : Channel) : State :=
  let x := s.chan c
  let f := finalTarget s c
  if x.targetFinal = f then s
  else s.setChan c { x with
    target := if x.enable then presentTarget s c else f
    targetFinal := f
    slewAt := s.time.now
    slewing := x.enable && presentTarget s c != f
    taperAt := none }

/-- Hold the charger off (07 R342). -/
def holdCharge (s : State) (c : Channel) : State :=
  s.setChan c { s.chan c with enable := false, phase := heldPhase s c, iset := 0, setpoint := 0, slewing := false, taperAt := none }

/-- Enable the charger: the target is set to its final value at once (07 R352, R357). -/
def startCharge (s : State) (c : Channel) : State :=
  let x := s.chan c
  raise (s.setChan c { x with
    enable := true, phase := .constCurrent, target := finalTarget s c, targetFinal := finalTarget s c, slewing := false, taperAt := none })
    (chanEv c 131) .supervisor []

/-- The charger follows the inhibits that hold now; a bit other than 5 and 7 that sets raises ChargeInhibited (07 R342,
EV-0134). -/
def chargeRefresh (s : State) (c : Channel) : State :=
  let n := inhibits s c
  let old := (s.chan c).inhibit
  let s1 := s.setChan c { s.chan c with inhibit := n, full := n.getLsbD 7 }
  let s2 := raiseIf ((n &&& ~~~old &&& 0x5F#8) != 0) s1 (chanEv c 134) .supervisor []
  if n = 0 then
    if (s2.chan c).enable then driveCharge (retarget s2 c) c else driveCharge (startCharge s2 c) c
  else if (s2.chan c).enable then holdCharge s2 c
  else s2.setChan c { s2.chan c with phase := heldPhase s2 c }

/-- Both chargers; BANK first, for the wait of bit 5 (07 R343). -/
def chargesRefresh (s : State) : State := chargeRefresh (chargeRefresh s .bank) .pack

/-- Latch a channel fault; a latched one keeps its code (07 R358 to R361). -/
def faultChannel (c : Channel) (code : Nat) (s : State) : State :=
  let x := s.chan c
  let s1 := raise (s.setChan c { x with fault := if x.fault = 0 then code else x.fault }) (chanEv c 135) .supervisor []
  keepPend (chargesRefresh s1)

/-! ### Balancing -/

/-- The sum of the fitted cells' voltages, mV. -/
def cellSum (s : State) : Nat := (List.finRange 6).foldl (fun m k => if k.val < cells s .bank then m + s.hold.cells[k] else m) 0

/-- A cell exceeds the mean of the fitted cells by more than `part` / 2 mV (07 R363). -/
def aboveMean (s : State) (part mv : Nat) : Bool :=
  decide (2 * cellSum s + cells s .bank * part < 2 * cells s .bank * mv)

/-- States in which every BALk is held low (07 R367). -/
def balanceOff (d : DevState) : Bool :=
  match d with
  | .warn => true | .simmer => true | .sinter => true | .keep => true | .off => true | .sleep => true | _ => false

/-- BAL outputs after a cell reading (07 R363, R364, R366, R367). -/
def balance (s : State) : State :=
  let cv := s.bank.phase == .constVoltage || s.bank.phase == .float
  let f := fun (k : Fin 6) (on : Bool) =>
    if balanceOff s.life.dev ∨ cells s .bank ≤ k.val then false
    else if s.cfg 0x2580 3 + 100 < s.hold.cells[k] then true
    else if s.bank.inhibit.getLsbD 6 ∧ on then decide (s.cfg 0x2580 3 < s.hold.cells[k])
    else if cv then
      aboveMean s (if on then s.cfg 0x2580 6 else 2 * s.cfg 0x2580 6) s.hold.cells[k]
    else false
  { s with hold.bal := vmapIdx f s.hold.bal }

/-- `2581h:07 BalanceActive`. -/
def balanceBits (h : Hold) : Nat := (List.finRange 6).foldl (fun m k => m + bitIf h.bal[k] k.val) 0

/-! ### Hold-up -/

/-- The source gate entry of a channel. -/
def sourceGate (s : State) (c : Channel) : Nat :=
  match c with | .pack => s.cfg 0x2570 2 | .bank => s.cfg 0x2570 3

/-- Close or open a channel's source switch; a channel without a gate is wired (07 R368, R370; 09 R469). -/
def setSource (c : Channel) (closed : Bool) (s : State) : State :=
  let s1 := match c with
    | .pack => { s with hold.packClosed := closed }
    | .bank => { s with hold.bankClosed := closed }
  if h : sourceGate s c < 8 then
    s1.modGate ⟨sourceGate s c, h⟩ (fun x =>
      if closed then (if x.driven then x else ⟨.ramping, true, 0⟩) else ⟨.off, false, x.lagMax⟩)
  else s1

/-- HOLD_EN rises and both source switches close at the end of BOOT step 8 (07 R369). -/
def armHold (s : State) : State :=
  setSource .bank true (setSource .pack true { s with hold := { s.hold with en := true, state := if s.hold.state = 4 then 4 else 1 } })

/-- `2570h:05 HoldState` outside a fault: 0 off, 1 armed, 2 holding while VIN has failed, 3 assist. -/
def holdState (h : Hold) : Nat :=
  if h.state = 4 then 4 else if !h.en then 0 else if h.assist.isSome then 3 else if h.failed then 2 else 1

def holdRefresh (s : State) : State := { s with hold.state := holdState s.hold }

/-- Energy fit code: 1 PACK, 2 BANK, 3 both (03 **Mode dimensions**). -/
def fitCode (s : State) : Nat := bitIf s.pack.fitted 0 + bitIf s.bank.fitted 1

/-- SourceGateMissing applies (07 R372). -/
def gateMissing (s : State) : Bool := fitCode s == 3 && (s.cfg 0x2570 2 == 0xFF || s.cfg 0x2570 3 == 0xFF)

/-- Raise SourceGateMissing once for a configuration (07 R372). -/
def gateMissingRefresh (s : State) : State :=
  raiseIf (gateMissing s && !s.hold.gateMissing) { s with hold.gateMissing := gateMissing s } 42 .supervisor []

/-- End an assist: both source switches close again (07 R376). -/
def endAssist (s : State) : State :=
  match s.hold.assist with
  | none => s
  | some c =>
    raise (holdRefresh (setSource .bank true (setSource .pack true { s with hold.assist := none, hold.assistHeld := false })))
      (chanEv c 137) .supervisor []

/-- Begin an assist on a channel: its source switch closed, the other open (07 R374). -/
def startAssist (c : Channel) (s : State) : State :=
  raise (holdRefresh (setSource c.other false (setSource c true { s with hold.assist := some c, hold.assistHeld := false })))
    (chanEv c 136) .supervisor []

end Sys2Proof.Machine
end

