-- ==== Sys2Proof/Machine/EstOps.lean ====
section
/-! DEFINITION. The estimator: profiles, state of charge, uncertainty, impedance and capacity learning, guaranteed energy and
reconciliation after Sleep (08). Amounts are exact rationals; entries round them down to their unit. -/

namespace Sys2Proof.Machine

/-! ### Tables -/

/-- The value at a point of a table by linear interpolation, clamped outside it (08 R384). -/
def lookup : List Rat → List Rat → Rat → Rat
  | x0 :: x1 :: xs, y0 :: y1 :: ys, x =>
    if x ≤ x0 then y0
    else if x ≤ x1 then y0 + (y1 - y0) * (x - x0) / (x1 - x0)
    else lookup (x1 :: xs) (y1 :: ys) x
  | _, y :: _, _ => y
  | _, [], _ => 0

/-- Numbers as rationals. -/
def rats (l : List Nat) : List Rat := l.map (fun (n : Nat) => (n : Rat))

/-- Temperatures of the tables, 0.1 °C (08 **Profile bodies**). -/
def tableTemps : List Rat := [-100, 0, 100, 250, 350, 450, 550]

/-- Row `i` of a table with rows of `w` points. -/
def tableRow (l : List Nat) (w i : Nat) : List Rat := rats ((l.drop (w * i)).take w)

/-- A table of 7 temperature rows of `w` points, at a temperature and a place on its other axis. -/
def table2 (l : List Nat) (w : Nat) (axis : List Rat) (t x : Rat) : Rat :=
  lookup tableTemps ((List.range 7).map (fun i => lookup axis (tableRow l w i) x)) t

/-- The 5 % grid of SoC, as fractions. -/
def socGrid : List Rat := (List.range 21).map (fun (i : Nat) => (i : Rat) / 20)

/-- Rates of the usable-capacity table, in C. -/
def rateGrid : List Rat := [1 / 10, 1 / 5, 1 / 2, 1, 2]

/-- Points of a default table, those of an excerpt at its place and the others free (08 **Default profile excerpts**; log 11). -/
def defaultRow (chem table first count : Nat) : List Nat :=
  (List.range count).map (fun i => Config.profilePoint chem table (first + i))

/-- The default self-discharge of a chemistry, 0.001 %/day. -/
def defaultLeak (chem : Nat) : List Nat :=
  match chem with
  | 1 => [20, 30, 40, 70, 120, 200, 350]
  | 2 => [15, 20, 30, 50, 90, 150, 260]
  | _ => defaultRow 3 3 2 7

/-- The parameter block of a default profile. -/
def defaultParams (chem : Nat) : List Byte :=
  leBytes 2 (match chem with | 1 => 3200 | 2 => 2800 | _ => 0) ++ (defaultLeak chem).flatMap (leBytes 2) ++
  leBytes 2 (Config.profilePoint chem 3 16) ++ List.replicate 14 0

/-- The default profile of a chemistry (08 section 2). -/
def defaultProfile (chem : Nat) : Profile :=
  { chemistry := chem
    ocv := (match chem with
      | 1 => defaultRow 1 0 0 63 ++ [3200, 3420, 3500, 3550, 3590, 3620, 3645, 3665, 3685, 3705, 3725, 3750, 3780, 3815, 3850,
          3885, 3920, 3960, 4000, 4045, 4090] ++ defaultRow 1 0 84 63
      | 2 => defaultRow 2 0 0 63 ++ [2800, 3150, 3220, 3250, 3265, 3275, 3282, 3288, 3293, 3297, 3300, 3303, 3306, 3310, 3315,
          3320, 3325, 3330, 3335, 3360, 3450] ++ defaultRow 2 0 84 63
      | _ => [920, 960, 1000, 1000, 1000, 1000, 990])
    capacity := (match chem with
      | 1 => defaultRow 1 1 0 15 ++ [1010, 1000, 985, 965, 925] ++ defaultRow 1 1 20 15
      | 2 => defaultRow 2 1 0 35
      | _ => [1600, 1300, 1100, 1000, 950, 920, 900])
    impedance := defaultRow chem 2 0 80
    counts := List.replicate 80 0
    params := defaultParams chem }

/-- The profile in force (08 section 2). -/
def profileOf (s : State) (c : Channel) : Profile :=
  match (s.est c).profile with
  | some p => p
  | none => defaultProfile (chemistry s c)

/-- Open-circuit voltage of a cell, mV, at a SoC and a temperature in 0.1 °C. -/
def ocvAt (p : Profile) (soc t : Rat) : Rat := table2 p.ocv 21 socGrid t soc

/-- Usable capacity, ‰ of FCC, at a rate in C. -/
def usableAt (p : Profile) (rate t : Rat) : Rat := table2 p.capacity 5 rateGrid t rate

/-- Capacitance of an EDLC, ‰ of nominal. -/
def capacitanceAt (p : Profile) (t : Rat) : Rat := lookup tableTemps (rats p.ocv) t

/-- Self-discharge, 0.001 %/day (parameter block bytes 2 to 15). -/
def leakAt (p : Profile) (t : Rat) : Rat :=
  lookup tableTemps (rats ((List.range 7).map (fun i => ofLe ((p.params.drop (2 + 2 * i)).take 2)))) t

/-! ### Capacity -/

/-- Design capacity: mAh, or mF per cell (08 R425). -/
def designCap (s : State) (c : Channel) : Nat :=
  match c with | .pack => s.cfg 0x2500 3 | .bank => 1000 * s.cfg 0x2580 2

/-- FCC: mAh, or mF per cell (08 R383, R429). -/
def fccOf (s : State) (c : Channel) : Nat := (s.est c).fcc.getD (designCap s c)

/-- V_eod, mV (08 R399). -/
def eodVoltage (s : State) (c : Channel) : Nat :=
  match c with | .pack => cells s c * s.cfg 0x2511 1 | .bank => s.cfg 0x2580 5

/-- The charge of a full channel, µAs: FCC, or for a BANK the charge between the floor and the charge target (08 R427; log 30). -/
def fccCharge (s : State) (c : Channel) : Nat :=
  match c with
  | .pack => fccOf s c * 3600000
  | .bank => fccOf s c * (finalTarget s .bank - eodVoltage s .bank) / cells s .bank

/-- C as a current over one hour, in mA (08 R379). -/
def cOf (s : State) (c : Channel) : Nat := fccCharge s c / 3600000

/-- A current discharges the channel (08 R379). -/
def discharging (s : State) (c : Channel) (ma : Int) : Bool := decide (ma * 100 < -(cOf s c : Int))

/-- State of health, 0.01 % (08 R425). -/
def healthOf (s : State) (c : Channel) : Nat := fccOf s c * 10000 / designCap s c

/-! ### Impedance -/

/-- The temperature band (08 R385). -/
def tempBand (t : Int) : Nat :=
  if t < 0 then 0 else if t < 100 then 1 else if t < 200 then 2 else if t < 300 then 3 else if t < 400 then 4
  else if t < 500 then 5 else if t < 600 then 6 else 7

/-- The SoC band (08 R385). -/
def socBand (soc : Rat) : Nat := min 9 (soc * 10).floor.toNat

/-- A cell of the impedance table. -/
def cellIndex (t : Int) (soc : Rat) : Nat := 10 * tempBand t + socBand soc

/-- The value of an impedance cell, 0.1 mΩ per cell, and its count; without a sample the profile's (08 R406, R409). -/
def impedanceCell (s : State) (c : Channel) (i : Nat) : Nat × Nat :=
  match mapFind (s.est c).impedance i with
  | some v => v
  | none => ((profileOf s c).impedance.getD i 0, 0)

/-- The resistance of the whole channel, 0.1 mΩ (08 Resistance). -/
def resistance (s : State) (c : Channel) : Nat :=
  cells s c * (impedanceCell s c (cellIndex (s.chan c).dt (s.est c).socInt)).1

/-- R_hi, 0.1 mΩ for the whole channel: the highest over the SoC bands from 0 up to one, at a temperature (08 R409, R433). -/
def rHigh (s : State) (c : Channel) (t : Int) (soc : Rat) : Rat :=
  ((List.range (socBand soc + 1)).map (fun b =>
    let v := impedanceCell s c (10 * tempBand t + b)
    (cells s c : Rat) * (v.1 : Rat) * (if 4 ≤ v.2 then 11 / 10 else 3 / 2))).foldl max 0

/-! ### Uncertainty -/

/-- u_SoC (08 R392). -/
def uSoc (s : State) (c : Channel) : Rat :=
  let e := s.est c
  min (3 / 10) (e.uCal + (5 / 1000) * (e.sinceCharge : Rat) / (fccCharge s c : Rat) +
    (50 / 1000000) * ((s.time.now - e.sinceAt : Nat) : Rat) / (fccCharge s c : Rat))

/-- u_cap (08 R429). -/
def uCap (s : State) (c : Channel) : Rat :=
  match (s.est c).learnedAt with
  | none => 1 / 10
  | some t => min (2 / 10) (3 / 1000 + (1 / 100) * ((s.poweredSec - t : Nat) : Rat) / 2592000)

/-- The conservative bounds apply (08 R436). -/
def conservative (s : State) (c : Channel) : Bool :=
  s.life.estConservative || (s.est c).mismatch || (c == .pack && (s.est c).awaiting)

/-- EstimatorMode (08 R437). -/
def estMode (s : State) (c : Channel) : Nat :=
  if (s.est c).mismatch then 3 else if s.life.estConservative then 0 else if c == .pack && (s.est c).awaiting then 2 else 1

/-! ### Guaranteed energy -/

/-- The mean cell voltage, mV, over 0 to a SoC by the trapezoid rule on the 5 % grid (08 R431). -/
def meanOcv (p : Profile) (soc t : Rat) : Rat :=
  if soc ≤ 0 then 0
  else
    ((List.range 20).foldl (fun (a : Rat) (i : Nat) =>
      let x0 := (i : Rat) / 20
      let x1 := min soc (((i + 1 : Nat) : Rat) / 20)
      if x0 < soc then a + (x1 - x0) * (ocvAt p x0 t + ocvAt p x1 t) / 2 else a) 0) / soc

/-- T_lo, 0.1 °C (08 R430, R436). -/
def tLow (s : State) (c : Channel) : Int := (s.chan c).dt - (if conservative s c then 100 else 20)

/-- s_lo (08 R431, R436, R443). -/
def sLow (s : State) (c : Channel) : Rat :=
  max 0 ((s.est c).socInt - uSoc s c - (if conservative s c then 1 / 10 else 0) - (if (s.est c).widened then 1 / 10 else 0))

/-- η_min, ‰ (08 R433, R436): the lowest point of HoldEfficiency. -/
def etaMin (s : State) (c : Channel) : Rat :=
  let base := match c with | .pack => 0x2572 | .bank => 0x25F2
  (((List.range 6).map (fun i => s.cfg base (i + 1))).foldl min 1000 : Nat) - (if conservative s c then 50 else 0)

/-- The capacity used: the lowest of FCC and the values quarantined in a row (08 R413, R414, *When things meet*). -/
def capUsed (s : State) (c : Channel) : Nat :=
  let e := s.est c
  if e.quarantined = 0 then fccOf s c
  else ((e.history.take e.quarantines).map (·.value)).foldl min (min (fccOf s c) e.quarantined)

/-- The capacity factor (08 R436). -/
def capFactor (s : State) (c : Channel) : Rat := (1 - uCap s c) * (if conservative s c then 8 / 10 else 1)

/-- R_hi with its conservative doubling (08 R436), 0.1 mΩ. -/
def rUsed (s : State) (c : Channel) : Rat :=
  rHigh s c (tLow s c) (sLow s c) * (if conservative s c then 2 else 1)

/-- The BANK voltage bound, mV (08 R432, R436, R445): 70 mV from the end of the bring-up bounds to 15 min after a wake. -/
def bankBound (s : State) : Rat :=
  if conservative s .bank then 100
  else
    match s.life.wokeAt with
    | some t => if s.time.now < t + 900000000 then 70 else 20
    | none => 20

/-- E_st of a PACK, J (08 R431). -/
def storedPack (s : State) : Rat :=
  let p := profileOf s .pack
  let save : Rat := s.cfg 0x2570 6
  let rate := save * 1000 / ((cells s .pack : Rat) * ocvAt p (1 / 2) 250) / (cOf s .pack : Rat)
  (capUsed s .pack : Rat) * capFactor s .pack * usableAt p rate (tLow s .pack) / 1000 * sLow s .pack * (36 / 10) *
    ((cells s .pack : Rat) * meanOcv p (sLow s .pack) (tLow s .pack) / 1000)

/-- E_st of a BANK, J (08 R432). -/
def storedBank (s : State) : Rat :=
  let p := profileOf s .bank
  let cLo := (capUsed s .bank : Rat) / 1000 * capacitanceAt p (tLow s .bank) / 1000 * capFactor s .bank / (cells s .bank : Rat)
  let vLo := ((s.bank.mv : Rat) - max 0 (s.bank.ma : Rat) * rUsed s .bank / 10000 - bankBound s) / 1000
  let vFloor := (eodVoltage s .bank : Rat) / 1000
  cLo * (vLo * vLo - vFloor * vFloor) / 2

/-- E_g before rounding, J (08 R433). -/
def guaranteedRaw (s : State) (c : Channel) : Rat :=
  let v := (eodVoltage s c : Rat) / 1000
  etaMin s c / 1000 * (1 - (s.cfg 0x2570 6 : Rat) / 1000 * (rUsed s c / 10000) / (v * v)) *
    (match c with | .pack => storedPack s | .bank => storedBank s)

/-- A channel publishes 0 J: not fitted or removed, faulted, at a hold-up fault, or at end of discharge (07 R339, R373; 08 R400,
R434). -/
def publishesZero (s : State) (c : Channel) : Bool :=
  !(s.chan c).fitted || chanFaulted s c || s.hold.state == 4 || (s.est c).empty

/-- E_g of a channel, J (08 R433, R434). Below 0 the manual states no figure (log 12). -/
def guaranteed (s : State) (c : Channel) : Nat :=
  if publishesZero s c then 0
  else if guaranteedRaw s c < 0 then (Config.unstated 433 [(s.chan c).mv, (s.chan c).ma, (s.chan c).dt]).floor.toNat
  else (guaranteedRaw s c).floor.toNat

/-! ### Samples -/

/-- Charge, µAs, that the counter gives the estimator with a sample: the difference from its reading at the latest update, so that
what ran while CONTROL was stopped counts too (08 R381, R382, R444). -/
def countedCharge (e : Est) (ma : Int) : Int := signed 40 (e.counter + BitVec.ofInt 40 ma - e.lastCounter).toNat

/-- The internal SoC after a sample (08 R390, R391). -/
def socAfter (s : State) (c : Channel) (mv : Nat) (ma dt : Int) : Rat :=
  let e := s.est c
  match c with
  | .pack =>
    let n := e.recent.length
    let rate := if n = 0 then 0 else ((e.recent.foldl (fun (a : Nat) i => a + i.natAbs) 0 : Nat) : Rat) / (n : Rat) / (cOf s c : Rat)
    max 0 (min 1 (e.socInt + (countedCharge e ma : Rat) * 1000 / ((fccCharge s c : Rat) * usableAt (profileOf s c) rate dt)))
  | .bank =>
    let v := (mv : Rat) - (ma : Rat) * (resistance s c : Rat) / 10000
    max 0 (min 1 ((v - (eodVoltage s c : Rat)) / ((finalTarget s c : Rat) - (eodVoltage s c : Rat))))

/-- The reported SoC after 1 ms (08 R394 to R397, R442). -/
def reportedAfter (s : State) (c : Channel) (ma : Int) (int : Rat) : Rat :=
  let e := s.est c
  let base := match c with | .pack => 0x2511 | .bank => 0x2591
  let d := (s.cfg base 2 : Rat) / 60000000
  if e.dropRep then max 0 (e.socRep - 1 / 10000)
  else if e.socRep < int then
    if discharging s c ma ∨ e.holdRep then e.socRep else min int (e.socRep + d)
  else max int (e.socRep - d)

/-- The end-of-discharge condition of one sample (08 R399). -/
def eodSample (s : State) (c : Channel) (mv : Nat) (ma : Int) : Bool :=
  decide (10000 * mv + ma.natAbs * resistance s c ≤ 10000 * eodVoltage s c)

/-- Converter calibration ends 50 ms after the bandgap settles, 2 ms after wake (02 R72). -/
def calibrated (s : State) : Bool := s.life.step2Done && decide (s.life.bootAt + 52000 ≤ s.time.now)

/-- A capacity learn counts a sample (08 R410, R411). -/
def learnSample (s : State) (c : Channel) (ma dt : Int) (e : Est) : Est :=
  if e.learning then
    { e with
      learnOut := if ma < 0 then e.learnOut + ma.natAbs else e.learnOut
      learnIn := if 0 < ma then e.learnIn + ma.natAbs else e.learnIn
      learnTemp := if discharging s c ma then e.learnTemp + dt else e.learnTemp
      learnRate := if discharging s c ma then e.learnRate + ma.natAbs else e.learnRate
      learnCount := if discharging s c ma then e.learnCount + 1 else e.learnCount
      learnHot := e.learnHot || decide (dt < 100) || decide (400 < dt) }
  else e

/-- The rest that leads to relaxation is followed (08 R402): |I| below C/100 since `restAt`, and within 1 mV since `restMvAt`. -/
def restSample (s : State) (c : Channel) (mv : Nat) (ma : Int) (e : Est) : Est :=
  if ma.natAbs * 100 < cOf s c then
    match e.restAt with
    | none => { e with restAt := some s.time.now, restMv := mv, restMvAt := s.time.now }
    | some _ => if mv = e.restMv then e else { e with restMv := mv, restMvAt := s.time.now }
  else { e with restAt := none }

/-- A sample only runs the counter, and is counted once the converters are calibrated (08 R381, R382; 02 R72). -/
def countSample (c : Channel) (ma : Int) (s : State) : State :=
  let e := s.est c
  s.setEst c { e with
    counter := e.counter + BitVec.ofInt 40 ma
    samples := if calibrated s then min 1000 (e.samples + 1) else e.samples }

/-- A sample of 1 ms enters the estimator (08 R381, R390 to R399, R410, R427). -/
def estSample (c : Channel) (mv : Nat) (ma dt : Int) (s : State) : State :=
  let e := s.est c
  let int := socAfter s c mv ma dt
  let rest := if discharging s c ma then e.cycleRest + ma.natAbs else e.cycleRest
  let unit := fccCharge s c / 100
  let e1 := { e with
    counter := e.counter + BitVec.ofInt 40 ma
    lastCounter := e.counter + BitVec.ofInt 40 ma
    socInt := int
    socRep := reportedAfter s c ma int
    dropRep := e.dropRep && decide (0 < reportedAfter s c ma int)
    sinceCharge := e.sinceCharge + (countedCharge e ma).natAbs
    cycles := if unit = 0 then e.cycles else e.cycles + rest / unit
    cycleRest := if unit = 0 then rest else rest % unit
    recent := (ma :: e.recent).take 10000
    samples := if calibrated s then min 1000 (e.samples + 1) else e.samples
    power := ((if ma < 0 then mv * ma.natAbs / 1000 else 0) :: e.power).take 1000
    empty := e.empty && !decide (0 < ma) }
  s.setEst c (restSample s c mv ma (learnSample s c ma dt e1))

/-! ### Calibration and learning -/

/-- A calibration point sets the SoC and starts the uncertainty anew (08 R393, R400 to R402). -/
def calibrate (c : Channel) (soc u : Rat) (s : State) : State :=
  s.setEst c { s.est c with socInt := soc, uCal := u, sinceCharge := 0, sinceAt := s.time.now }

/-- The load-compensated voltage, mV, rounded down (08 R391, R411). -/
def unloadedMv (s : State) (c : Channel) : Nat :=
  ((10000 * ((s.chan c).mv : Int) - (s.chan c).ma * (resistance s c : Int)) / 10000).toNat

/-- Start a capacity learn at an end of charge (08 R410, R411). -/
def startLearn (c : Channel) (s : State) : State :=
  s.setEst c { s.est c with
    learning := true, learnOut := 0, learnIn := 0, learnTemp := 0, learnRate := 0, learnCount := 0, learnHot := false,
    learnMv := unloadedMv s c }

/-- Discard a running learn for a cause (08 R415, R422). -/
def discardLearn (c : Channel) (why : Cause) (s : State) : State :=
  if (s.est c).learning then
    raise (s.setEst c { s.est c with learning := false }) (chanEv c 147) .control [(1, (Config.causeCode why).toNat)]
  else s

/-- Enter profile mismatch; a channel that is in it already stays there (08 R403, R407, R414). -/
def enterMismatch (c : Channel) (s : State) : State :=
  if (s.est c).mismatch then s else raise (s.setEst c { s.est c with mismatch := true }) (chanEv c 153) .control []

/-- The learned value: mAh, or mF per cell (08 R411). Without a discharge sample or a fall of voltage none is stated (log 12). -/
def learnedValue (s : State) (c : Channel) : Nat :=
  let e := s.est c
  match c with
  | .pack =>
    if e.learnCount = 0 then (Config.unstated 411 [e.learnOut]).floor.toNat
    else
      let t := (e.learnTemp : Rat) / (e.learnCount : Rat)
      let r := (e.learnRate : Rat) / (e.learnCount : Rat) / (cOf s c : Rat)
      ((e.learnOut : Rat) / 3600 / usableAt (profileOf s c) r t).floor.toNat
  | .bank =>
    let v := unloadedMv s c
    if e.learnMv ≤ v then (Config.unstated 411 [e.learnOut, e.learnMv, v]).floor.toNat
    else e.learnOut * cells s c / (e.learnMv - v)

/-- A learned value lies within a share, in ‰, of another. -/
def within (permille a b : Nat) : Bool := decide (1000 * (a - b) ≤ permille * b) && decide (1000 * (b - a) ≤ permille * b)

/-- The result of a learn with its place in the history (08 R446). -/
def learnEntry (s : State) (c : Channel) (v : Nat) (why : Cause) : Learn :=
  let e := s.est c
  ⟨v, if e.learnCount = 0 then (s.chan c).dt else e.learnTemp / (e.learnCount : Int), s.poweredSec, (Config.causeCode why).toNat⟩

/-- HealthLow after a change of FCC (08 R426): armed again once health has risen 2 % above the level. -/
def healthRefresh (c : Channel) (s : State) : State :=
  let lvl := s.cfg (match c with | .pack => 0x2511 | .bank => 0x2591) 9
  let low := decide (healthOf s c < lvl)
  raiseIf (low && !(s.est c).healthLow)
    (s.setEst c { s.est c with healthLow := low || ((s.est c).healthLow && !decide (lvl + 200 ≤ healthOf s c)) })
    (chanEv c 152) .control []

/-- A learn is accepted: it replaces FCC and ends quarantine and mismatch (08 R404, R412, R414). -/
def acceptLearn (c : Channel) (v : Nat) (s : State) : State :=
  let e := s.est c
  keepPend (healthRefresh c (raise (s.setEst c { e with
    fcc := some v, quarantined := 0, quarantines := 0, learnedAt := some s.poweredSec, daysFrom := s.poweredSec,
    mismatch := false, discards := 0, learning := false, history := (learnEntry s c v .learnAccepted :: e.history).take 4 })
    (chanEv c 145) .control []))

/-- A learn is held in quarantine; the second in a row without agreement is a profile mismatch (08 R413, R414). -/
def quarantineLearn (c : Channel) (v : Nat) (s : State) : State :=
  let e := s.est c
  let s1 := raise (s.setEst c { e with
    quarantined := v, quarantines := e.quarantines + 1, learning := false, daysFrom := s.poweredSec
    history := (learnEntry s c v .learnQuarantined :: e.history).take 4 }) (chanEv c 146) .control []
  keepPend (if 2 ≤ e.quarantines + 1 then enterMismatch c s1 else s1)

/-- A learn that has broken a condition is discarded (08 R410, R415). -/
def checkLearn (c : Channel) (s : State) : State :=
  let e := s.est c
  if fccCharge s c < 50 * e.learnIn then discardLearn c .learnCharge s
  else if e.learnHot then discardLearn c .learnTemperature s
  else s

/-- A learn reaches its end of discharge (08 R411 to R414). -/
def finishLearn (c : Channel) (s : State) : State :=
  let e := s.est c
  let v := learnedValue s c
  if e.learning = false then s
  else if (e.quarantined ≠ 0 ∧ within 30 v e.quarantined) ∨ within 120 v (fccOf s c) then acceptLearn c v s
  else quarantineLearn c v s

/-! ### The Geyser cycle -/

def Geyser.code : Geyser → Nat
  | .idle => 0 | .due => 1 | .discharging => 2 | .suspended => 3 | .recharging => 4

/-- A cycle runs on a channel. -/
def geyserRuns (e : Est) : Bool := e.geyser == .discharging || e.geyser == .suspended || e.geyser == .recharging

/-- The conditions of R417 for a start now. -/
def geyserMayStart (s : State) (c : Channel) : Bool :=
  let base := match c with | .pack => 0x2511 | .bank => 0x2591
  let minute := s.wallSeconds / 60 % 1440
  let a := s.cfg base 5
  let b := s.cfg base 6
  s.life.dev == .serve &&
  (match c with | .pack => s.pack.phase == .complete | .bank => s.bank.phase == .float) &&
  decide (100 ≤ (s.chan c).dt) && decide ((s.chan c).dt ≤ 400) && !s.hold.sag && s.hold.state == 1 &&
  !geyserRuns s.packEst && !geyserRuns s.bankEst && s.cfg 0x2570 4 != 0xFF &&
  (!s.time.wallSet || a == b || (if a < b then decide (a ≤ minute) && decide (minute < b) else decide (a ≤ minute) || decide (minute < b)))

/-- Start a cycle (08 R419, R424; 07 R374). -/
def geyserBegin (c : Channel) (s : State) : State :=
  let s1 := s.setEst c { s.est c with geyser := .discharging }
  raise (chargeRefresh (startAssist c s1) c) (chanEv c 148) .control [(1, chanCode c)]

/-- Abort a running cycle and discard its learn; due again after 24 h of powered time (06 R315; 08 R422 to R424). -/
def geyserAbort (c : Channel) (s : State) : State :=
  if geyserRuns (s.est c) then
    let s1 := discardLearn c .learnAborted { s with adm.geyserForce := false }
    let s2 := endAssist (s1.setEst c { s1.est c with geyser := .idle, geyserAfter := s.poweredSec + 86400 })
    raise s2 (chanEv c 150) .control [(1, chanCode c)]
  else s

/-- Abort whichever cycle runs. -/
def geyserAbortAll (s : State) : State := geyserAbort .bank (geyserAbort .pack s)

/-- DaysSinceLearn (08 R428). -/
def daysSince (s : State) (c : Channel) : Nat := (s.poweredSec - (s.est c).daysFrom) / 86400

/-! ### Reset, snapshots and reconciliation -/

/-- What ChannelReset does (08 R426, R447, R448): design capacity, no history, the profile's impedance, a cycle due. -/
def resetChannel (c : Channel) (s : State) : State :=
  raise (healthRefresh c <| s.setEst c { s.est c with
    fcc := none, learnedAt := none, cycles := 0, cycleRest := 0, impedance := [], history := [], quarantined := 0, quarantines := 0,
    geyser := if geyserRuns (s.est c) then (s.est c).geyser else .due, geyserAfter := 0 }) (chanEv c 156) .control []

/-- A snapshot of a channel now (08 R446): kind 0 hourly, 1 SLEEP, 2 KEEP. -/
def snapshot (s : State) (c : Channel) (kind : Nat) : Snap :=
  let e := s.est c
  ⟨(e.socInt * 10000).floor.toNat, (e.socRep * 10000).floor.toNat, (uSoc s c * 10000).floor.toNat, (s.chan c).dt, s.time.wallSet,
    s.time.wall / 1000000, kind⟩

/-- The loss of a PACK over some days: self-discharge at T_s and 0.035 mA, as a fraction (08 R438, R439). -/
def sleepLoss (s : State) (snap : Snap) (days : Rat) : Rat :=
  let t : Rat := (max snap.temp s.pack.dt : Int)
  days * (leakAt (profileOf s .pack) t / 100000 + (35 / 1000) * 24 / (fccOf s .pack : Rat))

/-- Start a PACK from its snapshot with some days asleep, 0 for none (08 R438, R441 to R444). -/
def startPack (snap : Snap) (days : Rat) (widen : Bool) (s : State) : State :=
  s.setEst .pack { s.packEst with
    socInt := max 0 ((snap.socInt : Rat) / 10000 - sleepLoss s snap days)
    socRep := (snap.socRep : Rat) / 10000, uCal := (snap.uSoc : Rat) / 10000, sinceCharge := 0, sinceAt := s.time.now
    awaiting := s.packEst.awaiting || decide (0 < days), holdRep := s.packEst.holdRep || decide (0 < days)
    widened := s.packEst.widened || widen, startSnap := some snap }

/-- BOOT starts the PACK's estimator by the reset cause and the stored snapshot (08 R438, R443, R444). An estimator that already
holds a state of charge goes on from it (log 32). -/
def reconcile (s : State) : State :=
  if s.life.socKnown then s
  else
  match (keepBody s.keep).pack.snap with
  | none => s.setEst .pack { s.packEst with awaiting := true, uCal := 3 / 10, startSnap := none }
  | some snap =>
    if s.life.resetCause = 2 then startPack snap 0 false s
    else startPack snap (s.cfg 0x2511 8) (s.life.resetCause != 1 && snap.kind != 1) s

end Sys2Proof.Machine
end

