-- ==== Sys2Proof/Machine/CacheOps.lean ====
section
/-! DEFINITION. Slots and the directory, effective policies and modes, and energy admission (06; 03 sections 1 and 3). -/

namespace Sys2Proof.Machine

/-! ### Slots -/

/-- Slots of a DRAM of some GiB: what the directory, the housekeeping and the video area leave (06 R280). -/
def slotCount (gib videoMode : Nat) : Nat := gib * 262144 - 2 * (gib * 1024) - if videoMode = 0 then 0 else 131072

/-- The handle of a volume of a tenant (06 R283). -/
def handleOf (x : Cache) (n : Fin 16) (vol : BitVec 32) : Option Nat := (x.handles.find? (fun p => p.2 == (n, vol))).map (·.1)

/-- The volume a handle stands for. -/
def volumeOf (x : Cache) (h : Nat) : BitVec 32 := match mapFind x.handles h with | some p => p.2 | none => 0

/-- The slot number that holds a block of a tenant's volume. -/
def slotNo (x : Cache) (n : Fin 16) (vol : BitVec 32) (lba : Nat) : Option Nat :=
  match handleOf x n vol with
  | none => none
  | some h => (x.slots.find? (fun p => p.2.tenant == n && p.2.handle == h && p.2.lba == lba)).map (·.1)

/-- The slot that holds a block. -/
def slotAt (x : Cache) (n : Fin 16) (vol : BitVec 32) (lba : Nat) : Option Slot :=
  match slotNo x n vol lba with | some k => mapFind x.slots k | none => none

/-- Slots that satisfy a test. -/
def countSlots (x : Cache) (p : Slot → Bool) : Nat := (x.slots.filter (fun q => p q.2)).length

/-- Dirty slots of a tenant: `3030h:05`. -/
def dirtySlots (x : Cache) (n : Fin 16) : Nat := countSlots x (fun q => q.tenant == n && q.dirty)

/-- Clean slots of a tenant: `3030h:06`. -/
def cleanSlots (x : Cache) (n : Fin 16) : Nat := countSlots x (fun q => q.tenant == n && !q.dirty)

/-- Frozen slots of a tenant: `3020h:04`. -/
def frozenSlots (x : Cache) (n : Fin 16) : Nat := countSlots x (fun q => q.tenant == n && q.frozen)

/-- No tenant holds dirty data (02 R108, 03 R119). -/
def noDirty (x : Cache) : Bool := x.slots.all (fun q => !q.2.dirty)

/-- Handles that some slot refers to stay (06 R283). -/
def freeHandles (x : Cache) : Cache :=
  { x with handles := x.handles.filter (fun p => x.slots.any (fun q => q.2.handle == p.1)) }

/-- Take a slot out of the cache. -/
def eraseSlot (x : Cache) (k : Nat) : Cache := freeHandles { x with slots := mapErase x.slots k }

/-- Take every slot that satisfies a test out of the cache. -/
def eraseSlots (x : Cache) (p : Slot → Bool) : Cache := freeHandles { x with slots := x.slots.filter (fun q => !p q.2) }

/-- The least recently used of some slots. -/
def oldest : SMap Slot → Option (Nat × Slot)
  | [] => none
  | q :: rest =>
    match oldest rest with
    | none => some q
    | some r => if q.2.used ≤ r.2.used then some q else some r

/-- A slot may be taken: clean and not frozen (06 R287), and not one that a PUT under way writes. -/
def takeable (x : Cache) (keep : List Nat) (q : Nat × Slot) : Bool :=
  !q.2.dirty && !q.2.frozen && !(x.tenants[q.2.tenant]).frozen && !keep.contains q.1

/-- Clean and dirty slots a tenant may hold before others take its clean ones: SlotReserve (06 R285). -/
def slotReserve (s : State) (n : Fin 16) : Nat := s.cache.usable * s.cfg (blockIndex 0x3030 n.val) 4 / 1000

/-- The clean slot a PUT of tenant n takes where none is free (06 R285): the oldest clean one of a tenant above its reserve, else the
oldest clean one of its own. -/
def takeSlot (s : State) (n : Fin 16) (keep : List Nat) : Option Nat :=
  let ok := s.cache.slots.filter (takeable s.cache keep)
  match oldest (ok.filter (fun q => decide (slotReserve s q.2.tenant < dirtySlots s.cache q.2.tenant + cleanSlots s.cache q.2.tenant))) with
  | some q => some q.1
  | none => (oldest (ok.filter (fun q => q.2.tenant == n))).map (·.1)

/-- Take some clean slots out of the cache, none if there are not so many (06 R285, R286). -/
def evictClean (n : Fin 16) (keep : List Nat) : Nat → State → Option State
  | 0, s => some s
  | k + 1, s =>
    match takeSlot s n keep with
    | none => none
    | some i => evictClean n keep k { s with cache := eraseSlot s.cache i }

/-! ### Charge and policy -/

/-- Image-backed slots are not charged from the load of the index to the entry to SERVE (06 R299; 02 R64, R93). DEDUCED (log 129): that
takes in the outage path that began in RESTORE and a warm BOOT entered from RESTORE. -/
def imageFree (l : Life) : Bool :=
  l.dev == .restore || l.fromRestore || (l.dev == .boot && (match l.boot with | .warm d => d == .restore | _ => true))

/-- A slot is charged (06 R299, R300). -/
def isCharged (l : Life) (q : Slot) : Bool := q.dirty && !(imageFree l && q.fromImage)

/-- D_n as admission counts it, with what checked PUTs have charged (06 R301, R305). -/
def chargedOf (s : State) (n : Fin 16) : Nat :=
  countSlots s.cache (fun q => q.tenant == n && isCharged s.life q) + (s.ten n).reserved

/-- All charged slots. -/
def chargedAll (s : State) : Nat := (List.finRange 16).foldl (fun a n => a + chargedOf s n) 0

/-- `2410h:08 ImageBackedSlots` (06 R299). -/
def imageBacked (s : State) : Nat := if imageFree s.life then countSlots s.cache (fun q => q.dirty && q.fromImage) else 0

/-- The configured cache policy: 0 write-back, 1 write-through, 2 bypass. -/
def cfgPolicy (s : State) (n : Fin 16) : Nat := s.cfg (blockIndex 0x3010 n.val) 1

/-- The effective cache policy (06 R288, R313). -/
def effPolicy (s : State) (n : Fin 16) : Nat := if cfgPolicy s n = 0 ∧ (s.ten n).forced then 1 else cfgPolicy s n

/-- D_n, the tenant's dirty slots, with what checked PUTs have made so (06 R301, R304, R305). -/
def dirtyOf (s : State) (n : Fin 16) : Nat := dirtySlots s.cache n + (s.ten n).reserved

/-- max(0, G_n − D_n): slots below its guarantee that a tenant does not use. -/
def unusedOf (s : State) (n : Fin 16) : Nat := (s.ten n).guaranteed - dirtyOf s n

/-- The free room F (06 R304). -/
def freeRoom (s : State) : Nat :=
  s.adm.ceiling - chargedAll s -
    (List.finRange 16).foldl (fun a n => if (s.ten n).frozen then a + unusedOf s n else a) 0

/-- Tenant n's headroom in new blocks (06 R306); one that has thawed does not borrow before the next recomputation (06 R333). -/
def headroom (s : State) (n : Fin 16) : Nat :=
  if (s.ten n).frozen ∨ effPolicy s n ≠ 0 then 0
  else if s.adm.borrowStopped ∨ (s.ten n).thawed ∨ s.cfg (blockIndex 0x3030 n.val) 3 = 0 then min (freeRoom s) (unusedOf s n)
  else freeRoom s

/-- A tenant is a borrower (06 R305); one that has thawed takes part from the next recomputation (06 R333). -/
def borrower (s : State) (n : Fin 16) : Bool := decide ((s.ten n).guaranteed < dirtyOf s n) && !(s.ten n).thawed

/-- `3030h:09 AdmissionState` (06 R334). -/
def admissionState (s : State) (n : Fin 16) : Nat :=
  if (s.ten n).frozen then 3 else if (s.ten n).forced then 2 else if s.adm.borrowStopped then 1 else 0

/-- Borrowing stops; each borrower is told (06 R310, R312). -/
def stopBorrowing (s : State) : State :=
  if s.adm.borrowStopped then s
  else forAll 16 (fun t n => raiseIf (borrower t n) t (tenantEv n.val 1) .control []) { s with adm.borrowStopped := true }

/-! ### Modes -/

/-- Raise ModeChanged for a dimension (03 R117, R121); dimensions count from 0 in the order of **Mode dimensions**. -/
def modeChanged (dim old new : Nat) (s : State) : State :=
  raise s 10 .control [(1, (Config.dimensionCode dim).toNat), (1, old), (1, new)]

/-- Raise ModeFallback for two dimensions (03 R120). -/
def modeFallback (a b : Nat) (s : State) : State :=
  raise s 11 .control [(1, (Config.dimensionCode a).toNat), (1, (Config.dimensionCode b).toNat)]

/-- A queue pair of some function is enabled (03 R116). -/
def anyQueue (x : Port) : Bool :=
  (List.finRange 16).any (fun n => x.fns[n].enabled && (List.finRange 4).any (fun q => x.fns[n].pairs[q].enable))

/-- HostAttach: 0 attached, 1 detached (03 R116). -/
def hostAttach (x : Port) : Nat := if x.linkState = 2 ∧ anyQueue x then 0 else 1

/-- The outage policy in effect and the dimension that makes it differ: 0 energy fit, 6 video (03 R120, R131; 07 R372). -/
def outageEffective (s : State) : Nat × Nat :=
  let p := s.cfg 0x2020 2
  if p ≠ 0 ∧ (fitCode s = 2 ∨ gateMissing s) then (0, 0)
  else if p = 2 ∧ s.cfg 0x2020 5 = 0 then (1, 6)
  else (p, 2)

/-- Report the outage policy in effect (03 R120, R121). DESIGN CHOICE (log 127): where a fallback ends because the configured value is
written equal to the effective one, the effective value does not change and no event is raised. -/
def outageEffRefresh (s : State) : State :=
  let e := outageEffective s
  let old := s.mode.outageEff
  let t := { s with mode.outageEff := e.1 }
  if e.1 = old then t
  else if e.1 ≠ s.cfg 0x2020 2 then modeFallback e.2 2 t
  else modeChanged 2 old e.1 t

/-- Report the cache policies in effect (03 R120, R121; 06 R317). -/
def policyRefresh (s : State) : State :=
  forAll 16 (fun t n =>
    let e := effPolicy t n
    let old := t.mode.policyEff[n]
    let u := { t with mode.policyEff := vset t.mode.policyEff n e }
    if e = old then u
    else if e ≠ cfgPolicy t n then modeFallback (if t.adm.geyserForce then 4 else 0) 1 u
    else modeChanged 1 old e u) s

/-- The configuration has changed since `before`: a reported policy that was the configured one follows it without an event, for
no fallback ends or begins with that (03 R120, R121). -/
def followConfig (before s : State) : State :=
  { s with
    mode.outageEff := if before.mode.outageEff = before.cfg 0x2020 2 then s.cfg 0x2020 2 else s.mode.outageEff
    mode.policyEff := vmapIdx (fun n e => if e = cfgPolicy before n then cfgPolicy s n else e) s.mode.policyEff }

/-- Follow the Geyser and host dimensions (03 R116, R117). -/
def activityRefresh (s : State) : State :=
  let g := bitIf (geyserRuns s.packEst || geyserRuns s.bankEst) 0
  let s1 := if g = s.mode.geyser then s else modeChanged 4 s.mode.geyser g { s with mode.geyser := g }
  let h := hostAttach s1.port
  if h = s1.mode.host then s1 else modeChanged 8 s1.mode.host h { s1 with mode.host := h }

/-- Follow the energy fit (03 R117). -/
def fitRefresh (s : State) : State :=
  let f := fitCode s
  if f = s.mode.fit then s else modeChanged 0 s.mode.fit f { s with mode.fit := f }

/-- Follow the detected dimensions: energy fit, Geyser and host, and what depends on them (03 R116, R117). -/
def modesRefresh (s : State) : State := outageEffRefresh (gateMissingRefresh (activityRefresh (fitRefresh s)))

/-- AdmissionStage (06 R318). -/
def admissionStage (s : State) : Nat :=
  if s.adm.ceiling = 0 ∨ s.adm.geyserForce then 3
  else if (List.finRange 16).any (fun n => (s.ten n).forced) ∨ s.adm.ceiling < chargedAll s then 2
  else if s.adm.borrowStopped then 1 else 0

/-- Follow AdmissionStage and raise its change (06 R318). -/
def stageRefresh (s : State) : State :=
  let n := admissionStage s
  if n = s.adm.stage then s
  else raise { s with adm.stage := n } 32 .control []

/-- A Geyser cycle has ended: the stage it held and the dimension follow (03 R117; 06 R315, R318). -/
def geyserEnds (s : State) : State := modesRefresh (stageRefresh s)

/-- A running Geyser cycle is aborted, and the dimension and the admission stage follow (03 R117; 06 R315, R318; 08 R422). -/
def geyserStops (s : State) : State := geyserEnds (geyserAbortAll s)

/-! ### The recomputation -/

/-- Tenants from priority 7 to 0, higher number first within one (06 R313). -/
def forceOrder (s : State) : List (Fin 16) :=
  ((List.range 8).reverse).flatMap (fun p => ((List.finRange 16).reverse).filter (fun n => s.cfg (blockIndex 0x3030 n.val) 2 == p))

/-- max(0, D_n − G_n): the excess of a tenant over its guarantee. -/
def excessOf (s : State) (n : Fin 16) : Nat := dirtyOf s n - (s.ten n).guaranteed

def setForced (b : Bool) (n : Fin 16) (s : State) : State := s.modTen n (fun x => { x with forced := b })

/-- Force tenants in order until the excess of the forced covers the overshoot (06 R313); the second part lists the newly forced. -/
def forceCover (overshoot : Nat) : List (Fin 16) → State → List (Fin 16) → State × List (Fin 16)
  | [], s, l => (s, l)
  | n :: rest, s, l =>
    let cover := (List.finRange 16).foldl (fun a m => if (s.ten m).forced then a + excessOf s m else a) 0
    if overshoot ≤ cover then (s, l)
    else if cfgPolicy s n = 0 ∧ (s.ten n).forced = false ∧ (s.ten n).frozen = false ∧ 0 < excessOf s n then
      forceCover overshoot rest (setForced true n s) (l ++ [n])
    else forceCover overshoot rest s l

/-- Force every write-back tenant in order (06 R314, R315). -/
def forceEvery : List (Fin 16) → State → List (Fin 16) → State × List (Fin 16)
  | [], s, l => (s, l)
  | n :: rest, s, l =>
    if cfgPolicy s n = 0 ∧ (s.ten n).forced = false then forceEvery rest (setForced true n s) (l ++ [n])
    else forceEvery rest s l

/-- Let forced tenants resume, the opposite order (06 R316). A tenant no longer configured write-back leaves without an event. -/
def resumeSome : List (Fin 16) → State → List (Fin 16) → State × List (Fin 16)
  | [], t, l => (t, l)
  | n :: rest, t, l =>
    if (t.ten n).forced ∧ chargedAll t * 1000 ≤ t.adm.ceiling * (1000 - t.cfg 0x2420 6) ∧ dirtyOf t n ≤ (t.ten n).guaranteed then
      resumeSome rest (setForced false n t) (if cfgPolicy t n = 0 then l ++ [n] else l)
    else resumeSome rest t l

/-- A tenant may still be forced by R313 (06 R313, R319). -/
def forcible (s : State) (n : Fin 16) : Bool :=
  cfgPolicy s n == 0 && !(s.ten n).forced && !(s.ten n).frozen && decide (0 < excessOf s n)

/-- Every unfrozen tenant configured write-back is forced, or, where a frozen tenant holds excess, every one that R313 can force
(06 R319, R332, *When things meet*). -/
def forcedAll (s : State) : Bool :=
  (List.finRange 16).all (fun n => cfgPolicy s n != 0 || (s.ten n).frozen || (s.ten n).forced) ||
  ((List.finRange 16).any (fun n => (s.ten n).frozen && decide (0 < excessOf s n)) &&
    (List.finRange 16).all (fun n => !forcible s n))

/-- The charge is above the ceiling with nothing left to force: reported at each recomputation until it is within it (06 R319). -/
def belowRefresh (s : State) : State :=
  let above := decide (s.adm.ceiling < chargedAll s)
  let b := above && (s.adm.belowDirty || forcedAll s)
  raiseIf b { s with adm.belowDirty := b } 35 .control []

/-- The sum of unused guarantees that decides borrowing (06 R310). -/
def neededRoom (s : State) : Nat :=
  (List.finRange 16).foldl (fun a n => if (s.ten n).frozen ∨ (s.ten n).forced then a else a + unusedOf s n) 0

/-- Slots a die's erased image blocks hold, in pages (12 R654, R687). -/
def erasedPages (d : Die) : Nat := (d.blocks - (d.table.filter (fun p => p.2.1 != .erased)).length) * d.pages

/-- Dies that take new stripes (12 R661). -/
def activeDies (x : Flash) : List (Fin 16) := (List.finRange 16).filter (fun d => x.die[d].state == .active)

/-- The least of a list of numbers. -/
def leastOf : List Nat → Nat
  | [] => 0
  | [a] => a
  | a :: rest => min a (leastOf rest)

/-- Slots a stripe of width w with C codewords a page holds (12 R658, R659). -/
def stripeSlots (w c : Nat) : Nat := if w ≤ 1 then w * c else (w - 1) * c

/-- C of the active dies. -/
def codewordsC (x : Flash) : Nat := leastOf ((activeDies x).map (fun d => x.die[d].c))

/-- Slots that the erased blocks can take at the present stripe width, less 1 % (12 R687). -/
def erasedSlots (x : Flash) : Nat :=
  leastOf ((activeDies x).map (fun d => erasedPages x.die[d])) * stripeSlots (activeDies x).length (codewordsC x) * 99 / 100

/-- `2901h:02 SinterSpace` (12 R687). -/
def sinterSpace (s : State) : Nat := erasedSlots s.flash + countSlots s.cache (fun q => q.dirty && q.copyValid)

/-- Fewer than three dies are active: D_max is held at 0 (12 R688). -/
def fewDies (s : State) : Bool := decide ((activeDies s.flash).length < 3)

/-- D_max is held at 0: publications stopped, an image format not read, or fewer than 3 active dies (01 R51; 12 R674, R688). -/
def dmaxZero (s : State) : Bool := s.adm.stale || s.adm.formatHold || fewDies s

/-- D_max in GiB from an E_g total, as numerator over denominator (06 R294, R295): ((1,000 − guard) × E − 1,000 × E_fixed) mJ
over e_byte mJ/GiB. -/
def dmaxNumOf (s : State) (eg : Nat) : Nat := (1000 - s.cfg 0x2420 2) * eg - 1000 * s.cfg 0x2420 1

/-- SinterSpace holds D_max down (12 R688). -/
def spaceHolds (s : State) (num den : Nat) : Bool := decide (sinterSpace s * den < num * 262144)

/-- Slots of the ceiling from D_max (06 R296; 12 R688). -/
def ceilingOf (s : State) (num den : Nat) : Nat :=
  min (if dmaxZero s then 0 else min (num * 262144 / den) (sinterSpace s)) (s.cache.usable * s.cfg 0x2400 7 / 1000)

/-- D_max, ceiling and guarantees from the published energy (06 R294 to R297, R302); each hold of flash raises its start (12 R688). -/
def setCeiling (s : State) : State :=
  let eg := s.packEst.eg + s.bankEst.eg
  let num := dmaxNumOf s eg
  let den := s.adm.eByteInUse
  let hold := spaceHolds s num den
  let c := ceilingOf s num den
  let s1 := { s with
    adm := { s.adm with
      egTotal := eg
      dmaxNum := if dmaxZero s then 0 else min (num * 262144) (sinterSpace s * den)
      dmaxDen := 262144 * den, ceiling := c, flashHold := hold, dieHold := fewDies s }
    cache.tenants := vmapIdx (fun n x => { x with guaranteed := c * s.cfg (blockIndex 0x3030 n.val) 1 / 1000 }) s.cache.tenants }
  raiseIf (fewDies s && !s.adm.dieHold) (raiseIf (hold && !s.adm.flashHold) s1 519 .control []) 519 .control []

/-- Forcing, resuming and borrowing at a recomputation, given the ceiling that was in force (06 R310 to R319). -/
def applyCeiling (old : Nat) (s : State) : State :=
  let overshoot := chargedAll s - s.adm.ceiling
  let running := geyserRuns s.packEst || geyserRuns s.bankEst
  let gforce := running && (s.adm.geyserForce || decide (s.adm.ceiling < chargedAll s))
  let s1 := { s with adm.geyserForce := gforce }
  let f := if s1.adm.ceiling = 0 ∨ gforce then forceEvery (forceOrder s1) s1 []
           else if 0 < overshoot then forceCover overshoot (forceOrder s1) s1 [] else (s1, [])
  let r := if s1.adm.ceiling = 0 ∨ gforce ∨ 0 < overshoot then (f.1, []) else resumeSome ((forceOrder s1).reverse) f.1 []
  let s2 := r.1
  let anyBorrower := (List.finRange 16).any (fun n => borrower s2 n)
  let s3 := if s2.adm.borrowStopped then
      (if neededRoom s2 ≤ freeRoom s2 ∨ anyBorrower = false then { s2 with adm.borrowStopped := false } else s2)
    else if s2.adm.ceiling < old ∧ anyBorrower ∧ freeRoom s2 < neededRoom s2 then { s2 with adm.borrowStopped := true } else s2
  let s4 := stageRefresh s3
  let s5 := raiseIf (gforce && !s.adm.geyserForce) s4 36 .control []
  let s6 := f.2.foldl (fun t n => raise t (tenantEv n.val 2) .control []) s5
  let s7 := r.2.foldl (fun t n => raise t (tenantEv n.val 3) .control []) s6
  let s8 := if s3.adm.borrowStopped && !s2.adm.borrowStopped then
      forAll 16 (fun t n => raiseIf (borrower t n) t (tenantEv n.val 1) .control []) s7 else s7
  policyRefresh (belowRefresh s8)

/-- Tenants that have thawed take part from a recomputation on (06 R333). -/
def joinThawed (s : State) : State :=
  { s with cache.tenants := vmap (fun x => { x with thawed := false }) s.cache.tenants }

/-- The recomputation at a publication (06 section 3 and 5). -/
def recompute (s : State) : State := applyCeiling s.adm.ceiling (joinThawed (setCeiling s))

end Sys2Proof.Machine
end

