-- ==== Sys2Proof/Machine/ImageOps.lean ====
section
/-! DEFINITION. The Sinter image on flash: blocks and stripes, the chain and its copies, the records and pages of an epoch, the
manifest, and the operations on dies (12 sections 1 to 5 and 9). -/

namespace Sys2Proof.Machine

/-! ### Dies and blocks -/

/-- Grown bad blocks of a die: `2910h:04`. -/
def grownBad (d : Die) : Nat := (d.table.filter (fun p => p.2.1 == .bad)).length

/-- `2910h:03 EraseCountMax`. -/
def eraseMax (d : Die) : Nat := d.table.foldl (fun m p => max m p.2.2) 0

/-- Pages of stale blocks (12 R685). -/
def staleBlockPages (x : Flash) : Nat :=
  (List.finRange 16).foldl (fun a d => a + (x.die[d].table.filter (fun p => p.2.1 == .stale)).length * x.die[d].pages) 0

/-- Grown bad blocks a die may have: BadBlockLimit in ‰ of its image blocks (12 **Die transitions**). -/
def badBeyond (s : State) (d : Die) : Bool := decide (d.blocks * s.cfg 0x2902 1 < 1000 * grownBad d)

/-- Use and erase count of a block. -/
def blockOfDie (d : Die) (b : Nat) : BlockUse × Nat := (mapFind d.table b).getD (.erased, 0)

/-- The erased block with the lowest erase count (12 R683). -/
def pickBlock (d : Die) : Option Nat :=
  (List.range d.blocks).foldl (fun (a : Option Nat) b =>
    if (blockOfDie d b).1 = .erased then
      match a with
      | none => some b
      | some c => if (blockOfDie d b).2 < (blockOfDie d c).2 then some b else a
    else a) none

/-- Set a block's use. -/
def useBlock (u : BlockUse) (b : Nat) (d : Die) : Die := { d with table := mapSet d.table b (u, (blockOfDie d b).2) }

/-- Erase a block: its count rises (12 R685). -/
def eraseBlock (b : Nat) (d : Die) : Die := { d with table := mapSet d.table b (.erased, (blockOfDie d b).2 + 1) }

/-! ### The chain -/

/-- The chain of the committed image. -/
def chainOf (x : Flash) : List Epoch := match x.committed with | some m => m.chain | none => []

/-- TopEpoch of the committed manifest, 0 with none (12 R662). -/
def topEpoch (x : Flash) : Nat := match x.committed with | some m => m.top | none => 0

/-- The epoch being written. -/
def curEpoch (x : Flash) : Option Epoch := x.open_.getLast?

/-- A block's image copy with its epoch (12 R666): the highest epoch that holds it, unless a still higher one removed it. -/
def findCopy : List Epoch → Fin 16 → BitVec 32 → Nat → Option (Epoch × Nat × Copy)
  | [], _, _, _ => none
  | e :: below, n, vol, lba =>
    match (e.copies.zipIdx.reverse).find? (fun p => p.1.tenant == n && p.1.volume == vol && p.1.lba == lba && !e.dead.contains p.2) with
    | some p => some (e, p.2, p.1)
    | none =>
      if e.removals.any (fun r => r.tenant == n && r.volume == vol && r.lba == lba) then none
      else findCopy below n vol lba

/-- The image copy of a block in a chain, base first. -/
def imageCopy (chain : List Epoch) (n : Fin 16) (vol : BitVec 32) (lba : Nat) : Option (Epoch × Nat × Copy) :=
  findCopy chain.reverse n vol lba

/-- A copy is the image copy of its block (12 R666). -/
def isImageCopy (chain : List Epoch) (e : Epoch) (i : Nat) (c : Copy) : Bool :=
  match imageCopy chain c.tenant c.volume c.lba with
  | some p => p.1.number == e.number && p.2.1 == i
  | none => false

/-- Every image copy of a chain, in rising epoch and ordinal order. -/
def imageCopies (chain : List Epoch) : List (Epoch × Nat × Copy) :=
  chain.flatMap (fun e => (e.copies.zipIdx.filter (fun p => isImageCopy chain e p.2 p.1)).map (fun p => (e, p.2, p.1)))

/-- Slots that the stripes of an epoch have room for (12 R658). -/
def epochRoom (c : Nat) (e : Epoch) : Nat := e.runs.foldl (fun a r => a + r.stripes * stripeSlots r.dies.length c) 0

/-! ### Where a slot lies in a stripe (12 R657, R658) -/

/-- A stripe: its dies, its number in the run and in the epoch, its first parity die, and its first slot ordinal. -/
structure Stripe where
  dies : List (Fin 16)
  k : Nat
  index : Nat
  firstParity : Nat
  start : Nat

/-- The dies of a stripe's data pages, in order: all but the parity die; with one die, that die (12 R657, R659). -/
def Stripe.dataDies (t : Stripe) : List (Fin 16) :=
  if t.dies.length ≤ 1 then t.dies else t.dies.eraseIdx ((t.firstParity + t.k) % t.dies.length)

/-- The die of a stripe's parity page (12 R657); a stripe of one die has none (12 R659). -/
def Stripe.parityDie (t : Stripe) : Option (Fin 16) :=
  if t.dies.length ≤ 1 then none else t.dies[(t.firstParity + t.k) % t.dies.length]?

/-- Slots of a stripe. -/
def Stripe.slots (c : Nat) (t : Stripe) : Nat := t.dataDies.length * c

/-- The stripe that holds an ordinal, among runs that begin at an ordinal with a stripe. -/
def stripeFrom (c : Nat) : List Run → Nat → Nat → Nat → Option Stripe
  | [], _, _, _ => none
  | r :: rest, start, index, i =>
    let per := stripeSlots r.dies.length c
    let k := (i - start) / per
    if i < start + r.stripes * per then some ⟨r.dies, k, index + k, r.firstParity, start + k * per⟩
    else stripeFrom c rest (start + r.stripes * per) (index + r.stripes) i

/-- The stripe of an epoch that holds an ordinal. -/
def stripeOf (c : Nat) (e : Epoch) (i : Nat) : Option Stripe := stripeFrom c e.runs 0 0 i

/-- The stripe of an epoch that was allocated last. -/
def lastStripe (c : Nat) (e : Epoch) : Option Stripe :=
  match e.runs.getLast? with
  | some r => some ⟨r.dies, r.stripes - 1, e.stripes.length - 1, r.firstParity, epochRoom c e - stripeSlots r.dies.length c⟩
  | none => none

/-- The die whose data page holds an ordinal. -/
def dieOfSlot (c : Nat) (e : Epoch) (i : Nat) : Option (Fin 16) :=
  match stripeOf c e i with
  | some t => t.dataDies[(i - t.start) / c]?
  | none => none

/-- Pages of an epoch that hold a copy whose slot changed while it was programmed (06 R327). -/
def strayPages (c : Nat) (e : Epoch) : Nat := ((e.strays.map (· / c)).eraseDups).length

/-- `2901h:03 StalePages` (06 R327; 12 R685). -/
def stalePages (x : Flash) : Nat :=
  staleBlockPages x + ((chainOf x ++ x.open_).map (strayPages (codewordsC x))).sum

/-! ### Records of an epoch (12 R663, R664) -/

/-- The runs of consecutive ordinals that hold consecutive LBAs of one volume: first ordinal, its copy, and how many (12 R664). -/
def indexRuns : List (Nat × Copy) → List (Nat × Copy × Nat)
  | [] => []
  | (i, c) :: rest =>
    match indexRuns rest with
    | [] => [(i, c, 1)]
    | (j, d, n) :: more =>
      if j = i + 1 ∧ c.tenant = d.tenant ∧ c.volume = d.volume ∧ d.lba = c.lba + 1 then (i, c, n + 1) :: more
      else (i, c, 1) :: (j, d, n) :: more

/-- The index of an epoch: its copies but for those that hold no block any more (12 R664, R684). -/
def indexOf (e : Epoch) : List (Nat × Copy × Nat) :=
  indexRuns ((e.copies.zipIdx.filter (fun p => !e.dead.contains p.2)).map (fun p => (p.2, p.1)))

/-- The 24 bytes of an index record (12 **Epoch records**). -/
def indexBytes (r : Nat × Copy × Nat) : List Byte :=
  leBytes 6 r.2.1.lba ++ leBytes 1 r.2.1.tenant.val ++ leBytes 1 0 ++ leBytes 4 r.2.1.volume.toNat ++ leBytes 4 r.2.2 ++
  leBytes 4 r.1 ++ leBytes 4 0

/-- The 16 bytes of a removal record. -/
def removalBytes (r : Removal) : List Byte :=
  leBytes 6 r.lba ++ leBytes 1 r.tenant.val ++ leBytes 1 0 ++ leBytes 4 r.volume.toNat ++ leBytes 4 1

/-- The 4 bytes of a block-list record. -/
def blockRecord (b : Fin 16 × Nat) : List Byte := leBytes 1 b.1.val ++ leBytes 1 0 ++ leBytes 2 b.2

/-- The metadata of an epoch in its order, each block with its kind: index, removal list, block list (12 R655, R663). -/
def metaBlocks (e : Epoch) : List (Nat × Block) :=
  (toBlocks ((indexOf e).flatMap indexBytes)).map (1, ·) ++ (toBlocks (e.removals.flatMap removalBytes)).map (2, ·) ++
  (toBlocks (e.blocks.flatMap blockRecord)).map (3, ·)

/-- MetaStripes: the stripes of `per` codewords that the metadata of an epoch fills (12 R663). -/
def metaStripes (e : Epoch) (per : Nat) : Nat :=
  if per = 0 then 0
  else ((24 * (indexOf e).length + 4095) / 4096 + (16 * e.removals.length + 4095) / 4096 + (4 * e.blocks.length + 4095) / 4096 +
    per - 1) / per

/-! ### What a page holds (12 R655, R658, R660, R701) -/

/-- The sector header: write sequence, tenant, kind, epoch, and the block's erase count (12 **Sector header**). -/
def sectorHeader (seq tenant kind epoch erases : Nat) : BitVec 128 :=
  BitVec.ofNat 128 (seq % 2 ^ 56 + (tenant + 16 * kind) * 2 ^ 56 + epoch % 2 ^ 32 * 2 ^ 64 + erases % 2 ^ 16 * 2 ^ 96)

/-- The tweak of a slot: page, block, die, codeword, and the header's erase count (12 R701). -/
def tweakOf (p : Place) : BitVec 128 :=
  BitVec.ofNat 128 (p.page % 2 ^ 16 + p.block % 2 ^ 16 * 2 ^ 16 + p.die.val * 2 ^ 32 + p.codeword % 4 * 2 ^ 36 +
    p.erases % 2 ^ 16 * 2 ^ 64)

/-- A codeword at a place (12 R655). -/
def sealWord (p : Place) (seq tenant kind epoch : Nat) (data : Block) : Codeword :=
  let h := sectorHeader seq tenant kind epoch p.erases
  ⟨data, h, Config.ldpcParity data h⟩

/-- The padding codeword of an epoch (12 R660). -/
def padWord (epoch : Nat) (p : Place) : Codeword := sealWord p 0 0 4 epoch 0

/-- The data of a slot copy as flash holds it: with encryption on, under the tenant's key and the tweak of its place (12 R655,
R701). -/
def storedData (s : State) (e : Epoch) (p : Place) (c : Copy) : Block :=
  if s.cfg 0x2020 6 = 1 then Config.xtsEncrypt c.tenant.val (e.keyGens.getD c.tenant.val 0) (tweakOf p) c.data else c.data

/-- The codeword of an ordinal of an epoch: its copy, or padding (12 R658, R660). -/
def dataWord (s : State) (e : Epoch) (i : Nat) (p : Place) : Codeword :=
  match e.copies[i]? with
  | some c => sealWord p c.seq c.tenant.val 0 e.number (storedData s e p c)
  | none => padWord e.number p

/-- The codeword of a place in the metadata of an epoch: a block of it, or padding (12 R663). -/
def metaWord (epoch : Nat) (ws : List (Nat × Block)) (i : Nat) (p : Place) : Codeword :=
  match ws[i]? with
  | some w => sealWord p 0 0 w.1 epoch w.2
  | none => padWord epoch p

/-- The bytewise XOR of two codewords. -/
def xorWord (a b : Codeword) : Codeword := ⟨a.data ^^^ b.data, a.header ^^^ b.header, a.ldpc ^^^ b.ldpc⟩

/-- The parity page over some data pages, spare bytes included (12 R658). -/
def xorPages : List (List Codeword) → List Codeword
  | [] => []
  | [a] => a
  | a :: rest => List.zipWith xorWord a (xorPages rest)

/-- The page of a stripe on a die: image block and page. -/
def stripePage (e : Epoch) (index : Nat) (d : Fin 16) : Option (Nat × Nat) :=
  ((e.stripes.getD index []).find? (fun p => p.1 == d)).map (·.2)

/-- The place of a codeword in a page of a die. -/
def placeAt (x : Flash) (d : Fin 16) (bp : Nat × Nat) (w : Nat) : Place := ⟨d, bp.1, bp.2, w, (blockOfDie x.die[d] bp.1).2⟩

/-- The place of an ordinal of an epoch. -/
def placeOf (x : Flash) (c : Nat) (e : Epoch) (i : Nat) : Option Place :=
  match stripeOf c e i, dieOfSlot c e i with
  | some t, some d => (stripePage e t.index d).map (fun bp => placeAt x d bp ((i - t.start) % c))
  | _, _ => none

/-! ### Operations on dies (12 R646) -/

/-- An operation on a die is sent. -/
def flashDo (d : Fin 16) (o : FlashOp) (s : State) : State := s.send (.flash d o)

/-- Program a page and read the status back. -/
def programPage (d : Fin 16) (b : FlashBlock) (page : Nat) (data : PageData) (s : State) : State :=
  flashDo d .readStatusEnhanced (flashDo d (.pageProgram b page data) s)

/-- Erase a block and read the status back. -/
def eraseDie (d : Fin 16) (b : FlashBlock) (s : State) : State := flashDo d .readStatusEnhanced (flashDo d (.blockErase b) s)

/-- Read one codeword of a page. -/
def readWord (p : Place) (s : State) : State :=
  flashDo p.die (.changeReadColumn p.codeword) (flashDo p.die (.read (.image p.block) p.page) s)

/-- A die answers reads (12 **Die states**). -/
def readable (x : Flash) (d : Fin 16) : Bool := x.die[d].state != .absent

/-- Read the pages of a stripe on the dies that answer. -/
def readStripe (e : Epoch) (index : Nat) (s : State) : State :=
  (e.stripes.getD index []).foldl (fun t p => if readable t.flash p.1 then flashDo p.1 (.read (.image p.2.1) p.2.2) t else t) s

/-- Program the pages of a stripe on the dies that are active, the parity page last; `word` gives the codeword of each data codeword of
the stripe (12 R657, R658, R660). -/
def programStripe (e : Epoch) (t : Stripe) (word : Nat → Place → Codeword) (s : State) : State :=
  let c := codewordsC s.flash
  let at_ := fun (d : Fin 16) => (stripePage e t.index d).getD (0, 0)
  let data := t.dataDies.zipIdx.map (fun q =>
    (q.1, (List.range c).map (fun w => word (q.2 * c + w) (placeAt s.flash q.1 (at_ q.1) w))))
  let parity := match t.parityDie with | some d => [(d, xorPages (data.map (·.2)))] | none => []
  (data ++ parity).foldl (fun u p =>
    if u.flash.die[p.1].state = .active then programPage p.1 (.image (at_ p.1).1) (at_ p.1).2 (.codewords p.2) u else u) s

/-- Program the last stripe of the epoch being written with its slots (12 R658, R660). -/
def programData (s : State) : State :=
  match curEpoch s.flash with
  | none => s
  | some e =>
    match lastStripe (codewordsC s.flash) e with
    | some t => programStripe e t (fun i p => dataWord s e (t.start + i) p) s
    | none => s

/-- The dies of a manifest's copies: the two lowest-numbered active dies, on different channels where possible (12 R652, R670). -/
def manifestDies : List (Fin 16) → List (Fin 16)
  | a :: b :: rest => [a, ((b :: rest).find? (fun d => d.val % 4 != a.val % 4)).getD b]
  | l => l

/-- The reserved block of a manifest buffer: true is B (12 R654). -/
def bufferBlock (b : Bool) : FlashBlock := if b then .reserved 2 else .reserved 1

/-- Write the block tables of the dies that are present (12 R683). -/
def writeTables (s : State) : State :=
  (List.finRange 16).foldl (fun t d => if readable t.flash d then programPage d (.reserved 5) 0 .blockTable t else t) s

/-- The bytes of a key-area copy: KeyGeneration and wrapped key of each tenant, and a CRC-32 (12 R702). -/
def keyAreaBytes (s : State) : List Byte :=
  let body := (List.finRange 16).flatMap (fun n =>
    leBytes 4 (s.ten n).keyGen ++ leBytes 72 (Config.wrappedKey n.val (s.ten n).keyGen).toNat)
  body ++ leBytes 4 (crc32 body).toNat

/-- One key-area copy is erased, programmed and read back. -/
def writeKeyCopy (d : Fin 16) (b : FlashBlock) (s : State) : State :=
  flashDo d (.read b 0) (programPage d b 0 (.bytes (keyAreaBytes s)) (eraseDie d b s))

/-- A new key is written: copy X, then copy Y, on the two lowest-numbered active dies (12 R702). -/
def writeKeys (s : State) : State :=
  match activeDies s.flash with
  | a :: b :: _ => writeKeyCopy b (.reserved 4) (writeKeyCopy a (.reserved 3) s)
  | [a] => writeKeyCopy a (.reserved 4) (writeKeyCopy a (.reserved 3) s)
  | [] => s

/-! ### Manifest bytes -/

/-- The mask of some dies. -/
def dieMask (ds : List (Fin 16)) : Nat := ds.foldl (fun m d => m + 2 ^ d.val) 0

/-- The 160 bytes of an epoch entry (12 **Epoch entry**). The tail of each die is its last block in the list (log 41). -/
def epochBytes (x : Flash) (e : Epoch) : List Byte :=
  let per := stripeSlots (activeDies x).length (codewordsC x)
  let stripes := e.runs.foldl (fun a r => a + r.stripes) 0
  let pages := leastOf ((activeDies x).map (fun d => x.die[d].pages))
  leBytes 4 e.number ++ leBytes 1 (bitIf e.byPreSinter 0 + bitIf e.inRestore 1 + bitIf e.narrow 2) ++ leBytes 1 e.runs.length ++
  leBytes 2 (metaStripes e per) ++ leBytes 4 e.copies.length ++ leBytes 4 (indexOf e).length ++ leBytes 4 e.removals.length ++
  leBytes 4 e.blocks.length ++ leBytes 2 (if pages = 0 then 0 else (stripes - 1) % pages) ++ leBytes 2 0 ++
  (List.finRange 16).flatMap (fun d => leBytes 2
    (match (e.blocks.filter (fun p => p.1 == d)).getLast? with | some p => p.2 | none => 0xFFFF)) ++
  (List.range 16).flatMap (fun n => leBytes 4 (e.keyGens.getD n 0)) ++
  (List.range 4).flatMap (fun i => match e.runs[i]? with
    | some r => leBytes 4 r.stripes ++ leBytes 2 (dieMask r.dies) ++ leBytes 1 r.firstParity ++ leBytes 1 0
    | none => leBytes 8 0) ++ leBytes 4 0

/-- The 4,096 bytes of a manifest (12 **Manifest**). -/
def manifestBytes (x : Flash) (m : Manifest) : List Byte :=
  let copies := imageCopies m.chain
  let body :=
    leBytes 4 0x4D515449 ++ leBytes 1 m.format ++ leBytes 1 m.chain.length ++ leBytes 2 4096 ++ leBytes 8 m.sequence ++
    leBytes 4 m.top ++ leBytes 1 (bitIf m.encrypted 0 + bitIf (m.chain.any (·.narrow)) 1) ++ leBytes 1 m.cPerPage ++
    leBytes 2 (dieMask m.activeDies) ++ leBytes 8 m.time ++ leBytes 4 m.wallSeconds ++ leBytes 4 m.bootCount ++
    leBytes 4 copies.length ++
    (List.finRange 16).flatMap (fun n => leBytes 4 (copies.filter (fun p => p.2.2.tenant == n)).length) ++
    (List.range 16).flatMap (fun n => leBytes 8 (m.writeSeqs.getD n 0)) ++
    (List.range 16).flatMap (fun i => match m.chain[i]? with | some e => epochBytes x e | none => List.replicate 160 0) ++
    List.replicate 1296 0
  body ++ leBytes 4 (crc32 body).toNat

end Sys2Proof.Machine
end

