-- ==== Sys2Proof/Machine/FlashOps.lean ====
section
/-! DEFINITION. The flash engine: epochs and stripes, the committed manifest, release, restore, and dies (12; 11 sections 4 and
8). -/

namespace Sys2Proof.Machine

/-! ### Epochs -/

/-- The next page of a die for a stripe; a full block gives way to a fresh one (12 R657, R683). The block is `none` when no erased
block is left. -/
def nextPage (d : Die) : Die :=
  match d.cur with
  | some _ =>
    if d.nextPage < d.pages then { d with nextPage := d.nextPage + 1 }
    else match pickBlock d with
      | some b => { useBlock .used b d with cur := some b, nextPage := 1 }
      | none => { d with cur := none, nextPage := 0 }
  | none =>
    match pickBlock d with
    | some b => { useBlock .used b d with cur := some b, nextPage := 1 }
    | none => d

/-- An empty epoch with the next number (12 R662). -/
def newEpoch (s : State) (byPre : Bool) : Epoch :=
  { number := topEpoch s.flash + s.flash.open_.length + 1, byPreSinter := byPre, inRestore := imageFree s.life
    narrow := false, copies := [], dead := [], strays := [], removals := [], runs := [], stripes := [], blocks := []
    keyGens := s.cache.tenants.toList.map (·.keyGen) }

/-- Clear flash-copy-valid everywhere (12 R667, R690; 06 R329). -/
def clearCopyValid (x : Cache) : Cache := { x with slots := mapVals (fun _ q => { q with copyValid := false }) x.slots }

/-- Open an epoch; a full chain or a released base makes it a new base, but for a further epoch of one Sinter (12 R662, R667, R669). -/
def openEpoch (byPre : Bool) (s : State) : State :=
  let base := s.flash.open_.isEmpty && (decide (16 ≤ (chainOf s.flash).length) || s.flash.released)
  let s1 := if base then { s with cache := clearCopyValid s.cache } else s
  { s1 with flash := { s1.flash with open_ := s1.flash.open_ ++ [newEpoch s1 byPre], newBase := s1.flash.newBase || base } }

/-- Change the epoch being written. -/
def onOpen (f : Epoch → Epoch) (x : Flash) : Flash :=
  { x with open_ := match x.open_.reverse with | [] => [] | e :: r => (f e :: r).reverse }

/-- The active dies take a stripe of the run in hand, or of a new run when they changed (12 R657, R661). -/
def stripeRuns (dies : List (Fin 16)) (runs : List Run) : List Run :=
  match runs.reverse with
  | [] => [⟨dies, 1, 0⟩]
  | r :: rest => if r.dies = dies then (⟨r.dies, r.stripes + 1, r.firstParity⟩ :: rest).reverse else runs ++ [⟨dies, 1, 0⟩]

/-- A fifth run would be needed (12 R669). -/
def needsFifth (x : Flash) : Bool :=
  match curEpoch x with
  | none => false
  | some e => decide (4 ≤ e.runs.length) && (match e.runs.getLast? with | some r => r.dies != activeDies x | none => false)

/-- Take the next page of every active die for a stripe of the epoch being written (12 R657, R660, R683). -/
def takeStripe (x : Flash) : Flash :=
  let dies := activeDies x
  let y := dies.foldl (fun (x : Flash) d => { x with die := vmod x.die d nextPage }) x
  let pages := dies.filterMap (fun d => match y.die[d].cur with | some b => some (d, b, y.die[d].nextPage - 1) | none => none)
  onOpen (fun e => { e with
    runs := stripeRuns dies e.runs, stripes := e.stripes ++ [pages], narrow := e.narrow || decide (dies.length < 3)
    blocks := e.blocks ++ (pages.map (fun p => (p.1, p.2.1))).filter (fun p => !e.blocks.contains p) }) y

/-- The epoch being written holds stripes with W below 3. -/
def narrowOpen (x : Flash) : Bool := match curEpoch x with | some e => e.narrow | none => false

/-- Allocate one stripe on the active dies; the first with W below 3 makes the epoch a degraded one (12 R657, R660, R669, R683,
EV-0526). -/
def allocStripe (s : State) : State :=
  let s1 := if needsFifth s.flash then openEpoch false s else s
  let x := takeStripe s1.flash
  raiseIf (narrowOpen x && !narrowOpen s1.flash) { s1 with flash := x } 526 .flash []

/-- A block of the chain was cleaned or dropped: the next removal list names it (12 R665). -/
def noteRemoval (n : Fin 16) (vol : BitVec 32) (lba : Nat) (s : State) : State :=
  match imageCopy (chainOf s.flash) n vol lba with
  | some _ =>
    if s.flash.removals.contains ⟨n, vol, lba⟩ then s else { s with flash.removals := s.flash.removals ++ [⟨n, vol, lba⟩] }
  | none => s

/-- Order in which slots are copied: priority 0 to 7, lower tenant, then rising write sequence (11 R599, R623). -/
def copyBefore (s : State) (a b : Nat × Slot) : Bool :=
  let pa := s.cfg (blockIndex 0x3030 a.2.tenant.val) 2
  let pb := s.cfg (blockIndex 0x3030 b.2.tenant.val) 2
  decide (pa < pb) || (pa == pb && (decide (a.2.tenant.val < b.2.tenant.val) ||
    (a.2.tenant == b.2.tenant && decide (a.2.seq < b.2.seq))))

/-- The first slot in copy order of those that satisfy a test. -/
def firstCopy (s : State) (p : Nat → Slot → Bool) : Option (Nat × Slot) :=
  s.cache.slots.foldl (fun (a : Option (Nat × Slot)) q =>
    if p q.1 q.2 then match a with | none => some q | some r => if copyBefore s q r then some q else a else a) none

/-- A slot still to copy (06 R328). -/
def toCopy (q : Slot) : Bool := q.dirty && !q.copyValid

/-- The epoch being written needs a further stripe for the next slot. -/
def stripeFull (x : Flash) : Bool :=
  match curEpoch x with
  | some e => decide (epochRoom (codewordsC x) e ≤ e.copies.length)
  | none => false

/-- A stripe can be taken: every active die has a block for it, and some die is active. -/
def stripeReady (x : Flash) : Bool := !(activeDies x).isEmpty && (activeDies x).all (fun d => (x.die[d].cur).isSome)

/-- The epoch being written has room for one more slot, in its present stripe or in a further one that can be taken; false when no
erased block is left (12 *When things meet*). -/
def roomLeft (s : State) : Bool := !stripeFull s.flash || stripeReady (allocStripe s).flash

/-- A full stripe gives way to the next one. -/
def makeRoom (s : State) : State := if stripeFull s.flash then allocStripe s else s

/-- What an epoch holds of a slot. -/
def copyOf (x : Cache) (q : Slot) : Copy := ⟨q.tenant, volumeOf x q.handle, q.lba, q.seq, q.recording, q.data⟩

/-- Append a copy to the epoch being written; a stripe that it fills is programmed (12 R660). -/
def pushCopy (c : Copy) (s : State) : State :=
  let t := { s with flash := onOpen (fun e => { e with copies := e.copies ++ [c] }) s.flash }
  if stripeFull t.flash then programData t else t

/-- Append a slot's copy to the epoch being written; the slot gets flash-copy-valid and its place (06 R324). -/
def appendCopy (k : Nat) (q : Slot) (e : Epoch) (s : State) : State :=
  pushCopy (copyOf s.cache q) { s with
    cache.slots := mapSet s.cache.slots k { q with copyValid := true, copy := some (e.number, e.copies.length) } }

/-- Write slot k into the open epoch: its page is programmed and flash-copy-valid set (06 R324). A full stripe gives way to the
next one; with no erased block left the slot stays uncopied (12 *When things meet*). -/
def copySlot (k : Nat) (s : State) : State :=
  match mapFind s.cache.slots k, curEpoch (makeRoom s).flash with
  | some q, some e => if roomLeft s then appendCopy k q e (makeRoom s) else s
  | _, _ => s

/-- Copy slots in order until none is left that satisfies a test, or no space is left. -/
def copyAll (p : Slot → Bool) : Nat → State → State
  | 0, s => s
  | fuel + 1, s =>
    match firstCopy s (fun _ q => p q) with
    | none => s
    | some k =>
      let t := copySlot k.1 s
      if t.cache.slots = s.cache.slots then s else copyAll p fuel t

/-! ### Failed pages (12 R684, R694) -/

/-- Ordinals of the present stripe of an epoch whose data page lies on a die, and that no later copy replaced. -/
def presentPage (c : Nat) (d : Fin 16) (e : Epoch) : List Nat :=
  match stripeOf c e (e.copies.length - 1) with
  | some t => (List.range e.copies.length).filter (fun i =>
      decide (t.start ≤ i) && t.dataDies[(i - t.start) / c]? == some d && !e.dead.contains i)
  | none => []

/-- An ordinal of an open epoch no longer counts. -/
def killCopy (number i : Nat) (s : State) : State :=
  { s with flash.open_ := s.flash.open_.map (fun e => if e.number = number then { e with dead := e.dead ++ [i] } else e) }

/-- The slot whose copy stood at a place has it at another one, or none. -/
def moveCopy (number i : Nat) (dest : Option (Nat × Nat)) (s : State) : State :=
  { s with
    cache.slots := mapVals (fun _ q => if q.copy = some (number, i) then
      { q with copy := dest, copyValid := q.copyValid && dest.isSome } else q) s.cache.slots }

/-- One slot of a failed page is written again in the next stripe, and the index points to the new copy (12 R684). With no erased
block left it is not copied. -/
def rewriteCopy (number i : Nat) (c : Copy) (s : State) : State :=
  let s1 := killCopy number i s
  match curEpoch (makeRoom s1).flash with
  | none => s
  | some e =>
    if roomLeft s1 then
      moveCopy number i (some (e.number, e.copies.length)) (pushCopy c (makeRoom s1))
    else moveCopy number i none s1

/-- Write one ordinal of an epoch again. -/
def rewriteAt (e : Epoch) (i : Nat) (s : State) : State :=
  match e.copies[i]? with
  | some c => rewriteCopy e.number i c s
  | none => s

/-- The present stripe's page on a die is written again in the next stripe (12 R684, R694). -/
def relocatePage (d : Fin 16) (s : State) : State :=
  match curEpoch s.flash with
  | none => s
  | some e => (presentPage (codewordsC s.flash) d e).foldl (fun t i => rewriteAt e i t) s

/-! ### Stale blocks -/

/-- A block is used by an epoch of a list. -/
def usedBy (es : List Epoch) (d : Fin 16) (b : Nat) : Bool := es.any (fun e => e.blocks.contains (d, b))

/-- Blocks that no epoch of the chain or in hand uses become stale (12 R685). -/
def restale (x : Flash) : Flash :=
  let es := chainOf x ++ x.open_
  let f := fun (d : Fin 16) (y : Die) => { y with
    table := mapVals (fun b u => if u.1 = .used ∧ usedBy es d b = false ∧ y.cur ≠ some b then (.stale, u.2) else u) y.table }
  { x with die := vmapIdx f x.die }

/-! ### Commit, release, cancel -/

/-- The manifest of a chain (12 R668). -/
def manifestOf (s : State) (chain : List Epoch) (top : Nat) : Manifest :=
  { format := 1
    sequence := (match s.flash.committed with | some m => m.sequence + 1 | none => 1)
    top := top, encrypted := s.cfg 0x2020 6 == 1, cPerPage := codewordsC s.flash, activeDies := activeDies s.flash
    time := s.time.timeBase, wallSeconds := s.wallSeconds, bootCount := s.life.bootCount
    writeSeqs := s.cache.tenants.toList.map (·.writeSeq), chain := chain }

/-- Commit a manifest into the buffer that does not hold the committed one; the one committed before stays in the other
(12 R670; 11 R625). -/
def commitManifest (m : Manifest) (x : Flash) : Flash :=
  restale { x with
                   previous := x.committed, committed := some m, buffer := !x.buffer, open_ := [], newBase := false, removals := [],
                   incomplete := none
                   bufferDirty := match x.committed with | some p => manifestDies p.activeDies | none => [] }

/-- One copy of a manifest is programmed into its buffer and read back; a buffer that is not erased yet is erased first (11 R625;
12 R670, R671). -/
def putManifest (m : Manifest) (s : State) (d : Fin 16) : State :=
  let b := bufferBlock (!s.flash.buffer)
  let t := if s.flash.bufferDirty.contains d then eraseDie d b s else s
  flashDo d (.read b 0) (programPage d b 0 (.bytes (manifestBytes s.flash m)) t)

/-- Write and commit a manifest, with the block tables (12 R668, R670, R683). -/
def writeManifest (m : Manifest) (s : State) : State :=
  let t := writeTables ((manifestDies (activeDies s.flash)).foldl (putManifest m) s)
  { t with flash := commitManifest m t.flash }

/-- The last stripe of the data is filled with padding and programmed (12 R660). -/
def padStripe (s : State) : State := if stripeFull s.flash then s else programData s

/-- MetaStripes of the epoch being written. -/
def metaNeed (x : Flash) : Nat :=
  match curEpoch x with
  | some e => metaStripes e (stripeSlots (activeDies x).length (codewordsC x))
  | none => 0

/-- Program the last stripe of the epoch being written with the metadata from block `base` on. -/
def programMeta (ws : List (Nat × Block)) (base : Nat) (s : State) : State :=
  match curEpoch s.flash with
  | none => s
  | some e =>
    match lastStripe (codewordsC s.flash) e with
    | some t => programStripe e t (fun i p => metaWord e.number ws (base + i) p) s
    | none => s

/-- Allocate some stripes. -/
def allocStripes (n : Nat) (s : State) : State := (List.range n).foldl (fun t _ => allocStripe t) s

/-- The final stripes of the epoch: index, removal list and block list, which names the blocks of these stripes too (12 R663). -/
def writeMeta (s : State) : State :=
  let n := metaNeed (allocStripes (metaNeed s.flash) s).flash
  let per := stripeSlots (activeDies s.flash).length (codewordsC s.flash)
  let ws := match curEpoch (allocStripes n s).flash with | some e => metaBlocks e | none => []
  (List.range n).foldl (fun t k => programMeta ws (k * per) (allocStripe t)) s

/-- Steps 5 and 6 of the table, written out by `commitSinter`. -/
def commitEpochs (s : State) : State :=
  let es := match s.flash.open_ with
    | [] => []
    | e :: rest => { e with removals := s.flash.removals } :: rest
  let s1 := writeMeta (padStripe { s with flash.open_ := es })
  let chain := (if s1.flash.newBase then [] else chainOf s1.flash) ++ s1.flash.open_
  let top := match s1.flash.open_.getLast? with | some e => e.number | none => topEpoch s1.flash
  let s2 := writeManifest (manifestOf s1 chain top) s1
  { s2 with flash := { s2.flash with imageState := 1, released := false } }

/-- Sinter steps 5 and 6: the removal list joins the first epoch, the metadata stripes are written, and the manifest is committed
(11 **Sinter steps**; 12 R663, R665, R667). An image of a format this firmware does not read is left untouched: nothing is committed
over it (12 R674; log 93). -/
def commitSinter (s : State) : State :=
  if s.adm.formatHold then { s with flash := restale { s.flash with open_ := [], newBase := false } } else commitEpochs s

/-- Sinter step 7: every dirty slot in the committed image has its flash-copy-valid bit set (11 R624). -/
def markCopies (s : State) : State :=
  let chain := chainOf s.flash
  { s with
      cache.slots := mapVals (fun _ q =>
      match imageCopy chain q.tenant (volumeOf s.cache q.handle) q.lba with
      | some p => if q.dirty ∧ p.2.2.seq = q.seq then { q with copyValid := true, copy := some (p.1.number, p.2.1) } else q
      | none => q) s.cache.slots }

/-- Cancel the open epoch: every bit it set is cleared and its blocks are stale (06 R329; 12 R662, R685). -/
def cancelEpoch (s : State) : State :=
  if s.flash.open_.isEmpty then { s with flash := { s.flash with preSinter := false, copying := [] } }
  else
    let inOpen := fun (q : Slot) => match q.copy with | some c => s.flash.open_.any (fun e => e.number == c.1) | none => false
    { s with
      cache.slots := mapVals (fun _ q => if inOpen q then { q with copyValid := false, copy := none } else q) s.cache.slots
      flash := restale { s.flash with open_ := [], newBase := false, preSinter := false, copying := [] } }

/-- A sag with an open epoch ended, or power returned: the epoch is cancelled (11 R603, R606). -/
def cancelPreSinter (s : State) : State :=
  if s.flash.preSinter || !s.flash.open_.isEmpty then raise (cancelEpoch s) 456 .control [] else s

/-- Release the image: every bit cleared, an empty manifest committed, the old chain stale; an image of a format this firmware does
not read is discarded with it (12 R674, R690). -/
def releaseImage (s : State) : State :=
  let s1 := { s with cache := clearCopyValid s.cache }
  let s2 := writeManifest (manifestOf s1 [] (topEpoch s1.flash)) s1
  raise { s2 with
    adm.formatHold := false
    flash := { s2.flash with imageState := 0, released := true, releaseWanted := false } } 520 .flash []

/-- Slots with an image copy: ImageSlots of the manifest. -/
def imageSlots (x : Flash) : Nat := (imageCopies (chainOf x)).length

/-- The committed image holds dirty slots (03 R119; 02 R63). -/
def imageHoldsDirty (x : Flash) : Bool := !(imageCopies (chainOf x)).isEmpty

/-- A release condition holds (12 R689). -/
def releaseDue (s : State) : Bool :=
  s.flash.committed.isSome && !s.flash.released && (s.flash.releaseWanted || !s.adm.formatHold && (
    decide (s.cfg 0x2901 7 ≤ (chainOf s.flash).length) ||
    decide (1000 * countSlots s.cache (fun q => q.dirty && q.copyValid) < s.cfg 0x2901 8 * imageSlots s.flash) ||
    decide (sinterSpace s < s.adm.ceiling)))

/-- A release may start now: SERVE, no sag, no epoch open (12 R689). -/
def releaseOk (s : State) : Bool := s.life.dev == .serve && !s.hold.sag && s.flash.open_.isEmpty

/-! ### Pre-sinter -/

/-- Tenants whose slots pre-sinter copies (11 R598, 03 **Mode matrix**). -/
def preSinterTenant (s : State) (n : Fin 16) : Bool := s.cfg (blockIndex 0x3010 n.val) 2 == 1 && effPolicy s n == 0

/-- A slot pre-sinter copies (11 R599, R600); segment blocks PUT after its epoch started are left to the Sinter (03 **Mode
matrix**). -/
def preSinterSlot (s : State) (q : Slot) : Bool :=
  toCopy q && preSinterTenant s q.tenant && !(q.recording && q.tenant == s.cache.videoTenant && decide (s.flash.preSeq < q.seq))

/-- The next slots in copy order, up to a number of them, after those named already, each with what is copied of it. -/
def pageSlots (s : State) (p : Slot → Bool) : Nat → List (Nat × Copy) → List (Nat × Copy)
  | 0, acc => acc
  | n + 1, acc =>
    match firstCopy s (fun k q => p q && !acc.any (fun a => a.1 == k)) with
    | none => acc
    | some q => pageSlots s p n (acc ++ [(q.1, copyOf s.cache q.2)])

/-- Go on with the next page of slots (11 R599). -/
def nextPreSinter (s : State) : State :=
  { s with flash.copying := pageSlots s (preSinterSlot s) (codewordsC s.flash) [] }

/-- A slot is still what was copied of it, and still to copy (06 R326, R327). -/
def unchanged (x : Cache) (q : Slot) (c : Copy) : Bool := copyOf x q == c && toCopy q

/-- The copy of a slot that changed while its page was programmed: it holds no block, and its page is stale (06 R327). -/
def strayCopy (c : Copy) (s : State) : State :=
  pushCopy c { s with
    flash := onOpen (fun e => { e with dead := e.dead ++ [e.copies.length], strays := e.strays ++ [e.copies.length] }) s.flash }

/-- One slot of a programmed page has its copy in the epoch: it gets its bit if it is unchanged (06 R324, R326, R327). -/
def pageCopy (a : Nat × Copy) (s : State) : State :=
  match curEpoch (makeRoom s).flash with
  | none => s
  | some e =>
    if roomLeft s then
      match mapFind s.cache.slots a.1 with
      | some q => if unchanged s.cache q a.2 then appendCopy a.1 q e (makeRoom s) else strayCopy a.2 (makeRoom s)
      | none => strayCopy a.2 (makeRoom s)
    else s

/-- The page in hand is programmed, and the copy moves on (06 R324, R326, R327; 11 R599). -/
def pageProgrammed (s : State) : State := nextPreSinter (s.flash.copying.foldl (fun t a => pageCopy a t) s)

/-- Pre-sinter starts when a sag begins in SERVE or RESTORE (11 R598, R604, R607). -/
def startPreSinter (s : State) : State :=
  if (s.life.dev = .serve ∨ s.life.dev = .restore) ∧ (List.finRange 16).any (preSinterTenant s) ∧
      (activeDies s.flash).isEmpty = false ∧ s.flash.open_.isEmpty then
    let t := openEpoch true s
    raise (nextPreSinter { t with
      flash := { t.flash with preSinter := true, preSeq := (s.ten s.cache.videoTenant).writeSeq } }) 455 .control []
  else s

/-! ### Dies -/

/-- The blocks that a probation verified are stale when it ends without passing (12 R685). -/
def staleVerified (x : Die) : Die :=
  { x with
    state := .retired, verified := 0
    table := mapVals (fun b u => if b < x.verified ∧ u.1 = .erased then (.stale, u.2) else u) x.table }

/-- End a die's probation (12 **Die transitions**). -/
def endProbation (d : Fin 16) (s : State) : State :=
  if s.flash.die[d].state = .probation then raise (s.modDie d staleVerified) (624 + d.val) .flash [] else s

/-- A sag or an outage ends every probation. -/
def endProbations (s : State) : State := forAll 16 (fun t d => endProbation d t) s

/-- Retire an active die for a cause; its page of the present stripe is written again (12 R692 to R694). -/
def retireDie (d : Fin 16) (cause : Nat) (s : State) : State :=
  relocatePage d (raise
    (s.modDie d (fun x => { x with state := .retired, cause := cause, retiredInTable := true, cur := none, nextPage := 0 }))
    (576 + d.val) .flash [(1, cause)])

/-- Mark a die's block grown bad (12 R684, EV-0524). -/
def markBad (d : Fin 16) (b : Nat) (s : State) : State :=
  let s1 := raise (s.modDie d (fun x => { useBlock .bad b x with cur := if x.cur = some b then none else x.cur })) 524 .flash
    [(1, d.val), (2, b)]
  if s1.flash.die[d].state = .active ∧ badBeyond s1 s1.flash.die[d] then retireDie d 2 s1 else s1

/-- Seconds of powered time in 24 h. -/
def daySeconds : Nat := 86400

/-- A codeword was rebuilt from its stripe because of a die's page (12 R656, R678, R692). -/
def noteRebuild (d : Fin 16) (s : State) : State :=
  let recent := (s.poweredSec :: s.flash.die[d].rebuilds).filter (fun t => s.poweredSec < t + daySeconds)
  let s1 := raise (s.modDie d (fun x => { x with rebuilds := recent, rebuildCount := x.rebuildCount + 1 })) 525 .flash []
  if s1.flash.die[d].state = .active ∧ s.cfg 0x2902 2 ≤ recent.length then retireDie d 3 s1 else s1

/-! ### Restore -/

/-- Slot data of an image copy enters DRAM (12 R677). -/
def restoreData (k : Nat) (s : State) : State :=
  match mapFind s.cache.slots k with
  | none => s
  | some q =>
    if q.unrestored = false then s
    else
      let d := match imageCopy (chainOf s.flash) q.tenant (volumeOf s.cache q.handle) q.lba with
        | some p => p.2.2.data
        | none => q.data
      { s with
        cache.slots := mapSet s.cache.slots k { q with unrestored := false, data := d }
        flash.restoreDone := s.flash.restoreDone + 1 }

/-- A slot's image copy cannot be recovered (02 R94): it stays dirty and is reported lost. The event carries the low word of the
slot's tag, which is directory bytes 0 to 7 (log 40). A slot that has been restored or lost since is left as it is. -/
def loseSlot (k : Nat) (s : State) : State :=
  match mapFind s.cache.slots k with
  | none => s
  | some q =>
    if q.unrestored = false then s
    else
      raise { s with
        cache.slots := mapSet s.cache.slots k { q with unrestored := false, lost := true }
        flash.restoreDone := s.flash.restoreDone + 1 } 75 .memory [(4, q.lba % 2 ^ 32)]

/-- The codeword of an unrestored slot's image copy is read from flash (12 R678). -/
def readSlotWord (k : Nat) (s : State) : State :=
  match mapFind s.cache.slots k, s.flash.committed with
  | some q, some m =>
    (match imageCopy m.chain q.tenant (volumeOf s.cache q.handle) q.lba with
     | some p => (match placeOf s.flash m.cPerPage p.1 p.2.1 with
       | some a => if readable s.flash a.die then readWord a s else s
       | none => s)
     | none => s)
  | _, _ => s

/-- What a flash read gave, for the slots it covered; `gone` says which lie on one of two unreadable pages (12 R656, R678, R681). -/
def readSlots (gone : Fin 16 → Fin 16 → Nat → Bool) (ks : List Nat) (r : ReadResult) (s : State) : State :=
  match r with
  | .good => ks.foldl (fun t k => restoreData k t) s
  | .rebuilt d => noteRebuild d (ks.foldl (fun t k => restoreData k t) s)
  | .lost a b => raise (ks.foldl (fun t k => if gone a b k then loseSlot k t else restoreData k t) s) 517 .flash []

/-- The unrestored slots in the order the background restore reads them: rising epoch, then ordinal; each with its slot number
(12 R677). -/
def restoreOrder (s : State) : List (Epoch × Nat × Nat) :=
  (imageCopies (chainOf s.flash)).filterMap (fun p =>
    match slotNo s.cache p.2.2.tenant p.2.2.volume p.2.2.lba with
    | some k => match mapFind s.cache.slots k with
      | some q => if q.unrestored then some (p.1, p.2.1, k) else none
      | none => none
    | none => none)

/-- The stripe that the background restore reads next: its epoch, and the unrestored slots it holds with their ordinals
(12 R677). -/
def nextStripe (s : State) : Option (Epoch × List (Nat × Nat)) :=
  let c := match s.flash.committed with | some m => m.cPerPage | none => 0
  match restoreOrder s with
  | [] => none
  | (e, i, k) :: rest =>
    match stripeOf c e i with
    | none => some (e, [(i, k)])
    | some t => some (e, (i, k) :: (rest.filter (fun p => p.1.number == e.number &&
        decide (t.start ≤ p.2.1) && decide (p.2.1 < t.start + t.slots c))).map (·.2))

/-- Slots still to restore. -/
def unrestoredCount (x : Cache) : Nat := countSlots x (fun q => q.unrestored)

/-- Milliseconds the background restore still needs at 1.44 GB/s of slot data (02 R92, R95), rounded down. -/
def restoreTime (slots : Nat) : Nat := slots * 4096 * 1000 / 1440000000

/-- A handle for a volume: the one it has, or a free one of 4,096 (06 R283). -/
def withHandle (x : Cache) (n : Fin 16) (vol : BitVec 32) : Option (Nat × Cache) :=
  match handleOf x n vol with
  | some h => some (h, x)
  | none => match mapFree x.handles 4096 0 with
    | some h => some (h, { x with handles := mapSet x.handles h (n, vol) })
    | none => none

/-- BOOT step 10 enters one image copy in the directory (12 R676, R682). -/
def indexCopy (s : State) (p : Epoch × Nat × Copy) : State :=
  let c := p.2.2
  if p.1.keyGens.getD c.tenant.val 0 ≠ (s.ten c.tenant).keyGen then s.modTen c.tenant (fun x => { x with sanitized := x.sanitized + 1 })
  else
    match mapFree s.cache.slots s.cache.usable 0, withHandle s.cache c.tenant c.volume with
    | some k, some hx =>
      { s with
          cache := { hx.2 with
          stamp := hx.2.stamp + 1
          slots := mapSet hx.2.slots k
            { lba := c.lba, handle := hx.1, tenant := c.tenant, seq := c.seq, dirty := true, frozen := false, copyValid := true,
              unrestored := true, fromImage := true, recording := c.recording, lost := false, data := 0, used := hx.2.stamp,
              copy := some (p.1.number, p.2.1) } } }
    | _, _ => s

/-- The final stripes of an epoch, which hold its index and removal list, are read (12 R663, R676). -/
def readMeta (c : Nat) (e : Epoch) (s : State) : State :=
  let n := metaStripes e (match e.runs.getLast? with | some r => stripeSlots r.dies.length c | none => 0)
  (List.range n).foldl (fun t k => readStripe e (e.stripes.length - n + k) t) s

/-- BOOT step 10 loads the image index, newest epoch first (12 R676; 05 R234 for the sequences). -/
def loadIndex (sa : State) : State :=
  match sa.flash.committed with
  | none => sa
  | some m =>
    let s := m.chain.reverse.foldl (fun t e => readMeta m.cPerPage e t) sa
    let seqs := vmapIdx (fun (n : Fin 16) (x : Tenant) => { x with writeSeq := max x.writeSeq (m.writeSeqs.getD n.val 0) }) s.cache.tenants
    (imageCopies m.chain).foldl indexCopy { s with cache.tenants := seqs }

end Sys2Proof.Machine
end

