-- ==== Sys2Proof/Machine/Operands.lean ====
section
/-! DEFINITION. Operand forms of the cache commands: the submission entry's fields, the checks every command makes on them, and
the completion entry (05 sections 4, 5 and 7). -/

namespace Sys2Proof.Machine

/-- A field of a submission entry: `len` bytes from byte `off` (05 **Submission entry**). -/
def sqeField (w : BitVec 512) (off len : Nat) : Nat := (w.toNat / 256 ^ off) % 256 ^ len

def sqeOpcode (w : BitVec 512) : Nat := sqeField w 0 1
def sqeDataList (w : BitVec 512) : Bool := (sqeField w 1 1).testBit 0
def sqeVolume (w : BitVec 512) : BitVec 32 := BitVec.ofNat 32 (sqeField w 4 4)
def sqeLba (w : BitVec 512) : Nat := sqeField w 8 8
def sqeLength (w : BitVec 512) : Nat := sqeField w 16 4
def sqeParam0 (w : BitVec 512) : Nat := sqeField w 20 4
def sqeParam1 (w : BitVec 512) : Nat := sqeField w 24 8
def sqeAddress (w : BitVec 512) : Nat := sqeField w 32 8
def sqeDataLength (w : BitVec 512) : Nat := sqeField w 40 4
def sqeTarget (w : BitVec 512) : Nat := sqeField w 44 1

/-- Target is valid (05 R252). -/
def sqeTargeted (w : BitVec 512) : Bool := (sqeTarget w).testBit 7

/-- The commands (05 **Opcodes**). -/
inductive Op where
  | put | get | clean | drop | list | fence | segmentRead
  deriving DecidableEq, Repr

def opOf (w : BitVec 512) : Option Op :=
  match sqeOpcode w with
  | 1 => some .put | 2 => some .get | 3 => some .clean | 4 => some .drop | 5 => some .list | 6 => some .fence
  | 7 => some .segmentRead | _ => none

/-- The fields a command uses: LBA, Param0, Param1, data, and whether Target may be valid (05 **Commands**). -/
structure OpFields where
  volume : Bool
  lba : Bool
  param0 : Bool
  param1 : Bool
  data : Bool
  target : Bool
  deriving DecidableEq, Repr

def Op.fields : Op → OpFields
  | .put => ⟨true, true, false, false, true, false⟩
  | .get => ⟨true, true, false, false, true, true⟩
  | .clean => ⟨true, true, false, true, false, true⟩
  | .drop => ⟨true, true, false, false, false, true⟩
  | .list => ⟨true, false, false, true, true, true⟩
  | .fence => ⟨false, false, true, false, false, false⟩
  | .segmentRead => ⟨true, true, false, true, true, false⟩

/-- The Length a command allows (05 **Commands**). -/
def Op.lengthOk (o : Op) (n : Nat) : Bool :=
  match o with
  | .put | .get => decide (1 ≤ n) && decide (n ≤ 64)
  | .clean | .drop => decide (1 ≤ n)
  | .list | .fence => true
  | .segmentRead => decide (1 ≤ n) && decide (n ≤ 262144)

/-- Bytes in the buffer: DataLength, or the sum of the element lengths (05 R222, R223). -/
def dataBytes (w : BitVec 512) (elems : List Element) : Nat :=
  if sqeDataList w then elems.foldl (fun a e => a + e.length.toNat) 0 else sqeDataLength w

/-- The element list is well formed: 1 to 256 elements of 16 bytes, addresses and lengths multiples of 4, reserved bytes 0
(05 R222). -/
def elemsOk (w : BitVec 512) (elems : List Element) : Bool :=
  !sqeDataList w || (decide (1 ≤ elems.length) && decide (elems.length ≤ 256) && sqeDataLength w == 16 * elems.length &&
    elems.all (fun e => e.address.toNat % 4 == 0 && e.length.toNat % 4 == 0 && e.reserved == 0))

/-- The data a command moves matches its buffer (05 R223, R243). -/
def Op.dataOk (o : Op) (w : BitVec 512) (elems : List Element) : Bool :=
  match o with
  | .put | .get => dataBytes w elems == 4096 * sqeLength w
  | .segmentRead => dataBytes w elems == sqeLength w
  | .list => decide (16 ≤ dataBytes w elems) && dataBytes w elems % 16 == 0
  | _ => true

/-- The byte offset of the first bad field of an entry in rising offset, none if every field is good (05 R222, R223, R226, R243,
R252; the order of the checks is not given, log 50). -/
def badField (o : Op) (fn : Fin 16) (w : BitVec 512) (elems : List Element) : Option Nat :=
  let f := o.fields
  let bad : List (Nat × Bool) := [
    (1, decide (2 ≤ sqeField w 1 1) || (!f.data && sqeDataList w)),
    (4, (!f.volume && sqeVolume w != 0) || (o == .segmentRead && decide (15 < sqeField w 4 4))),
    (8, !f.lba && sqeLba w != 0),
    (16, !o.lengthOk (sqeLength w)),
    (20, if f.param0 then decide (2 ≤ sqeParam0 w) else sqeParam0 w != 0),
    (24, !f.param1 && sqeParam1 w != 0),
    (32, if f.data then sqeAddress w % 4 != 0 else sqeAddress w != 0),
    (40, if f.data then !elemsOk w elems || !o.dataOk w elems else sqeDataLength w != 0),
    (44, sqeTarget w / 16 % 8 != 0 || (!sqeTargeted w && sqeTarget w != 0) || (sqeTargeted w && fn != 0)),
    (45, sqeField w 45 19 != 0)]
  (bad.find? (fun p => p.2)).map (·.1)

/-- The tenant whose blocks a command acts on (05 R252, R273). -/
def targetOf (fn : Fin 16) (w : BitVec 512) : Fin 16 := if sqeTargeted w && fn == 0 then Fin.ofNat 16 (sqeTarget w) else fn

/-- The volume a stream records into (14 R805). -/
def segVolume (n : Fin 16) : BitVec 32 := BitVec.ofNat 32 (0xFFFFFF00 + n.val)

/-- The first LBA of a segment (14 R805). -/
def segLba (k : Nat) : Nat := k * 16384

/-- Status codes (05 **Status codes**). -/
inductive Status where
  | success | throttled | notPresent | lost | invalidOpcode | invalidField | dataError | policy | aborted | eccError | noSpace
  | state | range
  deriving DecidableEq, Repr

def Status.code : Status → Nat
  | .success => 0 | .throttled => 1 | .notPresent => 2 | .lost => 3 | .invalidOpcode => 4 | .invalidField => 5 | .dataError => 6
  | .policy => 7 | .aborted => 8 | .eccError => 9 | .noSpace => 0xA | .state => 0xB | .range => 0xC

/-- The 16 bytes of a completion entry (05 **Completion entry**). -/
def completionBytes (c : Completion) (qp : Fin 4) (phase : Bool) : List Byte :=
  leBytes 8 c.result.toNat ++ leBytes 2 c.sqHead.toNat ++ leBytes 2 c.commandId.toNat ++ leBytes 1 c.status.toNat ++
  leBytes 1 c.detail.toNat ++ leBytes 1 qp.val ++
  leBytes 1 (bitIf phase 0 + bitIf c.segmentEnd 1 + bitIf c.notProtected 2 + bitIf c.onDemand 3)

/-- Spread bytes over an element list. -/
def spread : List (Nat × Nat) → List Byte → List (Nat × List Byte)
  | [], _ => []
  | (a, n) :: rest, bs => if bs.isEmpty then [] else (a, bs.take n) :: spread rest (bs.drop n)

/-- Where a command's data lies in host memory: address and length of each part (05 R222). -/
def dataParts (w : BitVec 512) (elems : List Element) : List (Nat × Nat) :=
  if sqeDataList w then elems.map (fun e => (e.address.toNat, e.length.toNat)) else [(sqeAddress w, sqeDataLength w)]

end Sys2Proof.Machine
end

