-- ==== Sys2Proof/Machine/HostOps.lean ====
section
/-! DEFINITION. The host port: queues and doorbells, completions, the fetched commands and their checks, and function resets
(05). -/

namespace Sys2Proof.Machine

/-! ### Queues -/

/-- Entries of a submission queue. -/
def sqLen (p : Pair) : Nat := p.sqSize.toNat + 1

/-- Entries of a completion queue. -/
def cqLen (p : Pair) : Nat := p.cqSize.toNat + 1

/-- Queue pairs a tenant may enable: `3020h:01 QueuePairsAllowed`. -/
def pairsAllowed (s : State) (fn : Fin 16) : Nat := s.cfg (blockIndex 0x3020 fn.val) 1

/-- HOST serves the queues: the island runs and the function masters the bus (05 R204). -/
def dmaOpen (s : State) (fn : Fin 16) : Bool := s.island .host == .running && s.port.fns[fn].bme

/-! ### The DMA engine (05 R203, R274 to R276) -/

/-- Cut a span into pieces of at most `m` bytes. -/
def cutSpan (m : Nat) : Nat → Nat × Nat → List (Nat × Nat)
  | 0, _ => []
  | k + 1, (a, n) => if n = 0 then [] else if n ≤ m then [(a, n)] else (a, m) :: cutSpan m k (a + m, n - m)

/-- The pieces of a span of host memory, of at most `m` bytes each. -/
def pieces (m : Nat) (p : Nat × Nat) : List (Nat × Nat) := cutSpan m (p.2 / m + 1) p

/-- The posted writes of a function for some spans, each at most its Max_Payload_Size long (05 R203). -/
def writeParts (s : State) (fn : Fin 16) (parts : List (Nat × Nat)) : List (Nat × Nat) := parts.flatMap (pieces s.port.fns[fn].mps)

/-- A transfer of a pair has its turn (05 R275, R276). -/
def takeTurn (fn : Fin 16) (qp : Fin 4) (s : State) : State :=
  { s.modFn fn (fun f => { f with lastQp := qp }) with port.lastFn := fn }

/-- Write bytes to a function's host memory, in packets of at most its Max_Payload_Size (05 R203, R274). -/
def dmaWrite (fn : Fin 16) (parts : List (Nat × Nat)) (bytes : List Byte) (s : State) : State :=
  (spread (writeParts s fn parts) bytes).foldl (fun t p => t.send (.dma fn p.1 p.2)) s

/-- Read spans of a function's host memory, in requests of at most its Max_Read_Request_Size (05 R203, R274). What comes back is the
operand of a later row. -/
def dmaRead (fn : Fin 16) (parts : List (Nat × Nat)) (s : State) : State :=
  (parts.flatMap (pieces s.port.fns[fn].mrrs)).foldl (fun t p => t.send (.dmaRead fn p.1 p.2)) s

/-- A transfer that no pair asked for takes a turn of its function (05 R277). -/
def takeFnTurn (fn : Fin 16) (s : State) : State := { s with port.lastFn := fn }

/-- Functions in the order of the rotation, from the one after the latest served (05 R275). -/
def rotationFns (s : State) : List (Fin 16) := (List.finRange 16).map (fun i => s.port.lastFn + 1 + i)

/-- Pairs of a function in the order of its rotation (05 R275). -/
def rotationQps (s : State) (fn : Fin 16) : List (Fin 4) := (List.finRange 4).map (fun i => s.port.fns[fn].lastQp + 1 + i)

/-- The pair that has the next turn among those that wait (05 R275). -/
def nextTurn (s : State) (waits : Fin 16 → Fin 4 → Bool) : Option (Fin 16 × Fin 4) :=
  (rotationFns s).findSome? (fun fn => ((rotationQps s fn).find? (waits fn)).map (fun qp => (fn, qp)))

/-- PF0's SR-IOV capability, TotalVFs, First VF Offset and VF Stride; PF0 carries the ARI capability as well (05 R201). -/
def sriov : Nat × Nat × Nat := (15, 1, 1)

/-- The function that VFk is (05 R201). -/
def vfFunction (k : Nat) : Nat := sriov.2.1 + (k - 1) * sriov.2.2

/-- A function is PF0 or one of the first VFs (05 R201). -/
def fnEnabled (vfs : Nat) (fn : Fin 16) : Bool := fn == 0 || (List.range vfs).any (fun k => vfFunction (k + 1) == fn.val)

/-- Raise an MSI-X vector of a function; without bus mastering it stays pending (05 R204, R206; PCIe, log 130). -/
def signal (fn : Fin 16) (v : Nat) (s : State) : State :=
  if s.port.fns[fn].bme then s.send (.msix fn v)
  else s.modFn fn (fun f => { f with pba := f.pba ||| BitVec.ofNat 32 (2 ^ v) })

/-- The vectors that waited for bus mastering are raised, in rising order (05 R204; log 130). -/
def sendPending (fn : Fin 16) (s : State) : State :=
  ((List.range 32).filter (s.port.fns[fn].pba.getLsbD ·)).foldl (fun t v => t.send (.msix fn v)) (s.modFn fn (fun f => { f with pba := 0 }))

/-! ### BAR0 (05 section 2) -/

/-- HP_INFO (05 R206). -/
def hpInfo (s : State) (fn : Fin 16) : Nat :=
  s.life.dev.code * 2 ^ 28 + fn.val * 2 ^ 24 + bitIf (s.ten fn).frozen 23 + bitIf (s.life.dev == .restore) 22 +
  pairsAllowed s fn * 2 ^ 19 + 64 * 2 ^ 8

/-- A register of a queue pair (05 R207). -/
def pairRegister (p : Pair) (off : Nat) : Nat :=
  match off with
  | 0x00 => p.sqBase.toNat % 2 ^ 32
  | 0x04 => p.sqBase.toNat / 2 ^ 32
  | 0x08 => p.cqBase.toNat % 2 ^ 32
  | 0x0C => p.cqBase.toNat / 2 ^ 32
  | 0x10 => p.cqSize.toNat * 2 ^ 16 + p.sqSize.toNat
  | 0x14 => bitIf p.enable 31 + p.aggTime.toNat * 2 ^ 16 + p.vector.toNat * 2 ^ 8 + p.aggCount.toNat * 2 ^ 4 + bitIf p.irqEn 0
  | 0x18 => qstatus p
  | _ => 0

/-- What an aligned doubleword of a function's BAR0 reads; reserved space reads 0 (05 R206). A doorbell reads the index taken
(log 130). -/
def bar0Word (s : State) (fn : Fin 16) (off : Nat) : Nat :=
  if off < 0x1000 then mbxRegister s.mbx[fn] off
  else if off < 0x1020 then
    (let p := s.pair fn (Fin.ofNat 4 ((off - 0x1000) / 8))
     if off % 8 = 0 then p.sqTail else p.cqHead)
  else if off < 0x2000 then 0
  else if off < 0x2080 then pairRegister (s.pair fn (Fin.ofNat 4 ((off - 0x2000) / 0x20))) (off % 0x20)
  else if off = 0x2080 then hpInfo s fn
  else if 0xE000 ≤ off ∧ off < 0xE200 then
    (s.port.fns[fn].msix.getD ((off - 0xE000) / 16) 0).toNat / 2 ^ (8 * (off % 16)) % 2 ^ 32
  else if off = 0xF000 then s.port.fns[fn].pba.toNat
  else 0

/-- Raise a tenant's event from HOST. -/
def raiseTenant (fn : Fin 16) (k : Nat) (vs : List (Nat × Nat)) (s : State) : State := raise s (tenantEv fn.val k) .host vs

/-- Stop a pair on a queue fault (05 R209, R213, R214). -/
def stopPair (fn : Fin 16) (qp : Fin 4) (code : Byte) (s : State) : State :=
  raiseTenant fn 20 [] (s.modPair fn qp (fun p => { p with fault := true, ready := false, error := code }))

/-- Take a SQ_TAIL value (05 R211 to R213). -/
def takeTail (fn : Fin 16) (qp : Fin 4) (v : BitVec 32) (s : State) : State :=
  let p := s.pair fn qp
  if p.enable = false ∨ p.fault then s
  else
    let pending := (p.sqTail + sqLen p - p.sqHead) % sqLen p
    let step := (v.toNat + sqLen p - p.sqTail) % sqLen p
    if sqLen p ≤ v.toNat ∨ sqLen p ≤ pending + step then stopPair fn qp 1 s
    else s.modPair fn qp (fun p => { p with sqTail := v.toNat })

/-- Take a CQ_HEAD value (05 R211 to R213). -/
def takeCqHead (fn : Fin 16) (qp : Fin 4) (v : BitVec 32) (s : State) : State :=
  let p := s.pair fn qp
  if p.enable = false then s
  else
    let posted := (p.cqTail + cqLen p - p.cqHead) % cqLen p
    let step := (v.toNat + cqLen p - p.cqHead) % cqLen p
    if cqLen p ≤ v.toNat ∨ posted < step then stopPair fn qp 1 s
    else s.modPair fn qp (fun p => { p with cqHead := v.toNat })

/-- Doorbell writes are only recorded: during a warm BOOT, while Bus Master Enable is 0 (02 R76; 05 R204). -/
def doorbellWaits (s : State) (fn : Fin 16) : Bool :=
  s.life.dev == .boot || s.life.restarting || !s.port.fns[fn].bme

/-- Take a doorbell write: `head` for CQ_HEAD (05 R211). -/
def takeDoorbell (fn : Fin 16) (qp : Fin 4) (head : Bool) (v : BitVec 32) (s : State) : State :=
  if head then takeCqHead fn qp v s else takeTail fn qp v s

/-- Act on what was recorded (05 R204; 02 R76). -/
def replayTails (fn : Fin 16) (s : State) : State :=
  if doorbellWaits s fn then s
  else
    forAll 4 (fun t qp => (t.pair fn qp).recorded.foldl (fun u v => takeDoorbell fn qp v.1 v.2 u)
      (t.modPair fn qp (fun p => { p with recorded := [] }))) s

/-- The check of Enable (05 R209): allowance, alignment, sizes; the order is not given (log 51). -/
def enableError (s : State) (fn : Fin 16) (qp : Fin 4) (p : Pair) : Byte :=
  if pairsAllowed s fn ≤ qp.val then 5
  else if p.sqBase.toNat % 4096 ≠ 0 ∨ p.cqBase.toNat % 4096 ≠ 0 then 2
  else if p.cqSize.toNat < p.sqSize.toNat ∨ p.sqSize = 0 then 4
  else 0

/-! ### Completions -/

/-- A completion of a command. -/
def completion (c : Cmd) (st : Status) (result detail : Nat) : Completion :=
  { result := BitVec.ofNat 64 result, commandId := BitVec.ofNat 16 (sqeField c.sqe 2 2), status := BitVec.ofNat 8 st.code
    detail := BitVec.ofNat 8 detail, sqHead := BitVec.ofNat 16 c.sqHead, segmentEnd := false, notProtected := false, onDemand := false }

/-- A fetched command by its place in the fetch order. -/
def findCmd (s : State) (id : Nat) : Option Cmd := s.port.cmds.find? (fun c => c.id == id)

/-- Take a command out of the list. -/
def dropCmd (id : Nat) (s : State) : State := { s with port.cmds := s.port.cmds.filter (fun c => c.id != id) }

/-- Change a command. -/
def modCmd (id : Nat) (f : Cmd → Cmd) (s : State) : State :=
  { s with port.cmds := s.port.cmds.map (fun c => if c.id = id then f c else c) }

/-- A command ends: its completion waits for its queue (05 R217); CommandsCompleted counts it. -/
def complete (c : Cmd) (x : Completion) (s : State) : State :=
  ((dropCmd c.id s).modPair c.fn c.qp (fun p => { p with waiting := p.waiting ++ [x] })).modTen c.fn
    (fun t => { t with completed := t.completed + 1 })

/-- A command ends with a status. -/
def endCmd (c : Cmd) (st : Status) (result : Nat) (s : State) : State := complete c (completion c st result 0) s

/-- A command ends with INVALID_FIELD and the field's byte offset (05 R224). -/
def endField (c : Cmd) (off : Nat) (s : State) : State := complete c (completion c .invalidField 0 off) s

/-- The pair's completion queue is full: one more entry would reach CQ_HEAD (05 R217). -/
def cqFull (p : Pair) : Bool := (p.cqTail + 1) % cqLen p == p.cqHead

/-- Post the oldest waiting completion (05 R210, R217, R224, R225). -/
def postCompletion (fn : Fin 16) (qp : Fin 4) (s : State) : State :=
  let p := s.pair fn qp
  match p.waiting with
  | [] => s
  | x :: rest =>
    if cqFull p ∨ dmaOpen s fn = false then s
    else
      ((takeTurn fn qp s).modPair fn qp (fun p => { p with
        waiting := rest
        cqTail := (p.cqTail + 1) % cqLen p
        phase := if p.cqTail + 1 = cqLen p then !p.phase else p.phase
        unsignalled := if p.irqEn then p.unsignalled + 1 else p.unsignalled })).send
        (.dma fn (p.cqBase.toNat + 16 * p.cqTail) (completionBytes x qp p.phase))

/-- Raise a pair's vector for its unsignalled completions (05 R220). -/
def signalPair (fn : Fin 16) (qp : Fin 4) (s : State) : State :=
  let p := s.pair fn qp
  if p.irqEn ∧ 0 < p.unsignalled then
    signal fn p.vector.toNat (s.modPair fn qp (fun p => { p with unsignalled := 0 }))
  else s

/-! ### Which command may run -/

/-- A command serves this operation and has this stage. -/
def cmdIs (o : Op) (st : Stage) (c : Cmd) : Bool := opOf c.sqe == some o && c.stage == st

/-- An earlier FENCE holds a command: of its pair with Scope 0, of its tenant with Scope 1 (05 R244, R245). -/
def fencedBy (c f : Cmd) : Bool :=
  opOf f.sqe == some .fence && decide (f.id < c.id) && f.fn == c.fn && ((sqeParam0 f.sqe).testBit 0 || f.qp == c.qp)

/-- Blocks that a command reads or changes, as spans of a tenant's volume: for SEGMENT-READ the segment's header and the blocks its
bytes lie in (05 R251, R253; 14 R808). -/
def spansOf (s : State) (c : Cmd) : List (Fin 16 × BitVec 32 × Nat × Nat) :=
  match opOf c.sqe with
  | some .put | some .get | some .clean | some .drop => [(targetOf c.fn c.sqe, sqeVolume c.sqe, sqeLba c.sqe, sqeLength c.sqe)]
  | some .segmentRead =>
    let vol := segVolume (Fin.ofNat 16 (sqeVolume c.sqe).toNat)
    let base := segLba (sqeLba c.sqe)
    [(s.cache.videoTenant, vol, base, 1), (s.cache.videoTenant, vol, base + sqeParam1 c.sqe / 4096, sqeLength c.sqe / 4096 + 2)]
  | _ => []

/-- Two spans have a block in common. -/
def overlaps (a b : Fin 16 × BitVec 32 × Nat × Nat) : Bool :=
  a.1 == b.1 && a.2.1 == b.2.1 && decide (a.2.2.1 < b.2.2.1 + b.2.2.2) && decide (b.2.2.1 < a.2.2.1 + a.2.2.2)

/-- Two commands touch a block in common (05 R251, R253). -/
def touches (s : State) (a b : Cmd) : Bool := (spansOf s a).any (fun x => (spansOf s b).any (overlaps x))

/-- Operations that act on named blocks. -/
def blockOp (c : Cmd) : Bool :=
  match opOf c.sqe with
  | some .put => true | some .get => true | some .clean => true | some .drop => true | _ => false

/-- No earlier FENCE holds a command, and no earlier one that touches a block of it is under way (05 R244, R245, R251). -/
def unheld (s : State) (c : Cmd) : Bool :=
  s.port.cmds.all (fun d => !fencedBy c d && !(decide (d.id < c.id) && touches s c d))

/-- An earlier PUT waits for its admission check (05 R249; 06 R308). -/
def putWaits (s : State) (c : Cmd) : Bool :=
  s.port.cmds.any (fun d => decide (d.id < c.id) && cmdIs .put .fetched d && dmaOpen s d.fn && unheld s d)

/-- A command may start; PUTs are checked in fetch order (05 R244, R245, R251; 06 R308). -/
def mayStart (s : State) (c : Cmd) : Bool := unheld s c && !(opOf c.sqe == some .put && putWaits s c)

/-- Commands a FENCE waits for (05 R244, R245). -/
def fenceWaits (s : State) (f : Cmd) : Bool :=
  s.port.cmds.any (fun d => decide (d.id < f.id) && d.fn == f.fn && ((sqeParam0 f.sqe).testBit 0 || d.qp == f.qp))

/-- Service of a command in the present state (05 R260; 11 **Command service in WARN**; 02 R111). -/
def serves (s : State) (o : Op) : Bool :=
  match s.life.dev with
  | .restore => true | .serve => true | .boot => true
  | .warn => !(s.outage.drained && (o == .put || o == .segmentRead))
  | _ => false

/-- The checks every command makes before its own: fields, Target, range, state. The status that ends it, or none (05 R226, R227,
R252, R260; log 50). -/
def commonCheck (s : State) (o : Op) (c : Cmd) (elems : List Element) : Option (Status × Nat) :=
  match badField o c.fn c.sqe elems with
  | some off => some (.invalidField, off)
  | none =>
    if sqeTargeted c.sqe ∧ o.fields.target = false then some (.policy, 0)
    else if blockOp c ∧ 2 ^ 48 < sqeLba c.sqe + sqeLength c.sqe then some (.range, 0)
    else if serves s o = false then some (.state, 0)
    else none

/-- A DMA read for a command failed: DATA_ERROR (05 R255, R261). -/
def dmaFault (c : Cmd) (s : State) : State := raiseTenant c.fn 23 [] (endCmd c .dataError 0 s)

/-- The element list of a command could not be read (05 R222, R255; log 50). -/
def listFails (o : Op) (c : Cmd) (elems : Option (List Element)) : Bool := o.fields.data && sqeDataList c.sqe && elems.isNone

/-- Run a command's meaning if it may run now, after its element list has been read and the common checks made. -/
def runCmd (o : Op) (id : Nat) (elems : Option (List Element)) (f : List Element → Cmd → State → State) (s : State) : State :=
  match findCmd s id with
  | none => s
  | some c =>
    if cmdIs o .fetched c = false ∨ mayStart s c = false ∨ dmaOpen s c.fn = false then s
    else if listFails o c elems then dmaFault c s
    else
      match commonCheck s o c (elems.getD []) with
      | some (.invalidField, off) => endField c off s
      | some (st, _) => endCmd c st 0 s
      | none => f (elems.getD []) c s

/-! ### Blocks -/

/-- The blocks of a command. -/
def blocksOf (c : Cmd) : List Nat := (List.range (sqeLength c.sqe)).map (sqeLba c.sqe + ·)

/-- New blocks of a PUT: those not already dirty for the tenant (05 R230). -/
def newBlocks (s : State) (c : Cmd) : Nat :=
  ((blocksOf c).filter (fun b => match slotAt s.cache c.fn (sqeVolume c.sqe) b with | some q => !q.dirty | none => true)).length

/-- Blocks a PUT makes chargeable: not charged yet (06 R301; 02 R93). -/
def chargeBlocks (s : State) (c : Cmd) : Nat :=
  ((blocksOf c).filter (fun b => match slotAt s.cache c.fn (sqeVolume c.sqe) b with
    | some q => !isCharged s.life q | none => true)).length

/-- Blocks of a PUT that need a slot (06 R285). -/
def slotlessBlocks (s : State) (c : Cmd) : Nat :=
  ((blocksOf c).filter (fun b => (slotAt s.cache c.fn (sqeVolume c.sqe) b).isNone)).length

/-- A PUT that is checked before a segment PUT which is made now: it was fetched before the present fetch cycle, or in it by a
function up to the video tenant's (05 R249; 06 R293). -/
def aheadOfSegment (s : State) (c : Cmd) : Bool :=
  cmdIs .put .fetched c && dmaOpen s c.fn && unheld s c && effPolicy s c.fn == 0 &&
  (decide (c.id < s.port.cycleFrom) || decide (c.fn.val ≤ s.cache.videoTenant.val))

/-- The charge as it stands at the place of a segment PUT in the fetch order: the PUTs ahead of it that will be admitted are counted
(06 R293, R308). -/
def earlierPuts (s : State) : State :=
  (s.port.cmds.filter (aheadOfSegment s)).foldl (fun t c =>
    if newBlocks s c ≤ headroom t c.fn then t.modTen c.fn (fun x => { x with reserved := x.reserved + chargeBlocks s c }) else t) s

/-- Slots in a span of a volume. -/
def slotsIn (s : State) (n : Fin 16) (vol : BitVec 32) (lba len : Nat) : List (Nat × Slot) :=
  match handleOf s.cache n vol with
  | none => []
  | some h => s.cache.slots.filter (fun q => q.2.tenant == n && q.2.handle == h && decide (lba ≤ q.2.lba) && decide (q.2.lba < lba + len))

/-- PUTs whose data is on its way. -/
def putsMoving (s : State) : List Cmd := s.port.cmds.filter (cmdIs .put .transferring)

/-- Slots taken for PUTs whose data is on its way (06 R285). -/
def slotsHeld (s : State) : Nat := (putsMoving s).foldl (fun a c => a + c.slots) 0

/-- Slots that PUTs under way write: they are not taken for another (06 R285). -/
def slotsWritten (s : State) : List Nat :=
  (putsMoving s).flatMap (fun c => (slotsIn s c.fn (sqeVolume c.sqe) (sqeLba c.sqe) (sqeLength c.sqe)).map (·.1))

/-- Take slots for `need` blocks of a span of a tenant's volume: free ones, then clean ones (06 R285); none if they cannot be had
(06 R286). -/
def takeSlots (s : State) (n : Fin 16) (vol : BitVec 32) (lba len need : Nat) : Option State :=
  evictClean n ((slotsIn s n vol lba len).map (·.1) ++ slotsWritten s) (need + slotsHeld s + s.cache.slots.length - s.cache.usable) s

/-- Volumes without a handle that PUTs under way name (06 R283). -/
def handlesHeld (s : State) : List (Fin 16 × BitVec 32) :=
  (((putsMoving s).map (fun c => (c.fn, sqeVolume c.sqe))).filter (fun v => (handleOf s.cache v.1 v.2).isNone)).eraseDups

/-- No handle can be allocated for a volume of a tenant (06 R283, R284). -/
def noHandle (s : State) (n : Fin 16) (vol : BitVec 32) : Bool :=
  (handleOf s.cache n vol).isNone && !(handlesHeld s).contains (n, vol) &&
  decide (4096 ≤ s.cache.handles.length + (handlesHeld s).length)

/-- The period of E_g publications in the present state, µs (01 **Loop timing**). -/
def publishPeriod (d : DevState) : Nat :=
  match d with
  | .warn => 10000 | .simmer => 10000 | .sinter => 10000
  | _ => 100000

/-- `2410h:07 NextRecompute`, µs (06 R309). -/
def nextRecompute (s : State) : Nat :=
  match s.adm.pubAt with
  | some t => (t + publishPeriod s.life.dev) - s.time.now
  | none => 0

/-- A PUT of a tenant with some new blocks is refused by admission (05 R257; 06 R310). -/
def noteThrottle (n : Fin 16) (new : Nat) (s : State) : State :=
  let first := !(s.ten n).lastThrottled
  let s1 := s.modTen n (fun t => { t with throttled := t.throttled + 1, lastThrottled := true })
  let s2 := raiseIf first s1 (tenantEv n.val 0) .control []
  if new ≤ unusedOf s n then stageRefresh (stopBorrowing s2) else s2

/-- A PUT command is refused by admission (05 R257; 06 R309, R310). -/
def throttlePut (c : Cmd) (s : State) : State :=
  endCmd c .throttled (headroom s c.fn * 2 ^ 32 + nextRecompute s) (noteThrottle c.fn (newBlocks s c) s)

/-- Write one block of a PUT into its slot, or into one taken for it where the tenant holds none or the block is not restored yet
(05 R228, R229; 06 R285, R289, R290, R326, R327; 02 R91). -/
def writeBlock (n : Fin 16) (vol : BitVec 32) (seq : Nat) (dirty recording : Bool) (p : Nat × Block) (s : State) : State :=
  match withHandle s.cache n vol with
  | none => s
  | some hx =>
    let s1 := match slotNo s.cache n vol p.1 with
      | some k => if (match mapFind s.cache.slots k with | some q => q.unrestored | none => false)
          then { s with cache := { hx.2 with slots := mapErase hx.2.slots k } } else { s with cache := hx.2 }
      | none => { s with cache := hx.2 }
    let k := match slotNo s1.cache n vol p.1 with | some k => some k | none => mapFree s1.cache.slots s1.cache.usable 0
    match k with
    | none => s
    | some k =>
      let s2 := if dirty then s1 else noteRemoval n vol p.1 s1
      { s2 with
          cache := freeHandles { s2.cache with
          stamp := s2.cache.stamp + 1
          slots := mapSet s2.cache.slots k
            { lba := p.1, handle := hx.1, tenant := n, seq := seq, dirty := dirty, frozen := false, copyValid := false,
              unrestored := false, fromImage := false, recording := recording, lost := false, data := p.2,
              used := s2.cache.stamp, copy := none } } }

/-- A tenant's key is created and written at its first PUT with encryption on (12 R699, R702). -/
def ensureKey (n : Fin 16) (s : State) : State :=
  if s.cfg 0x2020 6 = 1 ∧ (s.ten n).hasKey = false then writeKeys (s.modTen n (fun t => { t with hasKey := true })) else s

/-- Write all blocks of a PUT under the next write sequence (05 R228, R234). -/
def applyBlocks (n : Fin 16) (vol : BitVec 32) (lba : Nat) (dirty recording : Bool) (bs : List Block) (s : State) : State :=
  let seq := (s.ten n).writeSeq + 1
  let s1 := ensureKey n (s.modTen n (fun t => { t with writeSeq := seq }))
  (bs.zipIdx.map (fun p => (lba + p.2, p.1))).foldl (fun t p => writeBlock n vol seq dirty recording p t) s1

/-- The same for a PUT, with pre-sinter told of the new dirty slots (11 R600). -/
def applyPut (n : Fin 16) (vol : BitVec 32) (lba : Nat) (dirty recording : Bool) (bs : List Block) (s : State) : State :=
  let t := applyBlocks n vol lba dirty recording bs s
  if t.flash.preSinter ∧ t.flash.copying.isEmpty then nextPreSinter t else t

/-- A block is marked used now (06 R285). -/
def touchSlot (k : Nat) (s : State) : State :=
  { s with
      cache := { s.cache with
      stamp := s.cache.stamp + 1
      slots := mapVals (fun i q => if i = k then { q with used := s.cache.stamp } else q) s.cache.slots } }

/-- A slot becomes clean: it leaves the charge and its copy's page is stale (05 R237; 06 R301, R327; 12 R665). A slot whose data is
not in DRAM leaves the cache (05 R264). -/
def cleanSlot (k : Nat) (s : State) : State :=
  match mapFind s.cache.slots k with
  | none => s
  | some q =>
    let s1 := noteRemoval q.tenant (volumeOf s.cache q.handle) q.lba s
    if q.unrestored ∨ q.lost then { s1 with cache := eraseSlot s1.cache k }
    else { s1 with cache.slots := mapSet s1.cache.slots k { q with dirty := false, copyValid := false, fromImage := false, copy := none } }

/-- A slot is dropped (05 R238, R264; 12 R665). -/
def dropSlot (k : Nat) (s : State) : State :=
  match mapFind s.cache.slots k with
  | none => s
  | some q => { noteRemoval q.tenant (volumeOf s.cache q.handle) q.lba s with cache := eraseSlot s.cache k }

/-! ### LIST -/

/-- A dirty extent (05 R239). -/
structure Extent where
  lba : Nat
  volume : BitVec 32
  len : Nat
  unrestored : Bool
  fromImage : Bool
  deriving DecidableEq, Repr

/-- Insert by volume, then LBA. -/
def insertExtent (e : Extent) : List Extent → List Extent
  | [] => [e]
  | x :: rest =>
    if e.volume.toNat < x.volume.toNat ∨ (e.volume = x.volume ∧ e.lba < x.lba) then e :: x :: rest
    else x :: insertExtent e rest

/-- Merge consecutive blocks of one volume with the same flags (05 R240). -/
def mergeExtents : List Extent → List Extent
  | [] => []
  | x :: rest =>
    match mergeExtents rest with
    | [] => [x]
    | y :: ys =>
      if x.volume = y.volume ∧ x.lba + x.len = y.lba ∧ x.unrestored = y.unrestored ∧ x.fromImage = y.fromImage ∧
          x.len + y.len < 2 ^ 24 then { x with len := x.len + y.len } :: ys
      else x :: y :: ys

/-- The cursor of a place in a walk: one above the place of its next block, whose volume the tenant's list of cursor volumes names
(05 R241; the code is not given, log 52). -/
def cursorOf (place lba : Nat) : Nat := place * 2 ^ 48 + lba + 1

/-- The volume and LBA a cursor resumes at. -/
def cursorAt (s : State) (n : Fin 16) (cursor : Nat) : BitVec 32 × Nat :=
  if cursor = 0 then (0, 0) else ((s.ten n).listVolumes.getD ((cursor - 1) / 2 ^ 48) 0, (cursor - 1) % 2 ^ 48)

/-- A volume enters the list of cursor volumes; its place there. -/
def noteVolume (n : Fin 16) (vol : BitVec 32) (s : State) : Nat × State :=
  let l := (s.ten n).listVolumes
  if l.contains vol then (l.idxOf vol, s) else (l.length, s.modTen n (fun t => { t with listVolumes := l ++ [vol] }))

/-- The dirty extents of a tenant from a cursor on (05 R239 to R241; 02 R89). -/
def extentsFrom (s : State) (n : Fin 16) (filter : BitVec 32) (cursor : Nat) : List Extent :=
  let from_ := cursorAt s n cursor
  let pick := s.cache.slots.filter (fun q => q.2.tenant == n && q.2.dirty &&
    (filter == 0xFFFFFFFF#32 || volumeOf s.cache q.2.handle == filter))
  let blocks : List Extent := pick.map (fun q => ⟨q.2.lba, volumeOf s.cache q.2.handle, 1, q.2.unrestored, q.2.fromImage⟩)
  let sorted := blocks.foldl (fun l e => insertExtent e l) []
  mergeExtents (sorted.filter (fun e => decide (from_.1.toNat < e.volume.toNat) || (e.volume == from_.1 && decide (from_.2 ≤ e.lba))))

/-- The 16 bytes of an extent record (05 R239). -/
def extentBytes (e : Extent) : List Byte :=
  leBytes 8 e.lba ++ leBytes 4 e.volume.toNat ++ leBytes 4 (e.len + bitIf e.unrestored 24 + bitIf e.fromImage 25)

/-! ### Function resets -/

/-- A function's pairs return to reset and its fetched commands are discarded without completion (05 R265, R266). -/
def resetQueues (fn : Fin 16) (s : State) : State :=
  let charged := (s.port.cmds.filter (fun c => c.fn == fn)).foldl (fun a c => a + c.charged) 0
  stageRefresh (({ s with port.cmds := s.port.cmds.filter (fun c => c.fn != fn) }.modFn fn (fun f => { f with
    pairs := Vector.replicate 4 Pair.reset, msix := List.replicate 32 0, pba := 0 })).modTen fn
    (fun t => { t with reserved := t.reserved - charged }))

/-- The tenant's slots freeze (05 R267). -/
def freezeSlots (n : Fin 16) (s : State) : State :=
  { s.modTen n (fun t => { t with frozen := true }) with
    cache.slots := mapVals (fun _ q => if q.tenant = n then { q with frozen := true } else q) s.cache.slots }

/-- Frozen slots thaw (05 R269; 06 R333). -/
def thawSlots (n : Fin 16) (s : State) : State :=
  if (s.ten n).frozen then
    raiseTenant n 22 [] { s.modTen n (fun t => { t with frozen := false, thawed := true }) with
      cache.slots := mapVals (fun _ q => if q.tenant = n then { q with frozen := false } else q) s.cache.slots }
  else s

/-- The event ring of a function after an FLR (15 R849). -/
def resetRing (n : Fin 16) (s : State) : State :=
  { s with ev.ring := vset s.ev.ring n { s.ev.ring[n] with producer := 0, consumer := 0, entries := 0, phase := true, due := false } }

end Sys2Proof.Machine
end

