-- ==== Sys2Proof/Machine/VideoOps.lean ====
section
/-! DEFINITION. Streams, encoder channels, budgets and recording segments: what the capture and coding commands share (13, 14). -/

namespace Sys2Proof.Machine

/-! ### Configuration -/

/-- An entry of stream n (00 R11). -/
def State.sc (s : State) (n : Fin 16) (base sub : Nat) : Nat := s.cfg (blockIndex base n.val) sub

def strOf (s : State) (n : Fin 16) : Stream := s.video.stream[n]
def encOf (s : State) (n : Fin 16) : Encoder := s.video.enc[n]
def recOf (s : State) (n : Fin 16) : Recorder := s.video.recorder[n]
def portOf (s : State) (p : Fin 4) : CsiPort := s.video.port[p]

/-- The port of a stream (13 R709). -/
def portNo (s : State) (n : Fin 16) : Fin 4 := Fin.ofNat 4 (s.sc n 0x4000 0x0F)

/-- EncodeClass: 0 off, 1 live, 2 recording. -/
def classOf (s : State) (n : Fin 16) : Nat := s.sc n 0x4040 1

/-- Encoded width and height (14 R769). -/
def encWidth (s : State) (n : Fin 16) : Nat := if s.sc n 0x4040 7 = 1 then s.sc n 0x4000 2 / 2 else s.sc n 0x4000 2
def encHeight (s : State) (n : Fin 16) : Nat := if s.sc n 0x4040 7 = 1 then s.sc n 0x4000 3 / 2 else s.sc n 0x4000 3

/-- The group of a stream, none for a solo stream (13 R740). -/
def groupOf (s : State) (n : Fin 16) : Option (Fin 4) :=
  if h : s.sc n 0x4000 8 < 4 then some ⟨s.sc n 0x4000 8, h⟩ else none

/-- GroupPeriod, Tolerance and UnderrunLimit of a group (13 **Capture entries**). -/
def groupPeriod (s : State) (g : Fin 4) : Nat := s.cfg (0x2A20 + g.val) 1
def groupTolerance (s : State) (g : Fin 4) : Nat := s.cfg (0x2A20 + g.val) 2
def underrunLimit (s : State) (g : Fin 4) : Nat := s.cfg (0x2A20 + g.val) 3

/-- Frame rate in frames per second (14 R780). -/
def frameRate (s : State) (n : Fin 16) : Rat :=
  match groupOf s n with
  | some g => 1000000 / (groupPeriod s g : Rat)
  | none => (s.sc n 0x4040 0x0D : Rat) / 100

/-! ### Levels (14 R768) -/

/-- A line of the table **Levels**: frame size and sample rate in macroblocks (H.264) or luma samples (H.265), kbit/s and kbit. -/
structure LevelRow where
  codec : Nat
  idc : Nat
  frame : Nat
  rate : Nat
  bitrate : Nat
  cpb : Nat
  deriving DecidableEq, Repr

/-- The levels in rising order. Those below 3.1 are the ones of the two standards that the rule names (log 21). -/
def levelRows : List LevelRow :=
  [ ⟨0, 10, 99, 1485, 64, 175⟩, ⟨0, 11, 396, 3000, 192, 500⟩, ⟨0, 12, 396, 6000, 384, 1000⟩, ⟨0, 13, 396, 11880, 768, 2000⟩,
    ⟨0, 20, 396, 11880, 2000, 2000⟩, ⟨0, 21, 792, 19800, 4000, 4000⟩, ⟨0, 22, 1620, 20250, 4000, 4000⟩,
    ⟨0, 30, 1620, 40500, 10000, 10000⟩, ⟨0, 31, 3600, 108000, 14000, 14000⟩, ⟨0, 32, 5120, 216000, 20000, 20000⟩,
    ⟨0, 40, 8192, 245760, 20000, 25000⟩, ⟨0, 41, 8192, 245760, 50000, 62500⟩, ⟨0, 42, 8704, 522240, 50000, 62500⟩ ] ++
  [ ⟨1, 30, 36864, 552960, 128, 350⟩, ⟨1, 60, 122880, 3686400, 1500, 1500⟩, ⟨1, 63, 245760, 7372800, 3000, 3000⟩,
    ⟨1, 90, 552960, 16588800, 6000, 6000⟩, ⟨1, 93, 983040, 33177600, 10000, 10000⟩, ⟨1, 120, 2228224, 66846720, 12000, 12000⟩,
    ⟨1, 123, 2228224, 133693440, 20000, 20000⟩ ]

/-- Frame size in the unit of the table: macroblocks or luma samples. -/
def frameSize (s : State) (n : Fin 16) : Nat :=
  if s.sc n 0x4040 2 = 0 then ((encWidth s n + 15) / 16) * ((encHeight s n + 15) / 16) else encWidth s n * encHeight s n

/-- The drain rate of the rate mode: TargetBitrate, MaxBitrate, or none (14 **Rate modes**). -/
def drainRate (s : State) (n : Fin 16) : Nat :=
  if s.sc n 0x4040 5 = 0 then s.sc n 0x4040 6 else if s.sc n 0x4040 5 = 1 then s.sc n 0x4041 5 else 0

/-- The buffer size, kbit: VbvSize, or one second of the drain rate (14 R792). -/
def vbvSize (s : State) (n : Fin 16) : Nat := if s.sc n 0x4041 6 = 0 then drainRate s n else s.sc n 0x4041 6

/-- Limits of a level for a stream; High multiplies bitrate and buffer by 1.25. -/
def limitOf (s : State) (n : Fin 16) (v : Nat) : Nat := if s.sc n 0x4040 2 = 0 ∧ s.sc n 0x4040 3 = 2 then v * 5 / 4 else v

/-- The codec and profile go together: H.265 has profile 1 only (14 **Video entries**). -/
def profileOk (s : State) (n : Fin 16) : Bool := s.sc n 0x4040 2 == 0 || s.sc n 0x4040 3 == 1

/-- A stream's configuration fits a level. -/
def levelFits (s : State) (n : Fin 16) (l : LevelRow) : Bool :=
  l.codec == s.sc n 0x4040 2 && profileOk s n && decide (frameSize s n ≤ l.frame) &&
  decide ((frameSize s n : Rat) * frameRate s n ≤ (l.rate : Rat)) &&
  decide (drainRate s n ≤ limitOf s n l.bitrate) && decide (vbvSize s n ≤ limitOf s n l.cpb)

/-- The level of a stream's configuration, none if it fits no level (14 R768). -/
def levelOf (s : State) (n : Fin 16) : Option LevelRow :=
  levelRows.find? (fun l => levelFits s n l && (s.sc n 0x4040 4 == 0 || s.sc n 0x4040 4 == l.idc))

/-! ### Budgets (14 R779 to R783) -/

/-- Weighted pixels a second of a stream. -/
def pixelsOf (s : State) (n : Fin 16) : Rat :=
  (if s.sc n 0x4040 2 = 0 then 1 else 3 / 2) * ((encWidth s n * encHeight s n : Nat) : Rat) * frameRate s n

/-- B_e of a stream, kbit/s. -/
def bitsOf (s : State) (n : Fin 16) : Nat :=
  if s.sc n 0x4040 5 = 2 then (match levelOf s n with | some l => limitOf s n l.bitrate | none => 0) else drainRate s n

/-- A decode session is open. -/
def decOpen (s : State) (d : Fin 2) : Bool := s.video.dec[d].state == 1 || s.video.dec[d].state == 2

/-- The pixel budget in ‰ of some streams and sessions (14 R779). -/
def pixelBudget (s : State) (p : Fin 16 → Bool) (q : Fin 2 → Bool) : Nat :=
  let e : Rat := (List.finRange 16).foldl (fun a n => if p n then a + pixelsOf s n else a) 0
  let d : Nat := (List.finRange 2).foldl (fun a k => if q k then a + s.cfg (0x2A40 + k.val) 0x0E * 1000 else a) 0
  ((e + (d : Rat)) * 1000 / 1040000000).ceil.toNat

/-- The entropy budget in ‰ of some streams and sessions (14 R781). -/
def entropyBudget (s : State) (p : Fin 16 → Bool) (q : Fin 2 → Bool) : Nat :=
  let e : Nat := (List.finRange 16).foldl (fun a n => if p n then a + bitsOf s n else a) 0
  let d : Nat := (List.finRange 2).foldl (fun a k => if q k then a + s.cfg (0x2A40 + k.val) 0x0D else a) 0
  (((e : Rat) / 320000 + (d : Rat) / 120000) * 1000).ceil.toNat

/-- Bytes of a stream's layer buffers. -/
def layerBytes (x : Stream) : Nat :=
  x.layers.toList.foldl (fun a l => a + (l.current.getD []).length + (l.next.getD []).length) 0

/-- Pool demand of a stream, bytes (14 R782). -/
def poolOf (s : State) (n : Fin 16) : Nat :=
  let fin := s.sc n 0x4000 2 * s.sc n 0x4000 3 * 3 / 2
  let fenc := encWidth s n * encHeight s n * 3 / 2
  3 * fin + (if s.sc n 0x4041 8 = 0 then 2 else 3) * fenc + fenc / 4 + layerBytes (strOf s n)

/-- The pool demand of some streams, bytes. -/
def poolDemand (s : State) (p : Fin 16 → Bool) : Nat := (List.finRange 16).foldl (fun a n => if p n then a + poolOf s n else a) 0

/-- Streams that the budgets count: EncodeClass not 0. -/
def encodes (s : State) (n : Fin 16) : Bool := classOf s n != 0

/-- A budget or the pool is exceeded (14 R783). -/
def budgetOver (s : State) (p : Fin 16 → Bool) (q : Fin 2 → Bool) : Bool :=
  decide (1000 < pixelBudget s p q) || decide (1000 < entropyBudget s p q) || decide (392 * 1048576 < poolDemand s p)

/-! ### Recording segments -/

/-- The number of the next segment: one above the highest in the video tenant's directory (14 R807). -/
def nextSegment (s : State) (n : Fin 16) : Nat :=
  match handleOf s.cache s.cache.videoTenant (segVolume n) with
  | none => 1
  | some h => s.cache.slots.foldl (fun a q =>
      if q.2.tenant = s.cache.videoTenant ∧ q.2.handle = h then max a (q.2.lba / 16384 + 1) else a) 1

/-- Blocks of a span that are not dirty for the video tenant yet (05 R230), and those without a slot. -/
def newIn (s : State) (n : Fin 16) (lba len : Nat) : Nat :=
  ((List.range len).filter (fun i => match slotAt s.cache s.cache.videoTenant (segVolume n) (lba + i) with
    | some q => !q.dirty | none => true)).length

def slotlessIn (s : State) (n : Fin 16) (lba len : Nat) : Nat :=
  ((List.range len).filter (fun i => (slotAt s.cache s.cache.videoTenant (segVolume n) (lba + i)).isNone)).length

/-- A segment PUT of the video tenant, checked at the place of its function in the fetch order (06 R293, R307; 14 R813): the cause
that refuses it, and the state after it. -/
def segPut (n : Fin 16) (lba : Nat) (bs : List Block) (s : State) : Option Cause × State :=
  let v := s.cache.videoTenant
  if effPolicy s v ≠ 0 then (some .pauseNotProtected, s)
  else if (s.ten v).frozen ∨ headroom (earlierPuts s) v < newIn s n lba bs.length then (some .pauseThrottled, noteThrottle v (newIn s n lba bs.length) s)
  else if noHandle s v (segVolume n) then (some .pauseNoSpace, raiseTenant v 6 [] s)
  else
    match takeSlots s v (segVolume n) lba bs.length (slotlessIn s n lba bs.length) with
    | none => (some .pauseNoSpace, raiseTenant v 4 [] s)
    | some t => (none, applyPut v (segVolume n) lba true true bs (t.modTen v (fun x => { x with lastThrottled := false })))

/-- The header block of a segment, without its checksum's padding (14 **Segment header**). -/
def headerBytes (n : Fin 16) (g : Segment) (flags frames last len : Nat) : List Byte :=
  let body :=
    leBytes 4 0x53515449 ++ leBytes 1 1 ++ leBytes 1 n.val ++ leBytes 1 g.codec ++ leBytes 1 g.profile ++ leBytes 1 g.level ++
    leBytes 1 flags ++ leBytes 2 g.width ++ leBytes 2 g.height ++ leBytes 2 0 ++ leBytes 4 g.number ++ leBytes 4 frames ++
    leBytes 8 g.firstTime ++ leBytes 8 last ++ leBytes 4 g.wallSeconds ++ leBytes 4 len ++ leBytes 4 g.bootCount ++
    List.replicate 4040 0
  body ++ leBytes 4 (crc32 body).toNat

/-- PUT the header block. -/
def putHeader (n : Fin 16) (g : Segment) (flags : Nat) (s : State) : Option Cause × State :=
  let closed := flags.testBit 0
  segPut n (segLba g.number) [blockOf (headerBytes n g (flags + bitIf g.hasInserted 1) (if closed then g.framesPut else 0)
    (if closed then g.lastPut else g.firstTime) (if closed then g.ended else 0))] s

def setSeg (n : Fin 16) (g : Option Segment) (s : State) : State := s.modRec n (fun r => { r with seg := g })

/-- PUT what is staged, with its partial last block rewritten by the next PUT (14 R810). -/
def flushSegment (n : Fin 16) (s : State) : Option Cause × State :=
  match (recOf s n).seg with
  | none => (none, s)
  | some g =>
    if g.staged.isEmpty then (none, s)
    else
      let half := g.put - g.tail.length
      let whole := g.tail.length / 4096
      let r := segPut n (segLba g.number + 1 + half / 4096 + whole) (toBlocks ((g.tail ++ g.staged).drop (4096 * whole))) s
      match r.1 with
      | some c => (some c, r.2)
      | none => (none, setSeg n (some { g with
          put := g.put + g.staged.length, tail := g.tail ++ g.staged, staged := [], ended := g.put + g.staged.length,
          framesPut := g.frames, lastPut := g.lastTime }) r.2)

/-- PUT each half that has filled, as 64 blocks (14 R810). `base` is the end of the record before the one just staged, with its
frames and timestamp. -/
def putHalves (n : Fin 16) (base frames last : Nat) : Nat → State → Option Cause × State
  | 0, s => (none, s)
  | fuel + 1, s =>
    match (recOf s n).seg with
    | none => (none, s)
    | some g =>
      if (g.tail ++ g.staged).length < 262144 then (none, s)
      else
        let half := g.put - g.tail.length
        let r := segPut n (segLba g.number + 1 + half / 4096) (toBlocks ((g.tail ++ g.staged).take 262144)) s
        match r.1 with
        | some c => (some c, r.2)
        | none =>
          let all := g.tail ++ g.staged
          let whole := all.length = 262144
          putHalves n base frames last fuel (setSeg n (some { g with
            put := half + 262144, tail := [], staged := all.drop 262144
            ended := if whole then half + 262144 else base
            framesPut := if whole then g.frames else frames
            lastPut := if whole then g.lastTime else last }) r.2)

/-- The segment ends: its header is PUT again and SegmentClosed raised (14 R809, R811). -/
def sealSegment (n : Fin 16) (why : Cause) (flags : Nat) (s : State) : State :=
  match (recOf s n).seg with
  | none => s
  | some g =>
    let t := (putHeader n g (1 + flags) s).2
    raise (t.modRec n (fun r => { r with seg := none, ends := mapSet r.ends g.number (4096 + g.ended) })) (streamEv n.val 22) .entropy
      [(1, (Config.causeCode why).toNat)]

/-- Recording pauses: the segment is closed at its last whole record PUT and what is staged is discarded (14 R813; 11 R615). -/
def pauseRecording (n : Fin 16) (why : Cause) (s : State) : State :=
  if (recOf s n).paused then s
  else
    let s1 := sealSegment n .closePause 8 s
    let s2 := raise ((s1.modRec n (fun r => { r with paused := true })).modEnc n (fun e => { e with state := .paused }))
      (streamEv n.val 23) .entropy []
    raiseIf (s.life.dev == .simmer) s2 462 .control [(1, n.val), (1, (Config.causeCode why).toNat)]

/-- Close the open segment of a stream for a cause (14 R811). A refused PUT of what is staged pauses recording instead. -/
def closeSegment (n : Fin 16) (why : Cause) (flags : Nat) (s : State) : State :=
  match (recOf s n).seg with
  | none => s
  | some _ =>
    let r := flushSegment n s
    match r.1 with
    | some c => pauseRecording n c r.2
    | none => sealSegment n why flags r.2

/-- Close the open segments of every stream that satisfies a test. -/
def closeSegments (p : Fin 16 → Bool) (why : Cause) (flags : Nat) (s : State) : State :=
  forAll 16 (fun t n => if p n then closeSegment n why flags t else t) s

/-- Open a segment at an IDR frame: its header block is PUT first (14 R807 to R809). -/
def openSegment (n : Fin 16) (md : Meta) (s : State) : State :=
  let g : Segment :=
    { number := nextSegment s n, codec := s.sc n 0x4040 2, profile := s.sc n 0x4040 3, level := (encOf s n).level
      width := encWidth s n, height := encHeight s n, hasInserted := false, frames := 0, firstTime := md.time
      lastTime := md.time, wallSeconds := md.wallSeconds, bootCount := s.life.bootCount, put := 0, staged := [], tail := []
      ended := 0, framesPut := 0, lastPut := md.time, openedAt := s.time.now }
  let r := putHeader n g 0 s
  match r.1 with
  | some c => pauseRecording n c r.2
  | none => raise (r.2.modRec n (fun x => { x with seg := some g, current := g.number, ends := mapErase x.ends g.number }))
      (streamEv n.val 21) .entropy []

/-- The bytes of an access-unit record (14 **Access-unit record**). -/
def recordBytes (c : Coded) (qp : Byte) (nal : List Byte) : List Byte :=
  let pad := (4 - nal.length % 4) % 4
  leBytes 4 (48 + nal.length + pad) ++ leBytes 1 (if c.md.inserted then 2 else if c.idr then 0 else 1) ++ leBytes 1 qp.toNat ++
  leBytes 2 0 ++ leBytes 4 nal.length ++ leBytes 4 0 ++ metaBytes c.md ++ nal ++ List.replicate pad 0

/-- A record joins the open segment; filled halves are PUT (14 R810, R813). -/
def appendRecord (n : Fin 16) (md : Meta) (bytes : List Byte) (s : State) : State :=
  match (recOf s n).seg with
  | none => s
  | some g =>
    let t := setSeg n (some { g with
      staged := g.staged ++ bytes, frames := g.frames + 1, lastTime := md.time, hasInserted := g.hasInserted || md.inserted }) s
    let r := putHalves n (g.put + g.staged.length) g.frames g.lastTime (bytes.length / 262144 + 2) t
    match r.1 with
    | some c => pauseRecording n c r.2
    | none => r.2

/-! ### Encoders -/

/-- An IDR frame falls due for a cause (14 R795); an earlier cause that waits stays. -/
def dueIdr (n : Fin 16) (c : Cause) (s : State) : State :=
  s.modEnc n (fun e => { e with idrCause := match e.idrCause with | some x => some x | none => some c })

/-- A frame whose coding has started is gone from its buffer when its encoder stops or restarts. -/
def dropStarted (n : Fin 16) (s : State) : State :=
  s.modStream n (fun x => { x with queue := x.queue.filter (fun f => !f.started) })

/-- Encoding of a stream stops (EV-(1152 + 32n + 17)). -/
def stopEncode (n : Fin 16) (why close : Cause) (flags : Nat) (dest : EncRun) (s : State) : State :=
  let was := (encOf s n).state
  let s1 := (dropStarted n (closeSegment n close flags s)).modEnc n (fun e => { e with
    state := dest, coding := [], idrCause := none, shortRef := none, longRef := none, ltr := false, ltrAge := 0, ltrWhole := false, extraQp := 0, vbv := 0
    sinceIdr := 0, slice := 0, overflow := false, nextLtr := false, whole := true })
  let s2 := s1.modRec n (fun r => { r with paused := false })
  raiseIf (was == .encoding || was == .paused) s2 (streamEv n.val 17) .pixel [(1, (Config.causeCode why).toNat)]

/-- VideoMode allows encoding (03 **Mode dimensions**). -/
def videoOn (s : State) : Bool := s.cfg 0x2020 5 != 0

/-- Admit one stream beside those already admitted (14 R768, R784). -/
def admitStream (ok : Fin 16 → Bool) (n : Fin 16) (s : State) : State :=
  if classOf s n = 0 ∨ videoOn s = false then s.modEnc n (fun e => { e with state := .off })
  else
    match levelOf s n with
    | none => raise (s.modEnc n (fun e => { e with state := .refused })) (streamEv n.val 26) .pixel []
    | some l =>
      if budgetOver s (fun m => m == n || ok m) (decOpen s) then
        raise (s.modEnc n (fun e => { e with state := .refused })) (streamEv n.val 26) .pixel []
      else raise (s.modEnc n (fun e => { e with state := .waiting, level := l.idc })) (streamEv n.val 25) .pixel [(1, l.idc)]

/-- A stream that is admitted: neither off nor refused. -/
def admitted (s : State) (n : Fin 16) : Bool := (encOf s n).state != .off && (encOf s n).state != .refused

/-- Admit the streams in rising number (14 R784); a stream that already encodes keeps its state. -/
def admitStreams (s : State) : State :=
  forAll 16 (fun t n =>
    if (encOf t n).state = .encoding ∨ (encOf t n).state = .paused then t
    else admitStream (fun m => decide (m.val < n.val) && admitted t m) n t) s

/-! ### Streams -/

/-- A recording-class stream that is to record in SIMMER (11 R612): by its bit and its class. -/
def outageStream (s : State) (n : Fin 16) : Bool :=
  s.mode.outageInForce == 2 && (s.cfg 0x2820 1).testBit n.val && classOf s n == 2

/-- Working states in which everything but the video notes of **Islands by state** runs (01 R20). -/
def fullState (d : DevState) : Bool :=
  match d with
  | .restore => true | .serve => true | .warn => true | _ => false

/-- The device state lets a stream capture (01 R20; 11 R612), and DRAM has a video working area (06 R280; log 96). -/
def captureState (s : State) (n : Fin 16) : Bool :=
  s.mode.videoAtBoot != 0 && (fullState s.life.dev || (s.life.dev == .simmer && outageStream s n))

/-- A stream captures (13 R720): it is enabled and its port's island is marked in the device state. A port whose clock lane has
stopped delivers nothing, and the stream stays as it is (01 R19; 13 R716, R743). -/
def captures (s : State) (n : Fin 16) : Bool := s.sc n 0x4000 1 == 1 && captureState s n

/-- A group without a running member forgets its start (13 R740). -/
def groupsRefresh (s : State) : State :=
  let live := fun (g : Fin 4) => (List.finRange 16).any (fun n => groupOf s n == some g &&
    ((strOf s n).state == .running || (strOf s n).state == .suspended))
  { s with video.group := vmapIdx (fun g x => if live g then x else { x with start := none }) s.video.group }

/-- The first tick whose time plus Tolerance is not earlier than now (13 R741). -/
def firstTick (s : State) (g : Fin 4) (t0 : Nat) : Nat :=
  let late := s.time.timeBase - (t0 + groupTolerance s g)
  (late + groupPeriod s g - 1) / groupPeriod s g

/-- A stream that moved to another group takes the next tick of that group (13 R740, R741). -/
def regroup (before : State) (n : Fin 16) (s : State) : State :=
  if before.sc n 0x4000 8 = s.sc n 0x4000 8 then s
  else
    let t := groupsRefresh s
    match groupOf t n with
    | none => t
    | some g => match t.video.group[g].start with
      | some t0 => t.modStream n (fun x => { x with nextTick := firstTick t g t0 })
      | none => t

/-- What a stopped stream keeps of its exposure sets: the highest one sent has taken effect before the next frame (13 R734; log 135). -/
def carriedEffects (l : List Effect) : List Effect :=
  (l.foldl (fun (a : Option Effect) e => match a with | some b => if b.id < e.id then some e else some b | none => some e)
    none).toList.map (fun e => { e with frame := 0 })

/-- A stream stops: what is pending and buffered is discarded (13 R736, R748). -/
def stopStream (n : Fin 16) (why close : Cause) (flags : Nat) (dest : StreamRun) (s : State) : State :=
  let was := (strOf s n).state
  if was = .off ∨ was = .stopped then s.modStream n (fun x => { x with state := dest })
  else
    let enc : EncRun := if admitted s n then .waiting else (encOf s n).state
    let s1 := stopEncode n why close flags enc s
    let s2 := s1.modStream n (fun x => { x with
      state := dest, cur := none, queue := [], pendingSets := [], effects := carriedEffects x.effects, blankings := [], endAt := none
      surplus := false, underrun := 0, startAt := none })
    groupsRefresh (raise s2 (streamEv n.val 1) (.capture) [(1, (Config.causeCode why).toNat)])

/-- A stream that is enabled starts to wait for its first frame (13 R720). -/
def startStream (n : Fin 16) (s : State) : State :=
  let st := (strOf s n).state
  if captures s n then
    (if st = .off ∨ st = .stopped then
      s.modStream n (fun x => { x with state := .waiting, format := 0, number := 0, nextTick := 0 }) else s)
  else if s.sc n 0x4000 1 = 1 then stopStream n .streamState .closeStop 0 .stopped s
  else stopStream n .streamDisabled .closeStop 0 .off s

/-- The streams follow their islands and enables. -/
def streamsRefresh (s : State) : State := forAll 16 (fun t n => startStream n t) s

/-- Close a decode session for a cause (14 R816, R821). -/
def closeSession (d : Fin 2) (why : Nat) (s : State) : State :=
  if s.video.dec[d].state = 0 then s
  else raise (s.modDec d (fun x => { x with state := 0, ending := false, error := if why = 5 then 5 else x.error })) (1734 + d.val)
    .entropy [(1, why)]

/-- Both sessions close: entry to WARN or BOOT, or the host detaches, cause 5 (14 R816). -/
def closeSessions (s : State) : State := forAll 2 (fun t d => closeSession d 5 t) s

/-- CAPTURE, PIXEL and ENTROPY restart: what they held is gone and each encoder begins with an IDR frame (01 R30; 14 R784). -/
def restartVideo (s : State) : State := admitStreams (streamsRefresh s)

/-- The layers of a stream count as never having had content (13 R757). -/
def clearLayers (n : Fin 16) (s : State) : State :=
  s.modStream n (fun x => { x with layers := Vector.replicate 4 ⟨none, none⟩, maskPending := false })

/-- A stream's configuration changed from what it was before (13 R720, R757; 14 R768, R811). -/
def streamChanged (before : State) (n : Fin 16) (s : State) : State :=
  let s1 := if before.sc n 0x4000 2 = s.sc n 0x4000 2 ∧ before.sc n 0x4000 3 = s.sc n 0x4000 3 then s else clearLayers n s
  let s2 := regroup before n (startStream n s1)
  if classOf s2 n = classOf before n ∧ (encOf s2 n).state ≠ .refused ∧ (encOf s2 n).state ≠ .off then
    match levelOf s2 n with
    | none => raise (stopEncode n .request .closeStop 0 .refused s2) (streamEv n.val 26) .pixel []
    | some l =>
      if l.idc = (encOf s2 n).level then s2
      else raise (s2.modEnc n (fun e => { e with level := l.idc })) (streamEv n.val 25) .pixel [(1, l.idc)]
  else
    let s3 := if classOf s2 n = classOf before n then s2 else stopEncode n .streamDisabled .closeClass 0 .off s2
    admitStream (fun m => m != n && admitted s3 m) n s3

end Sys2Proof.Machine
end

