-- ==== Sys2Proof/Machine/LifeOps.lean ====
section
/-! DEFINITION. States and islands, the configuration at a BOOT, and the start of a BOOT: what the life-cycle and outage commands
share (02; 01 section 2; 04 section 4). -/

namespace Sys2Proof.Machine

/-! ### Lock, expert session, windows -/

/-- The configuration lock closes (04 R143, R144). DESIGN CHOICE (log 117): where no session caused it, as at a BOOT or at the entry
to WARN, EV-0015 carries 0xFF. -/
def closeLock (by_ : Option Session) (s : State) : State :=
  if s.mode.lock then raise { s with mode.lock := false } 15 .control [(1, 0), (1, holderCode by_)] else s

/-- The expert session closes (03 R128, R129). -/
def closeExpert (s : State) : State :=
  match s.mode.expert with
  | none => s
  | some p => raise { s with mode.expert := none } 13 .control [(1, p.code)]

/-- A firmware commit that broke off while it wrote leaves the slot that is not active without a whole image and without a trial
pending (04 R191, R192; log 62). -/
def spoilFirmware (s : State) : State :=
  let nor := if s.life.activeB then { s.nor with slotA := { s.nor.slotA with whole := false } }
    else { s.nor with slotB := { s.nor.slotB with whole := false } }
  keepPend { s with nor := nor, life := { s.life with trialState := 0, trialUsed := 0 } }

/-- A window closes without effect (04 R190). -/
def closeWindow (w : Fin 7) (abandoned : Bool) (s : State) : State :=
  let x := s.win[w]
  if x.owner.isSome then
    raiseIf abandoned (s.modWin w (fun x => { x with owner := none, status := 0, buf := [], writing := false })) 20 .control []
  else s

/-- Every open window closes (04 R190). -/
def closeWindows (p : Win → Bool) (abandoned : Bool) (s : State) : State :=
  forAll 7 (fun t w => if p t.win[w] then closeWindow w abandoned t else t) s

/-! ### Function resets and the link (05 section 8) -/

/-- The host attached or detached: the modes follow, decode sessions close, and the video tenant thaws (03 R116; 14 R815, R816). -/
def hostChanged (before s : State) : State :=
  let t := modesRefresh s
  let u := if hostAttach before.port = 0 ∧ hostAttach t.port = 1 then closeSessions t else t
  if hostAttach u.port = 1 then thawSlots u.cache.videoTenant u else u

/-- One session's mailbox belongs to the function. -/
def ofFunction (fn : Fin 16) (p : Session) : Bool :=
  match p with
  | .mailbox f => f == fn
  | .usdo _ => false

/-- A Function Level Reset of one function (03 R128; 04 R178, R190; 05 R265 to R267; 15 R849). Bus mastering ends with it
(PCIe; log 82). -/
def resetFunction (fn : Fin 16) (s : State) : State :=
  let s1 := raiseTenant fn 21 [] (freezeSlots fn (resetRing fn (resetQueues fn s)))
  let s2 := { s1.modFn fn (fun f => { f with bme := false }) with mbx := vset s1.mbx fn Mbx.reset }
  let s3 := closeWindows (fun w => match w.owner with | some p => ofFunction fn p | none => false) false s2
  match s3.mode.expert with
  | some p => if ofFunction fn p then closeExpert s3 else s3
  | none => s3

/-- A reset of every enabled function (05 R270). -/
def resetFunctions (s : State) : State := forAll 16 (fun t n => if t.port.fns[n].enabled then resetFunction n t else t) s

/-- A reset of every function (05 R271). -/
def resetEvery (s : State) : State := forAll 16 (fun t n => resetFunction n t) s

/-- The virtual functions are disabled (04 R197; 05 R201). -/
def disableVfs (s : State) : State :=
  { s with
    port := { s.port with vfs := 0, fns := vmapIdx (fun n f => if n = 0 then f else { f with enabled := false }) s.port.fns } }

/-- The link leaves L0 (05 R205, R271). -/
def linkLost (s : State) : State :=
  let s1 := raise { s with port := { s.port with linkState := 0, linkSpeed := 0, linkWidth := 0 } } 25 .host []
  hostChanged s (disableVfs (resetEvery s1))

/-- HOST stops: the link is down, and what is fetched is neither executed nor completed (05 R260; 11 R589). -/
def hostStops (s : State) : State :=
  let t := if s.port.linkState = 2 then linkLost s else s
  stageRefresh { t with
    port.cmds := []
    cache.tenants := vmap (fun x => { x with reserved := 0 }) t.cache.tenants }

/-! ### Conditions that meet in one SUPERVISOR cycle (02 R65) -/

/-- The rail of the next scan slot trips on a reading: a short or an over-voltage (09 R455). -/
def slotTrips (s : State) (reading : Int) : Bool :=
  let r : Fin 12 := Fin.ofNat 12 s.rails.slot
  let mv := min 2500 reading.toNat * s.railCfg r 0x02 / 1000
  if s.rails.slot < 12 then s.compared r && (s.isShort r mv || s.isTrip r mv)
  else s.rails.slot == 18 && !s.rails.dieCritical && decide (10 * ((if s.life.factory.gradeE then 115 else 105) + 5) < reading)

/-- A waiting command raises a fatal fault (02 R57; 09 R494, R518). -/
def raisesFatal (s : State) (c : Instr) : Bool :=
  match c with
  | .scanSlot reading => slotTrips s reading
  | .railFaultTime r => (s.rl r).status == .warning && !(s.rl r).mask && s.railCfg r 0x0E == 2
  | _ => false

/-- States that a fatal fault, an input fail, a power return, and a timer or completion end (02 **State transitions**). -/
def faultEnds (d : DevState) : Bool := d == .restore || d == .serve || d == .boot || d == .simmer || d == .keep

def failEnds (d : DevState) : Bool := d == .restore || d == .serve || d == .boot || d == .halt

def returnEnds (d : DevState) : Bool := d == .warn || d == .simmer || d == .keep

/-- The rank of a waiting command among the conditions for a transition out of the present state: 6 for a VKEEP collapse, 5 for an
input fail, 4 for a fatal fault, 3 for power return or wake, 2 for a timer or completion, 0 for none (02 R65). -/
def transitionRank (s : State) (c : Instr) : Nat :=
  match c with
  | .vkeepCollapse _ _ => if s.life.dev = .off then 0 else 6
  | .inputFail => if failEnds s.life.dev then 5 else 0
  | .powerReturn =>
    if returnEnds s.life.dev ∧ s.hold.failed ∧ s.life.fatalPath = false ∧ s.pending.any (raisesFatal s) = false then 3 else 0
  | .wake => if s.life.dev = .sleep ∨ s.life.dev = .keep then 3 else 0
  | .keepTimeExpiry => if s.life.dev = .keep then 2 else 0
  | .watchdogExpiry => if controlRuns s ∧ (s.life.dev = .serve ∨ s.life.dev = .restore) then 2 else 0
  | .restoreComplete => if s.life.dev = .restore ∧ unrestoredCount s.cache = 0 then 2 else 0
  | .sinterDeadlineExpiry => if s.life.dev = .simmer ∧ s.life.restarting = false ∧ s.outage.deadline.isSome then 2 else 0
  | .simmerTimerExpiry => if s.life.dev = .simmer ∧ s.life.restarting = false then 2 else 0
  | .inputQualifyTimeout => if s.life.dev = .boot ∧ s.life.bootStep = 3 then 2 else 0
  | c => if raisesFatal s c ∧ faultEnds s.life.dev then 4 else 0

/-- A condition of higher rank is true in the same SUPERVISOR cycle: it waits in the queue, and no tick has passed (02 R65;
log 118). -/
def outranked (rank : Nat) (s : State) : Bool := s.pending.any (fun c => decide (rank < transitionRank s c))

/-! ### Islands by state (01 R20) -/

/-- Some stream records in SIMMER. -/
def anyOutageStream (s : State) : Bool := (List.finRange 16).any (outageStream s)

/-- A rail of the host group is good: the rail that powers the host is up (01 R20 note 2). -/
def hostRailUp (s : State) : Bool := (List.finRange 12).any (fun r => s.configured r && s.saveGroup r == 1 && (s.rl r).status.up)

/-- CAPTURE, PIXEL and ENTROPY: with the note on SIMMER. -/
def videoState (s : State) (p : Fin 16 → Bool) : Bool :=
  fullState s.life.dev || (s.life.dev == .simmer && (List.finRange 16).any (fun n => outageStream s n && p n))

/-- The step of a cold BOOT from which an island runs (log 22). -/
def bootFrom (i : Island) : Nat :=
  match i with
  | .control => 7 | .memory => 9 | .flash => 10 | .host => 11 | _ => 13

/-- An island is up in a BOOT: a warm one holds all but CONTROL, which runs again from step 7 (02 R75). -/
def bootRuns (l : Life) (i : Island) : Bool :=
  match l.boot with
  | .warm _ => if i = .control then decide (7 ≤ l.bootStep) else bootFrom i < 13
  | _ => decide (bootFrom i ≤ l.bootStep)

/-- An island runs in the present state. -/
def islandMark (s : State) (i : Island) : Bool :=
  match i with
  | .supervisor => s.life.dev.supervised
  | .capture0 => videoState s (fun n => portNo s n == 0) && s.video.port[(0 : Fin 4)].state != .noClock
  | .capture1 => videoState s (fun n => portNo s n == 1) && s.video.port[(1 : Fin 4)].state != .noClock
  | .capture2 => videoState s (fun n => portNo s n == 2) && s.video.port[(2 : Fin 4)].state != .noClock
  | .capture3 => videoState s (fun n => portNo s n == 3) && s.video.port[(3 : Fin 4)].state != .noClock
  | .pixel | .entropy => videoState s (fun _ => true)
  | i =>
    match s.life.dev with
    | .boot => bootRuns s.life i
    | .restore | .serve | .warn => i != .control || !s.life.restarting || decide (7 ≤ s.life.bootStep)
    | .simmer => (i == .control && (!s.life.restarting || decide (7 ≤ s.life.bootStep))) || (i == .memory && anyOutageStream s)
    | .sinter => (i == .control && (!s.life.restarting || decide (7 ≤ s.life.bootStep))) || i == .memory || i == .flash
    | .halt => !s.life.supervisorHalt && (i == .control || (i == .host && hostRailUp s))
    | _ => false

/-- An island that a BOOT is bringing up reads 1 (01 R20, `2101h`). -/
def islandStarts (s : State) (i : Island) : Bool :=
  (s.life.dev == .boot && (i == .control || i == .memory || i == .flash)) || (s.life.restarting && i == .control)

def allIslands : List Island :=
  [.supervisor, .control, .host, .memory, .flash, .capture0, .capture1, .capture2, .capture3, .pixel, .entropy]

/-- One island follows the state; one in fault stays there while it is marked. -/
def islandRefresh (i : Island) (s : State) : State :=
  if islandMark s i then
    match s.island i with
    | .running => s
    | .fault => s
    | _ => s.startIsland i
  else if islandStarts s i then s.setIsland i .starting
  else s.stopIsland i

/-- Every island follows the state; SUPERVISOR's held events pass on when CONTROL runs again (02 R67; 15 R836). -/
def islandsRefresh (s : State) : State :=
  let t := allIslands.foldl (fun u i => islandRefresh i u) s
  let u := if s.island .host = .running ∧ t.island .host ≠ .running then hostStops t else t
  if controlRuns u && !controlRuns s then releaseHeld u else u

/-- In HALT, HOST follows the rail that powers the host (01 R20 note 2). -/
def haltIslands (s : State) : State := if s.life.dev = .halt then islandsRefresh s else s

/-! ### Transitions -/

/-- Enter a device state for a cause (02 R66): the reports, the islands, and what follows the state. -/
def enterState (d : DevState) (why : Cause) (s : State) : State :=
  let old := s.life.dev
  let s1 := islandsRefresh { s with
    life := { s.life with dev := d, prev := old, entryTime := s.time.timeBase, enteredAt := s.time.now } }
  let s2 := raise s1 64 .supervisor [(1, old.code), (1, d.code), (1, (Config.causeCode why).toNat)]
  let s3 := chargesRefresh s2
  if balanceOff d then { s3 with hold.bal := Vector.replicate 6 false } else s3

/-! ### The stored configuration -/

/-- The configuration copy in use: the valid one of higher sequence (04 R149). -/
def storedCopy (x : Nor) : Option NorCopy :=
  if x.copyA.valid ∧ (x.copyB.valid = false ∨ x.copyB.seq < x.copyA.seq) then some x.copyA
  else if x.copyB.valid then some x.copyB
  else none

/-- What a void copy still gives: the expert code alone (04 R147, R160). -/
def voidValues (m : SMap Nat) : SMap Nat := m.filter (fun q => q.1 == key 0x2F00 1)

/-- The saved values that a BOOT takes: of a void copy only the expert code (04 R147, R160). -/
def storedValues (x : Nor) : SMap Nat :=
  match storedCopy x with
  | some c => if c.void then voidValues c.values else c.values
  | none => []

/-- The saved values between BOOTs: the factory defaults of a void copy come with the next BOOT (04 R147). -/
def savedNow (x : Nor) : SMap Nat :=
  match storedCopy x with
  | some c => c.values
  | none => []

/-- A BOOT has taken the factory defaults: nothing of a void copy comes back (04 R147). -/
def settleVoid (x : Nor) : Nor :=
  let f := fun (c : NorCopy) => if c.void then { c with values := voidValues c.values } else c
  { x with copyA := f x.copyA, copyB := f x.copyB }

/-- An entry persists through a store (04 section 4). -/
def isStored (k : Nat) : Bool :=
  match rowOf (k / 256) (k % 256) with
  | some r => r.persist == .stored
  | none => false

/-- Rail, gate, reset and hold-up entries, which the boot ROM reads in a HALT of cause 1 (09 R490). -/
def isRomEntry (k : Nat) : Bool := decide (0x2610 ≤ k / 256) && decide (k / 256 < 0x2740)

/-- P entries take saved values; the others keep theirs (04 section 4). -/
def applySaved (saved : SMap Nat) (p : Nat → Bool) (s : State) : State :=
  let keep := s.dict.values.filter (fun q => !(isStored q.1 && p q.1))
  { s with
    dict.values := (saved.filter (fun q => p q.1)).foldl (fun m q => mapSet m q.1 q.2) keep
    isl.undelivered := [] }

/-- Step 7 applies the stored values of P entries (02 R77, R110; 03 R130). -/
def applyStored (p : Nat → Bool) (s : State) : State := applySaved (storedValues s.nor) p s

/-- The CAN FD layer starts with a node-ID and rates, sends its boot-up message and is pre-operational (04 R158, R162, R163). -/
def canStart (saved : SMap Nat) (s : State) : State :=
  let node := valueIn saved 0x2003 1
  { s with
    can := { s.can with
      nmt := .preOperational, node := node, arbRate := valueIn saved 0x2003 2, dataRate := valueIn saved 0x2003 3
      busy := [], tpdo := Vector.replicate 4 ⟨[], none⟩ } }.send (.can (0x700 + node) [0])

/-! ### Tremor membership (10 R561, R562) -/

/-- The membership check over a configuration: every memory-group rail with a position lies below BootHoldState, every other
positioned rail from it to N, and it is not above N. -/
def tremorFits (s : State) : Bool :=
  let hold := s.cfg 0x2740 3
  let n := s.cfg 0x2740 2
  decide (hold ≤ n) && (List.finRange 12).all (fun r =>
    !(s.configured r && s.upPosition r != 0) ||
    (if s.saveGroup r = 4 then decide (s.upPosition r < hold) else decide (hold ≤ s.upPosition r) && decide (s.upPosition r ≤ n)))

/-- GroupRole changes (03 R117). -/
def setGroup (g : Nat) (s : State) : State :=
  if g = s.mode.group then s else modeChanged 5 s.mode.group g { s with mode.group := g }

/-- GroupRole from the configuration; a failed check is reported (10 R561, R562). -/
def groupRefresh (s : State) : State :=
  let on := s.cfg 0x2740 1 == 1
  raiseIf (on && !tremorFits s) (setGroup (bitIf (on && tremorFits s) 0) s) 384 .supervisor []

/-- Membership as the stored configuration gives it, for the hold of step 1 (10 R553, R561). -/
def storedGroup (s : State) : Nat :=
  let t := applyStored (fun _ => true) { s with dict.values := [] }
  bitIf (t.cfg 0x2740 1 == 1 && tremorFits t) 0

/-! ### The start of a BOOT -/

/-- What every BOOT does first: count, time base, probations, lock, expert session, windows (01 R37, R38; 02 R110, R112; 03 R128;
04 R143, R190; 12 R692, **Die transitions**). DEDUCED (log 119): an outage-path firmware restart is a warm BOOT by 02 R80, so the time
base starts at 0 there too, although the device state stays. -/
def bootBegins (s : State) : State :=
  let s1 := { s with
    life.bootCount := s.life.bootCount + 1
    time.timeBase := 0
    flash.die := vmap (fun (d : Die) => { d with timeouts := 0 }) s.flash.die }
  closeWindows (fun _ => true) true (closeExpert (closeLock none (endProbations s1)))

/-- DRAM and everything held in it is gone (02 R109): slots, handles, log, video. -/
def loseDram (s : State) : State :=
  { s with
    cache := { s.cache with
      slots := [], handles := [], usable := 0, stamp := 0
      tenants := vmap (fun (t : Tenant) => { Tenant.reset with
        writeSeq := t.writeSeq, keyGen := t.keyGen, hasKey := t.hasKey }) s.cache.tenants }
    ev := { Events.reset with heldSup := s.ev.heldSup, droppedSup := s.ev.droppedSup }
    video := Video.reset
    life.dramLost := true
    life.selfRefresh := false }

/-- Flash state that a BOOT finds anew; the image, the block tables and retirements stay (12 R672, R693). A key that was being
replaced has left its two copies with different generations (12 R702, R703; log 111). -/
def flashAtBoot (x : Flash) : Flash :=
  { Flash.reset with
    die := vmap (fun (d : Die) => { d with
      state := .absent, timeouts := 0, cur := none, nextPage := 0, verified := 0
      cause := if d.retiredInTable then d.cause else 0 }) x.die
    committed := x.committed, buffer := x.buffer, previous := x.previous, bufferDirty := x.bufferDirty, imageState := x.imageState, released := x.released
    erases := x.erases, incomplete := x.incomplete, keyMismatch := x.sanitizeState == 1 && x.sanitizeKeys }

/-- The estimator's registers at a cold BOOT; what the keep store holds is loaded after it. After KEEP the counter has run on
(08 R444). Where SUPERVISOR has run on, what relaxation and a learn still have to end stays, and an estimator that held a state of
charge goes on from it (08 R382, R404, R436; log 32). -/
def estAtBoot (s : State) (c : Channel) : State :=
  let e := s.est c
  let x := { Est.reset with
    counter := e.counter, lastCounter := if s.life.resetCause = 2 then e.keepCounter else e.counter, keepCounter := e.keepCounter
    profile := e.profile, sinceAt := s.time.now }
  let y := { x with
    awaiting := e.awaiting, holdRep := e.holdRep, widened := e.widened, mismatch := e.mismatch, empty := e.empty, startSnap := e.startSnap }
  s.setEst c (
    if s.life.socKnown then { y with
      socInt := e.socInt, socRep := e.socRep, dropRep := e.dropRep, uCal := e.uCal, sinceCharge := e.sinceCharge, sinceAt := e.sinceAt
      lastCounter := e.lastCounter }
    else if 2 ≤ s.life.resetCause then y else x)

/-- A pending keep-store write is made before a BOOT reads the keep store anew, where SUPERVISOR has run on (log 103). -/
def keepFlush (cause : Nat) (s : State) : State := if 2 ≤ cause ∧ s.keep.pending then keepWrite s else s

/-- A cold BOOT begins with a reset cause (02 R67, R68, R109, R110; 09 R512, R521, R526; 10 R540). CONTROL has stopped: what the start
raises is held in SUPERVISOR. -/
def coldBoot (cause : Nat) (why : Cause) (s : State) : State :=
  let s1 := loseDram (bootBegins ((keepFlush cause s).stopIsland .control))
  let s2 := { s1 with
    life := { s1.life with
      resetCause := cause, boot := .cold, restarting := false, bootStep := 1, step2Done := false, bootAt := s1.time.now
      bootDuration := 0, otherSlot := false, otherTrial := false, socKnown := s1.life.socKnown && decide (2 < cause)
      wokeAt := if cause ≤ 1 then some s1.time.now else none
      dieHot := false, imageAbsent := false, warmBoot := false, fwFallback := false, fwTrial := false, estConservative := true
      scanReduced := true, watchdogTimes := [], fatalPath := false, fromRestore := false, supervisorHalt := false
      haltPending := 0, afterDown := 0, wakeHeld := false }
    time.onRc := true
    mode := { Modes.reset with fit := s1.mode.fit, group := s1.mode.group, host := s1.mode.host, geyser := s1.mode.geyser }
    nor := { s1.nor with storing := none, storeState := 0 }
    dict := { Dict.reset with values := [] }
    isl := { Islands.reset with run := s1.isl.run }
    can := Can.reset
    mbx := Vector.replicate 16 Mbx.reset
    win := Vector.replicate 7 Win.reset
    port := Port.reset
    adm := Adm.reset
    pack := { Chan.reset with mv := s1.pack.mv, ma := s1.pack.ma, dt := s1.pack.dt, zone := s1.pack.zone }
    bank := { Chan.reset with mv := s1.bank.mv, ma := s1.bank.ma, dt := s1.bank.dt, zone := s1.bank.zone }
    hold := { s1.hold with state := 0, assist := none, assistHeld := false, gateMissing := false }
    rails := { s1.rails with
      released := false, slot := 0, walk := .none, pos := 0, delaying := false, dieWarn := false, dieCritical := false
      vkeepLow := false, trim := Vector.replicate 4 Trim.reset
      rail := vmap (fun (x : Rail) => { Rail.reset with mv := x.mv }) s1.rails.rail
      gate := Vector.replicate 8 ⟨.off, false, 0⟩
      rst := Vector.replicate 4 .asserted }
    tremor := { Tremor.reset with
      high := s1.tremor.high, pulling := s1.tremor.pulling && s1.tremor.walk == .fault, heldAt := s1.tremor.heldAt }
    outage := { Outage.reset with
      lastBytes := s1.outage.lastBytes, lastDuration := s1.outage.lastDuration
      lastEnergy := s1.outage.lastEnergy, lastSimmer := s1.outage.lastSimmer }
    flash := flashAtBoot s1.flash }
  let s3 := loadKeep (estAtBoot (estAtBoot s2 .pack) .bank)
  let s4 := { s3 with
    life.bootCount := (keepBody s.keep).bootCount + 1
    pack.fault := 0, bank.fault := 0 }
  enterState .boot why (activityRefresh (setGroup (storedGroup s3) s4))

end Sys2Proof.Machine
end

