-- ==== Sys2Proof/Machine/TremorOps.lean ====
section
/-! DEFINITION. The Tremor line: pulling, releasing, and the work of a member in a state (10). -/

namespace Sys2Proof.Machine

/-- The controller is a member of a group, and SUPERVISOR runs its Tremor interface (10 R538, R539, R561). -/
def isMember (s : State) : Bool := s.mode.group == 1 && s.life.dev.supervised

/-- A member that steps with its group: not one in fault (10 R574). -/
def stepsWithGroup (s : State) : Bool := isMember s && s.tremor.walk != .fault

/-- GroupLength N. -/
def groupLength (s : State) : Nat := s.cfg 0x2740 2

/-- BootHoldState. -/
def bootHoldState (s : State) : Nat := s.cfg 0x2740 3

/-- WalkState codes (10). -/
def TremorWalk.code : TremorWalk → Nat
  | .idleDown => 0 | .gathering => 1 | .upWalk => 2 | .idleUp => 3 | .downWalk => 4 | .fault => 5

/-- The cause a down walk carries (10 EV-0386). -/
def DownCause.code : DownCause → Nat
  | .none => 0 | .request => 1 | .hostSave => 2 | .driveSave => 3

/-- States of the outage path (10 R559, R566). -/
def onPath (d : DevState) : Bool :=
  match d with
  | .warn => true | .simmer => true | .sinter => true | .keep => true | _ => false

/-- Pull the line (10 R541). -/
def pullLine (s : State) : State :=
  { s with tremor := { s.tremor with pulling := true, high := false, heldAt := s.time.now } }

/-- Release the line (10 R541). -/
def releaseLine (s : State) : State := { s with tremor := { s.tremor with pulling := false } }

/-- The save groups whose rails this member goes down with now, and may shut at once (10 R563 to R566): all of them for its own
request; in an outage the host group once the warn window has ended, then the drive group once the settle window has. -/
def downNow (s : State) : List Nat :=
  if s.tremor.down = .request then [0, 1, 2, 3, 4]
  else if s.life.dev = .warn then
    (if s.outage.settled ∧ s.groupShut 1 then [2] else if s.outage.warnEnded then [1] else [])
  else []

/-- The groups it holds the line for (10 R566): those it will still shut in this walk. -/
def downHeld (s : State) : List Nat :=
  if s.tremor.down = .request then [0, 1, 2, 3, 4]
  else if s.life.dev = .warn then (if s.groupShut 1 then (if s.outage.warnEnded then [2] else []) else [1])
  else []

/-- The member's rails of the present state go down if the save order allows it (10 R563, R566). -/
def downWork (s : State) : State :=
  if (s.downRails (downNow s) s.tremor.counter).isEmpty then s
  else dropStep (downNow s) s.tremor.counter s

/-- Enter a state of a down walk: pull, and release at once without work (10 R541, R542, R563). -/
def enterDown (k : Nat) (s : State) : State :=
  let s1 := { s with tremor := { s.tremor with walk := .downWalk, counter := k } }
  if (s1.downRails (downHeld s1) k).isEmpty then releaseLine s1 else downWork (pullLine s1)

/-- Groups a member ramps in an up walk: in BOOT the memory group before BootHoldState and the others from it on; else every
group (10 R555, R556, R558). -/
def upGroups (s : State) (k : Nat) : List Nat :=
  if s.life.dev = .boot then (if k < bootHoldState s then [4] else [1, 2, 3, 4]) else [1, 2, 3, 4]

/-- The member may work in this up state: in BootHoldState a member in BOOT first runs steps 9 and 10 (10 R556). -/
def upReady (s : State) (k : Nat) : Bool := s.life.dev != .boot || decide (k < bootHoldState s) || decide (11 ≤ s.life.bootStep)

/-- A member that takes part in the up walk (10 R558, R559); a BOOT that has failed or was interrupted does not. -/
def goesUp (s : State) : Bool := (s.life.dev == .boot && s.life.haltPending == 0 && s.outage.phase == .none) || s.life.dev == .restore || s.life.dev == .serve

/-- Ramp the rails of an up state, or release without any (10 R541, R542, R557). -/
def upWork (s : State) : State :=
  let k := s.tremor.counter
  if upReady s k = false then s
  else if (s.upRails (upGroups s k) k).isEmpty then releaseLine s
  else rampStep (upGroups s k) k s

/-- Enter a state of an up walk (10 R541, R542, R555 to R559). -/
def enterUp (k : Nat) (s : State) : State :=
  let s1 := { s with tremor := { s.tremor with walk := .upWalk, counter := k } }
  if goesUp s1 then upWork (pullLine s1) else releaseLine s1

/-- Announce the state entered (EV-0400 + s). -/
def announce (s : State) : State := raise s (400 + s.tremor.counter) .supervisor []

/-- Send a down request as soon as the line allows it, or work at once in a down walk that runs (10 R564 to R566). -/
def wantDown (c : DownCause) (s : State) : State :=
  if s.tremor.walk = .downWalk then downWork s
  else { s with tremor.wantDown := c }

/-- Ask for a reset, whose up walk brings shut rails back (10 R560). -/
def wantReset (s : State) : State := { s with tremor.wantReset := true }

/-- The member enters fault and holds the line low (10 R572, R573). -/
def tremorFault (s : State) : State :=
  raise (pullLine { s with tremor.walk := .fault, tremor.wantDown := .none, tremor.wantReset := false, tremor.asked := false })
    391 .supervisor [(1, s.tremor.counter), (1, s.tremor.walk.code)]

end Sys2Proof.Machine
end

