-- ==== Sys2Proof/Machine/PathOps.lean ====
section
/-! DEFINITION. The ways between device states: SLEEP, HALT, KEEP, SINTER, SIMMER, WARN and back, and fatal faults (02; 11). -/

namespace Sys2Proof.Machine

/-! ### SLEEP, OFF, HALT -/

/-- A learn that runs breaks off at SLEEP (08 R410, R415). -/
def sleepLearns (s : State) : State := discardLearn .bank .learnSleep (discardLearn .pack .learnSleep s)

/-- The snapshot of a channel for the keep store (02 R97; 08 R443). Before the estimators have a state of charge in this run it
carries the stored one's, with the present temperature and wall clock; with none stored there is none (log 77). -/
def snapOf (s : State) (c : Channel) (kind : Nat) : Option Snap :=
  if s.life.socKnown then some (snapshot s c kind)
  else
    match (match c with | .pack => (keepBody s.keep).pack.snap | .bank => (keepBody s.keep).bank.snap) with
    | some x => some { snapshot s c kind with socInt := x.socInt, socRep := x.socRep, uSoc := x.uSoc }
    | none => none

/-- Enter SLEEP (02 R97, R98, R100; 08 R410; 09 R525, R529; 10 R538): the keep store is written with SLEEP snapshots, the outputs
fall, and the wall clock stands until it is set again (01 R45; log 74). -/
def enterSleep (why : Cause) (s : State) : State :=
  let s1 := enterState .sleep why (sleepLearns s)
  let s2 := keepWriteSnap (snapOf s .pack 1) (snapOf s .bank 1) { s1 with keep.lifeEnd := 1 }
  let s3 := releaseOutputs s2
  let s4 := { s3 with
    tremor := { s3.tremor with walk := .idleDown, counter := 0, pulling := false }
    outage.phase := .none
    port := Port.reset
    life := { s3.life with boot := .none, dramLost := true, afterDown := 0, wakeHeld := false, dieHot := false }
    time.wallSet := false }
  if s.life.wakeHeld then coldBoot 1 .wake s4 else s4

/-- The log of HALT: 256 records of the DRAM log, else those of the keep store (15 R833). -/
def haltLog (s : State) : State :=
  if s.ev.started then { s with ev.log := s.ev.log.take 256, ev.haltBuffer := true }
  else let t := startLog s (keepBody s.keep).events
       { t with ev.haltBuffer := true }

/-- The estimators start: they hold a state of charge from here on (08 R438). -/
def startEstimators (s : State) : State :=
  let t := reconcile s
  { t with life.socKnown := true }

/-- A HALT entered before step 7 of a cold BOOT ended. -/
def haltEarly (s : State) : Bool := s.life.boot == .cold && decide (s.life.bootStep < 8) && !s.life.socKnown

/-- The configuration in HALT before step 7 applied it: the whole of it, with the estimators' start, or with cause 1 the boot ROM's
entries (02 R105; 09 R490; log 29). -/
def haltConfig (cause : Nat) (s : State) : State :=
  if haltEarly s then
    (let t := applyStored (fun k => cause != 1 || isRomEntry k) s
     if cause = 1 then t else startEstimators t)
  else s

/-- In HALT the manager is served over CAN FD: the layer starts where no step 7 has started it (02 R88, R105; 04 R163). -/
def haltCan (s : State) : State :=
  if controlRuns s ∧ s.can.nmt = .initialising then canStart (storedValues s.nor) s else s

/-- Consecutive BOOTs that the present cause has ended; a HALT that ends no BOOT counts none (02 R107; log 102). -/
def haltCount (cause : Nat) (s : State) : Nat :=
  if s.life.dev = .boot then
    (if s.life.haltCause = cause ∧ s.life.haltRepeat ≠ 0 then min 255 (s.life.haltRepeat + 1) else 1)
  else 0

/-- Enter HALT with a cause (02 R56, R104 to R107; 09 R474, R489, R490, R525, R529, R530). `control` is false when SUPERVISOR
holds it alone; `sticky` is the direct HALT of R106. -/
def enterHalt (cause : Nat) (control sticky : Bool) (s : State) : State :=
  let n := haltCount cause s
  let f := s.rails.fault
  let s0 := haltConfig cause s
  let s1 := enterState .halt .fatalFault { s0 with
    life := { s0.life with
      haltCause := cause, haltRepeat := n, supervisorHalt := !control, haltPending := 0, fatalPath := false
      boot := .none, restarting := false, afterDown := 0, wakeHeld := false, dieHot := false }
    rails.fault := if f.kind ≠ 0 ∧ f.haltCause = 0 then { f with haltCause := cause } else f
    outage.phase := .none }
  let s2 := raise (if control then haltCan (haltLog s1) else s1) 71 .supervisor []
  let s3 := keepWriteEnd 3 (raiseIf (n == 3) s2 72 .supervisor [])
  if (cause = 1 ∨ cause = 3) ∧ sticky = false ∧ control then walkUp [1] s3 else s3

/-! ### KEEP -/

/-- Enter KEEP (11 R631, R632; 09 R525, R529): the keep store is written with KEEP snapshots, then the memory group and what is
left goes down. -/
def enterKeep (why : Cause) (s : State) : State :=
  let s1 := enterState .keep why { s with
    outage.phase := .keep
    packEst.keepCounter := if s.life.socKnown then s.packEst.counter else s.packEst.keepCounter
    bankEst.keepCounter := if s.life.socKnown then s.bankEst.counter else s.bankEst.keepCounter
    life := { s.life with boot := .none, afterDown := 0, wakeHeld := false }
    rails.pfwLow := true }
  let s2 := keepWriteSnap (snapOf s .pack 2) (snapOf s .bank 2) { s1 with keep.lifeEnd := 2 }
  let s3 := walkDown [0, 4] s2
  let s4 := if s3.rails.walk = .none then releaseEnables s3 else s3
  if s.outage.returned then coldBoot 2 .powerReturn s4 else s4

/-! ### SINTER -/

/-- The energy a save needs, mJ: (E_fixed + D × e_byte) / (1 − g) (11 section 5). -/
def energyNeed (s : State) : Rat :=
  ((s.cfg 0x2420 1 * 1000 : Nat) + (chargedAll s : Rat) / 262144 * (s.adm.eByteInUse : Rat)) * 1000 /
    ((1000 - s.cfg 0x2420 2 : Nat) : Rat)

/-- E_g,total as published, mJ. -/
def energyTotal (s : State) : Nat := 1000 * (s.packEst.eg + s.bankEst.eg)

/-- Every stream stops with the device state, its segment closed for a cause (01 R21; 13 R748; 14 R811). -/
def stopStreams (why : Cause) (flags : Nat) (s : State) : State :=
  forAll 16 (fun t n => stopStream n .streamState why flags (if t.sc n 0x4000 1 = 1 then .stopped else .off) t) s

/-- Enter SINTER with a cause (11 R611, R619, R622, R628, R630; 01 R21; 02 R60). With a memory rail lost no slot is copied and HALT
follows (09 R496). -/
def enterSinter (cause : Nat) (s : State) : State :=
  let fromSimmer := s.life.dev == .simmer
  let s0 := { s with
    outage := { s.outage with
      phase := .copy, sinterCause := cause, deadline := none, bytes := 0, duration := 0, energy := 0
      lastSimmer := if fromSimmer then (s.time.now - s.outage.simmerAt) / 1000000 else s.outage.lastSimmer }
    life.selfRefresh := false }
  let s1 := stopStreams .closeSinter 4 s0
  let s2 := enterState .sinter (if cause = 3 then .timer else .completion) s1
  let s3 := raise s2 458 .control [(1, cause)]
  let s4 := raiseIf (decide ((energyTotal s : Rat) < energyNeed s)) s3 465 .control []
  let s5 := walkDown [3] (holdRefresh (setSource .bank true s4))
  if s.life.dramLost then enterHalt 4 true false s5
  else
    let s6 := if s5.flash.open_.isEmpty then openEpoch false s5 else s5
    { s6 with flash := { s6.flash with preSinter := false, copying := [] } }

/-! ### SIMMER -/

/-- Streams that will record in SIMMER (11 R612). -/
def recordCount (s : State) : Nat := ((List.finRange 16).filter (fun n => outageStream s n && admitted s n)).length

/-- P_est, mW (11 R609). -/
def estPower (s : State) : Nat := s.cfg 0x2810 3 + s.cfg 0x2810 4 * recordCount s

/-- Energy above what a save needs, mJ (11 R609, R617). -/
def simmerSpare (s : State) : Rat :=
  let m : Rat := (s.cfg 0x2810 5 * 1000 : Nat)
  min ((energyTotal s : Rat) - energyNeed s - m) (((1000 * s.packEst.eg : Nat) : Rat) - m)

/-- The PACK cannot carry SIMMER: not fitted, faulted, removed, or publishing 0 J (11 R610). -/
def packLost (s : State) : Bool := !s.pack.fitted || chanFaulted s .pack || s.pack.wasRemoved || s.packEst.eg == 0

/-- The refusal code of a Simmer decision, 0 when it allows Simmer (11 R608 to R610). The order of causes that hold at once is not
given (log 26). -/
def simmerRefusal (s : State) : Nat :=
  if s.life.fatalPath then 5
  else if s.mode.outageInForce = 0 then 1
  else if s.adm.stale then 4
  else if packLost s then 2
  else if simmerSpare s / (estPower s : Rat) < (s.cfg 0x2810 2 : Rat) then 3
  else 0

/-- The SinterStarted cause that a refusal leads to (11 R610, R630; log 26). -/
def refusalCause (r : Nat) : Nat :=
  match r with
  | 2 => 4 | 3 => 2 | 4 => 6 | 5 => 7 | _ => 1

/-- P_drain, mW: the mean discharge power of the last second, P_est during the first (11 R618). -/
def drainPower (s : State) : Nat :=
  if s.time.now < s.outage.simmerAt + 1000000 ∨ s.packEst.power.isEmpty then estPower s
  else s.packEst.power.foldl (· + ·) 0 / s.packEst.power.length

/-- Load the deadline timer (11 R617): the earlier of t_dl and the Simmer timer's expiry; with no drain measured, that expiry. -/
def loadDeadline (s : State) : State :=
  let p := drainPower s
  let timer := s.outage.simmerAt + s.cfg 0x2810 1 * 1000000
  let spare := simmerSpare s
  let t := if spare ≤ 0 then s.time.now
    else if p = 0 then timer
    else min timer (s.time.now + (spare / (p : Rat) * 1000000).floor.toNat)
  { s with outage := { s.outage with deadline := some t, drainPower := p } }

/-- Enter SIMMER (11 R605, R611 to R613, R616; 07 R371). -/
def enterSimmer (s : State) : State :=
  let s1 := { s with
    outage := { s.outage with phase := .simmer, simmerAt := s.time.now, drainPower := estPower s }
    flash := { s.flash with preSinter := false, copying := [] }
    life.selfRefresh := true }
  let s2 := forAll 16 (fun t n => if outageStream t n then t
    else stopStream n .streamState .closeStop 0 (if t.sc n 0x4000 1 = 1 then .stopped else .off) t) s1
  let s3 := enterState .simmer .timer s2
  loadDeadline (walkDown [5] (setSource .bank false s3))

/-! ### WARN -/

/-- WARN ends (11 R597, R608): the second decision leads to SIMMER or SINTER. -/
def warnEnds (s : State) : State :=
  let r := simmerRefusal s
  if s.outage.simmerOk then
    if r = 0 then enterSimmer s
    else enterSinter (refusalCause r) (raise { s with outage.simmerOk := false } 457 .control [(1, r)])
  else enterSinter (if s.life.fatalPath then 7 else s.outage.sinterCause) s

/-- WARN ends once the warn and settle windows have ended, the host and drive groups are shut and the firmware runs
(11 R597, R596; 02 *When things meet*; log 27). -/
def warnCheck (s : State) : State :=
  if s.life.dev = .warn ∧ s.outage.warnEnded ∧ s.outage.settled ∧ s.groupShut 1 ∧ s.groupShut 2 ∧ s.life.restarting = false ∧
      s.outage.hostShut ∧ s.outage.driveShut then warnEnds s
  else s

/-- A down walk runs. -/
def goesDown (w : WalkKind) : Bool :=
  match w with
  | .down _ => true | _ => false

/-- A group of the save order is to be shut: alone, or through a down walk of the Tremor group (09 R481; 11 R588, R595; 10 R565). -/
def shutGroup (g : Nat) (c : DownCause) (s : State) : State :=
  if s.groupShut g then s
  else if stepsWithGroup s then wantDown c s
  else if (List.finRange 12).any (fun r => s.driven r && s.saveGroup r == g) ∧ goesDown s.rails.walk = false then walkDown [g] s
  else s

/-- The host group is shut: commands that have not ended are abandoned without a completion, and a PUT is not applied (11 R589). -/
def abandonCommands (s : State) : State :=
  stageRefresh { s with
    port := { s.port with cmds := [], ready := false }
    cache.tenants := vmap (fun x => { x with reserved := 0 }) s.cache.tenants }

/-- The save order goes on: host, then drive once the settle window has ended (09 R481; 11 R588, R595, R597). -/
def saveOrder (s : State) : State :=
  let s1 := if s.outage.warnEnded ∧ s.outage.hostShut = false then shutGroup 1 .hostSave s else s
  let s2 := if s1.outage.warnEnded ∧ s1.groupShut 1 then { abandonCommands s1 with outage.hostShut := true } else s1
  let s3 := if s2.outage.settled ∧ s2.outage.hostShut ∧ s2.outage.driveShut = false then shutGroup 2 .driveSave s2 else s2
  let s4 := if s3.outage.settled ∧ s3.outage.hostShut ∧ s3.groupShut 2 then { s3 with outage.driveShut := true } else s3
  warnCheck s4

/-- A drive rail is configured (11 R596). -/
def driveConfigured (s : State) : Bool := (List.finRange 12).any (fun r => s.configured r && s.saveGroup r == 2)

/-- The settle window starts, with its cause: 0 DRVACT fell, 1 the wait timed out (11 R591, R594, R596). -/
def startSettle (cause : Nat) (s : State) : State :=
  let s1 := raise { s with outage := { s.outage with settling := true, phase := .settle } } 453 .supervisor [(1, cause)]
  if driveConfigured s then s1 else saveOrder { s1 with outage.settled := true }

/-- Every DRVACT input in use reads low (11 R591, R592). -/
def drvactAllLow (s : State) : Bool := (List.finRange 2).all (fun k => !(s.cfg 0x2800 4).testBit k.val || s.outage.drvactLow[k])

/-- Start the settle window when it is due (11 R591). -/
def settleCheck (s : State) : State :=
  if s.life.dev = .warn ∧ s.outage.warnEnded ∧ s.outage.settling = false ∧ drvactAllLow s then startSettle 0 s else s

/-- Windows open for writing, and a firmware commit in progress, close at entry to WARN (04 R191). -/
def warnWindows (s : State) : State :=
  let s1 := if s.win[(0 : Fin 7)].status = 3 then spoilFirmware s else s
  forAll 7 (fun t w => if t.win[w].writing ∧ (t.win[w].status ≠ 3 ∨ w = 0) then closeWindow w false t else t) s1

/-- The first Simmer decision (11 R608, R610); it is not made while the firmware does not run. -/
def firstDecision (s : State) : State :=
  let r := simmerRefusal s
  if s.life.restarting ∨ controlRuns s = false then { s with outage.simmerOk := true }
  else if r = 0 then { s with outage.simmerOk := true }
  else raise { s with outage := { s.outage with simmerOk := false, sinterCause := refusalCause r } } 457 .control [(1, r)]

/-- A walk that a request started down stops; its rails that are down stay so (02 R57, R65). -/
def stopRequest (s : State) : State :=
  if s.life.afterDown = 0 then s else { s with rails := { s.rails with walk := .none, delaying := false } }

/-- Enter WARN (11 section 1, R579, R584 to R587, R608, R644; 02 R57, R59; 03 R118; 04 R143, R191; 07 R376; 08 R422). DEDUCED (log 120):
a fatal fault or an input fail turns a warm BOOT into the path by 02 R59 though the table of R63 lists no way from BOOT to WARN; the
firmware goes on loading and LastResetCause keeps that BOOT's cause, since R80 gives 7 to a restart that begins on the path. -/
def enterWarn (fatal : Bool) (why : Cause) (s : State) : State :=
  let back := match s.life.boot with | .warm d => d | _ => s.life.dev
  let warm := s.life.dev == .boot
  let sr := stopRequest s
  let s0 := { sr with
    life := { s.life with
      fatalPath := fatal, fromRestore := back == .restore && decide (0 < unrestoredCount s.cache)
      restarting := s.life.restarting || warm, boot := .none, afterDown := 0, wakeHeld := false }
    mode.outageInForce := if fatal then 0 else (outageEffective s).1
    outage := { Outage.reset with
      phase := if s.cfg 0x2800 1 = 1 then .drain else .warnWindow
      drained := s.cfg 0x2800 1 == 1, drvactLow := s.outage.drvactLow, simmerOk := true
      lastBytes := s.outage.lastBytes, lastDuration := s.outage.lastDuration, lastEnergy := s.outage.lastEnergy
      lastSimmer := s.outage.lastSimmer }
    rails.pfwLow := true }
  let s1 := holdTrims (enterState .warn why s0)
  let s2 := endProbations (closeSessions (geyserStops (warnWindows (closeLock none s1))))
  firstDecision (holdRefresh (endAssist s2))

/-! ### Power return -/

/-- Rails that the path has shut (10 R558; 11 R638). -/
def pathRailsDown (s : State) : Bool :=
  (List.finRange 12).any (fun r => s.gated r && !s.driven r && (s.rl r).offBy == .walk && s.upPosition r != 0)

/-- A restore that ended before the outage or during it ends with the return to SERVE (02 R64, R96). -/
def endRestore (s : State) : State :=
  if s.flash.restoring ∧ unrestoredCount s.cache = 0 then
    raise { s with flash := { s.flash with
      restoring := false, restoreDoneShown := s.flash.restoreDone, restoreRemaining := 0 } } 66 .memory []
  else s

/-- Return to SERVE or RESTORE and bring the shut rails back (11 R636 to R638; 02 R64; 10 R560, R569). -/
def resumeServe (sa : State) : State :=
  let s := endRestore sa
  let target : DevState := if s.life.fromRestore ∧ 0 < unrestoredCount s.cache then .restore else .serve
  let shut := pathRailsDown s
  let s1 := cancelPreSinter { s with
    life := { s.life with fromRestore := false, selfRefresh := false }
    port := { s.port with fetchStopped := false, ready := s.port.ready || !(List.finRange 12).any (fun r => s.gated r && s.saveGroup r == 1) }
    rails := { s.rails with pfwLow := false, walk := .none, delaying := false }
    hold.failed := false
    outage := { s.outage with
      phase := if shut then .returning else .none
      deadline := none, warnEnded := false, settling := false, settled := false, drained := false, returned := false
      hostShut := false, driveShut := false, drvactLow := Vector.replicate 2 false } }
  let s2 := freeTrims (enterState target .powerReturn (holdRefresh (setSource .bank true s1)))
  let s3 := restartVideo { s2 with life := { s2.life with haltRepeat := 0 } }
  let s4 := if shut then (if stepsWithGroup s3 then wantReset s3 else walkUp allGroups s3) else s3
  if s4.rails.walk = .none ∧ s4.tremor.wantReset = false then { s4 with outage.phase := .none } else s4

/-! ### Fatal faults -/

/-- Shut every gate-driven rail of a failed BOOT in down order; HALT follows (02 R58; 09 R485). An input fail of the same cycle has
precedence (02 R65). -/
def bootFails (cause : Nat) (s : State) : State :=
  if outranked 4 s then s else
  let s1 := walkDown [0, 1, 2, 3, 4] { s with life.haltPending := cause }
  if s1.rails.walk = .none then enterHalt cause true false s1 else s1

/-- HALT held in SUPERVISOR alone after a critical die temperature (02 R61; 09 R474). -/
def dieHalt (s : State) : State :=
  if s.life.dieHot then
    islandsRefresh (releaseEnables { s with life := { s.life with supervisorHalt := true, dieHot := false } })
  else s

/-- The cause of a WARN that a fatal fault starts; an input fail of the same cycle has precedence (02 R65). -/
def pathCause (s : State) : Cause := if outranked 4 s then .inputFail else .fatalFault

/-- A fatal fault (02 R57 to R62, R65; 11 R619, R644). -/
def fatalFault (s : State) : State :=
  match s.life.dev with
  | .restore | .serve => enterWarn true (pathCause s) s
  | .boot =>
    (match s.life.boot with
     | .warm _ => enterWarn true (pathCause s) s
     | _ => if s.life.haltPending = 0 then bootFails 5 s else s)
  | .warn => { s with life.fatalPath := true }
  | .simmer => enterSinter 7 { s with life.fatalPath := true }
  | .sinter => { s with life.fatalPath := true }
  | .halt =>
    let t := walkDown [0, 1, 2, 3, 4] s
    haltIslands (if t.rails.walk = .none then dieHalt t else t)
  | .keep => enterSleep .fatalFault s
  | _ => s

/-! ### What follows a down walk -/

/-- A down walk has ended: what waited for it goes on, unless a condition of higher rank ends the state in the same cycle (01 R20;
02 R58, R65, R108; 08 R422; 09 R474, R475, R485; 11 R597, R631). -/
def afterDown (s : State) : State :=
  match s.life.dev with
  | .boot =>
    if outranked 2 s then s
    else if s.life.haltPending ≠ 0 then enterHalt s.life.haltPending true false s
    else if s.outage.phase ≠ .none then enterKeep .inputFail s
    else s
  | .warn => saveOrder s
  | .keep => releaseEnables s
  | .halt =>
    if s.life.afterDown = 6 then (if outranked 1 s then haltIslands s else coldBoot 6 .request s)
    else if s.life.afterDown = 4 then enterSleep .inputFail s
    else haltIslands (dieHalt s)
  | .serve =>
    if outranked 1 s then s
    else if s.life.afterDown = 2 then coldBoot 5 .request (geyserStops s)
    else if s.life.afterDown = 4 then enterSleep .request (geyserStops s)
    else s
  | _ => s

/-- Start a down walk of some groups, and go on at once when there is nothing to shut. -/
def shutAll (groups : List Nat) (s : State) : State :=
  let t := walkDown groups s
  if t.rails.walk = .none then afterDown t else haltIslands t

/-! ### Firmware restarts -/

/-- What the end of step 6's preparation does to a trial (02 R81 to R85): the slot of this load. -/
def startFirmware (s : State) : State :=
  let limit := valueIn (storedValues s.nor) 0x2012 4
  let s1 := { s with life := { s.life with bootStep := 6, fwTrial := false, fwFallback := false, otherSlot := false, otherTrial := false } }
  if s.life.trialState = 0 then s1
  else if s.life.trialUsed < limit then
    keepWrite { s1 with life := { s1.life with trialState := 2, trialUsed := s.life.trialUsed + 1, fwTrial := true } }
  else raise (keepPend { s1 with life := { s1.life with trialState := 0, trialUsed := 0 } }) 67 .supervisor []

/-- A warm BOOT begins (02 R75 to R77, R109, R110; 01 R31; 08 R422). -/
def warmBoot (cause : Nat) (why : Cause) (s : State) : State :=
  let s1 := stopStreams .closeBoot 4 (closeSessions (bootBegins (geyserStops s)))
  let s2 := { s1 with
    life := { s1.life with
      resetCause := cause, boot := .warm s.life.dev, bootStep := 6, bootAt := s1.time.now, warmBoot := true, selfRefresh := true }
    adm.pubAt := none }
  startFirmware (enterState .boot why s2)

/-- An outage-path firmware restart (02 R80, R109, R110): the state and the path stay. -/
def outageRestart (s : State) : State :=
  if s.life.restarting then s
  else
    let s1 := bootBegins s
    startFirmware (islandsRefresh { s1 with
      life := { s1.life with resetCause := 7, restarting := true, bootStep := 6, bootAt := s1.time.now, warmBoot := true }
      adm.pubAt := none })

end Sys2Proof.Machine
end

