-- ==== Sys2Proof/Machine/DictLive.lean ====
section
/-! DEFINITION. What the dictionary's entries read: measured and reported values off the state, written values as CONTROL holds
them (the entry tables of 01 to 15). Amounts are rounded down to the entry's unit (log 18). -/

namespace Sys2Proof.Machine

/-! ### Codes -/

def Phase.code : Phase → Nat
  | .off => 0 | .inhibited => 1 | .precharge => 2 | .constCurrent => 3 | .constVoltage => 4 | .complete => 5 | .float => 6
  | .fault => 7 | .assist => 8

def OutPhase.code : OutPhase → Nat
  | .none => 0 | .preSinter => 1 | .warnWindow => 2 | .drain => 3 | .waitDrvact => 4 | .settle => 5 | .simmer => 6 | .copy => 7
  | .commit => 8 | .keep => 9 | .returning => 10

def DieRun.code : DieRun → Nat
  | .absent => 0 | .active => 1 | .retired => 2 | .probation => 3

def PortRun.code : PortRun → Nat
  | .noClock => 0 | .idle => 1 | .receiving => 2 | .error => 3

def StreamRun.code : StreamRun → Nat
  | .off => 0 | .waiting => 1 | .running => 2 | .suspended => 3 | .stopped => 4

def EncRun.code : EncRun → Nat
  | .off => 0 | .waiting => 1 | .encoding => 2 | .paused => 3 | .refused => 4

/-- A fraction of 1 in 0.01 %, rounded down. -/
def basisPoints (x : Rat) : Nat := (x * 10000).floor.toNat

/-- Whole seconds from the model's clock to a moment, 0 once it has passed. -/
def secondsTo (now : Nat) (t : Option Nat) : Nat :=
  match t with
  | some t => (t - now) / 1000000
  | none => 0

/-! ### Groups of entries -/

/-- 1000h to 1FFFh: what is not held by CONTROL as written. -/
def liveCom (s : State) (index sub : Nat) : Option Nat :=
  if index = 0x1000 then some 0
  else if index = 0x1001 then some (errorRegister s)
  else if index = 0x1014 then some s.emcyId
  else if index = 0x1018 then some (s.life.factory.ids.getD (sub - 1) 0)
  else if 0x1A00 ≤ index then some (Config.tpdoMapping (index - 0x1A00) sub).toNat
  else none

/-- 2000h to 21FFh. -/
def liveGlobal (s : State) (index sub : Nat) : Option Nat :=
  match index, sub with
  | 0x2000, 3 => some (bitIf s.life.factory.gradeE 0)
  | 0x2000, 4 => some s.life.factory.siliconRevision
  | 0x2000, 5 => some s.life.fwVersion.toNat
  | 0x2000, 7 => some s.life.dramGib
  | 0x2000, 8 => some ((List.finRange 16).filter (fun d => s.flash.die[d].state != .absent && s.flash.die[d].cause != 4)).length
  | 0x2010, 1 => some s.life.dev.code
  | 0x2010, 2 => some s.life.prev.code
  | 0x2010, 3 => some s.life.entryTime
  | 0x2010, 4 => some s.life.resetCause
  | 0x2010, 5 => some s.life.bootCount
  | 0x2010, 6 => some s.life.haltCause
  | 0x2010, 7 => some s.life.haltRepeat
  | 0x2012, 1 => some (bitIf s.life.activeB 0)
  | 0x2012, 2 => some s.life.trialState
  | 0x2020, 1 => some (fitCode s)
  | 0x2020, 3 => some (bitIf (geyserRuns s.packEst || geyserRuns s.bankEst) 0)
  | 0x2020, 4 => some s.mode.group
  | 0x2020, 7 => some (hostAttach s.port)
  | 0x2020, 8 => some (bitIf s.mode.expert.isSome 0)
  | 0x2020, 9 => some (outageEffective s).1
  | 0x2021, 2 => some (holderCode s.mode.expert)
  | 0x2030, 1 => some (bitIf s.mode.lock 0)
  | 0x2030, 2 => some s.nor.storeState
  | 0x2030, 3 => some s.nor.storeCount
  | 0x2100, 1 => some s.time.timeBase
  | 0x2100, 2 => some s.wallSeconds
  | 0x2100, 3 => some s.wallFraction
  | 0x2100, 4 => some (bitIf s.time.onRc 0)
  | 0x2102, 1 => some (bringUpFlags s.life)
  | 0x2102, 2 => some s.life.bootStep
  | 0x2102, 3 => some s.life.bootDuration
  | 0x2102, 4 => some s.flash.restoreTotal
  | 0x2102, 5 => some s.flash.restoreDoneShown
  | 0x2102, 6 => some s.flash.restoreRemaining
  | 0x2102, 7 => some s.flash.onDemandFetches
  | _, _ =>
    if index = 0x2101 ∧ 1 ≤ sub then some (s.isl.run[Fin.ofNat 11 (sub - 1)]).code else none

/-- 2200h to 24FFh. -/
def liveHost (s : State) (index sub : Nat) : Option Nat :=
  match index, sub with
  | 0x2200, 1 => some s.port.linkState
  | 0x2200, 2 => some s.port.linkSpeed
  | 0x2200, 3 => some s.port.linkWidth
  | 0x2200, 5 => some s.port.vfs
  | 0x2400, 1 => some s.cache.usable
  | 0x2400, 2 => some (s.cache.usable - s.cache.slots.length)
  | 0x2400, 3 => some (countSlots s.cache (·.dirty))
  | 0x2400, 4 => some (countSlots s.cache (fun q => !q.dirty))
  | 0x2400, 6 => some s.cache.handles.length
  | 0x2410, 1 => some s.adm.egTotal
  | 0x2410, 2 => some (min 0xFFFFFFFF (s.adm.dmaxNum * 1024 / s.adm.dmaxDen))
  | 0x2410, 3 => some s.adm.ceiling
  | 0x2410, 4 => some (freeRoom s)
  | 0x2410, 5 => some s.adm.stage
  | 0x2410, 6 => some s.adm.pubSeq
  | 0x2410, 7 => some (nextRecompute s)
  | 0x2410, 8 => some (imageBacked s)
  | 0x2420, 3 => some s.adm.eByte
  | _, _ => none

/-- `2501h`/`2581h` and `2510h`/`2590h`: what a channel reports. `index` is PACK's. -/
def liveChannel (s : State) (c : Channel) (index sub : Nat) : Option Nat :=
  let x := s.chan c
  let e := s.est c
  match index, sub with
  | 0x2501, 1 => some x.phase.code
  | 0x2501, 2 => some x.inhibit.toNat
  | 0x2501, 3 => some (presentTarget s c)
  | 0x2501, 4 => some x.targetFinal
  | 0x2501, 5 => some x.iset
  | 0x2501, 6 => some x.fault
  | 0x2501, 7 => some (balanceBits s.hold)
  | 0x2510, 1 => some (basisPoints e.socInt)
  | 0x2510, 2 => some (basisPoints e.socRep)
  | 0x2510, 3 => some (fccOf s c)
  | 0x2510, 4 => some (healthOf s c)
  | 0x2510, 5 => some e.cycles
  | 0x2510, 6 => some e.eg
  | 0x2510, 7 => some x.mv
  | 0x2510, 8 => some (twos 32 x.ma)
  | 0x2510, 9 => some (twos 16 x.dt)
  | 0x2510, 0x0A => some e.counter.toNat
  | 0x2510, 0x0B => some (basisPoints (uSoc s c))
  | 0x2510, 0x0C => some (estMode s c)
  | 0x2510, 0x0D => some e.quarantined
  | 0x2510, 0x0E => some (daysSince s c)
  | 0x2510, 0x0F => some e.geyser.code
  | 0x2510, 0x10 => some (resistance s c)
  | _, _ => none

/-- RailStatus as read: 0 unconfigured, 6 masked (09 R458, R499). -/
def railStatusOf (s : State) (r : Fin 12) : Nat :=
  if s.configured r = false then 0 else if (s.rl r).mask then 6 else (s.rl r).status.code

/-- GateState as read: 4 is a source switch (07 R372, 09 R469). -/
def gateStateOf (s : State) (g : Fin 8) : Nat := if s.isSourceGate g then 4 else s.rails.gate[g].state.code

/-- The discharge current an assist asks for, mA: GeyserCurrent, 0 while a sag holds it (07 R374, R375; 08 R419). -/
def assistSetpoint (s : State) (c : Channel) : Nat :=
  if s.hold.assistHeld then 0
  else
    match c with
    | .pack => cOf s .pack * s.cfg 0x2511 4 / 1000
    | .bank => s.cfg 0x2591 4

/-- `2720h:03`: the code a trim outputs; in an assist what the assist loop drives (07 R374 to R376; log 73). -/
def trimRead (s : State) (t : Fin 4) : Nat :=
  match s.hold.assist with
  | some c =>
    if s.cfg 0x2570 4 = t.val then (Config.assistCode (chanCode c) (assistSetpoint s c) (s.chan c).ma).toNat else trimCode s t
  | none => trimCode s t

/-- 2600h to 28FFh. -/
def liveRails (s : State) (index sub : Nat) : Option Nat :=
  if 0x2610 ≤ index ∧ index < 0x261C then
    let r : Fin 12 := Fin.ofNat 12 (index - 0x2610)
    match sub with
    | 0x10 => some (bitIf (s.rl r).mask 0)
    | 0x12 => some (s.rl r).mv
    | 0x13 => some (railStatusOf s r)
    | _ => none
  else if 0x2710 ≤ index ∧ index < 0x2718 then
    let g : Fin 8 := Fin.ofNat 8 (index - 0x2710)
    match sub with
    | 2 => some (gateStateOf s g)
    | 3 => some (s.rails.gate[g].lagMax)
    | _ => none
  else if 0x2720 ≤ index ∧ index < 0x2724 then
    (if sub = 3 then some (trimRead s (Fin.ofNat 4 (index - 0x2720))) else none)
  else if 0x2730 ≤ index ∧ index < 0x2734 then
    (if sub = 4 then some (s.rails.rst[Fin.ofNat 4 (index - 0x2730)]).code else none)
  else
    match index, sub with
    | 0x2600, 1 => some (bitIf (!s.life.scanReduced) 0)
    | 0x2600, 2 => some (twos 16 s.rails.dieTemp)
    | 0x2600, 3 => some s.rails.vkeep
    | 0x2700, 5 => some (sequenceState s)
    | 0x2700, 6 => some (bitIf s.rails.latched 0)
    | 0x2740, 8 => some s.tremor.counter
    | 0x2740, 9 => some s.tremor.walk.code
    | 0x2740, 0x0A => some (bitIf s.tremor.high 0)
    | 0x2800, 5 => some (if s.outage.phase = .none ∧ s.flash.preSinter then 1 else s.outage.phase.code)
    | 0x2810, 6 => some (secondsTo s.time.now s.outage.deadline)
    | 0x2810, 7 => some s.outage.drainPower
    | 0x2840, 1 => some s.outage.lastBytes
    | 0x2840, 2 => some s.outage.lastDuration
    | 0x2840, 3 => some s.outage.lastEnergy
    | 0x2840, 4 => some s.outage.lastSimmer
    | _, _ => none

/-- 2900h to 29FFh. -/
def liveFlash (s : State) (index sub : Nat) : Option Nat :=
  let x := s.flash
  if 0x2910 ≤ index ∧ index < 0x2920 then
    let d := x.die[Fin.ofNat 16 (index - 0x2910)]
    match sub with
    | 1 => some d.state.code
    | 3 => some (eraseMax d)
    | 4 => some (grownBad d)
    | 5 => some d.rebuildCount
    | 6 => some d.cause
    | 7 => some (if d.blocks = 0 then 0 else d.verified * 1000 / d.blocks)
    | _ => none
  else
    match index, sub with
    | 0x2900, 1 => some x.interface
    | 0x2900, 2 => some x.rate
    | 0x2900, 4 => some (activeDies x).length
    | 0x2900, 5 => some (activeDies x).length
    | 0x2901, 1 => some (erasedSlots x)
    | 0x2901, 2 => some (sinterSpace s)
    | 0x2901, 3 => some (stalePages x)
    | 0x2901, 4 => some (chainOf x).length
    | 0x2901, 5 => some (topEpoch x)
    | 0x2901, 6 => some (match x.committed with | some m => m.sequence | none => 0)
    | 0x2901, 9 => some x.imageState
    | _, _ => none

/-- 2A00h to 2FFFh. DESIGN CHOICE (log 126): the stored code that ExpertCodeSet tells is the one held in 2F00h:01, saved or not
(04 R160). -/
def liveVideo (s : State) (index sub : Nat) : Option Nat :=
  if 0x2A10 ≤ index ∧ index < 0x2A14 then
    let p := portOf s (Fin.ofNat 4 (index - 0x2A10))
    match sub with
    | 2 => some p.rate
    | 4 => some p.state.code
    | 5 => some p.errors
    | 6 => some p.unknown
    | _ => none
  else if 0x2A20 ≤ index ∧ index < 0x2A24 then
    (if sub = 4 then some (s.video.group[Fin.ofNat 4 (index - 0x2A20)]).ticks else none)
  else if 0x2A40 ≤ index ∧ index < 0x2A42 then
    let d := s.video.dec[Fin.ofNat 2 (index - 0x2A40)]
    match sub with
    | 0x0A => some d.state
    | 0x0B => some d.error
    | 0x0C => some d.pictures
    | _ => none
  else if 0x2E00 ≤ index ∧ index < 0x2E07 then
    let w := s.win[Fin.ofNat 7 (index - 0x2E00)]
    match sub with
    | 1 => some w.target
    | 2 => some w.offset
    | 3 => some w.length
    | 6 => some w.status
    | 7 => some w.crc.toNat
    | 8 => some (holderCode w.owner)
    | _ => none
  else if index = 0x2C00 ∧ 0x10 ≤ sub then
    some (if h : sub - 0x10 < 16 then s.dict.refusedMbx[sub - 0x10]'h
      else s.dict.refusedUsdo[Fin.ofNat 128 (sub - 0x20)])
  else
    match index, sub with
    | 0x2A00, 1 => some (pixelBudget s (encodes s) (decOpen s))
    | 0x2A00, 2 => some (entropyBudget s (encodes s) (decOpen s))
    | 0x2A00, 3 => some (poolDemand s (encodes s) / 1024)
    | 0x2A00, 4 => some s.video.ringFill
    | 0x2C00, 1 => some s.ev.written
    | 0x2C00, 3 => some s.ev.log.length
    | 0x2C00, 4 => some s.can.emcyDropped
    | 0x2F00, 1 => some 0
    | 0x2F00, 2 => some (bitIf (s.held 0x2F00 1 != 0) 0)
    | 0x2F00, 3 => some (secondsTo s.time.now s.mode.lockoutEnd)
    | 0x2F10, 2 => some s.flash.sanitizeState
    | _, _ => none

/-- 3000h to 3FFFh. -/
def liveTenant (s : State) (index sub : Nat) : Option Nat :=
  let n : Fin 16 := Fin.ofNat 16 ((index - 0x3000) / 256)
  match index % 256, sub with
  | 0x10, 3 => some (effPolicy s n)
  | 0x20, 2 => some (s.ten n).completed
  | 0x20, 3 => some (s.ten n).throttled
  | 0x20, 4 => some (frozenSlots s.cache n)
  | 0x20, 5 => some (s.ten n).writeSeq
  | 0x20, 6 => some (s.ten n).onDemand
  | 0x30, 5 => some (dirtySlots s.cache n)
  | 0x30, 6 => some (cleanSlots s.cache n)
  | 0x30, 7 => some (s.ten n).guaranteed
  | 0x30, 8 => some (headroom s n)
  | 0x30, 9 => some (admissionState s n)
  | 0x40, 1 => some (s.ten n).keyGen
  | 0x40, 2 => some (s.ten n).sanitized
  | 0x50, 4 => some (s.ev.ring[n]).entries
  | 0x50, 5 => some (s.ev.ring[n]).producer
  | 0x50, 6 => some (s.ev.ring[n]).consumer
  | 0x50, 7 => some (s.ev.ring[n]).lost
  | _, _ => none

/-- `4020h:02 LayerHasContent`. -/
def layerBits (x : Stream) : Nat := (List.finRange 4).foldl (fun m k => m + bitIf x.layers[k].current.isSome k.val) 0

/-- 4000h to 501Bh. -/
def liveStream (s : State) (index sub : Nat) : Option Nat :=
  if 0x5000 ≤ index then
    match sub with
    | 2 => some (s.ev.pendingBits[Fin.ofNat 28 (index - 0x5000)]).toNat
    | 5 => some (errorMask (index - 0x5000))
    | 6 => some (warningMask (index - 0x5000))
    | _ => none
  else
    let n : Fin 16 := Fin.ofNat 16 ((index - 0x4000) / 256)
    let x := strOf s n
    let e := encOf s n
    match index % 256, sub with
    | 0x00, 4 => some x.format
    | 0x00, 9 => some x.state.code
    | 0x00, 0x0A => some x.captured
    | 0x00, 0x0B => some x.dropped
    | 0x00, 0x0C => some x.inserted
    | 0x00, 0x0D => some x.inEffect
    | 0x10, 0x0A => some x.lastSet
    | 0x10, 0x0B => some x.pendingSets.length
    | 0x11, 5 => some x.cciResult
    | 0x20, 2 => some (layerBits x)
    | 0x40, 8 => some e.state.code
    | 0x40, 9 => some e.frames
    | 0x40, 0x0A => some (Config.bitrateMeasured n.val e.frames).toNat
    | 0x40, 0x0B => some (recOf s n).current
    | 0x43, 5 => some e.overflows
    | _, _ => none

/-- A value that is measured or reported rather than written. -/
def liveValue (s : State) (index sub : Nat) : Option Nat :=
  if index < 0x2000 then liveCom s index sub
  else if index < 0x2200 then liveGlobal s index sub
  else if index < 0x2500 then liveHost s index sub
  else if index = 0x2570 then (if sub = 5 then some (holdState s.hold) else none)
  else if index < 0x2580 then liveChannel s .pack index sub
  else if index < 0x2600 then liveChannel s .bank (index - 0x80) sub
  else if index < 0x2900 then liveRails s index sub
  else if index < 0x2A00 then liveFlash s index sub
  else if index < 0x3000 then liveVideo s index sub
  else if index < 0x4000 then liveTenant s index sub
  else liveStream s index sub

/-! ### The value of an entry -/

/-- The characters of a string. -/
def asciiBytes (t : String) : List Byte := t.toList.map (fun c => BitVec.ofNat 8 c.toNat)

/-- The visible strings, which end with 0x00 when shorter than 64 bytes (04 R133, R157). -/
def stringValue (s : State) (sub : Nat) : List Byte :=
  (match sub with
   | 1 => asciiBytes "Damaskern"
   | 2 => asciiBytes "ITQ-V16"
   | _ => s.life.factory.serial) ++ [0]

/-- The number an entry reads, counters modulo its width: sub-index 00 reads the highest sub-index (04 R132). A command that waits for
its island reads as the value stored (01 R27). -/
def entryNumber (s : State) (index sub : Nat) : Nat :=
  match rowOf index sub with
  | none => highestSub index
  | some r =>
    match liveValue s index sub with
    | some v => (s.storedCommand index sub).getD v % 256 ^ r.ty.size
    | none => s.held index sub

/-- The bytes an entry reads. -/
def entryBytes (s : State) (index sub : Nat) : List Byte :=
  match entryRow index sub with
  | none => []
  | some r => if r.ty = .str then stringValue s sub else leBytes r.ty.size (entryNumber s index sub)

end Sys2Proof.Machine
end

