-- ==== Sys2Proof/Machine/WindowOps.lean ====
section
/-! DEFINITION. Data windows: the objects they snapshot, their control operations and what a commit does (04 section 9; 08 R386 to
R388; 13 R751, R760; 15 R837). -/

namespace Sys2Proof.Machine

/-- What a dictionary request comes to: success, an answer that follows later (a store), or an abort code (04 R154). -/
inductive Answer where
  | ok
  | later
  | abort (code : Nat)
  deriving DecidableEq, Repr

/-- Abort codes (04 **Abort codes**). -/
def abSpecifier : Nat := 0x05040001
def abAccess : Nat := 0x06010000
def abNoRead : Nat := 0x06010001
def abNoWrite : Nat := 0x06010002
def abNoObject : Nat := 0x06020000
def abLength : Nat := 0x06070010
def abNoSub : Nat := 0x06090011
def abCode : Nat := 0x06090030
def abAbove : Nat := 0x06090031
def abBelow : Nat := 0x06090032
def abData : Nat := 0x08000020
def abState : Nat := 0x08000022
def abHidden : Nat := 0x0F000001
def abIsland : Nat := 0x0F000002
def abLock : Nat := 0x0F000003
def abHolder : Nat := 0x0F000004
def abOwner : Nat := 0x0F000005
def abNotOpen : Nat := 0x0F000006
def abBounds : Nat := 0x0F000007
def abCrc : Nat := 0x0F000008

/-! ### Objects -/

/-- A window's object may be read, and may be written (04 **Data windows**). -/
def winReads (w : Fin 7) : Bool := w != 2
def winWrites (w : Fin 7) : Bool := w == 0 || w == 2 || w == 3

/-- The channel of an EstimatorTables target (04 **Data windows**). -/
def tableChannel (target : Nat) : Channel := if target % 16 = 1 then .bank else .pack

/-- Bytes of the body of a table of a channel (08 **Profile bodies**). -/
def tableBytes (c : Channel) (table : Nat) : Nat :=
  match c, table with
  | .pack, 0 => 294 | .pack, 1 => 70 | .pack, 2 => 240 | .pack, _ => 636
  | .bank, 0 => 14 | .bank, 1 => 14 | .bank, 2 => 240 | .bank, _ => 300

/-- The longest object a window takes (04 **Data windows**). -/
def winMax (w : Fin 7) (target : Nat) : Nat :=
  match w with
  | 0 => 8388608
  | 1 => 16 * 4096
  | 2 => 4194304
  | 3 => 16 + tableBytes (tableChannel target) (target / 16 % 16)
  | 4 => 4096
  | 5 => 432
  | _ => 64

/-- A target names an object (04 **Data windows**): the range of Target; a code inside it that names nothing. -/
def targetCheck (w : Fin 7) (v : Nat) : Answer :=
  match w with
  | 0 => .ok
  | 1 | 4 => if v ≤ 1 then .ok else .abort abAbove
  | 2 => if v ≤ 63 then .ok else .abort abAbove
  | 3 => if 0x31 < v then .abort abAbove else if v % 16 ≤ 1 then .ok else .abort abCode
  | 5 => if v ≤ 15 then .ok else .abort abAbove
  | _ => if v = 0 then .ok else .abort abAbove

/-- The header of an estimator object (08 **Profile header**). -/
def profileHeader (chem table len : Nat) : List Byte :=
  leBytes 4 0x50515449 ++ leBytes 1 1 ++ leBytes 1 chem ++ leBytes 1 table ++ leBytes 1 0 ++ leBytes 2 len ++ leBytes 6 0

/-- Table 2 as it stands: 80 values, then 80 counts (08 **Profile bodies**). -/
def impedanceBody (s : State) (c : Channel) : List Byte :=
  (List.range 80).flatMap (fun i => leBytes 2 (impedanceCell s c i).1) ++
  (List.range 80).flatMap (fun i => leBytes 1 (impedanceCell s c i).2)

/-- The body of a table in force. -/
def tableBody (s : State) (c : Channel) (table : Nat) : List Byte :=
  let p := profileOf s c
  match table with
  | 0 => p.ocv.flatMap (leBytes 2)
  | 1 => p.capacity.flatMap (leBytes 2)
  | 2 => impedanceBody s c
  | _ => p.ocv.flatMap (leBytes 2) ++ p.capacity.flatMap (leBytes 2) ++ impedanceBody s c ++ p.params

/-- The event log as window `2E01h` reads it (15 R837). -/
def logBytes (s : State) (target : Nat) : List Byte :=
  (if target = 0 then s.ev.log.reverse else (keepBody s.keep).events).flatMap (fun r => recBytes r false)

/-- The object a window reads (04 **Data windows**). -/
def snapshotOf (s : State) (w : Fin 7) (target : Nat) : List Byte :=
  match w with
  | 0 => if target = 0 then s.nor.slotA.image else s.nor.slotB.image
  | 1 => logBytes s target
  | 3 =>
    let body := tableBody s (tableChannel target) (target / 16 % 16)
    profileHeader (chemistry s (tableChannel target)) (target / 16 % 16) body.length ++ body
  | 4 => match (if target = 0 then s.flash.committed else s.flash.previous) with
    | some m => manifestBytes s.flash m
    | none => []
  | 5 => match (strOf s (Fin.ofNat 16 target)).stats with
    | some x => statsBytes x
    | none => []
  | 6 => faultBytes s.rails.fault
  | _ => []

/-! ### Access -/

/-- Another session owns the window (04 R186). -/
def ownedByOther (p : Session) (x : Win) : Bool :=
  match x.owner with
  | some q => !p.same q
  | none => false

/-- The session owns the window. -/
def owns (p : Session) (x : Win) : Bool :=
  match x.owner with
  | some q => p.same q
  | none => false

/-- The Owner's access starts the idle time again (04 R190). -/
def touchWin (p : Session) (w : Fin 7) (s : State) : State :=
  if owns p s.win[w] then s.modWin w (fun x => { x with lastAccess := s.time.now }) else s

/-- Bytes of the open object, or the Length entry of a closed window. -/
def winLength (x : Win) : Nat := if x.owner.isSome then x.buf.length else x.length

/-- A number rounded up to a multiple of 4. -/
def up4 (n : Nat) : Nat := (n + 3) / 4 * 4

/-- A length that an access to Data may have (04 R183). -/
def dataLength (n : Nat) : Bool := n % 4 == 0 && decide (4 ≤ n) && decide (n ≤ 256)

/-- Read Data (04 R182 to R186): words from Offset, which then moves on. Words past Length are refused with the whole access
(log 60). -/
def readData (p : Session) (w : Fin 7) (n : Nat) (s : State) : State × Answer × List Byte :=
  let x := s.win[w]
  if ownedByOther p x then (s, .abort abOwner, [])
  else
    let t := touchWin p w s
    if dataLength n = false then (t, .abort abLength, [])
    else if x.status ≠ 1 ∨ owns p x = false then (t, .abort abNotOpen, [])
    else if x.buf.length ≤ x.offset ∨ up4 x.buf.length < x.offset + n then (t, .abort abBounds, [])
    else (t.modWin w (fun y => { y with offset := y.offset + n }), .ok,
      (List.range (n / 4)).flatMap (fun i => wordAt x.buf (x.offset + 4 * i)))

/-- Write Data (04 R182 to R186). -/
def writeData (p : Session) (w : Fin 7) (data : List Byte) (s : State) : State × Answer :=
  let x := s.win[w]
  if ownedByOther p x then (s, .abort abOwner)
  else
    let t := touchWin p w s
    if dataLength data.length = false then (t, .abort abLength)
    else if x.writing = false ∨ x.status = 3 ∨ owns p x = false then (t, .abort abNotOpen)
    else if x.buf.length ≤ x.offset ∨ up4 x.buf.length < x.offset + data.length then (t, .abort abBounds)
    else (t.modWin w (fun y => { y with buf := storeAt y.buf y.offset data, offset := y.offset + data.length }), .ok)

/-! ### Control -/

/-- Status lets a window be opened (04 R180, R181). -/
def mayOpen (x : Win) : Bool := x.status == 0 || x.status == 4 || x.status == 5

/-- Control = 1, open-read (04 R180). -/
def openRead (p : Session) (w : Fin 7) (s : State) : State × Answer :=
  let x := s.win[w]
  if ownedByOther p x then (s, .abort abOwner)
  else if winReads w = false then (s, .abort abNotOpen)
  else if mayOpen x = false then (s, .abort abState)
  else if w = 0 ∧ 1 < x.target then (s, .abort abAbove)
  else
    let b := snapshotOf s w x.target
    (s.modWin w (fun y => { y with
      status := 1, buf := b, length := b.length, crc := crc32 b, offset := 0, owner := some p, writing := false
      lastAccess := s.time.now }), .ok)

/-- Control = 2, open-write (04 R181). -/
def openWrite (p : Session) (w : Fin 7) (s : State) : State × Answer :=
  let x := s.win[w]
  if ownedByOther p x then (s, .abort abOwner)
  else if winWrites w = false then (s, .abort abNotOpen)
  else if mayOpen x = false then (s, .abort abState)
  else if x.length = 0 ∨ winMax w x.target < x.length then (s, .abort abBounds)
  else
    (s.modWin w (fun y => { y with
      status := 2, buf := List.replicate y.length 0, offset := 0, owner := some p, writing := true
      lastAccess := s.time.now }), .ok)

/-- States in which stores, window commits and locked entries are refused (04 R199). -/
def pathState (d : DevState) : Bool :=
  match d with
  | .warn => true | .simmer => true | .sinter => true | _ => false

/-- The expert session is held by a session (03 R127). -/
def holdsExpert (p : Session) (s : State) : Bool :=
  match s.mode.expert with
  | some q => p.same q
  | none => false

/-- Control = 3, commit (04 R187, R188, R193, R199): the CRC, for estimator tables the lock and the expert session, then
Status 3. -/
def commitWin (p : Session) (w : Fin 7) (s : State) : State × Answer :=
  let x := s.win[w]
  if ownedByOther p x then (s, .abort abOwner)
  else
    let t := touchWin p w s
    let failed := t.modWin w (fun y => { y with status := 5 })
    if pathState s.life.dev then (t, .abort abState)
    else if owns p x = false ∨ x.writing = false ∨ x.status = 3 then (t, .abort abNotOpen)
    else if crc32 x.buf ≠ x.crc then (failed, .abort abCrc)
    else if w = 3 ∧ s.mode.lock = false then (raise failed 19 .control [], .abort abLock)
    else if w = 3 ∧ holdsExpert p s = false then (raise failed 19 .control [], .abort abHidden)
    else (t.modWin w (fun y => { y with status := 3 }), .ok)

/-- Control = 4, abort (04 R190). A commit in progress is no open window (log 60). -/
def abortWin (p : Session) (w : Fin 7) (s : State) : State × Answer :=
  let x := s.win[w]
  if ownedByOther p x then (s, .abort abOwner)
  else if x.status = 3 then (s, .abort abState)
  else (closeWindow w false s, .ok)

/-- A write to a window's plain sub-entries: Target, Offset, Length, Crc (04 **Window sub-entries**, R186). -/
def writeWin (p : Session) (w : Fin 7) (sub v : Nat) (s : State) : State × Answer :=
  let x := s.win[w]
  if ownedByOther p x ∧ sub ≠ 7 then (s, .abort abOwner)
  else
    let t := touchWin p w s
    match sub with
    | 1 =>
      match targetCheck w v with
      | .ok => (t.modWin w (fun y => { y with target := v }), .ok)
      | a => (t, a)
    | 2 =>
      if v % 4 ≠ 0 then (t, .abort abCode)
      else if v ≠ 0 ∧ winLength x ≤ v then (t, .abort abAbove)
      else (t.modWin w (fun y => { y with offset := v }), .ok)
    | 3 =>
      if v = 0 then (t, .abort abBelow)
      else if winMax w x.target < v then (t, .abort abAbove)
      else (t.modWin w (fun y => { y with length := v }), .ok)
    | _ => (t.modWin w (fun y => { y with crc := BitVec.ofNat 32 v }), .ok)

/-! ### What a commit does -/

/-- The U16 values of a byte list. -/
def u16s : List Byte → List Nat
  | a :: b :: rest => (a.toNat + 256 * b.toNat) :: u16s rest
  | _ => []

/-- No point of a row of 21 lies below the one before it. -/
def rowRises : List Nat → Bool
  | a :: b :: rest => decide (a ≤ b) && rowRises (b :: rest)
  | _ => true

/-- OCV rows rise with SoC (08 R387); a BANK's table 0 holds no OCV. -/
def ocvRises (c : Channel) (l : List Nat) : Bool :=
  match c with
  | .pack => (List.range 7).all (fun i => rowRises ((l.drop (21 * i)).take 21))
  | .bank => true

/-- A body in its tables: OCV or capacitance, usable capacity or ESR, impedance, counts, parameter block. -/
structure Body where
  ocv : List Nat
  capacity : List Nat
  impedance : List Nat
  counts : List Nat
  params : List Byte
  deriving DecidableEq, Repr

/-- Cut a body of table `k` of a channel into its tables. -/
def cutBody (c : Channel) (k : Nat) (b : List Byte) : Body :=
  let n0 := tableBytes c 0
  let n1 := tableBytes c 1
  let imp := fun (b : List Byte) => (u16s (b.take 160), ((b.drop 160).take 80).map (·.toNat))
  match k with
  | 0 => ⟨u16s b, [], [], [], []⟩
  | 1 => ⟨[], u16s b, [], [], []⟩
  | 2 => ⟨[], [], (imp b).1, (imp b).2, []⟩
  | _ =>
    let r := imp (b.drop (n0 + n1))
    ⟨u16s (b.take n0), u16s ((b.drop n0).take n1), r.1, r.2, b.drop (n0 + n1 + 240)⟩

/-- The checks of an estimator commit (08 R386, R387): header, length, rising OCV, no value 0. The sample counts and the parameter
block may hold 0 (log 61). -/
def tableOk (s : State) (target : Nat) (b : List Byte) : Bool :=
  let c := tableChannel target
  let k := target / 16 % 16
  let body := b.drop 16
  let t := cutBody c k body
  layerField b 0 4 == 0x50515449 && layerField b 4 1 == 1 && layerField b 5 1 == chemistry s c && layerField b 6 1 == k &&
  layerField b 8 2 == tableBytes c k && b.length == 16 + tableBytes c k && chanConfigured s c && ocvRises c t.ocv &&
  !(t.ocv ++ t.capacity ++ t.impedance).contains 0

/-- A committed table waits for the channel's next publication (08 R388). Empty `counts` leave the learned impedance as it is. -/
def stageTable (target : Nat) (b : List Byte) (s : State) : State :=
  let c := tableChannel target
  let t := cutBody c (target / 16 % 16) (b.drop 16)
  let base := (s.est c).pendingProfile.getD { profileOf s c with counts := [] }
  let pick := fun (a b : List Nat) => if a.isEmpty then b else a
  s.setEst c { s.est c with
    pendingProfile := some { chemistry := chemistry s c, ocv := pick t.ocv base.ocv, capacity := pick t.capacity base.capacity
                             impedance := pick t.impedance base.impedance, counts := pick t.counts base.counts
                             params := if t.params.isEmpty then base.params else t.params } }

/-- The waiting table takes effect (08 R388, R404). -/
def loadTable (c : Channel) (s : State) : State :=
  match (s.est c).pendingProfile with
  | none => s
  | some p =>
    let cells := if p.counts.isEmpty then (s.est c).impedance
      else (List.range 80).map (fun i => (i, (p.impedance.getD i 0, p.counts.getD i 0)))
    raise (s.setEst c { s.est c with
      profile := some p, pendingProfile := none, impedance := cells, mismatch := false }) (chanEv c 155) .control []

/-- A firmware image enters the slot that is not active and is marked trial pending (02 R71a; 04 R192). -/
def storeFirmware (image : List Byte) (s : State) : State :=
  let slot : FwSlot := ⟨image, true⟩
  let nor := if s.life.activeB then { s.nor with slotA := slot } else { s.nor with slotB := slot }
  keepPend { s with nor := nor, life := { s.life with trialState := 1, trialUsed := 0 } }

/-- A bitmap enters the next buffer of its layer (13 R751). -/
def storeLayer (target : Nat) (b : List Byte) (s : State) : State :=
  s.modStream (Fin.ofNat 16 (target / 4)) (fun x => { x with
    layers := vmod x.layers (Fin.ofNat 4 target) (fun l => { l with next := some b }) })

/-- A commit ends (04 R188): Status 4 or 5, its event, and the Owner released. -/
def endCommit (w : Fin 7) (ok : Bool) (s : State) : State :=
  raise (s.modWin w (fun x => { x with status := if ok then 4 else 5, owner := none, buf := [], writing := false }))
    (if ok then 18 else 19) .control []

/-- The object's checks and effect (04 R188, R192; 08 R387, R388; 13 R751, R760). `r` is what the firmware's verification, write and
read-back gave: an image that does not verify is not written. -/
def finishCommit (w : Fin 7) (r : CommitEnd) (s : State) : State :=
  let x := s.win[w]
  if x.status ≠ 3 then s
  else if w = 0 then
    endCommit w (r == .written) (match r with | .written => storeFirmware x.buf s | .rejected => s | .failed => spoilFirmware s)
  else if w = 2 then
    let n : Fin 16 := Fin.ofNat 16 (x.target / 4)
    let good := layerOk x.buf (x.target % 4) (s.sc n 0x4000 2) (s.sc n 0x4000 3)
    endCommit w good (if good then storeLayer x.target x.buf s else s)
  else
    let good := tableOk s x.target x.buf
    endCommit w good (if good then stageTable x.target x.buf s else s)

end Sys2Proof.Machine
end

