-- ==== Sys2Proof/Machine/CciOps.lean ====
section
/-! DEFINITION. The CCI masters: exposure-set bursts and direct transfers, and when each may be sent (13 section 3). -/

namespace Sys2Proof.Machine

/-- The stream has had its first frame and has not stopped (13 R731, R735). -/
def streamLive (s : State) (n : Fin 16) : Bool :=
  match (strOf s n).state with
  | .running => true | .suspended => true | _ => false

/-- The stream is in a vertical blanking. -/
def inBlanking (s : State) (n : Fin 16) : Bool :=
  streamLive s n && (strOf s n).cur.isNone && (strOf s n).endAt.isSome

/-- Address bytes of a stream's sensor (13 R721). -/
def addressBytes (s : State) (n : Fin 16) : Nat := if s.sc n 0x4000 7 = 1 then 2 else 1

/-- Bit periods of a write of `c` data bytes (13 R727). -/
def writeBits (a c : Nat) : Nat := (a + c + 1) * 9 + 2

/-- Data bytes of a staged write (13 R722). -/
def stagedCount (w : BitVec 64) : Nat := w.toNat / 65536 % 256

/-- Time of some bit periods, µs, at the port's rate (13 R721, R727). -/
def bitTime (s : State) (n : Fin 16) (bits : Nat) : Rat := (bits * 1000 : Nat) / (s.cfg (0x2A10 + (portNo s n).val) 3 : Rat)

/-- Burst time of a set, µs (13 R727). -/
def burstTime (s : State) (n : Fin 16) (x : ExpSet) : Rat :=
  bitTime s n (x.writes.foldl (fun a w => a + writeBits (addressBytes s n) (stagedCount w)) 0)

/-- Time of a direct transfer, µs, by the formula of a write (13 R735; log 63). -/
def directTime (s : State) (n : Fin 16) : Rat := bitTime s n (writeBits (addressBytes s n) (s.sc n 0x4011 3))

/-- The blanking budget, µs (13 R728). -/
def blankingBudget (x : Stream) : Nat := if x.blankings.length < 2 then 500 else leastOf x.blankings - 50

/-- A transfer of some microseconds that starts now ends within the budget of the present blanking (13 R729, R735). -/
def fitsBlanking (s : State) (n : Fin 16) (time : Rat) : Bool :=
  match (strOf s n).endAt with
  | some e => decide (((s.time.now - e : Nat) : Rat) + time ≤ (blankingBudget (strOf s n) : Rat))
  | none => false

/-- The CCI of a port carries nothing. -/
def cciFree (s : State) (p : Fin 4) : Bool :=
  (portOf s p).burst.isNone && (List.finRange 16).all (fun n => !((strOf s n).cciRunning && portNo s n == p))

/-- The set's bytes as they go on the wire: sensor address, register address and data, most significant byte first (13 R721). -/
def wireBytes (a : Nat) (sensor : Nat) (w : BitVec 64) : List Byte :=
  leBytes 1 (2 * sensor) ++ (leBytes a w.toNat).reverse ++ (leBytes (stagedCount w) (w.toNat / 2 ^ 24)).reverse

/-- Start the burst of a set (13 R726). -/
def startBurst (n : Fin 16) (x : ExpSet) (s : State) : State :=
  let p := portNo s n
  x.writes.foldl (fun t w => t.send (.cci p (w.toNat % 65536) (wireBytes (addressBytes s n) (s.sc n 0x4000 6) w)))
    (s.modPort p (fun y => { y with burst := some (n, x.id, (strOf s n).number, false) }))

/-- A set and every later one wait for the next blanking (13 R729, R733). -/
def holdSets (id : Nat) (x : Stream) : Stream :=
  { x with pendingSets := x.pendingSets.map (fun q => if id ≤ q.id then { q with due := false } else q) }

/-- Start the direct transfer that waits (13 R735). -/
def startDirect (n : Fin 16) (s : State) : State :=
  let w : BitVec 64 := BitVec.ofNat 64 (s.sc n 0x4011 1 + s.sc n 0x4011 3 * 65536 + s.sc n 0x4011 2 * 2 ^ 24)
  let bytes := if (strOf s n).cciOp = 1 then wireBytes (addressBytes s n) (s.sc n 0x4000 6) w
    else wireBytes (addressBytes s n) (s.sc n 0x4000 6) (BitVec.ofNat 64 (s.sc n 0x4011 1))
  (s.modStream n (fun x => { x with cciRunning := true })).send (.cci (portNo s n) (s.sc n 0x4011 1) bytes)

/-- A direct transfer waits and may start now. -/
def directDue (s : State) (n : Fin 16) : Bool :=
  (strOf s n).cciOp != 0 && !(strOf s n).cciRunning &&
  (!streamLive s n || (inBlanking s n && fitsBlanking s n (directTime s n)))

/-- What stream n sends next, if its bus is free (13 R726, R729, R731, R735). The master needs no clock lane: it is what starts a
camera (log 97). -/
def pumpStream (n : Fin 16) (s : State) : State :=
  if cciFree s (portNo s n) = false ∨ captureState s n = false then s
  else
    match (strOf s n).pendingSets.find? (fun x => x.due) with
    | some x =>
      if streamLive s n = false then startBurst n x s
      else if inBlanking s n = false then s
      else if fitsBlanking s n (burstTime s n x) then startBurst n x s
      else
        let t := raise (s.modStream n (holdSets x.id)) (streamEv n.val 7) .capture [(4, x.id)]
        if directDue t n then startDirect n t else t
    | none => if directDue s n then startDirect n s else s

/-- The streams of a port go on in rising number. -/
def pumpPort (p : Fin 4) (s : State) : State := forAll 16 (fun t n => if portNo t n = p then pumpStream n t else t) s

end Sys2Proof.Machine
end

