-- ==== Sys2Proof/Machine/Effects.lean ====
section
/-! DEFINITION. What a write to an entry does beyond holding the value: requests, commands and checks, each by the rule of the
chapter that owns the entry. Each answers as the dictionary does. -/

namespace Sys2Proof.Machine

/-! ### Life cycle, modes, sessions -/

/-- A life-cycle request is refused (02 R65, R108; 04 R155). -/
def refuseRequest (s : State) : State × Answer := (raise s 73 .control [], .abort abState)

/-- LifeCycleRequest = 1, firmware restart (02 R65, R75, R108). -/
def reqFirmware (s : State) : State × Answer :=
  if (s.life.dev = .serve ∨ s.life.dev = .restore) ∧ outranked 1 s = false then (warmBoot 3 .request s, .ok) else refuseRequest s

/-- LifeCycleRequest = 2 or 4: the down order, then what `next` names (02 R103, R108; 10 R564). -/
def reqDown (next : Nat) (s : State) : State × Answer :=
  if s.life.dev = .serve ∧ noDirty s.cache ∧ outranked 1 s = false then
    let t := { s with life.afterDown := next }
    (if stepsWithGroup s then wantDown .request t else shutAll [0, 1, 2, 3, 4] t, .ok)
  else refuseRequest s

/-- LifeCycleRequest = 3, clear HALT (02 R107, R108; 09 R532): the rails that are up go down, then a cold BOOT. -/
def reqClearHalt (s : State) : State × Answer :=
  if s.life.dev = .halt ∧ outranked 1 s = false then
    let t := keepWrite { s with
      rails := { s.rails with latched := false, fault := FaultRec.reset }
      life := { s.life with haltRepeat := 0, afterDown := 6 } }
    (shutAll [0, 1, 2, 3, 4] t, .ok)
  else refuseRequest s

/-- `2011h:01 LifeCycleRequest` (02 R108). -/
def reqLife (v : Nat) (s : State) : State × Answer :=
  match v with
  | 1 => reqFirmware s
  | 2 => reqDown 2 s
  | 3 => reqClearHalt s
  | _ => reqDown 4 s

/-- `2020h:06 Encryption` (03 R119). -/
def setEncryption (v : Nat) (s : State) : State × Answer :=
  if v = s.cfg 0x2020 6 ∨ (noDirty s.cache ∧ imageHoldsDirty s.flash = false) then
    (s.setHeld 0x2020 6 v, .ok)
  else (raiseWord s 11 .control (Config.openWord 11 0), .abort abState)

/-- Ten minutes in µs (04 R161). -/
def tenMinutes : Nat := 600000000

/-- ExpertOpen is refused (03 R124; 04 R161). -/
def refuseExpert (code : Nat) (s : State) : State × Answer := (raise s 14 .control [], .abort code)

/-- A wrong expert code: the fifth within 10 min starts the lockout (04 R161). -/
def wrongCode (s : State) : State × Answer :=
  let recent := s.time.now :: s.mode.expertRefusals.filter (fun t => decide (s.time.now < t + tenMinutes))
  let t := if 5 ≤ recent.length
    then { s with mode.expertRefusals := [], mode.lockoutEnd := some (s.time.now + tenMinutes) }
    else { s with mode.expertRefusals := recent }
  refuseExpert abData t

/-- The expert session opens for a session (03 R126, R129). -/
def openExpert (p : Session) (s : State) : State × Answer :=
  (raise { s with mode.expert := some p, mode.expertLast := s.time.now } 12 .control [(1, p.code)], .ok)

/-- `2021h:01 ExpertOpen` (03 R123 to R129, **Mode matrix**; 04 R161). -/
def setExpert (p : Session) (v : Nat) (s : State) : State × Answer :=
  if holdsExpert p s ∧ v = 0 then (closeExpert s, .ok)
  else if s.mode.lockoutEnd.isSome then refuseExpert abState s
  else if s.mode.expert.isSome then refuseExpert abHolder s
  else if (match p with | .mailbox _ => hostAttach s.port == 1 | .usdo _ => false) then refuseExpert abState s
  else if s.held 0x2F00 1 = 0 ∨ v = s.held 0x2F00 1 then openExpert p s
  else wrongCode s

/-- `2030h:01 ConfigLock` (04 R143, R144). -/
def setLock (p : Session) (v : Nat) (s : State) : State × Answer :=
  if v = 0 then (closeLock (some p) s, .ok)
  else if s.mode.lock then (s, .ok)
  else (raise { s with mode.lock := true } 15 .control [(1, 1), (1, p.code)], .ok)

/-- The first wall clock write after wake gives the true days asleep (08 R440, R441). -/
def trueDays (wall : Nat) (s : State) : State :=
  match s.packEst.startSnap with
  | some x =>
    if s.time.wallSet = false ∧ s.packEst.awaiting ∧ x.wallSet then
      let d : Rat := ((wall / 1000000 - x.wall : Nat) : Rat) / 5662310400
      s.setEst .pack { s.packEst with
        socInt := max 0 (min 1 (s.packEst.socInt + sleepLoss s x (s.cfg 0x2511 8) - sleepLoss s x d)) }
    else s
  | none => s

/-- Set the wall clock (01 R45; 08 R440, R441). -/
def setWall (seconds fraction : Nat) (s : State) : State :=
  let w := seconds * 65536000000 + fraction * 1000000
  let t := trueDays w s
  { t with time := { t.time with wallSet := true, wall := w } }

/-! ### Store and restore -/

/-- The store signature "save", and the restore signature "load" (04 R146, R147). -/
def saveSignature : Nat := 0x65766173
def loadSignature : Nat := 0x64616F6C

/-- A store may not start (04 R151). -/
def storeRefused (s : State) : Bool :=
  pathState s.life.dev || (s.life.dev == .halt && s.life.haltCause == 1) || s.nor.storing.isSome

/-- `1010h:01` to `:03` (04 R146, R148, R151). -/
def startStore (p : Session) (k : StoreKind) (v : Nat) (s : State) : State × Answer :=
  if v ≠ saveSignature then (s, .abort abData)
  else if storeRefused s then (s, .abort abState)
  else ({ s with nor := { s.nor with storing := some (k, p), storeState := 1 } }, .later)

/-- The copy in use is marked void. -/
def voidCopy (x : Nor) : Nor :=
  if x.copyA.valid ∧ (x.copyB.valid = false ∨ x.copyB.seq < x.copyA.seq) then { x with copyA := { x.copyA with void := true } }
  else if x.copyB.valid then { x with copyB := { x.copyB with void := true } }
  else x

/-- `1011h:01 RestoreDefaultsAll` (04 R147, R148). DESIGN CHOICE (log 125): it is accepted while a store runs, and the copy that this
store then writes is not void. -/
def restoreDefaults (v : Nat) (s : State) : State × Answer :=
  if v ≠ loadSignature then (s, .abort abData) else ({ s with nor := voidCopy s.nor }, .ok)

/-- A store covers an entry (04 R146). -/
def storeCovers (k : StoreKind) (key_ : Nat) : Bool :=
  match k with
  | .all => true
  | .communication => decide (key_ / 256 < 0x2000)
  | .application => decide (0x2000 ≤ key_ / 256)

/-- The values a store saves: what it covers from the values in force, the rest from the copy in use (04 R146, R149). -/
def savedValues (k : StoreKind) (s : State) : SMap Nat :=
  let new := s.dict.values.filter (fun q => isStored q.1 && storeCovers k q.1)
  let old := (storedValues s.nor).filter (fun q => !storeCovers k q.1)
  old.foldl (fun m q => mapSet m q.1 q.2) new

/-- The next sequence number of the configuration copies. -/
def nextCopySeq (x : Nor) : Nat := match storedCopy x with | some c => c.seq + 1 | none => 1

/-- Write the older of the two copies (04 R149). -/
def writeCopy (c : NorCopy) (x : Nor) : Nor :=
  if x.copyA.valid ∧ (x.copyB.valid = false ∨ x.copyB.seq < x.copyA.seq) then { x with copyB := c } else { x with copyA := c }

/-! ### Admission, energy and estimation -/

/-- `2420h:05 EByteReset` (06 R323). It enters admission at the next publication. -/
def resetEByte (s : State) : State := keepPend { s with adm.eByte := 6000 }

/-- A channel fault is cleared (07 R361). -/
def clearChannel (c : Channel) (s : State) : State :=
  keepPend (chargesRefresh (s.setChan c { s.chan c with fault := 0 }))

/-- A channel's configuration was written: its charger is released, and it counts as fitted
again once a sample detects it (07 R340; log 64). -/
def redetect (c : Channel) (s : State) : State :=
  modesRefresh (chargesRefresh (s.setChan c { s.chan c with fitted := false, full := false }))

/-- GeyserRequest (08 R422, R423). -/
def reqGeyser (c : Channel) (v : Nat) (s : State) : State × Answer :=
  if v = 2 then (geyserEnds (geyserAbort c s), .ok)
  else if geyserMayStart s c then (modesRefresh (geyserBegin c s), .ok)
  else (s, .abort abState)

/-- The charge targets that slew start again from where they stand, before their rate changes (07 R354). -/
def anchorCharge (c : Channel) (s : State) : State :=
  s.setChan c { s.chan c with target := presentTarget s c, slewAt := s.time.now }

/-! ### Rails -/

/-- `2610h:10 Mask` (09 R499 to R501). An unmasked rail that was up waits to count again; `ramped` then reads false for a gated
rail and true for another one. -/
def setMask (r : Fin 12) (v : Nat) (s : State) : State :=
  if (s.rl r).mask = decide (v = 1) then s
  else
    raise (s.modRail r (fun x =>
      if v = 1 then { x with mask := true, outRun := 0, inRun := 0 }
      else { x with
        mask := false, outRun := 0, inRun := 0
        ramped := (x.ramped && !x.status.up) || s.railCfg r 0x08 != 1
        status := if x.status.up then .pending else x.status })) 309 .supervisor []

/-- Switch is accepted (09 R504). -/
def switchOk (s : State) (r : Fin 12) : Bool :=
  s.gated r && (s.life.dev == .serve || s.life.dev == .restore || s.life.dev == .halt)

/-- `2610h:11 Switch` = 0 (01 R20; 09 R502, R504). -/
def switchOff (r : Fin 12) (s : State) : State × Answer :=
  if switchOk s r = false then (s, .abort abState)
  else if s.driven r then (haltIslands (dropRail .command .off r s), .ok)
  else (s.modRail r (fun x => { x with status := .off, offBy := .command }), .ok)

/-- `2610h:11 Switch` = 1 (09 R503, R504). -/
def switchOn (r : Fin 12) (s : State) : State × Answer :=
  if switchOk s r = false then (s, .abort abState)
  else if s.driven r then (s, .ok)
  else (rampRail r (s.modRail r (fun x => { x with offBy := .command })), .ok)

/-- A trim that slews starts again from where it stands, before its rate changes (09 R514). -/
def anchorTrim (t : Fin 4) (s : State) : State :=
  if s.rails.trim[t].slewing then trimTo t s.rails.trim[t].target s else s

/-- `2730h:03 ResetPulse` (09 R509). A reset that is low for its rail stays as it is. -/
def pulseReset (k : Fin 4) (s : State) : State :=
  if s.rails.rst[k] = .asserted then s else { s with rails.rst := vset s.rails.rst k .stretching }

/-- `2730h:01 ResetRail` names another rail (09 R505 to R507). -/
def resetRailChanged (k : Fin 4) (s : State) : State :=
  let v := s.cfg (0x2730 + k.val) 1
  let ok := if v < 12 then (s.rl (Fin.ofNat 12 v)).status == .good && (s.saveGroup (Fin.ofNat 12 v) != 1 || s.port.ready)
    else s.life.dev != .boot
  let old := s.rails.rst[k]
  { s with rails.rst := vset s.rails.rst k (if ok then (if old = .asserted then .stretching else old) else .asserted) }

/-! ### Flash -/

/-- There is an image to release: a manifest is committed, and its base has not been released (12 R689, R690). -/
def imageToRelease (x : Flash) : Bool := x.committed.isSome && !x.released

/-- `2901h:0A ReleaseRequest` (12 R689). It waits until a release may start; with no image there is nothing to release (log 110). -/
def reqRelease (s : State) : State := { s with flash.releaseWanted := imageToRelease s.flash }

/-- `2910h:02 DieCommand` = 1 (12 **Die transitions**). -/
def retireCommand (d : Fin 16) (s : State) : State × Answer :=
  match s.flash.die[d].state with
  | .active => (retireDie d 5 s, .ok)
  | .probation => (endProbation d s, .ok)
  | _ => (s, .abort abState)

/-- `2910h:02 DieCommand` = 2 (12 **Die transitions**, R696). -/
def returnCommand (d : Fin 16) (answers : Bool) (s : State) : State × Answer :=
  let t := flashDo d .readStatusEnhanced s
  if s.flash.die[d].state = .retired ∧ s.life.dev = .serve then
    if answers then (raise (t.modDie d (fun x => { x with state := .probation, verified := 0 })) (592 + d.val) .flash [], .ok)
    else (t, .abort abState)
  else (s, .abort abState)

/-- Drop every slot of a tenant and name its blocks of the image in the next removal list; with encryption on its key is replaced
(12 R702, R704). What an open epoch holds of the tenant does not come back, and the epoch takes the new generation (12 R668). -/
def sanitizeTenant (keys : Bool) (n : Fin 16) (s : State) : State :=
  let copies := (imageCopies (chainOf s.flash)).filter (fun p => p.2.2.tenant == n)
  let rs : List Removal := copies.map (fun p => ⟨p.2.2.tenant, p.2.2.volume, p.2.2.lba⟩)
  let t := { s with
    cache := eraseSlots s.cache (fun q => q.tenant == n)
    flash.removals := s.flash.removals ++ rs.filter (fun r => !s.flash.removals.contains r) }
  let u := { t with flash.open_ := t.flash.open_.map (fun e => { e with
    dead := e.dead ++ ((e.copies.zipIdx.filter (fun p => p.1.tenant == n && !e.dead.contains p.2)).map (·.2))
    keyGens := if keys then e.keyGens.set n.val ((s.ten n).keyGen + 1) else e.keyGens }) }
  if keys then u.modTen n (fun x => { x with keyGen := x.keyGen + 1, hasKey := true }) else u

/-- Sanitize is accepted (12 R705). -/
def sanitizeOk (s : State) : Bool :=
  s.life.dev == .serve || (s.life.dev == .restore && s.cfg 0x2020 6 == 1)

/-- `2F10h:01 Sanitize` (12 R704 to R706). -/
def startSanitize (v : Nat) (s : State) : State × Answer :=
  if sanitizeOk s = false then (s, .abort abState)
  else
    let keys := s.cfg 0x2020 6 == 1
    let s1 := raise s 522 .control []
    let s2 := forAll 16 (fun t n => if v = 0xFF ∨ v = n.val then sanitizeTenant keys n t else t) s1
    let s3 := stageRefresh (if keys then s2 else releaseImage (if s2.flash.open_.isEmpty then s2 else cancelEpoch s2))
    ({ s3 with flash := { s3.flash with sanitizeState := 1, sanitizeKeys := keys } }, .ok)

/-! ### Capture and video -/

/-- The staged writes of a stream that are used (13 R722). -/
def stagedWrites (s : State) (n : Fin 16) : List (BitVec 64) :=
  ((List.range 8).map (fun i => BitVec.ofNat 64 (s.held (blockIndex 0x4010 n.val) (i + 1)))).filter (fun w => stagedCount w != 0)

/-- Clear the staging (13 R723). -/
def clearStaging (n : Fin 16) (s : State) : State :=
  (List.range 8).foldl (fun t i => t.setHeld (blockIndex 0x4010 n.val) (i + 1) 0) s

/-- `4010h:09 ExposureCommit` = 1 (13 R723 to R725, R731). -/
def commitExposure (n : Fin 16) (s : State) : State × Answer :=
  if 4 ≤ (strOf s n).pendingSets.length then (s, .abort abState)
  else
    let id := (strOf s n).lastSet + 1
    let set : ExpSet := ⟨id, stagedWrites s n, 0, !streamLive s n⟩
    (pumpStream n (clearStaging n (s.modStream n (fun x => { x with
      lastSet := id, pendingSets := x.pendingSets ++ [set] }))), .ok)

/-- `4011h:04 CciOp` (13 R735). A second transfer while one is pending is refused (log 63). -/
def directCci (n : Fin 16) (op : Nat) (s : State) : State × Answer :=
  if (strOf s n).cciOp ≠ 0 then (s, .abort abState)
  else (pumpStream n (s.modStream n (fun x => { x with cciOp := op, cciResult := 1 })), .ok)

/-- `2020h:05 VideoMode` was written (03 **Mode dimensions**; 14 R784). -/
def videoModeChanged (s : State) : State :=
  if videoOn s then admitStreams s
  else forAll 16 (fun t n => if (encOf t n).state = .off then t else stopEncode n .request .closeStop 0 .off t) s

/-- A decode session is served (14 R816). -/
def decodeServed (s : State) : Bool := s.cfg 0x2020 5 == 2 && hostAttach s.port == 0

/-- The budgets refuse: some figure lies above its limit and above what it was (14 R783). -/
def budgetsRefuse (s : State) (p : Fin 16 → Bool) (q : Fin 2 → Bool) (s' : State) (p' : Fin 16 → Bool) (q' : Fin 2 → Bool) : Bool :=
  (decide (1000 < pixelBudget s' p' q') && decide (pixelBudget s p q < pixelBudget s' p' q')) ||
  (decide (1000 < entropyBudget s' p' q') && decide (entropyBudget s p q < entropyBudget s' p' q')) ||
  (decide (392 * 1048576 < poolDemand s' p') && decide (poolDemand s p < poolDemand s' p'))

/-- The write or the opening is refused for the budgets (14 R783). -/
def refuseBudget (s : State) : State × Answer := (raise s 1731 .control [], .abort abState)

/-- `2A40h:01 Control` = 1 (14 R816, R817, R821). -/
def openDecode (d : Fin 2) (s : State) : State × Answer :=
  if decodeServed s = false ∨ decOpen s d then (s, .abort abState)
  else if budgetsRefuse s (encodes s) (decOpen s) s (encodes s) (fun k => k == d || decOpen s k) then refuseBudget s
  else
    (raise (s.modDec d (fun _ => ⟨1, 0, 0, false, 0, 0, none⟩)) (1732 + d.val) .entropy
      [(1, (Config.causeCode .decodeRequest).toNat)], .ok)

/-- `2A40h:01 Control` = 2 (14 R821). -/
def closeDecode (d : Fin 2) (s : State) : State := closeSession d (Config.causeCode .decodeRequest).toNat s

/-- `2A40h:01 Control` = 3 (14 R821). -/
def endDecode (d : Fin 2) (s : State) : State × Answer :=
  if decOpen s d then (s.modDec d (fun x => { x with ending := true }), .ok) else (s, .abort abState)

/-- `4040h:0C ForceIdr` (14 R795). -/
def forceIdrNow (n : Fin 16) (s : State) : State := if admitted s n then dueIdr n .idrForced s else s

/-! ### Events -/

/-- `5000h:03 Acknowledge` (15 R827, R829). -/
def acknowledge (b : Fin 28) (v : Nat) (s : State) : State :=
  { s with ev.pendingBits := vmod s.ev.pendingBits b (fun w => w &&& ~~~(BitVec.ofNat 64 v)) }

/-- `2C00h:05 ClearLog` (15 R838). -/
def emptyLog (s : State) : State := raise { s with ev.log := [] } 0 .control []

/-- `3050h:04 EventRingEntries` (15 R844, R845). -/
def setRing (n : Fin 16) (v : Nat) (s : State) : State :=
  { s with ev.ring := vset s.ev.ring n { s.ev.ring[n] with entries := v, producer := 0, consumer := 0, phase := true } }

/-- `3050h:06 EventRingConsumer`: an index into the ring (15 R846). -/
def setConsumer (n : Fin 16) (v : Nat) (s : State) : State × Answer :=
  if v < s.ev.ring[n].entries then
    ({ s with ev.ring := vset s.ev.ring n { s.ev.ring[n] with consumer := v } }, .ok)
  else (s, .abort abAbove)

end Sys2Proof.Machine
end

