-- ==== Sys2Proof/Machine/DictOps.lean ====
section
/-! DEFINITION. The object dictionary: one request of one session, its checks in order, what it reads or writes, and how it is
answered over the mailbox and over CAN FD (04; 01 section 3). -/

namespace Sys2Proof.Machine

/-! ### Who sees what -/

/-- Classes of a session at an index (04 R139, R140, R196). -/
def classesOf (p : Session) (index : Nat) : Classes :=
  { g := true, a := p.isAdmin
    t := match p with
      | .mailbox fn => tenantBlock index == some fn.val
      | .usdo _ => false }

/-- A tenant block of another tenant does not exist for a VF's session (04 R195). -/
def hiddenBlock (p : Session) (index : Nat) : Bool :=
  match tenantBlock index, p with
  | some n, .mailbox fn => fn != 0 && n != fn.val
  | _, _ => false

/-- The entry's tenant has its function disabled (04 R197). PF0 is always enabled. -/
def tenantDisabled (s : State) (index : Nat) : Bool :=
  match tenantBlock index with
  | some n => n != 0 && !(s.port.fns[Fin.ofNat 16 n]).enabled
  | none => false

/-- What the boot ROM serves in HALT with cause 1 (02 HALT; 04 R194; log 66). -/
def romServes (index : Nat) : Bool :=
  decide (index < 0x2000) || index == 0x2000 || index == 0x2010 || index == 0x2011 || index == 0x2E00

/-- HALT with cause 1: the boot ROM alone answers. -/
def romOnly (s : State) : Bool := s.life.dev == .halt && s.life.haltCause == 1

/-- The row an entry has for a session, or the abort code of an entry that does not exist for it or is hidden
(03 R122; 04 R138, R145, R195; the order of the checks is not given, log 65). -/
def findEntry (p : Session) (index sub : Nat) (s : State) : Except Nat Row :=
  if indexExists index = false ∨ hiddenBlock p index then .error abNoObject
  else
    match entryRow index sub with
    | none => .error abNoSub
    | some r => if r.level = .expert ∧ s.mode.expert = none then .error abHidden else .ok r

/-! ### Reading -/

/-- The window of an index. -/
def winOf (index : Nat) : Option (Fin 7) := if 0x2E00 ≤ index ∧ index < 0x2E07 then some (Fin.ofNat 7 (index - 0x2E00)) else none

/-- Read a sub-entry of a window (04 R182, R186, R190). -/
def readWin (p : Session) (w : Fin 7) (sub len : Nat) (s : State) : State × Answer × List Byte :=
  if sub = 4 then readData p w len s
  else if ownedByOther p s.win[w] ∧ sub ≤ 3 ∧ sub ≠ 0 then (s, .abort abOwner, [])
  else (touchWin p w s, .ok, entryBytes s (0x2E00 + w.val) sub)

/-- A session may read an entry; the expert code reads 0 for an administrator (04 R141, R159). -/
def mayReadEntry (p : Session) (index sub : Nat) (r : Row) : Bool :=
  r.acc.mayRead (classesOf p index) || (index == 0x2F00 && sub == 1 && p.isAdmin)

/-- Read an entry (04 R137, R141, R174). `len` is the number of bytes asked for, which counts for Data alone. -/
def readEntry (p : Session) (index sub len : Nat) (s : State) : State × Answer × List Byte :=
  match findEntry p index sub s with
  | .error c => (s, .abort c, [])
  | .ok r =>
    if mayReadEntry p index sub r = false then (s, .abort abNoRead, [])
    else if romOnly s ∧ romServes index = false then (s, .abort abState, [])
    else
      match winOf index with
      | some w => readWin p w sub len s
      | none => (s, .ok, entryBytes s index sub)

/-! ### Writing: checks -/

/-- The rail that an index configures. -/
def railOfIndex (index : Nat) : Option (Fin 12) :=
  if 0x2610 ≤ index ∧ index < 0x261C then some (Fin.ofNat 12 (index - 0x2610)) else none

/-- A rail's switch, by kind and number, as CONTROL holds it. -/
def switchNamed (s : State) (r : Fin 12) : Nat × Nat := (s.held (0x2610 + r.val) 8, s.held (0x2610 + r.val) 9)

/-- A switch is named twice: by two rails, or by a rail and a source gate (09 R461). -/
def switchClash (s : State) (r : Fin 12) : Bool :=
  let x := switchNamed s r
  x.1 != 0 && x.2 != 0xFF &&
  ((List.finRange 12).any (fun q => q != r && switchNamed s q == x) ||
    (x.1 == 1 && (s.held 0x2570 2 == x.2 || s.held 0x2570 3 == x.2)))

/-- The values of a kind held by all tenants sum above 1,000 (06 R303). -/
def sharesOver (s : State) (sub : Nat) : Bool :=
  decide (1000 < (List.finRange 16).foldl (fun a n => a + s.held (blockIndex 0x3030 n.val) sub) 0)

/-- Two enabled streams have the same port and virtual channel (13 R710). -/
def portClash (s : State) : Bool :=
  let on := (List.finRange 16).filter (fun n => s.held (blockIndex 0x4000 n.val) 1 == 1)
  on.any (fun n => on.any (fun m => decide (n.val < m.val) &&
    s.held (blockIndex 0x4000 n.val) 0x0F == s.held (blockIndex 0x4000 m.val) 0x0F &&
    s.held (blockIndex 0x4000 n.val) 0x10 == s.held (blockIndex 0x4000 m.val) 0x10))

/-- A ROI's fields are multiples of 16, and it lies in the frame (13 R764, R765). -/
def roiCheck (s : State) (index v : Nat) : Option Nat :=
  let base := index / 256 * 256
  if (List.range 4).any (fun k => roiField v k % 16 != 0) then some abCode
  else if roiField v 2 ≠ 0 ∧ (s.held base 2 < roiField v 0 + roiField v 2 ∨ s.held base 3 < roiField v 1 + roiField v 3) then
    some abAbove
  else none

/-- A session is the mailbox of a function other than PF0 (04 R139, R145). -/
def fromVf : Session → Bool
  | .mailbox fn => fn != 0
  | .usdo _ => false

/-- The checks of chapters on a write, made on the configuration as it would be: the abort code, or none. -/
def chapterCheck (p : Session) (index sub v : Nat) (s : State) : Option Nat :=
  let t := s.setHeld index sub v
  match railOfIndex index with
  | some r =>
    if (sub = 8 ∨ sub = 9) ∧ switchClash t r then some abCode
    else if (sub = 8 ∨ sub = 0x0B) ∧ t.held index 8 = 2 ∧ t.held index 0x0B ≠ 0 then some abCode
    else none
  | none =>
    if index = 0x2570 ∧ (sub = 2 ∨ sub = 3) ∧ v < 8 ∧ (List.finRange 12).any (fun r => switchNamed t r == (1, v)) then some abCode
    else if tenantBlock index ≠ none ∧ index % 256 = 0x30 ∧ (sub = 1 ∨ sub = 4) ∧ sharesOver t sub then some abAbove
    else if tenantBlock index ≠ none ∧ index % 256 = 0x50 ∧ sub = 2 ∧ v.testBit 8 ∧
        fromVf p then some abAbove
    else if 0x2720 ≤ index ∧ index < 0x2724 ∧ sub = 1 ∧ s.held 0x2570 4 = index - 0x2720 then some abState
    else if 0x4000 ≤ index ∧ index < 0x5000 ∧ index % 256 = 0 ∧ (sub = 1 ∨ sub = 0x0F ∨ sub = 0x10) ∧ portClash t then some abCode
    else if 0x4000 ≤ index ∧ index < 0x5000 ∧ index % 256 = 0x10 ∧ sub ≤ 8 ∧ (4 < v / 65536 % 256 ∨ 2 ^ 56 ≤ v) then some abAbove
    else if 0x4000 ≤ index ∧ index < 0x5000 ∧ index % 256 = 0x30 then roiCheck s index v
    else none

/-- Entries whose writes are checked against the budgets (14 R783). -/
def budgeted (index sub : Nat) : Bool :=
  (decide (0x4000 ≤ index) && decide (index < 0x5000)) || (decide (0x2A20 ≤ index) && decide (index < 0x2A24) && sub == 1) ||
  (decide (0x2A40 ≤ index) && decide (index < 0x2A42))

/-- The configuration as CONTROL holds it, with everything delivered. -/
def allDelivered (s : State) : State := { s with isl.undelivered := [] }

/-- A write would take a budget above its limit (14 R783). -/
def overBudget (index sub v : Nat) (s : State) : Bool :=
  let a := allDelivered s
  let b := allDelivered (s.setHeld index sub v)
  budgeted index sub && budgetsRefuse a (encodes a) (decOpen a) b (encodes b) (decOpen b)

/-- The range check of a write (04 R135, R136): ENUM8 codes, values above or below the range, and values in a gap or off a step
(log 65). -/
def rangeCheck (get : Nat → Nat → Nat) (r : Row) (index sub v : Nat) : Option Nat :=
  let spans := dynRange get r index sub
  let x := r.ty.value v
  if inRange spans x then none
  else if r.ty = .enum8 then some abCode
  else if aboveRange spans x then some abAbove
  else if belowRange spans x then some abBelow
  else some abCode

/-! ### Writing: effects -/

/-- Hold a value and deliver it to its island: a running one has it at once, a stopped one when it starts, one in fault is
unavailable (01 R23, R24, R27, R29). -/
def holdValue (index sub v : Nat) (s : State) : State × Answer :=
  match s.island (s.ownerOf index sub) with
  | .running => (s.setHeld index sub v, .ok)
  | .fault => ((s.keepUndelivered index sub).setHeld index sub v, .abort abIsland)
  | _ => ((s.keepUndelivered index sub).setHeld index sub v, .ok)

/-- The value held for a written one: Enable keeps error sources at 1 and reserved ones at 0 (15 R826), and the reserved bits of
EventClasses stay 0 (00 R8; 15 R842). -/
def valueHeld (index sub v : Nat) : Nat :=
  if 0x5000 ≤ index ∧ sub = 1 then (v &&& assignedMask (index - 0x5000)) ||| errorMask (index - 0x5000)
  else if tenantBlock index ≠ none ∧ index % 256 = 0x50 ∧ sub = 2 then v &&& 0x1FF
  else v

/-- A source gate moved to another driver: the old one is pulled down (07 R369, R372). -/
def sourceMoved (c : Channel) (before s : State) : State :=
  let old := sourceGate before c
  let t := if old < 8 ∧ old ≠ sourceGate s c ∧ s.isSourceGate (Fin.ofNat 8 old) = false then gateOff (Fin.ofNat 8 old) s else s
  outageEffRefresh (gateMissingRefresh (setSource c
    (match c with | .pack => t.hold.packClosed | .bank => t.hold.bankClosed) t))

/-- Sub-entries of a stream that its admission, level or capture depends on (13 R720, R757; 14 R768, R783). -/
def streamEntry (index sub : Nat) : Bool :=
  match index % 256 with
  | 0x00 => true
  | 0x40 => decide (sub ≤ 7) || sub == 0x0D
  | 0x41 => sub == 5 || sub == 6 || sub == 8
  | _ => false

/-- What follows a rate that is about to change: what slews starts again from where it stands (07 R354; 09 R514). -/
def beforeHold (index sub : Nat) (s : State) : State :=
  if index = 0x2500 ∧ sub = 0x0C then anchorCharge .bank (anchorCharge .pack s)
  else if 0x2720 ≤ index ∧ index < 0x2724 ∧ sub = 2 then anchorTrim (Fin.ofNat 4 (index - 0x2720)) s
  else s

/-- What follows a value that has been written (06 R317; 07 R340, R372; 09 R505; 13 R757; 14 R768). -/
def afterHold (index sub : Nat) (before s : State) : State :=
  if index = 0x2020 ∧ sub = 2 then outageEffRefresh (followConfig before s)
  else if index = 0x2020 ∧ sub = 5 then outageEffRefresh (videoModeChanged s)
  else if index = 0x2500 ∧ sub ≤ 0x0B then redetect .pack s
  else if index = 0x2580 ∧ sub ≤ 9 then redetect .bank s
  else if index = 0x2570 ∧ sub = 1 then chargesRefresh s
  else if index = 0x2570 ∧ sub = 2 then sourceMoved .pack before s
  else if index = 0x2570 ∧ sub = 3 then sourceMoved .bank before s
  else if 0x2720 ≤ index ∧ index < 0x2724 ∧ sub = 1 then trimTo (Fin.ofNat 4 (index - 0x2720)) (s.cfg index 1) s
  else if 0x2730 ≤ index ∧ index < 0x2734 ∧ sub = 1 then resetRailChanged (Fin.ofNat 4 (index - 0x2730)) s
  else if 0x2A20 ≤ index ∧ index < 0x2A24 ∧ sub = 1 then
    forAll 16 (fun t n => if s.sc n 0x4000 8 = index - 0x2A20 then streamChanged before n t else t) s
  else if tenantBlock index ≠ none ∧ index % 256 = 0x10 ∧ sub = 1 then policyRefresh (followConfig before s)
  else if 0x4000 ≤ index ∧ index < 0x5000 ∧ streamEntry index sub then
    streamChanged before (Fin.ofNat 16 ((index - 0x4000) / 256)) s
  else s

/-- Write an entry that only holds a value. -/
def writePlain (p : Session) (index sub v : Nat) (s : State) : State × Answer :=
  match chapterCheck p index sub v s with
  | some c => (s, .abort c)
  | none =>
    if overBudget index sub v s then refuseBudget s
    else
      let r := holdValue index sub (valueHeld index sub v) (beforeHold index sub s)
      (afterHold index sub s r.1, r.2)

/-- An answer of success. -/
def done (s : State) : State × Answer := (s, .ok)

/-- Entries of 1000h to 2FFFh whose write is a request or a command of its own. -/
def globalAction (p : Session) (index sub v : Nat) (s : State) : Option (State × Answer) :=
  match index, sub with
  | 0x1010, 1 => some (startStore p .all v s)
  | 0x1010, 2 => some (startStore p .communication v s)
  | 0x1010, 3 => some (startStore p .application v s)
  | 0x1011, 1 => some (restoreDefaults v s)
  | 0x2011, 1 => some (reqLife v s)
  | 0x2020, 6 => some (setEncryption v s)
  | 0x2021, 1 => some (setExpert p v s)
  | 0x2030, 1 => some (setLock p v s)
  | 0x2100, 2 => some (done (setWall v s.wallFraction s))
  | 0x2100, 3 => some (done (setWall s.wallSeconds v s))
  | 0x2420, 5 => some (done (resetEByte s))
  | 0x2500, 0x0D => some (done (clearChannel .pack s))
  | 0x2580, 0x0A => some (done (clearChannel .bank s))
  | 0x2511, 7 => some (reqGeyser .pack v s)
  | 0x2591, 7 => some (reqGeyser .bank v s)
  | 0x2511, 0x0A => some (done (keepPend (resetChannel .pack s)))
  | 0x2591, 0x0A => some (done (keepPend (resetChannel .bank s)))
  | 0x2901, 0x0A => some (done (reqRelease s))
  | 0x2C00, 5 => some (done (emptyLog s))
  | 0x2F10, 1 => some (startSanitize v s)
  | _, _ => none

/-- Entries of ranges of indices whose write is a request or a command of its own. `answers` is whether a die that is asked to
return answers. -/
def rangedAction (answers : Bool) (index sub v : Nat) (s : State) : Option (State × Answer) :=
  if 0x2610 ≤ index ∧ index < 0x261C then
    (if sub = 0x10 then some (done (setMask (Fin.ofNat 12 (index - 0x2610)) v s))
     else if sub = 0x11 then
      some (if v = 0 then switchOff (Fin.ofNat 12 (index - 0x2610)) s else switchOn (Fin.ofNat 12 (index - 0x2610)) s)
     else none)
  else if 0x2730 ≤ index ∧ index < 0x2734 ∧ sub = 3 then some (done (pulseReset (Fin.ofNat 4 (index - 0x2730)) s))
  else if 0x2910 ≤ index ∧ index < 0x2920 ∧ sub = 2 then
    some (if v = 1 then retireCommand (Fin.ofNat 16 (index - 0x2910)) s
      else returnCommand (Fin.ofNat 16 (index - 0x2910)) answers s)
  else if 0x2A40 ≤ index ∧ index < 0x2A42 ∧ sub = 1 then
    (let d : Fin 2 := Fin.ofNat 2 (index - 0x2A40)
     some (if v = 1 then openDecode d s else if v = 2 then done (closeDecode d s) else endDecode d s))
  else if 0x5000 ≤ index ∧ sub = 3 then some (done (acknowledge (Fin.ofNat 28 (index - 0x5000)) v s))
  else none

/-- Entries of tenant and stream blocks whose write is a request or a command of its own. -/
def blockAction (index sub v : Nat) (s : State) : Option (State × Answer) :=
  let n : Fin 16 := Fin.ofNat 16 (index / 256)
  if 0x3000 ≤ index ∧ index < 0x4000 then
    (if index % 256 = 0x50 ∧ sub = 4 then some (done (setRing n v s))
     else if index % 256 = 0x50 ∧ sub = 6 then some (setConsumer n v s)
     else none)
  else if 0x4000 ≤ index ∧ index < 0x5000 then
    (if index % 256 = 0x10 ∧ sub = 9 then some (if v = 1 then commitExposure n s else done (clearStaging n s))
     else if index % 256 = 0x11 ∧ sub = 4 then some (directCci n v s)
     else if index % 256 = 0x40 ∧ sub = 0x0C then some (done (forceIdrNow n s))
     else none)
  else none

/-- The action of an entry, if it has one. -/
def actionOf (p : Session) (answers : Bool) (index sub v : Nat) (s : State) : Option (State × Answer) :=
  match globalAction p index sub v s with
  | some r => some r
  | none =>
    match rangedAction answers index sub v s with
    | some r => some r
    | none => blockAction index sub v s

/-- A window's Control (04 R180, R181, R187, R190). -/
def controlWin (p : Session) (w : Fin 7) (v : Nat) (s : State) : State × Answer :=
  match v with
  | 1 => openRead p w s
  | 2 => openWrite p w s
  | 3 => commitWin p w s
  | _ => abortWin p w s

/-- The camera control of a port works without a clock lane (13 R721; log 97). -/
def cciEntry (index : Nat) : Bool :=
  decide (0x4000 ≤ index) && decide (index < 0x5000) && (index % 256 == 0x10 || index % 256 == 0x11)

/-- The island of an entry takes a command now. -/
def takesCommand (s : State) (index sub : Nat) : Bool :=
  match s.island (s.ownerOf index sub) with
  | .running => true
  | .fault => false
  | _ => cciEntry index && fullState s.life.dev

/-- A command whose island does not take it now: CONTROL makes its checks, stores it and answers at once (01 R27, R29; log 67). -/
def storeAction (index sub v : Nat) (r : State × Answer) (s : State) : State × Answer :=
  match r.2 with
  | .abort _ => r
  | _ => (s.storeCommand index sub v, if s.island (s.ownerOf index sub) = .fault then .abort abIsland else .ok)

/-- Apply a value that has passed the checks of the dictionary (01 R23, R27, R29). -/
def applyValue (p : Session) (answers : Bool) (index sub v : Nat) (s : State) : State × Answer :=
  match winOf index with
  | some w => if sub = 5 then controlWin p w v s else writeWin p w sub v s
  | none =>
    match actionOf p answers index sub v s with
    | some r => if takesCommand s index sub then r else storeAction index sub v r s
    | none => writePlain p index sub v s

/-- What waited for a running island arrives: the values delivered as it started take effect, and the commands stored for it run in
the order they came (01 R26, R27, R30, R31). -/
def handshakes (s : State) : State :=
  if s.isl.handed.isEmpty ∧ s.isl.waiting.isEmpty then s
  else
    let before := { s with isl.undelivered := s.isl.handed.foldl (fun m p => mapSet m p.1 p.2) s.isl.undelivered }
    let t := s.isl.handed.foldl (fun u p => afterHold (p.1 / 256) (p.1 % 256) before u) { s with isl.handed := [] }
    let ready := fun (p : Nat × Nat) => takesCommand t (p.1 / 256) (p.1 % 256)
    (t.isl.waiting.filter ready).foldl
      (fun u p => match actionOf (.mailbox 0) true (p.1 / 256) (p.1 % 256) p.2 u with | some r => r.1 | none => u)
      { t with isl.waiting := t.isl.waiting.filter (fun p => !ready p) }

/-- A refused life-cycle code raises RequestRefused (02 R108). -/
def noteBadRequest (index sub : Nat) (s : State) : State := raiseIf (index == 0x2011 && sub == 1) s 73 .control []

/-- The value checks of a write: length, codes and range (04 R135, R136). -/
def writeValue (p : Session) (answers : Bool) (r : Row) (index sub : Nat) (data : List Byte) (s : State) : State × Answer :=
  if data.length ≠ r.ty.size then (s, .abort abLength)
  else
    match rangeCheck s.held r index sub (ofLe data) with
    | some c => (noteBadRequest index sub s, .abort c)
    | none => applyValue p answers index sub (ofLe data) s

/-- Stores, restores and locked entries are refused on the outage path (04 R199). -/
def pathRefuses (s : State) (r : Row) (index : Nat) : Bool :=
  pathState s.life.dev && (r.acc.locked || index == 0x1010 || index == 0x1011)

/-- The permission checks of a write in order, then its value (03 R127; 04 R141, R142, R182, R186, R197, R199; log 65). -/
def writeEntry (p : Session) (answers : Bool) (index sub : Nat) (data : List Byte) (s : State) : State × Answer :=
  match findEntry p index sub s with
  | .error c => (s, .abort c)
  | .ok r =>
    if r.acc.mayWrite (classesOf p index) = false then (s, .abort abNoWrite)
    else if r.level = .expert ∧ holdsExpert p s = false then (s, .abort abNoWrite)
    else if romOnly s ∧ romServes index = false then (s, .abort abState)
    else if pathRefuses s r index then (s, .abort abState)
    else if tenantDisabled s index then (s, .abort abState)
    else if r.acc.locked ∧ s.mode.lock = false then (s, .abort abLock)
    else
      match winOf index with
      | some w => if sub = 4 then writeData p w data s else writeValue p answers r index sub data s
      | none => writeValue p answers r index sub data s

/-! ### Requests -/

/-- A request of the expert session's holder starts its idle time again (03 R128). -/
def noteRequest (p : Session) (s : State) : State := if holdsExpert p s then { s with mode.expertLast := s.time.now } else s

/-- A refused access is counted for its session (04 R198). -/
def countRefusal (p : Session) (s : State) : State :=
  match p with
  | .mailbox fn => { s with dict.refusedMbx := vmod s.dict.refusedMbx fn (· + 1) }
  | .usdo c => { s with dict.refusedUsdo := vmod s.dict.refusedUsdo c (· + 1) }

def noteAnswer (p : Session) (a : Answer) (s : State) : State :=
  match a with
  | .abort _ => countRefusal p s
  | _ => s

/-- A read request. -/
def dictRead (p : Session) (index sub len : Nat) (s : State) : State × Answer × List Byte :=
  let r := readEntry p index sub len (noteRequest p s)
  (noteAnswer p r.2.1 r.1, r.2)

/-- A write request. -/
def dictWriteA (p : Session) (answers : Bool) (index sub : Nat) (data : List Byte) (s : State) : State × Answer :=
  let r := writeEntry p answers index sub data (noteRequest p s)
  (noteAnswer p r.2 r.1, r.2)

/-- A write request; a die that is asked to return answers unless it was missing or rejected (log 68). -/
def dieAnswers (s : State) (index : Nat) : Bool :=
  if 0x2910 ≤ index ∧ index < 0x2920 then s.flash.die[Fin.ofNat 16 (index - 0x2910)].cause != 4 else true

def dictWrite (p : Session) (index sub : Nat) (data : List Byte) (s : State) : State × Answer :=
  dictWriteA p (dieAnswers s index) index sub data s

/-! ### Next entry (04 R175) -/

/-- A session sees a row of an index: it exists for the session, is not hidden, and its classes reach it (03 R122, R127; 04 R175,
R195). -/
def seesRow (p : Session) (s : State) (index : Nat) (r : Row) : Bool :=
  !hiddenBlock p index && !(r.level == .expert && s.mode.expert.isNone) &&
  (r.acc.mayRead (classesOf p index) || r.acc.mayWrite (classesOf p index))

/-- The lesser of two keys, if any. -/
def lesser (a : Option (Key × Row)) (b : Key × Row) : Option (Key × Row) :=
  match a with
  | none => some b
  | some x => if b.1 < x.1 then some b else some x

/-- The keys a row stands for at one index, sub-index 00 of the index among them. -/
def rowKeys (r : Row) (index : Nat) : List (Key × Row) :=
  (if r.sub = 0 then [] else [(key index 0, countRow index)]) ++ (List.range r.subs).map (fun k => (key index (r.sub + k), r))

/-- The next entry after a key that a session sees. -/
def nextEntry (p : Session) (s : State) (after : Key) : Option (Key × Row) :=
  allRows.foldl (fun best r =>
    (List.range r.count).foldl (fun best i =>
      let index := r.index + r.stride * i
      if seesRow p s index r then
        ((rowKeys r index).filter (fun k => decide (after < k.1))).foldl lesser best
      else best) best) none

/-- The 8 bytes of an entry descriptor (04 **Entry descriptor**). -/
def descriptor (k : Key) (r : Row) : List Byte :=
  let a := r.acc
  leBytes 2 (k / 256) ++ leBytes 1 (k % 256) ++ leBytes 1 r.ty.code ++
  leBytes 1 (bitIf a.gRd 0 + bitIf a.tRd 2 + bitIf a.tWr 3 + bitIf a.aRd 4 + bitIf a.aWr 5 + bitIf a.locked 6) ++
  leBytes 1 (bitIf (r.level == .expert) 0 + bitIf (r.persist == .stored) 1 + bitIf (r.persist == .keep) 2 + bitIf (r.ty == .enum8) 3) ++
  leBytes 2 r.ty.size

/-- An enumeration request. -/
def dictNext (p : Session) (index sub : Nat) (s : State) : State × Answer × List Byte :=
  let t := noteRequest p s
  match nextEntry p t (key index sub) with
  | some x => (t, .ok, descriptor x.1 x.2)
  | none => (countRefusal p t, .abort abNoObject, [])

/-! ### CAN FD (04 section 7) -/

/-- The node serves USDO: CAN FD is up, NMT pre-operational or operational (01 R22; 04 R163). -/
def canUp (s : State) : Bool :=
  controlRuns s && s.can.nmt != .initialising &&
  (match s.life.dev with | .keep => false | .sleep => false | .off => false | _ => true)

def usdoServed (s : State) : Bool := canUp s && s.can.nmt != .stopped

/-- Answer a USDO request under the identifier of the server's responses (04 R154, R162, R166). -/
def answerUsdo (c : Fin 128) (index sub : Nat) (a : Answer) (data : List Byte) (s : State) : State :=
  match a with
  | .ok => s.send (.usdo (0x580 + s.can.node) c index sub 0 data)
  | .later => { s with can.busy := s.can.busy ++ [c] }
  | .abort code => s.send (.usdo (0x580 + s.can.node) c index sub code [])

/-- A USDO client sends a request, which is refused while an earlier one is not answered (04 R163, R165). DESIGN CHOICE (log 128): a
request refused so, or for a service that is not supported, is no dictionary request and does not start the idle time of 03 R128
again. -/
def usdoServe (c : Fin 128) (index sub : Nat) (f : State → State × Answer × List Byte) (s : State) : State :=
  if usdoServed s = false then s
  else if s.can.busy.contains c then answerUsdo c index sub (.abort abSpecifier) [] (countRefusal (.usdo c) s)
  else
    let r := f s
    answerUsdo c index sub r.2.1 r.2.2 r.1

/-! ### The mailbox (04 section 8) -/

/-- The mailbox can be reached: the function is enabled and HOST runs. -/
def mbxReached (s : State) (fn : Fin 16) : Bool := s.port.fns[fn].enabled && s.island .host == .running

/-- The request is ended busy: a warm BOOT runs, or CONTROL does not serve (02 R76; 04 R177). -/
def mbxBusy (s : State) : Bool :=
  !controlRuns s || s.life.restarting || (match s.life.boot with | .warm _ => true | _ => false)

/-- A request ends: MBX_STATUS, MBX_ABORT, MBX_DATA, and vector 0 if it is enabled (04 R171, R174, R176; 05 R219). -/
def endMbx (fn : Fin 16) (tag : Byte) (result abort : Nat) (data : List Byte) (s : State) : State :=
  let t := s.modMbx fn (fun m => { m with
    go := false, done := true, result := BitVec.ofNat 3 result, statusTag := tag, statusLen := BitVec.ofNat 9 data.length
    abort := if result = 1 then BitVec.ofNat 32 abort else m.abort
    data := if data.isEmpty then m.data else data ++ m.data.drop data.length })
  if (t.mbx[fn]).irqEn then signal fn 0 t else t

/-- Answer a mailbox request (04 R150, R154). -/
def answerMbx (fn : Fin 16) (tag : Byte) (a : Answer) (data : List Byte) (s : State) : State :=
  match a with
  | .ok => endMbx fn tag 0 0 data s
  | .later => s
  | .abort code => endMbx fn tag 1 code [] s

/-- Go is set with the registers given (04 R171 to R173, R177). MBX_IRQ is not among the registers that Go holds. -/
def mbxServe (fn : Fin 16) (irqEn : Bool) (tag : Byte) (op : BitVec 2) (index : BitVec 16) (sub : BitVec 8) (len : BitVec 9) (data : List Byte)
    (f : State → State × Answer × List Byte) (s : State) : State :=
  if mbxReached s fn = false then s
  else if (s.mbx[fn]).go then s.modMbx fn (fun m => { m with irqEn := irqEn })
  else
    let t := s.modMbx fn (fun m => { m with
      irqEn := irqEn, addr := BitVec.ofNat 32 (sub.toNat * 65536 + index.toNat), len := len, go := true, tag := tag, op := op, done := false
      data := if data.isEmpty then m.data else data ++ m.data.drop data.length })
    if mbxBusy s then endMbx fn tag 2 0 [] t
    else
      let r := f t
      answerMbx fn tag r.2.1 r.2.2 r.1

/-! ### A write from a session -/

/-- A write with no data to return. -/
def noData (r : State × Answer) : State × Answer × List Byte := (r.1, r.2, [])

/-- A write request arrives from a session, over its transport, and is answered; `f` is what the dictionary does with it. -/
def fromSession (p : Session) (index : BitVec 16) (sub : BitVec 8) (data : List Byte) (f : State → State × Answer) (s : State) : State :=
  match p with
  | .usdo c => usdoServe c index.toNat sub.toNat (fun t => noData (f t)) s
  | .mailbox fn =>
    mbxServe fn (s.mbx[fn]).irqEn (s.mbx[fn]).tag 1 index sub (BitVec.ofNat 9 data.length) data (fun t => noData (f t)) s

/-- A session writes an entry. -/
def sessionWrite (p : Session) (index : BitVec 16) (sub : BitVec 8) (data : List Byte) (s : State) : State :=
  fromSession p index sub data (dictWrite p index.toNat sub.toNat data) s

/-- A session writes a number of `n` bytes. -/
def sessionPut (p : Session) (index : BitVec 16) (sub : BitVec 8) (n v : Nat) (s : State) : State :=
  sessionWrite p index sub (leBytes n v) s

/-! ### The CAN FD node -/

/-- NMT reset node or reset communication (03 R128; 04 R147, R158, R164, R170, R190). It is no BOOT, so a copy that RestoreDefaultsAll
marked void still gives its values. -/
def nmtReset (s : State) : State :=
  let held := fun (o : Option Session) => match o with | some (.usdo _) => true | _ => false
  let s1 := if held s.mode.expert then closeExpert s else s
  let s2 := closeWindows (fun w => held w.owner) true s1
  let s3 := { applySaved (savedNow s2.nor) (fun k => decide (k / 256 < 0x2000)) s2 with isl := s2.isl, can.errorSeen := false }
  canStart (savedNow s3.nor) s3

end Sys2Proof.Machine
end

