-- ==== Sys2Proof/Machine/PublishOps.lean ====
section
/-! DEFINITION. The publication of guaranteed energy and what hangs on it: the recomputation, recordings that resume, the Simmer
deadline; and the removal of a channel (01 section 6; 06; 07; 08; 11 section 5; 14 R814). -/

namespace Sys2Proof.Machine

/-- E_g is published in this state (01 **Loop timing**, R51): CONTROL runs, and a BOOT has ended its step 7. -/
def publishes (s : State) : Bool :=
  controlRuns s &&
  (match s.life.dev with
   | .boot => decide (8 ≤ s.life.bootStep)
   | .warn | .simmer | .sinter => !s.life.restarting || decide (8 ≤ s.life.bootStep)
   | .restore => true | .serve => true | .halt => true | _ => false)

/-- A pause of recording ends: the video tenant is effectively write-back with room for 128 blocks (14 R814; 11 R615). -/
def resumeRecording (n : Fin 16) (s : State) : State :=
  if (recOf s n).paused ∧ effPolicy s s.cache.videoTenant = 0 ∧ 128 ≤ headroom s s.cache.videoTenant then
    raise (dueIdr n .idrSegment ((s.modRec n (fun r => { r with paused := false })).modEnc n (fun e => { e with state := .encoding })))
      (streamEv n.val 24) .entropy []
  else s

/-- Every pause that may end, ends. -/
def resumeRecordings (s : State) : State := forAll 16 (fun t n => resumeRecording n t) s

/-- A recomputation, with the recordings it lets resume (06 R294; 14 R814). -/
def recomputeAll (s : State) : State := resumeRecordings (recompute s)

/-- The sequencer uses a publication in SIMMER: SINTER if the PACK is lost, else a new deadline (11 R617, R619). -/
def simmerPublication (s : State) : State :=
  if s.life.dev = .simmer then (if packLost s then enterSinter 4 s else loadDeadline s) else s

/-- The figures of a publication reach admission (01 R48; 06 R323; 08 R388, R434). -/
def publishFigures (pack bank : Nat) (s : State) : State :=
  recomputeAll { s with
    packEst.eg := pack, bankEst.eg := bank
    adm := { s.adm with pubSeq := s.adm.pubSeq + 1, pubAt := some s.time.now, stale := false, eByteInUse := s.adm.eByte } }

/-- A publication with the figures given (01 R48; 06 R323; 08 R388, R434). -/
def publishWith (pack bank : Nat) (s : State) : State := simmerPublication (publishFigures pack bank s)

/-- The scheduled publication of every fitted channel (08 R388, R434). -/
def publish (s : State) : State :=
  let t := loadTable .bank (loadTable .pack s)
  publishWith (guaranteed t .pack) (guaranteed t .bank) t

/-- The latest figure of a channel, 0 J once a rule says so (07 R339, R373; 08 R400, R434). -/
def latestEg (s : State) (c : Channel) : Nat := if publishesZero s c then 0 else (s.est c).eg

/-- A channel publishes 0 J at once, and the other one its latest figure (07 R339; 08 R400). -/
def publishNone (c : Channel) (s : State) : State :=
  if publishes s then
    (match c with
     | .pack => publishWith 0 (latestEg s .bank) s
     | .bank => publishWith (latestEg s .pack) 0 s)
  else s.setEst c { s.est c with eg := 0 }

/-- The PACK was lost or the hold-up converter failed in SIMMER (11 R619). -/
def leaveSimmer (cause : Nat) (s : State) : State := if s.life.dev = .simmer then enterSinter cause s else s

/-- The hold-up fault is latched, and every channel publishes 0 J (07 R373; 08 R422; 11 R619). -/
def holdUpFails (s : State) : State :=
  let t := geyserStops ((raise { s with hold.state := 4 } 40 .supervisor [(1, holdState s.hold)]))
  leaveSimmer 5 (if publishes t then publishFigures 0 0 t else { t with packEst.eg := 0, bankEst.eg := 0 })

/-- A channel fault ends a Geyser cycle of the channel, and SIMMER when it is the PACK's (07 R358 to R361; 08 R422; 11 R619). -/
def faultNow (c : Channel) (code : Nat) (s : State) : State :=
  let t := geyserEnds (geyserAbort c (faultChannel c code s))
  if c = .pack then leaveSimmer 4 t else t

end Sys2Proof.Machine
end

