-- ==== Sys2Proof/Machine/CacheCommands.lean ====
section
/-! DEFINITION. The cache commands: PUT, PUT_APPLY, GET, ON_DEMAND_FETCH_COMPLETE, CLEAN, DROP, LIST, FENCE, FENCE_COMPLETE,
SEGMENT_READ (05 section 6; 06; 02 section 6; 14 section 8). -/

namespace Sys2Proof.Machine

/-! ### PUT -/

/-- A volume that only the recorder writes (14 R806). -/
def recordVolume (vol : BitVec 32) : Bool := decide (0xFFFFFF00 ≤ vol.toNat) && decide (vol.toNat ≤ 0xFFFFFF0F)

/-- A PUT for which no handle or no slot can be had (06 R284, R286). -/
def endNoSpace (k : Nat) (c : Cmd) (s : State) : State := raiseTenant c.fn k [] (endCmd c .noSpace 0 s)

/-- A PUT that is admitted begins its transfer: `n` new blocks are charged, `k` slots held for it (06 R285, R301). -/
def beginPut (elems : List Element) (c : Cmd) (protect : Bool) (n k : Nat) (s : State) : State :=
  dmaRead c.fn (dataParts c.sqe elems)
    ((modCmd c.id (fun c => { c with stage := .transferring, protect := protect, charged := n, slots := k })
      (takeTurn c.fn c.qp s)).modTen c.fn (fun t => { t with reserved := t.reserved + n }))

/-- A PUT's admission check (05 R230, R232, R233; 06 R284 to R290, R301, R307; 14 R806; log 50). -/
def checkPut (elems : List Element) (c : Cmd) (s : State) : State :=
  let policy := effPolicy s c.fn
  if recordVolume (sqeVolume c.sqe) ∨ policy = 2 then endCmd c .policy 0 s
  else if policy = 0 ∧ headroom s c.fn < newBlocks s c then throttlePut c s
  else if noHandle s c.fn (sqeVolume c.sqe) then endNoSpace 6 c s
  else
    match takeSlots s c.fn (sqeVolume c.sqe) (sqeLba c.sqe) (sqeLength c.sqe) (slotlessBlocks s c) with
    | none => endNoSpace 4 c s
    | some t => beginPut elems c (policy == 0) (if policy = 0 then chargeBlocks s c else 0) (slotlessBlocks s c) t

/-- PUT (05 R226 to R233, R251 to R260; 06 R284 to R290, R301, R307 to R309). `elems` is the element list as read, none if that read
failed. -/
def execPut (id : Nat) (elems : Option (List Element)) (s : State) : Host.Outcome State Fault Refusal :=
  .next (runCmd .put id elems checkPut s)

/-- The blocks of a PUT are in DRAM: it is applied (05 R228, R229, R231, R232, R234; 06 R285, R289, R290). The next THROTTLED of the
tenant is the first after a SUCCESS (06 **Admission events**). -/
def finishPut (c : Cmd) (bs : List Block) (s : State) : State :=
  let u := applyPut c.fn (sqeVolume c.sqe) (sqeLba c.sqe) c.protect false bs
    (s.modTen c.fn (fun t => { t with reserved := t.reserved - c.charged, lastThrottled := false }))
  complete c { completion c .success (u.ten c.fn).writeSeq 0 with notProtected := !c.protect } (stageRefresh u)

/-- A DMA read of host memory failed (05 R261, **Status codes**). -/
def failPut (c : Cmd) (s : State) : State :=
  dmaFault c (stageRefresh (s.modTen c.fn (fun t => { t with reserved := t.reserved - c.charged })))

/-- PUT_APPLY (05 R228 to R234, R255): the data transfer of a PUT has ended. -/
def execPutApply (id : Nat) (r : DmaResult) (s : State) : Host.Outcome State Fault Refusal :=
  match findCmd s id with
  | none => .next s
  | some c =>
    if cmdIs .put .transferring c = false ∨ dmaOpen s c.fn = false then .next s
    else
      match r with
      | .failed => .next (failPut c s)
      | .data bs => if bs.length = sqeLength c.sqe then .next (finishPut c bs s) else .next s

/-! ### Reading slots -/

/-- What the blocks of a read hold: some block absent, with its index; some image copy lost; or all there, as slot numbers. -/
inductive Found where
  | absent (i : Nat)
  | lost (i : Nat)
  | slots (ks : List Nat)
  deriving DecidableEq, Repr

/-- Look up consecutive blocks of a volume (05 R236; 02 R94). The first absent block ends the look-up; `i` counts from 0. -/
def lookBlocks (s : State) (n : Fin 16) (vol : BitVec 32) : Nat → List Nat → Found
  | _, [] => .slots []
  | i, b :: rest =>
    match slotNo s.cache n vol b with
    | none => .absent i
    | some k =>
      match lookBlocks s n vol (i + 1) rest with
      | .absent j => .absent j
      | .lost j => if (match mapFind s.cache.slots k with | some q => q.lost | none => false) then .lost i else .lost j
      | .slots ks => if (match mapFind s.cache.slots k with | some q => q.lost | none => false) then .lost i else .slots (k :: ks)

/-- Slots of a list that are not restored yet. -/
def unrestoredOf (s : State) (ks : List Nat) : List Nat :=
  ks.filter (fun k => match mapFind s.cache.slots k with | some q => q.unrestored | none => false)

/-- The data of some slots. -/
def slotData (s : State) (ks : List Nat) : List Block :=
  ks.map (fun k => match mapFind s.cache.slots k with | some q => q.data | none => 0)

/-- A read waits for its on-demand fetches (02 R90, R92). -/
def startFetches (c : Cmd) (elems : List Element) (ks : List Nat) (s : State) : State :=
  modCmd c.id (fun c => { c with stage := .fetching, fetches := unrestoredOf s ks, elems := elems }) s

/-! ### GET -/

/-- A read met an uncorrectable DRAM error in a block (05 R255, R261; the tag as in log 40). -/
def eccFails (n : Fin 16) (lba : Nat) (c : Cmd) (s : State) : State :=
  raise (endCmd c .eccError 0 s) (tenantEv n.val 24) .memory [(4, lba % 2 ^ 32)]

/-- A GET whose blocks are in DRAM (05 R225, R226, R235, R236, R255, R261, R262; 06 R285). `eccBad` is the block with an
uncorrectable DRAM error, if any. -/
def finishGet (onDemand : Bool) (eccBad : Option Nat) (elems : List Element) (c : Cmd) (s : State) : State :=
  let n := targetOf c.fn c.sqe
  match lookBlocks s n (sqeVolume c.sqe) 0 (blocksOf c) with
  | .absent i => endCmd c .notPresent i s
  | .lost _ => endCmd c .lost 0 s
  | .slots ks =>
    match (blocksOf c)[eccBad.getD (blocksOf c).length]? with
    | some lba => eccFails n lba c s
    | none =>
      let t := (takeTurn c.fn c.qp (ks.foldl (fun t k => touchSlot k t) s)).send
        (.dmaBlocks c.fn (writeParts s c.fn (dataParts c.sqe elems)) (slotData s ks))
      let u := if onDemand then t.modTen c.fn (fun x => { x with onDemand := x.onDemand + 1 }) else t
      complete c { completion c .success (4096 * sqeLength c.sqe) 0 with onDemand := onDemand } u

/-- A GET that may start. -/
def startGet (eccBad : Option Nat) (elems : List Element) (c : Cmd) (s : State) : State :=
  match lookBlocks s (targetOf c.fn c.sqe) (sqeVolume c.sqe) 0 (blocksOf c) with
  | .slots ks => if unrestoredOf s ks = [] then finishGet false eccBad elems c s else startFetches c elems ks s
  | _ => finishGet false none elems c s

/-- GET (05 R226, R235, R236, R252, R255, R261, R262; 02 R90). -/
def execGet (id : Nat) (elems : Option (List Element)) (eccBad : Option Nat) (s : State) : Host.Outcome State Fault Refusal :=
  .next (runCmd .get id elems (startGet eccBad) s)

/-! ### CLEAN and DROP -/

/-- Slots that CLEAN makes clean: dirty, and of a sequence that MaxSequence lets (05 R237). -/
def cleans (maxSeq : Nat) (q : Nat × Slot) : Bool := q.2.dirty && (maxSeq == 0 || decide (q.2.seq ≤ maxSeq))

/-- The blocks of a command that the tenant holds. -/
def heldBlocks (s : State) (c : Cmd) : List (Nat × Slot) :=
  slotsIn s (targetOf c.fn c.sqe) (sqeVolume c.sqe) (sqeLba c.sqe) (sqeLength c.sqe)

/-- CLEAN (05 R237, R264; 06 R301, R318, R327; 12 R680). With a nonzero MaxSequence each unrestored block counts an on-demand fetch. -/
def cleanBlocks (c : Cmd) (s : State) : State :=
  let held := heldBlocks s c
  let fetched := if sqeParam1 c.sqe = 0 then [] else (held.filter (fun q => q.2.unrestored)).map (·.1)
  let ks := (held.filter (cleans (sqeParam1 c.sqe))).map (·.1)
  stageRefresh (endCmd c .success ks.length (ks.foldl (fun t k => cleanSlot k t) (fetched.foldl (fun t k => readSlotWord k t)
    { s with flash.onDemandFetches := s.flash.onDemandFetches + fetched.length })))

/-- CLEAN. -/
def execClean (id : Nat) (s : State) : Host.Outcome State Fault Refusal := .next (runCmd .clean id none (fun _ => cleanBlocks) s)

/-- DROP removes dirty and clean blocks alike (05 R238, R264; 06 R301, R318, R327). -/
def dropBlocks (c : Cmd) (s : State) : State :=
  let ks := (heldBlocks s c).map (·.1)
  stageRefresh (endCmd c .success ks.length (ks.foldl (fun t k => dropSlot k t) s))

/-- DROP. -/
def execDrop (id : Nat) (s : State) : Host.Outcome State Fault Refusal := .next (runCmd .drop id none (fun _ => dropBlocks) s)

/-! ### LIST -/

/-- LIST writes extents from its cursor on (05 R239 to R243; log 52). -/
def listExtents (elems : List Element) (c : Cmd) (s : State) : State :=
  let es := extentsFrom s (targetOf c.fn c.sqe) (sqeVolume c.sqe) (sqeParam1 c.sqe)
  let room := dataBytes c.sqe elems / 16
  let bytes := (es.take room).flatMap extentBytes ++ (if es.length < room then List.replicate 16 0 else [])
  let next : Nat × State := match (es.drop room).head? with
    | some e => let x := noteVolume (targetOf c.fn c.sqe) e.volume s
                (cursorOf x.1 e.lba, x.2)
    | none => (0, s)
  endCmd c .success next.1 (dmaWrite c.fn (dataParts c.sqe elems) bytes (takeTurn c.fn c.qp next.2))

/-- LIST. -/
def execList (id : Nat) (elems : Option (List Element)) (s : State) : Host.Outcome State Fault Refusal :=
  .next (runCmd .list id elems listExtents s)

/-! ### FENCE -/

/-- A FENCE whose earlier commands have ended completes; else it waits (05 R244, R245). -/
def startFence (c : Cmd) (s : State) : State :=
  if fenceWaits s c then modCmd c.id (fun c => { c with stage := .fencing }) s else endCmd c .success 0 s

/-- FENCE (05 R244 to R246). -/
def execFence (id : Nat) (s : State) : Host.Outcome State Fault Refusal := .next (runCmd .fence id none (fun _ => startFence) s)

/-- FENCE_COMPLETE (05 R244, R245). -/
def execFenceComplete (id : Nat) (s : State) : Host.Outcome State Fault Refusal :=
  match findCmd s id with
  | none => .next s
  | some c => .next (if cmdIs .fence .fencing c ∧ fenceWaits s c = false then endCmd c .success 0 s else s)

/-! ### SEGMENT-READ -/

/-- A field of a segment's header block. -/
def headerField (b : Block) (off len : Nat) : Nat := b.toNat / 256 ^ off % 256 ^ len

/-- Consecutive blocks of a segment present from block `i` on. -/
def runOf (s : State) (n : Fin 16) (base : Nat) : Nat → Nat → Nat
  | 0, i => i
  | fuel + 1, i => if (slotNo s.cache s.cache.videoTenant (segVolume n) (base + i)).isSome then runOf s n base fuel (i + 1) else i

/-- Bytes of a segment with its header (14 R808 to R812): what the recorder holds, else the header of a closed segment, else the
blocks present from the header on (log 81). -/
def segmentEnd (s : State) (n : Fin 16) (k : Nat) (header : Block) : Nat :=
  match mapFind (recOf s n).ends k with
  | some e => e
  | none =>
    if (headerField header 9 1).testBit 0 then 4096 + headerField header 44 4
    else
      match (recOf s n).seg with
      | some g => if g.number = k then 4096 + g.put else 4096 * runOf s n (segLba k) 16384 0
      | none => 4096 * runOf s n (segLba k) 16384 0

/-- Some bytes of consecutive slots' data. -/
def cutBytes (s : State) (ks : List Nat) (off len : Nat) : List Byte :=
  (((slotData s ks).flatMap blockBytes).drop off).take len

/-- The blocks that a span of a segment's bytes lies in. -/
def spanBlocks (k off len : Nat) : List Nat :=
  if len = 0 then [] else (List.range ((off + len - 1) / 4096 - off / 4096 + 1)).map (fun i => segLba k + off / 4096 + i)

/-- A SEGMENT-READ: its end by the header, then its blocks (05 R247, R248, R255, R261; 06 R285; 02 R90). `eccBad` is the block of
those it reads that has an uncorrectable DRAM error, if any. -/
def readSegment (eccBad : Option Nat) (elems : List Element) (c : Cmd) (s : State) : State :=
  let n : Fin 16 := Fin.ofNat 16 (sqeVolume c.sqe).toNat
  let k := sqeLba c.sqe
  let v := s.cache.videoTenant
  if c.fn ≠ v ∧ c.fn ≠ 0 then endCmd c .policy 0 s
  else
    match slotAt s.cache v (segVolume n) (segLba k), slotNo s.cache v (segVolume n) (segLba k) with
    | some h, some hk =>
      if 2 ^ 34 ≤ k then endCmd c .notPresent 0 s
      else if h.unrestored then startFetches c elems [hk] s
      else if h.lost then endCmd c .lost 0 s
      else
        let e := segmentEnd s n k h.data
        let off := sqeParam1 c.sqe
        let len := min (sqeLength c.sqe) (e - off)
        match lookBlocks s v (segVolume n) 0 (spanBlocks k off len) with
        | .absent _ => endCmd c .notPresent 0 s
        | .lost _ => endCmd c .lost 0 s
        | .slots ks =>
          if unrestoredOf s ks ≠ [] then startFetches c elems ks s
          else
            match (spanBlocks k off len)[eccBad.getD (spanBlocks k off len).length]? with
            | some lba => eccFails v lba c s
            | none =>
              let t := dmaWrite c.fn (dataParts c.sqe elems) (cutBytes s ks (off % 4096) len)
                (takeTurn c.fn c.qp (ks.foldl (fun t k => touchSlot k t) s))
              complete c { completion c .success len 0 with
                segmentEnd := decide (e ≤ off + sqeLength c.sqe), onDemand := c.stage == .fetching } t
    | _, _ => endCmd c .notPresent 0 s

/-- SEGMENT_READ (05 R226, R247, R248). -/
def execSegmentRead (id : Nat) (elems : Option (List Element)) (eccBad : Option Nat) (s : State) :
    Host.Outcome State Fault Refusal :=
  .next (runCmd .segmentRead id elems (readSegment eccBad) s)

/-! ### On-demand fetches -/

/-- A read goes on after its fetches. -/
def resumeRead (eccBad : Option Nat) (c : Cmd) (s : State) : State :=
  if opOf c.sqe = some .get then finishGet true eccBad c.elems c s else readSegment eccBad c.elems c s

/-- ON_DEMAND_FETCH_COMPLETE (02 R90, R92, R94; 05 R262; 12 R678, R680, R681): one slot of a waiting read has come from flash
(log 80). `eccBad` is as for the read that goes on. -/
def execOnDemandFetchComplete (id : Nat) (r : ReadResult) (eccBad : Option Nat) (s : State) : Host.Outcome State Fault Refusal :=
  match findCmd s id with
  | none => .next s
  | some c =>
    match c.stage, c.fetches with
    | .fetching, k :: rest =>
      let t := readSlots (fun _ _ _ => true) [k] r (readSlotWord k { s with flash.onDemandFetches := s.flash.onDemandFetches + 1 })
      let u := modCmd id (fun c => { c with fetches := rest }) t
      .next (if rest = [] then resumeRead eccBad { c with fetches := [] } u else u)
    | _, _ => .next s

end Sys2Proof.Machine
end

