-- ==== Sys2Proof/Machine/Can.lean ====
section
/-! DEFINITION. The CAN FD node: NMT commands, USDO requests, heartbeat, TPDOs, EMCY messages, and CAN errors (04 section 7;
15 section 8). -/

namespace Sys2Proof.Machine

/-- An NMT command names this node, or all of them with 0 (CiA 1301; log 78). -/
def nmtFor (node : Fin 128) (s : State) : Bool := canUp s && (node.val == 0 || node.val == s.can.node)

/-- Move the node to an NMT state. -/
def toNmt (node : Fin 128) (n : Nmt) (s : State) : State := if nmtFor node s then { s with can.nmt := n } else s

/-- NMT_START (04 R162, R163). -/
def execNmtStart (node : Fin 128) (s : State) : Host.Outcome State Fault Refusal := .next (toNmt node .operational s)

/-- NMT_STOP (04 R162, R163). -/
def execNmtStop (node : Fin 128) (s : State) : Host.Outcome State Fault Refusal := .next (toNmt node .stopped s)

/-- NMT_ENTER_PRE_OPERATIONAL (04 R162, R163). -/
def execNmtEnterPreOperational (node : Fin 128) (s : State) : Host.Outcome State Fault Refusal :=
  .next (toNmt node .preOperational s)

/-- NMT_RESET_NODE (03 R128; 04 R158, R164, R190). -/
def execNmtResetNode (node : Fin 128) (s : State) : Host.Outcome State Fault Refusal :=
  .next (if nmtFor node s then nmtReset s else s)

/-- NMT_RESET_COMMUNICATION (03 R128; 04 R158, R164, R190). -/
def execNmtResetCommunication (node : Fin 128) (s : State) : Host.Outcome State Fault Refusal :=
  .next (if nmtFor node s then nmtReset s else s)

/-- USDO_REQUEST (04 R162 to R166): a read, a write, or a service that is not supported. -/
def execUsdoRequest (client : Fin 128) (req : UsdoReq) (s : State) : Host.Outcome State Fault Refusal :=
  match req with
  | .read index sub len =>
    .next (usdoServe client index.toNat sub.toNat (dictRead (.usdo client) index.toNat sub.toNat len) s)
  | .write index sub data =>
    .next (usdoServe client index.toNat sub.toNat (fun t => noData (dictWrite (.usdo client) index.toNat sub.toNat data t)) s)
  | .unsupported =>
    .next (usdoServe client 0 0 (fun t => (countRefusal (.usdo client) t, .abort abSpecifier, [])) s)

/-- The state byte of a heartbeat (CiA 1301; log 78). -/
def nmtByte (n : Nmt) : Nat :=
  match n with
  | .initialising => 0 | .stopped => 4 | .operational => 5 | .preOperational => 127

/-- HEARTBEAT (04 R162, R163): the producer's message each ProducerHeartbeatTime; 0 is off. -/
def execHeartbeat (s : State) : Host.Outcome State Fault Refusal :=
  if canUp s = false ∨ s.cfg 0x1017 0 = 0 then .next s
  else .next (s.send (.can (0x700 + s.can.node) (leBytes 1 (nmtByte s.can.nmt))))

/-- The quantities of a channel (04 **TPDO payloads**). -/
def tpdoChannel (s : State) (c : Channel) : List Byte :=
  leBytes 2 (s.chan c).mv ++ leBytes 4 (twos 32 (s.chan c).ma) ++ leBytes 2 (twos 16 (s.chan c).dt) ++
  leBytes 2 (basisPoints (s.est c).socRep) ++ leBytes 4 (s.est c).eg ++ leBytes 2 (healthOf s c)

/-- Tenants that satisfy a test. -/
def countTenants (p : Fin 16 → Bool) : Nat := ((List.finRange 16).filter p).length

/-- The payload of a TPDO (04 **TPDO payloads**); a throttled tenant is one whose latest PUT ended THROTTLED (log 79). -/
def tpdoBytes (s : State) (k : Fin 4) : List Byte :=
  match k with
  | 0 => leBytes 1 s.life.dev.code ++ leBytes 1 s.mode.outageEff ++ leBytes 1 s.mode.fit ++ leBytes 1 s.mode.host ++
      leBytes 2 (bringUpFlags s.life) ++ leBytes 2 s.life.haltCause ++ leBytes 4 s.time.timeBase
  | 1 => tpdoChannel s .pack
  | 2 => tpdoChannel s .bank
  | 3 => leBytes 4 (s.adm.dmaxNum * 1024 / s.adm.dmaxDen) ++ leBytes 4 (chargedAll s / 256) ++ leBytes 4 s.adm.egTotal ++
      leBytes 1 (countTenants (fun n => (s.ten n).lastThrottled)) ++ leBytes 1 (countTenants (fun n => (s.ten n).forced)) ++ leBytes 2 0

/-- The values mapped into a TPDO whose change sends it: TPDO 1 without its time stamp (log 79). -/
def tpdoMapped (s : State) (k : Fin 4) : List Byte := if k = 0 then (tpdoBytes s 0).take 8 else tpdoBytes s k

/-- The TPDO's channel is fitted (04 R169). -/
def tpdoFitted (s : State) (k : Fin 4) : Bool :=
  match k with
  | 1 => s.pack.fitted | 2 => s.bank.fitted | _ => true

/-- A TPDO is due: a mapped value changed and the inhibit time has passed, or the event timer has expired (04 R168). -/
def tpdoDue (s : State) (k : Fin 4) : Bool :=
  let x := s.can.tpdo[k]
  let timer := s.cfg (0x1800 + k.val) 5
  match x.sentAt with
  | none => true
  | some t =>
    (tpdoMapped s k != x.last && decide (t + 100 * s.cfg (0x1800 + k.val) 3 ≤ s.time.now)) ||
    (timer != 0 && decide (t + 1000 * timer ≤ s.time.now))

/-- TPDO_TRANSMIT (04 R163, R168, R169). -/
def execTpdoTransmit (k : Fin 4) (s : State) : Host.Outcome State Fault Refusal :=
  if canUp s = false ∨ s.can.nmt ≠ .operational ∨ tpdoFitted s k = false ∨ tpdoDue s k = false then .next s
  else
    .next ({ s with can.tpdo := vset s.can.tpdo k ⟨tpdoMapped s k, some s.time.now⟩ }.send
      (.can (0x180 + 0x100 * k.val + s.can.node) (tpdoBytes s k)))

/-- EMCY_TRANSMIT (04 R162, R167; 15 R851 to R853): the oldest message is sent; a stopped node and a disabled COB-ID send none
(log 106). -/
def execEmcyTransmit (s : State) : Host.Outcome State Fault Refusal :=
  match s.can.emcy with
  | [] => .next s
  | m :: rest =>
    if canUp s = false ∨ s.can.nmt = .stopped ∨ s.emcyId.testBit 31 then .next s
    else .next ({ s with can := { s.can with emcy := rest, emcyDropSeen := false } }.send (.can (s.emcyId % 2048) m))

/-- CAN_ERROR_PASSIVE_OR_BUS_OFF (04 R170): bit 4 of ErrorRegister reads 1 until an NMT reset. -/
def execCanErrorPassiveOrBusOff (_e : CanError) (s : State) : Host.Outcome State Fault Refusal :=
  .next (if canUp s then { s with can.errorSeen := true } else s)

end Sys2Proof.Machine
end

