-- ==== Sys2Proof/Machine/Motion.lean ====
section
/-! DEFINITION. The pixel engine's decisions: motion search over three levels, the choice of a mode, the QP of a block, and the
slices of a picture (14 R786 to R789, R793, R797, R798). Costs and filters that the manual names without giving them are free values
of Config; where two candidates cost the same, the earlier one holds (log 134). -/

namespace Sys2Proof.Machine

/-! ### Planes -/

/-- A place in a line of samples; one outside it repeats the edge. -/
def edgeAt (n : Nat) (v : Int) : Nat := min (n - 1) v.toNat

/-- A sample of a plane. -/
def sampleAt (p : List (List Nat)) (x y : Int) : Nat :=
  let row := p.getD (edgeAt p.length y) []
  row.getD (edgeAt row.length x) 0

/-- The samples of an area that a vector moves. -/
def areaAt (p : List (List Nat)) (a : Area) (v : Vec) : List (List Nat) :=
  (List.range a.h).map (fun j => (List.range a.w).map (fun i => sampleAt p (a.x + i + v.x) (a.y + j + v.y)))

/-- A plane at 1/k of its size, each sample the mean of a k × k box (14 **Search levels**). -/
def boxPlane (k : Nat) (p : List (List Nat)) : List (List Nat) :=
  (List.range (p.length / k)).map (fun j => (List.range ((p.headD []).length / k)).map (fun i =>
    sumOf (((p.drop (k * j)).take k).map (fun r => sumOf ((r.drop (k * i)).take k))) / (k * k)))

/-! ### Search (14 R786, R787, R789) -/

/-- What a search works with: the codec, SearchLevels, SearchRangeH and SearchRangeV, SubPel, and the luma of the frame. -/
structure Search where
  codec : Nat
  levels : Nat
  rangeH : Nat
  rangeV : Nat
  subPel : Nat
  cur : List (List Nat)
  deriving DecidableEq, Repr

/-- Vectors up to `rx` across and `ry` down from a centre. -/
def window (c : Vec) (rx ry : Nat) : List Vec :=
  (List.range (2 * ry + 1)).flatMap (fun (j : Nat) => (List.range (2 * rx + 1)).map (fun (i : Nat) => ⟨c.x + i - rx, c.y + j - ry⟩))

/-- A vector that points at most `edge` beyond the picture (14 R789). -/
def inReach (edge width height : Nat) (a : Area) (v : Vec) : Bool :=
  decide (-(edge : Int) ≤ a.x + v.x) && decide (a.x + a.w + v.x ≤ (width + edge : Int)) &&
  decide (-(edge : Int) ≤ a.y + v.y) && decide (a.y + a.h + v.y ≤ (height + edge : Int))

/-- The candidate of least cost, the earliest of several, with its cost. -/
def least {α : Type} (cost : α → Nat) : List α → Option (α × Nat)
  | [] => none
  | a :: l => some (l.foldl (fun b c => if cost c < b.2 then (c, cost c) else b) (a, cost a))

/-- The best vector of an area among some, on planes at 1/k of the full size. -/
def searchPlane (k : Nat) (cur ref : List (List Nat)) (a : Area) (l : List Vec) : Option (Vec × Nat) :=
  least (fun v => Config.matchCost (areaAt cur a ⟨0, 0⟩) (areaAt ref a v))
    (l.filter (inReach (16 / k) (cur.headD []).length cur.length a))

def Vec.scale (k : Int) (v : Vec) : Vec := ⟨k * v.x, k * v.y⟩

/-- Level 2: a 4 × 4 block at a quarter of the size, full search around the zero vector. -/
def searchLevel2 (m : Search) (ref : List (List Nat)) (bx bY : Nat) : Option (Vec × Nat) :=
  searchPlane 4 (boxPlane 4 m.cur) (boxPlane 4 ref) ⟨4 * bx, 4 * bY, 4, 4⟩ (window ⟨0, 0⟩ (m.rangeH / 4) (m.rangeV / 4))

/-- The blocks of 16 × 16 around one, within the picture. -/
def around (m : Search) (bx bY : Nat) : List (Nat × Nat) :=
  let near := fun (v n : Nat) => (List.range n).filter (fun i => decide (v ≤ i + 1) && decide (i ≤ v + 1))
  ((near bY (m.cur.length / 16)).flatMap (fun j => (near bx ((m.cur.headD []).length / 16)).map (fun i => (i, j)))).filter
    (· != (bx, bY))

/-- The two best of some results. -/
def twoBest (l : List (Vec × Nat)) : List Vec :=
  match least (·.2) l with
  | none => []
  | some (a, _) => a.1 :: (match least (·.2) (l.erase a) with | some (b, _) => [b.1] | none => [])

/-- Where level 1 searches: around twice the level-2 result and its two best neighbours, or around zero when it starts. -/
def level1Window (m : Search) (ref : List (List Nat)) (bx bY : Nat) : List Vec :=
  if m.levels = 2 then window ⟨0, 0⟩ (m.rangeH / 2) (m.rangeV / 2)
  else
    let own := (searchLevel2 m ref bx bY).toList.map (·.1)
    let near := twoBest ((around m bx bY).filterMap (fun b => searchLevel2 m ref b.1 b.2))
    (own ++ near).flatMap (fun v => window (v.scale 2) 4 4)

/-- Level 1: an 8 × 8 block at half the size. -/
def searchLevel1 (m : Search) (ref : List (List Nat)) (bx bY : Nat) : Option (Vec × Nat) :=
  searchPlane 2 (boxPlane 2 m.cur) (boxPlane 2 ref) ⟨8 * bx, 8 * bY, 8, 8⟩ (level1Window m ref bx bY)

/-- The blocks of 16 × 16 that an area touches. -/
def blocksUnder (a : Area) : List (Nat × Nat) :=
  (List.range ((a.y + a.h + 15) / 16 - a.y / 16)).flatMap (fun j =>
    (List.range ((a.x + a.w + 15) / 16 - a.x / 16)).map (fun i => (a.x / 16 + i, a.y / 16 + j)))

/-- Where level 0 searches: around twice the level-1 results of the blocks it touches, or around zero when it starts alone. -/
def level0Window (m : Search) (ref : List (List Nat)) (a : Area) : List Vec :=
  if m.levels = 1 then window ⟨0, 0⟩ (min m.rangeH 16) (min m.rangeV 16)
  else ((blocksUnder a).filterMap (fun b => searchLevel1 m ref b.1 b.2)).flatMap (fun r => window (r.1.scale 2) 2 2)

/-- Refine a vector in quarter pels by the eight around it at a step (14 R786, R787). -/
def refine (m : Search) (ref : List (List Nat)) (a : Area) (step : Int) (v : Vec × Nat) : Vec × Nat :=
  let near := ((window ⟨0, 0⟩ 1 1).map (fun d => (⟨v.1.x + step * d.x, v.1.y + step * d.y⟩ : Vec))).filter
    (inReach 64 (4 * (m.cur.headD []).length) (4 * m.cur.length) ⟨4 * a.x, 4 * a.y, 4 * a.w, 4 * a.h⟩)
  match least (fun w => Config.matchCost (areaAt m.cur a ⟨0, 0⟩)
      (Config.interpolate m.codec ref (4 * a.x + w.x) (4 * a.y + w.y) a.w a.h)) near with
  | some r => if r.2 < v.2 then r else v
  | none => v

/-- Level 0: an area at full size, refined to half and quarter pel as SubPel allows. The vector is in quarter pels. -/
def searchArea (m : Search) (ref : List (List Nat)) (a : Area) : Option (Vec × Nat) :=
  (searchPlane 1 m.cur ref a (level0Window m ref a)).map (fun r =>
    let whole := (r.1.scale 4, r.2)
    let half := if m.subPel = 0 then whole else refine m ref a 2 whole
    if m.subPel = 2 then refine m ref a 1 half else half)

/-- An area searched in each reference; the flag marks the long-term one (14 R788). -/
def searchPart (m : Search) (refs : List (Bool × Picture)) (a : Area) : Option Part :=
  (least (·.2.2) (refs.filterMap (fun r => (searchArea m r.2.y a).map (fun v => (r.1, v))))).map (fun b => ⟨a, b.1.1, b.1.2.1⟩)

/-! ### Modes (14 R788) -/

/-- The inter partitions of a block: 16×16, 16×8, 8×16 and 8×8 for H.264; 2N×2N, 2N×N and N×2N for H.265. -/
def partitions (codec x y n : Nat) : List (List Area) :=
  let h := n / 2
  [[⟨x, y, n, n⟩], [⟨x, y, n, h⟩, ⟨x, y + h, n, h⟩], [⟨x, y, h, n⟩, ⟨x + h, y, h, n⟩]] ++
  (if codec = 0 then [[⟨x, y, h, h⟩, ⟨x + h, y, h, h⟩, ⟨x, y + h, h, h⟩, ⟨x + h, y + h, h, h⟩]] else [])

/-- A partition of a block, if every area of it finds a vector. -/
def interMode (m : Search) (refs : List (Bool × Picture)) (as_ : List Area) : Option Mode :=
  (as_.mapM (searchPart m refs)).map Mode.inter

/-- The modes that a block may take: without a reference only intra. -/
def modesOf (m : Search) (refs : List (Bool × Picture)) (x y n : Nat) : List Mode :=
  .intra :: (if refs.isEmpty then [] else (partitions m.codec x y n).filterMap (interMode m refs) ++ [.skip])

/-- The best decision for one block, with its rate-distortion cost. -/
def chooseBlock (m : Search) (src : Picture) (refs : List (Bool × Picture)) (qp : Area → Nat) (x y n : Nat) : Choice × Nat :=
  let cs := (modesOf m refs x y n).map (fun k => (⟨x, y, n, qp ⟨x, y, n, n⟩, k⟩ : Choice))
  match least (Config.modeCost m.codec src (refs.map (·.2))) cs with
  | some r => r
  | none => (⟨x, y, n, qp ⟨x, y, n, n⟩, .intra⟩, 0)

/-- A coding unit of H.265: whole, or split into four down to `depth` times, whichever costs less. -/
def chooseUnit (m : Search) (src : Picture) (refs : List (Bool × Picture)) (qp : Area → Nat) : Nat → Nat → Nat → Nat → List Choice × Nat
  | 0, x, y, n =>
    let r := chooseBlock m src refs qp x y n
    ([r.1], r.2)
  | depth + 1, x, y, n =>
    let r := chooseBlock m src refs qp x y n
    let h := n / 2
    let a := chooseUnit m src refs qp depth x y h
    let b := chooseUnit m src refs qp depth (x + h) y h
    let c := chooseUnit m src refs qp depth x (y + h) h
    let d := chooseUnit m src refs qp depth (x + h) (y + h) h
    if a.2 + b.2 + c.2 + d.2 < r.2 then (a.1 ++ b.1 ++ c.1 ++ d.1, a.2 + b.2 + c.2 + d.2) else ([r.1], r.2)

/-- The decisions of row k: macroblocks of 16 for H.264; coding tree blocks of 32 with units down to 8 for H.265. -/
def chooseRow (m : Search) (src : Picture) (refs : List (Bool × Picture)) (qp : Area → Nat) (k : Nat) : List Choice :=
  let w := (src.y.headD []).length
  if m.codec = 0 then (List.range (w / 16)).map (fun i => (chooseBlock m src refs qp (16 * i) (16 * k) 16).1)
  else (List.range (w / 32)).flatMap (fun i => (chooseUnit m src refs qp 2 (32 * i) (32 * k) 32).1)

/-- A row in which every block is skipped (14 R791, R797). -/
def skipRow (codec width qp k : Nat) : List Choice :=
  let n := if codec = 0 then 16 else 32
  (List.range (width / n)).map (fun i => ⟨n * i, n * k, n, qp, .skip⟩)

/-! ### QP of a block (14 R793) -/

/-- A block of the encoded picture lies wholly inside a ROI, which is in pixels of the capture. -/
def insideRoi (half : Bool) (roi : Nat) (a : Area) : Bool :=
  let f := if half then 2 else 1
  roiField roi 2 != 0 && decide (roiField roi 0 ≤ f * a.x) && decide (f * (a.x + a.w) ≤ roiField roi 0 + roiField roi 2) &&
  decide (roiField roi 1 ≤ f * a.y) && decide (f * (a.y + a.h) ≤ roiField roi 1 + roiField roi 3)

/-- The offset of the lowest ROI that holds a block (14 R793). -/
def roiOffset (s : State) (n : Fin 16) (rois : List Nat) (a : Area) : Int :=
  match (List.range 8).find? (fun k => insideRoi (s.sc n 0x4040 7 == 1) (rois.getD k 0) a) with
  | some k => signed 16 (s.sc n 0x4042 (k + 1))
  | none => 0

/-- The lowest and highest QP of a stream's blocks (14 R793). -/
def qpBounds (s : State) (n : Fin 16) : Nat × Nat := if s.sc n 0x4040 5 = 2 then (0, 51) else (s.sc n 0x4041 1, s.sc n 0x4041 2)

/-- The QP of a block in a row of some QP (14 R793). -/
def blockQp (s : State) (n : Fin 16) (rois : List Nat) (row : Nat) (a : Area) : Nat :=
  min (qpBounds s n).2 (max (qpBounds s n).1 ((row : Int) + roiOffset s n rois a).toNat)

/-! ### Slices (14 R798) -/

/-- Rows of a slice: SliceRows macroblock rows, or half as many CTB rows rounded up, of a live-class frame; else the whole frame. -/
def sliceRowsOf (s : State) (n : Fin 16) (total : Nat) : Nat :=
  if classOf s n = 1 then (if s.sc n 0x4040 2 = 0 then s.sc n 0x4041 0x0D else (s.sc n 0x4041 0x0D + 1) / 2) else total

/-- Some rows of a plane. -/
def rowsOf (p : List (List Nat)) (first count : Nat) : List (List Nat) := (p.drop first).take count

/-- The rows of a picture that a slice covers, in rows of `unit` luma lines. -/
def sliceOf (unit : Nat) (p : Picture) (first count : Nat) : Picture :=
  ⟨rowsOf p.y (unit * first) (unit * count), rowsOf p.cb (unit / 2 * first) (unit / 2 * count),
    rowsOf p.cr (unit / 2 * first) (unit / 2 * count)⟩

/-- Two pictures, one below the other. -/
def stackPictures (a b : Picture) : Picture := ⟨a.y ++ b.y, a.cb ++ b.cb, a.cr ++ b.cr⟩

/-- The reconstructed picture: each slice alone, since its loop filters do not cross its edges (14 R798). -/
def reconstructed (codec unit : Nat) (src : Picture) (refs : List Picture) (per : Nat) : Nat → Nat → List (List Choice) → Picture
  | 0, _, _ => ⟨[], [], []⟩
  | fuel + 1, first, rows =>
    if rows.isEmpty then ⟨[], [], []⟩
    else
      stackPictures (Config.reconstruct codec (sliceOf unit src first per) refs (rows.take per))
        (reconstructed codec unit src refs per fuel (first + per) (rows.drop per))

end Sys2Proof.Machine
end

