-- ==== Sys2Proof/Machine/Capture.lean ====
section
/-! DEFINITION. Camera capture: frames and packets, groups, the clock lanes, and the ends of CCI transfers (13). -/

namespace Sys2Proof.Machine

/-! ### Streams and metadata -/

/-- The stream that takes the packets of a port and a virtual channel (13 R709, R720). -/
def streamAt (s : State) (port vc : Fin 4) : Option (Fin 16) :=
  (List.finRange 16).find? (fun n => captures s n && portNo s n == port && s.sc n 0x4000 0x10 == vc.val)

/-- The port's clock lane runs, so packets arrive (01 R19). -/
def portRuns (s : State) (port : Fin 4) : Bool := (portOf s port).state != .noClock

/-- The port's packets reach a CAPTURE island that runs (01 R19, R20, R28). -/
def portTakes (s : State) (port : Fin 4) : Bool := portRuns s port && s.island (captureIsland port) == .running

def setPort (port : Fin 4) (r : PortRun) (s : State) : State := s.modPort port (fun x => { x with state := r })

/-- The effect in force at a frame: the highest set ID that takes effect at or before it (13 R734). -/
def effectAt (x : Stream) (frame : Nat) : Option Effect :=
  x.effects.foldl (fun (a : Option Effect) e =>
    if frame < e.frame then a else match a with | some b => if b.id < e.id then some e else some b | none => some e) none

/-- Wall clock at a moment of the time base, in 1/65,536 µs; 0 while it is not set (13 **Frame metadata**). -/
def wallAt (s : State) (t : Nat) : Nat :=
  if s.time.wallSet then ((s.time.wall : Int) - 65536 * ((s.time.timeBase : Int) - (t : Int))).toNat else 0

/-- L0 is enabled and has never had content (13 R756). -/
def masked (x : Stream) : Bool := x.layersOn.testBit 0 && (x.layers[(0 : Fin 4)].current).isNone

/-- Layers that are drawn: enabled, with content, and not behind the black of a missing mask (13 R754 to R756). -/
def layersDrawn (x : Stream) : Nat :=
  if masked x then 0
  else (List.finRange 4).foldl (fun m l => m + bitIf (x.layersOn.testBit l.val && (x.layers[l].current).isSome) l.val) 0

/-- The metadata of a frame (13 R734, R738, R745). -/
def metaFor (n : Fin 16) (number time tick : Nat) (inserted : Bool) (s : State) : Meta :=
  let x := strOf s n
  let e := effectAt x number
  { number := number
    set := (match e with | some e => e.id | none => 0)
    time := time, tick := tick, inserted := inserted, black := masked x
    late := (match e with | some e => e.late | none => false)
    failedSet := (match e with | some e => e.failed | none => false)
    surplus := x.surplus
    layers := if inserted then 0 else layersDrawn x
    group := (match groupOf s n with | some g => g.val | none => 0xFF)
    wallSeconds := wallAt s time / 65536000000
    wallFraction := wallAt s time % 65536000000 / 1000000 }

/-- Effects that are over: those below the one in force. -/
def pruneEffects (number : Nat) (x : Stream) : Stream :=
  let e := effectAt x number
  { x with
    effects := x.effects.filter (fun y => decide (number < y.frame) || some y == e)
    inEffect := match e with | some e => e.id | none => 0 }

/-- The stream's frames are encoded: its channel is admitted and does not discard them in a pause (14 R813). -/
def takesFrames (s : State) (n : Fin 16) : Bool := admitted s n && (encOf s n).state != .paused

/-- Macroblock or CTB size of the stream's codec (14 **Encode capabilities**). -/
def codingUnit (s : State) (n : Fin 16) : Nat := if s.sc n 0x4040 2 = 0 then 16 else 32

/-- Rows of macroblocks or CTBs of the encoded picture (14 R770). -/
def codingRows (s : State) (n : Fin 16) : Nat := (encHeight s n + codingUnit s n - 1) / codingUnit s n

/-! ### Groups (13 section 5) -/

/-- Tick k of a group on the time base (13 R740). -/
def tickTime (s : State) (g : Fin 4) (t0 k : Nat) : Nat := t0 + k * groupPeriod s g

/-- TickCount covers tick k (13 **Capture entries**; log 95). -/
def countTick (g : Fin 4) (k : Nat) (s : State) : State :=
  { s with video.group := vmod s.video.group g (fun x => { x with ticks := max x.ticks (k + 1) }) }

/-- A member is suspended after UnderrunLimit inserted frames in a row (13 R746). -/
def suspendIfDue (n : Fin 16) (g : Fin 4) (s : State) : State :=
  if underrunLimit s g ≤ (strOf s n).underrun then
    raise (s.modStream n (fun x => { x with state := .suspended })) (streamEv n.val 5) .capture []
  else s

/-- An inserted frame fills tick k of a running member (13 R743, R744, R746; 14 R797). -/
def insertFrame (n : Fin 16) (g : Fin 4) (t0 k number : Nat) (s : State) : State :=
  let first := (strOf s n).underrun == 0
  let md := metaFor n number (tickTime s g t0 k) k true s
  let f : Frame := ⟨md, [], 0, ⟨[], [], []⟩, 0, false, false, [], s.time.now⟩
  let s1 := countTick g k (s.modStream n (fun x => pruneEffects number { x with
    inserted := x.inserted + 1, underrun := x.underrun + 1, nextTick := max x.nextTick (k + 1), number := number
    surplus := false, queue := if takesFrames s n then x.queue ++ [f] else x.queue }))
  suspendIfDue n g (raiseIf first s1 (streamEv n.val 3) .capture [])

/-- Ticks that passed without a frame up to tick `k` are filled while the member runs (13 R743). -/
def fillTicks (n : Fin 16) (g : Fin 4) (t0 k : Nat) : Nat → State → State
  | 0, s => s
  | fuel + 1, s =>
    let x := strOf s n
    if x.state = .running ∧ x.nextTick < k then fillTicks n g t0 k fuel (insertFrame n g t0 x.nextTick (x.number + 1) s) else s

/-! ### Dropped frames -/

/-- One second has passed since an event, or there was none. -/
def secondPassed (s : State) (t : Option Nat) : Bool :=
  match t with
  | some u => decide (u + 1000000 ≤ s.time.now)
  | none => true

/-- A frame is dropped for a cause (13 R719). -/
def noteDrop (n : Fin 16) (cause : Nat) (s : State) : State :=
  let x := strOf s n
  let told := secondPassed s x.dropAt
  raiseIf told (s.modStream n (fun x => { x with dropped := x.dropped + 1, dropAt := if told then some s.time.now else x.dropAt }))
    (streamEv n.val 2) .capture [(1, cause)]

/-- The frame in progress is dropped; a running member gets an inserted frame for its tick, under the frame's number (13 R719,
R743; log 24). -/
def dropCur (n : Fin 16) (cause : Nat) (s : State) : State :=
  match (strOf s n).cur with
  | none => s
  | some f =>
    let u := noteDrop n cause (s.modStream n (fun x => { x with cur := none }))
    let t := if f.rejoin then dueIdr n .idrRejoin u else u
    match groupOf t n with
    | none => t
    | some g =>
      match t.video.group[g].start with
      | some t0 => if (strOf t n).state = .running then insertFrame n g t0 f.md.tick f.md.number t else t
      | none => t

/-! ### Frame start -/

/-- The blanking that a frame start ends is measured, the sets not yet sent wait, and a burst that runs is late (13 R728, R732). -/
def blankingEnds (n : Fin 16) (s : State) : State :=
  let t := s.modStream n (fun x => { x with
    blankings := match x.endAt with | some e => (s.time.now - e) :: x.blankings.take 7 | none => x.blankings
    endAt := none
    pendingSets := x.pendingSets.map (fun q => { q with due := false }) })
  t.modPort (portNo s n) (fun y => { y with
    burst := match y.burst with | some b => if b.1 = n then some (b.1, b.2.1, b.2.2.1, true) else some b | none => none })

/-- Layers, their enables and the ROIs are taken at a frame start (13 R752, R753, R756, R758, R766). -/
def takeLayers (n : Fin 16) (s : State) : State :=
  let x := strOf s n
  let on := s.sc n 0x4020 1
  let layers := vmapIdx (fun (l : Fin 4) (y : Layer) => if on.testBit l.val ∧ y.next.isSome then ⟨y.next, none⟩ else y) x.layers
  let y := { x with
    layers := layers, layersOn := on, rois := (List.range 8).map (fun i => s.sc n 0x4030 (i + 1)) }
  let ready := (x.layers[(0 : Fin 4)].current).isNone && (layers[(0 : Fin 4)].current).isSome
  let s1 := s.modStream n (fun _ => { y with maskPending := masked y })
  raiseIf (masked y && !x.maskPending) (raiseIf ready s1 (streamEv n.val 11) .capture []) (streamEv n.val 10) .capture []

/-- A stream whose frames join its group: the group's ticks start with its first member (13 R740). -/
def joinGroup (n : Fin 16) (s : State) : State :=
  match groupOf s n with
  | none => s
  | some g =>
    let t0 := s.video.group[g].start.getD s.time.timeBase
    let u := { s with video.group := vmod s.video.group g (fun x => { x with start := some t0 }) }
    u.modStream n (fun x => { x with nextTick := firstTick u g t0 })

/-- A stream's first frame after its start, or after it moved to a group that has none yet (13 R740, EV-(1152 + 32n + 0)). -/
def startRunning (n : Fin 16) (s : State) : State :=
  if (strOf s n).state = .waiting then
    joinGroup n (raise (s.modStream n (fun x => { x with state := .running, underrun := 0 })) (streamEv n.val 0) .capture [])
  else match groupOf s n with
    | none => s
    | some g => if (s.video.group[g].start).isNone then joinGroup n s else s

/-- A frame buffer is free (13 R718). -/
def bufferFree (x : Stream) : Bool :=
  decide ((x.queue.filter (fun f => !f.md.inserted)).length + (if x.cur.isSome then 1 else 0) < 3)

/-- The frame is accepted (13 R717, R738). -/
def acceptFrame (n : Fin 16) (time tick : Nat) (rejoin : Bool) (s : State) : State :=
  let number := (strOf s n).number + 1
  let f : Frame := ⟨metaFor n number time tick false s, [], 0, ⟨[], [], []⟩, 0, false, rejoin, (strOf s n).rois, s.time.now⟩
  s.modStream n (fun x => pruneEffects number { x with
    number := number, cur := some f, surplus := false, startAt := some s.time.now })

/-- A solo stream's frame starts less than 0.9 / r after the one accepted before (14 R785). -/
def overRate (s : State) (n : Fin 16) : Bool :=
  match (strOf s n).startAt with
  | some t => decide ((s.time.now - t) * s.sc n 0x4040 0x0D < 90000000)
  | none => false

/-- A solo stream's frame (13 R718, R719, R745; 14 R785). -/
def soloFrame (n : Fin 16) (s : State) : State :=
  if overRate s n then noteDrop n 7 s
  else if bufferFree (strOf s n) then acceptFrame n s.time.timeBase 0 false s
  else noteDrop n 5 s

/-- A surplus frame (13 R742). -/
def surplusFrame (n : Fin 16) (s : State) : State :=
  let told := secondPassed s (strOf s n).surplusAt
  raiseIf told ((noteDrop n 6 s).modStream n (fun x => { x with
    surplus := true, surplusAt := if told then some s.time.now else x.surplusAt })) (streamEv n.val 4) .capture []

/-- A member's frame takes its tick; a suspended member rejoins with an IDR frame (13 R741, R742, R745, R747). -/
def memberFrame (n : Fin 16) (g : Fin 4) (t0 : Nat) (s : State) : State :=
  let k := firstTick s g t0
  if k < (strOf s n).nextTick then surplusFrame n s
  else
    let s1 := fillTicks n g t0 k (underrunLimit s g) s
    let back := (strOf s1 n).state == .suspended
    if bufferFree (strOf s1 n) = false then noteDrop n 5 s1
    else
      let s2 := if back then raise (s1.modStream n (fun x => { x with state := .running, underrun := 0 })) (streamEv n.val 6) .capture []
        else s1
      countTick g k (acceptFrame n (tickTime s2 g t0 k) k back (s2.modStream n (fun x => { x with nextTick := k + 1 })))

/-- A frame starts on a stream. -/
def frameStarts (n : Fin 16) (s : State) : State :=
  let t := startRunning n (takeLayers n (blankingEnds n (dropCur n 2 s)))
  match groupOf t n with
  | none => soloFrame n t
  | some g =>
    match t.video.group[g].start with
    | some t0 => memberFrame n g t0 t
    | none => t

/-- FRAME_START (13 R713, R718, R719, R728, R732, R734, R741, R742, R747, R752, R753, R756, R758, R766; 14 R778, R785). -/
def execFrameStart (port vc : Fin 4) (s : State) : Host.Outcome State Fault Refusal :=
  if portTakes s port = false then .next s
  else
    match streamAt s port vc with
    | none => .next s
    | some n => .next (frameStarts n (setPort port .receiving s))

/-! ### Packets -/

/-- A packet that cannot be used (13 R715): the frame in progress is dropped with cause 1. -/
def packetError (port : Fin 4) (n : Option (Fin 16)) (s : State) : State :=
  let told := secondPassed s (portOf s port).errorAt
  let t := raiseIf told (s.modPort port (fun x => { x with
    state := .error, errorAt := if told then some s.time.now else x.errorAt })) (portEv port.val 2) .capture []
  match n with
  | some n => dropCur n 1 t
  | none => t

/-- A data type that is not listed (13 R711). -/
def unknownPacket (port : Fin 4) (s : State) : State :=
  let told := secondPassed s (portOf s port).unknownAt
  raiseIf told (s.modPort port (fun x => { x with
    unknown := x.unknown + 1, unknownAt := if told then some s.time.now else x.unknownAt })) (portEv port.val 3) .capture []

/-- A line of pixels of a format, 1 YUV422 or 2 legacy YUV420, joins the frame in progress (13 R713, R714, R717). -/
def addLine (n : Fin 16) (format : Nat) (data : List Byte) (s : State) : State :=
  let x := strOf s n
  match x.cur with
  | none => s
  | some f =>
    if x.format ≠ 0 ∧ x.format ≠ format then dropCur n 3 s
    else if data.length ≠ lineBytes format (s.sc n 0x4000 2) ∨ s.sc n 0x4000 3 ≤ f.lines.length then dropCur n 2 s
    else s.modStream n (fun x => { x with format := format, cur := some { f with lines := f.lines ++ [data], format := format } })

/-- What a long packet of a data type does (13 **Data types**). -/
def takePacket (port : Fin 4) (n : Option (Fin 16)) (dataType : BitVec 6) (data : List Byte) (s : State) : State :=
  if dataType = 0x12 ∨ dataType.toNat < 4 then s
  else if dataType = 0x1E ∨ dataType = 0x1A then
    match n with
    | some n => addLine n (if dataType = 0x1E then 1 else 2) data s
    | none => s
  else unknownPacket port s

/-- LONG_PACKET (13 R711, R713 to R715, R717, R719, R743). -/
def execLongPacket (port vc : Fin 4) (dataType : BitVec 6) (data : List Byte) (check : PacketCheck) (s : State) :
    Host.Outcome State Fault Refusal :=
  if portTakes s port = false then .next s
  else
    let n := streamAt s port vc
    match check with
    | .good => .next (takePacket port n dataType data s)
    | .corrected => .next (takePacket port n dataType data (s.modPort port (fun x => { x with errors := x.errors + 1 })))
    | .badCrc | .badHeader => .next (packetError port n s)

/-! ### Frame end -/

/-- Statistics of a frame, from luma before any layer is drawn (13 R737). -/
def statsOf (s : State) (n : Fin 16) (md : Meta) (rois : List Nat) (p : Picture) : Stats :=
  { md := md, histogram := histogram p, zones := zoneMeans p (s.sc n 0x4000 2) (s.sc n 0x4000 3)
    rois := (List.range 8).map (fun i => roiMean p (rois.getD i 0)) }

/-- A complete frame: it is converted and measured, its layers are drawn, and it waits for the pixel engine (13 R717, R737, R750,
R755, R761 to R763). -/
def completeFrame (n : Fin 16) (f : Frame) (s : State) : State :=
  let p := convert f.format f.lines
  let drawn := drawAll n.val (s.sc n 0x4000 2) f.md (strOf s n).layers p
  let g := { f with lines := [], picture := drawn }
  s.modStream n (fun x => { x with
    cur := none, captured := x.captured + 1, underrun := 0, stats := some (statsOf s n f.md f.rois p)
    queue := if takesFrames s n then x.queue ++ [g] else x.queue })

/-- The vertical blanking after a frame end: the sets of the frame may be sent (13 R725, R726). -/
def blankingBegins (n : Fin 16) (s : State) : State :=
  pumpPort (portNo s n) (s.modStream n (fun x => { x with
    endAt := some s.time.now, pendingSets := x.pendingSets.map (fun q => { q with due := true }) }))

/-- A frame ends on a stream (13 R714, R715). -/
def frameEnds (port : Fin 4) (n : Fin 16) (s : State) : State :=
  let x := strOf s n
  if streamLive s n = false ∨ x.endAt.isSome then packetError port (some n) s
  else
    let t := match x.cur with
      | none => s
      | some f => if f.lines.length = s.sc n 0x4000 3 then completeFrame n f s else dropCur n 2 s
    blankingBegins n t

/-- FRAME_END (13 R714, R715, R717, R719, R726, R729, R735, R737, R743, R750, R755, R761 to R763). -/
def execFrameEnd (port vc : Fin 4) (s : State) : Host.Outcome State Fault Refusal :=
  if portTakes s port = false then .next s
  else
    match streamAt s port vc with
    | none => .next s
    | some n =>
      let t := frameEnds port n s
      .next (if (portOf t port).state = .receiving then setPort port .idle t else t)

/-! ### Clock lanes -/

/-- CLOCK_LANE_LOST (01 R19; 13 R716, R719, R743). -/
def execClockLaneLost (port : Fin 4) (s : State) : Host.Outcome State Fault Refusal :=
  if portRuns s port = false ∨ s.life.dev.supervised = false then .next s
  else
    let t := raise (s.modPort port (fun x => { x with state := .noClock, rate := 0 })) (portEv port.val 1) .capture []
    .next (islandsRefresh (forAll 16 (fun u n => if portNo u n = port then dropCur n 4 u else u) t))

/-- Streams of a port whose island has just started take what was delivered to it (01 R27; 13 R720). -/
def portStarted (before : State) (port : Fin 4) (s : State) : State :=
  forAll 16 (fun t n => if portNo t n = port ∨ portNo before n = port then
    (if before.isl.undelivered = s.isl.undelivered then startStream n t else streamChanged before n t) else t) s

/-- CLOCK_LANE_UP (01 R19, R27; 13 R707, R716). -/
def execClockLaneUp (port : Fin 4) (laneRate : Nat) (s : State) : Host.Outcome State Fault Refusal :=
  if portRuns s port ∨ s.life.dev.supervised = false then .next s
  else
    let t := raise (s.modPort port (fun x => { x with state := .idle, rate := laneRate })) (portEv port.val 0) .capture []
    .next (portStarted s port (islandsRefresh t))

/-! ### Exposure sets and CCI -/

/-- EXPOSURE_COMMIT (13 R723 to R725, R731): ExposureCommit = 1. -/
def execExposureCommit (p : Session) (n : Fin 16) (s : State) : Host.Outcome State Fault Refusal :=
  .next (sessionPut p (BitVec.ofNat 16 (blockIndex 0x4010 n.val)) 9 1 1 s)

/-- EXPOSURE_CLEAR (13 R723): ExposureCommit = 2. -/
def execExposureClear (p : Session) (n : Fin 16) (s : State) : Host.Outcome State Fault Refusal :=
  .next (sessionPut p (BitVec.ofNat 16 (blockIndex 0x4010 n.val)) 9 1 2 s)

/-- The frame at which a set takes effect whose burst follows frame `g`: K frames after it, one more when a frame start met the
burst, and the first frame when none had started (13 R730 to R732). -/
def effectFrame (s : State) (n : Fin 16) (g : Nat) (met : Bool) : Nat :=
  if met then g + s.sc n 0x4000 5 + 1
  else if streamLive s n then g + s.sc n 0x4000 5
  else g + 1

/-- A set leaves the queue with its effect. -/
def settleSet (n : Fin 16) (id g : Nat) (met failed : Bool) (s : State) : State :=
  s.modStream n (fun x => { x with
    pendingSets := x.pendingSets.filter (fun q => q.id != id)
    effects := x.effects ++ [⟨effectFrame s n g met, id, met && !failed, failed⟩] })

/-- A set still waits for its end; a stop of its stream has discarded the others (13 R736). -/
def setWaits (s : State) (n : Fin 16) (id : Nat) : Bool := (strOf s n).pendingSets.any (fun q => q.id == id)

/-- CCI_BURST_COMPLETE (13 R726, R729 to R732, R736). -/
def execCciBurstComplete (port : Fin 4) (s : State) : Host.Outcome State Fault Refusal :=
  match (portOf s port).burst with
  | none => .next s
  | some (n, id, g, met) =>
    let t := s.modPort port (fun x => { x with burst := none })
    if setWaits s n id then .next (pumpPort port (raiseIf met (settleSet n id g met false t) (streamEv n.val 8) .capture []))
    else .next (pumpPort port t)

/-- A burst fails: the first time its set is sent again in the next blanking, the second time it is abandoned (13 R733). -/
def burstFails (port : Fin 4) (s : State) : State :=
  match (portOf s port).burst with
  | none => s
  | some (n, id, g, met) =>
    let t := s.modPort port (fun x => { x with burst := none })
    let again := (strOf t n).pendingSets.any (fun q => q.id == id && q.failures == 0)
    if again then
      pumpPort port (t.modStream n (fun x => holdSets id { x with
        pendingSets := x.pendingSets.map (fun q => if q.id = id then { q with failures := q.failures + 1 } else q) }))
    else if setWaits s n id then pumpPort port (raise (settleSet n id g met true t) (streamEv n.val 9) .capture [])
    else pumpPort port t

/-- CCI_NACK (13 R733). -/
def execCciNack (port : Fin 4) (s : State) : Host.Outcome State Fault Refusal := .next (burstFails port s)

/-- CCI_BUS_STUCK (13 R733): SCL has been held low for 25 ms. -/
def execCciBusStuck (port : Fin 4) (s : State) : Host.Outcome State Fault Refusal :=
  if cciFree s port then .next s
  else
    .next (burstFails port (raise s (portEv port.val 4) .capture []))

/-- CCI_DIRECT_WRITE (13 R721, R735): CciOp = 1. -/
def execCciDirectWrite (p : Session) (n : Fin 16) (s : State) : Host.Outcome State Fault Refusal :=
  .next (sessionPut p (BitVec.ofNat 16 (blockIndex 0x4011 n.val)) 4 1 1 s)

/-- CCI_DIRECT_READ (13 R721, R735): CciOp = 2. -/
def execCciDirectRead (p : Session) (n : Fin 16) (s : State) : Host.Outcome State Fault Refusal :=
  .next (sessionPut p (BitVec.ofNat 16 (blockIndex 0x4011 n.val)) 4 1 2 s)

/-- CCI_DIRECT_TRANSFER_DONE (13 R735, `4011h:05 CciResult`): a read leaves its data, of CciLength bytes, in CciData. -/
def execCciDirectTransferDone (n : Fin 16) (e : CciEnd) (s : State) : Host.Outcome State Fault Refusal :=
  if (strOf s n).cciRunning = false then .next s
  else
    let read := (strOf s n).cciOp == 2
    let done := fun (r : Nat) => s.modStream n (fun x => { x with cciResult := r, cciOp := 0, cciRunning := false })
    let t := match e with
      | .ok v => if read then (done 2).setHeld (blockIndex 0x4011 n.val) 2 (v.toNat % 256 ^ s.sc n 0x4011 3) else done 2
      | .nack => done 3
      | .timeout => done 4
    .next (pumpPort (portNo s n) t)

/-! ### Ticks -/

/-- TICK_TOLERANCE_EXPIRY (13 R743, R744, R746, R748; 14 R797): a tick's tolerance has passed without a frame of the member. -/
def execTickToleranceExpiry (n : Fin 16) (s : State) : Host.Outcome State Fault Refusal :=
  match groupOf s n with
  | none => .next s
  | some g =>
    match s.video.group[g].start with
    | none => .next s
    | some t0 =>
      let k := (strOf s n).nextTick
      if (strOf s n).state ≠ .running ∨ s.time.timeBase < tickTime s g t0 k + groupTolerance s g then .next s
      else .next (insertFrame n g t0 k ((strOf s n).number + 1) s)

end Sys2Proof.Machine
end

