-- ==== Sys2Proof/Machine/Dictionary.lean ====
section
/-! DEFINITION. The dictionary's own commands: encryption, the expert session, the lock, stores and restores (03; 04 sections 3
and 4). -/

namespace Sys2Proof.Machine

/-- ENCRYPTION_WRITE (03 R119). -/
def execEncryptionWrite (p : Session) (v : Byte) (s : State) : Host.Outcome State Fault Refusal :=
  .next (sessionPut p 0x2020 6 1 v.toNat s)

/-- EXPERT_OPEN (03 R123 to R127; 04 R161). -/
def execExpertOpen (p : Session) (code : BitVec 32) (s : State) : Host.Outcome State Fault Refusal :=
  .next (sessionPut p 0x2021 1 4 code.toNat s)

/-- EXPERT_CLOSE (03 R128, R129): 0 is written to ExpertOpen. -/
def execExpertClose (p : Session) (s : State) : Host.Outcome State Fault Refusal :=
  .next (sessionPut p 0x2021 1 4 0 s)

/-- EXPERT_IDLE_TIMEOUT (03 R128, R129): no request of the holder for ExpertIdleTimeout. -/
def execExpertIdleTimeout (s : State) : Host.Outcome State Fault Refusal :=
  if s.time.now < s.mode.expertLast + s.cfg 0x2021 3 * 1000000 then .next s else .next (closeExpert s)

/-- EXPERT_LOCKOUT_END (04 R161): the 10 min have passed. -/
def execExpertLockoutEnd (s : State) : Host.Outcome State Fault Refusal :=
  match s.mode.lockoutEnd with
  | some t => .next (if t ≤ s.time.now then { s with mode.lockoutEnd := none } else s)
  | none => .next s

/-- EXPERT_CODE_WRITE (04 R159, R160). -/
def execExpertCodeWrite (p : Session) (code : BitVec 32) (s : State) : Host.Outcome State Fault Refusal :=
  .next (sessionPut p 0x2F00 1 4 code.toNat s)

/-- CONFIG_LOCK_WRITE (04 R143, R144). -/
def execConfigLockWrite (p : Session) (v : Byte) (s : State) : Host.Outcome State Fault Refusal :=
  .next (sessionPut p 0x2030 1 1 v.toNat s)

/-- STORE_ALL (04 R146, R148, R151). -/
def execStoreAll (p : Session) (sig : BitVec 32) (s : State) : Host.Outcome State Fault Refusal :=
  .next (sessionPut p 0x1010 1 4 sig.toNat s)

/-- STORE_COMMUNICATION (04 R146, R148, R151). -/
def execStoreCommunication (p : Session) (sig : BitVec 32) (s : State) : Host.Outcome State Fault Refusal :=
  .next (sessionPut p 0x1010 2 4 sig.toNat s)

/-- STORE_APPLICATION (04 R146, R148, R151). -/
def execStoreApplication (p : Session) (sig : BitVec 32) (s : State) : Host.Outcome State Fault Refusal :=
  .next (sessionPut p 0x1010 3 4 sig.toNat s)

/-- Answer a request that has waited (04 R150, R165, R166). -/
def answerWaiting (p : Session) (index sub : Nat) (a : Answer) (s : State) : State :=
  let t := noteAnswer p a s
  match p with
  | .usdo c =>
    if s.can.busy.contains c then
      answerUsdo c index sub a [] { t with can.busy := t.can.busy.filter (fun d => d != c) }
    else t
  | .mailbox fn => if (s.mbx[fn]).go then answerMbx fn (s.mbx[fn]).tag a [] t else t

/-- The sub-index of `1010h` that asked for a store. -/
def storeSub (k : StoreKind) : Nat :=
  match k with
  | .all => 1 | .communication => 2 | .application => 3

/-- The own-supply figures pass to the keep store with a store that saves them (09 R471). -/
def storeSupplies (k : StoreKind) (s : State) : State :=
  if storeCovers k (key 0x2700 1) then
    { s with nor := { s.nor with stepDelay4 := s.held 0x2700 1, enableTimeout4 := s.held 0x2700 2 } }
  else s

/-- The copy has been written and read back (04 R149, R150). DESIGN CHOICE (log 124): it holds the values in force at that moment, also
those written while the store ran. -/
def storeDone (k : StoreKind) (s : State) : State :=
  let c : NorCopy := ⟨true, nextCopySeq s.nor, false, savedValues k s⟩
  keepPend (storeSupplies k { s with
    nor := { writeCopy c s.nor with storing := none, storeState := 2, storeCount := s.nor.storeCount + 1 } })

/-- The copy could not be written: the one that was being written is not valid (04 R149, R150). -/
def storeFailed (s : State) : State :=
  { s with nor := { writeCopy { NorCopy.reset with valid := false } s.nor with storing := none, storeState := 3 } }

/-- STORE_COMPLETE (04 R149, R150; 09 R471): the store that runs ends, its request is answered, and then the event is raised. -/
def execStoreComplete (ok : Bool) (s : State) : Host.Outcome State Fault Refusal :=
  match s.nor.storing with
  | none => .next s
  | some (k, p) =>
    if ok then .next (raise (answerWaiting p 0x1010 (storeSub k) .ok (storeDone k s)) 16 .control [])
    else .next (raise (answerWaiting p 0x1010 (storeSub k) (.abort abData) (storeFailed s)) 17 .control [])

/-- RESTORE_DEFAULTS_ALL (04 R147, R148). -/
def execRestoreDefaultsAll (p : Session) (sig : BitVec 32) (s : State) : Host.Outcome State Fault Refusal :=
  .next (sessionPut p 0x1011 1 4 sig.toNat s)

end Sys2Proof.Machine
end

