-- ==== Sys2Proof/Machine/Energy.lean ====
section
/-! DEFINITION. The energy channels: SAMPLE, EBYTE_RESET, the faults and phases of charging, sags and the hold-up converter
(07; 08 sections 1, 3 and 4; 11 section 1). -/

namespace Sys2Proof.Machine

/-! ### Samples -/

/-- A channel is detected as fitted (07 R336, R338); one that was removed and fitted again is reset (08 R448). -/
def detect (c : Channel) (s : State) : State :=
  let x := s.chan c
  if x.fitted ∨ chanConfigured s c = false ∨ ntcOk x = false then s
  else
    let t := raise (s.setChan c { x with fitted := true }) (chanEv c 128) .supervisor []
    if x.wasRemoved then keepPend (resetChannel c (t.setChan c { t.chan c with wasRemoved := false })) else t

/-- ConfigMismatch is raised when its condition becomes true (07 R338). -/
def mismatchRefresh (c : Channel) (was : Bool) (s : State) : State :=
  raiseIf (configMismatch s c && !was) s (chanEv c 130) .supervisor []

/-- The taper condition holds (07 R350, R351). -/
def tapers (s : State) (c : Channel) : Bool :=
  let x := s.chan c
  x.enable && decide (x.ma ≤ (taperCurrent s c : Int)) && decide (x.targetFinal ≤ x.mv + 30)

/-- The counters that follow the samples of a channel: overcharge, taper and end of discharge (07 R350, R360; 08 R399). -/
def sampleCounts (c : Channel) (s : State) : State :=
  let x := s.chan c
  s.setChan c { x with
    overRun := if finalTarget s c + 50 * cells s c < x.mv then min 3 (x.overRun + 1) else 0
    taperAt := if tapers s c then some (x.taperAt.getD s.time.now) else none
    eod := if eodSample s c x.mv x.ma then min 3 (x.eod + 1) else 0 }

/-- The cycle count has passed another 0.1 cycle: the keep store is to be written (08 R446). -/
def cycleKeep (c : Channel) (old : Nat) (s : State) : State := if old / 10 < (s.est c).cycles / 10 then keepPend s else s

/-- The estimator takes a sample while CONTROL runs and the channel is fitted; else the counter alone runs (08 R381, R382, R415). -/
def estimate (c : Channel) (mv : Nat) (ma dt : Int) (s : State) : State :=
  if controlRuns s ∧ (s.chan c).fitted then checkLearn c (cycleKeep c (s.est c).cycles (estSample c mv ma dt s))
  else countSample c ma s

/-- A Geyser cycle ends when the channel's temperature leaves 10 to 40 °C (08 R422). -/
def geyserTemp (c : Channel) (s : State) : State :=
  if geyserRuns (s.est c) ∧ ((s.chan c).dt < 100 ∨ 400 < (s.chan c).dt) then stageRefresh (geyserAbort c s) else s

/-- SAMPLE (08 R378 to R382, R390 to R399; 07 R336, R338, R344 to R351, R360). -/
def execSample (c : Channel) (mv : Nat) (ma dt : Int) (s : State) : Host.Outcome State Fault Refusal :=
  if s.life.dev.supervised = false then .next s
  else
    let x := s.chan c
    let s1 := s.setChan c { x with mv := mv, ma := ma, dt := dt, zone := zoneOf c x.zone dt }
    let s2 := mismatchRefresh c (configMismatch s c) (detect c s1)
    let s3 := geyserTemp c (estimate c mv ma dt s2)
    .next (modesRefresh (chargesRefresh (sampleCounts c s3)))

/-- EBYTE_RESET (06 R323). -/
def execEbyteReset (p : Session) (s : State) : Host.Outcome State Fault Refusal := .next (sessionPut p 0x2420 5 1 1 s)

/-! ### Fitting -/

/-- CHANNEL_REMOVED (07 R337, R339; 08 R448; 11 R619): the NTC has read out of range for 100 ms. -/
def execChannelRemoved (c : Channel) (s : State) : Host.Outcome State Fault Refusal :=
  let x := s.chan c
  if s.life.dev.supervised = false ∨ x.fitted = false ∨ ntcOk x then .next s
  else
    let t := raise (s.setChan c { x with fitted := false, wasRemoved := true, eod := 0, overRun := 0 }) (chanEv c 129) .supervisor []
    let u := geyserEnds (chargesRefresh (geyserAbort c t))
    .next (if c = .pack then leaveSimmer 4 u else u)

/-- An entry of a channel's configuration (07 R340). -/
def isChannelConfig (index sub : Nat) : Bool :=
  (index == 0x2500 && decide (1 ≤ sub) && decide (sub ≤ 0x0C)) || (index == 0x2580 && decide (1 ≤ sub) && decide (sub ≤ 9))

/-- CHANNEL_CONFIG_WRITE (07 R340). -/
def execChannelConfigWrite (p : Session) (index : BitVec 16) (sub : BitVec 8) (data : List Byte) (s : State) :
    Host.Outcome State Fault Refusal :=
  .next (if isChannelConfig index.toNat sub.toNat then sessionWrite p index sub data s else s)

/-! ### Charging -/

/-- Taper time, µs (07 R350, R351). -/
def taperTime (s : State) (c : Channel) : Nat :=
  match c with | .pack => s.cfg 0x2500 7 * 1000000 | .bank => 60000000

/-- The charge of a channel ends: the PACK's enable falls with inhibit bit 7, the BANK goes on in float (07 R348, R352). -/
def endCharge (c : Channel) (s : State) : State :=
  match c with
  | .pack =>
    let x := s.pack
    holdCharge { s with pack := { x with full := true, inhibit := x.inhibit ||| 0x80#8 } } .pack
  | .bank => { s with bank.phase := .float }

/-- A Geyser cycle that recharges has ended (06 R315; 08 R419, R424). -/
def geyserDone (c : Channel) (s : State) : State :=
  if (s.est c).geyser = .recharging then
    geyserEnds (raise ({ s with adm.geyserForce := false }.setEst c { s.est c with geyser := .idle }) (chanEv c 149) .control [(1, chanCode c)])
  else s

/-- END_OF_CHARGE (07 R348, R350 to R352; 08 R393, R401, R410): the taper time has run out. -/
def execEndOfCharge (c : Channel) (s : State) : Host.Outcome State Fault Refusal :=
  let x := s.chan c
  match x.taperAt with
  | none => .next s
  | some t0 =>
    if x.enable = false ∨ x.phase = .float ∨ s.time.now < t0 + taperTime s c then .next s
    else
      let s2 := raise (startLearn c (calibrate c 1 (5 / 1000) (endCharge c s))) (chanEv c 132) .supervisor []
      .next (geyserDone c (chargeRefresh s2 c.other))

/-- PRECHARGE_TIMEOUT (07 R347). -/
def execPrechargeTimeout (s : State) : Host.Outcome State Fault Refusal :=
  .next (if s.pack.enable ∧ s.pack.phase = .precharge then faultNow .pack 3 s else s)

/-- CHARGER_OVERCURRENT (07 R358). -/
def execChargerOvercurrent (c : Channel) (s : State) : Host.Outcome State Fault Refusal :=
  let x := s.chan c
  .next (if x.enable ∧ (60 * x.setpoint + cRate s c : Int) < 50 * x.ma then faultNow c 1 s else s)

/-- CHARGER_STUCK_ON (07 R359). -/
def execChargerStuckOn (c : Channel) (s : State) : Host.Outcome State Fault Refusal :=
  let x := s.chan c
  .next (if s.life.dev.supervised ∧ chanConfigured s c ∧ x.enable = false ∧ (cRate s c : Int) < 50 * x.ma then faultNow c 2 s else s)

/-- OVERCHARGE (07 R360): three samples in a row lay above the final target by 50 mV per cell. -/
def execOvercharge (c : Channel) (s : State) : Host.Outcome State Fault Refusal :=
  let x := s.chan c
  .next (if s.life.dev.supervised ∧ chanConfigured s c ∧ 3 ≤ x.overRun then faultNow c 4 (s.setChan c { x with overRun := 0 }) else s)

/-- CHANNEL_CLEAR_FAULT (07 R361). -/
def execChannelClearFault (p : Session) (c : Channel) (s : State) : Host.Outcome State Fault Refusal :=
  .next (match c with
    | .pack => sessionPut p 0x2500 0x0D 1 1 s
    | .bank => sessionPut p 0x2580 0x0A 1 1 s)

/-- CHARGE_TARGET_REACHED (07 R356). -/
def execChargeTargetReached (c : Channel) (s : State) : Host.Outcome State Fault Refusal :=
  let x := s.chan c
  .next (if x.slewing ∧ presentTarget s c = x.targetFinal then
      raise (s.setChan c { x with target := x.targetFinal, slewing := false }) (chanEv c 133) .supervisor []
    else s)

/-- The voltages of the fitted BANK cells. -/
def cellVoltages (s : State) : List Nat :=
  ((List.finRange 6).filter (fun k => decide (k.val < cells s .bank))).map (fun k => s.hold.cells[k])

/-- CELL_IMBALANCE (07 R365): a spread above 150 mV has been held for 60 s in float. -/
def execCellImbalance (s : State) : Host.Outcome State Fault Refusal :=
  .next (raiseIf (s.bank.phase == .float && decide (leastOf (cellVoltages s) + 150 < (cellVoltages s).foldl max 0)) s 203
    .supervisor [])

/-! ### Sags -/

/-- The assist of a Geyser cycle is held at zero current (07 R375; 08 R421). -/
def holdAssist (s : State) : State :=
  match s.hold.assist with
  | none => s
  | some c => { s with hold.assistHeld := true }.setEst c { s.est c with geyser := .suspended }

/-- The assist goes on (07 R375; 08 R421). -/
def freeAssist (s : State) : State :=
  match s.hold.assist with
  | none => s
  | some c => { s with hold.assistHeld := false }.setEst c { s.est c with geyser := .discharging }

/-- INPUT_SAG (11 R580, R583, R598, R607; 07 R342, R375; 12 **Die transitions**). -/
def execInputSag (s : State) : Host.Outcome State Fault Refusal :=
  if s.life.dev.supervised = false ∨ s.hold.sag ∨ s.hold.failed then .next s
  else
    let t := raise { s with hold.sag := true } 449 .supervisor []
    .next (startPreSinter (chargesRefresh (endProbations (holdAssist t))))

/-- The sag ends (11 R580, R583, R603; 07 R342, R375). -/
def endSag (s : State) : State :=
  chargesRefresh (cancelPreSinter (freeAssist (raise { s with hold.sag := false } 450 .supervisor [])))

/-- SAG_CLEARED (11 R580, R603). -/
def execSagCleared (s : State) : Host.Outcome State Fault Refusal :=
  .next (if s.hold.sag ∧ s.hold.failed = false then endSag s else s)

/-! ### The hold-up converter -/

/-- HOLD_UP_FAULT (07 R373; 08 R422; 11 R619): HOLD_PG has been low for 10 ms. -/
def execHoldUpFault (s : State) : Host.Outcome State Fault Refusal :=
  if s.hold.en = false ∨ s.hold.state = 4 then .next s else .next (holdUpFails s)

/-- HOLD_UP_RECOVERED (07 R373): HOLD_PG has been high for 1 s. -/
def execHoldUpRecovered (s : State) : Host.Outcome State Fault Refusal :=
  .next (if s.hold.state = 4 then raise (holdRefresh { s with hold.state := 1 }) 41 .supervisor [] else s)

end Sys2Proof.Machine
end

