-- ==== Sys2Proof/Machine/Estimator.lean ====
section
/-! DEFINITION. The estimator's events: precision, calibration points, impedance samples, Geyser cycles and the hourly snapshot
(08; 02 R72). -/

namespace Sys2Proof.Machine

/-- The estimator serves a channel: CONTROL runs and the channel is fitted. -/
def estServes (s : State) (c : Channel) : Bool := controlRuns s && (s.chan c).fitted

/-- PRECISION_REACHED (02 R72; 08 R437): every fitted channel has 1,000 samples after calibration. -/
def execPrecisionReached (s : State) : Host.Outcome State Fault Refusal :=
  let ok := fun (c : Channel) => !(s.chan c).fitted || decide (1000 ≤ (s.est c).samples)
  .next (if controlRuns s ∧ s.life.estConservative ∧ calibrated s ∧ ok .pack ∧ ok .bank then
      raise { s with life.estConservative := false } 76 .control []
    else s)

/-- A Geyser cycle reaches its end of discharge and recharges (08 R419; 07 R376). -/
def geyserRecharge (c : Channel) (s : State) : State :=
  if (s.est c).geyser = .discharging then
    chargesRefresh (endAssist (s.setEst c { s.est c with geyser := .recharging }))
  else s

/-- END_OF_DISCHARGE (08 R393, R396, R399, R400, R410 to R415, R419): three samples in a row at or below V_eod. -/
def execEndOfDischarge (c : Channel) (s : State) : Host.Outcome State Fault Refusal :=
  if estServes s c = false ∨ (s.chan c).eod < 3 ∨ (s.est c).empty then .next s
  else
    let s1 := calibrate c 0 (5 / 1000) s
    let s2 := raise (s1.setEst c { s1.est c with empty := true, dropRep := true }) (chanEv c 144) .control []
    .next (publishNone c (geyserRecharge c (finishLearn c s2)))

/-- The SoC that an open-circuit voltage stands for, by the OCV table at a temperature (08 R384, R402). -/
def socOfOcv (p : Profile) (mv t : Rat) : Rat := lookup (socGrid.map (fun x => ocvAt p x t)) socGrid mv

/-- The PACK has relaxed (08 R402). -/
def relaxed (s : State) : Bool :=
  match s.packEst.restAt with
  | some t => decide (t + 900000000 ≤ s.time.now) || decide (s.packEst.restMvAt + 300000000 ≤ s.time.now)
  | none => false

/-- u_cal after a relaxed reading (08 R393). -/
def ocvUncertainty (chem : Nat) (soc : Rat) : Rat :=
  if chem = 2 ∧ 2 / 10 ≤ soc ∧ soc ≤ 9 / 10 then 8 / 100 else 2 / 100

/-- The wait after Sleep ends with the first relaxed reading (08 R442, R443). -/
def endAwaiting (s : State) : State :=
  if s.packEst.awaiting then
    raise (s.setEst .pack { s.packEst with awaiting := false, holdRep := false, widened := false, startSnap := none }) 154 .control []
  else s.setEst .pack { s.packEst with widened := false }

/-- OCV_RELAXED (08 R393, R402, R403, R442, R443); only a PACK is calibrated by its voltage (R402, R445). -/
def execOcvRelaxed (c : Channel) (s : State) : Host.Outcome State Fault Refusal :=
  if c = .bank ∨ estServes s .pack = false ∨ relaxed s = false then .next s
  else
    let soc := socOfOcv (profileOf s .pack) ((s.pack.mv : Rat) / (cells s .pack : Rat)) (s.pack.dt : Rat)
    let gap := max (soc - s.packEst.socInt) (s.packEst.socInt - soc)
    let t := calibrate .pack soc (ocvUncertainty (chemistry s .pack) soc) s
    .next (endAwaiting (if uSoc s .pack + 5 / 100 < gap ∧ s.packEst.mismatch = false then enterMismatch .pack t else t))

/-- An impedance sample, 0.1 mΩ per cell (08 R405). -/
def impedanceOf (s : State) (c : Channel) (dmv dma : Int) : Rat := (dmv : Rat) * 10000 / (dma : Rat) / (cells s c : Rat)

/-- A discarded impedance sample; the eighth in a row is a profile mismatch (08 R407). -/
def discardImpedance (c : Channel) (s : State) : State :=
  let n := (s.est c).discards + 1
  let t := s.setEst c { s.est c with discards := n }
  if 8 ≤ n then enterMismatch c t else t

/-- An accepted impedance sample (08 R406, R408). -/
def takeImpedance (c : Channel) (i : Nat) (x : Rat) (s : State) : State :=
  let v := impedanceCell s c i
  let r : Rat := (v.1 : Rat) + (x - (v.1 : Rat)) / ((min (v.2 + 1) 8 : Nat) : Rat)
  let t := s.setEst c { s.est c with
    impedance := mapSet (s.est c).impedance i (r.floor.toNat, min 255 (v.2 + 1)), discards := 0 }
  raiseIf (v.2 == 0) t (chanEv c 151) .control []

/-- IMPEDANCE_SAMPLE (08 R405 to R408): the voltage and current changes 10 ms after a step. -/
def execImpedanceSample (c : Channel) (dmv dma : Int) (s : State) : Host.Outcome State Fault Refusal :=
  if estServes s c = false ∨ dma = 0 ∨ 5 * dma.natAbs < cOf s c then .next s
  else
    let i := cellIndex (s.chan c).dt (s.est c).socInt
    let x := impedanceOf s c dmv dma
    let r : Rat := ((profileOf s c).impedance.getD i 0 : Nat)
    .next (if 4 * x < r ∨ 4 * r < x then discardImpedance c s else takeImpedance c i x s)

/-- The Geyser interval of a channel, days. -/
def geyserInterval (s : State) (c : Channel) : Nat := s.cfg (match c with | .pack => 0x2511 | .bank => 0x2591) 3

/-- A cycle is due: by its interval, or again after an abort (08 R416, R423). -/
def geyserIsDue (s : State) (c : Channel) : Bool :=
  let e := s.est c
  geyserInterval s c != 0 &&
    (if e.geyserAfter = 0 then decide (geyserInterval s c ≤ daysSince s c) else decide (e.geyserAfter ≤ s.poweredSec))

/-- GEYSER_DUE (08 R416, R423). -/
def execGeyserDue (c : Channel) (s : State) : Host.Outcome State Fault Refusal :=
  .next (if estServes s c ∧ (s.est c).geyser = .idle ∧ geyserIsDue s c then
      s.setEst c { s.est c with geyser := .due, geyserAfter := 0 }
    else s)

/-- GEYSER_START (08 R417 to R420, R424): a due cycle starts; with both due, PACK runs first. -/
def execGeyserStart (c : Channel) (s : State) : Host.Outcome State Fault Refusal :=
  .next (if (s.est c).geyser = .due ∧ geyserMayStart s c ∧ (c = .pack ∨ s.packEst.geyser ≠ .due) then
      modesRefresh (geyserBegin c s)
    else s)

/-- The index of a channel's estimator settings. -/
def estIndex (c : Channel) : BitVec 16 := match c with | .pack => 0x2511 | .bank => 0x2591

/-- GEYSER_REQUEST_START (08 R423). -/
def execGeyserRequestStart (p : Session) (c : Channel) (s : State) : Host.Outcome State Fault Refusal :=
  .next (sessionPut p (estIndex c) 7 1 1 s)

/-- GEYSER_REQUEST_ABORT (08 R422). -/
def execGeyserRequestAbort (p : Session) (c : Channel) (s : State) : Host.Outcome State Fault Refusal :=
  .next (sessionPut p (estIndex c) 7 1 2 s)

/-- CHANNEL_RESET (08 R447). -/
def execChannelReset (p : Session) (c : Channel) (s : State) : Host.Outcome State Fault Refusal :=
  .next (sessionPut p (estIndex c) 0x0A 1 1 s)

/-- The hourly snapshot of a fitted channel, in SERVE (08 R446). -/
def hourSnap (s : State) (c : Channel) : Option Snap :=
  if s.life.dev = .serve ∧ (s.chan c).fitted then some (snapshot s c 0) else none

/-- SNAPSHOT_HOURLY (08 R446; 09 R523): the keep store takes snapshots, powered time and changed impedance. -/
def execSnapshotHourly (s : State) : Host.Outcome State Fault Refusal :=
  if s.life.dev.supervised = false ∨ controlRuns s = false then .next s
  else
    .next (keepWriteSnap (hourSnap s .pack) (hourSnap s .bank) s)

end Sys2Proof.Machine
end

