-- ==== Sys2Proof/Machine/Events.lean ====
section
/-! DEFINITION. Commands of the event system (15). EMCY messages are sent by `execEmcyTransmit` in Machine/Can.lean. -/

namespace Sys2Proof.Machine

/-- At least 100 µs have passed since a function's latest event message (15 R847). -/
def vectorFree (sentAt : Option Nat) (now : Nat) : Bool :=
  match sentAt with
  | none => true
  | some t => decide (t + 100 ≤ now)

/-- EVENT_VECTOR_RAISE (15 R847): the records of a pass are in the ring before its vector is raised, and a function gets at most
one message every 100 µs. -/
def execEventVectorRaise (fn : Fin 16) (s : State) : Host.Outcome State Fault Refusal :=
  let g := s.ev.ring[fn]
  if g.due ∧ ringOpen s fn = true ∧ vectorFree g.sentAt s.time.now = true then
    .next ({ s with ev.ring := vset s.ev.ring fn { g with due := false, sentAt := some s.time.now } }.send
      (.msix fn (s.cfg (blockIndex 0x3050 fn.val) 1)))
  else .next s

/-- EVENT_ACKNOWLEDGE (15 R829): bits written 1 to a bank's Acknowledge entry. -/
def execEventAcknowledge (p : Session) (bank : Fin 28) (bits : BitVec 64) (s : State) : Host.Outcome State Fault Refusal :=
  .next (sessionPut p (BitVec.ofNat 16 (0x5000 + bank.val)) 3 8 bits.toNat s)

/-- CLEAR_LOG (15 R837): 1 written to `2C00h:05`. -/
def execClearLog (p : Session) (s : State) : Host.Outcome State Fault Refusal := .next (sessionPut p 0x2C00 5 1 1 s)

end Sys2Proof.Machine
end

