-- ==== Sys2Proof/Machine/FlashCommands.lean ====
section
/-! DEFINITION. Flash and the image: failures of pages and blocks, background erase, releases, dies, sanitize, pre-sinter and the
background restore (12; 11 section 4; 02 section 6). -/

namespace Sys2Proof.Machine

/-- FLASH runs. -/
def flashRuns (s : State) : Bool := s.island .flash == .running

/-! ### Failures -/

/-- A copy is being written: pre-sinter, or the copy of a Sinter. -/
def copyRuns (s : State) : Bool := flashRuns s && !s.flash.open_.isEmpty

/-- The block of a die that is being programmed, or the one it takes next. -/
def writeBlockOf (d : Die) : Option Nat := match d.cur with | some b => some b | none => pickBlock d

/-- PROGRAM_FAIL (12 R684, R692): the block is grown bad, and the slots of the page are written again in the next stripe. -/
def execProgramFail (die : Fin 16) (s : State) : Host.Outcome State Fault Refusal :=
  match writeBlockOf s.flash.die[die] with
  | none => .next s
  | some b =>
    if copyRuns s = false ∨ s.flash.die[die].state ≠ .active then .next s
    else .next (relocatePage die (markBad die b (raise s 518 .flash [])))

/-- The stale block of a die that is erased next. -/
def staleBlock (d : Die) : Option Nat := (d.table.find? (fun p => p.2.1 == .stale)).map (·.1)

/-- An on-demand fetch waits (02 R92). -/
def fetchWaits (s : State) : Bool := s.port.cmds.any (fun c => c.stage == .fetching)

/-- Pre-sinter has a page in hand; the background restore yields to it (11 R601). -/
def preSinterBusy (s : State) : Bool := s.flash.preSinter && !s.flash.copying.isEmpty

/-- The background restore has a stripe to read. -/
def restoreBusy (s : State) : Bool := s.life.dev == .restore && s.flash.restoring && (nextStripe s).isSome

/-- Background erase runs in RESTORE and SERVE, and yields to on-demand fetches, to the background restore and to pre-sinter
(12 R686). -/
def erases (s : State) : Bool :=
  flashRuns s && (s.life.dev == .restore || s.life.dev == .serve) && !fetchWaits s && !preSinterBusy s && !restoreBusy s

/-- ERASE_FAIL (12 R684, R692): the block is marked grown bad. An erase that was in progress may end after RESTORE and SERVE. -/
def execEraseFail (die : Fin 16) (s : State) : Host.Outcome State Fault Refusal :=
  match staleBlock s.flash.die[die] with
  | none => .next s
  | some b => if flashRuns s = false ∨ s.flash.die[die].state = .absent then .next s else .next (markBad die b s)

/-- DIE_COMMAND_TIMEOUT (12 R692, R694): the third since BOOT retires an active die. -/
def execDieCommandTimeout (die : Fin 16) (s : State) : Host.Outcome State Fault Refusal :=
  if flashRuns s = false ∨ s.flash.die[die].state = .absent then .next s
  else
    let t := s.modDie die (fun x => { x with timeouts := x.timeouts + 1 })
    .next (if t.flash.die[die].state = .active ∧ 3 ≤ t.flash.die[die].timeouts then retireDie die 1 t else t)

/-! ### Space -/

/-- One background erase more: the block tables are written after every 64th (12 R683). -/
def countErase (s : State) : State :=
  let t := { s with flash.erases := (s.flash.erases + 1) % 64 }
  if t.flash.erases = 0 then writeTables t else t

/-- A die's copy of the manifest buffer to be written next is erased; with the last one the manifest it held is gone (12 R671). -/
def eraseBuffer (d : Fin 16) (s : State) : State :=
  let rest := s.flash.bufferDirty.filter (· != d)
  let t := eraseDie d (bufferBlock (!s.flash.buffer)) s
  { t with flash := { t.flash with bufferDirty := rest, previous := if rest.isEmpty then none else s.flash.previous } }

/-- BACKGROUND_ERASE (12 R671, R683, R685, R686): the manifest buffer to be written next, then stale blocks. -/
def execBackgroundErase (die : Fin 16) (s : State) : Host.Outcome State Fault Refusal :=
  if erases s = false ∨ s.flash.die[die].state = .absent then .next s
  else if s.flash.bufferDirty.contains die then .next (countErase (eraseBuffer die s))
  else
    match staleBlock s.flash.die[die] with
    | none => .next s
    | some b => .next (countErase (eraseDie die (.image b) (s.modDie die (eraseBlock b))))

/-- IMAGE_RELEASE (12 R689, R690): a condition for a release holds in SERVE. -/
def execImageRelease (s : State) : Host.Outcome State Fault Refusal :=
  .next (if releaseDue s ∧ releaseOk s then releaseImage s else s)

/-- RELEASE_REQUEST (12 R674, R689): ReleaseRequest = 1. -/
def execReleaseRequest (p : Session) (s : State) : Host.Outcome State Fault Refusal := .next (sessionPut p 0x2901 0x0A 1 1 s)

/-! ### Dies -/

/-- DIE_RETIRE (12 R692): DieCommand = 1. -/
def execDieRetire (p : Session) (die : Fin 16) (s : State) : Host.Outcome State Fault Refusal :=
  .next (sessionPut p (BitVec.ofNat 16 (0x2910 + die.val)) 2 1 1 s)

/-- DIE_RETURN (12 R692, R696, R698): DieCommand = 2, with the die answering or not. -/
def execDieReturn (p : Session) (die : Fin 16) (answers : Bool) (s : State) : Host.Outcome State Fault Refusal :=
  .next (fromSession p (BitVec.ofNat 16 (0x2910 + die.val)) 2 [2] (dictWriteA p answers (0x2910 + die.val) 2 [2]) s)

/-- The block under probation: the first from `verified` on that is not grown bad. -/
def probeBlock (d : Die) : Option Nat :=
  (List.range d.blocks).find? (fun b => decide (d.verified ≤ b) && (blockOfDie d b).1 != .bad)

/-- A probation whose grown bad blocks exceed the limit ends with cause 6. -/
def failProbation (d : Fin 16) (s : State) : State := endProbation d (s.modDie d (fun x => { x with cause := 6 }))

/-- A probation that has verified every block ends: the die is active again (12 **Die transitions**, R697). -/
def passProbation (d : Fin 16) (s : State) : State :=
  raise (s.modDie d (fun x => { x with
    state := .active, cause := 0, retiredInTable := false, verified := 0, cur := none, nextPage := 0, timeouts := 0
    rebuilds := [] })) (608 + d.val) .flash []

/-- The operations of probation on a block: erase, every page programmed with verify-pattern codewords and read back (12 R655, R696).
Verify-pattern codewords belong to no epoch. -/
def verifyOps (d : Fin 16) (b : Nat) (s : State) : State :=
  let x := s.flash.die[d]
  let word := fun (page w : Nat) => sealWord ⟨d, b, page, w, (blockOfDie x b).2 + 1⟩ 0 0 5 0 (Config.verifyPattern w)
  let t := (List.range x.pages).foldl (fun t page =>
    programPage d (.image b) page (.codewords ((List.range x.c).map (word page))) t) (eraseDie d (.image b) s)
  (List.range x.pages).foldl (fun t page => flashDo d (.read (.image b) page) t) t

/-- One probation block has been dealt with (12 R692, R696; log 94). -/
def verifyBlock (d : Fin 16) (b : Nat) (ok : Bool) (sv : State) : State :=
  let s := verifyOps d b sv
  let t := if ok then s.modDie d (fun x => { eraseBlock b x with verified := b + 1 })
    else (markBad d b s).modDie d (fun x => { x with verified := b + 1 })
  if badBeyond t t.flash.die[d] then failProbation d t
  else if (probeBlock t.flash.die[d]).isNone then passProbation d t
  else t

/-- PROBATION_BLOCK_VERIFIED (12 R692, R696 to R698): a block passed its erase, program and read-back, or failed one of them. -/
def execProbationBlockVerified (die : Fin 16) (ok : Bool) (s : State) : Host.Outcome State Fault Refusal :=
  if flashRuns s = false ∨ s.flash.die[die].state ≠ .probation then .next s
  else
    match probeBlock s.flash.die[die] with
    | some b => .next (verifyBlock die b ok s)
    | none => .next (if badBeyond s s.flash.die[die] then failProbation die s else passProbation die s)

/-! ### Sanitize -/

/-- SANITIZE (12 R704 to R706): a write to `2F10h:01`. -/
def execSanitize (p : Session) (v : Byte) (s : State) : Host.Outcome State Fault Refusal :=
  .next (sessionPut p 0x2F10 1 1 v.toNat s)

/-- SANITIZE_COMPLETE (12 R702, R706): both key-area copies hold the new generation, or every stale block has been erased. -/
def execSanitizeComplete (s : State) : Host.Outcome State Fault Refusal :=
  if flashRuns s = false ∨ s.flash.sanitizeState ≠ 1 ∨ (s.flash.sanitizeKeys = false ∧ staleBlockPages s.flash ≠ 0) then .next s
  else
    let t := if s.flash.sanitizeKeys then writeKeys s else s
    .next (raise { t with flash := { t.flash with sanitizeState := 2, sanitizeKeys := false } } 523 .control [])

/-! ### Pre-sinter and the background restore -/

/-- PRE_SINTER_PAGE_PROGRAMMED (11 R599, R605; 06 R324, R326, R327; 12 R657). -/
def execPreSinterPageProgrammed (s : State) : Host.Outcome State Fault Refusal :=
  .next (if flashRuns s ∧ s.flash.preSinter then pageProgrammed s else s)

/-- A slot's copy lies on one of two dies whose pages cannot be read (12 R681). -/
def onDies (c : Nat) (e : Epoch) (ks : List (Nat × Nat)) (a b : Fin 16) (k : Nat) : Bool :=
  ks.any (fun p => p.2 == k && (match dieOfSlot c e p.1 with | some d => d == a || d == b | none => true))

/-- The pages of the stripe that holds an ordinal are read. -/
def readOrdinal (c : Nat) (e : Epoch) (i : Nat) (s : State) : State :=
  match stripeOf c e i with
  | some t => readStripe e t.index s
  | none => s

/-- BACKGROUND_RESTORE_READ (02 R92, R94; 11 R601, R624, R643; 12 R656, R677, R681, R682): the next stripe's slots enter DRAM. It gives
way to on-demand fetches and to pre-sinter. -/
def execBackgroundRestoreRead (r : ReadResult) (s : State) : Host.Outcome State Fault Refusal :=
  if flashRuns s = false ∨ s.life.dev ≠ .restore ∨ s.flash.restoring = false ∨ fetchWaits s ∨ preSinterBusy s then .next s
  else
    match nextStripe s with
    | none => .next s
    | some x =>
      let c := match s.flash.committed with | some m => m.cPerPage | none => 0
      let t := match x.2.head? with | some p => readOrdinal c x.1 p.1 s | none => s
      .next (readSlots (onDies c x.1 x.2) (x.2.map (·.2)) r t)

end Sys2Proof.Machine
end

