-- ==== Sys2Proof/Machine/HostPort.lean ====
section
/-! DEFINITION. The host port: function resets, the link, bus mastering, queue pairs, doorbells, command fetch, completions and their
interrupts (05 sections 1 to 4, 7 and 8). -/

namespace Sys2Proof.Machine

/-- The function answers the host: it is enabled and HOST runs. -/
def fnReached (s : State) (fn : Fin 16) : Bool := s.port.fns[fn].enabled && s.island .host == .running

/-- FUNCTION_LEVEL_RESET (05 R265 to R267, R270; 02 R113). A reset of PF0 resets every enabled function. -/
def execFunctionLevelReset (fn : Fin 16) (s : State) : Host.Outcome State Fault Refusal :=
  if fnReached s fn = false then .next s
  else .next (hostChanged s (if fn = 0 then resetFunctions s else resetFunction fn s))

/-- VF_ENABLE_CLEAR (04 R197; 05 R270): every enabled VF is reset and disabled. -/
def execVfEnableClear (s : State) : Host.Outcome State Fault Refusal :=
  if s.island .host ≠ .running then .next s
  else
    .next (hostChanged s (disableVfs
      (forAll 16 (fun t n => if n ≠ 0 ∧ t.port.fns[n].enabled then resetFunction n t else t) s)))

/-- The link trained below the speed or the width that the port allows (05 R200, R205). -/
def linkDegraded (s : State) : Bool := decide (s.port.linkSpeed < s.cfg 0x2200 4) || decide (s.port.linkWidth < 4)

/-- LINK_UP (05 R200, R201, R205): the link reaches L0, with the VFs that the host then enables: VFk is function k and tenant k. -/
def execLinkUp (speed width vfs : Nat) (s : State) : Host.Outcome State Fault Refusal :=
  if s.port.ready = false ∨ s.island .host ≠ .running ∨ s.port.linkState = 2 then .next s
  else
    let t := { s with
      port := { s.port with
        linkState := 2, linkSpeed := min speed (s.cfg 0x2200 4), linkWidth := width, vfs := min vfs sriov.1
        fns := vmapIdx (fun n f => { f with enabled := fnEnabled (min vfs sriov.1) n }) s.port.fns } }
    .next (hostChanged s (raiseIf (linkDegraded t) (raise t 24 .host []) 26 .host []))

/-- LINK_DOWN (05 R205, R271). -/
def execLinkDown (s : State) : Host.Outcome State Fault Refusal :=
  .next (if s.port.linkState = 2 then linkLost s else s)

/-- HOT_RESET (05 R271). -/
def execHotReset (s : State) : Host.Outcome State Fault Refusal :=
  if s.port.linkState ≠ 2 then .next s else .next (hostChanged s (disableVfs (resetEvery s)))

/-- The host's Device Control values that a function takes: payloads of 128, 256 or 512 bytes, read requests up to 4,096 (05 R203). -/
def deviceControl (mps mrrs : Nat) (f : Func) : Func :=
  { f with
    mps := if mps = 128 ∨ mps = 256 ∨ mps = 512 then mps else f.mps
    mrrs := if [128, 256, 512, 1024, 2048, 4096].contains mrrs then mrrs else f.mrrs }

/-- BUS_MASTER_ENABLE (05 R203, R204): what was recorded is acted on. `mps` and `mrrs` are what the host has programmed in the
function's Device Control. -/
def execBusMasterEnable (fn : Fin 16) (mps mrrs : Nat) (s : State) : Host.Outcome State Fault Refusal :=
  if fnReached s fn = false then .next s
  else .next (replayTails fn (sendPending fn (s.modFn fn (fun f => deviceControl mps mrrs { f with bme := true }))))

/-- The registers as the tenant wrote them. -/
def loadRegs (r : QueueRegs) (p : Pair) : Pair :=
  { p with
    sqBase := r.sqBase, cqBase := r.cqBase, sqSize := r.sqSize, cqSize := r.cqSize, enable := true, aggTime := r.aggTime
    vector := r.vector, aggCount := r.aggCount, irqEn := r.irqEn, recorded := [] }

/-- Enable has been set: the check, and heads and tails at 0 (05 R209, R210). -/
def startPair (fn : Fin 16) (qp : Fin 4) (s : State) : State :=
  let code := enableError s fn qp (s.pair fn qp)
  if code = 0 then
    s.modPair fn qp (fun p => { p with
      ready := true, fault := false, error := 0, sqHead := 0, sqTail := 0, cqHead := 0, cqTail := 0, phase := true, unsignalled := 0 })
  else stopPair fn qp code s

/-- A write of QCTRL while Enable is 1: its other fields change, base and size do not (05 R207, R208). -/
def loadCtrl (r : QueueRegs) (p : Pair) : Pair :=
  { p with aggTime := r.aggTime, vector := r.vector, aggCount := r.aggCount, irqEn := r.irqEn }

/-- QUEUE_ENABLE (05 R207 to R210, R269, R278): the registers, then Enable = 1; the tenant's slots thaw. -/
def execQueueEnable (fn : Fin 16) (qp : Fin 4) (regs : QueueRegs) (s : State) : Host.Outcome State Fault Refusal :=
  if fnReached s fn = false then .next s
  else if (s.pair fn qp).enable then .next (s.modPair fn qp (loadCtrl regs))
  else .next (hostChanged s (thawSlots fn (startPair fn qp (s.modPair fn qp (loadRegs regs)))))

/-- A command of a pair whose data transfer has not begun (05 R218). -/
def notBegun (fn : Fin 16) (qp : Fin 4) (c : Cmd) : Bool :=
  c.fn == fn && c.qp == qp && c.stage != .transferring

/-- QUEUE_DISABLE (05 R218): Enable = 0; what has not begun ends ABORTED. -/
def execQueueDisable (fn : Fin 16) (qp : Fin 4) (s : State) : Host.Outcome State Fault Refusal :=
  if fnReached s fn = false ∨ (s.pair fn qp).enable = false then .next s
  else
    let t := s.modPair fn qp (fun p => { p with enable := false, recorded := [] })
    .next (hostChanged s ((s.port.cmds.filter (notBegun fn qp)).foldl (fun u c => endCmd c .aborted 0 u) t))

/-- QUEUE_READY_FALL (05 R218): once the commands of a disabled pair that were transferring have ended. -/
def execQueueReadyFall (fn : Fin 16) (qp : Fin 4) (s : State) : Host.Outcome State Fault Refusal :=
  if (s.pair fn qp).enable ∨ s.port.cmds.any (fun c => c.fn == fn && c.qp == qp) then .next s
  else .next (s.modPair fn qp (fun p => { p with ready := false }))

/-- A doorbell write of a pair: recorded, ignored, or taken (02 R76; 05 R204, R211 to R215). -/
def doorbell (fn : Fin 16) (qp : Fin 4) (head : Bool) (v : BitVec 32) (s : State) : State :=
  if fnReached s fn = false ∨ (s.pair fn qp).enable = false then s
  else if doorbellWaits s fn then s.modPair fn qp (fun p => { p with recorded := p.recorded ++ [(head, v)] })
  else takeDoorbell fn qp head v s

/-- SQ_TAIL_DOORBELL (02 R76; 05 R204, R211 to R215). -/
def execSqTailDoorbell (fn : Fin 16) (qp : Fin 4) (value : BitVec 32) (s : State) : Host.Outcome State Fault Refusal :=
  .next (doorbell fn qp false value s)

/-- CQ_HEAD_DOORBELL (02 R76; 05 R204, R211 to R213, R215). -/
def execCqHeadDoorbell (fn : Fin 16) (qp : Fin 4) (value : BitVec 32) (s : State) : Host.Outcome State Fault Refusal :=
  .next (doorbell fn qp true value s)

/-! ### Fetching -/

/-- Entries a pair has to fetch. -/
def available (s : State) (fn : Fin 16) (qp : Fin 4) : Nat :=
  let p := s.pair fn qp
  if p.enable && p.ready && !p.fault && dmaOpen s fn && !doorbellWaits s fn then (p.sqTail + sqLen p - p.sqHead) % sqLen p else 0

/-- The turns of up to `k` submission fetches, by the rotation (05 R275, R276). -/
def fetchTurns (s : State) : Nat → List (Fin 16 × Fin 4) → List (Fin 16 × Fin 4)
  | 0, l => l
  | k + 1, l =>
    match nextTurn s (fun fn qp => decide (l.count (fn, qp) < available s fn qp)) with
    | none => l
    | some x => fetchTurns (takeTurn x.1 x.2 s) k (l ++ [x])

/-- The entries of one HOST cycle: at most four, those whose turns come next, in rising function, then rising pair (05 R249, R275,
R276). -/
def fetchPlan (s : State) : List (Fin 16 × Fin 4) :=
  let l := fetchTurns s 4 []
  (List.finRange 16).flatMap (fun fn => (List.finRange 4).flatMap (fun qp => List.replicate (l.count (fn, qp)) (fn, qp)))

/-- The read of the next submission entry (05 R209, R221). -/
def fetchRead (fn : Fin 16) (qp : Fin 4) (s : State) : State :=
  dmaRead fn [((s.pair fn qp).sqBase.toNat + 64 * (s.pair fn qp).sqHead, 64)] s

/-- Fetch one entry (05 R216, R226, R249, R279, **QSTATUS** code 3): a failed fetch stops the pair; an unknown opcode ends at once. -/
def fetchOne (s : State) (x : (Fin 16 × Fin 4) × FetchResult) : State :=
  let fn := x.1.1
  let qp := x.1.2
  if available s fn qp = 0 then s
  else
    match x.2 with
    | .failed => raiseTenant fn 23 [] (stopPair fn qp 3 (fetchRead fn qp s))
    | .entry w =>
      let p := s.pair fn qp
      let head := (p.sqHead + 1) % sqLen p
      let c : Cmd := { id := s.port.fetched, fn := fn, qp := qp, sqe := w, sqHead := head, stage := .fetched, protect := false,
                       charged := 0, slots := 0, fetches := [], elems := [] }
      let t := (fetchRead fn qp s).modPair fn qp (fun p => { p with sqHead := head })
      let u := { t with port := { t.port with fetched := t.port.fetched + 1, cmds := t.port.cmds ++ [c] } }
      if (opOf w).isSome then u else endCmd c .invalidOpcode 0 u

/-- COMMAND_FETCH (05 R204, R216, R249, R275, R276; 11 R588): one HOST cycle, each fetch a turn of the rotation. -/
def execCommandFetch (results : List FetchResult) (s : State) : Host.Outcome State Fault Refusal :=
  if s.port.fetchStopped then .next s
  else
    let t := (fetchTurns s 4 []).foldl (fun t x => takeTurn x.1 x.2 t) s
    .next (((fetchPlan s).zip results).foldl fetchOne { t with port.cycleFrom := s.port.fetched })

/-! ### Completions -/

/-- COMPLETION_POST (05 R210, R217, R220, R224, R225): the oldest waiting completion; the vector when enough are unsignalled. -/
def execCompletionPost (fn : Fin 16) (qp : Fin 4) (s : State) : Host.Outcome State Fault Refusal :=
  let t := postCompletion fn qp s
  .next (if (t.pair fn qp).irqEn ∧ (t.pair fn qp).aggCount.toNat + 1 ≤ (t.pair fn qp).unsignalled then signalPair fn qp t else t)

/-- IRQ_AGG_TIMER (05 R220, **QCTRL**): AggTime has passed since the first unsignalled completion; 0 is off. -/
def execIrqAggTimer (fn : Fin 16) (qp : Fin 4) (s : State) : Host.Outcome State Fault Refusal :=
  .next (if dmaOpen s fn ∧ (s.pair fn qp).aggTime ≠ 0 then signalPair fn qp s else s)

end Sys2Proof.Machine
end

