-- ==== Sys2Proof/Machine/Islands.lean ====
section
/-! DEFINITION. Islands, the publication, the time base and the wall clock: DICTIONARY_WRITE, ISLAND_HANDSHAKE_TIMEOUT,
ISLAND_RESTART, EG_PUBLICATION, ESTIMATOR_STALE, CRYSTAL_FAIL, WALL_CLOCK_WRITE (01). -/

namespace Sys2Proof.Machine

/-- DICTIONARY_WRITE (01 R23 to R29): a write to an entry, accepted by CONTROL and delivered to its island. -/
def execDictionaryWrite (p : Session) (index : BitVec 16) (sub : BitVec 8) (data : List Byte) (s : State) :
    Host.Outcome State Fault Refusal :=
  .next (sessionWrite p index sub data s)

/-- Islands whose fault a warm BOOT ends (01 R31). -/
def byBoot (i : Island) : Bool := i == .supervisor || i == .host || i == .memory || i == .flash

/-- The restart of a faulted SUPERVISOR, HOST, MEMORY or FLASH island (01 R31): a warm BOOT, or an outage-path firmware restart.
In another state there is no transition to a warm BOOT, and the island waits for the end of the BOOT (log 70). -/
def restartByBoot (i : Island) (s : State) : State :=
  match s.life.dev with
  | .serve | .restore => warmBoot ((Config.openWord 31 0).toNat % 8) .timer (s.setIsland i .starting)
  | .warn | .simmer | .sinter => islandsRefresh (outageRestart (s.setIsland i .starting))
  | _ => s

/-- What follows a handshake timeout of an island: a second one within 10 min is a fatal fault, on whose path the island is restarted
(01 R30, R31; 02 R80). -/
def afterTimeout (i : Island) (s : State) : State :=
  if byBoot i = false then s
  else
    let t := { s with isl.lastTimeout := vset s.isl.lastTimeout i.idx (some s.time.now) }
    match s.isl.lastTimeout[i.idx] with
    | some first => restartByBoot i (if s.time.now < first + tenMinutes then fatalFault t else t)
    | none => restartByBoot i t

/-- A write that its island does not acknowledge: CONTROL keeps the value or the command, the island goes to fault (01 R27, R28). -/
def timeoutWrite (p : Session) (index sub : Nat) (data : List Byte) (i : Island) (s : State) : State × Answer :=
  let t := noteRequest p s
  let held := if (actionOf p true index sub (ofLe data) t).isSome then t.storeCommand index sub (ofLe data)
    else (t.keepUndelivered index sub).setHeld index sub (valueHeld index sub (ofLe data))
  (countRefusal p (raise (held.setIsland i .fault) 4 .control []), .abort abIsland)

/-- ISLAND_HANDSHAKE_TIMEOUT (01 R28 to R31): a write that would be accepted is not acknowledged by its island. -/
def execIslandHandshakeTimeout (p : Session) (index : BitVec 16) (sub : BitVec 8) (data : List Byte) (s : State) :
    Host.Outcome State Fault Refusal :=
  let i := s.ownerOf index.toNat sub.toNat
  if i = .control ∨ s.island i ≠ .running ∨ (dictWrite p index.toNat sub.toNat data s).2 ≠ .ok then .next s
  else
    let t := fromSession p index sub data (timeoutWrite p index.toNat sub.toNat data i) s
    .next (if t.island i = .fault then afterTimeout i t else t)

/-- An encoder channel restarts with an IDR frame (01 R30; 14 R795). -/
def restartEncoder (n : Fin 16) (s : State) : State :=
  if admitted s n then
    dueIdr n .idrForced ((dropStarted n s).modEnc n (fun e => { e with
      coding := [], shortRef := none, longRef := none, ltr := false, ltrAge := 0, ltrWhole := false, slice := 0, overflow := false, nextLtr := false, whole := true }))
  else s

/-- Streams that an island serves. -/
def servedBy (s : State) (i : Island) (n : Fin 16) : Bool :=
  match i with
  | .pixel => true
  | .entropy => true
  | _ => captureIsland (portNo s n) == i

/-- ISLAND_RESTART (01 R30): a CAPTURE, PIXEL or ENTROPY island in fault is stopped and started again, and what waits for it is
delivered with its effects. DESIGN CHOICE (log 121): a frame in reception of a stream it serves is discarded and not counted. -/
def execIslandRestart (i : Island) (s : State) : Host.Outcome State Fault Refusal :=
  if byBoot i ∨ i = .control ∨ s.island i ≠ .fault then .next s
  else if islandMark s i = false then .next (s.stopIsland i)
  else
    .next (handshakes (forAll 16 (fun t n => if servedBy s i n then
      restartEncoder n (t.modStream n (fun x => { x with cur := none })) else t) (s.startIsland i)))

/-- EG_PUBLICATION (01 R47, R48; 06 R294 to R319; 08 R388, R434; 11 R617; 14 R814). -/
def execEgPublication (s : State) : Host.Outcome State Fault Refusal :=
  .next (if publishes s then publish s else s)

/-- Three publication periods of the present state have passed since the latest publication, the entry of the state, or the end of
step 7 of the latest BOOT (01 R51; log 71). -/
def overdue (s : State) : Bool :=
  decide (max (max (s.adm.pubAt.getD 0) s.life.enteredAt) s.life.configuredAt + 3 * publishPeriod s.life.dev ≤ s.time.now)

/-- ESTIMATOR_STALE (01 R51; 11 R619): D_max is held at 0 until publications resume. -/
def execEstimatorStale (s : State) : Host.Outcome State Fault Refusal :=
  if publishes s = false ∨ s.adm.stale ∨ overdue s = false then .next s
  else .next (leaveSimmer 6 (recomputeAll (raise { s with adm.stale := true } 5 .control [])))

/-- CRYSTAL_FAIL (01 R40, R41). -/
def execCrystalFail (s : State) : Host.Outcome State Fault Refusal :=
  if s.life.dev.supervised = false ∨ s.time.onRc then .next s
  else .next (raise { s with time.onRc := true } 6 .supervisor [])

/-- WALL_CLOCK_WRITE (01 R45; 08 R440, R441): the administrator writes the seconds, then the fraction. -/
def execWallClockWrite (p : Session) (seconds : BitVec 32) (fraction : BitVec 16) (s : State) : Host.Outcome State Fault Refusal :=
  .next (sessionPut p 0x2100 3 2 fraction.toNat (sessionPut p 0x2100 2 4 seconds.toNat s))

end Sys2Proof.Machine
end

