-- ==== Sys2Proof/Machine/LifeCycle.lean ====
section
/-! DEFINITION. The life cycle: VKEEP_COLLAPSE, VKEEP_RISE, WAKE, BOOT_STEP_COMPLETE, BOOT_STEP_TIMEOUT, INPUT_QUALIFY_TIMEOUT, the
life-cycle requests, WATCHDOG_EXPIRY, TRIAL_CONFIRM, RESTORE_PROGRESS_UPDATE, RESTORE_COMPLETE (02). -/

namespace Sys2Proof.Machine

/-! ### OFF, SLEEP and wake -/

/-- What a collapse tears: the keep-store copy and the configuration copy that were being written, a firmware slot, the open epoch
(02 R54; 04 R149, R192; 09 R523; 11 R641; log 23). -/
def tear (tornKeep tornStore : Bool) (s : State) : State :=
  let s1 := if tornKeep then { s with keep := keepTear s.keep } else s
  let s2 := if tornStore && s.nor.storing.isSome then { s1 with nor := writeCopy { NorCopy.reset with valid := false } s1.nor } else s1
  let s3 := if s.win[(0 : Fin 7)].status = 3 then spoilFirmware s2 else s2
  match s.life.dev, curEpoch s.flash with
  | .sinter, some e => { s3 with flash.incomplete := some (e.number, e.copies.length) }
  | _, _ => s3

/-- VKEEP_COLLAPSE (02 R54; 09 R520, R523; 11 R641): OFF from any state. -/
def execVkeepCollapse (tornKeep tornStore : Bool) (s : State) : Host.Outcome State Fault Refusal :=
  if s.life.dev = .off then .next s
  else
    let t := loseDram (releaseOutputs (enterState .off .vkeep (tear tornKeep tornStore s)))
    .next { t with
      nor := { t.nor with storing := none }
      keep.pending := false
      dict := Dict.reset
      isl := Islands.reset
      port := Port.reset
      win := Vector.replicate 7 Win.reset
      outage.phase := .none
      tremor := { Tremor.reset with high := t.tremor.high }
      ev := Events.reset
      time := { t.time with wallSet := false, onRc := false }
      life := { t.life with
        boot := .none, restarting := false, fatalPath := false, fromRestore := false, wakeHeld := false, afterDown := 0
        socKnown := false, dieHot := false, bootDuration := 0 } }

/-- VKEEP_RISE (02 R54, **State transitions**): BOOT while WAKE_N is low, else SLEEP. -/
def execVkeepRise (wakeHigh : Bool) (s : State) : Host.Outcome State Fault Refusal :=
  if s.life.dev ≠ .off then .next s
  else
    let t := { s with life.wakeHigh := wakeHigh }
    .next (if wakeHigh then enterState .sleep .vkeep t else coldBoot 0 .vkeep t)

/-- WAKE (01 R17; 02 R65, R99 to R101; 11 R635): a qualified falling edge on WAKE_N. An edge while SLEEP is being entered is held, as
is one that meets a fatal fault in KEEP. -/
def execWake (s : State) : Host.Outcome State Fault Refusal :=
  let t := { s with life.wakeHigh := false }
  .next (match s.life.dev with
    | .sleep => coldBoot 1 .wake t
    | .keep => if outranked 3 s then { t with life.wakeHeld := true } else coldBoot 2 .wake t
    | _ => if s.life.afterDown = 4 then { t with life.wakeHeld := true } else t)

/-! ### BOOT steps -/

/-- A BOOT runs its steps: it neither fails nor ends in KEEP, and its walk has ended. -/
def boots (s : State) : Bool :=
  (s.life.dev == .boot && s.life.haltPending == 0 && s.outage.phase == .none) || s.life.restarting

/-- A cold BOOT runs. -/
def coldRuns (s : State) : Bool := s.life.dev == .boot && s.life.boot == .cold

/-- The next step starts; the islands follow (01 R20; 02 R68). -/
def nextStep (n : Nat) (s : State) : State := islandsRefresh { s with life.bootStep := n }

/-- Step 4 starts: EN0 rises (09 R470). -/
def startSupplies (s : State) : State :=
  nextStep 4 { s with
    hold.failed := false
    rails := { s.rails with pos := 0, en := vset s.rails.en (0 : Fin 4) true } }

/-- The slot that step 6 loads first: true is B (02 R81). A trial that was cancelled in this BOOT was of the other slot. -/
def chosenB (s : State) : Bool := if s.life.fwTrial ∨ s.life.otherTrial then !s.life.activeB else s.life.activeB

/-- A trial whose slot does not verify is cancelled (02 R86). -/
def cancelTrial (s : State) : State :=
  if s.life.fwTrial then keepPend { s with life := { s.life with trialState := 0, trialUsed := 0, fwTrial := false } } else s

/-- Neither slot verifies (02 R86, R88): HALT with cause 1. With dirty data in DRAM a warm BOOT takes the outage path instead
(02 R56, R59), and an outage-path restart goes on loading (log 76). -/
def noFirmware (s : State) : State :=
  let t := raise (cancelTrial s) 69 .supervisor []
  if coldRuns s then enterHalt 1 true false t else if s.life.restarting then t else fatalFault t

/-- The chosen slot did not load: the other one is tried (02 R86, **BOOT steps** step 6). -/
def fallBack (s : State) : State :=
  let t := cancelTrial (raise s 67 .supervisor [])
  { t with life := { t.life with otherSlot := true, otherTrial := s.life.fwTrial, fwFallback := true } }

/-- Step 6 ends: the chosen slot, or the other one, runs (02 R81, R85, R86, R88). A slot whose load has outrun its bound is not tried
again. -/
def firmwareLoaded (aOk bOk : Bool) (aVersion bVersion : BitVec 32) (aReads bReads : Nat) (s : State) : State :=
  let want := chosenB s
  let ok := fun (b : Bool) => if b then bOk && s.nor.slotB.whole else aOk && s.nor.slotA.whole
  let run := fun (b : Bool) (t : State) => nextStep 7 { t with
    life := { t.life with
      runningB := b, fwVersion := if b then bVersion else aVersion, fwReads := max 1 (if b then bReads else aReads) } }
  if s.life.otherSlot then (if ok (!want) then run (!want) s else noFirmware s)
  else if ok want then run want s
  else if ok (!want) then run (!want) (fallBack s)
  else noFirmware s

/-- Each trim slews from 512 to its target at step 7 of a cold BOOT (09 R512). -/
def startTrims (s : State) : State := forAll 4 (fun t k => trimTo k (t.cfg (0x2720 + k.val) 1) t) s

/-- The factory defaults in place of the stored values (02 **BOOT steps**, step 7). -/
def defaultsOnly (s : State) : State :=
  { s with dict.values := s.dict.values.filter (fun q => !isStored q.1), isl.undelivered := [] }

/-- What step 7 of a cold BOOT sets beyond the entries: the trims, the group and the estimators' start (02 R72; 08 R438; 09 R512;
10 R561). -/
def configureCold (s : State) : State :=
  let s1 := groupRefresh (startTrims s)
  startEstimators s1

/-- Step 8 starts: the memory rails of a lone controller; a member of a group leaves its hold and waits (02 R74; 10 R553, R554). -/
def startMemoryRails (s : State) : State :=
  let t := nextStep 8 s
  if stepsWithGroup t then { t with tremor.atStep8 := true } else walkUp [4] t

/-- The controller enters HALT directly after step 7 for a sticky cause (02 R106). -/
def isSticky (s : State) : Bool := s.life.haltCause != 0 && decide (3 ≤ s.life.haltRepeat)

/-- Tenants that hold slots start frozen after a cold BOOT (05 R272); the host is detached, so the video tenant thaws (14 R815). -/
def freezeHolders (s : State) : State :=
  thawSlots s.cache.videoTenant
    (forAll 16 (fun t n => if 0 < countSlots t.cache (fun q => q.tenant == n) then freezeSlots n t else t) s)

/-- Step 12 of an outage-path firmware restart (02 R80; 11 R621): the path goes on where it stands; a deadline that waited for the
firmware begins the Sinter. -/
def restartDone (s : State) : State :=
  let t := islandsRefresh { s with
    life := { s.life with restarting := false, bootDuration := s.time.now - s.life.bootAt } }
  let u := forAll 16 (fun t n => replayTails n t) (keepWrite (raise t 65 .control []))
  match u.life.dev with
  | .simmer => if u.outage.deadline = none then enterSinter 2 u else u
  | .warn => saveOrder u
  | _ => u

/-- Where a BOOT ends (02 **State transitions**). -/
def bootTarget (s : State) : DevState :=
  match s.life.boot with
  | .warm d => d
  | _ => if 0 < unrestoredCount s.cache then .restore else .serve

/-- Islands whose fault the end of a BOOT finds, restarted (01 R31; log 70). -/
def restartFaulted (s : State) : State :=
  match [Island.supervisor, .host, .memory, .flash].find? (fun i => s.island i == .fault) with
  | some i => warmBoot ((Config.openWord 31 0).toNat % 8) .timer (s.setIsland i .starting)
  | none => s

/-- Step 12 (02 R68, R77, R107, R109; 05 R272; 09 R507, R525, R529; 11 R579): the BOOT ends in RESTORE or SERVE. -/
def bootDone (s : State) : State :=
  if s.life.restarting then restartDone { s with life.bootStep := 12 }
  else
    let cold := coldRuns s
    let target := bootTarget s
    let s1 := if cold then freezeHolders (stretchFree s) else { s with life.selfRefresh := false }
    let s2 := raise { s1 with
      life := { s1.life with bootStep := 12, bootDuration := s.time.now - s.life.bootAt, haltRepeat := 0 }
      rails.pfwLow := false
      flash.restoring := if cold then target == .restore else s.flash.restoring
      flash.restoreTotal := if cold then unrestoredCount s.cache else s.flash.restoreTotal } 65 .control []
    let s3 := enterState target .completion { s2 with life.boot := .none }
    let s4 := restartVideo (keepWriteEnd 0 s3)
    restartFaulted (forAll 16 (fun t n => replayTails n t) s4)

/-- Step 7 ends (01 R51; 02 R77, R80, R106, R110; 03 R120; 04 R147, R158; 06 R292). `ok` is false when the stored entries could not be applied. -/
def configured (ok : Bool) (s : State) : State :=
  let cold := coldRuns s
  let s0 := dropUnconfigured .bank (dropUnconfigured .pack (if ok then applyStored (fun _ => true) s else defaultsOnly s))
  let s1 := { s0 with
    nor := settleVoid s0.nor, life.configuredAt := s.time.now, cache.videoTenant := Fin.ofNat 16 (s0.cfg 0x2400 5) }
  let s2 := raiseIf (!ok || (cold && (storedCopy s.nor).isNone)) s1 79 .control []
  let s3 := canStart (storedValues s.nor) (policyRefresh (modesRefresh (followConfig s (if cold then configureCold s2 else s2))))
  if cold = false then bootDone s3
  else if isSticky s3 then enterHalt s3.life.haltCause true true { s3 with life.bootStep := 8 }
  else startMemoryRails s3

/-- Step 8 may end: the walk has ended, and a member has reached BootHoldState (02 R68; 10 R555, R556). -/
def memoryUp (s : State) : Bool :=
  s.rails.walk == .none &&
  (!stepsWithGroup s || decide (bootHoldState s ≤ s.tremor.counter) && s.tremor.walk == .upWalk || s.tremor.walk == .idleUp)

/-- Step 8 ends: the hold-up path is armed and DRAM initialisation starts (07 R369). -/
def memoryRailsUp (s : State) : State := nextStep 9 (armHold s)

/-- Step 9 ends: the size of DRAM, the slots it gives, and the event log (02 R73; 04 R157; 06 R280, R281). -/
def dramTrained (gib : Nat) (s : State) : State :=
  let t := { s with
    life := { s.life with dramGib := gib, dramLost := false }
    mode.videoAtBoot := s.cfg 0x2020 5
    cache.usable := slotCount gib (s.cfg 0x2020 5) }
  nextStep 10 (startLog t (keepSeed t))

/-- An epoch of the chain uses a die. -/
def chainUses (x : Flash) (d : Fin 16) : Bool := (chainOf x).any (fun e => e.blocks.any (fun q => q.1 == d))

/-- A die that is missing or rejected: retired with cause 4 while the chain uses it, else absent (12 **Die transitions**). -/
def dieMissing (d : Fin 16) (s : State) : State :=
  if chainUses s.flash d then
    raise (s.modDie d (fun x => { x with state := .retired, cause := 4, retiredInTable := true })) (576 + d.val) .flash [(1, 4)]
  else s.modDie d (fun x => { x with state := .absent })

/-- The probe accepted a die. -/
def dieAccepted : DieProbe → Bool
  | .accepted _ _ _ => true
  | _ => false

/-- Some operations on a die. -/
def flashAll (d : Fin 16) (os : List FlashOp) (s : State) : State := os.foldl (fun t o => flashDo d o t) s

/-- The operations that bring a die which was accepted to its channel's interface, with the SLC-mode feature where its address is not
0x00; its reserved blocks are read then (12 R646, R649, R650, R654, R672). -/
def setUpDie (d : Fin 16) (interface rate : Nat) (s : State) : State :=
  let slc : Feature := .slc (s.cfg 0x2900 6) (s.cfg 0x2900 7)
  flashAll d ([.setFeatures (.timing interface rate), .setFeatures .drive, .setFeatures .odt, .zqCalibration true,
      .getFeatures (.timing interface rate)] ++
    (if s.cfg 0x2900 6 = 0 then [] else [.setFeatures slc, .getFeatures slc]) ++
    [.read (.reserved 0) 0, .read (.reserved 1) 0, .read (.reserved 2) 0, .read (.reserved 3) 0, .read (.reserved 4) 0,
      .read (.reserved 5) 0]) s

/-- One die as the probe found it (12 R646 to R651, R692, R693; **Die transitions**): its pages are those of its pseudo-SLC mode where
SlcPagesPerBlock gives them. -/
def probeDie (interface rate : Nat) (d : Fin 16) (p : DieProbe) (s : State) : State :=
  match p with
  | .missing => dieMissing d (flashAll d [.reset, .readId] s)
  | .rejected => dieMissing d (raise (flashAll d [.reset, .readId, .readParameterPage] s) 513 .flash [])
  | .accepted b g c =>
    (setUpDie d interface rate (flashAll d [.reset, .readId, .readParameterPage] s)).modDie d (fun x => { x with
      state := if x.retiredInTable then .retired else .active, blocks := b
      pages := if s.cfg 0x2900 8 = 0 then g else s.cfg 0x2900 8, c := c })

/-- The manifest step 10 finds (11 R642; 12 R672 to R674, R676): its index is loaded unless this firmware does not read its
format. -/
def findImage (s : State) : State :=
  match s.flash.committed with
  | none => { s with life.imageAbsent := true }
  | some m =>
    if max 1 s.life.fwReads < m.format then raise { s with adm.formatHold := true } 516 .flash []
    else loadIndex { s with adm.formatHold := false }

/-- The older key-area copy is rewritten from the newer one (12 R703). -/
def repairKeys (s : State) : State :=
  if s.flash.keyMismatch then raise (writeKeys { s with flash.keyMismatch := false }) 521 .flash [] else s

/-- Step 10 ends (11 R642; 12 R646 to R651, R672 to R676, R685, R703). -/
def flashFound (dies : List DieProbe) (interface rate : Nat) (downgraded : Bool) (badCopies : Nat) (s : State) : State :=
  let top := min rate (s.cfg 0x2900 3)
  let s1 := forAll 16 (fun t d => probeDie interface top d (dies.getD d.val .missing) t) s
  let s2 := raiseIf downgraded { s1 with flash := { restale s1.flash with interface := interface, rate := top } } 514 .flash []
  let found := (List.finRange 16).countP (fun d => dieAccepted (dies.getD d.val .missing))
  let s2 := raise s2 512 .flash [(1, found), (1, interface)]
  let s3 := (List.range badCopies).foldl (fun t _ => raise t 515 .flash []) s2
  let s4 := findImage s3
  let s5 := match s4.flash.incomplete with
    | some e => raise { s4 with flash.incomplete := none } 461 .flash [(4, e.1), (4, e.2)]
    | none => s4
  let t := nextStep 11 (repairKeys s5)
  if stepsWithGroup t then upWork t else walkUp [1, 2, 3] t

/-- Step 11 may end: the walk has ended, and a member's group has walked up. -/
def hostSideUp (s : State) : Bool := s.rails.walk == .none && (!stepsWithGroup s || s.tremor.walk == .idleUp)

/-- Step 2 ends: the scanner goes to 12-bit precision (02 R69; 09 EV-0307). -/
def precisionStep (s : State) : State :=
  raise { s with life := { s.life with step2Done := true, scanReduced := false } } 307 .supervisor []

/-- The step in hand ends as `r` reports (02 **BOOT steps**). -/
def stepEnds (r : BootReport) (s : State) : State :=
  match s.life.bootStep, r with
  | 1, _ => nextStep 3 s
  | 3, .done => if s.life.step2Done then startSupplies s else precisionStep s
  | 4, .done => if s.rails.pos = 4 then chargesRefresh (nextStep 5 s) else s
  | 5, .done => startFirmware (nextStep 6 { s with time.onRc := false })
  | 6, .firmware a b av bv ar br => firmwareLoaded a b av bv ar br s
  | 7, .done => configured true s
  | 8, .done => if memoryUp s then memoryRailsUp s else s
  | 9, .dram gib => dramTrained gib s
  | 10, .flash ds i rt dn bad => flashFound ds i rt dn bad s
  | 11, .done => if hostSideUp s then bootDone (portReady s) else s
  | _, _ => s

/-- The end of the present step ends the BOOT, and a condition of higher rank ends it otherwise in the same cycle (02 R65). -/
def bootYields (s : State) : Bool :=
  s.life.dev == .boot && (s.life.bootStep == 11 || (s.life.bootStep == 7 && !coldRuns s)) && outranked 2 s

/-- BOOT_STEP_COMPLETE (02 R65, R68; and the rules of each step). A report that is not the present step's changes nothing. -/
def execBootStepComplete (r : BootReport) (s : State) : Host.Outcome State Fault Refusal :=
  .next (if boots s ∧ bootYields s = false then stepEnds r s else s)

/-- Step 10 outran its bound: the BOOT goes on without an image (02 **BOOT steps** step 10; log 76). -/
def flashOverruns (s : State) : State :=
  let t := nextStep 11 { s with life.imageAbsent := true }
  if stepsWithGroup t then upWork t else walkUp [1, 2, 3] t

/-- A step has outrun its bound (02 **BOOT steps**; log 76). -/
def stepOverruns (s : State) : State :=
  match s.life.bootStep with
  | 1 => nextStep 3 s
  | 4 => enterHalt 2 (s.rails.pos == 3) false s
  | 5 => startFirmware (nextStep 6 s)
  | 6 => if s.life.otherSlot then noFirmware s else fallBack s
  | 7 => configured false s
  | 8 => bootFails 2 s
  | 9 => enterHalt 3 true false (raise s 78 .memory [])
  | 10 => flashOverruns s
  | 11 => bootFails 2 s
  | _ => s

/-- BOOT_STEP_TIMEOUT (02 R65, R68, **BOOT steps**). -/
def execBootStepTimeout (s : State) : Host.Outcome State Fault Refusal :=
  .next (if boots s ∧ outranked 2 s = false then stepOverruns s else s)

/-- INPUT_QUALIFY_TIMEOUT (02 R65, **BOOT steps**, step 3): SLEEP. -/
def execInputQualifyTimeout (s : State) : Host.Outcome State Fault Refusal :=
  if coldRuns s = false ∨ boots s = false ∨ s.life.bootStep ≠ 3 ∨ outranked 2 s then .next s
  else .next (enterSleep .timer (raise s 70 .supervisor []))

/-! ### Requests -/

/-- FIRMWARE_RESTART (02 R75, R108): LifeCycleRequest = 1. -/
def execFirmwareRestart (p : Session) (s : State) : Host.Outcome State Fault Refusal := .next (sessionPut p 0x2011 1 1 1 s)

/-- COLD_RESTART (02 R108): LifeCycleRequest = 2. -/
def execColdRestart (p : Session) (s : State) : Host.Outcome State Fault Refusal := .next (sessionPut p 0x2011 1 1 2 s)

/-- CLEAR_HALT (02 R107, R108; 09 R532): LifeCycleRequest = 3. -/
def execClearHalt (p : Session) (s : State) : Host.Outcome State Fault Refusal := .next (sessionPut p 0x2011 1 1 3 s)

/-- SLEEP_REQUEST (02 R103, R108): LifeCycleRequest = 4. -/
def execSleepRequest (p : Session) (s : State) : Host.Outcome State Fault Refusal := .next (sessionPut p 0x2011 1 1 4 s)

/-! ### Watchdog, trial, restore -/

/-- The watchdog watches CONTROL wherever its firmware runs (02 R78). -/
def watched (s : State) : Bool := controlRuns s

/-- WATCHDOG_EXPIRY (02 R65, R78 to R80): a warm BOOT, or on the outage path a firmware restart; the third within 10 min is a fatal
fault, which starts the outage path. In HALT and in a cold BOOT the table of R63 has no way to a warm BOOT: the expiry is reported and
counted (log 105). -/
def execWatchdogExpiry (s : State) : Host.Outcome State Fault Refusal :=
  if watched s = false then .next s
  else
    let times := s.time.now :: s.life.watchdogTimes.filter (fun t => decide (s.time.now < t + tenMinutes))
    let t := raise { s with life.watchdogTimes := times } 74 .supervisor []
    .next (if 3 ≤ times.length then
        (let u := fatalFault t
         if u.life.dev = .warn ∨ u.life.dev = .simmer ∨ u.life.dev = .sinter then outageRestart u else u)
      else if s.life.dev = .serve ∨ s.life.dev = .restore then (if outranked 2 s then t else warmBoot 4 .watchdog t)
      else if s.life.dev = .warn ∨ s.life.dev = .simmer ∨ s.life.dev = .sinter then outageRestart t
      else t)

/-- TRIAL_CONFIRM (02 R84): the trial slot becomes the active one. -/
def execTrialConfirm (s : State) : Host.Outcome State Fault Refusal :=
  if s.life.fwTrial = false ∨ (s.life.dev ≠ .serve ∧ s.life.dev ≠ .restore) then .next s
  else
    .next (raise (keepPend { s with
      life := { s.life with activeB := s.life.runningB, trialState := 0, trialUsed := 0, fwTrial := false } }) 68 .control [])

/-- The progress entries show where the restore stands (02 R95). -/
def showProgress (s : State) : State :=
  { s with
    flash := { s.flash with
      restoreDoneShown := s.flash.restoreDone, restoreRemaining := restoreTime (unrestoredCount s.cache) } }

/-- RESTORE_PROGRESS_UPDATE (02 R95): every 10 ms in RESTORE. -/
def execRestoreProgressUpdate (s : State) : Host.Outcome State Fault Refusal :=
  .next (if s.life.dev = .restore then showProgress s else s)

/-- RESTORE_COMPLETE (02 R96; 06 R299): the last slot is restored; SERVE, with a recomputation at once. -/
def execRestoreComplete (s : State) : Host.Outcome State Fault Refusal :=
  if s.life.dev ≠ .restore ∨ unrestoredCount s.cache ≠ 0 ∨ outranked 2 s then .next s
  else .next (recomputeAll (enterState .serve .completion (raise (showProgress { s with flash.restoring := false }) 66 .memory [])))

end Sys2Proof.Machine
end

