-- ==== Sys2Proof/Machine/Mailbox.lean ====
section
/-! DEFINITION. Mailbox requests and the data windows (04 sections 8 to 10). -/

namespace Sys2Proof.Machine

/-- MBX_READ (04 R171 to R177). -/
def execMbxRead (fn : Fin 16) (irqEn : Bool) (tag : Byte) (index : BitVec 16) (sub : BitVec 8) (len : BitVec 9) (s : State) :
    Host.Outcome State Fault Refusal :=
  .next (mbxServe fn irqEn tag 0 index sub len [] (dictRead (.mailbox fn) index.toNat sub.toNat len.toNat) s)

/-- MBX_WRITE (04 R171 to R177). -/
def execMbxWrite (fn : Fin 16) (irqEn : Bool) (tag : Byte) (index : BitVec 16) (sub : BitVec 8) (data : List Byte) (s : State) :
    Host.Outcome State Fault Refusal :=
  .next (mbxServe fn irqEn tag 1 index sub (BitVec.ofNat 9 data.length) data
    (fun t => noData (dictWrite (.mailbox fn) index.toNat sub.toNat data t)) s)

/-- MBX_NEXT_ENTRY (04 R175). -/
def execMbxNextEntry (fn : Fin 16) (irqEn : Bool) (tag : Byte) (index : BitVec 16) (sub : BitVec 8) (s : State) :
    Host.Outcome State Fault Refusal :=
  .next (mbxServe fn irqEn tag 2 index sub 0 [] (dictNext (.mailbox fn) index.toNat sub.toNat) s)

/-- The dictionary index of a window. -/
def winIndex (w : Fin 7) : BitVec 16 := BitVec.ofNat 16 (0x2E00 + w.val)

/-- WINDOW_OPEN_READ (04 R180). -/
def execWindowOpenRead (p : Session) (w : Fin 7) (s : State) : Host.Outcome State Fault Refusal :=
  .next (sessionPut p (winIndex w) 5 1 1 s)

/-- WINDOW_OPEN_WRITE (04 R181). -/
def execWindowOpenWrite (p : Session) (w : Fin 7) (s : State) : Host.Outcome State Fault Refusal :=
  .next (sessionPut p (winIndex w) 5 1 2 s)

/-- WINDOW_DATA_READ (04 R182 to R186): a read of Data from either transport. -/
def execWindowDataRead (p : Session) (w : Fin 7) (len : Nat) (s : State) : Host.Outcome State Fault Refusal :=
  match p with
  | .usdo c => .next (usdoServe c (winIndex w).toNat 4 (dictRead p (winIndex w).toNat 4 len) s)
  | .mailbox fn =>
    .next (mbxServe fn (s.mbx[fn]).irqEn (s.mbx[fn]).tag 0 (winIndex w) 4 (BitVec.ofNat 9 len) [] (dictRead p (winIndex w).toNat 4 len) s)

/-- WINDOW_DATA_WRITE (04 R182 to R186). -/
def execWindowDataWrite (p : Session) (w : Fin 7) (data : List Byte) (s : State) : Host.Outcome State Fault Refusal :=
  .next (sessionWrite p (winIndex w) 4 data s)

/-- WINDOW_COMMIT (04 R187, R188, R193, R199). -/
def execWindowCommit (p : Session) (w : Fin 7) (s : State) : Host.Outcome State Fault Refusal :=
  .next (sessionPut p (winIndex w) 5 1 3 s)

/-- WINDOW_COMMIT_COMPLETE (04 R188, R192; 08 R387, R388; 13 R751). -/
def execWindowCommitComplete (w : Fin 7) (r : CommitEnd) (s : State) : Host.Outcome State Fault Refusal :=
  .next (finishCommit w r s)

/-- WINDOW_ABORT (04 R190). -/
def execWindowAbort (p : Session) (w : Fin 7) (s : State) : Host.Outcome State Fault Refusal :=
  .next (sessionPut p (winIndex w) 5 1 4 s)

/-- WINDOW_IDLE_TIMEOUT (04 R190): 10 s without an access by the Owner. -/
def execWindowIdleTimeout (w : Fin 7) (s : State) : Host.Outcome State Fault Refusal :=
  if (s.win[w].status = 1 ∨ s.win[w].status = 2) ∧
      s.win[w].lastAccess + 10000000 ≤ s.time.now then
    .next (closeWindow w true s)
  else .next s

end Sys2Proof.Machine
end

