-- ==== Sys2Proof/Machine/Outage.lean ====
section
/-! DEFINITION. The outage path: INPUT_FAIL, SUPERVISOR_LED_OUTAGE, DRAIN_POINT, WARN_WINDOW_END, DRVACT_LOW, DRIVE_ACTIVE_STUCK,
DRIVE_SETTLE_END, SINTER_DEADLINE_EXPIRY, SIMMER_TIMER_EXPIRY, DEADLINE_ACK_TIMEOUT, SINTER_COPY_COMPLETE, MANIFEST_COMMITTED,
POWER_RETURN, KEEP_TIME_EXPIRY, KEEP_FLOOR_REACHED (11; 02 *When things meet*). -/

namespace Sys2Proof.Machine

/-! ### The input fails -/

/-- Every save group, with the rails of no group. -/
def everyGroup : List Nat := [0, 1, 2, 3, 4]

/-- A drive rail is up. -/
def driveUp (s : State) : Bool := (List.finRange 12).any (fun r => s.driven r && s.saveGroup r == 2)

/-- The input fails in a cold BOOT (02 **State transitions**, *When things meet*): after the settle window of a drive rail that is
up, every rail goes down in reverse order, and KEEP follows. DEDUCED (log 87): a BOOT that has failed and walks its rails down
ends in KEEP as well, since an input fail stands above a fatal fault in R65. -/
def interruptBoot (s : State) : State :=
  let t := raise { s with
    outage.phase := .settle
    life.haltPending := 0
    tremor := { s.tremor with pulling := false, bootHold := false, atStep8 := false } } 77 .supervisor []
  if goesDown s.rails.walk then t
  else
    let u := { t with rails := { t.rails with walk := .none, delaying := false } }
    if driveUp u then u else shutAll everyGroup u

/-- What an input fail starts in each state (02 **State transitions**, R80; 11 R645; log 86). -/
def inputFails (s : State) : State :=
  match s.life.dev with
  | .restore | .serve => enterWarn false .inputFail s
  | .boot =>
    (match s.life.boot with
     | .warm _ => enterWarn false .inputFail s
     | _ => if s.outage.phase = .none then interruptBoot (chargesRefresh s)
            else { s with outage.returned := false })
  | .sinter => { s with outage.returned := false }
  | .halt => shutAll everyGroup (chargesRefresh { s with life.afterDown := 4 })
  | _ => s

/-- INPUT_FAIL (11 R578, R579, R583 to R585, R608, R645; 02 R57, R65, R80, **State transitions**): PFW_N falls at once in every state in which
SUPERVISOR runs. -/
def execInputFail (s : State) : Host.Outcome State Fault Refusal :=
  if s.life.dev.supervised = false then .next s
  else
    let t := raise { s with hold.failed := true, rails.pfwLow := true } 448 .supervisor []
    .next (if outranked 5 s then holdRefresh t else inputFails (holdRefresh t))

/-- SUPERVISOR_LED_OUTAGE (11 R584; 02 R80, *When things meet*): the firmware has not acknowledged the input fail within 1 ms. -/
def execSupervisorLedOutage (s : State) : Host.Outcome State Fault Refusal :=
  if s.life.dev ≠ .warn ∨ s.outage.supervisorLed ∨ s.outage.warnEnded ∨ s.life.fatalPath then .next s
  else
    .next (outageRestart (raise { s with outage.supervisorLed := true, life.selfRefresh := true } 464 .supervisor []))

/-! ### The warn window and the drive settle -/

/-- DRAIN_POINT (11 R587): PUT and SEGMENT-READ end with STATE from here on. -/
def execDrainPoint (s : State) : Host.Outcome State Fault Refusal :=
  if s.life.dev ≠ .warn ∨ s.outage.phase ≠ .warnWindow then .next s
  else .next { s with outage := { s.outage with drained := true, phase := .drain } }

/-- WARN_WINDOW_END (02 R65; 11 R586 to R591, R594, R596): fetching stops, the host group goes down, and the settle window starts when the
drives are idle. -/
def execWarnWindowEnd (s : State) : Host.Outcome State Fault Refusal :=
  if s.life.dev ≠ .warn ∨ s.outage.warnEnded ∨ outranked 2 s then .next s
  else
    let t := raise { s with
      outage := { s.outage with warnEnded := true, drained := true, phase := .waitDrvact }
      port.fetchStopped := true } 452 .supervisor []
    .next (settleCheck (saveOrder t))

/-- DRVACT_LOW (11 R591, R592, R594): DRVACTk reads low. -/
def execDrvactLow (k : Fin 2) (s : State) : Host.Outcome State Fault Refusal :=
  if s.life.dev.supervised = false then .next s
  else .next (settleCheck { s with outage.drvactLow := vset s.outage.drvactLow k true })

/-- DRIVE_ACTIVE_STUCK (11 R593, R594): an input in use is still high DrvactWaitMax after the warn window. -/
def execDriveActiveStuck (s : State) : Host.Outcome State Fault Refusal :=
  if s.life.dev ≠ .warn ∨ s.outage.warnEnded = false ∨ s.outage.settling ∨ drvactAllLow s then .next s
  else .next (startSettle 1 (raise s 454 .supervisor []))

/-- DRIVE_SETTLE_END (11 R595; 02 R65, *When things meet*): the drive group goes down, or every rail of an interrupted BOOT. -/
def execDriveSettleEnd (s : State) : Host.Outcome State Fault Refusal :=
  match s.life.dev with
  | .warn => .next (if s.outage.settling ∧ s.outage.settled = false ∧ outranked 2 s = false then saveOrder { s with outage.settled := true } else s)
  | .boot => .next (if s.outage.phase = .settle ∧ goesDown s.rails.walk = false then shutAll everyGroup s else s)
  | _ => .next s

/-! ### SIMMER ends -/

/-- SINTER_DEADLINE_EXPIRY (02 R65; 11 R617, R619, R628, R630): the deadline timer expires, and the firmware runs. -/
def execSinterDeadlineExpiry (s : State) : Host.Outcome State Fault Refusal :=
  if s.life.dev ≠ .simmer ∨ s.life.restarting ∨ s.outage.deadline = none ∨ outranked 2 s then .next s
  else .next (enterSinter 2 s)

/-- SIMMER_TIMER_EXPIRY (02 R65; 11 R611, R619, R630). While the firmware restarts, the Sinter waits for it (11 R621). -/
def execSimmerTimerExpiry (s : State) : Host.Outcome State Fault Refusal :=
  if s.life.dev ≠ .simmer ∨ outranked 2 s then .next s
  else if s.life.restarting then .next { s with outage.deadline := none }
  else .next (enterSinter 3 s)

/-- DEADLINE_ACK_TIMEOUT (11 R621; 02 R80): the firmware has not acknowledged the deadline within 1 ms. -/
def execDeadlineAckTimeout (s : State) : Host.Outcome State Fault Refusal :=
  if s.life.dev ≠ .simmer then .next s else .next (outageRestart { s with outage.deadline := none })

/-! ### SINTER -/

/-- SINTER_COPY_COMPLETE (11 **Sinter steps** 4, R623; 06 R328; 12 R657, R660, R663, R669): every dirty slot whose bit is 0 is
copied, with the energy and the time that the copy took. -/
def execSinterCopyComplete (energyMj durationMs : Nat) (s : State) : Host.Outcome State Fault Refusal :=
  if s.life.dev ≠ .sinter ∨ s.outage.phase ≠ .copy ∨ s.life.restarting then .next s
  else
    let before := countSlots s.cache toCopy
    let t := copyAll toCopy s.cache.slots.length s
    .next { t with
      outage := { t.outage with
        phase := .commit, bytes := 4096 * (before - countSlots t.cache toCopy), duration := durationMs, energy := energyMj } }

/-- A sample of the copy energy, mJ/GiB, rounded down (06 R320; log 85). -/
def eByteSample (bytes energy : Nat) : Nat := energy * 2 ^ 30 / bytes

/-- The sample is taken, and accepted or discarded (06 R320 to R323). -/
def learnEByte (s : State) : State :=
  let e := s.adm.eByte
  let v := eByteSample s.outage.lastBytes s.outage.lastEnergy
  if s.outage.lastBytes < 2 ^ 28 ∨ s.cfg 0x2420 4 = 0 then s
  else if v < 3000 ∨ 30000 < v then raise s 34 .memory []
  else raise { s with adm.eByte := if e < v then v else e - (e - v + 3) / 4 } 33 .memory []

/-- The manifest counts as committed (11 R624, R625, R627, **Sinter steps** 6 and 7; 12 R670; 06 R320 to R323; 09 R525). -/
def commitDone (s : State) : State :=
  let t := markCopies (commitSinter s)
  let u := raise { t with
    outage := { t.outage with lastBytes := s.outage.bytes, lastDuration := s.outage.duration, lastEnergy := s.outage.energy } }
    459 .control [(4, topEpoch t.flash), (4, s.outage.bytes), (4, s.outage.duration), (4, s.outage.energy)]
  keepWrite (learnEByte u)

/-- Slots that the Sinter had no space for are lost with DRAM; the next cold BOOT reports them (12 *When things meet*; log 89). -/
def noteShort (s : State) : State :=
  if countSlots s.cache toCopy = 0 then s
  else { s with flash.incomplete := some (topEpoch s.flash, s.outage.lastBytes / 4096) }

/-- DRAM that lay in RESTORE is charged again in SERVE, and admission recomputes at once (06 R299). -/
def chargeAgain (before s : State) : State :=
  if s.life.dev = .serve ∧ imageFree before.life ∧ publishes s then recomputeAll s else s

/-- MANIFEST_COMMITTED (11 R625, R627, R629, R636, R640; 02 R57, R60, R64): KEEP, HALT on the path of a fatal fault, or back to
service when power returned meanwhile. -/
def execManifestCommitted (s : State) : Host.Outcome State Fault Refusal :=
  if s.life.dev ≠ .sinter ∨ s.outage.phase ≠ .commit ∨ s.life.restarting then .next s
  else
    let t := commitDone s
    .next (if t.life.fatalPath then enterHalt 4 true false (noteShort t)
      else if t.outage.returned then
        chargeAgain t (resumeServe (raise { t with flash.imageState := 2 } 460 .control []))
      else enterKeep .completion (noteShort t))

/-! ### Power returns -/

/-- A sag that led to the input fail ends with the return; the epoch it opened is the path's (11 R580, R583, R603). -/
def sagOver (s : State) : State := if s.hold.sag then raise { s with hold.sag := false } 450 .supervisor [] else s

/-- What a power return does in each state (11 **Power return**, R636 to R640, R645; 02 *When things meet*). -/
def powerReturns (s : State) : State :=
  match s.life.dev with
  | .warn | .simmer => chargeAgain s (resumeServe s)
  | .sinter => { s with outage.returned := true }
  | .keep => coldBoot 2 .powerReturn s
  | .boot => if s.outage.phase = .none then s else { s with outage.returned := true }
  | _ => s

/-- POWER_RETURN (11 R581, R606, R635 to R640, R645; 02 R63 to R65): VIN has been good for 50 ms after an input fail. -/
def execPowerReturn (s : State) : Host.Outcome State Fault Refusal :=
  if s.life.dev.supervised = false ∨ s.hold.failed = false then .next s
  else
    let t := sagOver (holdRefresh { s with hold.failed := false })
    if s.life.fatalPath ∨ outranked 3 s then .next t
    else .next (powerReturns (raise t 451 .supervisor [(1, s.life.dev.code)]))

/-! ### KEEP ends -/

/-- KEEP_TIME_EXPIRY (11 R633; 02 R65, R97, R98). -/
def execKeepTimeExpiry (s : State) : Host.Outcome State Fault Refusal :=
  if s.life.dev ≠ .keep ∨ outranked 2 s then .next s else .next (enterSleep .timer s)

/-- A fitted channel lies above the keep floor (11 R634). -/
def aboveFloor (s : State) (c : Channel) : Bool :=
  (s.chan c).fitted && decide (eodVoltage s c + s.cfg 0x2830 2 * cells s c < (s.chan c).mv)

/-- KEEP_FLOOR_REACHED (11 R634; 02 R65, R97, R98). -/
def execKeepFloorReached (s : State) : Host.Outcome State Fault Refusal :=
  if s.life.dev ≠ .keep ∨ aboveFloor s .pack ∨ aboveFloor s .bank ∨ outranked 2 s then .next s
  else .next (enterSleep .completion (raise s 463 .supervisor []))

end Sys2Proof.Machine
end

