-- ==== Sys2Proof/Machine/RailCommands.lean ====
section
/-! DEFINITION. Rail supervision and sequencing: the scanner, warnings, ramps, walks, enables, masks and switches, resets, trims, and
the keep-store write (09). -/

namespace Sys2Proof.Machine

/-! ### Walks go on -/

/-- An up walk has ended: the return to service after an outage ends with it (11 R638). -/
def upDone (s : State) : State :=
  if s.outage.phase = .returning ∧ stepsWithGroup s = false then { s with outage.phase := .none } else s

/-- The present position of an up walk is good: its step delay runs, or the walk ends (09 R478, EV-0340). -/
def advanceUp (s : State) : State :=
  match s.rails.walk with
  | .up groups =>
    if s.rails.delaying ∨ s.stepGood groups s.rails.pos = false then s
    else if stepsWithGroup s = false ∧ (s.nextUp groups (s.rails.pos + 1)).isNone then upDone (endUpWalk s)
    else { s with rails.delaying := true }
  | _ => s

/-- Outside a BOOT the port is ready to train as soon as a host rail is good (09 R489, R506; 11 section 10). -/
def hostRailGood (s : State) (r : Fin 12) : Bool :=
  s.saveGroup r == 1 && (s.life.dev == .serve || s.life.dev == .restore || s.life.dev == .halt)

/-- A rail is good: its resets start their stretch, HOST may run in HALT, and the walk may go on (01 R20; 09 R466, R478, R506). -/
def goodRail (r : Fin 12) (s : State) : State :=
  let u := s.modRail r (fun x => { x with status := .good, ramped := false, outRun := 0, offBy := .never })
  let t := if hostRailGood s r then portReady u else stretchResets r u
  advanceUp (if s.life.dev = .halt then islandsRefresh t else t)

/-- A rail that is off by a failure ends what its walk waits for; in HALT, HOST follows it (01 R20). -/
def afterPull (s : State) : State := advanceUp (haltIslands s)

/-! ### Failures -/

/-- A ramp failed (02 R56, R58, R59; 09 R464 to R466, R485, R487, R488, R498; 10 R572, R575): in a cold BOOT every rail goes down and
HALT follows; in service, and in a warm BOOT, the rail stays off, and FaultAction 2 makes it a fatal fault. -/
def rampFails (kind : Nat) (r : Fin 12) (lag : Nat) (s : State) : State :=
  let g := s.gateOf r
  let t := raise (pullRail lag r (latchRail kind r (s.rl r).mv lag s)) (320 + g.val) .supervisor [(1, kind)]
  let member := stepsWithGroup s && s.tremor.walk == .upWalk
  let t := if member then tremorFault t else t
  if s.life.dev = .boot ∧ s.life.boot = .cold then
    (if s.life.haltPending = 0 ∧ s.outage.phase = .none then bootFails 2 (afterPull t) else afterPull t)
  else if s.railCfg r 0x0E = 2 ∨ (member ∧ onPath s.life.dev = false) then fatalFault (afterPull t)
  else afterPull t

/-- The ramp of a source switch failed: the fault record, the hold-up fault, and no HALT (09 R469, R498). -/
def sourceFails (kind : Nat) (g : Fin 8) (lag : Nat) (s : State) : State :=
  let t := raise (gateFail g lag (latchFault kind 0xFF (16 + g.val) 0 0 lag s)) (320 + g.val) .supervisor [(1, kind)]
  if t.hold.state = 4 then t else holdUpFails t

/-- A gate's ramp failed: a rail's, or a source switch's. -/
def gateRampFails (kind : Nat) (g : Fin 8) (lag : Nat) (s : State) : State :=
  if s.rails.gate[g].state ≠ .ramping then s
  else if s.isSourceGate g then sourceFails kind g lag s
  else
    match s.railOf g with
    | some r => rampFails kind r lag s
    | none => s

/-! ### The scanner -/

/-- A memory rail's short loses DRAM (09 R496); a trip that pulls the rail's gate does so too (log 84). In SINTER no slot is copied
any more, and HALT follows. -/
def memoryRailLost (r : Fin 12) (s : State) : State :=
  if s.saveGroup r = 4 then raise { s with life.dramLost := true } 308 .supervisor [] else s

/-- A fatal fault of a rail; with DRAM lost a Sinter that runs ends in HALT (02 R57 to R62; 09 R494 to R497). -/
def railFatal (s : State) : State :=
  if s.life.dev = .sinter ∧ s.life.dramLost then enterHalt 4 true false (cancelEpoch s) else fatalFault s

/-- A short or an over-voltage trip (09 R494 to R498, R508; log 83). -/
def railTrips (kind : Nat) (r : Fin 12) (mv : Nat) (s : State) : State :=
  let s1 := latchRail kind r mv 0 (raise s (292 + r.val) .supervisor [])
  let s2 := if s.gated r then
      (let t := pullRail 0 r s1
       memoryRailLost r { t with rails.pfwLow := true })
    else
      (let t := (assertResets r s1).modRail r (fun x => { x with status := .failed })
       if kind = 4 then memoryRailLost r t else t)
  railFatal (afterPull s2)

/-- A rail's reading, mV (09 R450). -/
def railMv (s : State) (r : Fin 12) (reading : Int) : Nat := min 2500 reading.toNat * s.railCfg r 0x02 / 1000

/-- The rail waits to count again after it was unmasked (09 R500). -/
def unmasked (s : State) (r : Fin 12) : Bool :=
  (s.rl r).status == .pending && (if s.railCfg r 0x08 = 1 then !(s.rl r).ramped else (s.rl r).ramped)

/-- The rail waits to be good after it was switched on by command (09 R503). -/
def commanded (s : State) (r : Fin 12) : Bool :=
  s.gated r && (s.rl r).status == .pending && (s.rl r).ramped && (s.rl r).offBy == .command

/-- A rail without a gate that is not compared reads 0 and is not good (09 R458, R460, R505; log 101). -/
def notCompared (r : Fin 12) (s : State) : State :=
  if s.railCfg r 0x08 = 1 ∨ (s.rl r).mask ∨ (s.rl r).status = .failed ∨ (s.rl r).status = .off then s
  else (assertResets r s).modRail r (fun x => { x with status := .off, outRun := 0, inRun := 0, ramped := false })

/-- One reading of a rail (09 R450, R452 to R456, R458 to R460). One that was unmasked or switched on by command counts again after
two readings in its window (R500, R503). -/
def scanRail (r : Fin 12) (mv : Nat) (s : State) : State :=
  let t := s.modRail r (fun x => { x with mv := mv })
  if s.compared r = false then notCompared r t
  else if s.isShort r mv then railTrips 4 r mv t
  else if s.isTrip r mv then railTrips 5 r mv t
  else
    let u := t.countScan r mv
    if 2 ≤ (u.rl r).inRun ∧ (unmasked u r ∨ commanded u r) then raise (goodRail r u) (280 + r.val) .supervisor [] else u

/-- One reading of a BANK cell (07 R363 to R367). -/
def scanCell (k : Fin 6) (mv : Nat) (s : State) : State :=
  let high := fun (v : Nat) => decide (s.cfg 0x2580 3 + 100 < v)
  let t := { s with hold.cells := vset s.hold.cells k mv }
  let u := raiseIf (decide (k.val < cells s .bank) && high mv && !high s.hold.cells[k]) t 202 .supervisor []
  balance (chargesRefresh u)

/-- The upper junction limit of the grade, °C (00 R2). -/
def junctionLimit (s : State) : Int := if s.life.factory.gradeE then 115 else 105

/-- The die temperature, 0.1 °C (09 R518). -/
def scanDie (t : Int) (s : State) : State :=
  let warn := decide (10 * signed 16 (s.cfg 0x2600 4) < t)
  let critical := decide (10 * (junctionLimit s + 5) < t)
  let s1 := raiseIf (warn && !s.rails.dieWarn) { s with
    rails := { s.rails with dieTemp := t, dieWarn := warn, dieCritical := critical } } 304 .supervisor []
  if critical && !s.rails.dieCritical then
    (let t := latchFault 7 0xFF 0 0 0 0 (raise s1 305 .supervisor [])
     fatalFault (if t.life.dev = .halt then { t with life.dieHot := true } else t))
  else s1

/-- VKEEP, mV (09 R519). -/
def scanVkeep (mv : Nat) (s : State) : State :=
  let low := decide (mv < s.cfg 0x2600 5)
  raiseIf (low && !s.rails.vkeepLow) { s with rails := { s.rails with vkeep := mv, vkeepLow := low } } 306 .supervisor []

/-- SCAN_SLOT (09 R449 to R460, R494 to R498, R518, R519; 07 R363, R364): the next slot's reading, mV or 0.1 °C. -/
def execScanSlot (reading : Int) (s : State) : Host.Outcome State Fault Refusal :=
  if s.life.dev.supervised = false then .next s
  else
    let k := s.rails.slot
    let t := { s with rails.slot := (k + 1) % 20 }
    .next (if k < 12 then haltIslands (scanRail (Fin.ofNat 12 k) (railMv s (Fin.ofNat 12 k) reading) t)
      else if k < 18 then scanCell (Fin.ofNat 6 (k - 12)) reading.toNat t
      else if k = 18 then scanDie reading t
      else scanVkeep reading.toNat t)

/-! ### Warnings -/

/-- RAIL_WARNING (09 R453, R505): FilterCount readings out of the window; the rail is not good, so its resets assert. -/
def execRailWarning (r : Fin 12) (s : State) : Host.Outcome State Fault Refusal :=
  let x := s.rl r
  if s.compared r = false ∨ x.outRun < s.filterCount r ∨
      ¬(x.status = .good ∨ (x.status = .pending ∧ x.ramped = false ∧ unmasked s r = false)) then .next s
  else
    .next (raise ((assertResets r s).modRail r (fun x => { x with status := .warning })) ((if x.high then 268 else 256) + r.val) .supervisor [])

/-- RAIL_CLEARED (09 R454): FilterCount readings in the window make a rail in warning good again. -/
def execRailCleared (r : Fin 12) (s : State) : Host.Outcome State Fault Refusal :=
  let x := s.rl r
  if s.compared r = false ∨ x.status ≠ .warning ∨ x.inRun < s.filterCount r then .next s
  else .next (raise (goodRail r s) (280 + r.val) .supervisor [])

/-- RAIL_FAULT_TIME (09 R491 to R493, R498): a rail has stayed in warning for FaultTime. -/
def execRailFaultTime (r : Fin 12) (s : State) : Host.Outcome State Fault Refusal :=
  if (s.rl r).status ≠ .warning ∨ (s.rl r).mask then .next s
  else
    match s.railCfg r 0x0E with
    | 1 => .next (if s.gated r then afterPull (dropRail .fault .failed r (latchRail 6 r (s.rl r).mv 0 s)) else s)
    | 2 => .next (fatalFault (latchRail 6 r (s.rl r).mv 0 s))
    | _ => .next s

/-! ### Ramps -/

/-- RAMP_LAG_TRIP (09 R464, R469, R485, R487, R488; 02 R58). -/
def execRampLagTrip (g : Fin 8) (lagMv : Nat) (s : State) : Host.Outcome State Fault Refusal :=
  .next (gateRampFails 1 g lagMv s)

/-- RAMP_END (09 R463, R466, R468). -/
def execRampEnd (g : Fin 8) (lagMv : Nat) (s : State) : Host.Outcome State Fault Refusal :=
  if s.rails.gate[g].state ≠ .ramping then .next s
  else
    let t := s.modGate g (fun _ => ⟨.on, true, lagMv⟩)
    if s.isSourceGate g then .next t
    else
      match s.railOf g with
      | some r => .next (advanceUp (t.modRail r (fun x => { x with
          status := .pending, ramped := true, scans := 0, inRun := 0, outRun := 0 })))
      | none => .next t

/-- RAMP_TIMEOUT (09 R465, R469, R485, R487, R488; 02 R58). -/
def execRampTimeout (g : Fin 8) (lagMv : Nat) (s : State) : Host.Outcome State Fault Refusal :=
  .next (gateRampFails 2 g lagMv s)

/-- RAIL_GOOD (09 R466, R478, R506): FilterCount readings in the window after the ramp. -/
def execRailGood (r : Fin 12) (s : State) : Host.Outcome State Fault Refusal :=
  let x := s.rl r
  if s.compared r = false ∨ x.status ≠ .pending ∨ unmasked s r ∨ x.inRun < s.filterCount r ∨
      commanded s r then .next s
  else .next (goodRail r s)

/-- RAIL_GOOD_TIMEOUT (09 R466, R485, R487, R488; 02 R58). -/
def execRailGoodTimeout (r : Fin 12) (s : State) : Host.Outcome State Fault Refusal :=
  let x := s.rl r
  if s.gated r = false ∨ x.mask ∨ x.status ≠ .pending ∨ x.ramped = false ∨ x.scans < s.filterCount r + 2 then .next s
  else .next (rampFails 2 r s.rails.gate[s.gateOf r].lagMax s)

/-- UP_STEP_DELAY (09 R478; 10 R557): the next position starts; a member of a group has done its work of the state. -/
def execUpStepDelay (s : State) : Host.Outcome State Fault Refusal :=
  match s.rails.walk with
  | .up groups =>
    if s.rails.delaying = false then .next s
    else if stepsWithGroup s then .next { s with rails := { s.rails with walk := .none, delaying := false } }
    else
      let t := upFrom groups (s.rails.pos + 1) s
      .next (if t.rails.walk = .none then upDone t else t)
  | _ => .next s

/-! ### Down steps -/

/-- A down step has ended: the walk goes on, or what waited for it does (09 R479 to R481; 10 R563 to R566; 11 R597). -/
def downStepDone (s : State) : State :=
  let t := clearFalling s
  match s.rails.walk with
  | .down groups =>
    if stepsWithGroup s ∧ s.tremor.walk = .downWalk then
      (let u := { t with rails := { t.rails with walk := .none, delaying := false } }
       if u.life.dev = .warn then saveOrder u else u)
    else
      let u := downFrom groups s.rails.pos t
      if u.rails.walk = .none then afterDown u else u
  | _ => if t.life.dev = .warn then saveOrder t else t

/-- DOWN_STEP_END (09 R480, R481, R485; 11 R597, R608): every rail of the step reads below its off level. -/
def execDownStepEnd (s : State) : Host.Outcome State Fault Refusal :=
  if s.noneFalling ∨ s.fallenAll = false then .next s else .next (downStepDone s)

/-- DOWN_STEP_TIMEOUT (09 R480). -/
def execDownStepTimeout (s : State) : Host.Outcome State Fault Refusal :=
  if s.noneFalling then .next s else .next (downStepDone (raise s 342 .supervisor []))

/-! ### Enables -/

/-- An own supply is being brought up (09 R470). -/
def supplyUp (s : State) : Bool :=
  s.life.dev == .boot && s.life.boot == .cold && s.life.bootStep == 4 && decide (s.rails.pos < 4) && s.outage.phase == .none

/-- ENABLE_GOOD (09 R470, R471): the next enable rises. -/
def execEnableGood (s : State) : Host.Outcome State Fault Refusal :=
  if supplyUp s = false then .next s
  else
    let k := s.rails.pos + 1
    .next { s with
      rails := { s.rails with pos := k, en := if k < 4 then vset s.rails.en (Fin.ofNat 4 k) true else s.rails.en } }

/-- ENABLE_TIMEOUT (09 R473, R474, R498): the enable is released; HALT with cause 2, in SUPERVISOR alone but for EN3. -/
def execEnableTimeout (s : State) : Host.Outcome State Fault Refusal :=
  if supplyUp s = false then .next s
  else
    let k : Fin 4 := Fin.ofNat 4 s.rails.pos
    let t := latchFault 3 0xFF (2 * 16 + k.val) 0 0 0 { s with rails.en := vset s.rails.en k false }
    .next (enterHalt 2 (k == 3) false (raise t (328 + k.val) .supervisor []))

/-! ### Masks, switches, resets, trims -/

/-- RAIL_MASK (09 R499 to R501). -/
def execRailMask (p : Session) (r : Fin 12) (v : Byte) (s : State) : Host.Outcome State Fault Refusal :=
  .next (sessionPut p (BitVec.ofNat 16 (0x2610 + r.val)) 0x10 1 v.toNat s)

/-- RAIL_SWITCH_OFF (09 R502, R504). -/
def execRailSwitchOff (p : Session) (r : Fin 12) (s : State) : Host.Outcome State Fault Refusal :=
  .next (sessionPut p (BitVec.ofNat 16 (0x2610 + r.val)) 0x11 1 0 s)

/-- RAIL_SWITCH_ON (09 R503, R504). -/
def execRailSwitchOn (p : Session) (r : Fin 12) (s : State) : Host.Outcome State Fault Refusal :=
  .next (sessionPut p (BitVec.ofNat 16 (0x2610 + r.val)) 0x11 1 1 s)

/-- RESET_RELEASE (09 R506, R507, R509, R511): the stretch has passed. -/
def execResetRelease (k : Fin 4) (s : State) : Host.Outcome State Fault Refusal :=
  if s.rails.rst[k] ≠ .stretching then .next s
  else .next (raise { s with rails.rst := vset s.rails.rst k .released } (336 + k.val) .supervisor [])

/-- RESET_PULSE (09 R509). -/
def execResetPulse (p : Session) (k : Fin 4) (s : State) : Host.Outcome State Fault Refusal :=
  .next (sessionPut p (BitVec.ofNat 16 (0x2730 + k.val)) 3 1 1 s)

/-- TRIM_TARGET_WRITE (09 R514, R516). -/
def execTrimTargetWrite (p : Session) (t : Fin 4) (v : BitVec 16) (s : State) : Host.Outcome State Fault Refusal :=
  .next (sessionPut p (BitVec.ofNat 16 (0x2720 + t.val)) 1 2 v.toNat s)

/-- TRIM_TARGET_REACHED (09 R515, R517). -/
def execTrimTargetReached (t : Fin 4) (s : State) : Host.Outcome State Fault Refusal :=
  let x := s.rails.trim[t]
  if x.slewing = false ∨ trimCode s t ≠ x.target then .next s
  else
    .next (raise { s with
      rails.trim := vset s.rails.trim t { x with present := x.target, slewing := false } } (332 + t.val) .supervisor [])

/-! ### The keep store -/

/-- KEEP_STORE_WRITE (09 R523 to R525): a pending write, at most one every 60 s. -/
def execKeepStoreWrite (s : State) : Host.Outcome State Fault Refusal :=
  let early := match s.keep.lastWrite with
    | some t => decide (s.time.now < t + 60000000)
    | none => false
  if s.life.dev.supervised = false ∨ s.keep.pending = false ∨ early = true then .next s
  else
    let t := keepWrite s
    .next { t with keep.lastWrite := some s.time.now }

end Sys2Proof.Machine
end

