-- ==== Sys2Proof/Machine/TremorCommands.lean ====
section
/-! DEFINITION. The Tremor line's commands (10): advances, releases, falls, resets, down requests, the hold of a BOOT, timeouts and
wire faults. -/

namespace Sys2Proof.Machine

/-- The member rests between walks. -/
def lineIdle (s : State) : Bool := s.tremor.walk == .idleUp || s.tremor.walk == .idleDown

/-- Enter idle up (10 R544, R560; EV-0385, EV-0340). -/
def enterIdleUp (s : State) : State :=
  let t := raise { s with tremor := { s.tremor with walk := .idleUp } } 385 .supervisor []
  let u := raiseIf (goesUp t) t 340 .supervisor []
  if u.outage.phase = .returning then { u with outage.phase := .none } else u

/-- What a member still shuts alone when its down walk has ended: its rails without a position (09 R483; 10 R564, R565). -/
def restAfterWalk (c : DownCause) (s : State) : State :=
  match c with
  | .none => s
  | .request => shutAll [0, 1, 2, 3, 4] s
  | .hostSave => if s.life.dev = .warn then shutAll [1] s else s
  | .driveSave => if s.life.dev = .warn then shutAll [2] s else s

/-- Enter idle down, the advance into state 0 (10 R544; EV-0387, EV-0400). -/
def enterIdleDown (s : State) : State :=
  let c := s.tremor.down
  restAfterWalk c
    (announce (raise { s with tremor := { s.tremor with walk := .idleDown, counter := 0, down := .none } } 387 .supervisor []))

/-- A down walk begins in state N (10 R549, R563; EV-0386). -/
def beginDown (s : State) : State :=
  let c := s.tremor.wantDown
  let t := { s with tremor := { s.tremor with down := c, wantDown := .none, asked := false } }
  announce (enterDown (groupLength s) (raise t 386 .supervisor [(1, if c = .none then 1 else c.code)]))

/-- The counter moves on (10 R543, R544). -/
def advance (s : State) : State :=
  match s.tremor.walk with
  | .gathering => announce (enterUp 1 s)
  | .upWalk => if s.tremor.counter < groupLength s then announce (enterUp (s.tremor.counter + 1) s) else enterIdleUp s
  | .downWalk => if 1 < s.tremor.counter then announce (enterDown (s.tremor.counter - 1) s) else enterIdleDown s
  | .idleUp => if s.tremor.asked then beginDown s else s
  | .idleDown => if s.tremor.asked then beginDown s else s
  | .fault => s

/-- TREMOR_ADVANCE (10 R541 to R545, R549, R555 to R559, R563 to R569): the line has been high long enough. -/
def execTremorAdvance (s : State) : Host.Outcome State Fault Refusal :=
  if isMember s = false ∨ s.tremor.pulling then .next s
  else .next (advance { s with tremor := { s.tremor with high := true, low := false } })

/-- The line has been held for t_RS (10 **Tremor wire timing**). -/
def resetSent (s : State) : Bool := decide (s.tremor.heldAt + 2940 ≤ s.time.now)

/-- The member's work of its state is done (10 R541, R554, R556, R557, R563). -/
def workDone (s : State) : Bool :=
  s.rails.walk == .none &&
  (match s.tremor.walk with
   | .upWalk => !goesUp s || (upReady s s.tremor.counter && (s.upRails (upGroups s s.tremor.counter) s.tremor.counter).isEmpty)
   | .downWalk => s.noneFalling && (s.downRails (downHeld s) s.tremor.counter).isEmpty
   | .fault => false
   | .gathering => resetSent s && (!s.tremor.bootHold || s.tremor.atStep8)
   | _ => resetSent s && s.tremor.bootHold && s.tremor.atStep8)

/-- TREMOR_RELEASE (10 R541, R553, R554): the line is released; after the hold of a BOOT the member gathers. -/
def execTremorRelease (s : State) : Host.Outcome State Fault Refusal :=
  if isMember s = false ∨ s.tremor.pulling = false ∨ workDone s = false then .next s
  else
    let t := releaseLine s
    .next (if s.tremor.bootHold then { t with tremor := { t.tremor with bootHold := false, walk := .gathering, counter := 0 } } else t)

/-- TREMOR_LINE_FALL (10 R545, R547, R552): another member pulls; in idle a spontaneous low begins. -/
def execTremorLineFall (s : State) : Host.Outcome State Fault Refusal :=
  .next { s with tremor := { s.tremor with high := false, low := lineIdle s || s.tremor.low } }

/-- TREMOR_RESET (10 R548, R552; EV-0388): a spontaneous low has lasted t_RR. -/
def execTremorReset (s : State) : Host.Outcome State Fault Refusal :=
  if isMember s = false ∨ lineIdle s = false ∨ s.tremor.low = false then .next s
  else
    .next (raise { s with
      tremor := { s.tremor with
      walk := .gathering, counter := 0, low := false, wantReset := false, asked := false } } 388 .supervisor [])

/-- TREMOR_DOWN_REQUEST (10 R549): a spontaneous low ended in time; the next advance begins a down walk. The hold of a BOOT lasts
longer (R553). -/
def execTremorDownRequest (s : State) : Host.Outcome State Fault Refusal :=
  if isMember s = false ∨ lineIdle s = false ∨ s.tremor.low = false ∨ s.tremor.bootHold then .next s
  else .next { s with tremor := { s.tremor with low := false, high := true, pulling := false, asked := true } }

/-- TREMOR_SEND_DOWN_REQUEST (10 R551, R552, R564 to R566): the member pulls the line for a down request; while a low runs it has
joined that low and sends none. -/
def execTremorSendDownRequest (s : State) : Host.Outcome State Fault Refusal :=
  if stepsWithGroup s = false ∨ lineIdle s = false ∨ s.tremor.wantDown = .none ∨ s.tremor.pulling ∨ s.tremor.low then .next s
  else
    let t := pullLine s
    .next { t with tremor.low := true }

/-- TREMOR_SEND_RESET (10 R551, R552, R560): the member pulls the line for a reset; while a low runs it has joined that low and sends
none. -/
def execTremorSendReset (s : State) : Host.Outcome State Fault Refusal :=
  if stepsWithGroup s = false ∨ lineIdle s = false ∨ s.tremor.wantReset = false ∨ s.tremor.pulling ∨ s.tremor.low then .next s
  else
    let t := pullLine s
    .next { t with tremor.low := true }

/-- TREMOR_BOOT_HOLD (10 R547, R553, R573): the member pulls the line for the hold of a cold BOOT, a spontaneous low of its own. -/
def execTremorBootHold (s : State) : Host.Outcome State Fault Refusal :=
  if s.life.dev ≠ .boot ∨ s.life.boot ≠ .cold ∨ isMember s = false ∨ s.tremor.bootHold ∨ s.tremor.walk ≠ .idleDown then .next s
  else
    let t := pullLine s
    .next { t with tremor := { t.tremor with bootHold := true, low := true } }

/-- GATHER_WAITING (10 R554): a member in BOOT has waited 5 s in gathering. -/
def execGatherWaiting (s : State) : Host.Outcome State Fault Refusal :=
  if s.life.dev ≠ .boot ∨ isMember s = false ∨ s.tremor.walk ≠ .gathering then .next s
  else .next (raise s 392 .supervisor [])

/-- A Tremor fault (02 R56, R57, R59; 10 R572 to R577): a cold BOOT fails; in service and in a warm BOOT the outage path starts. -/
def lineFault (kind ev : Nat) (s : State) : State :=
  let k := s.tremor.counter
  let t := tremorFault (latchFault kind 0xFF 0 k 0 0 (raise s ev .supervisor [(1, k), (1, s.tremor.walk.code)]))
  match s.life.dev with
  | .boot => if t.life.boot = .cold then (if t.life.haltPending = 0 then bootFails 2 t else t) else fatalFault t
  | .restore | .serve => fatalFault t
  | .warn => saveOrder t
  | _ => t

/-- States of the group that have a limit: those of walks, and gathering in RESTORE and SERVE (10 **Step timeouts**). -/
def stepTimed (s : State) : Bool :=
  match s.tremor.walk with
  | .upWalk => true
  | .downWalk => true
  | .gathering => s.life.dev == .restore || s.life.dev == .serve
  | _ => false

/-- TREMOR_STEP_TIMEOUT (10 R570, R572, R575 to R577). -/
def execTremorStepTimeout (s : State) : Host.Outcome State Fault Refusal :=
  if stepsWithGroup s = false ∨ s.tremor.pulling ∨ stepTimed s = false then .next s
  else .next (lineFault 8 389 s)

/-- TREMOR_WIRE_FAULT (10 R571, R572, R575 to R577): the member pulls the line and reads it high. -/
def execTremorWireFault (s : State) : Host.Outcome State Fault Refusal :=
  if stepsWithGroup s = false ∨ s.tremor.pulling = false then .next s else .next (lineFault 9 390 s)

end Sys2Proof.Machine
end

