-- ==== Sys2Proof/Machine/VideoCoding.lean ====
section
/-! DEFINITION. Video coding: PIXEL_ROW_COMPLETE, SYNTAX_RING_CLEARED, LIVE_SLICE_WRITE, FORCE_IDR, SEGMENT_FLUSH,
RECORDING_FRAME_ENCODED and the decode sessions (14). -/

namespace Sys2Proof.Machine

/-! ### The start of a frame (14 R776, R777, R795 to R797) -/

/-- The cause of an IDR frame that is due apart from the interval: the first frame, a rejoin, or the cause that waits (14 R795). -/
def dueCause (e : Encoder) (f : Frame) : Option Cause :=
  if e.state = .waiting then some .idrFirst else if f.rejoin then some .idrRejoin else e.idrCause

/-- The frame is an IDR frame (14 R795); an inserted frame is a P frame (14 R797). -/
def isIdr (s : State) (n : Fin 16) (f : Frame) : Bool :=
  !f.md.inserted && ((dueCause (encOf s n) f).isSome || decide (s.sc n 0x4041 7 ≤ (encOf s n).sinceIdr + 1))

/-- QP added by backpressure to a frame of the recording class that starts now (14 R776, R777). -/
def addedQp (s : State) (n : Fin 16) : Nat :=
  let x := (encOf s n).extraQp
  let step := s.cfg 0x2A00 6
  if classOf s n ≠ 2 then 0 else if s.video.ringHigh then min (s.sc n 0x4041 2) (x + step) else x - step

/-- The frame becomes the long-term reference (14 R796). -/
def renewsLtr (s : State) (n : Fin 16) (idr : Bool) : Bool :=
  s.sc n 0x4041 8 != 0 && (idr || decide (s.sc n 0x4041 8 ≤ (encOf s n).ltrAge + 1))

/-- The QP of a frame (14 R776, R790, R791) by rate control's choice and what backpressure adds: within QpMin to QpMax under CBR and
VBR, QpI or QpP under fixed QP. -/
def frameQp (s : State) (n : Fin 16) (idr : Bool) (extra qp : Nat) : Nat :=
  let base := if s.sc n 0x4040 5 = 2 then (if idr then s.sc n 0x4041 3 else s.sc n 0x4041 4)
    else min (s.sc n 0x4041 2) (max (s.sc n 0x4041 1) qp)
  if extra = 0 then base else max base (min (s.sc n 0x4041 2) (base + extra))

/-- The QP that rate control chose for a row. -/
def chosenQp (s : State) (n : Fin 16) (r : CodeResult) : Nat := match r with | .coded _ qp => qp | .saturated => s.sc n 0x4041 2

/-- The coding of a stream's oldest frame starts (14 R769, R770, R776, R777, R790, R795 to R798, R801). -/
def startCoding (n : Fin 16) (f : Frame) (qp : Nat) (s : State) : State :=
  let e := encOf s n
  let idr := isIdr s n f
  let ltr := renewsLtr s n idr
  let total := codingRows s n
  let c : Coded := ⟨f.md, idr, total, sliceRowsOf s n total, [], f.md.inserted, frameQp s n idr (addedQp s n) qp, e.nextLtr && !idr, ltr⟩
  let g := { f with
    started := true, rowsLeft := total, picture := encodedPicture (s.sc n 0x4040 7 == 1) (codingUnit s n) f.picture }
  let s1 := (s.modStream n (fun x => { x with queue := g :: x.queue.tail })).modEnc n (fun e => { e with
    state := .encoding, coding := e.coding ++ [c], sinceIdr := if idr then 0 else e.sinceIdr + 1
    idrCause := if idr then none else dueCause e f, nextLtr := false, extraQp := addedQp s n
    longRef := if s.sc n 0x4041 8 = 0 then none else e.longRef
    ltr := s.sc n 0x4041 8 != 0 && (e.ltr || ltr), ltrAge := if ltr then 0 else e.ltrAge + 1
    ltrWhole := e.ltrWhole && !ltr })
  let s2 := raiseIf (e.state == .waiting) s1 (streamEv n.val 16) .pixel []
  match dueCause e f with
  | some why => raiseIf idr s2 (streamEv n.val 18) .pixel [(1, (Config.causeCode why).toNat)]
  | none => s2

/-! ### The rows of a frame (14 R786 to R789, R793) -/

/-- The references of a frame, the short-term one first, each with a mark on the long-term one (14 R788, R801). -/
def refsOf (e : Encoder) (c : Coded) : List (Bool × Picture) :=
  if c.idr then []
  else (if c.fromLtr then [] else e.shortRef.toList.map (fun p => (false, p))) ++ e.longRef.toList.map (fun p => (true, p))

/-- The motion search of a frame by the stream's entries (14 R786, R787). -/
def searchOf (s : State) (n : Fin 16) (f : Frame) : Search :=
  ⟨s.sc n 0x4040 2, s.sc n 0x4041 9, s.sc n 0x4041 0x0A, s.sc n 0x4041 0x0B, s.sc n 0x4041 0x0C, f.picture.y⟩

/-- The QP of a row: the frame's, which CBR adjusts by at most 2 within QpMin to QpMax (14 R790, R791). -/
def rowQp (s : State) (n : Fin 16) (c : Coded) (r : CodeResult) : Nat :=
  if s.sc n 0x4040 5 = 0 then min (s.sc n 0x4041 2) (max (s.sc n 0x4041 1) (min (c.qp + 2) (max (c.qp - 2) (chosenQp s n r)))) else c.qp

/-- The decisions of a coded frame's next row (14 R788, R793, R797). -/
def rowChoices (s : State) (n : Fin 16) (f : Frame) (r : CodeResult) (c : Coded) : List Choice :=
  if c.skip then skipRow (s.sc n 0x4040 2) (f.picture.y.headD []).length c.qp c.rows.length
  else chooseRow (searchOf s n f) f.picture (refsOf (encOf s n) c) (blockQp s n f.rois (rowQp s n c r)) c.rows.length

/-- The coded frame of a frame in its buffer. -/
def modCoded (f : Frame) (g : Coded → Coded) (l : List Coded) : List Coded :=
  l.map (fun c => if c.md.number = f.md.number then g c else c)

/-- The next row of a frame is searched and decided. -/
def decideRow (n : Fin 16) (f : Frame) (r : CodeResult) (s : State) : State :=
  s.modEnc n (fun e => { e with coding := modCoded f (fun c => { c with rows := c.rows ++ [rowChoices s n f r c] }) e.coding })

/-! ### The end of a frame (14 R774, R790, R791, R794, R796) -/

/-- Bits that the buffer drains in one frame (14 R790). -/
def drainBits (s : State) (n : Fin 16) : Nat :=
  if frameRate s n ≤ 0 then 0 else ((drainRate s n * 1000 : Nat) / frameRate s n).floor.toNat

/-- The frame would overflow the buffer (14 R791). -/
def saturates (s : State) (n : Fin 16) (r : CodeResult) : Bool :=
  s.sc n 0x4040 5 != 2 &&
  (match r with
   | .saturated => true
   | .coded bits _ => decide (1000 * vbvSize s n < (encOf s n).vbv + bits))

/-- The frame is replaced by an all-skip P frame at QpMax (14 R791). -/
def skipCoded (s : State) (n : Fin 16) (f : Frame) (c : Coded) : Coded :=
  let qp := s.sc n 0x4041 2
  { c with
    idr := false, skip := true, qp := qp
    rows := (List.range c.rows.length).map (skipRow (s.sc n 0x4040 2) (f.picture.y.headD []).length qp) }

/-- The reconstruction of a frame becomes the short-term reference, and the long-term one where it is to (14 R767, R796, R798). -/
def takeReference (s : State) (n : Fin 16) (f : Frame) (e : Encoder) : Encoder :=
  match e.coding.find? (fun c => c.md.number == f.md.number) with
  | none => e
  | some c =>
    let p := reconstructed (s.sc n 0x4040 2) (codingUnit s n) f.picture ((refsOf e c).map (·.2)) c.sliceRows c.total 0 c.rows
    { e with shortRef := some p, longRef := if c.becomesLtr then some p else e.longRef }

/-- The last row of a frame is done: its buffer is free and its syntax complete (14 R774, R790, R791). An IDR frame that the buffer
has no room for becomes an all-skip P frame too, and the next frame is the IDR frame (log 114). -/
def endCoding (n : Fin 16) (f : Frame) (r : CodeResult) (s : State) : State :=
  let sat := saturates s n r && !f.md.inserted
  let bits := match r with | .coded bits _ => (if sat then 0 else bits) | .saturated => 0
  let told := sat && secondPassed s (encOf s n).satAt
  let s1 := s.modStream n (fun x => { x with queue := x.queue.tail })
  let s2 := s1.modEnc n (fun e => takeReference s n f { e with
    frames := e.frames + 1, vbv := e.vbv + bits - drainBits s n
    satAt := if told then some s.time.now else e.satAt
    coding := if sat then modCoded f (skipCoded s n f) e.coding else e.coding
    sinceIdr := if sat && e.coding.any (fun c => c.md.number == f.md.number && c.idr) then s.sc n 0x4041 7 else e.sinceIdr })
  raiseIf told s2 (streamEv n.val 19) .pixel []

/-! ### The syntax ring (14 R775 to R778) -/

/-- The fill of the syntax ring after a row (14 R775, R776, R778). -/
def fillRing (fill : Nat) (s : State) : State :=
  let v := s.video
  let full := decide (1000 ≤ fill)
  let high := v.ringHigh || decide (s.cfg 0x2A00 5 ≤ fill)
  let t := { s with video := { v with ringFill := min 1000 fill, ringHigh := high, ringFull := full } }
  raiseIf (full && !v.ringFull) (raiseIf (high && !v.ringHigh) t 1728 .entropy []) 1729 .entropy []

/-- One row of a frame is done. -/
def rowDone (n : Fin 16) (f : Frame) (r : CodeResult) (s : State) : State :=
  let t := decideRow n f r s
  if f.rowsLeft ≤ 1 then endCoding n f r t
  else t.modStream n (fun x => { x with queue := { f with rowsLeft := f.rowsLeft - 1 } :: x.queue.tail })

/-- The frame that the pixel engine works on for a stream. -/
def headFrame (s : State) (n : Fin 16) : Option Frame := (strOf s n).queue.head?

/-- A stream's oldest frame is work for the pixel engine, and when it began. -/
def pixelWork (s : State) (n : Fin 16) : Option Nat :=
  match headFrame s n with
  | some f => if admitted s n ∧ (f.started ∨ takesFrames s n) then some f.born else none
  | none => none

/-- Work of stream `m` goes before a frame of stream `n` that began at `born`: live class first, then the oldest frame (14 R772). -/
def pixelBefore (s : State) (n : Fin 16) (born : Nat) (m : Fin 16) : Bool :=
  match pixelWork s m with
  | none => false
  | some b => m != n && ((classOf s m == 1 && classOf s n != 1) ||
      ((classOf s m == 1 || classOf s n != 1) && (decide (b < born) || (b == born && decide (m.val < n.val)))))

/-- Another stream's row is due before this stream's (14 R772; log 136). -/
def pixelYields (s : State) (n : Fin 16) (f : Frame) : Bool := (List.finRange 16).any (pixelBefore s n f.born)

/-- PIXEL_ROW_COMPLETE (14 R769, R772, R774 to R778, R786 to R791, R793 to R798): the next row of the stream's oldest frame is done,
with the fill it leaves. At a fill of 1,000 ‰ the engine stalls until the ring has room. A frame that has not started when recording
pauses is discarded (R813). -/
def execPixelRowComplete (n : Fin 16) (ringFill : Nat) (r : CodeResult) (s : State) : Host.Outcome State Fault Refusal :=
  match headFrame s n with
  | none => .next s
  | some f =>
    if s.island .pixel ≠ .running ∨ admitted s n = false then .next s
    else if f.started = false ∧ takesFrames s n = false then .next (s.modStream n (fun x => { x with queue := x.queue.tail }))
    else if pixelYields s n f ∨ (s.video.ringFull ∧ 1000 ≤ ringFill) then .next s
    else
      let t := if f.started then s else startCoding n f (chosenQp s n r) s
      match headFrame t n with
      | some g => .next (fillRing ringFill (rowDone n g r t))
      | none => .next t

/-- SYNTAX_RING_CLEARED (14 R777): the fill has fallen below HighMark − 250 ‰. -/
def execSyntaxRingCleared (ringFill : Nat) (s : State) : Host.Outcome State Fault Refusal :=
  if s.video.ringHigh = false ∨ s.cfg 0x2A00 5 ≤ ringFill + 250 then .next s
  else
    .next (raise { s with video := { s.video with ringFill := ringFill, ringHigh := false, ringFull := false } } 1730 .entropy [])

/-! ### Live slices (14 section 7) -/

/-- Round up to a whole multiple of 16. -/
def up16 (n : Nat) : Nat := (n + 15) / 16 * 16

/-- The bytes of a live slice record (14 **Live slice record**). -/
def sliceBytes (c : Coded) (slice : Nat) (last : Bool) (nal : List Byte) : List Byte :=
  let first := slice == 0
  let body := (if first then metaBytes c.md else []) ++ nal
  leBytes 4 (up16 (16 + body.length)) ++ leBytes 4 c.md.number ++
  leBytes 1 (bitIf first 0 + bitIf last 1 + bitIf c.idr 2 + bitIf first 3 + bitIf c.fromLtr 4) ++ leBytes 1 slice ++ leBytes 2 0 ++
  leBytes 4 nal.length ++ body ++ List.replicate (up16 (16 + body.length) - (16 + body.length)) 0

/-- The bytes of a pad record that fills the ring to its end (14 R800). -/
def padBytes (len : Nat) : List Byte := leBytes 8 0 ++ leBytes 1 0x80 ++ List.replicate (len - 9) 0

/-- Ring of a live stream: base, size and index block (14 R799). -/
def liveBase (s : State) (n : Fin 16) : Nat := s.sc n 0x4043 1
def liveSize (s : State) (n : Fin 16) : Nat := s.sc n 0x4043 2
def liveIndex (s : State) (n : Fin 16) : Nat := s.sc n 0x4043 3

/-- Bytes of padding before a record of `len` bytes (14 R800). Offsets count on without end, and their place in the ring is their
remainder (log 98). -/
def padBefore (size producer len : Nat) : Nat :=
  if size < producer % size + len then size - producer % size else 0

/-- Slices reach host memory: the host is attached, the function may write, and the ring is set up (14 R799, R804; 05 R204). -/
def liveOpen (s : State) (n : Fin 16) : Bool :=
  hostAttach s.port == 0 && dmaOpen s s.cache.videoTenant && liveSize s n != 0

/-- Write a record into the live ring, and the producer offset after it (14 R799, R800; 05 R277). -/
def writeLive (n : Fin 16) (bytes : List Byte) (s : State) : State :=
  let v := s.cache.videoTenant
  let size := liveSize s n
  let p := (encOf s n).producer
  let pad := padBefore size p bytes.length
  let s1 := if pad = 0 then s else dmaWrite v [(liveBase s n + p % size, pad)] (padBytes pad) s
  let q := p + pad
  let s2 := dmaWrite v [(liveBase s n + q % size, bytes.length)] bytes (takeFnTurn v s1)
  let s3 := s2.modEnc n (fun e => { e with producer := q + bytes.length })
  dmaWrite v [(liveIndex s n, 8)] (leBytes 8 (q + bytes.length)) s3

/-- A record has room in the ring up to a consumer offset (14 R801). -/
def liveRoom (s : State) (n : Fin 16) (len consumer : Nat) : Bool :=
  decide ((encOf s n).producer + padBefore (liveSize s n) (encOf s n).producer len + len ≤ consumer + liveSize s n)

/-- A live overflow: the rest of the frame is discarded, and the next frame is predicted from the long-term reference if all of it
was written, else is an IDR frame (14 R801). -/
def liveOverflow (n : Fin 16) (s : State) : State :=
  let t := raise (s.modEnc n (fun e => { e with overflow := true, whole := false, overflows := e.overflows + 1 }))
    (streamEv n.val 20) .entropy []
  if (encOf s n).ltr ∧ (encOf s n).ltrWhole then t.modEnc n (fun e => { e with nextLtr := true }) else dueIdr n .idrOverflow t

/-- The last slice of a frame is done (14 R796, R801, R802). -/
def liveFrameDone (n : Fin 16) (c : Coded) (written : Bool) (s : State) : State :=
  let e := encOf s n
  let t := s.modEnc n (fun e => { e with
    coding := e.coding.tail, slice := 0, overflow := false, whole := true, ltrWhole := if c.becomesLtr then e.whole else e.ltrWhole })
  if written ∧ e.overflow = false then signal s.cache.videoTenant (s.sc n 0x4043 4) t else t

/-- The controller reads the consumer offset again (14 R801). -/
def readConsumer (n : Fin 16) (consumer : Nat) (s : State) : State :=
  dmaRead s.cache.videoTenant [(liveIndex s n + 8, 8)] (s.modEnc n (fun e => { e with consumer := consumer }))

/-- One slice of the oldest coded frame (14 R799 to R801, R804). -/
def putSlice (n : Fin 16) (c : Coded) (nal : List Byte) (last : Bool) (consumer : Nat) (s : State) : State :=
  let e := encOf s n
  if e.overflow then s
  else if liveOpen s n = false then s.modEnc n (fun e => { e with whole := false })
  else
    let bytes := sliceBytes c e.slice last nal
    let s1 := if liveRoom s n bytes.length e.consumer then s else readConsumer n consumer s
    if liveRoom s1 n bytes.length (encOf s1 n).consumer then writeLive n bytes s1 else liveOverflow n s1

/-- The rows up to the end of slice `k` of a frame (14 R798). -/
def sliceEnd (c : Coded) (k : Nat) : Nat := min c.total ((k + 1) * c.sliceRows)

/-- Slice `k` is the last of its frame (14 R798). -/
def lastSlice (c : Coded) (k : Nat) : Bool := decide (c.total ≤ sliceEnd c k)

/-- The rows of the next slice of a live stream's oldest coded frame are in the syntax ring (14 R772 to R774, R798). -/
def sliceReady (s : State) (n : Fin 16) : Bool :=
  classOf s n == 1 &&
  (match (encOf s n).coding.head? with
   | some c => decide (sliceEnd c (encOf s n).slice ≤ c.rows.length)
   | none => false)

/-- LIVE_SLICE_WRITE (14 R773, R798 to R804; 05 R277): the next slice of a live stream's oldest coded frame, with the consumer offset
that the host's index block holds. -/
def execLiveSliceWrite (n : Fin 16) (nal : List Byte) (consumer : BitVec 64) (s : State) : Host.Outcome State Fault Refusal :=
  match (encOf s n).coding.head? with
  | none => .next s
  | some c =>
    if s.island .entropy ≠ .running ∨ sliceReady s n = false then .next s
    else
      let last := lastSlice c (encOf s n).slice
      let t := (putSlice n c nal last consumer.toNat s).modEnc n (fun e => { e with slice := e.slice + 1 })
      .next (if last then liveFrameDone n c (liveOpen s n) t else t)

/-- FORCE_IDR (14 R795): ForceIdr = 1. -/
def execForceIdr (p : Session) (n : Fin 16) (s : State) : Host.Outcome State Fault Refusal :=
  .next (sessionPut p (BitVec.ofNat 16 (blockIndex 0x4040 n.val)) 0x0C 1 1 s)

/-! ### Recording (14 section 8) -/

/-- SEGMENT_FLUSH (14 R810, R813; 06 R293; 11 R614): the bytes staged in the last second are PUT. -/
def execSegmentFlush (n : Fin 16) (s : State) : Host.Outcome State Fault Refusal :=
  if s.island .entropy ≠ .running ∨ (recOf s n).seg.isNone then .next s
  else
    let r := flushSegment n s
    match r.1 with
    | some c => .next (pauseRecording n c r.2)
    | none => .next r.2

/-- The open segment has lasted SegmentDuration (14 R811). -/
def segmentOld (s : State) (n : Fin 16) : Bool :=
  match (recOf s n).seg with
  | some g => decide (g.openedAt + 1000000 * s.sc n 0x4041 0x0E ≤ s.time.now)
  | none => false

/-- A record would take the open segment beyond 64 MiB (14 R811). -/
def segmentFull (s : State) (n : Fin 16) (len : Nat) : Bool :=
  match (recOf s n).seg with
  | some g => decide (67108864 < 4096 + g.put + g.staged.length + len)
  | none => false

/-- The average QP of a coded frame's blocks (14 **Access-unit record**; log 18). -/
def averageQp (c : Coded) : Byte :=
  let qs := c.rows.flatten.map (·.qp)
  BitVec.ofNat 8 (if qs.isEmpty then c.qp else sumOf qs / qs.length)

/-- A live slice waits for the entropy engine (14 R773). -/
def liveWaits (s : State) : Bool := (List.finRange 16).any (sliceReady s)

/-- A recording stream's oldest coded frame has all its rows in the syntax ring (14 R774). -/
def frameReady (s : State) (n : Fin 16) : Bool :=
  classOf s n == 2 &&
  (match (encOf s n).coding.head? with
   | some c => decide (c.total ≤ c.rows.length)
   | none => false)

/-- A coded frame joins the recording (14 R807 to R811): an IDR frame opens a segment, after the one that is due to close. A record
that is no IDR frame begins no segment; the next frame is then an IDR frame (R795). -/
def recordFrame (n : Fin 16) (c : Coded) (nal : List Byte) (s : State) : State :=
  let bytes := recordBytes c (averageQp c) nal
  let s1 := if c.idr ∧ segmentOld s n then closeSegment n .closeDuration 0 s else s
  let s2 := if segmentFull s1 n bytes.length then closeSegment n .closeSize 0 s1 else s1
  if (recOf s2 n).paused then s2
  else
    let s3 := if (recOf s2 n).seg.isNone ∧ c.idr then openSegment n c.md s2 else s2
    if (recOf s3 n).paused then s3
    else if (recOf s3 n).seg.isNone then dueIdr n .idrSegment s3
    else appendRecord n c.md bytes s3

/-- RECORDING_FRAME_ENCODED (14 R773, R807, R809 to R811, R813; 06 R293; 11 R614): a recording stream's oldest coded frame has its
bitstream, once no live slice waits. In a pause it is discarded. -/
def execRecordingFrameEncoded (n : Fin 16) (nal : List Byte) (s : State) : Host.Outcome State Fault Refusal :=
  match (encOf s n).coding.head? with
  | none => .next s
  | some c =>
    if s.island .entropy ≠ .running ∨ frameReady s n = false ∨ liveWaits s then .next s
    else
      let t := s.modEnc n (fun e => { e with coding := e.coding.tail })
      .next (if (recOf t n).paused then t else recordFrame n c nal t)

/-! ### Decode sessions (14 section 9) -/

/-- The index of a session's entries. -/
def decIndex (d : Fin 2) : Nat := 0x2A40 + d.val

/-- DECODE_OPEN (14 R783, R816, R817, R821): Control = 1. -/
def execDecodeOpen (p : Session) (d : Fin 2) (s : State) : Host.Outcome State Fault Refusal :=
  .next (sessionPut p (BitVec.ofNat 16 (decIndex d)) 1 1 1 s)

/-- DECODE_CLOSE (14 R821): Control = 2. -/
def execDecodeClose (p : Session) (d : Fin 2) (s : State) : Host.Outcome State Fault Refusal :=
  .next (sessionPut p (BitVec.ofNat 16 (decIndex d)) 1 1 2 s)

/-- DECODE_END_OF_INPUT (14 R821): Control = 3. -/
def execDecodeEndOfInput (p : Session) (d : Fin 2) (s : State) : Host.Outcome State Fault Refusal :=
  .next (sessionPut p (BitVec.ofNat 16 (decIndex d)) 1 1 3 s)

/-- The parts of a ring that bytes from an offset on take: the second one begins at the ring's base. -/
def ringParts (base size off len : Nat) : List (Nat × Nat) :=
  let room := size - off % size
  (base + off % size, min room len) :: (if room < len then [(base, len - room)] else [])

/-- Round up to a whole multiple of 64. -/
def up64 (n : Nat) : Nat := (n + 63) / 64 * 64

/-- A row of samples, padded to a pitch. -/
def pitchRow (pitch : Nat) (r : List Nat) : List Byte := r.map (BitVec.ofNat 8) ++ List.replicate (pitch - r.length) 0

/-- Cb and Cr samples in turn. -/
def interleave : List Nat → List Nat → List Nat
  | a :: as_, b :: bs => a :: b :: interleave as_ bs
  | _, _ => []

/-- The record of a decoded picture: header, Y plane, interleaved CbCr plane (14 R819). -/
def pictureBytes (p : Decoded) (concealed fromSegment : Bool) : List Byte :=
  let width := (p.picture.y.headD []).length
  let pitch := up64 width
  let planes := p.picture.y.flatMap (pitchRow pitch) ++
    (List.zipWith interleave p.picture.cb p.picture.cr).flatMap (pitchRow pitch)
  leBytes 4 (32 + planes.length) ++ leBytes 2 width ++ leBytes 2 p.picture.y.length ++ leBytes 2 pitch ++
  leBytes 1 (bitIf p.randomAccess 0 + bitIf concealed 1) ++ leBytes 1 0 ++ leBytes 4 p.order.toNat ++
  leBytes 8 (if fromSegment then p.time.toNat else 0) ++ leBytes 8 0 ++ planes

/-- A place lies in one of some areas. -/
def inAreas (l : List Area) (x y : Nat) : Bool :=
  l.any (fun a => decide (a.x ≤ x) && decide (x < a.x + a.w) && decide (a.y ≤ y) && decide (y < a.y + a.h))

/-- Copy the samples of some areas from another plane, at 1/k of the areas' scale. -/
def copyAreas (l : List Area) (k : Nat) (old p : List (List Nat)) : List (List Nat) :=
  p.zipIdx.map (fun r => r.1.zipIdx.map (fun c => if inAreas l (k * c.2) (k * r.2) then (old.getD r.2 []).getD c.2 c.1 else c.1))

/-- Failed slices are concealed by the co-located areas of the previous output picture (14 R820; log 137). -/
def conceal (failed : List Area) (previous : Option Picture) (p : Decoded) : Decoded :=
  match previous with
  | none => p
  | some o => { p with picture := ⟨copyAreas failed 1 o.y p.picture.y, copyAreas failed 2 o.cb p.picture.cb, copyAreas failed 2 o.cr p.picture.cr⟩ }

/-- The session reads a segment, not a host ring (14 R817). -/
def fromSegment (s : State) (d : Fin 2) : Bool := s.cfg (decIndex d) 2 == 1

/-- The header block of a session's source segment, if it is there (14 R817). -/
def sourceHeader (s : State) (d : Fin 2) : Option Slot :=
  slotAt s.cache s.cache.videoTenant (segVolume (Fin.ofNat 16 (s.cfg (decIndex d) 3))) (segLba (s.cfg (decIndex d) 4))

/-- A source segment is missing (14 R820). -/
def sourceMissing (s : State) (d : Fin 2) : Bool := fromSegment s d && (sourceHeader s d).isNone

/-- The session may read some bytes of input: below the syntax ring's high mark, and of a segment no more than has been PUT (14 R776,
R812). -/
def mayRead (s : State) (d : Fin 2) (read : Nat) : Bool :=
  read == 0 ||
  (!s.video.ringHigh &&
   (match sourceHeader s d with
    | some h => !fromSegment s d ||
        decide (s.video.dec[d].consumer + read ≤ segmentEnd s (Fin.ofNat 16 (s.cfg (decIndex d) 3)) (s.cfg (decIndex d) 4) h.data)
    | none => true))

/-- The input that a session has read; a host ring's consumer offset follows (14 R818). -/
def readInput (d : Fin 2) (read : Nat) (s : State) : State :=
  let v := s.cache.videoTenant
  let t := s.modDec d (fun x => { x with consumer := x.consumer + read })
  if read = 0 ∨ fromSegment s d ∨ dmaOpen s v = false then t
  else dmaWrite v [(s.cfg (decIndex d) 7, 8)] (leBytes 8 (s.video.dec[d].consumer + read)) t

/-- A picture's record enters the output ring, and the producer offset follows (14 R818, R819; log 98). -/
def writePicture (d : Fin 2) (p : Decoded) (concealed : Bool) (s : State) : State :=
  let v := s.cache.videoTenant
  let size := s.cfg (decIndex d) 9
  let at_ := s.video.dec[d].producer
  let record := pictureBytes p concealed (fromSegment s d)
  let t := s.modDec d (fun x => { x with
    state := 2, pictures := x.pictures + 1, producer := at_ + record.length, previous := some p.picture })
  if dmaOpen s v = false ∨ size = 0 then t
  else
    dmaWrite v [(s.cfg (decIndex d) 7 + 16, 8)] (leBytes 8 (at_ + record.length))
      (dmaWrite v (ringParts (s.cfg (decIndex d) 8) size at_ record.length) record (takeFnTurn v t))

/-- The last picture after the end of input closes the session (14 R821; log 99). -/
def lastPicture (d : Fin 2) (last : Bool) (s : State) : State :=
  if last ∧ s.video.dec[d].ending then closeSession d (Config.causeCode .decodeEnd).toNat s else s

/-- The error code of a stop (14 R771). -/
def stopCode (k : Fin 2) : Nat := match k with | 0 => 1 | 1 => 2

/-- A session stops with an error (14 R820). -/
def stopSession (d : Fin 2) (code : Nat) (s : State) : State :=
  raise (s.modDec d (fun x => { x with state := 3, error := code })) (1736 + d.val) .entropy [(1, code)]

/-- Encoding work waits for the pixel or the entropy engine, which both serve it before decode work (14 R772, R773). -/
def encodeWaits (s : State) : Bool :=
  (List.finRange 16).any (fun n => (pixelWork s n).isSome || sliceReady s n || frameReady s n)

/-- DECODE_PICTURE_OUTPUT (14 R771 to R773, R776, R817 to R821): the session's next picture, once no encoding work waits; a session
whose source segment is missing stops. -/
def execDecodePictureOutput (d : Fin 2) (r : DecodeResult) (s : State) : Host.Outcome State Fault Refusal :=
  if s.island .entropy ≠ .running ∨ s.island .pixel ≠ .running ∨ decOpen s d = false ∨ decodeServed s = false then .next s
  else if sourceMissing s d then .next (stopSession d 4 s)
  else if encodeWaits s then .next s
  else
    match r with
    | .picture p read last =>
      if mayRead s d read then .next (lastPicture d last (writePicture d p false (readInput d read s))) else .next s
    | .concealed p failed read last =>
      if mayRead s d read then
        .next (lastPicture d last (raise ((writePicture d (conceal failed s.video.dec[d].previous p) true (readInput d read s)).modDec d
          (fun x => { x with error := 3 })) (1736 + d.val) .entropy [(1, 3)]))
      else .next s
    | .stop k => .next (stopSession d (stopCode k) s)

end Sys2Proof.Machine
end

