-- ==== Sys2Proof/Machine/Dispatch.lean ====
section
/-! DEFINITION. The one dispatch: one arm for each command, each a direct call of its meaning. -/

namespace Sys2Proof.Machine

def exec (i : Instr) (s : State) : Host.Outcome State Fault Refusal :=
  match i with
  | .dictionaryWrite p index sub data => Sys2Proof.Machine.execDictionaryWrite p index sub data s
  | .islandHandshakeTimeout p index sub data => Sys2Proof.Machine.execIslandHandshakeTimeout p index sub data s
  | .islandRestart isl => Sys2Proof.Machine.execIslandRestart isl s
  | .egPublication => Sys2Proof.Machine.execEgPublication s
  | .estimatorStale => Sys2Proof.Machine.execEstimatorStale s
  | .crystalFail => Sys2Proof.Machine.execCrystalFail s
  | .wallClockWrite p seconds fraction => Sys2Proof.Machine.execWallClockWrite p seconds fraction s
  | .sample c mv ma dt => Sys2Proof.Machine.execSample c mv ma dt s
  | .vkeepCollapse tornKeep tornStore => Sys2Proof.Machine.execVkeepCollapse tornKeep tornStore s
  | .vkeepRise wakeHigh => Sys2Proof.Machine.execVkeepRise wakeHigh s
  | .wake => Sys2Proof.Machine.execWake s
  | .bootStepComplete r => Sys2Proof.Machine.execBootStepComplete r s
  | .bootStepTimeout => Sys2Proof.Machine.execBootStepTimeout s
  | .inputQualifyTimeout => Sys2Proof.Machine.execInputQualifyTimeout s
  | .firmwareRestart p => Sys2Proof.Machine.execFirmwareRestart p s
  | .coldRestart p => Sys2Proof.Machine.execColdRestart p s
  | .clearHalt p => Sys2Proof.Machine.execClearHalt p s
  | .sleepRequest p => Sys2Proof.Machine.execSleepRequest p s
  | .watchdogExpiry => Sys2Proof.Machine.execWatchdogExpiry s
  | .trialConfirm => Sys2Proof.Machine.execTrialConfirm s
  | .restoreProgressUpdate => Sys2Proof.Machine.execRestoreProgressUpdate s
  | .restoreComplete => Sys2Proof.Machine.execRestoreComplete s
  | .onDemandFetchComplete id r eccBad => Sys2Proof.Machine.execOnDemandFetchComplete id r eccBad s
  | .encryptionWrite p v => Sys2Proof.Machine.execEncryptionWrite p v s
  | .expertOpen p code => Sys2Proof.Machine.execExpertOpen p code s
  | .expertClose p => Sys2Proof.Machine.execExpertClose p s
  | .expertIdleTimeout => Sys2Proof.Machine.execExpertIdleTimeout s
  | .expertLockoutEnd => Sys2Proof.Machine.execExpertLockoutEnd s
  | .expertCodeWrite p code => Sys2Proof.Machine.execExpertCodeWrite p code s
  | .configLockWrite p v => Sys2Proof.Machine.execConfigLockWrite p v s
  | .storeAll p sig => Sys2Proof.Machine.execStoreAll p sig s
  | .storeCommunication p sig => Sys2Proof.Machine.execStoreCommunication p sig s
  | .storeApplication p sig => Sys2Proof.Machine.execStoreApplication p sig s
  | .storeComplete ok => Sys2Proof.Machine.execStoreComplete ok s
  | .restoreDefaultsAll p sig => Sys2Proof.Machine.execRestoreDefaultsAll p sig s
  | .nmtStart node => Sys2Proof.Machine.execNmtStart node s
  | .nmtStop node => Sys2Proof.Machine.execNmtStop node s
  | .nmtEnterPreOperational node => Sys2Proof.Machine.execNmtEnterPreOperational node s
  | .nmtResetNode node => Sys2Proof.Machine.execNmtResetNode node s
  | .nmtResetCommunication node => Sys2Proof.Machine.execNmtResetCommunication node s
  | .usdoRequest client req => Sys2Proof.Machine.execUsdoRequest client req s
  | .heartbeat => Sys2Proof.Machine.execHeartbeat s
  | .tpdoTransmit k => Sys2Proof.Machine.execTpdoTransmit k s
  | .mbxRead fn irqEn tag index sub len => Sys2Proof.Machine.execMbxRead fn irqEn tag index sub len s
  | .mbxWrite fn irqEn tag index sub data => Sys2Proof.Machine.execMbxWrite fn irqEn tag index sub data s
  | .mbxNextEntry fn irqEn tag index sub => Sys2Proof.Machine.execMbxNextEntry fn irqEn tag index sub s
  | .windowOpenRead p w => Sys2Proof.Machine.execWindowOpenRead p w s
  | .windowOpenWrite p w => Sys2Proof.Machine.execWindowOpenWrite p w s
  | .windowDataRead p w len => Sys2Proof.Machine.execWindowDataRead p w len s
  | .windowDataWrite p w data => Sys2Proof.Machine.execWindowDataWrite p w data s
  | .windowCommit p w => Sys2Proof.Machine.execWindowCommit p w s
  | .windowCommitComplete w r => Sys2Proof.Machine.execWindowCommitComplete w r s
  | .windowAbort p w => Sys2Proof.Machine.execWindowAbort p w s
  | .windowIdleTimeout w => Sys2Proof.Machine.execWindowIdleTimeout w s
  | .functionLevelReset fn => Sys2Proof.Machine.execFunctionLevelReset fn s
  | .vfEnableClear => Sys2Proof.Machine.execVfEnableClear s
  | .linkUp speed width vfs => Sys2Proof.Machine.execLinkUp speed width vfs s
  | .linkDown => Sys2Proof.Machine.execLinkDown s
  | .hotReset => Sys2Proof.Machine.execHotReset s
  | .busMasterEnable fn mps mrrs => Sys2Proof.Machine.execBusMasterEnable fn mps mrrs s
  | .queueEnable fn qp regs => Sys2Proof.Machine.execQueueEnable fn qp regs s
  | .queueDisable fn qp => Sys2Proof.Machine.execQueueDisable fn qp s
  | .queueReadyFall fn qp => Sys2Proof.Machine.execQueueReadyFall fn qp s
  | .sqTailDoorbell fn qp value => Sys2Proof.Machine.execSqTailDoorbell fn qp value s
  | .cqHeadDoorbell fn qp value => Sys2Proof.Machine.execCqHeadDoorbell fn qp value s
  | .commandFetch results => Sys2Proof.Machine.execCommandFetch results s
  | .put id elems => Sys2Proof.Machine.execPut id elems s
  | .putApply id r => Sys2Proof.Machine.execPutApply id r s
  | .get id elems eccBad => Sys2Proof.Machine.execGet id elems eccBad s
  | .clean id => Sys2Proof.Machine.execClean id s
  | .drop id => Sys2Proof.Machine.execDrop id s
  | .list id elems => Sys2Proof.Machine.execList id elems s
  | .fence id => Sys2Proof.Machine.execFence id s
  | .fenceComplete id => Sys2Proof.Machine.execFenceComplete id s
  | .segmentRead id elems eccBad => Sys2Proof.Machine.execSegmentRead id elems eccBad s
  | .completionPost fn qp => Sys2Proof.Machine.execCompletionPost fn qp s
  | .irqAggTimer fn qp => Sys2Proof.Machine.execIrqAggTimer fn qp s
  | .ebyteReset p => Sys2Proof.Machine.execEbyteReset p s
  | .channelRemoved c => Sys2Proof.Machine.execChannelRemoved c s
  | .channelConfigWrite p index sub data => Sys2Proof.Machine.execChannelConfigWrite p index sub data s
  | .endOfCharge c => Sys2Proof.Machine.execEndOfCharge c s
  | .prechargeTimeout => Sys2Proof.Machine.execPrechargeTimeout s
  | .chargerOvercurrent c => Sys2Proof.Machine.execChargerOvercurrent c s
  | .chargerStuckOn c => Sys2Proof.Machine.execChargerStuckOn c s
  | .overcharge c => Sys2Proof.Machine.execOvercharge c s
  | .channelClearFault p c => Sys2Proof.Machine.execChannelClearFault p c s
  | .chargeTargetReached c => Sys2Proof.Machine.execChargeTargetReached c s
  | .cellImbalance => Sys2Proof.Machine.execCellImbalance s
  | .inputSag => Sys2Proof.Machine.execInputSag s
  | .sagCleared => Sys2Proof.Machine.execSagCleared s
  | .holdUpFault => Sys2Proof.Machine.execHoldUpFault s
  | .holdUpRecovered => Sys2Proof.Machine.execHoldUpRecovered s
  | .precisionReached => Sys2Proof.Machine.execPrecisionReached s
  | .endOfDischarge c => Sys2Proof.Machine.execEndOfDischarge c s
  | .ocvRelaxed c => Sys2Proof.Machine.execOcvRelaxed c s
  | .impedanceSample c dmv dma => Sys2Proof.Machine.execImpedanceSample c dmv dma s
  | .geyserDue c => Sys2Proof.Machine.execGeyserDue c s
  | .geyserStart c => Sys2Proof.Machine.execGeyserStart c s
  | .geyserRequestStart p c => Sys2Proof.Machine.execGeyserRequestStart p c s
  | .geyserRequestAbort p c => Sys2Proof.Machine.execGeyserRequestAbort p c s
  | .channelReset p c => Sys2Proof.Machine.execChannelReset p c s
  | .snapshotHourly => Sys2Proof.Machine.execSnapshotHourly s
  | .scanSlot reading => Sys2Proof.Machine.execScanSlot reading s
  | .railWarning r => Sys2Proof.Machine.execRailWarning r s
  | .railCleared r => Sys2Proof.Machine.execRailCleared r s
  | .railFaultTime r => Sys2Proof.Machine.execRailFaultTime r s
  | .rampLagTrip g lagMv => Sys2Proof.Machine.execRampLagTrip g lagMv s
  | .rampEnd g lagMv => Sys2Proof.Machine.execRampEnd g lagMv s
  | .rampTimeout g lagMv => Sys2Proof.Machine.execRampTimeout g lagMv s
  | .railGood r => Sys2Proof.Machine.execRailGood r s
  | .railGoodTimeout r => Sys2Proof.Machine.execRailGoodTimeout r s
  | .upStepDelay => Sys2Proof.Machine.execUpStepDelay s
  | .downStepEnd => Sys2Proof.Machine.execDownStepEnd s
  | .downStepTimeout => Sys2Proof.Machine.execDownStepTimeout s
  | .enableGood => Sys2Proof.Machine.execEnableGood s
  | .enableTimeout => Sys2Proof.Machine.execEnableTimeout s
  | .railMask p r v => Sys2Proof.Machine.execRailMask p r v s
  | .railSwitchOff p r => Sys2Proof.Machine.execRailSwitchOff p r s
  | .railSwitchOn p r => Sys2Proof.Machine.execRailSwitchOn p r s
  | .resetRelease k => Sys2Proof.Machine.execResetRelease k s
  | .resetPulse p k => Sys2Proof.Machine.execResetPulse p k s
  | .trimTargetWrite p t v => Sys2Proof.Machine.execTrimTargetWrite p t v s
  | .trimTargetReached t => Sys2Proof.Machine.execTrimTargetReached t s
  | .keepStoreWrite => Sys2Proof.Machine.execKeepStoreWrite s
  | .tremorAdvance => Sys2Proof.Machine.execTremorAdvance s
  | .tremorRelease => Sys2Proof.Machine.execTremorRelease s
  | .tremorLineFall => Sys2Proof.Machine.execTremorLineFall s
  | .tremorReset => Sys2Proof.Machine.execTremorReset s
  | .tremorDownRequest => Sys2Proof.Machine.execTremorDownRequest s
  | .tremorSendDownRequest => Sys2Proof.Machine.execTremorSendDownRequest s
  | .tremorSendReset => Sys2Proof.Machine.execTremorSendReset s
  | .tremorBootHold => Sys2Proof.Machine.execTremorBootHold s
  | .gatherWaiting => Sys2Proof.Machine.execGatherWaiting s
  | .tremorStepTimeout => Sys2Proof.Machine.execTremorStepTimeout s
  | .tremorWireFault => Sys2Proof.Machine.execTremorWireFault s
  | .inputFail => Sys2Proof.Machine.execInputFail s
  | .supervisorLedOutage => Sys2Proof.Machine.execSupervisorLedOutage s
  | .drainPoint => Sys2Proof.Machine.execDrainPoint s
  | .warnWindowEnd => Sys2Proof.Machine.execWarnWindowEnd s
  | .drvactLow k => Sys2Proof.Machine.execDrvactLow k s
  | .driveActiveStuck => Sys2Proof.Machine.execDriveActiveStuck s
  | .driveSettleEnd => Sys2Proof.Machine.execDriveSettleEnd s
  | .sinterDeadlineExpiry => Sys2Proof.Machine.execSinterDeadlineExpiry s
  | .simmerTimerExpiry => Sys2Proof.Machine.execSimmerTimerExpiry s
  | .deadlineAckTimeout => Sys2Proof.Machine.execDeadlineAckTimeout s
  | .sinterCopyComplete energyMj durationMs => Sys2Proof.Machine.execSinterCopyComplete energyMj durationMs s
  | .manifestCommitted => Sys2Proof.Machine.execManifestCommitted s
  | .powerReturn => Sys2Proof.Machine.execPowerReturn s
  | .keepTimeExpiry => Sys2Proof.Machine.execKeepTimeExpiry s
  | .keepFloorReached => Sys2Proof.Machine.execKeepFloorReached s
  | .programFail die => Sys2Proof.Machine.execProgramFail die s
  | .eraseFail die => Sys2Proof.Machine.execEraseFail die s
  | .dieCommandTimeout die => Sys2Proof.Machine.execDieCommandTimeout die s
  | .backgroundErase die => Sys2Proof.Machine.execBackgroundErase die s
  | .imageRelease => Sys2Proof.Machine.execImageRelease s
  | .releaseRequest p => Sys2Proof.Machine.execReleaseRequest p s
  | .dieRetire p die => Sys2Proof.Machine.execDieRetire p die s
  | .dieReturn p die answers => Sys2Proof.Machine.execDieReturn p die answers s
  | .probationBlockVerified die ok => Sys2Proof.Machine.execProbationBlockVerified die ok s
  | .sanitize p v => Sys2Proof.Machine.execSanitize p v s
  | .sanitizeComplete => Sys2Proof.Machine.execSanitizeComplete s
  | .frameStart port vc => Sys2Proof.Machine.execFrameStart port vc s
  | .longPacket port vc dataType data check => Sys2Proof.Machine.execLongPacket port vc dataType data check s
  | .frameEnd port vc => Sys2Proof.Machine.execFrameEnd port vc s
  | .clockLaneLost port => Sys2Proof.Machine.execClockLaneLost port s
  | .clockLaneUp port laneRate => Sys2Proof.Machine.execClockLaneUp port laneRate s
  | .exposureCommit p n => Sys2Proof.Machine.execExposureCommit p n s
  | .exposureClear p n => Sys2Proof.Machine.execExposureClear p n s
  | .cciBurstComplete port => Sys2Proof.Machine.execCciBurstComplete port s
  | .cciNack port => Sys2Proof.Machine.execCciNack port s
  | .cciBusStuck port => Sys2Proof.Machine.execCciBusStuck port s
  | .cciDirectWrite p n => Sys2Proof.Machine.execCciDirectWrite p n s
  | .cciDirectRead p n => Sys2Proof.Machine.execCciDirectRead p n s
  | .tickToleranceExpiry n => Sys2Proof.Machine.execTickToleranceExpiry n s
  | .pixelRowComplete n ringFill r => Sys2Proof.Machine.execPixelRowComplete n ringFill r s
  | .syntaxRingCleared ringFill => Sys2Proof.Machine.execSyntaxRingCleared ringFill s
  | .liveSliceWrite n nal consumer => Sys2Proof.Machine.execLiveSliceWrite n nal consumer s
  | .forceIdr p n => Sys2Proof.Machine.execForceIdr p n s
  | .segmentFlush n => Sys2Proof.Machine.execSegmentFlush n s
  | .decodeOpen p d => Sys2Proof.Machine.execDecodeOpen p d s
  | .decodeClose p d => Sys2Proof.Machine.execDecodeClose p d s
  | .decodeEndOfInput p d => Sys2Proof.Machine.execDecodeEndOfInput p d s
  | .decodePictureOutput d r => Sys2Proof.Machine.execDecodePictureOutput d r s
  | .eventVectorRaise fn => Sys2Proof.Machine.execEventVectorRaise fn s
  | .eventAcknowledge p bank bits => Sys2Proof.Machine.execEventAcknowledge p bank bits s
  | .clearLog p => Sys2Proof.Machine.execClearLog p s
  | .emcyTransmit => Sys2Proof.Machine.execEmcyTransmit s
  | .canErrorPassiveOrBusOff e => Sys2Proof.Machine.execCanErrorPassiveOrBusOff e s
  | .preSinterPageProgrammed => Sys2Proof.Machine.execPreSinterPageProgrammed s
  | .backgroundRestoreRead r => Sys2Proof.Machine.execBackgroundRestoreRead r s
  | .recordingFrameEncoded n nal => Sys2Proof.Machine.execRecordingFrameEncoded n nal s
  | .cciDirectTransferDone n e => Sys2Proof.Machine.execCciDirectTransferDone n e s

end Sys2Proof.Machine
end

