-- ==== Sys2Proof/Safety.lean ====
section
/-! DEFINITION. What holds in every state a run can reach, and the words that statements use: the invariant that every step keeps,
and what an event may change. -/

namespace Sys2Proof.Machine

/-- The invariant: the addressed stores keep their canonical form, so that equal contents are equal data (cache directory 06,
configuration 04, undelivered values 01 R27); the event log, the two early-event stores and the event area of the keep-store copies
keep their bounds (15 R832, R834, R836, R856), as does the EMCY queue (15 R852); the scanner stands at one of its twenty slots
(09 R449). -/
structure Inv (s : State) : Prop where
  slots : mapWf s.cache.slots = true
  handles : mapWf s.cache.handles = true
  values : mapWf s.dict.values = true
  undelivered : mapWf s.isl.undelivered = true
  log : s.ev.log.length ≤ 4096
  heldSup : s.ev.heldSup.length ≤ 16
  heldCtl : s.ev.heldCtl.length ≤ 64
  emcy : s.can.emcy.length ≤ 32
  keepA : s.keep.copyA.body.events.length ≤ 64
  keepB : s.keep.copyB.body.events.length ≤ 64
  scan : s.rails.slot < 20

/-- Raising an event may change the event system, the EMCY queue and its counters, and what is sent out (15): `s` with these of `t`. -/
def withEvents (s t : State) : State :=
  { s with
    ev := t.ev
    can := { s.can with emcy := t.can.emcy, emcyDropped := t.can.emcyDropped, emcyDropSeen := t.can.emcyDropSeen }
    out := t.out }

/-- The functions with the interrupt vectors that wait of `b`, and nothing else of it (05 R204, R219). -/
def withPba (a b : Vector Func 16) : Vector Func 16 := vmapIdx (fun n f => { f with pba := b[n].pba }) a

/-- Serving a request of a session may also change its mailbox, the vector that a completion raises or leaves waiting, and the
holder's idle mark: `s` with these of `t`. -/
def withRequest (s t : State) : State :=
  { withEvents s t with
    mode := { s.mode with expertLast := t.mode.expertLast }
    mbx := t.mbx
    port := { s.port with fns := withPba s.port.fns t.port.fns } }

/-- A source's bit in `Pending` of its bank (15 R827). -/
def pendingBit (s : State) (ev : Nat) : Bool :=
  if h : ev / 64 < 28 then (s.ev.pendingBits[ev / 64]).getLsbD (ev % 64) else false

/-- An occurrence of a source between `s` and `t`: with CONTROL and the log running its pending bit is set (15 R827); before the log
runs it is held, in SUPERVISOR marked early while CONTROL is stopped (02 R67; 15 R834, R835). -/
structure Told (ev : Nat) (s t : State) : Prop where
  logged : controlRuns s = true → s.ev.started = true → evEnabled s ev = true → pendingBit t ev = true
  early : controlRuns s = false → s.ev.heldSup.length < 16 → ∃ r ∈ t.ev.heldSup, r.event = ev ∧ r.early = true
  waits : controlRuns s = true → s.ev.started = false → s.ev.heldCtl.length < 64 → ∃ r ∈ t.ev.heldCtl, r.event = ev

/-- An occurrence of a source between `s` and `t` that enters a running log: its pending bit is set (15 R827). -/
def Logged (ev : Nat) (s t : State) : Prop :=
  controlRuns s = true → s.ev.started = true → evEnabled s ev = true → pendingBit t ev = true

/-- A session's request is taken: its transport serves it now, and no earlier request of it waits (02 R76; 04 R163, R165, R173,
R177). -/
def Reaches (p : Session) (s : State) : Prop :=
  match p with
  | .usdo c => usdoServed s = true ∧ s.can.busy.contains c = false
  | .mailbox fn => mbxReached s fn = true ∧ (s.mbx[fn]).go = false ∧ mbxBusy s = false

/-- A write passes the checks of the dictionary (03 R127; 04 R135 to R145, R195, R197, R199; 01 R29): the entry exists for the
session, may be written by it in the present state, and takes a value of this length and range. -/
def Passes (p : Session) (index sub : Nat) (data : List Byte) (s : State) : Prop :=
  ∃ r, findEntry p index sub s = .ok r ∧ r.acc.mayWrite (classesOf p index) = true ∧
    (r.level = .expert → holdsExpert p s = true) ∧ (romOnly s = true → romServes index = true) ∧
    pathRefuses s r index = false ∧ tenantDisabled s index = false ∧ (r.acc.locked = true → s.mode.lock = true) ∧
    data.length = r.ty.size ∧ rangeCheck s.held r index sub (ofLe data) = none ∧ s.island (s.ownerOf index sub) ≠ .fault

/-- A write of a session that is taken and passes the checks of the dictionary. -/
def Accepts (p : Session) (index sub : Nat) (data : List Byte) (s : State) : Prop :=
  Reaches p s ∧ Passes p index sub data s

/-- An accepted write of a command or a request that the entry's island takes now, and does not store until it runs (01 R24, R27). -/
def Commands (p : Session) (index sub : Nat) (data : List Byte) (s : State) : Prop :=
  Accepts p index sub data s ∧ takesCommand s index sub = true

/-- The request has been answered with an abort code, 0 for success, and data: the latest thing sent to a USDO client, or the
mailbox's registers (04 R154, R166, R171, R174). -/
def Answered (p : Session) (index sub code : Nat) (data : List Byte) (t : State) : Prop :=
  match p with
  | .usdo c => ∃ o, t.out = o ++ [.usdo (0x580 + t.can.node) c index sub code data]
  | .mailbox fn =>
    (t.mbx[fn]).go = false ∧ (t.mbx[fn]).done = true ∧ (t.mbx[fn]).result = (if code = 0 then 0 else 1) ∧
    (code ≠ 0 → (t.mbx[fn]).abort = BitVec.ofNat 32 code) ∧ (t.mbx[fn]).statusLen = BitVec.ofNat 9 data.length ∧
    (t.mbx[fn]).data.take data.length = data

/-- A fetched command may run: its turn has come, its element list could be read, and the checks that every command makes find nothing
(05 R204, R222, R226, R227, R244, R251, R252, R260). -/
structure Runs (o : Op) (id : Nat) (elems : Option (List Element)) (c : Cmd) (s : State) : Prop where
  found : findCmd s id = some c
  kind : cmdIs o .fetched c = true
  turn : mayStart s c = true
  bus : dmaOpen s c.fn = true
  listed : listFails o c elems = false
  checks : commonCheck s o c (elems.getD []) = none

/-- A command has ended with a completion: it is no longer under way, its completion waits last in its queue, and its tenant counts one
more (05 R217). -/
structure Completed (c : Cmd) (x : Completion) (s t : State) : Prop where
  gone : t.port.cmds = s.port.cmds.filter (fun d => d.id != c.id)
  waits : (t.pair c.fn c.qp).waiting = (s.pair c.fn c.qp).waiting ++ [x]
  counted : (t.ten c.fn).completed = (s.ten c.fn).completed + 1

/-- A request that waits for its answer (04 R150, R165, R166). -/
def Waits (p : Session) (t : State) : Prop :=
  match p with
  | .usdo c => c ∈ t.can.busy
  | .mailbox fn => (t.mbx[fn]).go = true

end Sys2Proof.Machine
end

