-- ==== Sys2Proof/WellFormed.lean ====
section
/-! DEFINITION. Which commands can be sent at all: the sizes that the transports, the links and the parts of the machine put on the
operands. Each check has a name. `Machine.exec` gives every command an effect, well-formed or not; a sender sends only well-formed
ones. -/

namespace Sys2Proof

/-- A mailbox request carries at most 256 bytes (04 **Mailbox map**); a USDO request is segmented by CiA 1301. -/
def Session.fits (p : Session) (n : Nat) : Bool :=
  match p with
  | .mailbox _ => decide (n ≤ 256)
  | .usdo _ => true

/-- A DataList has 1 to 256 elements; a command without one has none (05 R222). -/
def elemsFit (es : Option (List Element)) : Bool := es.all (fun l => decide (l.length ≤ 256))

/-- A link trains at Gen1 to Gen3 with 1, 2 or 4 lanes; PF0 offers at most 15 VFs (05 R200). -/
def linkFits (speed width vfs : Nat) : Bool :=
  decide (1 ≤ speed ∧ speed ≤ 3) && (width == 1 || width == 2 || width == 4) && decide (vfs ≤ 15)

/-- A quantizer parameter is at most 51 (14 R791). -/
def CodeResult.fits : CodeResult → Bool
  | .coded _ qp => decide (qp ≤ 51)
  | .saturated => true

/-- A probe reports the sixteen die positions, and the key area has two copies (12 R647, R648). -/
def BootReport.fits : BootReport → Bool
  | .done => true
  | .firmware _ _ _ _ _ _ => true
  | .dram _ => true
  | .flash dies _ _ _ bad => dies.length == 16 && decide (bad ≤ 2)

/-- A CSI-2 long packet carries at most 65,535 bytes (13 R715). -/
def packetFits (data : List Byte) : Bool := decide (data.length ≤ 65535)

/-- One HOST cycle fetches at most four entries (05 R249). -/
def fetchFits (results : List FetchResult) : Bool := decide (results.length ≤ 4)

/-- A clock lane runs at 80 to 1,500 Mbit/s (13 R707). -/
def laneRateFits (rate : Nat) : Bool := decide (80 ≤ rate ∧ rate ≤ 1500)

/-- The fill of the syntax ring is in ‰ (14 R775). -/
def fillFits (n : Nat) : Bool := decide (n ≤ 1000)

/-- The checks put on each command; the types of the other commands' operands already say all there is to check. -/
def Instr.wf : Instr → Bool
  | .dictionaryWrite p _ _ data => p.fits data.length
  | .islandHandshakeTimeout p _ _ data => p.fits data.length
  | .channelConfigWrite p _ _ data => p.fits data.length
  | .usdoRequest _ _ => true
  | .mbxRead _ _ _ _ _ len => decide (len.toNat ≤ 256)
  | .mbxWrite _ _ _ _ _ data => decide (data.length ≤ 256)
  | .windowDataRead p _ len => p.fits len
  | .windowDataWrite p _ data => p.fits data.length
  | .bootStepComplete r => r.fits
  | .linkUp speed width vfs => linkFits speed width vfs
  | .commandFetch rs => fetchFits rs
  | .put _ es => elemsFit es
  | .get _ es _ => elemsFit es
  | .list _ es => elemsFit es
  | .segmentRead _ es _ => elemsFit es
  | .longPacket _ _ _ data _ => packetFits data
  | .pixelRowComplete _ fill r => fillFits fill && r.fits
  | .syntaxRingCleared fill => fillFits fill
  | .clockLaneUp _ rate => laneRateFits rate
  | .islandRestart .. | .egPublication | .estimatorStale | .crystalFail | .wallClockWrite .. | .sample .. | .vkeepCollapse ..
  | .vkeepRise .. | .wake | .bootStepTimeout | .inputQualifyTimeout | .firmwareRestart .. | .coldRestart .. | .clearHalt ..
  | .sleepRequest .. | .watchdogExpiry | .trialConfirm | .restoreProgressUpdate | .restoreComplete | .onDemandFetchComplete ..
  | .encryptionWrite .. | .expertOpen .. | .expertClose .. | .expertIdleTimeout | .expertLockoutEnd | .expertCodeWrite ..
  | .configLockWrite .. | .storeAll .. | .storeCommunication .. | .storeApplication .. | .storeComplete ..
  | .restoreDefaultsAll .. | .nmtStart .. | .nmtStop .. | .nmtEnterPreOperational .. | .nmtResetNode ..
  | .nmtResetCommunication .. | .heartbeat | .tpdoTransmit .. | .mbxNextEntry .. | .windowOpenRead .. | .windowOpenWrite ..
  | .windowCommit .. | .windowCommitComplete .. | .windowAbort .. | .windowIdleTimeout .. | .functionLevelReset ..
  | .vfEnableClear | .linkDown | .hotReset | .busMasterEnable .. | .queueEnable .. | .queueDisable .. | .queueReadyFall ..
  | .sqTailDoorbell .. | .cqHeadDoorbell .. | .putApply .. | .clean .. | .drop .. | .fence .. | .fenceComplete ..
  | .completionPost .. | .irqAggTimer .. | .ebyteReset .. | .channelRemoved .. | .endOfCharge .. | .prechargeTimeout
  | .chargerOvercurrent .. | .chargerStuckOn .. | .overcharge .. | .channelClearFault .. | .chargeTargetReached ..
  | .cellImbalance | .inputSag | .sagCleared | .holdUpFault | .holdUpRecovered | .precisionReached | .endOfDischarge ..
  | .ocvRelaxed .. | .impedanceSample .. | .geyserDue .. | .geyserStart .. | .geyserRequestStart .. | .geyserRequestAbort ..
  | .channelReset .. | .snapshotHourly | .scanSlot .. | .railWarning .. | .railCleared .. | .railFaultTime .. | .rampLagTrip ..
  | .rampEnd .. | .rampTimeout .. | .railGood .. | .railGoodTimeout .. | .upStepDelay | .downStepEnd | .downStepTimeout
  | .enableGood | .enableTimeout | .railMask .. | .railSwitchOff .. | .railSwitchOn .. | .resetRelease .. | .resetPulse ..
  | .trimTargetWrite .. | .trimTargetReached .. | .keepStoreWrite | .tremorAdvance | .tremorRelease | .tremorLineFall
  | .tremorReset | .tremorDownRequest | .tremorSendDownRequest | .tremorSendReset | .tremorBootHold | .gatherWaiting
  | .tremorStepTimeout | .tremorWireFault | .inputFail | .supervisorLedOutage | .drainPoint | .warnWindowEnd | .drvactLow ..
  | .driveActiveStuck | .driveSettleEnd | .sinterDeadlineExpiry | .simmerTimerExpiry | .deadlineAckTimeout
  | .sinterCopyComplete .. | .manifestCommitted | .powerReturn | .keepTimeExpiry | .keepFloorReached | .programFail ..
  | .eraseFail .. | .dieCommandTimeout .. | .backgroundErase .. | .imageRelease | .releaseRequest .. | .dieRetire ..
  | .dieReturn .. | .probationBlockVerified .. | .sanitize .. | .sanitizeComplete | .frameStart .. | .frameEnd ..
  | .clockLaneLost .. | .recordingFrameEncoded .. | .exposureCommit .. | .exposureClear .. | .cciBurstComplete .. | .cciNack ..
  | .cciBusStuck .. | .cciDirectWrite .. | .cciDirectRead .. | .tickToleranceExpiry .. | .liveSliceWrite .. | .forceIdr ..
  | .segmentFlush .. | .decodeOpen .. | .decodeClose .. | .decodeEndOfInput .. | .decodePictureOutput .. | .eventVectorRaise ..
  | .eventAcknowledge .. | .clearLog .. | .emcyTransmit | .canErrorPassiveOrBusOff .. | .preSinterPageProgrammed
  | .backgroundRestoreRead .. | .cciDirectTransferDone .. => true

end Sys2Proof
end

