-- ==== Sys2Proof/Certificates/Slice0/Obligations.lean ====
section
/-! DEFINITION. The statements for the provers, by the families of the commands. -/

open Sys2Proof Sys2Proof.Machine

/-! ### Requests of sessions -/

/-- FIRMWARE_RESTART, COLD_RESTART, CLEAR_HALT and SLEEP_REQUEST (02 R65, R75, R103, R108): what an accepted request starts in the state
that allows it, unless a condition of higher rank waits in the same cycle (log 118), and its refusal elsewhere, which changes nothing but
the refusal counters and raises EV-0073. -/
def Obligations.LifeCycleRequests : Prop :=
  (∀ p s, Accepts p 0x2011 1 (leBytes 1 1) s → s.life.dev = .serve ∨ s.life.dev = .restore → outranked 1 s = false →
    ∃ t, exec (.firmwareRestart p) s = .next t ∧ t.life.dev = .boot ∧ t.life.boot = .warm s.life.dev ∧ t.life.resetCause = 3 ∧
      t.life.warmBoot = true ∧ t.life.bootCount = s.life.bootCount + 1 ∧ t.time.timeBase = 0 ∧ t.mode.lock = false ∧
      t.mode.expert = none ∧ Answered p 0x2011 1 0 [] t) ∧
  (∀ p s, Accepts p 0x2011 1 (leBytes 1 2) s → s.life.dev = .serve → (∀ q ∈ s.cache.slots, q.2.dirty = false) → outranked 1 s = false →
    ∃ t, exec (.coldRestart p) s = .next t ∧ Answered p 0x2011 1 0 [] t ∧
      (t.life.dev = .serve ∧ t.life.afterDown = 2 ∨
        t.life.dev = .boot ∧ t.life.boot = .cold ∧ t.life.resetCause = 5 ∧ t.cache.slots = [])) ∧
  (∀ p s, Accepts p 0x2011 1 (leBytes 1 4) s → s.life.dev = .serve → (∀ q ∈ s.cache.slots, q.2.dirty = false) → outranked 1 s = false →
    ∃ t, exec (.sleepRequest p) s = .next t ∧ Answered p 0x2011 1 0 [] t ∧
      (t.life.dev = .serve ∧ t.life.afterDown = 4 ∨ t.life.dev = .sleep ∧ t.time.wallSet = false ∨
        s.life.wakeHeld = true ∧ t.life.dev = .boot ∧ t.life.resetCause = 1)) ∧
  (∀ p s, Accepts p 0x2011 1 (leBytes 1 3) s → s.life.dev = .halt → outranked 1 s = false →
    ∃ t, exec (.clearHalt p) s = .next t ∧ Answered p 0x2011 1 0 [] t ∧
      (t.life.dev = .halt ∧ t.life.afterDown = 6 ∧ t.life.haltRepeat = 0 ∧ t.rails.latched = false ∧ t.rails.fault.kind = 0 ∨
        t.life.dev = .boot ∧ t.life.boot = .cold ∧ t.life.resetCause = 6)) ∧
  (∀ p s v c, (v, c) ∈ [(1, Instr.firmwareRestart p), (2, .coldRestart p), (3, .clearHalt p), (4, .sleepRequest p)] →
    Accepts p 0x2011 1 (leBytes 1 v) s → s.life.dev ∉ [DevState.serve, .restore, .halt] ∨ outranked 1 s = true →
    ∃ t, exec c s = .next t ∧ Answered p 0x2011 1 0x08000022 [] t ∧ Told 73 s t ∧
      t = { withRequest s t with dict := { s.dict with refusedMbx := t.dict.refusedMbx, refusedUsdo := t.dict.refusedUsdo } })

/-- STORE_ALL, STORE_COMMUNICATION, STORE_APPLICATION, STORE_COMPLETE and RESTORE_DEFAULTS_ALL (04 R146 to R151): a store with the
signature starts and waits, its end writes a copy that is then in use, answers and then raises its event, and a restore marks the copy
in use void and leaves the values in force. -/
def Obligations.StoreAndRestore : Prop :=
  (∀ p s sub k c, (sub, k, c) ∈ [(1, StoreKind.all, Instr.storeAll p 0x65766173), (2, .communication, .storeCommunication p 0x65766173),
      (3, .application, .storeApplication p 0x65766173)] →
    Accepts p 0x1010 sub (leBytes 4 0x65766173) s → s.nor.storing = none → ¬(s.life.dev = .halt ∧ s.life.haltCause = 1) →
    ∃ t, exec c s = .next t ∧ Waits p t ∧
      t = { withRequest { s with nor := { s.nor with storing := some (k, p), storeState := 1 } } t with
        can := { s.can with busy := t.can.busy } }) ∧
  (∀ p s sub c, ∀ sig : BitVec 32, (sub, c) ∈ [(1, Instr.storeAll p sig), (2, .storeCommunication p sig), (3, .storeApplication p sig)] →
    Accepts p 0x1010 sub (leBytes 4 sig.toNat) s → sig ≠ 0x65766173 →
    ∃ t, exec c s = .next t ∧ Answered p 0x1010 sub 0x08000020 [] t ∧
      t = { withRequest s t with dict := { s.dict with refusedMbx := t.dict.refusedMbx, refusedUsdo := t.dict.refusedUsdo } }) ∧
  (∀ s k p, s.nor.storing = some (k, p) →
    ∃ t, exec (.storeComplete true) s = .next t ∧ t.nor.storing = none ∧ t.nor.storeState = 2 ∧ t.nor.storeCount = s.nor.storeCount + 1 ∧
      Told 16 s t ∧ t.keep.pending = true ∧ t.dict.values = s.dict.values ∧
      (∃ c, storedCopy t.nor = some c ∧ c.void = false ∧ c.values = savedValues k s) ∧
      (Waits p s → ∃ u, Answered p 0x1010 (match k with | .all => 1 | .communication => 2 | .application => 3) 0 [] u ∧
        t = raise u 16 .control [])) ∧
  (∀ s k p, s.nor.storing = some (k, p) →
    ∃ t, exec (.storeComplete false) s = .next t ∧ t.nor.storing = none ∧ t.nor.storeState = 3 ∧ t.nor.storeCount = s.nor.storeCount ∧
      Told 17 s t ∧ t.dict.values = s.dict.values ∧
      (∀ c, storedCopy s.nor = some c → storedCopy t.nor = some c) ∧
      (Waits p s → ∃ u, Answered p 0x1010 (match k with | .all => 1 | .communication => 2 | .application => 3) 0x08000020 [] u ∧
        t = raise u 17 .control [])) ∧
  (∀ p s, Accepts p 0x1011 1 (leBytes 4 0x64616F6C) s →
    ∃ t, exec (.restoreDefaultsAll p 0x64616F6C) s = .next t ∧ Answered p 0x1011 1 0 [] t ∧
      t = withRequest { s with nor := t.nor } t ∧ ∀ c, storedCopy s.nor = some c → storedCopy t.nor = some { c with void := true })

/-- EXPERT_OPEN, EXPERT_CLOSE, EXPERT_IDLE_TIMEOUT and EXPERT_LOCKOUT_END (03 R123 to R129; 04 R161): the session opens for its
requester, closes by its holder or after its idle time, and an attempt during the lockout or while it is open is refused.
ENCRYPTION_WRITE, EXPERT_CODE_WRITE and CONFIG_LOCK_WRITE (03 R119; 04 R143, R144, R159, R160): the value is held, and the lock
opens and closes with EV-0015; nothing else changes. -/
def Obligations.ExpertAndModeWrites : Prop :=
  (∀ p code s, Accepts p 0x2021 1 (leBytes 4 code.toNat) s → s.mode.expert = none → s.mode.lockoutEnd = none →
    (∀ fn, p = .mailbox fn → hostAttach s.port ≠ 1) → s.held 0x2F00 1 = 0 ∨ code.toNat = s.held 0x2F00 1 →
    ∃ t, exec (.expertOpen p code) s = .next t ∧ Answered p 0x2021 1 0 [] t ∧ Told 12 s t ∧
      t.mode.expert = some p ∧ t.mode.expertLast = s.time.now ∧ t = withRequest { s with mode := { s.mode with expert := some p } } t) ∧
  (∀ p code s, Accepts p 0x2021 1 (leBytes 4 code.toNat) s → holdsExpert p s = false → s.mode.lockoutEnd.isSome = true →
    ∃ t, exec (.expertOpen p code) s = .next t ∧ Answered p 0x2021 1 0x08000022 [] t ∧ Told 14 s t ∧
      t = { withRequest s t with dict := { s.dict with refusedMbx := t.dict.refusedMbx, refusedUsdo := t.dict.refusedUsdo } }) ∧
  (∀ p code s, Accepts p 0x2021 1 (leBytes 4 code.toNat) s → s.mode.expert = none → s.mode.lockoutEnd = none →
    (∀ fn, p = .mailbox fn → hostAttach s.port ≠ 1) → s.held 0x2F00 1 ≠ 0 → code.toNat ≠ s.held 0x2F00 1 →
    ∃ t, exec (.expertOpen p code) s = .next t ∧ Answered p 0x2021 1 0x08000020 [] t ∧ Told 14 s t ∧ t.mode.expert = none) ∧
  (∀ p s, Accepts p 0x2021 1 (leBytes 4 0) s → holdsExpert p s = true →
    ∃ t, exec (.expertClose p) s = .next t ∧ Answered p 0x2021 1 0 [] t ∧ Told 13 s t ∧
      t = withRequest { s with mode := { s.mode with expert := none } } t) ∧
  (∀ p s, s.mode.expert = some p → s.mode.expertLast + s.cfg 0x2021 3 * 1000000 ≤ s.time.now →
    ∃ t, exec .expertIdleTimeout s = .next t ∧ Told 13 s t ∧ t = withEvents { s with mode := { s.mode with expert := none } } t) ∧
  (∀ s e, s.mode.lockoutEnd = some e → e ≤ s.time.now →
    exec .expertLockoutEnd s = .next { s with mode := { s.mode with lockoutEnd := none } }) ∧
  (∀ p v s, Accepts p 0x2020 6 (leBytes 1 v.toNat) s → (∀ q ∈ s.cache.slots, q.2.dirty = false) → imageHoldsDirty s.flash = false →
    ∃ t, exec (.encryptionWrite p v) s = .next t ∧ Answered p 0x2020 6 0 [] t ∧ t = withRequest (s.setHeld 0x2020 6 v.toNat) t) ∧
  (∀ p v s, Accepts p 0x2020 6 (leBytes 1 v.toNat) s → v.toNat ≠ s.cfg 0x2020 6 → (∃ q ∈ s.cache.slots, q.2.dirty = true) →
    ∃ t, exec (.encryptionWrite p v) s = .next t ∧ Answered p 0x2020 6 0x08000022 [] t ∧ Told 11 s t ∧
      t = { withRequest s t with dict := { s.dict with refusedMbx := t.dict.refusedMbx, refusedUsdo := t.dict.refusedUsdo } }) ∧
  (∀ p code s, Accepts p 0x2F00 1 (leBytes 4 code.toNat) s →
    ∃ t, exec (.expertCodeWrite p code) s = .next t ∧ Answered p 0x2F00 1 0 [] t ∧ t = withRequest (s.setHeld 0x2F00 1 code.toNat) t) ∧
  (∀ p s, ∀ v : Byte, Accepts p 0x2030 1 (leBytes 1 v.toNat) s → s.mode.lock = decide (v = 0) →
    ∃ t, exec (.configLockWrite p v) s = .next t ∧ Answered p 0x2030 1 0 [] t ∧ Told 15 s t ∧
      t = withRequest { s with mode := { s.mode with lock := decide (v ≠ 0) } } t)

/-- DICTIONARY_WRITE and CHANNEL_CONFIG_WRITE of an entry that only holds a value (01 R23, R24; 04 R141; 07 R340): the value is held
and in force, and it is answered; a channel whose configuration is written counts as not fitted until a sample detects it. A command
of a stopped island is stored in CONTROL and answered at once (01 R27; log 67). -/
def Obligations.ValueWrites : Prop :=
  (∀ p index sub data s, Accepts p index.toNat sub.toNat data s → winOf index.toNat = none →
    (∀ u, actionOf p u index.toNat sub.toNat (ofLe data) s = none) → chapterCheck p index.toNat sub.toNat (ofLe data) s = none →
    overBudget index.toNat sub.toNat (ofLe data) s = false → s.island (s.ownerOf index.toNat sub.toNat) = .running →
    ∃ t, exec (.dictionaryWrite p index sub data) s = .next t ∧ Answered p index.toNat sub.toNat 0 [] t ∧
      t.dict.values = putValue s.dict.values index.toNat sub.toNat (valueHeld index.toNat sub.toNat (ofLe data)) ∧
      t.isl = s.isl ∧ t.life = s.life ∧ t.time = s.time ∧ t.keep = s.keep ∧ t.nor = s.nor ∧ t.tremor = s.tremor ∧
      t.port = { s.port with fns := withPba s.port.fns t.port.fns }) ∧
  (∀ p index sub data s, isChannelConfig index.toNat sub.toNat = true → Accepts p index.toNat sub.toNat data s →
    s.island .supervisor = .running →
    ∃ t, exec (.channelConfigWrite p index sub data) s = .next t ∧ Answered p index.toNat sub.toNat 0 [] t ∧
      t.dict.values = putValue s.dict.values index.toNat sub.toNat (ofLe data) ∧
      (index = 0x2500 → sub.toNat ≤ 0x0B → t.pack.fitted = false) ∧ (index = 0x2580 → t.bank.fitted = false) ∧
      t.isl = s.isl ∧ t.life = s.life ∧ t.time = s.time ∧ t.cache = s.cache ∧ t.flash = s.flash ∧ t.video = s.video) ∧
  (∀ p s c, ∀ index : BitVec 16, ∀ sub v : BitVec 8,
    (c, index, sub, v) ∈ [(Instr.channelClearFault p .pack, (0x2500, 0x0D, 1)), (.channelClearFault p .bank, (0x2580, 0x0A, 1)),
      (.railMask p 0 1, (0x2610, 0x10, 1)), (.resetPulse p 0, (0x2730, 3, 1)), (.releaseRequest p, (0x2901, 0x0A, 1)),
      (.forceIdr p 0, (0x4040, 0x0C, 1)), (.dictionaryWrite p index sub [v], (0x2610, 0x10, 0))] →
    Accepts p index.toNat sub.toNat [v] s → takesCommand s index.toNat sub.toNat = false →
    ∃ t, exec c s = .next t ∧ Answered p index.toNat sub.toNat 0 [] t ∧
      t = withRequest { s with isl := { s.isl with waiting := s.isl.waiting ++ [(key index.toNat sub.toNat, v.toNat)] } } t)

/-- ISLAND_HANDSHAKE_TIMEOUT of a CAPTURE, PIXEL or ENTROPY island (01 R27, R28): CONTROL keeps the value, the island keeps its own and
goes to fault, and the request answers 0F00_0002; a command is kept in CONTROL likewise. Of another island in service a warm BOOT
follows, and at a second timeout within 10 min the outage path of a fatal fault (R30, R31). -/
def Obligations.HandshakeTimeouts : Prop :=
  (∀ p index sub data s, Accepts p index.toNat sub.toNat data s →
    s.ownerOf index.toNat sub.toNat ∉ [Island.control, .supervisor, .host, .memory, .flash] →
    s.island (s.ownerOf index.toNat sub.toNat) = .running → (dictWrite p index.toNat sub.toNat data s).2 = .ok →
    (∀ u, actionOf p u index.toNat sub.toNat (ofLe data) s = none) →
    ∃ t, exec (.islandHandshakeTimeout p index sub data) s = .next t ∧ t.island (s.ownerOf index.toNat sub.toNat) = .fault ∧
      Answered p index.toNat sub.toNat 0x0F000002 [] t ∧
      t.dict.values = putValue s.dict.values index.toNat sub.toNat (valueHeld index.toNat sub.toNat (ofLe data)) ∧
      (mapFind s.isl.undelivered (key index.toNat sub.toNat) = none →
        t.isl.undelivered = mapSet s.isl.undelivered (key index.toNat sub.toNat) (s.held index.toNat sub.toNat)) ∧
      t.life = s.life ∧ t.cache = s.cache ∧ t.rails = s.rails) ∧
  (∀ p (n : Fin 16) s, let index : BitVec 16 := BitVec.ofNat 16 (0x4040 + 0x100 * n.val)
    Accepts p index.toNat 0x0C [1] s → s.island .pixel = .running →
    ∃ t, exec (.islandHandshakeTimeout p index 0x0C [1]) s = .next t ∧ t.island .pixel = .fault ∧
      Answered p index.toNat 0x0C 0x0F000002 [] t ∧ t.dict.values = s.dict.values ∧
      t.isl.waiting = s.isl.waiting ++ [(key index.toNat 0x0C, 1)] ∧ t.life = s.life ∧ t.cache = s.cache ∧ t.rails = s.rails) ∧
  (∀ p index sub data s, Accepts p index.toNat sub.toNat data s →
    s.ownerOf index.toNat sub.toNat ∈ [Island.supervisor, .host, .memory, .flash] →
    s.island (s.ownerOf index.toNat sub.toNat) = .running → (dictWrite p index.toNat sub.toNat data s).2 = .ok →
    s.life.dev = .serve →
    ∃ t, exec (.islandHandshakeTimeout p index sub data) s = .next t ∧
      ((∀ e, s.isl.lastTimeout[(s.ownerOf index.toNat sub.toNat).idx] = some e → e + 600000000 ≤ s.time.now) →
        t.life.dev = .boot ∧ t.life.boot = .warm .serve) ∧
      ((∃ e, s.isl.lastTimeout[(s.ownerOf index.toNat sub.toNat).idx] = some e ∧ s.time.now < e + 600000000) →
        t.life.dev = .warn ∧ t.life.fatalPath = true))

/-- EBYTE_RESET, CHANNEL_CLEAR_FAULT and CHANNEL_RESET (06 R323; 07 R361; 08 R447): e_byte is 6,000 again, a channel's fault is cleared,
a channel's learned values are gone and a Geyser cycle is due; the keep store is to be written.
GEYSER_REQUEST_START and GEYSER_REQUEST_ABORT (08 R418, R422, R423): a cycle that may start begins its assisted discharge, one that
may not is refused, and a running one is aborted and due again after 24 h of powered time. -/
def Obligations.ChannelRequests : Prop :=
  (∀ p s, Accepts p 0x2420 5 (leBytes 1 1) s →
    ∃ t, exec (.ebyteReset p) s = .next t ∧ Answered p 0x2420 5 0 [] t ∧
      t = withRequest { s with adm := { s.adm with eByte := 6000 }, keep := { s.keep with pending := true } } t) ∧
  (∀ p c s index sub, (c, index, sub) ∈ [(Channel.pack, 0x2500, 0x0D), (.bank, 0x2580, 0x0A)] → Commands p index sub (leBytes 1 1) s →
    ∃ t, exec (.channelClearFault p c) s = .next t ∧ Answered p index sub 0 [] t ∧ (t.chan c).fault = 0 ∧
      (t.chan c.other).fault = (s.chan c.other).fault ∧
      t = withRequest { s with pack := t.pack, bank := t.bank, keep := { s.keep with pending := true } } t) ∧
  (∀ p c s index, (c, index) ∈ [(Channel.pack, 0x2511), (.bank, 0x2591)] → Accepts p index 0x0A (leBytes 1 1) s →
    ∃ t, exec (.channelReset p c) s = .next t ∧ Answered p index 0x0A 0 [] t ∧ Told (chanEv c 156) s t ∧
      t = withRequest ({ s with keep := { s.keep with pending := true } }.setEst c { s.est c with
        fcc := none, learnedAt := none, cycles := 0, cycleRest := 0, impedance := [], history := [], quarantined := 0
        quarantines := 0, geyser := if geyserRuns (s.est c) then (s.est c).geyser else .due, geyserAfter := 0 }) t) ∧
  (∀ p c s index, (c, index) ∈ [(Channel.pack, 0x2511), (.bank, 0x2591)] → Accepts p index 7 (leBytes 1 1) s →
    geyserMayStart s c = true →
    ∃ t, exec (.geyserRequestStart p c) s = .next t ∧ Answered p index 7 0 [] t ∧ (t.est c).geyser = .discharging ∧
      t.hold.assist = some c ∧ t.est c.other = s.est c.other ∧ t.life = s.life ∧ t.rails = s.rails ∧ t.cache = s.cache ∧
      t.dict = s.dict) ∧
  (∀ p c s index, (c, index) ∈ [(Channel.pack, 0x2511), (.bank, 0x2591)] → Accepts p index 7 (leBytes 1 1) s →
    geyserMayStart s c = false →
    ∃ t, exec (.geyserRequestStart p c) s = .next t ∧ Answered p index 7 0x08000022 [] t ∧
      t = { withRequest s t with dict := { s.dict with refusedMbx := t.dict.refusedMbx, refusedUsdo := t.dict.refusedUsdo } }) ∧
  (∀ p c s index, (c, index) ∈ [(Channel.pack, 0x2511), (.bank, 0x2591)] → Accepts p index 7 (leBytes 1 2) s →
    geyserRuns (s.est c) = true →
    ∃ t, exec (.geyserRequestAbort p c) s = .next t ∧ Answered p index 7 0 [] t ∧ (t.est c).geyser = .idle ∧
      (t.est c).geyserAfter = s.poweredSec + 86400 ∧ t.est c.other = s.est c.other ∧ t.life = s.life ∧ t.cache = s.cache ∧
      t.dict = s.dict)

/-- RAIL_MASK, RAIL_SWITCH_OFF and RAIL_SWITCH_ON (09 R499 to R504): a mask is set or cleared with EV-0309; a switched rail goes off with
its resets, or ramps again, in SERVE, RESTORE and HALT, and is refused elsewhere; nothing but the rails changes.
RESET_PULSE and TRIM_TARGET_WRITE (09 R509, R514, R516): a reset that is not low for its rail starts its stretch, and a trim slews
from its present code to the target; the trim that the assist uses is refused. -/
def Obligations.RailAndTrimRequests : Prop :=
  (∀ p r s, ∀ v : Byte, Commands p (0x2610 + r.val) 0x10 (leBytes 1 v.toNat) s → (s.rl r).mask ≠ decide (v = 1) →
    ∃ t, exec (.railMask p r v) s = .next t ∧ Answered p (0x2610 + r.val) 0x10 0 [] t ∧ (t.rl r).mask = decide (v = 1) ∧
      Told 309 s t ∧ (∀ q, q ≠ r → t.rl q = s.rl q) ∧ t = withRequest { s with rails := { s.rails with rail := t.rails.rail } } t) ∧
  (∀ p r s, Commands p (0x2610 + r.val) 0x11 (leBytes 1 0) s → s.gated r = true → s.life.dev ∈ [DevState.serve, .restore, .halt] →
    ∃ t, exec (.railSwitchOff p r) s = .next t ∧ Answered p (0x2610 + r.val) 0x11 0 [] t ∧ (t.rl r).status = .off ∧
      (t.rl r).offBy = .command ∧ t.driven r = false ∧
      (s.driven r = true → (t.rl r).falling = true ∧ ∀ k, s.resetOf k r = true → t.rails.rst[k] = .asserted) ∧
      (∀ q, q ≠ r → t.rl q = s.rl q) ∧
      t = withRequest { s with rails := { s.rails with rail := t.rails.rail, gate := t.rails.gate, rst := t.rails.rst } } t) ∧
  (∀ p r s, Commands p (0x2610 + r.val) 0x11 (leBytes 1 1) s → s.gated r = true → s.life.dev ∈ [DevState.serve, .restore, .halt] →
    s.driven r = false →
    ∃ t, exec (.railSwitchOn p r) s = .next t ∧ Answered p (0x2610 + r.val) 0x11 0 [] t ∧ (t.rl r).status = .ramping ∧
      t.rails.gate[s.gateOf r] = ⟨.ramping, true, 0⟩ ∧ (∀ q, q ≠ r → t.rl q = s.rl q) ∧
      (∀ g, g ≠ s.gateOf r → t.rails.gate[g] = s.rails.gate[g]) ∧
      t = withRequest { s with rails := { s.rails with rail := t.rails.rail, gate := t.rails.gate } } t) ∧
  (∀ p r s v c, (v, c) ∈ [(0, Instr.railSwitchOff p r), (1, .railSwitchOn p r)] → Accepts p (0x2610 + r.val) 0x11 (leBytes 1 v) s →
    s.gated r = false ∨ s.life.dev ∉ [DevState.serve, .restore, .halt] →
    ∃ t, exec c s = .next t ∧ Answered p (0x2610 + r.val) 0x11 0x08000022 [] t ∧
      t = { withRequest s t with dict := { s.dict with refusedMbx := t.dict.refusedMbx, refusedUsdo := t.dict.refusedUsdo } }) ∧
  (∀ p k s, Commands p (0x2730 + k.val) 3 (leBytes 1 1) s →
    ∃ t, exec (.resetPulse p k) s = .next t ∧ Answered p (0x2730 + k.val) 3 0 [] t ∧
      t.rails.rst[k] = (if s.rails.rst[k] = .asserted then .asserted else .stretching) ∧
      (∀ j, j ≠ k → t.rails.rst[j] = s.rails.rst[j]) ∧ t = withRequest { s with rails := { s.rails with rst := t.rails.rst } } t) ∧
  (∀ p k v s, Accepts p (0x2720 + k.val) 1 (leBytes 2 v.toNat) s → s.held 0x2570 4 ≠ k.val → s.island .supervisor = .running →
    mapFind s.isl.undelivered (key (0x2720 + k.val) 1) = none →
    ∃ t, exec (.trimTargetWrite p k v) s = .next t ∧ Answered p (0x2720 + k.val) 1 0 [] t ∧
      t.rails.trim[k].target = v.toNat ∧ t.rails.trim[k].slewAt = s.time.now ∧
      t.dict.values = putValue s.dict.values (0x2720 + k.val) 1 v.toNat ∧
      (∀ j, j ≠ k → t.rails.trim[j] = s.rails.trim[j]) ∧
      t = withRequest { s with dict := t.dict, rails := { s.rails with trim := t.rails.trim } } t) ∧
  (∀ p k v s, Accepts p (0x2720 + k.val) 1 (leBytes 2 v.toNat) s → s.held 0x2570 4 = k.val →
    ∃ t, exec (.trimTargetWrite p k v) s = .next t ∧ Answered p (0x2720 + k.val) 1 0x08000022 [] t ∧
      t = { withRequest s t with dict := { s.dict with refusedMbx := t.dict.refusedMbx, refusedUsdo := t.dict.refusedUsdo } })

/-- RELEASE_REQUEST, DIE_RETIRE and DIE_RETURN (12 R689, R692, R696): a release is wanted if there is an image; an active die is retired with cause 5; a retired
die that answers in SERVE starts its probation, and is refused otherwise.
SANITIZE (12 R704 to R706): in SERVE no slot of a named tenant is left, and the sanitize runs; where it is not allowed it is refused. -/
def Obligations.FlashAndSanitizeRequests : Prop :=
  (∀ p s, Commands p 0x2901 0x0A (leBytes 1 1) s →
    ∃ t, exec (.releaseRequest p) s = .next t ∧ Answered p 0x2901 0x0A 0 [] t ∧
      t = withRequest { s with flash := { s.flash with releaseWanted := imageToRelease s.flash } } t) ∧
  (∀ p d s, Commands p (0x2910 + d.val) 2 (leBytes 1 1) s → s.flash.die[d].state = .active →
    ∃ t, exec (.dieRetire p d) s = .next t ∧ Answered p (0x2910 + d.val) 2 0 [] t ∧ Told (576 + d.val) s t ∧
      t.flash.die[d].state = .retired ∧ t.flash.die[d].cause = 5 ∧ t.flash.die[d].retiredInTable = true ∧
      t.life = s.life ∧ t.rails = s.rails ∧ t.dict = s.dict) ∧
  (∀ p d s, Accepts p (0x2910 + d.val) 2 (leBytes 1 1) s → s.flash.die[d].state ∉ [DieRun.active, .probation] →
    ∃ t, exec (.dieRetire p d) s = .next t ∧ Answered p (0x2910 + d.val) 2 0x08000022 [] t ∧
      t = { withRequest s t with dict := { s.dict with refusedMbx := t.dict.refusedMbx, refusedUsdo := t.dict.refusedUsdo } }) ∧
  (∀ p d s, Commands p (0x2910 + d.val) 2 (leBytes 1 2) s → s.flash.die[d].state = .retired → s.life.dev = .serve →
    ∃ t, exec (.dieReturn p d true) s = .next t ∧ Answered p (0x2910 + d.val) 2 0 [] t ∧ Told (592 + d.val) s t ∧
      t.flash.die[d].state = .probation ∧ t.flash.die[d].verified = 0 ∧ (∀ e, e ≠ d → t.flash.die[e] = s.flash.die[e]) ∧
      t = withRequest { s with flash := { s.flash with die := t.flash.die } } t) ∧
  (∀ p d a s, Accepts p (0x2910 + d.val) 2 (leBytes 1 2) s →
    s.flash.die[d].state ≠ .retired ∨ s.life.dev ≠ .serve ∨ a = false →
    ∃ t, exec (.dieReturn p d a) s = .next t ∧ Answered p (0x2910 + d.val) 2 0x08000022 [] t ∧
      t = { withRequest s t with dict := { s.dict with refusedMbx := t.dict.refusedMbx, refusedUsdo := t.dict.refusedUsdo } }) ∧
  (∀ p s, ∀ v : Byte, Accepts p 0x2F10 1 (leBytes 1 v.toNat) s → s.life.dev = .serve →
    ∃ t, exec (.sanitize p v) s = .next t ∧ Answered p 0x2F10 1 0 [] t ∧ Told 522 s t ∧ t.flash.sanitizeState = 1 ∧
      t.flash.sanitizeKeys = decide (s.cfg 0x2020 6 = 1) ∧
      (∀ q ∈ t.cache.slots, v ≠ 0xFF ∧ v.toNat ≠ q.2.tenant.val) ∧ t.life = s.life ∧ t.rails = s.rails ∧ t.dict = s.dict) ∧
  (∀ p s, ∀ v : Byte, Accepts p 0x2F10 1 (leBytes 1 v.toNat) s → s.life.dev ≠ .serve →
    s.life.dev ≠ .restore ∨ s.cfg 0x2020 6 ≠ 1 →
    ∃ t, exec (.sanitize p v) s = .next t ∧ Answered p 0x2F10 1 0x08000022 [] t ∧
      t = { withRequest s t with dict := { s.dict with refusedMbx := t.dict.refusedMbx, refusedUsdo := t.dict.refusedUsdo } })

/-- EXPOSURE_COMMIT, EXPOSURE_CLEAR, CCI_DIRECT_WRITE and CCI_DIRECT_READ (13 R723, R724, R735): a set with the next ID waits with the
staged writes, and the staging is empty; a fifth waiting set and a second direct transfer are refused.
FORCE_IDR, DECODE_OPEN, DECODE_CLOSE and DECODE_END_OF_INPUT (14 R783, R795, R816, R817, R821): an admitted channel's next frame is
due to be an IDR frame; a decode session opens afresh, closes, or takes the end of its input, and is refused where it may not. -/
def Obligations.VideoRequests : Prop :=
  (∀ p n s, Commands p (0x4010 + 0x100 * n.val) 9 (leBytes 1 1) s → (strOf s n).pendingSets.length < 4 →
    ∃ t, exec (.exposureCommit p n) s = .next t ∧ Answered p (0x4010 + 0x100 * n.val) 9 0 [] t ∧
      (strOf t n).lastSet = (strOf s n).lastSet + 1 ∧
      (∃ q ∈ (strOf t n).pendingSets, q.id = (strOf s n).lastSet + 1 ∧ q.writes = stagedWrites s n ∧ q.failures = 0) ∧
      t.dict.values = (clearStaging n s).dict.values ∧ t.life = s.life ∧ t.cache = s.cache ∧ t.rails = s.rails) ∧
  (∀ p n s, Accepts p (0x4010 + 0x100 * n.val) 9 (leBytes 1 1) s → 4 ≤ (strOf s n).pendingSets.length →
    ∃ t, exec (.exposureCommit p n) s = .next t ∧ Answered p (0x4010 + 0x100 * n.val) 9 0x08000022 [] t ∧
      t = { withRequest s t with dict := { s.dict with refusedMbx := t.dict.refusedMbx, refusedUsdo := t.dict.refusedUsdo } }) ∧
  (∀ p n s, Commands p (0x4010 + 0x100 * n.val) 9 (leBytes 1 2) s →
    ∃ t, exec (.exposureClear p n) s = .next t ∧ Answered p (0x4010 + 0x100 * n.val) 9 0 [] t ∧
      t = withRequest (clearStaging n s) t) ∧
  (∀ p n s k c, (k, c) ∈ [(1, Instr.cciDirectWrite p n), (2, .cciDirectRead p n)] → Commands p (0x4011 + 0x100 * n.val) 4 (leBytes 1 k) s →
    (strOf s n).cciOp = 0 →
    ∃ t, exec c s = .next t ∧ Answered p (0x4011 + 0x100 * n.val) 4 0 [] t ∧ (strOf t n).cciOp = k ∧ (strOf t n).cciResult = 1 ∧
      t.life = s.life ∧ t.cache = s.cache ∧ t.rails = s.rails ∧ t.dict = s.dict) ∧
  (∀ p n s k c, (k, c) ∈ [(1, Instr.cciDirectWrite p n), (2, .cciDirectRead p n)] → Accepts p (0x4011 + 0x100 * n.val) 4 (leBytes 1 k) s →
    (strOf s n).cciOp ≠ 0 →
    ∃ t, exec c s = .next t ∧ Answered p (0x4011 + 0x100 * n.val) 4 0x08000022 [] t ∧
      t = { withRequest s t with dict := { s.dict with refusedMbx := t.dict.refusedMbx, refusedUsdo := t.dict.refusedUsdo } }) ∧
  (∀ p n s, Commands p (0x4040 + 0x100 * n.val) 0x0C (leBytes 1 1) s →
    ∃ t, exec (.forceIdr p n) s = .next t ∧ Answered p (0x4040 + 0x100 * n.val) 0x0C 0 [] t ∧
      (admitted s n = true → (encOf t n).idrCause.isSome = true) ∧ (∀ m, m ≠ n → encOf t m = encOf s m) ∧
      t = withRequest { s with video := { s.video with enc := t.video.enc } } t) ∧
  (∀ p d s, Commands p (0x2A40 + d.val) 1 (leBytes 1 1) s → decodeServed s = true → decOpen s d = false →
    budgetsRefuse s (encodes s) (decOpen s) s (encodes s) (fun k => k == d || decOpen s k) = false →
    ∃ t, exec (.decodeOpen p d) s = .next t ∧ Answered p (0x2A40 + d.val) 1 0 [] t ∧ Told (1732 + d.val) s t ∧
      t = withRequest (s.modDec d (fun _ => ⟨1, 0, 0, false, 0, 0, none⟩)) t) ∧
  (∀ p d s, Accepts p (0x2A40 + d.val) 1 (leBytes 1 1) s → decodeServed s = false ∨ decOpen s d = true →
    ∃ t, exec (.decodeOpen p d) s = .next t ∧ Answered p (0x2A40 + d.val) 1 0x08000022 [] t ∧
      t = { withRequest s t with dict := { s.dict with refusedMbx := t.dict.refusedMbx, refusedUsdo := t.dict.refusedUsdo } }) ∧
  (∀ p d s, Commands p (0x2A40 + d.val) 1 (leBytes 1 2) s → s.video.dec[d].state ≠ 0 →
    ∃ t, exec (.decodeClose p d) s = .next t ∧ Answered p (0x2A40 + d.val) 1 0 [] t ∧ Told (1734 + d.val) s t ∧
      t.video.dec[d].state = 0 ∧ t.video.dec[d].ending = false ∧
      t = withRequest { s with video := { s.video with dec := t.video.dec } } t) ∧
  (∀ p d s, Commands p (0x2A40 + d.val) 1 (leBytes 1 3) s → decOpen s d = true →
    ∃ t, exec (.decodeEndOfInput p d) s = .next t ∧ Answered p (0x2A40 + d.val) 1 0 [] t ∧
      t = withRequest (s.modDec d (fun x => { x with ending := true })) t) ∧
  (∀ p d s, Accepts p (0x2A40 + d.val) 1 (leBytes 1 3) s → decOpen s d = false →
    ∃ t, exec (.decodeEndOfInput p d) s = .next t ∧ Answered p (0x2A40 + d.val) 1 0x08000022 [] t ∧
      t = { withRequest s t with dict := { s.dict with refusedMbx := t.dict.refusedMbx, refusedUsdo := t.dict.refusedUsdo } })

/-- EVENT_ACKNOWLEDGE and CLEAR_LOG (15 R829, R837, R838): the bits written 1 leave the bank's pending bits and nothing else changes; the
log is emptied, and EV-0000 is its first record.
The checks of a write refuse by code and change nothing (03 R127; 04 R135, R138, R142 to R145): no such object or sub-entry, no
permission, the lock closed, and another length. -/
def Obligations.EventRequestsAndRefusals : Prop :=
  (∀ p b bits s, Accepts p (0x5000 + b.val) 3 (leBytes 8 bits.toNat) s →
    ∃ t, exec (.eventAcknowledge p b bits) s = .next t ∧ Answered p (0x5000 + b.val) 3 0 [] t ∧
      t.ev.pendingBits[b] = s.ev.pendingBits[b] &&& ~~~bits ∧ (∀ a, a ≠ b → t.ev.pendingBits[a] = s.ev.pendingBits[a]) ∧
      t = { withRequest s t with ev := { s.ev with pendingBits := t.ev.pendingBits } }) ∧
  (∀ p s, Accepts p 0x2C00 5 (leBytes 1 1) s →
    ∃ t, exec (.clearLog p) s = .next t ∧ Answered p 0x2C00 5 0 [] t ∧ Told 0 s t ∧
      (evEnabled s 0 = true → s.ev.started = true → ∃ r, t.ev.log.getLast? = some r ∧ r.event = 0) ∧ t = withRequest s t) ∧
  (∀ p index sub data s code, Reaches p s →
    (findEntry p index.toNat sub.toNat s = .error code ∨
      ∃ r, findEntry p index.toNat sub.toNat s = .ok r ∧
        (r.acc.mayWrite (classesOf p index.toNat) = false ∧ code = 0x06010002 ∨
          r.acc.mayWrite (classesOf p index.toNat) = true ∧ (r.level = .expert → holdsExpert p s = true) ∧
          (romOnly s = true → romServes index.toNat = true) ∧ pathRefuses s r index.toNat = false ∧
          tenantDisabled s index.toNat = false ∧
          (r.acc.locked = true ∧ s.mode.lock = false ∧ code = 0x0F000003 ∨
            (r.acc.locked = true → s.mode.lock = true) ∧ (winOf index.toNat = none ∨ sub ≠ 4) ∧ data.length ≠ r.ty.size ∧
              code = 0x06070010))) →
    ∃ t, exec (.dictionaryWrite p index sub data) s = .next t ∧ Answered p index.toNat sub.toNat code [] t ∧
      t = { withRequest s t with dict := { s.dict with refusedMbx := t.dict.refusedMbx, refusedUsdo := t.dict.refusedUsdo } })

/-- WINDOW_OPEN_READ, WINDOW_OPEN_WRITE, WINDOW_COMMIT and WINDOW_ABORT (04 R180, R181, R186, R187, R190): what an accepted Control write
does to a window that its session may use, and the refusal of another session than the Owner. No other window changes.
WINDOW_DATA_READ, WINDOW_DATA_WRITE and WINDOW_IDLE_TIMEOUT (04 R182 to R186, R190): the Owner's read answers the words from Offset
on, its write stores them, both move Offset by the bytes taken; 10 s without an access close the window with EV-0020. -/
def Obligations.WindowControlAndData : Prop :=
  (∀ p (w : Fin 7) s, Accepts p (0x2E00 + w.val) 5 (leBytes 1 1) s → ownedByOther p s.win[w] = false → w ≠ 2 → s.win[w].status ∈ [0, 4, 5] →
    (w = 0 → s.win[w].target ≤ 1) →
    ∃ t, exec (.windowOpenRead p w) s = .next t ∧ Answered p (0x2E00 + w.val) 5 0 [] t ∧ t.win[w].status = 1 ∧
      t.win[w].owner = some p ∧ t.win[w].offset = 0 ∧ t.win[w].length = t.win[w].buf.length ∧ t.win[w].crc = crc32 t.win[w].buf ∧
      t.win[w].buf = snapshotOf s w s.win[w].target ∧ (∀ v, v ≠ w → t.win[v] = s.win[v]) ∧ t = withRequest { s with win := t.win } t) ∧
  (∀ p (w : Fin 7) s, Accepts p (0x2E00 + w.val) 5 (leBytes 1 2) s → ownedByOther p s.win[w] = false → w ∈ [(0 : Fin 7), 2, 3] →
    s.win[w].status ∈ [0, 4, 5] → 1 ≤ s.win[w].length → s.win[w].length ≤ winMax w s.win[w].target →
    ∃ t, exec (.windowOpenWrite p w) s = .next t ∧ Answered p (0x2E00 + w.val) 5 0 [] t ∧ t.win[w].status = 2 ∧
      t.win[w].owner = some p ∧ t.win[w].offset = 0 ∧ t.win[w].buf = List.replicate s.win[w].length 0 ∧ t.win[w].writing = true ∧
      (∀ v, v ≠ w → t.win[v] = s.win[v]) ∧ t = withRequest { s with win := t.win } t) ∧
  (∀ p (w : Fin 7) s, Accepts p (0x2E00 + w.val) 5 (leBytes 1 3) s → owns p s.win[w] = true → s.win[w].writing = true → s.win[w].status ≠ 3 →
    pathState s.life.dev = false → crc32 s.win[w].buf = s.win[w].crc → (w = 3 → s.mode.lock = true ∧ holdsExpert p s = true) →
    ∃ t, exec (.windowCommit p w) s = .next t ∧ Answered p (0x2E00 + w.val) 5 0 [] t ∧ t.win[w].status = 3 ∧
      t.win[w].buf = s.win[w].buf ∧ (∀ v, v ≠ w → t.win[v] = s.win[v]) ∧ t = withRequest { s with win := t.win } t) ∧
  (∀ p (w : Fin 7) s, Accepts p (0x2E00 + w.val) 5 (leBytes 1 4) s → owns p s.win[w] = true → s.win[w].status ≠ 3 →
    ∃ t, exec (.windowAbort p w) s = .next t ∧ Answered p (0x2E00 + w.val) 5 0 [] t ∧ t.win[w].status = 0 ∧
      t.win[w].owner = none ∧ t.win[w].buf = [] ∧ (∀ v, v ≠ w → t.win[v] = s.win[v]) ∧ t = withRequest { s with win := t.win } t) ∧
  (∀ p (w : Fin 7) s k c, (k, c) ∈ [(1, Instr.windowOpenRead p w), (2, .windowOpenWrite p w), (3, .windowCommit p w), (4, .windowAbort p w)] →
    Accepts p (0x2E00 + w.val) 5 (leBytes 1 k) s → ownedByOther p s.win[w] = true →
    ∃ t, exec c s = .next t ∧ Answered p (0x2E00 + w.val) 5 0x0F000005 [] t ∧
      t = { withRequest s t with dict := { s.dict with refusedMbx := t.dict.refusedMbx, refusedUsdo := t.dict.refusedUsdo } }) ∧
  (∀ p (w : Fin 7) n s, Reaches p s → p.isAdmin = true → (romOnly s = true → w = 0) → owns p s.win[w] = true → s.win[w].status = 1 →
    n % 4 = 0 → 4 ≤ n → n ≤ 256 → s.win[w].offset < s.win[w].buf.length → s.win[w].offset + n ≤ up4 s.win[w].buf.length →
    ∃ t, exec (.windowDataRead p w n) s = .next t ∧
      Answered p (0x2E00 + w.val) 4 0
        ((List.range (n / 4)).flatMap (fun i => wordAt s.win[w].buf (s.win[w].offset + 4 * i))) t ∧
      t.win[w].offset = s.win[w].offset + n ∧ t.win[w].lastAccess = s.time.now ∧ t.win[w].buf = s.win[w].buf ∧
      (∀ v, v ≠ w → t.win[v] = s.win[v]) ∧ t = withRequest { s with win := t.win } t) ∧
  (∀ p (w : Fin 7) data s, Reaches p s → p.isAdmin = true → (romOnly s = true → w = 0) → owns p s.win[w] = true → s.win[w].writing = true →
    s.win[w].status ≠ 3 → data.length % 4 = 0 → 4 ≤ data.length → data.length ≤ 256 → s.win[w].offset < s.win[w].buf.length →
    s.win[w].offset + data.length ≤ up4 s.win[w].buf.length →
    ∃ t, exec (.windowDataWrite p w data) s = .next t ∧ Answered p (0x2E00 + w.val) 4 0 [] t ∧
      t.win[w].offset = s.win[w].offset + data.length ∧ t.win[w].lastAccess = s.time.now ∧
      t.win[w].buf.length = s.win[w].buf.length ∧
      (∀ i, s.win[w].offset ≤ i → i < s.win[w].offset + data.length → i < s.win[w].buf.length →
        t.win[w].buf[i]? = data[i - s.win[w].offset]?) ∧
      (∀ i, i < s.win[w].offset ∨ s.win[w].offset + data.length ≤ i → t.win[w].buf[i]? = s.win[w].buf[i]?) ∧
      (∀ v, v ≠ w → t.win[v] = s.win[v]) ∧ t = withRequest { s with win := t.win } t) ∧
  (∀ (w : Fin 7) s, s.win[w].status = 1 ∨ s.win[w].status = 2 → s.win[w].owner.isSome = true → s.win[w].lastAccess + 10000000 ≤ s.time.now →
    ∃ t, exec (.windowIdleTimeout w) s = .next t ∧ t.win[w].owner = none ∧ t.win[w].status = 0 ∧ t.win[w].buf = [] ∧ Told 20 s t ∧
      (∀ v, v ≠ w → t.win[v] = s.win[v]) ∧ t = withEvents { s with win := t.win } t)

/-- WINDOW_COMMIT_COMPLETE (02 R71a; 04 R188, R192; 08 R387, R388; 13 R751): a verified firmware image is in the slot that is not active and
its trial is pending; an overlay bitmap is the next one of its layer; a table waits for its channel; an object that is not good
fails with EV-0019, an image that does not verify is not written, and a write that broke off leaves no whole image and no trial. -/
def Obligations.WindowCommitEnds : Prop :=
  (∀ s, s.win[(0 : Fin 7)].status = 3 →
    ∃ t, exec (.windowCommitComplete 0 .written) s = .next t ∧ Told 18 s t ∧ t.win[(0 : Fin 7)].status = 4 ∧
      t.win[(0 : Fin 7)].owner = none ∧ t.life.trialState = 1 ∧ t.life.trialUsed = 0 ∧
      (if s.life.activeB then t.nor.slotA else t.nor.slotB) = ⟨s.win[(0 : Fin 7)].buf, true⟩ ∧
      (if s.life.activeB then t.nor.slotB = s.nor.slotB else t.nor.slotA = s.nor.slotA) ∧
      (∀ v : Fin 7, v ≠ 0 → t.win[v] = s.win[v]) ∧
      t = withEvents { s with win := t.win, nor := { s.nor with slotA := t.nor.slotA, slotB := t.nor.slotB },
                              life := { s.life with trialState := 1, trialUsed := 0 }, keep := { s.keep with pending := true } } t) ∧
  (∀ s r, s.win[(2 : Fin 7)].status = 3 → let x := s.win[(2 : Fin 7)]
    layerOk x.buf (x.target % 4) (s.sc (Fin.ofNat 16 (x.target / 4)) 0x4000 2) (s.sc (Fin.ofNat 16 (x.target / 4)) 0x4000 3) = true →
    ∃ t, exec (.windowCommitComplete 2 r) s = .next t ∧ Told 18 s t ∧ t.win[(2 : Fin 7)].status = 4 ∧
      t.win[(2 : Fin 7)].owner = none ∧ (strOf t (Fin.ofNat 16 (x.target / 4))).layers[Fin.ofNat 4 x.target].next = some x.buf ∧
      (∀ v : Fin 7, v ≠ 2 → t.win[v] = s.win[v]) ∧ t.life = s.life ∧ t.nor = s.nor ∧ t.cache = s.cache ∧ t.dict = s.dict) ∧
  (∀ s r, s.win[(3 : Fin 7)].status = 3 → tableOk s s.win[(3 : Fin 7)].target s.win[(3 : Fin 7)].buf = true →
    ∃ t, exec (.windowCommitComplete 3 r) s = .next t ∧ Told 18 s t ∧ t.win[(3 : Fin 7)].status = 4 ∧
      (t.est (tableChannel s.win[(3 : Fin 7)].target)).pendingProfile.isSome = true ∧
      (t.est (tableChannel s.win[(3 : Fin 7)].target)).profile = (s.est (tableChannel s.win[(3 : Fin 7)].target)).profile ∧
      (∀ v : Fin 7, v ≠ 3 → t.win[v] = s.win[v]) ∧ t.life = s.life ∧ t.nor = s.nor ∧ t.cache = s.cache ∧ t.dict = s.dict) ∧
  (∀ s (w : Fin 7) r, s.win[w].status = 3 → (w = 0 → r ≠ CommitEnd.written) →
    (w = 2 → let x := s.win[w]
      layerOk x.buf (x.target % 4) (s.sc (Fin.ofNat 16 (x.target / 4)) 0x4000 2) (s.sc (Fin.ofNat 16 (x.target / 4)) 0x4000 3)
        = false) →
    (w ≠ 0 → w ≠ 2 → tableOk s s.win[w].target s.win[w].buf = false) →
    ∃ t, exec (.windowCommitComplete w r) s = .next t ∧ Told 19 s t ∧ t.win[w].status = 5 ∧ t.win[w].owner = none ∧
      (∀ v, v ≠ w → t.win[v] = s.win[v]) ∧
      (w ≠ 0 ∨ r = .rejected → t = withEvents { s with win := t.win } t) ∧
      (w = 0 → r = .failed → (if s.life.activeB then t.nor.slotA.whole = false ∧ t.nor.slotB = s.nor.slotB
          else t.nor.slotB.whole = false ∧ t.nor.slotA = s.nor.slotA) ∧
        t = withEvents { s with win := t.win, nor := { s.nor with slotA := t.nor.slotA, slotB := t.nor.slotB },
                                life := { s.life with trialState := 0, trialUsed := 0 }, keep := { s.keep with pending := true } } t))

/-- MBX_READ, MBX_WRITE and MBX_NEXT_ENTRY (02 R76; 04 R171 to R177; 05 R204, R219): a request that is served answers the entry, holds the
value written, or gives the next entry's descriptor or 0602_0000, and raises vector 0 where MBX_IRQ enables it, or leaves it pending
while bus mastering is off; one that arrives while a warm BOOT runs ends busy and does nothing, and one while Go is set, or where no
mailbox is reached, sets at most the interrupt enable.
USDO_REQUEST (04 R162 to R166): a client that waits for no answer reads or writes an entry; a service that is not supported, and a
second request before the answer, end in 0504_0001. -/
def Obligations.TransportRequests : Prop :=
  (∀ fn irq tag index sub len r s, Reaches (.mailbox fn) s → winOf index.toNat = none →
    findEntry (.mailbox fn) index.toNat sub.toNat s = .ok r → r.acc.mayRead (classesOf (.mailbox fn) index.toNat) = true →
    (romOnly s = true → romServes index.toNat = true) →
    ∃ t, exec (.mbxRead fn irq tag index sub len) s = .next t ∧
      Answered (.mailbox fn) index.toNat sub.toNat 0 (entryBytes s index.toNat sub.toNat) t ∧ (t.mbx[fn]).statusTag = tag ∧
      (t.mbx[fn]).irqEn = irq ∧ (irq = true → s.port.fns[fn].bme = true → t.out.getLast? = some (.msix fn 0)) ∧
      (irq = true → s.port.fns[fn].bme = false → t.port.fns[fn].pba = s.port.fns[fn].pba ||| 1) ∧
      (∀ g, g ≠ fn → t.mbx[g] = s.mbx[g]) ∧ t = withRequest s t) ∧
  (∀ fn irq tag index sub data s, Accepts (.mailbox fn) index.toNat sub.toNat data s → winOf index.toNat = none →
    (∀ u, actionOf (.mailbox fn) u index.toNat sub.toNat (ofLe data) s = none) →
    chapterCheck (.mailbox fn) index.toNat sub.toNat (ofLe data) s = none →
    overBudget index.toNat sub.toNat (ofLe data) s = false → s.island (s.ownerOf index.toNat sub.toNat) = .running →
    ∃ t, exec (.mbxWrite fn irq tag index sub data) s = .next t ∧ Answered (.mailbox fn) index.toNat sub.toNat 0 [] t ∧
      (t.mbx[fn]).statusTag = tag ∧ (t.mbx[fn]).irqEn = irq ∧
      t.dict.values = putValue s.dict.values index.toNat sub.toNat (valueHeld index.toNat sub.toNat (ofLe data)) ∧
      t.isl = s.isl ∧ t.life = s.life ∧ t.time = s.time ∧ t.keep = s.keep ∧ t.nor = s.nor ∧ t.tremor = s.tremor) ∧
  (∀ fn irq tag index sub x s, Reaches (.mailbox fn) s → nextEntry (.mailbox fn) s (key index.toNat sub.toNat) = some x →
    ∃ t, exec (.mbxNextEntry fn irq tag index sub) s = .next t ∧
      Answered (.mailbox fn) index.toNat sub.toNat 0 (descriptor x.1 x.2) t ∧ (t.mbx[fn]).statusTag = tag ∧
      key index.toNat sub.toNat < x.1 ∧ t = withRequest s t) ∧
  (∀ fn irq tag index sub s, Reaches (.mailbox fn) s → nextEntry (.mailbox fn) s (key index.toNat sub.toNat) = none →
    ∃ t, exec (.mbxNextEntry fn irq tag index sub) s = .next t ∧ Answered (.mailbox fn) index.toNat sub.toNat 0x06020000 [] t ∧
      t = { withRequest s t with dict := { s.dict with refusedMbx := t.dict.refusedMbx } }) ∧
  (∀ fn irq tag index sub data s c, mbxReached s fn = true → (s.mbx[fn]).go = false → mbxBusy s = true →
    c ∈ [Instr.mbxRead fn irq tag index sub 0, .mbxWrite fn irq tag index sub data, .mbxNextEntry fn irq tag index sub] →
    ∃ t, exec c s = .next t ∧ (t.mbx[fn]).go = false ∧ (t.mbx[fn]).done = true ∧ (t.mbx[fn]).result = 2 ∧
      (t.mbx[fn]).statusTag = tag ∧ (∀ g, g ≠ fn → t.mbx[g] = s.mbx[g]) ∧
      t = { s with mbx := t.mbx, out := t.out, port := { s.port with fns := withPba s.port.fns t.port.fns } }) ∧
  (∀ fn irq tag index sub len data s c,
    c ∈ [Instr.mbxRead fn irq tag index sub len, .mbxWrite fn irq tag index sub data, .mbxNextEntry fn irq tag index sub] →
    (mbxReached s fn = false → exec c s = .next s) ∧
    (mbxReached s fn = true → (s.mbx[fn]).go = true → exec c s = .next (s.modMbx fn (fun m => { m with irqEn := irq })))) ∧
  (∀ c index sub len r s, Reaches (.usdo c) s → winOf index.toNat = none → findEntry (.usdo c) index.toNat sub.toNat s = .ok r →
    r.acc.mayRead (classesOf (.usdo c) index.toNat) = true → (romOnly s = true → romServes index.toNat = true) →
    ∃ t, exec (.usdoRequest c (.read index sub len)) s = .next t ∧
      Answered (.usdo c) index.toNat sub.toNat 0 (entryBytes s index.toNat sub.toNat) t ∧ t = withRequest s t) ∧
  (∀ c index sub data s, Accepts (.usdo c) index.toNat sub.toNat data s → winOf index.toNat = none →
    (∀ u, actionOf (.usdo c) u index.toNat sub.toNat (ofLe data) s = none) →
    chapterCheck (.usdo c) index.toNat sub.toNat (ofLe data) s = none → overBudget index.toNat sub.toNat (ofLe data) s = false →
    s.island (s.ownerOf index.toNat sub.toNat) = .running →
    ∃ t, exec (.usdoRequest c (.write index sub data)) s = .next t ∧ Answered (.usdo c) index.toNat sub.toNat 0 [] t ∧
      t.dict.values = putValue s.dict.values index.toNat sub.toNat (valueHeld index.toNat sub.toNat (ofLe data)) ∧
      t.isl = s.isl ∧ t.life = s.life ∧ t.time = s.time ∧ t.keep = s.keep ∧ t.nor = s.nor ∧ t.tremor = s.tremor) ∧
  (∀ c s, Reaches (.usdo c) s →
    ∃ t, exec (.usdoRequest c .unsupported) s = .next t ∧ Answered (.usdo c) 0 0 0x05040001 [] t ∧
      t = { s with out := t.out, dict := { s.dict with refusedUsdo := t.dict.refusedUsdo } }) ∧
  (∀ c index sub data s, usdoServed s = true → c ∈ s.can.busy →
    ∃ t, exec (.usdoRequest c (.write index sub data)) s = .next t ∧ Answered (.usdo c) index.toNat sub.toNat 0x05040001 [] t ∧
      t = { s with out := t.out, dict := { s.dict with refusedUsdo := t.dict.refusedUsdo } }) ∧
  (∀ c req s, usdoServed s = false → exec (.usdoRequest c req) s = .next s)

/-- ISLAND_RESTART (01 R27, R30): a CAPTURE, PIXEL or ENTROPY island in fault runs again where the state lets it run, with what waited
for it delivered, and is stopped elsewhere; the other islands stay as they are.
CRYSTAL_FAIL (01 R40, R41) and PRECISION_REACHED (02 R72; 08 R437): the clock runs on the RC oscillator with EV-0006, and the
conservative bounds of the bring-up end with EV-0076. -/
def Obligations.IslandsAndClock : Prop :=
  (∀ i s, i ∈ [Island.capture0, .capture1, .capture2, .capture3, .pixel, .entropy] → s.island i = .fault → islandMark s i = true →
    ∃ t, exec (.islandRestart i) s = .next (handshakes t) ∧ t.island i = .running ∧ (∀ j, j ≠ i → t.island j = s.island j) ∧
      (∀ q, q ∈ t.isl.undelivered ↔ q ∈ s.isl.undelivered ∧ s.ownerOf (q.1 / 256) (q.1 % 256) ≠ i) ∧
      (∀ q ∈ s.isl.undelivered, s.ownerOf (q.1 / 256) (q.1 % 256) = i → (mapFind t.isl.handed q.1).isSome = true) ∧
      (∀ n, servedBy s i n = true → (strOf t n).cur = none) ∧ t = { s with isl := t.isl, video := t.video } ∧
      ((∀ q ∈ s.isl.undelivered, s.ownerOf (q.1 / 256) (q.1 % 256) ≠ i) → s.isl.handed = [] → s.isl.waiting = [] → handshakes t = t)) ∧
  (∀ i s, i ∈ [Island.capture0, .capture1, .capture2, .capture3, .pixel, .entropy] → s.island i = .fault → islandMark s i = false →
    exec (.islandRestart i) s = .next (s.setIsland i .stopped)) ∧
  (∀ s, s.life.dev.supervised = true → s.time.onRc = false →
    ∃ t, exec .crystalFail s = .next t ∧ Told 6 s t ∧ t = withEvents { s with time := { s.time with onRc := true } } t) ∧
  (∀ s, controlRuns s = true → s.life.estConservative = true → calibrated s = true →
    (∀ c, (s.chan c).fitted = true → 1000 ≤ (s.est c).samples) →
    ∃ t, exec .precisionReached s = .next t ∧ Told 76 s t ∧ t = withEvents { s with life := { s.life with estConservative := false } } t)

/-- SAMPLE and CHANNEL_REMOVED (07 R336, R337, R349; 08 R381, R390, R391): a reading stands in its channel with its temperature zone, the
counter takes its charge, a configured channel with a plausible NTC is fitted, and one whose NTC has failed is not; the other
channel's estimator is left alone.
EG_PUBLICATION and ESTIMATOR_STALE (01 R48, R51; 06 R294 to R297, R323; 08 R388, R434): a publication gives every channel its E_g,
counts itself, takes the waiting tables and recomputes the ceiling from the new total; when none comes D_max is 0 with EV-0005. -/
def Obligations.SamplesAndPublication : Prop :=
  (∀ c mv ma dt s, s.life.dev.supervised = true →
    ∃ t, exec (.sample c mv ma dt) s = .next t ∧ (t.chan c).mv = mv ∧ (t.chan c).ma = ma ∧ (t.chan c).dt = dt ∧
      (t.chan c).zone = zoneOf c (s.chan c).zone dt ∧ (t.est c).counter = (s.est c).counter + BitVec.ofInt 40 ma ∧
      (t.chan c).fitted = ((s.chan c).fitted || (chanConfigured s c && decide (-400 ≤ dt) && decide (dt ≤ 1000))) ∧
      (controlRuns s = true → (s.chan c).fitted = true →
        (t.est c).lastCounter = (t.est c).counter ∧ 0 ≤ (t.est c).socInt ∧ (t.est c).socInt ≤ 1) ∧
      (controlRuns s = false → (t.est c).socInt = (s.est c).socInt) ∧
      t.est c.other = s.est c.other ∧ (t.chan c.other).mv = (s.chan c.other).mv ∧ (t.chan c.other).ma = (s.chan c.other).ma ∧
      (geyserRuns (s.est c) = false → t.adm = s.adm) ∧
      t.adm = { s.adm with geyserForce := t.adm.geyserForce, stage := t.adm.stage } ∧
      t.life = s.life ∧ t.isl = s.isl ∧ t.dict = s.dict ∧ t.time = s.time ∧ t.cache = s.cache ∧ t.flash = s.flash ∧
      t.nor = s.nor ∧ t.port = s.port ∧ t.outage = s.outage ∧ t.tremor = s.tremor ∧ t.video = s.video) ∧
  (∀ c s, s.life.dev.supervised = true → (s.chan c).fitted = true → ntcOk (s.chan c) = false → c = .bank ∨ s.life.dev ≠ .simmer →
    ∃ t, exec (.channelRemoved c) s = .next t ∧ Told (chanEv c 129) s t ∧ (t.chan c).fitted = false ∧ (t.chan c).wasRemoved = true ∧
      (t.chan c).enable = false ∧ publishesZero t c = true ∧ (t.chan c.other).fitted = (s.chan c.other).fitted ∧
      t.est c.other = s.est c.other ∧ t.life = s.life ∧ t.isl = s.isl ∧ t.dict = s.dict ∧ t.time = s.time ∧ t.cache = s.cache ∧
      t.adm = { s.adm with geyserForce := t.adm.geyserForce, stage := t.adm.stage } ∧ t.flash = s.flash ∧ t.keep = s.keep) ∧
  (∀ s, publishes s = true → s.life.dev ≠ .simmer →
    ∃ t, exec .egPublication s = .next t ∧ t.adm.pubSeq = s.adm.pubSeq + 1 ∧ t.adm.pubAt = some s.time.now ∧ t.adm.stale = false ∧
      t.adm.eByteInUse = s.adm.eByte ∧
      (∀ c, (t.est c).eg = guaranteed (loadTable .bank (loadTable .pack s)) c ∧ (t.est c).pendingProfile = none) ∧
      t.adm.egTotal = t.packEst.eg + t.bankEst.eg ∧
      t.adm.ceiling = ceilingOf { s with adm := { s.adm with stale := false } } (dmaxNumOf s t.adm.egTotal) s.adm.eByte ∧
      (∀ n, (t.ten n).guaranteed = t.adm.ceiling * s.cfg (blockIndex 0x3030 n.val) 1 / 1000) ∧
      t.life = s.life ∧ t.isl = s.isl ∧ t.dict = s.dict ∧ t.time = s.time ∧ t.rails = s.rails ∧ t.keep = s.keep ∧ t.nor = s.nor ∧
      t.flash = s.flash ∧ t.port = s.port ∧ t.outage = s.outage ∧ t.cache.slots = s.cache.slots) ∧
  (∀ s, publishes s = true → s.adm.stale = false → overdue s = true → s.life.dev ≠ .simmer →
    ∃ t, exec .estimatorStale s = .next t ∧ Told 5 s t ∧ t.adm.stale = true ∧ t.adm.ceiling = 0 ∧ t.adm.dmaxNum = 0 ∧
      (∀ n, (t.ten n).guaranteed = 0) ∧ t.packEst = s.packEst ∧ t.bankEst = s.bankEst ∧ t.life = s.life ∧ t.isl = s.isl ∧
      t.dict = s.dict ∧ t.rails = s.rails ∧ t.keep = s.keep ∧ t.flash = s.flash ∧ t.cache.slots = s.cache.slots)

/-- END_OF_CHARGE, CHARGE_TARGET_REACHED and CELL_IMBALANCE (07 R350, R351, R356, R365; 08 R393, R401, R410): a taper that has run out
calibrates the channel to full and starts a learn; a slew that has ended stands at its target; an imbalance is told.
PRECHARGE_TIMEOUT, CHARGER_OVERCURRENT, CHARGER_STUCK_ON and OVERCHARGE (07 R347, R358 to R361; 11 R619): the fault code is latched unless
one stands, the charger is off, the keep store is to be written; for the PACK in SIMMER the Sinter begins with cause 4. -/
def Obligations.Charging : Prop :=
  (∀ c s t0, (s.chan c).taperAt = some t0 → (s.chan c).enable = true → (s.chan c).phase ≠ .float → t0 + taperTime s c ≤ s.time.now →
    ∃ t, exec (.endOfCharge c) s = .next t ∧ Told (chanEv c 132) s t ∧ (t.est c).socInt = 1 ∧ (t.est c).uCal = 5 / 1000 ∧
      (t.est c).sinceCharge = 0 ∧ (t.est c).learning = true ∧ (t.est c).learnOut = 0 ∧
      ((s.est c).geyser = .recharging → (t.est c).geyser = .idle) ∧
      (c = .pack → t.pack.enable = false ∧ t.pack.full = true ∧ t.pack.inhibit.getLsbD 7 = true) ∧
      (c = .bank → t.bank.phase = .float) ∧
      t.est c.other = s.est c.other ∧ t.life = s.life ∧ t.isl = s.isl ∧ t.dict = s.dict ∧ t.time = s.time ∧ t.cache = s.cache ∧
      ((s.est c).geyser ≠ .recharging → t.adm = s.adm) ∧
      t.adm = { s.adm with geyserForce := t.adm.geyserForce, stage := t.adm.stage } ∧
      t.rails = s.rails ∧ t.keep = s.keep ∧ t.flash = s.flash) ∧
  (∀ c s, (s.chan c).slewing = true → presentTarget s c = (s.chan c).targetFinal →
    ∃ t, exec (.chargeTargetReached c) s = .next t ∧ Told (chanEv c 133) s t ∧
      t = withEvents (s.setChan c { s.chan c with target := (s.chan c).targetFinal, slewing := false }) t) ∧
  (∀ s, s.bank.phase = .float → (∃ a ∈ cellVoltages s, ∃ b ∈ cellVoltages s, a + 150 < b) →
    ∃ t, exec .cellImbalance s = .next t ∧ Told 203 s t ∧ t = withEvents s t) ∧
  (∀ c code cmd s,
    (cmd = Instr.prechargeTimeout ∧ c = .pack ∧ code = 3 ∧ s.pack.enable = true ∧ s.pack.phase = .precharge ∨
      cmd = .chargerOvercurrent c ∧ code = 1 ∧ (s.chan c).enable = true ∧
        (60 * (s.chan c).setpoint + cRate s c : Int) < 50 * (s.chan c).ma ∨
      cmd = .chargerStuckOn c ∧ code = 2 ∧ s.life.dev.supervised = true ∧ chanConfigured s c = true ∧ (s.chan c).enable = false ∧
        (cRate s c : Int) < 50 * (s.chan c).ma ∨
      cmd = .overcharge c ∧ code = 4 ∧ s.life.dev.supervised = true ∧ chanConfigured s c = true ∧ 3 ≤ (s.chan c).overRun) →
    (c = .bank ∨ s.life.dev ≠ .simmer →
      ∃ t, exec cmd s = .next t ∧ Told (chanEv c 135) s t ∧
        (t.chan c).fault = (if (s.chan c).fault = 0 then code else (s.chan c).fault) ∧ (t.chan c).enable = false ∧
        t.keep = { s.keep with pending := true } ∧ (t.chan c.other).fault = (s.chan c.other).fault ∧ t.est c.other = s.est c.other ∧
        t.life = s.life ∧ t.isl = s.isl ∧ t.dict = s.dict ∧ t.time = s.time ∧ t.cache = s.cache ∧
        t.adm = { s.adm with geyserForce := t.adm.geyserForce, stage := t.adm.stage } ∧
        t.flash = s.flash ∧ t.nor = s.nor ∧ t.port = s.port) ∧
    (c = .pack → s.life.dev = .simmer → s.life.dramLost = false →
      ∃ t, exec cmd s = .next t ∧ t.pack.fault = (if s.pack.fault = 0 then code else s.pack.fault) ∧ t.life.dev = .sinter ∧
        t.outage.sinterCause = 4 ∧ t.dict = s.dict))

/-- INPUT_SAG, SAG_CLEARED, HOLD_UP_FAULT and HOLD_UP_RECOVERED (07 R342, R373, R375; 08 R421, R422; 11 R580, R583): a sag holds both
chargers off and an assist at zero current, and its end lets them go on; a hold-up fault makes every channel publish 0 J until
HOLD_PG is high again. -/
def Obligations.SagAndHoldUp : Prop :=
  (∀ s, s.life.dev.supervised = true → s.hold.sag = false → s.hold.failed = false →
    ∃ t, exec .inputSag s = .next t ∧ Told 449 s t ∧ t.hold.sag = true ∧ t.pack.enable = false ∧ t.bank.enable = false ∧
      (∀ c, s.hold.assist = some c → t.hold.assistHeld = true ∧ (t.est c).geyser = .suspended ∧ t.est c.other = s.est c.other) ∧
      (s.hold.assist = none → t.packEst = s.packEst ∧ t.bankEst = s.bankEst) ∧
      t.life = s.life ∧ t.isl = s.isl ∧ t.dict = s.dict ∧ t.time = s.time ∧ t.rails = s.rails ∧ t.keep = s.keep ∧ t.adm = s.adm ∧
      t.outage = s.outage ∧ t.port = s.port ∧ t.video = s.video) ∧
  (∀ s, s.hold.sag = true → s.hold.failed = false →
    ∃ t, exec .sagCleared s = .next t ∧ Told 450 s t ∧ t.hold.sag = false ∧ t.hold.failed = false ∧
      (∀ c, s.hold.assist = some c → t.hold.assistHeld = false ∧ (t.est c).geyser = .discharging) ∧
      t.life = s.life ∧ t.isl = s.isl ∧ t.dict = s.dict ∧ t.time = s.time ∧ t.rails = s.rails ∧ t.keep = s.keep ∧ t.adm = s.adm ∧
      t.outage = s.outage ∧ t.port = s.port ∧ t.video = s.video) ∧
  (∀ s, s.hold.en = true → s.hold.state ≠ 4 → s.life.dev ≠ .simmer →
    ∃ t, exec .holdUpFault s = .next t ∧ Told 40 s t ∧ t.hold.state = 4 ∧ t.packEst.eg = 0 ∧ t.bankEst.eg = 0 ∧
      (publishes s = true → t.adm.pubSeq = s.adm.pubSeq + 1) ∧ t.life = s.life ∧ t.isl = s.isl ∧ t.dict = s.dict ∧
      t.time = s.time ∧ t.keep = s.keep ∧ t.flash = s.flash ∧ t.port = s.port ∧ t.cache.slots = s.cache.slots) ∧
  (∀ s, s.hold.en = true → s.hold.state ≠ 4 → s.life.dev = .simmer → s.life.dramLost = false →
    ∃ t, exec .holdUpFault s = .next t ∧ t.life.dev = .sinter ∧ t.outage.sinterCause = 5 ∧ t.hold.state = 4 ∧ t.dict = s.dict) ∧
  (∀ s, s.hold.state = 4 →
    ∃ t, exec .holdUpRecovered s = .next t ∧ Told 41 s t ∧ t.hold.state = holdState { s.hold with state := 1 } ∧
      t = withEvents { s with hold := { s.hold with state := t.hold.state } } t)

/-- END_OF_DISCHARGE, OCV_RELAXED and IMPEDANCE_SAMPLE (08 R393, R399, R400, R402, R405 to R408): the calibrations of a channel, its
publication of 0 J at the end of discharge, and the running mean of an impedance cell. -/
def Obligations.EstimatorPoints : Prop :=
  (∀ c s, estServes s c = true → 3 ≤ (s.chan c).eod → (s.est c).empty = false → s.life.dev ≠ .simmer →
    ∃ t, exec (.endOfDischarge c) s = .next t ∧ Told (chanEv c 144) s t ∧ (t.est c).socInt = 0 ∧ (t.est c).uCal = 5 / 1000 ∧
      (t.est c).empty = true ∧ (t.est c).dropRep = true ∧ (t.est c).learning = false ∧ (t.est c).eg = 0 ∧
      ((s.est c).geyser = .discharging → (t.est c).geyser = .recharging) ∧
      t.est c.other = { s.est c.other with eg := (t.est c.other).eg } ∧ (publishesZero s c.other = false → t.est c.other = s.est c.other) ∧
      t.life = s.life ∧ t.isl = s.isl ∧ t.dict = s.dict ∧ t.time = s.time ∧ t.flash = s.flash ∧ t.port = s.port ∧
      t.cache.slots = s.cache.slots) ∧
  (∀ s, estServes s .pack = true → relaxed s = true →
    ∃ t, exec (.ocvRelaxed .pack) s = .next t ∧
      t.packEst.socInt = socOfOcv (profileOf s .pack) ((s.pack.mv : Rat) / (cells s .pack : Rat)) (s.pack.dt : Rat) ∧
      t.packEst.uCal = ocvUncertainty (chemistry s .pack) t.packEst.socInt ∧ t.packEst.awaiting = false ∧ t.packEst.sinceCharge = 0 ∧
      t = withEvents { s with packEst := t.packEst } t) ∧
  (∀ c dmv dma s, estServes s c = true → dma ≠ 0 → cOf s c ≤ 5 * dma.natAbs →
    let i := cellIndex (s.chan c).dt (s.est c).socInt
    let x := impedanceOf s c dmv dma
    let r : Rat := ((profileOf s c).impedance.getD i 0 : Nat)
    ∃ t, exec (.impedanceSample c dmv dma) s = .next t ∧
      (r ≤ 4 * x → x ≤ 4 * r → (t.est c).discards = 0 ∧
        (∀ k, k ≠ i → mapFind (t.est c).impedance k = mapFind (s.est c).impedance k) ∧
        ((impedanceCell s c i).2 = 0 → Told (chanEv c 151) s t ∧
          mapFind (t.est c).impedance i = some (x.floor.toNat, 1))) ∧
      (4 * x < r ∨ 4 * r < x → (t.est c).discards = (s.est c).discards + 1 ∧ (t.est c).impedance = (s.est c).impedance) ∧
      t = withEvents (s.setEst c (t.est c)) t)

/-- GEYSER_DUE and GEYSER_START (08 R416 to R420, R423, R424): an idle cycle whose time has come is due, and a due one that may start begins
its assisted discharge, the PACK's first.
SNAPSHOT_HOURLY and KEEP_STORE_WRITE (08 R446; 09 R522 to R526): the copy not in use takes the record of the present state with the next
sequence and is the one then in use; a waiting write is done and its spacing starts. -/
def Obligations.GeyserCyclesAndKeepStore : Prop :=
  (∀ c s, estServes s c = true → (s.est c).geyser = .idle → geyserIsDue s c = true →
    exec (.geyserDue c) s = .next (s.setEst c { s.est c with geyser := .due, geyserAfter := 0 })) ∧
  (∀ c s, (s.est c).geyser = .due → geyserMayStart s c = true → c = .pack ∨ s.packEst.geyser ≠ .due →
    ∃ t, exec (.geyserStart c) s = .next t ∧ (t.est c).geyser = .discharging ∧ t.hold.assist = some c ∧
      (t.chan c).inhibit.getLsbD 4 = true ∧ t.est c.other = s.est c.other ∧ t.chan c.other = s.chan c.other ∧
      t.life = s.life ∧ t.isl = s.isl ∧ t.dict = s.dict ∧ t.time = s.time ∧ t.cache = s.cache ∧ t.adm = s.adm ∧ t.keep = s.keep ∧
      t.flash = s.flash) ∧
  (∀ s, s.life.dev.supervised = true → controlRuns s = true →
    ∃ t, exec .snapshotHourly s = .next t ∧ keepBody t.keep = keepRecord s (hourSnap s .pack) (hourSnap s .bank) ∧
      keepNextSeq t.keep = keepNextSeq s.keep + 1 ∧
      (if useA s.keep then t.keep.copyA = s.keep.copyA else t.keep.copyB = s.keep.copyB) ∧
      t = { s with keep := t.keep, ev := { s.ev with heldSup := t.ev.heldSup } }) ∧
  (∀ s, s.life.dev.supervised = true → s.keep.pending = true → (∀ e, s.keep.lastWrite = some e → e + 60000000 ≤ s.time.now) →
    ∃ t, exec .keepStoreWrite s = .next t ∧ keepBody t.keep = keepRecord s none none ∧ t.keep.pending = false ∧
      t.keep.lastWrite = some s.time.now ∧ keepNextSeq t.keep = keepNextSeq s.keep + 1 ∧
      (if useA s.keep then t.keep.copyA = s.keep.copyA else t.keep.copyB = s.keep.copyB) ∧
      t = { s with keep := t.keep, ev := { s.ev with heldSup := t.ev.heldSup } })

/-- SCAN_SLOT (09 R449, R450, R453, R494, R518, R519; 07 R363): the scanner moves on and the reading stands at its rail, cell, die
temperature or VKEEP; a short or an over-voltage trip in service fails its rail and starts the outage path.
RAIL_WARNING, RAIL_CLEARED, RAIL_GOOD and RAIL_FAULT_TIME (09 R453, R454, R466, R478, R491 to R493, R498, R506): a rail outside its
window is in warning, one back in it is good again, one whose ramp has settled is good and its resets stretch, and one that stays
in warning is switched off where FaultAction says so. -/
def Obligations.ScansAndSupervision : Prop :=
  (∀ x s, s.life.dev.supervised = true → s.rails.slot < 12 → let r : Fin 12 := Fin.ofNat 12 s.rails.slot
    let mv := railMv s r x
    s.compared r = true → s.isShort r mv = false → s.isTrip r mv = false →
    s.outOfWindow r mv = true ∨ (s.rl r).status ≠ .off ∧ unmasked s r = false ∧ commanded s r = false →
    ∃ t, exec (.scanSlot x) s = .next (haltIslands t) ∧ t.rails.slot = s.rails.slot + 1 ∧ (t.rl r).mv = mv ∧ (∀ q, q ≠ r → t.rl q = s.rl q) ∧
      (s.outOfWindow r mv = true → (t.rl r).outRun = (s.rl r).outRun + 1 ∧ (t.rl r).inRun = 0) ∧
      (s.outOfWindow r mv = false → (t.rl r).outRun = 0 ∧ (t.rl r).inRun = (s.rl r).inRun + 1) ∧
      t = { s with rails := { s.rails with slot := t.rails.slot, rail := t.rails.rail } }) ∧
  (∀ x s, s.life.dev.supervised = true → s.rails.slot < 12 → let r : Fin 12 := Fin.ofNat 12 s.rails.slot
    s.compared r = false →
    ∃ t, exec (.scanSlot x) s = .next (haltIslands t) ∧ t.rails.slot = s.rails.slot + 1 ∧ (t.rl r).mv = railMv s r x ∧
      (∀ q, q ≠ r → t.rl q = s.rl q) ∧
      (s.railCfg r 0x08 = 1 → t.rl r = { s.rl r with mv := railMv s r x } ∧ t.rails.rst = s.rails.rst) ∧
      (s.railCfg r 0x08 ≠ 1 → (s.rl r).mask = false → (s.rl r).status ≠ .failed → (s.rl r).status ≠ .off →
        (t.rl r).status = .off ∧ ∀ k, s.resetOf k r = true → t.rails.rst[k] = .asserted) ∧
      t = { s with rails := { s.rails with slot := t.rails.slot, rail := t.rails.rail, rst := t.rails.rst } }) ∧
  (∀ x s, s.life.dev.supervised = true → s.rails.slot < 12 → let r : Fin 12 := Fin.ofNat 12 s.rails.slot
    let mv := railMv s r x
    s.compared r = true → s.isShort r mv = false → s.isTrip r mv = false → s.outOfWindow r mv = false → 1 ≤ (s.rl r).inRun →
    unmasked s r = true ∨ commanded s r = true → s.life.dev ≠ .halt →
    ∃ t, exec (.scanSlot x) s = .next t ∧ Told (280 + r.val) s t ∧ (t.rl r).status = .good ∧ (∀ q, q ≠ r → t.rl q = s.rl q) ∧
      t.rails.gate = s.rails.gate ∧ t.life = s.life ∧ t.dict = s.dict ∧ t.time = s.time ∧ t.cache = s.cache ∧ t.flash = s.flash) ∧
  (∀ x s, ∀ k : Fin 6, s.life.dev.supervised = true → s.rails.slot = 12 + k.val →
    ∃ t, exec (.scanSlot x) s = .next t ∧ t.rails = { s.rails with slot := s.rails.slot + 1 } ∧ t.hold.cells[k] = x.toNat ∧
      (∀ j : Fin 6, j ≠ k → t.hold.cells[j] = s.hold.cells[j]) ∧ t.life = s.life ∧ t.isl = s.isl ∧ t.dict = s.dict ∧ t.time = s.time ∧
      t.packEst = s.packEst ∧ t.bankEst = s.bankEst ∧ t.cache = s.cache ∧ t.adm = s.adm ∧ t.keep = s.keep ∧ t.flash = s.flash) ∧
  (∀ x s, s.life.dev.supervised = true → s.rails.slot = 18 → ¬(10 * (junctionLimit s + 5) < x) →
    ∃ t, exec (.scanSlot x) s = .next t ∧ t.rails.slot = 19 ∧ t.rails.dieTemp = x ∧ t.rails.dieCritical = false ∧
      (s.rails.dieWarn = false → 10 * signed 16 (s.cfg 0x2600 4) < x → Told 304 s t) ∧
      t = withEvents { s with rails := { s.rails with
        slot := 19, dieTemp := x, dieWarn := decide (10 * signed 16 (s.cfg 0x2600 4) < x), dieCritical := false } } t) ∧
  (∀ x s, s.life.dev.supervised = true → s.rails.slot = 19 →
    ∃ t, exec (.scanSlot x) s = .next t ∧ t.rails.slot = 0 ∧ t.rails.vkeep = x.toNat ∧
      (s.rails.vkeepLow = false → x.toNat < s.cfg 0x2600 5 → Told 306 s t) ∧
      t = withEvents { s with rails := { s.rails with
        slot := 0, vkeep := x.toNat, vkeepLow := decide (x.toNat < s.cfg 0x2600 5) } } t) ∧
  (∀ x s, s.rails.slot < 12 → let r : Fin 12 := Fin.ofNat 12 s.rails.slot
    let mv := railMv s r x
    s.compared r = true → s.isShort r mv = true ∨ s.isTrip r mv = true → s.life.dev = .serve ∨ s.life.dev = .restore →
    ∃ t, exec (.scanSlot x) s = .next t ∧ Logged (292 + r.val) s t ∧ Logged 343 s t ∧ (t.rl r).status = .failed ∧
      t.driven r = false ∧ t.rails.latched = true ∧ (s.rails.fault.kind = 0 → t.rails.fault.rail = r.val) ∧
      (s.isShort r mv = true → s.saveGroup r = 4 → t.life.dramLost = true) ∧ t.life.dev = .warn ∧ t.life.fatalPath = true ∧
      t.dict = s.dict) ∧
  (∀ r s, s.compared r = true → s.filterCount r ≤ (s.rl r).outRun → (s.rl r).status = .good →
    ∃ t, exec (.railWarning r) s = .next t ∧ Told ((if (s.rl r).high then 268 else 256) + r.val) s t ∧
      (∀ k, s.resetOf k r = true → t.rails.rst[k] = .asserted) ∧
      t = withEvents ((assertResets r s).modRail r (fun x => { x with status := .warning })) t) ∧
  (∀ r s, s.compared r = true → (s.rl r).status = .warning → s.filterCount r ≤ (s.rl r).inRun → s.rails.walk = .none →
    s.life.dev ≠ .halt →
    ∃ t, exec (.railCleared r) s = .next t ∧ Told (280 + r.val) s t ∧ (t.rl r).status = .good ∧ (∀ q, q ≠ r → t.rl q = s.rl q) ∧
      t.rails.gate = s.rails.gate ∧ t.rails.trim = s.rails.trim ∧ t = withEvents { s with rails := t.rails, port := t.port } t) ∧
  (∀ r s, s.compared r = true → (s.rl r).status = .pending → unmasked s r = false → s.filterCount r ≤ (s.rl r).inRun →
    commanded s r = false → s.life.dev ≠ .halt →
    ∃ t, exec (.railGood r) s = .next t ∧ (t.rl r).status = .good ∧ (∀ q, q ≠ r → t.rl q = s.rl q) ∧ t.rails.gate = s.rails.gate ∧
      (∀ k, s.resetOf k r = true → s.rails.rst[k] = .asserted → s.saveGroup r ≠ 1 → t.rails.rst[k] = .stretching) ∧
      t.life = s.life ∧ t.isl = s.isl ∧ t.dict = s.dict ∧ t.time = s.time ∧ t.keep = s.keep ∧ t.cache = s.cache ∧ t.flash = s.flash ∧
      t.pack = s.pack ∧ t.bank = s.bank) ∧
  (∀ r s, (s.rl r).status = .warning → (s.rl r).mask = false → s.railCfg r 0x0E = 1 → s.gated r = true →
    ∃ t, exec (.railFaultTime r) s = .next t ∧ Told 343 s t ∧ (t.rl r).status = .failed ∧ (t.rl r).offBy = .fault ∧
      t.driven r = false ∧ t.rails.latched = true ∧ (s.rails.fault.kind = 0 → t.rails.fault.kind = 6 ∧ t.rails.fault.rail = r.val) ∧
      (∀ k, s.resetOf k r = true → t.rails.rst[k] = .asserted) ∧ (∀ q, q ≠ r → t.rl q = s.rl q) ∧
      t.dict = s.dict ∧ t.life = s.life ∧ t.time = s.time ∧ t.keep = s.keep ∧ t.nor = s.nor ∧ t.flash = s.flash ∧
      (s.life.dev ≠ .halt → t = withEvents { s with rails := t.rails, outage := { s.outage with phase := t.outage.phase } } t)) ∧
  (∀ r s, (s.rl r).status = .warning → (s.rl r).mask = false → s.railCfg r 0x0E = 2 → s.life.dev = .serve ∨ s.life.dev = .restore →
    ∃ t, exec (.railFaultTime r) s = .next t ∧ t.life.dev = .warn ∧ t.life.fatalPath = true ∧ t.rails.latched = true ∧
      t.dict = s.dict) ∧
  (∀ r s, (s.rl r).status ≠ .warning ∨ (s.rl r).mask = true → exec (.railFaultTime r) s = .next s)

/-- UP_STEP_DELAY, DOWN_STEP_END and DOWN_STEP_TIMEOUT (09 R477 to R481; 10 R557): the next position of a walk ramps or shuts its rails
together, and with none left the walk ends.
RAMP_LAG_TRIP, RAMP_END, RAMP_TIMEOUT and RAIL_GOOD_TIMEOUT (09 R463 to R466, R469, R487, R498; 02 R58; 07 R373): a ramp that ends leaves
its gate on and its rail waiting to be good; one that fails pulls the gate down, latches the fault, and in a cold BOOT leads to HALT
with cause 2, unless a condition of higher rank waits (02 R65; log 118); the failure of a source switch latches the fault and is a hold-up fault. -/
def Obligations.WalksAndRamps : Prop :=
  (∀ gs q s, s.rails.walk = .up gs → s.rails.delaying = true → stepsWithGroup s = false → s.nextUp gs (s.rails.pos + 1) = some q →
    ∃ t, exec .upStepDelay s = .next t ∧ t.rails.walk = .up gs ∧ t.rails.pos = q ∧ t.rails.delaying = false ∧
      (∀ r ∈ s.upRails gs q, (t.rl r).status = .ramping ∧ t.rails.gate[s.gateOf r] = ⟨.ramping, true, 0⟩) ∧
      (∀ r, r ∉ s.upRails gs q → t.rl r = s.rl r) ∧ t = { s with rails := t.rails }) ∧
  (∀ gs s, s.rails.walk = .up gs → s.rails.delaying = true → stepsWithGroup s = false → s.nextUp gs (s.rails.pos + 1) = none →
    ∃ t, exec .upStepDelay s = .next t ∧ Told 340 s t ∧ t.rails.walk = .none ∧ t.rails.rail = s.rails.rail ∧
      t.rails.gate = s.rails.gate ∧ (s.outage.phase = .returning → t.outage.phase = .none) ∧
      t = withEvents { s with rails := t.rails, outage := { s.outage with phase := t.outage.phase } } t) ∧
  (∀ gs s, s.rails.walk = .up gs → s.rails.delaying = true → stepsWithGroup s = true →
    exec .upStepDelay s = .next { s with rails := { s.rails with walk := .none, delaying := false } }) ∧
  (∀ gs q s, s.rails.walk = .down gs → s.noneFalling = false → s.fallenAll = true → (stepsWithGroup s && s.tremor.walk == .downWalk) = false →
    (clearFalling s).nextDown gs s.rails.pos = some q →
    ∃ t, exec .downStepEnd s = .next t ∧ t.rails.walk = .down gs ∧ t.rails.pos = q ∧
      (∀ r ∈ s.downRails gs q, (t.rl r).status = .off ∧ (t.rl r).falling = true ∧ t.driven r = false) ∧
      (∀ r, r ∉ s.downRails gs q → t.rl r = { s.rl r with falling := false }) ∧ t = { s with rails := t.rails }) ∧
  (∀ s, s.rails.walk = .none → s.noneFalling = false → s.fallenAll = true → s.life.dev ≠ .warn →
    exec .downStepEnd s = .next (clearFalling s)) ∧
  (∀ gs s, s.rails.walk = .down gs → s.noneFalling = false → (stepsWithGroup s && s.tremor.walk == .downWalk) = false →
    (clearFalling s).nextDown gs s.rails.pos = none → s.life.dev = .simmer ∨ s.life.dev = .sinter →
    ∃ t, exec .downStepTimeout s = .next t ∧ Told 342 s t ∧ Logged 341 s t ∧ t.rails.walk = .none ∧ t.noneFalling = true ∧
      t.rails.gate = s.rails.gate ∧ t = withEvents { s with rails := t.rails } t) ∧
  (∀ g lag s, s.rails.gate[g].state = .ramping → s.isSourceGate g = true →
    exec (.rampEnd g lag) s = .next (s.modGate g (fun _ => ⟨.on, true, lag⟩))) ∧
  (∀ g lag r s, s.rails.gate[g].state = .ramping → s.isSourceGate g = false → s.railOf g = some r →
    ∃ t, exec (.rampEnd g lag) s = .next t ∧ t.rails.gate[g] = ⟨.on, true, lag⟩ ∧ (t.rl r).status = .pending ∧ (t.rl r).ramped = true ∧
      (t.rl r).inRun = 0 ∧ (∀ q, q ≠ r → t.rl q = s.rl q) ∧ (∀ h, h ≠ g → t.rails.gate[h] = s.rails.gate[h]) ∧
      t.life = s.life ∧ t.isl = s.isl ∧ t.dict = s.dict ∧ t.time = s.time ∧ t.hold = s.hold ∧ t.keep = s.keep ∧ t.flash = s.flash) ∧
  (∀ g lag r s kind cmd, (kind, cmd) ∈ [(1, Instr.rampLagTrip g lag), (2, .rampTimeout g lag)] → s.rails.gate[g].state = .ramping →
    s.isSourceGate g = false → s.railOf g = some r →
    s.life.dev = .serve ∨ s.life.dev = .restore ∨ s.life.dev = .boot ∧ s.life.boot ≠ .cold → s.railCfg r 0x0E ≠ 2 →
    stepsWithGroup s = false →
    ∃ t, exec cmd s = .next t ∧ Told 343 s t ∧ (t.rl r).status = .failed ∧ t.rails.gate[g].state = .failed ∧ t.driven r = false ∧
      (s.rails.fault.kind = 0 → t.rails.fault.kind = kind ∧ t.rails.fault.rail = r.val) ∧ (∀ q, q ≠ r → t.rl q = s.rl q) ∧
      (∀ h, h ≠ g → t.rails.gate[h] = s.rails.gate[h]) ∧ t.life = s.life ∧ t.isl = s.isl ∧ t.dict = s.dict ∧ t.time = s.time ∧
      t.hold = s.hold ∧ t.keep = s.keep ∧ t.flash = s.flash) ∧
  (∀ r s, s.gated r = true → (s.rl r).mask = false → (s.rl r).status = .pending → (s.rl r).ramped = true →
    s.filterCount r + 2 ≤ (s.rl r).scans →
    s.life.dev = .serve ∨ s.life.dev = .restore ∨ s.life.dev = .boot ∧ s.life.boot ≠ .cold → s.railCfg r 0x0E ≠ 2 →
    stepsWithGroup s = false →
    ∃ t, exec (.railGoodTimeout r) s = .next t ∧ Told 343 s t ∧ (t.rl r).status = .failed ∧ t.driven r = false ∧
      (s.rails.fault.kind = 0 → t.rails.fault.kind = 2 ∧ t.rails.fault.rail = r.val) ∧ (∀ q, q ≠ r → t.rl q = s.rl q) ∧
      t.life = s.life ∧ t.isl = s.isl ∧ t.dict = s.dict ∧ t.time = s.time ∧ t.hold = s.hold ∧ t.keep = s.keep ∧ t.flash = s.flash) ∧
  (∀ g lag r s kind cmd, (kind, cmd) ∈ [(1, Instr.rampLagTrip g lag), (2, .rampTimeout g lag)] → s.rails.gate[g].state = .ramping →
    s.isSourceGate g = false → s.railOf g = some r → s.life.dev = .boot → s.life.boot = .cold → s.life.haltPending = 0 →
    s.outage.phase = .none → outranked 4 s = false →
    ∃ t, exec cmd s = .next t ∧ t.rails.latched = true ∧ (t.life.haltPending = 2 ∨ t.life.dev = .halt ∧ t.life.haltCause = 2)) ∧
  (∀ g lag s kind cmd, (kind, cmd) ∈ [(1, Instr.rampLagTrip g lag), (2, .rampTimeout g lag)] → s.rails.gate[g].state = .ramping →
    s.isSourceGate g = true → s.hold.state ≠ 4 → s.life.dev ≠ .simmer →
    ∃ t, exec cmd s = .next t ∧ Logged (320 + g.val) s t ∧ (s.hold.assist = none → t.rails.gate[g].driven = false) ∧
      t.hold.state = 4 ∧ t.packEst.eg = 0 ∧
      t.bankEst.eg = 0 ∧ t.life = s.life ∧ t.dict = s.dict ∧ Told 343 s t ∧
      (s.rails.fault.kind = 0 → t.rails.fault.kind = kind ∧ t.rails.fault.rail = 0xFF))

/-- ENABLE_GOOD and ENABLE_TIMEOUT (09 R470, R473, R474, R498): the next own supply is enabled; one that is not good in time is released,
its fault latched, and HALT entered with cause 2.
RESET_RELEASE and TRIM_TARGET_REACHED (09 R506, R515): a reset whose stretch has passed is released with its event, and a trim that has
come to its target stands there; nothing else changes. -/
def Obligations.SuppliesResetsAndTrims : Prop :=
  (∀ s, supplyUp s = true →
    ∃ t, exec .enableGood s = .next t ∧ t.rails.pos = s.rails.pos + 1 ∧
      (∀ k : Fin 4, t.rails.en[k] = (s.rails.en[k] || decide (k.val = s.rails.pos + 1))) ∧
      t = { s with rails := { s.rails with pos := t.rails.pos, en := t.rails.en } }) ∧
  (∀ s, supplyUp s = true →
    ∃ t, exec .enableTimeout s = .next t ∧ t.life.dev = .halt ∧ t.life.haltCause = 2 ∧
      t.life.supervisorHalt = decide (s.rails.pos ≠ 3) ∧ (∀ k : Fin 4, k.val = s.rails.pos → t.rails.en[k] = false) ∧
      (∀ k : Fin 4, k.val ≠ s.rails.pos → t.rails.en[k] = s.rails.en[k]) ∧ t.rails.latched = true ∧
      (s.rails.fault.kind = 0 → t.rails.fault.kind = 3 ∧ t.rails.fault.haltCause = 2) ∧ t.keep.lifeEnd = 3) ∧
  (∀ k s, s.rails.rst[k] = .stretching →
    ∃ t, exec (.resetRelease k) s = .next t ∧ Told (336 + k.val) s t ∧ t.rails.rst[k] = .released ∧
      (∀ j, j ≠ k → t.rails.rst[j] = s.rails.rst[j]) ∧ t = withEvents { s with rails := { s.rails with rst := t.rails.rst } } t) ∧
  (∀ k s, s.rails.trim[k].slewing = true → trimCode s k = s.rails.trim[k].target →
    ∃ t, exec (.trimTargetReached k) s = .next t ∧ Told (332 + k.val) s t ∧ t.rails.trim[k].present = s.rails.trim[k].target ∧
      t.rails.trim[k].slewing = false ∧ (∀ j, j ≠ k → t.rails.trim[j] = s.rails.trim[j]) ∧
      t = withEvents { s with rails := { s.rails with trim := t.rails.trim } } t)

/-- TREMOR_ADVANCE (10 R541 to R544, R549, R555 to R558, R563): the line's rise moves the walk to its next state, where a member with
rails of that state ramps or shuts them and holds the line, and one without releases it; the walks begin and end in idle.
The other events of the Tremor line (10 R541, R545, R547 to R549, R551 to R554, R560): the falls, the pulls for requests and for the hold
of a BOOT, the releases, the reset of a spontaneous low and the wait of gathering; nothing but the line's state changes. -/
def Obligations.TremorWalksAndLine : Prop :=
  (∀ s, isMember s = true → s.tremor.pulling = false → s.tremor.walk = .gathering →
    ∃ t, exec .tremorAdvance s = .next t ∧ Told 401 s t ∧ t.tremor.walk = .upWalk ∧ t.tremor.counter = 1 ∧
      (goesUp s = true → upReady s 1 = true → (s.upRails (upGroups s 1) 1 ≠ [] ↔ t.tremor.pulling = true)) ∧
      (goesUp s = false → t.tremor.pulling = false) ∧ t = withEvents { s with tremor := t.tremor, rails := t.rails } t) ∧
  (∀ s, isMember s = true → s.tremor.pulling = false → s.tremor.walk = .upWalk → s.tremor.counter < groupLength s →
    ∃ t, exec .tremorAdvance s = .next t ∧ Told (400 + (s.tremor.counter + 1)) s t ∧ t.tremor.walk = .upWalk ∧
      t.tremor.counter = s.tremor.counter + 1 ∧
      (goesUp s = true → upReady s t.tremor.counter = true →
        ∀ r ∈ s.upRails (upGroups s t.tremor.counter) t.tremor.counter, (t.rl r).status = .ramping ∧ t.tremor.pulling = true) ∧
      t = withEvents { s with tremor := t.tremor, rails := t.rails } t) ∧
  (∀ s, isMember s = true → s.tremor.pulling = false → s.tremor.walk = .upWalk → groupLength s ≤ s.tremor.counter →
    ∃ t, exec .tremorAdvance s = .next t ∧ Told 385 s t ∧ t.tremor = { s.tremor with high := true, low := false, walk := .idleUp } ∧
      t.outage.phase ≠ .returning ∧ (s.outage.phase ≠ .returning → t.outage = s.outage) ∧
      t = withEvents { s with tremor := t.tremor, outage := { s.outage with phase := t.outage.phase } } t) ∧
  (∀ s, isMember s = true → s.tremor.pulling = false → s.tremor.walk = .downWalk → 1 < s.tremor.counter →
    ∃ t, exec .tremorAdvance s = .next t ∧ Told (400 + (s.tremor.counter - 1)) s t ∧ t.tremor.walk = .downWalk ∧
      t.tremor.counter = s.tremor.counter - 1 ∧
      (s.tremor.down = .request → ∀ r ∈ s.downRails [0, 1, 2, 3, 4] t.tremor.counter,
        (t.rl r).status = .off ∧ t.driven r = false ∧ t.tremor.pulling = true) ∧
      t = withEvents { s with tremor := t.tremor, rails := t.rails } t) ∧
  (∀ s, isMember s = true → s.tremor.pulling = false → s.tremor.walk = .downWalk → s.tremor.counter ≤ 1 → s.tremor.down ≠ .request →
    s.tremor.down = .none ∨ s.life.dev ≠ .warn →
    ∃ t, exec .tremorAdvance s = .next t ∧ Told 387 s t ∧
      t.tremor = { s.tremor with high := true, low := false, walk := .idleDown, counter := 0, down := .none } ∧
      t = withEvents { s with tremor := t.tremor } t) ∧
  (∀ s, isMember s = true → s.tremor.pulling = false → s.tremor.walk = .idleUp ∨ s.tremor.walk = .idleDown → s.tremor.asked = true →
    ∃ t, exec .tremorAdvance s = .next t ∧ Told 386 s t ∧ t.tremor.walk = .downWalk ∧ t.tremor.counter = groupLength s ∧
      t.tremor.down = s.tremor.wantDown ∧ t.tremor.wantDown = .none ∧ t.tremor.asked = false ∧
      t = withEvents { s with tremor := t.tremor, rails := t.rails } t) ∧
  (∀ s, isMember s = true → s.tremor.pulling = false → s.tremor.walk = .idleUp ∨ s.tremor.walk = .idleDown → s.tremor.asked = false →
    exec .tremorAdvance s = .next { s with tremor := { s.tremor with high := true, low := false } }) ∧
  (∀ s, isMember s = true → s.tremor.pulling = true → workDone s = true → s.tremor.bootHold = false →
    exec .tremorRelease s = .next { s with tremor := { s.tremor with pulling := false } }) ∧
  (∀ s, isMember s = true → s.tremor.pulling = true → workDone s = true → s.tremor.bootHold = true →
    exec .tremorRelease s =
      .next { s with tremor := { s.tremor with pulling := false, bootHold := false, walk := .gathering, counter := 0 } }) ∧
  (∀ s, s.tremor.pulling = true → workDone s = false → exec .tremorRelease s = .next s) ∧
  (∀ s, s.tremor.walk = .idleUp ∨ s.tremor.walk = .idleDown →
    exec .tremorLineFall s = .next { s with tremor := { s.tremor with high := false, low := true } }) ∧
  (∀ s, s.tremor.walk ≠ .idleUp → s.tremor.walk ≠ .idleDown →
    exec .tremorLineFall s = .next { s with tremor := { s.tremor with high := false } }) ∧
  (∀ s, isMember s = true → lineIdle s = true → s.tremor.low = true →
    ∃ t, exec .tremorReset s = .next t ∧ Told 388 s t ∧ t.tremor.walk = .gathering ∧ t.tremor.counter = 0 ∧ t.tremor.low = false ∧
      t.tremor.pulling = s.tremor.pulling ∧ t = withEvents { s with tremor := t.tremor } t) ∧
  (∀ s, isMember s = true → lineIdle s = true → s.tremor.low = true → s.tremor.bootHold = false →
    exec .tremorDownRequest s =
      .next { s with tremor := { s.tremor with low := false, high := true, pulling := false, asked := true } }) ∧
  (∀ s, stepsWithGroup s = true → lineIdle s = true → s.tremor.wantDown ≠ .none → s.tremor.pulling = false → s.tremor.low = false →
    exec .tremorSendDownRequest s =
      .next { s with tremor := { s.tremor with pulling := true, high := false, heldAt := s.time.now, low := true } }) ∧
  (∀ s, stepsWithGroup s = true → lineIdle s = true → s.tremor.wantReset = true → s.tremor.pulling = false → s.tremor.low = false →
    exec .tremorSendReset s =
      .next { s with tremor := { s.tremor with pulling := true, high := false, heldAt := s.time.now, low := true } }) ∧
  (∀ s, s.life.dev = .boot → s.life.boot = .cold → isMember s = true → s.tremor.bootHold = false → s.tremor.walk = .idleDown →
    exec .tremorBootHold s =
      .next { s with tremor := { s.tremor with pulling := true, high := false, heldAt := s.time.now, bootHold := true, low := true } }) ∧
  (∀ s, s.life.dev = .boot → isMember s = true → s.tremor.walk = .gathering →
    ∃ t, exec .gatherWaiting s = .next t ∧ Told 392 s t ∧ t = withEvents s t)

/-- TREMOR_STEP_TIMEOUT and TREMOR_WIRE_FAULT (10 R570 to R577; 09 R498): the member is in fault and holds the line low, its fault is
latched with the state it stood in; in service the outage path of a fatal fault starts, and a BOOT fails with cause 2. -/
def Obligations.TremorFaults : Prop :=
  ∀ s ev kind cmd,
    (cmd = Instr.tremorStepTimeout ∧ ev = 389 ∧ kind = 8 ∧ s.tremor.pulling = false ∧ stepTimed s = true ∨
      cmd = .tremorWireFault ∧ ev = 390 ∧ kind = 9 ∧ s.tremor.pulling = true) → stepsWithGroup s = true →
    (s.life.dev ∉ [DevState.boot, .serve, .restore, .warn] →
      ∃ t, exec cmd s = .next t ∧ Told ev s t ∧ t.tremor.walk = .fault ∧ t.tremor.pulling = true ∧ t.tremor.high = false ∧
        t.tremor.counter = s.tremor.counter ∧ t.tremor.wantDown = .none ∧ t.rails.latched = true ∧
        (s.rails.fault.kind = 0 → t.rails.fault.kind = kind ∧ t.rails.fault.position = s.tremor.counter) ∧
        t = withEvents { s with tremor := t.tremor, rails := { s.rails with fault := t.rails.fault, latched := true } } t) ∧
    (s.life.dev = .serve ∨ s.life.dev = .restore ∨ (s.life.dev = .boot ∧ ∃ d, s.life.boot = .warm d) →
      ∃ t, exec cmd s = .next t ∧ Logged ev s t ∧ t.tremor.walk = .fault ∧ t.tremor.pulling = true ∧ t.rails.latched = true ∧
        t.life.dev = .warn ∧ t.life.fatalPath = true) ∧
    (s.life.dev = .boot → s.life.boot = .cold → s.life.haltPending = 0 → outranked 4 s = false →
      ∃ t, exec cmd s = .next t ∧ t.tremor.walk = .fault ∧ t.rails.latched = true ∧
        (t.life.haltPending = 2 ∨ t.life.dev = .halt ∧ t.life.haltCause = 2))

/-- INPUT_FAIL, SUPERVISOR_LED_OUTAGE and DRAIN_POINT (11 R578, R584 to R587, R608; 02 R80; 03 R118; 04 R143): service ends in WARN with the
outage policy then in force and the lock closed; in SIMMER only the lines follow; a firmware that does not answer restarts on the
path; from the drain point on PUTs are not taken.
WARN_WINDOW_END, DRVACT_LOW, DRIVE_ACTIVE_STUCK and DRIVE_SETTLE_END (11 R588, R591 to R597; 02 *When things meet*): fetching stops at the
end of the warn window; the settle window starts when the drives in use are idle, or without them after the longest wait; its end
lets the drive group go down, or every rail of an interrupted BOOT. -/
def Obligations.OutageBegins : Prop :=
  (∀ s, s.life.dev = .serve ∨ s.life.dev = .restore → s.life.restarting = false → outranked 5 s = false →
    ∃ t, exec .inputFail s = .next t ∧ Logged 448 s t ∧ Logged 64 s t ∧ t.life.dev = .warn ∧ t.life.prev = s.life.dev ∧
      t.life.fatalPath = false ∧ t.hold.failed = true ∧ t.rails.pfwLow = true ∧ t.mode.lock = false ∧
      t.mode.outageInForce = (outageEffective s).1 ∧
      t.outage.phase = (if s.cfg 0x2800 1 = 1 then .drain else .warnWindow) ∧ t.outage.warnEnded = false ∧
      t.outage.settled = false ∧ t.pack.enable = false ∧ t.bank.enable = false ∧ (∀ k : Fin 6, t.hold.bal[k] = false) ∧
      t.dict = s.dict ∧ t.time = s.time ∧ t.tremor = s.tremor ∧
      (t.keep = s.keep ∨ s.win[(0 : Fin 7)].status = 3 ∧ t.keep = { s.keep with pending := true })) ∧
  (∀ s, s.life.dev = .warn ∨ s.life.dev = .simmer →
    ∃ t, exec .inputFail s = .next t ∧ Told 448 s t ∧ t.hold.failed = true ∧ t.rails.pfwLow = true ∧
      t = withEvents { s with hold := { s.hold with failed := true, state := t.hold.state }, rails := { s.rails with pfwLow := true } } t) ∧
  (∀ s, s.life.dev = .warn → s.outage.supervisorLed = false → s.outage.warnEnded = false → s.life.fatalPath = false →
    s.life.restarting = false →
    ∃ t, exec .supervisorLedOutage s = .next t ∧ Logged 464 s t ∧ t.outage = { s.outage with supervisorLed := true } ∧
      t.life.dev = .warn ∧ t.life.selfRefresh = true ∧ t.life.restarting = true ∧ t.life.bootStep = 6 ∧ t.life.resetCause = 7 ∧
      t.life.bootCount = s.life.bootCount + 1 ∧ t.time.timeBase = 0 ∧ t.dict = s.dict) ∧
  (∀ s, s.life.dev = .warn → s.outage.phase = .warnWindow →
    exec .drainPoint s = .next { s with outage := { s.outage with drained := true, phase := .drain } }) ∧
  (∀ s, s.life.dev = .warn → s.outage.warnEnded = false → outranked 2 s = false →
    ∃ t, exec .warnWindowEnd s = .next t ∧ Logged 452 s t ∧ t.outage.warnEnded = true ∧ t.outage.drained = true ∧
      t.port.fetchStopped = true ∧ 
      (drvactAllLow s = true → s.outage.settling = false → s.outage.settled = false → t.outage.settling = true ∧ Logged 453 s t) ∧
      t.time = s.time ∧ t.nor = s.nor ∧ t.packEst = s.packEst ∧ t.bankEst = s.bankEst) ∧
  (∀ k s, s.life.dev.supervised = true → s.life.dev ≠ .warn ∨ s.outage.warnEnded = false →
    exec (.drvactLow k) s = .next { s with outage := { s.outage with drvactLow := vset s.outage.drvactLow k true } }) ∧
  (∀ k s, s.life.dev = .warn → s.outage.warnEnded = true → s.outage.settling = false →
    (∀ j, j ≠ k → (s.cfg 0x2800 4).testBit j.val = true → s.outage.drvactLow[j] = true) →
    ∃ t, exec (.drvactLow k) s = .next t ∧ Logged 453 s t ∧ t.outage.drvactLow[k] = true ∧ t.outage.settling = true ∧
      t.time = s.time ∧ t.nor = s.nor ∧ t.packEst = s.packEst ∧ t.bankEst = s.bankEst) ∧
  (∀ s, s.life.dev = .warn → s.outage.warnEnded = true → s.outage.settling = false → drvactAllLow s = false →
    ∃ t, exec .driveActiveStuck s = .next t ∧ Logged 454 s t ∧ Logged 453 s t ∧ t.outage.settling = true ∧ t.time = s.time ∧
      t.nor = s.nor ∧ t.packEst = s.packEst ∧ t.bankEst = s.bankEst) ∧
  (∀ s, s.life.dev = .warn → s.outage.settling = true → s.outage.settled = false → outranked 2 s = false →
    ∃ t, exec .driveSettleEnd s = .next t ∧ t.outage.settled = true ∧ t.time = s.time ∧ t.nor = s.nor ∧ t.packEst = s.packEst ∧
      t.bankEst = s.bankEst) ∧
  (∀ q s, s.life.dev = .boot → s.outage.phase = .settle → goesDown s.rails.walk = false → s.nextDown everyGroup 12 = some q →
    ∃ t, exec .driveSettleEnd s = .next t ∧ t.rails.walk = .down everyGroup ∧ t.rails.pos = q ∧
      (∀ r ∈ s.downRails everyGroup q, (t.rl r).status = .off ∧ t.driven r = false) ∧ t = { s with rails := t.rails })

/-- SINTER_DEADLINE_EXPIRY, SIMMER_TIMER_EXPIRY and DEADLINE_ACK_TIMEOUT (11 R617, R619, R621, R628, R630): SIMMER ends in SINTER with the
cause and an open epoch; with DRAM lost HALT follows; while the firmware restarts the Sinter waits; a firmware that does not
answer restarts.
SINTER_COPY_COMPLETE and MANIFEST_COMMITTED (11 R623 to R625, R629, R631, R636, R640; 06 R320 to R323; 09 R525, R529): the copy ends with its bytes,
time and energy; the commit reports them and leads to KEEP, to HALT with cause 4 on the path of a fatal fault, or back to service
when power has returned. -/
def Obligations.SimmerAndSinterEnd : Prop :=
  (∀ s c cmd, (c, cmd) ∈ [(2, Instr.sinterDeadlineExpiry), (3, .simmerTimerExpiry)] → s.life.dev = .simmer →
    s.life.restarting = false → s.outage.deadline ≠ none → s.life.dramLost = false → outranked 2 s = false →
    ∃ t, exec cmd s = .next t ∧ Logged 458 s t ∧ Logged 64 s t ∧ t.life.dev = .sinter ∧ t.life.prev = .simmer ∧
      t.outage.phase = .copy ∧ t.outage.sinterCause = c ∧ t.outage.deadline = none ∧ t.outage.bytes = 0 ∧
      t.outage.lastSimmer = (s.time.now - s.outage.simmerAt) / 1000000 ∧ t.life.selfRefresh = false ∧ t.flash.preSinter = false ∧
      t.flash.open_ ≠ [] ∧ t.dict = s.dict ∧ t.time = s.time ∧ t.nor = s.nor ∧ t.keep = s.keep) ∧
  (∀ s cmd, cmd ∈ [Instr.sinterDeadlineExpiry, .simmerTimerExpiry] → s.life.dev = .simmer → s.life.restarting = false →
    s.outage.deadline ≠ none → s.life.dramLost = true → outranked 2 s = false →
    ∃ t, exec cmd s = .next t ∧ t.life.dev = .halt ∧ t.life.haltCause = 4) ∧
  (∀ s, s.life.dev = .simmer → s.life.restarting = true → outranked 2 s = false →
    exec .simmerTimerExpiry s = .next { s with outage := { s.outage with deadline := none } }) ∧
  (∀ s, s.life.dev = .simmer → s.life.restarting = false →
    ∃ t, exec .deadlineAckTimeout s = .next t ∧ t.outage = { s.outage with deadline := none } ∧ t.life.dev = .simmer ∧
      t.life.restarting = true ∧ t.life.bootStep = 6 ∧ t.life.resetCause = 7 ∧ t.time.timeBase = 0 ∧ t.dict = s.dict) ∧
  (∀ e d s, s.life.dev = .sinter → s.outage.phase = .copy → s.life.restarting = false →
    ∃ t, exec (.sinterCopyComplete e d) s = .next t ∧
      t.outage = { s.outage with
        phase := .commit, duration := d, energy := e, bytes := 4096 * (countSlots s.cache toCopy - countSlots t.cache toCopy) } ∧
      t = withEvents { s with cache := t.cache, flash := t.flash, outage := t.outage } t) ∧
  (∀ s, s.life.dev = .sinter → s.outage.phase = .commit → s.life.restarting = false →
    ∃ t, exec .manifestCommitted s = .next t ∧
      (s.life.fatalPath = false → s.outage.returned = false → t.life.dev = .keep ∧ t.outage.phase = .keep ∧ t.keep.lifeEnd = 2 ∧
        (s.life.socKnown = true → t.packEst.keepCounter = s.packEst.counter)) ∧
      (s.life.fatalPath = true → t.life.dev = .halt ∧ t.life.haltCause = 4 ∧ t.keep.lifeEnd = 3) ∧
      (s.life.fatalPath = false → s.outage.returned = true → t.life.prev = .sinter ∧
        t.life.dev = (if s.life.fromRestore && decide (0 < unrestoredCount s.cache) then .restore else .serve) ∧ Logged 460 s t) ∧
      t.outage.lastBytes = s.outage.bytes ∧ t.outage.lastDuration = s.outage.duration ∧ t.outage.lastEnergy = s.outage.energy)

/-- POWER_RETURN, KEEP_TIME_EXPIRY and KEEP_FLOOR_REACHED (11 R606, R633 to R640; 02 R63 to R65, R97; 09 R525): WARN and SIMMER return to
service, a Sinter goes on and remembers it, KEEP boots; KEEP ends in SLEEP with the outputs off. A timer or completion that a
condition of higher rank meets in the same SUPERVISOR cycle starts nothing (02 R65; log 118). -/
def Obligations.PowerReturns : Prop :=
  (∀ s, s.life.dev = .warn ∨ s.life.dev = .simmer → s.hold.failed = true → s.life.fatalPath = false →
    outranked 3 s = false →
    ∃ t, exec .powerReturn s = .next t ∧ Logged 451 s t ∧ t.life.prev = s.life.dev ∧
      t.life.dev = (if s.life.fromRestore && decide (0 < unrestoredCount s.cache) then .restore else .serve) ∧ t.hold.failed = false ∧
      t.hold.sag = false ∧ t.rails.pfwLow = false ∧ t.outage.warnEnded = false ∧ t.outage.deadline = none ∧
      t.life.haltRepeat = 0 ∧ t.life.selfRefresh = false ∧ t.port.fetchStopped = false ∧ t.dict = s.dict ∧ t.time = s.time ∧
      t.nor = s.nor ∧ t.keep = s.keep) ∧
  (∀ s, s.life.dev = .sinter → s.hold.failed = true → s.life.fatalPath = false →
    outranked 3 s = false →
    ∃ t, exec .powerReturn s = .next t ∧ Logged 451 s t ∧ t.outage = { s.outage with returned := true } ∧ t.hold.failed = false ∧
      t = withEvents { s with hold := t.hold, outage := t.outage } t) ∧
  (∀ s, s.life.dev = .keep → s.hold.failed = true → s.life.fatalPath = false →
    outranked 3 s = false →
    ∃ t, exec .powerReturn s = .next t ∧ t.life.dev = .boot ∧ t.life.boot = .cold ∧ t.life.resetCause = 2 ∧ t.life.bootStep = 1 ∧
      t.time.timeBase = 0 ∧ t.life.bootCount = (keepBody s.keep).bootCount + 1) ∧
  (∀ s cmd, s.life.dev = .keep →
    cmd = Instr.keepTimeExpiry ∨ cmd = .keepFloorReached ∧ aboveFloor s .pack = false ∧ aboveFloor s .bank = false →
    s.life.wakeHeld = false → outranked 2 s = false →
    ∃ t, exec cmd s = .next t ∧ t.life.dev = .sleep ∧ t.life.prev = .keep ∧ t.keep.lifeEnd = 1 ∧ t.time.wallSet = false ∧
      t.rails.released = true ∧ (∀ g : Fin 8, t.rails.gate[g].driven = false) ∧ (∀ k : Fin 4, t.rails.en[k] = false) ∧
      t.hold.en = false ∧ t.dict = s.dict ∧ t.nor = s.nor) ∧
  (∀ s cmd, cmd ∈ [Instr.keepTimeExpiry, .keepFloorReached, .sinterDeadlineExpiry, .simmerTimerExpiry, .warnWindowEnd,
      .restoreComplete, .inputQualifyTimeout, .bootStepTimeout] → outranked 2 s = true → exec cmd s = .next s)

/-- VKEEP_COLLAPSE, VKEEP_RISE and WAKE (02 R54, R99 to R101, R109; 09 R520, R523): a collapse leaves what VKEEP, the NOR and the flash hold and
nothing else; with VKEEP the controller boots or sleeps by WAKE_N; a wake boots from SLEEP and KEEP and is remembered while SLEEP is
being entered, or where a fatal fault meets it in KEEP (log 118). -/
def Obligations.PowerAndWake : Prop :=
  (∀ a b s, s.life.dev ≠ .off →
    ∃ t, exec (.vkeepCollapse a b) s = .next t ∧ t.life.dev = .off ∧ t.life.boot = .none ∧ t.cache.slots = [] ∧ t.dict = Dict.reset ∧
      t.isl = Islands.reset ∧ t.ev = Events.reset ∧ t.port = Port.reset ∧ t.win = Vector.replicate 7 Win.reset ∧ t.time.wallSet = false ∧ t.rails.released = true ∧
      (∀ g : Fin 8, t.rails.gate[g].driven = false) ∧ (a = false → t.keep = { s.keep with pending := false }) ∧
      (b = false → s.win[(0 : Fin 7)].status ≠ 3 → t.nor = { s.nor with storing := none }) ∧
      t.flash.committed = s.flash.committed ∧ t.flash.die = s.flash.die) ∧
  (∀ s, s.life.dev = .off →
    ∃ t, exec (.vkeepRise true) s = .next t ∧ t.life.dev = .sleep ∧ t.life.wakeHigh = true ∧ t.keep = s.keep ∧ t.nor = s.nor ∧
      t.flash = s.flash ∧ t.dict = s.dict) ∧
  (∀ s, s.life.dev = .off →
    ∃ t, exec (.vkeepRise false) s = .next t ∧ t.life.dev = .boot ∧ t.life.boot = .cold ∧ t.life.resetCause = 0 ∧ t.life.bootStep = 1 ∧
      t.time.timeBase = 0 ∧ t.life.bootCount = (keepBody s.keep).bootCount + 1) ∧
  (∀ s c, (s.life.dev = .sleep ∧ c = 1 ∨ s.life.dev = .keep ∧ outranked 3 s = false ∧ c = 2) →
    ∃ t, exec .wake s = .next t ∧ t.life.dev = .boot ∧ t.life.boot = .cold ∧ t.life.resetCause = c ∧ t.life.bootStep = 1 ∧
      t.time.timeBase = 0 ∧ t.life.bootCount = (keepBody s.keep).bootCount + 1 ∧ t.mode.lock = false ∧ t.mode.expert = none ∧
      t.dict.values = [] ∧ t.flash.committed = s.flash.committed ∧
      (c = 1 ∨ s.keep.pending = false → t.keep.copyA = s.keep.copyA ∧ t.keep.copyB = s.keep.copyB)) ∧
  (∀ s, s.life.dev = .keep → outranked 3 s = true →
    exec .wake s = .next { s with life := { s.life with wakeHigh := false, wakeHeld := true } }) ∧
  (∀ s, s.life.dev ≠ .sleep → s.life.dev ≠ .keep →
    exec .wake s = .next { s with life := { s.life with wakeHigh := false, wakeHeld := s.life.wakeHeld || s.life.afterDown == 4 } })

/-- BOOT_STEP_COMPLETE of the steps before the configuration (02 R68, R69, R81, R85, R88; 09 R470; 01 R40): each step that ends starts the
next, the supplies rise, the clock is the crystal's again, and the firmware that verifies runs, or HALT follows with cause 1.
BOOT_STEP_COMPLETE from the configuration on (02 R68, R72 to R77, R107; 03 R120; 04 R158; 07 R369; 12 R648, R692): the stored
configuration is in force and CAN FD up, the hold-up is armed, DRAM's slots and the log are there, the dies are found, and the BOOT
ends in service. -/
def Obligations.BootSteps : Prop :=
  (∀ r s, boots s = true → s.life.bootStep = 1 → ∃ t, exec (.bootStepComplete r) s = .next t ∧ t.life = { s.life with bootStep := 3 } ∧
    t.dict = s.dict ∧ t.rails = s.rails ∧ t.keep = s.keep ∧ t.flash = s.flash ∧ t.nor = s.nor) ∧
  (∀ s, boots s = true → s.life.bootStep = 3 → s.life.step2Done = false →
    ∃ t, exec (.bootStepComplete .done) s = .next t ∧ Told 307 s t ∧
      t = withEvents { s with life := { s.life with step2Done := true, scanReduced := false } } t) ∧
  (∀ s, boots s = true → s.life.bootStep = 3 → s.life.step2Done = true →
    ∃ t, exec (.bootStepComplete .done) s = .next t ∧ t.life = { s.life with bootStep := 4 } ∧ t.rails.pos = 0 ∧
      t.rails.en[(0 : Fin 4)] = true ∧ (∀ k : Fin 4, k ≠ 0 → t.rails.en[k] = s.rails.en[k]) ∧ t.dict = s.dict ∧ t.keep = s.keep) ∧
  (∀ s, boots s = true → s.life.bootStep = 4 → s.rails.pos = 4 →
    ∃ t, exec (.bootStepComplete .done) s = .next t ∧ t.life = { s.life with bootStep := 5 } ∧ t.rails = s.rails ∧ t.dict = s.dict ∧
      t.keep = s.keep) ∧
  (∀ s, boots s = true → s.life.bootStep = 5 → s.life.trialState = 0 →
    ∃ t, exec (.bootStepComplete .done) s = .next t ∧
      t.life = { s.life with bootStep := 6, fwTrial := false, fwFallback := false, otherSlot := false, otherTrial := false } ∧ t.time = { s.time with onRc := false } ∧
      t.rails = s.rails ∧ t.dict = s.dict ∧ t.keep = s.keep) ∧
  (∀ a b av bv ar br s, boots s = true → s.life.bootStep = 6 → s.life.otherSlot = false →
    (if chosenB s then b && s.nor.slotB.whole else a && s.nor.slotA.whole) = true →
    ∃ t, exec (.bootStepComplete (.firmware a b av bv ar br)) s = .next t ∧ t.life.bootStep = 7 ∧ t.life.runningB = chosenB s ∧
      t.life.fwVersion = (if chosenB s then bv else av) ∧ t.life.fwFallback = s.life.fwFallback ∧ t.dict = s.dict ∧ t.rails = s.rails ∧
      t.keep = s.keep) ∧
  (∀ a b av bv ar br s, boots s = true → s.life.bootStep = 6 → s.life.otherSlot = false →
    (if chosenB s then b && s.nor.slotB.whole else a && s.nor.slotA.whole) = false →
    (if chosenB s then a && s.nor.slotA.whole else b && s.nor.slotB.whole) = true →
    ∃ t, exec (.bootStepComplete (.firmware a b av bv ar br)) s = .next t ∧ t.life.bootStep = 7 ∧ t.life.runningB = !chosenB s ∧
      t.life.fwFallback = true ∧ t.life.fwTrial = false ∧ t.dict = s.dict ∧ t.rails = s.rails) ∧
  (∀ a b av bv ar br s, boots s = true → s.life.bootStep = 6 → s.life.otherSlot = true →
    (if chosenB s then a && s.nor.slotA.whole else b && s.nor.slotB.whole) = true →
    ∃ t, exec (.bootStepComplete (.firmware a b av bv ar br)) s = .next t ∧ t.life.bootStep = 7 ∧ t.life.runningB = !chosenB s ∧
      t.life.fwFallback = s.life.fwFallback ∧ t.dict = s.dict ∧ t.rails = s.rails ∧ t.keep = s.keep) ∧
  (∀ a b av bv ar br s, boots s = true → coldRuns s = true → s.life.bootStep = 6 → (a && s.nor.slotA.whole) = false →
    (b && s.nor.slotB.whole) = false →
    ∃ t, exec (.bootStepComplete (.firmware a b av bv ar br)) s = .next t ∧ t.life.dev = .halt ∧ t.life.haltCause = 1 ∧ t.keep.lifeEnd = 3) ∧
  (∀ s, boots s = true → coldRuns s = true → s.life.bootStep = 7 → isSticky s = false →
    ∃ t, exec (.bootStepComplete .done) s = .next t ∧ t.life.bootStep = 8 ∧ t.life.dev = .boot ∧
      t.dict.values = (applyStored (fun _ => true) s).dict.values ∧ t.isl.undelivered = [] ∧ t.can.nmt = .preOperational ∧
      t.can.node = valueIn (storedValues s.nor) 0x2003 1 ∧ t.keep = s.keep ∧ t.flash = s.flash) ∧
  (∀ d s, boots s = true → s.life.dev = .boot → s.life.boot = .warm d → s.life.bootStep = 7 → s.life.restarting = false → bootYields s = false →
    (∀ i ∈ [Island.supervisor, .host, .memory, .flash], s.island i ≠ .fault) →
    ∃ t, exec (.bootStepComplete .done) s = .next t ∧ t.life.dev = d ∧ t.life.boot = .none ∧ t.life.bootStep = 12 ∧
      t.life.haltRepeat = 0 ∧ t.life.selfRefresh = false ∧ t.can.nmt = .preOperational ∧ t.keep.lifeEnd = 0) ∧
  (∀ s, boots s = true → s.life.dev = .sinter → s.life.restarting = true → s.life.bootStep = 7 →
    ∃ t, exec (.bootStepComplete .done) s = .next t ∧ t.life.dev = .sinter ∧ t.life.restarting = false ∧ t.life.bootStep = 12 ∧
      t.outage = s.outage) ∧
  (∀ s, boots s = true → s.life.bootStep = 8 → memoryUp s = true →
    ∃ t, exec (.bootStepComplete .done) s = .next t ∧ t.life = { s.life with bootStep := 9 } ∧ t.hold.en = true ∧
      t.hold.packClosed = true ∧ t.hold.bankClosed = true ∧ t.dict = s.dict ∧ t.keep = s.keep ∧ t.flash = s.flash) ∧
  (∀ gib s, boots s = true → s.life.bootStep = 9 →
    ∃ t, exec (.bootStepComplete (.dram gib)) s = .next t ∧
      t.life = { s.life with bootStep := 10, dramGib := gib, dramLost := false } ∧
      t.cache.usable = slotCount gib (s.cfg 0x2020 5) ∧ t.ev.started = true ∧ t.dict = s.dict ∧ t.keep = s.keep ∧ t.flash = s.flash) ∧
  (∀ ds i rt dn bad s, boots s = true → s.life.bootStep = 10 →
    ∃ t, exec (.bootStepComplete (.flash ds i rt dn bad)) s = .next t ∧ t.life.bootStep = 11 ∧ t.flash.interface = i ∧
      t.flash.rate = min rt (s.cfg 0x2900 3) ∧
      (∀ d : Fin 16, ∀ b g c, ds[d.val]? = some (.accepted b g c) →
        t.flash.die[d].state = (if s.flash.die[d].retiredInTable then .retired else .active) ∧ t.flash.die[d].blocks = b ∧
        t.flash.die[d].pages = (if s.cfg 0x2900 8 = 0 then g else s.cfg 0x2900 8) ∧ t.flash.die[d].c = c) ∧
      (∀ d : Fin 16, ds[d.val]?.getD .missing = .missing → chainUses s.flash d = false → t.flash.die[d].state = .absent) ∧
      t.dict = s.dict ∧ t.keep = s.keep) ∧
  (∀ s, boots s = true → coldRuns s = true → s.life.restarting = false → s.life.bootStep = 11 → hostSideUp s = true →
    bootYields s = false →
    (∀ i ∈ [Island.supervisor, .host, .memory, .flash], s.island i ≠ .fault) →
    ∃ t, exec (.bootStepComplete .done) s = .next t ∧
      t.life.dev = (if 0 < unrestoredCount s.cache then .restore else .serve) ∧ t.life.boot = .none ∧ t.life.bootStep = 12 ∧
      t.life.haltRepeat = 0 ∧ t.port.ready = true ∧ t.rails.pfwLow = false ∧ Logged 65 s t ∧ t.dict = s.dict ∧ t.keep.lifeEnd = 0)

/-- BOOT_STEP_TIMEOUT and INPUT_QUALIFY_TIMEOUT (02 R68, **BOOT steps**): a step that outruns its bound goes on without what it waited for,
or the BOOT fails with the step's HALT cause; an input that does not qualify leads to SLEEP.
WATCHDOG_EXPIRY, TRIAL_CONFIRM, RESTORE_PROGRESS_UPDATE and RESTORE_COMPLETE (02 R78 to R80, R84, R95, R96; 06 R299): a warm BOOT, a restart on
the outage path, or at the third expiry within 10 min the path of a fatal fault; the trial slot becomes the active one; the
restore shows its progress and ends in SERVE. -/
def Obligations.BootFailuresAndRestarts : Prop :=
  (∀ s, boots s = true → s.life.bootStep = 1 → outranked 2 s = false →
    ∃ t, exec .bootStepTimeout s = .next t ∧ t.life = { s.life with bootStep := 3 } ∧ t.rails = s.rails ∧ t.dict = s.dict) ∧
  (∀ s, boots s = true → s.life.bootStep = 5 → s.life.trialState = 0 → outranked 2 s = false →
    ∃ t, exec .bootStepTimeout s = .next t ∧ t.life = { s.life with bootStep := 6, fwTrial := false, fwFallback := false, otherSlot := false, otherTrial := false } ∧
      t.time = s.time ∧ t.rails = s.rails ∧ t.dict = s.dict) ∧
  (∀ s n c, boots s = true → (n, c) ∈ [(4, 2), (9, 3)] → s.life.bootStep = n → outranked 2 s = false →
    ∃ t, exec .bootStepTimeout s = .next t ∧ t.life.dev = .halt ∧ t.life.haltCause = c ∧ t.keep.lifeEnd = 3) ∧
  (∀ s, boots s = true → coldRuns s = true → s.life.bootStep = 6 → s.life.otherSlot = true → outranked 2 s = false →
    ∃ t, exec .bootStepTimeout s = .next t ∧ t.life.dev = .halt ∧ t.life.haltCause = 1) ∧
  (∀ s, boots s = true → s.life.bootStep = 6 → s.life.otherSlot = false → outranked 2 s = false →
    ∃ t, exec .bootStepTimeout s = .next t ∧ Told 67 s t ∧ t.life.bootStep = 6 ∧ t.life.otherSlot = true ∧
      t.life.fwFallback = true ∧ t.life.fwTrial = false ∧ t.life.dev = s.life.dev ∧ t.rails = s.rails ∧ t.dict = s.dict ∧
      t.time = s.time) ∧
  (∀ s, boots s = true → s.life.bootStep = 10 → outranked 2 s = false →
    ∃ t, exec .bootStepTimeout s = .next t ∧ t.life.bootStep = 11 ∧ t.life.imageAbsent = true ∧ t.dict = s.dict ∧
      t.flash = s.flash ∧ t.cache.slots = s.cache.slots) ∧
  (∀ s, boots s = true → s.life.bootStep = 8 ∨ s.life.bootStep = 11 → outranked 2 s = false →
    ∃ t, exec .bootStepTimeout s = .next t ∧ (t.life.haltPending = 2 ∨ t.life.dev = .halt ∧ t.life.haltCause = 2)) ∧
  (∀ s, boots s = true → coldRuns s = true → s.life.bootStep = 3 → s.life.wakeHeld = false → outranked 2 s = false →
    ∃ t, exec .inputQualifyTimeout s = .next t ∧ t.life.dev = .sleep ∧ t.keep.lifeEnd = 1 ∧ t.time.wallSet = false ∧
      t.rails.released = true ∧ t.dict = s.dict ∧ t.nor = s.nor) ∧
  (∀ s, watched s = true → (s.life.watchdogTimes.filter (fun e => decide (s.time.now < e + tenMinutes))).length < 2 →
    s.life.dev = .serve ∨ s.life.dev = .restore → outranked 2 s = false →
    ∃ t, exec .watchdogExpiry s = .next t ∧ Logged 74 s t ∧ t.life.dev = .boot ∧ t.life.boot = .warm s.life.dev ∧ t.life.resetCause = 4 ∧
      t.life.bootStep = 6 ∧ t.life.bootCount = s.life.bootCount + 1 ∧ t.time.timeBase = 0 ∧ t.mode.lock = false ∧ t.dict = s.dict) ∧
  (∀ s, watched s = true → (s.life.watchdogTimes.filter (fun e => decide (s.time.now < e + tenMinutes))).length < 2 →
    s.life.dev ∈ [DevState.warn, .simmer, .sinter] → s.life.restarting = false →
    ∃ t, exec .watchdogExpiry s = .next t ∧ Logged 74 s t ∧ t.life.dev = s.life.dev ∧ t.life.restarting = true ∧ t.life.resetCause = 7 ∧
      t.life.bootStep = 6 ∧ t.outage = s.outage ∧ t.dict = s.dict) ∧
  (∀ s, watched s = true → (s.life.watchdogTimes.filter (fun e => decide (s.time.now < e + tenMinutes))).length < 2 →
    s.life.dev ∉ [DevState.serve, .restore, .warn, .simmer, .sinter] →
    ∃ t, exec .watchdogExpiry s = .next t ∧ Told 74 s t ∧
      t = withEvents { s with life := { s.life with watchdogTimes := t.life.watchdogTimes } } t) ∧
  (∀ s, watched s = true → 2 ≤ (s.life.watchdogTimes.filter (fun e => decide (s.time.now < e + tenMinutes))).length →
    s.life.dev = .serve ∨ s.life.dev = .restore → s.life.restarting = false →
    ∃ t, exec .watchdogExpiry s = .next t ∧ Logged 74 s t ∧ t.life.dev = .warn ∧ t.life.fatalPath = true ∧ t.life.restarting = true ∧
      t.life.bootStep = 6 ∧ t.dict = s.dict) ∧
  (∀ s, s.life.fwTrial = true → s.life.dev = .serve ∨ s.life.dev = .restore →
    ∃ t, exec .trialConfirm s = .next t ∧ Told 68 s t ∧
      t = withEvents { s with
        life := { s.life with activeB := s.life.runningB, trialState := 0, trialUsed := 0, fwTrial := false }
        keep := { s.keep with pending := true } } t) ∧
  (∀ s, s.life.dev = .restore →
    exec .restoreProgressUpdate s = .next { s with flash := { s.flash with
      restoreDoneShown := s.flash.restoreDone, restoreRemaining := restoreTime (unrestoredCount s.cache) } }) ∧
  (∀ s, s.life.dev = .restore → unrestoredCount s.cache = 0 → outranked 2 s = false →
    ∃ t, exec .restoreComplete s = .next t ∧ Logged 66 s t ∧ t.life.dev = .serve ∧ t.life.prev = .restore ∧
      t.flash.restoring = false ∧ t.flash.restoreDoneShown = s.flash.restoreDone ∧ t.dict = s.dict ∧ t.time = s.time ∧ t.keep = s.keep)

/-- The NMT commands (04 R158, R162 to R164, R190; 03 R128): the node follows a command that names it or all, and a reset of the node or of
its communication starts the CAN FD layer with the stored configuration; a command for another node changes nothing.
HEARTBEAT, TPDO_TRANSMIT, EMCY_TRANSMIT and CAN_ERROR_PASSIVE_OR_BUS_OFF (04 R163, R167 to R170; 15 R851 to R853): what is due is sent,
the TPDO and the EMCY queue take note of it, and an error of the bus is seen in ErrorRegister. -/
def Obligations.CanCommands : Prop :=
  (∀ node s cmd n, (cmd, n) ∈ [(Instr.nmtStart node, Nmt.operational), (.nmtStop node, .stopped),
      (.nmtEnterPreOperational node, .preOperational)] → nmtFor node s = true →
    exec cmd s = .next { s with can := { s.can with nmt := n } }) ∧
  (∀ node s cmd, cmd ∈ [Instr.nmtResetNode node, .nmtResetCommunication node] → nmtFor node s = true →
    let id := valueIn (savedNow s.nor) 0x2003 1
    ∃ t, exec cmd s = .next t ∧ t.can.nmt = .preOperational ∧ t.can.node = id ∧ t.can.busy = [] ∧ t.can.errorSeen = false ∧
      (∃ o, t.out = o ++ [.can (0x700 + id) [0]]) ∧
      (∀ k, 0x2000 ≤ k / 256 → mapFind t.dict.values k = mapFind s.dict.values k) ∧
      (∀ w : Fin 7, ∀ c, t.win[w].owner ≠ some (.usdo c)) ∧ (∀ c, t.mode.expert ≠ some (.usdo c)) ∧
      t.isl = s.isl ∧ t.life = s.life ∧ t.time = s.time ∧ t.cache = s.cache ∧ t.rails = s.rails ∧ t.keep = s.keep) ∧
  (∀ node s cmd, cmd ∈ [Instr.nmtStart node, .nmtStop node, .nmtEnterPreOperational node, .nmtResetNode node,
      .nmtResetCommunication node] → nmtFor node s = false → exec cmd s = .next s) ∧
  (∀ s, canUp s = true → s.cfg 0x1017 0 ≠ 0 →
    exec .heartbeat s = .next { s with out := s.out ++ [.can (0x700 + s.can.node) (leBytes 1 (nmtByte s.can.nmt))] }) ∧
  (∀ k s, canUp s = true → s.can.nmt = .operational → tpdoFitted s k = true → tpdoDue s k = true →
    ∃ t, exec (.tpdoTransmit k) s = .next t ∧
      t.out = s.out ++ [.can (0x180 + 0x100 * k.val + s.can.node) (tpdoBytes s k)] ∧
      t.can.tpdo[k] = ⟨tpdoMapped s k, some s.time.now⟩ ∧ (∀ j : Fin 4, j ≠ k → t.can.tpdo[j] = s.can.tpdo[j]) ∧
      t = { s with can := { s.can with tpdo := t.can.tpdo }, out := t.out }) ∧
  (∀ k s, canUp s = false ∨ s.can.nmt ≠ .operational ∨ tpdoFitted s k = false → exec (.tpdoTransmit k) s = .next s) ∧
  (∀ m rest s, s.can.emcy = m :: rest → canUp s = true → s.can.nmt ≠ .stopped → s.emcyId.testBit 31 = false →
    exec .emcyTransmit s = .next { s with
      can := { s.can with emcy := rest, emcyDropSeen := false }, out := s.out ++ [.can (s.emcyId % 2048) m] }) ∧
  (∀ e s, canUp s = true → exec (.canErrorPassiveOrBusOff e) s = .next { s with can := { s.can with errorSeen := true } })

/-- LINK_UP, LINK_DOWN and BUS_MASTER_ENABLE (05 R200, R201, R204, R205, R271): the link comes up with what the host enables, goes down with
every function reset, and a function that may master the bus acts on what was recorded.
FUNCTION_LEVEL_RESET, VF_ENABLE_CLEAR and HOT_RESET (05 R265 to R267, R270, R271; 04 R178, R190, R197): a function that is reset has its
queues, mailbox and ring as at reset and its commands gone, its windows are closed and its slots freeze; the others stay. -/
def Obligations.LinkAndFunctionResets : Prop :=
  (∀ speed width vfs s, s.port.ready = true → s.island .host = .running → s.port.linkState ≠ 2 →
    ∃ t, exec (.linkUp speed width vfs) s = .next t ∧ Told 24 s t ∧ (speed < s.cfg 0x2200 4 ∨ width < 4 → Logged 26 s t) ∧
      t.port.linkState = 2 ∧ t.port.linkSpeed = min speed (s.cfg 0x2200 4) ∧ t.port.linkWidth = width ∧ t.port.vfs = min vfs 15 ∧
      (∀ n : Fin 16, t.port.fns[n].enabled = decide (n.val ≤ vfs) ∧ t.port.fns[n].pairs = s.port.fns[n].pairs) ∧
      t.life = s.life ∧ t.isl = s.isl ∧ t.dict = s.dict ∧ t.time = s.time ∧ t.mbx = s.mbx ∧ t.win = s.win ∧ t.rails = s.rails) ∧
  (∀ s, s.port.linkState = 2 →
    ∃ t, exec .linkDown s = .next t ∧ Told 25 s t ∧ t.port.linkState = 0 ∧ t.port.linkSpeed = 0 ∧ t.port.linkWidth = 0 ∧
      t.port.vfs = 0 ∧
      (∀ n : Fin 16, t.port.fns[n].pairs = Vector.replicate 4 Pair.reset ∧ t.mbx[n] = Mbx.reset ∧
        Logged (tenantEv n.val 21) s t ∧ (n ≠ s.cache.videoTenant → (t.ten n).frozen = true)) ∧ t.port.cmds = [] ∧
      (∀ n : Fin 16, n ≠ 0 → t.port.fns[n].enabled = false) ∧ t.mode.host = 1 ∧ t.life = s.life ∧ t.isl = s.isl ∧ t.dict = s.dict ∧
      t.rails = s.rails ∧ t.keep = s.keep) ∧
  (∀ fn mps mrrs s, fnReached s fn = true →
    ∃ t, exec (.busMasterEnable fn mps mrrs) s = .next t ∧ t.port.fns[fn].bme = true ∧
      (mps ∈ [128, 256, 512] → t.port.fns[fn].mps = mps) ∧ (mrrs ∈ [128, 256, 512, 1024, 2048, 4096] → t.port.fns[fn].mrrs = mrrs) ∧
      t.port.fns[fn].pba = 0 ∧ (∀ v : Fin 32, s.port.fns[fn].pba.getLsbD v.val = true → Output.msix fn v.val ∈ t.out) ∧
      (s.life.dev ≠ .boot → s.life.restarting = false → ∀ qp, (t.pair fn qp).recorded = []) ∧
      (s.life.dev = .boot → ∀ qp, t.pair fn qp = s.pair fn qp) ∧ (∀ g, g ≠ fn → t.port.fns[g] = s.port.fns[g]) ∧
      t = withEvents { s with port := t.port } t) ∧
  (∀ fn s, fnReached s fn = true → fn ≠ 0 →
    ∃ t, exec (.functionLevelReset fn) s = .next t ∧ t.port.fns[fn].pairs = Vector.replicate 4 Pair.reset ∧
      t.port.fns[fn].bme = false ∧ t.port.fns[fn].enabled = true ∧ t.mbx[fn] = Mbx.reset ∧ (∀ c ∈ t.port.cmds, c.fn ≠ fn) ∧
      t.ev.ring[fn].entries = 0 ∧ t.ev.ring[fn].producer = 0 ∧ (fn ≠ s.cache.videoTenant → (t.ten fn).frozen = true) ∧
      (∀ w : Fin 7, t.win[w].owner ≠ some (.mailbox fn)) ∧
      (∀ g, g ≠ fn → t.port.fns[g] = s.port.fns[g] ∧ t.mbx[g] = s.mbx[g]) ∧ t.life = s.life ∧ t.isl = s.isl ∧ t.dict = s.dict ∧
      t.time = s.time ∧ t.rails = s.rails ∧ t.keep = s.keep ∧ t.flash = s.flash ∧ t.nor = s.nor) ∧
  (∀ s, fnReached s 0 = true →
    ∃ t, exec (.functionLevelReset 0) s = .next t ∧
      (∀ n : Fin 16, s.port.fns[n].enabled = true → t.port.fns[n].pairs = Vector.replicate 4 Pair.reset ∧ t.mbx[n] = Mbx.reset) ∧
      (∀ n : Fin 16, s.port.fns[n].enabled = false → t.port.fns[n] = s.port.fns[n] ∧ t.mbx[n] = s.mbx[n]) ∧
      t.port.linkState = s.port.linkState ∧ t.life = s.life ∧ t.isl = s.isl ∧ t.dict = s.dict ∧ t.rails = s.rails) ∧
  (∀ s, s.island .host = .running →
    ∃ t, exec .vfEnableClear s = .next t ∧ t.port.vfs = 0 ∧ t.port.fns[(0 : Fin 16)] = s.port.fns[(0 : Fin 16)] ∧
      (∀ n : Fin 16, n ≠ 0 → t.port.fns[n].enabled = false ∧
        (s.port.fns[n].enabled = true → t.port.fns[n].pairs = Vector.replicate 4 Pair.reset ∧ t.mbx[n] = Mbx.reset)) ∧
      t.port.linkState = s.port.linkState ∧ t.life = s.life ∧ t.isl = s.isl ∧ t.dict = s.dict ∧ t.rails = s.rails) ∧
  (∀ s, s.port.linkState = 2 →
    ∃ t, exec .hotReset s = .next t ∧ t.port.linkState = 2 ∧ t.port.vfs = 0 ∧
      (∀ n : Fin 16, t.port.fns[n].pairs = Vector.replicate 4 Pair.reset ∧ t.mbx[n] = Mbx.reset ∧
        Logged (tenantEv n.val 21) s t ∧ (n ≠ s.cache.videoTenant → (t.ten n).frozen = true)) ∧ t.port.cmds = [] ∧
      (∀ n : Fin 16, n ≠ 0 → t.port.fns[n].enabled = false) ∧ t.life = s.life ∧ t.isl = s.isl ∧ t.dict = s.dict ∧
      t.rails = s.rails ∧ t.keep = s.keep)

/-- QUEUE_ENABLE, QUEUE_DISABLE and QUEUE_READY_FALL (05 R207 to R210, R218, R269): a pair whose registers pass the check is ready and empty,
one that fails it is in fault with its code; a pair that is disabled ends ABORTED what has not begun,
and is ready no more once what was transferring has ended; the other fields of QCTRL change while Enable is 1.
SQ_TAIL_DOORBELL and CQ_HEAD_DOORBELL (05 R204, R211 to R215; 02 R76): a value inside its queue is taken, one beyond it faults the pair
with code 1, and while the function may not master the bus or a BOOT runs it is only recorded. -/
def Obligations.QueuePairs : Prop :=
  (∀ fn qp regs s, fnReached s fn = true → (s.pair fn qp).enable = false →
    enableError s fn qp (loadRegs regs (s.pair fn qp)) = 0 →
    ∃ t, exec (.queueEnable fn qp regs) s = .next t ∧
      t.pair fn qp = { loadRegs regs (s.pair fn qp) with
        ready := true, fault := false, error := 0, sqHead := 0, sqTail := 0, cqHead := 0, cqTail := 0, phase := true
        unsignalled := 0 } ∧
      (t.ten fn).frozen = false ∧ (∀ g k, (g, k) ≠ (fn, qp) → t.pair g k = s.pair g k) ∧ t.port.cmds = s.port.cmds ∧
      t.life = s.life ∧ t.isl = s.isl ∧ t.dict = s.dict ∧ t.time = s.time ∧ t.mbx = s.mbx ∧ t.rails = s.rails ∧ t.flash = s.flash) ∧
  (∀ fn qp regs s, fnReached s fn = true → (s.pair fn qp).enable = false →
    enableError s fn qp (loadRegs regs (s.pair fn qp)) ≠ 0 →
    ∃ t, exec (.queueEnable fn qp regs) s = .next t ∧ Told (tenantEv fn.val 20) s t ∧ (t.pair fn qp).fault = true ∧
      (t.pair fn qp).ready = false ∧ (t.pair fn qp).error = enableError s fn qp (loadRegs regs (s.pair fn qp)) ∧
      (∀ g k, (g, k) ≠ (fn, qp) → t.pair g k = s.pair g k) ∧ t.life = s.life ∧ t.dict = s.dict) ∧
  (∀ fn qp regs s, fnReached s fn = true → (s.pair fn qp).enable = true →
    exec (.queueEnable fn qp regs) s = .next (s.modPair fn qp (fun p => { p with
      aggTime := regs.aggTime, vector := regs.vector, aggCount := regs.aggCount, irqEn := regs.irqEn }))) ∧
  (∀ fn qp s, fnReached s fn = true → (s.pair fn qp).enable = true →
    ∃ t, exec (.queueDisable fn qp) s = .next t ∧ (t.pair fn qp).enable = false ∧ (t.pair fn qp).recorded = [] ∧
      (∀ c ∈ t.port.cmds, c ∈ s.port.cmds ∧ notBegun fn qp c = false) ∧
      (t.pair fn qp).waiting = (s.pair fn qp).waiting ++ (s.port.cmds.filter (notBegun fn qp)).map (fun c => completion c .aborted 0 0) ∧
      (∀ g k, (g, k) ≠ (fn, qp) → t.pair g k = s.pair g k) ∧ t.cache.slots.map (·.1) = s.cache.slots.map (·.1) ∧ t.life = s.life ∧
      t.isl = s.isl ∧ t.dict = s.dict ∧ t.rails = s.rails) ∧
  (∀ fn qp s, (s.pair fn qp).enable = false → (∀ c ∈ s.port.cmds, c.fn ≠ fn ∨ c.qp ≠ qp) →
    exec (.queueReadyFall fn qp) s = .next (s.modPair fn qp (fun p => { p with ready := false }))) ∧
  (∀ fn qp c s, c ∈ s.port.cmds → c.fn = fn → c.qp = qp → exec (.queueReadyFall fn qp) s = .next s) ∧
  (∀ fn qp v s, fnReached s fn = true → (s.pair fn qp).enable = true → (s.pair fn qp).fault = false → doorbellWaits s fn = false →
    v.toNat < sqLen (s.pair fn qp) →
    ((s.pair fn qp).sqTail + sqLen (s.pair fn qp) - (s.pair fn qp).sqHead) % sqLen (s.pair fn qp) +
      (v.toNat + sqLen (s.pair fn qp) - (s.pair fn qp).sqTail) % sqLen (s.pair fn qp) < sqLen (s.pair fn qp) →
    exec (.sqTailDoorbell fn qp v) s = .next (s.modPair fn qp (fun p => { p with sqTail := v.toNat }))) ∧
  (∀ fn qp v s, fnReached s fn = true → (s.pair fn qp).enable = true → doorbellWaits s fn = false →
    v.toNat < cqLen (s.pair fn qp) →
    (v.toNat + cqLen (s.pair fn qp) - (s.pair fn qp).cqHead) % cqLen (s.pair fn qp) ≤
      ((s.pair fn qp).cqTail + cqLen (s.pair fn qp) - (s.pair fn qp).cqHead) % cqLen (s.pair fn qp) →
    exec (.cqHeadDoorbell fn qp v) s = .next (s.modPair fn qp (fun p => { p with cqHead := v.toNat }))) ∧
  (∀ fn qp v s cmd, fnReached s fn = true → (s.pair fn qp).enable = true → (s.pair fn qp).fault = false → doorbellWaits s fn = false →
    cmd = Instr.sqTailDoorbell fn qp v ∧ sqLen (s.pair fn qp) ≤ v.toNat ∨ cmd = .cqHeadDoorbell fn qp v ∧ cqLen (s.pair fn qp) ≤ v.toNat →
    ∃ t, exec cmd s = .next t ∧ Told (tenantEv fn.val 20) s t ∧
      t = withEvents (s.modPair fn qp (fun p => { p with fault := true, ready := false, error := 1 })) t) ∧
  (∀ fn qp v s b cmd, (b, cmd) ∈ [(false, Instr.sqTailDoorbell fn qp v), (true, .cqHeadDoorbell fn qp v)] → fnReached s fn = true →
    (s.pair fn qp).enable = true → doorbellWaits s fn = true →
    exec cmd s = .next (s.modPair fn qp (fun p => { p with recorded := p.recorded ++ [(b, v)] }))) ∧
  (∀ fn qp v s cmd, cmd ∈ [Instr.sqTailDoorbell fn qp v, .cqHeadDoorbell fn qp v] → (s.pair fn qp).enable = false →
    exec cmd s = .next s)

/-- COMMAND_FETCH, COMPLETION_POST and IRQ_AGG_TIMER (05 R210, R216, R217, R220, R225, R226, R249; 11 R588): the next entry in turn is fetched
and its pair's head moves on, an unknown opcode ends at once; the oldest completion is written at the tail with the queue's phase; the
vector is raised for what is not signalled. -/
def Obligations.FetchAndPost : Prop :=
  (∀ fn qp rest w s, s.port.fetchStopped = false → fetchPlan s = (fn, qp) :: rest → (∀ c ∈ s.port.cmds, c.id < s.port.fetched) →
    let head := ((s.pair fn qp).sqHead + 1) % sqLen (s.pair fn qp)
    ∃ t, exec (.commandFetch [.entry w]) s = .next t ∧ t.port.fetched = s.port.fetched + 1 ∧ (t.pair fn qp).sqHead = head ∧
      ((opOf w).isSome = true → ∃ c : Cmd, t.port.cmds = s.port.cmds ++ [c] ∧ c.id = s.port.fetched ∧ c.fn = fn ∧ c.qp = qp ∧
        c.sqe = w ∧ c.stage = .fetched ∧ c.sqHead = head ∧ (t.pair fn qp).waiting = (s.pair fn qp).waiting) ∧
      (opOf w = none → t.port.cmds = s.port.cmds ∧
        ∃ x, (t.pair fn qp).waiting = (s.pair fn qp).waiting ++ [x] ∧ x.status = BitVec.ofNat 8 (Status.invalidOpcode).code) ∧
      (64 ≤ s.port.fns[fn].mrrs →
        t.out = s.out ++ [.dmaRead fn ((s.pair fn qp).sqBase.toNat + 64 * (s.pair fn qp).sqHead) 64]) ∧
      (∀ g k, (g, k) ≠ (fn, qp) → t.pair g k = s.pair g k) ∧ t = { s with port := t.port, cache := t.cache, out := t.out } ∧
      t.cache.slots = s.cache.slots) ∧
  (∀ fn qp rest s, s.port.fetchStopped = false → fetchPlan s = (fn, qp) :: rest →
    ∃ t, exec (.commandFetch [.failed]) s = .next t ∧ Told (tenantEv fn.val 20) s t ∧ Logged (tenantEv fn.val 23) s t ∧
      t.pair fn qp = { s.pair fn qp with fault := true, ready := false, error := 3 } ∧
      (∀ g k, (g, k) ≠ (fn, qp) → t.pair g k = s.pair g k) ∧ t.port.cmds = s.port.cmds ∧
      t = withEvents { s with port := t.port } t) ∧
  (∀ rs s, s.port.fetchStopped = true → exec (.commandFetch rs) s = .next s) ∧
  (∀ fn qp x rest s, (s.pair fn qp).waiting = x :: rest → cqFull (s.pair fn qp) = false → dmaOpen s fn = true →
    (s.pair fn qp).irqEn = false →
    ∃ t, exec (.completionPost fn qp) s = .next t ∧
      t.out = s.out ++ [.dma fn ((s.pair fn qp).cqBase.toNat + 16 * (s.pair fn qp).cqTail)
        (completionBytes x qp (s.pair fn qp).phase)] ∧
      t.pair fn qp = { s.pair fn qp with
        waiting := rest, cqTail := ((s.pair fn qp).cqTail + 1) % cqLen (s.pair fn qp)
        phase := (s.pair fn qp).phase ^^ decide ((s.pair fn qp).cqTail + 1 = cqLen (s.pair fn qp)) } ∧
      (∀ g k, (g, k) ≠ (fn, qp) → t.pair g k = s.pair g k) ∧ t = { s with port := { s.port with fns := t.port.fns, lastFn := fn }, out := t.out }) ∧
  (∀ fn qp x rest s, (s.pair fn qp).waiting = x :: rest → cqFull (s.pair fn qp) = false → dmaOpen s fn = true →
    (s.pair fn qp).irqEn = true → (s.pair fn qp).aggCount.toNat ≤ (s.pair fn qp).unsignalled →
    ∃ t, exec (.completionPost fn qp) s = .next t ∧
      t.out = s.out ++ [.dma fn ((s.pair fn qp).cqBase.toNat + 16 * (s.pair fn qp).cqTail)
        (completionBytes x qp (s.pair fn qp).phase), .msix fn (s.pair fn qp).vector.toNat] ∧
      (t.pair fn qp).waiting = rest ∧ (t.pair fn qp).unsignalled = 0 ∧ (∀ g k, (g, k) ≠ (fn, qp) → t.pair g k = s.pair g k) ∧
      t = { s with port := { s.port with fns := t.port.fns, lastFn := fn }, out := t.out }) ∧
  (∀ fn qp s, (s.pair fn qp).waiting = [] ∨ cqFull (s.pair fn qp) = true →
    (s.pair fn qp).irqEn = false → exec (.completionPost fn qp) s = .next s) ∧
  (∀ fn qp s, dmaOpen s fn = true → (s.pair fn qp).aggTime ≠ 0 → (s.pair fn qp).irqEn = true → 0 < (s.pair fn qp).unsignalled →
    ∃ t, exec (.irqAggTimer fn qp) s = .next t ∧ t.out = s.out ++ [.msix fn (s.pair fn qp).vector.toNat] ∧
      t = { s.modPair fn qp (fun p => { p with unsignalled := 0 }) with out := t.out })

/-- PUT and PUT_APPLY (05 R228, R230 to R234, R257, R261; 06 R284 to R286, R301, R307): a PUT that admission takes begins its transfer and
charges its new blocks, one it does not ends THROTTLED with the headroom, one without a handle or slots to be had ends NO_SPACE; its data ends it SUCCESS under the tenant's next write
sequence, and a failed transfer ends it DATA_ERROR, as an element list that cannot be read ends every command that has one. -/
def Obligations.PutCommands : Prop :=
  (∀ id elems c u s, Runs .put id elems c s → recordVolume (sqeVolume c.sqe) = false → effPolicy s c.fn ≠ 2 →
    (effPolicy s c.fn = 0 → newBlocks s c ≤ headroom s c.fn) → noHandle s c.fn (sqeVolume c.sqe) = false →
    takeSlots s c.fn (sqeVolume c.sqe) (sqeLba c.sqe) (sqeLength c.sqe) (slotlessBlocks s c) = some u →
    let n := if effPolicy s c.fn = 0 then chargeBlocks s c else 0
    ∃ t, exec (.put id elems) s = .next t ∧
      findCmd t id = some { c with stage := .transferring, protect := effPolicy s c.fn == 0, charged := n, slots := slotlessBlocks s c } ∧
      (t.ten c.fn).reserved = (s.ten c.fn).reserved + n ∧ (∀ m, m ≠ c.fn → t.ten m = s.ten m) ∧
      t.out = s.out ++ ((dataParts c.sqe (elems.getD [])).flatMap (pieces s.port.fns[c.fn].mrrs)).map
        (fun p => .dmaRead c.fn p.1 p.2) ∧ (∀ g k, t.pair g k = s.pair g k) ∧
      t = { s with port := t.port, cache := { u.cache with tenants := t.cache.tenants }, out := t.out }) ∧
  (∀ id elems c s, Runs .put id elems c s → recordVolume (sqeVolume c.sqe) = false → effPolicy s c.fn ≠ 2 →
    (effPolicy s c.fn = 0 → newBlocks s c ≤ headroom s c.fn) → noHandle s c.fn (sqeVolume c.sqe) = true →
    ∃ t, exec (.put id elems) s = .next t ∧ Completed c (completion c .noSpace 0 0) s t ∧ Told (tenantEv c.fn.val 6) s t ∧
      t.cache.slots = s.cache.slots) ∧
  (∀ id elems c s, Runs .put id elems c s → recordVolume (sqeVolume c.sqe) = false → effPolicy s c.fn ≠ 2 →
    (effPolicy s c.fn = 0 → newBlocks s c ≤ headroom s c.fn) → noHandle s c.fn (sqeVolume c.sqe) = false →
    takeSlots s c.fn (sqeVolume c.sqe) (sqeLba c.sqe) (sqeLength c.sqe) (slotlessBlocks s c) = none →
    ∃ t, exec (.put id elems) s = .next t ∧ Completed c (completion c .noSpace 0 0) s t ∧ Told (tenantEv c.fn.val 4) s t ∧
      t.cache.slots = s.cache.slots) ∧
  (∀ id elems c s, Runs .put id elems c s → recordVolume (sqeVolume c.sqe) = false → effPolicy s c.fn = 0 →
    headroom s c.fn < newBlocks s c →
    ∃ t, exec (.put id elems) s = .next t ∧
      Completed c (completion c .throttled (headroom s c.fn * 2 ^ 32 + nextRecompute s) 0) s t ∧
      (t.ten c.fn).throttled = (s.ten c.fn).throttled + 1 ∧ (t.ten c.fn).lastThrottled = true ∧
      ((s.ten c.fn).lastThrottled = false → Told (tenantEv c.fn.val 0) s t) ∧ t.cache.slots = s.cache.slots ∧ t.life = s.life ∧
      t.dict = s.dict ∧ t.isl = s.isl) ∧
  (∀ id elems c s, Runs .put id elems c s → recordVolume (sqeVolume c.sqe) = true ∨ effPolicy s c.fn = 2 →
    ∃ t, exec (.put id elems) s = .next t ∧ Completed c (completion c .policy 0 0) s t ∧
      t = { s with port := t.port, cache := { s.cache with tenants := t.cache.tenants } }) ∧
  (∀ id bs c s, findCmd s id = some c → cmdIs .put .transferring c = true → dmaOpen s c.fn = true → bs.length = sqeLength c.sqe →
    ∃ t, exec (.putApply id (.data bs)) s = .next t ∧
      Completed c { completion c .success ((s.ten c.fn).writeSeq + 1) 0 with notProtected := !c.protect } s t ∧
      (t.ten c.fn).writeSeq = (s.ten c.fn).writeSeq + 1 ∧ (t.ten c.fn).reserved = (s.ten c.fn).reserved - c.charged ∧ (t.ten c.fn).lastThrottled = false ∧
      (s.cfg 0x2020 6 = 1 → (t.ten c.fn).hasKey = true) ∧
      t = withEvents { s with
        port := t.port, cache := t.cache, flash := t.flash, adm := { s.adm with stage := t.adm.stage } } t) ∧
  (∀ id c s, findCmd s id = some c → cmdIs .put .transferring c = true → dmaOpen s c.fn = true →
    ∃ t, exec (.putApply id .failed) s = .next t ∧ Completed c (completion c .dataError 0 0) s t ∧ Logged (tenantEv c.fn.val 23) s t ∧
      (t.ten c.fn).reserved = (s.ten c.fn).reserved - c.charged ∧ t.cache.slots = s.cache.slots ∧
      t = withEvents { s with
        port := t.port, cache := { s.cache with tenants := t.cache.tenants }, adm := { s.adm with stage := t.adm.stage } } t) ∧
  (∀ id ecc o c s cmd, (o, cmd) ∈ [(Op.put, Instr.put id none), (.get, .get id none ecc), (.list, .list id none),
      (.segmentRead, .segmentRead id none ecc)] → findCmd s id = some c → cmdIs o .fetched c = true → mayStart s c = true →
    dmaOpen s c.fn = true → sqeDataList c.sqe = true →
    ∃ t, exec cmd s = .next t ∧ Completed c (completion c .dataError 0 0) s t ∧ Told (tenantEv c.fn.val 23) s t ∧
      t.cache.slots = s.cache.slots ∧ t = withEvents { s with port := t.port, cache := { s.cache with tenants := t.cache.tenants } } t)

/-- GET (05 R225, R235, R236, R261, R262; 02 R90): blocks that DRAM holds go to host memory in the order asked and the command ends SUCCESS;
an absent block, a lost copy and a memory error end it with their status; blocks not restored yet are fetched first. -/
def Obligations.GetCommand : Prop :=
  (∀ id elems c ks s, Runs .get id elems c s → lookBlocks s (targetOf c.fn c.sqe) (sqeVolume c.sqe) 0 (blocksOf c) = .slots ks →
    unrestoredOf s ks = [] →
    ∃ t, exec (.get id elems none) s = .next t ∧ Completed c (completion c .success (4096 * sqeLength c.sqe) 0) s t ∧
      t.out = s.out ++ [.dmaBlocks c.fn (writeParts s c.fn (dataParts c.sqe (elems.getD []))) (slotData s ks)] ∧
      (∀ k, (mapFind t.cache.slots k).map (fun q => { q with used := 0 }) = (mapFind s.cache.slots k).map (fun q => { q with used := 0 })) ∧
      t = { s with port := t.port, cache := t.cache, out := t.out }) ∧
  (∀ id elems ecc c i s, Runs .get id elems c s → lookBlocks s (targetOf c.fn c.sqe) (sqeVolume c.sqe) 0 (blocksOf c) = .absent i →
    ∃ t, exec (.get id elems ecc) s = .next t ∧ Completed c (completion c .notPresent i 0) s t ∧
      t = { s with port := t.port, cache := { s.cache with tenants := t.cache.tenants } }) ∧
  (∀ id elems ecc c i s, Runs .get id elems c s → lookBlocks s (targetOf c.fn c.sqe) (sqeVolume c.sqe) 0 (blocksOf c) = .lost i →
    ∃ t, exec (.get id elems ecc) s = .next t ∧ Completed c (completion c .lost 0 0) s t ∧
      t = { s with port := t.port, cache := { s.cache with tenants := t.cache.tenants } }) ∧
  (∀ id elems i c ks s, Runs .get id elems c s → lookBlocks s (targetOf c.fn c.sqe) (sqeVolume c.sqe) 0 (blocksOf c) = .slots ks →
    unrestoredOf s ks = [] → i < sqeLength c.sqe →
    ∃ t, exec (.get id elems (some i)) s = .next t ∧ Completed c (completion c .eccError 0 0) s t ∧
      Told (tenantEv (targetOf c.fn c.sqe).val 24) s t ∧
      t = withEvents { s with port := t.port, cache := { s.cache with tenants := t.cache.tenants } } t) ∧
  (∀ id elems ecc c ks s, Runs .get id elems c s → lookBlocks s (targetOf c.fn c.sqe) (sqeVolume c.sqe) 0 (blocksOf c) = .slots ks →
    unrestoredOf s ks ≠ [] →
    ∃ t, exec (.get id elems ecc) s = .next t ∧
      findCmd t id = some { c with stage := .fetching, fetches := unrestoredOf s ks, elems := elems.getD [] } ∧
      t = { s with port := { s.port with cmds := t.port.cmds } })

/-- CLEAN and DROP (05 R237, R238, R264; 06 R301): the blocks of the span that the tenant holds are clean, up to MaxSequence, or gone, the
result counts them, and every other slot is as it was. -/
def Obligations.CleanAndDrop : Prop :=
  (∀ id c s, Machine.Inv s → Runs .clean id none c s →
    ∃ t, exec (.clean id) s = .next t ∧
      Completed c (completion c .success ((heldBlocks s c).filter (cleans (sqeParam1 c.sqe))).length 0) s t ∧
      (∀ k q, mapFind s.cache.slots k = some q → (k, q) ∈ heldBlocks s c → cleans (sqeParam1 c.sqe) (k, q) = true →
        mapFind t.cache.slots k = (if q.unrestored ∨ q.lost then none
          else some { q with dirty := false, copyValid := false, fromImage := false, copy := none })) ∧
      (∀ k q, mapFind s.cache.slots k = some q → ¬((k, q) ∈ heldBlocks s c ∧ cleans (sqeParam1 c.sqe) (k, q) = true) →
        mapFind t.cache.slots k = some q) ∧
      t = withEvents { s with
        port := t.port, cache := t.cache, flash := t.flash, adm := { s.adm with stage := t.adm.stage } } t) ∧
  (∀ id c s, Machine.Inv s → Runs .drop id none c s →
    ∃ t, exec (.drop id) s = .next t ∧ Completed c (completion c .success (heldBlocks s c).length 0) s t ∧
      (∀ k q, mapFind s.cache.slots k = some q →
        mapFind t.cache.slots k = (if (k, q) ∈ heldBlocks s c then none else some q)) ∧
      t = withEvents { s with
        port := t.port, cache := t.cache, flash := t.flash, adm := { s.adm with stage := t.adm.stage } } t)

/-- LIST, FENCE and FENCE_COMPLETE (05 R239 to R245): LIST writes extents from its cursor on and answers a cursor at which a later
LIST resumes with the first it had no room for, or 0; a FENCE ends once nothing earlier is under way, and waits until then.
SEGMENT_READ and ON_DEMAND_FETCH_COMPLETE (05 R247, R248; 02 R90, R92; 12 R677, R678): the bytes of a segment that DRAM holds are read up
to its end, for the video tenant and PF0 alone; a slot that has come from flash is restored, and its command goes on after its last. -/
def Obligations.ListFenceSegmentRead : Prop :=
  (∀ id elems c s, Runs .list id elems c s →
    let n := targetOf c.fn c.sqe
    let es := extentsFrom s n (sqeVolume c.sqe) (sqeParam1 c.sqe)
    let room := dataBytes c.sqe (elems.getD []) / 16
    ∃ t cursor, exec (.list id elems) s = .next t ∧ Completed c (completion c .success cursor 0) s t ∧
      (es.length ≤ room → cursor = 0) ∧
      (∀ e, es[room]? = some e → e.lba < 2 ^ 48 → cursor ≠ 0 ∧ cursorAt t n cursor = (e.volume, e.lba)) ∧
      t.out = s.out ++ (spread (writeParts s c.fn (dataParts c.sqe (elems.getD [])))
        ((es.take room).flatMap extentBytes ++ (if es.length < room then List.replicate 16 0 else []))).map
          (fun p => .dma c.fn p.1 p.2) ∧
      t.cache.slots = s.cache.slots ∧ (∀ m, m ≠ c.fn → (t.ten m).completed = (s.ten m).completed) ∧
      t = { s with port := t.port, cache := { s.cache with tenants := t.cache.tenants }, out := t.out }) ∧
  (∀ id c s, Runs .fence id none c s → fenceWaits s c = false →
    ∃ t, exec (.fence id) s = .next t ∧ Completed c (completion c .success 0 0) s t ∧
      t = { s with port := t.port, cache := { s.cache with tenants := t.cache.tenants } }) ∧
  (∀ id c s, Runs .fence id none c s → fenceWaits s c = true →
    ∃ t, exec (.fence id) s = .next t ∧ findCmd t id = some { c with stage := .fencing } ∧
      t = { s with port := { s.port with cmds := t.port.cmds } }) ∧
  (∀ id c s, findCmd s id = some c → cmdIs .fence .fencing c = true → fenceWaits s c = false →
    ∃ t, exec (.fenceComplete id) s = .next t ∧ Completed c (completion c .success 0 0) s t ∧
      t = { s with port := t.port, cache := { s.cache with tenants := t.cache.tenants } }) ∧
  (∀ id c s, findCmd s id = some c → fenceWaits s c = true → exec (.fenceComplete id) s = .next s) ∧
  (∀ id elems ecc c h hk ks s, Runs .segmentRead id elems c s → c.fn = s.cache.videoTenant ∨ c.fn = 0 → sqeLba c.sqe < 2 ^ 34 →
    let n : Fin 16 := Fin.ofNat 16 (sqeVolume c.sqe).toNat
    let e := segmentEnd s n (sqeLba c.sqe) h.data
    let len := min (sqeLength c.sqe) (e - sqeParam1 c.sqe)
    slotAt s.cache s.cache.videoTenant (segVolume n) (segLba (sqeLba c.sqe)) = some h →
    slotNo s.cache s.cache.videoTenant (segVolume n) (segLba (sqeLba c.sqe)) = some hk → h.unrestored = false → h.lost = false →
    lookBlocks s s.cache.videoTenant (segVolume n) 0 (spanBlocks (sqeLba c.sqe) (sqeParam1 c.sqe) len) = .slots ks →
    unrestoredOf s ks = [] →
    (∃ t, exec (.segmentRead id elems none) s = .next t ∧
      Completed c { completion c .success len 0 with segmentEnd := decide (e ≤ sqeParam1 c.sqe + sqeLength c.sqe) } s t ∧
      t.out = s.out ++ (spread (writeParts s c.fn (dataParts c.sqe (elems.getD []))) (cutBytes s ks (sqeParam1 c.sqe % 4096) len)).map
        (fun p => .dma c.fn p.1 p.2) ∧
      (∀ k, (mapFind t.cache.slots k).map (fun q => { q with used := 0 }) = (mapFind s.cache.slots k).map (fun q => { q with used := 0 })) ∧
      t = { s with port := t.port, cache := t.cache, out := t.out }) ∧
    (ecc < (spanBlocks (sqeLba c.sqe) (sqeParam1 c.sqe) len).length →
      ∃ t, exec (.segmentRead id elems (some ecc)) s = .next t ∧ Completed c (completion c .eccError 0 0) s t ∧
        Told (tenantEv s.cache.videoTenant.val 24) s t ∧
        t = withEvents { s with port := t.port, cache := { s.cache with tenants := t.cache.tenants } } t)) ∧
  (∀ id elems ecc c s, Runs .segmentRead id elems c s → c.fn ≠ s.cache.videoTenant → c.fn ≠ 0 →
    ∃ t, exec (.segmentRead id elems ecc) s = .next t ∧ Completed c (completion c .policy 0 0) s t ∧
      t = { s with port := t.port, cache := { s.cache with tenants := t.cache.tenants } }) ∧
  (∀ id ecc c k rest s, findCmd s id = some c → c.stage = .fetching → c.fetches = k :: rest → rest ≠ [] →
    ∃ t, exec (.onDemandFetchComplete id .good ecc) s = .next t ∧ findCmd t id = some { c with fetches := rest } ∧
      t.flash.onDemandFetches = s.flash.onDemandFetches + 1 ∧
      (∀ q, mapFind t.cache.slots k = some q → q.unrestored = false) ∧
      (∀ j, j ≠ k → mapFind t.cache.slots j = mapFind s.cache.slots j) ∧
      t = { s with port := { s.port with cmds := t.port.cmds }, cache := { s.cache with slots := t.cache.slots }
                   flash := { s.flash with onDemandFetches := t.flash.onDemandFetches, restoreDone := t.flash.restoreDone }
                   out := t.out }) ∧
  (∀ id c k ks q s, Machine.Inv s → findCmd s id = some c → c.stage = .fetching → c.fetches = [k] → opOf c.sqe = some .get →
    lookBlocks s (targetOf c.fn c.sqe) (sqeVolume c.sqe) 0 (blocksOf c) = .slots ks → mapFind s.cache.slots k = some q →
    q.unrestored = true →
    ∃ t, exec (.onDemandFetchComplete id .good none) s = .next t ∧
      Completed c { completion c .success (4096 * sqeLength c.sqe) 0 with onDemand := true } s t ∧
      (t.ten c.fn).onDemand = (s.ten c.fn).onDemand + 1 ∧
      (∀ r, mapFind t.cache.slots k = some r → r.unrestored = false) ∧ t.flash.restoreDone = s.flash.restoreDone + 1)

/-- PROGRAM_FAIL, ERASE_FAIL, DIE_COMMAND_TIMEOUT and BACKGROUND_ERASE (12 R684 to R686, R692, R694): a block that fails is grown bad; the third
timeout of an active die since BOOT retires it with cause 1; an erased stale block can be written again and has one erase more,
and the manifest buffer to be written next is erased before any stale block.
IMAGE_RELEASE, SANITIZE_COMPLETE and PROBATION_BLOCK_VERIFIED (12 R689, R690, R696 to R698, R702, R706): a release leaves an empty image and
no valid copy; a sanitize ends; a probation goes on block by block, ends with the die active again, or with it retired with cause 6. -/
def Obligations.DieFailuresAndImage : Prop :=
  (∀ d b s, writeBlockOf s.flash.die[d] = some b → copyRuns s = true → s.flash.die[d].state = .active →
    ∃ t, exec (.programFail d) s = .next t ∧ Told 518 s t ∧ (blockOfDie t.flash.die[d] b).1 = .bad ∧ t.life = s.life ∧ t.isl = s.isl ∧
      t.dict = s.dict ∧ t.time = s.time ∧ t.rails = s.rails ∧ t.adm = s.adm ∧ t.keep = s.keep ∧ t.port = s.port) ∧
  (∀ d b s, staleBlock s.flash.die[d] = some b → flashRuns s = true → s.flash.die[d].state ≠ .absent →
    ∃ t, exec (.eraseFail d) s = .next t ∧ Told 524 s t ∧ (blockOfDie t.flash.die[d] b).1 = .bad ∧ t.life = s.life ∧ t.isl = s.isl ∧
      t.dict = s.dict ∧ t.time = s.time ∧ t.rails = s.rails ∧ t.adm = s.adm ∧ t.keep = s.keep ∧ t.port = s.port) ∧
  (∀ d s, flashRuns s = true → s.flash.die[d].state ≠ .absent → s.flash.die[d].state ≠ .active ∨ s.flash.die[d].timeouts < 2 →
    exec (.dieCommandTimeout d) s = .next (s.modDie d (fun x => { x with timeouts := x.timeouts + 1 }))) ∧
  (∀ d s, flashRuns s = true → s.flash.die[d].state = .active → 2 ≤ s.flash.die[d].timeouts →
    ∃ t, exec (.dieCommandTimeout d) s = .next t ∧ Told (576 + d.val) s t ∧ t.flash.die[d].state = .retired ∧
      t.flash.die[d].cause = 1 ∧ t.flash.die[d].retiredInTable = true ∧ t.life = s.life ∧ t.dict = s.dict ∧ t.adm = s.adm) ∧
  (∀ d b s, staleBlock s.flash.die[d] = some b → erases s = true → s.flash.die[d].state ≠ .absent →
    s.flash.bufferDirty.contains d = false →
    ∃ t, exec (.backgroundErase d) s = .next t ∧
      blockOfDie t.flash.die[d] b = (.erased, (blockOfDie s.flash.die[d] b).2 + 1) ∧
      (∀ c, c ≠ b → mapFind t.flash.die[d].table c = mapFind s.flash.die[d].table c) ∧
      (∀ e, e ≠ d → t.flash.die[e] = s.flash.die[e]) ∧
      t = { s with flash := { s.flash with die := t.flash.die, erases := (s.flash.erases + 1) % 64 }, out := t.out }) ∧
  (∀ d s, erases s = true → s.flash.die[d].state ≠ .absent → s.flash.bufferDirty.contains d = true →
    ∃ t, exec (.backgroundErase d) s = .next t ∧ Output.flash d (.blockErase (bufferBlock (!s.flash.buffer))) ∈ t.out ∧
      t.flash.bufferDirty = s.flash.bufferDirty.filter (· != d) ∧ (t.flash.bufferDirty = [] → t.flash.previous = none) ∧
      t = { s with flash := { s.flash with
        bufferDirty := t.flash.bufferDirty, previous := t.flash.previous, erases := (s.flash.erases + 1) % 64 }, out := t.out }) ∧
  (∀ s, releaseDue s = true → releaseOk s = true →
    ∃ t, exec .imageRelease s = .next t ∧ Told 520 s t ∧ chainOf t.flash = [] ∧ t.flash.released = true ∧
      t.flash.releaseWanted = false ∧ t.flash.imageState = 0 ∧ t.flash.previous = s.flash.committed ∧
      (∀ q ∈ t.cache.slots, q.2.copyValid = false) ∧ t.cache.slots.length = s.cache.slots.length ∧ t.adm.formatHold = false ∧
      t = withEvents { s with
        cache := { s.cache with slots := t.cache.slots }, adm := { s.adm with formatHold := false }, flash := t.flash } t) ∧
  (∀ s, flashRuns s = true → s.flash.sanitizeState = 1 → s.flash.sanitizeKeys = true ∨ staleBlockPages s.flash = 0 →
    ∃ t, exec .sanitizeComplete s = .next t ∧ Told 523 s t ∧
      t = withEvents { s with flash := { s.flash with sanitizeState := 2, sanitizeKeys := false } } t) ∧
  (∀ d b s, flashRuns s = true → s.flash.die[d].state = .probation → probeBlock s.flash.die[d] = some b →
    let x := { eraseBlock b s.flash.die[d] with verified := b + 1 }
    (badBeyond s x = false → (probeBlock x).isSome = true →
      ∃ t, exec (.probationBlockVerified d true) s = .next t ∧ t = { s.modDie d (fun _ => x) with out := t.out }) ∧
    (badBeyond s x = false → probeBlock x = none →
      ∃ t, exec (.probationBlockVerified d true) s = .next t ∧ Told (608 + d.val) s t ∧ t.flash.die[d].state = .active ∧
        t.flash.die[d].cause = 0 ∧ t.flash.die[d].retiredInTable = false ∧
        t = withEvents (s.modDie d (fun _ => t.flash.die[d])) t) ∧
    (badBeyond s x = true →
      ∃ t, exec (.probationBlockVerified d true) s = .next t ∧ Told (624 + d.val) s t ∧ t.flash.die[d].state = .retired ∧
        t.flash.die[d].cause = 6 ∧ t = withEvents (s.modDie d (fun _ => t.flash.die[d])) t)) ∧
  (∀ d b s, flashRuns s = true → s.flash.die[d].state = .probation → probeBlock s.flash.die[d] = some b →
    ∃ t, exec (.probationBlockVerified d false) s = .next t ∧ Told 524 s t ∧ (blockOfDie t.flash.die[d] b).1 = .bad ∧
      t = withEvents (s.modDie d (fun _ => t.flash.die[d])) t)

/-- PRE_SINTER_PAGE_PROGRAMMED and BACKGROUND_RESTORE_READ (11 R599, R643; 12 R656, R677, R678; 06 R324; 02 R92): a slot that was not rewritten
meanwhile has its copy; the slots of the next stripe are restored, and a rebuilt codeword counts for its die. -/
def Obligations.CopyAndRestore : Prop :=
  (∀ s, flashRuns s = true → s.flash.preSinter = true →
    ∃ t, exec .preSinterPageProgrammed s = .next t ∧
      (∀ k c q, s.flash.copying = [(k, c)] → mapFind s.cache.slots k = some q → unchanged s.cache q c = true →
        roomLeft s = true → (curEpoch (makeRoom s).flash).isSome = true →
        ∃ r, mapFind t.cache.slots k = some r ∧ r.copyValid = true ∧ r.copy.isSome = true ∧ r.data = q.data ∧
          ∃ e, curEpoch t.flash = some e ∧ e.copies.getLast? = some c) ∧
      t.life = s.life ∧ t.isl = s.isl ∧ t.dict = s.dict ∧ t.time = s.time ∧ t.adm = s.adm ∧ t.hold = s.hold ∧ t.outage = s.outage ∧
      t.rails = s.rails ∧ t.port = s.port) ∧
  (∀ x s, flashRuns s = true → s.life.dev = .restore → s.flash.restoring = true → fetchWaits s = false →
    preSinterBusy s = false → nextStripe s = some x →
    ∃ t, exec (.backgroundRestoreRead .good) s = .next t ∧
      (∀ p ∈ x.2, ∀ q, mapFind t.cache.slots p.2 = some q → q.unrestored = false) ∧
      (∀ k, (∀ p ∈ x.2, p.2 ≠ k) → mapFind t.cache.slots k = mapFind s.cache.slots k) ∧
      s.flash.restoreDone ≤ t.flash.restoreDone ∧
      t = { s with
        cache := { s.cache with slots := t.cache.slots }, flash := { s.flash with restoreDone := t.flash.restoreDone }, out := t.out }) ∧
  (∀ x d s, flashRuns s = true → s.life.dev = .restore → s.flash.restoring = true → fetchWaits s = false →
    preSinterBusy s = false → nextStripe s = some x →
    ∃ t, exec (.backgroundRestoreRead (.rebuilt d)) s = .next t ∧ Told 525 s t ∧
      t.flash.die[d].rebuildCount = s.flash.die[d].rebuildCount + 1 ∧
      (∀ p ∈ x.2, ∀ q, mapFind t.cache.slots p.2 = some q → q.unrestored = false) ∧ t.life = s.life ∧ t.dict = s.dict ∧
      t.time = s.time) ∧
  (∀ x a b s, flashRuns s = true → s.life.dev = .restore → s.flash.restoring = true → fetchWaits s = false →
    preSinterBusy s = false → nextStripe s = some x →
    ∃ t, exec (.backgroundRestoreRead (.lost a b)) s = .next t ∧ Logged 517 s t ∧
      (∀ p ∈ x.2, ∀ q, mapFind t.cache.slots p.2 = some q → q.unrestored = false) ∧ t.life = s.life ∧ t.dict = s.dict ∧
      t.time = s.time)

/-! ### Cameras and coding -/

/-- FRAME_START (13 R713, R718, R719, R734, R741, R742; 14 R785): a frame in progress is dropped; a solo stream accepts the frame
with the next number, or drops it when it comes too early or no buffer is free; a running member takes its tick, or drops the frame
as surplus when the tick is taken; a port without a clock has no packets.
LONG_PACKET and FRAME_END (13 R711, R713 to R715, R717, R719, R737): a line of pixels joins the frame in progress, embedded data
is passed over, an unknown data type is counted, a packet in error drops the frame; a frame with every line is complete, one that is
short is dropped. -/
def Obligations.FramesAndPackets : Prop :=
  (∀ port vc s, portTakes s port = false → exec (.frameStart port vc) s = .next s) ∧
  (∀ port vc n s, portTakes s port = true → streamAt s port vc = some n → groupOf s n = none → overRate s n = false →
    bufferFree { strOf s n with cur := none } = true →
    ∃ t f, exec (.frameStart port vc) s = .next t ∧ (strOf t n).cur = some f ∧ f.lines = [] ∧ f.md.number = (strOf s n).number + 1 ∧
      f.md.time = s.time.timeBase ∧ f.md.inserted = false ∧ (strOf t n).number = (strOf s n).number + 1 ∧
      (strOf t n).dropped = (strOf s n).dropped + (if (strOf s n).cur.isSome then 1 else 0) ∧ (portOf t port).state = .receiving ∧
      ((strOf s n).state = .waiting → (strOf t n).state = .running ∧ Logged (streamEv n.val 0) s t) ∧
      (∀ m, m ≠ n → strOf t m = strOf s m) ∧ t = withEvents { s with video := t.video } t) ∧
  (∀ port vc n s, portTakes s port = true → streamAt s port vc = some n → groupOf s n = none → (strOf s n).cur = none →
    overRate s n = true ∨ bufferFree (strOf s n) = false →
    ∃ t, exec (.frameStart port vc) s = .next t ∧ (strOf t n).cur = none ∧ (strOf t n).number = (strOf s n).number ∧
      (strOf t n).dropped = (strOf s n).dropped + 1 ∧
      (secondPassed s (strOf s n).dropAt = true → Logged (streamEv n.val 2) s t) ∧ t = withEvents { s with video := t.video } t) ∧
  (∀ port vc n g t0 s, portTakes s port = true → streamAt s port vc = some n → groupOf s n = some g → s.video.group[g].start = some t0 →
    (strOf s n).state = .running → (strOf s n).cur = none → bufferFree (strOf s n) = true → firstTick s g t0 = (strOf s n).nextTick →
    ∃ t f, exec (.frameStart port vc) s = .next t ∧ (strOf t n).cur = some f ∧ f.md.number = (strOf s n).number + 1 ∧
      f.md.tick = firstTick s g t0 ∧ f.md.time = tickTime s g t0 (firstTick s g t0) ∧ (strOf t n).nextTick = firstTick s g t0 + 1 ∧
      t = withEvents { s with video := t.video } t) ∧
  (∀ port vc n g t0 s, portTakes s port = true → streamAt s port vc = some n → groupOf s n = some g → s.video.group[g].start = some t0 →
    (strOf s n).state = .running → (strOf s n).cur = none → firstTick s g t0 < (strOf s n).nextTick →
    ∃ t, exec (.frameStart port vc) s = .next t ∧ (strOf t n).cur = none ∧ (strOf t n).number = (strOf s n).number ∧
      (strOf t n).nextTick = (strOf s n).nextTick ∧ (strOf t n).dropped = (strOf s n).dropped + 1 ∧ (strOf t n).surplus = true ∧
      t = withEvents { s with video := t.video } t) ∧
  (∀ port vc n f data s, portTakes s port = true → streamAt s port vc = some n → (strOf s n).cur = some f → (strOf s n).format ≤ 1 →
    data.length = lineBytes 1 (s.sc n 0x4000 2) → f.lines.length < s.sc n 0x4000 3 →
    exec (.longPacket port vc 0x1E data .good) s = .next (s.modStream n (fun x => { x with
      format := 1, cur := some { f with lines := f.lines ++ [data], format := 1 } }))) ∧
  (∀ port vc data s, portTakes s port = true → exec (.longPacket port vc 0x12 data .good) s = .next s ∧
    exec (.longPacket port vc 0x12 data .corrected) s = .next (s.modPort port (fun x => { x with errors := x.errors + 1 }))) ∧
  (∀ port vc dt data s, portTakes s port = true → 4 ≤ dt.toNat → dt ≠ 0x12 → dt ≠ 0x1E → dt ≠ 0x1A →
    ∃ t, exec (.longPacket port vc dt data .good) s = .next t ∧ (portOf t port).unknown = (portOf s port).unknown + 1 ∧
      (secondPassed s (portOf s port).unknownAt = true → Told (portEv port.val 3) s t) ∧
      t = withEvents (s.modPort port (fun x => { x with unknown := x.unknown + 1, unknownAt := (portOf t port).unknownAt })) t) ∧
  (∀ port vc n dt data check s, portTakes s port = true → streamAt s port vc = some n → check = .badCrc ∨ check = .badHeader →
    ∃ t, exec (.longPacket port vc dt data check) s = .next t ∧ (strOf t n).cur = none ∧ (portOf t port).state = .error ∧
      (strOf t n).dropped = (strOf s n).dropped + (if (strOf s n).cur.isSome then 1 else 0) ∧
      (secondPassed s (portOf s port).errorAt = true → Told (portEv port.val 2) s t) ∧ t = withEvents { s with video := t.video } t) ∧
  (∀ port vc n f s, portTakes s port = true → streamAt s port vc = some n → streamLive s n = true → (strOf s n).endAt = none →
    (strOf s n).cur = some f → f.lines.length = s.sc n 0x4000 3 →
    ∃ t, exec (.frameEnd port vc) s = .next t ∧ (strOf t n).cur = none ∧ (strOf t n).captured = (strOf s n).captured + 1 ∧
      (strOf t n).underrun = 0 ∧ (strOf t n).endAt = some s.time.now ∧ (∃ st, (strOf t n).stats = some st ∧ st.md = f.md) ∧
      (takesFrames s n = true → ∃ g, (strOf t n).queue = (strOf s n).queue ++ [g] ∧ g.md = f.md ∧ g.rowsLeft = f.rowsLeft) ∧
      (takesFrames s n = false → (strOf t n).queue = (strOf s n).queue) ∧ (portOf t port).state ≠ .receiving ∧
      t = withEvents { s with video := t.video } t) ∧
  (∀ port vc n f s, portTakes s port = true → streamAt s port vc = some n → streamLive s n = true → (strOf s n).endAt = none →
    (strOf s n).cur = some f → f.lines.length ≠ s.sc n 0x4000 3 →
    ∃ t, exec (.frameEnd port vc) s = .next t ∧ (strOf t n).cur = none ∧ (strOf t n).captured = (strOf s n).captured ∧
      (strOf t n).dropped = (strOf s n).dropped + 1 ∧ t = withEvents { s with video := t.video } t)

/-- CLOCK_LANE_LOST and CLOCK_LANE_UP (01 R19; 13 R716): the port's state and rate follow its clock lane, each with its event, and
frames in progress on a lost port are dropped.
CCI_BURST_COMPLETE, CCI_NACK, CCI_BUS_STUCK, CCI_DIRECT_TRANSFER_DONE and TICK_TOLERANCE_EXPIRY (13 R729 to R735, R743, R744,
R746): a burst's set takes effect, a failed one is sent once more and then abandoned, a direct transfer leaves its result, and a tick
without a frame gets an inserted one. -/
def Obligations.ClockLanesCciAndTicks : Prop :=
  (∀ port s, portRuns s port = true → s.life.dev.supervised = true →
    ∃ t, exec (.clockLaneLost port) s = .next t ∧ (portOf t port).state = .noClock ∧ (portOf t port).rate = 0 ∧
      Logged (portEv port.val 1) s t ∧ (∀ n, portNo s n = port → (strOf t n).cur = none) ∧ t.life = s.life ∧ t.dict = s.dict ∧
      t.rails = s.rails) ∧
  (∀ port rate s, portRuns s port = false → s.life.dev.supervised = true →
    ∃ t, exec (.clockLaneUp port rate) s = .next t ∧ (portOf t port).state = .idle ∧ (portOf t port).rate = rate ∧
      Logged (portEv port.val 0) s t ∧ t.life = s.life ∧ t.dict = s.dict ∧ t.rails = s.rails) ∧
  (∀ port rate s, portRuns s port = true → exec (.clockLaneUp port rate) s = .next s) ∧
  (∀ port n id g met s, (portOf s port).burst = some (n, id, g, met) → setWaits s n id = true →
    ∃ t, exec (.cciBurstComplete port) s = .next t ∧
      (strOf t n).effects = (strOf s n).effects ++ [⟨effectFrame s n g met, id, met, false⟩] ∧
      (met = true → Told (streamEv n.val 8) s t) ∧ t = withEvents { s with video := t.video } t) ∧
  (∀ port n id g met s, (portOf s port).burst = some (n, id, g, met) →
    ((strOf s n).pendingSets.any fun q => q.id == id && q.failures == 0) = true →
    ∃ t, exec (.cciNack port) s = .next t ∧
      ((strOf t n).pendingSets.map fun q => (q.id, q.failures)) =
        ((strOf s n).pendingSets.map fun q => (q.id, if q.id = id then q.failures + 1 else q.failures)) ∧
      (∀ q ∈ (strOf t n).pendingSets, id ≤ q.id → q.due = false) ∧ t = withEvents { s with video := t.video } t) ∧
  (∀ port n id g met s, (portOf s port).burst = some (n, id, g, met) → setWaits s n id = true →
    ((strOf s n).pendingSets.any fun q => q.id == id && q.failures == 0) = false →
    ∃ t, exec (.cciNack port) s = .next t ∧
      (strOf t n).effects = (strOf s n).effects ++ [⟨effectFrame s n g met, id, false, true⟩] ∧
      Told (streamEv n.val 9) s t ∧ t = withEvents { s with video := t.video } t) ∧
  (∀ port s, cciFree s port = false → ∃ t, exec (.cciBusStuck port) s = .next t ∧ Told (portEv port.val 4) s t ∧
    t = withEvents { s with video := t.video } t) ∧
  (∀ port s, cciFree s port = true → exec (.cciBusStuck port) s = .next s) ∧
  (∀ n e s, (strOf s n).cciRunning = true →
    ∃ t, exec (.cciDirectTransferDone n e) s = .next t ∧ (strOf t n).cciRunning = false ∧ (strOf t n).cciOp = 0 ∧
      (strOf t n).cciResult = (match e with | .ok _ => 2 | .nack => 3 | .timeout => 4) ∧
      (∀ v, e = .ok v → (strOf s n).cciOp = 2 → t.held (blockIndex 0x4011 n.val) 2 = v.toNat % 256 ^ s.sc n 0x4011 3) ∧
      ((strOf s n).cciOp ≠ 2 ∨ e = .nack ∨ e = .timeout → t = withEvents { s with video := t.video } t)) ∧
  (∀ n g t0 s, groupOf s n = some g → s.video.group[g].start = some t0 → (strOf s n).state = .running →
    tickTime s g t0 (strOf s n).nextTick + groupTolerance s g ≤ s.time.timeBase →
    ∃ t, exec (.tickToleranceExpiry n) s = .next t ∧ (strOf t n).inserted = (strOf s n).inserted + 1 ∧
      (strOf t n).underrun = (strOf s n).underrun + 1 ∧ (strOf t n).number = (strOf s n).number + 1 ∧
      (strOf t n).nextTick = (strOf s n).nextTick + 1 ∧ ((strOf s n).underrun = 0 → Told (streamEv n.val 3) s t) ∧
      ((strOf t n).state = .suspended ↔ underrunLimit s g ≤ (strOf s n).underrun + 1) ∧
      t = withEvents { s with video := t.video } t)

/-- PIXEL_ROW_COMPLETE and SYNTAX_RING_CLEARED (14 R769, R774 to R777, R795, R813): the first row starts the coding of the oldest
frame, the last row frees its buffer, a frame of a paused recording is discarded, a row gives way to one that is due before it and to a full
ring, and the ring's marks follow its fill. -/
def Obligations.RowsAndSyntaxRing : Prop :=
  (∀ n fill r f s, headFrame s n = some f → s.island .pixel = .running → admitted s n = true → takesFrames s n = true → f.started = false →
    1 < codingRows s n → pixelYields s n f = false → s.video.ringFull = false ∨ fill < 1000 →
    (∀ d ∈ (encOf s n).coding, d.md.number ≠ f.md.number) →
    ∃ t g c, exec (.pixelRowComplete n fill r) s = .next t ∧ (strOf t n).queue = g :: (strOf s n).queue.tail ∧ g.started = true ∧
      g.rowsLeft = codingRows s n - 1 ∧ g.md = f.md ∧ (encOf t n).coding = (encOf s n).coding ++ [c] ∧ c.md = f.md ∧
      c.idr = isIdr s n f ∧ c.total = codingRows s n ∧ c.rows.length = 1 ∧ c.skip = f.md.inserted ∧
      (encOf t n).state = .encoding ∧ t.video.ringFill = min 1000 fill ∧
      ((encOf s n).state = .waiting → Told (streamEv n.val 16) s t) ∧ t = withEvents { s with video := t.video } t) ∧
  (∀ n fill r f s, headFrame s n = some f → s.island .pixel = .running → admitted s n = true → f.started = true → f.rowsLeft ≤ 1 →
    pixelYields s n f = false → s.video.ringFull = false ∨ fill < 1000 →
    ∃ t, exec (.pixelRowComplete n fill r) s = .next t ∧ (strOf t n).queue = (strOf s n).queue.tail ∧
      (encOf t n).frames = (encOf s n).frames + 1 ∧ t.video.ringFill = min 1000 fill ∧
      (t.video.ringFull = true ↔ 1000 ≤ fill) ∧ (t.video.ringHigh = true ↔ s.video.ringHigh = true ∨ s.cfg 0x2A00 5 ≤ fill) ∧
      (s.video.ringHigh = false → s.cfg 0x2A00 5 ≤ fill → Logged 1728 s t) ∧ t = withEvents { s with video := t.video } t) ∧
  (∀ n fill r f s, headFrame s n = some f → f.started = true ∨ takesFrames s n = true →
    pixelYields s n f = true ∨ s.video.ringFull = true ∧ 1000 ≤ fill → exec (.pixelRowComplete n fill r) s = .next s) ∧
  (∀ n fill r f s, headFrame s n = some f → s.island .pixel = .running → admitted s n = true → f.started = false → takesFrames s n = false →
    exec (.pixelRowComplete n fill r) s = .next (s.modStream n (fun x => { x with queue := x.queue.tail }))) ∧
  (∀ n fill r s, headFrame s n = none → exec (.pixelRowComplete n fill r) s = .next s) ∧
  (∀ fill s, s.video.ringHigh = true → fill + 250 < s.cfg 0x2A00 5 →
    ∃ t, exec (.syntaxRingCleared fill) s = .next t ∧ Told 1730 s t ∧
      t = withEvents { s with video := { s.video with ringFill := fill, ringHigh := false, ringFull := false } } t) ∧
  (∀ fill s, s.cfg 0x2A00 5 ≤ fill + 250 → exec (.syntaxRingCleared fill) s = .next s)

/-- LIVE_SLICE_WRITE (14 R798 to R802, R804): a slice that has room is written with the producer offset after it, the last slice of a
frame raises the stream's vector, and a slice without room discards the rest of its frame; a stream of another class writes none.
SEGMENT_FLUSH and RECORDING_FRAME_ENCODED (14 R807, R810, R813; 06 R293): what is staged is PUT or recording pauses; an IDR frame
opens the next segment; a frame of a paused recording is discarded; a frame without a segment waits for an IDR frame. -/
def Obligations.LiveAndRecording : Prop :=
  (∀ n nal consumer c s, (encOf s n).coding.head? = some c → s.island .entropy = .running → sliceReady s n = true →
    (encOf s n).overflow = false → liveOpen s n = true → 8 ≤ s.port.fns[s.cache.videoTenant].mps →
    let last := lastSlice c (encOf s n).slice
    let bytes := sliceBytes c (encOf s n).slice last nal
    liveRoom s n bytes.length (encOf s n).consumer = true →
    ∃ t, exec (.liveSliceWrite n nal consumer) s = .next t ∧
      (encOf t n).producer =
        (encOf s n).producer + padBefore (liveSize s n) (encOf s n).producer bytes.length + bytes.length ∧
      (last = false → (encOf t n).slice = (encOf s n).slice + 1 ∧ (encOf t n).coding = (encOf s n).coding) ∧
      (last = true → (encOf t n).slice = 0 ∧ (encOf t n).coding = (encOf s n).coding.tail) ∧
      (∃ before, t.out = s.out ++ before ++
        [.dma s.cache.videoTenant (liveIndex s n) (leBytes 8 (encOf t n).producer)] ++
        (if last then [.msix s.cache.videoTenant (s.sc n 0x4043 4)] else [])) ∧
      t = { s with video := t.video, port := { s.port with lastFn := s.cache.videoTenant }, out := t.out }) ∧
  (∀ n nal consumer c s, (encOf s n).coding.head? = some c → s.island .entropy = .running → sliceReady s n = true →
    (encOf s n).overflow = false → liveOpen s n = true → lastSlice c (encOf s n).slice = false →
    liveRoom s n (sliceBytes c (encOf s n).slice false nal).length (encOf s n).consumer = false →
    liveRoom s n (sliceBytes c (encOf s n).slice false nal).length consumer.toNat = false →
    ∃ t, exec (.liveSliceWrite n nal consumer) s = .next t ∧ (encOf t n).overflow = true ∧
      (encOf t n).overflows = (encOf s n).overflows + 1 ∧ (encOf t n).producer = (encOf s n).producer ∧ Told (streamEv n.val 20) s t ∧
      ((encOf s n).ltr = true → (encOf s n).ltrWhole = true → (encOf t n).nextLtr = true) ∧
      ((encOf s n).ltr = false ∨ (encOf s n).ltrWhole = false → (encOf t n).idrCause.isSome = true) ∧
      t = withEvents { s with video := t.video } t) ∧
  (∀ n nal consumer s, classOf s n ≠ 1 ∨ sliceReady s n = false → exec (.liveSliceWrite n nal consumer) s = .next s) ∧
  (∀ n g s, s.island .entropy = .running → (recOf s n).seg = some g → g.staged ≠ [] → (recOf s n).paused = false →
    ∃ t, exec (.segmentFlush n) s = .next t ∧
      ((recOf t n).paused = true ∧ (recOf t n).seg = none ∨
        ∃ h, (recOf t n).seg = some h ∧ h.staged = [] ∧ h.put = g.put + g.staged.length ∧ h.framesPut = g.frames) ∧
      (recOf t n).current = (recOf s n).current ∧ t.life = s.life ∧ t.dict = s.dict ∧ t.port = s.port ∧ t.rails = s.rails) ∧
  (∀ n s, (recOf s n).seg = none → exec (.segmentFlush n) s = .next s) ∧
  (∀ n nal c s, (encOf s n).coding.head? = some c → s.island .entropy = .running → frameReady s n = true → liveWaits s = false →
    (recOf s n).paused = true →
    exec (.recordingFrameEncoded n nal) s = .next (s.modEnc n (fun e => { e with coding := e.coding.tail }))) ∧
  (∀ n nal c s, (encOf s n).coding.head? = some c → s.island .entropy = .running → frameReady s n = true → liveWaits s = false →
    (recOf s n).paused = false → (recOf s n).seg = none → c.idr = true →
    ∃ t, exec (.recordingFrameEncoded n nal) s = .next t ∧ (encOf t n).coding = (encOf s n).coding.tail ∧
      ((recOf t n).paused = true ∨ ∃ g, (recOf t n).seg = some g ∧ g.number = nextSegment s n ∧ g.frames = 1 ∧
        (recOf t n).current = nextSegment s n ∧ Logged (streamEv n.val 21) s t) ∧
      t.life = s.life ∧ t.dict = s.dict ∧ t.port = s.port ∧ t.rails = s.rails) ∧
  (∀ n nal c s, (encOf s n).coding.head? = some c → s.island .entropy = .running → frameReady s n = true → liveWaits s = false →
    (recOf s n).paused = false → (recOf s n).seg = none → c.idr = false →
    ∃ t, exec (.recordingFrameEncoded n nal) s = .next t ∧ (encOf t n).coding = (encOf s n).coding.tail ∧
      (encOf t n).idrCause.isSome = true ∧ t = { s with video := t.video }) ∧
  (∀ n nal s, frameReady s n = false ∨ liveWaits s = true → exec (.recordingFrameEncoded n nal) s = .next s)

/-- DECODE_PICTURE_OUTPUT and EVENT_VECTOR_RAISE (14 R771 to R773, R818 to R821; 15 R847): a picture is counted and its record follows in
the output ring, once no encoding work waits; the last one closes the session; a stop, or a source segment that is missing, leaves its
error; and a function's vector is raised once for what is due, at
most every 100 µs. -/
def Obligations.PicturesAndEventVectors : Prop :=
  (∀ d p read last s, s.island .entropy = .running → s.island .pixel = .running → decOpen s d = true → decodeServed s = true →
    sourceMissing s d = false → encodeWaits s = false → mayRead s d read = true →
    ∃ t, exec (.decodePictureOutput d (.picture p read last)) s = .next t ∧
      (s.video.dec[d]).pictures + 1 = (t.video.dec[d]).pictures ∧
      (t.video.dec[d]).producer = (s.video.dec[d]).producer + (pictureBytes p false (fromSegment s d)).length ∧
      (t.video.dec[d]).consumer = (s.video.dec[d]).consumer + read ∧
      (t.video.dec[d]).state = (if last ∧ (s.video.dec[d]).ending = true then 0 else 2) ∧
      (last = true → (s.video.dec[d]).ending = true → Logged (1734 + d.val) s t) ∧
      t = withEvents { s with video := t.video, port := { s.port with lastFn := t.port.lastFn } } t) ∧
  (∀ d p failed read s, s.island .entropy = .running → s.island .pixel = .running → decOpen s d = true → decodeServed s = true →
    sourceMissing s d = false → encodeWaits s = false → mayRead s d read = true →
    ∃ t, exec (.decodePictureOutput d (.concealed p failed read false)) s = .next t ∧ (t.video.dec[d]).error = 3 ∧
      (t.video.dec[d]).pictures = (s.video.dec[d]).pictures + 1 ∧ Told (1736 + d.val) s t) ∧
  (∀ d k s, s.island .entropy = .running → s.island .pixel = .running → decOpen s d = true → decodeServed s = true →
    sourceMissing s d = false → encodeWaits s = false →
    ∃ t, exec (.decodePictureOutput d (.stop k)) s = .next t ∧ (t.video.dec[d]).state = 3 ∧ (t.video.dec[d]).error = stopCode k ∧
      (t.video.dec[d]).pictures = (s.video.dec[d]).pictures ∧ Told (1736 + d.val) s t ∧ t = withEvents { s with video := t.video } t) ∧
  (∀ d r s, s.island .entropy = .running → s.island .pixel = .running → decOpen s d = true → decodeServed s = true →
    sourceMissing s d = true →
    ∃ t, exec (.decodePictureOutput d r) s = .next t ∧ (t.video.dec[d]).state = 3 ∧ (t.video.dec[d]).error = 4 ∧
      (t.video.dec[d]).pictures = (s.video.dec[d]).pictures ∧ Told (1736 + d.val) s t ∧ t = withEvents { s with video := t.video } t) ∧
  (∀ d r s, sourceMissing s d = false → encodeWaits s = true → exec (.decodePictureOutput d r) s = .next s) ∧
  (∀ fn s, (s.ev.ring[fn]).due = true → ringOpen s fn = true → vectorFree (s.ev.ring[fn]).sentAt s.time.now = true →
    exec (.eventVectorRaise fn) s = .next { s with
      ev := { s.ev with ring := vset s.ev.ring fn { s.ev.ring[fn] with due := false, sentAt := some s.time.now } }
      out := s.out ++ [.msix fn (s.cfg (blockIndex 0x3050 fn.val) 1)] }) ∧
  (∀ fn s, vectorFree (s.ev.ring[fn]).sentAt s.time.now = false → exec (.eventVectorRaise fn) s = .next s)

/-! ### The whole machine -/

/-- A step with a command at the front of the queue is that command on the state with the queue's rest, and it leaves that rest waiting. -/
def Obligations.StepRunsTheFrontCommand : Prop :=
  ∀ c rest s, s.pending = c :: rest →
    step s = exec c { s with pending := rest } ∧ ∃ t, step s = .next t ∧ t.pending = rest

/-- With nothing in the queue a step is one microsecond (the model's choice, log 1): the clocks advance and nothing else changes, but
for what was waiting for an island that runs now (01 R27; log 122). -/
def Obligations.IdleStepIsOneMicrosecond : Prop :=
  ∀ s, s.pending = [] → ∃ t, step s = .next (handshakes t) ∧ t.time.now = s.time.now + 1 ∧
    t.time.timeBase = s.time.timeBase + (if s.life.dev.supervised then 1 else 0) ∧ t = { s with time := t.time } ∧
    (s.isl.handed = [] → s.isl.waiting = [] → step s = .next t)

/-- Every command answers a next state in every state, and none of them changes the queue. -/
def Obligations.EveryCommandAnswers : Prop :=
  ∀ c s, ∃ t, exec c s = .next t ∧ t.pending = s.pending

/-- What State.reset holds: OFF, nothing running, no link, no event, no dirty data, the factory keep-store record (02 R54; 09 R528), and
for what the spec gives no reset value the values of log 2. -/
def Obligations.ResetLeavesTheControllerOff : Prop :=
  State.reset.life.dev = .off ∧ State.reset.pending = [] ∧ (∀ i, State.reset.island i = .stopped) ∧ State.reset.port.linkState = 0 ∧
  State.reset.cache.slots = [] ∧ State.reset.ev.log = [] ∧ State.reset.ev.started = false ∧ State.reset.mode.expert = none ∧
  State.reset.mode.lock = false ∧ (∀ r : Fin 12, State.reset.rails.rail[r].status = .off) ∧
  State.reset.keep.copyA.body = KeepRec.factory ∧ State.reset.out = []

/-- The invariant holds at reset. -/
def Obligations.ResetKeepsBounds : Prop := Machine.Inv State.reset

/-- Every step keeps the invariant: addressed stores stay in canonical form, and the event log, the stores of early events, the EMCY queue
and the keep-store's event areas stay within their bounds (15 R832, R834, R836, R852, R856; 09 R449). -/
def Obligations.EveryStepKeepsBounds : Prop :=
  ∀ s t, Machine.Inv s → step s = .next t → Machine.Inv t

/-- A source that is not enabled is not logged, delivered, sent as EMCY or pending: raised while the log runs it changes nothing, and held
from earlier it is passed over when the log takes the held records (15 R825). -/
def Obligations.DisabledSourcesLeaveNoTrace : Prop :=
  (∀ s ev isl vs, evEnabled s ev = false → controlRuns s = true → s.ev.started = true → raise s ev isl vs = s) ∧
  (∀ s fuel r rest x, evEnabled s r.event = false → logRecs s (fuel + 1) (r :: rest) x = logRecs s fuel rest x)

/-- Occurrences of error sources are never folded (15 R841). -/
def Obligations.ErrorSourcesNeverFold : Prop :=
  ∀ s r log, severity r.event = 2 → r.severity = severity r.event → foldLog s r log = none

/-- A function's ring never receives a source of another tenant's bank, except PF0's under bit 8 of its EventClasses (15 R850). -/
def Obligations.RingsKeepTenantsApart : Prop :=
  ∀ s (n : Fin 16) x r v, tenantOf r.event = some v → v ≠ n.val →
    ¬(n = 0 ∧ (s.cfg (blockIndex 0x3050 0) 2).testBit 8 = true) → ringPut s x n r = (x, false)

/-- One expert session at a time: an attempt to open a second one answers with an error, raises EV-0014, and leaves the first one open
(03 R124). -/
def Obligations.OneExpertSession : Prop :=
  ∀ p q code s, Accepts p 0x2021 1 (leBytes 4 code.toNat) s → s.mode.expert = some q → ¬(holdsExpert p s = true ∧ code = 0) →
    ∃ t e, exec (.expertOpen p code) s = .next t ∧ e ≠ 0 ∧ Answered p 0x2021 1 e [] t ∧ Told 14 s t ∧ t.mode.expert = some q

/-- The configuration lock opens when an A session writes 1 and closes when one writes 0, at any BOOT and at entry to WARN (04 R143):
after any command that enters BOOT or WARN, or counts a BOOT, it is
closed. -/
def Obligations.ConfigLockCloses : Prop :=
  (∀ p s, Accepts p 0x2030 1 (leBytes 1 1) s → ∃ t, exec (.configLockWrite p 1) s = .next t ∧ t.mode.lock = true) ∧
  (∀ p s, Accepts p 0x2030 1 (leBytes 1 0) s → ∃ t, exec (.configLockWrite p 0) s = .next t ∧ t.mode.lock = false) ∧
  (∀ c s t, exec c s = .next t → s.life.dev ≠ t.life.dev → t.life.dev = .boot ∨ t.life.dev = .warn → t.mode.lock = false) ∧
  (∀ c s t, exec c s = .next t → s.life.bootCount ≠ t.life.bootCount → t.mode.lock = false)

/-- The wall clock is set by the administrator through 2100h:02 and 2100h:03, and it advances with the time base (01 R45). -/
def Obligations.WallClockSetAndAdvances : Prop :=
  (∀ p seconds fraction s, Accepts p 0x2100 2 (leBytes 4 seconds.toNat) s → Accepts p 0x2100 3 (leBytes 2 fraction.toNat) s →
    ∃ t, exec (.wallClockWrite p seconds fraction) s = .next t ∧ Answered p 0x2100 3 0 [] t ∧ t.time.wallSet = true ∧
      t.wallSeconds = seconds.toNat ∧ t.wallFraction = fraction.toNat ∧
      t = withRequest { s with time := { s.time with wallSet := true, wall := t.time.wall }, packEst := t.packEst } t) ∧
  (∀ s, s.pending = [] → s.time.wallSet = true →
    ∃ t, step s = .next (handshakes t) ∧ (s.isl.handed = [] → s.isl.waiting = [] → step s = .next t) ∧
      (t.time.wall : Int) - s.time.wall = 65536 * ((t.time.timeBase : Int) - s.time.timeBase))

/-- A dirty slot, and a slot of a frozen tenant, is never taken for a PUT (06 R287). -/
def Obligations.DirtySlotsAreNotTaken : Prop :=
  ∀ s n vol lba len need u k q, Machine.Inv s → takeSlots s n vol lba len need = some u → mapFind s.cache.slots k = some q →
    q.dirty = true ∨ q.frozen = true ∨ (s.ten q.tenant).frozen = true → mapFind u.cache.slots k = some q

/-- The data of a PUT that a handle and slots can be had for is in the cache when PUT_APPLY ends it: each of its blocks holds what was sent,
dirty if the tenant was write-back at the check, else clean, under the PUT's write sequence (05 R228, R231, R232, R234; 06 R289, R290). -/
def Obligations.PutsStoreTheirBlocks : Prop :=
  ∀ id bs c s, Machine.Inv s → findCmd s id = some c → cmdIs .put .transferring c = true → dmaOpen s c.fn = true →
    bs.length = sqeLength c.sqe → (handleOf s.cache c.fn (sqeVolume c.sqe)).isSome = true ∨ s.cache.handles.length < 4096 →
    s.cache.slots.length + slotlessBlocks s c ≤ s.cache.usable →
    ∃ t, exec (.putApply id (.data bs)) s = .next t ∧ ∀ i b, bs[i]? = some b →
      ∃ q, slotAt t.cache c.fn (sqeVolume c.sqe) (sqeLba c.sqe + i) = some q ∧ q.data = b ∧ q.dirty = c.protect ∧
        q.seq = (s.ten c.fn).writeSeq + 1

/-- A function's cache commands leave every dirty block of another tenant where it is, with its data and sequence (05 R273; 06 R287), but for
PF0, which names a target. -/
def Obligations.TenantsKeepTheirDirtyBlocks : Prop :=
  ∀ s t id c cmd k q, Machine.Inv s → findCmd s id = some c → c.fn ≠ 0 →
    (∃ elems ecc r, cmd ∈ [Instr.put id elems, .putApply id r, .get id elems ecc, .clean id, .drop id, .list id elems, .fence id]) →
    exec cmd s = .next t → mapFind s.cache.slots k = some q → q.tenant ≠ c.fn → q.dirty = true →
    ∃ u, mapFind t.cache.slots k = some u ∧ u.tenant = q.tenant ∧ u.handle = q.handle ∧ u.lba = q.lba ∧ u.data = q.data ∧
      u.seq = q.seq ∧ u.dirty = true
end

