-- ==== Sys2Proof/Laws/State.lean ====
section
/-! SUPPORT. Projections of the state through a conditional, a fold over a range and a fold over a list. -/

namespace Sys2Proof.Machine

@[simp] theorem ite_proj (c : Prop) [Decidable c] (a b : State) :
    (if c then a else b).time = (if c then a.time else b.time) ∧
    (if c then a else b).isl = (if c then a.isl else b.isl) ∧
    (if c then a else b).life = (if c then a.life else b.life) ∧
    (if c then a else b).mode = (if c then a.mode else b.mode) ∧
    (if c then a else b).nor = (if c then a.nor else b.nor) ∧
    (if c then a else b).dict = (if c then a.dict else b.dict) ∧
    (if c then a else b).can = (if c then a.can else b.can) ∧
    (if c then a else b).mbx = (if c then a.mbx else b.mbx) ∧
    (if c then a else b).win = (if c then a.win else b.win) ∧
    (if c then a else b).port = (if c then a.port else b.port) ∧
    (if c then a else b).cache = (if c then a.cache else b.cache) ∧
    (if c then a else b).adm = (if c then a.adm else b.adm) ∧
    (if c then a else b).pack = (if c then a.pack else b.pack) ∧
    (if c then a else b).bank = (if c then a.bank else b.bank) ∧
    (if c then a else b).packEst = (if c then a.packEst else b.packEst) ∧
    (if c then a else b).bankEst = (if c then a.bankEst else b.bankEst) ∧
    (if c then a else b).hold = (if c then a.hold else b.hold) ∧
    (if c then a else b).rails = (if c then a.rails else b.rails) ∧
    (if c then a else b).keep = (if c then a.keep else b.keep) ∧
    (if c then a else b).tremor = (if c then a.tremor else b.tremor) ∧
    (if c then a else b).outage = (if c then a.outage else b.outage) ∧
    (if c then a else b).flash = (if c then a.flash else b.flash) ∧
    (if c then a else b).video = (if c then a.video else b.video) ∧
    (if c then a else b).ev = (if c then a.ev else b.ev) ∧
    (if c then a else b).out = (if c then a.out else b.out) ∧
    (if c then a else b).pending = (if c then a.pending else b.pending) := by
  split <;> simp

/-- A projection that a fold's step leaves alone is left alone by the fold. -/
theorem foldl_keeps {α β : Type} (g : State → β) (f : State → α → State) (h : ∀ t a, g (f t a) = g t) (l : List α) (s : State) :
    g (l.foldl f s) = g s := by
  induction l generalizing s with
  | nil => rfl
  | cons a l ih => rw [List.foldl_cons, ih, h]

@[simp] theorem foldl_time {α : Type} (f : State → α → State) (l : List α) (s : State) (h : ∀ t a, (f t a).time = t.time) :
    (l.foldl f s).time = s.time := foldl_keeps State.time f h l s

@[simp] theorem forAll_time {n : Nat} (f : State → Fin n → State) (s : State) (h : ∀ t a, (f t a).time = t.time) :
    (forAll n f s).time = s.time := foldl_keeps State.time f h _ s

@[simp] theorem foldl_isl {α : Type} (f : State → α → State) (l : List α) (s : State) (h : ∀ t a, (f t a).isl = t.isl) :
    (l.foldl f s).isl = s.isl := foldl_keeps State.isl f h l s

@[simp] theorem forAll_isl {n : Nat} (f : State → Fin n → State) (s : State) (h : ∀ t a, (f t a).isl = t.isl) :
    (forAll n f s).isl = s.isl := foldl_keeps State.isl f h _ s

@[simp] theorem foldl_life {α : Type} (f : State → α → State) (l : List α) (s : State) (h : ∀ t a, (f t a).life = t.life) :
    (l.foldl f s).life = s.life := foldl_keeps State.life f h l s

@[simp] theorem forAll_life {n : Nat} (f : State → Fin n → State) (s : State) (h : ∀ t a, (f t a).life = t.life) :
    (forAll n f s).life = s.life := foldl_keeps State.life f h _ s

@[simp] theorem foldl_mode {α : Type} (f : State → α → State) (l : List α) (s : State) (h : ∀ t a, (f t a).mode = t.mode) :
    (l.foldl f s).mode = s.mode := foldl_keeps State.mode f h l s

@[simp] theorem forAll_mode {n : Nat} (f : State → Fin n → State) (s : State) (h : ∀ t a, (f t a).mode = t.mode) :
    (forAll n f s).mode = s.mode := foldl_keeps State.mode f h _ s

@[simp] theorem foldl_nor {α : Type} (f : State → α → State) (l : List α) (s : State) (h : ∀ t a, (f t a).nor = t.nor) :
    (l.foldl f s).nor = s.nor := foldl_keeps State.nor f h l s

@[simp] theorem forAll_nor {n : Nat} (f : State → Fin n → State) (s : State) (h : ∀ t a, (f t a).nor = t.nor) :
    (forAll n f s).nor = s.nor := foldl_keeps State.nor f h _ s

@[simp] theorem foldl_dict {α : Type} (f : State → α → State) (l : List α) (s : State) (h : ∀ t a, (f t a).dict = t.dict) :
    (l.foldl f s).dict = s.dict := foldl_keeps State.dict f h l s

@[simp] theorem forAll_dict {n : Nat} (f : State → Fin n → State) (s : State) (h : ∀ t a, (f t a).dict = t.dict) :
    (forAll n f s).dict = s.dict := foldl_keeps State.dict f h _ s

@[simp] theorem foldl_can {α : Type} (f : State → α → State) (l : List α) (s : State) (h : ∀ t a, (f t a).can = t.can) :
    (l.foldl f s).can = s.can := foldl_keeps State.can f h l s

@[simp] theorem forAll_can {n : Nat} (f : State → Fin n → State) (s : State) (h : ∀ t a, (f t a).can = t.can) :
    (forAll n f s).can = s.can := foldl_keeps State.can f h _ s

@[simp] theorem foldl_mbx {α : Type} (f : State → α → State) (l : List α) (s : State) (h : ∀ t a, (f t a).mbx = t.mbx) :
    (l.foldl f s).mbx = s.mbx := foldl_keeps State.mbx f h l s

@[simp] theorem forAll_mbx {n : Nat} (f : State → Fin n → State) (s : State) (h : ∀ t a, (f t a).mbx = t.mbx) :
    (forAll n f s).mbx = s.mbx := foldl_keeps State.mbx f h _ s

@[simp] theorem foldl_win {α : Type} (f : State → α → State) (l : List α) (s : State) (h : ∀ t a, (f t a).win = t.win) :
    (l.foldl f s).win = s.win := foldl_keeps State.win f h l s

@[simp] theorem forAll_win {n : Nat} (f : State → Fin n → State) (s : State) (h : ∀ t a, (f t a).win = t.win) :
    (forAll n f s).win = s.win := foldl_keeps State.win f h _ s

@[simp] theorem foldl_port {α : Type} (f : State → α → State) (l : List α) (s : State) (h : ∀ t a, (f t a).port = t.port) :
    (l.foldl f s).port = s.port := foldl_keeps State.port f h l s

@[simp] theorem forAll_port {n : Nat} (f : State → Fin n → State) (s : State) (h : ∀ t a, (f t a).port = t.port) :
    (forAll n f s).port = s.port := foldl_keeps State.port f h _ s

@[simp] theorem foldl_cache {α : Type} (f : State → α → State) (l : List α) (s : State) (h : ∀ t a, (f t a).cache = t.cache) :
    (l.foldl f s).cache = s.cache := foldl_keeps State.cache f h l s

@[simp] theorem forAll_cache {n : Nat} (f : State → Fin n → State) (s : State) (h : ∀ t a, (f t a).cache = t.cache) :
    (forAll n f s).cache = s.cache := foldl_keeps State.cache f h _ s

@[simp] theorem foldl_adm {α : Type} (f : State → α → State) (l : List α) (s : State) (h : ∀ t a, (f t a).adm = t.adm) :
    (l.foldl f s).adm = s.adm := foldl_keeps State.adm f h l s

@[simp] theorem forAll_adm {n : Nat} (f : State → Fin n → State) (s : State) (h : ∀ t a, (f t a).adm = t.adm) :
    (forAll n f s).adm = s.adm := foldl_keeps State.adm f h _ s

@[simp] theorem foldl_pack {α : Type} (f : State → α → State) (l : List α) (s : State) (h : ∀ t a, (f t a).pack = t.pack) :
    (l.foldl f s).pack = s.pack := foldl_keeps State.pack f h l s

@[simp] theorem forAll_pack {n : Nat} (f : State → Fin n → State) (s : State) (h : ∀ t a, (f t a).pack = t.pack) :
    (forAll n f s).pack = s.pack := foldl_keeps State.pack f h _ s

@[simp] theorem foldl_bank {α : Type} (f : State → α → State) (l : List α) (s : State) (h : ∀ t a, (f t a).bank = t.bank) :
    (l.foldl f s).bank = s.bank := foldl_keeps State.bank f h l s

@[simp] theorem forAll_bank {n : Nat} (f : State → Fin n → State) (s : State) (h : ∀ t a, (f t a).bank = t.bank) :
    (forAll n f s).bank = s.bank := foldl_keeps State.bank f h _ s

@[simp] theorem foldl_packEst {α : Type} (f : State → α → State) (l : List α) (s : State) (h : ∀ t a, (f t a).packEst = t.packEst) :
    (l.foldl f s).packEst = s.packEst := foldl_keeps State.packEst f h l s

@[simp] theorem forAll_packEst {n : Nat} (f : State → Fin n → State) (s : State) (h : ∀ t a, (f t a).packEst = t.packEst) :
    (forAll n f s).packEst = s.packEst := foldl_keeps State.packEst f h _ s

@[simp] theorem foldl_bankEst {α : Type} (f : State → α → State) (l : List α) (s : State) (h : ∀ t a, (f t a).bankEst = t.bankEst) :
    (l.foldl f s).bankEst = s.bankEst := foldl_keeps State.bankEst f h l s

@[simp] theorem forAll_bankEst {n : Nat} (f : State → Fin n → State) (s : State) (h : ∀ t a, (f t a).bankEst = t.bankEst) :
    (forAll n f s).bankEst = s.bankEst := foldl_keeps State.bankEst f h _ s

@[simp] theorem foldl_hold {α : Type} (f : State → α → State) (l : List α) (s : State) (h : ∀ t a, (f t a).hold = t.hold) :
    (l.foldl f s).hold = s.hold := foldl_keeps State.hold f h l s

@[simp] theorem forAll_hold {n : Nat} (f : State → Fin n → State) (s : State) (h : ∀ t a, (f t a).hold = t.hold) :
    (forAll n f s).hold = s.hold := foldl_keeps State.hold f h _ s

@[simp] theorem foldl_rails {α : Type} (f : State → α → State) (l : List α) (s : State) (h : ∀ t a, (f t a).rails = t.rails) :
    (l.foldl f s).rails = s.rails := foldl_keeps State.rails f h l s

@[simp] theorem forAll_rails {n : Nat} (f : State → Fin n → State) (s : State) (h : ∀ t a, (f t a).rails = t.rails) :
    (forAll n f s).rails = s.rails := foldl_keeps State.rails f h _ s

@[simp] theorem foldl_keep {α : Type} (f : State → α → State) (l : List α) (s : State) (h : ∀ t a, (f t a).keep = t.keep) :
    (l.foldl f s).keep = s.keep := foldl_keeps State.keep f h l s

@[simp] theorem forAll_keep {n : Nat} (f : State → Fin n → State) (s : State) (h : ∀ t a, (f t a).keep = t.keep) :
    (forAll n f s).keep = s.keep := foldl_keeps State.keep f h _ s

@[simp] theorem foldl_tremor {α : Type} (f : State → α → State) (l : List α) (s : State) (h : ∀ t a, (f t a).tremor = t.tremor) :
    (l.foldl f s).tremor = s.tremor := foldl_keeps State.tremor f h l s

@[simp] theorem forAll_tremor {n : Nat} (f : State → Fin n → State) (s : State) (h : ∀ t a, (f t a).tremor = t.tremor) :
    (forAll n f s).tremor = s.tremor := foldl_keeps State.tremor f h _ s

@[simp] theorem foldl_outage {α : Type} (f : State → α → State) (l : List α) (s : State) (h : ∀ t a, (f t a).outage = t.outage) :
    (l.foldl f s).outage = s.outage := foldl_keeps State.outage f h l s

@[simp] theorem forAll_outage {n : Nat} (f : State → Fin n → State) (s : State) (h : ∀ t a, (f t a).outage = t.outage) :
    (forAll n f s).outage = s.outage := foldl_keeps State.outage f h _ s

@[simp] theorem foldl_flash {α : Type} (f : State → α → State) (l : List α) (s : State) (h : ∀ t a, (f t a).flash = t.flash) :
    (l.foldl f s).flash = s.flash := foldl_keeps State.flash f h l s

@[simp] theorem forAll_flash {n : Nat} (f : State → Fin n → State) (s : State) (h : ∀ t a, (f t a).flash = t.flash) :
    (forAll n f s).flash = s.flash := foldl_keeps State.flash f h _ s

@[simp] theorem foldl_video {α : Type} (f : State → α → State) (l : List α) (s : State) (h : ∀ t a, (f t a).video = t.video) :
    (l.foldl f s).video = s.video := foldl_keeps State.video f h l s

@[simp] theorem forAll_video {n : Nat} (f : State → Fin n → State) (s : State) (h : ∀ t a, (f t a).video = t.video) :
    (forAll n f s).video = s.video := foldl_keeps State.video f h _ s

@[simp] theorem foldl_ev {α : Type} (f : State → α → State) (l : List α) (s : State) (h : ∀ t a, (f t a).ev = t.ev) :
    (l.foldl f s).ev = s.ev := foldl_keeps State.ev f h l s

@[simp] theorem forAll_ev {n : Nat} (f : State → Fin n → State) (s : State) (h : ∀ t a, (f t a).ev = t.ev) :
    (forAll n f s).ev = s.ev := foldl_keeps State.ev f h _ s

@[simp] theorem foldl_out {α : Type} (f : State → α → State) (l : List α) (s : State) (h : ∀ t a, (f t a).out = t.out) :
    (l.foldl f s).out = s.out := foldl_keeps State.out f h l s

@[simp] theorem forAll_out {n : Nat} (f : State → Fin n → State) (s : State) (h : ∀ t a, (f t a).out = t.out) :
    (forAll n f s).out = s.out := foldl_keeps State.out f h _ s

@[simp] theorem foldl_pending {α : Type} (f : State → α → State) (l : List α) (s : State) (h : ∀ t a, (f t a).pending = t.pending) :
    (l.foldl f s).pending = s.pending := foldl_keeps State.pending f h l s

@[simp] theorem forAll_pending {n : Nat} (f : State → Fin n → State) (s : State) (h : ∀ t a, (f t a).pending = t.pending) :
    (forAll n f s).pending = s.pending := foldl_keeps State.pending f h _ s

end Sys2Proof.Machine
end

