-- ==== Sys2Proof/Laws/FrameOps.lean ====
section
/-! SUPPORT. Frames of Machine/Ops.lean: what each operation leaves unchanged. -/

namespace Sys2Proof.Machine

@[simp] theorem State.setIsland_frame (s : State) (i : Island) (r : IslandRun) :
    (State.setIsland s i r).time = s.time ∧ (State.setIsland s i r).life = s.life ∧ (State.setIsland s i r).mode = s.mode
     ∧ (State.setIsland s i r).nor = s.nor ∧ (State.setIsland s i r).dict = s.dict ∧ (State.setIsland s i r).can = s.can
     ∧ (State.setIsland s i r).mbx = s.mbx ∧ (State.setIsland s i r).win = s.win ∧ (State.setIsland s i r).port = s.port
     ∧ (State.setIsland s i r).cache = s.cache ∧ (State.setIsland s i r).adm = s.adm
     ∧ (State.setIsland s i r).pack = s.pack ∧ (State.setIsland s i r).bank = s.bank
     ∧ (State.setIsland s i r).packEst = s.packEst ∧ (State.setIsland s i r).bankEst = s.bankEst
     ∧ (State.setIsland s i r).hold = s.hold ∧ (State.setIsland s i r).rails = s.rails
     ∧ (State.setIsland s i r).keep = s.keep ∧ (State.setIsland s i r).tremor = s.tremor
     ∧ (State.setIsland s i r).outage = s.outage ∧ (State.setIsland s i r).flash = s.flash
     ∧ (State.setIsland s i r).video = s.video ∧ (State.setIsland s i r).ev = s.ev ∧ (State.setIsland s i r).out = s.out
     ∧ (State.setIsland s i r).pending = s.pending := by
  unfold State.setIsland
  (repeat' split) <;> simp

@[simp] theorem State.setChan_frame (s : State) (c : Channel) (x : Chan) :
    (State.setChan s c x).time = s.time ∧ (State.setChan s c x).isl = s.isl ∧ (State.setChan s c x).life = s.life
     ∧ (State.setChan s c x).mode = s.mode ∧ (State.setChan s c x).nor = s.nor ∧ (State.setChan s c x).dict = s.dict
     ∧ (State.setChan s c x).can = s.can ∧ (State.setChan s c x).mbx = s.mbx ∧ (State.setChan s c x).win = s.win
     ∧ (State.setChan s c x).port = s.port ∧ (State.setChan s c x).cache = s.cache ∧ (State.setChan s c x).adm = s.adm
     ∧ (State.setChan s c x).packEst = s.packEst ∧ (State.setChan s c x).bankEst = s.bankEst
     ∧ (State.setChan s c x).hold = s.hold ∧ (State.setChan s c x).rails = s.rails ∧ (State.setChan s c x).keep = s.keep
     ∧ (State.setChan s c x).tremor = s.tremor ∧ (State.setChan s c x).outage = s.outage
     ∧ (State.setChan s c x).flash = s.flash ∧ (State.setChan s c x).video = s.video ∧ (State.setChan s c x).ev = s.ev
     ∧ (State.setChan s c x).out = s.out ∧ (State.setChan s c x).pending = s.pending := by
  unfold State.setChan
  (repeat' split) <;> simp

@[simp] theorem State.setEst_frame (s : State) (c : Channel) (x : Est) :
    (State.setEst s c x).time = s.time ∧ (State.setEst s c x).isl = s.isl ∧ (State.setEst s c x).life = s.life
     ∧ (State.setEst s c x).mode = s.mode ∧ (State.setEst s c x).nor = s.nor ∧ (State.setEst s c x).dict = s.dict
     ∧ (State.setEst s c x).can = s.can ∧ (State.setEst s c x).mbx = s.mbx ∧ (State.setEst s c x).win = s.win
     ∧ (State.setEst s c x).port = s.port ∧ (State.setEst s c x).cache = s.cache ∧ (State.setEst s c x).adm = s.adm
     ∧ (State.setEst s c x).pack = s.pack ∧ (State.setEst s c x).bank = s.bank ∧ (State.setEst s c x).hold = s.hold
     ∧ (State.setEst s c x).rails = s.rails ∧ (State.setEst s c x).keep = s.keep ∧ (State.setEst s c x).tremor = s.tremor
     ∧ (State.setEst s c x).outage = s.outage ∧ (State.setEst s c x).flash = s.flash
     ∧ (State.setEst s c x).video = s.video ∧ (State.setEst s c x).ev = s.ev ∧ (State.setEst s c x).out = s.out
     ∧ (State.setEst s c x).pending = s.pending := by
  unfold State.setEst
  (repeat' split) <;> simp

@[simp] theorem State.modFn_frame (s : State) (fn : Fin 16) (f : Func → Func) :
    (State.modFn s fn f).time = s.time ∧ (State.modFn s fn f).isl = s.isl ∧ (State.modFn s fn f).life = s.life
     ∧ (State.modFn s fn f).mode = s.mode ∧ (State.modFn s fn f).nor = s.nor ∧ (State.modFn s fn f).dict = s.dict
     ∧ (State.modFn s fn f).can = s.can ∧ (State.modFn s fn f).mbx = s.mbx ∧ (State.modFn s fn f).win = s.win
     ∧ (State.modFn s fn f).cache = s.cache ∧ (State.modFn s fn f).adm = s.adm ∧ (State.modFn s fn f).pack = s.pack
     ∧ (State.modFn s fn f).bank = s.bank ∧ (State.modFn s fn f).packEst = s.packEst
     ∧ (State.modFn s fn f).bankEst = s.bankEst ∧ (State.modFn s fn f).hold = s.hold
     ∧ (State.modFn s fn f).rails = s.rails ∧ (State.modFn s fn f).keep = s.keep ∧ (State.modFn s fn f).tremor = s.tremor
     ∧ (State.modFn s fn f).outage = s.outage ∧ (State.modFn s fn f).flash = s.flash
     ∧ (State.modFn s fn f).video = s.video ∧ (State.modFn s fn f).ev = s.ev ∧ (State.modFn s fn f).out = s.out
     ∧ (State.modFn s fn f).pending = s.pending := by
  unfold State.modFn
  (repeat' split) <;> simp

@[simp] theorem State.modPair_frame (s : State) (fn : Fin 16) (qp : Fin 4) (f : Pair → Pair) :
    (State.modPair s fn qp f).time = s.time ∧ (State.modPair s fn qp f).isl = s.isl
     ∧ (State.modPair s fn qp f).life = s.life ∧ (State.modPair s fn qp f).mode = s.mode
     ∧ (State.modPair s fn qp f).nor = s.nor ∧ (State.modPair s fn qp f).dict = s.dict
     ∧ (State.modPair s fn qp f).can = s.can ∧ (State.modPair s fn qp f).mbx = s.mbx
     ∧ (State.modPair s fn qp f).win = s.win ∧ (State.modPair s fn qp f).cache = s.cache
     ∧ (State.modPair s fn qp f).adm = s.adm ∧ (State.modPair s fn qp f).pack = s.pack
     ∧ (State.modPair s fn qp f).bank = s.bank ∧ (State.modPair s fn qp f).packEst = s.packEst
     ∧ (State.modPair s fn qp f).bankEst = s.bankEst ∧ (State.modPair s fn qp f).hold = s.hold
     ∧ (State.modPair s fn qp f).rails = s.rails ∧ (State.modPair s fn qp f).keep = s.keep
     ∧ (State.modPair s fn qp f).tremor = s.tremor ∧ (State.modPair s fn qp f).outage = s.outage
     ∧ (State.modPair s fn qp f).flash = s.flash ∧ (State.modPair s fn qp f).video = s.video
     ∧ (State.modPair s fn qp f).ev = s.ev ∧ (State.modPair s fn qp f).out = s.out
     ∧ (State.modPair s fn qp f).pending = s.pending := by
  unfold State.modPair
  (repeat' split) <;> simp

@[simp] theorem State.modTen_frame (s : State) (n : Fin 16) (f : Tenant → Tenant) :
    (State.modTen s n f).time = s.time ∧ (State.modTen s n f).isl = s.isl ∧ (State.modTen s n f).life = s.life
     ∧ (State.modTen s n f).mode = s.mode ∧ (State.modTen s n f).nor = s.nor ∧ (State.modTen s n f).dict = s.dict
     ∧ (State.modTen s n f).can = s.can ∧ (State.modTen s n f).mbx = s.mbx ∧ (State.modTen s n f).win = s.win
     ∧ (State.modTen s n f).port = s.port ∧ (State.modTen s n f).adm = s.adm ∧ (State.modTen s n f).pack = s.pack
     ∧ (State.modTen s n f).bank = s.bank ∧ (State.modTen s n f).packEst = s.packEst
     ∧ (State.modTen s n f).bankEst = s.bankEst ∧ (State.modTen s n f).hold = s.hold
     ∧ (State.modTen s n f).rails = s.rails ∧ (State.modTen s n f).keep = s.keep ∧ (State.modTen s n f).tremor = s.tremor
     ∧ (State.modTen s n f).outage = s.outage ∧ (State.modTen s n f).flash = s.flash
     ∧ (State.modTen s n f).video = s.video ∧ (State.modTen s n f).ev = s.ev ∧ (State.modTen s n f).out = s.out
     ∧ (State.modTen s n f).pending = s.pending := by
  unfold State.modTen
  (repeat' split) <;> simp

@[simp] theorem State.modRail_frame (s : State) (r : Fin 12) (f : Rail → Rail) :
    (State.modRail s r f).time = s.time ∧ (State.modRail s r f).isl = s.isl ∧ (State.modRail s r f).life = s.life
     ∧ (State.modRail s r f).mode = s.mode ∧ (State.modRail s r f).nor = s.nor ∧ (State.modRail s r f).dict = s.dict
     ∧ (State.modRail s r f).can = s.can ∧ (State.modRail s r f).mbx = s.mbx ∧ (State.modRail s r f).win = s.win
     ∧ (State.modRail s r f).port = s.port ∧ (State.modRail s r f).cache = s.cache ∧ (State.modRail s r f).adm = s.adm
     ∧ (State.modRail s r f).pack = s.pack ∧ (State.modRail s r f).bank = s.bank
     ∧ (State.modRail s r f).packEst = s.packEst ∧ (State.modRail s r f).bankEst = s.bankEst
     ∧ (State.modRail s r f).hold = s.hold ∧ (State.modRail s r f).keep = s.keep ∧ (State.modRail s r f).tremor = s.tremor
     ∧ (State.modRail s r f).outage = s.outage ∧ (State.modRail s r f).flash = s.flash
     ∧ (State.modRail s r f).video = s.video ∧ (State.modRail s r f).ev = s.ev ∧ (State.modRail s r f).out = s.out
     ∧ (State.modRail s r f).pending = s.pending := by
  unfold State.modRail
  (repeat' split) <;> simp

@[simp] theorem State.modGate_frame (s : State) (g : Fin 8) (f : GateReg → GateReg) :
    (State.modGate s g f).time = s.time ∧ (State.modGate s g f).isl = s.isl ∧ (State.modGate s g f).life = s.life
     ∧ (State.modGate s g f).mode = s.mode ∧ (State.modGate s g f).nor = s.nor ∧ (State.modGate s g f).dict = s.dict
     ∧ (State.modGate s g f).can = s.can ∧ (State.modGate s g f).mbx = s.mbx ∧ (State.modGate s g f).win = s.win
     ∧ (State.modGate s g f).port = s.port ∧ (State.modGate s g f).cache = s.cache ∧ (State.modGate s g f).adm = s.adm
     ∧ (State.modGate s g f).pack = s.pack ∧ (State.modGate s g f).bank = s.bank
     ∧ (State.modGate s g f).packEst = s.packEst ∧ (State.modGate s g f).bankEst = s.bankEst
     ∧ (State.modGate s g f).hold = s.hold ∧ (State.modGate s g f).keep = s.keep ∧ (State.modGate s g f).tremor = s.tremor
     ∧ (State.modGate s g f).outage = s.outage ∧ (State.modGate s g f).flash = s.flash
     ∧ (State.modGate s g f).video = s.video ∧ (State.modGate s g f).ev = s.ev ∧ (State.modGate s g f).out = s.out
     ∧ (State.modGate s g f).pending = s.pending := by
  unfold State.modGate
  (repeat' split) <;> simp

@[simp] theorem State.modDie_frame (s : State) (d : Fin 16) (f : Die → Die) :
    (State.modDie s d f).time = s.time ∧ (State.modDie s d f).isl = s.isl ∧ (State.modDie s d f).life = s.life
     ∧ (State.modDie s d f).mode = s.mode ∧ (State.modDie s d f).nor = s.nor ∧ (State.modDie s d f).dict = s.dict
     ∧ (State.modDie s d f).can = s.can ∧ (State.modDie s d f).mbx = s.mbx ∧ (State.modDie s d f).win = s.win
     ∧ (State.modDie s d f).port = s.port ∧ (State.modDie s d f).cache = s.cache ∧ (State.modDie s d f).adm = s.adm
     ∧ (State.modDie s d f).pack = s.pack ∧ (State.modDie s d f).bank = s.bank ∧ (State.modDie s d f).packEst = s.packEst
     ∧ (State.modDie s d f).bankEst = s.bankEst ∧ (State.modDie s d f).hold = s.hold
     ∧ (State.modDie s d f).rails = s.rails ∧ (State.modDie s d f).keep = s.keep ∧ (State.modDie s d f).tremor = s.tremor
     ∧ (State.modDie s d f).outage = s.outage ∧ (State.modDie s d f).video = s.video ∧ (State.modDie s d f).ev = s.ev
     ∧ (State.modDie s d f).out = s.out ∧ (State.modDie s d f).pending = s.pending := by
  unfold State.modDie
  (repeat' split) <;> simp

@[simp] theorem State.modPort_frame (s : State) (p : Fin 4) (f : CsiPort → CsiPort) :
    (State.modPort s p f).time = s.time ∧ (State.modPort s p f).isl = s.isl ∧ (State.modPort s p f).life = s.life
     ∧ (State.modPort s p f).mode = s.mode ∧ (State.modPort s p f).nor = s.nor ∧ (State.modPort s p f).dict = s.dict
     ∧ (State.modPort s p f).can = s.can ∧ (State.modPort s p f).mbx = s.mbx ∧ (State.modPort s p f).win = s.win
     ∧ (State.modPort s p f).port = s.port ∧ (State.modPort s p f).cache = s.cache ∧ (State.modPort s p f).adm = s.adm
     ∧ (State.modPort s p f).pack = s.pack ∧ (State.modPort s p f).bank = s.bank
     ∧ (State.modPort s p f).packEst = s.packEst ∧ (State.modPort s p f).bankEst = s.bankEst
     ∧ (State.modPort s p f).hold = s.hold ∧ (State.modPort s p f).rails = s.rails ∧ (State.modPort s p f).keep = s.keep
     ∧ (State.modPort s p f).tremor = s.tremor ∧ (State.modPort s p f).outage = s.outage
     ∧ (State.modPort s p f).flash = s.flash ∧ (State.modPort s p f).ev = s.ev ∧ (State.modPort s p f).out = s.out
     ∧ (State.modPort s p f).pending = s.pending := by
  unfold State.modPort
  (repeat' split) <;> simp

@[simp] theorem State.modStream_frame (s : State) (n : Fin 16) (f : Stream → Stream) :
    (State.modStream s n f).time = s.time ∧ (State.modStream s n f).isl = s.isl ∧ (State.modStream s n f).life = s.life
     ∧ (State.modStream s n f).mode = s.mode ∧ (State.modStream s n f).nor = s.nor ∧ (State.modStream s n f).dict = s.dict
     ∧ (State.modStream s n f).can = s.can ∧ (State.modStream s n f).mbx = s.mbx ∧ (State.modStream s n f).win = s.win
     ∧ (State.modStream s n f).port = s.port ∧ (State.modStream s n f).cache = s.cache
     ∧ (State.modStream s n f).adm = s.adm ∧ (State.modStream s n f).pack = s.pack ∧ (State.modStream s n f).bank = s.bank
     ∧ (State.modStream s n f).packEst = s.packEst ∧ (State.modStream s n f).bankEst = s.bankEst
     ∧ (State.modStream s n f).hold = s.hold ∧ (State.modStream s n f).rails = s.rails
     ∧ (State.modStream s n f).keep = s.keep ∧ (State.modStream s n f).tremor = s.tremor
     ∧ (State.modStream s n f).outage = s.outage ∧ (State.modStream s n f).flash = s.flash
     ∧ (State.modStream s n f).ev = s.ev ∧ (State.modStream s n f).out = s.out
     ∧ (State.modStream s n f).pending = s.pending := by
  unfold State.modStream
  (repeat' split) <;> simp

@[simp] theorem State.modEnc_frame (s : State) (n : Fin 16) (f : Encoder → Encoder) :
    (State.modEnc s n f).time = s.time ∧ (State.modEnc s n f).isl = s.isl ∧ (State.modEnc s n f).life = s.life
     ∧ (State.modEnc s n f).mode = s.mode ∧ (State.modEnc s n f).nor = s.nor ∧ (State.modEnc s n f).dict = s.dict
     ∧ (State.modEnc s n f).can = s.can ∧ (State.modEnc s n f).mbx = s.mbx ∧ (State.modEnc s n f).win = s.win
     ∧ (State.modEnc s n f).port = s.port ∧ (State.modEnc s n f).cache = s.cache ∧ (State.modEnc s n f).adm = s.adm
     ∧ (State.modEnc s n f).pack = s.pack ∧ (State.modEnc s n f).bank = s.bank ∧ (State.modEnc s n f).packEst = s.packEst
     ∧ (State.modEnc s n f).bankEst = s.bankEst ∧ (State.modEnc s n f).hold = s.hold
     ∧ (State.modEnc s n f).rails = s.rails ∧ (State.modEnc s n f).keep = s.keep ∧ (State.modEnc s n f).tremor = s.tremor
     ∧ (State.modEnc s n f).outage = s.outage ∧ (State.modEnc s n f).flash = s.flash ∧ (State.modEnc s n f).ev = s.ev
     ∧ (State.modEnc s n f).out = s.out ∧ (State.modEnc s n f).pending = s.pending := by
  unfold State.modEnc
  (repeat' split) <;> simp

@[simp] theorem State.modRec_frame (s : State) (n : Fin 16) (f : Recorder → Recorder) :
    (State.modRec s n f).time = s.time ∧ (State.modRec s n f).isl = s.isl ∧ (State.modRec s n f).life = s.life
     ∧ (State.modRec s n f).mode = s.mode ∧ (State.modRec s n f).nor = s.nor ∧ (State.modRec s n f).dict = s.dict
     ∧ (State.modRec s n f).can = s.can ∧ (State.modRec s n f).mbx = s.mbx ∧ (State.modRec s n f).win = s.win
     ∧ (State.modRec s n f).port = s.port ∧ (State.modRec s n f).cache = s.cache ∧ (State.modRec s n f).adm = s.adm
     ∧ (State.modRec s n f).pack = s.pack ∧ (State.modRec s n f).bank = s.bank ∧ (State.modRec s n f).packEst = s.packEst
     ∧ (State.modRec s n f).bankEst = s.bankEst ∧ (State.modRec s n f).hold = s.hold
     ∧ (State.modRec s n f).rails = s.rails ∧ (State.modRec s n f).keep = s.keep ∧ (State.modRec s n f).tremor = s.tremor
     ∧ (State.modRec s n f).outage = s.outage ∧ (State.modRec s n f).flash = s.flash ∧ (State.modRec s n f).ev = s.ev
     ∧ (State.modRec s n f).out = s.out ∧ (State.modRec s n f).pending = s.pending := by
  unfold State.modRec
  (repeat' split) <;> simp

@[simp] theorem State.modDec_frame (s : State) (d : Fin 2) (f : Session_ → Session_) :
    (State.modDec s d f).time = s.time ∧ (State.modDec s d f).isl = s.isl ∧ (State.modDec s d f).life = s.life
     ∧ (State.modDec s d f).mode = s.mode ∧ (State.modDec s d f).nor = s.nor ∧ (State.modDec s d f).dict = s.dict
     ∧ (State.modDec s d f).can = s.can ∧ (State.modDec s d f).mbx = s.mbx ∧ (State.modDec s d f).win = s.win
     ∧ (State.modDec s d f).port = s.port ∧ (State.modDec s d f).cache = s.cache ∧ (State.modDec s d f).adm = s.adm
     ∧ (State.modDec s d f).pack = s.pack ∧ (State.modDec s d f).bank = s.bank ∧ (State.modDec s d f).packEst = s.packEst
     ∧ (State.modDec s d f).bankEst = s.bankEst ∧ (State.modDec s d f).hold = s.hold
     ∧ (State.modDec s d f).rails = s.rails ∧ (State.modDec s d f).keep = s.keep ∧ (State.modDec s d f).tremor = s.tremor
     ∧ (State.modDec s d f).outage = s.outage ∧ (State.modDec s d f).flash = s.flash ∧ (State.modDec s d f).ev = s.ev
     ∧ (State.modDec s d f).out = s.out ∧ (State.modDec s d f).pending = s.pending := by
  unfold State.modDec
  (repeat' split) <;> simp

@[simp] theorem State.modMbx_frame (s : State) (fn : Fin 16) (f : Mbx → Mbx) :
    (State.modMbx s fn f).time = s.time ∧ (State.modMbx s fn f).isl = s.isl ∧ (State.modMbx s fn f).life = s.life
     ∧ (State.modMbx s fn f).mode = s.mode ∧ (State.modMbx s fn f).nor = s.nor ∧ (State.modMbx s fn f).dict = s.dict
     ∧ (State.modMbx s fn f).can = s.can ∧ (State.modMbx s fn f).win = s.win ∧ (State.modMbx s fn f).port = s.port
     ∧ (State.modMbx s fn f).cache = s.cache ∧ (State.modMbx s fn f).adm = s.adm ∧ (State.modMbx s fn f).pack = s.pack
     ∧ (State.modMbx s fn f).bank = s.bank ∧ (State.modMbx s fn f).packEst = s.packEst
     ∧ (State.modMbx s fn f).bankEst = s.bankEst ∧ (State.modMbx s fn f).hold = s.hold
     ∧ (State.modMbx s fn f).rails = s.rails ∧ (State.modMbx s fn f).keep = s.keep
     ∧ (State.modMbx s fn f).tremor = s.tremor ∧ (State.modMbx s fn f).outage = s.outage
     ∧ (State.modMbx s fn f).flash = s.flash ∧ (State.modMbx s fn f).video = s.video ∧ (State.modMbx s fn f).ev = s.ev
     ∧ (State.modMbx s fn f).out = s.out ∧ (State.modMbx s fn f).pending = s.pending := by
  unfold State.modMbx
  (repeat' split) <;> simp

@[simp] theorem State.modWin_frame (s : State) (w : Fin 7) (f : Win → Win) :
    (State.modWin s w f).time = s.time ∧ (State.modWin s w f).isl = s.isl ∧ (State.modWin s w f).life = s.life
     ∧ (State.modWin s w f).mode = s.mode ∧ (State.modWin s w f).nor = s.nor ∧ (State.modWin s w f).dict = s.dict
     ∧ (State.modWin s w f).can = s.can ∧ (State.modWin s w f).mbx = s.mbx ∧ (State.modWin s w f).port = s.port
     ∧ (State.modWin s w f).cache = s.cache ∧ (State.modWin s w f).adm = s.adm ∧ (State.modWin s w f).pack = s.pack
     ∧ (State.modWin s w f).bank = s.bank ∧ (State.modWin s w f).packEst = s.packEst
     ∧ (State.modWin s w f).bankEst = s.bankEst ∧ (State.modWin s w f).hold = s.hold
     ∧ (State.modWin s w f).rails = s.rails ∧ (State.modWin s w f).keep = s.keep ∧ (State.modWin s w f).tremor = s.tremor
     ∧ (State.modWin s w f).outage = s.outage ∧ (State.modWin s w f).flash = s.flash
     ∧ (State.modWin s w f).video = s.video ∧ (State.modWin s w f).ev = s.ev ∧ (State.modWin s w f).out = s.out
     ∧ (State.modWin s w f).pending = s.pending := by
  unfold State.modWin
  (repeat' split) <;> simp

@[simp] theorem State.send_frame (s : State) (o : Output) :
    (State.send s o).time = s.time ∧ (State.send s o).isl = s.isl ∧ (State.send s o).life = s.life
     ∧ (State.send s o).mode = s.mode ∧ (State.send s o).nor = s.nor ∧ (State.send s o).dict = s.dict
     ∧ (State.send s o).can = s.can ∧ (State.send s o).mbx = s.mbx ∧ (State.send s o).win = s.win
     ∧ (State.send s o).port = s.port ∧ (State.send s o).cache = s.cache ∧ (State.send s o).adm = s.adm
     ∧ (State.send s o).pack = s.pack ∧ (State.send s o).bank = s.bank ∧ (State.send s o).packEst = s.packEst
     ∧ (State.send s o).bankEst = s.bankEst ∧ (State.send s o).hold = s.hold ∧ (State.send s o).rails = s.rails
     ∧ (State.send s o).keep = s.keep ∧ (State.send s o).tremor = s.tremor ∧ (State.send s o).outage = s.outage
     ∧ (State.send s o).flash = s.flash ∧ (State.send s o).video = s.video ∧ (State.send s o).ev = s.ev
     ∧ (State.send s o).pending = s.pending := by
  unfold State.send
  (repeat' split) <;> simp

theorem tick_frame (s : State) :
    (tick s).isl = s.isl ∧ (tick s).life = s.life ∧ (tick s).mode = s.mode ∧ (tick s).nor = s.nor ∧ (tick s).dict = s.dict
     ∧ (tick s).can = s.can ∧ (tick s).mbx = s.mbx ∧ (tick s).win = s.win ∧ (tick s).port = s.port
     ∧ (tick s).cache = s.cache ∧ (tick s).adm = s.adm ∧ (tick s).pack = s.pack ∧ (tick s).bank = s.bank
     ∧ (tick s).packEst = s.packEst ∧ (tick s).bankEst = s.bankEst ∧ (tick s).hold = s.hold ∧ (tick s).rails = s.rails
     ∧ (tick s).keep = s.keep ∧ (tick s).tremor = s.tremor ∧ (tick s).outage = s.outage ∧ (tick s).flash = s.flash
     ∧ (tick s).video = s.video ∧ (tick s).ev = s.ev ∧ (tick s).out = s.out ∧ (tick s).pending = s.pending := by
  unfold tick
  (repeat' split) <;> simp

@[simp] theorem State.setHeld_frame (s : State) (index sub v : Nat) :
    (State.setHeld s index sub v).time = s.time ∧ (State.setHeld s index sub v).isl = s.isl
     ∧ (State.setHeld s index sub v).life = s.life ∧ (State.setHeld s index sub v).mode = s.mode
     ∧ (State.setHeld s index sub v).nor = s.nor ∧ (State.setHeld s index sub v).can = s.can
     ∧ (State.setHeld s index sub v).mbx = s.mbx ∧ (State.setHeld s index sub v).win = s.win
     ∧ (State.setHeld s index sub v).port = s.port ∧ (State.setHeld s index sub v).cache = s.cache
     ∧ (State.setHeld s index sub v).adm = s.adm ∧ (State.setHeld s index sub v).pack = s.pack
     ∧ (State.setHeld s index sub v).bank = s.bank ∧ (State.setHeld s index sub v).packEst = s.packEst
     ∧ (State.setHeld s index sub v).bankEst = s.bankEst ∧ (State.setHeld s index sub v).hold = s.hold
     ∧ (State.setHeld s index sub v).rails = s.rails ∧ (State.setHeld s index sub v).keep = s.keep
     ∧ (State.setHeld s index sub v).tremor = s.tremor ∧ (State.setHeld s index sub v).outage = s.outage
     ∧ (State.setHeld s index sub v).flash = s.flash ∧ (State.setHeld s index sub v).video = s.video
     ∧ (State.setHeld s index sub v).ev = s.ev ∧ (State.setHeld s index sub v).out = s.out
     ∧ (State.setHeld s index sub v).pending = s.pending := by
  unfold State.setHeld
  (repeat' split) <;> simp

@[simp] theorem State.keepUndelivered_frame (s : State) (index sub : Nat) :
    (State.keepUndelivered s index sub).time = s.time ∧ (State.keepUndelivered s index sub).life = s.life
     ∧ (State.keepUndelivered s index sub).mode = s.mode ∧ (State.keepUndelivered s index sub).nor = s.nor
     ∧ (State.keepUndelivered s index sub).dict = s.dict ∧ (State.keepUndelivered s index sub).can = s.can
     ∧ (State.keepUndelivered s index sub).mbx = s.mbx ∧ (State.keepUndelivered s index sub).win = s.win
     ∧ (State.keepUndelivered s index sub).port = s.port ∧ (State.keepUndelivered s index sub).cache = s.cache
     ∧ (State.keepUndelivered s index sub).adm = s.adm ∧ (State.keepUndelivered s index sub).pack = s.pack
     ∧ (State.keepUndelivered s index sub).bank = s.bank ∧ (State.keepUndelivered s index sub).packEst = s.packEst
     ∧ (State.keepUndelivered s index sub).bankEst = s.bankEst ∧ (State.keepUndelivered s index sub).hold = s.hold
     ∧ (State.keepUndelivered s index sub).rails = s.rails ∧ (State.keepUndelivered s index sub).keep = s.keep
     ∧ (State.keepUndelivered s index sub).tremor = s.tremor ∧ (State.keepUndelivered s index sub).outage = s.outage
     ∧ (State.keepUndelivered s index sub).flash = s.flash ∧ (State.keepUndelivered s index sub).video = s.video
     ∧ (State.keepUndelivered s index sub).ev = s.ev ∧ (State.keepUndelivered s index sub).out = s.out
     ∧ (State.keepUndelivered s index sub).pending = s.pending := by
  unfold State.keepUndelivered
  (repeat' split) <;> simp

@[simp] theorem State.deliver_frame (s : State) (i : Island) :
    (State.deliver s i).time = s.time ∧ (State.deliver s i).life = s.life ∧ (State.deliver s i).mode = s.mode
     ∧ (State.deliver s i).nor = s.nor ∧ (State.deliver s i).dict = s.dict ∧ (State.deliver s i).can = s.can
     ∧ (State.deliver s i).mbx = s.mbx ∧ (State.deliver s i).win = s.win ∧ (State.deliver s i).port = s.port
     ∧ (State.deliver s i).cache = s.cache ∧ (State.deliver s i).adm = s.adm ∧ (State.deliver s i).pack = s.pack
     ∧ (State.deliver s i).bank = s.bank ∧ (State.deliver s i).packEst = s.packEst
     ∧ (State.deliver s i).bankEst = s.bankEst ∧ (State.deliver s i).hold = s.hold ∧ (State.deliver s i).rails = s.rails
     ∧ (State.deliver s i).keep = s.keep ∧ (State.deliver s i).tremor = s.tremor ∧ (State.deliver s i).outage = s.outage
     ∧ (State.deliver s i).flash = s.flash ∧ (State.deliver s i).video = s.video ∧ (State.deliver s i).ev = s.ev
     ∧ (State.deliver s i).out = s.out ∧ (State.deliver s i).pending = s.pending := by
  unfold State.deliver
  (repeat' split) <;> simp

@[simp] theorem State.storeCommand_frame (s : State) (index sub v : Nat) :
    (State.storeCommand s index sub v).time = s.time ∧ (State.storeCommand s index sub v).life = s.life
     ∧ (State.storeCommand s index sub v).mode = s.mode ∧ (State.storeCommand s index sub v).nor = s.nor
     ∧ (State.storeCommand s index sub v).dict = s.dict ∧ (State.storeCommand s index sub v).can = s.can
     ∧ (State.storeCommand s index sub v).mbx = s.mbx ∧ (State.storeCommand s index sub v).win = s.win
     ∧ (State.storeCommand s index sub v).port = s.port ∧ (State.storeCommand s index sub v).cache = s.cache
     ∧ (State.storeCommand s index sub v).adm = s.adm ∧ (State.storeCommand s index sub v).pack = s.pack
     ∧ (State.storeCommand s index sub v).bank = s.bank ∧ (State.storeCommand s index sub v).packEst = s.packEst
     ∧ (State.storeCommand s index sub v).bankEst = s.bankEst ∧ (State.storeCommand s index sub v).hold = s.hold
     ∧ (State.storeCommand s index sub v).rails = s.rails ∧ (State.storeCommand s index sub v).keep = s.keep
     ∧ (State.storeCommand s index sub v).tremor = s.tremor ∧ (State.storeCommand s index sub v).outage = s.outage
     ∧ (State.storeCommand s index sub v).flash = s.flash ∧ (State.storeCommand s index sub v).video = s.video
     ∧ (State.storeCommand s index sub v).ev = s.ev ∧ (State.storeCommand s index sub v).out = s.out
     ∧ (State.storeCommand s index sub v).pending = s.pending := by
  unfold State.storeCommand
  (repeat' split) <;> simp

@[simp] theorem State.startIsland_frame (s : State) (i : Island) :
    (State.startIsland s i).time = s.time ∧ (State.startIsland s i).life = s.life ∧ (State.startIsland s i).mode = s.mode
     ∧ (State.startIsland s i).nor = s.nor ∧ (State.startIsland s i).dict = s.dict ∧ (State.startIsland s i).can = s.can
     ∧ (State.startIsland s i).mbx = s.mbx ∧ (State.startIsland s i).win = s.win ∧ (State.startIsland s i).port = s.port
     ∧ (State.startIsland s i).cache = s.cache ∧ (State.startIsland s i).adm = s.adm
     ∧ (State.startIsland s i).pack = s.pack ∧ (State.startIsland s i).bank = s.bank
     ∧ (State.startIsland s i).packEst = s.packEst ∧ (State.startIsland s i).bankEst = s.bankEst
     ∧ (State.startIsland s i).hold = s.hold ∧ (State.startIsland s i).rails = s.rails
     ∧ (State.startIsland s i).keep = s.keep ∧ (State.startIsland s i).tremor = s.tremor
     ∧ (State.startIsland s i).outage = s.outage ∧ (State.startIsland s i).flash = s.flash
     ∧ (State.startIsland s i).video = s.video ∧ (State.startIsland s i).ev = s.ev ∧ (State.startIsland s i).out = s.out
     ∧ (State.startIsland s i).pending = s.pending := by
  unfold State.startIsland
  (repeat' split) <;> simp

@[simp] theorem State.stopIsland_frame (s : State) (i : Island) :
    (State.stopIsland s i).time = s.time ∧ (State.stopIsland s i).life = s.life ∧ (State.stopIsland s i).mode = s.mode
     ∧ (State.stopIsland s i).nor = s.nor ∧ (State.stopIsland s i).dict = s.dict ∧ (State.stopIsland s i).can = s.can
     ∧ (State.stopIsland s i).mbx = s.mbx ∧ (State.stopIsland s i).win = s.win ∧ (State.stopIsland s i).port = s.port
     ∧ (State.stopIsland s i).cache = s.cache ∧ (State.stopIsland s i).adm = s.adm ∧ (State.stopIsland s i).pack = s.pack
     ∧ (State.stopIsland s i).bank = s.bank ∧ (State.stopIsland s i).packEst = s.packEst
     ∧ (State.stopIsland s i).bankEst = s.bankEst ∧ (State.stopIsland s i).hold = s.hold
     ∧ (State.stopIsland s i).rails = s.rails ∧ (State.stopIsland s i).keep = s.keep
     ∧ (State.stopIsland s i).tremor = s.tremor ∧ (State.stopIsland s i).outage = s.outage
     ∧ (State.stopIsland s i).flash = s.flash ∧ (State.stopIsland s i).video = s.video ∧ (State.stopIsland s i).ev = s.ev
     ∧ (State.stopIsland s i).out = s.out ∧ (State.stopIsland s i).pending = s.pending := by
  unfold State.stopIsland
  (repeat' split) <;> simp

end Sys2Proof.Machine
end

