-- ==== Sys2Proof/Laws/FrameEventOps.lean ====
section
/-! SUPPORT. Frames of Machine/EventOps.lean: what each operation leaves unchanged. -/

namespace Sys2Proof.Machine

@[simp] theorem raiseWord_frame (s : State) (ev : Nat) (isl : EvIsland) (data : BitVec 32) :
    (raiseWord s ev isl data).time = s.time ∧ (raiseWord s ev isl data).isl = s.isl
     ∧ (raiseWord s ev isl data).life = s.life ∧ (raiseWord s ev isl data).mode = s.mode
     ∧ (raiseWord s ev isl data).nor = s.nor ∧ (raiseWord s ev isl data).dict = s.dict
     ∧ (raiseWord s ev isl data).mbx = s.mbx ∧ (raiseWord s ev isl data).win = s.win
     ∧ (raiseWord s ev isl data).port = s.port ∧ (raiseWord s ev isl data).cache = s.cache
     ∧ (raiseWord s ev isl data).adm = s.adm ∧ (raiseWord s ev isl data).pack = s.pack
     ∧ (raiseWord s ev isl data).bank = s.bank ∧ (raiseWord s ev isl data).packEst = s.packEst
     ∧ (raiseWord s ev isl data).bankEst = s.bankEst ∧ (raiseWord s ev isl data).hold = s.hold
     ∧ (raiseWord s ev isl data).rails = s.rails ∧ (raiseWord s ev isl data).keep = s.keep
     ∧ (raiseWord s ev isl data).tremor = s.tremor ∧ (raiseWord s ev isl data).outage = s.outage
     ∧ (raiseWord s ev isl data).flash = s.flash ∧ (raiseWord s ev isl data).video = s.video
     ∧ (raiseWord s ev isl data).pending = s.pending := by
  unfold raiseWord
  (repeat' split) <;> simp

@[simp] theorem raise_frame (s : State) (ev : Nat) (isl : EvIsland) (vs : List (Nat × Nat)) :
    (raise s ev isl vs).time = s.time ∧ (raise s ev isl vs).isl = s.isl ∧ (raise s ev isl vs).life = s.life
     ∧ (raise s ev isl vs).mode = s.mode ∧ (raise s ev isl vs).nor = s.nor ∧ (raise s ev isl vs).dict = s.dict
     ∧ (raise s ev isl vs).mbx = s.mbx ∧ (raise s ev isl vs).win = s.win ∧ (raise s ev isl vs).port = s.port
     ∧ (raise s ev isl vs).cache = s.cache ∧ (raise s ev isl vs).adm = s.adm ∧ (raise s ev isl vs).pack = s.pack
     ∧ (raise s ev isl vs).bank = s.bank ∧ (raise s ev isl vs).packEst = s.packEst
     ∧ (raise s ev isl vs).bankEst = s.bankEst ∧ (raise s ev isl vs).hold = s.hold ∧ (raise s ev isl vs).rails = s.rails
     ∧ (raise s ev isl vs).keep = s.keep ∧ (raise s ev isl vs).tremor = s.tremor ∧ (raise s ev isl vs).outage = s.outage
     ∧ (raise s ev isl vs).flash = s.flash ∧ (raise s ev isl vs).video = s.video ∧ (raise s ev isl vs).pending = s.pending := by
  unfold raise
  (repeat' split) <;> simp

@[simp] theorem raiseIf_frame (b : Bool) (s : State) (ev : Nat) (isl : EvIsland) (vs : List (Nat × Nat)) :
    (raiseIf b s ev isl vs).time = s.time ∧ (raiseIf b s ev isl vs).isl = s.isl ∧ (raiseIf b s ev isl vs).life = s.life
     ∧ (raiseIf b s ev isl vs).mode = s.mode ∧ (raiseIf b s ev isl vs).nor = s.nor ∧ (raiseIf b s ev isl vs).dict = s.dict
     ∧ (raiseIf b s ev isl vs).mbx = s.mbx ∧ (raiseIf b s ev isl vs).win = s.win ∧ (raiseIf b s ev isl vs).port = s.port
     ∧ (raiseIf b s ev isl vs).cache = s.cache ∧ (raiseIf b s ev isl vs).adm = s.adm
     ∧ (raiseIf b s ev isl vs).pack = s.pack ∧ (raiseIf b s ev isl vs).bank = s.bank
     ∧ (raiseIf b s ev isl vs).packEst = s.packEst ∧ (raiseIf b s ev isl vs).bankEst = s.bankEst
     ∧ (raiseIf b s ev isl vs).hold = s.hold ∧ (raiseIf b s ev isl vs).rails = s.rails
     ∧ (raiseIf b s ev isl vs).keep = s.keep ∧ (raiseIf b s ev isl vs).tremor = s.tremor
     ∧ (raiseIf b s ev isl vs).outage = s.outage ∧ (raiseIf b s ev isl vs).flash = s.flash
     ∧ (raiseIf b s ev isl vs).video = s.video ∧ (raiseIf b s ev isl vs).pending = s.pending := by
  unfold raiseIf
  (repeat' split) <;> simp

@[simp] theorem startLog_frame (s : State) (seed : List Rec) :
    (startLog s seed).time = s.time ∧ (startLog s seed).isl = s.isl ∧ (startLog s seed).life = s.life
     ∧ (startLog s seed).mode = s.mode ∧ (startLog s seed).nor = s.nor ∧ (startLog s seed).dict = s.dict
     ∧ (startLog s seed).mbx = s.mbx ∧ (startLog s seed).win = s.win ∧ (startLog s seed).port = s.port
     ∧ (startLog s seed).cache = s.cache ∧ (startLog s seed).adm = s.adm ∧ (startLog s seed).pack = s.pack
     ∧ (startLog s seed).bank = s.bank ∧ (startLog s seed).packEst = s.packEst ∧ (startLog s seed).bankEst = s.bankEst
     ∧ (startLog s seed).hold = s.hold ∧ (startLog s seed).rails = s.rails ∧ (startLog s seed).keep = s.keep
     ∧ (startLog s seed).tremor = s.tremor ∧ (startLog s seed).outage = s.outage ∧ (startLog s seed).flash = s.flash
     ∧ (startLog s seed).video = s.video ∧ (startLog s seed).pending = s.pending := by
  unfold startLog
  (repeat' split) <;> simp

@[simp] theorem releaseHeld_frame (s : State) :
    (releaseHeld s).time = s.time ∧ (releaseHeld s).isl = s.isl ∧ (releaseHeld s).life = s.life
     ∧ (releaseHeld s).mode = s.mode ∧ (releaseHeld s).nor = s.nor ∧ (releaseHeld s).dict = s.dict
     ∧ (releaseHeld s).mbx = s.mbx ∧ (releaseHeld s).win = s.win ∧ (releaseHeld s).port = s.port
     ∧ (releaseHeld s).cache = s.cache ∧ (releaseHeld s).adm = s.adm ∧ (releaseHeld s).pack = s.pack
     ∧ (releaseHeld s).bank = s.bank ∧ (releaseHeld s).packEst = s.packEst ∧ (releaseHeld s).bankEst = s.bankEst
     ∧ (releaseHeld s).hold = s.hold ∧ (releaseHeld s).rails = s.rails ∧ (releaseHeld s).keep = s.keep
     ∧ (releaseHeld s).tremor = s.tremor ∧ (releaseHeld s).outage = s.outage ∧ (releaseHeld s).flash = s.flash
     ∧ (releaseHeld s).video = s.video ∧ (releaseHeld s).pending = s.pending := by
  unfold releaseHeld
  (repeat' split) <;> simp

end Sys2Proof.Machine
end

