-- ==== Sys2Proof/Laws/Events.lean ====
section
/-! SUPPORT. What raising an event does: what it may change, that it sets the pending bit or is held, and that pending bits stay. -/

namespace Sys2Proof.Machine

/-! ### What an event changes of the CAN FD node -/

/-- Two CAN parts differ at most in the EMCY queue and its counters. -/
def CanLike (a b : Can) : Prop :=
  b = { a with emcy := b.emcy, emcyDropped := b.emcyDropped, emcyDropSeen := b.emcyDropSeen }

theorem CanLike.rfl' (a : Can) : CanLike a a := rfl

theorem CanLike.trans {a b c : Can} (h : CanLike a b) (k : CanLike b c) : CanLike a c := by
  unfold CanLike at *
  rw [k, h]

theorem ringPut_can (s : State) (x : EvPart) (n : Fin 16) (r : Rec) : (ringPut s x n r).1.can = x.can := by
  unfold ringPut
  dsimp only
  (repeat' split) <;> rfl

theorem ringAll_can (s : State) (x : EvPart) (r : Rec) : (ringAll s x r).1.can = x.can := by
  unfold ringAll
  generalize List.finRange 16 = l
  suffices h : ∀ (a : EvPart × List Nat), (l.foldl (fun (a : EvPart × List Nat) n =>
      ((ringPut s a.1 n r).1, if (ringPut s a.1 n r).2 then a.2 ++ [n.val] else a.2)) a).1.can = a.1.can from h _
  induction l with
  | nil => intro a; rfl
  | cons n l ih => intro a; rw [List.foldl_cons, ih]; exact ringPut_can s a.1 n r

theorem emcyPut_can (s : State) (x : EvPart) (r : Rec) : CanLike x.can (emcyPut s x r).1.can := by
  unfold emcyPut
  (repeat' split) <;> rfl

theorem logRecs_can (s : State) (n : Nat) (l : List Rec) (x : EvPart) : CanLike x.can (logRecs s n l x).can := by
  induction n generalizing l x with
  | zero => rfl
  | succ n ih =>
    cases l with
    | nil => rfl
    | cons r l =>
      unfold logRecs
      split
      · exact ih _ _
      · split
        · exact ih l { x with ev := _ }
        · refine CanLike.trans ?_ (ih _ _)
          refine CanLike.trans ?_ (emcyPut_can _ _ _)
          rw [ringAll_can]
          rfl

theorem takeRec_can (s : State) (r : Rec) : CanLike s.can (takeRec s r).can := by
  unfold takeRec
  (repeat' split)
  all_goals first | rfl | exact logRecs_can _ _ _ _

/-- Raising an event changes what an event may change, and nothing else. -/
theorem raiseWord_eq (s : State) (ev : Nat) (isl : EvIsland) (d : BitVec 32) :
    raiseWord s ev isl d = withEvents s (raiseWord s ev isl d) := by
  have h := takeRec_can s (newRec s ev isl d)
  unfold CanLike at h
  unfold withEvents raiseWord
  simp only
  rw [← h]

theorem raise_eq (s : State) (ev : Nat) (isl : EvIsland) (vs : List (Nat × Nat)) :
    raise s ev isl vs = withEvents s (raise s ev isl vs) := raiseWord_eq _ _ _ _

@[simp] theorem withEvents_self (s : State) : withEvents s s = s := rfl

@[simp] theorem withEvents_withEvents (s t u : State) : withEvents (withEvents s t) u = withEvents s u := rfl

theorem raiseIf_eq (b : Bool) (s : State) (ev : Nat) (isl : EvIsland) (vs : List (Nat × Nat)) :
    raiseIf b s ev isl vs = withEvents s (raiseIf b s ev isl vs) := by
  unfold raiseIf
  split
  · exact raise_eq _ _ _ _
  · rfl

/-! ### Pending bits -/

/-- A pending bit of the event system. -/
def bitOf (e : Events) (ev : Nat) : Bool :=
  if h : ev / 64 < 28 then (e.pendingBits[ev / 64]).getLsbD (ev % 64) else false

theorem pendingBit_eq (s : State) (ev : Nat) : pendingBit s ev = bitOf s.ev ev := rfl

theorem setPending_self (e : Events) (ev : Nat) (h : ev / 64 < 28) : bitOf (setPending e ev) ev = true := by
  have h2 : ev % 64 < 64 := Nat.mod_lt _ (by decide)
  simp only [bitOf, setPending, h, dite_true, vmod, Vector.getElem_set_self, BitVec.getLsbD_or]
  rw [show (BitVec.ofNat 64 (2 ^ (ev % 64))).getLsbD (ev % 64) = true from ?_, Bool.or_true]
  rw [BitVec.getLsbD_ofNat, Nat.testBit_two_pow_self]
  simp [h2]

theorem setPending_mono (e : Events) (ev w : Nat) (h : bitOf e w = true) : bitOf (setPending e ev) w = true := by
  unfold setPending
  split
  · rename_i k
    unfold bitOf at h ⊢
    split
    · rename_i k2
      simp only [k2, dite_true] at h
      simp only [vmod]
      by_cases hk : ev / 64 = w / 64
      · simp only [hk, Vector.getElem_set_self, BitVec.getLsbD_or, Fin.getElem_fin]
        rw [h]; rfl
      · rw [Vector.getElem_set_ne _ _ hk]; exact h
    · rename_i k2; simp [k2] at h
  · exact h

theorem ringPut_bit (s : State) (x : EvPart) (n : Fin 16) (r : Rec) (w : Nat) :
    bitOf (ringPut s x n r).1.ev w = bitOf x.ev w := by
  unfold ringPut
  dsimp only
  (repeat' split) <;> rfl

theorem ringAll_bit (s : State) (x : EvPart) (r : Rec) (w : Nat) : bitOf (ringAll s x r).1.ev w = bitOf x.ev w := by
  unfold ringAll
  generalize List.finRange 16 = l
  suffices h : ∀ (a : EvPart × List Nat), bitOf (l.foldl (fun (a : EvPart × List Nat) n =>
      ((ringPut s a.1 n r).1, if (ringPut s a.1 n r).2 then a.2 ++ [n.val] else a.2)) a).1.ev w = bitOf a.1.ev w from h _
  induction l with
  | nil => intro a; rfl
  | cons n l ih => intro a; rw [List.foldl_cons, ih]; exact ringPut_bit s a.1 n r w

theorem emcyPut_ev (s : State) (x : EvPart) (r : Rec) : (emcyPut s x r).1.ev = x.ev := by
  unfold emcyPut
  (repeat' split) <;> rfl

theorem logRecs_mono (s : State) (w : Nat) (n : Nat) (l : List Rec) (x : EvPart) (h : bitOf x.ev w = true) :
    bitOf (logRecs s n l x).ev w = true := by
  induction n generalizing l x with
  | zero => exact h
  | succ n ih =>
    cases l with
    | nil => exact h
    | cons r l =>
      unfold logRecs
      split
      · exact ih _ _ h
      · split
        · exact ih _ _ (setPending_mono _ _ _ h)
        · refine ih _ _ ?_
          rw [emcyPut_ev, ringAll_bit]
          exact setPending_mono _ _ _ h

theorem logRecs_head (s : State) (n : Nat) (r : Rec) (l : List Rec) (x : EvPart) (he : evEnabled s r.event = true)
    (hb : r.event / 64 < 28) : bitOf (logRecs s (n + 1) (r :: l) x).ev r.event = true := by
  unfold logRecs
  simp only [he, Bool.true_eq_false, if_false]
  split
  · exact logRecs_mono _ _ _ _ _ (setPending_self _ _ hb)
  · refine logRecs_mono _ _ _ _ _ ?_
    rw [emcyPut_ev, ringAll_bit]
    exact setPending_self _ _ hb

/-- An enabled source is one of a bank. -/
theorem evEnabled_bank (s : State) (ev : Nat) (h : evEnabled s ev = true) : ev / 64 < 28 := by
  have ha : assigned ev = true := by
    unfold evEnabled at h
    simp only [Bool.and_eq_true] at h
    exact h.1
  by_contra hc
  have hn : ¬(640 ≤ ev ∧ ev < 1152) ∧ ¬(1152 ≤ ev ∧ ev < 1664) ∧ ¬(1664 ≤ ev ∧ ev < 1728) := by omega
  unfold assigned at ha
  simp [hn, inSpans, fixedSources] at ha
  omega

/-- A pending bit that is set stays set when an event is raised. -/
theorem raiseWord_keeps (s : State) (ev : Nat) (isl : EvIsland) (d : BitVec 32) (w : Nat) (h : pendingBit s w = true) :
    pendingBit (raiseWord s ev isl d) w = true := by
  unfold raiseWord takeRec
  (repeat' split)
  all_goals first | exact h | exact logRecs_mono _ _ _ _ _ h

theorem raise_keeps (s : State) (ev : Nat) (isl : EvIsland) (vs : List (Nat × Nat)) (w : Nat) (h : pendingBit s w = true) :
    pendingBit (raise s ev isl vs) w = true := raiseWord_keeps _ _ _ _ _ h

/-! ### Occurrences -/

theorem raiseWord_told (s : State) (ev : Nat) (isl : EvIsland) (d : BitVec 32) : Told ev s (raiseWord s ev isl d) := by
  refine ⟨fun hc hs he => ?_, fun hc hl => ?_, fun hc hs hl => ?_⟩
  · unfold raiseWord takeRec
    simp only [hc, hs, Bool.true_eq_false, if_false]
    exact logRecs_head s 63 (newRec s ev isl d) [] _ he (evEnabled_bank s ev he)
  · unfold raiseWord takeRec
    simp only [hc, hl, if_true]
    exact ⟨_, List.mem_append_right _ (List.mem_singleton.2 rfl), rfl, rfl⟩
  · unfold raiseWord takeRec
    simp only [hc, hs, hl, Bool.true_eq_false, if_false, if_true]
    exact ⟨_, List.mem_append_right _ (List.mem_singleton.2 rfl), rfl⟩

theorem controlRuns_of_isl {s t : State} (h : t.isl = s.isl) : controlRuns t = controlRuns s := by
  unfold controlRuns State.island
  rw [h]

theorem evEnabled_of {s t : State} (h : t.isl = s.isl) (hd : t.dict = s.dict) (ev : Nat) : evEnabled t ev = evEnabled s ev := by
  unfold evEnabled State.cfg
  rw [h, hd]

/-- An event raised in a state that runs the same event system with the same configuration. -/
theorem Told.of {ev : Nat} {s s' t : State} (h : Told ev s' t) (hi : s'.isl = s.isl) (hd : s'.dict = s.dict) (he : s'.ev = s.ev) :
    Told ev s t := by
  refine ⟨fun a b c => ?_, fun a b => ?_, fun a b c => ?_⟩
  · exact h.logged (by rw [controlRuns_of_isl hi, a]) (by rw [he, b]) (by rw [evEnabled_of hi hd, c])
  · exact h.early (by rw [controlRuns_of_isl hi, a]) (by rw [he]; exact b)
  · exact h.waits (by rw [controlRuns_of_isl hi, a]) (by rw [he, b]) (by rw [he]; exact c)

/-- The event system after a change that leaves it alone. -/
theorem Told.ev_eq {ev : Nat} {s t t' : State} (h : Told ev s t) (he : t'.ev = t.ev) : Told ev s t' := by
  refine ⟨fun a b c => ?_, fun a b => ?_, fun a b c => ?_⟩
  · have := h.logged a b c
    unfold pendingBit at this ⊢
    rw [he]; exact this
  · rw [he]; exact h.early a b
  · rw [he]; exact h.waits a b c

theorem raise_told (s : State) (ev : Nat) (isl : EvIsland) (vs : List (Nat × Nat)) : Told ev s (raise s ev isl vs) :=
  raiseWord_told _ _ _ _

theorem logRecs_held (s : State) (n : Nat) (l : List Rec) (x : EvPart) :
    (logRecs s n l x).ev.heldSup = x.ev.heldSup ∧ (logRecs s n l x).ev.heldCtl = x.ev.heldCtl := by
  have hp : ∀ (e : Events) (w : Nat), (setPending e w).heldSup = e.heldSup ∧ (setPending e w).heldCtl = e.heldCtl := by
    intro e w
    unfold setPending
    split <;> exact ⟨rfl, rfl⟩
  have hr : ∀ (y : EvPart) (r : Rec), (ringAll s y r).1.ev.heldSup = y.ev.heldSup ∧ (ringAll s y r).1.ev.heldCtl = y.ev.heldCtl := by
    intro y r
    unfold ringAll
    generalize List.finRange 16 = l
    suffices h : ∀ (a : EvPart × List Nat), (l.foldl (fun (a : EvPart × List Nat) n =>
        ((ringPut s a.1 n r).1, if (ringPut s a.1 n r).2 then a.2 ++ [n.val] else a.2)) a).1.ev.heldSup = a.1.ev.heldSup ∧
        (l.foldl (fun (a : EvPart × List Nat) n =>
        ((ringPut s a.1 n r).1, if (ringPut s a.1 n r).2 then a.2 ++ [n.val] else a.2)) a).1.ev.heldCtl = a.1.ev.heldCtl from h _
    induction l with
    | nil => intro a; exact ⟨rfl, rfl⟩
    | cons n l ih =>
      intro a
      rw [List.foldl_cons, (ih _).1, (ih _).2]
      unfold ringPut
      dsimp only
      (repeat' split) <;> exact ⟨rfl, rfl⟩
  induction n generalizing l x with
  | zero => exact ⟨rfl, rfl⟩
  | succ n ih =>
    cases l with
    | nil => exact ⟨rfl, rfl⟩
    | cons r l =>
      unfold logRecs
      split
      · exact ih _ _
      · split
        · rw [(ih _ _).1, (ih _ _).2]
          dsimp only
          rw [(hp _ _).1, (hp _ _).2]
          exact ⟨rfl, rfl⟩
        · dsimp only
          rw [(ih _ _).1, (ih _ _).2, emcyPut_ev, (hr _ _).1, (hr _ _).2, (hp _ _).1, (hp _ _).2]
          exact ⟨rfl, rfl⟩

/-- What is held stays held when another event is raised. -/
theorem raiseWord_held (s : State) (ev : Nat) (isl : EvIsland) (d : BitVec 32) :
    (∀ r ∈ s.ev.heldSup, r ∈ (raiseWord s ev isl d).ev.heldSup) ∧ (∀ r ∈ s.ev.heldCtl, r ∈ (raiseWord s ev isl d).ev.heldCtl) := by
  unfold raiseWord takeRec
  (repeat' split)
  all_goals first
    | exact ⟨fun r h => List.mem_append_left _ h, fun r h => h⟩
    | exact ⟨fun r h => h, fun r h => List.mem_append_left _ h⟩
    | exact ⟨fun r h => h, fun r h => h⟩
    | (refine ⟨fun r h => ?_, fun r h => ?_⟩
       · rw [(logRecs_held _ _ _ _).1]; exact h
       · rw [(logRecs_held _ _ _ _).2]; exact h)

/-- An occurrence stays told when another event is raised. -/
theorem Told.raise {ev : Nat} {s t : State} (h : Told ev s t) (w : Nat) (isl : EvIsland) (vs : List (Nat × Nat)) :
    Told ev s (raise t w isl vs) := by
  refine ⟨fun a b c => raise_keeps _ _ _ _ _ (h.logged a b c), fun a b => ?_, fun a b c => ?_⟩
  · obtain ⟨r, hr, h1, h2⟩ := h.early a b
    exact ⟨r, (raiseWord_held _ _ _ _).1 r hr, h1, h2⟩
  · obtain ⟨r, hr, h1⟩ := h.waits a b c
    exact ⟨r, (raiseWord_held _ _ _ _).2 r hr, h1⟩

end Sys2Proof.Machine
end

