-- ==== Sys2Proof/Laws/FrameKeepOps.lean ====
section
/-! SUPPORT. Frames of Machine/KeepOps.lean: what each operation leaves unchanged. -/

namespace Sys2Proof.Machine

@[simp] theorem keepWriteSnap_frame (packSnap bankSnap : Option Snap) (s : State) :
    (keepWriteSnap packSnap bankSnap s).time = s.time ∧ (keepWriteSnap packSnap bankSnap s).isl = s.isl
     ∧ (keepWriteSnap packSnap bankSnap s).life = s.life ∧ (keepWriteSnap packSnap bankSnap s).mode = s.mode
     ∧ (keepWriteSnap packSnap bankSnap s).nor = s.nor ∧ (keepWriteSnap packSnap bankSnap s).dict = s.dict
     ∧ (keepWriteSnap packSnap bankSnap s).can = s.can ∧ (keepWriteSnap packSnap bankSnap s).mbx = s.mbx
     ∧ (keepWriteSnap packSnap bankSnap s).win = s.win ∧ (keepWriteSnap packSnap bankSnap s).port = s.port
     ∧ (keepWriteSnap packSnap bankSnap s).cache = s.cache ∧ (keepWriteSnap packSnap bankSnap s).adm = s.adm
     ∧ (keepWriteSnap packSnap bankSnap s).pack = s.pack ∧ (keepWriteSnap packSnap bankSnap s).bank = s.bank
     ∧ (keepWriteSnap packSnap bankSnap s).packEst = s.packEst ∧ (keepWriteSnap packSnap bankSnap s).bankEst = s.bankEst
     ∧ (keepWriteSnap packSnap bankSnap s).hold = s.hold ∧ (keepWriteSnap packSnap bankSnap s).rails = s.rails
     ∧ (keepWriteSnap packSnap bankSnap s).tremor = s.tremor ∧ (keepWriteSnap packSnap bankSnap s).outage = s.outage
     ∧ (keepWriteSnap packSnap bankSnap s).flash = s.flash ∧ (keepWriteSnap packSnap bankSnap s).video = s.video
     ∧ (keepWriteSnap packSnap bankSnap s).out = s.out ∧ (keepWriteSnap packSnap bankSnap s).pending = s.pending := by
  unfold keepWriteSnap
  (repeat' split) <;> simp

@[simp] theorem keepWrite_frame (s : State) :
    (keepWrite s).time = s.time ∧ (keepWrite s).isl = s.isl ∧ (keepWrite s).life = s.life ∧ (keepWrite s).mode = s.mode
     ∧ (keepWrite s).nor = s.nor ∧ (keepWrite s).dict = s.dict ∧ (keepWrite s).can = s.can ∧ (keepWrite s).mbx = s.mbx
     ∧ (keepWrite s).win = s.win ∧ (keepWrite s).port = s.port ∧ (keepWrite s).cache = s.cache ∧ (keepWrite s).adm = s.adm
     ∧ (keepWrite s).pack = s.pack ∧ (keepWrite s).bank = s.bank ∧ (keepWrite s).packEst = s.packEst
     ∧ (keepWrite s).bankEst = s.bankEst ∧ (keepWrite s).hold = s.hold ∧ (keepWrite s).rails = s.rails
     ∧ (keepWrite s).tremor = s.tremor ∧ (keepWrite s).outage = s.outage ∧ (keepWrite s).flash = s.flash
     ∧ (keepWrite s).video = s.video ∧ (keepWrite s).out = s.out ∧ (keepWrite s).pending = s.pending := by
  unfold keepWrite
  (repeat' split) <;> simp

@[simp] theorem keepWriteEnd_frame (n : Nat) (s : State) :
    (keepWriteEnd n s).time = s.time ∧ (keepWriteEnd n s).isl = s.isl ∧ (keepWriteEnd n s).life = s.life
     ∧ (keepWriteEnd n s).mode = s.mode ∧ (keepWriteEnd n s).nor = s.nor ∧ (keepWriteEnd n s).dict = s.dict
     ∧ (keepWriteEnd n s).can = s.can ∧ (keepWriteEnd n s).mbx = s.mbx ∧ (keepWriteEnd n s).win = s.win
     ∧ (keepWriteEnd n s).port = s.port ∧ (keepWriteEnd n s).cache = s.cache ∧ (keepWriteEnd n s).adm = s.adm
     ∧ (keepWriteEnd n s).pack = s.pack ∧ (keepWriteEnd n s).bank = s.bank ∧ (keepWriteEnd n s).packEst = s.packEst
     ∧ (keepWriteEnd n s).bankEst = s.bankEst ∧ (keepWriteEnd n s).hold = s.hold ∧ (keepWriteEnd n s).rails = s.rails
     ∧ (keepWriteEnd n s).tremor = s.tremor ∧ (keepWriteEnd n s).outage = s.outage ∧ (keepWriteEnd n s).flash = s.flash
     ∧ (keepWriteEnd n s).video = s.video ∧ (keepWriteEnd n s).out = s.out ∧ (keepWriteEnd n s).pending = s.pending := by
  unfold keepWriteEnd
  (repeat' split) <;> simp

@[simp] theorem keepPend_frame (s : State) :
    (keepPend s).time = s.time ∧ (keepPend s).isl = s.isl ∧ (keepPend s).life = s.life ∧ (keepPend s).mode = s.mode
     ∧ (keepPend s).nor = s.nor ∧ (keepPend s).dict = s.dict ∧ (keepPend s).can = s.can ∧ (keepPend s).mbx = s.mbx
     ∧ (keepPend s).win = s.win ∧ (keepPend s).port = s.port ∧ (keepPend s).cache = s.cache ∧ (keepPend s).adm = s.adm
     ∧ (keepPend s).pack = s.pack ∧ (keepPend s).bank = s.bank ∧ (keepPend s).packEst = s.packEst
     ∧ (keepPend s).bankEst = s.bankEst ∧ (keepPend s).hold = s.hold ∧ (keepPend s).rails = s.rails
     ∧ (keepPend s).tremor = s.tremor ∧ (keepPend s).outage = s.outage ∧ (keepPend s).flash = s.flash
     ∧ (keepPend s).video = s.video ∧ (keepPend s).ev = s.ev ∧ (keepPend s).out = s.out ∧ (keepPend s).pending = s.pending := by
  unfold keepPend
  (repeat' split) <;> simp

theorem loadKeep_frame (s : State) :
    (loadKeep s).isl = s.isl ∧ (loadKeep s).mode = s.mode ∧ (loadKeep s).dict = s.dict ∧ (loadKeep s).mbx = s.mbx
     ∧ (loadKeep s).win = s.win ∧ (loadKeep s).port = s.port ∧ (loadKeep s).cache = s.cache ∧ (loadKeep s).hold = s.hold
     ∧ (loadKeep s).tremor = s.tremor ∧ (loadKeep s).outage = s.outage ∧ (loadKeep s).flash = s.flash
     ∧ (loadKeep s).video = s.video ∧ (loadKeep s).pending = s.pending := by
  unfold loadKeep
  (repeat' split) <;> simp

end Sys2Proof.Machine
end

