-- ==== Sys2Proof/Laws/FrameRailOps.lean ====
section
/-! SUPPORT. Frames of Machine/RailOps.lean: what each operation leaves unchanged. -/

namespace Sys2Proof.Machine

theorem State.countScan_frame (s : State) (r : Fin 12) (mv : Nat) :
    (State.countScan s r mv).time = s.time ∧ (State.countScan s r mv).isl = s.isl ∧ (State.countScan s r mv).life = s.life
     ∧ (State.countScan s r mv).mode = s.mode ∧ (State.countScan s r mv).nor = s.nor
     ∧ (State.countScan s r mv).dict = s.dict ∧ (State.countScan s r mv).can = s.can
     ∧ (State.countScan s r mv).mbx = s.mbx ∧ (State.countScan s r mv).win = s.win
     ∧ (State.countScan s r mv).port = s.port ∧ (State.countScan s r mv).cache = s.cache
     ∧ (State.countScan s r mv).adm = s.adm ∧ (State.countScan s r mv).pack = s.pack
     ∧ (State.countScan s r mv).bank = s.bank ∧ (State.countScan s r mv).packEst = s.packEst
     ∧ (State.countScan s r mv).bankEst = s.bankEst ∧ (State.countScan s r mv).hold = s.hold
     ∧ (State.countScan s r mv).keep = s.keep ∧ (State.countScan s r mv).tremor = s.tremor
     ∧ (State.countScan s r mv).outage = s.outage ∧ (State.countScan s r mv).flash = s.flash
     ∧ (State.countScan s r mv).video = s.video ∧ (State.countScan s r mv).ev = s.ev
     ∧ (State.countScan s r mv).pending = s.pending := by
  unfold State.countScan
  (repeat' split) <;> simp

@[simp] theorem latchFault_frame (kind rail switch position reading lag : Nat) (s : State) :
    (latchFault kind rail switch position reading lag s).time = s.time
     ∧ (latchFault kind rail switch position reading lag s).isl = s.isl
     ∧ (latchFault kind rail switch position reading lag s).life = s.life
     ∧ (latchFault kind rail switch position reading lag s).mode = s.mode
     ∧ (latchFault kind rail switch position reading lag s).nor = s.nor
     ∧ (latchFault kind rail switch position reading lag s).dict = s.dict
     ∧ (latchFault kind rail switch position reading lag s).mbx = s.mbx
     ∧ (latchFault kind rail switch position reading lag s).win = s.win
     ∧ (latchFault kind rail switch position reading lag s).port = s.port
     ∧ (latchFault kind rail switch position reading lag s).cache = s.cache
     ∧ (latchFault kind rail switch position reading lag s).adm = s.adm
     ∧ (latchFault kind rail switch position reading lag s).pack = s.pack
     ∧ (latchFault kind rail switch position reading lag s).bank = s.bank
     ∧ (latchFault kind rail switch position reading lag s).packEst = s.packEst
     ∧ (latchFault kind rail switch position reading lag s).bankEst = s.bankEst
     ∧ (latchFault kind rail switch position reading lag s).hold = s.hold
     ∧ (latchFault kind rail switch position reading lag s).keep = s.keep
     ∧ (latchFault kind rail switch position reading lag s).tremor = s.tremor
     ∧ (latchFault kind rail switch position reading lag s).outage = s.outage
     ∧ (latchFault kind rail switch position reading lag s).flash = s.flash
     ∧ (latchFault kind rail switch position reading lag s).video = s.video
     ∧ (latchFault kind rail switch position reading lag s).pending = s.pending := by
  unfold latchFault
  (repeat' split) <;> simp

theorem latchRail_frame (kind : Nat) (r : Fin 12) (reading lag : Nat) (s : State) :
    (latchRail kind r reading lag s).time = s.time ∧ (latchRail kind r reading lag s).isl = s.isl
     ∧ (latchRail kind r reading lag s).life = s.life ∧ (latchRail kind r reading lag s).mode = s.mode
     ∧ (latchRail kind r reading lag s).nor = s.nor ∧ (latchRail kind r reading lag s).dict = s.dict
     ∧ (latchRail kind r reading lag s).mbx = s.mbx ∧ (latchRail kind r reading lag s).win = s.win
     ∧ (latchRail kind r reading lag s).port = s.port ∧ (latchRail kind r reading lag s).cache = s.cache
     ∧ (latchRail kind r reading lag s).adm = s.adm ∧ (latchRail kind r reading lag s).pack = s.pack
     ∧ (latchRail kind r reading lag s).bank = s.bank ∧ (latchRail kind r reading lag s).packEst = s.packEst
     ∧ (latchRail kind r reading lag s).bankEst = s.bankEst ∧ (latchRail kind r reading lag s).hold = s.hold
     ∧ (latchRail kind r reading lag s).keep = s.keep ∧ (latchRail kind r reading lag s).tremor = s.tremor
     ∧ (latchRail kind r reading lag s).outage = s.outage ∧ (latchRail kind r reading lag s).flash = s.flash
     ∧ (latchRail kind r reading lag s).video = s.video ∧ (latchRail kind r reading lag s).pending = s.pending := by
  unfold latchRail
  (repeat' split) <;> simp

@[simp] theorem assertResets_frame (r : Fin 12) (s : State) :
    (assertResets r s).time = s.time ∧ (assertResets r s).isl = s.isl ∧ (assertResets r s).life = s.life
     ∧ (assertResets r s).mode = s.mode ∧ (assertResets r s).nor = s.nor ∧ (assertResets r s).dict = s.dict
     ∧ (assertResets r s).can = s.can ∧ (assertResets r s).mbx = s.mbx ∧ (assertResets r s).win = s.win
     ∧ (assertResets r s).port = s.port ∧ (assertResets r s).cache = s.cache ∧ (assertResets r s).adm = s.adm
     ∧ (assertResets r s).pack = s.pack ∧ (assertResets r s).bank = s.bank ∧ (assertResets r s).packEst = s.packEst
     ∧ (assertResets r s).bankEst = s.bankEst ∧ (assertResets r s).hold = s.hold ∧ (assertResets r s).keep = s.keep
     ∧ (assertResets r s).tremor = s.tremor ∧ (assertResets r s).outage = s.outage ∧ (assertResets r s).flash = s.flash
     ∧ (assertResets r s).video = s.video ∧ (assertResets r s).ev = s.ev ∧ (assertResets r s).out = s.out
     ∧ (assertResets r s).pending = s.pending := by
  unfold assertResets
  (repeat' split) <;> simp

@[simp] theorem stretchResets_frame (r : Fin 12) (s : State) :
    (stretchResets r s).time = s.time ∧ (stretchResets r s).isl = s.isl ∧ (stretchResets r s).life = s.life
     ∧ (stretchResets r s).mode = s.mode ∧ (stretchResets r s).nor = s.nor ∧ (stretchResets r s).dict = s.dict
     ∧ (stretchResets r s).can = s.can ∧ (stretchResets r s).mbx = s.mbx ∧ (stretchResets r s).win = s.win
     ∧ (stretchResets r s).port = s.port ∧ (stretchResets r s).cache = s.cache ∧ (stretchResets r s).adm = s.adm
     ∧ (stretchResets r s).pack = s.pack ∧ (stretchResets r s).bank = s.bank ∧ (stretchResets r s).packEst = s.packEst
     ∧ (stretchResets r s).bankEst = s.bankEst ∧ (stretchResets r s).hold = s.hold ∧ (stretchResets r s).keep = s.keep
     ∧ (stretchResets r s).tremor = s.tremor ∧ (stretchResets r s).outage = s.outage ∧ (stretchResets r s).flash = s.flash
     ∧ (stretchResets r s).video = s.video ∧ (stretchResets r s).ev = s.ev ∧ (stretchResets r s).out = s.out
     ∧ (stretchResets r s).pending = s.pending := by
  unfold stretchResets
  (repeat' split) <;> simp

@[simp] theorem portReady_frame (s : State) :
    (portReady s).time = s.time ∧ (portReady s).isl = s.isl ∧ (portReady s).life = s.life ∧ (portReady s).mode = s.mode
     ∧ (portReady s).nor = s.nor ∧ (portReady s).dict = s.dict ∧ (portReady s).can = s.can ∧ (portReady s).mbx = s.mbx
     ∧ (portReady s).win = s.win ∧ (portReady s).cache = s.cache ∧ (portReady s).adm = s.adm ∧ (portReady s).pack = s.pack
     ∧ (portReady s).bank = s.bank ∧ (portReady s).packEst = s.packEst ∧ (portReady s).bankEst = s.bankEst
     ∧ (portReady s).hold = s.hold ∧ (portReady s).keep = s.keep ∧ (portReady s).tremor = s.tremor
     ∧ (portReady s).outage = s.outage ∧ (portReady s).flash = s.flash ∧ (portReady s).video = s.video
     ∧ (portReady s).ev = s.ev ∧ (portReady s).out = s.out ∧ (portReady s).pending = s.pending := by
  unfold portReady
  (repeat' split) <;> simp

theorem stretchFree_frame (s : State) :
    (stretchFree s).time = s.time ∧ (stretchFree s).isl = s.isl ∧ (stretchFree s).life = s.life
     ∧ (stretchFree s).mode = s.mode ∧ (stretchFree s).nor = s.nor ∧ (stretchFree s).dict = s.dict
     ∧ (stretchFree s).can = s.can ∧ (stretchFree s).mbx = s.mbx ∧ (stretchFree s).win = s.win
     ∧ (stretchFree s).port = s.port ∧ (stretchFree s).cache = s.cache ∧ (stretchFree s).adm = s.adm
     ∧ (stretchFree s).pack = s.pack ∧ (stretchFree s).bank = s.bank ∧ (stretchFree s).packEst = s.packEst
     ∧ (stretchFree s).bankEst = s.bankEst ∧ (stretchFree s).hold = s.hold ∧ (stretchFree s).keep = s.keep
     ∧ (stretchFree s).tremor = s.tremor ∧ (stretchFree s).outage = s.outage ∧ (stretchFree s).flash = s.flash
     ∧ (stretchFree s).video = s.video ∧ (stretchFree s).ev = s.ev ∧ (stretchFree s).out = s.out
     ∧ (stretchFree s).pending = s.pending := by
  unfold stretchFree
  (repeat' split) <;> simp

@[simp] theorem rampGate_frame (g : Fin 8) (s : State) :
    (rampGate g s).time = s.time ∧ (rampGate g s).isl = s.isl ∧ (rampGate g s).life = s.life
     ∧ (rampGate g s).mode = s.mode ∧ (rampGate g s).nor = s.nor ∧ (rampGate g s).dict = s.dict
     ∧ (rampGate g s).can = s.can ∧ (rampGate g s).mbx = s.mbx ∧ (rampGate g s).win = s.win ∧ (rampGate g s).port = s.port
     ∧ (rampGate g s).cache = s.cache ∧ (rampGate g s).adm = s.adm ∧ (rampGate g s).pack = s.pack
     ∧ (rampGate g s).bank = s.bank ∧ (rampGate g s).packEst = s.packEst ∧ (rampGate g s).bankEst = s.bankEst
     ∧ (rampGate g s).hold = s.hold ∧ (rampGate g s).keep = s.keep ∧ (rampGate g s).tremor = s.tremor
     ∧ (rampGate g s).outage = s.outage ∧ (rampGate g s).flash = s.flash ∧ (rampGate g s).video = s.video
     ∧ (rampGate g s).ev = s.ev ∧ (rampGate g s).out = s.out ∧ (rampGate g s).pending = s.pending := by
  unfold rampGate
  (repeat' split) <;> simp

@[simp] theorem gateOff_frame (g : Fin 8) (s : State) :
    (gateOff g s).time = s.time ∧ (gateOff g s).isl = s.isl ∧ (gateOff g s).life = s.life ∧ (gateOff g s).mode = s.mode
     ∧ (gateOff g s).nor = s.nor ∧ (gateOff g s).dict = s.dict ∧ (gateOff g s).can = s.can ∧ (gateOff g s).mbx = s.mbx
     ∧ (gateOff g s).win = s.win ∧ (gateOff g s).port = s.port ∧ (gateOff g s).cache = s.cache ∧ (gateOff g s).adm = s.adm
     ∧ (gateOff g s).pack = s.pack ∧ (gateOff g s).bank = s.bank ∧ (gateOff g s).packEst = s.packEst
     ∧ (gateOff g s).bankEst = s.bankEst ∧ (gateOff g s).hold = s.hold ∧ (gateOff g s).keep = s.keep
     ∧ (gateOff g s).tremor = s.tremor ∧ (gateOff g s).outage = s.outage ∧ (gateOff g s).flash = s.flash
     ∧ (gateOff g s).video = s.video ∧ (gateOff g s).ev = s.ev ∧ (gateOff g s).out = s.out
     ∧ (gateOff g s).pending = s.pending := by
  unfold gateOff
  (repeat' split) <;> simp

@[simp] theorem gateFail_frame (g : Fin 8) (lag : Nat) (s : State) :
    (gateFail g lag s).time = s.time ∧ (gateFail g lag s).isl = s.isl ∧ (gateFail g lag s).life = s.life
     ∧ (gateFail g lag s).mode = s.mode ∧ (gateFail g lag s).nor = s.nor ∧ (gateFail g lag s).dict = s.dict
     ∧ (gateFail g lag s).can = s.can ∧ (gateFail g lag s).mbx = s.mbx ∧ (gateFail g lag s).win = s.win
     ∧ (gateFail g lag s).port = s.port ∧ (gateFail g lag s).cache = s.cache ∧ (gateFail g lag s).adm = s.adm
     ∧ (gateFail g lag s).pack = s.pack ∧ (gateFail g lag s).bank = s.bank ∧ (gateFail g lag s).packEst = s.packEst
     ∧ (gateFail g lag s).bankEst = s.bankEst ∧ (gateFail g lag s).hold = s.hold ∧ (gateFail g lag s).keep = s.keep
     ∧ (gateFail g lag s).tremor = s.tremor ∧ (gateFail g lag s).outage = s.outage ∧ (gateFail g lag s).flash = s.flash
     ∧ (gateFail g lag s).video = s.video ∧ (gateFail g lag s).ev = s.ev ∧ (gateFail g lag s).out = s.out
     ∧ (gateFail g lag s).pending = s.pending := by
  unfold gateFail
  (repeat' split) <;> simp

@[simp] theorem rampRail_frame (r : Fin 12) (s : State) :
    (rampRail r s).time = s.time ∧ (rampRail r s).isl = s.isl ∧ (rampRail r s).life = s.life
     ∧ (rampRail r s).mode = s.mode ∧ (rampRail r s).nor = s.nor ∧ (rampRail r s).dict = s.dict
     ∧ (rampRail r s).can = s.can ∧ (rampRail r s).mbx = s.mbx ∧ (rampRail r s).win = s.win ∧ (rampRail r s).port = s.port
     ∧ (rampRail r s).cache = s.cache ∧ (rampRail r s).adm = s.adm ∧ (rampRail r s).pack = s.pack
     ∧ (rampRail r s).bank = s.bank ∧ (rampRail r s).packEst = s.packEst ∧ (rampRail r s).bankEst = s.bankEst
     ∧ (rampRail r s).hold = s.hold ∧ (rampRail r s).keep = s.keep ∧ (rampRail r s).tremor = s.tremor
     ∧ (rampRail r s).outage = s.outage ∧ (rampRail r s).flash = s.flash ∧ (rampRail r s).video = s.video
     ∧ (rampRail r s).ev = s.ev ∧ (rampRail r s).out = s.out ∧ (rampRail r s).pending = s.pending := by
  unfold rampRail
  (repeat' split) <;> simp

@[simp] theorem dropRail_frame (by_ : OffBy) (st : RailStatus) (r : Fin 12) (s : State) :
    (dropRail by_ st r s).time = s.time ∧ (dropRail by_ st r s).isl = s.isl ∧ (dropRail by_ st r s).life = s.life
     ∧ (dropRail by_ st r s).mode = s.mode ∧ (dropRail by_ st r s).nor = s.nor ∧ (dropRail by_ st r s).dict = s.dict
     ∧ (dropRail by_ st r s).can = s.can ∧ (dropRail by_ st r s).mbx = s.mbx ∧ (dropRail by_ st r s).win = s.win
     ∧ (dropRail by_ st r s).port = s.port ∧ (dropRail by_ st r s).cache = s.cache ∧ (dropRail by_ st r s).adm = s.adm
     ∧ (dropRail by_ st r s).pack = s.pack ∧ (dropRail by_ st r s).bank = s.bank
     ∧ (dropRail by_ st r s).packEst = s.packEst ∧ (dropRail by_ st r s).bankEst = s.bankEst
     ∧ (dropRail by_ st r s).hold = s.hold ∧ (dropRail by_ st r s).keep = s.keep ∧ (dropRail by_ st r s).tremor = s.tremor
     ∧ (dropRail by_ st r s).outage = s.outage ∧ (dropRail by_ st r s).flash = s.flash
     ∧ (dropRail by_ st r s).video = s.video ∧ (dropRail by_ st r s).ev = s.ev ∧ (dropRail by_ st r s).out = s.out
     ∧ (dropRail by_ st r s).pending = s.pending := by
  unfold dropRail
  (repeat' split) <;> simp

theorem pullRail_frame (lag : Nat) (r : Fin 12) (s : State) :
    (pullRail lag r s).time = s.time ∧ (pullRail lag r s).isl = s.isl ∧ (pullRail lag r s).life = s.life
     ∧ (pullRail lag r s).mode = s.mode ∧ (pullRail lag r s).nor = s.nor ∧ (pullRail lag r s).dict = s.dict
     ∧ (pullRail lag r s).can = s.can ∧ (pullRail lag r s).mbx = s.mbx ∧ (pullRail lag r s).win = s.win
     ∧ (pullRail lag r s).port = s.port ∧ (pullRail lag r s).cache = s.cache ∧ (pullRail lag r s).adm = s.adm
     ∧ (pullRail lag r s).pack = s.pack ∧ (pullRail lag r s).bank = s.bank ∧ (pullRail lag r s).packEst = s.packEst
     ∧ (pullRail lag r s).bankEst = s.bankEst ∧ (pullRail lag r s).hold = s.hold ∧ (pullRail lag r s).keep = s.keep
     ∧ (pullRail lag r s).tremor = s.tremor ∧ (pullRail lag r s).outage = s.outage ∧ (pullRail lag r s).flash = s.flash
     ∧ (pullRail lag r s).video = s.video ∧ (pullRail lag r s).ev = s.ev ∧ (pullRail lag r s).out = s.out
     ∧ (pullRail lag r s).pending = s.pending := by
  unfold pullRail
  (repeat' split) <;> simp

@[simp] theorem rampStep_frame (groups : List Nat) (pos : Nat) (s : State) :
    (rampStep groups pos s).time = s.time ∧ (rampStep groups pos s).isl = s.isl ∧ (rampStep groups pos s).life = s.life
     ∧ (rampStep groups pos s).mode = s.mode ∧ (rampStep groups pos s).nor = s.nor ∧ (rampStep groups pos s).dict = s.dict
     ∧ (rampStep groups pos s).can = s.can ∧ (rampStep groups pos s).mbx = s.mbx ∧ (rampStep groups pos s).win = s.win
     ∧ (rampStep groups pos s).port = s.port ∧ (rampStep groups pos s).cache = s.cache
     ∧ (rampStep groups pos s).adm = s.adm ∧ (rampStep groups pos s).pack = s.pack ∧ (rampStep groups pos s).bank = s.bank
     ∧ (rampStep groups pos s).packEst = s.packEst ∧ (rampStep groups pos s).bankEst = s.bankEst
     ∧ (rampStep groups pos s).hold = s.hold ∧ (rampStep groups pos s).keep = s.keep
     ∧ (rampStep groups pos s).tremor = s.tremor ∧ (rampStep groups pos s).outage = s.outage
     ∧ (rampStep groups pos s).flash = s.flash ∧ (rampStep groups pos s).video = s.video
     ∧ (rampStep groups pos s).ev = s.ev ∧ (rampStep groups pos s).out = s.out
     ∧ (rampStep groups pos s).pending = s.pending := by
  unfold rampStep
  (repeat' split) <;> simp

@[simp] theorem dropStep_frame (groups : List Nat) (pos : Nat) (s : State) :
    (dropStep groups pos s).time = s.time ∧ (dropStep groups pos s).isl = s.isl ∧ (dropStep groups pos s).life = s.life
     ∧ (dropStep groups pos s).mode = s.mode ∧ (dropStep groups pos s).nor = s.nor ∧ (dropStep groups pos s).dict = s.dict
     ∧ (dropStep groups pos s).can = s.can ∧ (dropStep groups pos s).mbx = s.mbx ∧ (dropStep groups pos s).win = s.win
     ∧ (dropStep groups pos s).port = s.port ∧ (dropStep groups pos s).cache = s.cache
     ∧ (dropStep groups pos s).adm = s.adm ∧ (dropStep groups pos s).pack = s.pack ∧ (dropStep groups pos s).bank = s.bank
     ∧ (dropStep groups pos s).packEst = s.packEst ∧ (dropStep groups pos s).bankEst = s.bankEst
     ∧ (dropStep groups pos s).hold = s.hold ∧ (dropStep groups pos s).keep = s.keep
     ∧ (dropStep groups pos s).tremor = s.tremor ∧ (dropStep groups pos s).outage = s.outage
     ∧ (dropStep groups pos s).flash = s.flash ∧ (dropStep groups pos s).video = s.video
     ∧ (dropStep groups pos s).ev = s.ev ∧ (dropStep groups pos s).out = s.out
     ∧ (dropStep groups pos s).pending = s.pending := by
  unfold dropStep
  (repeat' split) <;> simp

@[simp] theorem endUpWalk_frame (s : State) :
    (endUpWalk s).time = s.time ∧ (endUpWalk s).isl = s.isl ∧ (endUpWalk s).life = s.life ∧ (endUpWalk s).mode = s.mode
     ∧ (endUpWalk s).nor = s.nor ∧ (endUpWalk s).dict = s.dict ∧ (endUpWalk s).mbx = s.mbx ∧ (endUpWalk s).win = s.win
     ∧ (endUpWalk s).port = s.port ∧ (endUpWalk s).cache = s.cache ∧ (endUpWalk s).adm = s.adm
     ∧ (endUpWalk s).pack = s.pack ∧ (endUpWalk s).bank = s.bank ∧ (endUpWalk s).packEst = s.packEst
     ∧ (endUpWalk s).bankEst = s.bankEst ∧ (endUpWalk s).hold = s.hold ∧ (endUpWalk s).keep = s.keep
     ∧ (endUpWalk s).tremor = s.tremor ∧ (endUpWalk s).outage = s.outage ∧ (endUpWalk s).flash = s.flash
     ∧ (endUpWalk s).video = s.video ∧ (endUpWalk s).pending = s.pending := by
  unfold endUpWalk
  (repeat' split) <;> simp

@[simp] theorem endDownWalk_frame (s : State) :
    (endDownWalk s).time = s.time ∧ (endDownWalk s).isl = s.isl ∧ (endDownWalk s).life = s.life
     ∧ (endDownWalk s).mode = s.mode ∧ (endDownWalk s).nor = s.nor ∧ (endDownWalk s).dict = s.dict
     ∧ (endDownWalk s).mbx = s.mbx ∧ (endDownWalk s).win = s.win ∧ (endDownWalk s).port = s.port
     ∧ (endDownWalk s).cache = s.cache ∧ (endDownWalk s).adm = s.adm ∧ (endDownWalk s).pack = s.pack
     ∧ (endDownWalk s).bank = s.bank ∧ (endDownWalk s).packEst = s.packEst ∧ (endDownWalk s).bankEst = s.bankEst
     ∧ (endDownWalk s).hold = s.hold ∧ (endDownWalk s).keep = s.keep ∧ (endDownWalk s).tremor = s.tremor
     ∧ (endDownWalk s).outage = s.outage ∧ (endDownWalk s).flash = s.flash ∧ (endDownWalk s).video = s.video
     ∧ (endDownWalk s).pending = s.pending := by
  unfold endDownWalk
  (repeat' split) <;> simp

theorem upFrom_frame (groups : List Nat) (p : Nat) (s : State) :
    (upFrom groups p s).time = s.time ∧ (upFrom groups p s).isl = s.isl ∧ (upFrom groups p s).life = s.life
     ∧ (upFrom groups p s).mode = s.mode ∧ (upFrom groups p s).nor = s.nor ∧ (upFrom groups p s).dict = s.dict
     ∧ (upFrom groups p s).mbx = s.mbx ∧ (upFrom groups p s).win = s.win ∧ (upFrom groups p s).port = s.port
     ∧ (upFrom groups p s).cache = s.cache ∧ (upFrom groups p s).adm = s.adm ∧ (upFrom groups p s).pack = s.pack
     ∧ (upFrom groups p s).bank = s.bank ∧ (upFrom groups p s).packEst = s.packEst
     ∧ (upFrom groups p s).bankEst = s.bankEst ∧ (upFrom groups p s).hold = s.hold ∧ (upFrom groups p s).keep = s.keep
     ∧ (upFrom groups p s).tremor = s.tremor ∧ (upFrom groups p s).outage = s.outage ∧ (upFrom groups p s).flash = s.flash
     ∧ (upFrom groups p s).video = s.video ∧ (upFrom groups p s).pending = s.pending := by
  unfold upFrom
  (repeat' split) <;> simp

theorem downFrom_frame (groups : List Nat) (p : Nat) (s : State) :
    (downFrom groups p s).time = s.time ∧ (downFrom groups p s).isl = s.isl ∧ (downFrom groups p s).life = s.life
     ∧ (downFrom groups p s).mode = s.mode ∧ (downFrom groups p s).nor = s.nor ∧ (downFrom groups p s).dict = s.dict
     ∧ (downFrom groups p s).mbx = s.mbx ∧ (downFrom groups p s).win = s.win ∧ (downFrom groups p s).port = s.port
     ∧ (downFrom groups p s).cache = s.cache ∧ (downFrom groups p s).adm = s.adm ∧ (downFrom groups p s).pack = s.pack
     ∧ (downFrom groups p s).bank = s.bank ∧ (downFrom groups p s).packEst = s.packEst
     ∧ (downFrom groups p s).bankEst = s.bankEst ∧ (downFrom groups p s).hold = s.hold
     ∧ (downFrom groups p s).keep = s.keep ∧ (downFrom groups p s).tremor = s.tremor
     ∧ (downFrom groups p s).outage = s.outage ∧ (downFrom groups p s).flash = s.flash
     ∧ (downFrom groups p s).video = s.video ∧ (downFrom groups p s).pending = s.pending := by
  unfold downFrom
  (repeat' split) <;> simp

@[simp] theorem walkUp_frame (groups : List Nat) (s : State) :
    (walkUp groups s).time = s.time ∧ (walkUp groups s).isl = s.isl ∧ (walkUp groups s).life = s.life
     ∧ (walkUp groups s).mode = s.mode ∧ (walkUp groups s).nor = s.nor ∧ (walkUp groups s).dict = s.dict
     ∧ (walkUp groups s).can = s.can ∧ (walkUp groups s).mbx = s.mbx ∧ (walkUp groups s).win = s.win
     ∧ (walkUp groups s).port = s.port ∧ (walkUp groups s).cache = s.cache ∧ (walkUp groups s).adm = s.adm
     ∧ (walkUp groups s).pack = s.pack ∧ (walkUp groups s).bank = s.bank ∧ (walkUp groups s).packEst = s.packEst
     ∧ (walkUp groups s).bankEst = s.bankEst ∧ (walkUp groups s).hold = s.hold ∧ (walkUp groups s).keep = s.keep
     ∧ (walkUp groups s).tremor = s.tremor ∧ (walkUp groups s).outage = s.outage ∧ (walkUp groups s).flash = s.flash
     ∧ (walkUp groups s).video = s.video ∧ (walkUp groups s).ev = s.ev ∧ (walkUp groups s).out = s.out
     ∧ (walkUp groups s).pending = s.pending := by
  unfold walkUp
  (repeat' split) <;> simp

@[simp] theorem walkDown_frame (groups : List Nat) (s : State) :
    (walkDown groups s).time = s.time ∧ (walkDown groups s).isl = s.isl ∧ (walkDown groups s).life = s.life
     ∧ (walkDown groups s).mode = s.mode ∧ (walkDown groups s).nor = s.nor ∧ (walkDown groups s).dict = s.dict
     ∧ (walkDown groups s).can = s.can ∧ (walkDown groups s).mbx = s.mbx ∧ (walkDown groups s).win = s.win
     ∧ (walkDown groups s).port = s.port ∧ (walkDown groups s).cache = s.cache ∧ (walkDown groups s).adm = s.adm
     ∧ (walkDown groups s).pack = s.pack ∧ (walkDown groups s).bank = s.bank ∧ (walkDown groups s).packEst = s.packEst
     ∧ (walkDown groups s).bankEst = s.bankEst ∧ (walkDown groups s).hold = s.hold ∧ (walkDown groups s).keep = s.keep
     ∧ (walkDown groups s).tremor = s.tremor ∧ (walkDown groups s).outage = s.outage ∧ (walkDown groups s).flash = s.flash
     ∧ (walkDown groups s).video = s.video ∧ (walkDown groups s).ev = s.ev ∧ (walkDown groups s).out = s.out
     ∧ (walkDown groups s).pending = s.pending := by
  unfold walkDown
  (repeat' split) <;> simp

theorem clearFalling_frame (s : State) :
    (clearFalling s).time = s.time ∧ (clearFalling s).isl = s.isl ∧ (clearFalling s).life = s.life
     ∧ (clearFalling s).mode = s.mode ∧ (clearFalling s).nor = s.nor ∧ (clearFalling s).dict = s.dict
     ∧ (clearFalling s).can = s.can ∧ (clearFalling s).mbx = s.mbx ∧ (clearFalling s).win = s.win
     ∧ (clearFalling s).port = s.port ∧ (clearFalling s).cache = s.cache ∧ (clearFalling s).adm = s.adm
     ∧ (clearFalling s).pack = s.pack ∧ (clearFalling s).bank = s.bank ∧ (clearFalling s).packEst = s.packEst
     ∧ (clearFalling s).bankEst = s.bankEst ∧ (clearFalling s).hold = s.hold ∧ (clearFalling s).keep = s.keep
     ∧ (clearFalling s).tremor = s.tremor ∧ (clearFalling s).outage = s.outage ∧ (clearFalling s).flash = s.flash
     ∧ (clearFalling s).video = s.video ∧ (clearFalling s).ev = s.ev ∧ (clearFalling s).out = s.out
     ∧ (clearFalling s).pending = s.pending := by
  unfold clearFalling
  (repeat' split) <;> simp

@[simp] theorem releaseEnables_frame (s : State) :
    (releaseEnables s).isl = s.isl ∧ (releaseEnables s).life = s.life ∧ (releaseEnables s).mode = s.mode
     ∧ (releaseEnables s).nor = s.nor ∧ (releaseEnables s).dict = s.dict ∧ (releaseEnables s).can = s.can
     ∧ (releaseEnables s).mbx = s.mbx ∧ (releaseEnables s).win = s.win ∧ (releaseEnables s).port = s.port
     ∧ (releaseEnables s).cache = s.cache ∧ (releaseEnables s).adm = s.adm ∧ (releaseEnables s).pack = s.pack
     ∧ (releaseEnables s).bank = s.bank ∧ (releaseEnables s).packEst = s.packEst
     ∧ (releaseEnables s).bankEst = s.bankEst ∧ (releaseEnables s).hold = s.hold ∧ (releaseEnables s).keep = s.keep
     ∧ (releaseEnables s).tremor = s.tremor ∧ (releaseEnables s).outage = s.outage
     ∧ (releaseEnables s).flash = s.flash ∧ (releaseEnables s).video = s.video ∧ (releaseEnables s).ev = s.ev
     ∧ (releaseEnables s).out = s.out ∧ (releaseEnables s).pending = s.pending := by
  unfold releaseEnables
  (repeat' split) <;> simp

theorem releaseOutputs_frame (s : State) :
    (releaseOutputs s).isl = s.isl ∧ (releaseOutputs s).life = s.life ∧ (releaseOutputs s).mode = s.mode
     ∧ (releaseOutputs s).nor = s.nor ∧ (releaseOutputs s).dict = s.dict ∧ (releaseOutputs s).can = s.can
     ∧ (releaseOutputs s).mbx = s.mbx ∧ (releaseOutputs s).win = s.win ∧ (releaseOutputs s).port = s.port
     ∧ (releaseOutputs s).cache = s.cache ∧ (releaseOutputs s).adm = s.adm ∧ (releaseOutputs s).packEst = s.packEst
     ∧ (releaseOutputs s).bankEst = s.bankEst ∧ (releaseOutputs s).keep = s.keep
     ∧ (releaseOutputs s).tremor = s.tremor ∧ (releaseOutputs s).outage = s.outage
     ∧ (releaseOutputs s).flash = s.flash ∧ (releaseOutputs s).video = s.video ∧ (releaseOutputs s).ev = s.ev
     ∧ (releaseOutputs s).out = s.out ∧ (releaseOutputs s).pending = s.pending := by
  unfold releaseOutputs
  (repeat' split) <;> simp

@[simp] theorem trimTo_frame (t : Fin 4) (v : Nat) (s : State) :
    (trimTo t v s).time = s.time ∧ (trimTo t v s).isl = s.isl ∧ (trimTo t v s).life = s.life
     ∧ (trimTo t v s).mode = s.mode ∧ (trimTo t v s).nor = s.nor ∧ (trimTo t v s).dict = s.dict
     ∧ (trimTo t v s).can = s.can ∧ (trimTo t v s).mbx = s.mbx ∧ (trimTo t v s).win = s.win ∧ (trimTo t v s).port = s.port
     ∧ (trimTo t v s).cache = s.cache ∧ (trimTo t v s).adm = s.adm ∧ (trimTo t v s).pack = s.pack
     ∧ (trimTo t v s).bank = s.bank ∧ (trimTo t v s).packEst = s.packEst ∧ (trimTo t v s).bankEst = s.bankEst
     ∧ (trimTo t v s).hold = s.hold ∧ (trimTo t v s).keep = s.keep ∧ (trimTo t v s).tremor = s.tremor
     ∧ (trimTo t v s).outage = s.outage ∧ (trimTo t v s).flash = s.flash ∧ (trimTo t v s).video = s.video
     ∧ (trimTo t v s).ev = s.ev ∧ (trimTo t v s).out = s.out ∧ (trimTo t v s).pending = s.pending := by
  unfold trimTo
  (repeat' split) <;> simp

@[simp] theorem holdTrims_frame (s : State) :
    (holdTrims s).time = s.time ∧ (holdTrims s).isl = s.isl ∧ (holdTrims s).life = s.life ∧ (holdTrims s).mode = s.mode
     ∧ (holdTrims s).nor = s.nor ∧ (holdTrims s).dict = s.dict ∧ (holdTrims s).can = s.can ∧ (holdTrims s).mbx = s.mbx
     ∧ (holdTrims s).win = s.win ∧ (holdTrims s).port = s.port ∧ (holdTrims s).cache = s.cache ∧ (holdTrims s).adm = s.adm
     ∧ (holdTrims s).pack = s.pack ∧ (holdTrims s).bank = s.bank ∧ (holdTrims s).packEst = s.packEst
     ∧ (holdTrims s).bankEst = s.bankEst ∧ (holdTrims s).hold = s.hold ∧ (holdTrims s).keep = s.keep
     ∧ (holdTrims s).tremor = s.tremor ∧ (holdTrims s).outage = s.outage ∧ (holdTrims s).flash = s.flash
     ∧ (holdTrims s).video = s.video ∧ (holdTrims s).ev = s.ev ∧ (holdTrims s).out = s.out
     ∧ (holdTrims s).pending = s.pending := by
  unfold holdTrims
  (repeat' split) <;> simp

@[simp] theorem freeTrims_frame (s : State) :
    (freeTrims s).time = s.time ∧ (freeTrims s).isl = s.isl ∧ (freeTrims s).life = s.life ∧ (freeTrims s).mode = s.mode
     ∧ (freeTrims s).nor = s.nor ∧ (freeTrims s).dict = s.dict ∧ (freeTrims s).can = s.can ∧ (freeTrims s).mbx = s.mbx
     ∧ (freeTrims s).win = s.win ∧ (freeTrims s).port = s.port ∧ (freeTrims s).cache = s.cache ∧ (freeTrims s).adm = s.adm
     ∧ (freeTrims s).pack = s.pack ∧ (freeTrims s).bank = s.bank ∧ (freeTrims s).packEst = s.packEst
     ∧ (freeTrims s).bankEst = s.bankEst ∧ (freeTrims s).hold = s.hold ∧ (freeTrims s).keep = s.keep
     ∧ (freeTrims s).tremor = s.tremor ∧ (freeTrims s).outage = s.outage ∧ (freeTrims s).flash = s.flash
     ∧ (freeTrims s).video = s.video ∧ (freeTrims s).ev = s.ev ∧ (freeTrims s).out = s.out
     ∧ (freeTrims s).pending = s.pending := by
  unfold freeTrims
  (repeat' split) <;> simp

end Sys2Proof.Machine
end

