-- ==== Sys2Proof/Laws/FrameEnergyOps.lean ====
section
/-! SUPPORT. Frames of Machine/EnergyOps.lean: what each operation leaves unchanged. -/

namespace Sys2Proof.Machine

@[simp] theorem dropUnconfigured_frame (c : Channel) (s : State) :
    (dropUnconfigured c s).time = s.time ∧ (dropUnconfigured c s).isl = s.isl ∧ (dropUnconfigured c s).life = s.life
     ∧ (dropUnconfigured c s).mode = s.mode ∧ (dropUnconfigured c s).nor = s.nor
     ∧ (dropUnconfigured c s).dict = s.dict ∧ (dropUnconfigured c s).can = s.can ∧ (dropUnconfigured c s).mbx = s.mbx
     ∧ (dropUnconfigured c s).win = s.win ∧ (dropUnconfigured c s).port = s.port
     ∧ (dropUnconfigured c s).cache = s.cache ∧ (dropUnconfigured c s).adm = s.adm
     ∧ (dropUnconfigured c s).packEst = s.packEst ∧ (dropUnconfigured c s).bankEst = s.bankEst
     ∧ (dropUnconfigured c s).hold = s.hold ∧ (dropUnconfigured c s).rails = s.rails
     ∧ (dropUnconfigured c s).keep = s.keep ∧ (dropUnconfigured c s).tremor = s.tremor
     ∧ (dropUnconfigured c s).outage = s.outage ∧ (dropUnconfigured c s).flash = s.flash
     ∧ (dropUnconfigured c s).video = s.video ∧ (dropUnconfigured c s).ev = s.ev ∧ (dropUnconfigured c s).out = s.out
     ∧ (dropUnconfigured c s).pending = s.pending := by
  unfold dropUnconfigured
  (repeat' split) <;> simp

@[simp] theorem driveCharge_frame (s : State) (c : Channel) :
    (driveCharge s c).time = s.time ∧ (driveCharge s c).isl = s.isl ∧ (driveCharge s c).life = s.life
     ∧ (driveCharge s c).mode = s.mode ∧ (driveCharge s c).nor = s.nor ∧ (driveCharge s c).dict = s.dict
     ∧ (driveCharge s c).can = s.can ∧ (driveCharge s c).mbx = s.mbx ∧ (driveCharge s c).win = s.win
     ∧ (driveCharge s c).port = s.port ∧ (driveCharge s c).cache = s.cache ∧ (driveCharge s c).adm = s.adm
     ∧ (driveCharge s c).packEst = s.packEst ∧ (driveCharge s c).bankEst = s.bankEst ∧ (driveCharge s c).hold = s.hold
     ∧ (driveCharge s c).rails = s.rails ∧ (driveCharge s c).keep = s.keep ∧ (driveCharge s c).tremor = s.tremor
     ∧ (driveCharge s c).outage = s.outage ∧ (driveCharge s c).flash = s.flash ∧ (driveCharge s c).video = s.video
     ∧ (driveCharge s c).ev = s.ev ∧ (driveCharge s c).out = s.out ∧ (driveCharge s c).pending = s.pending := by
  unfold driveCharge
  (repeat' split) <;> simp

@[simp] theorem retarget_frame (s : State) (c : Channel) :
    (retarget s c).time = s.time ∧ (retarget s c).isl = s.isl ∧ (retarget s c).life = s.life
     ∧ (retarget s c).mode = s.mode ∧ (retarget s c).nor = s.nor ∧ (retarget s c).dict = s.dict
     ∧ (retarget s c).can = s.can ∧ (retarget s c).mbx = s.mbx ∧ (retarget s c).win = s.win ∧ (retarget s c).port = s.port
     ∧ (retarget s c).cache = s.cache ∧ (retarget s c).adm = s.adm ∧ (retarget s c).packEst = s.packEst
     ∧ (retarget s c).bankEst = s.bankEst ∧ (retarget s c).hold = s.hold ∧ (retarget s c).rails = s.rails
     ∧ (retarget s c).keep = s.keep ∧ (retarget s c).tremor = s.tremor ∧ (retarget s c).outage = s.outage
     ∧ (retarget s c).flash = s.flash ∧ (retarget s c).video = s.video ∧ (retarget s c).ev = s.ev
     ∧ (retarget s c).out = s.out ∧ (retarget s c).pending = s.pending := by
  unfold retarget
  (repeat' split) <;> simp

@[simp] theorem holdCharge_frame (s : State) (c : Channel) :
    (holdCharge s c).time = s.time ∧ (holdCharge s c).isl = s.isl ∧ (holdCharge s c).life = s.life
     ∧ (holdCharge s c).mode = s.mode ∧ (holdCharge s c).nor = s.nor ∧ (holdCharge s c).dict = s.dict
     ∧ (holdCharge s c).can = s.can ∧ (holdCharge s c).mbx = s.mbx ∧ (holdCharge s c).win = s.win
     ∧ (holdCharge s c).port = s.port ∧ (holdCharge s c).cache = s.cache ∧ (holdCharge s c).adm = s.adm
     ∧ (holdCharge s c).packEst = s.packEst ∧ (holdCharge s c).bankEst = s.bankEst ∧ (holdCharge s c).hold = s.hold
     ∧ (holdCharge s c).rails = s.rails ∧ (holdCharge s c).keep = s.keep ∧ (holdCharge s c).tremor = s.tremor
     ∧ (holdCharge s c).outage = s.outage ∧ (holdCharge s c).flash = s.flash ∧ (holdCharge s c).video = s.video
     ∧ (holdCharge s c).ev = s.ev ∧ (holdCharge s c).out = s.out ∧ (holdCharge s c).pending = s.pending := by
  unfold holdCharge
  (repeat' split) <;> simp

@[simp] theorem startCharge_frame (s : State) (c : Channel) :
    (startCharge s c).time = s.time ∧ (startCharge s c).isl = s.isl ∧ (startCharge s c).life = s.life
     ∧ (startCharge s c).mode = s.mode ∧ (startCharge s c).nor = s.nor ∧ (startCharge s c).dict = s.dict
     ∧ (startCharge s c).mbx = s.mbx ∧ (startCharge s c).win = s.win ∧ (startCharge s c).port = s.port
     ∧ (startCharge s c).cache = s.cache ∧ (startCharge s c).adm = s.adm ∧ (startCharge s c).packEst = s.packEst
     ∧ (startCharge s c).bankEst = s.bankEst ∧ (startCharge s c).hold = s.hold ∧ (startCharge s c).rails = s.rails
     ∧ (startCharge s c).keep = s.keep ∧ (startCharge s c).tremor = s.tremor ∧ (startCharge s c).outage = s.outage
     ∧ (startCharge s c).flash = s.flash ∧ (startCharge s c).video = s.video ∧ (startCharge s c).pending = s.pending := by
  unfold startCharge
  (repeat' split) <;> simp

@[simp] theorem chargeRefresh_frame (s : State) (c : Channel) :
    (chargeRefresh s c).time = s.time ∧ (chargeRefresh s c).isl = s.isl ∧ (chargeRefresh s c).life = s.life
     ∧ (chargeRefresh s c).mode = s.mode ∧ (chargeRefresh s c).nor = s.nor ∧ (chargeRefresh s c).dict = s.dict
     ∧ (chargeRefresh s c).mbx = s.mbx ∧ (chargeRefresh s c).win = s.win ∧ (chargeRefresh s c).port = s.port
     ∧ (chargeRefresh s c).cache = s.cache ∧ (chargeRefresh s c).adm = s.adm ∧ (chargeRefresh s c).packEst = s.packEst
     ∧ (chargeRefresh s c).bankEst = s.bankEst ∧ (chargeRefresh s c).hold = s.hold ∧ (chargeRefresh s c).rails = s.rails
     ∧ (chargeRefresh s c).keep = s.keep ∧ (chargeRefresh s c).tremor = s.tremor ∧ (chargeRefresh s c).outage = s.outage
     ∧ (chargeRefresh s c).flash = s.flash ∧ (chargeRefresh s c).video = s.video ∧ (chargeRefresh s c).pending = s.pending := by
  unfold chargeRefresh
  (repeat' split) <;> simp

@[simp] theorem chargesRefresh_frame (s : State) :
    (chargesRefresh s).time = s.time ∧ (chargesRefresh s).isl = s.isl ∧ (chargesRefresh s).life = s.life
     ∧ (chargesRefresh s).mode = s.mode ∧ (chargesRefresh s).nor = s.nor ∧ (chargesRefresh s).dict = s.dict
     ∧ (chargesRefresh s).mbx = s.mbx ∧ (chargesRefresh s).win = s.win ∧ (chargesRefresh s).port = s.port
     ∧ (chargesRefresh s).cache = s.cache ∧ (chargesRefresh s).adm = s.adm ∧ (chargesRefresh s).packEst = s.packEst
     ∧ (chargesRefresh s).bankEst = s.bankEst ∧ (chargesRefresh s).hold = s.hold ∧ (chargesRefresh s).rails = s.rails
     ∧ (chargesRefresh s).keep = s.keep ∧ (chargesRefresh s).tremor = s.tremor ∧ (chargesRefresh s).outage = s.outage
     ∧ (chargesRefresh s).flash = s.flash ∧ (chargesRefresh s).video = s.video ∧ (chargesRefresh s).pending = s.pending := by
  unfold chargesRefresh
  (repeat' split) <;> simp

@[simp] theorem faultChannel_frame (c : Channel) (code : Nat) (s : State) :
    (faultChannel c code s).time = s.time ∧ (faultChannel c code s).isl = s.isl ∧ (faultChannel c code s).life = s.life
     ∧ (faultChannel c code s).mode = s.mode ∧ (faultChannel c code s).nor = s.nor ∧ (faultChannel c code s).dict = s.dict
     ∧ (faultChannel c code s).mbx = s.mbx ∧ (faultChannel c code s).win = s.win ∧ (faultChannel c code s).port = s.port
     ∧ (faultChannel c code s).cache = s.cache ∧ (faultChannel c code s).adm = s.adm
     ∧ (faultChannel c code s).packEst = s.packEst ∧ (faultChannel c code s).bankEst = s.bankEst
     ∧ (faultChannel c code s).hold = s.hold ∧ (faultChannel c code s).rails = s.rails
     ∧ (faultChannel c code s).tremor = s.tremor ∧ (faultChannel c code s).outage = s.outage
     ∧ (faultChannel c code s).flash = s.flash ∧ (faultChannel c code s).video = s.video
     ∧ (faultChannel c code s).pending = s.pending := by
  unfold faultChannel
  (repeat' split) <;> simp

@[simp] theorem balance_frame (s : State) :
    (balance s).time = s.time ∧ (balance s).isl = s.isl ∧ (balance s).life = s.life ∧ (balance s).mode = s.mode
     ∧ (balance s).nor = s.nor ∧ (balance s).dict = s.dict ∧ (balance s).can = s.can ∧ (balance s).mbx = s.mbx
     ∧ (balance s).win = s.win ∧ (balance s).port = s.port ∧ (balance s).cache = s.cache ∧ (balance s).adm = s.adm
     ∧ (balance s).pack = s.pack ∧ (balance s).bank = s.bank ∧ (balance s).packEst = s.packEst
     ∧ (balance s).bankEst = s.bankEst ∧ (balance s).rails = s.rails ∧ (balance s).keep = s.keep
     ∧ (balance s).tremor = s.tremor ∧ (balance s).outage = s.outage ∧ (balance s).flash = s.flash
     ∧ (balance s).video = s.video ∧ (balance s).ev = s.ev ∧ (balance s).out = s.out ∧ (balance s).pending = s.pending := by
  unfold balance
  (repeat' split) <;> simp

@[simp] theorem setSource_frame (c : Channel) (closed : Bool) (s : State) :
    (setSource c closed s).time = s.time ∧ (setSource c closed s).isl = s.isl ∧ (setSource c closed s).life = s.life
     ∧ (setSource c closed s).mode = s.mode ∧ (setSource c closed s).nor = s.nor ∧ (setSource c closed s).dict = s.dict
     ∧ (setSource c closed s).can = s.can ∧ (setSource c closed s).mbx = s.mbx ∧ (setSource c closed s).win = s.win
     ∧ (setSource c closed s).port = s.port ∧ (setSource c closed s).cache = s.cache ∧ (setSource c closed s).adm = s.adm
     ∧ (setSource c closed s).pack = s.pack ∧ (setSource c closed s).bank = s.bank
     ∧ (setSource c closed s).packEst = s.packEst ∧ (setSource c closed s).bankEst = s.bankEst
     ∧ (setSource c closed s).keep = s.keep ∧ (setSource c closed s).tremor = s.tremor
     ∧ (setSource c closed s).outage = s.outage ∧ (setSource c closed s).flash = s.flash
     ∧ (setSource c closed s).video = s.video ∧ (setSource c closed s).ev = s.ev ∧ (setSource c closed s).out = s.out
     ∧ (setSource c closed s).pending = s.pending := by
  unfold setSource
  (repeat' split) <;> simp

@[simp] theorem armHold_frame (s : State) :
    (armHold s).time = s.time ∧ (armHold s).isl = s.isl ∧ (armHold s).life = s.life ∧ (armHold s).mode = s.mode
     ∧ (armHold s).nor = s.nor ∧ (armHold s).dict = s.dict ∧ (armHold s).can = s.can ∧ (armHold s).mbx = s.mbx
     ∧ (armHold s).win = s.win ∧ (armHold s).port = s.port ∧ (armHold s).cache = s.cache ∧ (armHold s).adm = s.adm
     ∧ (armHold s).pack = s.pack ∧ (armHold s).bank = s.bank ∧ (armHold s).packEst = s.packEst
     ∧ (armHold s).bankEst = s.bankEst ∧ (armHold s).keep = s.keep ∧ (armHold s).tremor = s.tremor
     ∧ (armHold s).outage = s.outage ∧ (armHold s).flash = s.flash ∧ (armHold s).video = s.video ∧ (armHold s).ev = s.ev
     ∧ (armHold s).out = s.out ∧ (armHold s).pending = s.pending := by
  unfold armHold
  (repeat' split) <;> simp

@[simp] theorem holdRefresh_frame (s : State) :
    (holdRefresh s).time = s.time ∧ (holdRefresh s).isl = s.isl ∧ (holdRefresh s).life = s.life
     ∧ (holdRefresh s).mode = s.mode ∧ (holdRefresh s).nor = s.nor ∧ (holdRefresh s).dict = s.dict
     ∧ (holdRefresh s).can = s.can ∧ (holdRefresh s).mbx = s.mbx ∧ (holdRefresh s).win = s.win
     ∧ (holdRefresh s).port = s.port ∧ (holdRefresh s).cache = s.cache ∧ (holdRefresh s).adm = s.adm
     ∧ (holdRefresh s).pack = s.pack ∧ (holdRefresh s).bank = s.bank ∧ (holdRefresh s).packEst = s.packEst
     ∧ (holdRefresh s).bankEst = s.bankEst ∧ (holdRefresh s).rails = s.rails ∧ (holdRefresh s).keep = s.keep
     ∧ (holdRefresh s).tremor = s.tremor ∧ (holdRefresh s).outage = s.outage ∧ (holdRefresh s).flash = s.flash
     ∧ (holdRefresh s).video = s.video ∧ (holdRefresh s).ev = s.ev ∧ (holdRefresh s).out = s.out
     ∧ (holdRefresh s).pending = s.pending := by
  unfold holdRefresh
  (repeat' split) <;> simp

@[simp] theorem gateMissingRefresh_frame (s : State) :
    (gateMissingRefresh s).time = s.time ∧ (gateMissingRefresh s).isl = s.isl ∧ (gateMissingRefresh s).life = s.life
     ∧ (gateMissingRefresh s).mode = s.mode ∧ (gateMissingRefresh s).nor = s.nor ∧ (gateMissingRefresh s).dict = s.dict
     ∧ (gateMissingRefresh s).mbx = s.mbx ∧ (gateMissingRefresh s).win = s.win ∧ (gateMissingRefresh s).port = s.port
     ∧ (gateMissingRefresh s).cache = s.cache ∧ (gateMissingRefresh s).adm = s.adm ∧ (gateMissingRefresh s).pack = s.pack
     ∧ (gateMissingRefresh s).bank = s.bank ∧ (gateMissingRefresh s).packEst = s.packEst
     ∧ (gateMissingRefresh s).bankEst = s.bankEst ∧ (gateMissingRefresh s).rails = s.rails
     ∧ (gateMissingRefresh s).keep = s.keep ∧ (gateMissingRefresh s).tremor = s.tremor
     ∧ (gateMissingRefresh s).outage = s.outage ∧ (gateMissingRefresh s).flash = s.flash
     ∧ (gateMissingRefresh s).video = s.video ∧ (gateMissingRefresh s).pending = s.pending := by
  unfold gateMissingRefresh
  (repeat' split) <;> simp

@[simp] theorem endAssist_frame (s : State) :
    (endAssist s).time = s.time ∧ (endAssist s).isl = s.isl ∧ (endAssist s).life = s.life ∧ (endAssist s).mode = s.mode
     ∧ (endAssist s).nor = s.nor ∧ (endAssist s).dict = s.dict ∧ (endAssist s).mbx = s.mbx ∧ (endAssist s).win = s.win
     ∧ (endAssist s).port = s.port ∧ (endAssist s).cache = s.cache ∧ (endAssist s).adm = s.adm
     ∧ (endAssist s).pack = s.pack ∧ (endAssist s).bank = s.bank ∧ (endAssist s).packEst = s.packEst
     ∧ (endAssist s).bankEst = s.bankEst ∧ (endAssist s).keep = s.keep ∧ (endAssist s).tremor = s.tremor
     ∧ (endAssist s).outage = s.outage ∧ (endAssist s).flash = s.flash ∧ (endAssist s).video = s.video
     ∧ (endAssist s).pending = s.pending := by
  unfold endAssist
  (repeat' split) <;> simp

@[simp] theorem startAssist_frame (c : Channel) (s : State) :
    (startAssist c s).time = s.time ∧ (startAssist c s).isl = s.isl ∧ (startAssist c s).life = s.life
     ∧ (startAssist c s).mode = s.mode ∧ (startAssist c s).nor = s.nor ∧ (startAssist c s).dict = s.dict
     ∧ (startAssist c s).mbx = s.mbx ∧ (startAssist c s).win = s.win ∧ (startAssist c s).port = s.port
     ∧ (startAssist c s).cache = s.cache ∧ (startAssist c s).adm = s.adm ∧ (startAssist c s).pack = s.pack
     ∧ (startAssist c s).bank = s.bank ∧ (startAssist c s).packEst = s.packEst ∧ (startAssist c s).bankEst = s.bankEst
     ∧ (startAssist c s).keep = s.keep ∧ (startAssist c s).tremor = s.tremor ∧ (startAssist c s).outage = s.outage
     ∧ (startAssist c s).flash = s.flash ∧ (startAssist c s).video = s.video ∧ (startAssist c s).pending = s.pending := by
  unfold startAssist
  (repeat' split) <;> simp

end Sys2Proof.Machine
end

