-- ==== Sys2Proof/Laws/FrameEstOps.lean ====
section
/-! SUPPORT. Frames of Machine/EstOps.lean: what each operation leaves unchanged. -/

namespace Sys2Proof.Machine

@[simp] theorem countSample_frame (c : Channel) (ma : Int) (s : State) :
    (countSample c ma s).time = s.time ∧ (countSample c ma s).isl = s.isl ∧ (countSample c ma s).life = s.life
     ∧ (countSample c ma s).mode = s.mode ∧ (countSample c ma s).nor = s.nor ∧ (countSample c ma s).dict = s.dict
     ∧ (countSample c ma s).can = s.can ∧ (countSample c ma s).mbx = s.mbx ∧ (countSample c ma s).win = s.win
     ∧ (countSample c ma s).port = s.port ∧ (countSample c ma s).cache = s.cache ∧ (countSample c ma s).adm = s.adm
     ∧ (countSample c ma s).pack = s.pack ∧ (countSample c ma s).bank = s.bank ∧ (countSample c ma s).hold = s.hold
     ∧ (countSample c ma s).rails = s.rails ∧ (countSample c ma s).keep = s.keep ∧ (countSample c ma s).tremor = s.tremor
     ∧ (countSample c ma s).outage = s.outage ∧ (countSample c ma s).flash = s.flash
     ∧ (countSample c ma s).video = s.video ∧ (countSample c ma s).ev = s.ev ∧ (countSample c ma s).out = s.out
     ∧ (countSample c ma s).pending = s.pending := by
  unfold countSample
  (repeat' split) <;> simp

@[simp] theorem estSample_frame (c : Channel) (mv : Nat) (ma dt : Int) (s : State) :
    (estSample c mv ma dt s).time = s.time ∧ (estSample c mv ma dt s).isl = s.isl ∧ (estSample c mv ma dt s).life = s.life
     ∧ (estSample c mv ma dt s).mode = s.mode ∧ (estSample c mv ma dt s).nor = s.nor
     ∧ (estSample c mv ma dt s).dict = s.dict ∧ (estSample c mv ma dt s).can = s.can
     ∧ (estSample c mv ma dt s).mbx = s.mbx ∧ (estSample c mv ma dt s).win = s.win
     ∧ (estSample c mv ma dt s).port = s.port ∧ (estSample c mv ma dt s).cache = s.cache
     ∧ (estSample c mv ma dt s).adm = s.adm ∧ (estSample c mv ma dt s).pack = s.pack
     ∧ (estSample c mv ma dt s).bank = s.bank ∧ (estSample c mv ma dt s).hold = s.hold
     ∧ (estSample c mv ma dt s).rails = s.rails ∧ (estSample c mv ma dt s).keep = s.keep
     ∧ (estSample c mv ma dt s).tremor = s.tremor ∧ (estSample c mv ma dt s).outage = s.outage
     ∧ (estSample c mv ma dt s).flash = s.flash ∧ (estSample c mv ma dt s).video = s.video
     ∧ (estSample c mv ma dt s).ev = s.ev ∧ (estSample c mv ma dt s).out = s.out
     ∧ (estSample c mv ma dt s).pending = s.pending := by
  unfold estSample
  (repeat' split) <;> simp

theorem calibrate_frame (c : Channel) (soc u : Rat) (s : State) :
    (calibrate c soc u s).time = s.time ∧ (calibrate c soc u s).isl = s.isl ∧ (calibrate c soc u s).life = s.life
     ∧ (calibrate c soc u s).mode = s.mode ∧ (calibrate c soc u s).nor = s.nor ∧ (calibrate c soc u s).dict = s.dict
     ∧ (calibrate c soc u s).can = s.can ∧ (calibrate c soc u s).mbx = s.mbx ∧ (calibrate c soc u s).win = s.win
     ∧ (calibrate c soc u s).port = s.port ∧ (calibrate c soc u s).cache = s.cache ∧ (calibrate c soc u s).adm = s.adm
     ∧ (calibrate c soc u s).pack = s.pack ∧ (calibrate c soc u s).bank = s.bank ∧ (calibrate c soc u s).hold = s.hold
     ∧ (calibrate c soc u s).rails = s.rails ∧ (calibrate c soc u s).keep = s.keep
     ∧ (calibrate c soc u s).tremor = s.tremor ∧ (calibrate c soc u s).outage = s.outage
     ∧ (calibrate c soc u s).flash = s.flash ∧ (calibrate c soc u s).video = s.video ∧ (calibrate c soc u s).ev = s.ev
     ∧ (calibrate c soc u s).out = s.out ∧ (calibrate c soc u s).pending = s.pending := by
  unfold calibrate
  (repeat' split) <;> simp

theorem startLearn_frame (c : Channel) (s : State) :
    (startLearn c s).time = s.time ∧ (startLearn c s).isl = s.isl ∧ (startLearn c s).life = s.life
     ∧ (startLearn c s).mode = s.mode ∧ (startLearn c s).nor = s.nor ∧ (startLearn c s).dict = s.dict
     ∧ (startLearn c s).can = s.can ∧ (startLearn c s).mbx = s.mbx ∧ (startLearn c s).win = s.win
     ∧ (startLearn c s).port = s.port ∧ (startLearn c s).cache = s.cache ∧ (startLearn c s).adm = s.adm
     ∧ (startLearn c s).pack = s.pack ∧ (startLearn c s).bank = s.bank ∧ (startLearn c s).hold = s.hold
     ∧ (startLearn c s).rails = s.rails ∧ (startLearn c s).keep = s.keep ∧ (startLearn c s).tremor = s.tremor
     ∧ (startLearn c s).outage = s.outage ∧ (startLearn c s).flash = s.flash ∧ (startLearn c s).video = s.video
     ∧ (startLearn c s).ev = s.ev ∧ (startLearn c s).out = s.out ∧ (startLearn c s).pending = s.pending := by
  unfold startLearn
  (repeat' split) <;> simp

@[simp] theorem discardLearn_frame (c : Channel) (why : Cause) (s : State) :
    (discardLearn c why s).time = s.time ∧ (discardLearn c why s).isl = s.isl ∧ (discardLearn c why s).life = s.life
     ∧ (discardLearn c why s).mode = s.mode ∧ (discardLearn c why s).nor = s.nor ∧ (discardLearn c why s).dict = s.dict
     ∧ (discardLearn c why s).mbx = s.mbx ∧ (discardLearn c why s).win = s.win ∧ (discardLearn c why s).port = s.port
     ∧ (discardLearn c why s).cache = s.cache ∧ (discardLearn c why s).adm = s.adm ∧ (discardLearn c why s).pack = s.pack
     ∧ (discardLearn c why s).bank = s.bank ∧ (discardLearn c why s).hold = s.hold
     ∧ (discardLearn c why s).rails = s.rails ∧ (discardLearn c why s).keep = s.keep
     ∧ (discardLearn c why s).tremor = s.tremor ∧ (discardLearn c why s).outage = s.outage
     ∧ (discardLearn c why s).flash = s.flash ∧ (discardLearn c why s).video = s.video
     ∧ (discardLearn c why s).pending = s.pending := by
  unfold discardLearn
  (repeat' split) <;> simp

@[simp] theorem enterMismatch_frame (c : Channel) (s : State) :
    (enterMismatch c s).time = s.time ∧ (enterMismatch c s).isl = s.isl ∧ (enterMismatch c s).life = s.life
     ∧ (enterMismatch c s).mode = s.mode ∧ (enterMismatch c s).nor = s.nor ∧ (enterMismatch c s).dict = s.dict
     ∧ (enterMismatch c s).mbx = s.mbx ∧ (enterMismatch c s).win = s.win ∧ (enterMismatch c s).port = s.port
     ∧ (enterMismatch c s).cache = s.cache ∧ (enterMismatch c s).adm = s.adm ∧ (enterMismatch c s).pack = s.pack
     ∧ (enterMismatch c s).bank = s.bank ∧ (enterMismatch c s).hold = s.hold ∧ (enterMismatch c s).rails = s.rails
     ∧ (enterMismatch c s).keep = s.keep ∧ (enterMismatch c s).tremor = s.tremor ∧ (enterMismatch c s).outage = s.outage
     ∧ (enterMismatch c s).flash = s.flash ∧ (enterMismatch c s).video = s.video ∧ (enterMismatch c s).pending = s.pending := by
  unfold enterMismatch
  (repeat' split) <;> simp

@[simp] theorem healthRefresh_frame (c : Channel) (s : State) :
    (healthRefresh c s).time = s.time ∧ (healthRefresh c s).isl = s.isl ∧ (healthRefresh c s).life = s.life
     ∧ (healthRefresh c s).mode = s.mode ∧ (healthRefresh c s).nor = s.nor ∧ (healthRefresh c s).dict = s.dict
     ∧ (healthRefresh c s).mbx = s.mbx ∧ (healthRefresh c s).win = s.win ∧ (healthRefresh c s).port = s.port
     ∧ (healthRefresh c s).cache = s.cache ∧ (healthRefresh c s).adm = s.adm ∧ (healthRefresh c s).pack = s.pack
     ∧ (healthRefresh c s).bank = s.bank ∧ (healthRefresh c s).hold = s.hold ∧ (healthRefresh c s).rails = s.rails
     ∧ (healthRefresh c s).keep = s.keep ∧ (healthRefresh c s).tremor = s.tremor ∧ (healthRefresh c s).outage = s.outage
     ∧ (healthRefresh c s).flash = s.flash ∧ (healthRefresh c s).video = s.video ∧ (healthRefresh c s).pending = s.pending := by
  unfold healthRefresh
  (repeat' split) <;> simp

@[simp] theorem acceptLearn_frame (c : Channel) (v : Nat) (s : State) :
    (acceptLearn c v s).time = s.time ∧ (acceptLearn c v s).isl = s.isl ∧ (acceptLearn c v s).life = s.life
     ∧ (acceptLearn c v s).mode = s.mode ∧ (acceptLearn c v s).nor = s.nor ∧ (acceptLearn c v s).dict = s.dict
     ∧ (acceptLearn c v s).mbx = s.mbx ∧ (acceptLearn c v s).win = s.win ∧ (acceptLearn c v s).port = s.port
     ∧ (acceptLearn c v s).cache = s.cache ∧ (acceptLearn c v s).adm = s.adm ∧ (acceptLearn c v s).pack = s.pack
     ∧ (acceptLearn c v s).bank = s.bank ∧ (acceptLearn c v s).hold = s.hold ∧ (acceptLearn c v s).rails = s.rails
     ∧ (acceptLearn c v s).tremor = s.tremor ∧ (acceptLearn c v s).outage = s.outage ∧ (acceptLearn c v s).flash = s.flash
     ∧ (acceptLearn c v s).video = s.video ∧ (acceptLearn c v s).pending = s.pending := by
  unfold acceptLearn
  (repeat' split) <;> simp

@[simp] theorem quarantineLearn_frame (c : Channel) (v : Nat) (s : State) :
    (quarantineLearn c v s).time = s.time ∧ (quarantineLearn c v s).isl = s.isl ∧ (quarantineLearn c v s).life = s.life
     ∧ (quarantineLearn c v s).mode = s.mode ∧ (quarantineLearn c v s).nor = s.nor ∧ (quarantineLearn c v s).dict = s.dict
     ∧ (quarantineLearn c v s).mbx = s.mbx ∧ (quarantineLearn c v s).win = s.win ∧ (quarantineLearn c v s).port = s.port
     ∧ (quarantineLearn c v s).cache = s.cache ∧ (quarantineLearn c v s).adm = s.adm
     ∧ (quarantineLearn c v s).pack = s.pack ∧ (quarantineLearn c v s).bank = s.bank
     ∧ (quarantineLearn c v s).hold = s.hold ∧ (quarantineLearn c v s).rails = s.rails
     ∧ (quarantineLearn c v s).tremor = s.tremor ∧ (quarantineLearn c v s).outage = s.outage
     ∧ (quarantineLearn c v s).flash = s.flash ∧ (quarantineLearn c v s).video = s.video
     ∧ (quarantineLearn c v s).pending = s.pending := by
  unfold quarantineLearn
  (repeat' split) <;> simp

@[simp] theorem checkLearn_frame (c : Channel) (s : State) :
    (checkLearn c s).time = s.time ∧ (checkLearn c s).isl = s.isl ∧ (checkLearn c s).life = s.life
     ∧ (checkLearn c s).mode = s.mode ∧ (checkLearn c s).nor = s.nor ∧ (checkLearn c s).dict = s.dict
     ∧ (checkLearn c s).mbx = s.mbx ∧ (checkLearn c s).win = s.win ∧ (checkLearn c s).port = s.port
     ∧ (checkLearn c s).cache = s.cache ∧ (checkLearn c s).adm = s.adm ∧ (checkLearn c s).pack = s.pack
     ∧ (checkLearn c s).bank = s.bank ∧ (checkLearn c s).hold = s.hold ∧ (checkLearn c s).rails = s.rails
     ∧ (checkLearn c s).keep = s.keep ∧ (checkLearn c s).tremor = s.tremor ∧ (checkLearn c s).outage = s.outage
     ∧ (checkLearn c s).flash = s.flash ∧ (checkLearn c s).video = s.video ∧ (checkLearn c s).pending = s.pending := by
  unfold checkLearn
  (repeat' split) <;> simp

theorem finishLearn_frame (c : Channel) (s : State) :
    (finishLearn c s).time = s.time ∧ (finishLearn c s).isl = s.isl ∧ (finishLearn c s).life = s.life
     ∧ (finishLearn c s).mode = s.mode ∧ (finishLearn c s).nor = s.nor ∧ (finishLearn c s).dict = s.dict
     ∧ (finishLearn c s).mbx = s.mbx ∧ (finishLearn c s).win = s.win ∧ (finishLearn c s).port = s.port
     ∧ (finishLearn c s).cache = s.cache ∧ (finishLearn c s).adm = s.adm ∧ (finishLearn c s).pack = s.pack
     ∧ (finishLearn c s).bank = s.bank ∧ (finishLearn c s).hold = s.hold ∧ (finishLearn c s).rails = s.rails
     ∧ (finishLearn c s).tremor = s.tremor ∧ (finishLearn c s).outage = s.outage ∧ (finishLearn c s).flash = s.flash
     ∧ (finishLearn c s).video = s.video ∧ (finishLearn c s).pending = s.pending := by
  unfold finishLearn
  (repeat' split) <;> simp

@[simp] theorem geyserBegin_frame (c : Channel) (s : State) :
    (geyserBegin c s).time = s.time ∧ (geyserBegin c s).isl = s.isl ∧ (geyserBegin c s).life = s.life
     ∧ (geyserBegin c s).mode = s.mode ∧ (geyserBegin c s).nor = s.nor ∧ (geyserBegin c s).dict = s.dict
     ∧ (geyserBegin c s).mbx = s.mbx ∧ (geyserBegin c s).win = s.win ∧ (geyserBegin c s).port = s.port
     ∧ (geyserBegin c s).cache = s.cache ∧ (geyserBegin c s).adm = s.adm ∧ (geyserBegin c s).keep = s.keep
     ∧ (geyserBegin c s).tremor = s.tremor ∧ (geyserBegin c s).outage = s.outage ∧ (geyserBegin c s).flash = s.flash
     ∧ (geyserBegin c s).video = s.video ∧ (geyserBegin c s).pending = s.pending := by
  unfold geyserBegin
  (repeat' split) <;> simp

@[simp] theorem geyserAbort_frame (c : Channel) (s : State) :
    (geyserAbort c s).time = s.time ∧ (geyserAbort c s).isl = s.isl ∧ (geyserAbort c s).life = s.life
     ∧ (geyserAbort c s).mode = s.mode ∧ (geyserAbort c s).nor = s.nor ∧ (geyserAbort c s).dict = s.dict
     ∧ (geyserAbort c s).mbx = s.mbx ∧ (geyserAbort c s).win = s.win ∧ (geyserAbort c s).port = s.port
     ∧ (geyserAbort c s).cache = s.cache ∧ (geyserAbort c s).pack = s.pack ∧ (geyserAbort c s).bank = s.bank
     ∧ (geyserAbort c s).keep = s.keep ∧ (geyserAbort c s).tremor = s.tremor ∧ (geyserAbort c s).outage = s.outage
     ∧ (geyserAbort c s).flash = s.flash ∧ (geyserAbort c s).video = s.video ∧ (geyserAbort c s).pending = s.pending := by
  unfold geyserAbort
  (repeat' split) <;> simp

@[simp] theorem geyserAbortAll_frame (s : State) :
    (geyserAbortAll s).time = s.time ∧ (geyserAbortAll s).isl = s.isl ∧ (geyserAbortAll s).life = s.life
     ∧ (geyserAbortAll s).mode = s.mode ∧ (geyserAbortAll s).nor = s.nor ∧ (geyserAbortAll s).dict = s.dict
     ∧ (geyserAbortAll s).mbx = s.mbx ∧ (geyserAbortAll s).win = s.win ∧ (geyserAbortAll s).port = s.port
     ∧ (geyserAbortAll s).cache = s.cache ∧ (geyserAbortAll s).pack = s.pack ∧ (geyserAbortAll s).bank = s.bank
     ∧ (geyserAbortAll s).keep = s.keep ∧ (geyserAbortAll s).tremor = s.tremor ∧ (geyserAbortAll s).outage = s.outage
     ∧ (geyserAbortAll s).flash = s.flash ∧ (geyserAbortAll s).video = s.video
     ∧ (geyserAbortAll s).pending = s.pending := by
  unfold geyserAbortAll
  (repeat' split) <;> simp

@[simp] theorem resetChannel_frame (c : Channel) (s : State) :
    (resetChannel c s).time = s.time ∧ (resetChannel c s).isl = s.isl ∧ (resetChannel c s).life = s.life
     ∧ (resetChannel c s).mode = s.mode ∧ (resetChannel c s).nor = s.nor ∧ (resetChannel c s).dict = s.dict
     ∧ (resetChannel c s).mbx = s.mbx ∧ (resetChannel c s).win = s.win ∧ (resetChannel c s).port = s.port
     ∧ (resetChannel c s).cache = s.cache ∧ (resetChannel c s).adm = s.adm ∧ (resetChannel c s).pack = s.pack
     ∧ (resetChannel c s).bank = s.bank ∧ (resetChannel c s).hold = s.hold ∧ (resetChannel c s).rails = s.rails
     ∧ (resetChannel c s).keep = s.keep ∧ (resetChannel c s).tremor = s.tremor ∧ (resetChannel c s).outage = s.outage
     ∧ (resetChannel c s).flash = s.flash ∧ (resetChannel c s).video = s.video ∧ (resetChannel c s).pending = s.pending := by
  unfold resetChannel
  (repeat' split) <;> simp

@[simp] theorem startPack_frame (snap : Snap) (days : Rat) (widen : Bool) (s : State) :
    (startPack snap days widen s).time = s.time ∧ (startPack snap days widen s).isl = s.isl
     ∧ (startPack snap days widen s).life = s.life ∧ (startPack snap days widen s).mode = s.mode
     ∧ (startPack snap days widen s).nor = s.nor ∧ (startPack snap days widen s).dict = s.dict
     ∧ (startPack snap days widen s).can = s.can ∧ (startPack snap days widen s).mbx = s.mbx
     ∧ (startPack snap days widen s).win = s.win ∧ (startPack snap days widen s).port = s.port
     ∧ (startPack snap days widen s).cache = s.cache ∧ (startPack snap days widen s).adm = s.adm
     ∧ (startPack snap days widen s).pack = s.pack ∧ (startPack snap days widen s).bank = s.bank
     ∧ (startPack snap days widen s).hold = s.hold ∧ (startPack snap days widen s).rails = s.rails
     ∧ (startPack snap days widen s).keep = s.keep ∧ (startPack snap days widen s).tremor = s.tremor
     ∧ (startPack snap days widen s).outage = s.outage ∧ (startPack snap days widen s).flash = s.flash
     ∧ (startPack snap days widen s).video = s.video ∧ (startPack snap days widen s).ev = s.ev
     ∧ (startPack snap days widen s).out = s.out ∧ (startPack snap days widen s).pending = s.pending := by
  unfold startPack
  (repeat' split) <;> simp

@[simp] theorem reconcile_frame (s : State) :
    (reconcile s).time = s.time ∧ (reconcile s).isl = s.isl ∧ (reconcile s).life = s.life ∧ (reconcile s).mode = s.mode
     ∧ (reconcile s).nor = s.nor ∧ (reconcile s).dict = s.dict ∧ (reconcile s).can = s.can ∧ (reconcile s).mbx = s.mbx
     ∧ (reconcile s).win = s.win ∧ (reconcile s).port = s.port ∧ (reconcile s).cache = s.cache ∧ (reconcile s).adm = s.adm
     ∧ (reconcile s).pack = s.pack ∧ (reconcile s).bank = s.bank ∧ (reconcile s).hold = s.hold
     ∧ (reconcile s).rails = s.rails ∧ (reconcile s).keep = s.keep ∧ (reconcile s).tremor = s.tremor
     ∧ (reconcile s).outage = s.outage ∧ (reconcile s).flash = s.flash ∧ (reconcile s).video = s.video
     ∧ (reconcile s).ev = s.ev ∧ (reconcile s).out = s.out ∧ (reconcile s).pending = s.pending := by
  unfold reconcile
  (repeat' split) <;> simp

end Sys2Proof.Machine
end

