-- ==== Sys2Proof/Laws/FrameCacheOps.lean ====
section
/-! SUPPORT. Frames of Machine/CacheOps.lean: what each operation leaves unchanged. -/

namespace Sys2Proof.Machine

@[simp] theorem stopBorrowing_frame (s : State) :
    (stopBorrowing s).time = s.time ∧ (stopBorrowing s).isl = s.isl ∧ (stopBorrowing s).life = s.life
     ∧ (stopBorrowing s).mode = s.mode ∧ (stopBorrowing s).nor = s.nor ∧ (stopBorrowing s).dict = s.dict
     ∧ (stopBorrowing s).mbx = s.mbx ∧ (stopBorrowing s).win = s.win ∧ (stopBorrowing s).port = s.port
     ∧ (stopBorrowing s).cache = s.cache ∧ (stopBorrowing s).pack = s.pack ∧ (stopBorrowing s).bank = s.bank
     ∧ (stopBorrowing s).packEst = s.packEst ∧ (stopBorrowing s).bankEst = s.bankEst ∧ (stopBorrowing s).hold = s.hold
     ∧ (stopBorrowing s).rails = s.rails ∧ (stopBorrowing s).keep = s.keep ∧ (stopBorrowing s).tremor = s.tremor
     ∧ (stopBorrowing s).outage = s.outage ∧ (stopBorrowing s).flash = s.flash ∧ (stopBorrowing s).video = s.video
     ∧ (stopBorrowing s).pending = s.pending := by
  unfold stopBorrowing
  (repeat' split) <;> simp

@[simp] theorem modeChanged_frame (dim old new : Nat) (s : State) :
    (modeChanged dim old new s).time = s.time ∧ (modeChanged dim old new s).isl = s.isl
     ∧ (modeChanged dim old new s).life = s.life ∧ (modeChanged dim old new s).mode = s.mode
     ∧ (modeChanged dim old new s).nor = s.nor ∧ (modeChanged dim old new s).dict = s.dict
     ∧ (modeChanged dim old new s).mbx = s.mbx ∧ (modeChanged dim old new s).win = s.win
     ∧ (modeChanged dim old new s).port = s.port ∧ (modeChanged dim old new s).cache = s.cache
     ∧ (modeChanged dim old new s).adm = s.adm ∧ (modeChanged dim old new s).pack = s.pack
     ∧ (modeChanged dim old new s).bank = s.bank ∧ (modeChanged dim old new s).packEst = s.packEst
     ∧ (modeChanged dim old new s).bankEst = s.bankEst ∧ (modeChanged dim old new s).hold = s.hold
     ∧ (modeChanged dim old new s).rails = s.rails ∧ (modeChanged dim old new s).keep = s.keep
     ∧ (modeChanged dim old new s).tremor = s.tremor ∧ (modeChanged dim old new s).outage = s.outage
     ∧ (modeChanged dim old new s).flash = s.flash ∧ (modeChanged dim old new s).video = s.video
     ∧ (modeChanged dim old new s).pending = s.pending := by
  unfold modeChanged
  (repeat' split) <;> simp

@[simp] theorem modeFallback_frame (a b : Nat) (s : State) :
    (modeFallback a b s).time = s.time ∧ (modeFallback a b s).isl = s.isl ∧ (modeFallback a b s).life = s.life
     ∧ (modeFallback a b s).mode = s.mode ∧ (modeFallback a b s).nor = s.nor ∧ (modeFallback a b s).dict = s.dict
     ∧ (modeFallback a b s).mbx = s.mbx ∧ (modeFallback a b s).win = s.win ∧ (modeFallback a b s).port = s.port
     ∧ (modeFallback a b s).cache = s.cache ∧ (modeFallback a b s).adm = s.adm ∧ (modeFallback a b s).pack = s.pack
     ∧ (modeFallback a b s).bank = s.bank ∧ (modeFallback a b s).packEst = s.packEst
     ∧ (modeFallback a b s).bankEst = s.bankEst ∧ (modeFallback a b s).hold = s.hold
     ∧ (modeFallback a b s).rails = s.rails ∧ (modeFallback a b s).keep = s.keep ∧ (modeFallback a b s).tremor = s.tremor
     ∧ (modeFallback a b s).outage = s.outage ∧ (modeFallback a b s).flash = s.flash
     ∧ (modeFallback a b s).video = s.video ∧ (modeFallback a b s).pending = s.pending := by
  unfold modeFallback
  (repeat' split) <;> simp

@[simp] theorem outageEffRefresh_frame (s : State) :
    (outageEffRefresh s).time = s.time ∧ (outageEffRefresh s).isl = s.isl ∧ (outageEffRefresh s).life = s.life
     ∧ (outageEffRefresh s).nor = s.nor ∧ (outageEffRefresh s).dict = s.dict ∧ (outageEffRefresh s).mbx = s.mbx
     ∧ (outageEffRefresh s).win = s.win ∧ (outageEffRefresh s).port = s.port ∧ (outageEffRefresh s).cache = s.cache
     ∧ (outageEffRefresh s).adm = s.adm ∧ (outageEffRefresh s).pack = s.pack ∧ (outageEffRefresh s).bank = s.bank
     ∧ (outageEffRefresh s).packEst = s.packEst ∧ (outageEffRefresh s).bankEst = s.bankEst
     ∧ (outageEffRefresh s).hold = s.hold ∧ (outageEffRefresh s).rails = s.rails ∧ (outageEffRefresh s).keep = s.keep
     ∧ (outageEffRefresh s).tremor = s.tremor ∧ (outageEffRefresh s).outage = s.outage
     ∧ (outageEffRefresh s).flash = s.flash ∧ (outageEffRefresh s).video = s.video
     ∧ (outageEffRefresh s).pending = s.pending := by
  unfold outageEffRefresh
  (repeat' split) <;> simp

@[simp] theorem policyRefresh_frame (s : State) :
    (policyRefresh s).time = s.time ∧ (policyRefresh s).isl = s.isl ∧ (policyRefresh s).life = s.life
     ∧ (policyRefresh s).nor = s.nor ∧ (policyRefresh s).dict = s.dict ∧ (policyRefresh s).mbx = s.mbx
     ∧ (policyRefresh s).win = s.win ∧ (policyRefresh s).port = s.port ∧ (policyRefresh s).cache = s.cache
     ∧ (policyRefresh s).adm = s.adm ∧ (policyRefresh s).pack = s.pack ∧ (policyRefresh s).bank = s.bank
     ∧ (policyRefresh s).packEst = s.packEst ∧ (policyRefresh s).bankEst = s.bankEst ∧ (policyRefresh s).hold = s.hold
     ∧ (policyRefresh s).rails = s.rails ∧ (policyRefresh s).keep = s.keep ∧ (policyRefresh s).tremor = s.tremor
     ∧ (policyRefresh s).outage = s.outage ∧ (policyRefresh s).flash = s.flash ∧ (policyRefresh s).video = s.video
     ∧ (policyRefresh s).pending = s.pending := by
  unfold policyRefresh
  (repeat' split) <;> simp

theorem followConfig_frame (before s : State) :
    (followConfig before s).time = s.time ∧ (followConfig before s).isl = s.isl ∧ (followConfig before s).life = s.life
     ∧ (followConfig before s).nor = s.nor ∧ (followConfig before s).dict = s.dict ∧ (followConfig before s).can = s.can
     ∧ (followConfig before s).mbx = s.mbx ∧ (followConfig before s).win = s.win ∧ (followConfig before s).port = s.port
     ∧ (followConfig before s).cache = s.cache ∧ (followConfig before s).adm = s.adm
     ∧ (followConfig before s).pack = s.pack ∧ (followConfig before s).bank = s.bank
     ∧ (followConfig before s).packEst = s.packEst ∧ (followConfig before s).bankEst = s.bankEst
     ∧ (followConfig before s).hold = s.hold ∧ (followConfig before s).rails = s.rails
     ∧ (followConfig before s).keep = s.keep ∧ (followConfig before s).tremor = s.tremor
     ∧ (followConfig before s).outage = s.outage ∧ (followConfig before s).flash = s.flash
     ∧ (followConfig before s).video = s.video ∧ (followConfig before s).ev = s.ev ∧ (followConfig before s).out = s.out
     ∧ (followConfig before s).pending = s.pending := by
  unfold followConfig
  (repeat' split) <;> simp

@[simp] theorem activityRefresh_frame (s : State) :
    (activityRefresh s).time = s.time ∧ (activityRefresh s).isl = s.isl ∧ (activityRefresh s).life = s.life
     ∧ (activityRefresh s).nor = s.nor ∧ (activityRefresh s).dict = s.dict ∧ (activityRefresh s).mbx = s.mbx
     ∧ (activityRefresh s).win = s.win ∧ (activityRefresh s).port = s.port ∧ (activityRefresh s).cache = s.cache
     ∧ (activityRefresh s).adm = s.adm ∧ (activityRefresh s).pack = s.pack ∧ (activityRefresh s).bank = s.bank
     ∧ (activityRefresh s).packEst = s.packEst ∧ (activityRefresh s).bankEst = s.bankEst
     ∧ (activityRefresh s).hold = s.hold ∧ (activityRefresh s).rails = s.rails ∧ (activityRefresh s).keep = s.keep
     ∧ (activityRefresh s).tremor = s.tremor ∧ (activityRefresh s).outage = s.outage
     ∧ (activityRefresh s).flash = s.flash ∧ (activityRefresh s).video = s.video
     ∧ (activityRefresh s).pending = s.pending := by
  unfold activityRefresh
  (repeat' split) <;> simp

@[simp] theorem fitRefresh_frame (s : State) :
    (fitRefresh s).time = s.time ∧ (fitRefresh s).isl = s.isl ∧ (fitRefresh s).life = s.life
     ∧ (fitRefresh s).nor = s.nor ∧ (fitRefresh s).dict = s.dict ∧ (fitRefresh s).mbx = s.mbx
     ∧ (fitRefresh s).win = s.win ∧ (fitRefresh s).port = s.port ∧ (fitRefresh s).cache = s.cache
     ∧ (fitRefresh s).adm = s.adm ∧ (fitRefresh s).pack = s.pack ∧ (fitRefresh s).bank = s.bank
     ∧ (fitRefresh s).packEst = s.packEst ∧ (fitRefresh s).bankEst = s.bankEst ∧ (fitRefresh s).hold = s.hold
     ∧ (fitRefresh s).rails = s.rails ∧ (fitRefresh s).keep = s.keep ∧ (fitRefresh s).tremor = s.tremor
     ∧ (fitRefresh s).outage = s.outage ∧ (fitRefresh s).flash = s.flash ∧ (fitRefresh s).video = s.video
     ∧ (fitRefresh s).pending = s.pending := by
  unfold fitRefresh
  (repeat' split) <;> simp

@[simp] theorem modesRefresh_frame (s : State) :
    (modesRefresh s).time = s.time ∧ (modesRefresh s).isl = s.isl ∧ (modesRefresh s).life = s.life
     ∧ (modesRefresh s).nor = s.nor ∧ (modesRefresh s).dict = s.dict ∧ (modesRefresh s).mbx = s.mbx
     ∧ (modesRefresh s).win = s.win ∧ (modesRefresh s).port = s.port ∧ (modesRefresh s).cache = s.cache
     ∧ (modesRefresh s).adm = s.adm ∧ (modesRefresh s).pack = s.pack ∧ (modesRefresh s).bank = s.bank
     ∧ (modesRefresh s).packEst = s.packEst ∧ (modesRefresh s).bankEst = s.bankEst ∧ (modesRefresh s).rails = s.rails
     ∧ (modesRefresh s).keep = s.keep ∧ (modesRefresh s).tremor = s.tremor ∧ (modesRefresh s).outage = s.outage
     ∧ (modesRefresh s).flash = s.flash ∧ (modesRefresh s).video = s.video ∧ (modesRefresh s).pending = s.pending := by
  unfold modesRefresh
  (repeat' split) <;> simp

@[simp] theorem setForced_frame (b : Bool) (n : Fin 16) (s : State) :
    (setForced b n s).time = s.time ∧ (setForced b n s).isl = s.isl ∧ (setForced b n s).life = s.life
     ∧ (setForced b n s).mode = s.mode ∧ (setForced b n s).nor = s.nor ∧ (setForced b n s).dict = s.dict
     ∧ (setForced b n s).can = s.can ∧ (setForced b n s).mbx = s.mbx ∧ (setForced b n s).win = s.win
     ∧ (setForced b n s).port = s.port ∧ (setForced b n s).adm = s.adm ∧ (setForced b n s).pack = s.pack
     ∧ (setForced b n s).bank = s.bank ∧ (setForced b n s).packEst = s.packEst ∧ (setForced b n s).bankEst = s.bankEst
     ∧ (setForced b n s).hold = s.hold ∧ (setForced b n s).rails = s.rails ∧ (setForced b n s).keep = s.keep
     ∧ (setForced b n s).tremor = s.tremor ∧ (setForced b n s).outage = s.outage ∧ (setForced b n s).flash = s.flash
     ∧ (setForced b n s).video = s.video ∧ (setForced b n s).ev = s.ev ∧ (setForced b n s).out = s.out
     ∧ (setForced b n s).pending = s.pending := by
  unfold setForced
  (repeat' split) <;> simp

@[simp] theorem forceCover_frame (overshoot : Nat) (l : List (Fin 16)) (s : State) (acc : List (Fin 16)) :
    (forceCover overshoot l s acc).1.time = s.time ∧ (forceCover overshoot l s acc).1.isl = s.isl
     ∧ (forceCover overshoot l s acc).1.life = s.life ∧ (forceCover overshoot l s acc).1.mode = s.mode
     ∧ (forceCover overshoot l s acc).1.nor = s.nor ∧ (forceCover overshoot l s acc).1.dict = s.dict
     ∧ (forceCover overshoot l s acc).1.can = s.can ∧ (forceCover overshoot l s acc).1.mbx = s.mbx
     ∧ (forceCover overshoot l s acc).1.win = s.win ∧ (forceCover overshoot l s acc).1.port = s.port
     ∧ (forceCover overshoot l s acc).1.adm = s.adm ∧ (forceCover overshoot l s acc).1.pack = s.pack
     ∧ (forceCover overshoot l s acc).1.bank = s.bank ∧ (forceCover overshoot l s acc).1.packEst = s.packEst
     ∧ (forceCover overshoot l s acc).1.bankEst = s.bankEst ∧ (forceCover overshoot l s acc).1.hold = s.hold
     ∧ (forceCover overshoot l s acc).1.rails = s.rails ∧ (forceCover overshoot l s acc).1.keep = s.keep
     ∧ (forceCover overshoot l s acc).1.tremor = s.tremor ∧ (forceCover overshoot l s acc).1.outage = s.outage
     ∧ (forceCover overshoot l s acc).1.flash = s.flash ∧ (forceCover overshoot l s acc).1.video = s.video
     ∧ (forceCover overshoot l s acc).1.ev = s.ev ∧ (forceCover overshoot l s acc).1.out = s.out
     ∧ (forceCover overshoot l s acc).1.pending = s.pending := by
  induction l generalizing s acc with
  | nil => simp [forceCover]
  | cons a r ih =>
    simp only [forceCover]
    (repeat' split) <;> simp [ih]

@[simp] theorem forceEvery_frame (l : List (Fin 16)) (s : State) (acc : List (Fin 16)) :
    (forceEvery l s acc).1.time = s.time ∧ (forceEvery l s acc).1.isl = s.isl ∧ (forceEvery l s acc).1.life = s.life
     ∧ (forceEvery l s acc).1.mode = s.mode ∧ (forceEvery l s acc).1.nor = s.nor ∧ (forceEvery l s acc).1.dict = s.dict
     ∧ (forceEvery l s acc).1.can = s.can ∧ (forceEvery l s acc).1.mbx = s.mbx ∧ (forceEvery l s acc).1.win = s.win
     ∧ (forceEvery l s acc).1.port = s.port ∧ (forceEvery l s acc).1.adm = s.adm ∧ (forceEvery l s acc).1.pack = s.pack
     ∧ (forceEvery l s acc).1.bank = s.bank ∧ (forceEvery l s acc).1.packEst = s.packEst
     ∧ (forceEvery l s acc).1.bankEst = s.bankEst ∧ (forceEvery l s acc).1.hold = s.hold
     ∧ (forceEvery l s acc).1.rails = s.rails ∧ (forceEvery l s acc).1.keep = s.keep
     ∧ (forceEvery l s acc).1.tremor = s.tremor ∧ (forceEvery l s acc).1.outage = s.outage
     ∧ (forceEvery l s acc).1.flash = s.flash ∧ (forceEvery l s acc).1.video = s.video ∧ (forceEvery l s acc).1.ev = s.ev
     ∧ (forceEvery l s acc).1.out = s.out ∧ (forceEvery l s acc).1.pending = s.pending := by
  induction l generalizing s acc with
  | nil => simp [forceEvery]
  | cons a r ih =>
    simp only [forceEvery]
    (repeat' split) <;> simp [ih]

@[simp] theorem resumeSome_frame (l : List (Fin 16)) (s : State) (acc : List (Fin 16)) :
    (resumeSome l s acc).1.time = s.time ∧ (resumeSome l s acc).1.isl = s.isl ∧ (resumeSome l s acc).1.life = s.life
     ∧ (resumeSome l s acc).1.mode = s.mode ∧ (resumeSome l s acc).1.nor = s.nor ∧ (resumeSome l s acc).1.dict = s.dict
     ∧ (resumeSome l s acc).1.can = s.can ∧ (resumeSome l s acc).1.mbx = s.mbx ∧ (resumeSome l s acc).1.win = s.win
     ∧ (resumeSome l s acc).1.port = s.port ∧ (resumeSome l s acc).1.adm = s.adm ∧ (resumeSome l s acc).1.pack = s.pack
     ∧ (resumeSome l s acc).1.bank = s.bank ∧ (resumeSome l s acc).1.packEst = s.packEst
     ∧ (resumeSome l s acc).1.bankEst = s.bankEst ∧ (resumeSome l s acc).1.hold = s.hold
     ∧ (resumeSome l s acc).1.rails = s.rails ∧ (resumeSome l s acc).1.keep = s.keep
     ∧ (resumeSome l s acc).1.tremor = s.tremor ∧ (resumeSome l s acc).1.outage = s.outage
     ∧ (resumeSome l s acc).1.flash = s.flash ∧ (resumeSome l s acc).1.video = s.video ∧ (resumeSome l s acc).1.ev = s.ev
     ∧ (resumeSome l s acc).1.out = s.out ∧ (resumeSome l s acc).1.pending = s.pending := by
  induction l generalizing s acc with
  | nil => simp [resumeSome]
  | cons a r ih =>
    simp only [resumeSome]
    (repeat' split) <;> simp [ih]

@[simp] theorem stageRefresh_frame (s : State) :
    (stageRefresh s).time = s.time ∧ (stageRefresh s).isl = s.isl ∧ (stageRefresh s).life = s.life
     ∧ (stageRefresh s).mode = s.mode ∧ (stageRefresh s).nor = s.nor ∧ (stageRefresh s).dict = s.dict
     ∧ (stageRefresh s).mbx = s.mbx ∧ (stageRefresh s).win = s.win ∧ (stageRefresh s).port = s.port
     ∧ (stageRefresh s).cache = s.cache ∧ (stageRefresh s).pack = s.pack ∧ (stageRefresh s).bank = s.bank
     ∧ (stageRefresh s).packEst = s.packEst ∧ (stageRefresh s).bankEst = s.bankEst ∧ (stageRefresh s).hold = s.hold
     ∧ (stageRefresh s).rails = s.rails ∧ (stageRefresh s).keep = s.keep ∧ (stageRefresh s).tremor = s.tremor
     ∧ (stageRefresh s).outage = s.outage ∧ (stageRefresh s).flash = s.flash ∧ (stageRefresh s).video = s.video
     ∧ (stageRefresh s).pending = s.pending := by
  unfold stageRefresh
  (repeat' split) <;> simp

@[simp] theorem geyserEnds_frame (s : State) :
    (geyserEnds s).time = s.time ∧ (geyserEnds s).isl = s.isl ∧ (geyserEnds s).life = s.life
     ∧ (geyserEnds s).nor = s.nor ∧ (geyserEnds s).dict = s.dict ∧ (geyserEnds s).mbx = s.mbx
     ∧ (geyserEnds s).win = s.win ∧ (geyserEnds s).port = s.port ∧ (geyserEnds s).cache = s.cache
     ∧ (geyserEnds s).pack = s.pack ∧ (geyserEnds s).bank = s.bank ∧ (geyserEnds s).packEst = s.packEst
     ∧ (geyserEnds s).bankEst = s.bankEst ∧ (geyserEnds s).rails = s.rails ∧ (geyserEnds s).keep = s.keep
     ∧ (geyserEnds s).tremor = s.tremor ∧ (geyserEnds s).outage = s.outage ∧ (geyserEnds s).flash = s.flash
     ∧ (geyserEnds s).video = s.video ∧ (geyserEnds s).pending = s.pending := by
  unfold geyserEnds
  (repeat' split) <;> simp

@[simp] theorem geyserStops_frame (s : State) :
    (geyserStops s).time = s.time ∧ (geyserStops s).isl = s.isl ∧ (geyserStops s).life = s.life
     ∧ (geyserStops s).nor = s.nor ∧ (geyserStops s).dict = s.dict ∧ (geyserStops s).mbx = s.mbx
     ∧ (geyserStops s).win = s.win ∧ (geyserStops s).port = s.port ∧ (geyserStops s).cache = s.cache
     ∧ (geyserStops s).pack = s.pack ∧ (geyserStops s).bank = s.bank ∧ (geyserStops s).keep = s.keep
     ∧ (geyserStops s).tremor = s.tremor ∧ (geyserStops s).outage = s.outage ∧ (geyserStops s).flash = s.flash
     ∧ (geyserStops s).video = s.video ∧ (geyserStops s).pending = s.pending := by
  unfold geyserStops
  (repeat' split) <;> simp

@[simp] theorem belowRefresh_frame (s : State) :
    (belowRefresh s).time = s.time ∧ (belowRefresh s).isl = s.isl ∧ (belowRefresh s).life = s.life
     ∧ (belowRefresh s).mode = s.mode ∧ (belowRefresh s).nor = s.nor ∧ (belowRefresh s).dict = s.dict
     ∧ (belowRefresh s).mbx = s.mbx ∧ (belowRefresh s).win = s.win ∧ (belowRefresh s).port = s.port
     ∧ (belowRefresh s).cache = s.cache ∧ (belowRefresh s).pack = s.pack ∧ (belowRefresh s).bank = s.bank
     ∧ (belowRefresh s).packEst = s.packEst ∧ (belowRefresh s).bankEst = s.bankEst ∧ (belowRefresh s).hold = s.hold
     ∧ (belowRefresh s).rails = s.rails ∧ (belowRefresh s).keep = s.keep ∧ (belowRefresh s).tremor = s.tremor
     ∧ (belowRefresh s).outage = s.outage ∧ (belowRefresh s).flash = s.flash ∧ (belowRefresh s).video = s.video
     ∧ (belowRefresh s).pending = s.pending := by
  unfold belowRefresh
  (repeat' split) <;> simp

@[simp] theorem setCeiling_frame (s : State) :
    (setCeiling s).time = s.time ∧ (setCeiling s).isl = s.isl ∧ (setCeiling s).life = s.life
     ∧ (setCeiling s).mode = s.mode ∧ (setCeiling s).nor = s.nor ∧ (setCeiling s).dict = s.dict
     ∧ (setCeiling s).mbx = s.mbx ∧ (setCeiling s).win = s.win ∧ (setCeiling s).port = s.port
     ∧ (setCeiling s).pack = s.pack ∧ (setCeiling s).bank = s.bank ∧ (setCeiling s).packEst = s.packEst
     ∧ (setCeiling s).bankEst = s.bankEst ∧ (setCeiling s).rails = s.rails ∧ (setCeiling s).keep = s.keep
     ∧ (setCeiling s).tremor = s.tremor ∧ (setCeiling s).outage = s.outage ∧ (setCeiling s).flash = s.flash
     ∧ (setCeiling s).video = s.video ∧ (setCeiling s).pending = s.pending := by
  unfold setCeiling
  (repeat' split) <;> simp

@[simp] theorem applyCeiling_frame (old : Nat) (s : State) :
    (applyCeiling old s).time = s.time ∧ (applyCeiling old s).isl = s.isl ∧ (applyCeiling old s).life = s.life
     ∧ (applyCeiling old s).nor = s.nor ∧ (applyCeiling old s).dict = s.dict ∧ (applyCeiling old s).mbx = s.mbx
     ∧ (applyCeiling old s).win = s.win ∧ (applyCeiling old s).port = s.port ∧ (applyCeiling old s).pack = s.pack
     ∧ (applyCeiling old s).bank = s.bank ∧ (applyCeiling old s).packEst = s.packEst
     ∧ (applyCeiling old s).bankEst = s.bankEst ∧ (applyCeiling old s).hold = s.hold
     ∧ (applyCeiling old s).rails = s.rails ∧ (applyCeiling old s).keep = s.keep ∧ (applyCeiling old s).tremor = s.tremor
     ∧ (applyCeiling old s).outage = s.outage ∧ (applyCeiling old s).flash = s.flash
     ∧ (applyCeiling old s).video = s.video ∧ (applyCeiling old s).pending = s.pending := by
  simp only [applyCeiling]
  repeat' split
  all_goals (try simp)
  all_goals (repeat' split)
  all_goals (try simp_all [ite_proj])

@[simp] theorem joinThawed_frame (s : State) :
    (joinThawed s).time = s.time ∧ (joinThawed s).isl = s.isl ∧ (joinThawed s).life = s.life
     ∧ (joinThawed s).mode = s.mode ∧ (joinThawed s).nor = s.nor ∧ (joinThawed s).dict = s.dict
     ∧ (joinThawed s).can = s.can ∧ (joinThawed s).mbx = s.mbx ∧ (joinThawed s).win = s.win
     ∧ (joinThawed s).port = s.port ∧ (joinThawed s).adm = s.adm ∧ (joinThawed s).pack = s.pack
     ∧ (joinThawed s).bank = s.bank ∧ (joinThawed s).packEst = s.packEst ∧ (joinThawed s).bankEst = s.bankEst
     ∧ (joinThawed s).hold = s.hold ∧ (joinThawed s).rails = s.rails ∧ (joinThawed s).keep = s.keep
     ∧ (joinThawed s).tremor = s.tremor ∧ (joinThawed s).outage = s.outage ∧ (joinThawed s).flash = s.flash
     ∧ (joinThawed s).video = s.video ∧ (joinThawed s).ev = s.ev ∧ (joinThawed s).out = s.out
     ∧ (joinThawed s).pending = s.pending := by
  unfold joinThawed
  (repeat' split) <;> simp

@[simp] theorem recompute_frame (s : State) :
    (recompute s).time = s.time ∧ (recompute s).isl = s.isl ∧ (recompute s).life = s.life ∧ (recompute s).nor = s.nor
     ∧ (recompute s).dict = s.dict ∧ (recompute s).mbx = s.mbx ∧ (recompute s).win = s.win ∧ (recompute s).port = s.port
     ∧ (recompute s).pack = s.pack ∧ (recompute s).bank = s.bank ∧ (recompute s).packEst = s.packEst
     ∧ (recompute s).bankEst = s.bankEst ∧ (recompute s).rails = s.rails ∧ (recompute s).keep = s.keep
     ∧ (recompute s).tremor = s.tremor ∧ (recompute s).outage = s.outage ∧ (recompute s).flash = s.flash
     ∧ (recompute s).video = s.video ∧ (recompute s).pending = s.pending := by
  simp only [recompute, ite_proj]
  (repeat' split) <;> simp_all

end Sys2Proof.Machine
end

