-- ==== Sys2Proof/Laws/FrameImageOps.lean ====
section
/-! SUPPORT. Frames of Machine/ImageOps.lean: what each operation leaves unchanged. -/

namespace Sys2Proof.Machine

@[simp] theorem flashDo_frame (d : Fin 16) (o : FlashOp) (s : State) :
    (flashDo d o s).time = s.time ∧ (flashDo d o s).isl = s.isl ∧ (flashDo d o s).life = s.life
     ∧ (flashDo d o s).mode = s.mode ∧ (flashDo d o s).nor = s.nor ∧ (flashDo d o s).dict = s.dict
     ∧ (flashDo d o s).can = s.can ∧ (flashDo d o s).mbx = s.mbx ∧ (flashDo d o s).win = s.win
     ∧ (flashDo d o s).port = s.port ∧ (flashDo d o s).cache = s.cache ∧ (flashDo d o s).adm = s.adm
     ∧ (flashDo d o s).pack = s.pack ∧ (flashDo d o s).bank = s.bank ∧ (flashDo d o s).packEst = s.packEst
     ∧ (flashDo d o s).bankEst = s.bankEst ∧ (flashDo d o s).hold = s.hold ∧ (flashDo d o s).rails = s.rails
     ∧ (flashDo d o s).keep = s.keep ∧ (flashDo d o s).tremor = s.tremor ∧ (flashDo d o s).outage = s.outage
     ∧ (flashDo d o s).flash = s.flash ∧ (flashDo d o s).video = s.video ∧ (flashDo d o s).ev = s.ev
     ∧ (flashDo d o s).pending = s.pending := by
  unfold flashDo
  (repeat' split) <;> simp

@[simp] theorem programPage_frame (d : Fin 16) (b : FlashBlock) (page : Nat) (data : PageData) (s : State) :
    (programPage d b page data s).time = s.time ∧ (programPage d b page data s).isl = s.isl
     ∧ (programPage d b page data s).life = s.life ∧ (programPage d b page data s).mode = s.mode
     ∧ (programPage d b page data s).nor = s.nor ∧ (programPage d b page data s).dict = s.dict
     ∧ (programPage d b page data s).can = s.can ∧ (programPage d b page data s).mbx = s.mbx
     ∧ (programPage d b page data s).win = s.win ∧ (programPage d b page data s).port = s.port
     ∧ (programPage d b page data s).cache = s.cache ∧ (programPage d b page data s).adm = s.adm
     ∧ (programPage d b page data s).pack = s.pack ∧ (programPage d b page data s).bank = s.bank
     ∧ (programPage d b page data s).packEst = s.packEst ∧ (programPage d b page data s).bankEst = s.bankEst
     ∧ (programPage d b page data s).hold = s.hold ∧ (programPage d b page data s).rails = s.rails
     ∧ (programPage d b page data s).keep = s.keep ∧ (programPage d b page data s).tremor = s.tremor
     ∧ (programPage d b page data s).outage = s.outage ∧ (programPage d b page data s).flash = s.flash
     ∧ (programPage d b page data s).video = s.video ∧ (programPage d b page data s).ev = s.ev
     ∧ (programPage d b page data s).pending = s.pending := by
  unfold programPage
  (repeat' split) <;> simp

@[simp] theorem eraseDie_frame (d : Fin 16) (b : FlashBlock) (s : State) :
    (eraseDie d b s).time = s.time ∧ (eraseDie d b s).isl = s.isl ∧ (eraseDie d b s).life = s.life
     ∧ (eraseDie d b s).mode = s.mode ∧ (eraseDie d b s).nor = s.nor ∧ (eraseDie d b s).dict = s.dict
     ∧ (eraseDie d b s).can = s.can ∧ (eraseDie d b s).mbx = s.mbx ∧ (eraseDie d b s).win = s.win
     ∧ (eraseDie d b s).port = s.port ∧ (eraseDie d b s).cache = s.cache ∧ (eraseDie d b s).adm = s.adm
     ∧ (eraseDie d b s).pack = s.pack ∧ (eraseDie d b s).bank = s.bank ∧ (eraseDie d b s).packEst = s.packEst
     ∧ (eraseDie d b s).bankEst = s.bankEst ∧ (eraseDie d b s).hold = s.hold ∧ (eraseDie d b s).rails = s.rails
     ∧ (eraseDie d b s).keep = s.keep ∧ (eraseDie d b s).tremor = s.tremor ∧ (eraseDie d b s).outage = s.outage
     ∧ (eraseDie d b s).flash = s.flash ∧ (eraseDie d b s).video = s.video ∧ (eraseDie d b s).ev = s.ev
     ∧ (eraseDie d b s).pending = s.pending := by
  unfold eraseDie
  (repeat' split) <;> simp

@[simp] theorem readWord_frame (p : Place) (s : State) :
    (readWord p s).time = s.time ∧ (readWord p s).isl = s.isl ∧ (readWord p s).life = s.life
     ∧ (readWord p s).mode = s.mode ∧ (readWord p s).nor = s.nor ∧ (readWord p s).dict = s.dict
     ∧ (readWord p s).can = s.can ∧ (readWord p s).mbx = s.mbx ∧ (readWord p s).win = s.win
     ∧ (readWord p s).port = s.port ∧ (readWord p s).cache = s.cache ∧ (readWord p s).adm = s.adm
     ∧ (readWord p s).pack = s.pack ∧ (readWord p s).bank = s.bank ∧ (readWord p s).packEst = s.packEst
     ∧ (readWord p s).bankEst = s.bankEst ∧ (readWord p s).hold = s.hold ∧ (readWord p s).rails = s.rails
     ∧ (readWord p s).keep = s.keep ∧ (readWord p s).tremor = s.tremor ∧ (readWord p s).outage = s.outage
     ∧ (readWord p s).flash = s.flash ∧ (readWord p s).video = s.video ∧ (readWord p s).ev = s.ev
     ∧ (readWord p s).pending = s.pending := by
  unfold readWord
  (repeat' split) <;> simp

@[simp] theorem readStripe_frame (e : Epoch) (index : Nat) (s : State) :
    (readStripe e index s).time = s.time ∧ (readStripe e index s).isl = s.isl ∧ (readStripe e index s).life = s.life
     ∧ (readStripe e index s).mode = s.mode ∧ (readStripe e index s).nor = s.nor
     ∧ (readStripe e index s).dict = s.dict ∧ (readStripe e index s).can = s.can ∧ (readStripe e index s).mbx = s.mbx
     ∧ (readStripe e index s).win = s.win ∧ (readStripe e index s).port = s.port
     ∧ (readStripe e index s).cache = s.cache ∧ (readStripe e index s).adm = s.adm
     ∧ (readStripe e index s).pack = s.pack ∧ (readStripe e index s).bank = s.bank
     ∧ (readStripe e index s).packEst = s.packEst ∧ (readStripe e index s).bankEst = s.bankEst
     ∧ (readStripe e index s).hold = s.hold ∧ (readStripe e index s).rails = s.rails
     ∧ (readStripe e index s).keep = s.keep ∧ (readStripe e index s).tremor = s.tremor
     ∧ (readStripe e index s).outage = s.outage ∧ (readStripe e index s).flash = s.flash
     ∧ (readStripe e index s).video = s.video ∧ (readStripe e index s).ev = s.ev
     ∧ (readStripe e index s).pending = s.pending := by
  unfold readStripe
  (repeat' split) <;> simp

@[simp] theorem programStripe_frame (e : Epoch) (t : Stripe) (word : Nat → Place → Codeword) (s : State) :
    (programStripe e t word s).time = s.time ∧ (programStripe e t word s).isl = s.isl
     ∧ (programStripe e t word s).life = s.life ∧ (programStripe e t word s).mode = s.mode
     ∧ (programStripe e t word s).nor = s.nor ∧ (programStripe e t word s).dict = s.dict
     ∧ (programStripe e t word s).can = s.can ∧ (programStripe e t word s).mbx = s.mbx
     ∧ (programStripe e t word s).win = s.win ∧ (programStripe e t word s).port = s.port
     ∧ (programStripe e t word s).cache = s.cache ∧ (programStripe e t word s).adm = s.adm
     ∧ (programStripe e t word s).pack = s.pack ∧ (programStripe e t word s).bank = s.bank
     ∧ (programStripe e t word s).packEst = s.packEst ∧ (programStripe e t word s).bankEst = s.bankEst
     ∧ (programStripe e t word s).hold = s.hold ∧ (programStripe e t word s).rails = s.rails
     ∧ (programStripe e t word s).keep = s.keep ∧ (programStripe e t word s).tremor = s.tremor
     ∧ (programStripe e t word s).outage = s.outage ∧ (programStripe e t word s).flash = s.flash
     ∧ (programStripe e t word s).video = s.video ∧ (programStripe e t word s).ev = s.ev
     ∧ (programStripe e t word s).pending = s.pending := by
  unfold programStripe
  (repeat' split) <;> simp

@[simp] theorem programData_frame (s : State) :
    (programData s).time = s.time ∧ (programData s).isl = s.isl ∧ (programData s).life = s.life
     ∧ (programData s).mode = s.mode ∧ (programData s).nor = s.nor ∧ (programData s).dict = s.dict
     ∧ (programData s).can = s.can ∧ (programData s).mbx = s.mbx ∧ (programData s).win = s.win
     ∧ (programData s).port = s.port ∧ (programData s).cache = s.cache ∧ (programData s).adm = s.adm
     ∧ (programData s).pack = s.pack ∧ (programData s).bank = s.bank ∧ (programData s).packEst = s.packEst
     ∧ (programData s).bankEst = s.bankEst ∧ (programData s).hold = s.hold ∧ (programData s).rails = s.rails
     ∧ (programData s).keep = s.keep ∧ (programData s).tremor = s.tremor ∧ (programData s).outage = s.outage
     ∧ (programData s).flash = s.flash ∧ (programData s).video = s.video ∧ (programData s).ev = s.ev
     ∧ (programData s).pending = s.pending := by
  unfold programData
  (repeat' split) <;> simp

@[simp] theorem writeTables_frame (s : State) :
    (writeTables s).time = s.time ∧ (writeTables s).isl = s.isl ∧ (writeTables s).life = s.life
     ∧ (writeTables s).mode = s.mode ∧ (writeTables s).nor = s.nor ∧ (writeTables s).dict = s.dict
     ∧ (writeTables s).can = s.can ∧ (writeTables s).mbx = s.mbx ∧ (writeTables s).win = s.win
     ∧ (writeTables s).port = s.port ∧ (writeTables s).cache = s.cache ∧ (writeTables s).adm = s.adm
     ∧ (writeTables s).pack = s.pack ∧ (writeTables s).bank = s.bank ∧ (writeTables s).packEst = s.packEst
     ∧ (writeTables s).bankEst = s.bankEst ∧ (writeTables s).hold = s.hold ∧ (writeTables s).rails = s.rails
     ∧ (writeTables s).keep = s.keep ∧ (writeTables s).tremor = s.tremor ∧ (writeTables s).outage = s.outage
     ∧ (writeTables s).flash = s.flash ∧ (writeTables s).video = s.video ∧ (writeTables s).ev = s.ev
     ∧ (writeTables s).pending = s.pending := by
  unfold writeTables
  (repeat' split) <;> simp

@[simp] theorem writeKeyCopy_frame (d : Fin 16) (b : FlashBlock) (s : State) :
    (writeKeyCopy d b s).time = s.time ∧ (writeKeyCopy d b s).isl = s.isl ∧ (writeKeyCopy d b s).life = s.life
     ∧ (writeKeyCopy d b s).mode = s.mode ∧ (writeKeyCopy d b s).nor = s.nor ∧ (writeKeyCopy d b s).dict = s.dict
     ∧ (writeKeyCopy d b s).can = s.can ∧ (writeKeyCopy d b s).mbx = s.mbx ∧ (writeKeyCopy d b s).win = s.win
     ∧ (writeKeyCopy d b s).port = s.port ∧ (writeKeyCopy d b s).cache = s.cache ∧ (writeKeyCopy d b s).adm = s.adm
     ∧ (writeKeyCopy d b s).pack = s.pack ∧ (writeKeyCopy d b s).bank = s.bank
     ∧ (writeKeyCopy d b s).packEst = s.packEst ∧ (writeKeyCopy d b s).bankEst = s.bankEst
     ∧ (writeKeyCopy d b s).hold = s.hold ∧ (writeKeyCopy d b s).rails = s.rails ∧ (writeKeyCopy d b s).keep = s.keep
     ∧ (writeKeyCopy d b s).tremor = s.tremor ∧ (writeKeyCopy d b s).outage = s.outage
     ∧ (writeKeyCopy d b s).flash = s.flash ∧ (writeKeyCopy d b s).video = s.video ∧ (writeKeyCopy d b s).ev = s.ev
     ∧ (writeKeyCopy d b s).pending = s.pending := by
  unfold writeKeyCopy
  (repeat' split) <;> simp

@[simp] theorem writeKeys_frame (s : State) :
    (writeKeys s).time = s.time ∧ (writeKeys s).isl = s.isl ∧ (writeKeys s).life = s.life
     ∧ (writeKeys s).mode = s.mode ∧ (writeKeys s).nor = s.nor ∧ (writeKeys s).dict = s.dict
     ∧ (writeKeys s).can = s.can ∧ (writeKeys s).mbx = s.mbx ∧ (writeKeys s).win = s.win ∧ (writeKeys s).port = s.port
     ∧ (writeKeys s).cache = s.cache ∧ (writeKeys s).adm = s.adm ∧ (writeKeys s).pack = s.pack
     ∧ (writeKeys s).bank = s.bank ∧ (writeKeys s).packEst = s.packEst ∧ (writeKeys s).bankEst = s.bankEst
     ∧ (writeKeys s).hold = s.hold ∧ (writeKeys s).rails = s.rails ∧ (writeKeys s).keep = s.keep
     ∧ (writeKeys s).tremor = s.tremor ∧ (writeKeys s).outage = s.outage ∧ (writeKeys s).flash = s.flash
     ∧ (writeKeys s).video = s.video ∧ (writeKeys s).ev = s.ev ∧ (writeKeys s).pending = s.pending := by
  unfold writeKeys
  (repeat' split) <;> simp

end Sys2Proof.Machine
end

