-- ==== Sys2Proof/Laws/FrameFlashOps.lean ====
section
/-! SUPPORT. Frames of Machine/FlashOps.lean: what each operation leaves unchanged. -/

namespace Sys2Proof.Machine

@[simp] theorem openEpoch_frame (byPre : Bool) (s : State) :
    (openEpoch byPre s).time = s.time ∧ (openEpoch byPre s).isl = s.isl ∧ (openEpoch byPre s).life = s.life
     ∧ (openEpoch byPre s).mode = s.mode ∧ (openEpoch byPre s).nor = s.nor ∧ (openEpoch byPre s).dict = s.dict
     ∧ (openEpoch byPre s).mbx = s.mbx ∧ (openEpoch byPre s).win = s.win ∧ (openEpoch byPre s).port = s.port
     ∧ (openEpoch byPre s).adm = s.adm ∧ (openEpoch byPre s).pack = s.pack ∧ (openEpoch byPre s).bank = s.bank
     ∧ (openEpoch byPre s).packEst = s.packEst ∧ (openEpoch byPre s).bankEst = s.bankEst
     ∧ (openEpoch byPre s).hold = s.hold ∧ (openEpoch byPre s).rails = s.rails ∧ (openEpoch byPre s).keep = s.keep
     ∧ (openEpoch byPre s).tremor = s.tremor ∧ (openEpoch byPre s).outage = s.outage ∧ (openEpoch byPre s).video = s.video
     ∧ (openEpoch byPre s).pending = s.pending := by
  unfold openEpoch
  (repeat' split) <;> simp

@[simp] theorem allocStripe_frame (s : State) :
    (allocStripe s).time = s.time ∧ (allocStripe s).isl = s.isl ∧ (allocStripe s).life = s.life
     ∧ (allocStripe s).mode = s.mode ∧ (allocStripe s).nor = s.nor ∧ (allocStripe s).dict = s.dict
     ∧ (allocStripe s).mbx = s.mbx ∧ (allocStripe s).win = s.win ∧ (allocStripe s).port = s.port
     ∧ (allocStripe s).adm = s.adm ∧ (allocStripe s).pack = s.pack ∧ (allocStripe s).bank = s.bank
     ∧ (allocStripe s).packEst = s.packEst ∧ (allocStripe s).bankEst = s.bankEst ∧ (allocStripe s).hold = s.hold
     ∧ (allocStripe s).rails = s.rails ∧ (allocStripe s).keep = s.keep ∧ (allocStripe s).tremor = s.tremor
     ∧ (allocStripe s).outage = s.outage ∧ (allocStripe s).video = s.video ∧ (allocStripe s).pending = s.pending := by
  unfold allocStripe
  (repeat' split) <;> simp

@[simp] theorem noteRemoval_frame (n : Fin 16) (vol : BitVec 32) (lba : Nat) (s : State) :
    (noteRemoval n vol lba s).time = s.time ∧ (noteRemoval n vol lba s).isl = s.isl
     ∧ (noteRemoval n vol lba s).life = s.life ∧ (noteRemoval n vol lba s).mode = s.mode
     ∧ (noteRemoval n vol lba s).nor = s.nor ∧ (noteRemoval n vol lba s).dict = s.dict
     ∧ (noteRemoval n vol lba s).can = s.can ∧ (noteRemoval n vol lba s).mbx = s.mbx
     ∧ (noteRemoval n vol lba s).win = s.win ∧ (noteRemoval n vol lba s).port = s.port
     ∧ (noteRemoval n vol lba s).cache = s.cache ∧ (noteRemoval n vol lba s).adm = s.adm
     ∧ (noteRemoval n vol lba s).pack = s.pack ∧ (noteRemoval n vol lba s).bank = s.bank
     ∧ (noteRemoval n vol lba s).packEst = s.packEst ∧ (noteRemoval n vol lba s).bankEst = s.bankEst
     ∧ (noteRemoval n vol lba s).hold = s.hold ∧ (noteRemoval n vol lba s).rails = s.rails
     ∧ (noteRemoval n vol lba s).keep = s.keep ∧ (noteRemoval n vol lba s).tremor = s.tremor
     ∧ (noteRemoval n vol lba s).outage = s.outage ∧ (noteRemoval n vol lba s).video = s.video
     ∧ (noteRemoval n vol lba s).ev = s.ev ∧ (noteRemoval n vol lba s).out = s.out
     ∧ (noteRemoval n vol lba s).pending = s.pending := by
  unfold noteRemoval
  (repeat' split) <;> simp

@[simp] theorem makeRoom_frame (s : State) :
    (makeRoom s).time = s.time ∧ (makeRoom s).isl = s.isl ∧ (makeRoom s).life = s.life ∧ (makeRoom s).mode = s.mode
     ∧ (makeRoom s).nor = s.nor ∧ (makeRoom s).dict = s.dict ∧ (makeRoom s).mbx = s.mbx ∧ (makeRoom s).win = s.win
     ∧ (makeRoom s).port = s.port ∧ (makeRoom s).adm = s.adm ∧ (makeRoom s).pack = s.pack ∧ (makeRoom s).bank = s.bank
     ∧ (makeRoom s).packEst = s.packEst ∧ (makeRoom s).bankEst = s.bankEst ∧ (makeRoom s).hold = s.hold
     ∧ (makeRoom s).rails = s.rails ∧ (makeRoom s).keep = s.keep ∧ (makeRoom s).tremor = s.tremor
     ∧ (makeRoom s).outage = s.outage ∧ (makeRoom s).video = s.video ∧ (makeRoom s).pending = s.pending := by
  unfold makeRoom
  (repeat' split) <;> simp

@[simp] theorem pushCopy_frame (c : Copy) (s : State) :
    (pushCopy c s).time = s.time ∧ (pushCopy c s).isl = s.isl ∧ (pushCopy c s).life = s.life
     ∧ (pushCopy c s).mode = s.mode ∧ (pushCopy c s).nor = s.nor ∧ (pushCopy c s).dict = s.dict
     ∧ (pushCopy c s).can = s.can ∧ (pushCopy c s).mbx = s.mbx ∧ (pushCopy c s).win = s.win
     ∧ (pushCopy c s).port = s.port ∧ (pushCopy c s).cache = s.cache ∧ (pushCopy c s).adm = s.adm
     ∧ (pushCopy c s).pack = s.pack ∧ (pushCopy c s).bank = s.bank ∧ (pushCopy c s).packEst = s.packEst
     ∧ (pushCopy c s).bankEst = s.bankEst ∧ (pushCopy c s).hold = s.hold ∧ (pushCopy c s).rails = s.rails
     ∧ (pushCopy c s).keep = s.keep ∧ (pushCopy c s).tremor = s.tremor ∧ (pushCopy c s).outage = s.outage
     ∧ (pushCopy c s).video = s.video ∧ (pushCopy c s).ev = s.ev ∧ (pushCopy c s).pending = s.pending := by
  unfold pushCopy
  (repeat' split) <;> simp

@[simp] theorem appendCopy_frame (k : Nat) (q : Slot) (e : Epoch) (s : State) :
    (appendCopy k q e s).time = s.time ∧ (appendCopy k q e s).isl = s.isl ∧ (appendCopy k q e s).life = s.life
     ∧ (appendCopy k q e s).mode = s.mode ∧ (appendCopy k q e s).nor = s.nor ∧ (appendCopy k q e s).dict = s.dict
     ∧ (appendCopy k q e s).can = s.can ∧ (appendCopy k q e s).mbx = s.mbx ∧ (appendCopy k q e s).win = s.win
     ∧ (appendCopy k q e s).port = s.port ∧ (appendCopy k q e s).adm = s.adm ∧ (appendCopy k q e s).pack = s.pack
     ∧ (appendCopy k q e s).bank = s.bank ∧ (appendCopy k q e s).packEst = s.packEst
     ∧ (appendCopy k q e s).bankEst = s.bankEst ∧ (appendCopy k q e s).hold = s.hold
     ∧ (appendCopy k q e s).rails = s.rails ∧ (appendCopy k q e s).keep = s.keep
     ∧ (appendCopy k q e s).tremor = s.tremor ∧ (appendCopy k q e s).outage = s.outage
     ∧ (appendCopy k q e s).video = s.video ∧ (appendCopy k q e s).ev = s.ev
     ∧ (appendCopy k q e s).pending = s.pending := by
  unfold appendCopy
  (repeat' split) <;> simp

@[simp] theorem copySlot_frame (k : Nat) (s : State) :
    (copySlot k s).time = s.time ∧ (copySlot k s).isl = s.isl ∧ (copySlot k s).life = s.life
     ∧ (copySlot k s).mode = s.mode ∧ (copySlot k s).nor = s.nor ∧ (copySlot k s).dict = s.dict
     ∧ (copySlot k s).mbx = s.mbx ∧ (copySlot k s).win = s.win ∧ (copySlot k s).port = s.port ∧ (copySlot k s).adm = s.adm
     ∧ (copySlot k s).pack = s.pack ∧ (copySlot k s).bank = s.bank ∧ (copySlot k s).packEst = s.packEst
     ∧ (copySlot k s).bankEst = s.bankEst ∧ (copySlot k s).hold = s.hold ∧ (copySlot k s).rails = s.rails
     ∧ (copySlot k s).keep = s.keep ∧ (copySlot k s).tremor = s.tremor ∧ (copySlot k s).outage = s.outage
     ∧ (copySlot k s).video = s.video ∧ (copySlot k s).pending = s.pending := by
  simp only [copySlot, ite_proj]
  (repeat' split) <;> simp_all

theorem copyAll_frame (p : Slot → Bool) (l : Nat) (s : State) :
    (copyAll p l s).time = s.time ∧ (copyAll p l s).isl = s.isl ∧ (copyAll p l s).life = s.life
     ∧ (copyAll p l s).mode = s.mode ∧ (copyAll p l s).nor = s.nor ∧ (copyAll p l s).dict = s.dict
     ∧ (copyAll p l s).mbx = s.mbx ∧ (copyAll p l s).win = s.win ∧ (copyAll p l s).port = s.port
     ∧ (copyAll p l s).adm = s.adm ∧ (copyAll p l s).pack = s.pack ∧ (copyAll p l s).bank = s.bank
     ∧ (copyAll p l s).packEst = s.packEst ∧ (copyAll p l s).bankEst = s.bankEst ∧ (copyAll p l s).hold = s.hold
     ∧ (copyAll p l s).rails = s.rails ∧ (copyAll p l s).keep = s.keep ∧ (copyAll p l s).tremor = s.tremor
     ∧ (copyAll p l s).outage = s.outage ∧ (copyAll p l s).video = s.video ∧ (copyAll p l s).pending = s.pending := by
  induction l generalizing s with
  | zero => simp [copyAll]
  | succ m ih =>
    simp only [copyAll]
    (repeat' split) <;> simp [ih]

@[simp] theorem killCopy_frame (number i : Nat) (s : State) :
    (killCopy number i s).time = s.time ∧ (killCopy number i s).isl = s.isl ∧ (killCopy number i s).life = s.life
     ∧ (killCopy number i s).mode = s.mode ∧ (killCopy number i s).nor = s.nor ∧ (killCopy number i s).dict = s.dict
     ∧ (killCopy number i s).can = s.can ∧ (killCopy number i s).mbx = s.mbx ∧ (killCopy number i s).win = s.win
     ∧ (killCopy number i s).port = s.port ∧ (killCopy number i s).cache = s.cache ∧ (killCopy number i s).adm = s.adm
     ∧ (killCopy number i s).pack = s.pack ∧ (killCopy number i s).bank = s.bank
     ∧ (killCopy number i s).packEst = s.packEst ∧ (killCopy number i s).bankEst = s.bankEst
     ∧ (killCopy number i s).hold = s.hold ∧ (killCopy number i s).rails = s.rails ∧ (killCopy number i s).keep = s.keep
     ∧ (killCopy number i s).tremor = s.tremor ∧ (killCopy number i s).outage = s.outage
     ∧ (killCopy number i s).video = s.video ∧ (killCopy number i s).ev = s.ev ∧ (killCopy number i s).out = s.out
     ∧ (killCopy number i s).pending = s.pending := by
  unfold killCopy
  (repeat' split) <;> simp

@[simp] theorem moveCopy_frame (number i : Nat) (dest : Option (Nat × Nat)) (s : State) :
    (moveCopy number i dest s).time = s.time ∧ (moveCopy number i dest s).isl = s.isl
     ∧ (moveCopy number i dest s).life = s.life ∧ (moveCopy number i dest s).mode = s.mode
     ∧ (moveCopy number i dest s).nor = s.nor ∧ (moveCopy number i dest s).dict = s.dict
     ∧ (moveCopy number i dest s).can = s.can ∧ (moveCopy number i dest s).mbx = s.mbx
     ∧ (moveCopy number i dest s).win = s.win ∧ (moveCopy number i dest s).port = s.port
     ∧ (moveCopy number i dest s).adm = s.adm ∧ (moveCopy number i dest s).pack = s.pack
     ∧ (moveCopy number i dest s).bank = s.bank ∧ (moveCopy number i dest s).packEst = s.packEst
     ∧ (moveCopy number i dest s).bankEst = s.bankEst ∧ (moveCopy number i dest s).hold = s.hold
     ∧ (moveCopy number i dest s).rails = s.rails ∧ (moveCopy number i dest s).keep = s.keep
     ∧ (moveCopy number i dest s).tremor = s.tremor ∧ (moveCopy number i dest s).outage = s.outage
     ∧ (moveCopy number i dest s).flash = s.flash ∧ (moveCopy number i dest s).video = s.video
     ∧ (moveCopy number i dest s).ev = s.ev ∧ (moveCopy number i dest s).out = s.out
     ∧ (moveCopy number i dest s).pending = s.pending := by
  unfold moveCopy
  (repeat' split) <;> simp

@[simp] theorem rewriteCopy_frame (number i : Nat) (c : Copy) (s : State) :
    (rewriteCopy number i c s).time = s.time ∧ (rewriteCopy number i c s).isl = s.isl
     ∧ (rewriteCopy number i c s).life = s.life ∧ (rewriteCopy number i c s).mode = s.mode
     ∧ (rewriteCopy number i c s).nor = s.nor ∧ (rewriteCopy number i c s).dict = s.dict
     ∧ (rewriteCopy number i c s).mbx = s.mbx ∧ (rewriteCopy number i c s).win = s.win
     ∧ (rewriteCopy number i c s).port = s.port ∧ (rewriteCopy number i c s).adm = s.adm
     ∧ (rewriteCopy number i c s).pack = s.pack ∧ (rewriteCopy number i c s).bank = s.bank
     ∧ (rewriteCopy number i c s).packEst = s.packEst ∧ (rewriteCopy number i c s).bankEst = s.bankEst
     ∧ (rewriteCopy number i c s).hold = s.hold ∧ (rewriteCopy number i c s).rails = s.rails
     ∧ (rewriteCopy number i c s).keep = s.keep ∧ (rewriteCopy number i c s).tremor = s.tremor
     ∧ (rewriteCopy number i c s).outage = s.outage ∧ (rewriteCopy number i c s).video = s.video
     ∧ (rewriteCopy number i c s).pending = s.pending := by
  simp only [rewriteCopy, ite_proj]
  (repeat' split) <;> simp_all

@[simp] theorem rewriteAt_frame (e : Epoch) (i : Nat) (s : State) :
    (rewriteAt e i s).time = s.time ∧ (rewriteAt e i s).isl = s.isl ∧ (rewriteAt e i s).life = s.life
     ∧ (rewriteAt e i s).mode = s.mode ∧ (rewriteAt e i s).nor = s.nor ∧ (rewriteAt e i s).dict = s.dict
     ∧ (rewriteAt e i s).mbx = s.mbx ∧ (rewriteAt e i s).win = s.win ∧ (rewriteAt e i s).port = s.port
     ∧ (rewriteAt e i s).adm = s.adm ∧ (rewriteAt e i s).pack = s.pack ∧ (rewriteAt e i s).bank = s.bank
     ∧ (rewriteAt e i s).packEst = s.packEst ∧ (rewriteAt e i s).bankEst = s.bankEst ∧ (rewriteAt e i s).hold = s.hold
     ∧ (rewriteAt e i s).rails = s.rails ∧ (rewriteAt e i s).keep = s.keep ∧ (rewriteAt e i s).tremor = s.tremor
     ∧ (rewriteAt e i s).outage = s.outage ∧ (rewriteAt e i s).video = s.video ∧ (rewriteAt e i s).pending = s.pending := by
  unfold rewriteAt
  (repeat' split) <;> simp

@[simp] theorem relocatePage_frame (d : Fin 16) (s : State) :
    (relocatePage d s).time = s.time ∧ (relocatePage d s).isl = s.isl ∧ (relocatePage d s).life = s.life
     ∧ (relocatePage d s).mode = s.mode ∧ (relocatePage d s).nor = s.nor ∧ (relocatePage d s).dict = s.dict
     ∧ (relocatePage d s).mbx = s.mbx ∧ (relocatePage d s).win = s.win ∧ (relocatePage d s).port = s.port
     ∧ (relocatePage d s).adm = s.adm ∧ (relocatePage d s).pack = s.pack ∧ (relocatePage d s).bank = s.bank
     ∧ (relocatePage d s).packEst = s.packEst ∧ (relocatePage d s).bankEst = s.bankEst ∧ (relocatePage d s).hold = s.hold
     ∧ (relocatePage d s).rails = s.rails ∧ (relocatePage d s).keep = s.keep ∧ (relocatePage d s).tremor = s.tremor
     ∧ (relocatePage d s).outage = s.outage ∧ (relocatePage d s).video = s.video ∧ (relocatePage d s).pending = s.pending := by
  simp only [relocatePage, ite_proj]
  (repeat' split) <;> simp_all

@[simp] theorem putManifest_frame (m : Manifest) (s : State) (d : Fin 16) :
    (putManifest m s d).time = s.time ∧ (putManifest m s d).isl = s.isl ∧ (putManifest m s d).life = s.life
     ∧ (putManifest m s d).mode = s.mode ∧ (putManifest m s d).nor = s.nor ∧ (putManifest m s d).dict = s.dict
     ∧ (putManifest m s d).can = s.can ∧ (putManifest m s d).mbx = s.mbx ∧ (putManifest m s d).win = s.win
     ∧ (putManifest m s d).port = s.port ∧ (putManifest m s d).cache = s.cache ∧ (putManifest m s d).adm = s.adm
     ∧ (putManifest m s d).pack = s.pack ∧ (putManifest m s d).bank = s.bank ∧ (putManifest m s d).packEst = s.packEst
     ∧ (putManifest m s d).bankEst = s.bankEst ∧ (putManifest m s d).hold = s.hold
     ∧ (putManifest m s d).rails = s.rails ∧ (putManifest m s d).keep = s.keep ∧ (putManifest m s d).tremor = s.tremor
     ∧ (putManifest m s d).outage = s.outage ∧ (putManifest m s d).flash = s.flash
     ∧ (putManifest m s d).video = s.video ∧ (putManifest m s d).ev = s.ev ∧ (putManifest m s d).pending = s.pending := by
  unfold putManifest
  (repeat' split) <;> simp

@[simp] theorem writeManifest_frame (m : Manifest) (s : State) :
    (writeManifest m s).time = s.time ∧ (writeManifest m s).isl = s.isl ∧ (writeManifest m s).life = s.life
     ∧ (writeManifest m s).mode = s.mode ∧ (writeManifest m s).nor = s.nor ∧ (writeManifest m s).dict = s.dict
     ∧ (writeManifest m s).can = s.can ∧ (writeManifest m s).mbx = s.mbx ∧ (writeManifest m s).win = s.win
     ∧ (writeManifest m s).port = s.port ∧ (writeManifest m s).cache = s.cache ∧ (writeManifest m s).adm = s.adm
     ∧ (writeManifest m s).pack = s.pack ∧ (writeManifest m s).bank = s.bank ∧ (writeManifest m s).packEst = s.packEst
     ∧ (writeManifest m s).bankEst = s.bankEst ∧ (writeManifest m s).hold = s.hold
     ∧ (writeManifest m s).rails = s.rails ∧ (writeManifest m s).keep = s.keep ∧ (writeManifest m s).tremor = s.tremor
     ∧ (writeManifest m s).outage = s.outage ∧ (writeManifest m s).video = s.video ∧ (writeManifest m s).ev = s.ev
     ∧ (writeManifest m s).pending = s.pending := by
  unfold writeManifest
  (repeat' split) <;> simp

@[simp] theorem padStripe_frame (s : State) :
    (padStripe s).time = s.time ∧ (padStripe s).isl = s.isl ∧ (padStripe s).life = s.life
     ∧ (padStripe s).mode = s.mode ∧ (padStripe s).nor = s.nor ∧ (padStripe s).dict = s.dict
     ∧ (padStripe s).can = s.can ∧ (padStripe s).mbx = s.mbx ∧ (padStripe s).win = s.win ∧ (padStripe s).port = s.port
     ∧ (padStripe s).cache = s.cache ∧ (padStripe s).adm = s.adm ∧ (padStripe s).pack = s.pack
     ∧ (padStripe s).bank = s.bank ∧ (padStripe s).packEst = s.packEst ∧ (padStripe s).bankEst = s.bankEst
     ∧ (padStripe s).hold = s.hold ∧ (padStripe s).rails = s.rails ∧ (padStripe s).keep = s.keep
     ∧ (padStripe s).tremor = s.tremor ∧ (padStripe s).outage = s.outage ∧ (padStripe s).flash = s.flash
     ∧ (padStripe s).video = s.video ∧ (padStripe s).ev = s.ev ∧ (padStripe s).pending = s.pending := by
  unfold padStripe
  (repeat' split) <;> simp

@[simp] theorem programMeta_frame (ws : List (Nat × Block)) (base : Nat) (s : State) :
    (programMeta ws base s).time = s.time ∧ (programMeta ws base s).isl = s.isl
     ∧ (programMeta ws base s).life = s.life ∧ (programMeta ws base s).mode = s.mode
     ∧ (programMeta ws base s).nor = s.nor ∧ (programMeta ws base s).dict = s.dict
     ∧ (programMeta ws base s).can = s.can ∧ (programMeta ws base s).mbx = s.mbx ∧ (programMeta ws base s).win = s.win
     ∧ (programMeta ws base s).port = s.port ∧ (programMeta ws base s).cache = s.cache
     ∧ (programMeta ws base s).adm = s.adm ∧ (programMeta ws base s).pack = s.pack
     ∧ (programMeta ws base s).bank = s.bank ∧ (programMeta ws base s).packEst = s.packEst
     ∧ (programMeta ws base s).bankEst = s.bankEst ∧ (programMeta ws base s).hold = s.hold
     ∧ (programMeta ws base s).rails = s.rails ∧ (programMeta ws base s).keep = s.keep
     ∧ (programMeta ws base s).tremor = s.tremor ∧ (programMeta ws base s).outage = s.outage
     ∧ (programMeta ws base s).flash = s.flash ∧ (programMeta ws base s).video = s.video
     ∧ (programMeta ws base s).ev = s.ev ∧ (programMeta ws base s).pending = s.pending := by
  unfold programMeta
  (repeat' split) <;> simp

@[simp] theorem allocStripes_frame (n : Nat) (s : State) :
    (allocStripes n s).time = s.time ∧ (allocStripes n s).isl = s.isl ∧ (allocStripes n s).life = s.life
     ∧ (allocStripes n s).mode = s.mode ∧ (allocStripes n s).nor = s.nor ∧ (allocStripes n s).dict = s.dict
     ∧ (allocStripes n s).mbx = s.mbx ∧ (allocStripes n s).win = s.win ∧ (allocStripes n s).port = s.port
     ∧ (allocStripes n s).adm = s.adm ∧ (allocStripes n s).pack = s.pack ∧ (allocStripes n s).bank = s.bank
     ∧ (allocStripes n s).packEst = s.packEst ∧ (allocStripes n s).bankEst = s.bankEst
     ∧ (allocStripes n s).hold = s.hold ∧ (allocStripes n s).rails = s.rails ∧ (allocStripes n s).keep = s.keep
     ∧ (allocStripes n s).tremor = s.tremor ∧ (allocStripes n s).outage = s.outage
     ∧ (allocStripes n s).video = s.video ∧ (allocStripes n s).pending = s.pending := by
  unfold allocStripes
  (repeat' split) <;> simp

@[simp] theorem writeMeta_frame (s : State) :
    (writeMeta s).time = s.time ∧ (writeMeta s).isl = s.isl ∧ (writeMeta s).life = s.life
     ∧ (writeMeta s).mode = s.mode ∧ (writeMeta s).nor = s.nor ∧ (writeMeta s).dict = s.dict
     ∧ (writeMeta s).mbx = s.mbx ∧ (writeMeta s).win = s.win ∧ (writeMeta s).port = s.port ∧ (writeMeta s).adm = s.adm
     ∧ (writeMeta s).pack = s.pack ∧ (writeMeta s).bank = s.bank ∧ (writeMeta s).packEst = s.packEst
     ∧ (writeMeta s).bankEst = s.bankEst ∧ (writeMeta s).hold = s.hold ∧ (writeMeta s).rails = s.rails
     ∧ (writeMeta s).keep = s.keep ∧ (writeMeta s).tremor = s.tremor ∧ (writeMeta s).outage = s.outage
     ∧ (writeMeta s).video = s.video ∧ (writeMeta s).pending = s.pending := by
  unfold writeMeta
  (repeat' split) <;> simp

@[simp] theorem commitEpochs_frame (s : State) :
    (commitEpochs s).time = s.time ∧ (commitEpochs s).isl = s.isl ∧ (commitEpochs s).life = s.life
     ∧ (commitEpochs s).mode = s.mode ∧ (commitEpochs s).nor = s.nor ∧ (commitEpochs s).dict = s.dict
     ∧ (commitEpochs s).mbx = s.mbx ∧ (commitEpochs s).win = s.win ∧ (commitEpochs s).port = s.port
     ∧ (commitEpochs s).adm = s.adm ∧ (commitEpochs s).pack = s.pack ∧ (commitEpochs s).bank = s.bank
     ∧ (commitEpochs s).packEst = s.packEst ∧ (commitEpochs s).bankEst = s.bankEst ∧ (commitEpochs s).hold = s.hold
     ∧ (commitEpochs s).rails = s.rails ∧ (commitEpochs s).keep = s.keep ∧ (commitEpochs s).tremor = s.tremor
     ∧ (commitEpochs s).outage = s.outage ∧ (commitEpochs s).video = s.video ∧ (commitEpochs s).pending = s.pending := by
  unfold commitEpochs
  (repeat' split) <;> simp

@[simp] theorem commitSinter_frame (s : State) :
    (commitSinter s).time = s.time ∧ (commitSinter s).isl = s.isl ∧ (commitSinter s).life = s.life
     ∧ (commitSinter s).mode = s.mode ∧ (commitSinter s).nor = s.nor ∧ (commitSinter s).dict = s.dict
     ∧ (commitSinter s).mbx = s.mbx ∧ (commitSinter s).win = s.win ∧ (commitSinter s).port = s.port
     ∧ (commitSinter s).adm = s.adm ∧ (commitSinter s).pack = s.pack ∧ (commitSinter s).bank = s.bank
     ∧ (commitSinter s).packEst = s.packEst ∧ (commitSinter s).bankEst = s.bankEst ∧ (commitSinter s).hold = s.hold
     ∧ (commitSinter s).rails = s.rails ∧ (commitSinter s).keep = s.keep ∧ (commitSinter s).tremor = s.tremor
     ∧ (commitSinter s).outage = s.outage ∧ (commitSinter s).video = s.video ∧ (commitSinter s).pending = s.pending := by
  unfold commitSinter
  (repeat' split) <;> simp

@[simp] theorem markCopies_frame (s : State) :
    (markCopies s).time = s.time ∧ (markCopies s).isl = s.isl ∧ (markCopies s).life = s.life
     ∧ (markCopies s).mode = s.mode ∧ (markCopies s).nor = s.nor ∧ (markCopies s).dict = s.dict
     ∧ (markCopies s).can = s.can ∧ (markCopies s).mbx = s.mbx ∧ (markCopies s).win = s.win ∧ (markCopies s).port = s.port
     ∧ (markCopies s).adm = s.adm ∧ (markCopies s).pack = s.pack ∧ (markCopies s).bank = s.bank
     ∧ (markCopies s).packEst = s.packEst ∧ (markCopies s).bankEst = s.bankEst ∧ (markCopies s).hold = s.hold
     ∧ (markCopies s).rails = s.rails ∧ (markCopies s).keep = s.keep ∧ (markCopies s).tremor = s.tremor
     ∧ (markCopies s).outage = s.outage ∧ (markCopies s).flash = s.flash ∧ (markCopies s).video = s.video
     ∧ (markCopies s).ev = s.ev ∧ (markCopies s).out = s.out ∧ (markCopies s).pending = s.pending := by
  unfold markCopies
  (repeat' split) <;> simp

@[simp] theorem cancelEpoch_frame (s : State) :
    (cancelEpoch s).time = s.time ∧ (cancelEpoch s).isl = s.isl ∧ (cancelEpoch s).life = s.life
     ∧ (cancelEpoch s).mode = s.mode ∧ (cancelEpoch s).nor = s.nor ∧ (cancelEpoch s).dict = s.dict
     ∧ (cancelEpoch s).can = s.can ∧ (cancelEpoch s).mbx = s.mbx ∧ (cancelEpoch s).win = s.win
     ∧ (cancelEpoch s).port = s.port ∧ (cancelEpoch s).adm = s.adm ∧ (cancelEpoch s).pack = s.pack
     ∧ (cancelEpoch s).bank = s.bank ∧ (cancelEpoch s).packEst = s.packEst ∧ (cancelEpoch s).bankEst = s.bankEst
     ∧ (cancelEpoch s).hold = s.hold ∧ (cancelEpoch s).rails = s.rails ∧ (cancelEpoch s).keep = s.keep
     ∧ (cancelEpoch s).tremor = s.tremor ∧ (cancelEpoch s).outage = s.outage ∧ (cancelEpoch s).video = s.video
     ∧ (cancelEpoch s).ev = s.ev ∧ (cancelEpoch s).out = s.out ∧ (cancelEpoch s).pending = s.pending := by
  unfold cancelEpoch
  (repeat' split) <;> simp

@[simp] theorem cancelPreSinter_frame (s : State) :
    (cancelPreSinter s).time = s.time ∧ (cancelPreSinter s).isl = s.isl ∧ (cancelPreSinter s).life = s.life
     ∧ (cancelPreSinter s).mode = s.mode ∧ (cancelPreSinter s).nor = s.nor ∧ (cancelPreSinter s).dict = s.dict
     ∧ (cancelPreSinter s).mbx = s.mbx ∧ (cancelPreSinter s).win = s.win ∧ (cancelPreSinter s).port = s.port
     ∧ (cancelPreSinter s).adm = s.adm ∧ (cancelPreSinter s).pack = s.pack ∧ (cancelPreSinter s).bank = s.bank
     ∧ (cancelPreSinter s).packEst = s.packEst ∧ (cancelPreSinter s).bankEst = s.bankEst
     ∧ (cancelPreSinter s).hold = s.hold ∧ (cancelPreSinter s).rails = s.rails ∧ (cancelPreSinter s).keep = s.keep
     ∧ (cancelPreSinter s).tremor = s.tremor ∧ (cancelPreSinter s).outage = s.outage ∧ (cancelPreSinter s).video = s.video
     ∧ (cancelPreSinter s).pending = s.pending := by
  unfold cancelPreSinter
  (repeat' split) <;> simp

@[simp] theorem releaseImage_frame (s : State) :
    (releaseImage s).time = s.time ∧ (releaseImage s).isl = s.isl ∧ (releaseImage s).life = s.life
     ∧ (releaseImage s).mode = s.mode ∧ (releaseImage s).nor = s.nor ∧ (releaseImage s).dict = s.dict
     ∧ (releaseImage s).mbx = s.mbx ∧ (releaseImage s).win = s.win ∧ (releaseImage s).port = s.port
     ∧ (releaseImage s).pack = s.pack ∧ (releaseImage s).bank = s.bank ∧ (releaseImage s).packEst = s.packEst
     ∧ (releaseImage s).bankEst = s.bankEst ∧ (releaseImage s).hold = s.hold ∧ (releaseImage s).rails = s.rails
     ∧ (releaseImage s).keep = s.keep ∧ (releaseImage s).tremor = s.tremor ∧ (releaseImage s).outage = s.outage
     ∧ (releaseImage s).video = s.video ∧ (releaseImage s).pending = s.pending := by
  unfold releaseImage
  (repeat' split) <;> simp

@[simp] theorem nextPreSinter_frame (s : State) :
    (nextPreSinter s).time = s.time ∧ (nextPreSinter s).isl = s.isl ∧ (nextPreSinter s).life = s.life
     ∧ (nextPreSinter s).mode = s.mode ∧ (nextPreSinter s).nor = s.nor ∧ (nextPreSinter s).dict = s.dict
     ∧ (nextPreSinter s).can = s.can ∧ (nextPreSinter s).mbx = s.mbx ∧ (nextPreSinter s).win = s.win
     ∧ (nextPreSinter s).port = s.port ∧ (nextPreSinter s).cache = s.cache ∧ (nextPreSinter s).adm = s.adm
     ∧ (nextPreSinter s).pack = s.pack ∧ (nextPreSinter s).bank = s.bank ∧ (nextPreSinter s).packEst = s.packEst
     ∧ (nextPreSinter s).bankEst = s.bankEst ∧ (nextPreSinter s).hold = s.hold ∧ (nextPreSinter s).rails = s.rails
     ∧ (nextPreSinter s).keep = s.keep ∧ (nextPreSinter s).tremor = s.tremor ∧ (nextPreSinter s).outage = s.outage
     ∧ (nextPreSinter s).video = s.video ∧ (nextPreSinter s).ev = s.ev ∧ (nextPreSinter s).out = s.out
     ∧ (nextPreSinter s).pending = s.pending := by
  unfold nextPreSinter
  (repeat' split) <;> simp

@[simp] theorem strayCopy_frame (c : Copy) (s : State) :
    (strayCopy c s).time = s.time ∧ (strayCopy c s).isl = s.isl ∧ (strayCopy c s).life = s.life
     ∧ (strayCopy c s).mode = s.mode ∧ (strayCopy c s).nor = s.nor ∧ (strayCopy c s).dict = s.dict
     ∧ (strayCopy c s).can = s.can ∧ (strayCopy c s).mbx = s.mbx ∧ (strayCopy c s).win = s.win
     ∧ (strayCopy c s).port = s.port ∧ (strayCopy c s).cache = s.cache ∧ (strayCopy c s).adm = s.adm
     ∧ (strayCopy c s).pack = s.pack ∧ (strayCopy c s).bank = s.bank ∧ (strayCopy c s).packEst = s.packEst
     ∧ (strayCopy c s).bankEst = s.bankEst ∧ (strayCopy c s).hold = s.hold ∧ (strayCopy c s).rails = s.rails
     ∧ (strayCopy c s).keep = s.keep ∧ (strayCopy c s).tremor = s.tremor ∧ (strayCopy c s).outage = s.outage
     ∧ (strayCopy c s).video = s.video ∧ (strayCopy c s).ev = s.ev ∧ (strayCopy c s).pending = s.pending := by
  unfold strayCopy
  (repeat' split) <;> simp

@[simp] theorem pageCopy_frame (a : Nat × Copy) (s : State) :
    (pageCopy a s).time = s.time ∧ (pageCopy a s).isl = s.isl ∧ (pageCopy a s).life = s.life
     ∧ (pageCopy a s).mode = s.mode ∧ (pageCopy a s).nor = s.nor ∧ (pageCopy a s).dict = s.dict
     ∧ (pageCopy a s).mbx = s.mbx ∧ (pageCopy a s).win = s.win ∧ (pageCopy a s).port = s.port
     ∧ (pageCopy a s).adm = s.adm ∧ (pageCopy a s).pack = s.pack ∧ (pageCopy a s).bank = s.bank
     ∧ (pageCopy a s).packEst = s.packEst ∧ (pageCopy a s).bankEst = s.bankEst ∧ (pageCopy a s).hold = s.hold
     ∧ (pageCopy a s).rails = s.rails ∧ (pageCopy a s).keep = s.keep ∧ (pageCopy a s).tremor = s.tremor
     ∧ (pageCopy a s).outage = s.outage ∧ (pageCopy a s).video = s.video ∧ (pageCopy a s).pending = s.pending := by
  unfold pageCopy
  (repeat' split) <;> simp

theorem pageProgrammed_frame (s : State) :
    (pageProgrammed s).time = s.time ∧ (pageProgrammed s).isl = s.isl ∧ (pageProgrammed s).life = s.life
     ∧ (pageProgrammed s).mode = s.mode ∧ (pageProgrammed s).nor = s.nor ∧ (pageProgrammed s).dict = s.dict
     ∧ (pageProgrammed s).mbx = s.mbx ∧ (pageProgrammed s).win = s.win ∧ (pageProgrammed s).port = s.port
     ∧ (pageProgrammed s).adm = s.adm ∧ (pageProgrammed s).pack = s.pack ∧ (pageProgrammed s).bank = s.bank
     ∧ (pageProgrammed s).packEst = s.packEst ∧ (pageProgrammed s).bankEst = s.bankEst ∧ (pageProgrammed s).hold = s.hold
     ∧ (pageProgrammed s).rails = s.rails ∧ (pageProgrammed s).keep = s.keep ∧ (pageProgrammed s).tremor = s.tremor
     ∧ (pageProgrammed s).outage = s.outage ∧ (pageProgrammed s).video = s.video ∧ (pageProgrammed s).pending = s.pending := by
  simp only [pageProgrammed, ite_proj]
  (repeat' split) <;> simp_all

theorem startPreSinter_frame (s : State) :
    (startPreSinter s).time = s.time ∧ (startPreSinter s).isl = s.isl ∧ (startPreSinter s).life = s.life
     ∧ (startPreSinter s).mode = s.mode ∧ (startPreSinter s).nor = s.nor ∧ (startPreSinter s).dict = s.dict
     ∧ (startPreSinter s).mbx = s.mbx ∧ (startPreSinter s).win = s.win ∧ (startPreSinter s).port = s.port
     ∧ (startPreSinter s).adm = s.adm ∧ (startPreSinter s).pack = s.pack ∧ (startPreSinter s).bank = s.bank
     ∧ (startPreSinter s).packEst = s.packEst ∧ (startPreSinter s).bankEst = s.bankEst ∧ (startPreSinter s).hold = s.hold
     ∧ (startPreSinter s).rails = s.rails ∧ (startPreSinter s).keep = s.keep ∧ (startPreSinter s).tremor = s.tremor
     ∧ (startPreSinter s).outage = s.outage ∧ (startPreSinter s).video = s.video ∧ (startPreSinter s).pending = s.pending := by
  unfold startPreSinter
  (repeat' split) <;> simp

@[simp] theorem endProbation_frame (d : Fin 16) (s : State) :
    (endProbation d s).time = s.time ∧ (endProbation d s).isl = s.isl ∧ (endProbation d s).life = s.life
     ∧ (endProbation d s).mode = s.mode ∧ (endProbation d s).nor = s.nor ∧ (endProbation d s).dict = s.dict
     ∧ (endProbation d s).mbx = s.mbx ∧ (endProbation d s).win = s.win ∧ (endProbation d s).port = s.port
     ∧ (endProbation d s).cache = s.cache ∧ (endProbation d s).adm = s.adm ∧ (endProbation d s).pack = s.pack
     ∧ (endProbation d s).bank = s.bank ∧ (endProbation d s).packEst = s.packEst ∧ (endProbation d s).bankEst = s.bankEst
     ∧ (endProbation d s).hold = s.hold ∧ (endProbation d s).rails = s.rails ∧ (endProbation d s).keep = s.keep
     ∧ (endProbation d s).tremor = s.tremor ∧ (endProbation d s).outage = s.outage ∧ (endProbation d s).video = s.video
     ∧ (endProbation d s).pending = s.pending := by
  unfold endProbation
  (repeat' split) <;> simp

@[simp] theorem endProbations_frame (s : State) :
    (endProbations s).time = s.time ∧ (endProbations s).isl = s.isl ∧ (endProbations s).life = s.life
     ∧ (endProbations s).mode = s.mode ∧ (endProbations s).nor = s.nor ∧ (endProbations s).dict = s.dict
     ∧ (endProbations s).mbx = s.mbx ∧ (endProbations s).win = s.win ∧ (endProbations s).port = s.port
     ∧ (endProbations s).cache = s.cache ∧ (endProbations s).adm = s.adm ∧ (endProbations s).pack = s.pack
     ∧ (endProbations s).bank = s.bank ∧ (endProbations s).packEst = s.packEst ∧ (endProbations s).bankEst = s.bankEst
     ∧ (endProbations s).hold = s.hold ∧ (endProbations s).rails = s.rails ∧ (endProbations s).keep = s.keep
     ∧ (endProbations s).tremor = s.tremor ∧ (endProbations s).outage = s.outage ∧ (endProbations s).video = s.video
     ∧ (endProbations s).pending = s.pending := by
  unfold endProbations
  (repeat' split) <;> simp

@[simp] theorem retireDie_frame (d : Fin 16) (cause : Nat) (s : State) :
    (retireDie d cause s).time = s.time ∧ (retireDie d cause s).isl = s.isl ∧ (retireDie d cause s).life = s.life
     ∧ (retireDie d cause s).mode = s.mode ∧ (retireDie d cause s).nor = s.nor ∧ (retireDie d cause s).dict = s.dict
     ∧ (retireDie d cause s).mbx = s.mbx ∧ (retireDie d cause s).win = s.win ∧ (retireDie d cause s).port = s.port
     ∧ (retireDie d cause s).adm = s.adm ∧ (retireDie d cause s).pack = s.pack ∧ (retireDie d cause s).bank = s.bank
     ∧ (retireDie d cause s).packEst = s.packEst ∧ (retireDie d cause s).bankEst = s.bankEst
     ∧ (retireDie d cause s).hold = s.hold ∧ (retireDie d cause s).rails = s.rails ∧ (retireDie d cause s).keep = s.keep
     ∧ (retireDie d cause s).tremor = s.tremor ∧ (retireDie d cause s).outage = s.outage
     ∧ (retireDie d cause s).video = s.video ∧ (retireDie d cause s).pending = s.pending := by
  simp only [retireDie, ite_proj]
  (repeat' split) <;> simp_all

@[simp] theorem markBad_frame (d : Fin 16) (b : Nat) (s : State) :
    (markBad d b s).time = s.time ∧ (markBad d b s).isl = s.isl ∧ (markBad d b s).life = s.life
     ∧ (markBad d b s).mode = s.mode ∧ (markBad d b s).nor = s.nor ∧ (markBad d b s).dict = s.dict
     ∧ (markBad d b s).mbx = s.mbx ∧ (markBad d b s).win = s.win ∧ (markBad d b s).port = s.port
     ∧ (markBad d b s).adm = s.adm ∧ (markBad d b s).pack = s.pack ∧ (markBad d b s).bank = s.bank
     ∧ (markBad d b s).packEst = s.packEst ∧ (markBad d b s).bankEst = s.bankEst ∧ (markBad d b s).hold = s.hold
     ∧ (markBad d b s).rails = s.rails ∧ (markBad d b s).keep = s.keep ∧ (markBad d b s).tremor = s.tremor
     ∧ (markBad d b s).outage = s.outage ∧ (markBad d b s).video = s.video ∧ (markBad d b s).pending = s.pending := by
  simp only [markBad, ite_proj]
  (repeat' split) <;> simp_all

@[simp] theorem noteRebuild_frame (d : Fin 16) (s : State) :
    (noteRebuild d s).time = s.time ∧ (noteRebuild d s).isl = s.isl ∧ (noteRebuild d s).life = s.life
     ∧ (noteRebuild d s).mode = s.mode ∧ (noteRebuild d s).nor = s.nor ∧ (noteRebuild d s).dict = s.dict
     ∧ (noteRebuild d s).mbx = s.mbx ∧ (noteRebuild d s).win = s.win ∧ (noteRebuild d s).port = s.port
     ∧ (noteRebuild d s).adm = s.adm ∧ (noteRebuild d s).pack = s.pack ∧ (noteRebuild d s).bank = s.bank
     ∧ (noteRebuild d s).packEst = s.packEst ∧ (noteRebuild d s).bankEst = s.bankEst ∧ (noteRebuild d s).hold = s.hold
     ∧ (noteRebuild d s).rails = s.rails ∧ (noteRebuild d s).keep = s.keep ∧ (noteRebuild d s).tremor = s.tremor
     ∧ (noteRebuild d s).outage = s.outage ∧ (noteRebuild d s).video = s.video ∧ (noteRebuild d s).pending = s.pending := by
  simp only [noteRebuild, ite_proj]
  (repeat' split) <;> simp_all

@[simp] theorem restoreData_frame (k : Nat) (s : State) :
    (restoreData k s).time = s.time ∧ (restoreData k s).isl = s.isl ∧ (restoreData k s).life = s.life
     ∧ (restoreData k s).mode = s.mode ∧ (restoreData k s).nor = s.nor ∧ (restoreData k s).dict = s.dict
     ∧ (restoreData k s).can = s.can ∧ (restoreData k s).mbx = s.mbx ∧ (restoreData k s).win = s.win
     ∧ (restoreData k s).port = s.port ∧ (restoreData k s).adm = s.adm ∧ (restoreData k s).pack = s.pack
     ∧ (restoreData k s).bank = s.bank ∧ (restoreData k s).packEst = s.packEst ∧ (restoreData k s).bankEst = s.bankEst
     ∧ (restoreData k s).hold = s.hold ∧ (restoreData k s).rails = s.rails ∧ (restoreData k s).keep = s.keep
     ∧ (restoreData k s).tremor = s.tremor ∧ (restoreData k s).outage = s.outage ∧ (restoreData k s).video = s.video
     ∧ (restoreData k s).ev = s.ev ∧ (restoreData k s).out = s.out ∧ (restoreData k s).pending = s.pending := by
  unfold restoreData
  (repeat' split) <;> simp

@[simp] theorem loseSlot_frame (k : Nat) (s : State) :
    (loseSlot k s).time = s.time ∧ (loseSlot k s).isl = s.isl ∧ (loseSlot k s).life = s.life
     ∧ (loseSlot k s).mode = s.mode ∧ (loseSlot k s).nor = s.nor ∧ (loseSlot k s).dict = s.dict
     ∧ (loseSlot k s).mbx = s.mbx ∧ (loseSlot k s).win = s.win ∧ (loseSlot k s).port = s.port ∧ (loseSlot k s).adm = s.adm
     ∧ (loseSlot k s).pack = s.pack ∧ (loseSlot k s).bank = s.bank ∧ (loseSlot k s).packEst = s.packEst
     ∧ (loseSlot k s).bankEst = s.bankEst ∧ (loseSlot k s).hold = s.hold ∧ (loseSlot k s).rails = s.rails
     ∧ (loseSlot k s).keep = s.keep ∧ (loseSlot k s).tremor = s.tremor ∧ (loseSlot k s).outage = s.outage
     ∧ (loseSlot k s).video = s.video ∧ (loseSlot k s).pending = s.pending := by
  unfold loseSlot
  (repeat' split) <;> simp

@[simp] theorem readSlotWord_frame (k : Nat) (s : State) :
    (readSlotWord k s).time = s.time ∧ (readSlotWord k s).isl = s.isl ∧ (readSlotWord k s).life = s.life
     ∧ (readSlotWord k s).mode = s.mode ∧ (readSlotWord k s).nor = s.nor ∧ (readSlotWord k s).dict = s.dict
     ∧ (readSlotWord k s).can = s.can ∧ (readSlotWord k s).mbx = s.mbx ∧ (readSlotWord k s).win = s.win
     ∧ (readSlotWord k s).port = s.port ∧ (readSlotWord k s).cache = s.cache ∧ (readSlotWord k s).adm = s.adm
     ∧ (readSlotWord k s).pack = s.pack ∧ (readSlotWord k s).bank = s.bank ∧ (readSlotWord k s).packEst = s.packEst
     ∧ (readSlotWord k s).bankEst = s.bankEst ∧ (readSlotWord k s).hold = s.hold ∧ (readSlotWord k s).rails = s.rails
     ∧ (readSlotWord k s).keep = s.keep ∧ (readSlotWord k s).tremor = s.tremor ∧ (readSlotWord k s).outage = s.outage
     ∧ (readSlotWord k s).flash = s.flash ∧ (readSlotWord k s).video = s.video ∧ (readSlotWord k s).ev = s.ev
     ∧ (readSlotWord k s).pending = s.pending := by
  unfold readSlotWord
  (repeat' split) <;> simp

theorem readSlots_frame (gone : Fin 16 → Fin 16 → Nat → Bool) (ks : List Nat) (r : ReadResult) (s : State) :
    (readSlots gone ks r s).time = s.time ∧ (readSlots gone ks r s).isl = s.isl ∧ (readSlots gone ks r s).life = s.life
     ∧ (readSlots gone ks r s).mode = s.mode ∧ (readSlots gone ks r s).nor = s.nor ∧ (readSlots gone ks r s).dict = s.dict
     ∧ (readSlots gone ks r s).mbx = s.mbx ∧ (readSlots gone ks r s).win = s.win ∧ (readSlots gone ks r s).port = s.port
     ∧ (readSlots gone ks r s).adm = s.adm ∧ (readSlots gone ks r s).pack = s.pack ∧ (readSlots gone ks r s).bank = s.bank
     ∧ (readSlots gone ks r s).packEst = s.packEst ∧ (readSlots gone ks r s).bankEst = s.bankEst
     ∧ (readSlots gone ks r s).hold = s.hold ∧ (readSlots gone ks r s).rails = s.rails
     ∧ (readSlots gone ks r s).keep = s.keep ∧ (readSlots gone ks r s).tremor = s.tremor
     ∧ (readSlots gone ks r s).outage = s.outage ∧ (readSlots gone ks r s).video = s.video
     ∧ (readSlots gone ks r s).pending = s.pending := by
  simp only [readSlots]
  repeat' split
  all_goals (try simp)
  all_goals (repeat' split)
  all_goals (try simp_all [ite_proj])

@[simp] theorem indexCopy_frame (s : State) (p : Epoch × Nat × Copy) :
    (indexCopy s p).time = s.time ∧ (indexCopy s p).isl = s.isl ∧ (indexCopy s p).life = s.life
     ∧ (indexCopy s p).mode = s.mode ∧ (indexCopy s p).nor = s.nor ∧ (indexCopy s p).dict = s.dict
     ∧ (indexCopy s p).can = s.can ∧ (indexCopy s p).mbx = s.mbx ∧ (indexCopy s p).win = s.win
     ∧ (indexCopy s p).port = s.port ∧ (indexCopy s p).adm = s.adm ∧ (indexCopy s p).pack = s.pack
     ∧ (indexCopy s p).bank = s.bank ∧ (indexCopy s p).packEst = s.packEst ∧ (indexCopy s p).bankEst = s.bankEst
     ∧ (indexCopy s p).hold = s.hold ∧ (indexCopy s p).rails = s.rails ∧ (indexCopy s p).keep = s.keep
     ∧ (indexCopy s p).tremor = s.tremor ∧ (indexCopy s p).outage = s.outage ∧ (indexCopy s p).flash = s.flash
     ∧ (indexCopy s p).video = s.video ∧ (indexCopy s p).ev = s.ev ∧ (indexCopy s p).out = s.out
     ∧ (indexCopy s p).pending = s.pending := by
  unfold indexCopy
  dsimp only
  (repeat' split) <;> simp

@[simp] theorem readMeta_frame (c : Nat) (e : Epoch) (s : State) :
    (readMeta c e s).time = s.time ∧ (readMeta c e s).isl = s.isl ∧ (readMeta c e s).life = s.life
     ∧ (readMeta c e s).mode = s.mode ∧ (readMeta c e s).nor = s.nor ∧ (readMeta c e s).dict = s.dict
     ∧ (readMeta c e s).can = s.can ∧ (readMeta c e s).mbx = s.mbx ∧ (readMeta c e s).win = s.win
     ∧ (readMeta c e s).port = s.port ∧ (readMeta c e s).cache = s.cache ∧ (readMeta c e s).adm = s.adm
     ∧ (readMeta c e s).pack = s.pack ∧ (readMeta c e s).bank = s.bank ∧ (readMeta c e s).packEst = s.packEst
     ∧ (readMeta c e s).bankEst = s.bankEst ∧ (readMeta c e s).hold = s.hold ∧ (readMeta c e s).rails = s.rails
     ∧ (readMeta c e s).keep = s.keep ∧ (readMeta c e s).tremor = s.tremor ∧ (readMeta c e s).outage = s.outage
     ∧ (readMeta c e s).flash = s.flash ∧ (readMeta c e s).video = s.video ∧ (readMeta c e s).ev = s.ev
     ∧ (readMeta c e s).pending = s.pending := by
  unfold readMeta
  (repeat' split) <;> simp

end Sys2Proof.Machine
end

