-- ==== Sys2Proof/Laws/FrameHostOps.lean ====
section
/-! SUPPORT. Frames of Machine/HostOps.lean: what each operation leaves unchanged. -/

namespace Sys2Proof.Machine

@[simp] theorem takeTurn_frame (fn : Fin 16) (qp : Fin 4) (s : State) :
    (takeTurn fn qp s).time = s.time ∧ (takeTurn fn qp s).isl = s.isl ∧ (takeTurn fn qp s).life = s.life
     ∧ (takeTurn fn qp s).mode = s.mode ∧ (takeTurn fn qp s).nor = s.nor ∧ (takeTurn fn qp s).dict = s.dict
     ∧ (takeTurn fn qp s).can = s.can ∧ (takeTurn fn qp s).mbx = s.mbx ∧ (takeTurn fn qp s).win = s.win
     ∧ (takeTurn fn qp s).cache = s.cache ∧ (takeTurn fn qp s).adm = s.adm ∧ (takeTurn fn qp s).pack = s.pack
     ∧ (takeTurn fn qp s).bank = s.bank ∧ (takeTurn fn qp s).packEst = s.packEst
     ∧ (takeTurn fn qp s).bankEst = s.bankEst ∧ (takeTurn fn qp s).hold = s.hold ∧ (takeTurn fn qp s).rails = s.rails
     ∧ (takeTurn fn qp s).keep = s.keep ∧ (takeTurn fn qp s).tremor = s.tremor ∧ (takeTurn fn qp s).outage = s.outage
     ∧ (takeTurn fn qp s).flash = s.flash ∧ (takeTurn fn qp s).video = s.video ∧ (takeTurn fn qp s).ev = s.ev
     ∧ (takeTurn fn qp s).out = s.out ∧ (takeTurn fn qp s).pending = s.pending := by
  unfold takeTurn
  (repeat' split) <;> simp

@[simp] theorem dmaWrite_frame (fn : Fin 16) (parts : List (Nat × Nat)) (bytes : List Byte) (s : State) :
    (dmaWrite fn parts bytes s).time = s.time ∧ (dmaWrite fn parts bytes s).isl = s.isl
     ∧ (dmaWrite fn parts bytes s).life = s.life ∧ (dmaWrite fn parts bytes s).mode = s.mode
     ∧ (dmaWrite fn parts bytes s).nor = s.nor ∧ (dmaWrite fn parts bytes s).dict = s.dict
     ∧ (dmaWrite fn parts bytes s).can = s.can ∧ (dmaWrite fn parts bytes s).mbx = s.mbx
     ∧ (dmaWrite fn parts bytes s).win = s.win ∧ (dmaWrite fn parts bytes s).port = s.port
     ∧ (dmaWrite fn parts bytes s).cache = s.cache ∧ (dmaWrite fn parts bytes s).adm = s.adm
     ∧ (dmaWrite fn parts bytes s).pack = s.pack ∧ (dmaWrite fn parts bytes s).bank = s.bank
     ∧ (dmaWrite fn parts bytes s).packEst = s.packEst ∧ (dmaWrite fn parts bytes s).bankEst = s.bankEst
     ∧ (dmaWrite fn parts bytes s).hold = s.hold ∧ (dmaWrite fn parts bytes s).rails = s.rails
     ∧ (dmaWrite fn parts bytes s).keep = s.keep ∧ (dmaWrite fn parts bytes s).tremor = s.tremor
     ∧ (dmaWrite fn parts bytes s).outage = s.outage ∧ (dmaWrite fn parts bytes s).flash = s.flash
     ∧ (dmaWrite fn parts bytes s).video = s.video ∧ (dmaWrite fn parts bytes s).ev = s.ev
     ∧ (dmaWrite fn parts bytes s).pending = s.pending := by
  unfold dmaWrite
  (repeat' split) <;> simp

@[simp] theorem dmaRead_frame (fn : Fin 16) (parts : List (Nat × Nat)) (s : State) :
    (dmaRead fn parts s).time = s.time ∧ (dmaRead fn parts s).isl = s.isl ∧ (dmaRead fn parts s).life = s.life
     ∧ (dmaRead fn parts s).mode = s.mode ∧ (dmaRead fn parts s).nor = s.nor ∧ (dmaRead fn parts s).dict = s.dict
     ∧ (dmaRead fn parts s).can = s.can ∧ (dmaRead fn parts s).mbx = s.mbx ∧ (dmaRead fn parts s).win = s.win
     ∧ (dmaRead fn parts s).port = s.port ∧ (dmaRead fn parts s).cache = s.cache ∧ (dmaRead fn parts s).adm = s.adm
     ∧ (dmaRead fn parts s).pack = s.pack ∧ (dmaRead fn parts s).bank = s.bank
     ∧ (dmaRead fn parts s).packEst = s.packEst ∧ (dmaRead fn parts s).bankEst = s.bankEst
     ∧ (dmaRead fn parts s).hold = s.hold ∧ (dmaRead fn parts s).rails = s.rails ∧ (dmaRead fn parts s).keep = s.keep
     ∧ (dmaRead fn parts s).tremor = s.tremor ∧ (dmaRead fn parts s).outage = s.outage
     ∧ (dmaRead fn parts s).flash = s.flash ∧ (dmaRead fn parts s).video = s.video ∧ (dmaRead fn parts s).ev = s.ev
     ∧ (dmaRead fn parts s).pending = s.pending := by
  unfold dmaRead
  (repeat' split) <;> simp

@[simp] theorem takeFnTurn_frame (fn : Fin 16) (s : State) :
    (takeFnTurn fn s).time = s.time ∧ (takeFnTurn fn s).isl = s.isl ∧ (takeFnTurn fn s).life = s.life
     ∧ (takeFnTurn fn s).mode = s.mode ∧ (takeFnTurn fn s).nor = s.nor ∧ (takeFnTurn fn s).dict = s.dict
     ∧ (takeFnTurn fn s).can = s.can ∧ (takeFnTurn fn s).mbx = s.mbx ∧ (takeFnTurn fn s).win = s.win
     ∧ (takeFnTurn fn s).cache = s.cache ∧ (takeFnTurn fn s).adm = s.adm ∧ (takeFnTurn fn s).pack = s.pack
     ∧ (takeFnTurn fn s).bank = s.bank ∧ (takeFnTurn fn s).packEst = s.packEst ∧ (takeFnTurn fn s).bankEst = s.bankEst
     ∧ (takeFnTurn fn s).hold = s.hold ∧ (takeFnTurn fn s).rails = s.rails ∧ (takeFnTurn fn s).keep = s.keep
     ∧ (takeFnTurn fn s).tremor = s.tremor ∧ (takeFnTurn fn s).outage = s.outage ∧ (takeFnTurn fn s).flash = s.flash
     ∧ (takeFnTurn fn s).video = s.video ∧ (takeFnTurn fn s).ev = s.ev ∧ (takeFnTurn fn s).out = s.out
     ∧ (takeFnTurn fn s).pending = s.pending := by
  unfold takeFnTurn
  (repeat' split) <;> simp

@[simp] theorem signal_frame (fn : Fin 16) (v : Nat) (s : State) :
    (signal fn v s).time = s.time ∧ (signal fn v s).isl = s.isl ∧ (signal fn v s).life = s.life
     ∧ (signal fn v s).mode = s.mode ∧ (signal fn v s).nor = s.nor ∧ (signal fn v s).dict = s.dict
     ∧ (signal fn v s).can = s.can ∧ (signal fn v s).mbx = s.mbx ∧ (signal fn v s).win = s.win
     ∧ (signal fn v s).cache = s.cache ∧ (signal fn v s).adm = s.adm ∧ (signal fn v s).pack = s.pack
     ∧ (signal fn v s).bank = s.bank ∧ (signal fn v s).packEst = s.packEst ∧ (signal fn v s).bankEst = s.bankEst
     ∧ (signal fn v s).hold = s.hold ∧ (signal fn v s).rails = s.rails ∧ (signal fn v s).keep = s.keep
     ∧ (signal fn v s).tremor = s.tremor ∧ (signal fn v s).outage = s.outage ∧ (signal fn v s).flash = s.flash
     ∧ (signal fn v s).video = s.video ∧ (signal fn v s).ev = s.ev ∧ (signal fn v s).pending = s.pending := by
  unfold signal
  (repeat' split) <;> simp

@[simp] theorem sendPending_frame (fn : Fin 16) (s : State) :
    (sendPending fn s).time = s.time ∧ (sendPending fn s).isl = s.isl ∧ (sendPending fn s).life = s.life
     ∧ (sendPending fn s).mode = s.mode ∧ (sendPending fn s).nor = s.nor ∧ (sendPending fn s).dict = s.dict
     ∧ (sendPending fn s).can = s.can ∧ (sendPending fn s).mbx = s.mbx ∧ (sendPending fn s).win = s.win
     ∧ (sendPending fn s).cache = s.cache ∧ (sendPending fn s).adm = s.adm ∧ (sendPending fn s).pack = s.pack
     ∧ (sendPending fn s).bank = s.bank ∧ (sendPending fn s).packEst = s.packEst
     ∧ (sendPending fn s).bankEst = s.bankEst ∧ (sendPending fn s).hold = s.hold ∧ (sendPending fn s).rails = s.rails
     ∧ (sendPending fn s).keep = s.keep ∧ (sendPending fn s).tremor = s.tremor ∧ (sendPending fn s).outage = s.outage
     ∧ (sendPending fn s).flash = s.flash ∧ (sendPending fn s).video = s.video ∧ (sendPending fn s).ev = s.ev
     ∧ (sendPending fn s).pending = s.pending := by
  unfold sendPending
  (repeat' split) <;> simp

@[simp] theorem raiseTenant_frame (fn : Fin 16) (k : Nat) (vs : List (Nat × Nat)) (s : State) :
    (raiseTenant fn k vs s).time = s.time ∧ (raiseTenant fn k vs s).isl = s.isl ∧ (raiseTenant fn k vs s).life = s.life
     ∧ (raiseTenant fn k vs s).mode = s.mode ∧ (raiseTenant fn k vs s).nor = s.nor ∧ (raiseTenant fn k vs s).dict = s.dict
     ∧ (raiseTenant fn k vs s).mbx = s.mbx ∧ (raiseTenant fn k vs s).win = s.win ∧ (raiseTenant fn k vs s).port = s.port
     ∧ (raiseTenant fn k vs s).cache = s.cache ∧ (raiseTenant fn k vs s).adm = s.adm
     ∧ (raiseTenant fn k vs s).pack = s.pack ∧ (raiseTenant fn k vs s).bank = s.bank
     ∧ (raiseTenant fn k vs s).packEst = s.packEst ∧ (raiseTenant fn k vs s).bankEst = s.bankEst
     ∧ (raiseTenant fn k vs s).hold = s.hold ∧ (raiseTenant fn k vs s).rails = s.rails
     ∧ (raiseTenant fn k vs s).keep = s.keep ∧ (raiseTenant fn k vs s).tremor = s.tremor
     ∧ (raiseTenant fn k vs s).outage = s.outage ∧ (raiseTenant fn k vs s).flash = s.flash
     ∧ (raiseTenant fn k vs s).video = s.video ∧ (raiseTenant fn k vs s).pending = s.pending := by
  unfold raiseTenant
  (repeat' split) <;> simp

@[simp] theorem stopPair_frame (fn : Fin 16) (qp : Fin 4) (code : Byte) (s : State) :
    (stopPair fn qp code s).time = s.time ∧ (stopPair fn qp code s).isl = s.isl ∧ (stopPair fn qp code s).life = s.life
     ∧ (stopPair fn qp code s).mode = s.mode ∧ (stopPair fn qp code s).nor = s.nor ∧ (stopPair fn qp code s).dict = s.dict
     ∧ (stopPair fn qp code s).mbx = s.mbx ∧ (stopPair fn qp code s).win = s.win ∧ (stopPair fn qp code s).cache = s.cache
     ∧ (stopPair fn qp code s).adm = s.adm ∧ (stopPair fn qp code s).pack = s.pack ∧ (stopPair fn qp code s).bank = s.bank
     ∧ (stopPair fn qp code s).packEst = s.packEst ∧ (stopPair fn qp code s).bankEst = s.bankEst
     ∧ (stopPair fn qp code s).hold = s.hold ∧ (stopPair fn qp code s).rails = s.rails
     ∧ (stopPair fn qp code s).keep = s.keep ∧ (stopPair fn qp code s).tremor = s.tremor
     ∧ (stopPair fn qp code s).outage = s.outage ∧ (stopPair fn qp code s).flash = s.flash
     ∧ (stopPair fn qp code s).video = s.video ∧ (stopPair fn qp code s).pending = s.pending := by
  unfold stopPair
  (repeat' split) <;> simp

@[simp] theorem takeTail_frame (fn : Fin 16) (qp : Fin 4) (v : BitVec 32) (s : State) :
    (takeTail fn qp v s).isl = s.isl ∧ (takeTail fn qp v s).life = s.life ∧ (takeTail fn qp v s).mode = s.mode
     ∧ (takeTail fn qp v s).nor = s.nor ∧ (takeTail fn qp v s).dict = s.dict ∧ (takeTail fn qp v s).mbx = s.mbx
     ∧ (takeTail fn qp v s).win = s.win ∧ (takeTail fn qp v s).cache = s.cache ∧ (takeTail fn qp v s).adm = s.adm
     ∧ (takeTail fn qp v s).pack = s.pack ∧ (takeTail fn qp v s).bank = s.bank ∧ (takeTail fn qp v s).packEst = s.packEst
     ∧ (takeTail fn qp v s).bankEst = s.bankEst ∧ (takeTail fn qp v s).hold = s.hold
     ∧ (takeTail fn qp v s).rails = s.rails ∧ (takeTail fn qp v s).keep = s.keep ∧ (takeTail fn qp v s).tremor = s.tremor
     ∧ (takeTail fn qp v s).outage = s.outage ∧ (takeTail fn qp v s).flash = s.flash
     ∧ (takeTail fn qp v s).video = s.video ∧ (takeTail fn qp v s).pending = s.pending := by
  unfold takeTail
  (repeat' split) <;> simp

@[simp] theorem takeCqHead_frame (fn : Fin 16) (qp : Fin 4) (v : BitVec 32) (s : State) :
    (takeCqHead fn qp v s).isl = s.isl ∧ (takeCqHead fn qp v s).life = s.life ∧ (takeCqHead fn qp v s).mode = s.mode
     ∧ (takeCqHead fn qp v s).nor = s.nor ∧ (takeCqHead fn qp v s).dict = s.dict ∧ (takeCqHead fn qp v s).mbx = s.mbx
     ∧ (takeCqHead fn qp v s).win = s.win ∧ (takeCqHead fn qp v s).cache = s.cache ∧ (takeCqHead fn qp v s).adm = s.adm
     ∧ (takeCqHead fn qp v s).pack = s.pack ∧ (takeCqHead fn qp v s).bank = s.bank
     ∧ (takeCqHead fn qp v s).packEst = s.packEst ∧ (takeCqHead fn qp v s).bankEst = s.bankEst
     ∧ (takeCqHead fn qp v s).hold = s.hold ∧ (takeCqHead fn qp v s).rails = s.rails
     ∧ (takeCqHead fn qp v s).keep = s.keep ∧ (takeCqHead fn qp v s).tremor = s.tremor
     ∧ (takeCqHead fn qp v s).outage = s.outage ∧ (takeCqHead fn qp v s).flash = s.flash
     ∧ (takeCqHead fn qp v s).video = s.video ∧ (takeCqHead fn qp v s).pending = s.pending := by
  unfold takeCqHead
  (repeat' split) <;> simp

@[simp] theorem takeDoorbell_frame (fn : Fin 16) (qp : Fin 4) (head : Bool) (v : BitVec 32) (s : State) :
    (takeDoorbell fn qp head v s).isl = s.isl ∧ (takeDoorbell fn qp head v s).life = s.life
     ∧ (takeDoorbell fn qp head v s).mode = s.mode ∧ (takeDoorbell fn qp head v s).nor = s.nor
     ∧ (takeDoorbell fn qp head v s).dict = s.dict ∧ (takeDoorbell fn qp head v s).mbx = s.mbx
     ∧ (takeDoorbell fn qp head v s).win = s.win ∧ (takeDoorbell fn qp head v s).cache = s.cache
     ∧ (takeDoorbell fn qp head v s).adm = s.adm ∧ (takeDoorbell fn qp head v s).pack = s.pack
     ∧ (takeDoorbell fn qp head v s).bank = s.bank ∧ (takeDoorbell fn qp head v s).packEst = s.packEst
     ∧ (takeDoorbell fn qp head v s).bankEst = s.bankEst ∧ (takeDoorbell fn qp head v s).hold = s.hold
     ∧ (takeDoorbell fn qp head v s).rails = s.rails ∧ (takeDoorbell fn qp head v s).keep = s.keep
     ∧ (takeDoorbell fn qp head v s).tremor = s.tremor ∧ (takeDoorbell fn qp head v s).outage = s.outage
     ∧ (takeDoorbell fn qp head v s).flash = s.flash ∧ (takeDoorbell fn qp head v s).video = s.video
     ∧ (takeDoorbell fn qp head v s).pending = s.pending := by
  unfold takeDoorbell
  (repeat' split) <;> simp

@[simp] theorem replayTails_frame (fn : Fin 16) (s : State) :
    (replayTails fn s).isl = s.isl ∧ (replayTails fn s).life = s.life ∧ (replayTails fn s).mode = s.mode
     ∧ (replayTails fn s).nor = s.nor ∧ (replayTails fn s).dict = s.dict ∧ (replayTails fn s).mbx = s.mbx
     ∧ (replayTails fn s).win = s.win ∧ (replayTails fn s).cache = s.cache ∧ (replayTails fn s).adm = s.adm
     ∧ (replayTails fn s).pack = s.pack ∧ (replayTails fn s).bank = s.bank ∧ (replayTails fn s).packEst = s.packEst
     ∧ (replayTails fn s).bankEst = s.bankEst ∧ (replayTails fn s).hold = s.hold ∧ (replayTails fn s).rails = s.rails
     ∧ (replayTails fn s).keep = s.keep ∧ (replayTails fn s).tremor = s.tremor ∧ (replayTails fn s).outage = s.outage
     ∧ (replayTails fn s).flash = s.flash ∧ (replayTails fn s).video = s.video ∧ (replayTails fn s).pending = s.pending := by
  unfold replayTails
  (repeat' split) <;> simp

@[simp] theorem dropCmd_frame (id : Nat) (s : State) :
    (dropCmd id s).time = s.time ∧ (dropCmd id s).isl = s.isl ∧ (dropCmd id s).life = s.life
     ∧ (dropCmd id s).mode = s.mode ∧ (dropCmd id s).nor = s.nor ∧ (dropCmd id s).dict = s.dict
     ∧ (dropCmd id s).can = s.can ∧ (dropCmd id s).mbx = s.mbx ∧ (dropCmd id s).win = s.win
     ∧ (dropCmd id s).cache = s.cache ∧ (dropCmd id s).adm = s.adm ∧ (dropCmd id s).pack = s.pack
     ∧ (dropCmd id s).bank = s.bank ∧ (dropCmd id s).packEst = s.packEst ∧ (dropCmd id s).bankEst = s.bankEst
     ∧ (dropCmd id s).hold = s.hold ∧ (dropCmd id s).rails = s.rails ∧ (dropCmd id s).keep = s.keep
     ∧ (dropCmd id s).tremor = s.tremor ∧ (dropCmd id s).outage = s.outage ∧ (dropCmd id s).flash = s.flash
     ∧ (dropCmd id s).video = s.video ∧ (dropCmd id s).ev = s.ev ∧ (dropCmd id s).out = s.out
     ∧ (dropCmd id s).pending = s.pending := by
  unfold dropCmd
  (repeat' split) <;> simp

@[simp] theorem modCmd_frame (id : Nat) (f : Cmd → Cmd) (s : State) :
    (modCmd id f s).time = s.time ∧ (modCmd id f s).isl = s.isl ∧ (modCmd id f s).life = s.life
     ∧ (modCmd id f s).mode = s.mode ∧ (modCmd id f s).nor = s.nor ∧ (modCmd id f s).dict = s.dict
     ∧ (modCmd id f s).can = s.can ∧ (modCmd id f s).mbx = s.mbx ∧ (modCmd id f s).win = s.win
     ∧ (modCmd id f s).cache = s.cache ∧ (modCmd id f s).adm = s.adm ∧ (modCmd id f s).pack = s.pack
     ∧ (modCmd id f s).bank = s.bank ∧ (modCmd id f s).packEst = s.packEst ∧ (modCmd id f s).bankEst = s.bankEst
     ∧ (modCmd id f s).hold = s.hold ∧ (modCmd id f s).rails = s.rails ∧ (modCmd id f s).keep = s.keep
     ∧ (modCmd id f s).tremor = s.tremor ∧ (modCmd id f s).outage = s.outage ∧ (modCmd id f s).flash = s.flash
     ∧ (modCmd id f s).video = s.video ∧ (modCmd id f s).ev = s.ev ∧ (modCmd id f s).out = s.out
     ∧ (modCmd id f s).pending = s.pending := by
  unfold modCmd
  (repeat' split) <;> simp

@[simp] theorem complete_frame (c : Cmd) (x : Completion) (s : State) :
    (complete c x s).time = s.time ∧ (complete c x s).isl = s.isl ∧ (complete c x s).life = s.life
     ∧ (complete c x s).mode = s.mode ∧ (complete c x s).nor = s.nor ∧ (complete c x s).dict = s.dict
     ∧ (complete c x s).can = s.can ∧ (complete c x s).mbx = s.mbx ∧ (complete c x s).win = s.win
     ∧ (complete c x s).adm = s.adm ∧ (complete c x s).pack = s.pack ∧ (complete c x s).bank = s.bank
     ∧ (complete c x s).packEst = s.packEst ∧ (complete c x s).bankEst = s.bankEst ∧ (complete c x s).hold = s.hold
     ∧ (complete c x s).rails = s.rails ∧ (complete c x s).keep = s.keep ∧ (complete c x s).tremor = s.tremor
     ∧ (complete c x s).outage = s.outage ∧ (complete c x s).flash = s.flash ∧ (complete c x s).video = s.video
     ∧ (complete c x s).ev = s.ev ∧ (complete c x s).out = s.out ∧ (complete c x s).pending = s.pending := by
  unfold complete
  (repeat' split) <;> simp

@[simp] theorem endCmd_frame (c : Cmd) (st : Status) (result : Nat) (s : State) :
    (endCmd c st result s).time = s.time ∧ (endCmd c st result s).isl = s.isl ∧ (endCmd c st result s).life = s.life
     ∧ (endCmd c st result s).mode = s.mode ∧ (endCmd c st result s).nor = s.nor ∧ (endCmd c st result s).dict = s.dict
     ∧ (endCmd c st result s).can = s.can ∧ (endCmd c st result s).mbx = s.mbx ∧ (endCmd c st result s).win = s.win
     ∧ (endCmd c st result s).adm = s.adm ∧ (endCmd c st result s).pack = s.pack ∧ (endCmd c st result s).bank = s.bank
     ∧ (endCmd c st result s).packEst = s.packEst ∧ (endCmd c st result s).bankEst = s.bankEst
     ∧ (endCmd c st result s).hold = s.hold ∧ (endCmd c st result s).rails = s.rails
     ∧ (endCmd c st result s).keep = s.keep ∧ (endCmd c st result s).tremor = s.tremor
     ∧ (endCmd c st result s).outage = s.outage ∧ (endCmd c st result s).flash = s.flash
     ∧ (endCmd c st result s).video = s.video ∧ (endCmd c st result s).ev = s.ev ∧ (endCmd c st result s).out = s.out
     ∧ (endCmd c st result s).pending = s.pending := by
  unfold endCmd
  (repeat' split) <;> simp

theorem endField_frame (c : Cmd) (off : Nat) (s : State) :
    (endField c off s).time = s.time ∧ (endField c off s).isl = s.isl ∧ (endField c off s).life = s.life
     ∧ (endField c off s).mode = s.mode ∧ (endField c off s).nor = s.nor ∧ (endField c off s).dict = s.dict
     ∧ (endField c off s).can = s.can ∧ (endField c off s).mbx = s.mbx ∧ (endField c off s).win = s.win
     ∧ (endField c off s).adm = s.adm ∧ (endField c off s).pack = s.pack ∧ (endField c off s).bank = s.bank
     ∧ (endField c off s).packEst = s.packEst ∧ (endField c off s).bankEst = s.bankEst ∧ (endField c off s).hold = s.hold
     ∧ (endField c off s).rails = s.rails ∧ (endField c off s).keep = s.keep ∧ (endField c off s).tremor = s.tremor
     ∧ (endField c off s).outage = s.outage ∧ (endField c off s).flash = s.flash ∧ (endField c off s).video = s.video
     ∧ (endField c off s).ev = s.ev ∧ (endField c off s).out = s.out ∧ (endField c off s).pending = s.pending := by
  unfold endField
  (repeat' split) <;> simp

theorem postCompletion_frame (fn : Fin 16) (qp : Fin 4) (s : State) :
    (postCompletion fn qp s).time = s.time ∧ (postCompletion fn qp s).isl = s.isl ∧ (postCompletion fn qp s).life = s.life
     ∧ (postCompletion fn qp s).mode = s.mode ∧ (postCompletion fn qp s).nor = s.nor
     ∧ (postCompletion fn qp s).dict = s.dict ∧ (postCompletion fn qp s).can = s.can
     ∧ (postCompletion fn qp s).mbx = s.mbx ∧ (postCompletion fn qp s).win = s.win
     ∧ (postCompletion fn qp s).cache = s.cache ∧ (postCompletion fn qp s).adm = s.adm
     ∧ (postCompletion fn qp s).pack = s.pack ∧ (postCompletion fn qp s).bank = s.bank
     ∧ (postCompletion fn qp s).packEst = s.packEst ∧ (postCompletion fn qp s).bankEst = s.bankEst
     ∧ (postCompletion fn qp s).hold = s.hold ∧ (postCompletion fn qp s).rails = s.rails
     ∧ (postCompletion fn qp s).keep = s.keep ∧ (postCompletion fn qp s).tremor = s.tremor
     ∧ (postCompletion fn qp s).outage = s.outage ∧ (postCompletion fn qp s).flash = s.flash
     ∧ (postCompletion fn qp s).video = s.video ∧ (postCompletion fn qp s).ev = s.ev
     ∧ (postCompletion fn qp s).pending = s.pending := by
  unfold postCompletion
  dsimp only
  (repeat' split) <;> simp

theorem signalPair_frame (fn : Fin 16) (qp : Fin 4) (s : State) :
    (signalPair fn qp s).time = s.time ∧ (signalPair fn qp s).isl = s.isl ∧ (signalPair fn qp s).life = s.life
     ∧ (signalPair fn qp s).mode = s.mode ∧ (signalPair fn qp s).nor = s.nor ∧ (signalPair fn qp s).dict = s.dict
     ∧ (signalPair fn qp s).can = s.can ∧ (signalPair fn qp s).mbx = s.mbx ∧ (signalPair fn qp s).win = s.win
     ∧ (signalPair fn qp s).cache = s.cache ∧ (signalPair fn qp s).adm = s.adm ∧ (signalPair fn qp s).pack = s.pack
     ∧ (signalPair fn qp s).bank = s.bank ∧ (signalPair fn qp s).packEst = s.packEst
     ∧ (signalPair fn qp s).bankEst = s.bankEst ∧ (signalPair fn qp s).hold = s.hold
     ∧ (signalPair fn qp s).rails = s.rails ∧ (signalPair fn qp s).keep = s.keep ∧ (signalPair fn qp s).tremor = s.tremor
     ∧ (signalPair fn qp s).outage = s.outage ∧ (signalPair fn qp s).flash = s.flash
     ∧ (signalPair fn qp s).video = s.video ∧ (signalPair fn qp s).ev = s.ev ∧ (signalPair fn qp s).pending = s.pending := by
  unfold signalPair
  (repeat' split) <;> simp

@[simp] theorem dmaFault_frame (c : Cmd) (s : State) :
    (dmaFault c s).time = s.time ∧ (dmaFault c s).isl = s.isl ∧ (dmaFault c s).life = s.life
     ∧ (dmaFault c s).mode = s.mode ∧ (dmaFault c s).nor = s.nor ∧ (dmaFault c s).dict = s.dict
     ∧ (dmaFault c s).mbx = s.mbx ∧ (dmaFault c s).win = s.win ∧ (dmaFault c s).adm = s.adm
     ∧ (dmaFault c s).pack = s.pack ∧ (dmaFault c s).bank = s.bank ∧ (dmaFault c s).packEst = s.packEst
     ∧ (dmaFault c s).bankEst = s.bankEst ∧ (dmaFault c s).hold = s.hold ∧ (dmaFault c s).rails = s.rails
     ∧ (dmaFault c s).keep = s.keep ∧ (dmaFault c s).tremor = s.tremor ∧ (dmaFault c s).outage = s.outage
     ∧ (dmaFault c s).flash = s.flash ∧ (dmaFault c s).video = s.video ∧ (dmaFault c s).pending = s.pending := by
  unfold dmaFault
  (repeat' split) <;> simp

@[simp] theorem earlierPuts_frame (s : State) :
    (earlierPuts s).time = s.time ∧ (earlierPuts s).isl = s.isl ∧ (earlierPuts s).life = s.life
     ∧ (earlierPuts s).mode = s.mode ∧ (earlierPuts s).nor = s.nor ∧ (earlierPuts s).dict = s.dict
     ∧ (earlierPuts s).can = s.can ∧ (earlierPuts s).mbx = s.mbx ∧ (earlierPuts s).win = s.win
     ∧ (earlierPuts s).port = s.port ∧ (earlierPuts s).adm = s.adm ∧ (earlierPuts s).pack = s.pack
     ∧ (earlierPuts s).bank = s.bank ∧ (earlierPuts s).packEst = s.packEst ∧ (earlierPuts s).bankEst = s.bankEst
     ∧ (earlierPuts s).hold = s.hold ∧ (earlierPuts s).rails = s.rails ∧ (earlierPuts s).keep = s.keep
     ∧ (earlierPuts s).tremor = s.tremor ∧ (earlierPuts s).outage = s.outage ∧ (earlierPuts s).flash = s.flash
     ∧ (earlierPuts s).video = s.video ∧ (earlierPuts s).ev = s.ev ∧ (earlierPuts s).out = s.out
     ∧ (earlierPuts s).pending = s.pending := by
  unfold earlierPuts
  (repeat' split) <;> simp

@[simp] theorem noteThrottle_frame (n : Fin 16) (new : Nat) (s : State) :
    (noteThrottle n new s).time = s.time ∧ (noteThrottle n new s).isl = s.isl ∧ (noteThrottle n new s).life = s.life
     ∧ (noteThrottle n new s).mode = s.mode ∧ (noteThrottle n new s).nor = s.nor ∧ (noteThrottle n new s).dict = s.dict
     ∧ (noteThrottle n new s).mbx = s.mbx ∧ (noteThrottle n new s).win = s.win ∧ (noteThrottle n new s).port = s.port
     ∧ (noteThrottle n new s).pack = s.pack ∧ (noteThrottle n new s).bank = s.bank
     ∧ (noteThrottle n new s).packEst = s.packEst ∧ (noteThrottle n new s).bankEst = s.bankEst
     ∧ (noteThrottle n new s).hold = s.hold ∧ (noteThrottle n new s).rails = s.rails
     ∧ (noteThrottle n new s).keep = s.keep ∧ (noteThrottle n new s).tremor = s.tremor
     ∧ (noteThrottle n new s).outage = s.outage ∧ (noteThrottle n new s).flash = s.flash
     ∧ (noteThrottle n new s).video = s.video ∧ (noteThrottle n new s).pending = s.pending := by
  unfold noteThrottle
  (repeat' split) <;> simp

@[simp] theorem throttlePut_frame (c : Cmd) (s : State) :
    (throttlePut c s).time = s.time ∧ (throttlePut c s).isl = s.isl ∧ (throttlePut c s).life = s.life
     ∧ (throttlePut c s).mode = s.mode ∧ (throttlePut c s).nor = s.nor ∧ (throttlePut c s).dict = s.dict
     ∧ (throttlePut c s).mbx = s.mbx ∧ (throttlePut c s).win = s.win ∧ (throttlePut c s).pack = s.pack
     ∧ (throttlePut c s).bank = s.bank ∧ (throttlePut c s).packEst = s.packEst ∧ (throttlePut c s).bankEst = s.bankEst
     ∧ (throttlePut c s).hold = s.hold ∧ (throttlePut c s).rails = s.rails ∧ (throttlePut c s).keep = s.keep
     ∧ (throttlePut c s).tremor = s.tremor ∧ (throttlePut c s).outage = s.outage ∧ (throttlePut c s).flash = s.flash
     ∧ (throttlePut c s).video = s.video ∧ (throttlePut c s).pending = s.pending := by
  unfold throttlePut
  (repeat' split) <;> simp

@[simp] theorem writeBlock_frame (n : Fin 16) (vol : BitVec 32) (seq : Nat) (dirty recording : Bool) (p : Nat × Block) (s : State) :
    (writeBlock n vol seq dirty recording p s).time = s.time ∧ (writeBlock n vol seq dirty recording p s).isl = s.isl
     ∧ (writeBlock n vol seq dirty recording p s).life = s.life ∧ (writeBlock n vol seq dirty recording p s).mode = s.mode
     ∧ (writeBlock n vol seq dirty recording p s).nor = s.nor ∧ (writeBlock n vol seq dirty recording p s).dict = s.dict
     ∧ (writeBlock n vol seq dirty recording p s).can = s.can ∧ (writeBlock n vol seq dirty recording p s).mbx = s.mbx
     ∧ (writeBlock n vol seq dirty recording p s).win = s.win ∧ (writeBlock n vol seq dirty recording p s).port = s.port
     ∧ (writeBlock n vol seq dirty recording p s).adm = s.adm ∧ (writeBlock n vol seq dirty recording p s).pack = s.pack
     ∧ (writeBlock n vol seq dirty recording p s).bank = s.bank
     ∧ (writeBlock n vol seq dirty recording p s).packEst = s.packEst
     ∧ (writeBlock n vol seq dirty recording p s).bankEst = s.bankEst
     ∧ (writeBlock n vol seq dirty recording p s).hold = s.hold
     ∧ (writeBlock n vol seq dirty recording p s).rails = s.rails
     ∧ (writeBlock n vol seq dirty recording p s).keep = s.keep
     ∧ (writeBlock n vol seq dirty recording p s).tremor = s.tremor
     ∧ (writeBlock n vol seq dirty recording p s).outage = s.outage
     ∧ (writeBlock n vol seq dirty recording p s).video = s.video ∧ (writeBlock n vol seq dirty recording p s).ev = s.ev
     ∧ (writeBlock n vol seq dirty recording p s).out = s.out
     ∧ (writeBlock n vol seq dirty recording p s).pending = s.pending := by
  unfold writeBlock
  dsimp only
  (repeat' split) <;> simp

@[simp] theorem ensureKey_frame (n : Fin 16) (s : State) :
    (ensureKey n s).time = s.time ∧ (ensureKey n s).isl = s.isl ∧ (ensureKey n s).life = s.life
     ∧ (ensureKey n s).mode = s.mode ∧ (ensureKey n s).nor = s.nor ∧ (ensureKey n s).dict = s.dict
     ∧ (ensureKey n s).can = s.can ∧ (ensureKey n s).mbx = s.mbx ∧ (ensureKey n s).win = s.win
     ∧ (ensureKey n s).port = s.port ∧ (ensureKey n s).adm = s.adm ∧ (ensureKey n s).pack = s.pack
     ∧ (ensureKey n s).bank = s.bank ∧ (ensureKey n s).packEst = s.packEst ∧ (ensureKey n s).bankEst = s.bankEst
     ∧ (ensureKey n s).hold = s.hold ∧ (ensureKey n s).rails = s.rails ∧ (ensureKey n s).keep = s.keep
     ∧ (ensureKey n s).tremor = s.tremor ∧ (ensureKey n s).outage = s.outage ∧ (ensureKey n s).flash = s.flash
     ∧ (ensureKey n s).video = s.video ∧ (ensureKey n s).ev = s.ev ∧ (ensureKey n s).pending = s.pending := by
  unfold ensureKey
  (repeat' split) <;> simp

@[simp] theorem applyBlocks_frame (n : Fin 16) (vol : BitVec 32) (lba : Nat) (dirty recording : Bool) (bs : List Block) (s : State) :
    (applyBlocks n vol lba dirty recording bs s).time = s.time
     ∧ (applyBlocks n vol lba dirty recording bs s).isl = s.isl
     ∧ (applyBlocks n vol lba dirty recording bs s).life = s.life
     ∧ (applyBlocks n vol lba dirty recording bs s).mode = s.mode
     ∧ (applyBlocks n vol lba dirty recording bs s).nor = s.nor
     ∧ (applyBlocks n vol lba dirty recording bs s).dict = s.dict
     ∧ (applyBlocks n vol lba dirty recording bs s).can = s.can
     ∧ (applyBlocks n vol lba dirty recording bs s).mbx = s.mbx
     ∧ (applyBlocks n vol lba dirty recording bs s).win = s.win
     ∧ (applyBlocks n vol lba dirty recording bs s).port = s.port
     ∧ (applyBlocks n vol lba dirty recording bs s).adm = s.adm
     ∧ (applyBlocks n vol lba dirty recording bs s).pack = s.pack
     ∧ (applyBlocks n vol lba dirty recording bs s).bank = s.bank
     ∧ (applyBlocks n vol lba dirty recording bs s).packEst = s.packEst
     ∧ (applyBlocks n vol lba dirty recording bs s).bankEst = s.bankEst
     ∧ (applyBlocks n vol lba dirty recording bs s).hold = s.hold
     ∧ (applyBlocks n vol lba dirty recording bs s).rails = s.rails
     ∧ (applyBlocks n vol lba dirty recording bs s).keep = s.keep
     ∧ (applyBlocks n vol lba dirty recording bs s).tremor = s.tremor
     ∧ (applyBlocks n vol lba dirty recording bs s).outage = s.outage
     ∧ (applyBlocks n vol lba dirty recording bs s).video = s.video
     ∧ (applyBlocks n vol lba dirty recording bs s).ev = s.ev
     ∧ (applyBlocks n vol lba dirty recording bs s).pending = s.pending := by
  unfold applyBlocks
  (repeat' split) <;> simp

@[simp] theorem applyPut_frame (n : Fin 16) (vol : BitVec 32) (lba : Nat) (dirty recording : Bool) (bs : List Block) (s : State) :
    (applyPut n vol lba dirty recording bs s).time = s.time ∧ (applyPut n vol lba dirty recording bs s).isl = s.isl
     ∧ (applyPut n vol lba dirty recording bs s).life = s.life
     ∧ (applyPut n vol lba dirty recording bs s).mode = s.mode ∧ (applyPut n vol lba dirty recording bs s).nor = s.nor
     ∧ (applyPut n vol lba dirty recording bs s).dict = s.dict ∧ (applyPut n vol lba dirty recording bs s).can = s.can
     ∧ (applyPut n vol lba dirty recording bs s).mbx = s.mbx ∧ (applyPut n vol lba dirty recording bs s).win = s.win
     ∧ (applyPut n vol lba dirty recording bs s).port = s.port ∧ (applyPut n vol lba dirty recording bs s).adm = s.adm
     ∧ (applyPut n vol lba dirty recording bs s).pack = s.pack
     ∧ (applyPut n vol lba dirty recording bs s).bank = s.bank
     ∧ (applyPut n vol lba dirty recording bs s).packEst = s.packEst
     ∧ (applyPut n vol lba dirty recording bs s).bankEst = s.bankEst
     ∧ (applyPut n vol lba dirty recording bs s).hold = s.hold
     ∧ (applyPut n vol lba dirty recording bs s).rails = s.rails
     ∧ (applyPut n vol lba dirty recording bs s).keep = s.keep
     ∧ (applyPut n vol lba dirty recording bs s).tremor = s.tremor
     ∧ (applyPut n vol lba dirty recording bs s).outage = s.outage
     ∧ (applyPut n vol lba dirty recording bs s).video = s.video ∧ (applyPut n vol lba dirty recording bs s).ev = s.ev
     ∧ (applyPut n vol lba dirty recording bs s).pending = s.pending := by
  unfold applyPut
  (repeat' split) <;> simp

@[simp] theorem touchSlot_frame (k : Nat) (s : State) :
    (touchSlot k s).time = s.time ∧ (touchSlot k s).isl = s.isl ∧ (touchSlot k s).life = s.life
     ∧ (touchSlot k s).mode = s.mode ∧ (touchSlot k s).nor = s.nor ∧ (touchSlot k s).dict = s.dict
     ∧ (touchSlot k s).can = s.can ∧ (touchSlot k s).mbx = s.mbx ∧ (touchSlot k s).win = s.win
     ∧ (touchSlot k s).port = s.port ∧ (touchSlot k s).adm = s.adm ∧ (touchSlot k s).pack = s.pack
     ∧ (touchSlot k s).bank = s.bank ∧ (touchSlot k s).packEst = s.packEst ∧ (touchSlot k s).bankEst = s.bankEst
     ∧ (touchSlot k s).hold = s.hold ∧ (touchSlot k s).rails = s.rails ∧ (touchSlot k s).keep = s.keep
     ∧ (touchSlot k s).tremor = s.tremor ∧ (touchSlot k s).outage = s.outage ∧ (touchSlot k s).flash = s.flash
     ∧ (touchSlot k s).video = s.video ∧ (touchSlot k s).ev = s.ev ∧ (touchSlot k s).out = s.out
     ∧ (touchSlot k s).pending = s.pending := by
  unfold touchSlot
  (repeat' split) <;> simp

@[simp] theorem cleanSlot_frame (k : Nat) (s : State) :
    (cleanSlot k s).time = s.time ∧ (cleanSlot k s).isl = s.isl ∧ (cleanSlot k s).life = s.life
     ∧ (cleanSlot k s).mode = s.mode ∧ (cleanSlot k s).nor = s.nor ∧ (cleanSlot k s).dict = s.dict
     ∧ (cleanSlot k s).can = s.can ∧ (cleanSlot k s).mbx = s.mbx ∧ (cleanSlot k s).win = s.win
     ∧ (cleanSlot k s).port = s.port ∧ (cleanSlot k s).adm = s.adm ∧ (cleanSlot k s).pack = s.pack
     ∧ (cleanSlot k s).bank = s.bank ∧ (cleanSlot k s).packEst = s.packEst ∧ (cleanSlot k s).bankEst = s.bankEst
     ∧ (cleanSlot k s).hold = s.hold ∧ (cleanSlot k s).rails = s.rails ∧ (cleanSlot k s).keep = s.keep
     ∧ (cleanSlot k s).tremor = s.tremor ∧ (cleanSlot k s).outage = s.outage ∧ (cleanSlot k s).video = s.video
     ∧ (cleanSlot k s).ev = s.ev ∧ (cleanSlot k s).out = s.out ∧ (cleanSlot k s).pending = s.pending := by
  unfold cleanSlot
  (repeat' split) <;> simp

@[simp] theorem dropSlot_frame (k : Nat) (s : State) :
    (dropSlot k s).time = s.time ∧ (dropSlot k s).isl = s.isl ∧ (dropSlot k s).life = s.life
     ∧ (dropSlot k s).mode = s.mode ∧ (dropSlot k s).nor = s.nor ∧ (dropSlot k s).dict = s.dict
     ∧ (dropSlot k s).can = s.can ∧ (dropSlot k s).mbx = s.mbx ∧ (dropSlot k s).win = s.win ∧ (dropSlot k s).port = s.port
     ∧ (dropSlot k s).adm = s.adm ∧ (dropSlot k s).pack = s.pack ∧ (dropSlot k s).bank = s.bank
     ∧ (dropSlot k s).packEst = s.packEst ∧ (dropSlot k s).bankEst = s.bankEst ∧ (dropSlot k s).hold = s.hold
     ∧ (dropSlot k s).rails = s.rails ∧ (dropSlot k s).keep = s.keep ∧ (dropSlot k s).tremor = s.tremor
     ∧ (dropSlot k s).outage = s.outage ∧ (dropSlot k s).video = s.video ∧ (dropSlot k s).ev = s.ev
     ∧ (dropSlot k s).out = s.out ∧ (dropSlot k s).pending = s.pending := by
  unfold dropSlot
  (repeat' split) <;> simp

@[simp] theorem resetQueues_frame (fn : Fin 16) (s : State) :
    (resetQueues fn s).time = s.time ∧ (resetQueues fn s).isl = s.isl ∧ (resetQueues fn s).life = s.life
     ∧ (resetQueues fn s).mode = s.mode ∧ (resetQueues fn s).nor = s.nor ∧ (resetQueues fn s).dict = s.dict
     ∧ (resetQueues fn s).mbx = s.mbx ∧ (resetQueues fn s).win = s.win ∧ (resetQueues fn s).pack = s.pack
     ∧ (resetQueues fn s).bank = s.bank ∧ (resetQueues fn s).packEst = s.packEst
     ∧ (resetQueues fn s).bankEst = s.bankEst ∧ (resetQueues fn s).hold = s.hold ∧ (resetQueues fn s).rails = s.rails
     ∧ (resetQueues fn s).keep = s.keep ∧ (resetQueues fn s).tremor = s.tremor ∧ (resetQueues fn s).outage = s.outage
     ∧ (resetQueues fn s).flash = s.flash ∧ (resetQueues fn s).video = s.video
     ∧ (resetQueues fn s).pending = s.pending := by
  unfold resetQueues
  (repeat' split) <;> simp

@[simp] theorem freezeSlots_frame (n : Fin 16) (s : State) :
    (freezeSlots n s).time = s.time ∧ (freezeSlots n s).isl = s.isl ∧ (freezeSlots n s).life = s.life
     ∧ (freezeSlots n s).mode = s.mode ∧ (freezeSlots n s).nor = s.nor ∧ (freezeSlots n s).dict = s.dict
     ∧ (freezeSlots n s).can = s.can ∧ (freezeSlots n s).mbx = s.mbx ∧ (freezeSlots n s).win = s.win
     ∧ (freezeSlots n s).port = s.port ∧ (freezeSlots n s).adm = s.adm ∧ (freezeSlots n s).pack = s.pack
     ∧ (freezeSlots n s).bank = s.bank ∧ (freezeSlots n s).packEst = s.packEst ∧ (freezeSlots n s).bankEst = s.bankEst
     ∧ (freezeSlots n s).hold = s.hold ∧ (freezeSlots n s).rails = s.rails ∧ (freezeSlots n s).keep = s.keep
     ∧ (freezeSlots n s).tremor = s.tremor ∧ (freezeSlots n s).outage = s.outage ∧ (freezeSlots n s).flash = s.flash
     ∧ (freezeSlots n s).video = s.video ∧ (freezeSlots n s).ev = s.ev ∧ (freezeSlots n s).out = s.out
     ∧ (freezeSlots n s).pending = s.pending := by
  unfold freezeSlots
  (repeat' split) <;> simp

@[simp] theorem thawSlots_frame (n : Fin 16) (s : State) :
    (thawSlots n s).time = s.time ∧ (thawSlots n s).isl = s.isl ∧ (thawSlots n s).life = s.life
     ∧ (thawSlots n s).mode = s.mode ∧ (thawSlots n s).nor = s.nor ∧ (thawSlots n s).dict = s.dict
     ∧ (thawSlots n s).mbx = s.mbx ∧ (thawSlots n s).win = s.win ∧ (thawSlots n s).port = s.port
     ∧ (thawSlots n s).adm = s.adm ∧ (thawSlots n s).pack = s.pack ∧ (thawSlots n s).bank = s.bank
     ∧ (thawSlots n s).packEst = s.packEst ∧ (thawSlots n s).bankEst = s.bankEst ∧ (thawSlots n s).hold = s.hold
     ∧ (thawSlots n s).rails = s.rails ∧ (thawSlots n s).keep = s.keep ∧ (thawSlots n s).tremor = s.tremor
     ∧ (thawSlots n s).outage = s.outage ∧ (thawSlots n s).flash = s.flash ∧ (thawSlots n s).video = s.video
     ∧ (thawSlots n s).pending = s.pending := by
  unfold thawSlots
  (repeat' split) <;> simp

@[simp] theorem resetRing_frame (n : Fin 16) (s : State) :
    (resetRing n s).time = s.time ∧ (resetRing n s).isl = s.isl ∧ (resetRing n s).life = s.life
     ∧ (resetRing n s).mode = s.mode ∧ (resetRing n s).nor = s.nor ∧ (resetRing n s).dict = s.dict
     ∧ (resetRing n s).can = s.can ∧ (resetRing n s).mbx = s.mbx ∧ (resetRing n s).win = s.win
     ∧ (resetRing n s).port = s.port ∧ (resetRing n s).cache = s.cache ∧ (resetRing n s).adm = s.adm
     ∧ (resetRing n s).pack = s.pack ∧ (resetRing n s).bank = s.bank ∧ (resetRing n s).packEst = s.packEst
     ∧ (resetRing n s).bankEst = s.bankEst ∧ (resetRing n s).hold = s.hold ∧ (resetRing n s).rails = s.rails
     ∧ (resetRing n s).keep = s.keep ∧ (resetRing n s).tremor = s.tremor ∧ (resetRing n s).outage = s.outage
     ∧ (resetRing n s).flash = s.flash ∧ (resetRing n s).video = s.video ∧ (resetRing n s).out = s.out
     ∧ (resetRing n s).pending = s.pending := by
  unfold resetRing
  (repeat' split) <;> simp

/-- Evicting clean slots changes the cache alone (06 R285). -/
theorem evictClean_eq (n : Fin 16) (keep : List Nat) (k : Nat) (s t : State) (h : evictClean n keep k s = some t) :
    t = { s with cache := t.cache } := by
  induction k generalizing s with
  | zero => simp only [evictClean, Option.some.injEq] at h; subst h; rfl
  | succ k ih =>
    simp only [evictClean] at h
    split at h
    · cases h
    · have := ih _ h; rw [this]

/-- Taking slots changes the cache alone (06 R285, R286). -/
theorem takeSlots_eq (s t : State) (n : Fin 16) (vol : BitVec 32) (lba len need : Nat)
    (h : takeSlots s n vol lba len need = some t) : t = { s with cache := t.cache } := evictClean_eq _ _ _ _ _ h

end Sys2Proof.Machine
end

