-- ==== Sys2Proof/Laws/FrameVideoOps.lean ====
section
/-! SUPPORT. Frames of Machine/VideoOps.lean: what each operation leaves unchanged. -/

namespace Sys2Proof.Machine

@[simp] theorem segPut_frame (n : Fin 16) (lba : Nat) (bs : List Block) (s : State) :
    (segPut n lba bs s).2.time = s.time ∧ (segPut n lba bs s).2.isl = s.isl ∧ (segPut n lba bs s).2.life = s.life
     ∧ (segPut n lba bs s).2.mode = s.mode ∧ (segPut n lba bs s).2.nor = s.nor ∧ (segPut n lba bs s).2.dict = s.dict
     ∧ (segPut n lba bs s).2.mbx = s.mbx ∧ (segPut n lba bs s).2.win = s.win ∧ (segPut n lba bs s).2.port = s.port
     ∧ (segPut n lba bs s).2.pack = s.pack ∧ (segPut n lba bs s).2.bank = s.bank
     ∧ (segPut n lba bs s).2.packEst = s.packEst ∧ (segPut n lba bs s).2.bankEst = s.bankEst
     ∧ (segPut n lba bs s).2.hold = s.hold ∧ (segPut n lba bs s).2.rails = s.rails ∧ (segPut n lba bs s).2.keep = s.keep
     ∧ (segPut n lba bs s).2.tremor = s.tremor ∧ (segPut n lba bs s).2.outage = s.outage
     ∧ (segPut n lba bs s).2.video = s.video ∧ (segPut n lba bs s).2.pending = s.pending := by
  unfold segPut
  dsimp only
  (repeat' split) <;> first
    | simp; done
    | rename_i h; rw [takeSlots_eq _ _ _ _ _ _ _ h]; simp

@[simp] theorem putHeader_frame (n : Fin 16) (g : Segment) (flags : Nat) (s : State) :
    (putHeader n g flags s).2.time = s.time ∧ (putHeader n g flags s).2.isl = s.isl
     ∧ (putHeader n g flags s).2.life = s.life ∧ (putHeader n g flags s).2.mode = s.mode
     ∧ (putHeader n g flags s).2.nor = s.nor ∧ (putHeader n g flags s).2.dict = s.dict
     ∧ (putHeader n g flags s).2.mbx = s.mbx ∧ (putHeader n g flags s).2.win = s.win
     ∧ (putHeader n g flags s).2.port = s.port ∧ (putHeader n g flags s).2.pack = s.pack
     ∧ (putHeader n g flags s).2.bank = s.bank ∧ (putHeader n g flags s).2.packEst = s.packEst
     ∧ (putHeader n g flags s).2.bankEst = s.bankEst ∧ (putHeader n g flags s).2.hold = s.hold
     ∧ (putHeader n g flags s).2.rails = s.rails ∧ (putHeader n g flags s).2.keep = s.keep
     ∧ (putHeader n g flags s).2.tremor = s.tremor ∧ (putHeader n g flags s).2.outage = s.outage
     ∧ (putHeader n g flags s).2.video = s.video ∧ (putHeader n g flags s).2.pending = s.pending := by
  unfold putHeader
  (repeat' split) <;> simp

@[simp] theorem setSeg_frame (n : Fin 16) (g : Option Segment) (s : State) :
    (setSeg n g s).time = s.time ∧ (setSeg n g s).isl = s.isl ∧ (setSeg n g s).life = s.life
     ∧ (setSeg n g s).mode = s.mode ∧ (setSeg n g s).nor = s.nor ∧ (setSeg n g s).dict = s.dict
     ∧ (setSeg n g s).can = s.can ∧ (setSeg n g s).mbx = s.mbx ∧ (setSeg n g s).win = s.win ∧ (setSeg n g s).port = s.port
     ∧ (setSeg n g s).cache = s.cache ∧ (setSeg n g s).adm = s.adm ∧ (setSeg n g s).pack = s.pack
     ∧ (setSeg n g s).bank = s.bank ∧ (setSeg n g s).packEst = s.packEst ∧ (setSeg n g s).bankEst = s.bankEst
     ∧ (setSeg n g s).hold = s.hold ∧ (setSeg n g s).rails = s.rails ∧ (setSeg n g s).keep = s.keep
     ∧ (setSeg n g s).tremor = s.tremor ∧ (setSeg n g s).outage = s.outage ∧ (setSeg n g s).flash = s.flash
     ∧ (setSeg n g s).ev = s.ev ∧ (setSeg n g s).out = s.out ∧ (setSeg n g s).pending = s.pending := by
  unfold setSeg
  (repeat' split) <;> simp

@[simp] theorem flushSegment_frame (n : Fin 16) (s : State) :
    (flushSegment n s).2.time = s.time ∧ (flushSegment n s).2.isl = s.isl ∧ (flushSegment n s).2.life = s.life
     ∧ (flushSegment n s).2.mode = s.mode ∧ (flushSegment n s).2.nor = s.nor ∧ (flushSegment n s).2.dict = s.dict
     ∧ (flushSegment n s).2.mbx = s.mbx ∧ (flushSegment n s).2.win = s.win ∧ (flushSegment n s).2.port = s.port
     ∧ (flushSegment n s).2.pack = s.pack ∧ (flushSegment n s).2.bank = s.bank ∧ (flushSegment n s).2.packEst = s.packEst
     ∧ (flushSegment n s).2.bankEst = s.bankEst ∧ (flushSegment n s).2.hold = s.hold
     ∧ (flushSegment n s).2.rails = s.rails ∧ (flushSegment n s).2.keep = s.keep ∧ (flushSegment n s).2.tremor = s.tremor
     ∧ (flushSegment n s).2.outage = s.outage ∧ (flushSegment n s).2.pending = s.pending := by
  unfold flushSegment
  dsimp only
  (repeat' split) <;> simp

@[simp] theorem putHalves_frame (n : Fin 16) (base frames last l : Nat) (s : State) :
    (putHalves n base frames last l s).2.time = s.time ∧ (putHalves n base frames last l s).2.isl = s.isl
     ∧ (putHalves n base frames last l s).2.life = s.life ∧ (putHalves n base frames last l s).2.mode = s.mode
     ∧ (putHalves n base frames last l s).2.nor = s.nor ∧ (putHalves n base frames last l s).2.dict = s.dict
     ∧ (putHalves n base frames last l s).2.mbx = s.mbx ∧ (putHalves n base frames last l s).2.win = s.win
     ∧ (putHalves n base frames last l s).2.port = s.port ∧ (putHalves n base frames last l s).2.pack = s.pack
     ∧ (putHalves n base frames last l s).2.bank = s.bank ∧ (putHalves n base frames last l s).2.packEst = s.packEst
     ∧ (putHalves n base frames last l s).2.bankEst = s.bankEst ∧ (putHalves n base frames last l s).2.hold = s.hold
     ∧ (putHalves n base frames last l s).2.rails = s.rails ∧ (putHalves n base frames last l s).2.keep = s.keep
     ∧ (putHalves n base frames last l s).2.tremor = s.tremor ∧ (putHalves n base frames last l s).2.outage = s.outage
     ∧ (putHalves n base frames last l s).2.pending = s.pending := by
  induction l generalizing base frames last s with
  | zero => simp [putHalves]
  | succ m ih =>
    simp only [putHalves]
    (repeat' split) <;> simp [ih]

@[simp] theorem sealSegment_frame (n : Fin 16) (why : Cause) (flags : Nat) (s : State) :
    (sealSegment n why flags s).time = s.time ∧ (sealSegment n why flags s).isl = s.isl
     ∧ (sealSegment n why flags s).life = s.life ∧ (sealSegment n why flags s).mode = s.mode
     ∧ (sealSegment n why flags s).nor = s.nor ∧ (sealSegment n why flags s).dict = s.dict
     ∧ (sealSegment n why flags s).mbx = s.mbx ∧ (sealSegment n why flags s).win = s.win
     ∧ (sealSegment n why flags s).port = s.port ∧ (sealSegment n why flags s).pack = s.pack
     ∧ (sealSegment n why flags s).bank = s.bank ∧ (sealSegment n why flags s).packEst = s.packEst
     ∧ (sealSegment n why flags s).bankEst = s.bankEst ∧ (sealSegment n why flags s).hold = s.hold
     ∧ (sealSegment n why flags s).rails = s.rails ∧ (sealSegment n why flags s).keep = s.keep
     ∧ (sealSegment n why flags s).tremor = s.tremor ∧ (sealSegment n why flags s).outage = s.outage
     ∧ (sealSegment n why flags s).pending = s.pending := by
  unfold sealSegment
  (repeat' split) <;> simp

@[simp] theorem pauseRecording_frame (n : Fin 16) (why : Cause) (s : State) :
    (pauseRecording n why s).time = s.time ∧ (pauseRecording n why s).isl = s.isl ∧ (pauseRecording n why s).life = s.life
     ∧ (pauseRecording n why s).mode = s.mode ∧ (pauseRecording n why s).nor = s.nor
     ∧ (pauseRecording n why s).dict = s.dict ∧ (pauseRecording n why s).mbx = s.mbx
     ∧ (pauseRecording n why s).win = s.win ∧ (pauseRecording n why s).port = s.port
     ∧ (pauseRecording n why s).pack = s.pack ∧ (pauseRecording n why s).bank = s.bank
     ∧ (pauseRecording n why s).packEst = s.packEst ∧ (pauseRecording n why s).bankEst = s.bankEst
     ∧ (pauseRecording n why s).hold = s.hold ∧ (pauseRecording n why s).rails = s.rails
     ∧ (pauseRecording n why s).keep = s.keep ∧ (pauseRecording n why s).tremor = s.tremor
     ∧ (pauseRecording n why s).outage = s.outage ∧ (pauseRecording n why s).pending = s.pending := by
  unfold pauseRecording
  (repeat' split) <;> simp

@[simp] theorem closeSegment_frame (n : Fin 16) (why : Cause) (flags : Nat) (s : State) :
    (closeSegment n why flags s).time = s.time ∧ (closeSegment n why flags s).isl = s.isl
     ∧ (closeSegment n why flags s).life = s.life ∧ (closeSegment n why flags s).mode = s.mode
     ∧ (closeSegment n why flags s).nor = s.nor ∧ (closeSegment n why flags s).dict = s.dict
     ∧ (closeSegment n why flags s).mbx = s.mbx ∧ (closeSegment n why flags s).win = s.win
     ∧ (closeSegment n why flags s).port = s.port ∧ (closeSegment n why flags s).pack = s.pack
     ∧ (closeSegment n why flags s).bank = s.bank ∧ (closeSegment n why flags s).packEst = s.packEst
     ∧ (closeSegment n why flags s).bankEst = s.bankEst ∧ (closeSegment n why flags s).hold = s.hold
     ∧ (closeSegment n why flags s).rails = s.rails ∧ (closeSegment n why flags s).keep = s.keep
     ∧ (closeSegment n why flags s).tremor = s.tremor ∧ (closeSegment n why flags s).outage = s.outage
     ∧ (closeSegment n why flags s).pending = s.pending := by
  unfold closeSegment
  dsimp only
  (repeat' split) <;> simp

theorem closeSegments_frame (p : Fin 16 → Bool) (why : Cause) (flags : Nat) (s : State) :
    (closeSegments p why flags s).time = s.time ∧ (closeSegments p why flags s).isl = s.isl
     ∧ (closeSegments p why flags s).life = s.life ∧ (closeSegments p why flags s).mode = s.mode
     ∧ (closeSegments p why flags s).nor = s.nor ∧ (closeSegments p why flags s).dict = s.dict
     ∧ (closeSegments p why flags s).mbx = s.mbx ∧ (closeSegments p why flags s).win = s.win
     ∧ (closeSegments p why flags s).port = s.port ∧ (closeSegments p why flags s).pack = s.pack
     ∧ (closeSegments p why flags s).bank = s.bank ∧ (closeSegments p why flags s).packEst = s.packEst
     ∧ (closeSegments p why flags s).bankEst = s.bankEst ∧ (closeSegments p why flags s).hold = s.hold
     ∧ (closeSegments p why flags s).rails = s.rails ∧ (closeSegments p why flags s).keep = s.keep
     ∧ (closeSegments p why flags s).tremor = s.tremor ∧ (closeSegments p why flags s).outage = s.outage
     ∧ (closeSegments p why flags s).pending = s.pending := by
  unfold closeSegments
  (repeat' split) <;> simp

@[simp] theorem openSegment_frame (n : Fin 16) (md : Meta) (s : State) :
    (openSegment n md s).time = s.time ∧ (openSegment n md s).isl = s.isl ∧ (openSegment n md s).life = s.life
     ∧ (openSegment n md s).mode = s.mode ∧ (openSegment n md s).nor = s.nor ∧ (openSegment n md s).dict = s.dict
     ∧ (openSegment n md s).mbx = s.mbx ∧ (openSegment n md s).win = s.win ∧ (openSegment n md s).port = s.port
     ∧ (openSegment n md s).pack = s.pack ∧ (openSegment n md s).bank = s.bank ∧ (openSegment n md s).packEst = s.packEst
     ∧ (openSegment n md s).bankEst = s.bankEst ∧ (openSegment n md s).hold = s.hold
     ∧ (openSegment n md s).rails = s.rails ∧ (openSegment n md s).keep = s.keep ∧ (openSegment n md s).tremor = s.tremor
     ∧ (openSegment n md s).outage = s.outage ∧ (openSegment n md s).pending = s.pending := by
  unfold openSegment
  dsimp only
  (repeat' split) <;> simp

@[simp] theorem appendRecord_frame (n : Fin 16) (md : Meta) (bytes : List Byte) (s : State) :
    (appendRecord n md bytes s).time = s.time ∧ (appendRecord n md bytes s).isl = s.isl
     ∧ (appendRecord n md bytes s).life = s.life ∧ (appendRecord n md bytes s).mode = s.mode
     ∧ (appendRecord n md bytes s).nor = s.nor ∧ (appendRecord n md bytes s).dict = s.dict
     ∧ (appendRecord n md bytes s).mbx = s.mbx ∧ (appendRecord n md bytes s).win = s.win
     ∧ (appendRecord n md bytes s).port = s.port ∧ (appendRecord n md bytes s).pack = s.pack
     ∧ (appendRecord n md bytes s).bank = s.bank ∧ (appendRecord n md bytes s).packEst = s.packEst
     ∧ (appendRecord n md bytes s).bankEst = s.bankEst ∧ (appendRecord n md bytes s).hold = s.hold
     ∧ (appendRecord n md bytes s).rails = s.rails ∧ (appendRecord n md bytes s).keep = s.keep
     ∧ (appendRecord n md bytes s).tremor = s.tremor ∧ (appendRecord n md bytes s).outage = s.outage
     ∧ (appendRecord n md bytes s).pending = s.pending := by
  simp only [appendRecord, ite_proj]
  (repeat' split) <;> simp_all

@[simp] theorem dueIdr_frame (n : Fin 16) (c : Cause) (s : State) :
    (dueIdr n c s).time = s.time ∧ (dueIdr n c s).isl = s.isl ∧ (dueIdr n c s).life = s.life
     ∧ (dueIdr n c s).mode = s.mode ∧ (dueIdr n c s).nor = s.nor ∧ (dueIdr n c s).dict = s.dict
     ∧ (dueIdr n c s).can = s.can ∧ (dueIdr n c s).mbx = s.mbx ∧ (dueIdr n c s).win = s.win ∧ (dueIdr n c s).port = s.port
     ∧ (dueIdr n c s).cache = s.cache ∧ (dueIdr n c s).adm = s.adm ∧ (dueIdr n c s).pack = s.pack
     ∧ (dueIdr n c s).bank = s.bank ∧ (dueIdr n c s).packEst = s.packEst ∧ (dueIdr n c s).bankEst = s.bankEst
     ∧ (dueIdr n c s).hold = s.hold ∧ (dueIdr n c s).rails = s.rails ∧ (dueIdr n c s).keep = s.keep
     ∧ (dueIdr n c s).tremor = s.tremor ∧ (dueIdr n c s).outage = s.outage ∧ (dueIdr n c s).flash = s.flash
     ∧ (dueIdr n c s).ev = s.ev ∧ (dueIdr n c s).out = s.out ∧ (dueIdr n c s).pending = s.pending := by
  unfold dueIdr
  (repeat' split) <;> simp

@[simp] theorem dropStarted_frame (n : Fin 16) (s : State) :
    (dropStarted n s).time = s.time ∧ (dropStarted n s).isl = s.isl ∧ (dropStarted n s).life = s.life
     ∧ (dropStarted n s).mode = s.mode ∧ (dropStarted n s).nor = s.nor ∧ (dropStarted n s).dict = s.dict
     ∧ (dropStarted n s).can = s.can ∧ (dropStarted n s).mbx = s.mbx ∧ (dropStarted n s).win = s.win
     ∧ (dropStarted n s).port = s.port ∧ (dropStarted n s).cache = s.cache ∧ (dropStarted n s).adm = s.adm
     ∧ (dropStarted n s).pack = s.pack ∧ (dropStarted n s).bank = s.bank ∧ (dropStarted n s).packEst = s.packEst
     ∧ (dropStarted n s).bankEst = s.bankEst ∧ (dropStarted n s).hold = s.hold ∧ (dropStarted n s).rails = s.rails
     ∧ (dropStarted n s).keep = s.keep ∧ (dropStarted n s).tremor = s.tremor ∧ (dropStarted n s).outage = s.outage
     ∧ (dropStarted n s).flash = s.flash ∧ (dropStarted n s).ev = s.ev ∧ (dropStarted n s).out = s.out
     ∧ (dropStarted n s).pending = s.pending := by
  unfold dropStarted
  (repeat' split) <;> simp

@[simp] theorem stopEncode_frame (n : Fin 16) (why close : Cause) (flags : Nat) (dest : EncRun) (s : State) :
    (stopEncode n why close flags dest s).time = s.time ∧ (stopEncode n why close flags dest s).isl = s.isl
     ∧ (stopEncode n why close flags dest s).life = s.life ∧ (stopEncode n why close flags dest s).mode = s.mode
     ∧ (stopEncode n why close flags dest s).nor = s.nor ∧ (stopEncode n why close flags dest s).dict = s.dict
     ∧ (stopEncode n why close flags dest s).mbx = s.mbx ∧ (stopEncode n why close flags dest s).win = s.win
     ∧ (stopEncode n why close flags dest s).port = s.port ∧ (stopEncode n why close flags dest s).pack = s.pack
     ∧ (stopEncode n why close flags dest s).bank = s.bank ∧ (stopEncode n why close flags dest s).packEst = s.packEst
     ∧ (stopEncode n why close flags dest s).bankEst = s.bankEst ∧ (stopEncode n why close flags dest s).hold = s.hold
     ∧ (stopEncode n why close flags dest s).rails = s.rails ∧ (stopEncode n why close flags dest s).keep = s.keep
     ∧ (stopEncode n why close flags dest s).tremor = s.tremor ∧ (stopEncode n why close flags dest s).outage = s.outage
     ∧ (stopEncode n why close flags dest s).pending = s.pending := by
  unfold stopEncode
  (repeat' split) <;> simp

@[simp] theorem admitStream_frame (ok : Fin 16 → Bool) (n : Fin 16) (s : State) :
    (admitStream ok n s).time = s.time ∧ (admitStream ok n s).isl = s.isl ∧ (admitStream ok n s).life = s.life
     ∧ (admitStream ok n s).mode = s.mode ∧ (admitStream ok n s).nor = s.nor ∧ (admitStream ok n s).dict = s.dict
     ∧ (admitStream ok n s).mbx = s.mbx ∧ (admitStream ok n s).win = s.win ∧ (admitStream ok n s).port = s.port
     ∧ (admitStream ok n s).cache = s.cache ∧ (admitStream ok n s).adm = s.adm ∧ (admitStream ok n s).pack = s.pack
     ∧ (admitStream ok n s).bank = s.bank ∧ (admitStream ok n s).packEst = s.packEst
     ∧ (admitStream ok n s).bankEst = s.bankEst ∧ (admitStream ok n s).hold = s.hold
     ∧ (admitStream ok n s).rails = s.rails ∧ (admitStream ok n s).keep = s.keep ∧ (admitStream ok n s).tremor = s.tremor
     ∧ (admitStream ok n s).outage = s.outage ∧ (admitStream ok n s).flash = s.flash
     ∧ (admitStream ok n s).pending = s.pending := by
  unfold admitStream
  (repeat' split) <;> simp

@[simp] theorem admitStreams_frame (s : State) :
    (admitStreams s).time = s.time ∧ (admitStreams s).isl = s.isl ∧ (admitStreams s).life = s.life
     ∧ (admitStreams s).mode = s.mode ∧ (admitStreams s).nor = s.nor ∧ (admitStreams s).dict = s.dict
     ∧ (admitStreams s).mbx = s.mbx ∧ (admitStreams s).win = s.win ∧ (admitStreams s).port = s.port
     ∧ (admitStreams s).cache = s.cache ∧ (admitStreams s).adm = s.adm ∧ (admitStreams s).pack = s.pack
     ∧ (admitStreams s).bank = s.bank ∧ (admitStreams s).packEst = s.packEst ∧ (admitStreams s).bankEst = s.bankEst
     ∧ (admitStreams s).hold = s.hold ∧ (admitStreams s).rails = s.rails ∧ (admitStreams s).keep = s.keep
     ∧ (admitStreams s).tremor = s.tremor ∧ (admitStreams s).outage = s.outage ∧ (admitStreams s).flash = s.flash
     ∧ (admitStreams s).pending = s.pending := by
  unfold admitStreams
  (repeat' split) <;> simp

@[simp] theorem groupsRefresh_frame (s : State) :
    (groupsRefresh s).time = s.time ∧ (groupsRefresh s).isl = s.isl ∧ (groupsRefresh s).life = s.life
     ∧ (groupsRefresh s).mode = s.mode ∧ (groupsRefresh s).nor = s.nor ∧ (groupsRefresh s).dict = s.dict
     ∧ (groupsRefresh s).can = s.can ∧ (groupsRefresh s).mbx = s.mbx ∧ (groupsRefresh s).win = s.win
     ∧ (groupsRefresh s).port = s.port ∧ (groupsRefresh s).cache = s.cache ∧ (groupsRefresh s).adm = s.adm
     ∧ (groupsRefresh s).pack = s.pack ∧ (groupsRefresh s).bank = s.bank ∧ (groupsRefresh s).packEst = s.packEst
     ∧ (groupsRefresh s).bankEst = s.bankEst ∧ (groupsRefresh s).hold = s.hold ∧ (groupsRefresh s).rails = s.rails
     ∧ (groupsRefresh s).keep = s.keep ∧ (groupsRefresh s).tremor = s.tremor ∧ (groupsRefresh s).outage = s.outage
     ∧ (groupsRefresh s).flash = s.flash ∧ (groupsRefresh s).ev = s.ev ∧ (groupsRefresh s).out = s.out
     ∧ (groupsRefresh s).pending = s.pending := by
  unfold groupsRefresh
  (repeat' split) <;> simp

@[simp] theorem regroup_frame (before : State) (n : Fin 16) (s : State) :
    (regroup before n s).time = s.time ∧ (regroup before n s).isl = s.isl ∧ (regroup before n s).life = s.life
     ∧ (regroup before n s).mode = s.mode ∧ (regroup before n s).nor = s.nor ∧ (regroup before n s).dict = s.dict
     ∧ (regroup before n s).can = s.can ∧ (regroup before n s).mbx = s.mbx ∧ (regroup before n s).win = s.win
     ∧ (regroup before n s).port = s.port ∧ (regroup before n s).cache = s.cache ∧ (regroup before n s).adm = s.adm
     ∧ (regroup before n s).pack = s.pack ∧ (regroup before n s).bank = s.bank ∧ (regroup before n s).packEst = s.packEst
     ∧ (regroup before n s).bankEst = s.bankEst ∧ (regroup before n s).hold = s.hold ∧ (regroup before n s).rails = s.rails
     ∧ (regroup before n s).keep = s.keep ∧ (regroup before n s).tremor = s.tremor ∧ (regroup before n s).outage = s.outage
     ∧ (regroup before n s).flash = s.flash ∧ (regroup before n s).ev = s.ev ∧ (regroup before n s).out = s.out
     ∧ (regroup before n s).pending = s.pending := by
  unfold regroup
  dsimp only
  (repeat' split) <;> simp

@[simp] theorem stopStream_frame (n : Fin 16) (why close : Cause) (flags : Nat) (dest : StreamRun) (s : State) :
    (stopStream n why close flags dest s).time = s.time ∧ (stopStream n why close flags dest s).isl = s.isl
     ∧ (stopStream n why close flags dest s).life = s.life ∧ (stopStream n why close flags dest s).mode = s.mode
     ∧ (stopStream n why close flags dest s).nor = s.nor ∧ (stopStream n why close flags dest s).dict = s.dict
     ∧ (stopStream n why close flags dest s).mbx = s.mbx ∧ (stopStream n why close flags dest s).win = s.win
     ∧ (stopStream n why close flags dest s).port = s.port ∧ (stopStream n why close flags dest s).pack = s.pack
     ∧ (stopStream n why close flags dest s).bank = s.bank ∧ (stopStream n why close flags dest s).packEst = s.packEst
     ∧ (stopStream n why close flags dest s).bankEst = s.bankEst ∧ (stopStream n why close flags dest s).hold = s.hold
     ∧ (stopStream n why close flags dest s).rails = s.rails ∧ (stopStream n why close flags dest s).keep = s.keep
     ∧ (stopStream n why close flags dest s).tremor = s.tremor ∧ (stopStream n why close flags dest s).outage = s.outage
     ∧ (stopStream n why close flags dest s).pending = s.pending := by
  unfold stopStream
  (repeat' split) <;> simp

@[simp] theorem startStream_frame (n : Fin 16) (s : State) :
    (startStream n s).time = s.time ∧ (startStream n s).isl = s.isl ∧ (startStream n s).life = s.life
     ∧ (startStream n s).mode = s.mode ∧ (startStream n s).nor = s.nor ∧ (startStream n s).dict = s.dict
     ∧ (startStream n s).mbx = s.mbx ∧ (startStream n s).win = s.win ∧ (startStream n s).port = s.port
     ∧ (startStream n s).pack = s.pack ∧ (startStream n s).bank = s.bank ∧ (startStream n s).packEst = s.packEst
     ∧ (startStream n s).bankEst = s.bankEst ∧ (startStream n s).hold = s.hold ∧ (startStream n s).rails = s.rails
     ∧ (startStream n s).keep = s.keep ∧ (startStream n s).tremor = s.tremor ∧ (startStream n s).outage = s.outage
     ∧ (startStream n s).pending = s.pending := by
  unfold startStream
  (repeat' split) <;> simp

@[simp] theorem streamsRefresh_frame (s : State) :
    (streamsRefresh s).time = s.time ∧ (streamsRefresh s).isl = s.isl ∧ (streamsRefresh s).life = s.life
     ∧ (streamsRefresh s).mode = s.mode ∧ (streamsRefresh s).nor = s.nor ∧ (streamsRefresh s).dict = s.dict
     ∧ (streamsRefresh s).mbx = s.mbx ∧ (streamsRefresh s).win = s.win ∧ (streamsRefresh s).port = s.port
     ∧ (streamsRefresh s).pack = s.pack ∧ (streamsRefresh s).bank = s.bank ∧ (streamsRefresh s).packEst = s.packEst
     ∧ (streamsRefresh s).bankEst = s.bankEst ∧ (streamsRefresh s).hold = s.hold ∧ (streamsRefresh s).rails = s.rails
     ∧ (streamsRefresh s).keep = s.keep ∧ (streamsRefresh s).tremor = s.tremor ∧ (streamsRefresh s).outage = s.outage
     ∧ (streamsRefresh s).pending = s.pending := by
  unfold streamsRefresh
  (repeat' split) <;> simp

@[simp] theorem closeSession_frame (d : Fin 2) (why : Nat) (s : State) :
    (closeSession d why s).time = s.time ∧ (closeSession d why s).isl = s.isl ∧ (closeSession d why s).life = s.life
     ∧ (closeSession d why s).mode = s.mode ∧ (closeSession d why s).nor = s.nor ∧ (closeSession d why s).dict = s.dict
     ∧ (closeSession d why s).mbx = s.mbx ∧ (closeSession d why s).win = s.win ∧ (closeSession d why s).port = s.port
     ∧ (closeSession d why s).cache = s.cache ∧ (closeSession d why s).adm = s.adm ∧ (closeSession d why s).pack = s.pack
     ∧ (closeSession d why s).bank = s.bank ∧ (closeSession d why s).packEst = s.packEst
     ∧ (closeSession d why s).bankEst = s.bankEst ∧ (closeSession d why s).hold = s.hold
     ∧ (closeSession d why s).rails = s.rails ∧ (closeSession d why s).keep = s.keep
     ∧ (closeSession d why s).tremor = s.tremor ∧ (closeSession d why s).outage = s.outage
     ∧ (closeSession d why s).flash = s.flash ∧ (closeSession d why s).pending = s.pending := by
  unfold closeSession
  (repeat' split) <;> simp

@[simp] theorem closeSessions_frame (s : State) :
    (closeSessions s).time = s.time ∧ (closeSessions s).isl = s.isl ∧ (closeSessions s).life = s.life
     ∧ (closeSessions s).mode = s.mode ∧ (closeSessions s).nor = s.nor ∧ (closeSessions s).dict = s.dict
     ∧ (closeSessions s).mbx = s.mbx ∧ (closeSessions s).win = s.win ∧ (closeSessions s).port = s.port
     ∧ (closeSessions s).cache = s.cache ∧ (closeSessions s).adm = s.adm ∧ (closeSessions s).pack = s.pack
     ∧ (closeSessions s).bank = s.bank ∧ (closeSessions s).packEst = s.packEst ∧ (closeSessions s).bankEst = s.bankEst
     ∧ (closeSessions s).hold = s.hold ∧ (closeSessions s).rails = s.rails ∧ (closeSessions s).keep = s.keep
     ∧ (closeSessions s).tremor = s.tremor ∧ (closeSessions s).outage = s.outage ∧ (closeSessions s).flash = s.flash
     ∧ (closeSessions s).pending = s.pending := by
  unfold closeSessions
  (repeat' split) <;> simp

@[simp] theorem restartVideo_frame (s : State) :
    (restartVideo s).time = s.time ∧ (restartVideo s).isl = s.isl ∧ (restartVideo s).life = s.life
     ∧ (restartVideo s).mode = s.mode ∧ (restartVideo s).nor = s.nor ∧ (restartVideo s).dict = s.dict
     ∧ (restartVideo s).mbx = s.mbx ∧ (restartVideo s).win = s.win ∧ (restartVideo s).port = s.port
     ∧ (restartVideo s).pack = s.pack ∧ (restartVideo s).bank = s.bank ∧ (restartVideo s).packEst = s.packEst
     ∧ (restartVideo s).bankEst = s.bankEst ∧ (restartVideo s).hold = s.hold ∧ (restartVideo s).rails = s.rails
     ∧ (restartVideo s).keep = s.keep ∧ (restartVideo s).tremor = s.tremor ∧ (restartVideo s).outage = s.outage
     ∧ (restartVideo s).pending = s.pending := by
  unfold restartVideo
  (repeat' split) <;> simp

@[simp] theorem clearLayers_frame (n : Fin 16) (s : State) :
    (clearLayers n s).time = s.time ∧ (clearLayers n s).isl = s.isl ∧ (clearLayers n s).life = s.life
     ∧ (clearLayers n s).mode = s.mode ∧ (clearLayers n s).nor = s.nor ∧ (clearLayers n s).dict = s.dict
     ∧ (clearLayers n s).can = s.can ∧ (clearLayers n s).mbx = s.mbx ∧ (clearLayers n s).win = s.win
     ∧ (clearLayers n s).port = s.port ∧ (clearLayers n s).cache = s.cache ∧ (clearLayers n s).adm = s.adm
     ∧ (clearLayers n s).pack = s.pack ∧ (clearLayers n s).bank = s.bank ∧ (clearLayers n s).packEst = s.packEst
     ∧ (clearLayers n s).bankEst = s.bankEst ∧ (clearLayers n s).hold = s.hold ∧ (clearLayers n s).rails = s.rails
     ∧ (clearLayers n s).keep = s.keep ∧ (clearLayers n s).tremor = s.tremor ∧ (clearLayers n s).outage = s.outage
     ∧ (clearLayers n s).flash = s.flash ∧ (clearLayers n s).ev = s.ev ∧ (clearLayers n s).out = s.out
     ∧ (clearLayers n s).pending = s.pending := by
  unfold clearLayers
  (repeat' split) <;> simp

@[simp] theorem streamChanged_frame (before : State) (n : Fin 16) (s : State) :
    (streamChanged before n s).time = s.time ∧ (streamChanged before n s).isl = s.isl
     ∧ (streamChanged before n s).life = s.life ∧ (streamChanged before n s).mode = s.mode
     ∧ (streamChanged before n s).nor = s.nor ∧ (streamChanged before n s).dict = s.dict
     ∧ (streamChanged before n s).mbx = s.mbx ∧ (streamChanged before n s).win = s.win
     ∧ (streamChanged before n s).port = s.port ∧ (streamChanged before n s).pack = s.pack
     ∧ (streamChanged before n s).bank = s.bank ∧ (streamChanged before n s).packEst = s.packEst
     ∧ (streamChanged before n s).bankEst = s.bankEst ∧ (streamChanged before n s).hold = s.hold
     ∧ (streamChanged before n s).rails = s.rails ∧ (streamChanged before n s).keep = s.keep
     ∧ (streamChanged before n s).tremor = s.tremor ∧ (streamChanged before n s).outage = s.outage
     ∧ (streamChanged before n s).pending = s.pending := by
  unfold streamChanged
  dsimp only
  (repeat' split) <;> simp

end Sys2Proof.Machine
end

