-- ==== Sys2Proof/Laws/FrameLifeOps.lean ====
section
/-! SUPPORT. Frames of Machine/LifeOps.lean: what each operation leaves unchanged. -/

namespace Sys2Proof.Machine

@[simp] theorem closeLock_frame (by_ : Option Session) (s : State) :
    (closeLock by_ s).time = s.time ∧ (closeLock by_ s).isl = s.isl ∧ (closeLock by_ s).life = s.life
     ∧ (closeLock by_ s).nor = s.nor ∧ (closeLock by_ s).dict = s.dict ∧ (closeLock by_ s).mbx = s.mbx
     ∧ (closeLock by_ s).win = s.win ∧ (closeLock by_ s).port = s.port ∧ (closeLock by_ s).cache = s.cache
     ∧ (closeLock by_ s).adm = s.adm ∧ (closeLock by_ s).pack = s.pack ∧ (closeLock by_ s).bank = s.bank
     ∧ (closeLock by_ s).packEst = s.packEst ∧ (closeLock by_ s).bankEst = s.bankEst ∧ (closeLock by_ s).hold = s.hold
     ∧ (closeLock by_ s).rails = s.rails ∧ (closeLock by_ s).keep = s.keep ∧ (closeLock by_ s).tremor = s.tremor
     ∧ (closeLock by_ s).outage = s.outage ∧ (closeLock by_ s).flash = s.flash ∧ (closeLock by_ s).video = s.video
     ∧ (closeLock by_ s).pending = s.pending := by
  unfold closeLock
  (repeat' split) <;> simp

@[simp] theorem closeExpert_frame (s : State) :
    (closeExpert s).time = s.time ∧ (closeExpert s).isl = s.isl ∧ (closeExpert s).life = s.life
     ∧ (closeExpert s).nor = s.nor ∧ (closeExpert s).dict = s.dict ∧ (closeExpert s).mbx = s.mbx
     ∧ (closeExpert s).win = s.win ∧ (closeExpert s).port = s.port ∧ (closeExpert s).cache = s.cache
     ∧ (closeExpert s).adm = s.adm ∧ (closeExpert s).pack = s.pack ∧ (closeExpert s).bank = s.bank
     ∧ (closeExpert s).packEst = s.packEst ∧ (closeExpert s).bankEst = s.bankEst ∧ (closeExpert s).hold = s.hold
     ∧ (closeExpert s).rails = s.rails ∧ (closeExpert s).keep = s.keep ∧ (closeExpert s).tremor = s.tremor
     ∧ (closeExpert s).outage = s.outage ∧ (closeExpert s).flash = s.flash ∧ (closeExpert s).video = s.video
     ∧ (closeExpert s).pending = s.pending := by
  unfold closeExpert
  (repeat' split) <;> simp

@[simp] theorem spoilFirmware_frame (s : State) :
    (spoilFirmware s).time = s.time ∧ (spoilFirmware s).isl = s.isl ∧ (spoilFirmware s).mode = s.mode
     ∧ (spoilFirmware s).dict = s.dict ∧ (spoilFirmware s).can = s.can ∧ (spoilFirmware s).mbx = s.mbx
     ∧ (spoilFirmware s).win = s.win ∧ (spoilFirmware s).port = s.port ∧ (spoilFirmware s).cache = s.cache
     ∧ (spoilFirmware s).adm = s.adm ∧ (spoilFirmware s).pack = s.pack ∧ (spoilFirmware s).bank = s.bank
     ∧ (spoilFirmware s).packEst = s.packEst ∧ (spoilFirmware s).bankEst = s.bankEst ∧ (spoilFirmware s).hold = s.hold
     ∧ (spoilFirmware s).rails = s.rails ∧ (spoilFirmware s).tremor = s.tremor ∧ (spoilFirmware s).outage = s.outage
     ∧ (spoilFirmware s).flash = s.flash ∧ (spoilFirmware s).video = s.video ∧ (spoilFirmware s).ev = s.ev
     ∧ (spoilFirmware s).out = s.out ∧ (spoilFirmware s).pending = s.pending := by
  unfold spoilFirmware
  (repeat' split) <;> simp

@[simp] theorem closeWindow_frame (w : Fin 7) (abandoned : Bool) (s : State) :
    (closeWindow w abandoned s).time = s.time ∧ (closeWindow w abandoned s).isl = s.isl
     ∧ (closeWindow w abandoned s).life = s.life ∧ (closeWindow w abandoned s).mode = s.mode
     ∧ (closeWindow w abandoned s).nor = s.nor ∧ (closeWindow w abandoned s).dict = s.dict
     ∧ (closeWindow w abandoned s).mbx = s.mbx ∧ (closeWindow w abandoned s).port = s.port
     ∧ (closeWindow w abandoned s).cache = s.cache ∧ (closeWindow w abandoned s).adm = s.adm
     ∧ (closeWindow w abandoned s).pack = s.pack ∧ (closeWindow w abandoned s).bank = s.bank
     ∧ (closeWindow w abandoned s).packEst = s.packEst ∧ (closeWindow w abandoned s).bankEst = s.bankEst
     ∧ (closeWindow w abandoned s).hold = s.hold ∧ (closeWindow w abandoned s).rails = s.rails
     ∧ (closeWindow w abandoned s).keep = s.keep ∧ (closeWindow w abandoned s).tremor = s.tremor
     ∧ (closeWindow w abandoned s).outage = s.outage ∧ (closeWindow w abandoned s).flash = s.flash
     ∧ (closeWindow w abandoned s).video = s.video ∧ (closeWindow w abandoned s).pending = s.pending := by
  unfold closeWindow
  (repeat' split) <;> simp

@[simp] theorem closeWindows_frame (p : Win → Bool) (abandoned : Bool) (s : State) :
    (closeWindows p abandoned s).time = s.time ∧ (closeWindows p abandoned s).isl = s.isl
     ∧ (closeWindows p abandoned s).life = s.life ∧ (closeWindows p abandoned s).mode = s.mode
     ∧ (closeWindows p abandoned s).nor = s.nor ∧ (closeWindows p abandoned s).dict = s.dict
     ∧ (closeWindows p abandoned s).mbx = s.mbx ∧ (closeWindows p abandoned s).port = s.port
     ∧ (closeWindows p abandoned s).cache = s.cache ∧ (closeWindows p abandoned s).adm = s.adm
     ∧ (closeWindows p abandoned s).pack = s.pack ∧ (closeWindows p abandoned s).bank = s.bank
     ∧ (closeWindows p abandoned s).packEst = s.packEst ∧ (closeWindows p abandoned s).bankEst = s.bankEst
     ∧ (closeWindows p abandoned s).hold = s.hold ∧ (closeWindows p abandoned s).rails = s.rails
     ∧ (closeWindows p abandoned s).keep = s.keep ∧ (closeWindows p abandoned s).tremor = s.tremor
     ∧ (closeWindows p abandoned s).outage = s.outage ∧ (closeWindows p abandoned s).flash = s.flash
     ∧ (closeWindows p abandoned s).video = s.video ∧ (closeWindows p abandoned s).pending = s.pending := by
  unfold closeWindows
  (repeat' split) <;> simp

@[simp] theorem hostChanged_frame (before s : State) :
    (hostChanged before s).time = s.time ∧ (hostChanged before s).isl = s.isl ∧ (hostChanged before s).life = s.life
     ∧ (hostChanged before s).nor = s.nor ∧ (hostChanged before s).dict = s.dict ∧ (hostChanged before s).mbx = s.mbx
     ∧ (hostChanged before s).win = s.win ∧ (hostChanged before s).port = s.port ∧ (hostChanged before s).adm = s.adm
     ∧ (hostChanged before s).pack = s.pack ∧ (hostChanged before s).bank = s.bank
     ∧ (hostChanged before s).packEst = s.packEst ∧ (hostChanged before s).bankEst = s.bankEst
     ∧ (hostChanged before s).rails = s.rails ∧ (hostChanged before s).keep = s.keep
     ∧ (hostChanged before s).tremor = s.tremor ∧ (hostChanged before s).outage = s.outage
     ∧ (hostChanged before s).flash = s.flash ∧ (hostChanged before s).pending = s.pending := by
  unfold hostChanged
  (repeat' split) <;> simp

@[simp] theorem resetFunction_frame (fn : Fin 16) (s : State) :
    (resetFunction fn s).time = s.time ∧ (resetFunction fn s).isl = s.isl ∧ (resetFunction fn s).life = s.life
     ∧ (resetFunction fn s).nor = s.nor ∧ (resetFunction fn s).dict = s.dict ∧ (resetFunction fn s).pack = s.pack
     ∧ (resetFunction fn s).bank = s.bank ∧ (resetFunction fn s).packEst = s.packEst
     ∧ (resetFunction fn s).bankEst = s.bankEst ∧ (resetFunction fn s).hold = s.hold
     ∧ (resetFunction fn s).rails = s.rails ∧ (resetFunction fn s).keep = s.keep
     ∧ (resetFunction fn s).tremor = s.tremor ∧ (resetFunction fn s).outage = s.outage
     ∧ (resetFunction fn s).flash = s.flash ∧ (resetFunction fn s).video = s.video
     ∧ (resetFunction fn s).pending = s.pending := by
  unfold resetFunction
  dsimp only
  (repeat' split) <;> simp

@[simp] theorem resetFunctions_frame (s : State) :
    (resetFunctions s).time = s.time ∧ (resetFunctions s).isl = s.isl ∧ (resetFunctions s).life = s.life
     ∧ (resetFunctions s).nor = s.nor ∧ (resetFunctions s).dict = s.dict ∧ (resetFunctions s).pack = s.pack
     ∧ (resetFunctions s).bank = s.bank ∧ (resetFunctions s).packEst = s.packEst
     ∧ (resetFunctions s).bankEst = s.bankEst ∧ (resetFunctions s).hold = s.hold ∧ (resetFunctions s).rails = s.rails
     ∧ (resetFunctions s).keep = s.keep ∧ (resetFunctions s).tremor = s.tremor ∧ (resetFunctions s).outage = s.outage
     ∧ (resetFunctions s).flash = s.flash ∧ (resetFunctions s).video = s.video
     ∧ (resetFunctions s).pending = s.pending := by
  unfold resetFunctions
  (repeat' split) <;> simp

@[simp] theorem resetEvery_frame (s : State) :
    (resetEvery s).time = s.time ∧ (resetEvery s).isl = s.isl ∧ (resetEvery s).life = s.life
     ∧ (resetEvery s).nor = s.nor ∧ (resetEvery s).dict = s.dict ∧ (resetEvery s).pack = s.pack
     ∧ (resetEvery s).bank = s.bank ∧ (resetEvery s).packEst = s.packEst ∧ (resetEvery s).bankEst = s.bankEst
     ∧ (resetEvery s).hold = s.hold ∧ (resetEvery s).rails = s.rails ∧ (resetEvery s).keep = s.keep
     ∧ (resetEvery s).tremor = s.tremor ∧ (resetEvery s).outage = s.outage ∧ (resetEvery s).flash = s.flash
     ∧ (resetEvery s).video = s.video ∧ (resetEvery s).pending = s.pending := by
  unfold resetEvery
  (repeat' split) <;> simp

@[simp] theorem disableVfs_frame (s : State) :
    (disableVfs s).time = s.time ∧ (disableVfs s).isl = s.isl ∧ (disableVfs s).life = s.life
     ∧ (disableVfs s).mode = s.mode ∧ (disableVfs s).nor = s.nor ∧ (disableVfs s).dict = s.dict
     ∧ (disableVfs s).can = s.can ∧ (disableVfs s).mbx = s.mbx ∧ (disableVfs s).win = s.win
     ∧ (disableVfs s).cache = s.cache ∧ (disableVfs s).adm = s.adm ∧ (disableVfs s).pack = s.pack
     ∧ (disableVfs s).bank = s.bank ∧ (disableVfs s).packEst = s.packEst ∧ (disableVfs s).bankEst = s.bankEst
     ∧ (disableVfs s).hold = s.hold ∧ (disableVfs s).rails = s.rails ∧ (disableVfs s).keep = s.keep
     ∧ (disableVfs s).tremor = s.tremor ∧ (disableVfs s).outage = s.outage ∧ (disableVfs s).flash = s.flash
     ∧ (disableVfs s).video = s.video ∧ (disableVfs s).ev = s.ev ∧ (disableVfs s).out = s.out
     ∧ (disableVfs s).pending = s.pending := by
  unfold disableVfs
  (repeat' split) <;> simp

@[simp] theorem linkLost_frame (s : State) :
    (linkLost s).time = s.time ∧ (linkLost s).isl = s.isl ∧ (linkLost s).life = s.life ∧ (linkLost s).nor = s.nor
     ∧ (linkLost s).dict = s.dict ∧ (linkLost s).pack = s.pack ∧ (linkLost s).bank = s.bank
     ∧ (linkLost s).packEst = s.packEst ∧ (linkLost s).bankEst = s.bankEst ∧ (linkLost s).rails = s.rails
     ∧ (linkLost s).keep = s.keep ∧ (linkLost s).tremor = s.tremor ∧ (linkLost s).outage = s.outage
     ∧ (linkLost s).flash = s.flash ∧ (linkLost s).pending = s.pending := by
  unfold linkLost
  (repeat' split) <;> simp

@[simp] theorem hostStops_frame (s : State) :
    (hostStops s).time = s.time ∧ (hostStops s).isl = s.isl ∧ (hostStops s).life = s.life ∧ (hostStops s).nor = s.nor
     ∧ (hostStops s).dict = s.dict ∧ (hostStops s).pack = s.pack ∧ (hostStops s).bank = s.bank
     ∧ (hostStops s).packEst = s.packEst ∧ (hostStops s).bankEst = s.bankEst ∧ (hostStops s).rails = s.rails
     ∧ (hostStops s).keep = s.keep ∧ (hostStops s).tremor = s.tremor ∧ (hostStops s).outage = s.outage
     ∧ (hostStops s).flash = s.flash ∧ (hostStops s).pending = s.pending := by
  unfold hostStops
  (repeat' split) <;> simp

@[simp] theorem islandRefresh_frame (i : Island) (s : State) :
    (islandRefresh i s).time = s.time ∧ (islandRefresh i s).life = s.life ∧ (islandRefresh i s).mode = s.mode
     ∧ (islandRefresh i s).nor = s.nor ∧ (islandRefresh i s).dict = s.dict ∧ (islandRefresh i s).can = s.can
     ∧ (islandRefresh i s).mbx = s.mbx ∧ (islandRefresh i s).win = s.win ∧ (islandRefresh i s).port = s.port
     ∧ (islandRefresh i s).cache = s.cache ∧ (islandRefresh i s).adm = s.adm ∧ (islandRefresh i s).pack = s.pack
     ∧ (islandRefresh i s).bank = s.bank ∧ (islandRefresh i s).packEst = s.packEst
     ∧ (islandRefresh i s).bankEst = s.bankEst ∧ (islandRefresh i s).hold = s.hold ∧ (islandRefresh i s).rails = s.rails
     ∧ (islandRefresh i s).keep = s.keep ∧ (islandRefresh i s).tremor = s.tremor ∧ (islandRefresh i s).outage = s.outage
     ∧ (islandRefresh i s).flash = s.flash ∧ (islandRefresh i s).video = s.video ∧ (islandRefresh i s).ev = s.ev
     ∧ (islandRefresh i s).out = s.out ∧ (islandRefresh i s).pending = s.pending := by
  unfold islandRefresh
  (repeat' split) <;> simp

@[simp] theorem islandsRefresh_frame (s : State) :
    (islandsRefresh s).time = s.time ∧ (islandsRefresh s).life = s.life ∧ (islandsRefresh s).nor = s.nor
     ∧ (islandsRefresh s).dict = s.dict ∧ (islandsRefresh s).pack = s.pack ∧ (islandsRefresh s).bank = s.bank
     ∧ (islandsRefresh s).packEst = s.packEst ∧ (islandsRefresh s).bankEst = s.bankEst
     ∧ (islandsRefresh s).rails = s.rails ∧ (islandsRefresh s).keep = s.keep ∧ (islandsRefresh s).tremor = s.tremor
     ∧ (islandsRefresh s).outage = s.outage ∧ (islandsRefresh s).flash = s.flash
     ∧ (islandsRefresh s).pending = s.pending := by
  unfold islandsRefresh
  (repeat' split) <;> simp

@[simp] theorem haltIslands_frame (s : State) :
    (haltIslands s).time = s.time ∧ (haltIslands s).life = s.life ∧ (haltIslands s).nor = s.nor
     ∧ (haltIslands s).dict = s.dict ∧ (haltIslands s).pack = s.pack ∧ (haltIslands s).bank = s.bank
     ∧ (haltIslands s).packEst = s.packEst ∧ (haltIslands s).bankEst = s.bankEst ∧ (haltIslands s).rails = s.rails
     ∧ (haltIslands s).keep = s.keep ∧ (haltIslands s).tremor = s.tremor ∧ (haltIslands s).outage = s.outage
     ∧ (haltIslands s).flash = s.flash ∧ (haltIslands s).pending = s.pending := by
  unfold haltIslands
  (repeat' split) <;> simp

@[simp] theorem enterState_frame (d : DevState) (why : Cause) (s : State) :
    (enterState d why s).time = s.time ∧ (enterState d why s).nor = s.nor ∧ (enterState d why s).dict = s.dict
     ∧ (enterState d why s).packEst = s.packEst ∧ (enterState d why s).bankEst = s.bankEst
     ∧ (enterState d why s).rails = s.rails ∧ (enterState d why s).keep = s.keep
     ∧ (enterState d why s).tremor = s.tremor ∧ (enterState d why s).outage = s.outage
     ∧ (enterState d why s).flash = s.flash ∧ (enterState d why s).pending = s.pending := by
  unfold enterState
  (repeat' split) <;> simp

@[simp] theorem applySaved_frame (saved : SMap Nat) (p : Nat → Bool) (s : State) :
    (applySaved saved p s).time = s.time ∧ (applySaved saved p s).life = s.life ∧ (applySaved saved p s).mode = s.mode
     ∧ (applySaved saved p s).nor = s.nor ∧ (applySaved saved p s).can = s.can ∧ (applySaved saved p s).mbx = s.mbx
     ∧ (applySaved saved p s).win = s.win ∧ (applySaved saved p s).port = s.port
     ∧ (applySaved saved p s).cache = s.cache ∧ (applySaved saved p s).adm = s.adm
     ∧ (applySaved saved p s).pack = s.pack ∧ (applySaved saved p s).bank = s.bank
     ∧ (applySaved saved p s).packEst = s.packEst ∧ (applySaved saved p s).bankEst = s.bankEst
     ∧ (applySaved saved p s).hold = s.hold ∧ (applySaved saved p s).rails = s.rails
     ∧ (applySaved saved p s).keep = s.keep ∧ (applySaved saved p s).tremor = s.tremor
     ∧ (applySaved saved p s).outage = s.outage ∧ (applySaved saved p s).flash = s.flash
     ∧ (applySaved saved p s).video = s.video ∧ (applySaved saved p s).ev = s.ev ∧ (applySaved saved p s).out = s.out
     ∧ (applySaved saved p s).pending = s.pending := by
  unfold applySaved
  (repeat' split) <;> simp

@[simp] theorem applyStored_frame (p : Nat → Bool) (s : State) :
    (applyStored p s).time = s.time ∧ (applyStored p s).life = s.life ∧ (applyStored p s).mode = s.mode
     ∧ (applyStored p s).nor = s.nor ∧ (applyStored p s).can = s.can ∧ (applyStored p s).mbx = s.mbx
     ∧ (applyStored p s).win = s.win ∧ (applyStored p s).port = s.port ∧ (applyStored p s).cache = s.cache
     ∧ (applyStored p s).adm = s.adm ∧ (applyStored p s).pack = s.pack ∧ (applyStored p s).bank = s.bank
     ∧ (applyStored p s).packEst = s.packEst ∧ (applyStored p s).bankEst = s.bankEst ∧ (applyStored p s).hold = s.hold
     ∧ (applyStored p s).rails = s.rails ∧ (applyStored p s).tremor = s.tremor ∧ (applyStored p s).outage = s.outage
     ∧ (applyStored p s).flash = s.flash ∧ (applyStored p s).video = s.video ∧ (applyStored p s).ev = s.ev
     ∧ (applyStored p s).out = s.out ∧ (applyStored p s).pending = s.pending := by
  unfold applyStored
  (repeat' split) <;> simp

@[simp] theorem canStart_frame (saved : SMap Nat) (s : State) :
    (canStart saved s).time = s.time ∧ (canStart saved s).isl = s.isl ∧ (canStart saved s).life = s.life
     ∧ (canStart saved s).mode = s.mode ∧ (canStart saved s).nor = s.nor ∧ (canStart saved s).dict = s.dict
     ∧ (canStart saved s).mbx = s.mbx ∧ (canStart saved s).win = s.win ∧ (canStart saved s).port = s.port
     ∧ (canStart saved s).cache = s.cache ∧ (canStart saved s).adm = s.adm ∧ (canStart saved s).pack = s.pack
     ∧ (canStart saved s).bank = s.bank ∧ (canStart saved s).packEst = s.packEst
     ∧ (canStart saved s).bankEst = s.bankEst ∧ (canStart saved s).hold = s.hold ∧ (canStart saved s).rails = s.rails
     ∧ (canStart saved s).keep = s.keep ∧ (canStart saved s).tremor = s.tremor ∧ (canStart saved s).outage = s.outage
     ∧ (canStart saved s).flash = s.flash ∧ (canStart saved s).video = s.video ∧ (canStart saved s).ev = s.ev
     ∧ (canStart saved s).pending = s.pending := by
  unfold canStart
  (repeat' split) <;> simp

@[simp] theorem setGroup_frame (g : Nat) (s : State) :
    (setGroup g s).time = s.time ∧ (setGroup g s).isl = s.isl ∧ (setGroup g s).life = s.life
     ∧ (setGroup g s).nor = s.nor ∧ (setGroup g s).dict = s.dict ∧ (setGroup g s).mbx = s.mbx
     ∧ (setGroup g s).win = s.win ∧ (setGroup g s).port = s.port ∧ (setGroup g s).cache = s.cache
     ∧ (setGroup g s).adm = s.adm ∧ (setGroup g s).pack = s.pack ∧ (setGroup g s).bank = s.bank
     ∧ (setGroup g s).packEst = s.packEst ∧ (setGroup g s).bankEst = s.bankEst ∧ (setGroup g s).hold = s.hold
     ∧ (setGroup g s).rails = s.rails ∧ (setGroup g s).keep = s.keep ∧ (setGroup g s).tremor = s.tremor
     ∧ (setGroup g s).outage = s.outage ∧ (setGroup g s).flash = s.flash ∧ (setGroup g s).video = s.video
     ∧ (setGroup g s).pending = s.pending := by
  unfold setGroup
  (repeat' split) <;> simp

@[simp] theorem groupRefresh_frame (s : State) :
    (groupRefresh s).time = s.time ∧ (groupRefresh s).isl = s.isl ∧ (groupRefresh s).life = s.life
     ∧ (groupRefresh s).nor = s.nor ∧ (groupRefresh s).dict = s.dict ∧ (groupRefresh s).mbx = s.mbx
     ∧ (groupRefresh s).win = s.win ∧ (groupRefresh s).port = s.port ∧ (groupRefresh s).cache = s.cache
     ∧ (groupRefresh s).adm = s.adm ∧ (groupRefresh s).pack = s.pack ∧ (groupRefresh s).bank = s.bank
     ∧ (groupRefresh s).packEst = s.packEst ∧ (groupRefresh s).bankEst = s.bankEst ∧ (groupRefresh s).hold = s.hold
     ∧ (groupRefresh s).rails = s.rails ∧ (groupRefresh s).keep = s.keep ∧ (groupRefresh s).tremor = s.tremor
     ∧ (groupRefresh s).outage = s.outage ∧ (groupRefresh s).flash = s.flash ∧ (groupRefresh s).video = s.video
     ∧ (groupRefresh s).pending = s.pending := by
  unfold groupRefresh
  (repeat' split) <;> simp

@[simp] theorem bootBegins_frame (s : State) :
    (bootBegins s).isl = s.isl ∧ (bootBegins s).nor = s.nor ∧ (bootBegins s).dict = s.dict ∧ (bootBegins s).mbx = s.mbx
     ∧ (bootBegins s).port = s.port ∧ (bootBegins s).cache = s.cache ∧ (bootBegins s).adm = s.adm
     ∧ (bootBegins s).pack = s.pack ∧ (bootBegins s).bank = s.bank ∧ (bootBegins s).packEst = s.packEst
     ∧ (bootBegins s).bankEst = s.bankEst ∧ (bootBegins s).hold = s.hold ∧ (bootBegins s).rails = s.rails
     ∧ (bootBegins s).keep = s.keep ∧ (bootBegins s).tremor = s.tremor ∧ (bootBegins s).outage = s.outage
     ∧ (bootBegins s).video = s.video ∧ (bootBegins s).pending = s.pending := by
  unfold bootBegins
  (repeat' split) <;> simp

theorem loseDram_frame (s : State) :
    (loseDram s).time = s.time ∧ (loseDram s).isl = s.isl ∧ (loseDram s).mode = s.mode ∧ (loseDram s).nor = s.nor
     ∧ (loseDram s).dict = s.dict ∧ (loseDram s).can = s.can ∧ (loseDram s).mbx = s.mbx ∧ (loseDram s).win = s.win
     ∧ (loseDram s).port = s.port ∧ (loseDram s).adm = s.adm ∧ (loseDram s).pack = s.pack ∧ (loseDram s).bank = s.bank
     ∧ (loseDram s).packEst = s.packEst ∧ (loseDram s).bankEst = s.bankEst ∧ (loseDram s).hold = s.hold
     ∧ (loseDram s).rails = s.rails ∧ (loseDram s).keep = s.keep ∧ (loseDram s).tremor = s.tremor
     ∧ (loseDram s).outage = s.outage ∧ (loseDram s).flash = s.flash ∧ (loseDram s).out = s.out
     ∧ (loseDram s).pending = s.pending := by
  unfold loseDram
  (repeat' split) <;> simp

theorem estAtBoot_frame (s : State) (c : Channel) :
    (estAtBoot s c).time = s.time ∧ (estAtBoot s c).isl = s.isl ∧ (estAtBoot s c).life = s.life
     ∧ (estAtBoot s c).mode = s.mode ∧ (estAtBoot s c).nor = s.nor ∧ (estAtBoot s c).dict = s.dict
     ∧ (estAtBoot s c).can = s.can ∧ (estAtBoot s c).mbx = s.mbx ∧ (estAtBoot s c).win = s.win
     ∧ (estAtBoot s c).port = s.port ∧ (estAtBoot s c).cache = s.cache ∧ (estAtBoot s c).adm = s.adm
     ∧ (estAtBoot s c).pack = s.pack ∧ (estAtBoot s c).bank = s.bank ∧ (estAtBoot s c).hold = s.hold
     ∧ (estAtBoot s c).rails = s.rails ∧ (estAtBoot s c).keep = s.keep ∧ (estAtBoot s c).tremor = s.tremor
     ∧ (estAtBoot s c).outage = s.outage ∧ (estAtBoot s c).flash = s.flash ∧ (estAtBoot s c).video = s.video
     ∧ (estAtBoot s c).ev = s.ev ∧ (estAtBoot s c).out = s.out ∧ (estAtBoot s c).pending = s.pending := by
  unfold estAtBoot
  (repeat' split) <;> simp

end Sys2Proof.Machine
end

