-- ==== Sys2Proof/Laws/FrameTremorOps.lean ====
section
/-! SUPPORT. Frames of Machine/TremorOps.lean: what each operation leaves unchanged. -/

namespace Sys2Proof.Machine

@[simp] theorem pullLine_frame (s : State) :
    (pullLine s).time = s.time ∧ (pullLine s).isl = s.isl ∧ (pullLine s).life = s.life ∧ (pullLine s).mode = s.mode
     ∧ (pullLine s).nor = s.nor ∧ (pullLine s).dict = s.dict ∧ (pullLine s).can = s.can ∧ (pullLine s).mbx = s.mbx
     ∧ (pullLine s).win = s.win ∧ (pullLine s).port = s.port ∧ (pullLine s).cache = s.cache ∧ (pullLine s).adm = s.adm
     ∧ (pullLine s).pack = s.pack ∧ (pullLine s).bank = s.bank ∧ (pullLine s).packEst = s.packEst
     ∧ (pullLine s).bankEst = s.bankEst ∧ (pullLine s).hold = s.hold ∧ (pullLine s).rails = s.rails
     ∧ (pullLine s).keep = s.keep ∧ (pullLine s).outage = s.outage ∧ (pullLine s).flash = s.flash
     ∧ (pullLine s).video = s.video ∧ (pullLine s).ev = s.ev ∧ (pullLine s).out = s.out ∧ (pullLine s).pending = s.pending := by
  unfold pullLine
  (repeat' split) <;> simp

@[simp] theorem releaseLine_frame (s : State) :
    (releaseLine s).time = s.time ∧ (releaseLine s).isl = s.isl ∧ (releaseLine s).life = s.life
     ∧ (releaseLine s).mode = s.mode ∧ (releaseLine s).nor = s.nor ∧ (releaseLine s).dict = s.dict
     ∧ (releaseLine s).can = s.can ∧ (releaseLine s).mbx = s.mbx ∧ (releaseLine s).win = s.win
     ∧ (releaseLine s).port = s.port ∧ (releaseLine s).cache = s.cache ∧ (releaseLine s).adm = s.adm
     ∧ (releaseLine s).pack = s.pack ∧ (releaseLine s).bank = s.bank ∧ (releaseLine s).packEst = s.packEst
     ∧ (releaseLine s).bankEst = s.bankEst ∧ (releaseLine s).hold = s.hold ∧ (releaseLine s).rails = s.rails
     ∧ (releaseLine s).keep = s.keep ∧ (releaseLine s).outage = s.outage ∧ (releaseLine s).flash = s.flash
     ∧ (releaseLine s).video = s.video ∧ (releaseLine s).ev = s.ev ∧ (releaseLine s).out = s.out
     ∧ (releaseLine s).pending = s.pending := by
  unfold releaseLine
  (repeat' split) <;> simp

@[simp] theorem downWork_frame (s : State) :
    (downWork s).time = s.time ∧ (downWork s).isl = s.isl ∧ (downWork s).life = s.life ∧ (downWork s).mode = s.mode
     ∧ (downWork s).nor = s.nor ∧ (downWork s).dict = s.dict ∧ (downWork s).can = s.can ∧ (downWork s).mbx = s.mbx
     ∧ (downWork s).win = s.win ∧ (downWork s).port = s.port ∧ (downWork s).cache = s.cache ∧ (downWork s).adm = s.adm
     ∧ (downWork s).pack = s.pack ∧ (downWork s).bank = s.bank ∧ (downWork s).packEst = s.packEst
     ∧ (downWork s).bankEst = s.bankEst ∧ (downWork s).hold = s.hold ∧ (downWork s).keep = s.keep
     ∧ (downWork s).tremor = s.tremor ∧ (downWork s).outage = s.outage ∧ (downWork s).flash = s.flash
     ∧ (downWork s).video = s.video ∧ (downWork s).ev = s.ev ∧ (downWork s).out = s.out ∧ (downWork s).pending = s.pending := by
  unfold downWork
  (repeat' split) <;> simp

@[simp] theorem enterDown_frame (k : Nat) (s : State) :
    (enterDown k s).time = s.time ∧ (enterDown k s).isl = s.isl ∧ (enterDown k s).life = s.life
     ∧ (enterDown k s).mode = s.mode ∧ (enterDown k s).nor = s.nor ∧ (enterDown k s).dict = s.dict
     ∧ (enterDown k s).can = s.can ∧ (enterDown k s).mbx = s.mbx ∧ (enterDown k s).win = s.win
     ∧ (enterDown k s).port = s.port ∧ (enterDown k s).cache = s.cache ∧ (enterDown k s).adm = s.adm
     ∧ (enterDown k s).pack = s.pack ∧ (enterDown k s).bank = s.bank ∧ (enterDown k s).packEst = s.packEst
     ∧ (enterDown k s).bankEst = s.bankEst ∧ (enterDown k s).hold = s.hold ∧ (enterDown k s).keep = s.keep
     ∧ (enterDown k s).outage = s.outage ∧ (enterDown k s).flash = s.flash ∧ (enterDown k s).video = s.video
     ∧ (enterDown k s).ev = s.ev ∧ (enterDown k s).out = s.out ∧ (enterDown k s).pending = s.pending := by
  unfold enterDown
  (repeat' split) <;> simp

@[simp] theorem upWork_frame (s : State) :
    (upWork s).time = s.time ∧ (upWork s).isl = s.isl ∧ (upWork s).life = s.life ∧ (upWork s).mode = s.mode
     ∧ (upWork s).nor = s.nor ∧ (upWork s).dict = s.dict ∧ (upWork s).can = s.can ∧ (upWork s).mbx = s.mbx
     ∧ (upWork s).win = s.win ∧ (upWork s).port = s.port ∧ (upWork s).cache = s.cache ∧ (upWork s).adm = s.adm
     ∧ (upWork s).pack = s.pack ∧ (upWork s).bank = s.bank ∧ (upWork s).packEst = s.packEst
     ∧ (upWork s).bankEst = s.bankEst ∧ (upWork s).hold = s.hold ∧ (upWork s).keep = s.keep ∧ (upWork s).outage = s.outage
     ∧ (upWork s).flash = s.flash ∧ (upWork s).video = s.video ∧ (upWork s).ev = s.ev ∧ (upWork s).out = s.out
     ∧ (upWork s).pending = s.pending := by
  unfold upWork
  (repeat' split) <;> simp

theorem enterUp_frame (k : Nat) (s : State) :
    (enterUp k s).time = s.time ∧ (enterUp k s).isl = s.isl ∧ (enterUp k s).life = s.life ∧ (enterUp k s).mode = s.mode
     ∧ (enterUp k s).nor = s.nor ∧ (enterUp k s).dict = s.dict ∧ (enterUp k s).can = s.can ∧ (enterUp k s).mbx = s.mbx
     ∧ (enterUp k s).win = s.win ∧ (enterUp k s).port = s.port ∧ (enterUp k s).cache = s.cache ∧ (enterUp k s).adm = s.adm
     ∧ (enterUp k s).pack = s.pack ∧ (enterUp k s).bank = s.bank ∧ (enterUp k s).packEst = s.packEst
     ∧ (enterUp k s).bankEst = s.bankEst ∧ (enterUp k s).hold = s.hold ∧ (enterUp k s).keep = s.keep
     ∧ (enterUp k s).outage = s.outage ∧ (enterUp k s).flash = s.flash ∧ (enterUp k s).video = s.video
     ∧ (enterUp k s).ev = s.ev ∧ (enterUp k s).out = s.out ∧ (enterUp k s).pending = s.pending := by
  unfold enterUp
  (repeat' split) <;> simp

@[simp] theorem announce_frame (s : State) :
    (announce s).time = s.time ∧ (announce s).isl = s.isl ∧ (announce s).life = s.life ∧ (announce s).mode = s.mode
     ∧ (announce s).nor = s.nor ∧ (announce s).dict = s.dict ∧ (announce s).mbx = s.mbx ∧ (announce s).win = s.win
     ∧ (announce s).port = s.port ∧ (announce s).cache = s.cache ∧ (announce s).adm = s.adm ∧ (announce s).pack = s.pack
     ∧ (announce s).bank = s.bank ∧ (announce s).packEst = s.packEst ∧ (announce s).bankEst = s.bankEst
     ∧ (announce s).hold = s.hold ∧ (announce s).rails = s.rails ∧ (announce s).keep = s.keep
     ∧ (announce s).tremor = s.tremor ∧ (announce s).outage = s.outage ∧ (announce s).flash = s.flash
     ∧ (announce s).video = s.video ∧ (announce s).pending = s.pending := by
  unfold announce
  (repeat' split) <;> simp

@[simp] theorem wantDown_frame (c : DownCause) (s : State) :
    (wantDown c s).time = s.time ∧ (wantDown c s).isl = s.isl ∧ (wantDown c s).life = s.life
     ∧ (wantDown c s).mode = s.mode ∧ (wantDown c s).nor = s.nor ∧ (wantDown c s).dict = s.dict
     ∧ (wantDown c s).can = s.can ∧ (wantDown c s).mbx = s.mbx ∧ (wantDown c s).win = s.win ∧ (wantDown c s).port = s.port
     ∧ (wantDown c s).cache = s.cache ∧ (wantDown c s).adm = s.adm ∧ (wantDown c s).pack = s.pack
     ∧ (wantDown c s).bank = s.bank ∧ (wantDown c s).packEst = s.packEst ∧ (wantDown c s).bankEst = s.bankEst
     ∧ (wantDown c s).hold = s.hold ∧ (wantDown c s).keep = s.keep ∧ (wantDown c s).outage = s.outage
     ∧ (wantDown c s).flash = s.flash ∧ (wantDown c s).video = s.video ∧ (wantDown c s).ev = s.ev
     ∧ (wantDown c s).out = s.out ∧ (wantDown c s).pending = s.pending := by
  unfold wantDown
  (repeat' split) <;> simp

@[simp] theorem wantReset_frame (s : State) :
    (wantReset s).time = s.time ∧ (wantReset s).isl = s.isl ∧ (wantReset s).life = s.life ∧ (wantReset s).mode = s.mode
     ∧ (wantReset s).nor = s.nor ∧ (wantReset s).dict = s.dict ∧ (wantReset s).can = s.can ∧ (wantReset s).mbx = s.mbx
     ∧ (wantReset s).win = s.win ∧ (wantReset s).port = s.port ∧ (wantReset s).cache = s.cache ∧ (wantReset s).adm = s.adm
     ∧ (wantReset s).pack = s.pack ∧ (wantReset s).bank = s.bank ∧ (wantReset s).packEst = s.packEst
     ∧ (wantReset s).bankEst = s.bankEst ∧ (wantReset s).hold = s.hold ∧ (wantReset s).rails = s.rails
     ∧ (wantReset s).keep = s.keep ∧ (wantReset s).outage = s.outage ∧ (wantReset s).flash = s.flash
     ∧ (wantReset s).video = s.video ∧ (wantReset s).ev = s.ev ∧ (wantReset s).out = s.out
     ∧ (wantReset s).pending = s.pending := by
  unfold wantReset
  (repeat' split) <;> simp

theorem tremorFault_frame (s : State) :
    (tremorFault s).time = s.time ∧ (tremorFault s).isl = s.isl ∧ (tremorFault s).life = s.life
     ∧ (tremorFault s).mode = s.mode ∧ (tremorFault s).nor = s.nor ∧ (tremorFault s).dict = s.dict
     ∧ (tremorFault s).mbx = s.mbx ∧ (tremorFault s).win = s.win ∧ (tremorFault s).port = s.port
     ∧ (tremorFault s).cache = s.cache ∧ (tremorFault s).adm = s.adm ∧ (tremorFault s).pack = s.pack
     ∧ (tremorFault s).bank = s.bank ∧ (tremorFault s).packEst = s.packEst ∧ (tremorFault s).bankEst = s.bankEst
     ∧ (tremorFault s).hold = s.hold ∧ (tremorFault s).rails = s.rails ∧ (tremorFault s).keep = s.keep
     ∧ (tremorFault s).outage = s.outage ∧ (tremorFault s).flash = s.flash ∧ (tremorFault s).video = s.video
     ∧ (tremorFault s).pending = s.pending := by
  unfold tremorFault
  (repeat' split) <;> simp

end Sys2Proof.Machine
end

