-- ==== Sys2Proof/Laws/FramePathOps.lean ====
section
/-! SUPPORT. Frames of Machine/PathOps.lean: what each operation leaves unchanged. -/

namespace Sys2Proof.Machine

theorem sleepLearns_frame (s : State) :
    (sleepLearns s).time = s.time ∧ (sleepLearns s).isl = s.isl ∧ (sleepLearns s).life = s.life
     ∧ (sleepLearns s).mode = s.mode ∧ (sleepLearns s).nor = s.nor ∧ (sleepLearns s).dict = s.dict
     ∧ (sleepLearns s).mbx = s.mbx ∧ (sleepLearns s).win = s.win ∧ (sleepLearns s).port = s.port
     ∧ (sleepLearns s).cache = s.cache ∧ (sleepLearns s).adm = s.adm ∧ (sleepLearns s).pack = s.pack
     ∧ (sleepLearns s).bank = s.bank ∧ (sleepLearns s).hold = s.hold ∧ (sleepLearns s).rails = s.rails
     ∧ (sleepLearns s).keep = s.keep ∧ (sleepLearns s).tremor = s.tremor ∧ (sleepLearns s).outage = s.outage
     ∧ (sleepLearns s).flash = s.flash ∧ (sleepLearns s).video = s.video ∧ (sleepLearns s).pending = s.pending := by
  unfold sleepLearns
  (repeat' split) <;> simp

@[simp] theorem haltLog_frame (s : State) :
    (haltLog s).time = s.time ∧ (haltLog s).isl = s.isl ∧ (haltLog s).life = s.life ∧ (haltLog s).mode = s.mode
     ∧ (haltLog s).nor = s.nor ∧ (haltLog s).dict = s.dict ∧ (haltLog s).mbx = s.mbx ∧ (haltLog s).win = s.win
     ∧ (haltLog s).port = s.port ∧ (haltLog s).cache = s.cache ∧ (haltLog s).adm = s.adm ∧ (haltLog s).pack = s.pack
     ∧ (haltLog s).bank = s.bank ∧ (haltLog s).packEst = s.packEst ∧ (haltLog s).bankEst = s.bankEst
     ∧ (haltLog s).hold = s.hold ∧ (haltLog s).rails = s.rails ∧ (haltLog s).keep = s.keep ∧ (haltLog s).tremor = s.tremor
     ∧ (haltLog s).outage = s.outage ∧ (haltLog s).flash = s.flash ∧ (haltLog s).video = s.video
     ∧ (haltLog s).pending = s.pending := by
  unfold haltLog
  (repeat' split) <;> simp

@[simp] theorem startEstimators_frame (s : State) :
    (startEstimators s).time = s.time ∧ (startEstimators s).isl = s.isl ∧ (startEstimators s).mode = s.mode
     ∧ (startEstimators s).nor = s.nor ∧ (startEstimators s).dict = s.dict ∧ (startEstimators s).can = s.can
     ∧ (startEstimators s).mbx = s.mbx ∧ (startEstimators s).win = s.win ∧ (startEstimators s).port = s.port
     ∧ (startEstimators s).cache = s.cache ∧ (startEstimators s).adm = s.adm ∧ (startEstimators s).pack = s.pack
     ∧ (startEstimators s).bank = s.bank ∧ (startEstimators s).hold = s.hold ∧ (startEstimators s).rails = s.rails
     ∧ (startEstimators s).keep = s.keep ∧ (startEstimators s).tremor = s.tremor
     ∧ (startEstimators s).outage = s.outage ∧ (startEstimators s).flash = s.flash
     ∧ (startEstimators s).video = s.video ∧ (startEstimators s).ev = s.ev ∧ (startEstimators s).out = s.out
     ∧ (startEstimators s).pending = s.pending := by
  unfold startEstimators
  (repeat' split) <;> simp

@[simp] theorem haltConfig_frame (cause : Nat) (s : State) :
    (haltConfig cause s).time = s.time ∧ (haltConfig cause s).mode = s.mode ∧ (haltConfig cause s).nor = s.nor
     ∧ (haltConfig cause s).can = s.can ∧ (haltConfig cause s).mbx = s.mbx ∧ (haltConfig cause s).win = s.win
     ∧ (haltConfig cause s).port = s.port ∧ (haltConfig cause s).cache = s.cache ∧ (haltConfig cause s).adm = s.adm
     ∧ (haltConfig cause s).pack = s.pack ∧ (haltConfig cause s).bank = s.bank ∧ (haltConfig cause s).hold = s.hold
     ∧ (haltConfig cause s).rails = s.rails ∧ (haltConfig cause s).tremor = s.tremor
     ∧ (haltConfig cause s).outage = s.outage ∧ (haltConfig cause s).flash = s.flash
     ∧ (haltConfig cause s).video = s.video ∧ (haltConfig cause s).ev = s.ev ∧ (haltConfig cause s).out = s.out
     ∧ (haltConfig cause s).pending = s.pending := by
  unfold haltConfig
  (repeat' split) <;> simp

@[simp] theorem haltCan_frame (s : State) :
    (haltCan s).time = s.time ∧ (haltCan s).isl = s.isl ∧ (haltCan s).life = s.life ∧ (haltCan s).mode = s.mode
     ∧ (haltCan s).nor = s.nor ∧ (haltCan s).dict = s.dict ∧ (haltCan s).mbx = s.mbx ∧ (haltCan s).win = s.win
     ∧ (haltCan s).port = s.port ∧ (haltCan s).cache = s.cache ∧ (haltCan s).adm = s.adm ∧ (haltCan s).pack = s.pack
     ∧ (haltCan s).bank = s.bank ∧ (haltCan s).packEst = s.packEst ∧ (haltCan s).bankEst = s.bankEst
     ∧ (haltCan s).hold = s.hold ∧ (haltCan s).rails = s.rails ∧ (haltCan s).keep = s.keep
     ∧ (haltCan s).tremor = s.tremor ∧ (haltCan s).outage = s.outage ∧ (haltCan s).flash = s.flash
     ∧ (haltCan s).video = s.video ∧ (haltCan s).ev = s.ev ∧ (haltCan s).pending = s.pending := by
  unfold haltCan
  (repeat' split) <;> simp

@[simp] theorem enterHalt_frame (cause : Nat) (control sticky : Bool) (s : State) :
    (enterHalt cause control sticky s).time = s.time ∧ (enterHalt cause control sticky s).nor = s.nor
     ∧ (enterHalt cause control sticky s).tremor = s.tremor ∧ (enterHalt cause control sticky s).flash = s.flash
     ∧ (enterHalt cause control sticky s).pending = s.pending := by
  unfold enterHalt
  (repeat' split) <;> simp

@[simp] theorem stopStreams_frame (why : Cause) (flags : Nat) (s : State) :
    (stopStreams why flags s).time = s.time ∧ (stopStreams why flags s).isl = s.isl
     ∧ (stopStreams why flags s).life = s.life ∧ (stopStreams why flags s).mode = s.mode
     ∧ (stopStreams why flags s).nor = s.nor ∧ (stopStreams why flags s).dict = s.dict
     ∧ (stopStreams why flags s).mbx = s.mbx ∧ (stopStreams why flags s).win = s.win
     ∧ (stopStreams why flags s).port = s.port ∧ (stopStreams why flags s).pack = s.pack
     ∧ (stopStreams why flags s).bank = s.bank ∧ (stopStreams why flags s).packEst = s.packEst
     ∧ (stopStreams why flags s).bankEst = s.bankEst ∧ (stopStreams why flags s).hold = s.hold
     ∧ (stopStreams why flags s).rails = s.rails ∧ (stopStreams why flags s).keep = s.keep
     ∧ (stopStreams why flags s).tremor = s.tremor ∧ (stopStreams why flags s).outage = s.outage
     ∧ (stopStreams why flags s).pending = s.pending := by
  unfold stopStreams
  (repeat' split) <;> simp

@[simp] theorem enterSinter_frame (cause : Nat) (s : State) :
    (enterSinter cause s).time = s.time ∧ (enterSinter cause s).nor = s.nor ∧ (enterSinter cause s).tremor = s.tremor
     ∧ (enterSinter cause s).pending = s.pending := by
  unfold enterSinter
  (repeat' split) <;> simp

@[simp] theorem loadDeadline_frame (s : State) :
    (loadDeadline s).time = s.time ∧ (loadDeadline s).isl = s.isl ∧ (loadDeadline s).life = s.life
     ∧ (loadDeadline s).mode = s.mode ∧ (loadDeadline s).nor = s.nor ∧ (loadDeadline s).dict = s.dict
     ∧ (loadDeadline s).can = s.can ∧ (loadDeadline s).mbx = s.mbx ∧ (loadDeadline s).win = s.win
     ∧ (loadDeadline s).port = s.port ∧ (loadDeadline s).cache = s.cache ∧ (loadDeadline s).adm = s.adm
     ∧ (loadDeadline s).pack = s.pack ∧ (loadDeadline s).bank = s.bank ∧ (loadDeadline s).packEst = s.packEst
     ∧ (loadDeadline s).bankEst = s.bankEst ∧ (loadDeadline s).hold = s.hold ∧ (loadDeadline s).rails = s.rails
     ∧ (loadDeadline s).keep = s.keep ∧ (loadDeadline s).tremor = s.tremor ∧ (loadDeadline s).flash = s.flash
     ∧ (loadDeadline s).video = s.video ∧ (loadDeadline s).ev = s.ev ∧ (loadDeadline s).out = s.out
     ∧ (loadDeadline s).pending = s.pending := by
  unfold loadDeadline
  (repeat' split) <;> simp

@[simp] theorem enterSimmer_frame (s : State) :
    (enterSimmer s).time = s.time ∧ (enterSimmer s).nor = s.nor ∧ (enterSimmer s).dict = s.dict
     ∧ (enterSimmer s).packEst = s.packEst ∧ (enterSimmer s).bankEst = s.bankEst ∧ (enterSimmer s).keep = s.keep
     ∧ (enterSimmer s).tremor = s.tremor ∧ (enterSimmer s).pending = s.pending := by
  unfold enterSimmer
  (repeat' split) <;> simp

@[simp] theorem warnEnds_frame (s : State) :
    (warnEnds s).time = s.time ∧ (warnEnds s).nor = s.nor ∧ (warnEnds s).tremor = s.tremor
     ∧ (warnEnds s).pending = s.pending := by
  unfold warnEnds
  (repeat' split) <;> simp

@[simp] theorem warnCheck_frame (s : State) :
    (warnCheck s).time = s.time ∧ (warnCheck s).nor = s.nor ∧ (warnCheck s).tremor = s.tremor
     ∧ (warnCheck s).pending = s.pending := by
  unfold warnCheck
  (repeat' split) <;> simp

@[simp] theorem shutGroup_frame (g : Nat) (c : DownCause) (s : State) :
    (shutGroup g c s).time = s.time ∧ (shutGroup g c s).isl = s.isl ∧ (shutGroup g c s).life = s.life
     ∧ (shutGroup g c s).mode = s.mode ∧ (shutGroup g c s).nor = s.nor ∧ (shutGroup g c s).dict = s.dict
     ∧ (shutGroup g c s).can = s.can ∧ (shutGroup g c s).mbx = s.mbx ∧ (shutGroup g c s).win = s.win
     ∧ (shutGroup g c s).port = s.port ∧ (shutGroup g c s).cache = s.cache ∧ (shutGroup g c s).adm = s.adm
     ∧ (shutGroup g c s).pack = s.pack ∧ (shutGroup g c s).bank = s.bank ∧ (shutGroup g c s).packEst = s.packEst
     ∧ (shutGroup g c s).bankEst = s.bankEst ∧ (shutGroup g c s).hold = s.hold ∧ (shutGroup g c s).keep = s.keep
     ∧ (shutGroup g c s).outage = s.outage ∧ (shutGroup g c s).flash = s.flash ∧ (shutGroup g c s).video = s.video
     ∧ (shutGroup g c s).ev = s.ev ∧ (shutGroup g c s).out = s.out ∧ (shutGroup g c s).pending = s.pending := by
  unfold shutGroup
  (repeat' split) <;> simp

@[simp] theorem abandonCommands_frame (s : State) :
    (abandonCommands s).time = s.time ∧ (abandonCommands s).isl = s.isl ∧ (abandonCommands s).life = s.life
     ∧ (abandonCommands s).mode = s.mode ∧ (abandonCommands s).nor = s.nor ∧ (abandonCommands s).dict = s.dict
     ∧ (abandonCommands s).mbx = s.mbx ∧ (abandonCommands s).win = s.win ∧ (abandonCommands s).pack = s.pack
     ∧ (abandonCommands s).bank = s.bank ∧ (abandonCommands s).packEst = s.packEst
     ∧ (abandonCommands s).bankEst = s.bankEst ∧ (abandonCommands s).hold = s.hold
     ∧ (abandonCommands s).rails = s.rails ∧ (abandonCommands s).keep = s.keep ∧ (abandonCommands s).tremor = s.tremor
     ∧ (abandonCommands s).outage = s.outage ∧ (abandonCommands s).flash = s.flash
     ∧ (abandonCommands s).video = s.video ∧ (abandonCommands s).pending = s.pending := by
  unfold abandonCommands
  (repeat' split) <;> simp

@[simp] theorem saveOrder_frame (s : State) :
    (saveOrder s).time = s.time ∧ (saveOrder s).nor = s.nor ∧ (saveOrder s).pending = s.pending := by
  unfold saveOrder
  (repeat' split) <;> simp

@[simp] theorem startSettle_frame (cause : Nat) (s : State) :
    (startSettle cause s).time = s.time ∧ (startSettle cause s).nor = s.nor
     ∧ (startSettle cause s).pending = s.pending := by
  unfold startSettle
  (repeat' split) <;> simp

theorem settleCheck_frame (s : State) :
    (settleCheck s).time = s.time ∧ (settleCheck s).nor = s.nor ∧ (settleCheck s).pending = s.pending := by
  unfold settleCheck
  (repeat' split) <;> simp

@[simp] theorem warnWindows_frame (s : State) :
    (warnWindows s).time = s.time ∧ (warnWindows s).isl = s.isl ∧ (warnWindows s).mode = s.mode
     ∧ (warnWindows s).dict = s.dict ∧ (warnWindows s).mbx = s.mbx ∧ (warnWindows s).port = s.port
     ∧ (warnWindows s).cache = s.cache ∧ (warnWindows s).adm = s.adm ∧ (warnWindows s).pack = s.pack
     ∧ (warnWindows s).bank = s.bank ∧ (warnWindows s).packEst = s.packEst ∧ (warnWindows s).bankEst = s.bankEst
     ∧ (warnWindows s).hold = s.hold ∧ (warnWindows s).rails = s.rails ∧ (warnWindows s).tremor = s.tremor
     ∧ (warnWindows s).outage = s.outage ∧ (warnWindows s).flash = s.flash ∧ (warnWindows s).video = s.video
     ∧ (warnWindows s).pending = s.pending := by
  unfold warnWindows
  (repeat' split) <;> simp

@[simp] theorem firstDecision_frame (s : State) :
    (firstDecision s).time = s.time ∧ (firstDecision s).isl = s.isl ∧ (firstDecision s).life = s.life
     ∧ (firstDecision s).mode = s.mode ∧ (firstDecision s).nor = s.nor ∧ (firstDecision s).dict = s.dict
     ∧ (firstDecision s).mbx = s.mbx ∧ (firstDecision s).win = s.win ∧ (firstDecision s).port = s.port
     ∧ (firstDecision s).cache = s.cache ∧ (firstDecision s).adm = s.adm ∧ (firstDecision s).pack = s.pack
     ∧ (firstDecision s).bank = s.bank ∧ (firstDecision s).packEst = s.packEst ∧ (firstDecision s).bankEst = s.bankEst
     ∧ (firstDecision s).hold = s.hold ∧ (firstDecision s).rails = s.rails ∧ (firstDecision s).keep = s.keep
     ∧ (firstDecision s).tremor = s.tremor ∧ (firstDecision s).flash = s.flash ∧ (firstDecision s).video = s.video
     ∧ (firstDecision s).pending = s.pending := by
  unfold firstDecision
  (repeat' split) <;> simp

@[simp] theorem stopRequest_frame (s : State) :
    (stopRequest s).time = s.time ∧ (stopRequest s).isl = s.isl ∧ (stopRequest s).life = s.life
     ∧ (stopRequest s).mode = s.mode ∧ (stopRequest s).nor = s.nor ∧ (stopRequest s).dict = s.dict
     ∧ (stopRequest s).can = s.can ∧ (stopRequest s).mbx = s.mbx ∧ (stopRequest s).win = s.win
     ∧ (stopRequest s).port = s.port ∧ (stopRequest s).cache = s.cache ∧ (stopRequest s).adm = s.adm
     ∧ (stopRequest s).pack = s.pack ∧ (stopRequest s).bank = s.bank ∧ (stopRequest s).packEst = s.packEst
     ∧ (stopRequest s).bankEst = s.bankEst ∧ (stopRequest s).hold = s.hold ∧ (stopRequest s).keep = s.keep
     ∧ (stopRequest s).tremor = s.tremor ∧ (stopRequest s).outage = s.outage ∧ (stopRequest s).flash = s.flash
     ∧ (stopRequest s).video = s.video ∧ (stopRequest s).ev = s.ev ∧ (stopRequest s).out = s.out
     ∧ (stopRequest s).pending = s.pending := by
  unfold stopRequest
  (repeat' split) <;> simp

theorem enterWarn_frame (fatal : Bool) (why : Cause) (s : State) :
    (enterWarn fatal why s).time = s.time ∧ (enterWarn fatal why s).dict = s.dict
     ∧ (enterWarn fatal why s).tremor = s.tremor ∧ (enterWarn fatal why s).pending = s.pending := by
  unfold enterWarn
  (repeat' split) <;> simp

@[simp] theorem endRestore_frame (s : State) :
    (endRestore s).time = s.time ∧ (endRestore s).isl = s.isl ∧ (endRestore s).life = s.life
     ∧ (endRestore s).mode = s.mode ∧ (endRestore s).nor = s.nor ∧ (endRestore s).dict = s.dict
     ∧ (endRestore s).mbx = s.mbx ∧ (endRestore s).win = s.win ∧ (endRestore s).port = s.port
     ∧ (endRestore s).cache = s.cache ∧ (endRestore s).adm = s.adm ∧ (endRestore s).pack = s.pack
     ∧ (endRestore s).bank = s.bank ∧ (endRestore s).packEst = s.packEst ∧ (endRestore s).bankEst = s.bankEst
     ∧ (endRestore s).hold = s.hold ∧ (endRestore s).rails = s.rails ∧ (endRestore s).keep = s.keep
     ∧ (endRestore s).tremor = s.tremor ∧ (endRestore s).outage = s.outage ∧ (endRestore s).video = s.video
     ∧ (endRestore s).pending = s.pending := by
  unfold endRestore
  (repeat' split) <;> simp

theorem resumeServe_frame (s : State) :
    (resumeServe s).time = s.time ∧ (resumeServe s).nor = s.nor ∧ (resumeServe s).dict = s.dict
     ∧ (resumeServe s).packEst = s.packEst ∧ (resumeServe s).bankEst = s.bankEst ∧ (resumeServe s).keep = s.keep
     ∧ (resumeServe s).pending = s.pending := by
  unfold resumeServe
  (repeat' split) <;> simp

theorem bootFails_frame (cause : Nat) (s : State) :
    (bootFails cause s).time = s.time ∧ (bootFails cause s).nor = s.nor ∧ (bootFails cause s).tremor = s.tremor
     ∧ (bootFails cause s).flash = s.flash ∧ (bootFails cause s).pending = s.pending := by
  unfold bootFails
  (repeat' split) <;> simp

theorem dieHalt_frame (s : State) :
    (dieHalt s).nor = s.nor ∧ (dieHalt s).dict = s.dict ∧ (dieHalt s).pack = s.pack ∧ (dieHalt s).bank = s.bank
     ∧ (dieHalt s).packEst = s.packEst ∧ (dieHalt s).bankEst = s.bankEst ∧ (dieHalt s).keep = s.keep
     ∧ (dieHalt s).tremor = s.tremor ∧ (dieHalt s).outage = s.outage ∧ (dieHalt s).flash = s.flash
     ∧ (dieHalt s).pending = s.pending := by
  unfold dieHalt
  (repeat' split) <;> simp

@[simp] theorem startFirmware_frame (s : State) :
    (startFirmware s).time = s.time ∧ (startFirmware s).isl = s.isl ∧ (startFirmware s).mode = s.mode
     ∧ (startFirmware s).nor = s.nor ∧ (startFirmware s).dict = s.dict ∧ (startFirmware s).mbx = s.mbx
     ∧ (startFirmware s).win = s.win ∧ (startFirmware s).port = s.port ∧ (startFirmware s).cache = s.cache
     ∧ (startFirmware s).adm = s.adm ∧ (startFirmware s).pack = s.pack ∧ (startFirmware s).bank = s.bank
     ∧ (startFirmware s).packEst = s.packEst ∧ (startFirmware s).bankEst = s.bankEst ∧ (startFirmware s).hold = s.hold
     ∧ (startFirmware s).rails = s.rails ∧ (startFirmware s).tremor = s.tremor ∧ (startFirmware s).outage = s.outage
     ∧ (startFirmware s).flash = s.flash ∧ (startFirmware s).video = s.video ∧ (startFirmware s).pending = s.pending := by
  unfold startFirmware
  (repeat' split) <;> simp

@[simp] theorem warmBoot_frame (cause : Nat) (why : Cause) (s : State) :
    (warmBoot cause why s).nor = s.nor ∧ (warmBoot cause why s).dict = s.dict ∧ (warmBoot cause why s).tremor = s.tremor
     ∧ (warmBoot cause why s).outage = s.outage ∧ (warmBoot cause why s).pending = s.pending := by
  unfold warmBoot
  (repeat' split) <;> simp

@[simp] theorem outageRestart_frame (s : State) :
    (outageRestart s).nor = s.nor ∧ (outageRestart s).dict = s.dict ∧ (outageRestart s).tremor = s.tremor
     ∧ (outageRestart s).outage = s.outage ∧ (outageRestart s).pending = s.pending := by
  unfold outageRestart
  (repeat' split) <;> simp

end Sys2Proof.Machine
end

