-- ==== Sys2Proof/Laws/FrameWindowOps.lean ====
section
/-! SUPPORT. Frames of Machine/WindowOps.lean: what each operation leaves unchanged. -/

namespace Sys2Proof.Machine

@[simp] theorem touchWin_frame (p : Session) (w : Fin 7) (s : State) :
    (touchWin p w s).time = s.time ∧ (touchWin p w s).isl = s.isl ∧ (touchWin p w s).life = s.life
     ∧ (touchWin p w s).mode = s.mode ∧ (touchWin p w s).nor = s.nor ∧ (touchWin p w s).dict = s.dict
     ∧ (touchWin p w s).can = s.can ∧ (touchWin p w s).mbx = s.mbx ∧ (touchWin p w s).port = s.port
     ∧ (touchWin p w s).cache = s.cache ∧ (touchWin p w s).adm = s.adm ∧ (touchWin p w s).pack = s.pack
     ∧ (touchWin p w s).bank = s.bank ∧ (touchWin p w s).packEst = s.packEst ∧ (touchWin p w s).bankEst = s.bankEst
     ∧ (touchWin p w s).hold = s.hold ∧ (touchWin p w s).rails = s.rails ∧ (touchWin p w s).keep = s.keep
     ∧ (touchWin p w s).tremor = s.tremor ∧ (touchWin p w s).outage = s.outage ∧ (touchWin p w s).flash = s.flash
     ∧ (touchWin p w s).video = s.video ∧ (touchWin p w s).ev = s.ev ∧ (touchWin p w s).out = s.out
     ∧ (touchWin p w s).pending = s.pending := by
  unfold touchWin
  (repeat' split) <;> simp

@[simp] theorem readData_frame (p : Session) (w : Fin 7) (n : Nat) (s : State) :
    (readData p w n s).1.time = s.time ∧ (readData p w n s).1.isl = s.isl ∧ (readData p w n s).1.life = s.life
     ∧ (readData p w n s).1.mode = s.mode ∧ (readData p w n s).1.nor = s.nor ∧ (readData p w n s).1.dict = s.dict
     ∧ (readData p w n s).1.can = s.can ∧ (readData p w n s).1.mbx = s.mbx ∧ (readData p w n s).1.port = s.port
     ∧ (readData p w n s).1.cache = s.cache ∧ (readData p w n s).1.adm = s.adm ∧ (readData p w n s).1.pack = s.pack
     ∧ (readData p w n s).1.bank = s.bank ∧ (readData p w n s).1.packEst = s.packEst
     ∧ (readData p w n s).1.bankEst = s.bankEst ∧ (readData p w n s).1.hold = s.hold
     ∧ (readData p w n s).1.rails = s.rails ∧ (readData p w n s).1.keep = s.keep ∧ (readData p w n s).1.tremor = s.tremor
     ∧ (readData p w n s).1.outage = s.outage ∧ (readData p w n s).1.flash = s.flash
     ∧ (readData p w n s).1.video = s.video ∧ (readData p w n s).1.ev = s.ev ∧ (readData p w n s).1.out = s.out
     ∧ (readData p w n s).1.pending = s.pending := by
  unfold readData
  dsimp only
  (repeat' split) <;> simp

theorem writeData_frame (p : Session) (w : Fin 7) (data : List Byte) (s : State) :
    (writeData p w data s).1.time = s.time ∧ (writeData p w data s).1.isl = s.isl ∧ (writeData p w data s).1.life = s.life
     ∧ (writeData p w data s).1.mode = s.mode ∧ (writeData p w data s).1.nor = s.nor
     ∧ (writeData p w data s).1.dict = s.dict ∧ (writeData p w data s).1.can = s.can
     ∧ (writeData p w data s).1.mbx = s.mbx ∧ (writeData p w data s).1.port = s.port
     ∧ (writeData p w data s).1.cache = s.cache ∧ (writeData p w data s).1.adm = s.adm
     ∧ (writeData p w data s).1.pack = s.pack ∧ (writeData p w data s).1.bank = s.bank
     ∧ (writeData p w data s).1.packEst = s.packEst ∧ (writeData p w data s).1.bankEst = s.bankEst
     ∧ (writeData p w data s).1.hold = s.hold ∧ (writeData p w data s).1.rails = s.rails
     ∧ (writeData p w data s).1.keep = s.keep ∧ (writeData p w data s).1.tremor = s.tremor
     ∧ (writeData p w data s).1.outage = s.outage ∧ (writeData p w data s).1.flash = s.flash
     ∧ (writeData p w data s).1.video = s.video ∧ (writeData p w data s).1.ev = s.ev
     ∧ (writeData p w data s).1.out = s.out ∧ (writeData p w data s).1.pending = s.pending := by
  unfold writeData
  dsimp only
  (repeat' split) <;> simp

@[simp] theorem openRead_frame (p : Session) (w : Fin 7) (s : State) :
    (openRead p w s).1.time = s.time ∧ (openRead p w s).1.isl = s.isl ∧ (openRead p w s).1.life = s.life
     ∧ (openRead p w s).1.mode = s.mode ∧ (openRead p w s).1.nor = s.nor ∧ (openRead p w s).1.dict = s.dict
     ∧ (openRead p w s).1.can = s.can ∧ (openRead p w s).1.mbx = s.mbx ∧ (openRead p w s).1.port = s.port
     ∧ (openRead p w s).1.cache = s.cache ∧ (openRead p w s).1.adm = s.adm ∧ (openRead p w s).1.pack = s.pack
     ∧ (openRead p w s).1.bank = s.bank ∧ (openRead p w s).1.packEst = s.packEst ∧ (openRead p w s).1.bankEst = s.bankEst
     ∧ (openRead p w s).1.hold = s.hold ∧ (openRead p w s).1.rails = s.rails ∧ (openRead p w s).1.keep = s.keep
     ∧ (openRead p w s).1.tremor = s.tremor ∧ (openRead p w s).1.outage = s.outage ∧ (openRead p w s).1.flash = s.flash
     ∧ (openRead p w s).1.video = s.video ∧ (openRead p w s).1.ev = s.ev ∧ (openRead p w s).1.out = s.out
     ∧ (openRead p w s).1.pending = s.pending := by
  unfold openRead
  dsimp only
  (repeat' split) <;> simp

@[simp] theorem openWrite_frame (p : Session) (w : Fin 7) (s : State) :
    (openWrite p w s).1.time = s.time ∧ (openWrite p w s).1.isl = s.isl ∧ (openWrite p w s).1.life = s.life
     ∧ (openWrite p w s).1.mode = s.mode ∧ (openWrite p w s).1.nor = s.nor ∧ (openWrite p w s).1.dict = s.dict
     ∧ (openWrite p w s).1.can = s.can ∧ (openWrite p w s).1.mbx = s.mbx ∧ (openWrite p w s).1.port = s.port
     ∧ (openWrite p w s).1.cache = s.cache ∧ (openWrite p w s).1.adm = s.adm ∧ (openWrite p w s).1.pack = s.pack
     ∧ (openWrite p w s).1.bank = s.bank ∧ (openWrite p w s).1.packEst = s.packEst
     ∧ (openWrite p w s).1.bankEst = s.bankEst ∧ (openWrite p w s).1.hold = s.hold ∧ (openWrite p w s).1.rails = s.rails
     ∧ (openWrite p w s).1.keep = s.keep ∧ (openWrite p w s).1.tremor = s.tremor ∧ (openWrite p w s).1.outage = s.outage
     ∧ (openWrite p w s).1.flash = s.flash ∧ (openWrite p w s).1.video = s.video ∧ (openWrite p w s).1.ev = s.ev
     ∧ (openWrite p w s).1.out = s.out ∧ (openWrite p w s).1.pending = s.pending := by
  unfold openWrite
  dsimp only
  (repeat' split) <;> simp

@[simp] theorem commitWin_frame (p : Session) (w : Fin 7) (s : State) :
    (commitWin p w s).1.time = s.time ∧ (commitWin p w s).1.isl = s.isl ∧ (commitWin p w s).1.life = s.life
     ∧ (commitWin p w s).1.mode = s.mode ∧ (commitWin p w s).1.nor = s.nor ∧ (commitWin p w s).1.dict = s.dict
     ∧ (commitWin p w s).1.mbx = s.mbx ∧ (commitWin p w s).1.port = s.port ∧ (commitWin p w s).1.cache = s.cache
     ∧ (commitWin p w s).1.adm = s.adm ∧ (commitWin p w s).1.pack = s.pack ∧ (commitWin p w s).1.bank = s.bank
     ∧ (commitWin p w s).1.packEst = s.packEst ∧ (commitWin p w s).1.bankEst = s.bankEst
     ∧ (commitWin p w s).1.hold = s.hold ∧ (commitWin p w s).1.rails = s.rails ∧ (commitWin p w s).1.keep = s.keep
     ∧ (commitWin p w s).1.tremor = s.tremor ∧ (commitWin p w s).1.outage = s.outage ∧ (commitWin p w s).1.flash = s.flash
     ∧ (commitWin p w s).1.video = s.video ∧ (commitWin p w s).1.pending = s.pending := by
  unfold commitWin
  dsimp only
  (repeat' split) <;> simp

@[simp] theorem abortWin_frame (p : Session) (w : Fin 7) (s : State) :
    (abortWin p w s).1.time = s.time ∧ (abortWin p w s).1.isl = s.isl ∧ (abortWin p w s).1.life = s.life
     ∧ (abortWin p w s).1.mode = s.mode ∧ (abortWin p w s).1.nor = s.nor ∧ (abortWin p w s).1.dict = s.dict
     ∧ (abortWin p w s).1.mbx = s.mbx ∧ (abortWin p w s).1.port = s.port ∧ (abortWin p w s).1.cache = s.cache
     ∧ (abortWin p w s).1.adm = s.adm ∧ (abortWin p w s).1.pack = s.pack ∧ (abortWin p w s).1.bank = s.bank
     ∧ (abortWin p w s).1.packEst = s.packEst ∧ (abortWin p w s).1.bankEst = s.bankEst ∧ (abortWin p w s).1.hold = s.hold
     ∧ (abortWin p w s).1.rails = s.rails ∧ (abortWin p w s).1.keep = s.keep ∧ (abortWin p w s).1.tremor = s.tremor
     ∧ (abortWin p w s).1.outage = s.outage ∧ (abortWin p w s).1.flash = s.flash ∧ (abortWin p w s).1.video = s.video
     ∧ (abortWin p w s).1.pending = s.pending := by
  unfold abortWin
  dsimp only
  (repeat' split) <;> simp

theorem writeWin_frame (p : Session) (w : Fin 7) (sub v : Nat) (s : State) :
    (writeWin p w sub v s).1.time = s.time ∧ (writeWin p w sub v s).1.isl = s.isl ∧ (writeWin p w sub v s).1.life = s.life
     ∧ (writeWin p w sub v s).1.mode = s.mode ∧ (writeWin p w sub v s).1.nor = s.nor
     ∧ (writeWin p w sub v s).1.dict = s.dict ∧ (writeWin p w sub v s).1.can = s.can
     ∧ (writeWin p w sub v s).1.mbx = s.mbx ∧ (writeWin p w sub v s).1.port = s.port
     ∧ (writeWin p w sub v s).1.cache = s.cache ∧ (writeWin p w sub v s).1.adm = s.adm
     ∧ (writeWin p w sub v s).1.pack = s.pack ∧ (writeWin p w sub v s).1.bank = s.bank
     ∧ (writeWin p w sub v s).1.packEst = s.packEst ∧ (writeWin p w sub v s).1.bankEst = s.bankEst
     ∧ (writeWin p w sub v s).1.hold = s.hold ∧ (writeWin p w sub v s).1.rails = s.rails
     ∧ (writeWin p w sub v s).1.keep = s.keep ∧ (writeWin p w sub v s).1.tremor = s.tremor
     ∧ (writeWin p w sub v s).1.outage = s.outage ∧ (writeWin p w sub v s).1.flash = s.flash
     ∧ (writeWin p w sub v s).1.video = s.video ∧ (writeWin p w sub v s).1.ev = s.ev
     ∧ (writeWin p w sub v s).1.out = s.out ∧ (writeWin p w sub v s).1.pending = s.pending := by
  unfold writeWin
  dsimp only
  (repeat' split) <;> simp

@[simp] theorem stageTable_frame (target : Nat) (b : List Byte) (s : State) :
    (stageTable target b s).time = s.time ∧ (stageTable target b s).isl = s.isl ∧ (stageTable target b s).life = s.life
     ∧ (stageTable target b s).mode = s.mode ∧ (stageTable target b s).nor = s.nor ∧ (stageTable target b s).dict = s.dict
     ∧ (stageTable target b s).can = s.can ∧ (stageTable target b s).mbx = s.mbx ∧ (stageTable target b s).win = s.win
     ∧ (stageTable target b s).port = s.port ∧ (stageTable target b s).cache = s.cache
     ∧ (stageTable target b s).adm = s.adm ∧ (stageTable target b s).pack = s.pack ∧ (stageTable target b s).bank = s.bank
     ∧ (stageTable target b s).hold = s.hold ∧ (stageTable target b s).rails = s.rails
     ∧ (stageTable target b s).keep = s.keep ∧ (stageTable target b s).tremor = s.tremor
     ∧ (stageTable target b s).outage = s.outage ∧ (stageTable target b s).flash = s.flash
     ∧ (stageTable target b s).video = s.video ∧ (stageTable target b s).ev = s.ev ∧ (stageTable target b s).out = s.out
     ∧ (stageTable target b s).pending = s.pending := by
  unfold stageTable
  (repeat' split) <;> simp

@[simp] theorem loadTable_frame (c : Channel) (s : State) :
    (loadTable c s).time = s.time ∧ (loadTable c s).isl = s.isl ∧ (loadTable c s).life = s.life
     ∧ (loadTable c s).mode = s.mode ∧ (loadTable c s).nor = s.nor ∧ (loadTable c s).dict = s.dict
     ∧ (loadTable c s).mbx = s.mbx ∧ (loadTable c s).win = s.win ∧ (loadTable c s).port = s.port
     ∧ (loadTable c s).cache = s.cache ∧ (loadTable c s).adm = s.adm ∧ (loadTable c s).pack = s.pack
     ∧ (loadTable c s).bank = s.bank ∧ (loadTable c s).hold = s.hold ∧ (loadTable c s).rails = s.rails
     ∧ (loadTable c s).keep = s.keep ∧ (loadTable c s).tremor = s.tremor ∧ (loadTable c s).outage = s.outage
     ∧ (loadTable c s).flash = s.flash ∧ (loadTable c s).video = s.video ∧ (loadTable c s).pending = s.pending := by
  unfold loadTable
  (repeat' split) <;> simp

@[simp] theorem storeFirmware_frame (image : List Byte) (s : State) :
    (storeFirmware image s).time = s.time ∧ (storeFirmware image s).isl = s.isl ∧ (storeFirmware image s).mode = s.mode
     ∧ (storeFirmware image s).dict = s.dict ∧ (storeFirmware image s).can = s.can ∧ (storeFirmware image s).mbx = s.mbx
     ∧ (storeFirmware image s).win = s.win ∧ (storeFirmware image s).port = s.port
     ∧ (storeFirmware image s).cache = s.cache ∧ (storeFirmware image s).adm = s.adm
     ∧ (storeFirmware image s).pack = s.pack ∧ (storeFirmware image s).bank = s.bank
     ∧ (storeFirmware image s).packEst = s.packEst ∧ (storeFirmware image s).bankEst = s.bankEst
     ∧ (storeFirmware image s).hold = s.hold ∧ (storeFirmware image s).rails = s.rails
     ∧ (storeFirmware image s).tremor = s.tremor ∧ (storeFirmware image s).outage = s.outage
     ∧ (storeFirmware image s).flash = s.flash ∧ (storeFirmware image s).video = s.video
     ∧ (storeFirmware image s).ev = s.ev ∧ (storeFirmware image s).out = s.out
     ∧ (storeFirmware image s).pending = s.pending := by
  unfold storeFirmware
  (repeat' split) <;> simp

@[simp] theorem storeLayer_frame (target : Nat) (b : List Byte) (s : State) :
    (storeLayer target b s).time = s.time ∧ (storeLayer target b s).isl = s.isl ∧ (storeLayer target b s).life = s.life
     ∧ (storeLayer target b s).mode = s.mode ∧ (storeLayer target b s).nor = s.nor ∧ (storeLayer target b s).dict = s.dict
     ∧ (storeLayer target b s).can = s.can ∧ (storeLayer target b s).mbx = s.mbx ∧ (storeLayer target b s).win = s.win
     ∧ (storeLayer target b s).port = s.port ∧ (storeLayer target b s).cache = s.cache
     ∧ (storeLayer target b s).adm = s.adm ∧ (storeLayer target b s).pack = s.pack ∧ (storeLayer target b s).bank = s.bank
     ∧ (storeLayer target b s).packEst = s.packEst ∧ (storeLayer target b s).bankEst = s.bankEst
     ∧ (storeLayer target b s).hold = s.hold ∧ (storeLayer target b s).rails = s.rails
     ∧ (storeLayer target b s).keep = s.keep ∧ (storeLayer target b s).tremor = s.tremor
     ∧ (storeLayer target b s).outage = s.outage ∧ (storeLayer target b s).flash = s.flash
     ∧ (storeLayer target b s).ev = s.ev ∧ (storeLayer target b s).out = s.out
     ∧ (storeLayer target b s).pending = s.pending := by
  unfold storeLayer
  (repeat' split) <;> simp

@[simp] theorem endCommit_frame (w : Fin 7) (ok : Bool) (s : State) :
    (endCommit w ok s).time = s.time ∧ (endCommit w ok s).isl = s.isl ∧ (endCommit w ok s).life = s.life
     ∧ (endCommit w ok s).mode = s.mode ∧ (endCommit w ok s).nor = s.nor ∧ (endCommit w ok s).dict = s.dict
     ∧ (endCommit w ok s).mbx = s.mbx ∧ (endCommit w ok s).port = s.port ∧ (endCommit w ok s).cache = s.cache
     ∧ (endCommit w ok s).adm = s.adm ∧ (endCommit w ok s).pack = s.pack ∧ (endCommit w ok s).bank = s.bank
     ∧ (endCommit w ok s).packEst = s.packEst ∧ (endCommit w ok s).bankEst = s.bankEst ∧ (endCommit w ok s).hold = s.hold
     ∧ (endCommit w ok s).rails = s.rails ∧ (endCommit w ok s).keep = s.keep ∧ (endCommit w ok s).tremor = s.tremor
     ∧ (endCommit w ok s).outage = s.outage ∧ (endCommit w ok s).flash = s.flash ∧ (endCommit w ok s).video = s.video
     ∧ (endCommit w ok s).pending = s.pending := by
  unfold endCommit
  (repeat' split) <;> simp

@[simp] theorem finishCommit_frame (w : Fin 7) (r : CommitEnd) (s : State) :
    (finishCommit w r s).time = s.time ∧ (finishCommit w r s).isl = s.isl ∧ (finishCommit w r s).mode = s.mode
     ∧ (finishCommit w r s).dict = s.dict ∧ (finishCommit w r s).mbx = s.mbx ∧ (finishCommit w r s).port = s.port
     ∧ (finishCommit w r s).cache = s.cache ∧ (finishCommit w r s).adm = s.adm ∧ (finishCommit w r s).pack = s.pack
     ∧ (finishCommit w r s).bank = s.bank ∧ (finishCommit w r s).hold = s.hold ∧ (finishCommit w r s).rails = s.rails
     ∧ (finishCommit w r s).tremor = s.tremor ∧ (finishCommit w r s).outage = s.outage
     ∧ (finishCommit w r s).flash = s.flash ∧ (finishCommit w r s).pending = s.pending := by
  unfold finishCommit
  (repeat' split) <;> simp

end Sys2Proof.Machine
end

