-- ==== Sys2Proof/Laws/FrameCciOps.lean ====
section
/-! SUPPORT. Frames of Machine/CciOps.lean: what each operation leaves unchanged. -/

namespace Sys2Proof.Machine

@[simp] theorem startBurst_frame (n : Fin 16) (x : ExpSet) (s : State) :
    (startBurst n x s).time = s.time ∧ (startBurst n x s).isl = s.isl ∧ (startBurst n x s).life = s.life
     ∧ (startBurst n x s).mode = s.mode ∧ (startBurst n x s).nor = s.nor ∧ (startBurst n x s).dict = s.dict
     ∧ (startBurst n x s).can = s.can ∧ (startBurst n x s).mbx = s.mbx ∧ (startBurst n x s).win = s.win
     ∧ (startBurst n x s).port = s.port ∧ (startBurst n x s).cache = s.cache ∧ (startBurst n x s).adm = s.adm
     ∧ (startBurst n x s).pack = s.pack ∧ (startBurst n x s).bank = s.bank ∧ (startBurst n x s).packEst = s.packEst
     ∧ (startBurst n x s).bankEst = s.bankEst ∧ (startBurst n x s).hold = s.hold ∧ (startBurst n x s).rails = s.rails
     ∧ (startBurst n x s).keep = s.keep ∧ (startBurst n x s).tremor = s.tremor ∧ (startBurst n x s).outage = s.outage
     ∧ (startBurst n x s).flash = s.flash ∧ (startBurst n x s).ev = s.ev ∧ (startBurst n x s).pending = s.pending := by
  unfold startBurst
  (repeat' split) <;> simp

@[simp] theorem startDirect_frame (n : Fin 16) (s : State) :
    (startDirect n s).time = s.time ∧ (startDirect n s).isl = s.isl ∧ (startDirect n s).life = s.life
     ∧ (startDirect n s).mode = s.mode ∧ (startDirect n s).nor = s.nor ∧ (startDirect n s).dict = s.dict
     ∧ (startDirect n s).can = s.can ∧ (startDirect n s).mbx = s.mbx ∧ (startDirect n s).win = s.win
     ∧ (startDirect n s).port = s.port ∧ (startDirect n s).cache = s.cache ∧ (startDirect n s).adm = s.adm
     ∧ (startDirect n s).pack = s.pack ∧ (startDirect n s).bank = s.bank ∧ (startDirect n s).packEst = s.packEst
     ∧ (startDirect n s).bankEst = s.bankEst ∧ (startDirect n s).hold = s.hold ∧ (startDirect n s).rails = s.rails
     ∧ (startDirect n s).keep = s.keep ∧ (startDirect n s).tremor = s.tremor ∧ (startDirect n s).outage = s.outage
     ∧ (startDirect n s).flash = s.flash ∧ (startDirect n s).ev = s.ev ∧ (startDirect n s).pending = s.pending := by
  unfold startDirect
  (repeat' split) <;> simp

@[simp] theorem pumpStream_frame (n : Fin 16) (s : State) :
    (pumpStream n s).time = s.time ∧ (pumpStream n s).isl = s.isl ∧ (pumpStream n s).life = s.life
     ∧ (pumpStream n s).mode = s.mode ∧ (pumpStream n s).nor = s.nor ∧ (pumpStream n s).dict = s.dict
     ∧ (pumpStream n s).mbx = s.mbx ∧ (pumpStream n s).win = s.win ∧ (pumpStream n s).port = s.port
     ∧ (pumpStream n s).cache = s.cache ∧ (pumpStream n s).adm = s.adm ∧ (pumpStream n s).pack = s.pack
     ∧ (pumpStream n s).bank = s.bank ∧ (pumpStream n s).packEst = s.packEst ∧ (pumpStream n s).bankEst = s.bankEst
     ∧ (pumpStream n s).hold = s.hold ∧ (pumpStream n s).rails = s.rails ∧ (pumpStream n s).keep = s.keep
     ∧ (pumpStream n s).tremor = s.tremor ∧ (pumpStream n s).outage = s.outage ∧ (pumpStream n s).flash = s.flash
     ∧ (pumpStream n s).pending = s.pending := by
  unfold pumpStream
  (repeat' split) <;> simp

@[simp] theorem pumpPort_frame (p : Fin 4) (s : State) :
    (pumpPort p s).time = s.time ∧ (pumpPort p s).isl = s.isl ∧ (pumpPort p s).life = s.life
     ∧ (pumpPort p s).mode = s.mode ∧ (pumpPort p s).nor = s.nor ∧ (pumpPort p s).dict = s.dict
     ∧ (pumpPort p s).mbx = s.mbx ∧ (pumpPort p s).win = s.win ∧ (pumpPort p s).port = s.port
     ∧ (pumpPort p s).cache = s.cache ∧ (pumpPort p s).adm = s.adm ∧ (pumpPort p s).pack = s.pack
     ∧ (pumpPort p s).bank = s.bank ∧ (pumpPort p s).packEst = s.packEst ∧ (pumpPort p s).bankEst = s.bankEst
     ∧ (pumpPort p s).hold = s.hold ∧ (pumpPort p s).rails = s.rails ∧ (pumpPort p s).keep = s.keep
     ∧ (pumpPort p s).tremor = s.tremor ∧ (pumpPort p s).outage = s.outage ∧ (pumpPort p s).flash = s.flash
     ∧ (pumpPort p s).pending = s.pending := by
  unfold pumpPort
  (repeat' split) <;> simp

end Sys2Proof.Machine
end

