-- ==== Sys2Proof/Laws/FrameEffects.lean ====
section
/-! SUPPORT. Frames of Machine/Effects.lean: what each operation leaves unchanged. -/

namespace Sys2Proof.Machine

@[simp] theorem refuseRequest_frame (s : State) :
    (refuseRequest s).1.time = s.time ∧ (refuseRequest s).1.isl = s.isl ∧ (refuseRequest s).1.life = s.life
     ∧ (refuseRequest s).1.mode = s.mode ∧ (refuseRequest s).1.nor = s.nor ∧ (refuseRequest s).1.dict = s.dict
     ∧ (refuseRequest s).1.mbx = s.mbx ∧ (refuseRequest s).1.win = s.win ∧ (refuseRequest s).1.port = s.port
     ∧ (refuseRequest s).1.cache = s.cache ∧ (refuseRequest s).1.adm = s.adm ∧ (refuseRequest s).1.pack = s.pack
     ∧ (refuseRequest s).1.bank = s.bank ∧ (refuseRequest s).1.packEst = s.packEst
     ∧ (refuseRequest s).1.bankEst = s.bankEst ∧ (refuseRequest s).1.hold = s.hold ∧ (refuseRequest s).1.rails = s.rails
     ∧ (refuseRequest s).1.keep = s.keep ∧ (refuseRequest s).1.tremor = s.tremor ∧ (refuseRequest s).1.outage = s.outage
     ∧ (refuseRequest s).1.flash = s.flash ∧ (refuseRequest s).1.video = s.video ∧ (refuseRequest s).1.pending = s.pending := by
  unfold refuseRequest
  (repeat' split) <;> simp

theorem reqFirmware_frame (s : State) :
    (reqFirmware s).1.nor = s.nor ∧ (reqFirmware s).1.dict = s.dict ∧ (reqFirmware s).1.tremor = s.tremor
     ∧ (reqFirmware s).1.outage = s.outage ∧ (reqFirmware s).1.pending = s.pending := by
  unfold reqFirmware
  (repeat' split) <;> simp

theorem setEncryption_frame (v : Nat) (s : State) :
    (setEncryption v s).1.time = s.time ∧ (setEncryption v s).1.isl = s.isl ∧ (setEncryption v s).1.life = s.life
     ∧ (setEncryption v s).1.mode = s.mode ∧ (setEncryption v s).1.nor = s.nor ∧ (setEncryption v s).1.mbx = s.mbx
     ∧ (setEncryption v s).1.win = s.win ∧ (setEncryption v s).1.port = s.port ∧ (setEncryption v s).1.cache = s.cache
     ∧ (setEncryption v s).1.adm = s.adm ∧ (setEncryption v s).1.pack = s.pack ∧ (setEncryption v s).1.bank = s.bank
     ∧ (setEncryption v s).1.packEst = s.packEst ∧ (setEncryption v s).1.bankEst = s.bankEst
     ∧ (setEncryption v s).1.hold = s.hold ∧ (setEncryption v s).1.rails = s.rails ∧ (setEncryption v s).1.keep = s.keep
     ∧ (setEncryption v s).1.tremor = s.tremor ∧ (setEncryption v s).1.outage = s.outage
     ∧ (setEncryption v s).1.flash = s.flash ∧ (setEncryption v s).1.video = s.video
     ∧ (setEncryption v s).1.pending = s.pending := by
  unfold setEncryption
  (repeat' split) <;> simp

@[simp] theorem refuseExpert_frame (code : Nat) (s : State) :
    (refuseExpert code s).1.time = s.time ∧ (refuseExpert code s).1.isl = s.isl ∧ (refuseExpert code s).1.life = s.life
     ∧ (refuseExpert code s).1.mode = s.mode ∧ (refuseExpert code s).1.nor = s.nor ∧ (refuseExpert code s).1.dict = s.dict
     ∧ (refuseExpert code s).1.mbx = s.mbx ∧ (refuseExpert code s).1.win = s.win ∧ (refuseExpert code s).1.port = s.port
     ∧ (refuseExpert code s).1.cache = s.cache ∧ (refuseExpert code s).1.adm = s.adm
     ∧ (refuseExpert code s).1.pack = s.pack ∧ (refuseExpert code s).1.bank = s.bank
     ∧ (refuseExpert code s).1.packEst = s.packEst ∧ (refuseExpert code s).1.bankEst = s.bankEst
     ∧ (refuseExpert code s).1.hold = s.hold ∧ (refuseExpert code s).1.rails = s.rails
     ∧ (refuseExpert code s).1.keep = s.keep ∧ (refuseExpert code s).1.tremor = s.tremor
     ∧ (refuseExpert code s).1.outage = s.outage ∧ (refuseExpert code s).1.flash = s.flash
     ∧ (refuseExpert code s).1.video = s.video ∧ (refuseExpert code s).1.pending = s.pending := by
  unfold refuseExpert
  (repeat' split) <;> simp

@[simp] theorem wrongCode_frame (s : State) :
    (wrongCode s).1.time = s.time ∧ (wrongCode s).1.isl = s.isl ∧ (wrongCode s).1.life = s.life
     ∧ (wrongCode s).1.nor = s.nor ∧ (wrongCode s).1.dict = s.dict ∧ (wrongCode s).1.mbx = s.mbx
     ∧ (wrongCode s).1.win = s.win ∧ (wrongCode s).1.port = s.port ∧ (wrongCode s).1.cache = s.cache
     ∧ (wrongCode s).1.adm = s.adm ∧ (wrongCode s).1.pack = s.pack ∧ (wrongCode s).1.bank = s.bank
     ∧ (wrongCode s).1.packEst = s.packEst ∧ (wrongCode s).1.bankEst = s.bankEst ∧ (wrongCode s).1.hold = s.hold
     ∧ (wrongCode s).1.rails = s.rails ∧ (wrongCode s).1.keep = s.keep ∧ (wrongCode s).1.tremor = s.tremor
     ∧ (wrongCode s).1.outage = s.outage ∧ (wrongCode s).1.flash = s.flash ∧ (wrongCode s).1.video = s.video
     ∧ (wrongCode s).1.pending = s.pending := by
  unfold wrongCode
  (repeat' split) <;> simp

@[simp] theorem openExpert_frame (p : Session) (s : State) :
    (openExpert p s).1.time = s.time ∧ (openExpert p s).1.isl = s.isl ∧ (openExpert p s).1.life = s.life
     ∧ (openExpert p s).1.nor = s.nor ∧ (openExpert p s).1.dict = s.dict ∧ (openExpert p s).1.mbx = s.mbx
     ∧ (openExpert p s).1.win = s.win ∧ (openExpert p s).1.port = s.port ∧ (openExpert p s).1.cache = s.cache
     ∧ (openExpert p s).1.adm = s.adm ∧ (openExpert p s).1.pack = s.pack ∧ (openExpert p s).1.bank = s.bank
     ∧ (openExpert p s).1.packEst = s.packEst ∧ (openExpert p s).1.bankEst = s.bankEst ∧ (openExpert p s).1.hold = s.hold
     ∧ (openExpert p s).1.rails = s.rails ∧ (openExpert p s).1.keep = s.keep ∧ (openExpert p s).1.tremor = s.tremor
     ∧ (openExpert p s).1.outage = s.outage ∧ (openExpert p s).1.flash = s.flash ∧ (openExpert p s).1.video = s.video
     ∧ (openExpert p s).1.pending = s.pending := by
  unfold openExpert
  (repeat' split) <;> simp

theorem setExpert_frame (p : Session) (v : Nat) (s : State) :
    (setExpert p v s).1.time = s.time ∧ (setExpert p v s).1.isl = s.isl ∧ (setExpert p v s).1.life = s.life
     ∧ (setExpert p v s).1.nor = s.nor ∧ (setExpert p v s).1.dict = s.dict ∧ (setExpert p v s).1.mbx = s.mbx
     ∧ (setExpert p v s).1.win = s.win ∧ (setExpert p v s).1.port = s.port ∧ (setExpert p v s).1.cache = s.cache
     ∧ (setExpert p v s).1.adm = s.adm ∧ (setExpert p v s).1.pack = s.pack ∧ (setExpert p v s).1.bank = s.bank
     ∧ (setExpert p v s).1.packEst = s.packEst ∧ (setExpert p v s).1.bankEst = s.bankEst
     ∧ (setExpert p v s).1.hold = s.hold ∧ (setExpert p v s).1.rails = s.rails ∧ (setExpert p v s).1.keep = s.keep
     ∧ (setExpert p v s).1.tremor = s.tremor ∧ (setExpert p v s).1.outage = s.outage ∧ (setExpert p v s).1.flash = s.flash
     ∧ (setExpert p v s).1.video = s.video ∧ (setExpert p v s).1.pending = s.pending := by
  unfold setExpert
  (repeat' split) <;> simp

theorem setLock_frame (p : Session) (v : Nat) (s : State) :
    (setLock p v s).1.time = s.time ∧ (setLock p v s).1.isl = s.isl ∧ (setLock p v s).1.life = s.life
     ∧ (setLock p v s).1.nor = s.nor ∧ (setLock p v s).1.dict = s.dict ∧ (setLock p v s).1.mbx = s.mbx
     ∧ (setLock p v s).1.win = s.win ∧ (setLock p v s).1.port = s.port ∧ (setLock p v s).1.cache = s.cache
     ∧ (setLock p v s).1.adm = s.adm ∧ (setLock p v s).1.pack = s.pack ∧ (setLock p v s).1.bank = s.bank
     ∧ (setLock p v s).1.packEst = s.packEst ∧ (setLock p v s).1.bankEst = s.bankEst ∧ (setLock p v s).1.hold = s.hold
     ∧ (setLock p v s).1.rails = s.rails ∧ (setLock p v s).1.keep = s.keep ∧ (setLock p v s).1.tremor = s.tremor
     ∧ (setLock p v s).1.outage = s.outage ∧ (setLock p v s).1.flash = s.flash ∧ (setLock p v s).1.video = s.video
     ∧ (setLock p v s).1.pending = s.pending := by
  unfold setLock
  (repeat' split) <;> simp

@[simp] theorem trueDays_frame (wall : Nat) (s : State) :
    (trueDays wall s).time = s.time ∧ (trueDays wall s).isl = s.isl ∧ (trueDays wall s).life = s.life
     ∧ (trueDays wall s).mode = s.mode ∧ (trueDays wall s).nor = s.nor ∧ (trueDays wall s).dict = s.dict
     ∧ (trueDays wall s).can = s.can ∧ (trueDays wall s).mbx = s.mbx ∧ (trueDays wall s).win = s.win
     ∧ (trueDays wall s).port = s.port ∧ (trueDays wall s).cache = s.cache ∧ (trueDays wall s).adm = s.adm
     ∧ (trueDays wall s).pack = s.pack ∧ (trueDays wall s).bank = s.bank ∧ (trueDays wall s).hold = s.hold
     ∧ (trueDays wall s).rails = s.rails ∧ (trueDays wall s).keep = s.keep ∧ (trueDays wall s).tremor = s.tremor
     ∧ (trueDays wall s).outage = s.outage ∧ (trueDays wall s).flash = s.flash ∧ (trueDays wall s).video = s.video
     ∧ (trueDays wall s).ev = s.ev ∧ (trueDays wall s).out = s.out ∧ (trueDays wall s).pending = s.pending := by
  unfold trueDays
  (repeat' split) <;> simp

theorem setWall_frame (seconds fraction : Nat) (s : State) :
    (setWall seconds fraction s).isl = s.isl ∧ (setWall seconds fraction s).life = s.life
     ∧ (setWall seconds fraction s).mode = s.mode ∧ (setWall seconds fraction s).nor = s.nor
     ∧ (setWall seconds fraction s).dict = s.dict ∧ (setWall seconds fraction s).can = s.can
     ∧ (setWall seconds fraction s).mbx = s.mbx ∧ (setWall seconds fraction s).win = s.win
     ∧ (setWall seconds fraction s).port = s.port ∧ (setWall seconds fraction s).cache = s.cache
     ∧ (setWall seconds fraction s).adm = s.adm ∧ (setWall seconds fraction s).pack = s.pack
     ∧ (setWall seconds fraction s).bank = s.bank ∧ (setWall seconds fraction s).hold = s.hold
     ∧ (setWall seconds fraction s).rails = s.rails ∧ (setWall seconds fraction s).keep = s.keep
     ∧ (setWall seconds fraction s).tremor = s.tremor ∧ (setWall seconds fraction s).outage = s.outage
     ∧ (setWall seconds fraction s).flash = s.flash ∧ (setWall seconds fraction s).video = s.video
     ∧ (setWall seconds fraction s).ev = s.ev ∧ (setWall seconds fraction s).out = s.out
     ∧ (setWall seconds fraction s).pending = s.pending := by
  unfold setWall
  (repeat' split) <;> simp

theorem startStore_frame (p : Session) (k : StoreKind) (v : Nat) (s : State) :
    (startStore p k v s).1.time = s.time ∧ (startStore p k v s).1.isl = s.isl ∧ (startStore p k v s).1.life = s.life
     ∧ (startStore p k v s).1.mode = s.mode ∧ (startStore p k v s).1.dict = s.dict ∧ (startStore p k v s).1.can = s.can
     ∧ (startStore p k v s).1.mbx = s.mbx ∧ (startStore p k v s).1.win = s.win ∧ (startStore p k v s).1.port = s.port
     ∧ (startStore p k v s).1.cache = s.cache ∧ (startStore p k v s).1.adm = s.adm ∧ (startStore p k v s).1.pack = s.pack
     ∧ (startStore p k v s).1.bank = s.bank ∧ (startStore p k v s).1.packEst = s.packEst
     ∧ (startStore p k v s).1.bankEst = s.bankEst ∧ (startStore p k v s).1.hold = s.hold
     ∧ (startStore p k v s).1.rails = s.rails ∧ (startStore p k v s).1.keep = s.keep
     ∧ (startStore p k v s).1.tremor = s.tremor ∧ (startStore p k v s).1.outage = s.outage
     ∧ (startStore p k v s).1.flash = s.flash ∧ (startStore p k v s).1.video = s.video ∧ (startStore p k v s).1.ev = s.ev
     ∧ (startStore p k v s).1.out = s.out ∧ (startStore p k v s).1.pending = s.pending := by
  unfold startStore
  (repeat' split) <;> simp

theorem restoreDefaults_frame (v : Nat) (s : State) :
    (restoreDefaults v s).1.time = s.time ∧ (restoreDefaults v s).1.isl = s.isl ∧ (restoreDefaults v s).1.life = s.life
     ∧ (restoreDefaults v s).1.mode = s.mode ∧ (restoreDefaults v s).1.dict = s.dict ∧ (restoreDefaults v s).1.can = s.can
     ∧ (restoreDefaults v s).1.mbx = s.mbx ∧ (restoreDefaults v s).1.win = s.win ∧ (restoreDefaults v s).1.port = s.port
     ∧ (restoreDefaults v s).1.cache = s.cache ∧ (restoreDefaults v s).1.adm = s.adm
     ∧ (restoreDefaults v s).1.pack = s.pack ∧ (restoreDefaults v s).1.bank = s.bank
     ∧ (restoreDefaults v s).1.packEst = s.packEst ∧ (restoreDefaults v s).1.bankEst = s.bankEst
     ∧ (restoreDefaults v s).1.hold = s.hold ∧ (restoreDefaults v s).1.rails = s.rails
     ∧ (restoreDefaults v s).1.keep = s.keep ∧ (restoreDefaults v s).1.tremor = s.tremor
     ∧ (restoreDefaults v s).1.outage = s.outage ∧ (restoreDefaults v s).1.flash = s.flash
     ∧ (restoreDefaults v s).1.video = s.video ∧ (restoreDefaults v s).1.ev = s.ev ∧ (restoreDefaults v s).1.out = s.out
     ∧ (restoreDefaults v s).1.pending = s.pending := by
  unfold restoreDefaults
  (repeat' split) <;> simp

theorem resetEByte_frame (s : State) :
    (resetEByte s).time = s.time ∧ (resetEByte s).isl = s.isl ∧ (resetEByte s).life = s.life
     ∧ (resetEByte s).mode = s.mode ∧ (resetEByte s).nor = s.nor ∧ (resetEByte s).dict = s.dict
     ∧ (resetEByte s).can = s.can ∧ (resetEByte s).mbx = s.mbx ∧ (resetEByte s).win = s.win ∧ (resetEByte s).port = s.port
     ∧ (resetEByte s).cache = s.cache ∧ (resetEByte s).pack = s.pack ∧ (resetEByte s).bank = s.bank
     ∧ (resetEByte s).packEst = s.packEst ∧ (resetEByte s).bankEst = s.bankEst ∧ (resetEByte s).hold = s.hold
     ∧ (resetEByte s).rails = s.rails ∧ (resetEByte s).tremor = s.tremor ∧ (resetEByte s).outage = s.outage
     ∧ (resetEByte s).flash = s.flash ∧ (resetEByte s).video = s.video ∧ (resetEByte s).ev = s.ev
     ∧ (resetEByte s).out = s.out ∧ (resetEByte s).pending = s.pending := by
  unfold resetEByte
  (repeat' split) <;> simp

theorem clearChannel_frame (c : Channel) (s : State) :
    (clearChannel c s).time = s.time ∧ (clearChannel c s).isl = s.isl ∧ (clearChannel c s).life = s.life
     ∧ (clearChannel c s).mode = s.mode ∧ (clearChannel c s).nor = s.nor ∧ (clearChannel c s).dict = s.dict
     ∧ (clearChannel c s).mbx = s.mbx ∧ (clearChannel c s).win = s.win ∧ (clearChannel c s).port = s.port
     ∧ (clearChannel c s).cache = s.cache ∧ (clearChannel c s).adm = s.adm ∧ (clearChannel c s).packEst = s.packEst
     ∧ (clearChannel c s).bankEst = s.bankEst ∧ (clearChannel c s).hold = s.hold ∧ (clearChannel c s).rails = s.rails
     ∧ (clearChannel c s).tremor = s.tremor ∧ (clearChannel c s).outage = s.outage ∧ (clearChannel c s).flash = s.flash
     ∧ (clearChannel c s).video = s.video ∧ (clearChannel c s).pending = s.pending := by
  unfold clearChannel
  (repeat' split) <;> simp

theorem redetect_frame (c : Channel) (s : State) :
    (redetect c s).time = s.time ∧ (redetect c s).isl = s.isl ∧ (redetect c s).life = s.life ∧ (redetect c s).nor = s.nor
     ∧ (redetect c s).dict = s.dict ∧ (redetect c s).mbx = s.mbx ∧ (redetect c s).win = s.win
     ∧ (redetect c s).port = s.port ∧ (redetect c s).cache = s.cache ∧ (redetect c s).adm = s.adm
     ∧ (redetect c s).packEst = s.packEst ∧ (redetect c s).bankEst = s.bankEst ∧ (redetect c s).rails = s.rails
     ∧ (redetect c s).keep = s.keep ∧ (redetect c s).tremor = s.tremor ∧ (redetect c s).outage = s.outage
     ∧ (redetect c s).flash = s.flash ∧ (redetect c s).video = s.video ∧ (redetect c s).pending = s.pending := by
  unfold redetect
  (repeat' split) <;> simp

theorem reqGeyser_frame (c : Channel) (v : Nat) (s : State) :
    (reqGeyser c v s).1.time = s.time ∧ (reqGeyser c v s).1.isl = s.isl ∧ (reqGeyser c v s).1.life = s.life
     ∧ (reqGeyser c v s).1.nor = s.nor ∧ (reqGeyser c v s).1.dict = s.dict ∧ (reqGeyser c v s).1.mbx = s.mbx
     ∧ (reqGeyser c v s).1.win = s.win ∧ (reqGeyser c v s).1.port = s.port ∧ (reqGeyser c v s).1.cache = s.cache
     ∧ (reqGeyser c v s).1.keep = s.keep ∧ (reqGeyser c v s).1.tremor = s.tremor
     ∧ (reqGeyser c v s).1.outage = s.outage ∧ (reqGeyser c v s).1.flash = s.flash
     ∧ (reqGeyser c v s).1.video = s.video ∧ (reqGeyser c v s).1.pending = s.pending := by
  unfold reqGeyser
  (repeat' split) <;> simp

theorem anchorCharge_frame (c : Channel) (s : State) :
    (anchorCharge c s).time = s.time ∧ (anchorCharge c s).isl = s.isl ∧ (anchorCharge c s).life = s.life
     ∧ (anchorCharge c s).mode = s.mode ∧ (anchorCharge c s).nor = s.nor ∧ (anchorCharge c s).dict = s.dict
     ∧ (anchorCharge c s).can = s.can ∧ (anchorCharge c s).mbx = s.mbx ∧ (anchorCharge c s).win = s.win
     ∧ (anchorCharge c s).port = s.port ∧ (anchorCharge c s).cache = s.cache ∧ (anchorCharge c s).adm = s.adm
     ∧ (anchorCharge c s).packEst = s.packEst ∧ (anchorCharge c s).bankEst = s.bankEst ∧ (anchorCharge c s).hold = s.hold
     ∧ (anchorCharge c s).rails = s.rails ∧ (anchorCharge c s).keep = s.keep ∧ (anchorCharge c s).tremor = s.tremor
     ∧ (anchorCharge c s).outage = s.outage ∧ (anchorCharge c s).flash = s.flash ∧ (anchorCharge c s).video = s.video
     ∧ (anchorCharge c s).ev = s.ev ∧ (anchorCharge c s).out = s.out ∧ (anchorCharge c s).pending = s.pending := by
  unfold anchorCharge
  (repeat' split) <;> simp

theorem setMask_frame (r : Fin 12) (v : Nat) (s : State) :
    (setMask r v s).time = s.time ∧ (setMask r v s).isl = s.isl ∧ (setMask r v s).life = s.life
     ∧ (setMask r v s).mode = s.mode ∧ (setMask r v s).nor = s.nor ∧ (setMask r v s).dict = s.dict
     ∧ (setMask r v s).mbx = s.mbx ∧ (setMask r v s).win = s.win ∧ (setMask r v s).port = s.port
     ∧ (setMask r v s).cache = s.cache ∧ (setMask r v s).adm = s.adm ∧ (setMask r v s).pack = s.pack
     ∧ (setMask r v s).bank = s.bank ∧ (setMask r v s).packEst = s.packEst ∧ (setMask r v s).bankEst = s.bankEst
     ∧ (setMask r v s).hold = s.hold ∧ (setMask r v s).keep = s.keep ∧ (setMask r v s).tremor = s.tremor
     ∧ (setMask r v s).outage = s.outage ∧ (setMask r v s).flash = s.flash ∧ (setMask r v s).video = s.video
     ∧ (setMask r v s).pending = s.pending := by
  unfold setMask
  (repeat' split) <;> simp

theorem switchOff_frame (r : Fin 12) (s : State) :
    (switchOff r s).1.time = s.time ∧ (switchOff r s).1.life = s.life ∧ (switchOff r s).1.nor = s.nor
     ∧ (switchOff r s).1.dict = s.dict ∧ (switchOff r s).1.pack = s.pack ∧ (switchOff r s).1.bank = s.bank
     ∧ (switchOff r s).1.packEst = s.packEst ∧ (switchOff r s).1.bankEst = s.bankEst ∧ (switchOff r s).1.keep = s.keep
     ∧ (switchOff r s).1.tremor = s.tremor ∧ (switchOff r s).1.outage = s.outage ∧ (switchOff r s).1.flash = s.flash
     ∧ (switchOff r s).1.pending = s.pending := by
  unfold switchOff
  (repeat' split) <;> simp

theorem switchOn_frame (r : Fin 12) (s : State) :
    (switchOn r s).1.time = s.time ∧ (switchOn r s).1.isl = s.isl ∧ (switchOn r s).1.life = s.life
     ∧ (switchOn r s).1.mode = s.mode ∧ (switchOn r s).1.nor = s.nor ∧ (switchOn r s).1.dict = s.dict
     ∧ (switchOn r s).1.can = s.can ∧ (switchOn r s).1.mbx = s.mbx ∧ (switchOn r s).1.win = s.win
     ∧ (switchOn r s).1.port = s.port ∧ (switchOn r s).1.cache = s.cache ∧ (switchOn r s).1.adm = s.adm
     ∧ (switchOn r s).1.pack = s.pack ∧ (switchOn r s).1.bank = s.bank ∧ (switchOn r s).1.packEst = s.packEst
     ∧ (switchOn r s).1.bankEst = s.bankEst ∧ (switchOn r s).1.hold = s.hold ∧ (switchOn r s).1.keep = s.keep
     ∧ (switchOn r s).1.tremor = s.tremor ∧ (switchOn r s).1.outage = s.outage ∧ (switchOn r s).1.flash = s.flash
     ∧ (switchOn r s).1.video = s.video ∧ (switchOn r s).1.ev = s.ev ∧ (switchOn r s).1.out = s.out
     ∧ (switchOn r s).1.pending = s.pending := by
  unfold switchOn
  (repeat' split) <;> simp

theorem anchorTrim_frame (t : Fin 4) (s : State) :
    (anchorTrim t s).time = s.time ∧ (anchorTrim t s).isl = s.isl ∧ (anchorTrim t s).life = s.life
     ∧ (anchorTrim t s).mode = s.mode ∧ (anchorTrim t s).nor = s.nor ∧ (anchorTrim t s).dict = s.dict
     ∧ (anchorTrim t s).can = s.can ∧ (anchorTrim t s).mbx = s.mbx ∧ (anchorTrim t s).win = s.win
     ∧ (anchorTrim t s).port = s.port ∧ (anchorTrim t s).cache = s.cache ∧ (anchorTrim t s).adm = s.adm
     ∧ (anchorTrim t s).pack = s.pack ∧ (anchorTrim t s).bank = s.bank ∧ (anchorTrim t s).packEst = s.packEst
     ∧ (anchorTrim t s).bankEst = s.bankEst ∧ (anchorTrim t s).hold = s.hold ∧ (anchorTrim t s).keep = s.keep
     ∧ (anchorTrim t s).tremor = s.tremor ∧ (anchorTrim t s).outage = s.outage ∧ (anchorTrim t s).flash = s.flash
     ∧ (anchorTrim t s).video = s.video ∧ (anchorTrim t s).ev = s.ev ∧ (anchorTrim t s).out = s.out
     ∧ (anchorTrim t s).pending = s.pending := by
  unfold anchorTrim
  (repeat' split) <;> simp

theorem pulseReset_frame (k : Fin 4) (s : State) :
    (pulseReset k s).time = s.time ∧ (pulseReset k s).isl = s.isl ∧ (pulseReset k s).life = s.life
     ∧ (pulseReset k s).mode = s.mode ∧ (pulseReset k s).nor = s.nor ∧ (pulseReset k s).dict = s.dict
     ∧ (pulseReset k s).can = s.can ∧ (pulseReset k s).mbx = s.mbx ∧ (pulseReset k s).win = s.win
     ∧ (pulseReset k s).port = s.port ∧ (pulseReset k s).cache = s.cache ∧ (pulseReset k s).adm = s.adm
     ∧ (pulseReset k s).pack = s.pack ∧ (pulseReset k s).bank = s.bank ∧ (pulseReset k s).packEst = s.packEst
     ∧ (pulseReset k s).bankEst = s.bankEst ∧ (pulseReset k s).hold = s.hold ∧ (pulseReset k s).keep = s.keep
     ∧ (pulseReset k s).tremor = s.tremor ∧ (pulseReset k s).outage = s.outage ∧ (pulseReset k s).flash = s.flash
     ∧ (pulseReset k s).video = s.video ∧ (pulseReset k s).ev = s.ev ∧ (pulseReset k s).out = s.out
     ∧ (pulseReset k s).pending = s.pending := by
  unfold pulseReset
  (repeat' split) <;> simp

theorem resetRailChanged_frame (k : Fin 4) (s : State) :
    (resetRailChanged k s).time = s.time ∧ (resetRailChanged k s).isl = s.isl ∧ (resetRailChanged k s).life = s.life
     ∧ (resetRailChanged k s).mode = s.mode ∧ (resetRailChanged k s).nor = s.nor ∧ (resetRailChanged k s).dict = s.dict
     ∧ (resetRailChanged k s).can = s.can ∧ (resetRailChanged k s).mbx = s.mbx ∧ (resetRailChanged k s).win = s.win
     ∧ (resetRailChanged k s).port = s.port ∧ (resetRailChanged k s).cache = s.cache ∧ (resetRailChanged k s).adm = s.adm
     ∧ (resetRailChanged k s).pack = s.pack ∧ (resetRailChanged k s).bank = s.bank
     ∧ (resetRailChanged k s).packEst = s.packEst ∧ (resetRailChanged k s).bankEst = s.bankEst
     ∧ (resetRailChanged k s).hold = s.hold ∧ (resetRailChanged k s).keep = s.keep
     ∧ (resetRailChanged k s).tremor = s.tremor ∧ (resetRailChanged k s).outage = s.outage
     ∧ (resetRailChanged k s).flash = s.flash ∧ (resetRailChanged k s).video = s.video ∧ (resetRailChanged k s).ev = s.ev
     ∧ (resetRailChanged k s).out = s.out ∧ (resetRailChanged k s).pending = s.pending := by
  unfold resetRailChanged
  (repeat' split) <;> simp

theorem reqRelease_frame (s : State) :
    (reqRelease s).time = s.time ∧ (reqRelease s).isl = s.isl ∧ (reqRelease s).life = s.life
     ∧ (reqRelease s).mode = s.mode ∧ (reqRelease s).nor = s.nor ∧ (reqRelease s).dict = s.dict
     ∧ (reqRelease s).can = s.can ∧ (reqRelease s).mbx = s.mbx ∧ (reqRelease s).win = s.win ∧ (reqRelease s).port = s.port
     ∧ (reqRelease s).cache = s.cache ∧ (reqRelease s).adm = s.adm ∧ (reqRelease s).pack = s.pack
     ∧ (reqRelease s).bank = s.bank ∧ (reqRelease s).packEst = s.packEst ∧ (reqRelease s).bankEst = s.bankEst
     ∧ (reqRelease s).hold = s.hold ∧ (reqRelease s).rails = s.rails ∧ (reqRelease s).keep = s.keep
     ∧ (reqRelease s).tremor = s.tremor ∧ (reqRelease s).outage = s.outage ∧ (reqRelease s).video = s.video
     ∧ (reqRelease s).ev = s.ev ∧ (reqRelease s).out = s.out ∧ (reqRelease s).pending = s.pending := by
  unfold reqRelease
  (repeat' split) <;> simp

theorem retireCommand_frame (d : Fin 16) (s : State) :
    (retireCommand d s).1.time = s.time ∧ (retireCommand d s).1.isl = s.isl ∧ (retireCommand d s).1.life = s.life
     ∧ (retireCommand d s).1.mode = s.mode ∧ (retireCommand d s).1.nor = s.nor ∧ (retireCommand d s).1.dict = s.dict
     ∧ (retireCommand d s).1.mbx = s.mbx ∧ (retireCommand d s).1.win = s.win ∧ (retireCommand d s).1.port = s.port
     ∧ (retireCommand d s).1.adm = s.adm ∧ (retireCommand d s).1.pack = s.pack ∧ (retireCommand d s).1.bank = s.bank
     ∧ (retireCommand d s).1.packEst = s.packEst ∧ (retireCommand d s).1.bankEst = s.bankEst
     ∧ (retireCommand d s).1.hold = s.hold ∧ (retireCommand d s).1.rails = s.rails ∧ (retireCommand d s).1.keep = s.keep
     ∧ (retireCommand d s).1.tremor = s.tremor ∧ (retireCommand d s).1.outage = s.outage
     ∧ (retireCommand d s).1.video = s.video ∧ (retireCommand d s).1.pending = s.pending := by
  simp only [retireCommand, ite_proj]
  (repeat' split) <;> simp_all

theorem returnCommand_frame (d : Fin 16) (answers : Bool) (s : State) :
    (returnCommand d answers s).1.time = s.time ∧ (returnCommand d answers s).1.isl = s.isl
     ∧ (returnCommand d answers s).1.life = s.life ∧ (returnCommand d answers s).1.mode = s.mode
     ∧ (returnCommand d answers s).1.nor = s.nor ∧ (returnCommand d answers s).1.dict = s.dict
     ∧ (returnCommand d answers s).1.mbx = s.mbx ∧ (returnCommand d answers s).1.win = s.win
     ∧ (returnCommand d answers s).1.port = s.port ∧ (returnCommand d answers s).1.cache = s.cache
     ∧ (returnCommand d answers s).1.adm = s.adm ∧ (returnCommand d answers s).1.pack = s.pack
     ∧ (returnCommand d answers s).1.bank = s.bank ∧ (returnCommand d answers s).1.packEst = s.packEst
     ∧ (returnCommand d answers s).1.bankEst = s.bankEst ∧ (returnCommand d answers s).1.hold = s.hold
     ∧ (returnCommand d answers s).1.rails = s.rails ∧ (returnCommand d answers s).1.keep = s.keep
     ∧ (returnCommand d answers s).1.tremor = s.tremor ∧ (returnCommand d answers s).1.outage = s.outage
     ∧ (returnCommand d answers s).1.video = s.video ∧ (returnCommand d answers s).1.pending = s.pending := by
  unfold returnCommand
  (repeat' split) <;> simp

@[simp] theorem sanitizeTenant_frame (keys : Bool) (n : Fin 16) (s : State) :
    (sanitizeTenant keys n s).time = s.time ∧ (sanitizeTenant keys n s).isl = s.isl
     ∧ (sanitizeTenant keys n s).life = s.life ∧ (sanitizeTenant keys n s).mode = s.mode
     ∧ (sanitizeTenant keys n s).nor = s.nor ∧ (sanitizeTenant keys n s).dict = s.dict
     ∧ (sanitizeTenant keys n s).can = s.can ∧ (sanitizeTenant keys n s).mbx = s.mbx
     ∧ (sanitizeTenant keys n s).win = s.win ∧ (sanitizeTenant keys n s).port = s.port
     ∧ (sanitizeTenant keys n s).adm = s.adm ∧ (sanitizeTenant keys n s).pack = s.pack
     ∧ (sanitizeTenant keys n s).bank = s.bank ∧ (sanitizeTenant keys n s).packEst = s.packEst
     ∧ (sanitizeTenant keys n s).bankEst = s.bankEst ∧ (sanitizeTenant keys n s).hold = s.hold
     ∧ (sanitizeTenant keys n s).rails = s.rails ∧ (sanitizeTenant keys n s).keep = s.keep
     ∧ (sanitizeTenant keys n s).tremor = s.tremor ∧ (sanitizeTenant keys n s).outage = s.outage
     ∧ (sanitizeTenant keys n s).video = s.video ∧ (sanitizeTenant keys n s).ev = s.ev
     ∧ (sanitizeTenant keys n s).out = s.out ∧ (sanitizeTenant keys n s).pending = s.pending := by
  unfold sanitizeTenant
  (repeat' split) <;> simp

theorem startSanitize_frame (v : Nat) (s : State) :
    (startSanitize v s).1.time = s.time ∧ (startSanitize v s).1.isl = s.isl ∧ (startSanitize v s).1.life = s.life
     ∧ (startSanitize v s).1.mode = s.mode ∧ (startSanitize v s).1.nor = s.nor ∧ (startSanitize v s).1.dict = s.dict
     ∧ (startSanitize v s).1.mbx = s.mbx ∧ (startSanitize v s).1.win = s.win ∧ (startSanitize v s).1.port = s.port
     ∧ (startSanitize v s).1.pack = s.pack ∧ (startSanitize v s).1.bank = s.bank
     ∧ (startSanitize v s).1.packEst = s.packEst ∧ (startSanitize v s).1.bankEst = s.bankEst
     ∧ (startSanitize v s).1.hold = s.hold ∧ (startSanitize v s).1.rails = s.rails ∧ (startSanitize v s).1.keep = s.keep
     ∧ (startSanitize v s).1.tremor = s.tremor ∧ (startSanitize v s).1.outage = s.outage
     ∧ (startSanitize v s).1.video = s.video ∧ (startSanitize v s).1.pending = s.pending := by
  unfold startSanitize
  (repeat' split) <;> simp

@[simp] theorem clearStaging_frame (n : Fin 16) (s : State) :
    (clearStaging n s).time = s.time ∧ (clearStaging n s).isl = s.isl ∧ (clearStaging n s).life = s.life
     ∧ (clearStaging n s).mode = s.mode ∧ (clearStaging n s).nor = s.nor ∧ (clearStaging n s).can = s.can
     ∧ (clearStaging n s).mbx = s.mbx ∧ (clearStaging n s).win = s.win ∧ (clearStaging n s).port = s.port
     ∧ (clearStaging n s).cache = s.cache ∧ (clearStaging n s).adm = s.adm ∧ (clearStaging n s).pack = s.pack
     ∧ (clearStaging n s).bank = s.bank ∧ (clearStaging n s).packEst = s.packEst ∧ (clearStaging n s).bankEst = s.bankEst
     ∧ (clearStaging n s).hold = s.hold ∧ (clearStaging n s).rails = s.rails ∧ (clearStaging n s).keep = s.keep
     ∧ (clearStaging n s).tremor = s.tremor ∧ (clearStaging n s).outage = s.outage ∧ (clearStaging n s).flash = s.flash
     ∧ (clearStaging n s).video = s.video ∧ (clearStaging n s).ev = s.ev ∧ (clearStaging n s).out = s.out
     ∧ (clearStaging n s).pending = s.pending := by
  unfold clearStaging
  (repeat' split) <;> simp

theorem commitExposure_frame (n : Fin 16) (s : State) :
    (commitExposure n s).1.time = s.time ∧ (commitExposure n s).1.isl = s.isl ∧ (commitExposure n s).1.life = s.life
     ∧ (commitExposure n s).1.mode = s.mode ∧ (commitExposure n s).1.nor = s.nor ∧ (commitExposure n s).1.mbx = s.mbx
     ∧ (commitExposure n s).1.win = s.win ∧ (commitExposure n s).1.port = s.port ∧ (commitExposure n s).1.cache = s.cache
     ∧ (commitExposure n s).1.adm = s.adm ∧ (commitExposure n s).1.pack = s.pack ∧ (commitExposure n s).1.bank = s.bank
     ∧ (commitExposure n s).1.packEst = s.packEst ∧ (commitExposure n s).1.bankEst = s.bankEst
     ∧ (commitExposure n s).1.hold = s.hold ∧ (commitExposure n s).1.rails = s.rails
     ∧ (commitExposure n s).1.keep = s.keep ∧ (commitExposure n s).1.tremor = s.tremor
     ∧ (commitExposure n s).1.outage = s.outage ∧ (commitExposure n s).1.flash = s.flash
     ∧ (commitExposure n s).1.pending = s.pending := by
  unfold commitExposure
  (repeat' split) <;> simp

theorem directCci_frame (n : Fin 16) (op : Nat) (s : State) :
    (directCci n op s).1.time = s.time ∧ (directCci n op s).1.isl = s.isl ∧ (directCci n op s).1.life = s.life
     ∧ (directCci n op s).1.mode = s.mode ∧ (directCci n op s).1.nor = s.nor ∧ (directCci n op s).1.dict = s.dict
     ∧ (directCci n op s).1.mbx = s.mbx ∧ (directCci n op s).1.win = s.win ∧ (directCci n op s).1.port = s.port
     ∧ (directCci n op s).1.cache = s.cache ∧ (directCci n op s).1.adm = s.adm ∧ (directCci n op s).1.pack = s.pack
     ∧ (directCci n op s).1.bank = s.bank ∧ (directCci n op s).1.packEst = s.packEst
     ∧ (directCci n op s).1.bankEst = s.bankEst ∧ (directCci n op s).1.hold = s.hold
     ∧ (directCci n op s).1.rails = s.rails ∧ (directCci n op s).1.keep = s.keep ∧ (directCci n op s).1.tremor = s.tremor
     ∧ (directCci n op s).1.outage = s.outage ∧ (directCci n op s).1.flash = s.flash
     ∧ (directCci n op s).1.pending = s.pending := by
  unfold directCci
  (repeat' split) <;> simp

theorem videoModeChanged_frame (s : State) :
    (videoModeChanged s).time = s.time ∧ (videoModeChanged s).isl = s.isl ∧ (videoModeChanged s).life = s.life
     ∧ (videoModeChanged s).mode = s.mode ∧ (videoModeChanged s).nor = s.nor ∧ (videoModeChanged s).dict = s.dict
     ∧ (videoModeChanged s).mbx = s.mbx ∧ (videoModeChanged s).win = s.win ∧ (videoModeChanged s).port = s.port
     ∧ (videoModeChanged s).pack = s.pack ∧ (videoModeChanged s).bank = s.bank ∧ (videoModeChanged s).packEst = s.packEst
     ∧ (videoModeChanged s).bankEst = s.bankEst ∧ (videoModeChanged s).hold = s.hold
     ∧ (videoModeChanged s).rails = s.rails ∧ (videoModeChanged s).keep = s.keep ∧ (videoModeChanged s).tremor = s.tremor
     ∧ (videoModeChanged s).outage = s.outage ∧ (videoModeChanged s).pending = s.pending := by
  unfold videoModeChanged
  (repeat' split) <;> simp

@[simp] theorem refuseBudget_frame (s : State) :
    (refuseBudget s).1.time = s.time ∧ (refuseBudget s).1.isl = s.isl ∧ (refuseBudget s).1.life = s.life
     ∧ (refuseBudget s).1.mode = s.mode ∧ (refuseBudget s).1.nor = s.nor ∧ (refuseBudget s).1.dict = s.dict
     ∧ (refuseBudget s).1.mbx = s.mbx ∧ (refuseBudget s).1.win = s.win ∧ (refuseBudget s).1.port = s.port
     ∧ (refuseBudget s).1.cache = s.cache ∧ (refuseBudget s).1.adm = s.adm ∧ (refuseBudget s).1.pack = s.pack
     ∧ (refuseBudget s).1.bank = s.bank ∧ (refuseBudget s).1.packEst = s.packEst ∧ (refuseBudget s).1.bankEst = s.bankEst
     ∧ (refuseBudget s).1.hold = s.hold ∧ (refuseBudget s).1.rails = s.rails ∧ (refuseBudget s).1.keep = s.keep
     ∧ (refuseBudget s).1.tremor = s.tremor ∧ (refuseBudget s).1.outage = s.outage ∧ (refuseBudget s).1.flash = s.flash
     ∧ (refuseBudget s).1.video = s.video ∧ (refuseBudget s).1.pending = s.pending := by
  unfold refuseBudget
  (repeat' split) <;> simp

theorem openDecode_frame (d : Fin 2) (s : State) :
    (openDecode d s).1.time = s.time ∧ (openDecode d s).1.isl = s.isl ∧ (openDecode d s).1.life = s.life
     ∧ (openDecode d s).1.mode = s.mode ∧ (openDecode d s).1.nor = s.nor ∧ (openDecode d s).1.dict = s.dict
     ∧ (openDecode d s).1.mbx = s.mbx ∧ (openDecode d s).1.win = s.win ∧ (openDecode d s).1.port = s.port
     ∧ (openDecode d s).1.cache = s.cache ∧ (openDecode d s).1.adm = s.adm ∧ (openDecode d s).1.pack = s.pack
     ∧ (openDecode d s).1.bank = s.bank ∧ (openDecode d s).1.packEst = s.packEst ∧ (openDecode d s).1.bankEst = s.bankEst
     ∧ (openDecode d s).1.hold = s.hold ∧ (openDecode d s).1.rails = s.rails ∧ (openDecode d s).1.keep = s.keep
     ∧ (openDecode d s).1.tremor = s.tremor ∧ (openDecode d s).1.outage = s.outage ∧ (openDecode d s).1.flash = s.flash
     ∧ (openDecode d s).1.pending = s.pending := by
  unfold openDecode
  (repeat' split) <;> simp

theorem closeDecode_frame (d : Fin 2) (s : State) :
    (closeDecode d s).time = s.time ∧ (closeDecode d s).isl = s.isl ∧ (closeDecode d s).life = s.life
     ∧ (closeDecode d s).mode = s.mode ∧ (closeDecode d s).nor = s.nor ∧ (closeDecode d s).dict = s.dict
     ∧ (closeDecode d s).mbx = s.mbx ∧ (closeDecode d s).win = s.win ∧ (closeDecode d s).port = s.port
     ∧ (closeDecode d s).cache = s.cache ∧ (closeDecode d s).adm = s.adm ∧ (closeDecode d s).pack = s.pack
     ∧ (closeDecode d s).bank = s.bank ∧ (closeDecode d s).packEst = s.packEst ∧ (closeDecode d s).bankEst = s.bankEst
     ∧ (closeDecode d s).hold = s.hold ∧ (closeDecode d s).rails = s.rails ∧ (closeDecode d s).keep = s.keep
     ∧ (closeDecode d s).tremor = s.tremor ∧ (closeDecode d s).outage = s.outage ∧ (closeDecode d s).flash = s.flash
     ∧ (closeDecode d s).pending = s.pending := by
  unfold closeDecode
  (repeat' split) <;> simp

theorem endDecode_frame (d : Fin 2) (s : State) :
    (endDecode d s).1.time = s.time ∧ (endDecode d s).1.isl = s.isl ∧ (endDecode d s).1.life = s.life
     ∧ (endDecode d s).1.mode = s.mode ∧ (endDecode d s).1.nor = s.nor ∧ (endDecode d s).1.dict = s.dict
     ∧ (endDecode d s).1.can = s.can ∧ (endDecode d s).1.mbx = s.mbx ∧ (endDecode d s).1.win = s.win
     ∧ (endDecode d s).1.port = s.port ∧ (endDecode d s).1.cache = s.cache ∧ (endDecode d s).1.adm = s.adm
     ∧ (endDecode d s).1.pack = s.pack ∧ (endDecode d s).1.bank = s.bank ∧ (endDecode d s).1.packEst = s.packEst
     ∧ (endDecode d s).1.bankEst = s.bankEst ∧ (endDecode d s).1.hold = s.hold ∧ (endDecode d s).1.rails = s.rails
     ∧ (endDecode d s).1.keep = s.keep ∧ (endDecode d s).1.tremor = s.tremor ∧ (endDecode d s).1.outage = s.outage
     ∧ (endDecode d s).1.flash = s.flash ∧ (endDecode d s).1.ev = s.ev ∧ (endDecode d s).1.out = s.out
     ∧ (endDecode d s).1.pending = s.pending := by
  unfold endDecode
  (repeat' split) <;> simp

theorem forceIdrNow_frame (n : Fin 16) (s : State) :
    (forceIdrNow n s).time = s.time ∧ (forceIdrNow n s).isl = s.isl ∧ (forceIdrNow n s).life = s.life
     ∧ (forceIdrNow n s).mode = s.mode ∧ (forceIdrNow n s).nor = s.nor ∧ (forceIdrNow n s).dict = s.dict
     ∧ (forceIdrNow n s).can = s.can ∧ (forceIdrNow n s).mbx = s.mbx ∧ (forceIdrNow n s).win = s.win
     ∧ (forceIdrNow n s).port = s.port ∧ (forceIdrNow n s).cache = s.cache ∧ (forceIdrNow n s).adm = s.adm
     ∧ (forceIdrNow n s).pack = s.pack ∧ (forceIdrNow n s).bank = s.bank ∧ (forceIdrNow n s).packEst = s.packEst
     ∧ (forceIdrNow n s).bankEst = s.bankEst ∧ (forceIdrNow n s).hold = s.hold ∧ (forceIdrNow n s).rails = s.rails
     ∧ (forceIdrNow n s).keep = s.keep ∧ (forceIdrNow n s).tremor = s.tremor ∧ (forceIdrNow n s).outage = s.outage
     ∧ (forceIdrNow n s).flash = s.flash ∧ (forceIdrNow n s).ev = s.ev ∧ (forceIdrNow n s).out = s.out
     ∧ (forceIdrNow n s).pending = s.pending := by
  unfold forceIdrNow
  (repeat' split) <;> simp

theorem acknowledge_frame (b : Fin 28) (v : Nat) (s : State) :
    (acknowledge b v s).time = s.time ∧ (acknowledge b v s).isl = s.isl ∧ (acknowledge b v s).life = s.life
     ∧ (acknowledge b v s).mode = s.mode ∧ (acknowledge b v s).nor = s.nor ∧ (acknowledge b v s).dict = s.dict
     ∧ (acknowledge b v s).can = s.can ∧ (acknowledge b v s).mbx = s.mbx ∧ (acknowledge b v s).win = s.win
     ∧ (acknowledge b v s).port = s.port ∧ (acknowledge b v s).cache = s.cache ∧ (acknowledge b v s).adm = s.adm
     ∧ (acknowledge b v s).pack = s.pack ∧ (acknowledge b v s).bank = s.bank ∧ (acknowledge b v s).packEst = s.packEst
     ∧ (acknowledge b v s).bankEst = s.bankEst ∧ (acknowledge b v s).hold = s.hold ∧ (acknowledge b v s).rails = s.rails
     ∧ (acknowledge b v s).keep = s.keep ∧ (acknowledge b v s).tremor = s.tremor ∧ (acknowledge b v s).outage = s.outage
     ∧ (acknowledge b v s).flash = s.flash ∧ (acknowledge b v s).video = s.video ∧ (acknowledge b v s).out = s.out
     ∧ (acknowledge b v s).pending = s.pending := by
  unfold acknowledge
  (repeat' split) <;> simp

theorem emptyLog_frame (s : State) :
    (emptyLog s).time = s.time ∧ (emptyLog s).isl = s.isl ∧ (emptyLog s).life = s.life ∧ (emptyLog s).mode = s.mode
     ∧ (emptyLog s).nor = s.nor ∧ (emptyLog s).dict = s.dict ∧ (emptyLog s).mbx = s.mbx ∧ (emptyLog s).win = s.win
     ∧ (emptyLog s).port = s.port ∧ (emptyLog s).cache = s.cache ∧ (emptyLog s).adm = s.adm ∧ (emptyLog s).pack = s.pack
     ∧ (emptyLog s).bank = s.bank ∧ (emptyLog s).packEst = s.packEst ∧ (emptyLog s).bankEst = s.bankEst
     ∧ (emptyLog s).hold = s.hold ∧ (emptyLog s).rails = s.rails ∧ (emptyLog s).keep = s.keep
     ∧ (emptyLog s).tremor = s.tremor ∧ (emptyLog s).outage = s.outage ∧ (emptyLog s).flash = s.flash
     ∧ (emptyLog s).video = s.video ∧ (emptyLog s).pending = s.pending := by
  unfold emptyLog
  (repeat' split) <;> simp

theorem setRing_frame (n : Fin 16) (v : Nat) (s : State) :
    (setRing n v s).time = s.time ∧ (setRing n v s).isl = s.isl ∧ (setRing n v s).life = s.life
     ∧ (setRing n v s).mode = s.mode ∧ (setRing n v s).nor = s.nor ∧ (setRing n v s).dict = s.dict
     ∧ (setRing n v s).can = s.can ∧ (setRing n v s).mbx = s.mbx ∧ (setRing n v s).win = s.win
     ∧ (setRing n v s).port = s.port ∧ (setRing n v s).cache = s.cache ∧ (setRing n v s).adm = s.adm
     ∧ (setRing n v s).pack = s.pack ∧ (setRing n v s).bank = s.bank ∧ (setRing n v s).packEst = s.packEst
     ∧ (setRing n v s).bankEst = s.bankEst ∧ (setRing n v s).hold = s.hold ∧ (setRing n v s).rails = s.rails
     ∧ (setRing n v s).keep = s.keep ∧ (setRing n v s).tremor = s.tremor ∧ (setRing n v s).outage = s.outage
     ∧ (setRing n v s).flash = s.flash ∧ (setRing n v s).video = s.video ∧ (setRing n v s).out = s.out
     ∧ (setRing n v s).pending = s.pending := by
  unfold setRing
  (repeat' split) <;> simp

theorem setConsumer_frame (n : Fin 16) (v : Nat) (s : State) :
    (setConsumer n v s).1.time = s.time ∧ (setConsumer n v s).1.isl = s.isl ∧ (setConsumer n v s).1.life = s.life
     ∧ (setConsumer n v s).1.mode = s.mode ∧ (setConsumer n v s).1.nor = s.nor ∧ (setConsumer n v s).1.dict = s.dict
     ∧ (setConsumer n v s).1.can = s.can ∧ (setConsumer n v s).1.mbx = s.mbx ∧ (setConsumer n v s).1.win = s.win
     ∧ (setConsumer n v s).1.port = s.port ∧ (setConsumer n v s).1.cache = s.cache ∧ (setConsumer n v s).1.adm = s.adm
     ∧ (setConsumer n v s).1.pack = s.pack ∧ (setConsumer n v s).1.bank = s.bank
     ∧ (setConsumer n v s).1.packEst = s.packEst ∧ (setConsumer n v s).1.bankEst = s.bankEst
     ∧ (setConsumer n v s).1.hold = s.hold ∧ (setConsumer n v s).1.rails = s.rails ∧ (setConsumer n v s).1.keep = s.keep
     ∧ (setConsumer n v s).1.tremor = s.tremor ∧ (setConsumer n v s).1.outage = s.outage
     ∧ (setConsumer n v s).1.flash = s.flash ∧ (setConsumer n v s).1.video = s.video ∧ (setConsumer n v s).1.out = s.out
     ∧ (setConsumer n v s).1.pending = s.pending := by
  unfold setConsumer
  (repeat' split) <;> simp

end Sys2Proof.Machine
end

