-- ==== Sys2Proof/Laws/FrameDictOps.lean ====
section
/-! SUPPORT. Frames of Machine/DictOps.lean: what each operation leaves unchanged. -/

namespace Sys2Proof.Machine

@[simp] theorem readWin_frame (p : Session) (w : Fin 7) (sub len : Nat) (s : State) :
    (readWin p w sub len s).1.time = s.time ∧ (readWin p w sub len s).1.isl = s.isl
     ∧ (readWin p w sub len s).1.life = s.life ∧ (readWin p w sub len s).1.mode = s.mode
     ∧ (readWin p w sub len s).1.nor = s.nor ∧ (readWin p w sub len s).1.dict = s.dict
     ∧ (readWin p w sub len s).1.can = s.can ∧ (readWin p w sub len s).1.mbx = s.mbx
     ∧ (readWin p w sub len s).1.port = s.port ∧ (readWin p w sub len s).1.cache = s.cache
     ∧ (readWin p w sub len s).1.adm = s.adm ∧ (readWin p w sub len s).1.pack = s.pack
     ∧ (readWin p w sub len s).1.bank = s.bank ∧ (readWin p w sub len s).1.packEst = s.packEst
     ∧ (readWin p w sub len s).1.bankEst = s.bankEst ∧ (readWin p w sub len s).1.hold = s.hold
     ∧ (readWin p w sub len s).1.rails = s.rails ∧ (readWin p w sub len s).1.keep = s.keep
     ∧ (readWin p w sub len s).1.tremor = s.tremor ∧ (readWin p w sub len s).1.outage = s.outage
     ∧ (readWin p w sub len s).1.flash = s.flash ∧ (readWin p w sub len s).1.video = s.video
     ∧ (readWin p w sub len s).1.ev = s.ev ∧ (readWin p w sub len s).1.out = s.out
     ∧ (readWin p w sub len s).1.pending = s.pending := by
  unfold readWin
  (repeat' split) <;> simp

@[simp] theorem readEntry_frame (p : Session) (index sub len : Nat) (s : State) :
    (readEntry p index sub len s).1.time = s.time ∧ (readEntry p index sub len s).1.isl = s.isl
     ∧ (readEntry p index sub len s).1.life = s.life ∧ (readEntry p index sub len s).1.mode = s.mode
     ∧ (readEntry p index sub len s).1.nor = s.nor ∧ (readEntry p index sub len s).1.dict = s.dict
     ∧ (readEntry p index sub len s).1.can = s.can ∧ (readEntry p index sub len s).1.mbx = s.mbx
     ∧ (readEntry p index sub len s).1.port = s.port ∧ (readEntry p index sub len s).1.cache = s.cache
     ∧ (readEntry p index sub len s).1.adm = s.adm ∧ (readEntry p index sub len s).1.pack = s.pack
     ∧ (readEntry p index sub len s).1.bank = s.bank ∧ (readEntry p index sub len s).1.packEst = s.packEst
     ∧ (readEntry p index sub len s).1.bankEst = s.bankEst ∧ (readEntry p index sub len s).1.hold = s.hold
     ∧ (readEntry p index sub len s).1.rails = s.rails ∧ (readEntry p index sub len s).1.keep = s.keep
     ∧ (readEntry p index sub len s).1.tremor = s.tremor ∧ (readEntry p index sub len s).1.outage = s.outage
     ∧ (readEntry p index sub len s).1.flash = s.flash ∧ (readEntry p index sub len s).1.video = s.video
     ∧ (readEntry p index sub len s).1.ev = s.ev ∧ (readEntry p index sub len s).1.out = s.out
     ∧ (readEntry p index sub len s).1.pending = s.pending := by
  unfold readEntry
  (repeat' split) <;> simp

theorem allDelivered_frame (s : State) :
    (allDelivered s).time = s.time ∧ (allDelivered s).life = s.life ∧ (allDelivered s).mode = s.mode
     ∧ (allDelivered s).nor = s.nor ∧ (allDelivered s).dict = s.dict ∧ (allDelivered s).can = s.can
     ∧ (allDelivered s).mbx = s.mbx ∧ (allDelivered s).win = s.win ∧ (allDelivered s).port = s.port
     ∧ (allDelivered s).cache = s.cache ∧ (allDelivered s).adm = s.adm ∧ (allDelivered s).pack = s.pack
     ∧ (allDelivered s).bank = s.bank ∧ (allDelivered s).packEst = s.packEst ∧ (allDelivered s).bankEst = s.bankEst
     ∧ (allDelivered s).hold = s.hold ∧ (allDelivered s).rails = s.rails ∧ (allDelivered s).keep = s.keep
     ∧ (allDelivered s).tremor = s.tremor ∧ (allDelivered s).outage = s.outage ∧ (allDelivered s).flash = s.flash
     ∧ (allDelivered s).video = s.video ∧ (allDelivered s).ev = s.ev ∧ (allDelivered s).out = s.out
     ∧ (allDelivered s).pending = s.pending := by
  unfold allDelivered
  (repeat' split) <;> simp

theorem holdValue_frame (index sub v : Nat) (s : State) :
    (holdValue index sub v s).1.time = s.time ∧ (holdValue index sub v s).1.life = s.life
     ∧ (holdValue index sub v s).1.mode = s.mode ∧ (holdValue index sub v s).1.nor = s.nor
     ∧ (holdValue index sub v s).1.can = s.can ∧ (holdValue index sub v s).1.mbx = s.mbx
     ∧ (holdValue index sub v s).1.win = s.win ∧ (holdValue index sub v s).1.port = s.port
     ∧ (holdValue index sub v s).1.cache = s.cache ∧ (holdValue index sub v s).1.adm = s.adm
     ∧ (holdValue index sub v s).1.pack = s.pack ∧ (holdValue index sub v s).1.bank = s.bank
     ∧ (holdValue index sub v s).1.packEst = s.packEst ∧ (holdValue index sub v s).1.bankEst = s.bankEst
     ∧ (holdValue index sub v s).1.hold = s.hold ∧ (holdValue index sub v s).1.rails = s.rails
     ∧ (holdValue index sub v s).1.keep = s.keep ∧ (holdValue index sub v s).1.tremor = s.tremor
     ∧ (holdValue index sub v s).1.outage = s.outage ∧ (holdValue index sub v s).1.flash = s.flash
     ∧ (holdValue index sub v s).1.video = s.video ∧ (holdValue index sub v s).1.ev = s.ev
     ∧ (holdValue index sub v s).1.out = s.out ∧ (holdValue index sub v s).1.pending = s.pending := by
  unfold holdValue
  (repeat' split) <;> simp

theorem sourceMoved_frame (c : Channel) (before s : State) :
    (sourceMoved c before s).time = s.time ∧ (sourceMoved c before s).isl = s.isl ∧ (sourceMoved c before s).life = s.life
     ∧ (sourceMoved c before s).nor = s.nor ∧ (sourceMoved c before s).dict = s.dict
     ∧ (sourceMoved c before s).mbx = s.mbx ∧ (sourceMoved c before s).win = s.win
     ∧ (sourceMoved c before s).port = s.port ∧ (sourceMoved c before s).cache = s.cache
     ∧ (sourceMoved c before s).adm = s.adm ∧ (sourceMoved c before s).pack = s.pack
     ∧ (sourceMoved c before s).bank = s.bank ∧ (sourceMoved c before s).packEst = s.packEst
     ∧ (sourceMoved c before s).bankEst = s.bankEst ∧ (sourceMoved c before s).keep = s.keep
     ∧ (sourceMoved c before s).tremor = s.tremor ∧ (sourceMoved c before s).outage = s.outage
     ∧ (sourceMoved c before s).flash = s.flash ∧ (sourceMoved c before s).video = s.video
     ∧ (sourceMoved c before s).pending = s.pending := by
  unfold sourceMoved
  (repeat' split) <;> simp

theorem done_frame (s : State) :
    (done s).1.time = s.time ∧ (done s).1.isl = s.isl ∧ (done s).1.life = s.life ∧ (done s).1.mode = s.mode
     ∧ (done s).1.nor = s.nor ∧ (done s).1.dict = s.dict ∧ (done s).1.can = s.can ∧ (done s).1.mbx = s.mbx
     ∧ (done s).1.win = s.win ∧ (done s).1.port = s.port ∧ (done s).1.cache = s.cache ∧ (done s).1.adm = s.adm
     ∧ (done s).1.pack = s.pack ∧ (done s).1.bank = s.bank ∧ (done s).1.packEst = s.packEst
     ∧ (done s).1.bankEst = s.bankEst ∧ (done s).1.hold = s.hold ∧ (done s).1.rails = s.rails ∧ (done s).1.keep = s.keep
     ∧ (done s).1.tremor = s.tremor ∧ (done s).1.outage = s.outage ∧ (done s).1.flash = s.flash
     ∧ (done s).1.video = s.video ∧ (done s).1.ev = s.ev ∧ (done s).1.out = s.out ∧ (done s).1.pending = s.pending := by
  unfold done
  (repeat' split) <;> simp

theorem controlWin_frame (p : Session) (w : Fin 7) (v : Nat) (s : State) :
    (controlWin p w v s).1.time = s.time ∧ (controlWin p w v s).1.isl = s.isl ∧ (controlWin p w v s).1.life = s.life
     ∧ (controlWin p w v s).1.mode = s.mode ∧ (controlWin p w v s).1.nor = s.nor ∧ (controlWin p w v s).1.dict = s.dict
     ∧ (controlWin p w v s).1.mbx = s.mbx ∧ (controlWin p w v s).1.port = s.port ∧ (controlWin p w v s).1.cache = s.cache
     ∧ (controlWin p w v s).1.adm = s.adm ∧ (controlWin p w v s).1.pack = s.pack ∧ (controlWin p w v s).1.bank = s.bank
     ∧ (controlWin p w v s).1.packEst = s.packEst ∧ (controlWin p w v s).1.bankEst = s.bankEst
     ∧ (controlWin p w v s).1.hold = s.hold ∧ (controlWin p w v s).1.rails = s.rails
     ∧ (controlWin p w v s).1.keep = s.keep ∧ (controlWin p w v s).1.tremor = s.tremor
     ∧ (controlWin p w v s).1.outage = s.outage ∧ (controlWin p w v s).1.flash = s.flash
     ∧ (controlWin p w v s).1.video = s.video ∧ (controlWin p w v s).1.pending = s.pending := by
  unfold controlWin
  (repeat' split) <;> simp

theorem noteBadRequest_frame (index sub : Nat) (s : State) :
    (noteBadRequest index sub s).time = s.time ∧ (noteBadRequest index sub s).isl = s.isl
     ∧ (noteBadRequest index sub s).life = s.life ∧ (noteBadRequest index sub s).mode = s.mode
     ∧ (noteBadRequest index sub s).nor = s.nor ∧ (noteBadRequest index sub s).dict = s.dict
     ∧ (noteBadRequest index sub s).mbx = s.mbx ∧ (noteBadRequest index sub s).win = s.win
     ∧ (noteBadRequest index sub s).port = s.port ∧ (noteBadRequest index sub s).cache = s.cache
     ∧ (noteBadRequest index sub s).adm = s.adm ∧ (noteBadRequest index sub s).pack = s.pack
     ∧ (noteBadRequest index sub s).bank = s.bank ∧ (noteBadRequest index sub s).packEst = s.packEst
     ∧ (noteBadRequest index sub s).bankEst = s.bankEst ∧ (noteBadRequest index sub s).hold = s.hold
     ∧ (noteBadRequest index sub s).rails = s.rails ∧ (noteBadRequest index sub s).keep = s.keep
     ∧ (noteBadRequest index sub s).tremor = s.tremor ∧ (noteBadRequest index sub s).outage = s.outage
     ∧ (noteBadRequest index sub s).flash = s.flash ∧ (noteBadRequest index sub s).video = s.video
     ∧ (noteBadRequest index sub s).pending = s.pending := by
  unfold noteBadRequest
  (repeat' split) <;> simp

@[simp] theorem noteRequest_frame (p : Session) (s : State) :
    (noteRequest p s).time = s.time ∧ (noteRequest p s).isl = s.isl ∧ (noteRequest p s).life = s.life
     ∧ (noteRequest p s).nor = s.nor ∧ (noteRequest p s).dict = s.dict ∧ (noteRequest p s).can = s.can
     ∧ (noteRequest p s).mbx = s.mbx ∧ (noteRequest p s).win = s.win ∧ (noteRequest p s).port = s.port
     ∧ (noteRequest p s).cache = s.cache ∧ (noteRequest p s).adm = s.adm ∧ (noteRequest p s).pack = s.pack
     ∧ (noteRequest p s).bank = s.bank ∧ (noteRequest p s).packEst = s.packEst ∧ (noteRequest p s).bankEst = s.bankEst
     ∧ (noteRequest p s).hold = s.hold ∧ (noteRequest p s).rails = s.rails ∧ (noteRequest p s).keep = s.keep
     ∧ (noteRequest p s).tremor = s.tremor ∧ (noteRequest p s).outage = s.outage ∧ (noteRequest p s).flash = s.flash
     ∧ (noteRequest p s).video = s.video ∧ (noteRequest p s).ev = s.ev ∧ (noteRequest p s).out = s.out
     ∧ (noteRequest p s).pending = s.pending := by
  unfold noteRequest
  (repeat' split) <;> simp

@[simp] theorem countRefusal_frame (p : Session) (s : State) :
    (countRefusal p s).time = s.time ∧ (countRefusal p s).isl = s.isl ∧ (countRefusal p s).life = s.life
     ∧ (countRefusal p s).mode = s.mode ∧ (countRefusal p s).nor = s.nor ∧ (countRefusal p s).can = s.can
     ∧ (countRefusal p s).mbx = s.mbx ∧ (countRefusal p s).win = s.win ∧ (countRefusal p s).port = s.port
     ∧ (countRefusal p s).cache = s.cache ∧ (countRefusal p s).adm = s.adm ∧ (countRefusal p s).pack = s.pack
     ∧ (countRefusal p s).bank = s.bank ∧ (countRefusal p s).packEst = s.packEst ∧ (countRefusal p s).bankEst = s.bankEst
     ∧ (countRefusal p s).hold = s.hold ∧ (countRefusal p s).rails = s.rails ∧ (countRefusal p s).keep = s.keep
     ∧ (countRefusal p s).tremor = s.tremor ∧ (countRefusal p s).outage = s.outage ∧ (countRefusal p s).flash = s.flash
     ∧ (countRefusal p s).video = s.video ∧ (countRefusal p s).ev = s.ev ∧ (countRefusal p s).out = s.out
     ∧ (countRefusal p s).pending = s.pending := by
  unfold countRefusal
  (repeat' split) <;> simp

@[simp] theorem noteAnswer_frame (p : Session) (a : Answer) (s : State) :
    (noteAnswer p a s).time = s.time ∧ (noteAnswer p a s).isl = s.isl ∧ (noteAnswer p a s).life = s.life
     ∧ (noteAnswer p a s).mode = s.mode ∧ (noteAnswer p a s).nor = s.nor ∧ (noteAnswer p a s).can = s.can
     ∧ (noteAnswer p a s).mbx = s.mbx ∧ (noteAnswer p a s).win = s.win ∧ (noteAnswer p a s).port = s.port
     ∧ (noteAnswer p a s).cache = s.cache ∧ (noteAnswer p a s).adm = s.adm ∧ (noteAnswer p a s).pack = s.pack
     ∧ (noteAnswer p a s).bank = s.bank ∧ (noteAnswer p a s).packEst = s.packEst ∧ (noteAnswer p a s).bankEst = s.bankEst
     ∧ (noteAnswer p a s).hold = s.hold ∧ (noteAnswer p a s).rails = s.rails ∧ (noteAnswer p a s).keep = s.keep
     ∧ (noteAnswer p a s).tremor = s.tremor ∧ (noteAnswer p a s).outage = s.outage ∧ (noteAnswer p a s).flash = s.flash
     ∧ (noteAnswer p a s).video = s.video ∧ (noteAnswer p a s).ev = s.ev ∧ (noteAnswer p a s).out = s.out
     ∧ (noteAnswer p a s).pending = s.pending := by
  unfold noteAnswer
  (repeat' split) <;> simp

theorem dictRead_frame (p : Session) (index sub len : Nat) (s : State) :
    (dictRead p index sub len s).1.time = s.time ∧ (dictRead p index sub len s).1.isl = s.isl
     ∧ (dictRead p index sub len s).1.life = s.life ∧ (dictRead p index sub len s).1.nor = s.nor
     ∧ (dictRead p index sub len s).1.can = s.can ∧ (dictRead p index sub len s).1.mbx = s.mbx
     ∧ (dictRead p index sub len s).1.port = s.port ∧ (dictRead p index sub len s).1.cache = s.cache
     ∧ (dictRead p index sub len s).1.adm = s.adm ∧ (dictRead p index sub len s).1.pack = s.pack
     ∧ (dictRead p index sub len s).1.bank = s.bank ∧ (dictRead p index sub len s).1.packEst = s.packEst
     ∧ (dictRead p index sub len s).1.bankEst = s.bankEst ∧ (dictRead p index sub len s).1.hold = s.hold
     ∧ (dictRead p index sub len s).1.rails = s.rails ∧ (dictRead p index sub len s).1.keep = s.keep
     ∧ (dictRead p index sub len s).1.tremor = s.tremor ∧ (dictRead p index sub len s).1.outage = s.outage
     ∧ (dictRead p index sub len s).1.flash = s.flash ∧ (dictRead p index sub len s).1.video = s.video
     ∧ (dictRead p index sub len s).1.ev = s.ev ∧ (dictRead p index sub len s).1.out = s.out
     ∧ (dictRead p index sub len s).1.pending = s.pending := by
  unfold dictRead
  (repeat' split) <;> simp

theorem dictNext_frame (p : Session) (index sub : Nat) (s : State) :
    (dictNext p index sub s).1.time = s.time ∧ (dictNext p index sub s).1.isl = s.isl
     ∧ (dictNext p index sub s).1.life = s.life ∧ (dictNext p index sub s).1.nor = s.nor
     ∧ (dictNext p index sub s).1.can = s.can ∧ (dictNext p index sub s).1.mbx = s.mbx
     ∧ (dictNext p index sub s).1.win = s.win ∧ (dictNext p index sub s).1.port = s.port
     ∧ (dictNext p index sub s).1.cache = s.cache ∧ (dictNext p index sub s).1.adm = s.adm
     ∧ (dictNext p index sub s).1.pack = s.pack ∧ (dictNext p index sub s).1.bank = s.bank
     ∧ (dictNext p index sub s).1.packEst = s.packEst ∧ (dictNext p index sub s).1.bankEst = s.bankEst
     ∧ (dictNext p index sub s).1.hold = s.hold ∧ (dictNext p index sub s).1.rails = s.rails
     ∧ (dictNext p index sub s).1.keep = s.keep ∧ (dictNext p index sub s).1.tremor = s.tremor
     ∧ (dictNext p index sub s).1.outage = s.outage ∧ (dictNext p index sub s).1.flash = s.flash
     ∧ (dictNext p index sub s).1.video = s.video ∧ (dictNext p index sub s).1.ev = s.ev
     ∧ (dictNext p index sub s).1.out = s.out ∧ (dictNext p index sub s).1.pending = s.pending := by
  unfold dictNext
  dsimp only
  (repeat' split) <;> simp

@[simp] theorem answerUsdo_frame (c : Fin 128) (index sub : Nat) (a : Answer) (data : List Byte) (s : State) :
    (answerUsdo c index sub a data s).time = s.time ∧ (answerUsdo c index sub a data s).isl = s.isl
     ∧ (answerUsdo c index sub a data s).life = s.life ∧ (answerUsdo c index sub a data s).mode = s.mode
     ∧ (answerUsdo c index sub a data s).nor = s.nor ∧ (answerUsdo c index sub a data s).dict = s.dict
     ∧ (answerUsdo c index sub a data s).mbx = s.mbx ∧ (answerUsdo c index sub a data s).win = s.win
     ∧ (answerUsdo c index sub a data s).port = s.port ∧ (answerUsdo c index sub a data s).cache = s.cache
     ∧ (answerUsdo c index sub a data s).adm = s.adm ∧ (answerUsdo c index sub a data s).pack = s.pack
     ∧ (answerUsdo c index sub a data s).bank = s.bank ∧ (answerUsdo c index sub a data s).packEst = s.packEst
     ∧ (answerUsdo c index sub a data s).bankEst = s.bankEst ∧ (answerUsdo c index sub a data s).hold = s.hold
     ∧ (answerUsdo c index sub a data s).rails = s.rails ∧ (answerUsdo c index sub a data s).keep = s.keep
     ∧ (answerUsdo c index sub a data s).tremor = s.tremor ∧ (answerUsdo c index sub a data s).outage = s.outage
     ∧ (answerUsdo c index sub a data s).flash = s.flash ∧ (answerUsdo c index sub a data s).video = s.video
     ∧ (answerUsdo c index sub a data s).ev = s.ev ∧ (answerUsdo c index sub a data s).pending = s.pending := by
  unfold answerUsdo
  (repeat' split) <;> simp

@[simp] theorem endMbx_frame (fn : Fin 16) (tag : Byte) (result abort : Nat) (data : List Byte) (s : State) :
    (endMbx fn tag result abort data s).time = s.time ∧ (endMbx fn tag result abort data s).isl = s.isl
     ∧ (endMbx fn tag result abort data s).life = s.life ∧ (endMbx fn tag result abort data s).mode = s.mode
     ∧ (endMbx fn tag result abort data s).nor = s.nor ∧ (endMbx fn tag result abort data s).dict = s.dict
     ∧ (endMbx fn tag result abort data s).can = s.can ∧ (endMbx fn tag result abort data s).win = s.win
     ∧ (endMbx fn tag result abort data s).cache = s.cache ∧ (endMbx fn tag result abort data s).adm = s.adm
     ∧ (endMbx fn tag result abort data s).pack = s.pack ∧ (endMbx fn tag result abort data s).bank = s.bank
     ∧ (endMbx fn tag result abort data s).packEst = s.packEst
     ∧ (endMbx fn tag result abort data s).bankEst = s.bankEst ∧ (endMbx fn tag result abort data s).hold = s.hold
     ∧ (endMbx fn tag result abort data s).rails = s.rails ∧ (endMbx fn tag result abort data s).keep = s.keep
     ∧ (endMbx fn tag result abort data s).tremor = s.tremor ∧ (endMbx fn tag result abort data s).outage = s.outage
     ∧ (endMbx fn tag result abort data s).flash = s.flash ∧ (endMbx fn tag result abort data s).video = s.video
     ∧ (endMbx fn tag result abort data s).ev = s.ev ∧ (endMbx fn tag result abort data s).pending = s.pending := by
  unfold endMbx
  (repeat' split) <;> simp

@[simp] theorem answerMbx_frame (fn : Fin 16) (tag : Byte) (a : Answer) (data : List Byte) (s : State) :
    (answerMbx fn tag a data s).time = s.time ∧ (answerMbx fn tag a data s).isl = s.isl
     ∧ (answerMbx fn tag a data s).life = s.life ∧ (answerMbx fn tag a data s).mode = s.mode
     ∧ (answerMbx fn tag a data s).nor = s.nor ∧ (answerMbx fn tag a data s).dict = s.dict
     ∧ (answerMbx fn tag a data s).can = s.can ∧ (answerMbx fn tag a data s).win = s.win
     ∧ (answerMbx fn tag a data s).cache = s.cache ∧ (answerMbx fn tag a data s).adm = s.adm
     ∧ (answerMbx fn tag a data s).pack = s.pack ∧ (answerMbx fn tag a data s).bank = s.bank
     ∧ (answerMbx fn tag a data s).packEst = s.packEst ∧ (answerMbx fn tag a data s).bankEst = s.bankEst
     ∧ (answerMbx fn tag a data s).hold = s.hold ∧ (answerMbx fn tag a data s).rails = s.rails
     ∧ (answerMbx fn tag a data s).keep = s.keep ∧ (answerMbx fn tag a data s).tremor = s.tremor
     ∧ (answerMbx fn tag a data s).outage = s.outage ∧ (answerMbx fn tag a data s).flash = s.flash
     ∧ (answerMbx fn tag a data s).video = s.video ∧ (answerMbx fn tag a data s).ev = s.ev
     ∧ (answerMbx fn tag a data s).pending = s.pending := by
  unfold answerMbx
  (repeat' split) <;> simp

theorem nmtReset_frame (s : State) :
    (nmtReset s).time = s.time ∧ (nmtReset s).life = s.life ∧ (nmtReset s).nor = s.nor ∧ (nmtReset s).mbx = s.mbx
     ∧ (nmtReset s).port = s.port ∧ (nmtReset s).cache = s.cache ∧ (nmtReset s).adm = s.adm ∧ (nmtReset s).pack = s.pack
     ∧ (nmtReset s).bank = s.bank ∧ (nmtReset s).packEst = s.packEst ∧ (nmtReset s).bankEst = s.bankEst
     ∧ (nmtReset s).hold = s.hold ∧ (nmtReset s).rails = s.rails ∧ (nmtReset s).tremor = s.tremor
     ∧ (nmtReset s).outage = s.outage ∧ (nmtReset s).flash = s.flash ∧ (nmtReset s).video = s.video
     ∧ (nmtReset s).pending = s.pending := by
  unfold nmtReset
  (repeat' split) <;> simp

end Sys2Proof.Machine
end

