-- ==== Sys2Proof/Laws/FramePublishOps.lean ====
section
/-! SUPPORT. Frames of Machine/PublishOps.lean: what each operation leaves unchanged. -/

namespace Sys2Proof.Machine

@[simp] theorem resumeRecording_frame (n : Fin 16) (s : State) :
    (resumeRecording n s).time = s.time ∧ (resumeRecording n s).isl = s.isl ∧ (resumeRecording n s).life = s.life
     ∧ (resumeRecording n s).mode = s.mode ∧ (resumeRecording n s).nor = s.nor ∧ (resumeRecording n s).dict = s.dict
     ∧ (resumeRecording n s).mbx = s.mbx ∧ (resumeRecording n s).win = s.win ∧ (resumeRecording n s).port = s.port
     ∧ (resumeRecording n s).cache = s.cache ∧ (resumeRecording n s).adm = s.adm ∧ (resumeRecording n s).pack = s.pack
     ∧ (resumeRecording n s).bank = s.bank ∧ (resumeRecording n s).packEst = s.packEst
     ∧ (resumeRecording n s).bankEst = s.bankEst ∧ (resumeRecording n s).hold = s.hold
     ∧ (resumeRecording n s).rails = s.rails ∧ (resumeRecording n s).keep = s.keep
     ∧ (resumeRecording n s).tremor = s.tremor ∧ (resumeRecording n s).outage = s.outage
     ∧ (resumeRecording n s).flash = s.flash ∧ (resumeRecording n s).pending = s.pending := by
  unfold resumeRecording
  (repeat' split) <;> simp

@[simp] theorem resumeRecordings_frame (s : State) :
    (resumeRecordings s).time = s.time ∧ (resumeRecordings s).isl = s.isl ∧ (resumeRecordings s).life = s.life
     ∧ (resumeRecordings s).mode = s.mode ∧ (resumeRecordings s).nor = s.nor ∧ (resumeRecordings s).dict = s.dict
     ∧ (resumeRecordings s).mbx = s.mbx ∧ (resumeRecordings s).win = s.win ∧ (resumeRecordings s).port = s.port
     ∧ (resumeRecordings s).cache = s.cache ∧ (resumeRecordings s).adm = s.adm ∧ (resumeRecordings s).pack = s.pack
     ∧ (resumeRecordings s).bank = s.bank ∧ (resumeRecordings s).packEst = s.packEst
     ∧ (resumeRecordings s).bankEst = s.bankEst ∧ (resumeRecordings s).hold = s.hold
     ∧ (resumeRecordings s).rails = s.rails ∧ (resumeRecordings s).keep = s.keep ∧ (resumeRecordings s).tremor = s.tremor
     ∧ (resumeRecordings s).outage = s.outage ∧ (resumeRecordings s).flash = s.flash
     ∧ (resumeRecordings s).pending = s.pending := by
  unfold resumeRecordings
  (repeat' split) <;> simp

@[simp] theorem recomputeAll_frame (s : State) :
    (recomputeAll s).time = s.time ∧ (recomputeAll s).isl = s.isl ∧ (recomputeAll s).life = s.life
     ∧ (recomputeAll s).nor = s.nor ∧ (recomputeAll s).dict = s.dict ∧ (recomputeAll s).mbx = s.mbx
     ∧ (recomputeAll s).win = s.win ∧ (recomputeAll s).port = s.port ∧ (recomputeAll s).pack = s.pack
     ∧ (recomputeAll s).bank = s.bank ∧ (recomputeAll s).packEst = s.packEst ∧ (recomputeAll s).bankEst = s.bankEst
     ∧ (recomputeAll s).rails = s.rails ∧ (recomputeAll s).keep = s.keep ∧ (recomputeAll s).tremor = s.tremor
     ∧ (recomputeAll s).outage = s.outage ∧ (recomputeAll s).flash = s.flash ∧ (recomputeAll s).pending = s.pending := by
  simp only [recomputeAll, ite_proj]
  (repeat' split) <;> simp_all

@[simp] theorem simmerPublication_frame (s : State) :
    (simmerPublication s).time = s.time ∧ (simmerPublication s).nor = s.nor ∧ (simmerPublication s).tremor = s.tremor
     ∧ (simmerPublication s).pending = s.pending := by
  unfold simmerPublication
  (repeat' split) <;> simp

@[simp] theorem publishFigures_frame (pack bank : Nat) (s : State) :
    (publishFigures pack bank s).time = s.time ∧ (publishFigures pack bank s).isl = s.isl
     ∧ (publishFigures pack bank s).life = s.life ∧ (publishFigures pack bank s).nor = s.nor
     ∧ (publishFigures pack bank s).dict = s.dict ∧ (publishFigures pack bank s).mbx = s.mbx
     ∧ (publishFigures pack bank s).win = s.win ∧ (publishFigures pack bank s).port = s.port
     ∧ (publishFigures pack bank s).pack = s.pack ∧ (publishFigures pack bank s).bank = s.bank
     ∧ (publishFigures pack bank s).rails = s.rails ∧ (publishFigures pack bank s).keep = s.keep
     ∧ (publishFigures pack bank s).tremor = s.tremor ∧ (publishFigures pack bank s).outage = s.outage
     ∧ (publishFigures pack bank s).flash = s.flash ∧ (publishFigures pack bank s).pending = s.pending := by
  unfold publishFigures
  (repeat' split) <;> simp

@[simp] theorem publishWith_frame (pack bank : Nat) (s : State) :
    (publishWith pack bank s).time = s.time ∧ (publishWith pack bank s).nor = s.nor
     ∧ (publishWith pack bank s).tremor = s.tremor ∧ (publishWith pack bank s).pending = s.pending := by
  simp only [publishWith, ite_proj]
  (repeat' split) <;> simp_all

theorem publish_frame (s : State) :
    (publish s).time = s.time ∧ (publish s).nor = s.nor ∧ (publish s).tremor = s.tremor ∧ (publish s).pending = s.pending := by
  simp only [publish, ite_proj]
  (repeat' split) <;> simp_all

theorem publishNone_frame (c : Channel) (s : State) :
    (publishNone c s).time = s.time ∧ (publishNone c s).nor = s.nor ∧ (publishNone c s).tremor = s.tremor
     ∧ (publishNone c s).pending = s.pending := by
  simp only [publishNone, ite_proj]
  (repeat' split) <;> simp_all

@[simp] theorem leaveSimmer_frame (cause : Nat) (s : State) :
    (leaveSimmer cause s).time = s.time ∧ (leaveSimmer cause s).nor = s.nor ∧ (leaveSimmer cause s).tremor = s.tremor
     ∧ (leaveSimmer cause s).pending = s.pending := by
  unfold leaveSimmer
  (repeat' split) <;> simp

@[simp] theorem holdUpFails_frame (s : State) :
    (holdUpFails s).time = s.time ∧ (holdUpFails s).nor = s.nor ∧ (holdUpFails s).tremor = s.tremor
     ∧ (holdUpFails s).pending = s.pending := by
  simp only [holdUpFails, ite_proj]
  (repeat' split) <;> simp_all

theorem faultNow_frame (c : Channel) (code : Nat) (s : State) :
    (faultNow c code s).time = s.time ∧ (faultNow c code s).nor = s.nor ∧ (faultNow c code s).tremor = s.tremor
     ∧ (faultNow c code s).pending = s.pending := by
  unfold faultNow
  (repeat' split) <;> simp

end Sys2Proof.Machine
end

