-- ==== Sys2Proof/Laws/FrameLifeCycle.lean ====
section
/-! SUPPORT. Frames of Machine/LifeCycle.lean: what each operation leaves unchanged. -/

namespace Sys2Proof.Machine

theorem tear_frame (tornKeep tornStore : Bool) (s : State) :
    (tear tornKeep tornStore s).time = s.time ∧ (tear tornKeep tornStore s).isl = s.isl
     ∧ (tear tornKeep tornStore s).mode = s.mode ∧ (tear tornKeep tornStore s).dict = s.dict
     ∧ (tear tornKeep tornStore s).can = s.can ∧ (tear tornKeep tornStore s).mbx = s.mbx
     ∧ (tear tornKeep tornStore s).win = s.win ∧ (tear tornKeep tornStore s).port = s.port
     ∧ (tear tornKeep tornStore s).cache = s.cache ∧ (tear tornKeep tornStore s).adm = s.adm
     ∧ (tear tornKeep tornStore s).pack = s.pack ∧ (tear tornKeep tornStore s).bank = s.bank
     ∧ (tear tornKeep tornStore s).packEst = s.packEst ∧ (tear tornKeep tornStore s).bankEst = s.bankEst
     ∧ (tear tornKeep tornStore s).hold = s.hold ∧ (tear tornKeep tornStore s).rails = s.rails
     ∧ (tear tornKeep tornStore s).tremor = s.tremor ∧ (tear tornKeep tornStore s).outage = s.outage
     ∧ (tear tornKeep tornStore s).video = s.video ∧ (tear tornKeep tornStore s).ev = s.ev
     ∧ (tear tornKeep tornStore s).out = s.out ∧ (tear tornKeep tornStore s).pending = s.pending := by
  unfold tear
  (repeat' split) <;> simp

@[simp] theorem nextStep_frame (n : Nat) (s : State) :
    (nextStep n s).time = s.time ∧ (nextStep n s).nor = s.nor ∧ (nextStep n s).dict = s.dict
     ∧ (nextStep n s).pack = s.pack ∧ (nextStep n s).bank = s.bank ∧ (nextStep n s).packEst = s.packEst
     ∧ (nextStep n s).bankEst = s.bankEst ∧ (nextStep n s).rails = s.rails ∧ (nextStep n s).keep = s.keep
     ∧ (nextStep n s).tremor = s.tremor ∧ (nextStep n s).outage = s.outage ∧ (nextStep n s).flash = s.flash
     ∧ (nextStep n s).pending = s.pending := by
  unfold nextStep
  (repeat' split) <;> simp

theorem startSupplies_frame (s : State) :
    (startSupplies s).time = s.time ∧ (startSupplies s).nor = s.nor ∧ (startSupplies s).dict = s.dict
     ∧ (startSupplies s).pack = s.pack ∧ (startSupplies s).bank = s.bank ∧ (startSupplies s).packEst = s.packEst
     ∧ (startSupplies s).bankEst = s.bankEst ∧ (startSupplies s).keep = s.keep ∧ (startSupplies s).tremor = s.tremor
     ∧ (startSupplies s).outage = s.outage ∧ (startSupplies s).flash = s.flash ∧ (startSupplies s).pending = s.pending := by
  unfold startSupplies
  (repeat' split) <;> simp

@[simp] theorem cancelTrial_frame (s : State) :
    (cancelTrial s).time = s.time ∧ (cancelTrial s).isl = s.isl ∧ (cancelTrial s).mode = s.mode
     ∧ (cancelTrial s).nor = s.nor ∧ (cancelTrial s).dict = s.dict ∧ (cancelTrial s).can = s.can
     ∧ (cancelTrial s).mbx = s.mbx ∧ (cancelTrial s).win = s.win ∧ (cancelTrial s).port = s.port
     ∧ (cancelTrial s).cache = s.cache ∧ (cancelTrial s).adm = s.adm ∧ (cancelTrial s).pack = s.pack
     ∧ (cancelTrial s).bank = s.bank ∧ (cancelTrial s).packEst = s.packEst ∧ (cancelTrial s).bankEst = s.bankEst
     ∧ (cancelTrial s).hold = s.hold ∧ (cancelTrial s).rails = s.rails ∧ (cancelTrial s).tremor = s.tremor
     ∧ (cancelTrial s).outage = s.outage ∧ (cancelTrial s).flash = s.flash ∧ (cancelTrial s).video = s.video
     ∧ (cancelTrial s).ev = s.ev ∧ (cancelTrial s).out = s.out ∧ (cancelTrial s).pending = s.pending := by
  unfold cancelTrial
  (repeat' split) <;> simp

@[simp] theorem fallBack_frame (s : State) :
    (fallBack s).time = s.time ∧ (fallBack s).isl = s.isl ∧ (fallBack s).mode = s.mode ∧ (fallBack s).nor = s.nor
     ∧ (fallBack s).dict = s.dict ∧ (fallBack s).mbx = s.mbx ∧ (fallBack s).win = s.win ∧ (fallBack s).port = s.port
     ∧ (fallBack s).cache = s.cache ∧ (fallBack s).adm = s.adm ∧ (fallBack s).pack = s.pack
     ∧ (fallBack s).bank = s.bank ∧ (fallBack s).packEst = s.packEst ∧ (fallBack s).bankEst = s.bankEst
     ∧ (fallBack s).hold = s.hold ∧ (fallBack s).rails = s.rails ∧ (fallBack s).tremor = s.tremor
     ∧ (fallBack s).outage = s.outage ∧ (fallBack s).flash = s.flash ∧ (fallBack s).video = s.video
     ∧ (fallBack s).pending = s.pending := by
  unfold fallBack
  (repeat' split) <;> simp

@[simp] theorem startTrims_frame (s : State) :
    (startTrims s).time = s.time ∧ (startTrims s).isl = s.isl ∧ (startTrims s).life = s.life
     ∧ (startTrims s).mode = s.mode ∧ (startTrims s).nor = s.nor ∧ (startTrims s).dict = s.dict
     ∧ (startTrims s).can = s.can ∧ (startTrims s).mbx = s.mbx ∧ (startTrims s).win = s.win ∧ (startTrims s).port = s.port
     ∧ (startTrims s).cache = s.cache ∧ (startTrims s).adm = s.adm ∧ (startTrims s).pack = s.pack
     ∧ (startTrims s).bank = s.bank ∧ (startTrims s).packEst = s.packEst ∧ (startTrims s).bankEst = s.bankEst
     ∧ (startTrims s).hold = s.hold ∧ (startTrims s).keep = s.keep ∧ (startTrims s).tremor = s.tremor
     ∧ (startTrims s).outage = s.outage ∧ (startTrims s).flash = s.flash ∧ (startTrims s).video = s.video
     ∧ (startTrims s).ev = s.ev ∧ (startTrims s).out = s.out ∧ (startTrims s).pending = s.pending := by
  unfold startTrims
  (repeat' split) <;> simp

theorem defaultsOnly_frame (s : State) :
    (defaultsOnly s).time = s.time ∧ (defaultsOnly s).life = s.life ∧ (defaultsOnly s).mode = s.mode
     ∧ (defaultsOnly s).nor = s.nor ∧ (defaultsOnly s).can = s.can ∧ (defaultsOnly s).mbx = s.mbx
     ∧ (defaultsOnly s).win = s.win ∧ (defaultsOnly s).port = s.port ∧ (defaultsOnly s).cache = s.cache
     ∧ (defaultsOnly s).adm = s.adm ∧ (defaultsOnly s).pack = s.pack ∧ (defaultsOnly s).bank = s.bank
     ∧ (defaultsOnly s).packEst = s.packEst ∧ (defaultsOnly s).bankEst = s.bankEst ∧ (defaultsOnly s).hold = s.hold
     ∧ (defaultsOnly s).rails = s.rails ∧ (defaultsOnly s).keep = s.keep ∧ (defaultsOnly s).tremor = s.tremor
     ∧ (defaultsOnly s).outage = s.outage ∧ (defaultsOnly s).flash = s.flash ∧ (defaultsOnly s).video = s.video
     ∧ (defaultsOnly s).ev = s.ev ∧ (defaultsOnly s).out = s.out ∧ (defaultsOnly s).pending = s.pending := by
  unfold defaultsOnly
  (repeat' split) <;> simp

theorem configureCold_frame (s : State) :
    (configureCold s).time = s.time ∧ (configureCold s).isl = s.isl ∧ (configureCold s).nor = s.nor
     ∧ (configureCold s).dict = s.dict ∧ (configureCold s).mbx = s.mbx ∧ (configureCold s).win = s.win
     ∧ (configureCold s).port = s.port ∧ (configureCold s).adm = s.adm ∧ (configureCold s).pack = s.pack
     ∧ (configureCold s).bank = s.bank ∧ (configureCold s).hold = s.hold ∧ (configureCold s).keep = s.keep
     ∧ (configureCold s).tremor = s.tremor ∧ (configureCold s).outage = s.outage ∧ (configureCold s).flash = s.flash
     ∧ (configureCold s).video = s.video ∧ (configureCold s).pending = s.pending := by
  unfold configureCold
  (repeat' split) <;> simp

theorem startMemoryRails_frame (s : State) :
    (startMemoryRails s).time = s.time ∧ (startMemoryRails s).nor = s.nor ∧ (startMemoryRails s).dict = s.dict
     ∧ (startMemoryRails s).pack = s.pack ∧ (startMemoryRails s).bank = s.bank
     ∧ (startMemoryRails s).packEst = s.packEst ∧ (startMemoryRails s).bankEst = s.bankEst
     ∧ (startMemoryRails s).keep = s.keep ∧ (startMemoryRails s).outage = s.outage
     ∧ (startMemoryRails s).flash = s.flash ∧ (startMemoryRails s).pending = s.pending := by
  unfold startMemoryRails
  (repeat' split) <;> simp

theorem freezeHolders_frame (s : State) :
    (freezeHolders s).time = s.time ∧ (freezeHolders s).isl = s.isl ∧ (freezeHolders s).life = s.life
     ∧ (freezeHolders s).mode = s.mode ∧ (freezeHolders s).nor = s.nor ∧ (freezeHolders s).dict = s.dict
     ∧ (freezeHolders s).mbx = s.mbx ∧ (freezeHolders s).win = s.win ∧ (freezeHolders s).port = s.port
     ∧ (freezeHolders s).adm = s.adm ∧ (freezeHolders s).pack = s.pack ∧ (freezeHolders s).bank = s.bank
     ∧ (freezeHolders s).packEst = s.packEst ∧ (freezeHolders s).bankEst = s.bankEst ∧ (freezeHolders s).hold = s.hold
     ∧ (freezeHolders s).rails = s.rails ∧ (freezeHolders s).keep = s.keep ∧ (freezeHolders s).tremor = s.tremor
     ∧ (freezeHolders s).outage = s.outage ∧ (freezeHolders s).flash = s.flash ∧ (freezeHolders s).video = s.video
     ∧ (freezeHolders s).pending = s.pending := by
  unfold freezeHolders
  (repeat' split) <;> simp

theorem restartDone_frame (s : State) :
    (restartDone s).nor = s.nor ∧ (restartDone s).pending = s.pending := by
  unfold restartDone
  dsimp only
  (repeat' split) <;> simp

theorem restartFaulted_frame (s : State) :
    (restartFaulted s).nor = s.nor ∧ (restartFaulted s).dict = s.dict ∧ (restartFaulted s).tremor = s.tremor
     ∧ (restartFaulted s).outage = s.outage ∧ (restartFaulted s).pending = s.pending := by
  unfold restartFaulted
  (repeat' split) <;> simp

theorem memoryRailsUp_frame (s : State) :
    (memoryRailsUp s).time = s.time ∧ (memoryRailsUp s).nor = s.nor ∧ (memoryRailsUp s).dict = s.dict
     ∧ (memoryRailsUp s).pack = s.pack ∧ (memoryRailsUp s).bank = s.bank ∧ (memoryRailsUp s).packEst = s.packEst
     ∧ (memoryRailsUp s).bankEst = s.bankEst ∧ (memoryRailsUp s).keep = s.keep ∧ (memoryRailsUp s).tremor = s.tremor
     ∧ (memoryRailsUp s).outage = s.outage ∧ (memoryRailsUp s).flash = s.flash ∧ (memoryRailsUp s).pending = s.pending := by
  unfold memoryRailsUp
  (repeat' split) <;> simp

theorem dramTrained_frame (gib : Nat) (s : State) :
    (dramTrained gib s).time = s.time ∧ (dramTrained gib s).nor = s.nor ∧ (dramTrained gib s).dict = s.dict
     ∧ (dramTrained gib s).pack = s.pack ∧ (dramTrained gib s).bank = s.bank ∧ (dramTrained gib s).packEst = s.packEst
     ∧ (dramTrained gib s).bankEst = s.bankEst ∧ (dramTrained gib s).rails = s.rails
     ∧ (dramTrained gib s).keep = s.keep ∧ (dramTrained gib s).tremor = s.tremor
     ∧ (dramTrained gib s).outage = s.outage ∧ (dramTrained gib s).flash = s.flash
     ∧ (dramTrained gib s).pending = s.pending := by
  unfold dramTrained
  (repeat' split) <;> simp

@[simp] theorem dieMissing_frame (d : Fin 16) (s : State) :
    (dieMissing d s).time = s.time ∧ (dieMissing d s).isl = s.isl ∧ (dieMissing d s).life = s.life
     ∧ (dieMissing d s).mode = s.mode ∧ (dieMissing d s).nor = s.nor ∧ (dieMissing d s).dict = s.dict
     ∧ (dieMissing d s).mbx = s.mbx ∧ (dieMissing d s).win = s.win ∧ (dieMissing d s).port = s.port
     ∧ (dieMissing d s).cache = s.cache ∧ (dieMissing d s).adm = s.adm ∧ (dieMissing d s).pack = s.pack
     ∧ (dieMissing d s).bank = s.bank ∧ (dieMissing d s).packEst = s.packEst ∧ (dieMissing d s).bankEst = s.bankEst
     ∧ (dieMissing d s).hold = s.hold ∧ (dieMissing d s).rails = s.rails ∧ (dieMissing d s).keep = s.keep
     ∧ (dieMissing d s).tremor = s.tremor ∧ (dieMissing d s).outage = s.outage ∧ (dieMissing d s).video = s.video
     ∧ (dieMissing d s).pending = s.pending := by
  unfold dieMissing
  (repeat' split) <;> simp

@[simp] theorem repairKeys_frame (s : State) :
    (repairKeys s).time = s.time ∧ (repairKeys s).isl = s.isl ∧ (repairKeys s).life = s.life
     ∧ (repairKeys s).mode = s.mode ∧ (repairKeys s).nor = s.nor ∧ (repairKeys s).dict = s.dict
     ∧ (repairKeys s).mbx = s.mbx ∧ (repairKeys s).win = s.win ∧ (repairKeys s).port = s.port
     ∧ (repairKeys s).cache = s.cache ∧ (repairKeys s).adm = s.adm ∧ (repairKeys s).pack = s.pack
     ∧ (repairKeys s).bank = s.bank ∧ (repairKeys s).packEst = s.packEst ∧ (repairKeys s).bankEst = s.bankEst
     ∧ (repairKeys s).hold = s.hold ∧ (repairKeys s).rails = s.rails ∧ (repairKeys s).keep = s.keep
     ∧ (repairKeys s).tremor = s.tremor ∧ (repairKeys s).outage = s.outage ∧ (repairKeys s).video = s.video
     ∧ (repairKeys s).pending = s.pending := by
  unfold repairKeys
  (repeat' split) <;> simp

theorem precisionStep_frame (s : State) :
    (precisionStep s).time = s.time ∧ (precisionStep s).isl = s.isl ∧ (precisionStep s).mode = s.mode
     ∧ (precisionStep s).nor = s.nor ∧ (precisionStep s).dict = s.dict ∧ (precisionStep s).mbx = s.mbx
     ∧ (precisionStep s).win = s.win ∧ (precisionStep s).port = s.port ∧ (precisionStep s).cache = s.cache
     ∧ (precisionStep s).adm = s.adm ∧ (precisionStep s).pack = s.pack ∧ (precisionStep s).bank = s.bank
     ∧ (precisionStep s).packEst = s.packEst ∧ (precisionStep s).bankEst = s.bankEst ∧ (precisionStep s).hold = s.hold
     ∧ (precisionStep s).rails = s.rails ∧ (precisionStep s).keep = s.keep ∧ (precisionStep s).tremor = s.tremor
     ∧ (precisionStep s).outage = s.outage ∧ (precisionStep s).flash = s.flash ∧ (precisionStep s).video = s.video
     ∧ (precisionStep s).pending = s.pending := by
  unfold precisionStep
  (repeat' split) <;> simp

@[simp] theorem flashOverruns_frame (s : State) :
    (flashOverruns s).time = s.time ∧ (flashOverruns s).nor = s.nor ∧ (flashOverruns s).dict = s.dict
     ∧ (flashOverruns s).pack = s.pack ∧ (flashOverruns s).bank = s.bank ∧ (flashOverruns s).packEst = s.packEst
     ∧ (flashOverruns s).bankEst = s.bankEst ∧ (flashOverruns s).keep = s.keep ∧ (flashOverruns s).outage = s.outage
     ∧ (flashOverruns s).flash = s.flash ∧ (flashOverruns s).pending = s.pending := by
  unfold flashOverruns
  (repeat' split) <;> simp

theorem showProgress_frame (s : State) :
    (showProgress s).time = s.time ∧ (showProgress s).isl = s.isl ∧ (showProgress s).life = s.life
     ∧ (showProgress s).mode = s.mode ∧ (showProgress s).nor = s.nor ∧ (showProgress s).dict = s.dict
     ∧ (showProgress s).can = s.can ∧ (showProgress s).mbx = s.mbx ∧ (showProgress s).win = s.win
     ∧ (showProgress s).port = s.port ∧ (showProgress s).cache = s.cache ∧ (showProgress s).adm = s.adm
     ∧ (showProgress s).pack = s.pack ∧ (showProgress s).bank = s.bank ∧ (showProgress s).packEst = s.packEst
     ∧ (showProgress s).bankEst = s.bankEst ∧ (showProgress s).hold = s.hold ∧ (showProgress s).rails = s.rails
     ∧ (showProgress s).keep = s.keep ∧ (showProgress s).tremor = s.tremor ∧ (showProgress s).outage = s.outage
     ∧ (showProgress s).video = s.video ∧ (showProgress s).ev = s.ev ∧ (showProgress s).out = s.out
     ∧ (showProgress s).pending = s.pending := by
  unfold showProgress
  (repeat' split) <;> simp

end Sys2Proof.Machine
end

