-- ==== Sys2Proof/Laws/FrameIslands.lean ====
section
/-! SUPPORT. Frames of Machine/Islands.lean: what each operation leaves unchanged. -/

namespace Sys2Proof.Machine

theorem restartByBoot_frame (i : Island) (s : State) :
    (restartByBoot i s).nor = s.nor ∧ (restartByBoot i s).dict = s.dict ∧ (restartByBoot i s).tremor = s.tremor
     ∧ (restartByBoot i s).outage = s.outage ∧ (restartByBoot i s).pending = s.pending := by
  unfold restartByBoot
  (repeat' split) <;> simp

theorem restartEncoder_frame (n : Fin 16) (s : State) :
    (restartEncoder n s).time = s.time ∧ (restartEncoder n s).isl = s.isl ∧ (restartEncoder n s).life = s.life
     ∧ (restartEncoder n s).mode = s.mode ∧ (restartEncoder n s).nor = s.nor ∧ (restartEncoder n s).dict = s.dict
     ∧ (restartEncoder n s).can = s.can ∧ (restartEncoder n s).mbx = s.mbx ∧ (restartEncoder n s).win = s.win
     ∧ (restartEncoder n s).port = s.port ∧ (restartEncoder n s).cache = s.cache ∧ (restartEncoder n s).adm = s.adm
     ∧ (restartEncoder n s).pack = s.pack ∧ (restartEncoder n s).bank = s.bank ∧ (restartEncoder n s).packEst = s.packEst
     ∧ (restartEncoder n s).bankEst = s.bankEst ∧ (restartEncoder n s).hold = s.hold
     ∧ (restartEncoder n s).rails = s.rails ∧ (restartEncoder n s).keep = s.keep ∧ (restartEncoder n s).tremor = s.tremor
     ∧ (restartEncoder n s).outage = s.outage ∧ (restartEncoder n s).flash = s.flash ∧ (restartEncoder n s).ev = s.ev
     ∧ (restartEncoder n s).out = s.out ∧ (restartEncoder n s).pending = s.pending := by
  unfold restartEncoder
  (repeat' split) <;> simp

end Sys2Proof.Machine
end

