-- ==== Sys2Proof/Laws/FrameEnergy.lean ====
section
/-! SUPPORT. Frames of Machine/Energy.lean: what each operation leaves unchanged. -/

namespace Sys2Proof.Machine

theorem detect_frame (c : Channel) (s : State) :
    (detect c s).time = s.time ∧ (detect c s).isl = s.isl ∧ (detect c s).life = s.life ∧ (detect c s).mode = s.mode
     ∧ (detect c s).nor = s.nor ∧ (detect c s).dict = s.dict ∧ (detect c s).mbx = s.mbx ∧ (detect c s).win = s.win
     ∧ (detect c s).port = s.port ∧ (detect c s).cache = s.cache ∧ (detect c s).adm = s.adm ∧ (detect c s).hold = s.hold
     ∧ (detect c s).rails = s.rails ∧ (detect c s).tremor = s.tremor ∧ (detect c s).outage = s.outage
     ∧ (detect c s).flash = s.flash ∧ (detect c s).video = s.video ∧ (detect c s).pending = s.pending := by
  unfold detect
  (repeat' split) <;> simp

theorem mismatchRefresh_frame (c : Channel) (was : Bool) (s : State) :
    (mismatchRefresh c was s).time = s.time ∧ (mismatchRefresh c was s).isl = s.isl
     ∧ (mismatchRefresh c was s).life = s.life ∧ (mismatchRefresh c was s).mode = s.mode
     ∧ (mismatchRefresh c was s).nor = s.nor ∧ (mismatchRefresh c was s).dict = s.dict
     ∧ (mismatchRefresh c was s).mbx = s.mbx ∧ (mismatchRefresh c was s).win = s.win
     ∧ (mismatchRefresh c was s).port = s.port ∧ (mismatchRefresh c was s).cache = s.cache
     ∧ (mismatchRefresh c was s).adm = s.adm ∧ (mismatchRefresh c was s).pack = s.pack
     ∧ (mismatchRefresh c was s).bank = s.bank ∧ (mismatchRefresh c was s).packEst = s.packEst
     ∧ (mismatchRefresh c was s).bankEst = s.bankEst ∧ (mismatchRefresh c was s).hold = s.hold
     ∧ (mismatchRefresh c was s).rails = s.rails ∧ (mismatchRefresh c was s).keep = s.keep
     ∧ (mismatchRefresh c was s).tremor = s.tremor ∧ (mismatchRefresh c was s).outage = s.outage
     ∧ (mismatchRefresh c was s).flash = s.flash ∧ (mismatchRefresh c was s).video = s.video
     ∧ (mismatchRefresh c was s).pending = s.pending := by
  unfold mismatchRefresh
  (repeat' split) <;> simp

theorem sampleCounts_frame (c : Channel) (s : State) :
    (sampleCounts c s).time = s.time ∧ (sampleCounts c s).isl = s.isl ∧ (sampleCounts c s).life = s.life
     ∧ (sampleCounts c s).mode = s.mode ∧ (sampleCounts c s).nor = s.nor ∧ (sampleCounts c s).dict = s.dict
     ∧ (sampleCounts c s).can = s.can ∧ (sampleCounts c s).mbx = s.mbx ∧ (sampleCounts c s).win = s.win
     ∧ (sampleCounts c s).port = s.port ∧ (sampleCounts c s).cache = s.cache ∧ (sampleCounts c s).adm = s.adm
     ∧ (sampleCounts c s).packEst = s.packEst ∧ (sampleCounts c s).bankEst = s.bankEst ∧ (sampleCounts c s).hold = s.hold
     ∧ (sampleCounts c s).rails = s.rails ∧ (sampleCounts c s).keep = s.keep ∧ (sampleCounts c s).tremor = s.tremor
     ∧ (sampleCounts c s).outage = s.outage ∧ (sampleCounts c s).flash = s.flash ∧ (sampleCounts c s).video = s.video
     ∧ (sampleCounts c s).ev = s.ev ∧ (sampleCounts c s).out = s.out ∧ (sampleCounts c s).pending = s.pending := by
  unfold sampleCounts
  (repeat' split) <;> simp

@[simp] theorem cycleKeep_frame (c : Channel) (old : Nat) (s : State) :
    (cycleKeep c old s).time = s.time ∧ (cycleKeep c old s).isl = s.isl ∧ (cycleKeep c old s).life = s.life
     ∧ (cycleKeep c old s).mode = s.mode ∧ (cycleKeep c old s).nor = s.nor ∧ (cycleKeep c old s).dict = s.dict
     ∧ (cycleKeep c old s).can = s.can ∧ (cycleKeep c old s).mbx = s.mbx ∧ (cycleKeep c old s).win = s.win
     ∧ (cycleKeep c old s).port = s.port ∧ (cycleKeep c old s).cache = s.cache ∧ (cycleKeep c old s).adm = s.adm
     ∧ (cycleKeep c old s).pack = s.pack ∧ (cycleKeep c old s).bank = s.bank ∧ (cycleKeep c old s).packEst = s.packEst
     ∧ (cycleKeep c old s).bankEst = s.bankEst ∧ (cycleKeep c old s).hold = s.hold ∧ (cycleKeep c old s).rails = s.rails
     ∧ (cycleKeep c old s).tremor = s.tremor ∧ (cycleKeep c old s).outage = s.outage ∧ (cycleKeep c old s).flash = s.flash
     ∧ (cycleKeep c old s).video = s.video ∧ (cycleKeep c old s).ev = s.ev ∧ (cycleKeep c old s).out = s.out
     ∧ (cycleKeep c old s).pending = s.pending := by
  unfold cycleKeep
  (repeat' split) <;> simp

theorem estimate_frame (c : Channel) (mv : Nat) (ma dt : Int) (s : State) :
    (estimate c mv ma dt s).time = s.time ∧ (estimate c mv ma dt s).isl = s.isl
     ∧ (estimate c mv ma dt s).life = s.life ∧ (estimate c mv ma dt s).mode = s.mode
     ∧ (estimate c mv ma dt s).nor = s.nor ∧ (estimate c mv ma dt s).dict = s.dict
     ∧ (estimate c mv ma dt s).mbx = s.mbx ∧ (estimate c mv ma dt s).win = s.win
     ∧ (estimate c mv ma dt s).port = s.port ∧ (estimate c mv ma dt s).cache = s.cache
     ∧ (estimate c mv ma dt s).adm = s.adm ∧ (estimate c mv ma dt s).pack = s.pack
     ∧ (estimate c mv ma dt s).bank = s.bank ∧ (estimate c mv ma dt s).hold = s.hold
     ∧ (estimate c mv ma dt s).rails = s.rails ∧ (estimate c mv ma dt s).tremor = s.tremor
     ∧ (estimate c mv ma dt s).outage = s.outage ∧ (estimate c mv ma dt s).flash = s.flash
     ∧ (estimate c mv ma dt s).video = s.video ∧ (estimate c mv ma dt s).pending = s.pending := by
  unfold estimate
  (repeat' split) <;> simp

theorem geyserTemp_frame (c : Channel) (s : State) :
    (geyserTemp c s).time = s.time ∧ (geyserTemp c s).isl = s.isl ∧ (geyserTemp c s).life = s.life
     ∧ (geyserTemp c s).mode = s.mode ∧ (geyserTemp c s).nor = s.nor ∧ (geyserTemp c s).dict = s.dict
     ∧ (geyserTemp c s).mbx = s.mbx ∧ (geyserTemp c s).win = s.win ∧ (geyserTemp c s).port = s.port
     ∧ (geyserTemp c s).cache = s.cache ∧ (geyserTemp c s).pack = s.pack ∧ (geyserTemp c s).bank = s.bank
     ∧ (geyserTemp c s).keep = s.keep ∧ (geyserTemp c s).tremor = s.tremor ∧ (geyserTemp c s).outage = s.outage
     ∧ (geyserTemp c s).flash = s.flash ∧ (geyserTemp c s).video = s.video ∧ (geyserTemp c s).pending = s.pending := by
  unfold geyserTemp
  (repeat' split) <;> simp

@[simp] theorem endCharge_frame (c : Channel) (s : State) :
    (endCharge c s).time = s.time ∧ (endCharge c s).isl = s.isl ∧ (endCharge c s).life = s.life
     ∧ (endCharge c s).mode = s.mode ∧ (endCharge c s).nor = s.nor ∧ (endCharge c s).dict = s.dict
     ∧ (endCharge c s).can = s.can ∧ (endCharge c s).mbx = s.mbx ∧ (endCharge c s).win = s.win
     ∧ (endCharge c s).port = s.port ∧ (endCharge c s).cache = s.cache ∧ (endCharge c s).adm = s.adm
     ∧ (endCharge c s).packEst = s.packEst ∧ (endCharge c s).bankEst = s.bankEst ∧ (endCharge c s).hold = s.hold
     ∧ (endCharge c s).rails = s.rails ∧ (endCharge c s).keep = s.keep ∧ (endCharge c s).tremor = s.tremor
     ∧ (endCharge c s).outage = s.outage ∧ (endCharge c s).flash = s.flash ∧ (endCharge c s).video = s.video
     ∧ (endCharge c s).ev = s.ev ∧ (endCharge c s).out = s.out ∧ (endCharge c s).pending = s.pending := by
  unfold endCharge
  (repeat' split) <;> simp

theorem geyserDone_frame (c : Channel) (s : State) :
    (geyserDone c s).time = s.time ∧ (geyserDone c s).isl = s.isl ∧ (geyserDone c s).life = s.life
     ∧ (geyserDone c s).nor = s.nor ∧ (geyserDone c s).dict = s.dict ∧ (geyserDone c s).mbx = s.mbx
     ∧ (geyserDone c s).win = s.win ∧ (geyserDone c s).port = s.port ∧ (geyserDone c s).cache = s.cache
     ∧ (geyserDone c s).pack = s.pack ∧ (geyserDone c s).bank = s.bank ∧ (geyserDone c s).rails = s.rails
     ∧ (geyserDone c s).keep = s.keep ∧ (geyserDone c s).tremor = s.tremor ∧ (geyserDone c s).outage = s.outage
     ∧ (geyserDone c s).flash = s.flash ∧ (geyserDone c s).video = s.video ∧ (geyserDone c s).pending = s.pending := by
  unfold geyserDone
  (repeat' split) <;> simp

theorem holdAssist_frame (s : State) :
    (holdAssist s).time = s.time ∧ (holdAssist s).isl = s.isl ∧ (holdAssist s).life = s.life
     ∧ (holdAssist s).mode = s.mode ∧ (holdAssist s).nor = s.nor ∧ (holdAssist s).dict = s.dict
     ∧ (holdAssist s).can = s.can ∧ (holdAssist s).mbx = s.mbx ∧ (holdAssist s).win = s.win ∧ (holdAssist s).port = s.port
     ∧ (holdAssist s).cache = s.cache ∧ (holdAssist s).adm = s.adm ∧ (holdAssist s).pack = s.pack
     ∧ (holdAssist s).bank = s.bank ∧ (holdAssist s).rails = s.rails ∧ (holdAssist s).keep = s.keep
     ∧ (holdAssist s).tremor = s.tremor ∧ (holdAssist s).outage = s.outage ∧ (holdAssist s).flash = s.flash
     ∧ (holdAssist s).video = s.video ∧ (holdAssist s).ev = s.ev ∧ (holdAssist s).out = s.out
     ∧ (holdAssist s).pending = s.pending := by
  unfold holdAssist
  (repeat' split) <;> simp

@[simp] theorem freeAssist_frame (s : State) :
    (freeAssist s).time = s.time ∧ (freeAssist s).isl = s.isl ∧ (freeAssist s).life = s.life
     ∧ (freeAssist s).mode = s.mode ∧ (freeAssist s).nor = s.nor ∧ (freeAssist s).dict = s.dict
     ∧ (freeAssist s).can = s.can ∧ (freeAssist s).mbx = s.mbx ∧ (freeAssist s).win = s.win ∧ (freeAssist s).port = s.port
     ∧ (freeAssist s).cache = s.cache ∧ (freeAssist s).adm = s.adm ∧ (freeAssist s).pack = s.pack
     ∧ (freeAssist s).bank = s.bank ∧ (freeAssist s).rails = s.rails ∧ (freeAssist s).keep = s.keep
     ∧ (freeAssist s).tremor = s.tremor ∧ (freeAssist s).outage = s.outage ∧ (freeAssist s).flash = s.flash
     ∧ (freeAssist s).video = s.video ∧ (freeAssist s).ev = s.ev ∧ (freeAssist s).out = s.out
     ∧ (freeAssist s).pending = s.pending := by
  unfold freeAssist
  (repeat' split) <;> simp

theorem endSag_frame (s : State) :
    (endSag s).time = s.time ∧ (endSag s).isl = s.isl ∧ (endSag s).life = s.life ∧ (endSag s).mode = s.mode
     ∧ (endSag s).nor = s.nor ∧ (endSag s).dict = s.dict ∧ (endSag s).mbx = s.mbx ∧ (endSag s).win = s.win
     ∧ (endSag s).port = s.port ∧ (endSag s).adm = s.adm ∧ (endSag s).rails = s.rails ∧ (endSag s).keep = s.keep
     ∧ (endSag s).tremor = s.tremor ∧ (endSag s).outage = s.outage ∧ (endSag s).video = s.video
     ∧ (endSag s).pending = s.pending := by
  unfold endSag
  (repeat' split) <;> simp

end Sys2Proof.Machine
end

