-- ==== Sys2Proof/Laws/FrameEstimator.lean ====
section
/-! SUPPORT. Frames of Machine/Estimator.lean: what each operation leaves unchanged. -/

namespace Sys2Proof.Machine

theorem geyserRecharge_frame (c : Channel) (s : State) :
    (geyserRecharge c s).time = s.time ∧ (geyserRecharge c s).isl = s.isl ∧ (geyserRecharge c s).life = s.life
     ∧ (geyserRecharge c s).mode = s.mode ∧ (geyserRecharge c s).nor = s.nor ∧ (geyserRecharge c s).dict = s.dict
     ∧ (geyserRecharge c s).mbx = s.mbx ∧ (geyserRecharge c s).win = s.win ∧ (geyserRecharge c s).port = s.port
     ∧ (geyserRecharge c s).cache = s.cache ∧ (geyserRecharge c s).adm = s.adm ∧ (geyserRecharge c s).keep = s.keep
     ∧ (geyserRecharge c s).tremor = s.tremor ∧ (geyserRecharge c s).outage = s.outage
     ∧ (geyserRecharge c s).flash = s.flash ∧ (geyserRecharge c s).video = s.video
     ∧ (geyserRecharge c s).pending = s.pending := by
  unfold geyserRecharge
  (repeat' split) <;> simp

theorem endAwaiting_frame (s : State) :
    (endAwaiting s).time = s.time ∧ (endAwaiting s).isl = s.isl ∧ (endAwaiting s).life = s.life
     ∧ (endAwaiting s).mode = s.mode ∧ (endAwaiting s).nor = s.nor ∧ (endAwaiting s).dict = s.dict
     ∧ (endAwaiting s).mbx = s.mbx ∧ (endAwaiting s).win = s.win ∧ (endAwaiting s).port = s.port
     ∧ (endAwaiting s).cache = s.cache ∧ (endAwaiting s).adm = s.adm ∧ (endAwaiting s).pack = s.pack
     ∧ (endAwaiting s).bank = s.bank ∧ (endAwaiting s).hold = s.hold ∧ (endAwaiting s).rails = s.rails
     ∧ (endAwaiting s).keep = s.keep ∧ (endAwaiting s).tremor = s.tremor ∧ (endAwaiting s).outage = s.outage
     ∧ (endAwaiting s).flash = s.flash ∧ (endAwaiting s).video = s.video ∧ (endAwaiting s).pending = s.pending := by
  unfold endAwaiting
  (repeat' split) <;> simp

theorem discardImpedance_frame (c : Channel) (s : State) :
    (discardImpedance c s).time = s.time ∧ (discardImpedance c s).isl = s.isl ∧ (discardImpedance c s).life = s.life
     ∧ (discardImpedance c s).mode = s.mode ∧ (discardImpedance c s).nor = s.nor ∧ (discardImpedance c s).dict = s.dict
     ∧ (discardImpedance c s).mbx = s.mbx ∧ (discardImpedance c s).win = s.win ∧ (discardImpedance c s).port = s.port
     ∧ (discardImpedance c s).cache = s.cache ∧ (discardImpedance c s).adm = s.adm ∧ (discardImpedance c s).pack = s.pack
     ∧ (discardImpedance c s).bank = s.bank ∧ (discardImpedance c s).hold = s.hold
     ∧ (discardImpedance c s).rails = s.rails ∧ (discardImpedance c s).keep = s.keep
     ∧ (discardImpedance c s).tremor = s.tremor ∧ (discardImpedance c s).outage = s.outage
     ∧ (discardImpedance c s).flash = s.flash ∧ (discardImpedance c s).video = s.video
     ∧ (discardImpedance c s).pending = s.pending := by
  unfold discardImpedance
  (repeat' split) <;> simp

theorem takeImpedance_frame (c : Channel) (i : Nat) (x : Rat) (s : State) :
    (takeImpedance c i x s).time = s.time ∧ (takeImpedance c i x s).isl = s.isl ∧ (takeImpedance c i x s).life = s.life
     ∧ (takeImpedance c i x s).mode = s.mode ∧ (takeImpedance c i x s).nor = s.nor ∧ (takeImpedance c i x s).dict = s.dict
     ∧ (takeImpedance c i x s).mbx = s.mbx ∧ (takeImpedance c i x s).win = s.win ∧ (takeImpedance c i x s).port = s.port
     ∧ (takeImpedance c i x s).cache = s.cache ∧ (takeImpedance c i x s).adm = s.adm
     ∧ (takeImpedance c i x s).pack = s.pack ∧ (takeImpedance c i x s).bank = s.bank
     ∧ (takeImpedance c i x s).hold = s.hold ∧ (takeImpedance c i x s).rails = s.rails
     ∧ (takeImpedance c i x s).keep = s.keep ∧ (takeImpedance c i x s).tremor = s.tremor
     ∧ (takeImpedance c i x s).outage = s.outage ∧ (takeImpedance c i x s).flash = s.flash
     ∧ (takeImpedance c i x s).video = s.video ∧ (takeImpedance c i x s).pending = s.pending := by
  unfold takeImpedance
  (repeat' split) <;> simp

end Sys2Proof.Machine
end

