-- ==== Sys2Proof/Laws/FrameDictionary.lean ====
section
/-! SUPPORT. Frames of Machine/Dictionary.lean: what each operation leaves unchanged. -/

namespace Sys2Proof.Machine

theorem answerWaiting_frame (p : Session) (index sub : Nat) (a : Answer) (s : State) :
    (answerWaiting p index sub a s).time = s.time ∧ (answerWaiting p index sub a s).isl = s.isl
     ∧ (answerWaiting p index sub a s).life = s.life ∧ (answerWaiting p index sub a s).mode = s.mode
     ∧ (answerWaiting p index sub a s).nor = s.nor ∧ (answerWaiting p index sub a s).win = s.win
     ∧ (answerWaiting p index sub a s).cache = s.cache ∧ (answerWaiting p index sub a s).adm = s.adm
     ∧ (answerWaiting p index sub a s).pack = s.pack ∧ (answerWaiting p index sub a s).bank = s.bank
     ∧ (answerWaiting p index sub a s).packEst = s.packEst ∧ (answerWaiting p index sub a s).bankEst = s.bankEst
     ∧ (answerWaiting p index sub a s).hold = s.hold ∧ (answerWaiting p index sub a s).rails = s.rails
     ∧ (answerWaiting p index sub a s).keep = s.keep ∧ (answerWaiting p index sub a s).tremor = s.tremor
     ∧ (answerWaiting p index sub a s).outage = s.outage ∧ (answerWaiting p index sub a s).flash = s.flash
     ∧ (answerWaiting p index sub a s).video = s.video ∧ (answerWaiting p index sub a s).ev = s.ev
     ∧ (answerWaiting p index sub a s).pending = s.pending := by
  unfold answerWaiting
  (repeat' split) <;> simp

@[simp] theorem storeSupplies_frame (k : StoreKind) (s : State) :
    (storeSupplies k s).time = s.time ∧ (storeSupplies k s).isl = s.isl ∧ (storeSupplies k s).life = s.life
     ∧ (storeSupplies k s).mode = s.mode ∧ (storeSupplies k s).dict = s.dict ∧ (storeSupplies k s).can = s.can
     ∧ (storeSupplies k s).mbx = s.mbx ∧ (storeSupplies k s).win = s.win ∧ (storeSupplies k s).port = s.port
     ∧ (storeSupplies k s).cache = s.cache ∧ (storeSupplies k s).adm = s.adm ∧ (storeSupplies k s).pack = s.pack
     ∧ (storeSupplies k s).bank = s.bank ∧ (storeSupplies k s).packEst = s.packEst
     ∧ (storeSupplies k s).bankEst = s.bankEst ∧ (storeSupplies k s).hold = s.hold ∧ (storeSupplies k s).rails = s.rails
     ∧ (storeSupplies k s).keep = s.keep ∧ (storeSupplies k s).tremor = s.tremor ∧ (storeSupplies k s).outage = s.outage
     ∧ (storeSupplies k s).flash = s.flash ∧ (storeSupplies k s).video = s.video ∧ (storeSupplies k s).ev = s.ev
     ∧ (storeSupplies k s).out = s.out ∧ (storeSupplies k s).pending = s.pending := by
  unfold storeSupplies
  (repeat' split) <;> simp

theorem storeDone_frame (k : StoreKind) (s : State) :
    (storeDone k s).time = s.time ∧ (storeDone k s).isl = s.isl ∧ (storeDone k s).life = s.life
     ∧ (storeDone k s).mode = s.mode ∧ (storeDone k s).dict = s.dict ∧ (storeDone k s).mbx = s.mbx
     ∧ (storeDone k s).win = s.win ∧ (storeDone k s).port = s.port ∧ (storeDone k s).cache = s.cache
     ∧ (storeDone k s).adm = s.adm ∧ (storeDone k s).pack = s.pack ∧ (storeDone k s).bank = s.bank
     ∧ (storeDone k s).packEst = s.packEst ∧ (storeDone k s).bankEst = s.bankEst ∧ (storeDone k s).hold = s.hold
     ∧ (storeDone k s).rails = s.rails ∧ (storeDone k s).tremor = s.tremor ∧ (storeDone k s).outage = s.outage
     ∧ (storeDone k s).flash = s.flash ∧ (storeDone k s).video = s.video ∧ (storeDone k s).pending = s.pending := by
  unfold storeDone
  (repeat' split) <;> simp

theorem storeFailed_frame (s : State) :
    (storeFailed s).time = s.time ∧ (storeFailed s).isl = s.isl ∧ (storeFailed s).life = s.life
     ∧ (storeFailed s).mode = s.mode ∧ (storeFailed s).dict = s.dict ∧ (storeFailed s).mbx = s.mbx
     ∧ (storeFailed s).win = s.win ∧ (storeFailed s).port = s.port ∧ (storeFailed s).cache = s.cache
     ∧ (storeFailed s).adm = s.adm ∧ (storeFailed s).pack = s.pack ∧ (storeFailed s).bank = s.bank
     ∧ (storeFailed s).packEst = s.packEst ∧ (storeFailed s).bankEst = s.bankEst ∧ (storeFailed s).hold = s.hold
     ∧ (storeFailed s).rails = s.rails ∧ (storeFailed s).keep = s.keep ∧ (storeFailed s).tremor = s.tremor
     ∧ (storeFailed s).outage = s.outage ∧ (storeFailed s).flash = s.flash ∧ (storeFailed s).video = s.video
     ∧ (storeFailed s).pending = s.pending := by
  unfold storeFailed
  (repeat' split) <;> simp

end Sys2Proof.Machine
end

