-- ==== Sys2Proof/Laws/FrameCan.lean ====
section
/-! SUPPORT. Frames of Machine/Can.lean: what each operation leaves unchanged. -/

namespace Sys2Proof.Machine

theorem toNmt_frame (node : Fin 128) (n : Nmt) (s : State) :
    (toNmt node n s).time = s.time ∧ (toNmt node n s).isl = s.isl ∧ (toNmt node n s).life = s.life
     ∧ (toNmt node n s).mode = s.mode ∧ (toNmt node n s).nor = s.nor ∧ (toNmt node n s).dict = s.dict
     ∧ (toNmt node n s).mbx = s.mbx ∧ (toNmt node n s).win = s.win ∧ (toNmt node n s).port = s.port
     ∧ (toNmt node n s).cache = s.cache ∧ (toNmt node n s).adm = s.adm ∧ (toNmt node n s).pack = s.pack
     ∧ (toNmt node n s).bank = s.bank ∧ (toNmt node n s).packEst = s.packEst ∧ (toNmt node n s).bankEst = s.bankEst
     ∧ (toNmt node n s).hold = s.hold ∧ (toNmt node n s).rails = s.rails ∧ (toNmt node n s).keep = s.keep
     ∧ (toNmt node n s).tremor = s.tremor ∧ (toNmt node n s).outage = s.outage ∧ (toNmt node n s).flash = s.flash
     ∧ (toNmt node n s).video = s.video ∧ (toNmt node n s).ev = s.ev ∧ (toNmt node n s).out = s.out
     ∧ (toNmt node n s).pending = s.pending := by
  unfold toNmt
  (repeat' split) <;> simp

end Sys2Proof.Machine
end

