-- ==== Sys2Proof/Laws/FrameHostPort.lean ====
section
/-! SUPPORT. Frames of Machine/HostPort.lean: what each operation leaves unchanged. -/

namespace Sys2Proof.Machine

theorem startPair_frame (fn : Fin 16) (qp : Fin 4) (s : State) :
    (startPair fn qp s).time = s.time ∧ (startPair fn qp s).isl = s.isl ∧ (startPair fn qp s).life = s.life
     ∧ (startPair fn qp s).mode = s.mode ∧ (startPair fn qp s).nor = s.nor ∧ (startPair fn qp s).dict = s.dict
     ∧ (startPair fn qp s).mbx = s.mbx ∧ (startPair fn qp s).win = s.win ∧ (startPair fn qp s).cache = s.cache
     ∧ (startPair fn qp s).adm = s.adm ∧ (startPair fn qp s).pack = s.pack ∧ (startPair fn qp s).bank = s.bank
     ∧ (startPair fn qp s).packEst = s.packEst ∧ (startPair fn qp s).bankEst = s.bankEst
     ∧ (startPair fn qp s).hold = s.hold ∧ (startPair fn qp s).rails = s.rails ∧ (startPair fn qp s).keep = s.keep
     ∧ (startPair fn qp s).tremor = s.tremor ∧ (startPair fn qp s).outage = s.outage ∧ (startPair fn qp s).flash = s.flash
     ∧ (startPair fn qp s).video = s.video ∧ (startPair fn qp s).pending = s.pending := by
  unfold startPair
  (repeat' split) <;> simp

theorem doorbell_frame (fn : Fin 16) (qp : Fin 4) (head : Bool) (v : BitVec 32) (s : State) :
    (doorbell fn qp head v s).isl = s.isl ∧ (doorbell fn qp head v s).life = s.life
     ∧ (doorbell fn qp head v s).mode = s.mode ∧ (doorbell fn qp head v s).nor = s.nor
     ∧ (doorbell fn qp head v s).dict = s.dict ∧ (doorbell fn qp head v s).mbx = s.mbx
     ∧ (doorbell fn qp head v s).win = s.win ∧ (doorbell fn qp head v s).cache = s.cache
     ∧ (doorbell fn qp head v s).adm = s.adm ∧ (doorbell fn qp head v s).pack = s.pack
     ∧ (doorbell fn qp head v s).bank = s.bank ∧ (doorbell fn qp head v s).packEst = s.packEst
     ∧ (doorbell fn qp head v s).bankEst = s.bankEst ∧ (doorbell fn qp head v s).hold = s.hold
     ∧ (doorbell fn qp head v s).rails = s.rails ∧ (doorbell fn qp head v s).keep = s.keep
     ∧ (doorbell fn qp head v s).tremor = s.tremor ∧ (doorbell fn qp head v s).outage = s.outage
     ∧ (doorbell fn qp head v s).flash = s.flash ∧ (doorbell fn qp head v s).video = s.video
     ∧ (doorbell fn qp head v s).pending = s.pending := by
  unfold doorbell
  (repeat' split) <;> simp

@[simp] theorem fetchRead_frame (fn : Fin 16) (qp : Fin 4) (s : State) :
    (fetchRead fn qp s).time = s.time ∧ (fetchRead fn qp s).isl = s.isl ∧ (fetchRead fn qp s).life = s.life
     ∧ (fetchRead fn qp s).mode = s.mode ∧ (fetchRead fn qp s).nor = s.nor ∧ (fetchRead fn qp s).dict = s.dict
     ∧ (fetchRead fn qp s).can = s.can ∧ (fetchRead fn qp s).mbx = s.mbx ∧ (fetchRead fn qp s).win = s.win
     ∧ (fetchRead fn qp s).port = s.port ∧ (fetchRead fn qp s).cache = s.cache ∧ (fetchRead fn qp s).adm = s.adm
     ∧ (fetchRead fn qp s).pack = s.pack ∧ (fetchRead fn qp s).bank = s.bank ∧ (fetchRead fn qp s).packEst = s.packEst
     ∧ (fetchRead fn qp s).bankEst = s.bankEst ∧ (fetchRead fn qp s).hold = s.hold
     ∧ (fetchRead fn qp s).rails = s.rails ∧ (fetchRead fn qp s).keep = s.keep ∧ (fetchRead fn qp s).tremor = s.tremor
     ∧ (fetchRead fn qp s).outage = s.outage ∧ (fetchRead fn qp s).flash = s.flash
     ∧ (fetchRead fn qp s).video = s.video ∧ (fetchRead fn qp s).ev = s.ev ∧ (fetchRead fn qp s).pending = s.pending := by
  unfold fetchRead
  (repeat' split) <;> simp

theorem fetchOne_frame (s : State) (x : (Fin 16 × Fin 4) × FetchResult) :
    (fetchOne s x).time = s.time ∧ (fetchOne s x).isl = s.isl ∧ (fetchOne s x).life = s.life
     ∧ (fetchOne s x).mode = s.mode ∧ (fetchOne s x).nor = s.nor ∧ (fetchOne s x).dict = s.dict
     ∧ (fetchOne s x).mbx = s.mbx ∧ (fetchOne s x).win = s.win ∧ (fetchOne s x).adm = s.adm ∧ (fetchOne s x).pack = s.pack
     ∧ (fetchOne s x).bank = s.bank ∧ (fetchOne s x).packEst = s.packEst ∧ (fetchOne s x).bankEst = s.bankEst
     ∧ (fetchOne s x).hold = s.hold ∧ (fetchOne s x).rails = s.rails ∧ (fetchOne s x).keep = s.keep
     ∧ (fetchOne s x).tremor = s.tremor ∧ (fetchOne s x).outage = s.outage ∧ (fetchOne s x).flash = s.flash
     ∧ (fetchOne s x).video = s.video ∧ (fetchOne s x).pending = s.pending := by
  unfold fetchOne
  (repeat' split) <;> simp

end Sys2Proof.Machine
end

