-- ==== Sys2Proof/Laws/FrameCacheCommands.lean ====
section
/-! SUPPORT. Frames of Machine/CacheCommands.lean: what each operation leaves unchanged. -/

namespace Sys2Proof.Machine

@[simp] theorem endNoSpace_frame (k : Nat) (c : Cmd) (s : State) :
    (endNoSpace k c s).time = s.time ∧ (endNoSpace k c s).isl = s.isl ∧ (endNoSpace k c s).life = s.life
     ∧ (endNoSpace k c s).mode = s.mode ∧ (endNoSpace k c s).nor = s.nor ∧ (endNoSpace k c s).dict = s.dict
     ∧ (endNoSpace k c s).mbx = s.mbx ∧ (endNoSpace k c s).win = s.win ∧ (endNoSpace k c s).adm = s.adm
     ∧ (endNoSpace k c s).pack = s.pack ∧ (endNoSpace k c s).bank = s.bank ∧ (endNoSpace k c s).packEst = s.packEst
     ∧ (endNoSpace k c s).bankEst = s.bankEst ∧ (endNoSpace k c s).hold = s.hold ∧ (endNoSpace k c s).rails = s.rails
     ∧ (endNoSpace k c s).keep = s.keep ∧ (endNoSpace k c s).tremor = s.tremor ∧ (endNoSpace k c s).outage = s.outage
     ∧ (endNoSpace k c s).flash = s.flash ∧ (endNoSpace k c s).video = s.video ∧ (endNoSpace k c s).pending = s.pending := by
  unfold endNoSpace
  (repeat' split) <;> simp

@[simp] theorem beginPut_frame (elems : List Element) (c : Cmd) (protect : Bool) (n k : Nat) (s : State) :
    (beginPut elems c protect n k s).time = s.time ∧ (beginPut elems c protect n k s).isl = s.isl
     ∧ (beginPut elems c protect n k s).life = s.life ∧ (beginPut elems c protect n k s).mode = s.mode
     ∧ (beginPut elems c protect n k s).nor = s.nor ∧ (beginPut elems c protect n k s).dict = s.dict
     ∧ (beginPut elems c protect n k s).can = s.can ∧ (beginPut elems c protect n k s).mbx = s.mbx
     ∧ (beginPut elems c protect n k s).win = s.win ∧ (beginPut elems c protect n k s).adm = s.adm
     ∧ (beginPut elems c protect n k s).pack = s.pack ∧ (beginPut elems c protect n k s).bank = s.bank
     ∧ (beginPut elems c protect n k s).packEst = s.packEst ∧ (beginPut elems c protect n k s).bankEst = s.bankEst
     ∧ (beginPut elems c protect n k s).hold = s.hold ∧ (beginPut elems c protect n k s).rails = s.rails
     ∧ (beginPut elems c protect n k s).keep = s.keep ∧ (beginPut elems c protect n k s).tremor = s.tremor
     ∧ (beginPut elems c protect n k s).outage = s.outage ∧ (beginPut elems c protect n k s).flash = s.flash
     ∧ (beginPut elems c protect n k s).video = s.video ∧ (beginPut elems c protect n k s).ev = s.ev
     ∧ (beginPut elems c protect n k s).pending = s.pending := by
  unfold beginPut
  (repeat' split) <;> simp

theorem finishPut_frame (c : Cmd) (bs : List Block) (s : State) :
    (finishPut c bs s).time = s.time ∧ (finishPut c bs s).isl = s.isl ∧ (finishPut c bs s).life = s.life
     ∧ (finishPut c bs s).mode = s.mode ∧ (finishPut c bs s).nor = s.nor ∧ (finishPut c bs s).dict = s.dict
     ∧ (finishPut c bs s).mbx = s.mbx ∧ (finishPut c bs s).win = s.win ∧ (finishPut c bs s).pack = s.pack
     ∧ (finishPut c bs s).bank = s.bank ∧ (finishPut c bs s).packEst = s.packEst
     ∧ (finishPut c bs s).bankEst = s.bankEst ∧ (finishPut c bs s).hold = s.hold ∧ (finishPut c bs s).rails = s.rails
     ∧ (finishPut c bs s).keep = s.keep ∧ (finishPut c bs s).tremor = s.tremor ∧ (finishPut c bs s).outage = s.outage
     ∧ (finishPut c bs s).video = s.video ∧ (finishPut c bs s).pending = s.pending := by
  unfold finishPut
  (repeat' split) <;> simp

theorem failPut_frame (c : Cmd) (s : State) :
    (failPut c s).time = s.time ∧ (failPut c s).isl = s.isl ∧ (failPut c s).life = s.life
     ∧ (failPut c s).mode = s.mode ∧ (failPut c s).nor = s.nor ∧ (failPut c s).dict = s.dict
     ∧ (failPut c s).mbx = s.mbx ∧ (failPut c s).win = s.win ∧ (failPut c s).pack = s.pack
     ∧ (failPut c s).bank = s.bank ∧ (failPut c s).packEst = s.packEst ∧ (failPut c s).bankEst = s.bankEst
     ∧ (failPut c s).hold = s.hold ∧ (failPut c s).rails = s.rails ∧ (failPut c s).keep = s.keep
     ∧ (failPut c s).tremor = s.tremor ∧ (failPut c s).outage = s.outage ∧ (failPut c s).flash = s.flash
     ∧ (failPut c s).video = s.video ∧ (failPut c s).pending = s.pending := by
  unfold failPut
  (repeat' split) <;> simp

@[simp] theorem startFetches_frame (c : Cmd) (elems : List Element) (ks : List Nat) (s : State) :
    (startFetches c elems ks s).time = s.time ∧ (startFetches c elems ks s).isl = s.isl
     ∧ (startFetches c elems ks s).life = s.life ∧ (startFetches c elems ks s).mode = s.mode
     ∧ (startFetches c elems ks s).nor = s.nor ∧ (startFetches c elems ks s).dict = s.dict
     ∧ (startFetches c elems ks s).can = s.can ∧ (startFetches c elems ks s).mbx = s.mbx
     ∧ (startFetches c elems ks s).win = s.win ∧ (startFetches c elems ks s).cache = s.cache
     ∧ (startFetches c elems ks s).adm = s.adm ∧ (startFetches c elems ks s).pack = s.pack
     ∧ (startFetches c elems ks s).bank = s.bank ∧ (startFetches c elems ks s).packEst = s.packEst
     ∧ (startFetches c elems ks s).bankEst = s.bankEst ∧ (startFetches c elems ks s).hold = s.hold
     ∧ (startFetches c elems ks s).rails = s.rails ∧ (startFetches c elems ks s).keep = s.keep
     ∧ (startFetches c elems ks s).tremor = s.tremor ∧ (startFetches c elems ks s).outage = s.outage
     ∧ (startFetches c elems ks s).flash = s.flash ∧ (startFetches c elems ks s).video = s.video
     ∧ (startFetches c elems ks s).ev = s.ev ∧ (startFetches c elems ks s).out = s.out
     ∧ (startFetches c elems ks s).pending = s.pending := by
  unfold startFetches
  (repeat' split) <;> simp

@[simp] theorem eccFails_frame (n : Fin 16) (lba : Nat) (c : Cmd) (s : State) :
    (eccFails n lba c s).time = s.time ∧ (eccFails n lba c s).isl = s.isl ∧ (eccFails n lba c s).life = s.life
     ∧ (eccFails n lba c s).mode = s.mode ∧ (eccFails n lba c s).nor = s.nor ∧ (eccFails n lba c s).dict = s.dict
     ∧ (eccFails n lba c s).mbx = s.mbx ∧ (eccFails n lba c s).win = s.win ∧ (eccFails n lba c s).adm = s.adm
     ∧ (eccFails n lba c s).pack = s.pack ∧ (eccFails n lba c s).bank = s.bank
     ∧ (eccFails n lba c s).packEst = s.packEst ∧ (eccFails n lba c s).bankEst = s.bankEst
     ∧ (eccFails n lba c s).hold = s.hold ∧ (eccFails n lba c s).rails = s.rails ∧ (eccFails n lba c s).keep = s.keep
     ∧ (eccFails n lba c s).tremor = s.tremor ∧ (eccFails n lba c s).outage = s.outage
     ∧ (eccFails n lba c s).flash = s.flash ∧ (eccFails n lba c s).video = s.video
     ∧ (eccFails n lba c s).pending = s.pending := by
  unfold eccFails
  (repeat' split) <;> simp

@[simp] theorem finishGet_frame (onDemand : Bool) (eccBad : Option Nat) (elems : List Element) (c : Cmd) (s : State) :
    (finishGet onDemand eccBad elems c s).time = s.time ∧ (finishGet onDemand eccBad elems c s).isl = s.isl
     ∧ (finishGet onDemand eccBad elems c s).life = s.life ∧ (finishGet onDemand eccBad elems c s).mode = s.mode
     ∧ (finishGet onDemand eccBad elems c s).nor = s.nor ∧ (finishGet onDemand eccBad elems c s).dict = s.dict
     ∧ (finishGet onDemand eccBad elems c s).mbx = s.mbx ∧ (finishGet onDemand eccBad elems c s).win = s.win
     ∧ (finishGet onDemand eccBad elems c s).adm = s.adm ∧ (finishGet onDemand eccBad elems c s).pack = s.pack
     ∧ (finishGet onDemand eccBad elems c s).bank = s.bank ∧ (finishGet onDemand eccBad elems c s).packEst = s.packEst
     ∧ (finishGet onDemand eccBad elems c s).bankEst = s.bankEst ∧ (finishGet onDemand eccBad elems c s).hold = s.hold
     ∧ (finishGet onDemand eccBad elems c s).rails = s.rails ∧ (finishGet onDemand eccBad elems c s).keep = s.keep
     ∧ (finishGet onDemand eccBad elems c s).tremor = s.tremor ∧ (finishGet onDemand eccBad elems c s).outage = s.outage
     ∧ (finishGet onDemand eccBad elems c s).flash = s.flash ∧ (finishGet onDemand eccBad elems c s).video = s.video
     ∧ (finishGet onDemand eccBad elems c s).pending = s.pending := by
  unfold finishGet
  dsimp only
  (repeat' split) <;> simp

theorem startGet_frame (eccBad : Option Nat) (elems : List Element) (c : Cmd) (s : State) :
    (startGet eccBad elems c s).time = s.time ∧ (startGet eccBad elems c s).isl = s.isl
     ∧ (startGet eccBad elems c s).life = s.life ∧ (startGet eccBad elems c s).mode = s.mode
     ∧ (startGet eccBad elems c s).nor = s.nor ∧ (startGet eccBad elems c s).dict = s.dict
     ∧ (startGet eccBad elems c s).mbx = s.mbx ∧ (startGet eccBad elems c s).win = s.win
     ∧ (startGet eccBad elems c s).adm = s.adm ∧ (startGet eccBad elems c s).pack = s.pack
     ∧ (startGet eccBad elems c s).bank = s.bank ∧ (startGet eccBad elems c s).packEst = s.packEst
     ∧ (startGet eccBad elems c s).bankEst = s.bankEst ∧ (startGet eccBad elems c s).hold = s.hold
     ∧ (startGet eccBad elems c s).rails = s.rails ∧ (startGet eccBad elems c s).keep = s.keep
     ∧ (startGet eccBad elems c s).tremor = s.tremor ∧ (startGet eccBad elems c s).outage = s.outage
     ∧ (startGet eccBad elems c s).flash = s.flash ∧ (startGet eccBad elems c s).video = s.video
     ∧ (startGet eccBad elems c s).pending = s.pending := by
  unfold startGet
  (repeat' split) <;> simp

theorem cleanBlocks_frame (c : Cmd) (s : State) :
    (cleanBlocks c s).time = s.time ∧ (cleanBlocks c s).isl = s.isl ∧ (cleanBlocks c s).life = s.life
     ∧ (cleanBlocks c s).mode = s.mode ∧ (cleanBlocks c s).nor = s.nor ∧ (cleanBlocks c s).dict = s.dict
     ∧ (cleanBlocks c s).mbx = s.mbx ∧ (cleanBlocks c s).win = s.win ∧ (cleanBlocks c s).pack = s.pack
     ∧ (cleanBlocks c s).bank = s.bank ∧ (cleanBlocks c s).packEst = s.packEst ∧ (cleanBlocks c s).bankEst = s.bankEst
     ∧ (cleanBlocks c s).hold = s.hold ∧ (cleanBlocks c s).rails = s.rails ∧ (cleanBlocks c s).keep = s.keep
     ∧ (cleanBlocks c s).tremor = s.tremor ∧ (cleanBlocks c s).outage = s.outage ∧ (cleanBlocks c s).video = s.video
     ∧ (cleanBlocks c s).pending = s.pending := by
  unfold cleanBlocks
  (repeat' split) <;> simp

theorem dropBlocks_frame (c : Cmd) (s : State) :
    (dropBlocks c s).time = s.time ∧ (dropBlocks c s).isl = s.isl ∧ (dropBlocks c s).life = s.life
     ∧ (dropBlocks c s).mode = s.mode ∧ (dropBlocks c s).nor = s.nor ∧ (dropBlocks c s).dict = s.dict
     ∧ (dropBlocks c s).mbx = s.mbx ∧ (dropBlocks c s).win = s.win ∧ (dropBlocks c s).pack = s.pack
     ∧ (dropBlocks c s).bank = s.bank ∧ (dropBlocks c s).packEst = s.packEst ∧ (dropBlocks c s).bankEst = s.bankEst
     ∧ (dropBlocks c s).hold = s.hold ∧ (dropBlocks c s).rails = s.rails ∧ (dropBlocks c s).keep = s.keep
     ∧ (dropBlocks c s).tremor = s.tremor ∧ (dropBlocks c s).outage = s.outage ∧ (dropBlocks c s).video = s.video
     ∧ (dropBlocks c s).pending = s.pending := by
  unfold dropBlocks
  (repeat' split) <;> simp

theorem startFence_frame (c : Cmd) (s : State) :
    (startFence c s).time = s.time ∧ (startFence c s).isl = s.isl ∧ (startFence c s).life = s.life
     ∧ (startFence c s).mode = s.mode ∧ (startFence c s).nor = s.nor ∧ (startFence c s).dict = s.dict
     ∧ (startFence c s).can = s.can ∧ (startFence c s).mbx = s.mbx ∧ (startFence c s).win = s.win
     ∧ (startFence c s).adm = s.adm ∧ (startFence c s).pack = s.pack ∧ (startFence c s).bank = s.bank
     ∧ (startFence c s).packEst = s.packEst ∧ (startFence c s).bankEst = s.bankEst ∧ (startFence c s).hold = s.hold
     ∧ (startFence c s).rails = s.rails ∧ (startFence c s).keep = s.keep ∧ (startFence c s).tremor = s.tremor
     ∧ (startFence c s).outage = s.outage ∧ (startFence c s).flash = s.flash ∧ (startFence c s).video = s.video
     ∧ (startFence c s).ev = s.ev ∧ (startFence c s).out = s.out ∧ (startFence c s).pending = s.pending := by
  unfold startFence
  (repeat' split) <;> simp

end Sys2Proof.Machine
end

