-- ==== Sys2Proof/Laws/FrameRailCommands.lean ====
section
/-! SUPPORT. Frames of Machine/RailCommands.lean: what each operation leaves unchanged. -/

namespace Sys2Proof.Machine

@[simp] theorem upDone_frame (s : State) :
    (upDone s).time = s.time ∧ (upDone s).isl = s.isl ∧ (upDone s).life = s.life ∧ (upDone s).mode = s.mode
     ∧ (upDone s).nor = s.nor ∧ (upDone s).dict = s.dict ∧ (upDone s).can = s.can ∧ (upDone s).mbx = s.mbx
     ∧ (upDone s).win = s.win ∧ (upDone s).port = s.port ∧ (upDone s).cache = s.cache ∧ (upDone s).adm = s.adm
     ∧ (upDone s).pack = s.pack ∧ (upDone s).bank = s.bank ∧ (upDone s).packEst = s.packEst
     ∧ (upDone s).bankEst = s.bankEst ∧ (upDone s).hold = s.hold ∧ (upDone s).rails = s.rails ∧ (upDone s).keep = s.keep
     ∧ (upDone s).tremor = s.tremor ∧ (upDone s).flash = s.flash ∧ (upDone s).video = s.video ∧ (upDone s).ev = s.ev
     ∧ (upDone s).out = s.out ∧ (upDone s).pending = s.pending := by
  unfold upDone
  (repeat' split) <;> simp

@[simp] theorem advanceUp_frame (s : State) :
    (advanceUp s).time = s.time ∧ (advanceUp s).isl = s.isl ∧ (advanceUp s).life = s.life ∧ (advanceUp s).mode = s.mode
     ∧ (advanceUp s).nor = s.nor ∧ (advanceUp s).dict = s.dict ∧ (advanceUp s).mbx = s.mbx ∧ (advanceUp s).win = s.win
     ∧ (advanceUp s).port = s.port ∧ (advanceUp s).cache = s.cache ∧ (advanceUp s).adm = s.adm
     ∧ (advanceUp s).pack = s.pack ∧ (advanceUp s).bank = s.bank ∧ (advanceUp s).packEst = s.packEst
     ∧ (advanceUp s).bankEst = s.bankEst ∧ (advanceUp s).hold = s.hold ∧ (advanceUp s).keep = s.keep
     ∧ (advanceUp s).tremor = s.tremor ∧ (advanceUp s).flash = s.flash ∧ (advanceUp s).video = s.video
     ∧ (advanceUp s).pending = s.pending := by
  unfold advanceUp
  (repeat' split) <;> simp

theorem goodRail_frame (r : Fin 12) (s : State) :
    (goodRail r s).time = s.time ∧ (goodRail r s).life = s.life ∧ (goodRail r s).nor = s.nor
     ∧ (goodRail r s).dict = s.dict ∧ (goodRail r s).pack = s.pack ∧ (goodRail r s).bank = s.bank
     ∧ (goodRail r s).packEst = s.packEst ∧ (goodRail r s).bankEst = s.bankEst ∧ (goodRail r s).keep = s.keep
     ∧ (goodRail r s).tremor = s.tremor ∧ (goodRail r s).flash = s.flash ∧ (goodRail r s).pending = s.pending := by
  unfold goodRail
  (repeat' split) <;> simp

theorem afterPull_frame (s : State) :
    (afterPull s).time = s.time ∧ (afterPull s).life = s.life ∧ (afterPull s).nor = s.nor
     ∧ (afterPull s).dict = s.dict ∧ (afterPull s).pack = s.pack ∧ (afterPull s).bank = s.bank
     ∧ (afterPull s).packEst = s.packEst ∧ (afterPull s).bankEst = s.bankEst ∧ (afterPull s).keep = s.keep
     ∧ (afterPull s).tremor = s.tremor ∧ (afterPull s).flash = s.flash ∧ (afterPull s).pending = s.pending := by
  unfold afterPull
  (repeat' split) <;> simp

theorem sourceFails_frame (kind : Nat) (g : Fin 8) (lag : Nat) (s : State) :
    (sourceFails kind g lag s).time = s.time ∧ (sourceFails kind g lag s).nor = s.nor
     ∧ (sourceFails kind g lag s).tremor = s.tremor ∧ (sourceFails kind g lag s).pending = s.pending := by
  simp only [sourceFails, ite_proj]
  (repeat' split) <;> simp_all

theorem memoryRailLost_frame (r : Fin 12) (s : State) :
    (memoryRailLost r s).time = s.time ∧ (memoryRailLost r s).isl = s.isl ∧ (memoryRailLost r s).mode = s.mode
     ∧ (memoryRailLost r s).nor = s.nor ∧ (memoryRailLost r s).dict = s.dict ∧ (memoryRailLost r s).mbx = s.mbx
     ∧ (memoryRailLost r s).win = s.win ∧ (memoryRailLost r s).port = s.port ∧ (memoryRailLost r s).cache = s.cache
     ∧ (memoryRailLost r s).adm = s.adm ∧ (memoryRailLost r s).pack = s.pack ∧ (memoryRailLost r s).bank = s.bank
     ∧ (memoryRailLost r s).packEst = s.packEst ∧ (memoryRailLost r s).bankEst = s.bankEst
     ∧ (memoryRailLost r s).hold = s.hold ∧ (memoryRailLost r s).rails = s.rails ∧ (memoryRailLost r s).keep = s.keep
     ∧ (memoryRailLost r s).tremor = s.tremor ∧ (memoryRailLost r s).outage = s.outage
     ∧ (memoryRailLost r s).flash = s.flash ∧ (memoryRailLost r s).video = s.video
     ∧ (memoryRailLost r s).pending = s.pending := by
  unfold memoryRailLost
  (repeat' split) <;> simp

theorem scanCell_frame (k : Fin 6) (mv : Nat) (s : State) :
    (scanCell k mv s).time = s.time ∧ (scanCell k mv s).isl = s.isl ∧ (scanCell k mv s).life = s.life
     ∧ (scanCell k mv s).mode = s.mode ∧ (scanCell k mv s).nor = s.nor ∧ (scanCell k mv s).dict = s.dict
     ∧ (scanCell k mv s).mbx = s.mbx ∧ (scanCell k mv s).win = s.win ∧ (scanCell k mv s).port = s.port
     ∧ (scanCell k mv s).cache = s.cache ∧ (scanCell k mv s).adm = s.adm ∧ (scanCell k mv s).packEst = s.packEst
     ∧ (scanCell k mv s).bankEst = s.bankEst ∧ (scanCell k mv s).rails = s.rails ∧ (scanCell k mv s).keep = s.keep
     ∧ (scanCell k mv s).tremor = s.tremor ∧ (scanCell k mv s).outage = s.outage ∧ (scanCell k mv s).flash = s.flash
     ∧ (scanCell k mv s).video = s.video ∧ (scanCell k mv s).pending = s.pending := by
  unfold scanCell
  (repeat' split) <;> simp

theorem scanVkeep_frame (mv : Nat) (s : State) :
    (scanVkeep mv s).time = s.time ∧ (scanVkeep mv s).isl = s.isl ∧ (scanVkeep mv s).life = s.life
     ∧ (scanVkeep mv s).mode = s.mode ∧ (scanVkeep mv s).nor = s.nor ∧ (scanVkeep mv s).dict = s.dict
     ∧ (scanVkeep mv s).mbx = s.mbx ∧ (scanVkeep mv s).win = s.win ∧ (scanVkeep mv s).port = s.port
     ∧ (scanVkeep mv s).cache = s.cache ∧ (scanVkeep mv s).adm = s.adm ∧ (scanVkeep mv s).pack = s.pack
     ∧ (scanVkeep mv s).bank = s.bank ∧ (scanVkeep mv s).packEst = s.packEst ∧ (scanVkeep mv s).bankEst = s.bankEst
     ∧ (scanVkeep mv s).hold = s.hold ∧ (scanVkeep mv s).keep = s.keep ∧ (scanVkeep mv s).tremor = s.tremor
     ∧ (scanVkeep mv s).outage = s.outage ∧ (scanVkeep mv s).flash = s.flash ∧ (scanVkeep mv s).video = s.video
     ∧ (scanVkeep mv s).pending = s.pending := by
  unfold scanVkeep
  (repeat' split) <;> simp

end Sys2Proof.Machine
end

