-- ==== Sys2Proof/Laws/FrameTremorCommands.lean ====
section
/-! SUPPORT. Frames of Machine/TremorCommands.lean: what each operation leaves unchanged. -/

namespace Sys2Proof.Machine

theorem enterIdleUp_frame (s : State) :
    (enterIdleUp s).time = s.time ∧ (enterIdleUp s).isl = s.isl ∧ (enterIdleUp s).life = s.life
     ∧ (enterIdleUp s).mode = s.mode ∧ (enterIdleUp s).nor = s.nor ∧ (enterIdleUp s).dict = s.dict
     ∧ (enterIdleUp s).mbx = s.mbx ∧ (enterIdleUp s).win = s.win ∧ (enterIdleUp s).port = s.port
     ∧ (enterIdleUp s).cache = s.cache ∧ (enterIdleUp s).adm = s.adm ∧ (enterIdleUp s).pack = s.pack
     ∧ (enterIdleUp s).bank = s.bank ∧ (enterIdleUp s).packEst = s.packEst ∧ (enterIdleUp s).bankEst = s.bankEst
     ∧ (enterIdleUp s).hold = s.hold ∧ (enterIdleUp s).rails = s.rails ∧ (enterIdleUp s).keep = s.keep
     ∧ (enterIdleUp s).flash = s.flash ∧ (enterIdleUp s).video = s.video ∧ (enterIdleUp s).pending = s.pending := by
  unfold enterIdleUp
  (repeat' split) <;> simp

theorem beginDown_frame (s : State) :
    (beginDown s).time = s.time ∧ (beginDown s).isl = s.isl ∧ (beginDown s).life = s.life ∧ (beginDown s).mode = s.mode
     ∧ (beginDown s).nor = s.nor ∧ (beginDown s).dict = s.dict ∧ (beginDown s).mbx = s.mbx ∧ (beginDown s).win = s.win
     ∧ (beginDown s).port = s.port ∧ (beginDown s).cache = s.cache ∧ (beginDown s).adm = s.adm
     ∧ (beginDown s).pack = s.pack ∧ (beginDown s).bank = s.bank ∧ (beginDown s).packEst = s.packEst
     ∧ (beginDown s).bankEst = s.bankEst ∧ (beginDown s).hold = s.hold ∧ (beginDown s).keep = s.keep
     ∧ (beginDown s).outage = s.outage ∧ (beginDown s).flash = s.flash ∧ (beginDown s).video = s.video
     ∧ (beginDown s).pending = s.pending := by
  unfold beginDown
  (repeat' split) <;> simp

end Sys2Proof.Machine
end

