-- ==== Sys2Proof/Laws/FrameOutage.lean ====
section
/-! SUPPORT. Frames of Machine/Outage.lean: what each operation leaves unchanged. -/

namespace Sys2Proof.Machine

@[simp] theorem learnEByte_frame (s : State) :
    (learnEByte s).time = s.time ∧ (learnEByte s).isl = s.isl ∧ (learnEByte s).life = s.life
     ∧ (learnEByte s).mode = s.mode ∧ (learnEByte s).nor = s.nor ∧ (learnEByte s).dict = s.dict
     ∧ (learnEByte s).mbx = s.mbx ∧ (learnEByte s).win = s.win ∧ (learnEByte s).port = s.port
     ∧ (learnEByte s).cache = s.cache ∧ (learnEByte s).pack = s.pack ∧ (learnEByte s).bank = s.bank
     ∧ (learnEByte s).packEst = s.packEst ∧ (learnEByte s).bankEst = s.bankEst ∧ (learnEByte s).hold = s.hold
     ∧ (learnEByte s).rails = s.rails ∧ (learnEByte s).keep = s.keep ∧ (learnEByte s).tremor = s.tremor
     ∧ (learnEByte s).outage = s.outage ∧ (learnEByte s).flash = s.flash ∧ (learnEByte s).video = s.video
     ∧ (learnEByte s).pending = s.pending := by
  unfold learnEByte
  (repeat' split) <;> simp

theorem commitDone_frame (s : State) :
    (commitDone s).time = s.time ∧ (commitDone s).isl = s.isl ∧ (commitDone s).life = s.life
     ∧ (commitDone s).mode = s.mode ∧ (commitDone s).nor = s.nor ∧ (commitDone s).dict = s.dict
     ∧ (commitDone s).mbx = s.mbx ∧ (commitDone s).win = s.win ∧ (commitDone s).port = s.port
     ∧ (commitDone s).pack = s.pack ∧ (commitDone s).bank = s.bank ∧ (commitDone s).packEst = s.packEst
     ∧ (commitDone s).bankEst = s.bankEst ∧ (commitDone s).hold = s.hold ∧ (commitDone s).rails = s.rails
     ∧ (commitDone s).tremor = s.tremor ∧ (commitDone s).video = s.video ∧ (commitDone s).pending = s.pending := by
  unfold commitDone
  (repeat' split) <;> simp

theorem noteShort_frame (s : State) :
    (noteShort s).time = s.time ∧ (noteShort s).isl = s.isl ∧ (noteShort s).life = s.life ∧ (noteShort s).mode = s.mode
     ∧ (noteShort s).nor = s.nor ∧ (noteShort s).dict = s.dict ∧ (noteShort s).can = s.can ∧ (noteShort s).mbx = s.mbx
     ∧ (noteShort s).win = s.win ∧ (noteShort s).port = s.port ∧ (noteShort s).cache = s.cache ∧ (noteShort s).adm = s.adm
     ∧ (noteShort s).pack = s.pack ∧ (noteShort s).bank = s.bank ∧ (noteShort s).packEst = s.packEst
     ∧ (noteShort s).bankEst = s.bankEst ∧ (noteShort s).hold = s.hold ∧ (noteShort s).rails = s.rails
     ∧ (noteShort s).keep = s.keep ∧ (noteShort s).tremor = s.tremor ∧ (noteShort s).outage = s.outage
     ∧ (noteShort s).video = s.video ∧ (noteShort s).ev = s.ev ∧ (noteShort s).out = s.out
     ∧ (noteShort s).pending = s.pending := by
  unfold noteShort
  (repeat' split) <;> simp

theorem chargeAgain_frame (before s : State) :
    (chargeAgain before s).time = s.time ∧ (chargeAgain before s).isl = s.isl ∧ (chargeAgain before s).life = s.life
     ∧ (chargeAgain before s).nor = s.nor ∧ (chargeAgain before s).dict = s.dict ∧ (chargeAgain before s).mbx = s.mbx
     ∧ (chargeAgain before s).win = s.win ∧ (chargeAgain before s).port = s.port ∧ (chargeAgain before s).pack = s.pack
     ∧ (chargeAgain before s).bank = s.bank ∧ (chargeAgain before s).packEst = s.packEst
     ∧ (chargeAgain before s).bankEst = s.bankEst ∧ (chargeAgain before s).rails = s.rails
     ∧ (chargeAgain before s).keep = s.keep ∧ (chargeAgain before s).tremor = s.tremor
     ∧ (chargeAgain before s).outage = s.outage ∧ (chargeAgain before s).flash = s.flash
     ∧ (chargeAgain before s).pending = s.pending := by
  simp only [chargeAgain, ite_proj]
  (repeat' split) <;> simp_all

theorem sagOver_frame (s : State) :
    (sagOver s).time = s.time ∧ (sagOver s).isl = s.isl ∧ (sagOver s).life = s.life ∧ (sagOver s).mode = s.mode
     ∧ (sagOver s).nor = s.nor ∧ (sagOver s).dict = s.dict ∧ (sagOver s).mbx = s.mbx ∧ (sagOver s).win = s.win
     ∧ (sagOver s).port = s.port ∧ (sagOver s).cache = s.cache ∧ (sagOver s).adm = s.adm ∧ (sagOver s).pack = s.pack
     ∧ (sagOver s).bank = s.bank ∧ (sagOver s).packEst = s.packEst ∧ (sagOver s).bankEst = s.bankEst
     ∧ (sagOver s).rails = s.rails ∧ (sagOver s).keep = s.keep ∧ (sagOver s).tremor = s.tremor
     ∧ (sagOver s).outage = s.outage ∧ (sagOver s).flash = s.flash ∧ (sagOver s).video = s.video
     ∧ (sagOver s).pending = s.pending := by
  unfold sagOver
  (repeat' split) <;> simp

end Sys2Proof.Machine
end

