-- ==== Sys2Proof/Laws/FrameFlashCommands.lean ====
section
/-! SUPPORT. Frames of Machine/FlashCommands.lean: what each operation leaves unchanged. -/

namespace Sys2Proof.Machine

@[simp] theorem countErase_frame (s : State) :
    (countErase s).time = s.time ∧ (countErase s).isl = s.isl ∧ (countErase s).life = s.life
     ∧ (countErase s).mode = s.mode ∧ (countErase s).nor = s.nor ∧ (countErase s).dict = s.dict
     ∧ (countErase s).can = s.can ∧ (countErase s).mbx = s.mbx ∧ (countErase s).win = s.win
     ∧ (countErase s).port = s.port ∧ (countErase s).cache = s.cache ∧ (countErase s).adm = s.adm
     ∧ (countErase s).pack = s.pack ∧ (countErase s).bank = s.bank ∧ (countErase s).packEst = s.packEst
     ∧ (countErase s).bankEst = s.bankEst ∧ (countErase s).hold = s.hold ∧ (countErase s).rails = s.rails
     ∧ (countErase s).keep = s.keep ∧ (countErase s).tremor = s.tremor ∧ (countErase s).outage = s.outage
     ∧ (countErase s).video = s.video ∧ (countErase s).ev = s.ev ∧ (countErase s).pending = s.pending := by
  unfold countErase
  (repeat' split) <;> simp

@[simp] theorem eraseBuffer_frame (d : Fin 16) (s : State) :
    (eraseBuffer d s).time = s.time ∧ (eraseBuffer d s).isl = s.isl ∧ (eraseBuffer d s).life = s.life
     ∧ (eraseBuffer d s).mode = s.mode ∧ (eraseBuffer d s).nor = s.nor ∧ (eraseBuffer d s).dict = s.dict
     ∧ (eraseBuffer d s).can = s.can ∧ (eraseBuffer d s).mbx = s.mbx ∧ (eraseBuffer d s).win = s.win
     ∧ (eraseBuffer d s).port = s.port ∧ (eraseBuffer d s).cache = s.cache ∧ (eraseBuffer d s).adm = s.adm
     ∧ (eraseBuffer d s).pack = s.pack ∧ (eraseBuffer d s).bank = s.bank ∧ (eraseBuffer d s).packEst = s.packEst
     ∧ (eraseBuffer d s).bankEst = s.bankEst ∧ (eraseBuffer d s).hold = s.hold ∧ (eraseBuffer d s).rails = s.rails
     ∧ (eraseBuffer d s).keep = s.keep ∧ (eraseBuffer d s).tremor = s.tremor ∧ (eraseBuffer d s).outage = s.outage
     ∧ (eraseBuffer d s).video = s.video ∧ (eraseBuffer d s).ev = s.ev ∧ (eraseBuffer d s).pending = s.pending := by
  unfold eraseBuffer
  (repeat' split) <;> simp

@[simp] theorem failProbation_frame (d : Fin 16) (s : State) :
    (failProbation d s).time = s.time ∧ (failProbation d s).isl = s.isl ∧ (failProbation d s).life = s.life
     ∧ (failProbation d s).mode = s.mode ∧ (failProbation d s).nor = s.nor ∧ (failProbation d s).dict = s.dict
     ∧ (failProbation d s).mbx = s.mbx ∧ (failProbation d s).win = s.win ∧ (failProbation d s).port = s.port
     ∧ (failProbation d s).cache = s.cache ∧ (failProbation d s).adm = s.adm ∧ (failProbation d s).pack = s.pack
     ∧ (failProbation d s).bank = s.bank ∧ (failProbation d s).packEst = s.packEst
     ∧ (failProbation d s).bankEst = s.bankEst ∧ (failProbation d s).hold = s.hold ∧ (failProbation d s).rails = s.rails
     ∧ (failProbation d s).keep = s.keep ∧ (failProbation d s).tremor = s.tremor ∧ (failProbation d s).outage = s.outage
     ∧ (failProbation d s).video = s.video ∧ (failProbation d s).pending = s.pending := by
  unfold failProbation
  (repeat' split) <;> simp

@[simp] theorem passProbation_frame (d : Fin 16) (s : State) :
    (passProbation d s).time = s.time ∧ (passProbation d s).isl = s.isl ∧ (passProbation d s).life = s.life
     ∧ (passProbation d s).mode = s.mode ∧ (passProbation d s).nor = s.nor ∧ (passProbation d s).dict = s.dict
     ∧ (passProbation d s).mbx = s.mbx ∧ (passProbation d s).win = s.win ∧ (passProbation d s).port = s.port
     ∧ (passProbation d s).cache = s.cache ∧ (passProbation d s).adm = s.adm ∧ (passProbation d s).pack = s.pack
     ∧ (passProbation d s).bank = s.bank ∧ (passProbation d s).packEst = s.packEst
     ∧ (passProbation d s).bankEst = s.bankEst ∧ (passProbation d s).hold = s.hold ∧ (passProbation d s).rails = s.rails
     ∧ (passProbation d s).keep = s.keep ∧ (passProbation d s).tremor = s.tremor ∧ (passProbation d s).outage = s.outage
     ∧ (passProbation d s).video = s.video ∧ (passProbation d s).pending = s.pending := by
  unfold passProbation
  (repeat' split) <;> simp

@[simp] theorem verifyOps_frame (d : Fin 16) (b : Nat) (s : State) :
    (verifyOps d b s).time = s.time ∧ (verifyOps d b s).isl = s.isl ∧ (verifyOps d b s).life = s.life
     ∧ (verifyOps d b s).mode = s.mode ∧ (verifyOps d b s).nor = s.nor ∧ (verifyOps d b s).dict = s.dict
     ∧ (verifyOps d b s).can = s.can ∧ (verifyOps d b s).mbx = s.mbx ∧ (verifyOps d b s).win = s.win
     ∧ (verifyOps d b s).port = s.port ∧ (verifyOps d b s).cache = s.cache ∧ (verifyOps d b s).adm = s.adm
     ∧ (verifyOps d b s).pack = s.pack ∧ (verifyOps d b s).bank = s.bank ∧ (verifyOps d b s).packEst = s.packEst
     ∧ (verifyOps d b s).bankEst = s.bankEst ∧ (verifyOps d b s).hold = s.hold ∧ (verifyOps d b s).rails = s.rails
     ∧ (verifyOps d b s).keep = s.keep ∧ (verifyOps d b s).tremor = s.tremor ∧ (verifyOps d b s).outage = s.outage
     ∧ (verifyOps d b s).flash = s.flash ∧ (verifyOps d b s).video = s.video ∧ (verifyOps d b s).ev = s.ev
     ∧ (verifyOps d b s).pending = s.pending := by
  unfold verifyOps
  (repeat' split) <;> simp

theorem verifyBlock_frame (d : Fin 16) (b : Nat) (ok : Bool) (s : State) :
    (verifyBlock d b ok s).time = s.time ∧ (verifyBlock d b ok s).isl = s.isl ∧ (verifyBlock d b ok s).life = s.life
     ∧ (verifyBlock d b ok s).mode = s.mode ∧ (verifyBlock d b ok s).nor = s.nor ∧ (verifyBlock d b ok s).dict = s.dict
     ∧ (verifyBlock d b ok s).mbx = s.mbx ∧ (verifyBlock d b ok s).win = s.win ∧ (verifyBlock d b ok s).port = s.port
     ∧ (verifyBlock d b ok s).adm = s.adm ∧ (verifyBlock d b ok s).pack = s.pack ∧ (verifyBlock d b ok s).bank = s.bank
     ∧ (verifyBlock d b ok s).packEst = s.packEst ∧ (verifyBlock d b ok s).bankEst = s.bankEst
     ∧ (verifyBlock d b ok s).hold = s.hold ∧ (verifyBlock d b ok s).rails = s.rails
     ∧ (verifyBlock d b ok s).keep = s.keep ∧ (verifyBlock d b ok s).tremor = s.tremor
     ∧ (verifyBlock d b ok s).outage = s.outage ∧ (verifyBlock d b ok s).video = s.video
     ∧ (verifyBlock d b ok s).pending = s.pending := by
  simp only [verifyBlock, ite_proj]
  (repeat' split) <;> simp_all

@[simp] theorem readOrdinal_frame (c : Nat) (e : Epoch) (i : Nat) (s : State) :
    (readOrdinal c e i s).time = s.time ∧ (readOrdinal c e i s).isl = s.isl ∧ (readOrdinal c e i s).life = s.life
     ∧ (readOrdinal c e i s).mode = s.mode ∧ (readOrdinal c e i s).nor = s.nor ∧ (readOrdinal c e i s).dict = s.dict
     ∧ (readOrdinal c e i s).can = s.can ∧ (readOrdinal c e i s).mbx = s.mbx ∧ (readOrdinal c e i s).win = s.win
     ∧ (readOrdinal c e i s).port = s.port ∧ (readOrdinal c e i s).cache = s.cache ∧ (readOrdinal c e i s).adm = s.adm
     ∧ (readOrdinal c e i s).pack = s.pack ∧ (readOrdinal c e i s).bank = s.bank
     ∧ (readOrdinal c e i s).packEst = s.packEst ∧ (readOrdinal c e i s).bankEst = s.bankEst
     ∧ (readOrdinal c e i s).hold = s.hold ∧ (readOrdinal c e i s).rails = s.rails
     ∧ (readOrdinal c e i s).keep = s.keep ∧ (readOrdinal c e i s).tremor = s.tremor
     ∧ (readOrdinal c e i s).outage = s.outage ∧ (readOrdinal c e i s).flash = s.flash
     ∧ (readOrdinal c e i s).video = s.video ∧ (readOrdinal c e i s).ev = s.ev
     ∧ (readOrdinal c e i s).pending = s.pending := by
  unfold readOrdinal
  (repeat' split) <;> simp

end Sys2Proof.Machine
end

