-- ==== Sys2Proof/Laws/FrameCapture.lean ====
section
/-! SUPPORT. Frames of Machine/Capture.lean: what each operation leaves unchanged. -/

namespace Sys2Proof.Machine

theorem setPort_frame (port : Fin 4) (r : PortRun) (s : State) :
    (setPort port r s).time = s.time ∧ (setPort port r s).isl = s.isl ∧ (setPort port r s).life = s.life
     ∧ (setPort port r s).mode = s.mode ∧ (setPort port r s).nor = s.nor ∧ (setPort port r s).dict = s.dict
     ∧ (setPort port r s).can = s.can ∧ (setPort port r s).mbx = s.mbx ∧ (setPort port r s).win = s.win
     ∧ (setPort port r s).port = s.port ∧ (setPort port r s).cache = s.cache ∧ (setPort port r s).adm = s.adm
     ∧ (setPort port r s).pack = s.pack ∧ (setPort port r s).bank = s.bank ∧ (setPort port r s).packEst = s.packEst
     ∧ (setPort port r s).bankEst = s.bankEst ∧ (setPort port r s).hold = s.hold ∧ (setPort port r s).rails = s.rails
     ∧ (setPort port r s).keep = s.keep ∧ (setPort port r s).tremor = s.tremor ∧ (setPort port r s).outage = s.outage
     ∧ (setPort port r s).flash = s.flash ∧ (setPort port r s).ev = s.ev ∧ (setPort port r s).out = s.out
     ∧ (setPort port r s).pending = s.pending := by
  unfold setPort
  (repeat' split) <;> simp

@[simp] theorem countTick_frame (g : Fin 4) (k : Nat) (s : State) :
    (countTick g k s).time = s.time ∧ (countTick g k s).isl = s.isl ∧ (countTick g k s).life = s.life
     ∧ (countTick g k s).mode = s.mode ∧ (countTick g k s).nor = s.nor ∧ (countTick g k s).dict = s.dict
     ∧ (countTick g k s).can = s.can ∧ (countTick g k s).mbx = s.mbx ∧ (countTick g k s).win = s.win
     ∧ (countTick g k s).port = s.port ∧ (countTick g k s).cache = s.cache ∧ (countTick g k s).adm = s.adm
     ∧ (countTick g k s).pack = s.pack ∧ (countTick g k s).bank = s.bank ∧ (countTick g k s).packEst = s.packEst
     ∧ (countTick g k s).bankEst = s.bankEst ∧ (countTick g k s).hold = s.hold ∧ (countTick g k s).rails = s.rails
     ∧ (countTick g k s).keep = s.keep ∧ (countTick g k s).tremor = s.tremor ∧ (countTick g k s).outage = s.outage
     ∧ (countTick g k s).flash = s.flash ∧ (countTick g k s).ev = s.ev ∧ (countTick g k s).out = s.out
     ∧ (countTick g k s).pending = s.pending := by
  unfold countTick
  (repeat' split) <;> simp

@[simp] theorem suspendIfDue_frame (n : Fin 16) (g : Fin 4) (s : State) :
    (suspendIfDue n g s).time = s.time ∧ (suspendIfDue n g s).isl = s.isl ∧ (suspendIfDue n g s).life = s.life
     ∧ (suspendIfDue n g s).mode = s.mode ∧ (suspendIfDue n g s).nor = s.nor ∧ (suspendIfDue n g s).dict = s.dict
     ∧ (suspendIfDue n g s).mbx = s.mbx ∧ (suspendIfDue n g s).win = s.win ∧ (suspendIfDue n g s).port = s.port
     ∧ (suspendIfDue n g s).cache = s.cache ∧ (suspendIfDue n g s).adm = s.adm ∧ (suspendIfDue n g s).pack = s.pack
     ∧ (suspendIfDue n g s).bank = s.bank ∧ (suspendIfDue n g s).packEst = s.packEst
     ∧ (suspendIfDue n g s).bankEst = s.bankEst ∧ (suspendIfDue n g s).hold = s.hold
     ∧ (suspendIfDue n g s).rails = s.rails ∧ (suspendIfDue n g s).keep = s.keep ∧ (suspendIfDue n g s).tremor = s.tremor
     ∧ (suspendIfDue n g s).outage = s.outage ∧ (suspendIfDue n g s).flash = s.flash
     ∧ (suspendIfDue n g s).pending = s.pending := by
  unfold suspendIfDue
  (repeat' split) <;> simp

@[simp] theorem insertFrame_frame (n : Fin 16) (g : Fin 4) (t0 k number : Nat) (s : State) :
    (insertFrame n g t0 k number s).time = s.time ∧ (insertFrame n g t0 k number s).isl = s.isl
     ∧ (insertFrame n g t0 k number s).life = s.life ∧ (insertFrame n g t0 k number s).mode = s.mode
     ∧ (insertFrame n g t0 k number s).nor = s.nor ∧ (insertFrame n g t0 k number s).dict = s.dict
     ∧ (insertFrame n g t0 k number s).mbx = s.mbx ∧ (insertFrame n g t0 k number s).win = s.win
     ∧ (insertFrame n g t0 k number s).port = s.port ∧ (insertFrame n g t0 k number s).cache = s.cache
     ∧ (insertFrame n g t0 k number s).adm = s.adm ∧ (insertFrame n g t0 k number s).pack = s.pack
     ∧ (insertFrame n g t0 k number s).bank = s.bank ∧ (insertFrame n g t0 k number s).packEst = s.packEst
     ∧ (insertFrame n g t0 k number s).bankEst = s.bankEst ∧ (insertFrame n g t0 k number s).hold = s.hold
     ∧ (insertFrame n g t0 k number s).rails = s.rails ∧ (insertFrame n g t0 k number s).keep = s.keep
     ∧ (insertFrame n g t0 k number s).tremor = s.tremor ∧ (insertFrame n g t0 k number s).outage = s.outage
     ∧ (insertFrame n g t0 k number s).flash = s.flash ∧ (insertFrame n g t0 k number s).pending = s.pending := by
  unfold insertFrame
  (repeat' split) <;> simp

@[simp] theorem fillTicks_frame (n : Fin 16) (g : Fin 4) (t0 k l : Nat) (s : State) :
    (fillTicks n g t0 k l s).time = s.time ∧ (fillTicks n g t0 k l s).isl = s.isl ∧ (fillTicks n g t0 k l s).life = s.life
     ∧ (fillTicks n g t0 k l s).mode = s.mode ∧ (fillTicks n g t0 k l s).nor = s.nor
     ∧ (fillTicks n g t0 k l s).dict = s.dict ∧ (fillTicks n g t0 k l s).mbx = s.mbx
     ∧ (fillTicks n g t0 k l s).win = s.win ∧ (fillTicks n g t0 k l s).port = s.port
     ∧ (fillTicks n g t0 k l s).cache = s.cache ∧ (fillTicks n g t0 k l s).adm = s.adm
     ∧ (fillTicks n g t0 k l s).pack = s.pack ∧ (fillTicks n g t0 k l s).bank = s.bank
     ∧ (fillTicks n g t0 k l s).packEst = s.packEst ∧ (fillTicks n g t0 k l s).bankEst = s.bankEst
     ∧ (fillTicks n g t0 k l s).hold = s.hold ∧ (fillTicks n g t0 k l s).rails = s.rails
     ∧ (fillTicks n g t0 k l s).keep = s.keep ∧ (fillTicks n g t0 k l s).tremor = s.tremor
     ∧ (fillTicks n g t0 k l s).outage = s.outage ∧ (fillTicks n g t0 k l s).flash = s.flash
     ∧ (fillTicks n g t0 k l s).pending = s.pending := by
  induction l generalizing s with
  | zero => simp [fillTicks]
  | succ m ih =>
    simp only [fillTicks]
    (repeat' split) <;> simp [ih]

@[simp] theorem noteDrop_frame (n : Fin 16) (cause : Nat) (s : State) :
    (noteDrop n cause s).time = s.time ∧ (noteDrop n cause s).isl = s.isl ∧ (noteDrop n cause s).life = s.life
     ∧ (noteDrop n cause s).mode = s.mode ∧ (noteDrop n cause s).nor = s.nor ∧ (noteDrop n cause s).dict = s.dict
     ∧ (noteDrop n cause s).mbx = s.mbx ∧ (noteDrop n cause s).win = s.win ∧ (noteDrop n cause s).port = s.port
     ∧ (noteDrop n cause s).cache = s.cache ∧ (noteDrop n cause s).adm = s.adm ∧ (noteDrop n cause s).pack = s.pack
     ∧ (noteDrop n cause s).bank = s.bank ∧ (noteDrop n cause s).packEst = s.packEst
     ∧ (noteDrop n cause s).bankEst = s.bankEst ∧ (noteDrop n cause s).hold = s.hold
     ∧ (noteDrop n cause s).rails = s.rails ∧ (noteDrop n cause s).keep = s.keep ∧ (noteDrop n cause s).tremor = s.tremor
     ∧ (noteDrop n cause s).outage = s.outage ∧ (noteDrop n cause s).flash = s.flash
     ∧ (noteDrop n cause s).pending = s.pending := by
  unfold noteDrop
  (repeat' split) <;> simp

@[simp] theorem dropCur_frame (n : Fin 16) (cause : Nat) (s : State) :
    (dropCur n cause s).time = s.time ∧ (dropCur n cause s).isl = s.isl ∧ (dropCur n cause s).life = s.life
     ∧ (dropCur n cause s).mode = s.mode ∧ (dropCur n cause s).nor = s.nor ∧ (dropCur n cause s).dict = s.dict
     ∧ (dropCur n cause s).mbx = s.mbx ∧ (dropCur n cause s).win = s.win ∧ (dropCur n cause s).port = s.port
     ∧ (dropCur n cause s).cache = s.cache ∧ (dropCur n cause s).adm = s.adm ∧ (dropCur n cause s).pack = s.pack
     ∧ (dropCur n cause s).bank = s.bank ∧ (dropCur n cause s).packEst = s.packEst
     ∧ (dropCur n cause s).bankEst = s.bankEst ∧ (dropCur n cause s).hold = s.hold ∧ (dropCur n cause s).rails = s.rails
     ∧ (dropCur n cause s).keep = s.keep ∧ (dropCur n cause s).tremor = s.tremor ∧ (dropCur n cause s).outage = s.outage
     ∧ (dropCur n cause s).flash = s.flash ∧ (dropCur n cause s).pending = s.pending := by
  unfold dropCur
  dsimp only
  (repeat' split) <;> simp

@[simp] theorem blankingEnds_frame (n : Fin 16) (s : State) :
    (blankingEnds n s).time = s.time ∧ (blankingEnds n s).isl = s.isl ∧ (blankingEnds n s).life = s.life
     ∧ (blankingEnds n s).mode = s.mode ∧ (blankingEnds n s).nor = s.nor ∧ (blankingEnds n s).dict = s.dict
     ∧ (blankingEnds n s).can = s.can ∧ (blankingEnds n s).mbx = s.mbx ∧ (blankingEnds n s).win = s.win
     ∧ (blankingEnds n s).port = s.port ∧ (blankingEnds n s).cache = s.cache ∧ (blankingEnds n s).adm = s.adm
     ∧ (blankingEnds n s).pack = s.pack ∧ (blankingEnds n s).bank = s.bank ∧ (blankingEnds n s).packEst = s.packEst
     ∧ (blankingEnds n s).bankEst = s.bankEst ∧ (blankingEnds n s).hold = s.hold ∧ (blankingEnds n s).rails = s.rails
     ∧ (blankingEnds n s).keep = s.keep ∧ (blankingEnds n s).tremor = s.tremor ∧ (blankingEnds n s).outage = s.outage
     ∧ (blankingEnds n s).flash = s.flash ∧ (blankingEnds n s).ev = s.ev ∧ (blankingEnds n s).out = s.out
     ∧ (blankingEnds n s).pending = s.pending := by
  unfold blankingEnds
  (repeat' split) <;> simp

@[simp] theorem takeLayers_frame (n : Fin 16) (s : State) :
    (takeLayers n s).time = s.time ∧ (takeLayers n s).isl = s.isl ∧ (takeLayers n s).life = s.life
     ∧ (takeLayers n s).mode = s.mode ∧ (takeLayers n s).nor = s.nor ∧ (takeLayers n s).dict = s.dict
     ∧ (takeLayers n s).mbx = s.mbx ∧ (takeLayers n s).win = s.win ∧ (takeLayers n s).port = s.port
     ∧ (takeLayers n s).cache = s.cache ∧ (takeLayers n s).adm = s.adm ∧ (takeLayers n s).pack = s.pack
     ∧ (takeLayers n s).bank = s.bank ∧ (takeLayers n s).packEst = s.packEst ∧ (takeLayers n s).bankEst = s.bankEst
     ∧ (takeLayers n s).hold = s.hold ∧ (takeLayers n s).rails = s.rails ∧ (takeLayers n s).keep = s.keep
     ∧ (takeLayers n s).tremor = s.tremor ∧ (takeLayers n s).outage = s.outage ∧ (takeLayers n s).flash = s.flash
     ∧ (takeLayers n s).pending = s.pending := by
  unfold takeLayers
  (repeat' split) <;> simp

@[simp] theorem joinGroup_frame (n : Fin 16) (s : State) :
    (joinGroup n s).time = s.time ∧ (joinGroup n s).isl = s.isl ∧ (joinGroup n s).life = s.life
     ∧ (joinGroup n s).mode = s.mode ∧ (joinGroup n s).nor = s.nor ∧ (joinGroup n s).dict = s.dict
     ∧ (joinGroup n s).can = s.can ∧ (joinGroup n s).mbx = s.mbx ∧ (joinGroup n s).win = s.win
     ∧ (joinGroup n s).port = s.port ∧ (joinGroup n s).cache = s.cache ∧ (joinGroup n s).adm = s.adm
     ∧ (joinGroup n s).pack = s.pack ∧ (joinGroup n s).bank = s.bank ∧ (joinGroup n s).packEst = s.packEst
     ∧ (joinGroup n s).bankEst = s.bankEst ∧ (joinGroup n s).hold = s.hold ∧ (joinGroup n s).rails = s.rails
     ∧ (joinGroup n s).keep = s.keep ∧ (joinGroup n s).tremor = s.tremor ∧ (joinGroup n s).outage = s.outage
     ∧ (joinGroup n s).flash = s.flash ∧ (joinGroup n s).ev = s.ev ∧ (joinGroup n s).out = s.out
     ∧ (joinGroup n s).pending = s.pending := by
  unfold joinGroup
  dsimp only
  (repeat' split) <;> simp

@[simp] theorem startRunning_frame (n : Fin 16) (s : State) :
    (startRunning n s).time = s.time ∧ (startRunning n s).isl = s.isl ∧ (startRunning n s).life = s.life
     ∧ (startRunning n s).mode = s.mode ∧ (startRunning n s).nor = s.nor ∧ (startRunning n s).dict = s.dict
     ∧ (startRunning n s).mbx = s.mbx ∧ (startRunning n s).win = s.win ∧ (startRunning n s).port = s.port
     ∧ (startRunning n s).cache = s.cache ∧ (startRunning n s).adm = s.adm ∧ (startRunning n s).pack = s.pack
     ∧ (startRunning n s).bank = s.bank ∧ (startRunning n s).packEst = s.packEst ∧ (startRunning n s).bankEst = s.bankEst
     ∧ (startRunning n s).hold = s.hold ∧ (startRunning n s).rails = s.rails ∧ (startRunning n s).keep = s.keep
     ∧ (startRunning n s).tremor = s.tremor ∧ (startRunning n s).outage = s.outage ∧ (startRunning n s).flash = s.flash
     ∧ (startRunning n s).pending = s.pending := by
  unfold startRunning
  (repeat' split) <;> simp

@[simp] theorem acceptFrame_frame (n : Fin 16) (time tick : Nat) (rejoin : Bool) (s : State) :
    (acceptFrame n time tick rejoin s).time = s.time ∧ (acceptFrame n time tick rejoin s).isl = s.isl
     ∧ (acceptFrame n time tick rejoin s).life = s.life ∧ (acceptFrame n time tick rejoin s).mode = s.mode
     ∧ (acceptFrame n time tick rejoin s).nor = s.nor ∧ (acceptFrame n time tick rejoin s).dict = s.dict
     ∧ (acceptFrame n time tick rejoin s).can = s.can ∧ (acceptFrame n time tick rejoin s).mbx = s.mbx
     ∧ (acceptFrame n time tick rejoin s).win = s.win ∧ (acceptFrame n time tick rejoin s).port = s.port
     ∧ (acceptFrame n time tick rejoin s).cache = s.cache ∧ (acceptFrame n time tick rejoin s).adm = s.adm
     ∧ (acceptFrame n time tick rejoin s).pack = s.pack ∧ (acceptFrame n time tick rejoin s).bank = s.bank
     ∧ (acceptFrame n time tick rejoin s).packEst = s.packEst ∧ (acceptFrame n time tick rejoin s).bankEst = s.bankEst
     ∧ (acceptFrame n time tick rejoin s).hold = s.hold ∧ (acceptFrame n time tick rejoin s).rails = s.rails
     ∧ (acceptFrame n time tick rejoin s).keep = s.keep ∧ (acceptFrame n time tick rejoin s).tremor = s.tremor
     ∧ (acceptFrame n time tick rejoin s).outage = s.outage ∧ (acceptFrame n time tick rejoin s).flash = s.flash
     ∧ (acceptFrame n time tick rejoin s).ev = s.ev ∧ (acceptFrame n time tick rejoin s).out = s.out
     ∧ (acceptFrame n time tick rejoin s).pending = s.pending := by
  unfold acceptFrame
  (repeat' split) <;> simp

@[simp] theorem soloFrame_frame (n : Fin 16) (s : State) :
    (soloFrame n s).time = s.time ∧ (soloFrame n s).isl = s.isl ∧ (soloFrame n s).life = s.life
     ∧ (soloFrame n s).mode = s.mode ∧ (soloFrame n s).nor = s.nor ∧ (soloFrame n s).dict = s.dict
     ∧ (soloFrame n s).mbx = s.mbx ∧ (soloFrame n s).win = s.win ∧ (soloFrame n s).port = s.port
     ∧ (soloFrame n s).cache = s.cache ∧ (soloFrame n s).adm = s.adm ∧ (soloFrame n s).pack = s.pack
     ∧ (soloFrame n s).bank = s.bank ∧ (soloFrame n s).packEst = s.packEst ∧ (soloFrame n s).bankEst = s.bankEst
     ∧ (soloFrame n s).hold = s.hold ∧ (soloFrame n s).rails = s.rails ∧ (soloFrame n s).keep = s.keep
     ∧ (soloFrame n s).tremor = s.tremor ∧ (soloFrame n s).outage = s.outage ∧ (soloFrame n s).flash = s.flash
     ∧ (soloFrame n s).pending = s.pending := by
  unfold soloFrame
  (repeat' split) <;> simp

@[simp] theorem surplusFrame_frame (n : Fin 16) (s : State) :
    (surplusFrame n s).time = s.time ∧ (surplusFrame n s).isl = s.isl ∧ (surplusFrame n s).life = s.life
     ∧ (surplusFrame n s).mode = s.mode ∧ (surplusFrame n s).nor = s.nor ∧ (surplusFrame n s).dict = s.dict
     ∧ (surplusFrame n s).mbx = s.mbx ∧ (surplusFrame n s).win = s.win ∧ (surplusFrame n s).port = s.port
     ∧ (surplusFrame n s).cache = s.cache ∧ (surplusFrame n s).adm = s.adm ∧ (surplusFrame n s).pack = s.pack
     ∧ (surplusFrame n s).bank = s.bank ∧ (surplusFrame n s).packEst = s.packEst ∧ (surplusFrame n s).bankEst = s.bankEst
     ∧ (surplusFrame n s).hold = s.hold ∧ (surplusFrame n s).rails = s.rails ∧ (surplusFrame n s).keep = s.keep
     ∧ (surplusFrame n s).tremor = s.tremor ∧ (surplusFrame n s).outage = s.outage ∧ (surplusFrame n s).flash = s.flash
     ∧ (surplusFrame n s).pending = s.pending := by
  unfold surplusFrame
  (repeat' split) <;> simp

@[simp] theorem memberFrame_frame (n : Fin 16) (g : Fin 4) (t0 : Nat) (s : State) :
    (memberFrame n g t0 s).time = s.time ∧ (memberFrame n g t0 s).isl = s.isl ∧ (memberFrame n g t0 s).life = s.life
     ∧ (memberFrame n g t0 s).mode = s.mode ∧ (memberFrame n g t0 s).nor = s.nor ∧ (memberFrame n g t0 s).dict = s.dict
     ∧ (memberFrame n g t0 s).mbx = s.mbx ∧ (memberFrame n g t0 s).win = s.win ∧ (memberFrame n g t0 s).port = s.port
     ∧ (memberFrame n g t0 s).cache = s.cache ∧ (memberFrame n g t0 s).adm = s.adm ∧ (memberFrame n g t0 s).pack = s.pack
     ∧ (memberFrame n g t0 s).bank = s.bank ∧ (memberFrame n g t0 s).packEst = s.packEst
     ∧ (memberFrame n g t0 s).bankEst = s.bankEst ∧ (memberFrame n g t0 s).hold = s.hold
     ∧ (memberFrame n g t0 s).rails = s.rails ∧ (memberFrame n g t0 s).keep = s.keep
     ∧ (memberFrame n g t0 s).tremor = s.tremor ∧ (memberFrame n g t0 s).outage = s.outage
     ∧ (memberFrame n g t0 s).flash = s.flash ∧ (memberFrame n g t0 s).pending = s.pending := by
  simp only [memberFrame, ite_proj]
  (repeat' split) <;> simp_all

theorem frameStarts_frame (n : Fin 16) (s : State) :
    (frameStarts n s).time = s.time ∧ (frameStarts n s).isl = s.isl ∧ (frameStarts n s).life = s.life
     ∧ (frameStarts n s).mode = s.mode ∧ (frameStarts n s).nor = s.nor ∧ (frameStarts n s).dict = s.dict
     ∧ (frameStarts n s).mbx = s.mbx ∧ (frameStarts n s).win = s.win ∧ (frameStarts n s).port = s.port
     ∧ (frameStarts n s).cache = s.cache ∧ (frameStarts n s).adm = s.adm ∧ (frameStarts n s).pack = s.pack
     ∧ (frameStarts n s).bank = s.bank ∧ (frameStarts n s).packEst = s.packEst ∧ (frameStarts n s).bankEst = s.bankEst
     ∧ (frameStarts n s).hold = s.hold ∧ (frameStarts n s).rails = s.rails ∧ (frameStarts n s).keep = s.keep
     ∧ (frameStarts n s).tremor = s.tremor ∧ (frameStarts n s).outage = s.outage ∧ (frameStarts n s).flash = s.flash
     ∧ (frameStarts n s).pending = s.pending := by
  simp only [frameStarts, ite_proj]
  (repeat' split) <;> simp_all

@[simp] theorem packetError_frame (port : Fin 4) (n : Option (Fin 16)) (s : State) :
    (packetError port n s).time = s.time ∧ (packetError port n s).isl = s.isl ∧ (packetError port n s).life = s.life
     ∧ (packetError port n s).mode = s.mode ∧ (packetError port n s).nor = s.nor ∧ (packetError port n s).dict = s.dict
     ∧ (packetError port n s).mbx = s.mbx ∧ (packetError port n s).win = s.win ∧ (packetError port n s).port = s.port
     ∧ (packetError port n s).cache = s.cache ∧ (packetError port n s).adm = s.adm ∧ (packetError port n s).pack = s.pack
     ∧ (packetError port n s).bank = s.bank ∧ (packetError port n s).packEst = s.packEst
     ∧ (packetError port n s).bankEst = s.bankEst ∧ (packetError port n s).hold = s.hold
     ∧ (packetError port n s).rails = s.rails ∧ (packetError port n s).keep = s.keep
     ∧ (packetError port n s).tremor = s.tremor ∧ (packetError port n s).outage = s.outage
     ∧ (packetError port n s).flash = s.flash ∧ (packetError port n s).pending = s.pending := by
  unfold packetError
  (repeat' split) <;> simp

@[simp] theorem unknownPacket_frame (port : Fin 4) (s : State) :
    (unknownPacket port s).time = s.time ∧ (unknownPacket port s).isl = s.isl ∧ (unknownPacket port s).life = s.life
     ∧ (unknownPacket port s).mode = s.mode ∧ (unknownPacket port s).nor = s.nor ∧ (unknownPacket port s).dict = s.dict
     ∧ (unknownPacket port s).mbx = s.mbx ∧ (unknownPacket port s).win = s.win ∧ (unknownPacket port s).port = s.port
     ∧ (unknownPacket port s).cache = s.cache ∧ (unknownPacket port s).adm = s.adm ∧ (unknownPacket port s).pack = s.pack
     ∧ (unknownPacket port s).bank = s.bank ∧ (unknownPacket port s).packEst = s.packEst
     ∧ (unknownPacket port s).bankEst = s.bankEst ∧ (unknownPacket port s).hold = s.hold
     ∧ (unknownPacket port s).rails = s.rails ∧ (unknownPacket port s).keep = s.keep
     ∧ (unknownPacket port s).tremor = s.tremor ∧ (unknownPacket port s).outage = s.outage
     ∧ (unknownPacket port s).flash = s.flash ∧ (unknownPacket port s).pending = s.pending := by
  unfold unknownPacket
  (repeat' split) <;> simp

@[simp] theorem addLine_frame (n : Fin 16) (format : Nat) (data : List Byte) (s : State) :
    (addLine n format data s).time = s.time ∧ (addLine n format data s).isl = s.isl
     ∧ (addLine n format data s).life = s.life ∧ (addLine n format data s).mode = s.mode
     ∧ (addLine n format data s).nor = s.nor ∧ (addLine n format data s).dict = s.dict
     ∧ (addLine n format data s).mbx = s.mbx ∧ (addLine n format data s).win = s.win
     ∧ (addLine n format data s).port = s.port ∧ (addLine n format data s).cache = s.cache
     ∧ (addLine n format data s).adm = s.adm ∧ (addLine n format data s).pack = s.pack
     ∧ (addLine n format data s).bank = s.bank ∧ (addLine n format data s).packEst = s.packEst
     ∧ (addLine n format data s).bankEst = s.bankEst ∧ (addLine n format data s).hold = s.hold
     ∧ (addLine n format data s).rails = s.rails ∧ (addLine n format data s).keep = s.keep
     ∧ (addLine n format data s).tremor = s.tremor ∧ (addLine n format data s).outage = s.outage
     ∧ (addLine n format data s).flash = s.flash ∧ (addLine n format data s).pending = s.pending := by
  unfold addLine
  dsimp only
  (repeat' split) <;> simp

theorem takePacket_frame (port : Fin 4) (n : Option (Fin 16)) (dataType : BitVec 6) (data : List Byte) (s : State) :
    (takePacket port n dataType data s).time = s.time ∧ (takePacket port n dataType data s).isl = s.isl
     ∧ (takePacket port n dataType data s).life = s.life ∧ (takePacket port n dataType data s).mode = s.mode
     ∧ (takePacket port n dataType data s).nor = s.nor ∧ (takePacket port n dataType data s).dict = s.dict
     ∧ (takePacket port n dataType data s).mbx = s.mbx ∧ (takePacket port n dataType data s).win = s.win
     ∧ (takePacket port n dataType data s).port = s.port ∧ (takePacket port n dataType data s).cache = s.cache
     ∧ (takePacket port n dataType data s).adm = s.adm ∧ (takePacket port n dataType data s).pack = s.pack
     ∧ (takePacket port n dataType data s).bank = s.bank ∧ (takePacket port n dataType data s).packEst = s.packEst
     ∧ (takePacket port n dataType data s).bankEst = s.bankEst ∧ (takePacket port n dataType data s).hold = s.hold
     ∧ (takePacket port n dataType data s).rails = s.rails ∧ (takePacket port n dataType data s).keep = s.keep
     ∧ (takePacket port n dataType data s).tremor = s.tremor ∧ (takePacket port n dataType data s).outage = s.outage
     ∧ (takePacket port n dataType data s).flash = s.flash ∧ (takePacket port n dataType data s).pending = s.pending := by
  unfold takePacket
  (repeat' split) <;> simp

@[simp] theorem completeFrame_frame (n : Fin 16) (f : Frame) (s : State) :
    (completeFrame n f s).time = s.time ∧ (completeFrame n f s).isl = s.isl ∧ (completeFrame n f s).life = s.life
     ∧ (completeFrame n f s).mode = s.mode ∧ (completeFrame n f s).nor = s.nor ∧ (completeFrame n f s).dict = s.dict
     ∧ (completeFrame n f s).can = s.can ∧ (completeFrame n f s).mbx = s.mbx ∧ (completeFrame n f s).win = s.win
     ∧ (completeFrame n f s).port = s.port ∧ (completeFrame n f s).cache = s.cache ∧ (completeFrame n f s).adm = s.adm
     ∧ (completeFrame n f s).pack = s.pack ∧ (completeFrame n f s).bank = s.bank
     ∧ (completeFrame n f s).packEst = s.packEst ∧ (completeFrame n f s).bankEst = s.bankEst
     ∧ (completeFrame n f s).hold = s.hold ∧ (completeFrame n f s).rails = s.rails ∧ (completeFrame n f s).keep = s.keep
     ∧ (completeFrame n f s).tremor = s.tremor ∧ (completeFrame n f s).outage = s.outage
     ∧ (completeFrame n f s).flash = s.flash ∧ (completeFrame n f s).ev = s.ev ∧ (completeFrame n f s).out = s.out
     ∧ (completeFrame n f s).pending = s.pending := by
  unfold completeFrame
  (repeat' split) <;> simp

@[simp] theorem blankingBegins_frame (n : Fin 16) (s : State) :
    (blankingBegins n s).time = s.time ∧ (blankingBegins n s).isl = s.isl ∧ (blankingBegins n s).life = s.life
     ∧ (blankingBegins n s).mode = s.mode ∧ (blankingBegins n s).nor = s.nor ∧ (blankingBegins n s).dict = s.dict
     ∧ (blankingBegins n s).mbx = s.mbx ∧ (blankingBegins n s).win = s.win ∧ (blankingBegins n s).port = s.port
     ∧ (blankingBegins n s).cache = s.cache ∧ (blankingBegins n s).adm = s.adm ∧ (blankingBegins n s).pack = s.pack
     ∧ (blankingBegins n s).bank = s.bank ∧ (blankingBegins n s).packEst = s.packEst
     ∧ (blankingBegins n s).bankEst = s.bankEst ∧ (blankingBegins n s).hold = s.hold
     ∧ (blankingBegins n s).rails = s.rails ∧ (blankingBegins n s).keep = s.keep ∧ (blankingBegins n s).tremor = s.tremor
     ∧ (blankingBegins n s).outage = s.outage ∧ (blankingBegins n s).flash = s.flash
     ∧ (blankingBegins n s).pending = s.pending := by
  unfold blankingBegins
  (repeat' split) <;> simp

theorem frameEnds_frame (port : Fin 4) (n : Fin 16) (s : State) :
    (frameEnds port n s).time = s.time ∧ (frameEnds port n s).isl = s.isl ∧ (frameEnds port n s).life = s.life
     ∧ (frameEnds port n s).mode = s.mode ∧ (frameEnds port n s).nor = s.nor ∧ (frameEnds port n s).dict = s.dict
     ∧ (frameEnds port n s).mbx = s.mbx ∧ (frameEnds port n s).win = s.win ∧ (frameEnds port n s).port = s.port
     ∧ (frameEnds port n s).cache = s.cache ∧ (frameEnds port n s).adm = s.adm ∧ (frameEnds port n s).pack = s.pack
     ∧ (frameEnds port n s).bank = s.bank ∧ (frameEnds port n s).packEst = s.packEst
     ∧ (frameEnds port n s).bankEst = s.bankEst ∧ (frameEnds port n s).hold = s.hold
     ∧ (frameEnds port n s).rails = s.rails ∧ (frameEnds port n s).keep = s.keep ∧ (frameEnds port n s).tremor = s.tremor
     ∧ (frameEnds port n s).outage = s.outage ∧ (frameEnds port n s).flash = s.flash
     ∧ (frameEnds port n s).pending = s.pending := by
  unfold frameEnds
  dsimp only
  (repeat' split) <;> simp

theorem portStarted_frame (before : State) (port : Fin 4) (s : State) :
    (portStarted before port s).time = s.time ∧ (portStarted before port s).isl = s.isl
     ∧ (portStarted before port s).life = s.life ∧ (portStarted before port s).mode = s.mode
     ∧ (portStarted before port s).nor = s.nor ∧ (portStarted before port s).dict = s.dict
     ∧ (portStarted before port s).mbx = s.mbx ∧ (portStarted before port s).win = s.win
     ∧ (portStarted before port s).port = s.port ∧ (portStarted before port s).pack = s.pack
     ∧ (portStarted before port s).bank = s.bank ∧ (portStarted before port s).packEst = s.packEst
     ∧ (portStarted before port s).bankEst = s.bankEst ∧ (portStarted before port s).hold = s.hold
     ∧ (portStarted before port s).rails = s.rails ∧ (portStarted before port s).keep = s.keep
     ∧ (portStarted before port s).tremor = s.tremor ∧ (portStarted before port s).outage = s.outage
     ∧ (portStarted before port s).pending = s.pending := by
  unfold portStarted
  (repeat' split) <;> simp

@[simp] theorem settleSet_frame (n : Fin 16) (id g : Nat) (met failed : Bool) (s : State) :
    (settleSet n id g met failed s).time = s.time ∧ (settleSet n id g met failed s).isl = s.isl
     ∧ (settleSet n id g met failed s).life = s.life ∧ (settleSet n id g met failed s).mode = s.mode
     ∧ (settleSet n id g met failed s).nor = s.nor ∧ (settleSet n id g met failed s).dict = s.dict
     ∧ (settleSet n id g met failed s).can = s.can ∧ (settleSet n id g met failed s).mbx = s.mbx
     ∧ (settleSet n id g met failed s).win = s.win ∧ (settleSet n id g met failed s).port = s.port
     ∧ (settleSet n id g met failed s).cache = s.cache ∧ (settleSet n id g met failed s).adm = s.adm
     ∧ (settleSet n id g met failed s).pack = s.pack ∧ (settleSet n id g met failed s).bank = s.bank
     ∧ (settleSet n id g met failed s).packEst = s.packEst ∧ (settleSet n id g met failed s).bankEst = s.bankEst
     ∧ (settleSet n id g met failed s).hold = s.hold ∧ (settleSet n id g met failed s).rails = s.rails
     ∧ (settleSet n id g met failed s).keep = s.keep ∧ (settleSet n id g met failed s).tremor = s.tremor
     ∧ (settleSet n id g met failed s).outage = s.outage ∧ (settleSet n id g met failed s).flash = s.flash
     ∧ (settleSet n id g met failed s).ev = s.ev ∧ (settleSet n id g met failed s).out = s.out
     ∧ (settleSet n id g met failed s).pending = s.pending := by
  unfold settleSet
  (repeat' split) <;> simp

theorem burstFails_frame (port : Fin 4) (s : State) :
    (burstFails port s).time = s.time ∧ (burstFails port s).isl = s.isl ∧ (burstFails port s).life = s.life
     ∧ (burstFails port s).mode = s.mode ∧ (burstFails port s).nor = s.nor ∧ (burstFails port s).dict = s.dict
     ∧ (burstFails port s).mbx = s.mbx ∧ (burstFails port s).win = s.win ∧ (burstFails port s).port = s.port
     ∧ (burstFails port s).cache = s.cache ∧ (burstFails port s).adm = s.adm ∧ (burstFails port s).pack = s.pack
     ∧ (burstFails port s).bank = s.bank ∧ (burstFails port s).packEst = s.packEst
     ∧ (burstFails port s).bankEst = s.bankEst ∧ (burstFails port s).hold = s.hold ∧ (burstFails port s).rails = s.rails
     ∧ (burstFails port s).keep = s.keep ∧ (burstFails port s).tremor = s.tremor ∧ (burstFails port s).outage = s.outage
     ∧ (burstFails port s).flash = s.flash ∧ (burstFails port s).pending = s.pending := by
  unfold burstFails
  (repeat' split) <;> simp

end Sys2Proof.Machine
end

