-- ==== Sys2Proof/Laws/FrameVideoCoding.lean ====
section
/-! SUPPORT. Frames of Machine/VideoCoding.lean: what each operation leaves unchanged. -/

namespace Sys2Proof.Machine

@[simp] theorem decideRow_frame (n : Fin 16) (f : Frame) (r : CodeResult) (s : State) :
    (decideRow n f r s).time = s.time ∧ (decideRow n f r s).isl = s.isl ∧ (decideRow n f r s).life = s.life
     ∧ (decideRow n f r s).mode = s.mode ∧ (decideRow n f r s).nor = s.nor ∧ (decideRow n f r s).dict = s.dict
     ∧ (decideRow n f r s).can = s.can ∧ (decideRow n f r s).mbx = s.mbx ∧ (decideRow n f r s).win = s.win
     ∧ (decideRow n f r s).port = s.port ∧ (decideRow n f r s).cache = s.cache ∧ (decideRow n f r s).adm = s.adm
     ∧ (decideRow n f r s).pack = s.pack ∧ (decideRow n f r s).bank = s.bank ∧ (decideRow n f r s).packEst = s.packEst
     ∧ (decideRow n f r s).bankEst = s.bankEst ∧ (decideRow n f r s).hold = s.hold
     ∧ (decideRow n f r s).rails = s.rails ∧ (decideRow n f r s).keep = s.keep ∧ (decideRow n f r s).tremor = s.tremor
     ∧ (decideRow n f r s).outage = s.outage ∧ (decideRow n f r s).flash = s.flash ∧ (decideRow n f r s).ev = s.ev
     ∧ (decideRow n f r s).out = s.out ∧ (decideRow n f r s).pending = s.pending := by
  unfold decideRow
  (repeat' split) <;> simp

@[simp] theorem endCoding_frame (n : Fin 16) (f : Frame) (r : CodeResult) (s : State) :
    (endCoding n f r s).time = s.time ∧ (endCoding n f r s).isl = s.isl ∧ (endCoding n f r s).life = s.life
     ∧ (endCoding n f r s).mode = s.mode ∧ (endCoding n f r s).nor = s.nor ∧ (endCoding n f r s).dict = s.dict
     ∧ (endCoding n f r s).mbx = s.mbx ∧ (endCoding n f r s).win = s.win ∧ (endCoding n f r s).port = s.port
     ∧ (endCoding n f r s).cache = s.cache ∧ (endCoding n f r s).adm = s.adm ∧ (endCoding n f r s).pack = s.pack
     ∧ (endCoding n f r s).bank = s.bank ∧ (endCoding n f r s).packEst = s.packEst
     ∧ (endCoding n f r s).bankEst = s.bankEst ∧ (endCoding n f r s).hold = s.hold ∧ (endCoding n f r s).rails = s.rails
     ∧ (endCoding n f r s).keep = s.keep ∧ (endCoding n f r s).tremor = s.tremor ∧ (endCoding n f r s).outage = s.outage
     ∧ (endCoding n f r s).flash = s.flash ∧ (endCoding n f r s).pending = s.pending := by
  unfold endCoding
  (repeat' split) <;> simp

theorem fillRing_frame (fill : Nat) (s : State) :
    (fillRing fill s).time = s.time ∧ (fillRing fill s).isl = s.isl ∧ (fillRing fill s).life = s.life
     ∧ (fillRing fill s).mode = s.mode ∧ (fillRing fill s).nor = s.nor ∧ (fillRing fill s).dict = s.dict
     ∧ (fillRing fill s).mbx = s.mbx ∧ (fillRing fill s).win = s.win ∧ (fillRing fill s).port = s.port
     ∧ (fillRing fill s).cache = s.cache ∧ (fillRing fill s).adm = s.adm ∧ (fillRing fill s).pack = s.pack
     ∧ (fillRing fill s).bank = s.bank ∧ (fillRing fill s).packEst = s.packEst ∧ (fillRing fill s).bankEst = s.bankEst
     ∧ (fillRing fill s).hold = s.hold ∧ (fillRing fill s).rails = s.rails ∧ (fillRing fill s).keep = s.keep
     ∧ (fillRing fill s).tremor = s.tremor ∧ (fillRing fill s).outage = s.outage ∧ (fillRing fill s).flash = s.flash
     ∧ (fillRing fill s).pending = s.pending := by
  unfold fillRing
  (repeat' split) <;> simp

theorem rowDone_frame (n : Fin 16) (f : Frame) (r : CodeResult) (s : State) :
    (rowDone n f r s).time = s.time ∧ (rowDone n f r s).isl = s.isl ∧ (rowDone n f r s).life = s.life
     ∧ (rowDone n f r s).mode = s.mode ∧ (rowDone n f r s).nor = s.nor ∧ (rowDone n f r s).dict = s.dict
     ∧ (rowDone n f r s).mbx = s.mbx ∧ (rowDone n f r s).win = s.win ∧ (rowDone n f r s).port = s.port
     ∧ (rowDone n f r s).cache = s.cache ∧ (rowDone n f r s).adm = s.adm ∧ (rowDone n f r s).pack = s.pack
     ∧ (rowDone n f r s).bank = s.bank ∧ (rowDone n f r s).packEst = s.packEst ∧ (rowDone n f r s).bankEst = s.bankEst
     ∧ (rowDone n f r s).hold = s.hold ∧ (rowDone n f r s).rails = s.rails ∧ (rowDone n f r s).keep = s.keep
     ∧ (rowDone n f r s).tremor = s.tremor ∧ (rowDone n f r s).outage = s.outage ∧ (rowDone n f r s).flash = s.flash
     ∧ (rowDone n f r s).pending = s.pending := by
  unfold rowDone
  (repeat' split) <;> simp

@[simp] theorem writeLive_frame (n : Fin 16) (bytes : List Byte) (s : State) :
    (writeLive n bytes s).time = s.time ∧ (writeLive n bytes s).isl = s.isl ∧ (writeLive n bytes s).life = s.life
     ∧ (writeLive n bytes s).mode = s.mode ∧ (writeLive n bytes s).nor = s.nor ∧ (writeLive n bytes s).dict = s.dict
     ∧ (writeLive n bytes s).can = s.can ∧ (writeLive n bytes s).mbx = s.mbx ∧ (writeLive n bytes s).win = s.win
     ∧ (writeLive n bytes s).cache = s.cache ∧ (writeLive n bytes s).adm = s.adm ∧ (writeLive n bytes s).pack = s.pack
     ∧ (writeLive n bytes s).bank = s.bank ∧ (writeLive n bytes s).packEst = s.packEst
     ∧ (writeLive n bytes s).bankEst = s.bankEst ∧ (writeLive n bytes s).hold = s.hold
     ∧ (writeLive n bytes s).rails = s.rails ∧ (writeLive n bytes s).keep = s.keep
     ∧ (writeLive n bytes s).tremor = s.tremor ∧ (writeLive n bytes s).outage = s.outage
     ∧ (writeLive n bytes s).flash = s.flash ∧ (writeLive n bytes s).ev = s.ev
     ∧ (writeLive n bytes s).pending = s.pending := by
  unfold writeLive
  (repeat' split) <;> simp

@[simp] theorem liveOverflow_frame (n : Fin 16) (s : State) :
    (liveOverflow n s).time = s.time ∧ (liveOverflow n s).isl = s.isl ∧ (liveOverflow n s).life = s.life
     ∧ (liveOverflow n s).mode = s.mode ∧ (liveOverflow n s).nor = s.nor ∧ (liveOverflow n s).dict = s.dict
     ∧ (liveOverflow n s).mbx = s.mbx ∧ (liveOverflow n s).win = s.win ∧ (liveOverflow n s).port = s.port
     ∧ (liveOverflow n s).cache = s.cache ∧ (liveOverflow n s).adm = s.adm ∧ (liveOverflow n s).pack = s.pack
     ∧ (liveOverflow n s).bank = s.bank ∧ (liveOverflow n s).packEst = s.packEst ∧ (liveOverflow n s).bankEst = s.bankEst
     ∧ (liveOverflow n s).hold = s.hold ∧ (liveOverflow n s).rails = s.rails ∧ (liveOverflow n s).keep = s.keep
     ∧ (liveOverflow n s).tremor = s.tremor ∧ (liveOverflow n s).outage = s.outage ∧ (liveOverflow n s).flash = s.flash
     ∧ (liveOverflow n s).pending = s.pending := by
  unfold liveOverflow
  (repeat' split) <;> simp

theorem liveFrameDone_frame (n : Fin 16) (c : Coded) (written : Bool) (s : State) :
    (liveFrameDone n c written s).time = s.time ∧ (liveFrameDone n c written s).isl = s.isl
     ∧ (liveFrameDone n c written s).life = s.life ∧ (liveFrameDone n c written s).mode = s.mode
     ∧ (liveFrameDone n c written s).nor = s.nor ∧ (liveFrameDone n c written s).dict = s.dict
     ∧ (liveFrameDone n c written s).can = s.can ∧ (liveFrameDone n c written s).mbx = s.mbx
     ∧ (liveFrameDone n c written s).win = s.win ∧ (liveFrameDone n c written s).cache = s.cache
     ∧ (liveFrameDone n c written s).adm = s.adm ∧ (liveFrameDone n c written s).pack = s.pack
     ∧ (liveFrameDone n c written s).bank = s.bank ∧ (liveFrameDone n c written s).packEst = s.packEst
     ∧ (liveFrameDone n c written s).bankEst = s.bankEst ∧ (liveFrameDone n c written s).hold = s.hold
     ∧ (liveFrameDone n c written s).rails = s.rails ∧ (liveFrameDone n c written s).keep = s.keep
     ∧ (liveFrameDone n c written s).tremor = s.tremor ∧ (liveFrameDone n c written s).outage = s.outage
     ∧ (liveFrameDone n c written s).flash = s.flash ∧ (liveFrameDone n c written s).ev = s.ev
     ∧ (liveFrameDone n c written s).pending = s.pending := by
  unfold liveFrameDone
  (repeat' split) <;> simp

@[simp] theorem readConsumer_frame (n : Fin 16) (consumer : Nat) (s : State) :
    (readConsumer n consumer s).time = s.time ∧ (readConsumer n consumer s).isl = s.isl
     ∧ (readConsumer n consumer s).life = s.life ∧ (readConsumer n consumer s).mode = s.mode
     ∧ (readConsumer n consumer s).nor = s.nor ∧ (readConsumer n consumer s).dict = s.dict
     ∧ (readConsumer n consumer s).can = s.can ∧ (readConsumer n consumer s).mbx = s.mbx
     ∧ (readConsumer n consumer s).win = s.win ∧ (readConsumer n consumer s).port = s.port
     ∧ (readConsumer n consumer s).cache = s.cache ∧ (readConsumer n consumer s).adm = s.adm
     ∧ (readConsumer n consumer s).pack = s.pack ∧ (readConsumer n consumer s).bank = s.bank
     ∧ (readConsumer n consumer s).packEst = s.packEst ∧ (readConsumer n consumer s).bankEst = s.bankEst
     ∧ (readConsumer n consumer s).hold = s.hold ∧ (readConsumer n consumer s).rails = s.rails
     ∧ (readConsumer n consumer s).keep = s.keep ∧ (readConsumer n consumer s).tremor = s.tremor
     ∧ (readConsumer n consumer s).outage = s.outage ∧ (readConsumer n consumer s).flash = s.flash
     ∧ (readConsumer n consumer s).ev = s.ev ∧ (readConsumer n consumer s).pending = s.pending := by
  unfold readConsumer
  (repeat' split) <;> simp

theorem putSlice_frame (n : Fin 16) (c : Coded) (nal : List Byte) (last : Bool) (consumer : Nat) (s : State) :
    (putSlice n c nal last consumer s).time = s.time ∧ (putSlice n c nal last consumer s).isl = s.isl
     ∧ (putSlice n c nal last consumer s).life = s.life ∧ (putSlice n c nal last consumer s).mode = s.mode
     ∧ (putSlice n c nal last consumer s).nor = s.nor ∧ (putSlice n c nal last consumer s).dict = s.dict
     ∧ (putSlice n c nal last consumer s).mbx = s.mbx ∧ (putSlice n c nal last consumer s).win = s.win
     ∧ (putSlice n c nal last consumer s).cache = s.cache ∧ (putSlice n c nal last consumer s).adm = s.adm
     ∧ (putSlice n c nal last consumer s).pack = s.pack ∧ (putSlice n c nal last consumer s).bank = s.bank
     ∧ (putSlice n c nal last consumer s).packEst = s.packEst ∧ (putSlice n c nal last consumer s).bankEst = s.bankEst
     ∧ (putSlice n c nal last consumer s).hold = s.hold ∧ (putSlice n c nal last consumer s).rails = s.rails
     ∧ (putSlice n c nal last consumer s).keep = s.keep ∧ (putSlice n c nal last consumer s).tremor = s.tremor
     ∧ (putSlice n c nal last consumer s).outage = s.outage ∧ (putSlice n c nal last consumer s).flash = s.flash
     ∧ (putSlice n c nal last consumer s).pending = s.pending := by
  unfold putSlice
  (repeat' split) <;> simp

@[simp] theorem recordFrame_frame (n : Fin 16) (c : Coded) (nal : List Byte) (s : State) :
    (recordFrame n c nal s).time = s.time ∧ (recordFrame n c nal s).isl = s.isl
     ∧ (recordFrame n c nal s).life = s.life ∧ (recordFrame n c nal s).mode = s.mode
     ∧ (recordFrame n c nal s).nor = s.nor ∧ (recordFrame n c nal s).dict = s.dict
     ∧ (recordFrame n c nal s).mbx = s.mbx ∧ (recordFrame n c nal s).win = s.win
     ∧ (recordFrame n c nal s).port = s.port ∧ (recordFrame n c nal s).pack = s.pack
     ∧ (recordFrame n c nal s).bank = s.bank ∧ (recordFrame n c nal s).packEst = s.packEst
     ∧ (recordFrame n c nal s).bankEst = s.bankEst ∧ (recordFrame n c nal s).hold = s.hold
     ∧ (recordFrame n c nal s).rails = s.rails ∧ (recordFrame n c nal s).keep = s.keep
     ∧ (recordFrame n c nal s).tremor = s.tremor ∧ (recordFrame n c nal s).outage = s.outage
     ∧ (recordFrame n c nal s).pending = s.pending := by
  unfold recordFrame
  (repeat' split) <;> simp

@[simp] theorem readInput_frame (d : Fin 2) (read : Nat) (s : State) :
    (readInput d read s).time = s.time ∧ (readInput d read s).isl = s.isl ∧ (readInput d read s).life = s.life
     ∧ (readInput d read s).mode = s.mode ∧ (readInput d read s).nor = s.nor ∧ (readInput d read s).dict = s.dict
     ∧ (readInput d read s).can = s.can ∧ (readInput d read s).mbx = s.mbx ∧ (readInput d read s).win = s.win
     ∧ (readInput d read s).port = s.port ∧ (readInput d read s).cache = s.cache ∧ (readInput d read s).adm = s.adm
     ∧ (readInput d read s).pack = s.pack ∧ (readInput d read s).bank = s.bank
     ∧ (readInput d read s).packEst = s.packEst ∧ (readInput d read s).bankEst = s.bankEst
     ∧ (readInput d read s).hold = s.hold ∧ (readInput d read s).rails = s.rails ∧ (readInput d read s).keep = s.keep
     ∧ (readInput d read s).tremor = s.tremor ∧ (readInput d read s).outage = s.outage
     ∧ (readInput d read s).flash = s.flash ∧ (readInput d read s).ev = s.ev
     ∧ (readInput d read s).pending = s.pending := by
  unfold readInput
  (repeat' split) <;> simp

@[simp] theorem writePicture_frame (d : Fin 2) (p : Decoded) (concealed : Bool) (s : State) :
    (writePicture d p concealed s).time = s.time ∧ (writePicture d p concealed s).isl = s.isl
     ∧ (writePicture d p concealed s).life = s.life ∧ (writePicture d p concealed s).mode = s.mode
     ∧ (writePicture d p concealed s).nor = s.nor ∧ (writePicture d p concealed s).dict = s.dict
     ∧ (writePicture d p concealed s).can = s.can ∧ (writePicture d p concealed s).mbx = s.mbx
     ∧ (writePicture d p concealed s).win = s.win ∧ (writePicture d p concealed s).cache = s.cache
     ∧ (writePicture d p concealed s).adm = s.adm ∧ (writePicture d p concealed s).pack = s.pack
     ∧ (writePicture d p concealed s).bank = s.bank ∧ (writePicture d p concealed s).packEst = s.packEst
     ∧ (writePicture d p concealed s).bankEst = s.bankEst ∧ (writePicture d p concealed s).hold = s.hold
     ∧ (writePicture d p concealed s).rails = s.rails ∧ (writePicture d p concealed s).keep = s.keep
     ∧ (writePicture d p concealed s).tremor = s.tremor ∧ (writePicture d p concealed s).outage = s.outage
     ∧ (writePicture d p concealed s).flash = s.flash ∧ (writePicture d p concealed s).ev = s.ev
     ∧ (writePicture d p concealed s).pending = s.pending := by
  unfold writePicture
  (repeat' split) <;> simp

theorem lastPicture_frame (d : Fin 2) (last : Bool) (s : State) :
    (lastPicture d last s).time = s.time ∧ (lastPicture d last s).isl = s.isl ∧ (lastPicture d last s).life = s.life
     ∧ (lastPicture d last s).mode = s.mode ∧ (lastPicture d last s).nor = s.nor ∧ (lastPicture d last s).dict = s.dict
     ∧ (lastPicture d last s).mbx = s.mbx ∧ (lastPicture d last s).win = s.win ∧ (lastPicture d last s).port = s.port
     ∧ (lastPicture d last s).cache = s.cache ∧ (lastPicture d last s).adm = s.adm ∧ (lastPicture d last s).pack = s.pack
     ∧ (lastPicture d last s).bank = s.bank ∧ (lastPicture d last s).packEst = s.packEst
     ∧ (lastPicture d last s).bankEst = s.bankEst ∧ (lastPicture d last s).hold = s.hold
     ∧ (lastPicture d last s).rails = s.rails ∧ (lastPicture d last s).keep = s.keep
     ∧ (lastPicture d last s).tremor = s.tremor ∧ (lastPicture d last s).outage = s.outage
     ∧ (lastPicture d last s).flash = s.flash ∧ (lastPicture d last s).pending = s.pending := by
  unfold lastPicture
  (repeat' split) <;> simp

@[simp] theorem stopSession_frame (d : Fin 2) (code : Nat) (s : State) :
    (stopSession d code s).time = s.time ∧ (stopSession d code s).isl = s.isl ∧ (stopSession d code s).life = s.life
     ∧ (stopSession d code s).mode = s.mode ∧ (stopSession d code s).nor = s.nor
     ∧ (stopSession d code s).dict = s.dict ∧ (stopSession d code s).mbx = s.mbx ∧ (stopSession d code s).win = s.win
     ∧ (stopSession d code s).port = s.port ∧ (stopSession d code s).cache = s.cache
     ∧ (stopSession d code s).adm = s.adm ∧ (stopSession d code s).pack = s.pack
     ∧ (stopSession d code s).bank = s.bank ∧ (stopSession d code s).packEst = s.packEst
     ∧ (stopSession d code s).bankEst = s.bankEst ∧ (stopSession d code s).hold = s.hold
     ∧ (stopSession d code s).rails = s.rails ∧ (stopSession d code s).keep = s.keep
     ∧ (stopSession d code s).tremor = s.tremor ∧ (stopSession d code s).outage = s.outage
     ∧ (stopSession d code s).flash = s.flash ∧ (stopSession d code s).pending = s.pending := by
  unfold stopSession
  (repeat' split) <;> simp

end Sys2Proof.Machine
end

