-- ==== Sys2Proof/Laws/Maps.lean ====
section
/-! SUPPORT. The canonical form of maps: keys that rise along the list. Every operation keeps it, and a lookup sees just what was put.
The same for vectors: what a change of one place, or of each, leaves at a place. -/

namespace Sys2Proof.Machine

variable {α : Type}

/-- The canonical form, as an order of the whole list. -/
theorem mapWf_iff_pairwise (m : SMap α) : mapWf m = true ↔ m.Pairwise (fun p q => p.1 < q.1) := by
  induction m with
  | nil => exact ⟨fun _ => .nil, fun _ => rfl⟩
  | cons q m ih => rw [List.pairwise_cons, ← ih]; simp [mapWf, mapAbove]

@[simp] theorem mapWf_nil : mapWf ([] : SMap α) = true := rfl

@[simp] theorem mapWf_filter (m : SMap α) (f : Nat × α → Bool) (h : mapWf m = true) : mapWf (m.filter f) = true :=
  (mapWf_iff_pairwise _).2 (((mapWf_iff_pairwise _).1 h).filter f)

@[simp] theorem mapWf_mapErase (m : SMap α) (k : Nat) (h : mapWf m = true) : mapWf (mapErase m k) = true :=
  mapWf_filter m _ h

@[simp] theorem mapWf_mapVals (f : Nat → α → α) (m : SMap α) (h : mapWf m = true) : mapWf (mapVals f m) = true :=
  (mapWf_iff_pairwise _).2 (List.pairwise_map.2 ((mapWf_iff_pairwise _).1 h))

@[simp] theorem mapWf_mapSet (m : SMap α) (k : Nat) (v : α) (h : mapWf m = true) : mapWf (mapSet m k v) = true := by
  rw [mapWf_iff_pairwise] at *
  unfold mapSet
  simp only [List.pairwise_append, List.pairwise_cons, List.mem_filter, List.mem_cons, decide_eq_true_eq]
  refine ⟨h.filter _, ⟨fun _ hp => hp.2, h.filter _⟩, ?_⟩
  rintro p ⟨_, hp⟩ q (rfl | ⟨_, hq⟩)
  · exact hp
  · omega

@[simp] theorem mapWf_foldl_mapSet {β : Type} (k : β → Nat) (v : β → α) (l : List β) (m : SMap α) (h : mapWf m = true) :
    mapWf (l.foldl (fun a q => mapSet a (k q) (v q)) m) = true :=
  List.foldlRecOn (motive := fun a => mapWf a = true) l _ h (fun a ha q _ => mapWf_mapSet a (k q) (v q) ha)

@[simp] theorem mapWf_putValue (m : SMap Nat) (index sub v : Nat) (h : mapWf m = true) : mapWf (putValue m index sub v) = true := by
  unfold putValue; split <;> simp [h]

/-! ### Lookups -/

/-- Looking for a key among those that a test of keys keeps. -/
theorem mapFind_filter (m : SMap α) (f : Nat → Bool) (j : Nat) :
    mapFind (m.filter (fun p => f p.1)) j = if f j then mapFind m j else none := by
  induction m with
  | nil => simp [mapFind]
  | cons q m ih => by_cases hj : j = q.1 <;> cases hf : f q.1 <;> simp_all [mapFind]

/-- Looking for a key in one list after another. -/
theorem mapFind_append (a b : SMap α) (j : Nat) : mapFind (a ++ b) j = (mapFind a j).or (mapFind b j) := by
  induction a with
  | nil => rfl
  | cons q a ih => by_cases hj : j = q.1 <;> simp [mapFind, hj, ih]

/-- Reading back what was put in, and everything else as before. -/
theorem mapFind_mapSet (m : SMap α) (k : Nat) (v : α) (j : Nat) :
    mapFind (mapSet m k v) j = if j = k then some v else mapFind m j := by
  have below := mapFind_filter m (fun i => decide (i < k)) j
  have above := mapFind_filter m (fun i => decide (k < i)) j
  unfold mapSet
  rw [mapFind_append, below, mapFind, above]
  rcases lt_trichotomy j k with h | h | h
  · simp [h, h.ne, h.not_gt]
  · simp [h]
  · simp [h, h.ne', h.not_gt]

theorem mapFind_mapErase (m : SMap α) (k j : Nat) : mapFind (mapErase m k) j = if j = k then none else mapFind m j := by
  have h := mapFind_filter m (fun i => i != k) j
  unfold mapErase
  rw [h]
  by_cases hj : j = k <;> simp [hj]

/-! ### Vectors -/

@[simp] theorem vmapIdx_getElem {β : Type} {n : Nat} (f : Fin n → α → β) (v : Vector α n) (i : Nat) (h : i < n) :
    (vmapIdx f v)[i] = f ⟨i, h⟩ v[i] := by
  simp [vmapIdx]

@[simp] theorem vmod_getElem {n : Nat} (v : Vector α n) (i : Fin n) (f : α → α) (j : Nat) (h : j < n) :
    (vmod v i f)[j] = if i.val = j then f v[j] else v[j] := by
  unfold vmod
  rw [Vector.getElem_set]
  split
  · rename_i e; subst e; rfl
  · rfl

end Sys2Proof.Machine
end

