-- ==== Sys2Proof/Laws/Pending.lean ====
section
/-! SUPPORT. The queue is left alone: the operations that may change most other parts of the state, one lemma each. -/

namespace Sys2Proof.Machine

@[simp] theorem keepFlush_pending (cause : Nat) (s : State) :
    (keepFlush cause s).pending = s.pending := by
  unfold keepFlush
  (repeat' split) <;> simp

@[simp] theorem coldBoot_pending (cause : Nat) (why : Cause) (s : State) :
    (coldBoot cause why s).pending = s.pending := by
  unfold coldBoot
  (repeat' split) <;> simp [estAtBoot_frame, loadKeep_frame, loseDram_frame]

@[simp] theorem enterSleep_pending (why : Cause) (s : State) :
    (enterSleep why s).pending = s.pending := by
  unfold enterSleep
  (repeat' split) <;> simp [releaseOutputs_frame, sleepLearns_frame]

@[simp] theorem enterKeep_pending (why : Cause) (s : State) :
    (enterKeep why s).pending = s.pending := by
  unfold enterKeep
  (repeat' split) <;> simp

@[simp] theorem afterDown_pending (s : State) :
    (afterDown s).pending = s.pending := by
  unfold afterDown
  (repeat' split) <;> simp [dieHalt_frame]

@[simp] theorem shutAll_pending (groups : List Nat) (s : State) :
    (shutAll groups s).pending = s.pending := by
  unfold shutAll
  (repeat' split) <;> simp

@[simp] theorem fatalFault_pending (s : State) :
    (fatalFault s).pending = s.pending := by
  unfold fatalFault
  (repeat' split) <;> simp [bootFails_frame, dieHalt_frame, enterWarn_frame]

@[simp] theorem noteVolume_pending (n : Fin 16) (vol : BitVec 32) (s : State) :
    (noteVolume n vol s).2.pending = s.pending := by
  unfold noteVolume
  dsimp only
  split <;> simp

@[simp] theorem listExtents_pending (elems : List Element) (c : Cmd) (s : State) :
    (listExtents elems c s).pending = s.pending := by
  unfold listExtents
  dsimp only
  (repeat' split) <;> simp

@[simp] theorem readSegment_pending (eccBad : Option Nat) (elems : List Element) (c : Cmd) (s : State) :
    (readSegment eccBad elems c s).pending = s.pending := by
  unfold readSegment
  dsimp only
  (repeat' split) <;> simp

@[simp] theorem resumeRead_pending (eccBad : Option Nat) (c : Cmd) (s : State) :
    (resumeRead eccBad c s).pending = s.pending := by
  unfold resumeRead
  (repeat' split) <;> simp

@[simp] theorem loadIndex_pending (sa : State) :
    (loadIndex sa).pending = sa.pending := by
  unfold loadIndex
  split
  · rfl
  next m _ =>
    exact (foldl_pending indexCopy _ _ (by simp)).trans
      (foldl_pending (fun t e => readMeta m.cPerPage e t) _ sa (by simp))

@[simp] theorem reqDown_pending (next : Nat) (s : State) :
    (reqDown next s).1.pending = s.pending := by
  unfold reqDown
  (repeat' split) <;> simp

@[simp] theorem reqClearHalt_pending (s : State) :
    (reqClearHalt s).1.pending = s.pending := by
  unfold reqClearHalt
  (repeat' split) <;> simp

@[simp] theorem reqLife_pending (v : Nat) (s : State) :
    (reqLife v s).1.pending = s.pending := by
  unfold reqLife
  (repeat' split) <;> simp [reqFirmware_frame]

@[simp] theorem afterTimeout_pending (i : Island) (s : State) :
    (afterTimeout i s).pending = s.pending := by
  unfold afterTimeout
  (repeat' split) <;> simp [restartByBoot_frame]

@[simp] theorem timeoutWrite_pending (p : Session) (index sub : Nat) (data : List Byte) (i : Island) (s : State) :
    (timeoutWrite p index sub data i s).1.pending = s.pending := by
  unfold timeoutWrite
  (repeat' split) <;> simp

@[simp] theorem noFirmware_pending (s : State) :
    (noFirmware s).pending = s.pending := by
  unfold noFirmware
  (repeat' split) <;> simp

@[simp] theorem firmwareLoaded_pending (aOk bOk : Bool) (aVersion bVersion : BitVec 32) (aReads bReads : Nat) (s : State) :
    (firmwareLoaded aOk bOk aVersion bVersion aReads bReads s).pending = s.pending := by
  unfold firmwareLoaded
  (repeat' split) <;> simp

@[simp] theorem flashAll_pending (d : Fin 16) (os : List FlashOp) (s : State) :
    (flashAll d os s).pending = s.pending := foldl_keeps State.pending _ (by simp) os s

@[simp] theorem setUpDie_pending (d : Fin 16) (interface rate : Nat) (s : State) :
    (setUpDie d interface rate s).pending = s.pending := by
  unfold setUpDie
  exact flashAll_pending _ _ _

@[simp] theorem probeDie_pending (interface rate : Nat) (d : Fin 16) (p : DieProbe) (s : State) :
    (probeDie interface rate d p s).pending = s.pending := by
  unfold probeDie
  split <;> simp

@[simp] theorem findImage_pending (s : State) :
    (findImage s).pending = s.pending := by
  unfold findImage
  (repeat' split) <;> simp

@[simp] theorem flashFound_pending (dies : List DieProbe) (interface rate : Nat) (downgraded : Bool) (badCopies : Nat) (s : State) :
    (flashFound dies interface rate downgraded badCopies s).pending = s.pending := by
  unfold flashFound
  dsimp only
  (repeat' split) <;> simp

@[simp] theorem bootDone_pending (s : State) :
    (bootDone s).pending = s.pending := by
  unfold bootDone
  dsimp only
  (repeat' split) <;> simp [restartDone_frame, freezeHolders_frame, stretchFree_frame, restartFaulted_frame]

@[simp] theorem configured_pending (ok : Bool) (s : State) :
    (configured ok s).pending = s.pending := by
  unfold configured
  dsimp only
  (repeat' split) <;> simp [defaultsOnly_frame, configureCold_frame, startMemoryRails_frame, followConfig_frame]

@[simp] theorem stepEnds_pending (r : BootReport) (s : State) :
    (stepEnds r s).pending = s.pending := by
  unfold stepEnds
  (repeat' split) <;> simp [startSupplies_frame, precisionStep_frame, memoryRailsUp_frame, dramTrained_frame]

@[simp] theorem stepOverruns_pending (s : State) :
    (stepOverruns s).pending = s.pending := by
  unfold stepOverruns
  (repeat' split) <;> simp [bootFails_frame]

@[simp] theorem interruptBoot_pending (s : State) :
    (interruptBoot s).pending = s.pending := by
  unfold interruptBoot
  (repeat' split) <;> simp

@[simp] theorem inputFails_pending (s : State) :
    (inputFails s).pending = s.pending := by
  unfold inputFails
  (repeat' split) <;> simp [enterWarn_frame]

@[simp] theorem powerReturns_pending (s : State) :
    (powerReturns s).pending = s.pending := by
  unfold powerReturns
  (repeat' split) <;> simp [chargeAgain_frame, resumeServe_frame]

@[simp] theorem rampFails_pending (kind : Nat) (r : Fin 12) (lag : Nat) (s : State) :
    (rampFails kind r lag s).pending = s.pending := by
  unfold rampFails
  (repeat' split) <;> simp [afterPull_frame, bootFails_frame, latchRail_frame, pullRail_frame, tremorFault_frame]

@[simp] theorem gateRampFails_pending (kind : Nat) (g : Fin 8) (lag : Nat) (s : State) :
    (gateRampFails kind g lag s).pending = s.pending := by
  unfold gateRampFails
  (repeat' split) <;> simp [sourceFails_frame]

@[simp] theorem railFatal_pending (s : State) :
    (railFatal s).pending = s.pending := by
  unfold railFatal
  (repeat' split) <;> simp

@[simp] theorem railTrips_pending (kind : Nat) (r : Fin 12) (mv : Nat) (s : State) :
    (railTrips kind r mv s).pending = s.pending := by
  unfold railTrips
  (repeat' split) <;> simp [afterPull_frame, latchRail_frame, memoryRailLost_frame, pullRail_frame]

@[simp] theorem notCompared_pending (r : Fin 12) (s : State) :
    (notCompared r s).pending = s.pending := by
  unfold notCompared
  (repeat' split) <;> simp

@[simp] theorem scanDie_pending (t : Int) (s : State) :
    (scanDie t s).pending = s.pending := by
  unfold scanDie
  (repeat' split) <;> simp

@[simp] theorem restAfterWalk_pending (c : DownCause) (s : State) :
    (restAfterWalk c s).pending = s.pending := by
  unfold restAfterWalk
  (repeat' split) <;> simp

@[simp] theorem enterIdleDown_pending (s : State) :
    (enterIdleDown s).pending = s.pending := by
  unfold enterIdleDown
  (repeat' split) <;> simp

@[simp] theorem advance_pending (s : State) :
    (advance s).pending = s.pending := by
  unfold advance
  (repeat' split) <;> simp [beginDown_frame, enterIdleUp_frame, enterUp_frame]

@[simp] theorem lineFault_pending (kind ev : Nat) (s : State) :
    (lineFault kind ev s).pending = s.pending := by
  unfold lineFault
  (repeat' split) <;> simp [bootFails_frame, tremorFault_frame]

@[simp] theorem startCoding_pending (n : Fin 16) (f : Frame) (qp : Nat) (s : State) :
    (startCoding n f qp s).pending = s.pending := by
  unfold startCoding
  dsimp only
  (repeat' split) <;> simp

end Sys2Proof.Machine
end

