-- ==== Sys2Proof/Laws/PerInstr.lean ====
section
/-! SUPPORT. What a well-formed command's operands satisfy, as arithmetic, and that the checks of WellFormed say exactly this: one lemma
per command. -/

namespace Sys2Proof.Laws.Ranges

/-- A mailbox request carries at most 256 bytes. -/
def bytesFit (p : Session) (n : Nat) : Prop := ∀ fn, p = .mailbox fn → n ≤ 256

/-- A list of elements that could be read has at most 256 of them. -/
def listFits (es : Option (List Element)) : Prop := ∀ l, es = some l → l.length ≤ 256

/-- A quantizer parameter is at most 51. -/
def codeFits (r : CodeResult) : Prop := ∀ f qp, r = .coded f qp → qp ≤ 51

/-- A flash report has sixteen dies and at most two bad copies of the key area. -/
def reportFits (r : BootReport) : Prop := ∀ dies a b c bad, r = .flash dies a b c bad → dies.length = 16 ∧ bad ≤ 2

theorem bytesFit_iff (p : Session) (n : Nat) : p.fits n = true ↔ bytesFit p n := by
  cases p <;> simp [Session.fits, bytesFit]

theorem listFits_iff (es : Option (List Element)) : elemsFit es = true ↔ listFits es := by
  cases es <;> simp [elemsFit, listFits]

theorem codeFits_iff (r : CodeResult) : r.fits = true ↔ codeFits r := by
  cases r <;> simp [CodeResult.fits, codeFits] <;> omega

theorem reportFits_iff (r : BootReport) : r.fits = true ↔ reportFits r := by
  cases r with
  | flash dies a b c bad =>
    simp only [BootReport.fits, reportFits, Bool.and_eq_true, beq_iff_eq, decide_eq_true_iff, BootReport.flash.injEq]
    exact ⟨fun h _ _ _ _ _ e => by rw [← e.1, ← e.2.2.2.2]; exact h, fun h => h dies a b c bad ⟨rfl, rfl, rfl, rfl, rfl⟩⟩
  | _ => simp [BootReport.fits, reportFits]

theorem linkFits_iff (speed width vfs : Nat) : linkFits speed width vfs = true ↔
    (1 ≤ speed ∧ speed ≤ 3) ∧ (width = 1 ∨ width = 2 ∨ width = 4) ∧ vfs ≤ 15 := by
  simp [linkFits, or_assoc, and_assoc]

theorem fillFits_and_iff (n : Nat) (r : CodeResult) : (fillFits n && r.fits) = true ↔ n ≤ 1000 ∧ codeFits r := by
  simp [fillFits, codeFits_iff]

/-- The ranges of a command's operands. -/
def InRange : Instr → Prop
  | .dictionaryWrite p _ _ data => bytesFit p data.length
  | .islandHandshakeTimeout p _ _ data => bytesFit p data.length
  | .bootStepComplete r => reportFits r
  | .mbxRead _ _ _ _ _ len => len.toNat ≤ 256
  | .mbxWrite _ _ _ _ _ data => data.length ≤ 256
  | .windowDataRead p _ len => bytesFit p len
  | .windowDataWrite p _ data => bytesFit p data.length
  | .linkUp speed width vfs => (1 ≤ speed ∧ speed ≤ 3) ∧ (width = 1 ∨ width = 2 ∨ width = 4) ∧ vfs ≤ 15
  | .commandFetch results => results.length ≤ 4
  | .put _ elems => listFits elems
  | .get _ elems _ => listFits elems
  | .list _ elems => listFits elems
  | .segmentRead _ elems _ => listFits elems
  | .channelConfigWrite p _ _ data => bytesFit p data.length
  | .longPacket _ _ _ data _ => data.length ≤ 65535
  | .pixelRowComplete _ ringFill r => ringFill ≤ 1000 ∧ codeFits r
  | .syntaxRingCleared ringFill => ringFill ≤ 1000
  | .clockLaneUp _ rate => 80 ≤ rate ∧ rate ≤ 1500
  | .islandRestart .. | .egPublication | .estimatorStale | .crystalFail | .wallClockWrite .. | .sample .. | .vkeepCollapse ..
  | .vkeepRise .. | .wake | .bootStepTimeout | .inputQualifyTimeout | .firmwareRestart .. | .coldRestart .. | .clearHalt ..
  | .sleepRequest .. | .watchdogExpiry | .trialConfirm | .restoreProgressUpdate | .restoreComplete | .onDemandFetchComplete ..
  | .encryptionWrite .. | .expertOpen .. | .expertClose .. | .expertIdleTimeout | .expertLockoutEnd | .expertCodeWrite ..
  | .configLockWrite .. | .storeAll .. | .storeCommunication .. | .storeApplication .. | .storeComplete ..
  | .restoreDefaultsAll .. | .nmtStart .. | .nmtStop .. | .nmtEnterPreOperational .. | .nmtResetNode ..
  | .nmtResetCommunication .. | .usdoRequest .. | .heartbeat | .tpdoTransmit .. | .mbxNextEntry .. | .windowOpenRead ..
  | .windowOpenWrite .. | .windowCommit .. | .windowCommitComplete .. | .windowAbort .. | .windowIdleTimeout ..
  | .functionLevelReset .. | .vfEnableClear | .linkDown | .hotReset | .busMasterEnable .. | .queueEnable .. | .queueDisable ..
  | .queueReadyFall .. | .sqTailDoorbell .. | .cqHeadDoorbell .. | .putApply .. | .clean .. | .drop .. | .fence ..
  | .fenceComplete .. | .completionPost .. | .irqAggTimer .. | .ebyteReset .. | .channelRemoved .. | .endOfCharge ..
  | .prechargeTimeout | .chargerOvercurrent .. | .chargerStuckOn .. | .overcharge .. | .channelClearFault ..
  | .chargeTargetReached .. | .cellImbalance | .inputSag | .sagCleared | .holdUpFault | .holdUpRecovered | .precisionReached
  | .endOfDischarge .. | .ocvRelaxed .. | .impedanceSample .. | .geyserDue .. | .geyserStart .. | .geyserRequestStart ..
  | .geyserRequestAbort .. | .channelReset .. | .snapshotHourly | .scanSlot .. | .railWarning .. | .railCleared ..
  | .railFaultTime .. | .rampLagTrip .. | .rampEnd .. | .rampTimeout .. | .railGood .. | .railGoodTimeout .. | .upStepDelay
  | .downStepEnd | .downStepTimeout | .enableGood | .enableTimeout | .railMask .. | .railSwitchOff .. | .railSwitchOn ..
  | .resetRelease .. | .resetPulse .. | .trimTargetWrite .. | .trimTargetReached .. | .keepStoreWrite | .tremorAdvance
  | .tremorRelease | .tremorLineFall | .tremorReset | .tremorDownRequest | .tremorSendDownRequest | .tremorSendReset
  | .tremorBootHold | .gatherWaiting | .tremorStepTimeout | .tremorWireFault | .inputFail | .supervisorLedOutage | .drainPoint
  | .warnWindowEnd | .drvactLow .. | .driveActiveStuck | .driveSettleEnd | .sinterDeadlineExpiry | .simmerTimerExpiry
  | .deadlineAckTimeout | .sinterCopyComplete .. | .manifestCommitted | .powerReturn | .keepTimeExpiry | .keepFloorReached
  | .programFail .. | .eraseFail .. | .dieCommandTimeout .. | .backgroundErase .. | .imageRelease | .releaseRequest ..
  | .dieRetire .. | .dieReturn .. | .probationBlockVerified .. | .sanitize .. | .sanitizeComplete | .frameStart ..
  | .frameEnd .. | .clockLaneLost .. | .recordingFrameEncoded .. | .exposureCommit .. | .exposureClear .. | .cciBurstComplete ..
  | .cciNack .. | .cciBusStuck .. | .cciDirectWrite .. | .cciDirectRead .. | .tickToleranceExpiry .. | .liveSliceWrite ..
  | .forceIdr .. | .segmentFlush .. | .decodeOpen .. | .decodeClose .. | .decodeEndOfInput .. | .decodePictureOutput ..
  | .eventVectorRaise .. | .eventAcknowledge .. | .clearLog .. | .emcyTransmit | .canErrorPassiveOrBusOff ..
  | .preSinterPageProgrammed | .backgroundRestoreRead .. | .cciDirectTransferDone .. => True

/-- The checks put on a command say that its operands are in range. -/
def Statement (i : Instr) : Prop := i.wf = true ↔ InRange i

theorem dictionaryWrite : ∀ p index sub data, Statement (.dictionaryWrite p index sub data) := by intros; exact bytesFit_iff _ _
theorem islandHandshakeTimeout : ∀ p index sub data, Statement (.islandHandshakeTimeout p index sub data) := by intros; exact bytesFit_iff _ _
theorem islandRestart : ∀ i, Statement (.islandRestart i) := by intros; exact iff_of_true rfl trivial
theorem egPublication : Statement .egPublication := iff_of_true rfl trivial
theorem estimatorStale : Statement .estimatorStale := iff_of_true rfl trivial
theorem crystalFail : Statement .crystalFail := iff_of_true rfl trivial
theorem wallClockWrite : ∀ p seconds fraction, Statement (.wallClockWrite p seconds fraction) := by intros; exact iff_of_true rfl trivial
theorem sample : ∀ c mv ma dt, Statement (.sample c mv ma dt) := by intros; exact iff_of_true rfl trivial
theorem vkeepCollapse : ∀ tornKeep tornStore, Statement (.vkeepCollapse tornKeep tornStore) := by intros; exact iff_of_true rfl trivial
theorem vkeepRise : ∀ wakeHigh, Statement (.vkeepRise wakeHigh) := by intros; exact iff_of_true rfl trivial
theorem wake : Statement .wake := iff_of_true rfl trivial
theorem bootStepComplete : ∀ r, Statement (.bootStepComplete r) := by intros; exact reportFits_iff _
theorem bootStepTimeout : Statement .bootStepTimeout := iff_of_true rfl trivial
theorem inputQualifyTimeout : Statement .inputQualifyTimeout := iff_of_true rfl trivial
theorem firmwareRestart : ∀ p, Statement (.firmwareRestart p) := by intros; exact iff_of_true rfl trivial
theorem coldRestart : ∀ p, Statement (.coldRestart p) := by intros; exact iff_of_true rfl trivial
theorem clearHalt : ∀ p, Statement (.clearHalt p) := by intros; exact iff_of_true rfl trivial
theorem sleepRequest : ∀ p, Statement (.sleepRequest p) := by intros; exact iff_of_true rfl trivial
theorem watchdogExpiry : Statement .watchdogExpiry := iff_of_true rfl trivial
theorem trialConfirm : Statement .trialConfirm := iff_of_true rfl trivial
theorem restoreProgressUpdate : Statement .restoreProgressUpdate := iff_of_true rfl trivial
theorem restoreComplete : Statement .restoreComplete := iff_of_true rfl trivial
theorem onDemandFetchComplete : ∀ id r eccBad, Statement (.onDemandFetchComplete id r eccBad) := by intros; exact iff_of_true rfl trivial
theorem encryptionWrite : ∀ p v, Statement (.encryptionWrite p v) := by intros; exact iff_of_true rfl trivial
theorem expertOpen : ∀ p code, Statement (.expertOpen p code) := by intros; exact iff_of_true rfl trivial
theorem expertClose : ∀ p, Statement (.expertClose p) := by intros; exact iff_of_true rfl trivial
theorem expertIdleTimeout : Statement .expertIdleTimeout := iff_of_true rfl trivial
theorem expertLockoutEnd : Statement .expertLockoutEnd := iff_of_true rfl trivial
theorem expertCodeWrite : ∀ p code, Statement (.expertCodeWrite p code) := by intros; exact iff_of_true rfl trivial
theorem configLockWrite : ∀ p v, Statement (.configLockWrite p v) := by intros; exact iff_of_true rfl trivial
theorem storeAll : ∀ p sig, Statement (.storeAll p sig) := by intros; exact iff_of_true rfl trivial
theorem storeCommunication : ∀ p sig, Statement (.storeCommunication p sig) := by intros; exact iff_of_true rfl trivial
theorem storeApplication : ∀ p sig, Statement (.storeApplication p sig) := by intros; exact iff_of_true rfl trivial
theorem storeComplete : ∀ ok, Statement (.storeComplete ok) := by intros; exact iff_of_true rfl trivial
theorem restoreDefaultsAll : ∀ p sig, Statement (.restoreDefaultsAll p sig) := by intros; exact iff_of_true rfl trivial
theorem nmtStart : ∀ node, Statement (.nmtStart node) := by intros; exact iff_of_true rfl trivial
theorem nmtStop : ∀ node, Statement (.nmtStop node) := by intros; exact iff_of_true rfl trivial
theorem nmtEnterPreOperational : ∀ node, Statement (.nmtEnterPreOperational node) := by intros; exact iff_of_true rfl trivial
theorem nmtResetNode : ∀ node, Statement (.nmtResetNode node) := by intros; exact iff_of_true rfl trivial
theorem nmtResetCommunication : ∀ node, Statement (.nmtResetCommunication node) := by intros; exact iff_of_true rfl trivial
theorem usdoRequest : ∀ client req, Statement (.usdoRequest client req) := by intros; exact iff_of_true rfl trivial
theorem heartbeat : Statement .heartbeat := iff_of_true rfl trivial
theorem tpdoTransmit : ∀ k, Statement (.tpdoTransmit k) := by intros; exact iff_of_true rfl trivial
theorem mbxRead : ∀ fn irqEn tag index sub len, Statement (.mbxRead fn irqEn tag index sub len) := by intros; exact decide_eq_true_iff
theorem mbxWrite : ∀ fn irqEn tag index sub data, Statement (.mbxWrite fn irqEn tag index sub data) := by intros; exact decide_eq_true_iff
theorem mbxNextEntry : ∀ fn irqEn tag index sub, Statement (.mbxNextEntry fn irqEn tag index sub) := by intros; exact iff_of_true rfl trivial
theorem windowOpenRead : ∀ p w, Statement (.windowOpenRead p w) := by intros; exact iff_of_true rfl trivial
theorem windowOpenWrite : ∀ p w, Statement (.windowOpenWrite p w) := by intros; exact iff_of_true rfl trivial
theorem windowDataRead : ∀ p w len, Statement (.windowDataRead p w len) := by intros; exact bytesFit_iff _ _
theorem windowDataWrite : ∀ p w data, Statement (.windowDataWrite p w data) := by intros; exact bytesFit_iff _ _
theorem windowCommit : ∀ p w, Statement (.windowCommit p w) := by intros; exact iff_of_true rfl trivial
theorem windowCommitComplete : ∀ w r, Statement (.windowCommitComplete w r) := by intros; exact iff_of_true rfl trivial
theorem windowAbort : ∀ p w, Statement (.windowAbort p w) := by intros; exact iff_of_true rfl trivial
theorem windowIdleTimeout : ∀ w, Statement (.windowIdleTimeout w) := by intros; exact iff_of_true rfl trivial
theorem functionLevelReset : ∀ fn, Statement (.functionLevelReset fn) := by intros; exact iff_of_true rfl trivial
theorem vfEnableClear : Statement .vfEnableClear := iff_of_true rfl trivial
theorem linkUp : ∀ speed width vfs, Statement (.linkUp speed width vfs) := by intros; exact linkFits_iff _ _ _
theorem linkDown : Statement .linkDown := iff_of_true rfl trivial
theorem hotReset : Statement .hotReset := iff_of_true rfl trivial
theorem busMasterEnable : ∀ fn mps mrrs, Statement (.busMasterEnable fn mps mrrs) := by intros; exact iff_of_true rfl trivial
theorem queueEnable : ∀ fn qp regs, Statement (.queueEnable fn qp regs) := by intros; exact iff_of_true rfl trivial
theorem queueDisable : ∀ fn qp, Statement (.queueDisable fn qp) := by intros; exact iff_of_true rfl trivial
theorem queueReadyFall : ∀ fn qp, Statement (.queueReadyFall fn qp) := by intros; exact iff_of_true rfl trivial
theorem sqTailDoorbell : ∀ fn qp value, Statement (.sqTailDoorbell fn qp value) := by intros; exact iff_of_true rfl trivial
theorem cqHeadDoorbell : ∀ fn qp value, Statement (.cqHeadDoorbell fn qp value) := by intros; exact iff_of_true rfl trivial
theorem commandFetch : ∀ results, Statement (.commandFetch results) := by intros; exact decide_eq_true_iff
theorem put : ∀ id elems, Statement (.put id elems) := by intros; exact listFits_iff _
theorem putApply : ∀ id r, Statement (.putApply id r) := by intros; exact iff_of_true rfl trivial
theorem get : ∀ id elems eccBad, Statement (.get id elems eccBad) := by intros; exact listFits_iff _
theorem clean : ∀ id, Statement (.clean id) := by intros; exact iff_of_true rfl trivial
theorem drop : ∀ id, Statement (.drop id) := by intros; exact iff_of_true rfl trivial
theorem list : ∀ id elems, Statement (.list id elems) := by intros; exact listFits_iff _
theorem fence : ∀ id, Statement (.fence id) := by intros; exact iff_of_true rfl trivial
theorem fenceComplete : ∀ id, Statement (.fenceComplete id) := by intros; exact iff_of_true rfl trivial
theorem segmentRead : ∀ id elems eccBad, Statement (.segmentRead id elems eccBad) := by intros; exact listFits_iff _
theorem completionPost : ∀ fn qp, Statement (.completionPost fn qp) := by intros; exact iff_of_true rfl trivial
theorem irqAggTimer : ∀ fn qp, Statement (.irqAggTimer fn qp) := by intros; exact iff_of_true rfl trivial
theorem ebyteReset : ∀ p, Statement (.ebyteReset p) := by intros; exact iff_of_true rfl trivial
theorem channelRemoved : ∀ c, Statement (.channelRemoved c) := by intros; exact iff_of_true rfl trivial
theorem channelConfigWrite : ∀ p index sub data, Statement (.channelConfigWrite p index sub data) := by intros; exact bytesFit_iff _ _
theorem endOfCharge : ∀ c, Statement (.endOfCharge c) := by intros; exact iff_of_true rfl trivial
theorem prechargeTimeout : Statement .prechargeTimeout := iff_of_true rfl trivial
theorem chargerOvercurrent : ∀ c, Statement (.chargerOvercurrent c) := by intros; exact iff_of_true rfl trivial
theorem chargerStuckOn : ∀ c, Statement (.chargerStuckOn c) := by intros; exact iff_of_true rfl trivial
theorem overcharge : ∀ c, Statement (.overcharge c) := by intros; exact iff_of_true rfl trivial
theorem channelClearFault : ∀ p c, Statement (.channelClearFault p c) := by intros; exact iff_of_true rfl trivial
theorem chargeTargetReached : ∀ c, Statement (.chargeTargetReached c) := by intros; exact iff_of_true rfl trivial
theorem cellImbalance : Statement .cellImbalance := iff_of_true rfl trivial
theorem inputSag : Statement .inputSag := iff_of_true rfl trivial
theorem sagCleared : Statement .sagCleared := iff_of_true rfl trivial
theorem holdUpFault : Statement .holdUpFault := iff_of_true rfl trivial
theorem holdUpRecovered : Statement .holdUpRecovered := iff_of_true rfl trivial
theorem precisionReached : Statement .precisionReached := iff_of_true rfl trivial
theorem endOfDischarge : ∀ c, Statement (.endOfDischarge c) := by intros; exact iff_of_true rfl trivial
theorem ocvRelaxed : ∀ c, Statement (.ocvRelaxed c) := by intros; exact iff_of_true rfl trivial
theorem impedanceSample : ∀ c dmv dma, Statement (.impedanceSample c dmv dma) := by intros; exact iff_of_true rfl trivial
theorem geyserDue : ∀ c, Statement (.geyserDue c) := by intros; exact iff_of_true rfl trivial
theorem geyserStart : ∀ c, Statement (.geyserStart c) := by intros; exact iff_of_true rfl trivial
theorem geyserRequestStart : ∀ p c, Statement (.geyserRequestStart p c) := by intros; exact iff_of_true rfl trivial
theorem geyserRequestAbort : ∀ p c, Statement (.geyserRequestAbort p c) := by intros; exact iff_of_true rfl trivial
theorem channelReset : ∀ p c, Statement (.channelReset p c) := by intros; exact iff_of_true rfl trivial
theorem snapshotHourly : Statement .snapshotHourly := iff_of_true rfl trivial
theorem scanSlot : ∀ reading, Statement (.scanSlot reading) := by intros; exact iff_of_true rfl trivial
theorem railWarning : ∀ r, Statement (.railWarning r) := by intros; exact iff_of_true rfl trivial
theorem railCleared : ∀ r, Statement (.railCleared r) := by intros; exact iff_of_true rfl trivial
theorem railFaultTime : ∀ r, Statement (.railFaultTime r) := by intros; exact iff_of_true rfl trivial
theorem rampLagTrip : ∀ g lagMv, Statement (.rampLagTrip g lagMv) := by intros; exact iff_of_true rfl trivial
theorem rampEnd : ∀ g lagMv, Statement (.rampEnd g lagMv) := by intros; exact iff_of_true rfl trivial
theorem rampTimeout : ∀ g lagMv, Statement (.rampTimeout g lagMv) := by intros; exact iff_of_true rfl trivial
theorem railGood : ∀ r, Statement (.railGood r) := by intros; exact iff_of_true rfl trivial
theorem railGoodTimeout : ∀ r, Statement (.railGoodTimeout r) := by intros; exact iff_of_true rfl trivial
theorem upStepDelay : Statement .upStepDelay := iff_of_true rfl trivial
theorem downStepEnd : Statement .downStepEnd := iff_of_true rfl trivial
theorem downStepTimeout : Statement .downStepTimeout := iff_of_true rfl trivial
theorem enableGood : Statement .enableGood := iff_of_true rfl trivial
theorem enableTimeout : Statement .enableTimeout := iff_of_true rfl trivial
theorem railMask : ∀ p r v, Statement (.railMask p r v) := by intros; exact iff_of_true rfl trivial
theorem railSwitchOff : ∀ p r, Statement (.railSwitchOff p r) := by intros; exact iff_of_true rfl trivial
theorem railSwitchOn : ∀ p r, Statement (.railSwitchOn p r) := by intros; exact iff_of_true rfl trivial
theorem resetRelease : ∀ k, Statement (.resetRelease k) := by intros; exact iff_of_true rfl trivial
theorem resetPulse : ∀ p k, Statement (.resetPulse p k) := by intros; exact iff_of_true rfl trivial
theorem trimTargetWrite : ∀ p t v, Statement (.trimTargetWrite p t v) := by intros; exact iff_of_true rfl trivial
theorem trimTargetReached : ∀ t, Statement (.trimTargetReached t) := by intros; exact iff_of_true rfl trivial
theorem keepStoreWrite : Statement .keepStoreWrite := iff_of_true rfl trivial
theorem tremorAdvance : Statement .tremorAdvance := iff_of_true rfl trivial
theorem tremorRelease : Statement .tremorRelease := iff_of_true rfl trivial
theorem tremorLineFall : Statement .tremorLineFall := iff_of_true rfl trivial
theorem tremorReset : Statement .tremorReset := iff_of_true rfl trivial
theorem tremorDownRequest : Statement .tremorDownRequest := iff_of_true rfl trivial
theorem tremorSendDownRequest : Statement .tremorSendDownRequest := iff_of_true rfl trivial
theorem tremorSendReset : Statement .tremorSendReset := iff_of_true rfl trivial
theorem tremorBootHold : Statement .tremorBootHold := iff_of_true rfl trivial
theorem gatherWaiting : Statement .gatherWaiting := iff_of_true rfl trivial
theorem tremorStepTimeout : Statement .tremorStepTimeout := iff_of_true rfl trivial
theorem tremorWireFault : Statement .tremorWireFault := iff_of_true rfl trivial
theorem inputFail : Statement .inputFail := iff_of_true rfl trivial
theorem supervisorLedOutage : Statement .supervisorLedOutage := iff_of_true rfl trivial
theorem drainPoint : Statement .drainPoint := iff_of_true rfl trivial
theorem warnWindowEnd : Statement .warnWindowEnd := iff_of_true rfl trivial
theorem drvactLow : ∀ k, Statement (.drvactLow k) := by intros; exact iff_of_true rfl trivial
theorem driveActiveStuck : Statement .driveActiveStuck := iff_of_true rfl trivial
theorem driveSettleEnd : Statement .driveSettleEnd := iff_of_true rfl trivial
theorem sinterDeadlineExpiry : Statement .sinterDeadlineExpiry := iff_of_true rfl trivial
theorem simmerTimerExpiry : Statement .simmerTimerExpiry := iff_of_true rfl trivial
theorem deadlineAckTimeout : Statement .deadlineAckTimeout := iff_of_true rfl trivial
theorem sinterCopyComplete : ∀ energyMj durationMs, Statement (.sinterCopyComplete energyMj durationMs) := by intros; exact iff_of_true rfl trivial
theorem manifestCommitted : Statement .manifestCommitted := iff_of_true rfl trivial
theorem powerReturn : Statement .powerReturn := iff_of_true rfl trivial
theorem keepTimeExpiry : Statement .keepTimeExpiry := iff_of_true rfl trivial
theorem keepFloorReached : Statement .keepFloorReached := iff_of_true rfl trivial
theorem programFail : ∀ die, Statement (.programFail die) := by intros; exact iff_of_true rfl trivial
theorem eraseFail : ∀ die, Statement (.eraseFail die) := by intros; exact iff_of_true rfl trivial
theorem dieCommandTimeout : ∀ die, Statement (.dieCommandTimeout die) := by intros; exact iff_of_true rfl trivial
theorem backgroundErase : ∀ die, Statement (.backgroundErase die) := by intros; exact iff_of_true rfl trivial
theorem imageRelease : Statement .imageRelease := iff_of_true rfl trivial
theorem releaseRequest : ∀ p, Statement (.releaseRequest p) := by intros; exact iff_of_true rfl trivial
theorem dieRetire : ∀ p die, Statement (.dieRetire p die) := by intros; exact iff_of_true rfl trivial
theorem dieReturn : ∀ p die answers, Statement (.dieReturn p die answers) := by intros; exact iff_of_true rfl trivial
theorem probationBlockVerified : ∀ die ok, Statement (.probationBlockVerified die ok) := by intros; exact iff_of_true rfl trivial
theorem sanitize : ∀ p v, Statement (.sanitize p v) := by intros; exact iff_of_true rfl trivial
theorem sanitizeComplete : Statement .sanitizeComplete := iff_of_true rfl trivial
theorem frameStart : ∀ port vc, Statement (.frameStart port vc) := by intros; exact iff_of_true rfl trivial
theorem longPacket : ∀ port vc dataType data check, Statement (.longPacket port vc dataType data check) := by intros; exact decide_eq_true_iff
theorem frameEnd : ∀ port vc, Statement (.frameEnd port vc) := by intros; exact iff_of_true rfl trivial
theorem clockLaneLost : ∀ port, Statement (.clockLaneLost port) := by intros; exact iff_of_true rfl trivial
theorem clockLaneUp : ∀ port rate, Statement (.clockLaneUp port rate) := by intros; exact decide_eq_true_iff
theorem exposureCommit : ∀ p n, Statement (.exposureCommit p n) := by intros; exact iff_of_true rfl trivial
theorem exposureClear : ∀ p n, Statement (.exposureClear p n) := by intros; exact iff_of_true rfl trivial
theorem cciBurstComplete : ∀ port, Statement (.cciBurstComplete port) := by intros; exact iff_of_true rfl trivial
theorem cciNack : ∀ port, Statement (.cciNack port) := by intros; exact iff_of_true rfl trivial
theorem cciBusStuck : ∀ port, Statement (.cciBusStuck port) := by intros; exact iff_of_true rfl trivial
theorem cciDirectWrite : ∀ p n, Statement (.cciDirectWrite p n) := by intros; exact iff_of_true rfl trivial
theorem cciDirectRead : ∀ p n, Statement (.cciDirectRead p n) := by intros; exact iff_of_true rfl trivial
theorem tickToleranceExpiry : ∀ n, Statement (.tickToleranceExpiry n) := by intros; exact iff_of_true rfl trivial
theorem pixelRowComplete : ∀ n ringFill r, Statement (.pixelRowComplete n ringFill r) := by intros; exact fillFits_and_iff _ _
theorem syntaxRingCleared : ∀ ringFill, Statement (.syntaxRingCleared ringFill) := by intros; exact decide_eq_true_iff
theorem liveSliceWrite : ∀ n nal consumer, Statement (.liveSliceWrite n nal consumer) := by intros; exact iff_of_true rfl trivial
theorem forceIdr : ∀ p n, Statement (.forceIdr p n) := by intros; exact iff_of_true rfl trivial
theorem segmentFlush : ∀ n, Statement (.segmentFlush n) := by intros; exact iff_of_true rfl trivial
theorem decodeOpen : ∀ p d, Statement (.decodeOpen p d) := by intros; exact iff_of_true rfl trivial
theorem decodeClose : ∀ p d, Statement (.decodeClose p d) := by intros; exact iff_of_true rfl trivial
theorem decodeEndOfInput : ∀ p d, Statement (.decodeEndOfInput p d) := by intros; exact iff_of_true rfl trivial
theorem decodePictureOutput : ∀ d r, Statement (.decodePictureOutput d r) := by intros; exact iff_of_true rfl trivial
theorem eventVectorRaise : ∀ fn, Statement (.eventVectorRaise fn) := by intros; exact iff_of_true rfl trivial
theorem eventAcknowledge : ∀ p bank bits, Statement (.eventAcknowledge p bank bits) := by intros; exact iff_of_true rfl trivial
theorem clearLog : ∀ p, Statement (.clearLog p) := by intros; exact iff_of_true rfl trivial
theorem emcyTransmit : Statement .emcyTransmit := iff_of_true rfl trivial
theorem canErrorPassiveOrBusOff : ∀ e, Statement (.canErrorPassiveOrBusOff e) := by intros; exact iff_of_true rfl trivial
theorem preSinterPageProgrammed : Statement .preSinterPageProgrammed := iff_of_true rfl trivial
theorem backgroundRestoreRead : ∀ r, Statement (.backgroundRestoreRead r) := by intros; exact iff_of_true rfl trivial
theorem recordingFrameEncoded : ∀ n nal, Statement (.recordingFrameEncoded n nal) := by intros; exact iff_of_true rfl trivial
theorem cciDirectTransferDone : ∀ n e, Statement (.cciDirectTransferDone n e) := by intros; exact iff_of_true rfl trivial

end Sys2Proof.Laws.Ranges
end

