-- ==== Sys2Proof/Laws/Requests.lean ====
section
/-! SUPPORT. A session's write that is accepted: how it arrives, that the value is applied, and how it is answered. -/

namespace Sys2Proof.Machine

/-- A state in which a request has arrived: only mailboxes and the holder's idle mark differ. -/
def arrivedAs (s : State) (x : Nat) (m : Vector Mbx 16) : State :=
  { s with mode := { s.mode with expertLast := x }, mbx := m }

/-- Answer a session over its transport. -/
def answerTo (p : Session) (tag : Byte) (index sub : Nat) (a : Answer) (data : List Byte) (s : State) : State :=
  match p with
  | .usdo c => answerUsdo c index sub a data s
  | .mailbox fn => answerMbx fn tag a data s

/-- The tag that an answer of a session carries. -/
def tagOf (p : Session) (s : State) : Byte :=
  match p with
  | .usdo _ => 0
  | .mailbox fn => (s.mbx[fn]).tag

/-- The end of a write: its refusal is counted, and it is answered. -/
def replyTo (p : Session) (tag : Byte) (index sub : Nat) (r : State × Answer) : State :=
  answerTo p tag index sub r.2 [] (noteAnswer p r.2 r.1)

theorem passes_arrived {p : Session} {index sub : Nat} {data : List Byte} {s : State} (x : Nat) (m : Vector Mbx 16)
    (h : Passes p index sub data s) : Passes p index sub data (arrivedAs s x m) := h

theorem noteRequest_arrived (p : Session) (s : State) (x : Nat) (m : Vector Mbx 16) :
    ∃ y, noteRequest p (arrivedAs s x m) = arrivedAs s y m := by
  unfold noteRequest
  split
  · exact ⟨s.time.now, rfl⟩
  · exact ⟨x, rfl⟩

/-- The value of a write that passes the checks, and is no write of a window's Data, is applied. -/
theorem writeEntry_passes {p : Session} {a : Bool} {index sub : Nat} {data : List Byte} {s : State}
    (h : Passes p index sub data s) (hw : winOf index = none ∨ sub ≠ 4) :
    writeEntry p a index sub data s = applyValue p a index sub (ofLe data) s := by
  obtain ⟨r, found, writable, keyed, inRom, served, owned, unlocked, sized, ranged, -⟩ := h
  have value : writeValue p a r index sub data s = applyValue p a index sub (ofLe data) s := by
    simp [writeValue, sized, ranged]
  have noExpert : ¬(r.level = .expert ∧ holdsExpert p s = false) := by rintro ⟨h, k⟩; simp [keyed h] at k
  have noRom : ¬(romOnly s = true ∧ romServes index = false) := by rintro ⟨h, k⟩; simp [inRom h] at k
  have noLock : ¬(r.acc.locked = true ∧ s.mode.lock = false) := by rintro ⟨h, k⟩; simp [unlocked h] at k
  unfold writeEntry
  simp only [found, writable, noExpert, noRom, served, owned, noLock, value, Bool.true_eq_false, Bool.false_eq_true, if_false]
  cases w : winOf index with
  | none => rfl
  | some i => exact if_neg (hw.resolve_left (by simp [w]))

/-- An accepted write arrives, is applied, and is answered. -/
theorem sessionWrite_accepts {p : Session} {index : BitVec 16} {sub : BitVec 8} {data : List Byte} {s : State}
    (h : Accepts p index.toNat sub.toNat data s) (hw : winOf index.toNat = none ∨ sub.toNat ≠ 4) :
    ∃ x m, sessionWrite p index sub data s =
      replyTo p (tagOf p s) index.toNat sub.toNat
        (applyValue p (dieAnswers s index.toNat) index.toNat sub.toNat (ofLe data) (arrivedAs s x m)) := by
  obtain ⟨hr, hp⟩ := h
  cases p with
  | usdo c =>
    obtain ⟨y, hy⟩ := noteRequest_arrived (.usdo c) s s.mode.expertLast s.mbx
    refine ⟨y, s.mbx, ?_⟩
    have hs : arrivedAs s s.mode.expertLast s.mbx = s := rfl
    rw [hs] at hy
    unfold sessionWrite fromSession usdoServe dictWrite dictWriteA noData replyTo answerTo
    simp only [hr.1, hr.2, Bool.true_eq_false, Bool.false_eq_true, if_false, hy,
      writeEntry_passes (passes_arrived y s.mbx hp) hw]
  | mailbox fn =>
    unfold sessionWrite fromSession mbxServe dictWrite dictWriteA noData replyTo answerTo tagOf
    simp only [hr.1, hr.2.1, hr.2.2, Bool.true_eq_false, Bool.false_eq_true, or_self, if_false]
    generalize hm : (State.modMbx s fn _) = t
    have ht : t = arrivedAs s s.mode.expertLast t.mbx := by rw [← hm]; rfl
    obtain ⟨y, hy⟩ := noteRequest_arrived (.mailbox fn) s s.mode.expertLast t.mbx
    rw [← ht] at hy
    refine ⟨y, t.mbx, ?_⟩
    have hd : dieAnswers t index.toNat = dieAnswers s index.toNat := by rw [ht]; rfl
    rw [hd, hy, writeEntry_passes (passes_arrived y t.mbx hp) hw]

/-- An entry that has an action takes it when its island does. -/
theorem applyValue_action {p : Session} {a : Bool} {index sub v : Nat} {s : State} {r : State × Answer} (hw : winOf index = none)
    (ht : takesCommand s index sub = true) (ha : actionOf p a index sub v s = some r) :
    applyValue p a index sub v s = r := by
  unfold applyValue
  rw [hw, ha]
  exact if_pos ht

/-- An entry without an action holds its value. -/
theorem applyValue_plain {p : Session} {a : Bool} {index sub v : Nat} {s : State} (hw : winOf index = none)
    (ha : actionOf p a index sub v s = none) : applyValue p a index sub v s = writePlain p index sub v s := by
  unfold applyValue
  rw [hw, ha]

/-- What an answer changes beside the refusal counters: the mailbox, what is sent, and the vectors that wait. -/
def withReply (s t : State) : State :=
  { s with mbx := t.mbx, out := t.out, port := { s.port with fns := withPba s.port.fns t.port.fns } }

theorem withPba_self (a : Vector Func 16) : withPba a a = a := by
  ext i h; simp [withPba]

/-- Raising a vector sends it, or leaves it waiting. -/
theorem signal_eq (fn : Fin 16) (v : Nat) (s : State) : signal fn v s = withReply s (signal fn v s) := by
  unfold signal withReply
  split
  · simp [State.send, withPba_self]
  · have : (vmod s.port.fns fn fun f => { f with pba := f.pba ||| BitVec.ofNat 32 (2 ^ v) }) = withPba s.port.fns
        (vmod s.port.fns fn fun f => { f with pba := f.pba ||| BitVec.ofNat 32 (2 ^ v) }) := by
      ext i h
      simp only [withPba, vmapIdx_getElem, vmod_getElem, Fin.getElem_fin]
      split <;> rfl
    simp only [State.modFn]
    rw [← this]

/-- The registers of a mailbox once its request has ended. -/
theorem endMbx_eq (fn : Fin 16) (tag : Byte) (result abort : Nat) (data : List Byte) (s : State) :
    endMbx fn tag result abort data s = withReply s (endMbx fn tag result abort data s) ∧
    (endMbx fn tag result abort data s).mbx = (s.modMbx fn (fun m => { m with
      go := false, done := true, result := BitVec.ofNat 3 result, statusTag := tag, statusLen := BitVec.ofNat 9 data.length
      abort := if result = 1 then BitVec.ofNat 32 abort else m.abort
      data := if data.isEmpty then m.data else data ++ m.data.drop data.length })).mbx := by
  have bell : ∀ (b : Bool) (t : State), (if b = true then signal fn 0 t else t) =
      withReply t (if b = true then signal fn 0 t else t) ∧ (if b = true then signal fn 0 t else t).mbx = t.mbx := by
    intro b t
    cases b
    · simp [withReply, withPba_self]
    · refine ⟨signal_eq fn 0 t, ?_⟩
      simp only [if_true, signal]
      split <;> rfl
  unfold endMbx
  exact ⟨(bell _ _).1, (bell _ _).2⟩

/-- What an answer of success changes. -/
theorem replyTo_ok (p : Session) (tag : Byte) (index sub : Nat) (t : State) :
    replyTo p tag index sub (t, .ok) = withReply t (replyTo p tag index sub (t, .ok)) := by
  cases p with
  | usdo c => simp [replyTo, answerTo, noteAnswer, answerUsdo, withReply, withPba_self, State.send]
  | mailbox fn => exact (endMbx_eq fn tag 0 0 [] t).1

theorem replyTo_answered (p : Session) (tag : Byte) (index sub : Nat) (t : State) :
    Answered p index sub 0 [] (replyTo p tag index sub (t, .ok)) := by
  cases p with
  | usdo c => exact ⟨t.out, rfl⟩
  | mailbox fn =>
    have h := (endMbx_eq fn tag 0 0 [] t).2
    simp only [Answered, replyTo, answerTo, noteAnswer, answerMbx, h, State.modMbx, Fin.getElem_fin, vmod_getElem]
    simp

/-- What a refusal changes: what an answer changes, and the refusal counters. -/
theorem replyTo_abort (p : Session) (tag : Byte) (index sub c : Nat) (t : State) :
    ∃ a b, replyTo p tag index sub (t, .abort c) =
      { withReply t (replyTo p tag index sub (t, .abort c)) with dict := { t.dict with refusedMbx := a, refusedUsdo := b } } := by
  cases p with
  | usdo k =>
    refine ⟨t.dict.refusedMbx, (countRefusal (.usdo k) t).dict.refusedUsdo, ?_⟩
    simp [countRefusal, replyTo, answerTo, noteAnswer, answerUsdo, withReply, withPba_self, State.send]
  | mailbox fn =>
    refine ⟨(countRefusal (.mailbox fn) t).dict.refusedMbx, t.dict.refusedUsdo, ?_⟩
    exact (endMbx_eq fn tag 1 c [] _).1

theorem replyTo_refused (p : Session) (tag : Byte) (index sub c : Nat) (t : State) (hc : c ≠ 0) :
    Answered p index sub c [] (replyTo p tag index sub (t, .abort c)) := by
  cases p with
  | usdo k => exact ⟨t.out, rfl⟩
  | mailbox fn =>
    have h := fun u => (endMbx_eq fn tag 1 c [] u).2
    simp only [Answered, replyTo, answerTo, noteAnswer, answerMbx, h, State.modMbx, Fin.getElem_fin, vmod_getElem]
    simp [hc]

/-- CONTROL runs when a request is taken. -/
theorem reaches_control {p : Session} {s : State} (h : Reaches p s) : controlRuns s = true := by
  cases p with
  | usdo c =>
    have h1 := h.1
    unfold usdoServed canUp at h1
    simp only [Bool.and_eq_true] at h1
    exact h1.1.1.1
  | mailbox fn =>
    have h1 := h.2.2
    unfold mbxBusy at h1
    simp only [Bool.or_eq_false_iff, Bool.not_eq_false'] at h1
    exact h1.1.1

/-- An accepted write of an entry that has an action is that action, answered. -/
theorem sessionWrite_action {p : Session} {index : BitVec 16} {sub : BitVec 8} {data : List Byte} {s : State}
    {f : State → State × Answer} (h : Commands p index.toNat sub.toNat data s) (hw : winOf index.toNat = none)
    (ha : ∀ a u, actionOf p a index.toNat sub.toNat (ofLe data) u = some (f u)) :
    ∃ x m, sessionWrite p index sub data s = replyTo p (tagOf p s) index.toNat sub.toNat (f (arrivedAs s x m)) := by
  obtain ⟨⟨reached, passed⟩, taken⟩ := h
  obtain ⟨x, m, e⟩ := sessionWrite_accepts ⟨reached, passed⟩ (.inl hw)
  refine ⟨x, m, ?_⟩
  have here : applyValue p (dieAnswers s index.toNat) index.toNat sub.toNat (ofLe data) (arrivedAs s x m) = f (arrivedAs s x m) :=
    applyValue_action hw taken (ha _ _)
  rw [e, here]

end Sys2Proof.Machine
end

