-- ==== Sys2Proof/Tests/Slice0.lean ====
section
/-! SUPPORT. Tests: the checks of WellFormed on terms that they refuse, and for every statement with hypotheses a state and operands
that meet those of each of its clauses. The states are small changes of `served`; none of them is an expected result. -/

open Sys2Proof Sys2Proof.Machine

namespace Sys2Proof.Tests

set_option Elab.async false

/-- A queue pair of 16 entries, enabled and ready. -/
def pair16 : Pair := { Pair.reset with sqBase := 0x1000, cqBase := 0x2000, sqSize := 15, cqSize := 15, enable := true, ready := true }

/-- SERVE with every island running, the log started, the configuration lock open, the link up, every function enabled, and eight slots. -/
def served : State :=
  { State.reset with
    life := { State.reset.life with dev := .serve, dramLost := false }
    isl := { State.reset.isl with run := Vector.replicate 11 .running }
    mode := { State.reset.mode with lock := true }
    can := { State.reset.can with nmt := .operational }
    ev := { State.reset.ev with started := true }
    hold := { State.reset.hold with failed := false }
    port := { State.reset.port with
      linkState := 2, ready := true, fns := Vector.replicate 16 { Func.reset with bme := true, enabled := true, pairs := Vector.replicate 4 pair16 } }
    cache := { State.reset.cache with usable := 8 }
    adm := { State.reset.adm with ceiling := 8 } }

/-- The same at a moment of the clock. -/
def at_ (t : Nat) (s : State) : State := { s with time := { s.time with now := t, timeBase := t } }

/-- The same in another device state. -/
def inState (d : DevState) (s : State) : State := { s with life := { s.life with dev := d } }

/-- The same in a cold BOOT at a step. -/
def inBoot (n : Nat) (s : State) : State := { s with life := { s.life with dev := .boot, boot := .cold, bootStep := n } }

/-- The same with USDO client 1 holding the expert session. -/
def expert : State := { served with mode := { served.mode with expert := some (.usdo 1) } }

/-- Rail 0 of 1,000 mV, driven by gate 0, at up position 1. -/
def railed : State :=
  (((served.setHeld 0x2610 1 1000).setHeld 0x2610 8 1).setHeld 0x2610 9 0).setHeld 0x2610 0x0A 1

/-- Rail 0 of 1,000 mV is compared, and its next reading is a short. -/
def short0 (s : State) : State :=
  { s with dict := { s.dict with values := railed.dict.values }, rails := { s.rails with rail := vset s.rails.rail 0 { s.rails.rail[(0 : Fin 12)] with status := .good } } }

/-- A clean block of tenant 1, at LBA 0 of its volume 5. -/
def block1 : Slot :=
  { lba := 0, handle := 0, tenant := 1, seq := 1, dirty := false, frozen := false, copyValid := false, unrestored := false,
    fromImage := false, recording := false, lost := false, data := 7, used := 0, copy := none }

/-- The same with a block in slot 0. -/
def holds (q : Slot) (s : State) : State := { s with cache := { s.cache with slots := [(0, q)], handles := [(0, (1, 5))] } }

/-- A submission entry: opcode, volume, LBA, length, Param1, address and DataLength (05 **Submission entry**). -/
def entry (op vol lba len p1 addr dlen : Nat) : BitVec 512 :=
  BitVec.ofNat 512 (op + vol * 256 ^ 4 + lba * 256 ^ 8 + len * 256 ^ 16 + p1 * 256 ^ 24 + addr * 256 ^ 32 + dlen * 256 ^ 40)

/-- A fetched command of function 1, pair 0. -/
def cmd1 (w : BitVec 512) : Cmd :=
  { id := 0, fn := 1, qp := 0, sqe := w, sqHead := 1, stage := .fetched, protect := false, charged := 0, slots := 0, fetches := []
    elems := [] }

/-- The same with a command under way. -/
def under (c : Cmd) (s : State) : State := { s with port := { s.port with cmds := [c], fetched := 1 } }

/-- Stream 0 captures on port 0, with 4 × 2 pixels, running. -/
def streaming : State :=
  { (served.setHeld 0x4000 1 1) with
    video := { served.video with
      port := vset served.video.port 0 { CsiPort.reset with state := .idle }
      stream := vset served.video.stream 0 { Stream.reset with state := .running, number := 3 } } }

/-- A frame in progress. -/
def frame0 : Frame :=
  { md := ⟨3, 0, 0, 0, false, false, false, false, false, 0, 255, 0, 0⟩, lines := [], format := 0, picture := ⟨[], [], []⟩, rowsLeft := 1,
    started := false, rejoin := false, rois := [], born := 0 }

/-- Metadata of frame 3. -/
def md3 : Meta := frame0.md

/-- The header block of the video tenant's segment 0. -/
def seg0 : Slot := { block1 with tenant := 15, data := 0 }

/-- An open epoch with one copy, of that block. -/
def epoch1 : Epoch :=
  { number := 1, byPreSinter := false, inRestore := false, narrow := false, copies := [⟨1, 5, 0, 1, false, 7⟩], dead := [], strays := []
    removals := [], runs := [], stripes := [], blocks := [], keyGens := [] }

/-- A manifest of that epoch. -/
def manifest1 : Manifest :=
  { format := 1, sequence := 1, top := 1, encrypted := false, cPerPage := 2, activeDies := [0], time := 0, wallSeconds := 0, bootCount := 0
    writeSeqs := [], chain := [epoch1] }

/-- A coded IDR frame. -/
def coded0 : Coded :=
  { md := md3, idr := true, total := 1, sliceRows := 1, rows := [[]], skip := false, qp := 0, fromLtr := false, becomesLtr := false }

/-- A decoded picture of 2 × 2. -/
def decoded0 : Decoded :=
  { picture := ⟨[[1, 2], [3, 4]], [[5]], [[6]]⟩, randomAccess := true, order := 0, time := 0 }

/-- Stream 0 is live, with a ring of 4 KiB and one coded frame. -/
def living : State :=
  ((((streaming.setHeld 0x4040 1 1).setHeld 0x4043 1 0x10000).setHeld 0x4043 2 4096).setHeld 0x4043 3 0x20000).modEnc 0
    (fun e => { e with state := .encoding, coding := [coded0] })

/-- Stream 0 records, with one coded frame. -/
def recording : State := (streaming.setHeld 0x4040 1 2).modEnc 0 (fun e => { e with state := .encoding, coding := [coded0] })

/-- An open segment with a staged byte. -/
def seg1 : Segment :=
  { number := 1, codec := 0, profile := 0, level := 0, width := 4, height := 2, hasInserted := false, frames := 1, firstTime := 0
    lastTime := 0, wallSeconds := 0, bootCount := 0, put := 0, staged := [1], tail := [], ended := 0, framesPut := 0, lastPut := 0
    openedAt := 0 }

def reachesB (p : Session) (s : State) : Bool :=
  match p with
  | .usdo c => usdoServed s && !s.can.busy.contains c
  | .mailbox fn => mbxReached s fn && !(s.mbx[fn]).go && !mbxBusy s

theorem reaches_of {p : Session} {s : State} (h : reachesB p s = true) : Reaches p s := by
  cases p <;> simp [reachesB, Reaches] at * <;> simp [h]

/-- The checks of `Passes` that hold of a row, as decidable propositions. -/
abbrev passesRow (p : Session) (index sub : Nat) (data : List Byte) (s : State) (r : Row) : Prop :=
  r.acc.mayWrite (classesOf p index) = true ∧ (r.level = .expert → holdsExpert p s = true) ∧
  (romOnly s = true → romServes index = true) ∧ pathRefuses s r index = false ∧ tenantDisabled s index = false ∧
  (r.acc.locked = true → s.mode.lock = true) ∧ data.length = r.ty.size ∧
  rangeCheck s.held r index sub (ofLe data) = none ∧ s.island (s.ownerOf index sub) ≠ .fault

def passesB (p : Session) (index sub : Nat) (data : List Byte) (s : State) : Bool :=
  match findEntry p index sub s with
  | .ok r => decide (passesRow p index sub data s r)
  | .error _ => false

theorem accepts_of {p : Session} {index sub : Nat} {data : List Byte} {s : State}
    (h : (reachesB p s && passesB p index sub data s) = true) : Accepts p index sub data s := by
  obtain ⟨here, may⟩ := (Bool.and_eq_true _ _).mp h
  refine ⟨reaches_of here, ?_⟩
  cases found : findEntry p index sub s with
  | error e => simp [passesB, found] at may
  | ok r => simp only [passesB, found] at may; exact ⟨r, found, of_decide_eq_true may⟩

theorem commands_of {p : Session} {index sub : Nat} {data : List Byte} {s : State}
    (h : (reachesB p s && passesB p index sub data s && takesCommand s index sub) = true) : Commands p index sub data s :=
  have k := (Bool.and_eq_true _ _).mp h
  ⟨accepts_of k.1, k.2⟩

theorem runs_of {o : Op} {id : Nat} {elems : Option (List Element)} {c : Cmd} {s : State}
    (h : decide (findCmd s id = some c ∧ cmdIs o .fetched c = true ∧ mayStart s c = true ∧ dmaOpen s c.fn = true ∧
      listFails o c elems = false ∧ commonCheck s o c (elems.getD []) = none) = true) : Runs o id elems c s :=
  match of_decide_eq_true h with
  | ⟨found, kind, turn, bus, listed, checks⟩ => { found, kind, turn, bus, listed, checks }

theorem inv_of {s : State}
    (stores : (mapWf s.cache.slots && mapWf s.cache.handles && (mapWf s.dict.values && mapWf s.isl.undelivered)) = true)
    (bounds : decide (s.ev.log.length ≤ 4096 ∧ s.ev.heldSup.length ≤ 16 ∧ s.ev.heldCtl.length ≤ 64 ∧ s.can.emcy.length ≤ 32 ∧
      s.keep.copyA.body.events.length ≤ 64 ∧ s.keep.copyB.body.events.length ≤ 64 ∧ s.rails.slot < 20) = true) : Machine.Inv s := by
  have k := of_decide_eq_true bounds
  simp only [Bool.and_eq_true] at stores
  constructor <;> first | exact stores.1.1 | exact stores.1.2 | exact stores.2.1 | exact stores.2.2 | omega

theorem vkeep_boots : exec (.vkeepRise false) State.reset =
    .next (coldBoot 0 .vkeep { State.reset with life := { State.reset.life with wakeHigh := false } }) := by
  show execVkeepRise false State.reset = _
  unfold execVkeepRise
  rw [if_neg (by decide)]
  dsimp only
  rw [if_neg (by decide)]

/-! ### Terms that the checks of WellFormed refuse -/

theorem test_wf_mailbox_write : (Instr.dictionaryWrite (.mailbox 0) 0x2E00 4 (List.replicate 257 0)).wf = false := by decide +kernel

theorem test_wf_usdo_write : (Instr.dictionaryWrite (.usdo 1) 0x2E00 4 (List.replicate 257 0)).wf = true := by decide +kernel

theorem test_wf_mailbox_read : (Instr.mbxRead 0 false 0 0x1018 1 257).wf = false := by decide +kernel

theorem test_wf_mbx_data : (Instr.mbxWrite 0 false 0 0x1018 1 (List.replicate 257 0)).wf = false := by decide +kernel

theorem test_wf_window_read : (Instr.windowDataRead (.mailbox 1) 0 260).wf = false := by decide +kernel

theorem test_wf_elements : (Instr.put 0 (some (List.replicate 257 ⟨0, 0, 0⟩))).wf = false := by decide +kernel

theorem test_wf_link_speed : (Instr.linkUp 4 1 0).wf = false := by decide +kernel

theorem test_wf_link_width : (Instr.linkUp 3 3 0).wf = false := by decide +kernel

theorem test_wf_link_functions : (Instr.linkUp 3 4 16).wf = false := by decide +kernel

theorem test_wf_fetch : (Instr.commandFetch (List.replicate 5 (.failed))).wf = false := by decide +kernel

theorem test_wf_flash_report : (Instr.bootStepComplete (.flash [] 0 0 false 0)).wf = false := by decide +kernel

theorem test_wf_packet : packetFits (List.replicate 65536 0) = false := by
  rw [packetFits, List.length_replicate]; decide

theorem test_wf_qp : (Instr.pixelRowComplete 0 0 (.coded 0 52)).wf = false := by decide +kernel

theorem test_wf_fill : (Instr.syntaxRingCleared 1001).wf = false := by decide +kernel

theorem test_wf_lane_rate : (Instr.clockLaneUp 0 79).wf = false := by decide +kernel

/-! ### A state and operands that meet the hypotheses of each clause of each statement -/

theorem test_witness_LifeCycleRequests :
    (∃ (p : Session) (s : State), Accepts p 0x2011 1 (leBytes 1 1) s ∧ (s.life.dev = .serve ∨ s.life.dev = .restore) ∧
      outranked 1 s = false) ∧
    (∃ (p : Session) (s : State), Accepts p 0x2011 1 (leBytes 1 2) s ∧ s.life.dev = .serve ∧ (∀ q ∈ s.cache.slots, q.2.dirty =
      false) ∧ outranked 1 s = false) ∧
    (∃ (p : Session) (s : State), Accepts p 0x2011 1 (leBytes 1 4) s ∧ s.life.dev = .serve ∧ (∀ q ∈ s.cache.slots, q.2.dirty =
      false) ∧ outranked 1 s = false) ∧
    (∃ (p : Session) (s : State), Accepts p 0x2011 1 (leBytes 1 3) s ∧ s.life.dev = .halt ∧ outranked 1 s = false) ∧
    (∃ (p : Session) (s : State) (v : ℕ) (c : Instr), (v, c) ∈ [(1, Instr.firmwareRestart p), (2, .coldRestart p), (3,
      .clearHalt p), (4, .sleepRequest p)] ∧ Accepts p 0x2011 1 (leBytes 1 v) s ∧ (s.life.dev ∉ [DevState.serve, .restore,
      .halt] ∨ outranked 1 s = true)) :=
  ⟨⟨.usdo 1, served, accepts_of (by decide +kernel), by decide +kernel⟩,
    ⟨.usdo 1, served, accepts_of (by decide +kernel), by decide +kernel⟩,
    ⟨.usdo 1, served, accepts_of (by decide +kernel), by decide +kernel⟩,
    ⟨.usdo 1, inState .halt served, accepts_of (by decide +kernel), by decide +kernel⟩,
    ⟨.usdo 1, inState .warn served, 1, .firmwareRestart (.usdo 1), by decide +kernel, accepts_of (by decide +kernel),
      by decide +kernel⟩⟩

theorem test_witness_StoreAndRestore :
    (∃ (p : Session) (s : State) (sub : ℕ) (k : StoreKind) (c : Instr), (sub, k, c) ∈ [(1, StoreKind.all, Instr.storeAll p
      0x65766173), (2, .communication, .storeCommunication p 0x65766173), (3, .application, .storeApplication p 0x65766173)] ∧
      Accepts p 0x1010 sub (leBytes 4 0x65766173) s ∧ s.nor.storing = none ∧ ¬(s.life.dev = .halt ∧ s.life.haltCause = 1)) ∧
    (∃ (p : Session) (s : State) (sub : ℕ) (c : Instr) (sig : BitVec 32), (sub, c) ∈ [(1, Instr.storeAll p sig), (2,
      .storeCommunication p sig), (3, .storeApplication p sig)] ∧ Accepts p 0x1010 sub (leBytes 4 sig.toNat) s ∧ sig ≠
      0x65766173) ∧
    (∃ (s : State) (k : StoreKind) (p : Session), s.nor.storing = some (k, p)) ∧
    (∃ (s : State) (k : StoreKind) (p : Session), s.nor.storing = some (k, p)) ∧
    (∃ (p : Session) (s : State), Accepts p 0x1011 1 (leBytes 4 0x64616F6C) s) :=
  ⟨⟨.usdo 1, served, 1, .all, .storeAll (.usdo 1) 0x65766173, by decide +kernel, accepts_of (by decide +kernel),
      by decide +kernel⟩,
    ⟨.usdo 1, served, 1, .storeAll (.usdo 1) 0, 0, by decide +kernel, accepts_of (by decide +kernel), by decide +kernel⟩,
    ⟨{ served with nor := { served.nor with storing := some (.all, .usdo 1) } }, .all, .usdo 1, by decide +kernel⟩,
    ⟨{ served with nor := { served.nor with storing := some (.all, .usdo 1) } }, .all, .usdo 1, by decide +kernel⟩,
    ⟨.usdo 1, served, accepts_of (by decide +kernel)⟩⟩

theorem test_witness_ExpertAndModeWrites :
    (∃ (p : Session) (code : BitVec 32) (s : State), Accepts p 0x2021 1 (leBytes 4 code.toNat) s ∧ s.mode.expert = none ∧
      s.mode.lockoutEnd = none ∧ (∀ fn, p = .mailbox fn → hostAttach s.port ≠ 1) ∧ (s.held 0x2F00 1 = 0 ∨ code.toNat = s.held
      0x2F00 1)) ∧
    (∃ (p : Session) (code : BitVec 32) (s : State), Accepts p 0x2021 1 (leBytes 4 code.toNat) s ∧ holdsExpert p s = false ∧
      s.mode.lockoutEnd.isSome = true) ∧
    (∃ (p : Session) (code : BitVec 32) (s : State), Accepts p 0x2021 1 (leBytes 4 code.toNat) s ∧ s.mode.expert = none ∧
      s.mode.lockoutEnd = none ∧ (∀ fn, p = .mailbox fn → hostAttach s.port ≠ 1) ∧ s.held 0x2F00 1 ≠ 0 ∧ code.toNat ≠ s.held
      0x2F00 1) ∧
    (∃ (p : Session) (s : State), Accepts p 0x2021 1 (leBytes 4 0) s ∧ holdsExpert p s = true) ∧
    (∃ (p : Session) (s : State), s.mode.expert = some p ∧ s.mode.expertLast + s.cfg 0x2021 3 * 1000000 ≤ s.time.now) ∧
    (∃ (s : State) (e : ℕ), s.mode.lockoutEnd = some e ∧ e ≤ s.time.now) ∧
    (∃ (p : Session) (v : Byte) (s : State), Accepts p 0x2020 6 (leBytes 1 v.toNat) s ∧ (∀ q ∈ s.cache.slots, q.2.dirty =
      false) ∧ imageHoldsDirty s.flash = false) ∧
    (∃ (p : Session) (v : Byte) (s : State), Accepts p 0x2020 6 (leBytes 1 v.toNat) s ∧ v.toNat ≠ s.cfg 0x2020 6 ∧ (∃ q ∈
      s.cache.slots, q.2.dirty = true)) ∧
    (∃ (p : Session) (code : BitVec 32) (s : State), Accepts p 0x2F00 1 (leBytes 4 code.toNat) s) ∧
    (∃ (p : Session) (s : State) (v : Byte), Accepts p 0x2030 1 (leBytes 1 v.toNat) s ∧ s.mode.lock = decide (v = 0)) :=
  ⟨⟨.usdo 1, 0, served, accepts_of (by decide +kernel), by decide +kernel, by decide +kernel, nofun, by decide +kernel⟩,
    ⟨.usdo 1, 0, { served with mode := { served.mode with lockoutEnd := some 5 } }, accepts_of (by decide +kernel),
      by decide +kernel⟩,
    ⟨.usdo 1, 8, served.setHeld 0x2F00 1 7, accepts_of (by decide +kernel), by decide +kernel, by decide +kernel, nofun,
      by decide +kernel⟩,
    ⟨.usdo 1, { served with mode := { served.mode with expert := some (.usdo 1) } }, accepts_of (by decide +kernel),
      by decide +kernel⟩,
    ⟨.usdo 1, at_ 1000000000000 { served with mode := { served.mode with expert := some (.usdo 1) } }, by decide +kernel⟩,
    ⟨{ served with mode := { served.mode with lockoutEnd := some 0 } }, 0, by decide +kernel⟩,
    ⟨.usdo 1, 1, served, accepts_of (by decide +kernel), by decide +kernel⟩,
    ⟨.usdo 1, 0, holds { block1 with dirty := true } served, accepts_of (by decide +kernel), by decide +kernel⟩,
    ⟨.usdo 1, 5, { served with mode := { served.mode with expert := some (.usdo 1) } }, accepts_of (by decide +kernel)⟩,
    ⟨.usdo 1, { served with mode := { served.mode with lock := false } }, 1, accepts_of (by decide +kernel),
      by decide +kernel⟩⟩

theorem test_witness_ValueWrites :
    (∃ (p : Session) (index : BitVec 16) (sub : BitVec 8) (data : List Byte) (s : State), Accepts p index.toNat sub.toNat data
      s ∧ winOf index.toNat = none ∧ (∀ u, actionOf p u index.toNat sub.toNat (ofLe data) s = none) ∧ chapterCheck p index.toNat
      sub.toNat (ofLe data) s = none ∧ overBudget index.toNat sub.toNat (ofLe data) s = false ∧ s.island (s.ownerOf index.toNat
      sub.toNat) = .running) ∧
    (∃ (p : Session) (index : BitVec 16) (sub : BitVec 8) (data : List Byte) (s : State), isChannelConfig index.toNat sub.toNat
      = true ∧ Accepts p index.toNat sub.toNat data s ∧ s.island .supervisor = .running) ∧
    (∃ (p : Session) (s : State) (c : Instr) (index : BitVec 16) (sub : BitVec 8) (v : BitVec 8), ((c, index, sub, v) ∈
      [(Instr.channelClearFault p .pack, (0x2500, 0x0D, 1)), (.channelClearFault p .bank, (0x2580, 0x0A, 1)), (.railMask p 0 1,
      (0x2610, 0x10, 1)), (.resetPulse p 0, (0x2730, 3, 1)), (.releaseRequest p, (0x2901, 0x0A, 1)), (.forceIdr p 0, (0x4040,
      0x0C, 1)), (.dictionaryWrite p index sub [v], (0x2610, 0x10, 0))]) ∧ Accepts p index.toNat sub.toNat [v] s ∧ takesCommand
      s index.toNat sub.toNat = false) :=
  ⟨⟨.usdo 1, 0x1017, 0, leBytes 2 1000, served, accepts_of (by decide +kernel), by decide +kernel⟩,
    ⟨.usdo 1, 0x2500, 3, leBytes 2 5000, served, by decide +kernel, accepts_of (by decide +kernel), by decide +kernel⟩,
    ⟨.usdo 1, { expert with isl := { served.isl with run := vset served.isl.run 0 .stopped } }, .channelClearFault (.usdo 1)
      .pack, 0x2500, 0x0D, 1, by decide +kernel, accepts_of (by decide +kernel), by decide +kernel⟩⟩

theorem test_witness_HandshakeTimeouts :
    (∃ (p : Session) (index : BitVec 16) (sub : BitVec 8) (data : List Byte) (s : State), Accepts p index.toNat sub.toNat data
      s ∧ s.ownerOf index.toNat sub.toNat ∉ [Island.control, .supervisor, .host, .memory, .flash] ∧ s.island (s.ownerOf
      index.toNat sub.toNat) = .running ∧ (dictWrite p index.toNat sub.toNat data s).2 = .ok ∧ (∀ u, actionOf p u index.toNat
      sub.toNat (ofLe data) s = none)) ∧
    (∃ (p : Session) (n : Fin 16) (s : State), let index : BitVec 16 := BitVec.ofNat 16 (0x4040 + 0x100 * n.val); Accepts p
      index.toNat 0x0C [1] s ∧ s.island .pixel = .running) ∧
    (∃ (p : Session) (index : BitVec 16) (sub : BitVec 8) (data : List Byte) (s : State), Accepts p index.toNat sub.toNat data
      s ∧ s.ownerOf index.toNat sub.toNat ∈ [Island.supervisor, .host, .memory, .flash] ∧ s.island (s.ownerOf index.toNat
      sub.toNat) = .running ∧ (dictWrite p index.toNat sub.toNat data s).2 = .ok ∧ s.life.dev = .serve) :=
  ⟨⟨.usdo 1, 0x4000, 5, leBytes 1 2, served, accepts_of (by decide +kernel), by decide +kernel⟩,
    ⟨.usdo 1, 0, served, accepts_of (by decide +kernel), by decide +kernel⟩,
    ⟨.usdo 1, 0x2500, 3, leBytes 2 5000, served, accepts_of (by decide +kernel), by decide +kernel⟩⟩

theorem test_witness_ChannelRequests :
    (∃ (p : Session) (s : State), Accepts p 0x2420 5 (leBytes 1 1) s) ∧
    (∃ (p : Session) (c : Channel) (s : State) (index : ℕ) (sub : ℕ), ((c, index, sub) ∈ [(Channel.pack, 0x2500, 0x0D), (.bank,
      0x2580, 0x0A)]) ∧ Commands p index sub (leBytes 1 1) s) ∧
    (∃ (p : Session) (c : Channel) (s : State) (index : ℕ), ((c, index) ∈ [(Channel.pack, 0x2511), (.bank, 0x2591)]) ∧ Accepts
      p index 0x0A (leBytes 1 1) s) ∧
    (∃ (p : Session) (c : Channel) (s : State) (index : ℕ), ((c, index) ∈ [(Channel.pack, 0x2511), (.bank, 0x2591)]) ∧ Accepts
      p index 7 (leBytes 1 1) s ∧ geyserMayStart s c = true) ∧
    (∃ (p : Session) (c : Channel) (s : State) (index : ℕ), ((c, index) ∈ [(Channel.pack, 0x2511), (.bank, 0x2591)]) ∧ Accepts
      p index 7 (leBytes 1 1) s ∧ geyserMayStart s c = false) ∧
    (∃ (p : Session) (c : Channel) (s : State) (index : ℕ), ((c, index) ∈ [(Channel.pack, 0x2511), (.bank, 0x2591)]) ∧ Accepts
      p index 7 (leBytes 1 2) s ∧ geyserRuns (s.est c) = true) :=
  ⟨⟨.usdo 1, expert, accepts_of (by decide +kernel)⟩,
    ⟨.usdo 1, .bank, served, 0x2580, 0x0A, by decide +kernel, commands_of (by decide +kernel)⟩,
    ⟨.usdo 1, .pack, { served with mode := { served.mode with expert := some (.usdo 1) } }, 0x2511, by decide +kernel,
      accepts_of (by decide +kernel)⟩,
    ⟨.usdo 1, .pack,
      { (served.setHeld 0x2570 4 0) with pack := { served.pack with fitted := true, phase := .complete, dt := 100 }, hold := { served.hold with state := 1 } },
      0x2511, by decide +kernel, accepts_of (by decide +kernel), by decide +kernel⟩,
    ⟨.usdo 1, .pack, served, 0x2511, by decide +kernel, accepts_of (by decide +kernel), by decide +kernel⟩,
    ⟨.usdo 1, .bank, { served with bankEst := { served.bankEst with geyser := .discharging } }, 0x2591, by decide +kernel,
      accepts_of (by decide +kernel), by decide +kernel⟩⟩

theorem test_witness_RailAndTrimRequests :
    (∃ (p : Session) (r : Fin 12) (s : State) (v : Byte), Commands p (0x2610 + r.val) 0x10 (leBytes 1 v.toNat) s ∧ (s.rl
      r).mask ≠ decide (v = 1)) ∧
    (∃ (p : Session) (r : Fin 12) (s : State), Commands p (0x2610 + r.val) 0x11 (leBytes 1 0) s ∧ s.gated r = true ∧ s.life.dev
      ∈ [DevState.serve, .restore, .halt]) ∧
    (∃ (p : Session) (r : Fin 12) (s : State), Commands p (0x2610 + r.val) 0x11 (leBytes 1 1) s ∧ s.gated r = true ∧ s.life.dev
      ∈ [DevState.serve, .restore, .halt] ∧ s.driven r = false) ∧
    (∃ (p : Session) (r : Fin 12) (s : State) (v : ℕ) (c : Instr), (v, c) ∈ [(0, Instr.railSwitchOff p r), (1, .railSwitchOn p
      r)] ∧ Accepts p (0x2610 + r.val) 0x11 (leBytes 1 v) s ∧ (s.gated r = false ∨ s.life.dev ∉ [DevState.serve, .restore,
      .halt])) ∧
    (∃ (p : Session) (k : Fin 4) (s : State), Commands p (0x2730 + k.val) 3 (leBytes 1 1) s) ∧
    (∃ (p : Session) (k : Fin 4) (v : BitVec 16) (s : State), Accepts p (0x2720 + k.val) 1 (leBytes 2 v.toNat) s ∧ s.held
      0x2570 4 ≠ k.val ∧ s.island .supervisor = .running ∧ mapFind s.isl.undelivered (key (0x2720 + k.val) 1) = none) ∧
    (∃ (p : Session) (k : Fin 4) (v : BitVec 16) (s : State), Accepts p (0x2720 + k.val) 1 (leBytes 2 v.toNat) s ∧ s.held
      0x2570 4 = k.val) :=
  ⟨⟨.usdo 1, 11, served, 1, commands_of (by decide +kernel), by decide +kernel⟩,
    ⟨.usdo 1, 0, railed, commands_of (by decide +kernel), by decide +kernel⟩,
    ⟨.usdo 1, 0, railed, commands_of (by decide +kernel), by decide +kernel⟩,
    ⟨.usdo 1, 0, inState .warn served, 0, .railSwitchOff (.usdo 1) 0, by decide +kernel, accepts_of (by decide +kernel),
      by decide +kernel⟩,
    ⟨.usdo 1, 3, expert, commands_of (by decide +kernel)⟩,
    ⟨.usdo 1, 3, 1023, served, accepts_of (by decide +kernel), by decide +kernel⟩,
    ⟨.usdo 1, 0, 0, served.setHeld 0x2570 4 0, accepts_of (by decide +kernel), by decide +kernel⟩⟩

theorem test_witness_FlashAndSanitizeRequests :
    (∃ (p : Session) (s : State), Commands p 0x2901 0x0A (leBytes 1 1) s) ∧
    (∃ (p : Session) (d : Fin 16) (s : State), Commands p (0x2910 + d.val) 2 (leBytes 1 1) s ∧ s.flash.die[d].state = .active) ∧
    (∃ (p : Session) (d : Fin 16) (s : State), Accepts p (0x2910 + d.val) 2 (leBytes 1 1) s ∧ s.flash.die[d].state ∉
      [DieRun.active, .probation]) ∧
    (∃ (p : Session) (d : Fin 16) (s : State), Commands p (0x2910 + d.val) 2 (leBytes 1 2) s ∧ s.flash.die[d].state = .retired
      ∧ s.life.dev = .serve) ∧
    (∃ (p : Session) (d : Fin 16) (a : Bool) (s : State), Accepts p (0x2910 + d.val) 2 (leBytes 1 2) s ∧ (s.flash.die[d].state
      ≠ .retired ∨ s.life.dev ≠ .serve ∨ a = false)) ∧
    (∃ (p : Session) (s : State) (v : Byte), Accepts p 0x2F10 1 (leBytes 1 v.toNat) s ∧ s.life.dev = .serve) ∧
    (∃ (p : Session) (s : State) (v : Byte), Accepts p 0x2F10 1 (leBytes 1 v.toNat) s ∧ s.life.dev ≠ .serve ∧ (s.life.dev ≠
      .restore ∨ s.cfg 0x2020 6 ≠ 1)) :=
  ⟨⟨.usdo 1, expert, commands_of (by decide +kernel)⟩,
    ⟨.usdo 1, 15, expert.modDie 15 (fun x => { x with state := .active }), commands_of (by decide +kernel), by decide +kernel⟩,
    ⟨.usdo 1, 0, expert, accepts_of (by decide +kernel), by decide +kernel⟩,
    ⟨.usdo 1, 0, expert.modDie 0 (fun x => { x with state := .retired }), commands_of (by decide +kernel), by decide +kernel⟩,
    ⟨.usdo 1, 0, true, expert, accepts_of (by decide +kernel), by decide +kernel⟩,
    ⟨.usdo 1, served, 0xFF, accepts_of (by decide +kernel), by decide +kernel⟩,
    ⟨.usdo 1, inState .halt expert, 0, accepts_of (by decide +kernel), by decide +kernel⟩⟩

theorem test_witness_VideoRequests :
    (∃ (p : Session) (n : Fin 16) (s : State), Commands p (0x4010 + 0x100 * n.val) 9 (leBytes 1 1) s ∧ (strOf s
      n).pendingSets.length < 4) ∧
    (∃ (p : Session) (n : Fin 16) (s : State), Accepts p (0x4010 + 0x100 * n.val) 9 (leBytes 1 1) s ∧ 4 ≤ (strOf s
      n).pendingSets.length) ∧
    (∃ (p : Session) (n : Fin 16) (s : State), Commands p (0x4010 + 0x100 * n.val) 9 (leBytes 1 2) s) ∧
    (∃ (p : Session) (n : Fin 16) (s : State) (k : ℕ) (c : Instr), (k, c) ∈ [(1, Instr.cciDirectWrite p n), (2, .cciDirectRead
      p n)] ∧ Commands p (0x4011 + 0x100 * n.val) 4 (leBytes 1 k) s ∧ (strOf s n).cciOp = 0) ∧
    (∃ (p : Session) (n : Fin 16) (s : State) (k : ℕ) (c : Instr), (k, c) ∈ [(1, Instr.cciDirectWrite p n), (2, .cciDirectRead
      p n)] ∧ Accepts p (0x4011 + 0x100 * n.val) 4 (leBytes 1 k) s ∧ (strOf s n).cciOp ≠ 0) ∧
    (∃ (p : Session) (n : Fin 16) (s : State), Commands p (0x4040 + 0x100 * n.val) 0x0C (leBytes 1 1) s) ∧
    (∃ (p : Session) (d : Fin 2) (s : State), Commands p (0x2A40 + d.val) 1 (leBytes 1 1) s ∧ decodeServed s = true ∧ decOpen s
      d = false ∧ budgetsRefuse s (encodes s) (decOpen s) s (encodes s) (fun k => k == d || decOpen s k) = false) ∧
    (∃ (p : Session) (d : Fin 2) (s : State), Accepts p (0x2A40 + d.val) 1 (leBytes 1 1) s ∧ (decodeServed s = false ∨ decOpen
      s d = true)) ∧
    (∃ (p : Session) (d : Fin 2) (s : State), Commands p (0x2A40 + d.val) 1 (leBytes 1 2) s ∧ s.video.dec[d].state ≠ 0) ∧
    (∃ (p : Session) (d : Fin 2) (s : State), Commands p (0x2A40 + d.val) 1 (leBytes 1 3) s ∧ decOpen s d = true) ∧
    (∃ (p : Session) (d : Fin 2) (s : State), Accepts p (0x2A40 + d.val) 1 (leBytes 1 3) s ∧ decOpen s d = false) :=
  ⟨⟨.usdo 1, 15, served, commands_of (by decide +kernel), by decide +kernel⟩,
    ⟨.usdo 1, 0, served.modStream 0 (fun x => { x with pendingSets := List.replicate 4 ⟨1, [], 0, false⟩ }), accepts_of
      (by decide +kernel), by decide +kernel⟩,
    ⟨.usdo 1, 0, served, commands_of (by decide +kernel)⟩,
    ⟨.usdo 1, 0, expert, 1, .cciDirectWrite (.usdo 1) 0, by decide +kernel, commands_of (by decide +kernel),
      by decide +kernel⟩,
    ⟨.usdo 1, 0, expert.modStream 0 (fun x => { x with cciOp := 1 }), 2, .cciDirectRead (.usdo 1) 0, by decide +kernel,
      accepts_of (by decide +kernel), by decide +kernel⟩,
    ⟨.usdo 1, 0, served, commands_of (by decide +kernel)⟩,
    ⟨.usdo 1, 0, served.setHeld 0x2020 5 2, commands_of (by decide +kernel), by decide +kernel⟩,
    ⟨.usdo 1, 0, served, accepts_of (by decide +kernel), by decide +kernel⟩,
    ⟨.usdo 1, 1, served.modDec 1 (fun x => { x with state := 3 }), commands_of (by decide +kernel), by decide +kernel⟩,
    ⟨.usdo 1, 0, served.modDec 0 (fun x => { x with state := 1 }), commands_of (by decide +kernel), by decide +kernel⟩,
    ⟨.usdo 1, 0, served, accepts_of (by decide +kernel), by decide +kernel⟩⟩

theorem test_witness_EventRequestsAndRefusals :
    (∃ (p : Session) (b : Fin 28) (bits : BitVec 64) (s : State), Accepts p (0x5000 + b.val) 3 (leBytes 8 bits.toNat) s) ∧
    (∃ (p : Session) (s : State), Accepts p 0x2C00 5 (leBytes 1 1) s) ∧
    (∃ (p : Session) (index : BitVec 16) (sub : BitVec 8) (data : List Byte) (s : State) (code : ℕ), Reaches p s ∧ (findEntry p
      index.toNat sub.toNat s = .error code ∨ ∃ r, findEntry p index.toNat sub.toNat s = .ok r ∧ (r.acc.mayWrite (classesOf p
      index.toNat) = false ∧ code = 0x06010002 ∨ r.acc.mayWrite (classesOf p index.toNat) = true ∧ (r.level = .expert →
      holdsExpert p s = true) ∧ (romOnly s = true → romServes index.toNat = true) ∧ pathRefuses s r index.toNat = false ∧
      tenantDisabled s index.toNat = false ∧ (r.acc.locked = true ∧ s.mode.lock = false ∧ code = 0x0F000003 ∨ (r.acc.locked =
      true → s.mode.lock = true) ∧ (winOf index.toNat = none ∨ sub ≠ 4) ∧ data.length ≠ r.ty.size ∧ code = 0x06070010)))) :=
  ⟨⟨.usdo 1, 27, 1, served, accepts_of (by decide +kernel)⟩,
    ⟨.usdo 1, served, accepts_of (by decide +kernel)⟩,
    ⟨.usdo 1, 0x0FFF, 0, [], served, 0x06020000, reaches_of (by decide +kernel), Or.inl (by decide +kernel)⟩⟩

theorem test_witness_WindowControlAndData :
    (∃ (p : Session) (w : Fin 7) (s : State), Accepts p (0x2E00 + w.val) 5 (leBytes 1 1) s ∧ ownedByOther p s.win[w] = false ∧
      w ≠ 2 ∧ s.win[w].status ∈ [0, 4, 5] ∧ (w = 0 → s.win[w].target ≤ 1)) ∧
    (∃ (p : Session) (w : Fin 7) (s : State), Accepts p (0x2E00 + w.val) 5 (leBytes 1 2) s ∧ ownedByOther p s.win[w] = false ∧
      w ∈ [(0 : Fin 7), 2, 3] ∧ s.win[w].status ∈ [0, 4, 5] ∧ 1 ≤ s.win[w].length ∧ s.win[w].length ≤ winMax w s.win[w].target) ∧
    (∃ (p : Session) (w : Fin 7) (s : State), Accepts p (0x2E00 + w.val) 5 (leBytes 1 3) s ∧ owns p s.win[w] = true ∧
      s.win[w].writing = true ∧ s.win[w].status ≠ 3 ∧ pathState s.life.dev = false ∧ crc32 s.win[w].buf = s.win[w].crc ∧ (w = 3
      → s.mode.lock = true ∧ holdsExpert p s = true)) ∧
    (∃ (p : Session) (w : Fin 7) (s : State), Accepts p (0x2E00 + w.val) 5 (leBytes 1 4) s ∧ owns p s.win[w] = true ∧
      s.win[w].status ≠ 3) ∧
    (∃ (p : Session) (w : Fin 7) (s : State) (k : ℕ) (c : Instr), (k, c) ∈ [(1, Instr.windowOpenRead p w), (2, .windowOpenWrite
      p w), (3, .windowCommit p w), (4, .windowAbort p w)] ∧ Accepts p (0x2E00 + w.val) 5 (leBytes 1 k) s ∧ ownedByOther p
      s.win[w] = true) ∧
    (∃ (p : Session) (w : Fin 7) (n : ℕ) (s : State), Reaches p s ∧ p.isAdmin = true ∧ (romOnly s = true → w = 0) ∧ owns p
      s.win[w] = true ∧ s.win[w].status = 1 ∧ n % 4 = 0 ∧ 4 ≤ n ∧ n ≤ 256 ∧ s.win[w].offset < s.win[w].buf.length ∧
      s.win[w].offset + n ≤ up4 s.win[w].buf.length) ∧
    (∃ (p : Session) (w : Fin 7) (data : List Byte) (s : State), Reaches p s ∧ p.isAdmin = true ∧ (romOnly s = true → w = 0) ∧
      owns p s.win[w] = true ∧ s.win[w].writing = true ∧ s.win[w].status ≠ 3 ∧ data.length % 4 = 0 ∧ 4 ≤ data.length ∧
      data.length ≤ 256 ∧ s.win[w].offset < s.win[w].buf.length ∧ s.win[w].offset + data.length ≤ up4 s.win[w].buf.length) ∧
    (∃ (w : Fin 7) (s : State), (s.win[w].status = 1 ∨ s.win[w].status = 2) ∧ s.win[w].owner.isSome = true ∧
      s.win[w].lastAccess + 10000000 ≤ s.time.now) :=
  ⟨⟨.usdo 1, 6, served, accepts_of (by decide +kernel), by decide +kernel⟩,
    ⟨.usdo 1, 0, served.modWin 0 (fun x => { x with length := 1 }), accepts_of (by decide +kernel), by decide +kernel⟩,
    ⟨.usdo 1, 0, served.modWin 0 (fun x => { x with status := 2, writing := true, owner := some (.usdo 1) }), accepts_of
      (by decide +kernel), by decide +kernel⟩,
    ⟨.usdo 1, 0, served.modWin 0 (fun x => { x with status := 2, owner := some (.usdo 1) }), accepts_of (by decide +kernel),
      by decide +kernel⟩,
    ⟨.usdo 1, 0, served.modWin 0 (fun x => { x with owner := some (.mailbox 0) }), 1, .windowOpenRead (.usdo 1) 0,
      by decide +kernel, accepts_of (by decide +kernel), by decide +kernel⟩,
    ⟨.usdo 1, 1, 4, served.modWin 1 (fun x => { x with status := 1, buf := [1], owner := some (.usdo 1) }), reaches_of
      (by decide +kernel), by decide +kernel⟩,
    ⟨.usdo 1, 2, [1, 2, 3, 4], served.modWin 2 (fun x =>
      { x with status := 2, writing := true, buf := [0, 0], owner := some (.usdo 1) }), reaches_of (by decide +kernel),
      by decide +kernel⟩,
    ⟨6, at_ 10000000 (served.modWin 6 (fun x => { x with status := 1, owner := some (.usdo 1) })), by decide +kernel⟩⟩

theorem test_witness_WindowCommitEnds :
    (∃ (s : State), s.win[(0 : Fin 7)].status = 3) ∧
    (∃ (s : State) (r : CommitEnd), let x := s.win[(2 : Fin 7)]; s.win[(2 : Fin 7)].status = 3 ∧ layerOk x.buf (x.target % 4)
      (s.sc (Fin.ofNat 16 (x.target / 4)) 0x4000 2) (s.sc (Fin.ofNat 16 (x.target / 4)) 0x4000 3) = true) ∧
    (∃ (s : State) (r : CommitEnd), s.win[(3 : Fin 7)].status = 3 ∧ tableOk s s.win[(3 : Fin 7)].target s.win[(3 : Fin 7)].buf
      = true) ∧
    (∃ (s : State) (w : Fin 7) (r : CommitEnd), s.win[w].status = 3 ∧ (w = 0 → r ≠ CommitEnd.written) ∧ (w = 2 →
      let x := s.win[w]; layerOk x.buf (x.target % 4) (s.sc (Fin.ofNat 16 (x.target / 4)) 0x4000 2) (s.sc (Fin.ofNat 16
      (x.target / 4)) 0x4000 3) = false) ∧ (w ≠ 0 → w ≠ 2 → tableOk s s.win[w].target s.win[w].buf = false)) :=
  ⟨⟨served.modWin 0 (fun x => { x with status := 3 }), by decide +kernel⟩,
    ⟨(served.setHeld 0x4000 2 320).modWin 2 (fun x =>
      { x with status := 3, target := 1, buf := [0x49, 0x54, 0x51, 0x4C, 1, 1, 0, 0, 0, 0, 0, 0, 0, 0, 0, 0, 0, 0, 0, 0, 0, 0, 0, 0, 1, 0, 0, 0, 0, 0, 0, 0, 0] }),
      .rejected, by decide +kernel⟩,
    ⟨(served.setHeld 0x2580 1 2).modWin 3 (fun x =>
      { x with status := 3, target := 0x11, buf := [0x49, 0x54, 0x51, 0x50, 1, 3, 1, 0, 14, 0, 0, 0, 0, 0, 0, 0, 1, 0, 1, 0, 1, 0, 1, 0, 1, 0, 1, 0, 1, 0] }),
      .rejected, by decide +kernel⟩,
    ⟨served.modWin 3 (fun x => { x with status := 3 }), 3, .failed, by decide +kernel⟩⟩

theorem test_witness_TransportRequests :
    (∃ (fn : Fin 16) (irq : Bool) (tag : Byte) (index : BitVec 16) (sub : BitVec 8) (len : BitVec 9) (r : Row) (s : State),
      Reaches (.mailbox fn) s ∧ winOf index.toNat = none ∧ findEntry (.mailbox fn) index.toNat sub.toNat s = .ok r ∧
      r.acc.mayRead (classesOf (.mailbox fn) index.toNat) = true ∧ (romOnly s = true → romServes index.toNat = true)) ∧
    (∃ (fn : Fin 16) (irq : Bool) (tag : Byte) (index : BitVec 16) (sub : BitVec 8) (data : List Byte) (s : State), Accepts
      (.mailbox fn) index.toNat sub.toNat data s ∧ winOf index.toNat = none ∧ (∀ u, actionOf (.mailbox fn) u index.toNat
      sub.toNat (ofLe data) s = none) ∧ chapterCheck (.mailbox fn) index.toNat sub.toNat (ofLe data) s = none ∧ overBudget
      index.toNat sub.toNat (ofLe data) s = false ∧ s.island (s.ownerOf index.toNat sub.toNat) = .running) ∧
    (∃ (fn : Fin 16) (irq : Bool) (tag : Byte) (index : BitVec 16) (sub : BitVec 8) (x : ℕ × Row) (s : State), Reaches
      (.mailbox fn) s ∧ nextEntry (.mailbox fn) s (key index.toNat sub.toNat) = some x) ∧
    (∃ (fn : Fin 16) (irq : Bool) (tag : Byte) (index : BitVec 16) (sub : BitVec 8) (s : State), Reaches (.mailbox fn) s ∧
      nextEntry (.mailbox fn) s (key index.toNat sub.toNat) = none) ∧
    (∃ (fn : Fin 16) (irq : Bool) (tag : Byte) (index : BitVec 16) (sub : BitVec 8) (data : List Byte) (s : State) (c : Instr),
      mbxReached s fn = true ∧ (s.mbx[fn]).go = false ∧ mbxBusy s = true ∧ c ∈ [Instr.mbxRead fn irq tag index sub 0, .mbxWrite
      fn irq tag index sub data, .mbxNextEntry fn irq tag index sub]) ∧
    (∃ (fn : Fin 16) (irq : Bool) (tag : Byte) (index : BitVec 16) (sub : BitVec 8) (len : BitVec 9) (data : List Byte) (s :
      State) (c : Instr), c ∈ [Instr.mbxRead fn irq tag index sub len, .mbxWrite fn irq tag index sub data, .mbxNextEntry fn irq
      tag index sub]) ∧
    (∃ (c : Fin 128) (index : BitVec 16) (sub : BitVec 8) (len : ℕ) (r : Row) (s : State), Reaches (.usdo c) s ∧ winOf
      index.toNat = none ∧ findEntry (.usdo c) index.toNat sub.toNat s = .ok r ∧ r.acc.mayRead (classesOf (.usdo c) index.toNat)
      = true ∧ (romOnly s = true → romServes index.toNat = true)) ∧
    (∃ (c : Fin 128) (index : BitVec 16) (sub : BitVec 8) (data : List Byte) (s : State), Accepts (.usdo c) index.toNat
      sub.toNat data s ∧ winOf index.toNat = none ∧ (∀ u, actionOf (.usdo c) u index.toNat sub.toNat (ofLe data) s = none) ∧
      chapterCheck (.usdo c) index.toNat sub.toNat (ofLe data) s = none ∧ overBudget index.toNat sub.toNat (ofLe data) s = false
      ∧ s.island (s.ownerOf index.toNat sub.toNat) = .running) ∧
    (∃ (c : Fin 128) (s : State), Reaches (.usdo c) s) ∧
    (∃ (c : Fin 128) (index : BitVec 16) (sub : BitVec 8) (data : List Byte) (s : State), usdoServed s = true ∧ c ∈ s.can.busy) ∧
    (∃ (c : Fin 128) (req : UsdoReq) (s : State), usdoServed s = false) :=
  ⟨⟨0, true, 1, 0x1017, 0, 2, (match findEntry (.mailbox 0) 0x1017 0 served with | .ok r => r | .error _ => countRow 0),
      served, reaches_of (by decide +kernel), by decide +kernel⟩,
    ⟨0, true, 1, 0x1017, 0, leBytes 2 1000, served, accepts_of (by decide +kernel), by decide +kernel⟩,
    ⟨0, true, 1, 0x1017, 0, (match nextEntry (.mailbox 0) served (key 0x1017 0) with | some x => x | none => (0, countRow 0)),
      served, reaches_of (by decide +kernel), by decide +kernel⟩,
    ⟨0, true, 1, 0xFFFF, 0xFF, served, reaches_of (by decide +kernel), by decide +kernel⟩,
    ⟨0, true, 1, 0x1017, 0, [], { served with life := { served.life with restarting := true } }, .mbxRead 0 true 1 0x1017 0 0,
      by decide +kernel⟩,
    ⟨0, true, 1, 0x1017, 0, 2, [], served.modMbx 0 (fun m => { m with go := true }), .mbxRead 0 true 1 0x1017 0 2,
      by decide +kernel⟩,
    ⟨1, 0x1017, 0, 2, (match findEntry (.usdo 1) 0x1017 0 served with | .ok r => r | .error _ => countRow 0), served,
      reaches_of (by decide +kernel), by decide +kernel⟩,
    ⟨1, 0x1017, 0, leBytes 2 1000, served, accepts_of (by decide +kernel), by decide +kernel⟩,
    ⟨1, served, reaches_of (by decide +kernel)⟩,
    ⟨1, 0x1017, 0, [], { served with can := { served.can with busy := [1] } }, by decide +kernel⟩,
    ⟨1, .unsupported, State.reset, by decide +kernel⟩⟩

theorem test_witness_IslandsAndClock :
    (∃ (i : Island) (s : State), i ∈ [Island.capture0, .capture1, .capture2, .capture3, .pixel, .entropy] ∧ s.island i = .fault
      ∧ islandMark s i = true) ∧
    (∃ (i : Island) (s : State), i ∈ [Island.capture0, .capture1, .capture2, .capture3, .pixel, .entropy] ∧ s.island i = .fault
      ∧ islandMark s i = false) ∧
    (∃ (s : State), s.life.dev.supervised = true ∧ s.time.onRc = false) ∧
    (∃ (s : State), controlRuns s = true ∧ s.life.estConservative = true ∧ calibrated s = true ∧ (∀ c, (s.chan c).fitted = true
      → 1000 ≤ (s.est c).samples)) :=
  ⟨⟨.capture0, (streaming).setIsland .capture0 .fault, by decide +kernel⟩,
    ⟨.capture0, served.setIsland .capture0 .fault, by decide +kernel⟩,
    ⟨served, by decide +kernel⟩,
    ⟨at_ 52000 { served with life := { served.life with step2Done := true } }, by decide +kernel, by decide +kernel,
      by decide +kernel, fun c => by cases c <;> decide +kernel⟩⟩

theorem test_witness_SamplesAndPublication :
    (∃ (c : Channel) (mv : ℕ) (ma : ℤ) (dt : ℤ) (s : State), s.life.dev.supervised = true) ∧
    (∃ (c : Channel) (s : State), s.life.dev.supervised = true ∧ (s.chan c).fitted = true ∧ ntcOk (s.chan c) = false ∧ (c =
      .bank ∨ s.life.dev ≠ .simmer)) ∧
    (∃ (s : State), publishes s = true ∧ s.life.dev ≠ .simmer) ∧
    (∃ (s : State), publishes s = true ∧ s.adm.stale = false ∧ overdue s = true ∧ s.life.dev ≠ .simmer) :=
  ⟨⟨.pack, 0, 0, 0, served, by decide +kernel⟩,
    ⟨.pack, { served with pack := { served.pack with fitted := true, dt := 1001 } }, by decide +kernel⟩,
    ⟨served, by decide +kernel⟩,
    ⟨at_ 300000 served, by decide +kernel⟩⟩

theorem test_witness_Charging :
    (∃ (c : Channel) (s : State) (t0 : ℕ), (s.chan c).taperAt = some t0 ∧ (s.chan c).enable = true ∧ (s.chan c).phase ≠ .float
      ∧ t0 + taperTime s c ≤ s.time.now) ∧
    (∃ (c : Channel) (s : State), (s.chan c).slewing = true ∧ presentTarget s c = (s.chan c).targetFinal) ∧
    (∃ (s : State), s.bank.phase = .float ∧ (∃ a ∈ cellVoltages s, ∃ b ∈ cellVoltages s, a + 150 < b)) ∧
    (∃ (c : Channel) (code : ℕ) (cmd : Instr) (s : State), (cmd = Instr.prechargeTimeout ∧ c = .pack ∧ code = 3 ∧ s.pack.enable
      = true ∧ s.pack.phase = .precharge ∨ cmd = .chargerOvercurrent c ∧ code = 1 ∧ (s.chan c).enable = true ∧ (60 * (s.chan
      c).setpoint + cRate s c : Int) < 50 * (s.chan c).ma ∨ cmd = .chargerStuckOn c ∧ code = 2 ∧ s.life.dev.supervised = true ∧
      chanConfigured s c = true ∧ (s.chan c).enable = false ∧ (cRate s c : Int) < 50 * (s.chan c).ma ∨ cmd = .overcharge c ∧
      code = 4 ∧ s.life.dev.supervised = true ∧ chanConfigured s c = true ∧ 3 ≤ (s.chan c).overRun)) :=
  ⟨⟨.pack, at_ 1000000000
      { served with pack := { served.pack with taperAt := some 0, enable := true, phase := .constVoltage } }, 0,
      by decide +kernel⟩,
    ⟨.pack, { served with pack := { served.pack with slewing := true, target := 5, targetFinal := 5 } }, by decide +kernel⟩,
    ⟨{ (served.setHeld 0x2580 1 6) with bank := { served.bank with phase := .float }, hold := { served.hold with cells := #v[2000, 2151, 0, 0, 0, 0] } },
      by decide +kernel⟩,
    ⟨.bank, 1, .chargerOvercurrent .bank, { served with bank := { served.bank with enable := true, ma := 100000 } },
      by decide +kernel⟩⟩

theorem test_witness_SagAndHoldUp :
    (∃ (s : State), s.life.dev.supervised = true ∧ s.hold.sag = false ∧ s.hold.failed = false) ∧
    (∃ (s : State), s.hold.sag = true ∧ s.hold.failed = false) ∧
    (∃ (s : State), s.hold.en = true ∧ s.hold.state ≠ 4 ∧ s.life.dev ≠ .simmer) ∧
    (∃ (s : State), s.hold.en = true ∧ s.hold.state ≠ 4 ∧ s.life.dev = .simmer ∧ s.life.dramLost = false) ∧
    (∃ (s : State), s.hold.state = 4) :=
  ⟨⟨served, by decide +kernel⟩,
    ⟨{ served with hold := { served.hold with sag := true } }, by decide +kernel⟩,
    ⟨{ served with hold := { served.hold with en := true } }, by decide +kernel⟩,
    ⟨{ inState .simmer served with hold := { served.hold with en := true } }, by decide +kernel⟩,
    ⟨{ served with hold := { served.hold with state := 4 } }, by decide +kernel⟩⟩

theorem test_witness_EstimatorPoints :
    (∃ (c : Channel) (s : State), estServes s c = true ∧ 3 ≤ (s.chan c).eod ∧ (s.est c).empty = false ∧ s.life.dev ≠ .simmer) ∧
    (∃ (s : State), estServes s .pack = true ∧ relaxed s = true) ∧
    (∃ (c : Channel) (dmv : ℤ) (dma : ℤ) (s : State), let i := cellIndex (s.chan c).dt (s.est c).socInt; estServes s c = true ∧
      dma ≠ 0 ∧ cOf s c ≤ 5 * dma.natAbs) :=
  ⟨⟨.bank, { served with bank := { served.bank with fitted := true, eod := 3 } }, by decide +kernel⟩,
    ⟨at_ 900000000
      { served with pack := { served.pack with fitted := true }, packEst := { served.packEst with restAt := some 0 } },
      by decide +kernel⟩,
    ⟨.pack, 1, 1000000, { served with pack := { served.pack with fitted := true } }, by decide +kernel⟩⟩

theorem test_witness_GeyserCyclesAndKeepStore :
    (∃ (c : Channel) (s : State), estServes s c = true ∧ (s.est c).geyser = .idle ∧ geyserIsDue s c = true) ∧
    (∃ (c : Channel) (s : State), (s.est c).geyser = .due ∧ geyserMayStart s c = true ∧ (c = .pack ∨ s.packEst.geyser ≠ .due)) ∧
    (∃ (s : State), s.life.dev.supervised = true ∧ controlRuns s = true) ∧
    (∃ (s : State), s.life.dev.supervised = true ∧ s.keep.pending = true ∧ (∀ e, s.keep.lastWrite = some e → e + 60000000 ≤
      s.time.now)) :=
  ⟨⟨.pack,
      { (served.setHeld 0x2511 3 1) with pack := { served.pack with fitted := true }, packEst := { served.packEst with daysFrom := 0 }, time := { served.time with powered := 10000000000000000 } },
      by decide +kernel⟩,
    ⟨.pack,
      { (served.setHeld 0x2570 4 0) with pack := { served.pack with fitted := true, phase := .complete, dt := 400 }, packEst := { served.packEst with geyser := .due }, hold := { served.hold with state := 1 } },
      by decide +kernel⟩,
    ⟨served, by decide +kernel⟩,
    ⟨{ served with keep := { served.keep with pending := true } }, by decide +kernel⟩⟩

theorem test_witness_ScansAndSupervision :
    (∃ (x : ℤ) (s : State), let r : Fin 12 := Fin.ofNat 12 s.rails.slot; let mv := railMv s r x; s.life.dev.supervised = true ∧
      s.rails.slot < 12 ∧ s.compared r = true ∧ s.isShort r mv = false ∧ s.isTrip r mv = false ∧ (s.outOfWindow r mv = true ∨
      (s.rl r).status ≠ .off ∧ unmasked s r = false ∧ commanded s r = false)) ∧
    (∃ (x : ℤ) (s : State), let r : Fin 12 := Fin.ofNat 12 s.rails.slot; s.life.dev.supervised = true ∧ s.rails.slot < 12 ∧
      s.compared r = false) ∧
    (∃ (x : ℤ) (s : State), let r : Fin 12 := Fin.ofNat 12 s.rails.slot; let mv := railMv s r x; s.life.dev.supervised = true ∧
      s.rails.slot < 12 ∧ s.compared r = true ∧ s.isShort r mv = false ∧ s.isTrip r mv = false ∧ s.outOfWindow r mv = false ∧ 1
      ≤ (s.rl r).inRun ∧ (unmasked s r = true ∨ commanded s r = true) ∧ s.life.dev ≠ .halt) ∧
    (∃ (x : ℤ) (s : State) (k : Fin 6), s.life.dev.supervised = true ∧ s.rails.slot = 12 + k.val) ∧
    (∃ (x : ℤ) (s : State), s.life.dev.supervised = true ∧ s.rails.slot = 18 ∧ ¬(10 * (junctionLimit s + 5) < x)) ∧
    (∃ (x : ℤ) (s : State), s.life.dev.supervised = true ∧ s.rails.slot = 19) ∧
    (∃ (x : ℤ) (s : State), let r : Fin 12 := Fin.ofNat 12 s.rails.slot; let mv := railMv s r x; s.rails.slot < 12 ∧ s.compared
      r = true ∧ (s.isShort r mv = true ∨ s.isTrip r mv = true) ∧ (s.life.dev = .serve ∨ s.life.dev = .restore)) ∧
    (∃ (r : Fin 12) (s : State), s.compared r = true ∧ s.filterCount r ≤ (s.rl r).outRun ∧ (s.rl r).status = .good) ∧
    (∃ (r : Fin 12) (s : State), s.compared r = true ∧ (s.rl r).status = .warning ∧ s.filterCount r ≤ (s.rl r).inRun ∧
      s.rails.walk = .none ∧ s.life.dev ≠ .halt) ∧
    (∃ (r : Fin 12) (s : State), s.compared r = true ∧ (s.rl r).status = .pending ∧ unmasked s r = false ∧ s.filterCount r ≤
      (s.rl r).inRun ∧ commanded s r = false ∧ s.life.dev ≠ .halt) ∧
    (∃ (r : Fin 12) (s : State), (s.rl r).status = .warning ∧ (s.rl r).mask = false ∧ s.railCfg r 0x0E = 1 ∧ s.gated r = true) ∧
    (∃ (r : Fin 12) (s : State), (s.rl r).status = .warning ∧ (s.rl r).mask = false ∧ s.railCfg r 0x0E = 2 ∧ (s.life.dev =
      .serve ∨ s.life.dev = .restore)) ∧
    (∃ (r : Fin 12) (s : State), ((s.rl r).status ≠ .warning ∨ (s.rl r).mask = true)) :=
  ⟨⟨1800, (served.setHeld 0x2610 1 2000).modRail 0 (fun x => { x with status := .good }), by decide +kernel⟩,
    ⟨0, served, by decide +kernel⟩,
    ⟨2000, (served.setHeld 0x2610 1 2000).modRail 0 (fun x => { x with status := .pending, ramped := true, inRun := 1 }),
      by decide +kernel⟩,
    ⟨0, { served with rails := { served.rails with slot := 17 } }, 5, by decide +kernel⟩,
    ⟨0, { served with rails := { served.rails with slot := 18 } }, by decide +kernel⟩,
    ⟨0, { served with rails := { served.rails with slot := 19 } }, by decide +kernel⟩,
    ⟨0, (served.setHeld 0x2610 1 1000).modRail 0 (fun x => { x with status := .good }), by decide +kernel⟩,
    ⟨0, (served.setHeld 0x2610 1 1000).modRail 0 (fun x => { x with status := .good, outRun := 1000 }), by decide +kernel⟩,
    ⟨0, (served.setHeld 0x2610 1 1000).modRail 0 (fun x => { x with status := .warning, inRun := 1000 }), by decide +kernel⟩,
    ⟨0, (served.setHeld 0x2610 1 1000).modRail 0 (fun x => { x with status := .pending, inRun := 1000 }), by decide +kernel⟩,
    ⟨0, (railed.setHeld 0x2610 0x0E 1).modRail 0 (fun x => { x with status := .warning }), by decide +kernel⟩,
    ⟨0, (served.setHeld 0x2610 0x0E 2).modRail 0 (fun x => { x with status := .warning }), by decide +kernel⟩,
    ⟨0, served, by decide +kernel⟩⟩

theorem test_witness_WalksAndRamps :
    (∃ (gs : List ℕ) (q : ℕ) (s : State), s.rails.walk = .up gs ∧ s.rails.delaying = true ∧ stepsWithGroup s = false ∧ s.nextUp
      gs (s.rails.pos + 1) = some q) ∧
    (∃ (gs : List ℕ) (s : State), s.rails.walk = .up gs ∧ s.rails.delaying = true ∧ stepsWithGroup s = false ∧ s.nextUp gs
      (s.rails.pos + 1) = none) ∧
    (∃ (gs : List ℕ) (s : State), s.rails.walk = .up gs ∧ s.rails.delaying = true ∧ stepsWithGroup s = true) ∧
    (∃ (gs : List ℕ) (q : ℕ) (s : State), s.rails.walk = .down gs ∧ s.noneFalling = false ∧ s.fallenAll = true ∧
      (stepsWithGroup s && s.tremor.walk == .downWalk) = false ∧ (clearFalling s).nextDown gs s.rails.pos = some q) ∧
    (∃ (s : State), s.rails.walk = .none ∧ s.noneFalling = false ∧ s.fallenAll = true ∧ s.life.dev ≠ .warn) ∧
    (∃ (gs : List ℕ) (s : State), s.rails.walk = .down gs ∧ s.noneFalling = false ∧ (stepsWithGroup s && s.tremor.walk ==
      .downWalk) = false ∧ (clearFalling s).nextDown gs s.rails.pos = none ∧ (s.life.dev = .simmer ∨ s.life.dev = .sinter)) ∧
    (∃ (g : Fin 8) (lag : ℕ) (s : State), s.rails.gate[g].state = .ramping ∧ s.isSourceGate g = true) ∧
    (∃ (g : Fin 8) (lag : ℕ) (r : Fin 12) (s : State), s.rails.gate[g].state = .ramping ∧ s.isSourceGate g = false ∧ s.railOf g
      = some r) ∧
    (∃ (g : Fin 8) (lag : ℕ) (r : Fin 12) (s : State) (kind : ℕ) (cmd : Instr), ((kind, cmd) ∈ [(1, Instr.rampLagTrip g lag),
      (2, .rampTimeout g lag)]) ∧ s.rails.gate[g].state = .ramping ∧ s.isSourceGate g = false ∧ s.railOf g = some r ∧
      (s.life.dev = .serve ∨ s.life.dev = .restore ∨ s.life.dev = .boot ∧ s.life.boot ≠ .cold) ∧ s.railCfg r 0x0E ≠ 2 ∧
      stepsWithGroup s = false) ∧
    (∃ (r : Fin 12) (s : State), s.gated r = true ∧ (s.rl r).mask = false ∧ (s.rl r).status = .pending ∧ (s.rl r).ramped = true
      ∧ s.filterCount r + 2 ≤ (s.rl r).scans ∧ (s.life.dev = .serve ∨ s.life.dev = .restore ∨ s.life.dev = .boot ∧ s.life.boot ≠
      .cold) ∧ s.railCfg r 0x0E ≠ 2 ∧ stepsWithGroup s = false) ∧
    (∃ (g : Fin 8) (lag : ℕ) (r : Fin 12) (s : State) (kind : ℕ) (cmd : Instr), ((kind, cmd) ∈ [(1, Instr.rampLagTrip g lag),
      (2, .rampTimeout g lag)]) ∧ s.rails.gate[g].state = .ramping ∧ s.isSourceGate g = false ∧ s.railOf g = some r ∧ s.life.dev
      = .boot ∧ s.life.boot = .cold ∧ s.life.haltPending = 0 ∧ s.outage.phase = .none ∧ outranked 4 s = false) ∧
    (∃ (g : Fin 8) (lag : ℕ) (s : State) (kind : ℕ) (cmd : Instr), ((kind, cmd) ∈ [(1, Instr.rampLagTrip g lag), (2,
      .rampTimeout g lag)]) ∧ s.rails.gate[g].state = .ramping ∧ s.isSourceGate g = true ∧ s.hold.state ≠ 4 ∧ s.life.dev ≠
      .simmer) :=
  ⟨⟨[1], 1, { railed with rails := { railed.rails with walk := .up [1], delaying := true } }, by decide +kernel⟩,
    ⟨[2], { railed with rails := { railed.rails with walk := .up [2], delaying := true } }, by decide +kernel⟩,
    ⟨[1],
      { railed with mode := { railed.mode with group := 1 }, tremor := { railed.tremor with walk := .upWalk }, rails := { railed.rails with walk := .up [1], delaying := true } },
      by decide +kernel⟩,
    ⟨[1], 1,
      (({ (((railed.setHeld 0x2611 1 1000).setHeld 0x2611 8 1).setHeld 0x2611 9 1).setHeld 0x2611 0x0A 2 with rails := { served.rails with walk := .down [1], pos := 2 } }).modRail
      1 (fun x => { x with falling := true })).modGate 0 (fun x => { x with driven := true }), by decide +kernel⟩,
    ⟨railed.modRail 0 (fun x => { x with falling := true }), by decide +kernel⟩,
    ⟨[1], inState .simmer ({ railed with rails := { railed.rails with walk := .down [1] } }.modRail 0 (fun x =>
      { x with falling := true })), by decide +kernel⟩,
    ⟨7, 0, (served.setHeld 0x2570 3 7).modGate 7 (fun x => { x with state := .ramping }), by decide +kernel⟩,
    ⟨0, 0, 0, railed.modGate 0 (fun x => { x with state := .ramping }), by decide +kernel⟩,
    ⟨0, 0, 0, (railed.setHeld 0x2610 0x0E 0).modGate 0 (fun x => { x with state := .ramping }), 2, .rampTimeout 0 0,
      by decide +kernel⟩,
    ⟨0, (railed.setHeld 0x2610 0x0E 1).modRail 0 (fun x => { x with status := .pending, ramped := true, scans := 3 }),
      by decide +kernel⟩,
    ⟨0, 0, 0, inBoot 8 (railed.modGate 0 (fun x => { x with state := .ramping })), 1, .rampLagTrip 0 0, by decide +kernel⟩,
    ⟨7, 0, (served.setHeld 0x2570 3 7).modGate 7 (fun x => { x with state := .ramping }), 1, .rampLagTrip 7 0,
      by decide +kernel⟩⟩

theorem test_witness_SuppliesResetsAndTrims :
    (∃ (s : State), supplyUp s = true) ∧
    (∃ (s : State), supplyUp s = true) ∧
    (∃ (k : Fin 4) (s : State), s.rails.rst[k] = .stretching) ∧
    (∃ (k : Fin 4) (s : State), s.rails.trim[k].slewing = true ∧ trimCode s k = s.rails.trim[k].target) :=
  ⟨⟨inBoot 4 { served with rails := { served.rails with pos := 3 } }, by decide +kernel⟩,
    ⟨inBoot 4 served, by decide +kernel⟩,
    ⟨3, { served with rails := { served.rails with rst := Vector.replicate 4 .stretching } }, by decide +kernel⟩,
    ⟨0, { served with rails := { served.rails with trim := Vector.replicate 4 ⟨7, 7, true, 0⟩ } }, by decide +kernel⟩⟩

theorem test_witness_TremorWalksAndLine :
    (∃ (s : State), isMember s = true ∧ s.tremor.pulling = false ∧ s.tremor.walk = .gathering) ∧
    (∃ (s : State), isMember s = true ∧ s.tremor.pulling = false ∧ s.tremor.walk = .upWalk ∧ s.tremor.counter < groupLength s) ∧
    (∃ (s : State), isMember s = true ∧ s.tremor.pulling = false ∧ s.tremor.walk = .upWalk ∧ groupLength s ≤ s.tremor.counter) ∧
    (∃ (s : State), isMember s = true ∧ s.tremor.pulling = false ∧ s.tremor.walk = .downWalk ∧ 1 < s.tremor.counter) ∧
    (∃ (s : State), isMember s = true ∧ s.tremor.pulling = false ∧ s.tremor.walk = .downWalk ∧ s.tremor.counter ≤ 1 ∧
      s.tremor.down ≠ .request ∧ (s.tremor.down = .none ∨ s.life.dev ≠ .warn)) ∧
    (∃ (s : State), isMember s = true ∧ s.tremor.pulling = false ∧ (s.tremor.walk = .idleUp ∨ s.tremor.walk = .idleDown) ∧
      s.tremor.asked = true) ∧
    (∃ (s : State), isMember s = true ∧ s.tremor.pulling = false ∧ (s.tremor.walk = .idleUp ∨ s.tremor.walk = .idleDown) ∧
      s.tremor.asked = false) ∧
    (∃ (s : State), isMember s = true ∧ s.tremor.pulling = true ∧ workDone s = true ∧ s.tremor.bootHold = false) ∧
    (∃ (s : State), isMember s = true ∧ s.tremor.pulling = true ∧ workDone s = true ∧ s.tremor.bootHold = true) ∧
    (∃ (s : State), s.tremor.pulling = true ∧ workDone s = false) ∧
    (∃ (s : State), (s.tremor.walk = .idleUp ∨ s.tremor.walk = .idleDown)) ∧
    (∃ (s : State), s.tremor.walk ≠ .idleUp ∧ s.tremor.walk ≠ .idleDown) ∧
    (∃ (s : State), isMember s = true ∧ lineIdle s = true ∧ s.tremor.low = true) ∧
    (∃ (s : State), isMember s = true ∧ lineIdle s = true ∧ s.tremor.low = true ∧ s.tremor.bootHold = false) ∧
    (∃ (s : State), stepsWithGroup s = true ∧ lineIdle s = true ∧ s.tremor.wantDown ≠ .none ∧ s.tremor.pulling = false ∧
      s.tremor.low = false) ∧
    (∃ (s : State), stepsWithGroup s = true ∧ lineIdle s = true ∧ s.tremor.wantReset = true ∧ s.tremor.pulling = false ∧
      s.tremor.low = false) ∧
    (∃ (s : State), s.life.dev = .boot ∧ s.life.boot = .cold ∧ isMember s = true ∧ s.tremor.bootHold = false ∧ s.tremor.walk =
      .idleDown) ∧
    (∃ (s : State), s.life.dev = .boot ∧ isMember s = true ∧ s.tremor.walk = .gathering) :=
  ⟨⟨{ served with mode := { served.mode with group := 1 }, tremor := { served.tremor with walk := .gathering } },
      by decide +kernel⟩,
    ⟨{ (served.setHeld 0x2740 2 2) with mode := { served.mode with group := 1 }, tremor := { served.tremor with walk := .upWalk, counter := 1 } },
      by decide +kernel⟩,
    ⟨{ (served.setHeld 0x2740 2 2) with mode := { served.mode with group := 1 }, tremor := { served.tremor with walk := .upWalk, counter := 2 } },
      by decide +kernel⟩,
    ⟨{ served with mode := { served.mode with group := 1 }, tremor := { served.tremor with walk := .downWalk, counter := 2 } },
      by decide +kernel⟩,
    ⟨{ served with mode := { served.mode with group := 1 }, tremor := { served.tremor with walk := .downWalk, counter := 1 } },
      by decide +kernel⟩,
    ⟨{ served with mode := { served.mode with group := 1 }, tremor := { served.tremor with walk := .idleUp, asked := true } },
      by decide +kernel⟩,
    ⟨{ served with mode := { served.mode with group := 1 }, tremor := { served.tremor with walk := .idleDown } },
      by decide +kernel⟩,
    ⟨at_ 3000
      { served with mode := { served.mode with group := 1 }, tremor := { served.tremor with pulling := true, walk := .gathering } },
      by decide +kernel⟩,
    ⟨at_ 3000
      { served with mode := { served.mode with group := 1 }, tremor := { served.tremor with pulling := true, walk := .gathering, bootHold := true, atStep8 := true } },
      by decide +kernel⟩,
    ⟨{ served with tremor := { served.tremor with pulling := true, walk := .fault } }, by decide +kernel⟩,
    ⟨served, by decide +kernel⟩,
    ⟨{ served with tremor := { served.tremor with walk := .upWalk } }, by decide +kernel⟩,
    ⟨{ served with mode := { served.mode with group := 1 }, tremor := { served.tremor with low := true } }, by decide +kernel⟩,
    ⟨{ served with mode := { served.mode with group := 1 }, tremor := { served.tremor with low := true } }, by decide +kernel⟩,
    ⟨{ served with mode := { served.mode with group := 1 }, tremor := { served.tremor with wantDown := .hostSave } },
      by decide +kernel⟩,
    ⟨{ served with mode := { served.mode with group := 1 }, tremor := { served.tremor with wantReset := true } },
      by decide +kernel⟩,
    ⟨inBoot 2 { served with mode := { served.mode with group := 1 } }, by decide +kernel⟩,
    ⟨inBoot 8 { served with mode := { served.mode with group := 1 }, tremor := { served.tremor with walk := .gathering } },
      by decide +kernel⟩⟩

theorem test_witness_TremorFaults :
    ∃ (s : State) (ev : ℕ) (kind : ℕ) (cmd : Instr), (cmd = Instr.tremorStepTimeout ∧ ev = 389 ∧ kind = 8 ∧ s.tremor.pulling =
      false ∧ stepTimed s = true ∨ cmd = .tremorWireFault ∧ ev = 390 ∧ kind = 9 ∧ s.tremor.pulling = true) ∧ stepsWithGroup s =
      true :=
  ⟨inState .simmer { served with mode := { served.mode with group := 1 }, tremor := { served.tremor with walk := .upWalk } },
    389, 8, .tremorStepTimeout, by decide +kernel⟩

theorem test_witness_OutageBegins :
    (∃ (s : State), (s.life.dev = .serve ∨ s.life.dev = .restore) ∧ s.life.restarting = false ∧ outranked 5 s = false) ∧
    (∃ (s : State), (s.life.dev = .warn ∨ s.life.dev = .simmer)) ∧
    (∃ (s : State), s.life.dev = .warn ∧ s.outage.supervisorLed = false ∧ s.outage.warnEnded = false ∧ s.life.fatalPath = false
      ∧ s.life.restarting = false) ∧
    (∃ (s : State), s.life.dev = .warn ∧ s.outage.phase = .warnWindow) ∧
    (∃ (s : State), s.life.dev = .warn ∧ s.outage.warnEnded = false ∧ outranked 2 s = false) ∧
    (∃ (k : Fin 2) (s : State), s.life.dev.supervised = true ∧ (s.life.dev ≠ .warn ∨ s.outage.warnEnded = false)) ∧
    (∃ (k : Fin 2) (s : State), s.life.dev = .warn ∧ s.outage.warnEnded = true ∧ s.outage.settling = false ∧ (∀ j, j ≠ k →
      (s.cfg 0x2800 4).testBit j.val = true → s.outage.drvactLow[j] = true)) ∧
    (∃ (s : State), s.life.dev = .warn ∧ s.outage.warnEnded = true ∧ s.outage.settling = false ∧ drvactAllLow s = false) ∧
    (∃ (s : State), s.life.dev = .warn ∧ s.outage.settling = true ∧ s.outage.settled = false ∧ outranked 2 s = false) ∧
    (∃ (q : ℕ) (s : State), s.life.dev = .boot ∧ s.outage.phase = .settle ∧ goesDown s.rails.walk = false ∧ s.nextDown
      everyGroup 12 = some q) :=
  ⟨⟨served, by decide +kernel⟩,
    ⟨inState .simmer served, by decide +kernel⟩,
    ⟨inState .warn served, by decide +kernel⟩,
    ⟨inState .warn { served with outage := { served.outage with phase := .warnWindow } }, by decide +kernel⟩,
    ⟨inState .warn served, by decide +kernel⟩,
    ⟨1, inState .warn served, by decide +kernel⟩,
    ⟨0, inState .warn { (served.setHeld 0x2800 4 1) with outage := { served.outage with warnEnded := true } },
      by decide +kernel⟩,
    ⟨inState .warn { (served.setHeld 0x2800 4 3) with outage := { served.outage with warnEnded := true } }, by decide +kernel⟩,
    ⟨inState .warn { served with outage := { served.outage with settling := true } }, by decide +kernel⟩,
    ⟨1, inBoot 8 ({ railed with outage := { railed.outage with phase := .settle } }.modGate 0 (fun x =>
      { x with driven := true })), by decide +kernel⟩⟩

theorem test_witness_SimmerAndSinterEnd :
    (∃ (s : State) (c : ℕ) (cmd : Instr), ((c, cmd) ∈ [(2, Instr.sinterDeadlineExpiry), (3, .simmerTimerExpiry)]) ∧ s.life.dev
      = .simmer ∧ s.life.restarting = false ∧ s.outage.deadline ≠ none ∧ s.life.dramLost = false ∧ outranked 2 s = false) ∧
    (∃ (s : State) (cmd : Instr), cmd ∈ [Instr.sinterDeadlineExpiry, .simmerTimerExpiry] ∧ s.life.dev = .simmer ∧
      s.life.restarting = false ∧ s.outage.deadline ≠ none ∧ s.life.dramLost = true ∧ outranked 2 s = false) ∧
    (∃ (s : State), s.life.dev = .simmer ∧ s.life.restarting = true ∧ outranked 2 s = false) ∧
    (∃ (s : State), s.life.dev = .simmer ∧ s.life.restarting = false) ∧
    (∃ (e : ℕ) (d : ℕ) (s : State), s.life.dev = .sinter ∧ s.outage.phase = .copy ∧ s.life.restarting = false) ∧
    (∃ (s : State), s.life.dev = .sinter ∧ s.outage.phase = .commit ∧ s.life.restarting = false) :=
  ⟨⟨inState .simmer { served with outage := { served.outage with deadline := some 5 } }, 3, .simmerTimerExpiry,
      by decide +kernel⟩,
    ⟨inState .simmer
      { served with life := { served.life with dramLost := true }, outage := { served.outage with deadline := some 5 } },
      .sinterDeadlineExpiry, by decide +kernel⟩,
    ⟨inState .simmer { served with life := { served.life with restarting := true } }, by decide +kernel⟩,
    ⟨inState .simmer served, by decide +kernel⟩,
    ⟨0, 0, inState .sinter { served with outage := { served.outage with phase := .copy } }, by decide +kernel⟩,
    ⟨inState .sinter { served with outage := { served.outage with phase := .commit } }, by decide +kernel⟩⟩

theorem test_witness_PowerReturns :
    (∃ (s : State), (s.life.dev = .warn ∨ s.life.dev = .simmer) ∧ s.hold.failed = true ∧ s.life.fatalPath = false ∧ outranked 3
      s = false) ∧
    (∃ (s : State), s.life.dev = .sinter ∧ s.hold.failed = true ∧ s.life.fatalPath = false ∧ outranked 3 s = false) ∧
    (∃ (s : State), s.life.dev = .keep ∧ s.hold.failed = true ∧ s.life.fatalPath = false ∧ outranked 3 s = false) ∧
    (∃ (s : State) (cmd : Instr), s.life.dev = .keep ∧ (cmd = Instr.keepTimeExpiry ∨ cmd = .keepFloorReached ∧ aboveFloor s
      .pack = false ∧ aboveFloor s .bank = false) ∧ s.life.wakeHeld = false ∧ outranked 2 s = false) ∧
    (∃ (s : State) (cmd : Instr), cmd ∈ [Instr.keepTimeExpiry, .keepFloorReached, .sinterDeadlineExpiry, .simmerTimerExpiry,
      .warnWindowEnd, .restoreComplete, .inputQualifyTimeout, .bootStepTimeout] ∧ outranked 2 s = true) :=
  ⟨⟨{ inState .simmer served with hold := { served.hold with failed := true } }, by decide +kernel⟩,
    ⟨inState .sinter { served with hold := { served.hold with failed := true } }, by decide +kernel⟩,
    ⟨inState .keep { served with hold := { served.hold with failed := true } }, by decide +kernel⟩,
    ⟨inState .keep served, .keepFloorReached, by decide +kernel⟩,
    ⟨{ inState .keep served with pending := [.wake] }, .keepTimeExpiry, by decide +kernel⟩⟩

theorem test_witness_PowerAndWake :
    (∃ (a : Bool) (b : Bool) (s : State), s.life.dev ≠ .off) ∧
    (∃ (s : State), s.life.dev = .off) ∧
    (∃ (s : State), s.life.dev = .off) ∧
    (∃ (s : State) (c : ℕ), (s.life.dev = .sleep ∧ c = 1 ∨ s.life.dev = .keep ∧ outranked 3 s = false ∧ c = 2)) ∧
    (∃ (s : State), s.life.dev = .keep ∧ outranked 3 s = true) ∧
    (∃ (s : State), s.life.dev ≠ .sleep ∧ s.life.dev ≠ .keep) :=
  ⟨⟨false, false, served, by decide +kernel⟩,
    ⟨State.reset, by decide +kernel⟩,
    ⟨State.reset, by decide +kernel⟩,
    ⟨inState .keep served, 2, by decide +kernel⟩,
    ⟨{ inState .keep (short0 served) with pending := [.scanSlot 0] }, by decide +kernel⟩,
    ⟨served, by decide +kernel⟩⟩

theorem test_witness_BootSteps :
    (∃ (r : BootReport) (s : State), boots s = true ∧ s.life.bootStep = 1) ∧
    (∃ (s : State), boots s = true ∧ s.life.bootStep = 3 ∧ s.life.step2Done = false) ∧
    (∃ (s : State), boots s = true ∧ s.life.bootStep = 3 ∧ s.life.step2Done = true) ∧
    (∃ (s : State), boots s = true ∧ s.life.bootStep = 4 ∧ s.rails.pos = 4) ∧
    (∃ (s : State), boots s = true ∧ s.life.bootStep = 5 ∧ s.life.trialState = 0) ∧
    (∃ (a : Bool) (b : Bool) (av : BitVec 32) (bv : BitVec 32) (ar : ℕ) (br : ℕ) (s : State), boots s = true ∧ s.life.bootStep
      = 6 ∧ s.life.otherSlot = false ∧ (if chosenB s then b && s.nor.slotB.whole else a && s.nor.slotA.whole) = true) ∧
    (∃ (a : Bool) (b : Bool) (av : BitVec 32) (bv : BitVec 32) (ar : ℕ) (br : ℕ) (s : State), boots s = true ∧ s.life.bootStep
      = 6 ∧ s.life.otherSlot = false ∧ (if chosenB s then b && s.nor.slotB.whole else a && s.nor.slotA.whole) = false ∧ (if
      chosenB s then a && s.nor.slotA.whole else b && s.nor.slotB.whole) = true) ∧
    (∃ (a : Bool) (b : Bool) (av : BitVec 32) (bv : BitVec 32) (ar : ℕ) (br : ℕ) (s : State), boots s = true ∧ s.life.bootStep
      = 6 ∧ s.life.otherSlot = true ∧ (if chosenB s then a && s.nor.slotA.whole else b && s.nor.slotB.whole) = true) ∧
    (∃ (a : Bool) (b : Bool) (av : BitVec 32) (bv : BitVec 32) (ar : ℕ) (br : ℕ) (s : State), boots s = true ∧ coldRuns s =
      true ∧ s.life.bootStep = 6 ∧ (a && s.nor.slotA.whole) = false ∧ (b && s.nor.slotB.whole) = false) ∧
    (∃ (s : State), boots s = true ∧ coldRuns s = true ∧ s.life.bootStep = 7 ∧ isSticky s = false) ∧
    (∃ (d : DevState) (s : State), boots s = true ∧ s.life.dev = .boot ∧ s.life.boot = .warm d ∧ s.life.bootStep = 7 ∧
      s.life.restarting = false ∧ bootYields s = false ∧ (∀ i ∈ [Island.supervisor, .host, .memory, .flash], s.island i ≠
      .fault)) ∧
    (∃ (s : State), boots s = true ∧ s.life.dev = .sinter ∧ s.life.restarting = true ∧ s.life.bootStep = 7) ∧
    (∃ (s : State), boots s = true ∧ s.life.bootStep = 8 ∧ memoryUp s = true) ∧
    (∃ (gib : ℕ) (s : State), boots s = true ∧ s.life.bootStep = 9) ∧
    (∃ (ds : List DieProbe) (i : ℕ) (rt : ℕ) (dn : Bool) (bad : ℕ) (s : State), boots s = true ∧ s.life.bootStep = 10) ∧
    (∃ (s : State), boots s = true ∧ coldRuns s = true ∧ s.life.restarting = false ∧ s.life.bootStep = 11 ∧ hostSideUp s = true
      ∧ bootYields s = false ∧ (∀ i ∈ [Island.supervisor, .host, .memory, .flash], s.island i ≠ .fault)) :=
  ⟨⟨.done, inBoot 1 served, by decide +kernel⟩,
    ⟨inBoot 3 served, by decide +kernel⟩,
    ⟨inBoot 3 { served with life := { served.life with step2Done := true } }, by decide +kernel⟩,
    ⟨inBoot 4 { served with rails := { served.rails with pos := 4 } }, by decide +kernel⟩,
    ⟨inBoot 5 served, by decide +kernel⟩,
    ⟨true, false, 1, 0, 1, 1, inBoot 6 served, by decide +kernel⟩,
    ⟨false, true, 1, 0, 1, 1, inBoot 6 served, by decide +kernel⟩,
    ⟨false, true, 1, 0, 1, 1, inBoot 6 { served with life := { served.life with otherSlot := true } }, by decide +kernel⟩,
    ⟨false, false, 1, 0, 1, 1, inBoot 6 served, by decide +kernel⟩,
    ⟨inBoot 7 served, by decide +kernel⟩,
    ⟨.serve, { (inBoot 7 served) with life := { (inBoot 7 served).life with boot := .warm .serve } }, by decide +kernel⟩,
    ⟨inState .sinter { served with life := { served.life with restarting := true, bootStep := 7 } }, by decide +kernel⟩,
    ⟨inBoot 8 served, by decide +kernel⟩,
    ⟨16, inBoot 9 served, by decide +kernel⟩,
    ⟨[.accepted 8 4 1, .rejected], 0, 0, false, 0, inBoot 10 served, by decide +kernel⟩,
    ⟨inBoot 11 served, by decide +kernel⟩⟩

theorem test_witness_BootFailuresAndRestarts :
    (∃ (s : State), boots s = true ∧ s.life.bootStep = 1 ∧ outranked 2 s = false) ∧
    (∃ (s : State), boots s = true ∧ s.life.bootStep = 5 ∧ s.life.trialState = 0 ∧ outranked 2 s = false) ∧
    (∃ (s : State) (n : ℕ) (c : ℕ), boots s = true ∧ (n, c) ∈ [(4, 2), (9, 3)] ∧ s.life.bootStep = n ∧ outranked 2 s = false) ∧
    (∃ (s : State), boots s = true ∧ coldRuns s = true ∧ s.life.bootStep = 6 ∧ s.life.otherSlot = true ∧ outranked 2 s = false) ∧
    (∃ (s : State), boots s = true ∧ s.life.bootStep = 6 ∧ s.life.otherSlot = false ∧ outranked 2 s = false) ∧
    (∃ (s : State), boots s = true ∧ s.life.bootStep = 10 ∧ outranked 2 s = false) ∧
    (∃ (s : State), boots s = true ∧ (s.life.bootStep = 8 ∨ s.life.bootStep = 11) ∧ outranked 2 s = false) ∧
    (∃ (s : State), boots s = true ∧ coldRuns s = true ∧ s.life.bootStep = 3 ∧ s.life.wakeHeld = false ∧ outranked 2 s = false) ∧
    (∃ (s : State), watched s = true ∧ (s.life.watchdogTimes.filter (fun e => decide (s.time.now < e + tenMinutes))).length < 2
      ∧ (s.life.dev = .serve ∨ s.life.dev = .restore) ∧ outranked 2 s = false) ∧
    (∃ (s : State), watched s = true ∧ (s.life.watchdogTimes.filter (fun e => decide (s.time.now < e + tenMinutes))).length < 2
      ∧ s.life.dev ∈ [DevState.warn, .simmer, .sinter] ∧ s.life.restarting = false) ∧
    (∃ (s : State), watched s = true ∧ (s.life.watchdogTimes.filter (fun e => decide (s.time.now < e + tenMinutes))).length < 2
      ∧ s.life.dev ∉ [DevState.serve, .restore, .warn, .simmer, .sinter]) ∧
    (∃ (s : State), watched s = true ∧ 2 ≤ (s.life.watchdogTimes.filter (fun e => decide (s.time.now < e + tenMinutes))).length
      ∧ (s.life.dev = .serve ∨ s.life.dev = .restore) ∧ s.life.restarting = false) ∧
    (∃ (s : State), s.life.fwTrial = true ∧ (s.life.dev = .serve ∨ s.life.dev = .restore)) ∧
    (∃ (s : State), s.life.dev = .restore) ∧
    (∃ (s : State), s.life.dev = .restore ∧ unrestoredCount s.cache = 0 ∧ outranked 2 s = false) :=
  ⟨⟨inBoot 1 served, by decide +kernel⟩,
    ⟨inBoot 5 served, by decide +kernel⟩,
    ⟨inBoot 9 served, 9, 3, by decide +kernel⟩,
    ⟨inBoot 6 { served with life := { served.life with otherSlot := true } }, by decide +kernel⟩,
    ⟨inBoot 6 served, by decide +kernel⟩,
    ⟨inBoot 10 served, by decide +kernel⟩,
    ⟨inBoot 11 served, by decide +kernel⟩,
    ⟨inBoot 3 served, by decide +kernel⟩,
    ⟨served, by decide +kernel⟩,
    ⟨inState .sinter served, by decide +kernel⟩,
    ⟨inState .halt served, by decide +kernel⟩,
    ⟨{ served with life := { served.life with watchdogTimes := [0, 0] } }, by decide +kernel⟩,
    ⟨{ served with life := { served.life with fwTrial := true } }, by decide +kernel⟩,
    ⟨inState .restore served, by decide +kernel⟩,
    ⟨inState .restore served, by decide +kernel⟩⟩

theorem test_witness_CanCommands :
    (∃ (node : Fin 128) (s : State) (cmd : Instr) (n : Nmt), (cmd, n) ∈ [(Instr.nmtStart node, Nmt.operational), (.nmtStop
      node, .stopped), (.nmtEnterPreOperational node, .preOperational)] ∧ nmtFor node s = true) ∧
    (∃ (node : Fin 128) (s : State) (cmd : Instr), cmd ∈ [Instr.nmtResetNode node, .nmtResetCommunication node] ∧ nmtFor node s
      = true) ∧
    (∃ (node : Fin 128) (s : State) (cmd : Instr), cmd ∈ [Instr.nmtStart node, .nmtStop node, .nmtEnterPreOperational node,
      .nmtResetNode node, .nmtResetCommunication node] ∧ nmtFor node s = false) ∧
    (∃ (s : State), canUp s = true ∧ s.cfg 0x1017 0 ≠ 0) ∧
    (∃ (k : Fin 4) (s : State), canUp s = true ∧ s.can.nmt = .operational ∧ tpdoFitted s k = true ∧ tpdoDue s k = true) ∧
    (∃ (k : Fin 4) (s : State), (canUp s = false ∨ s.can.nmt ≠ .operational ∨ tpdoFitted s k = false)) ∧
    (∃ (m : List Byte) (rest : List (List Byte)) (s : State), s.can.emcy = m :: rest ∧ canUp s = true ∧ s.can.nmt ≠ .stopped ∧
      s.emcyId.testBit 31 = false) ∧
    (∃ (e : CanError) (s : State), canUp s = true) :=
  ⟨⟨32, served, .nmtStop 32, .stopped, by decide +kernel⟩,
    ⟨0, served, .nmtResetNode 0, by decide +kernel⟩,
    ⟨33, served, .nmtStart 33, by decide +kernel⟩,
    ⟨served.setHeld 0x1017 0 1, by decide +kernel⟩,
    ⟨0, served, by decide +kernel⟩,
    ⟨1, served, by decide +kernel⟩,
    ⟨[], [], { served with can := { served.can with emcy := [[]] } }, by decide +kernel⟩,
    ⟨.errorPassive, served, by decide +kernel⟩⟩

theorem test_witness_LinkAndFunctionResets :
    (∃ (speed : ℕ) (width : ℕ) (vfs : ℕ) (s : State), s.port.ready = true ∧ s.island .host = .running ∧ s.port.linkState ≠ 2) ∧
    (∃ (s : State), s.port.linkState = 2) ∧
    (∃ (fn : Fin 16) (mps : ℕ) (mrrs : ℕ) (s : State), fnReached s fn = true) ∧
    (∃ (fn : Fin 16) (s : State), fnReached s fn = true ∧ fn ≠ 0) ∧
    (∃ (s : State), fnReached s 0 = true) ∧
    (∃ (s : State), s.island .host = .running) ∧
    (∃ (s : State), s.port.linkState = 2) :=
  ⟨⟨3, 4, 15, { served with port := { served.port with linkState := 0 } }, by decide +kernel⟩,
    ⟨served, by decide +kernel⟩,
    ⟨15, 256, 512, served.modFn 15 (fun f => { f with pba := 5 }), by decide +kernel⟩,
    ⟨15, served, by decide +kernel⟩,
    ⟨served, by decide +kernel⟩,
    ⟨served, by decide +kernel⟩,
    ⟨served, by decide +kernel⟩⟩

theorem test_witness_QueuePairs :
    (∃ (fn : Fin 16) (qp : Fin 4) (regs : QueueRegs) (s : State), fnReached s fn = true ∧ (s.pair fn qp).enable = false ∧
      enableError s fn qp (loadRegs regs (s.pair fn qp)) = 0) ∧
    (∃ (fn : Fin 16) (qp : Fin 4) (regs : QueueRegs) (s : State), fnReached s fn = true ∧ (s.pair fn qp).enable = false ∧
      enableError s fn qp (loadRegs regs (s.pair fn qp)) ≠ 0) ∧
    (∃ (fn : Fin 16) (qp : Fin 4) (regs : QueueRegs) (s : State), fnReached s fn = true ∧ (s.pair fn qp).enable = true) ∧
    (∃ (fn : Fin 16) (qp : Fin 4) (s : State), fnReached s fn = true ∧ (s.pair fn qp).enable = true) ∧
    (∃ (fn : Fin 16) (qp : Fin 4) (s : State), (s.pair fn qp).enable = false ∧ (∀ c ∈ s.port.cmds, c.fn ≠ fn ∨ c.qp ≠ qp)) ∧
    (∃ (fn : Fin 16) (qp : Fin 4) (c : Cmd) (s : State), c ∈ s.port.cmds ∧ c.fn = fn ∧ c.qp = qp) ∧
    (∃ (fn : Fin 16) (qp : Fin 4) (v : BitVec 32) (s : State), fnReached s fn = true ∧ (s.pair fn qp).enable = true ∧ (s.pair
      fn qp).fault = false ∧ doorbellWaits s fn = false ∧ v.toNat < sqLen (s.pair fn qp) ∧ ((s.pair fn qp).sqTail + sqLen
      (s.pair fn qp) - (s.pair fn qp).sqHead) % sqLen (s.pair fn qp) + (v.toNat + sqLen (s.pair fn qp) - (s.pair fn qp).sqTail)
      % sqLen (s.pair fn qp) < sqLen (s.pair fn qp)) ∧
    (∃ (fn : Fin 16) (qp : Fin 4) (v : BitVec 32) (s : State), fnReached s fn = true ∧ (s.pair fn qp).enable = true ∧
      doorbellWaits s fn = false ∧ v.toNat < cqLen (s.pair fn qp) ∧ (v.toNat + cqLen (s.pair fn qp) - (s.pair fn qp).cqHead) %
      cqLen (s.pair fn qp) ≤ ((s.pair fn qp).cqTail + cqLen (s.pair fn qp) - (s.pair fn qp).cqHead) % cqLen (s.pair fn qp)) ∧
    (∃ (fn : Fin 16) (qp : Fin 4) (v : BitVec 32) (s : State) (cmd : Instr), fnReached s fn = true ∧ (s.pair fn qp).enable =
      true ∧ (s.pair fn qp).fault = false ∧ doorbellWaits s fn = false ∧ (cmd = Instr.sqTailDoorbell fn qp v ∧ sqLen (s.pair fn
      qp) ≤ v.toNat ∨ cmd = .cqHeadDoorbell fn qp v ∧ cqLen (s.pair fn qp) ≤ v.toNat)) ∧
    (∃ (fn : Fin 16) (qp : Fin 4) (v : BitVec 32) (s : State) (b : Bool) (cmd : Instr), (b, cmd) ∈ [(false,
      Instr.sqTailDoorbell fn qp v), (true, .cqHeadDoorbell fn qp v)] ∧ fnReached s fn = true ∧ (s.pair fn qp).enable = true ∧
      doorbellWaits s fn = true) ∧
    (∃ (fn : Fin 16) (qp : Fin 4) (v : BitVec 32) (s : State) (cmd : Instr), cmd ∈ [Instr.sqTailDoorbell fn qp v,
      .cqHeadDoorbell fn qp v] ∧ (s.pair fn qp).enable = false) :=
  ⟨⟨1, 0, ⟨0x1000, 0x2000, 15, 15, 0, 0, 0, false⟩, served.modPair 1 0 (fun p => { p with enable := false }),
      by decide +kernel⟩,
    ⟨1, 0, ⟨0x1001, 0x2000, 15, 15, 0, 0, 0, false⟩, served.modPair 1 0 (fun p => { p with enable := false }),
      by decide +kernel⟩,
    ⟨1, 3, ⟨0, 0, 0, 0, 2, 3, 4, true⟩, served, by decide +kernel⟩,
    ⟨15, 3, served, by decide +kernel⟩,
    ⟨15, 3, served.modPair 15 3 (fun p => { p with enable := false }), by decide +kernel⟩,
    ⟨1, 0, cmd1 0, under (cmd1 0) served, by decide +kernel⟩,
    ⟨0, 0, 15, served, by decide +kernel⟩,
    ⟨0, 0, 15, served.modPair 0 0 (fun p => { p with cqTail := 15 }), by decide +kernel⟩,
    ⟨0, 0, 16, served, .sqTailDoorbell 0 0 16, by decide +kernel⟩,
    ⟨0, 0, 1, inBoot 7 served, false, .sqTailDoorbell 0 0 1, by decide +kernel⟩,
    ⟨0, 0, 1, served.modPair 0 0 (fun p => { p with enable := false }), .cqHeadDoorbell 0 0 1, by decide +kernel⟩⟩

theorem test_witness_FetchAndPost :
    (∃ (fn : Fin 16) (qp : Fin 4) (rest : List (Fin 16 × Fin 4)) (w : BitVec 512) (s : State), s.port.fetchStopped = false ∧
      fetchPlan s = (fn, qp) :: rest ∧ (∀ c ∈ s.port.cmds, c.id < s.port.fetched)) ∧
    (∃ (fn : Fin 16) (qp : Fin 4) (rest : List (Fin 16 × Fin 4)) (s : State), s.port.fetchStopped = false ∧ fetchPlan s = (fn,
      qp) :: rest) ∧
    (∃ (rs : List FetchResult) (s : State), s.port.fetchStopped = true) ∧
    (∃ (fn : Fin 16) (qp : Fin 4) (x : Completion) (rest : List Completion) (s : State), (s.pair fn qp).waiting = x :: rest ∧
      cqFull (s.pair fn qp) = false ∧ dmaOpen s fn = true ∧ (s.pair fn qp).irqEn = false) ∧
    (∃ (fn : Fin 16) (qp : Fin 4) (x : Completion) (rest : List Completion) (s : State), (s.pair fn qp).waiting = x :: rest ∧
      cqFull (s.pair fn qp) = false ∧ dmaOpen s fn = true ∧ (s.pair fn qp).irqEn = true ∧ (s.pair fn qp).aggCount.toNat ≤
      (s.pair fn qp).unsignalled) ∧
    (∃ (fn : Fin 16) (qp : Fin 4) (s : State), ((s.pair fn qp).waiting = [] ∨ cqFull (s.pair fn qp) = true) ∧ (s.pair fn
      qp).irqEn = false) ∧
    (∃ (fn : Fin 16) (qp : Fin 4) (s : State), dmaOpen s fn = true ∧ (s.pair fn qp).aggTime ≠ 0 ∧ (s.pair fn qp).irqEn = true ∧
      0 < (s.pair fn qp).unsignalled) :=
  ⟨⟨0, 0, [], 0, served.modPair 0 0 (fun p => { p with sqTail := 1 }), by decide +kernel⟩,
    ⟨0, 0, [], served.modPair 0 0 (fun p => { p with sqTail := 1 }), by decide +kernel⟩,
    ⟨[], { served with port := { served.port with fetchStopped := true } }, by decide +kernel⟩,
    ⟨0, 0, ⟨0, 0, 0, 0, 0, false, false, false⟩, [], served.modPair 0 0 (fun p =>
      { p with waiting := [⟨0, 0, 0, 0, 0, false, false, false⟩] }), by decide +kernel⟩,
    ⟨0, 0, ⟨0, 0, 0, 0, 0, false, false, false⟩, [], served.modPair 0 0 (fun p =>
      { p with irqEn := true, waiting := [⟨0, 0, 0, 0, 0, false, false, false⟩] }), by decide +kernel⟩,
    ⟨0, 0, served, by decide +kernel⟩,
    ⟨0, 0, served.modPair 0 0 (fun p => { p with irqEn := true, aggTime := 1, unsignalled := 1 }), by decide +kernel⟩⟩

theorem test_witness_PutCommands :
    (∃ (id : ℕ) (elems : Option (List Element)) (c : Cmd) (u : State) (s : State), Runs .put id elems c s ∧ recordVolume
      (sqeVolume c.sqe) = false ∧ effPolicy s c.fn ≠ 2 ∧ (effPolicy s c.fn = 0 → newBlocks s c ≤ headroom s c.fn) ∧ noHandle s
      c.fn (sqeVolume c.sqe) = false ∧ takeSlots s c.fn (sqeVolume c.sqe) (sqeLba c.sqe) (sqeLength c.sqe) (slotlessBlocks s c)
      = some u) ∧
    (∃ (id : ℕ) (elems : Option (List Element)) (c : Cmd) (s : State), Runs .put id elems c s ∧ recordVolume (sqeVolume c.sqe)
      = false ∧ effPolicy s c.fn ≠ 2 ∧ (effPolicy s c.fn = 0 → newBlocks s c ≤ headroom s c.fn) ∧ noHandle s c.fn (sqeVolume
      c.sqe) = true) ∧
    (∃ (id : ℕ) (elems : Option (List Element)) (c : Cmd) (s : State), Runs .put id elems c s ∧ recordVolume (sqeVolume c.sqe)
      = false ∧ effPolicy s c.fn ≠ 2 ∧ (effPolicy s c.fn = 0 → newBlocks s c ≤ headroom s c.fn) ∧ noHandle s c.fn (sqeVolume
      c.sqe) = false ∧ takeSlots s c.fn (sqeVolume c.sqe) (sqeLba c.sqe) (sqeLength c.sqe) (slotlessBlocks s c) = none) ∧
    (∃ (id : ℕ) (elems : Option (List Element)) (c : Cmd) (s : State), Runs .put id elems c s ∧ recordVolume (sqeVolume c.sqe)
      = false ∧ effPolicy s c.fn = 0 ∧ headroom s c.fn < newBlocks s c) ∧
    (∃ (id : ℕ) (elems : Option (List Element)) (c : Cmd) (s : State), Runs .put id elems c s ∧ (recordVolume (sqeVolume c.sqe)
      = true ∨ effPolicy s c.fn = 2)) ∧
    (∃ (id : ℕ) (bs : List Block) (c : Cmd) (s : State), findCmd s id = some c ∧ cmdIs .put .transferring c = true ∧ dmaOpen s
      c.fn = true ∧ bs.length = sqeLength c.sqe) ∧
    (∃ (id : ℕ) (c : Cmd) (s : State), findCmd s id = some c ∧ cmdIs .put .transferring c = true ∧ dmaOpen s c.fn = true) ∧
    (∃ (id : ℕ) (ecc : Option ℕ) (o : Op) (c : Cmd) (s : State) (cmd : Instr), (o, cmd) ∈ [(Op.put, Instr.put id none), (.get,
      .get id none ecc), (.list, .list id none), (.segmentRead, .segmentRead id none ecc)] ∧ findCmd s id = some c ∧ cmdIs o
      .fetched c = true ∧ mayStart s c = true ∧ dmaOpen s c.fn = true ∧ sqeDataList c.sqe = true) :=
  ⟨⟨0, some [], cmd1 (entry 1 5 0 1 0 0 4096), (takeSlots (under (cmd1 (entry 1 5 0 1 0 0 4096)) served) 1 5 0 1 1).getD
      served, under (cmd1 (entry 1 5 0 1 0 0 4096)) served, runs_of (by decide +kernel), by decide +kernel⟩,
    ⟨0, some [], cmd1 (entry 1 5 0 1 0 0 4096),
      { under (cmd1 (entry 1 5 0 1 0 0 4096)) served with cache := { served.cache with handles := (List.range 4096).map (fun i => (i, (1, BitVec.ofNat 32 (i + 100)))) } },
      runs_of (by decide +kernel), by decide +kernel⟩,
    ⟨0, some [], cmd1 (entry 1 5 0 1 0 0 4096),
      { under (cmd1 (entry 1 5 0 1 0 0 4096)) served with cache := { served.cache with usable := 0 } }, runs_of
      (by decide +kernel), by decide +kernel⟩,
    ⟨0, some [], cmd1 (entry 1 5 0 64 0 0 262144), under (cmd1 (entry 1 5 0 64 0 0 262144)) served, runs_of
      (by decide +kernel), by decide +kernel⟩,
    ⟨0, some [], cmd1 (entry 1 0xFFFFFF00 0 1 0 0 4096), under (cmd1 (entry 1 0xFFFFFF00 0 1 0 0 4096)) served, runs_of
      (by decide +kernel), by decide +kernel⟩,
    ⟨0, [0], { cmd1 (entry 1 5 0 1 0 0 4096) with stage := .transferring }, under
      { cmd1 (entry 1 5 0 1 0 0 4096) with stage := .transferring } served, by decide +kernel⟩,
    ⟨0, { cmd1 (entry 1 5 0 1 0 0 4096) with stage := .transferring }, under
      { cmd1 (entry 1 5 0 1 0 0 4096) with stage := .transferring } served, by decide +kernel⟩,
    ⟨0, none, .put, (cmd1 (entry (1 + 256) 5 0 1 0 0 16)), under (cmd1 (entry (1 + 256) 5 0 1 0 0 16)) served, .put 0 none,
      by decide +kernel⟩⟩

theorem test_witness_GetCommand :
    (∃ (id : ℕ) (elems : Option (List Element)) (c : Cmd) (ks : List ℕ) (s : State), Runs .get id elems c s ∧ lookBlocks s
      (targetOf c.fn c.sqe) (sqeVolume c.sqe) 0 (blocksOf c) = .slots ks ∧ unrestoredOf s ks = []) ∧
    (∃ (id : ℕ) (elems : Option (List Element)) (ecc : Option ℕ) (c : Cmd) (i : ℕ) (s : State), Runs .get id elems c s ∧
      lookBlocks s (targetOf c.fn c.sqe) (sqeVolume c.sqe) 0 (blocksOf c) = .absent i) ∧
    (∃ (id : ℕ) (elems : Option (List Element)) (ecc : Option ℕ) (c : Cmd) (i : ℕ) (s : State), Runs .get id elems c s ∧
      lookBlocks s (targetOf c.fn c.sqe) (sqeVolume c.sqe) 0 (blocksOf c) = .lost i) ∧
    (∃ (id : ℕ) (elems : Option (List Element)) (i : ℕ) (c : Cmd) (ks : List ℕ) (s : State), Runs .get id elems c s ∧
      lookBlocks s (targetOf c.fn c.sqe) (sqeVolume c.sqe) 0 (blocksOf c) = .slots ks ∧ unrestoredOf s ks = [] ∧ i < sqeLength
      c.sqe) ∧
    (∃ (id : ℕ) (elems : Option (List Element)) (ecc : Option ℕ) (c : Cmd) (ks : List ℕ) (s : State), Runs .get id elems c s ∧
      lookBlocks s (targetOf c.fn c.sqe) (sqeVolume c.sqe) 0 (blocksOf c) = .slots ks ∧ unrestoredOf s ks ≠ []) :=
  ⟨⟨0, some [], cmd1 (entry 2 5 0 1 0 0 4096), [0], holds block1 (under (cmd1 (entry 2 5 0 1 0 0 4096)) served), runs_of
      (by decide +kernel), by decide +kernel⟩,
    ⟨0, some [], none, cmd1 (entry 2 5 0 2 0 0 8192), 1, holds block1 (under (cmd1 (entry 2 5 0 2 0 0 8192)) served), runs_of
      (by decide +kernel), by decide +kernel⟩,
    ⟨0, some [], none, cmd1 (entry 2 5 0 1 0 0 4096), 0, holds { block1 with lost := true } (under (cmd1 (entry 2 5 0 1 0 0
      4096)) served), runs_of (by decide +kernel), by decide +kernel⟩,
    ⟨0, some [], 0, cmd1 (entry 2 5 0 1 0 0 4096), [0], holds block1 (under (cmd1 (entry 2 5 0 1 0 0 4096)) served), runs_of
      (by decide +kernel), by decide +kernel⟩,
    ⟨0, some [], none, cmd1 (entry 2 5 0 1 0 0 4096), [0], holds { block1 with unrestored := true } (under (cmd1 (entry 2 5 0
      1 0 0 4096)) served), runs_of (by decide +kernel), by decide +kernel⟩⟩

theorem test_witness_CleanAndDrop :
    (∃ (id : ℕ) (c : Cmd) (s : State), Machine.Inv s ∧ Runs .clean id none c s) ∧
    (∃ (id : ℕ) (c : Cmd) (s : State), Machine.Inv s ∧ Runs .drop id none c s) :=
  ⟨⟨0, cmd1 (entry 3 5 0 1 0 0 0), holds { block1 with dirty := true } (under (cmd1 (entry 3 5 0 1 0 0 0)) served), inv_of
      (by decide +kernel) (by decide +kernel), runs_of (by decide +kernel)⟩,
    ⟨0, cmd1 (entry 4 5 0 1 0 0 0), holds { block1 with dirty := true } (under (cmd1 (entry 4 5 0 1 0 0 0)) served), inv_of
      (by decide +kernel) (by decide +kernel), runs_of (by decide +kernel)⟩⟩

theorem test_witness_ListFenceSegmentRead :
    (∃ (id : ℕ) (elems : Option (List Element)) (c : Cmd) (s : State), let n := targetOf c.fn c.sqe; Runs .list id elems c s) ∧
    (∃ (id : ℕ) (c : Cmd) (s : State), Runs .fence id none c s ∧ fenceWaits s c = false) ∧
    (∃ (id : ℕ) (c : Cmd) (s : State), Runs .fence id none c s ∧ fenceWaits s c = true) ∧
    (∃ (id : ℕ) (c : Cmd) (s : State), findCmd s id = some c ∧ cmdIs .fence .fencing c = true ∧ fenceWaits s c = false) ∧
    (∃ (id : ℕ) (c : Cmd) (s : State), findCmd s id = some c ∧ fenceWaits s c = true) ∧
    (∃ (id : ℕ) (elems : Option (List Element)) (ecc : ℕ) (c : Cmd) (h : Slot) (hk : ℕ) (ks : List ℕ) (s : State),
      let n : Fin 16 := Fin.ofNat 16 (sqeVolume c.sqe).toNat; let e := segmentEnd s n (sqeLba c.sqe) h.data;
      let len := min (sqeLength c.sqe) (e - sqeParam1 c.sqe); Runs .segmentRead id elems c s ∧ (c.fn = s.cache.videoTenant ∨
      c.fn = 0) ∧ sqeLba c.sqe < 2 ^ 34 ∧ slotAt s.cache s.cache.videoTenant (segVolume n) (segLba (sqeLba c.sqe)) = some h ∧
      slotNo s.cache s.cache.videoTenant (segVolume n) (segLba (sqeLba c.sqe)) = some hk ∧ h.unrestored = false ∧ h.lost = false
      ∧ lookBlocks s s.cache.videoTenant (segVolume n) 0 (spanBlocks (sqeLba c.sqe) (sqeParam1 c.sqe) len) = .slots ks ∧
      unrestoredOf s ks = []) ∧
    (∃ (id : ℕ) (elems : Option (List Element)) (ecc : Option ℕ) (c : Cmd) (s : State), Runs .segmentRead id elems c s ∧ c.fn ≠
      s.cache.videoTenant ∧ c.fn ≠ 0) ∧
    (∃ (id : ℕ) (ecc : Option ℕ) (c : Cmd) (k : ℕ) (rest : List ℕ) (s : State), findCmd s id = some c ∧ c.stage = .fetching ∧
      c.fetches = k :: rest ∧ rest ≠ []) ∧
    (∃ (id : ℕ) (c : Cmd) (k : ℕ) (ks : List ℕ) (q : Slot) (s : State), Machine.Inv s ∧ findCmd s id = some c ∧ c.stage =
      .fetching ∧ c.fetches = [k] ∧ opOf c.sqe = some .get ∧ lookBlocks s (targetOf c.fn c.sqe) (sqeVolume c.sqe) 0 (blocksOf c)
      = .slots ks ∧ mapFind s.cache.slots k = some q ∧ q.unrestored = true) :=
  ⟨⟨0, some [], cmd1 (entry 5 5 0 0 0 0 16), holds { block1 with dirty := true } (under (cmd1 (entry 5 5 0 0 0 0 16))
      served), runs_of (by decide +kernel)⟩,
    ⟨0, cmd1 (entry 6 0 0 0 0 0 0), under (cmd1 (entry 6 0 0 0 0 0 0)) served, runs_of (by decide +kernel), by decide +kernel⟩,
    ⟨1, { cmd1 (entry 6 0 0 0 0 0 0) with id := 1 },
      { served with port := { served.port with cmds := [cmd1 (entry 2 5 0 1 0 0 4096), { cmd1 (entry 6 0 0 0 0 0 0) with id := 1 }], fetched := 2 } },
      runs_of (by decide +kernel), by decide +kernel⟩,
    ⟨0, { cmd1 (entry 6 0 0 0 0 0 0) with stage := .fencing }, under { cmd1 (entry 6 0 0 0 0 0 0) with stage := .fencing }
      served, by decide +kernel⟩,
    ⟨1, { cmd1 (entry 6 0 0 0 0 0 0) with id := 1 },
      { served with port := { served.port with cmds := [cmd1 (entry 2 5 0 1 0 0 4096), { cmd1 (entry 6 0 0 0 0 0 0) with id := 1 }], fetched := 2 } },
      by decide +kernel⟩,
    ⟨0, some [], 0, { cmd1 (entry 7 0 0 4 0 0 4) with fn := 15 }, seg0, 0, [0], under
      { cmd1 (entry 7 0 0 4 0 0 4) with fn := 15 }
      { served with cache := { served.cache with slots := [(0, seg0)], handles := [(0, (15, 0xFFFFFF00))] } }, runs_of
      (by decide +kernel), by decide +kernel⟩,
    ⟨0, none, none, cmd1 (entry 7 0 0 4 0 0 4), under (cmd1 (entry 7 0 0 4 0 0 4)) served, runs_of (by decide +kernel),
      by decide +kernel⟩,
    ⟨0, none, { cmd1 (entry 2 5 0 2 0 0 8192) with stage := .fetching, fetches := [0, 1] }, 0, [1], holds
      { block1 with unrestored := true } (under { cmd1 (entry 2 5 0 2 0 0 8192) with stage := .fetching, fetches := [0, 1] }
      served), by decide +kernel⟩,
    ⟨0, { cmd1 (entry 2 5 0 1 0 0 4096) with stage := .fetching, fetches := [0] }, 0, [0], { block1 with unrestored := true },
      holds { block1 with unrestored := true } (under { cmd1 (entry 2 5 0 1 0 0 4096) with stage := .fetching, fetches := [0] }
      served), inv_of (by decide +kernel) (by decide +kernel), by decide +kernel⟩⟩

theorem test_witness_DieFailuresAndImage :
    (∃ (d : Fin 16) (b : ℕ) (s : State), writeBlockOf s.flash.die[d] = some b ∧ copyRuns s = true ∧ s.flash.die[d].state =
      .active) ∧
    (∃ (d : Fin 16) (b : ℕ) (s : State), staleBlock s.flash.die[d] = some b ∧ flashRuns s = true ∧ s.flash.die[d].state ≠
      .absent) ∧
    (∃ (d : Fin 16) (s : State), flashRuns s = true ∧ s.flash.die[d].state ≠ .absent ∧ (s.flash.die[d].state ≠ .active ∨
      s.flash.die[d].timeouts < 2)) ∧
    (∃ (d : Fin 16) (s : State), flashRuns s = true ∧ s.flash.die[d].state = .active ∧ 2 ≤ s.flash.die[d].timeouts) ∧
    (∃ (d : Fin 16) (b : ℕ) (s : State), staleBlock s.flash.die[d] = some b ∧ erases s = true ∧ s.flash.die[d].state ≠ .absent
      ∧ s.flash.bufferDirty.contains d = false) ∧
    (∃ (d : Fin 16) (s : State), erases s = true ∧ s.flash.die[d].state ≠ .absent ∧ s.flash.bufferDirty.contains d = true) ∧
    (∃ (s : State), releaseDue s = true ∧ releaseOk s = true) ∧
    (∃ (s : State), flashRuns s = true ∧ s.flash.sanitizeState = 1 ∧ (s.flash.sanitizeKeys = true ∨ staleBlockPages s.flash =
      0)) ∧
    (∃ (d : Fin 16) (b : ℕ) (s : State), flashRuns s = true ∧ s.flash.die[d].state = .probation ∧ probeBlock s.flash.die[d] =
      some b) ∧
    (∃ (d : Fin 16) (b : ℕ) (s : State), flashRuns s = true ∧ s.flash.die[d].state = .probation ∧ probeBlock s.flash.die[d] =
      some b) :=
  ⟨⟨0, 0, { served with flash := { served.flash with open_ := [epoch1] } }.modDie 0 (fun x =>
      { x with state := .active, blocks := 8, pages := 4, c := 1, cur := some 0 }), by decide +kernel⟩,
    ⟨0, 0, served.modDie 0 (fun x =>
      { x with state := .active, blocks := 8, pages := 4, c := 1, table := [(0, (.stale, 1))] }), by decide +kernel⟩,
    ⟨0, served.modDie 0 (fun x => { x with state := .active }), by decide +kernel⟩,
    ⟨15, served.modDie 15 (fun x => { x with state := .active, timeouts := 2 }), by decide +kernel⟩,
    ⟨0, 0, served.modDie 0 (fun x =>
      { x with state := .active, blocks := 8, pages := 4, c := 1, table := [(0, (.stale, 1))] }), by decide +kernel⟩,
    ⟨0, { served with flash := { served.flash with bufferDirty := [0] } }.modDie 0 (fun x =>
      { x with state := .active, blocks := 8, pages := 4, c := 1 }), by decide +kernel⟩,
    ⟨{ served with flash := { served.flash with committed := some manifest1, releaseWanted := true } }, by decide +kernel⟩,
    ⟨{ served with flash := { served.flash with sanitizeState := 1 } }, by decide +kernel⟩,
    ⟨0, 0, served.modDie 0 (fun x => { x with state := .probation, blocks := 8, pages := 1, c := 1 }), by decide +kernel⟩,
    ⟨0, 0, served.modDie 0 (fun x => { x with state := .probation, blocks := 8, pages := 1, c := 1 }), by decide +kernel⟩⟩

theorem test_witness_CopyAndRestore :
    (∃ (s : State), flashRuns s = true ∧ s.flash.preSinter = true) ∧
    (∃ (x : Epoch × List (ℕ × ℕ)) (s : State), flashRuns s = true ∧ s.life.dev = .restore ∧ s.flash.restoring = true ∧
      fetchWaits s = false ∧ preSinterBusy s = false ∧ nextStripe s = some x) ∧
    (∃ (x : Epoch × List (ℕ × ℕ)) (d : Fin 16) (s : State), flashRuns s = true ∧ s.life.dev = .restore ∧ s.flash.restoring =
      true ∧ fetchWaits s = false ∧ preSinterBusy s = false ∧ nextStripe s = some x) ∧
    (∃ (x : Epoch × List (ℕ × ℕ)) (a : Fin 16) (b : Fin 16) (s : State), flashRuns s = true ∧ s.life.dev = .restore ∧
      s.flash.restoring = true ∧ fetchWaits s = false ∧ preSinterBusy s = false ∧ nextStripe s = some x) :=
  ⟨⟨{ served with flash := { served.flash with preSinter := true } }, by decide +kernel⟩,
    ⟨(epoch1, [(0, 0)]), inState .restore (holds { block1 with dirty := true, unrestored := true }
      { served with flash := { served.flash with restoring := true, committed := some manifest1 } }), by decide +kernel⟩,
    ⟨(epoch1, [(0, 0)]), 0, inState .restore (holds { block1 with dirty := true, unrestored := true }
      { served with flash := { served.flash with restoring := true, committed := some manifest1 } }), by decide +kernel⟩,
    ⟨(epoch1, [(0, 0)]), 0, 1, inState .restore (holds { block1 with dirty := true, unrestored := true }
      { served with flash := { served.flash with restoring := true, committed := some manifest1 } }), by decide +kernel⟩⟩

theorem test_witness_FramesAndPackets :
    (∃ (port : Fin 4) (vc : Fin 4) (s : State), portTakes s port = false) ∧
    (∃ (port : Fin 4) (vc : Fin 4) (n : Fin 16) (s : State), portTakes s port = true ∧ streamAt s port vc = some n ∧ groupOf s
      n = none ∧ overRate s n = false ∧ bufferFree { strOf s n with cur := none } = true) ∧
    (∃ (port : Fin 4) (vc : Fin 4) (n : Fin 16) (s : State), portTakes s port = true ∧ streamAt s port vc = some n ∧ groupOf s
      n = none ∧ (strOf s n).cur = none ∧ (overRate s n = true ∨ bufferFree (strOf s n) = false)) ∧
    (∃ (port : Fin 4) (vc : Fin 4) (n : Fin 16) (g : Fin 4) (t0 : ℕ) (s : State), portTakes s port = true ∧ streamAt s port vc
      = some n ∧ groupOf s n = some g ∧ s.video.group[g].start = some t0 ∧ (strOf s n).state = .running ∧ (strOf s n).cur = none
      ∧ bufferFree (strOf s n) = true ∧ firstTick s g t0 = (strOf s n).nextTick) ∧
    (∃ (port : Fin 4) (vc : Fin 4) (n : Fin 16) (g : Fin 4) (t0 : ℕ) (s : State), portTakes s port = true ∧ streamAt s port vc
      = some n ∧ groupOf s n = some g ∧ s.video.group[g].start = some t0 ∧ (strOf s n).state = .running ∧ (strOf s n).cur = none
      ∧ firstTick s g t0 < (strOf s n).nextTick) ∧
    (∃ (port : Fin 4) (vc : Fin 4) (n : Fin 16) (f : Frame) (data : List Byte) (s : State), portTakes s port = true ∧ streamAt
      s port vc = some n ∧ (strOf s n).cur = some f ∧ (strOf s n).format ≤ 1 ∧ data.length = lineBytes 1 (s.sc n 0x4000 2) ∧
      f.lines.length < s.sc n 0x4000 3) ∧
    (∃ (port : Fin 4) (vc : Fin 4) (data : List Byte) (s : State), portTakes s port = true) ∧
    (∃ (port : Fin 4) (vc : Fin 4) (dt : BitVec 6) (data : List Byte) (s : State), portTakes s port = true ∧ 4 ≤ dt.toNat ∧ dt
      ≠ 0x12 ∧ dt ≠ 0x1E ∧ dt ≠ 0x1A) ∧
    (∃ (port : Fin 4) (vc : Fin 4) (n : Fin 16) (dt : BitVec 6) (data : List Byte) (check : PacketCheck) (s : State), portTakes
      s port = true ∧ streamAt s port vc = some n ∧ (check = .badCrc ∨ check = .badHeader)) ∧
    (∃ (port : Fin 4) (vc : Fin 4) (n : Fin 16) (f : Frame) (s : State), portTakes s port = true ∧ streamAt s port vc = some n
      ∧ streamLive s n = true ∧ (strOf s n).endAt = none ∧ (strOf s n).cur = some f ∧ f.lines.length = s.sc n 0x4000 3) ∧
    (∃ (port : Fin 4) (vc : Fin 4) (n : Fin 16) (f : Frame) (s : State), portTakes s port = true ∧ streamAt s port vc = some n
      ∧ streamLive s n = true ∧ (strOf s n).endAt = none ∧ (strOf s n).cur = some f ∧ f.lines.length ≠ s.sc n 0x4000 3) :=
  ⟨⟨0, 0, served, by decide +kernel⟩,
    ⟨0, 0, 0, streaming, by decide +kernel⟩,
    ⟨0, 0, 0, streaming.modStream 0 (fun x => { x with startAt := some 0 }), by decide +kernel⟩,
    ⟨0, 0, 0, 0, 0,
      { (streaming.setHeld 0x4000 8 0) with video := { streaming.video with group := Vector.replicate 4 ⟨some 0, 0⟩ } },
      by decide +kernel⟩,
    ⟨0, 0, 0, 0, 0,
      ({ (streaming.setHeld 0x4000 8 0) with video := { streaming.video with group := Vector.replicate 4 ⟨some 0, 0⟩ } }).modStream
      0 (fun x => { x with nextTick := 1 }), by decide +kernel⟩,
    ⟨0, 0, 0, frame0, List.replicate 640 0, (streaming.setHeld 0x4000 2 320).modStream 0 (fun x =>
      { x with cur := some frame0 }), by decide +kernel⟩,
    ⟨0, 0, [], streaming, by decide +kernel⟩,
    ⟨0, 3, 4, [], streaming, by decide +kernel⟩,
    ⟨0, 0, 0, 0x1E, [], .badCrc, streaming.modStream 0 (fun x => { x with cur := some frame0 }), by decide +kernel⟩,
    ⟨0, 0, 0, { frame0 with lines := [[0x10, 0x80, 0x10, 0x80]], format := 1 }, ((streaming.setHeld 0x4000 2 2).setHeld 0x4000
      3 1).modStream 0 (fun x => { x with cur := some { frame0 with lines := [[0x10, 0x80, 0x10, 0x80]], format := 1 } }),
      by decide +kernel⟩,
    ⟨0, 0, 0, frame0, streaming.modStream 0 (fun x => { x with cur := some frame0 }), by decide +kernel⟩⟩

theorem test_witness_ClockLanesCciAndTicks :
    (∃ (port : Fin 4) (s : State), portRuns s port = true ∧ s.life.dev.supervised = true) ∧
    (∃ (port : Fin 4) (rate : ℕ) (s : State), portRuns s port = false ∧ s.life.dev.supervised = true) ∧
    (∃ (port : Fin 4) (rate : ℕ) (s : State), portRuns s port = true) ∧
    (∃ (port : Fin 4) (n : Fin 16) (id : ℕ) (g : ℕ) (met : Bool) (s : State), (portOf s port).burst = some (n, id, g, met) ∧
      setWaits s n id = true) ∧
    (∃ (port : Fin 4) (n : Fin 16) (id : ℕ) (g : ℕ) (met : Bool) (s : State), (portOf s port).burst = some (n, id, g, met) ∧
      ((strOf s n).pendingSets.any fun q => q.id == id && q.failures == 0) = true) ∧
    (∃ (port : Fin 4) (n : Fin 16) (id : ℕ) (g : ℕ) (met : Bool) (s : State), (portOf s port).burst = some (n, id, g, met) ∧
      setWaits s n id = true ∧ ((strOf s n).pendingSets.any fun q => q.id == id && q.failures == 0) = false) ∧
    (∃ (port : Fin 4) (s : State), cciFree s port = false) ∧
    (∃ (port : Fin 4) (s : State), cciFree s port = true) ∧
    (∃ (n : Fin 16) (e : CciEnd) (s : State), (strOf s n).cciRunning = true) ∧
    (∃ (n : Fin 16) (g : Fin 4) (t0 : ℕ) (s : State), groupOf s n = some g ∧ s.video.group[g].start = some t0 ∧ (strOf s
      n).state = .running ∧ tickTime s g t0 (strOf s n).nextTick + groupTolerance s g ≤ s.time.timeBase) :=
  ⟨⟨0, streaming.modStream 0 (fun x => { x with cur := some frame0 }), by decide +kernel⟩,
    ⟨3, 1500, served, by decide +kernel⟩,
    ⟨0, 1500, streaming, by decide +kernel⟩,
    ⟨0, 0, 1, 3, true, (streaming.modStream 0 (fun x => { x with pendingSets := [⟨1, [], 0, true⟩] })).modPort 0 (fun x =>
      { x with burst := some (0, 1, 3, true) }), by decide +kernel⟩,
    ⟨0, 0, 1, 3, false, (streaming.modStream 0 (fun x => { x with pendingSets := [⟨1, [], 0, true⟩] })).modPort 0 (fun x =>
      { x with burst := some (0, 1, 3, false) }), by decide +kernel⟩,
    ⟨0, 0, 1, 3, false, (streaming.modStream 0 (fun x => { x with pendingSets := [⟨1, [], 1, true⟩] })).modPort 0 (fun x =>
      { x with burst := some (0, 1, 3, false) }), by decide +kernel⟩,
    ⟨0, streaming.modPort 0 (fun x => { x with burst := some (0, 1, 3, false) }), by decide +kernel⟩,
    ⟨0, streaming, by decide +kernel⟩,
    ⟨0, .ok 5, streaming.modStream 0 (fun x => { x with cciOp := 2, cciRunning := true }), by decide +kernel⟩,
    ⟨0, 0, 0, at_ 1000000
      { (streaming.setHeld 0x4000 8 0) with video := { streaming.video with group := Vector.replicate 4 ⟨some 0, 0⟩ } },
      by decide +kernel⟩⟩

theorem test_witness_RowsAndSyntaxRing :
    (∃ (n : Fin 16) (fill : ℕ) (r : CodeResult) (f : Frame) (s : State), headFrame s n = some f ∧ s.island .pixel = .running ∧
      admitted s n = true ∧ takesFrames s n = true ∧ f.started = false ∧ 1 < codingRows s n ∧ pixelYields s n f = false ∧
      (s.video.ringFull = false ∨ fill < 1000) ∧ (∀ d ∈ (encOf s n).coding, d.md.number ≠ f.md.number)) ∧
    (∃ (n : Fin 16) (fill : ℕ) (r : CodeResult) (f : Frame) (s : State), headFrame s n = some f ∧ s.island .pixel = .running ∧
      admitted s n = true ∧ f.started = true ∧ f.rowsLeft ≤ 1 ∧ pixelYields s n f = false ∧ (s.video.ringFull = false ∨ fill <
      1000)) ∧
    (∃ (n : Fin 16) (fill : ℕ) (r : CodeResult) (f : Frame) (s : State), headFrame s n = some f ∧ (f.started = true ∨
      takesFrames s n = true) ∧ (pixelYields s n f = true ∨ s.video.ringFull = true ∧ 1000 ≤ fill)) ∧
    (∃ (n : Fin 16) (fill : ℕ) (r : CodeResult) (f : Frame) (s : State), headFrame s n = some f ∧ s.island .pixel = .running ∧
      admitted s n = true ∧ f.started = false ∧ takesFrames s n = false) ∧
    (∃ (n : Fin 16) (fill : ℕ) (r : CodeResult) (s : State), headFrame s n = none) ∧
    (∃ (fill : ℕ) (s : State), s.video.ringHigh = true ∧ fill + 250 < s.cfg 0x2A00 5) ∧
    (∃ (fill : ℕ) (s : State), s.cfg 0x2A00 5 ≤ fill + 250) :=
  ⟨⟨0, 1000, .coded 100 30, frame0, (((streaming.setHeld 0x4000 2 16).setHeld 0x4000 3 32).modStream 0 (fun x =>
      { x with queue := [frame0] })).modEnc 0 (fun e => { e with state := .waiting }), by decide +kernel⟩,
    ⟨0, 999, .saturated, { frame0 with started := true }, (streaming.modStream 0 (fun x =>
      { x with queue := [{ frame0 with started := true }] })).modEnc 0 (fun e => { e with state := .encoding }),
      by decide +kernel⟩,
    ⟨0, 1000, .saturated, { frame0 with started := true },
      { (streaming.modStream 0 (fun x => { x with queue := [{ frame0 with started := true }] })).modEnc 0 (fun e => { e with state := .encoding }) with video := { ((streaming.modStream 0 (fun x => { x with queue := [{ frame0 with started := true }] })).modEnc 0 (fun e => { e with state := .encoding })).video with ringFull := true } },
      by decide +kernel⟩,
    ⟨0, 0, .saturated, frame0, (streaming.modStream 0 (fun x => { x with queue := [frame0] })).modEnc 0 (fun e =>
      { e with state := .paused }), by decide +kernel⟩,
    ⟨15, 0, .saturated, served, by decide +kernel⟩,
    ⟨0, { served with video := { served.video with ringHigh := true } }, by decide +kernel⟩,
    ⟨1000, served, by decide +kernel⟩⟩

theorem test_witness_LiveAndRecording :
    (∃ (n : Fin 16) (nal : List Byte) (consumer : BitVec 64) (c : Coded) (s : State),
      let last := lastSlice c (encOf s n).slice; let bytes := sliceBytes c (encOf s n).slice last nal; (encOf s n).coding.head?
      = some c ∧ s.island .entropy = .running ∧ sliceReady s n = true ∧ (encOf s n).overflow = false ∧ liveOpen s n = true ∧ 8 ≤
      s.port.fns[s.cache.videoTenant].mps ∧ liveRoom s n bytes.length (encOf s n).consumer = true) ∧
    (∃ (n : Fin 16) (nal : List Byte) (consumer : BitVec 64) (c : Coded) (s : State), (encOf s n).coding.head? = some c ∧
      s.island .entropy = .running ∧ sliceReady s n = true ∧ (encOf s n).overflow = false ∧ liveOpen s n = true ∧ lastSlice c
      (encOf s n).slice = false ∧ liveRoom s n (sliceBytes c (encOf s n).slice false nal).length (encOf s n).consumer = false ∧
      liveRoom s n (sliceBytes c (encOf s n).slice false nal).length consumer.toNat = false) ∧
    (∃ (n : Fin 16) (nal : List Byte) (consumer : BitVec 64) (s : State), (classOf s n ≠ 1 ∨ sliceReady s n = false)) ∧
    (∃ (n : Fin 16) (g : Segment) (s : State), s.island .entropy = .running ∧ (recOf s n).seg = some g ∧ g.staged ≠ [] ∧ (recOf
      s n).paused = false) ∧
    (∃ (n : Fin 16) (s : State), (recOf s n).seg = none) ∧
    (∃ (n : Fin 16) (nal : List Byte) (c : Coded) (s : State), (encOf s n).coding.head? = some c ∧ s.island .entropy = .running
      ∧ frameReady s n = true ∧ liveWaits s = false ∧ (recOf s n).paused = true) ∧
    (∃ (n : Fin 16) (nal : List Byte) (c : Coded) (s : State), (encOf s n).coding.head? = some c ∧ s.island .entropy = .running
      ∧ frameReady s n = true ∧ liveWaits s = false ∧ (recOf s n).paused = false ∧ (recOf s n).seg = none ∧ c.idr = true) ∧
    (∃ (n : Fin 16) (nal : List Byte) (c : Coded) (s : State), (encOf s n).coding.head? = some c ∧ s.island .entropy = .running
      ∧ frameReady s n = true ∧ liveWaits s = false ∧ (recOf s n).paused = false ∧ (recOf s n).seg = none ∧ c.idr = false) ∧
    (∃ (n : Fin 16) (nal : List Byte) (s : State), (frameReady s n = false ∨ liveWaits s = true)) :=
  ⟨⟨0, [1], 0, coded0, living, by decide +kernel⟩,
    ⟨0, [1], 0, { coded0 with total := 2, rows := [[], []] }, living.modEnc 0 (fun e =>
      { e with producer := 4096, coding := [{ coded0 with total := 2, rows := [[], []] }] }), by decide +kernel⟩,
    ⟨0, [], 0, served, by decide +kernel⟩,
    ⟨0, seg1, recording.modRec 0 (fun r => { r with seg := some seg1 }), by decide +kernel⟩,
    ⟨0, served, by decide +kernel⟩,
    ⟨0, [1], coded0, recording.modRec 0 (fun r => { r with paused := true }), by decide +kernel⟩,
    ⟨0, [1], coded0, recording, by decide +kernel⟩,
    ⟨0, [1], { coded0 with idr := false }, recording.modEnc 0 (fun e => { e with coding := [{ coded0 with idr := false }] }),
      by decide +kernel⟩,
    ⟨0, [1], served, by decide +kernel⟩⟩

theorem test_witness_PicturesAndEventVectors :
    (∃ (d : Fin 2) (p : Decoded) (read : ℕ) (last : Bool) (s : State), s.island .entropy = .running ∧ s.island .pixel =
      .running ∧ decOpen s d = true ∧ decodeServed s = true ∧ sourceMissing s d = false ∧ encodeWaits s = false ∧ mayRead s d
      read = true) ∧
    (∃ (d : Fin 2) (p : Decoded) (failed : List Area) (read : ℕ) (s : State), s.island .entropy = .running ∧ s.island .pixel =
      .running ∧ decOpen s d = true ∧ decodeServed s = true ∧ sourceMissing s d = false ∧ encodeWaits s = false ∧ mayRead s d
      read = true) ∧
    (∃ (d : Fin 2) (k : Fin 2) (s : State), s.island .entropy = .running ∧ s.island .pixel = .running ∧ decOpen s d = true ∧
      decodeServed s = true ∧ sourceMissing s d = false ∧ encodeWaits s = false) ∧
    (∃ (d : Fin 2) (r : DecodeResult) (s : State), s.island .entropy = .running ∧ s.island .pixel = .running ∧ decOpen s d =
      true ∧ decodeServed s = true ∧ sourceMissing s d = true) ∧
    (∃ (d : Fin 2) (r : DecodeResult) (s : State), sourceMissing s d = false ∧ encodeWaits s = true) ∧
    (∃ (fn : Fin 16) (s : State), (s.ev.ring[fn]).due = true ∧ ringOpen s fn = true ∧ vectorFree (s.ev.ring[fn]).sentAt
      s.time.now = true) ∧
    (∃ (fn : Fin 16) (s : State), vectorFree (s.ev.ring[fn]).sentAt s.time.now = false) :=
  ⟨⟨1, decoded0, 64, true, (served.setHeld 0x2020 5 2).modDec 1 (fun x => { x with state := 1, ending := true }),
      by decide +kernel⟩,
    ⟨0, decoded0, [⟨0, 0, 2, 2⟩], 0, (served.setHeld 0x2020 5 2).modDec 0 (fun x => { x with state := 2 }), by decide +kernel⟩,
    ⟨0, 1, (served.setHeld 0x2020 5 2).modDec 0 (fun x => { x with state := 2 }), by decide +kernel⟩,
    ⟨0, .stop 0, ((served.setHeld 0x2020 5 2).setHeld 0x2A40 2 1).modDec 0 (fun x => { x with state := 2 }),
      by decide +kernel⟩,
    ⟨0, .stop 0, living, by decide +kernel⟩,
    ⟨15, at_ 100
      { served with ev := { served.ev with ring := Vector.replicate 16 { EvRing.reset with due := true, sentAt := some 0 } } },
      by decide +kernel⟩,
    ⟨0, at_ 99
      { served with ev := { served.ev with ring := Vector.replicate 16 { EvRing.reset with due := true, sentAt := some 0 } } },
      by decide +kernel⟩⟩

theorem test_witness_StepRunsTheFrontCommand :
    ∃ (c : Instr) (rest : List Instr) (s : State), s.pending = c :: rest :=
  ⟨.wake, [], { served with pending := [.wake] }, by decide +kernel⟩

theorem test_witness_IdleStepIsOneMicrosecond :
    ∃ (s : State), s.pending = [] :=
  ⟨served, by decide +kernel⟩

theorem test_witness_EveryStepKeepsBounds :
    ∃ (s : State) (t : State), Machine.Inv s ∧ step s = .next t :=
  ⟨served, { served with time := { served.time with now := 1, timeBase := 1, powered := 1 } }, inv_of (by decide +kernel)
    (by decide +kernel), rfl⟩

theorem test_witness_DisabledSourcesLeaveNoTrace :
    (∃ (s : State) (ev : ℕ) (isl : EvIsland) (vs : List (ℕ × ℕ)), evEnabled s ev = false ∧ controlRuns s = true ∧ s.ev.started
      = true) ∧
    (∃ (s : State) (fuel : ℕ) (r : Rec) (rest : List Rec) (x : EvPart), evEnabled s r.event = false) :=
  ⟨⟨served, 63, .control, [], by decide +kernel⟩,
    ⟨served, 0, newRec served 63 .control 0, [], ⟨served.ev, served.can, []⟩, by decide +kernel⟩⟩

theorem test_witness_ErrorSourcesNeverFold :
    ∃ (s : State) (r : Rec) (log : List Rec), severity r.event = 2 ∧ r.severity = severity r.event :=
  ⟨served, newRec served 664 .control 0, [], by decide +kernel⟩

theorem test_witness_RingsKeepTenantsApart :
    ∃ (s : State) (n : Fin 16) (x : EvPart) (r : Rec) (v : ℕ), tenantOf r.event = some v ∧ v ≠ n.val ∧ ¬(n = 0 ∧ (s.cfg
      (blockIndex 0x3050 0) 2).testBit 8 = true) :=
  ⟨served, 1, ⟨served.ev, served.can, []⟩, newRec served 640 .control 0, 0, by decide +kernel⟩

theorem test_witness_OneExpertSession :
    ∃ (p : Session) (q : Session) (code : BitVec 32) (s : State), Accepts p 0x2021 1 (leBytes 4 code.toNat) s ∧ s.mode.expert
      = some q ∧ ¬(holdsExpert p s = true ∧ code = 0) :=
  ⟨.usdo 1, .mailbox 0, 0, { served with mode := { served.mode with expert := some (.mailbox 0) } }, accepts_of
    (by decide +kernel), by decide +kernel⟩

theorem test_witness_ConfigLockCloses :
    (∃ (p : Session) (s : State), Accepts p 0x2030 1 (leBytes 1 1) s) ∧
    (∃ (p : Session) (s : State), Accepts p 0x2030 1 (leBytes 1 0) s) ∧
    (∃ (c : Instr) (s : State) (t : State), exec c s = .next t ∧ s.life.dev ≠ t.life.dev ∧ (t.life.dev = .boot ∨ t.life.dev =
      .warn)) ∧
    (∃ (c : Instr) (s : State) (t : State), exec c s = .next t ∧ s.life.bootCount ≠ t.life.bootCount) :=
  ⟨⟨.usdo 1, served, accepts_of (by decide +kernel)⟩,
    ⟨.usdo 1, served, accepts_of (by decide +kernel)⟩,
    ⟨.vkeepRise false, State.reset, coldBoot 0 .vkeep
      { State.reset with life := { State.reset.life with wakeHigh := false } }, vkeep_boots, by decide +kernel⟩,
    ⟨.vkeepRise false, State.reset, coldBoot 0 .vkeep
      { State.reset with life := { State.reset.life with wakeHigh := false } }, vkeep_boots, by decide +kernel⟩⟩

theorem test_witness_WallClockSetAndAdvances :
    (∃ (p : Session) (seconds : BitVec 32) (fraction : BitVec 16) (s : State), Accepts p 0x2100 2 (leBytes 4 seconds.toNat) s ∧
      Accepts p 0x2100 3 (leBytes 2 fraction.toNat) s) ∧
    (∃ (s : State), s.pending = [] ∧ s.time.wallSet = true) :=
  ⟨⟨.usdo 1, 0xFFFFFFFF, 0xFFFF, served, accepts_of (by decide +kernel), accepts_of (by decide +kernel)⟩,
    ⟨{ served with time := { served.time with wallSet := true } }, by decide +kernel⟩⟩

theorem test_witness_DirtySlotsAreNotTaken :
    ∃ (s : State) (n : Fin 16) (vol : BitVec 32) (lba : ℕ) (len : ℕ) (need : ℕ) (u : State) (k : ℕ) (q : Slot), Machine.Inv s
      ∧ takeSlots s n vol lba len need = some u ∧ mapFind s.cache.slots k = some q ∧ (q.dirty = true ∨ q.frozen = true ∨ (s.ten
      q.tenant).frozen = true) :=
  ⟨{ (holds block1 served) with cache := { (holds block1 served).cache with usable := 2, slots := [(0, { block1 with dirty := true }), (1, { block1 with lba := 1 })] } },
    1, 5, 2, 1, 1, (takeSlots
    ({ (holds block1 served) with cache := { (holds block1 served).cache with usable := 2, slots := [(0, { block1 with dirty := true }), (1, { block1 with lba := 1 })] } })
    1 5 2 1 1).getD served, 0, { block1 with dirty := true }, inv_of (by decide +kernel) (by decide +kernel), by decide +kernel⟩

theorem test_witness_PutsStoreTheirBlocks :
    ∃ (id : ℕ) (bs : List Block) (c : Cmd) (s : State), Machine.Inv s ∧ findCmd s id = some c ∧ cmdIs .put .transferring c =
      true ∧ dmaOpen s c.fn = true ∧ bs.length = sqeLength c.sqe ∧ ((handleOf s.cache c.fn (sqeVolume c.sqe)).isSome = true ∨
      s.cache.handles.length < 4096) ∧ s.cache.slots.length + slotlessBlocks s c ≤ s.cache.usable :=
  ⟨0, [0], { cmd1 (entry 1 5 0 1 0 0 4096) with stage := .transferring }, under
    { cmd1 (entry 1 5 0 1 0 0 4096) with stage := .transferring } served, inv_of (by decide +kernel) (by decide +kernel),
    by decide +kernel⟩

theorem test_witness_TenantsKeepTheirDirtyBlocks :
    ∃ (s : State) (t : State) (id : ℕ) (c : Cmd) (cmd : Instr) (k : ℕ) (q : Slot), Machine.Inv s ∧ findCmd s id = some c ∧
      c.fn ≠ 0 ∧ (∃ elems ecc r, cmd ∈ [Instr.put id elems, .putApply id r, .get id elems ecc, .clean id, .drop id, .list id
      elems, .fence id]) ∧ exec cmd s = .next t ∧ mapFind s.cache.slots k = some q ∧ q.tenant ≠ c.fn ∧ q.dirty = true :=
  ⟨under (cmd1 (entry 3 5 0 1 0 0 0)) (holds { block1 with tenant := 2, dirty := true } served), runCmd .clean 0 none (fun _
    => cleanBlocks) (under (cmd1 (entry 3 5 0 1 0 0 0)) (holds { block1 with tenant := 2, dirty := true } served)), 0, cmd1
    (entry 3 5 0 1 0 0 0), .clean 0, 0, { block1 with tenant := 2, dirty := true }, inv_of (by decide +kernel)
    (by decide +kernel), by decide +kernel, by decide +kernel, ⟨some [], none, .failed, by decide +kernel⟩, rfl,
    by decide +kernel⟩

/-- The charger faults of either channel in service, and of the PACK in SIMMER. -/
theorem test_witness_Charging_faults :
    (∀ d ∈ [DevState.serve, .simmer], ∃ s : State, s.life.dev = d ∧ s.life.dramLost = false ∧ s.pack.enable = true ∧
      s.pack.phase = .precharge) ∧
    (∀ d ∈ [DevState.serve, .simmer], ∃ s : State, s.life.dev = d ∧ s.life.dramLost = false ∧ (s.chan .pack).enable = true ∧
      (60 * (s.chan .pack).setpoint + cRate s .pack : Int) < 50 * (s.chan .pack).ma) ∧
    (∀ d ∈ [DevState.serve, .simmer], ∃ s : State, s.life.dev = d ∧ s.life.dramLost = false ∧ s.life.dev.supervised = true ∧
      (s.chan .pack).fitted = true ∧ (s.chan .pack).enable = false ∧ (cRate s .pack : Int) < 50 * (s.chan .pack).ma) ∧
    (∀ d ∈ [DevState.serve, .simmer], ∃ s : State, s.life.dev = d ∧ s.life.dramLost = false ∧ s.life.dev.supervised = true ∧
      (s.chan .pack).fitted = true ∧ 3 ≤ (s.chan .pack).overRun) := by
  refine ⟨fun d _ => ⟨inState d { served with pack := { served.pack with enable := true, phase := .precharge } }, ?_⟩,
    fun d _ => ⟨inState d { served with pack := { served.pack with enable := true, ma := 100000 } }, ?_⟩,
    fun d hd => ⟨inState d { served with pack := { served.pack with fitted := true, enable := false, ma := 100000 } }, ?_⟩,
    fun d hd => ⟨inState d { served with pack := { served.pack with fitted := true, overRun := 3 } }, ?_⟩⟩
  · exact ⟨rfl, rfl, rfl, rfl⟩
  · cases d <;> decide +kernel
  · rcases List.mem_pair.mp hd with rfl | rfl <;> decide +kernel
  · rcases List.mem_pair.mp hd with rfl | rfl <;> decide +kernel

/-- A device state with what kind of BOOT it is. -/
def inDev (d : DevState) (k : BootKind) : State :=
  { served with life := { served.life with dev := d, boot := k }, mode := { served.mode with group := 1 } }

/-- The faults of the Tremor line in SIMMER, in service and in a warm or cold BOOT, by each of the two commands. -/
theorem test_witness_TremorFaults_states :
    ∀ d ∈ [(DevState.simmer, BootKind.none), (.serve, .none), (.restore, .none), (.boot, .warm .serve), (.boot, .cold)],
    (∃ s : State, s.life.dev = d.1 ∧ s.life.boot = d.2 ∧ s.life.haltPending = 0 ∧ outranked 4 s = false ∧ s.tremor.pulling = false ∧
      stepTimed s = true ∧ stepsWithGroup s = true ∧ s.rails.fault.kind = 0) ∧
    (∃ s : State, s.life.dev = d.1 ∧ s.life.boot = d.2 ∧ s.life.haltPending = 0 ∧ outranked 4 s = false ∧ s.tremor.pulling = true ∧
      stepsWithGroup s = true ∧ s.rails.fault.kind = 0) := by
  intro d hd
  simp only [List.mem_cons, List.not_mem_nil, or_false] at hd
  refine ⟨⟨{ inDev d.1 d.2 with tremor := { served.tremor with walk := .upWalk } }, ?_⟩,
    ⟨{ inDev d.1 d.2 with tremor := { served.tremor with pulling := true } }, ?_⟩⟩
  · rcases hd with rfl | rfl | rfl | rfl | rfl <;> decide +kernel
  · rcases hd with rfl | rfl | rfl | rfl | rfl <;> decide +kernel

/-! ### Values of the spec's examples -/

/-- 00 **Example**: T5, S9 and the byte order of R6. -/
theorem test_numbering : blockIndex 0x3000 5 = 0x3500 ∧ blockIndex 0x4000 9 = 0x4900 ∧ tenantEv 5 0 = 800 ∧ streamEv 9 0 = 1440 ∧
    leBytes 4 128000 = [0x00, 0xF4, 0x01, 0x00] := by decide +kernel

/-- 15 **Example**: the log record of EV-0040. -/
theorem test_log_record : recBytes ⟨0xD693A47B, 40, 2, false, false, 1, 1207, 0, 4, 1, 0⟩ false =
    [0x7B, 0xA4, 0x93, 0xD6, 0x00, 0x00, 0x28, 0x10, 0x01, 0x00, 0x00, 0x00, 0xB7, 0x04, 0x00, 0x14] := by decide +kernel

/-- 15 **Example**: T2's ring entry of EV-0706, in the first pass of its ring. -/
theorem test_ring_record : recBytes ⟨0xD69493D8, 706, 1, false, false, 0, 1207, 0, 4, 2, 0⟩ true =
    [0xD8, 0x93, 0x94, 0xD6, 0x00, 0x00, 0xC2, 0x8A, 0x00, 0x00, 0x00, 0x00, 0xB7, 0x04, 0x00, 0x24] := by decide +kernel

/-- 15 **Example**: the severities of the two, and the EMCY message of the first. -/
theorem test_emcy : severity 40 = 2 ∧ severity 706 = 1 ∧
    emcyBytes 1 ⟨0xD693A47B, 40, 2, false, false, 1, 1207, 0, 4, 1, 0⟩ =
      [0x00, 0xFF, 0x01, 0x28, 0x00, 0x7B, 0xA4, 0x93, 0xD6, 0x01, 0x00, 0x00, 0x00, 0x00, 0x00, 0x00] := by decide +kernel

/-- 05 **Example**: the PUT entry at index 0. -/
theorem test_entry : let w := BitVec.ofNat 512 (ofLe ([0x01, 0x00, 0x07, 0x00, 0x03, 0x00, 0x00, 0x00, 0x00, 0x34, 0x12, 0x00, 0x00, 0x00,
      0x00, 0x00, 0x40, 0x00, 0x00, 0x00] ++ List.replicate 12 0 ++ [0x00, 0x00, 0x00, 0x00, 0x02, 0x00, 0x00, 0x00, 0x00, 0x00, 0x04,
      0x00] ++ List.replicate 20 0))
    opOf w = some .put ∧ sqeVolume w = 3 ∧ sqeLba w = 0x123400 ∧ sqeLength w = 64 ∧ sqeAddress w = 0x200000000 ∧
      sqeDataLength w = 262144 := by decide +kernel

/-- 05 **Example**: its completion, in the first pass of the queue. -/
theorem test_completion : completionBytes ⟨10753, 7, 0, 0, 1, false, false, false⟩ 0 true =
    [0x01, 0x2A, 0, 0, 0, 0, 0, 0, 0x01, 0x00, 0x07, 0x00, 0x00, 0x00, 0x00, 0x01] := by decide +kernel

/-- 04 **Example**: MBX_CTRL of a write with Tag 1. -/
theorem test_mbx_ctrl : mbxCtrl { (State.reset.mbx[(0 : Fin 16)]) with go := true, tag := 1, op := 1 } = 0x80000101 := by
  decide +kernel

/-- 01 and 06 **Example**: D_max of 52,560 J in GiB, and of 24 J and 80 J in slots, at 6.0 J/GiB. -/
theorem test_dmax : dmaxNumOf State.reset 52560 / 6000 = 7443 ∧ dmaxNumOf State.reset 24 * 262144 / 6000 = 104857 ∧
    dmaxNumOf State.reset 36 * 262144 / 6000 = 550502 ∧ dmaxNumOf State.reset 48 * 262144 / 6000 = 996147 := by decide +kernel

/-- 07 **Example**: the ISET codes of the bank and of the pack. -/
theorem test_iset : isetOf 5000 2500 = 512 ∧ isetOf 3000 1500 = 512 := by decide +kernel

/-- 12 **Example**: the slots of a stripe over seven and over eight dies with C = 4. -/
theorem test_stripe : stripeSlots 7 4 = 24 ∧ stripeSlots 8 4 = 28 := by decide +kernel

/-- 02 **Example**: RestoreRemaining 500 ms into RESTORE. -/
theorem test_restore_time : restoreTime 151899 = 432 := by decide +kernel

/-- 14 **Example**: segment 37 of S1. -/
theorem test_segment : segVolume 1 = 0xFFFFFF01 ∧ segLba 37 = 0x94000 := by decide +kernel

/-- The streams of the Partihal board: S0 live H.264 under CBR, S1 to S3 recording H.265 under VBR, all in G0 (14 **Example**). -/
def partihal : State :=
  let s := [1, 2, 3].foldl (fun s n => ((((((s.setHeld (0x4040 + 0x100 * n) 1 2).setHeld (0x4040 + 0x100 * n) 2 1).setHeld
    (0x4040 + 0x100 * n) 3 1).setHeld (0x4040 + 0x100 * n) 5 1).setHeld (0x4040 + 0x100 * n) 6 2000).setHeld (0x4041 + 0x100 * n) 5
      3000).setHeld (0x4000 + 0x100 * n) 8 0) State.reset
  (((s.setHeld 0x4040 1 1).setHeld 0x4040 5 0).setHeld 0x4040 6 4000).setHeld 0x4000 8 0

/-- 14 **Example**: the level of each stream, and the pixel and entropy budgets with D0 open. -/
theorem test_budgets : (levelOf partihal 0).map (·.idc) = some 40 ∧ (levelOf partihal 1).map (·.idc) = some 120 ∧
    pixelBudget partihal (fun n => n.val < 4) (fun d => d == 0) = 334 ∧
    entropyBudget partihal (fun n => n.val < 4) (fun d => d == 0) = 208 := by decide +kernel

/-- 09 **Example**: the fault record of drive B's short. -/
theorem test_fault_record : (faultBytes ⟨1, 9, 0x13, 2, 11, 3, 100, 168563, 1207, 0x00FF, 0x0F, 0x0F, 0, 2, 0, 46⟩).take 32 =
    [0x01, 0x09, 0x13, 0x02, 0x0B, 0x03, 0x64, 0x00, 0x73, 0x92, 0x02, 0x00, 0x00, 0x00, 0x00, 0x00, 0xB7, 0x04, 0x00, 0x00, 0xFF, 0x00,
      0x0F, 0x0F, 0x00, 0x00, 0x00, 0x00, 0x02, 0x00, 0x00, 0x2E] := by decide +kernel

/-! ### One step each -/

/-- 07 **Example** and R361, one step: clearing a PACK fault by a write of 1 to 2500h:0D. -/
theorem test_clear_fault : (match exec (.channelClearFault (.usdo 1) .pack) { served with pack := { served.pack with fault := 3 } } with
    | .next t => t.pack.fault
    | _ => 9) = 0 := by decide +kernel

/-- 05 R211, R212: a tail beyond the queue faults the pair with code 1; one inside it is taken. -/
theorem test_tail : (match exec (.sqTailDoorbell 1 0 16) served with
      | .next t => (((t.port.fns[(1 : Fin 16)]).pairs[(0 : Fin 4)]).fault, ((t.port.fns[(1 : Fin 16)]).pairs[(0 : Fin 4)]).error)
      | _ => (false, 0)) = (true, 1) ∧
    (match exec (.sqTailDoorbell 1 0 15) served with
      | .next t => (((t.port.fns[(1 : Fin 16)]).pairs[(0 : Fin 4)]).fault, ((t.port.fns[(1 : Fin 16)]).pairs[(0 : Fin 4)]).error)
      | _ => (true, 1)) = (false, 0) := by decide +kernel

/-- 15 R829: acknowledging bit 3 of bank 0 leaves bit 4. -/
theorem test_acknowledge : (match exec (.eventAcknowledge (.usdo 1) 0 8)
      { served with ev := { served.ev with pendingBits := vset served.ev.pendingBits 0 24 } } with
    | .next t => t.ev.pendingBits[(0 : Fin 28)]
    | _ => 0) = 16 := by decide +kernel

/-- 05 R237: CLEAN of a dirty block of the tenant makes it clean. -/
theorem test_clean : (match exec (.clean 0) (under (cmd1 (entry 3 5 0 1 5 0 0)) (holds { block1 with dirty := true } served)) with
    | .next t => (mapFind t.cache.slots 0).map (·.dirty)
    | _ => none) = some false := by decide +kernel

/-- 11 R578: an input fail in SERVE enters WARN and the lock closes. -/
theorem test_input_fail : (match exec .inputFail served with
    | .next t => (t.life.dev, t.mode.lock)
    | _ => (.halt, true)) = (.warn, false) := by decide +kernel

end Sys2Proof.Tests
end

section
/-! The wall clock (01 R45): what a write of either of its two entries does, that a second write of the session is still accepted,
and that the clock keeps pace with the time base. -/

namespace Sys2Proof.Machine

/-! ### Bytes -/

theorem ofLe_leBytes (n v : Nat) : ofLe (leBytes n v) = v % 256 ^ n := by
  induction n generalizing v with
  | zero => simp [leBytes, ofLe, Nat.mod_one]
  | succ n ih => rw [leBytes, ofLe, ih, BitVec.toNat_ofNat, Nat.pow_succ' (n := n), Nat.mod_mul]

/-- A word sent as all of its bytes is read back whole. -/
theorem ofLe_leBytes_toNat {w n : Nat} (v : BitVec w) (h : 2 ^ w ≤ 256 ^ n) : ofLe (leBytes n v.toNat) = v.toNat := by
  rw [ofLe_leBytes, Nat.mod_eq_of_lt (v.isLt.trans_le h)]

/-! ### The value of the clock -/

/-- The wall clock, in 1/65,536 µs, of a number of seconds and a fraction (01 R45). -/
def wallUnits (seconds fraction : Nat) : Nat := seconds * 65536000000 + fraction * 1000000

theorem setWall_time (seconds fraction : Nat) (s : State) :
    (setWall seconds fraction s).time = { s.time with wallSet := true, wall := wallUnits seconds fraction } := by
  simp only [setWall, trueDays_frame, wallUnits]

theorem trueDays_eq (wall : Nat) (s : State) : trueDays wall s = { s with packEst := (trueDays wall s).packEst } := by
  unfold trueDays
  split
  · split <;> rfl
  · rfl

/-- Setting the clock changes the clock, and the estimate of the PACK's charge after a sleep (08 R441). -/
theorem setWall_eq (seconds fraction : Nat) (s : State) :
    setWall seconds fraction s =
      { s with time := (setWall seconds fraction s).time, packEst := (setWall seconds fraction s).packEst } := by
  have h := trueDays_eq (seconds * 65536000000 + fraction * 1000000) s
  simp only [setWall]
  rw [h]

/-- The fraction read of a clock is below a second. -/
theorem wallFraction_lt (s : State) : s.wallFraction < 65536 := by
  unfold State.wallFraction
  split <;> omega

section
variable {s : State} {seconds fraction : Nat} (set : s.time.wallSet = true) (wall : s.time.wall = wallUnits seconds fraction)
  (h : fraction < 65536)
include set wall h

theorem wallSeconds_of_wall : s.wallSeconds = seconds := by
  simp only [State.wallSeconds, set, wall, wallUnits, if_true]
  omega

theorem wallFraction_of_wall : s.wallFraction = fraction := by
  simp only [State.wallFraction, set, wall, wallUnits, if_true]
  omega

end

/-! ### A write of a clock entry -/

/-- A request between `s` and `t` that changes nothing but the clocks and the PACK's estimator. -/
def ClockFrame (s t : State) : Prop := t = withRequest { s with time := t.time, packEst := t.packEst } t

/-- A request of a session to a sub-entry of 2100h sets the wall clock, stays in the frame, and is answered. -/
structure SetsClock (p : Session) (sub seconds fraction : Nat) (s t : State) : Prop where
  answered : Answered p 0x2100 sub 0 [] t
  time : t.time = { s.time with wallSet := true, wall := wallUnits seconds fraction }
  frame : ClockFrame s t

theorem withPba_withPba (a b c : Vector Func 16) : withPba (withPba a b) c = withPba a c := by
  ext i h; simp [withPba]

theorem ClockFrame.trans {s t u : State} (st : ClockFrame s t) (tu : ClockFrame t u) : ClockFrame s u := by
  unfold ClockFrame at *
  have h : withRequest { t with time := u.time, packEst := u.packEst } u =
      withRequest { s with time := u.time, packEst := u.packEst } u := by
    rw [st]
    simp only [withRequest, withEvents, withPba_withPba]
  exact tu.trans h

/-- An answer to a request that has arrived and set the clock stays in the frame. -/
theorem clockFrame_of_reply {s t : State} {x : Nat} {m : Vector Mbx 16} {c : Time} {e : Est}
    (h : t = withReply { arrivedAs s x m with time := c, packEst := e } t) : ClockFrame s t := by
  have time : t.time = c := congrArg State.time h
  have packEst : t.packEst = e := congrArg State.packEst h
  have mode : t.mode = { s.mode with expertLast := x } := congrArg State.mode h
  have can : t.can = s.can := (congrArg State.can h :)
  have ev : t.ev = s.ev := (congrArg State.ev h :)
  have same : withReply { arrivedAs s x m with time := c, packEst := e } t =
      withRequest { s with time := t.time, packEst := t.packEst } t := by
    simp only [withReply, withRequest, withEvents, arrivedAs, time, packEst, mode, can, ev]
  exact h.trans same

/-- An entry that CONTROL holds takes its command at once: CONTROL runs when a request is taken. -/
theorem accepts_commands_of_control {p : Session} {index sub : Nat} {data : List Byte} {s : State}
    (owner : s.ownerOf index sub = .control) (h : Accepts p index sub data s) : Commands p index sub data s := by
  refine ⟨h, ?_⟩
  have runs : s.island .control = .running := eq_of_beq (reaches_control h.1)
  simp only [takesCommand, owner, runs]

/-- A write whose action sets the clock sets it. -/
theorem sessionPut_setsClock {p : Session} {sub : BitVec 8} {n v seconds fraction : Nat} {s : State} (f : State → State × Answer)
    (h : Accepts p 0x2100 sub.toNat (leBytes n v) s) (owner : s.ownerOf 0x2100 sub.toNat = .control)
    (action : ∀ a u, actionOf p a 0x2100 sub.toNat (ofLe (leBytes n v)) u = some (f u))
    (sets : ∀ u : State, u.time = s.time → f u = done (setWall seconds fraction u)) :
    SetsClock p sub.toNat seconds fraction s (sessionPut p 0x2100 sub n v s) := by
  obtain ⟨x, m, e⟩ := sessionWrite_action (index := 0x2100) (accepts_commands_of_control owner h) rfl action
  rw [sets (arrivedAs s x m) rfl] at e
  have reply := replyTo_ok p (tagOf p s) 0x2100 sub.toNat (setWall seconds fraction (arrivedAs s x m))
  have answered := replyTo_answered p (tagOf p s) 0x2100 sub.toNat (setWall seconds fraction (arrivedAs s x m))
  unfold sessionPut
  generalize sessionWrite p 0x2100 sub (leBytes n v) s = t at e
  have et : t = replyTo p (tagOf p s) 0x2100 sub.toNat (setWall seconds fraction (arrivedAs s x m), .ok) := e
  rw [← et] at reply answered
  refine ⟨answered, ?_, ?_⟩
  · exact (congrArg State.time reply).trans (setWall_time ..)
  · rw [setWall_eq] at reply
    exact clockFrame_of_reply reply

/-- A write of the seconds keeps the fraction. -/
theorem secondsPut_setsClock {p : Session} {seconds : BitVec 32} {s : State}
    (h : Accepts p 0x2100 2 (leBytes 4 seconds.toNat) s) :
    SetsClock p 2 seconds.toNat s.wallFraction s (sessionPut p 0x2100 2 4 seconds.toNat s) := by
  refine sessionPut_setsClock (sub := 2) (fun u => done (setWall seconds.toNat u.wallFraction u)) h rfl (fun a u => ?_) fun u hu => ?_
  · rw [ofLe_leBytes_toNat seconds (by decide)]; rfl
  · simp only [State.wallFraction, hu]

/-- A write of the fraction keeps the seconds. -/
theorem fractionPut_setsClock {p : Session} {fraction : BitVec 16} {s : State}
    (h : Accepts p 0x2100 3 (leBytes 2 fraction.toNat) s) :
    SetsClock p 3 s.wallSeconds fraction.toNat s (sessionPut p 0x2100 3 2 fraction.toNat s) := by
  refine sessionPut_setsClock (sub := 3) (fun u => done (setWall u.wallSeconds fraction.toNat u)) h rfl (fun a u => ?_) fun u hu => ?_
  · rw [ofLe_leBytes_toNat fraction (by decide)]; rfl
  · simp only [State.wallSeconds, hu]

/-! ### The second write -/

/-- A session that has been answered within the frame is served again. -/
theorem reaches_after_answer {p : Session} {index sub code : Nat} {data : List Byte} {s t : State} (h : Reaches p s)
    (answered : Answered p index sub code data t) (frame : ClockFrame s t) : Reaches p t := by
  cases p with
  | usdo c => rw [frame]; exact h
  | mailbox fn =>
    obtain ⟨reached, -, free⟩ := h
    refine ⟨?_, answered.1, ?_⟩
    · rw [frame]
      simpa [mbxReached, withRequest, withEvents, withPba, State.island] using reached
    · rw [frame]; exact free

/-- What passes the checks of a clock entry still does after a request within the frame. -/
theorem passes_of_clockFrame {p : Session} {sub : Nat} {data : List Byte} {s t : State} (h : Passes p 0x2100 sub data s)
    (frame : ClockFrame s t) : Passes p 0x2100 sub data t := by
  rw [frame]; exact h

/-- WALL_CLOCK_WRITE sets seconds and fraction: the second write is accepted like the first, and keeps its seconds. -/
theorem wallClockWrite_sets {p : Session} {seconds : BitVec 32} {fraction : BitVec 16} {s : State}
    (hs : Accepts p 0x2100 2 (leBytes 4 seconds.toNat) s) (hf : Accepts p 0x2100 3 (leBytes 2 fraction.toNat) s) :
    ∃ t, exec (.wallClockWrite p seconds fraction) s = .next t ∧ SetsClock p 3 seconds.toNat fraction.toNat s t := by
  obtain ⟨answered, time, frame⟩ := secondsPut_setsClock hs
  generalize hu : sessionPut p 0x2100 2 4 seconds.toNat s = u at answered time frame
  have again : Accepts p 0x2100 3 (leBytes 2 fraction.toNat) u :=
    ⟨reaches_after_answer hf.1 answered frame, passes_of_clockFrame hf.2 frame⟩
  have kept : u.wallSeconds = seconds.toNat :=
    wallSeconds_of_wall (congrArg Time.wallSet time) (congrArg Time.wall time) (wallFraction_lt s)
  have second := fractionPut_setsClock again
  rw [kept] at second
  refine ⟨_, by rw [← hu]; rfl, second.answered, ?_, frame.trans second.frame⟩
  rw [second.time, time]

/-! ### The time base -/

theorem handshakes_of_none_waiting {s : State} (handed : s.isl.handed = []) (waiting : s.isl.waiting = []) : handshakes s = s := by
  simp [handshakes, handed, waiting]

/-- A wall clock that is set advances with the time base. -/
theorem tick_wall {s : State} (set : s.time.wallSet = true) :
    ((tick s).time.wall : Int) - s.time.wall = 65536 * (((tick s).time.timeBase : Int) - s.time.timeBase) := by
  simp only [tick, set, if_true]
  split
  · simp only; omega
  · simp

end Sys2Proof.Machine

open Sys2Proof Sys2Proof.Machine

/-- Settles O57: the two writes of the administrator's session set the clock, and a tick moves clock and time base together. -/
theorem wallClockSetAndAdvances : Obligations.WallClockSetAndAdvances := by
  unfold Obligations.WallClockSetAndAdvances
  constructor
  · intro p seconds fraction s hs hf
    obtain ⟨t, run, answered, time, frame⟩ := wallClockWrite_sets hs hf
    have set : t.time.wallSet = true := congrArg Time.wallSet time
    have wall : t.time.wall = wallUnits seconds.toNat fraction.toNat := congrArg Time.wall time
    refine ⟨t, run, answered, set, wallSeconds_of_wall set wall fraction.isLt, wallFraction_of_wall set wall fraction.isLt, ?_⟩
    have clock : t.time = { s.time with wallSet := true, wall := t.time.wall } := by rw [wall]; exact time
    rw [← clock]
    exact frame
  · intro s idle set
    have taken : step s = .next (handshakes (tick s)) := by simp only [step, idle]
    obtain ⟨isl, -⟩ := tick_frame s
    refine ⟨tick s, taken, fun handed waiting => ?_, tick_wall set⟩
    rw [taken, handshakes_of_none_waiting (isl ▸ handed) (isl ▸ waiting)]
end

section
/-! A second attempt to open the expert session (03 R124): it is refused, told, and the first session stays open. -/

namespace Sys2Proof.Machine

/-- While the expert session is open, a write of ExpertOpen that does not close it is refused: for the lockout of 04 R161 if one runs,
else for the holder. -/
theorem setExpert_of_open {p q : Session} {v : Nat} {s : State} (opened : s.mode.expert = some q)
    (noClose : ¬(holdsExpert p s = true ∧ v = 0)) :
    setExpert p v s = refuseExpert (if s.mode.lockoutEnd.isSome then abState else abHolder) s := by
  unfold setExpert
  rw [if_neg noClose]
  by_cases locked : s.mode.lockoutEnd.isSome = true
  · rw [if_pos locked, if_pos locked]
  · have held : s.mode.expert.isSome = true := by rw [opened]; rfl
    rw [if_neg locked, if_neg locked, if_pos held]

theorem replyTo_abort_ev (p : Session) (tag : Byte) (index sub c : Nat) (t : State) :
    (replyTo p tag index sub (t, .abort c)).ev = t.ev := by
  obtain ⟨a, b, h⟩ := replyTo_abort p tag index sub c t
  exact (congrArg State.ev h :)

theorem replyTo_abort_mode (p : Session) (tag : Byte) (index sub c : Nat) (t : State) :
    (replyTo p tag index sub (t, .abort c)).mode = t.mode := by
  obtain ⟨a, b, h⟩ := replyTo_abort p tag index sub c t
  exact (congrArg State.mode h :)

/-- A refusal of ExpertOpen to a request that has arrived raises EV-0014. -/
theorem refuseExpert_told (p : Session) (tag : Byte) (index sub code : Nat) (s : State) (x : Nat) (m : Vector Mbx 16) :
    Told 14 s (replyTo p tag index sub (refuseExpert code (arrivedAs s x m))) := by
  have raised : Told 14 s (raise (arrivedAs s x m) 14 .control []) := (raise_told ..).of rfl rfl rfl
  exact raised.ev_eq (replyTo_abort_ev ..)

/-- A refusal of ExpertOpen to a request that has arrived leaves the expert session as it is. -/
theorem refuseExpert_expert (p : Session) (tag : Byte) (index sub code : Nat) (s : State) (x : Nat) (m : Vector Mbx 16) :
    (replyTo p tag index sub (refuseExpert code (arrivedAs s x m))).mode.expert = s.mode.expert := by
  simp only [refuseExpert, replyTo_abort_mode, raise_frame, arrivedAs]

/-- An accepted EXPERT_OPEN is the write of its code to ExpertOpen, answered. -/
theorem exec_expertOpen_accepts {p : Session} {code : BitVec 32} {s : State} (h : Accepts p 0x2021 1 (leBytes 4 code.toNat) s) :
    ∃ x m, exec (.expertOpen p code) s =
      .next (replyTo p (tagOf p s) 0x2021 1 (setExpert p code.toNat (arrivedAs s x m))) := by
  have action : ∀ a u, actionOf p a 0x2021 1 (ofLe (leBytes 4 code.toNat)) u = some (setExpert p code.toNat u) := by
    intro a u
    rw [ofLe_leBytes_toNat code (by decide)]
    rfl
  obtain ⟨x, m, e⟩ := sessionWrite_action (index := 0x2021) (sub := 1) (accepts_commands_of_control rfl h) rfl action
  exact ⟨x, m, congrArg Host.Outcome.next e⟩

end Sys2Proof.Machine

open Sys2Proof Sys2Proof.Machine

/-- Settles O55: while the session is open, ExpertOpen refuses every write but its holder's 0, and a refusal only answers and tells. -/
theorem oneExpertSession : Obligations.OneExpertSession := by
  unfold Obligations.OneExpertSession
  intro p q code s accepted opened noClose
  have noCloseNat : ¬(holdsExpert p s = true ∧ code.toNat = 0) := fun ⟨holds, zero⟩ => noClose ⟨holds, BitVec.eq_of_toNat_eq zero⟩
  obtain ⟨x, m, run⟩ := exec_expertOpen_accepts accepted
  rw [setExpert_of_open (s := arrivedAs s x m) opened noCloseNat] at run
  have nonzero : (if s.mode.lockoutEnd.isSome then abState else abHolder) ≠ 0 := by split <;> decide
  exact ⟨_, _, run, nonzero, replyTo_refused _ _ _ _ _ _ nonzero, refuseExpert_told .., (refuseExpert_expert ..).trans opened⟩
end

section
/-! The configuration lock and the end of a warm BOOT (02 **State transitions**; 04 R143): step 12 enters the state that the warm BOOT
names with `enterState`, which leaves the lock as it is. The lock closes at an entry to WARN by `enterWarn`, so a warm BOOT that names
WARN enters it past that. The model starts a warm BOOT in SERVE and RESTORE, and at the end of a BOOT for an island in fault, so a run
from reset should not come to one that names WARN; O56 speaks of every state. -/

namespace Sys2Proof.Machine

/-- A report that the BOOT takes ends the step in hand. -/
theorem exec_bootStepComplete_of_boots {s : State} (r : BootReport) (runs : boots s = true) (goesOn : bootYields s = false) :
    exec (.bootStepComplete r) s = .next (stepEnds r s) :=
  congrArg Host.Outcome.next (if_pos ⟨runs, goesOn⟩)

/-- The last step of a warm BOOT that names WARN as the state to return to, with the configuration lock open. -/
def bootReturningToWarn : State :=
  { State.reset with
    life := { State.reset.life with dev := .boot, boot := .warm .warn, bootStep := 7 }
    mode := { State.reset.mode with lock := true } }

/-- The end of that BOOT enters WARN with the lock still open. -/
theorem bootReturningToWarn_ends :
    (stepEnds .done bootReturningToWarn).life.dev = .warn ∧ (stepEnds .done bootReturningToWarn).mode.lock = true := by
  decide +kernel

end Sys2Proof.Machine

open Sys2Proof Sys2Proof.Machine

/-- Refutes O56 in its third clause: a warm BOOT that names WARN enters it at its end, and the lock stays open. -/
theorem not_configLockCloses : ¬ Obligations.ConfigLockCloses := by
  unfold Obligations.ConfigLockCloses
  rintro ⟨-, -, closedOnEntry, -⟩
  obtain ⟨entersWarn, lockOpen⟩ := bootReturningToWarn_ends
  have run : exec (.bootStepComplete .done) bootReturningToWarn = .next (stepEnds .done bootReturningToWarn) :=
    exec_bootStepComplete_of_boots .done rfl rfl
  have changes : bootReturningToWarn.life.dev ≠ (stepEnds .done bootReturningToWarn).life.dev := by rw [entersWarn]; decide
  have closed := closedOnEntry _ _ _ run changes (.inr entersWarn)
  exact absurd (lockOpen.symm.trans closed) (by decide)
end

section
/-! Taking slots for a PUT (06 R285, R287): each slot it takes out of the cache is takeable, and every other stays where it is. -/

namespace Sys2Proof.Machine

/-- In a map of canonical form, an entry of the list is what its key finds. -/
theorem mapFind_of_mem {α : Type} {m : SMap α} {k : Nat} {v : α} (wf : mapWf m = true) (mem : (k, v) ∈ m) :
    mapFind m k = some v := by
  rw [mapWf_iff_pairwise] at wf
  induction m with
  | nil => cases mem
  | cons p m ih =>
    obtain ⟨above, rest⟩ := List.pairwise_cons.1 wf
    rcases List.mem_cons.1 mem with rfl | later
    · exact if_pos rfl
    · have beyond : k ≠ p.1 := (above _ later).ne'
      exact (if_neg beyond).trans (ih rest later)

/-- The least recently used of some slots is one of them. -/
theorem mem_of_oldest {m : SMap Slot} {q : Nat × Slot} (h : oldest m = some q) : q ∈ m := by
  induction m with
  | nil => cases h
  | cons p m ih =>
    unfold oldest at h
    split at h
    case h_1 => cases h; exact List.mem_cons_self
    case h_2 r later =>
      split at h
      · cases h; exact List.mem_cons_self
      · cases h; exact List.mem_cons_of_mem p (ih later)

/-- The oldest of the slots that pass two tests is a slot that passes the first. -/
theorem mem_of_oldest_filter {m : SMap Slot} {f g : Nat × Slot → Bool} {q : Nat × Slot}
    (h : oldest ((m.filter f).filter g) = some q) : q ∈ m ∧ f q = true :=
  List.mem_filter.1 (List.mem_of_mem_filter (mem_of_oldest h))

/-- The slot that is taken, of another tenant or of the PUT's own, is one of the cache, and takeable (06 R285, R287). -/
theorem takeSlot_takeable {s : State} {n : Fin 16} {keep : List Nat} {i : Nat} (h : takeSlot s n keep = some i) :
    ∃ q, (i, q) ∈ s.cache.slots ∧ takeable s.cache keep (i, q) = true := by
  simp only [takeSlot] at h
  split at h
  case h_1 p aboveReserve =>
    cases h
    exact ⟨p.2, mem_of_oldest_filter aboveReserve⟩
  case h_2 =>
    obtain ⟨p, own, rfl⟩ := Option.map_eq_some_iff.1 h
    exact ⟨p.2, mem_of_oldest_filter own⟩

/-- Taking out another slot leaves a slot where it is. -/
theorem mapFind_eraseSlot_of_ne {x : Cache} {i k : Nat} (h : k ≠ i) :
    mapFind (eraseSlot x i).slots k = mapFind x.slots k :=
  (mapFind_mapErase x.slots i k).trans (if_neg h)

/-- Evicting slots leaves every slot that is not takeable where it is: by induction on their number, since each slot that goes is
takeable, and the tenants stay as they are. -/
theorem evictClean_keeps {n : Fin 16} {keep : List Nat} {count k : Nat} {s u : State} {q : Slot}
    (wf : mapWf s.cache.slots = true) (run : evictClean n keep count s = some u) (held : mapFind s.cache.slots k = some q)
    (stays : takeable s.cache keep (k, q) = false) : mapFind u.cache.slots k = some q := by
  induction count generalizing s with
  | zero => cases run; exact held
  | succ count ih =>
    unfold evictClean at run
    split at run
    case h_1 => cases run
    case h_2 i taken =>
      obtain ⟨p, mem, goes⟩ := takeSlot_takeable taken
      have other : k ≠ i := by
        rintro rfl
        obtain rfl : q = p := Option.some.inj (held.symm.trans (mapFind_of_mem wf mem))
        exact absurd (goes.symm.trans stays) (by decide)
      exact ih (mapWf_mapErase _ i wf) run ((mapFind_eraseSlot_of_ne other).trans held) stays

/-- A dirty slot, a frozen one and one of a frozen tenant are not takeable (06 R287). -/
theorem takeable_eq_false {s : State} {keep : List Nat} {k : Nat} {q : Slot}
    (h : q.dirty = true ∨ q.frozen = true ∨ (s.ten q.tenant).frozen = true) : takeable s.cache keep (k, q) = false := by
  have clauses : takeable s.cache keep (k, q) =
      (!q.dirty && !q.frozen && !(s.ten q.tenant).frozen && !keep.contains k) := rfl
  rw [clauses]
  rcases h with dirty | frozen | tenantFrozen
  · simp [dirty]
  · simp [frozen]
  · simp [tenantFrozen]

end Sys2Proof.Machine

open Sys2Proof Sys2Proof.Machine

/-- Settles O58: taking slots is evicting them, and eviction keeps every slot that is not takeable. -/
theorem dirtySlotsAreNotTaken : Obligations.DirtySlotsAreNotTaken := by
  unfold Obligations.DirtySlotsAreNotTaken
  intro s n vol lba len need u k q inv run held guarded
  exact evictClean_keeps inv.slots run held (takeable_eq_false guarded)
end

section
/-! What an event source may reach (15 R825, R841, R850): a disabled source reaches nothing, an error source starts a record of its
own, and a tenant's source reaches the ring of that tenant and, under bit 8 of its EventClasses, PF0's. -/

namespace Sys2Proof.Machine

/-! ### Disabled sources -/

/-- A record of a disabled source is passed over on its way into the log. -/
theorem logRecs_cons_of_disabled {s : State} {r : Rec} (disabled : evEnabled s r.event = false) (fuel : Nat) (rest : List Rec)
    (x : EvPart) : logRecs s (fuel + 1) (r :: rest) x = logRecs s fuel rest x := by
  rw [logRecs, if_pos disabled]

/-- While CONTROL runs and the log has started, a record goes straight into the log. -/
theorem takeRec_of_logRuns {s : State} (runs : controlRuns s = true) (started : s.ev.started = true) (r : Rec) :
    takeRec s r = logRecs s 64 [r] ⟨s.ev, s.can, s.out⟩ := by
  simp only [takeRec, runs, started, Bool.true_eq_false, if_false]

theorem raise_of_disabled {s : State} {ev : Nat} (disabled : evEnabled s ev = false) (runs : controlRuns s = true)
    (started : s.ev.started = true) (isl : EvIsland) (vs : List (Nat × Nat)) : raise s ev isl vs = s := by
  have taken : takeRec s (newRec s ev isl (packData vs)) = ⟨s.ev, s.can, s.out⟩ :=
    calc takeRec s (newRec s ev isl (packData vs))
      _ = logRecs s 64 [newRec s ev isl (packData vs)] ⟨s.ev, s.can, s.out⟩ := takeRec_of_logRuns runs started _
      _ = logRecs s 63 [] ⟨s.ev, s.can, s.out⟩ := logRecs_cons_of_disabled disabled ..
      _ = ⟨s.ev, s.can, s.out⟩ := rfl
  simp only [raise, raiseWord, taken]

/-! ### Folding -/

/-- Only an occurrence below the severity of an error folds into a record. -/
theorem foldsInto_of_error {s : State} {r : Rec} (error : 2 ≤ r.severity) (old : Rec) : foldsInto s r old = false := by
  simp [foldsInto, Nat.not_lt.2 error]

/-- If no record takes an occurrence, no log folds it. -/
theorem foldLog_eq_none {s : State} {r : Rec} (refuses : ∀ old, foldsInto s r old = false) (log : List Rec) :
    foldLog s r log = none := by
  induction log with
  | nil => rfl
  | cons old rest ih =>
    by_cases same : old.event = r.event
    · simp [foldLog, same, refuses]
    · simp [foldLog, same, ih]

/-! ### Rings -/

/-- The sources of a tenant's block are those of banks 10 to 17, which bit 8 of EventClasses selects. -/
theorem classBit_of_tenantOf {ev v : Nat} (tenant : tenantOf ev = some v) : classBit (ev / 64) = 8 := by
  have block : 640 ≤ ev ∧ ev < 1152 := by
    by_contra outside
    simp [tenantOf, outside] at tenant
  unfold classBit
  split_ifs <;> omega

/-- Another tenant's source is received by PF0 only, under bit 8 of its EventClasses. -/
theorem receives_of_otherTenant {s : State} {n : Fin 16} {ev v : Nat} (tenant : tenantOf ev = some v) (other : v ≠ n.val)
    (notPF0 : ¬(n = 0 ∧ (s.cfg (blockIndex 0x3050 0) 2).testBit 8 = true)) : receives s n ev = false := by
  have notOwn : (tenantOf ev == some n.val) = false := by simp [tenant, other]
  rw [receives, notOwn, Bool.false_or, classBit_of_tenantOf tenant]
  by_cases pf0 : n = 0
  · subst pf0
    have unselected : (s.cfg (blockIndex 0x3050 0) 2).testBit 8 = false := by simpa using notPF0
    simp [unselected]
  · simp [pf0]

theorem ringPut_of_not_receives {s : State} {n : Fin 16} {r : Rec} (unreceived : receives s n r.event = false) (x : EvPart) :
    ringPut s x n r = (x, false) := by
  simp only [ringPut, unreceived, or_true, if_true]

end Sys2Proof.Machine

open Sys2Proof Sys2Proof.Machine

/-- Settles O52: the log passes over a record of a disabled source, so raising one while the log runs leaves the state as it was. -/
theorem disabledSourcesLeaveNoTrace : Obligations.DisabledSourcesLeaveNoTrace := by
  unfold Obligations.DisabledSourcesLeaveNoTrace
  exact ⟨fun s ev isl vs disabled runs started => raise_of_disabled disabled runs started isl vs,
    fun s fuel r rest x disabled => logRecs_cons_of_disabled disabled fuel rest x⟩

/-- Settles O53: no record takes an occurrence of an error source, so none in the log does. -/
theorem errorSourcesNeverFold : Obligations.ErrorSourcesNeverFold := by
  unfold Obligations.ErrorSourcesNeverFold
  intro s r log error held
  exact foldLog_eq_none (foldsInto_of_error (held.trans error).ge) log

/-- Settles O54: bit 8 alone selects the tenants' banks, it counts for PF0 alone, and a ring takes only what its function receives. -/
theorem ringsKeepTenantsApart : Obligations.RingsKeepTenantsApart := by
  unfold Obligations.RingsKeepTenantsApart
  intro s n x r v tenant other notPF0
  exact ringPut_of_not_receives (receives_of_otherTenant tenant other notPF0) x
end

section
/-! The invariant (O50, O51) and the answers of all commands (O46 to O48): the parts of the invariant, what each operation of the model
does to the parts it may touch, and from these that no command breaks it or changes the queue. An operation's lemma `op_bounds` names
only the parts that it may change; `op_frame` keeps the others. -/

namespace Sys2Proof.Machine

/-! ### The parts of the invariant -/

/-- The directory and the handles keep their canonical form. -/
structure CacheOk (x : Cache) : Prop where
  slots : mapWf x.slots = true
  handles : mapWf x.handles = true

/-- The configuration values keep their canonical form. -/
def DictOk (x : Dict) : Prop := mapWf x.values = true

/-- The values that wait for their island keep their canonical form. -/
def IslOk (x : Islands) : Prop := mapWf x.undelivered = true

/-- The log and the two stores of early events keep their bounds. -/
structure EvOk (x : Events) : Prop where
  log : x.log.length ≤ 4096
  heldSup : x.heldSup.length ≤ 16
  heldCtl : x.heldCtl.length ≤ 64

/-- The EMCY queue keeps its bound. -/
def CanOk (x : Can) : Prop := x.emcy.length ≤ 32

/-- The event areas of the keep-store copies keep their bound. -/
structure KeepOk (x : Keep) : Prop where
  copyA : x.copyA.body.events.length ≤ 64
  copyB : x.copyB.body.events.length ≤ 64

/-- The scanner stands at one of its slots. -/
def ScanOk (x : Rails) : Prop := x.slot < 20

/-- The invariant, part by part. -/
theorem inv_iff (s : State) : Inv s ↔
    CacheOk s.cache ∧ DictOk s.dict ∧ IslOk s.isl ∧ EvOk s.ev ∧ CanOk s.can ∧ KeepOk s.keep ∧ ScanOk s.rails :=
  ⟨fun h => ⟨⟨h.slots, h.handles⟩, h.values, h.undelivered, ⟨h.log, h.heldSup, h.heldCtl⟩, h.emcy, ⟨h.keepA, h.keepB⟩, h.scan⟩,
    fun ⟨cache, values, undelivered, ev, emcy, keep, scan⟩ => ⟨cache.slots, cache.handles, values, undelivered, ev.log, ev.heldSup,
      ev.heldCtl, emcy, keep.copyA, keep.copyB, scan⟩⟩

/-! ### The parts of a record that is built anew -/

@[simp] theorem cacheOk_mk (a : SMap Slot) (b : SMap (Fin 16 × BitVec 32)) (c : Nat) (d : Fin 16) (e : Vector Tenant 16) (f : Nat) :
    CacheOk ⟨a, b, c, d, e, f⟩ ↔ mapWf a = true ∧ mapWf b = true := ⟨fun h => ⟨h.slots, h.handles⟩, fun h => ⟨h.1, h.2⟩⟩

@[simp] theorem CacheOk.wf {x : Cache} (h : CacheOk x) : mapWf x.slots = true ∧ mapWf x.handles = true := ⟨h.slots, h.handles⟩

@[simp] theorem dictOk_mk (a : SMap Nat) (b : Vector Nat 16) (c : Vector Nat 128) : DictOk ⟨a, b, c⟩ ↔ mapWf a = true := .rfl

@[simp] theorem DictOk.wf {x : Dict} (h : DictOk x) : mapWf x.values = true := h

@[simp] theorem islOk_mk (a : Vector IslandRun 11) (b c : SMap Nat) (d : List (Nat × Nat)) (e : Vector (Option Nat) 11) :
    IslOk ⟨a, b, c, d, e⟩ ↔ mapWf b = true := .rfl

@[simp] theorem IslOk.wf {x : Islands} (h : IslOk x) : mapWf x.undelivered = true := h

@[simp] theorem evOk_mk (a : List Rec) (b c : Bool) (d : Nat) (e f : List Rec) (g i : Nat) (j : Vector (BitVec 64) 28)
    (k : Vector EvRing 16) : EvOk ⟨a, b, c, d, e, f, g, i, j, k⟩ ↔ a.length ≤ 4096 ∧ e.length ≤ 16 ∧ f.length ≤ 64 :=
  ⟨fun h => ⟨h.log, h.heldSup, h.heldCtl⟩, fun h => ⟨h.1, h.2.1, h.2.2⟩⟩

@[simp] theorem EvOk.within {x : Events} (h : EvOk x) : x.log.length ≤ 4096 ∧ x.heldSup.length ≤ 16 ∧ x.heldCtl.length ≤ 64 :=
  ⟨h.log, h.heldSup, h.heldCtl⟩

@[simp] theorem canOk_mk (a : Nmt) (b c d : Nat) (e : Bool) (f : List (Fin 128)) (g : List (List Byte)) (i : Nat) (j : Bool)
    (k : Vector Tpdo 4) : CanOk ⟨a, b, c, d, e, f, g, i, j, k⟩ ↔ g.length ≤ 32 := .rfl

@[simp] theorem CanOk.within {x : Can} (h : CanOk x) : x.emcy.length ≤ 32 := h

@[simp] theorem scanOk_mk (a : Vector Rail 12) (b : Vector GateReg 8) (c : Vector Bool 4) (d : Vector ResetRun 4) (e : Vector Trim 4)
    (f : Bool) (g : Nat) (i : Int) (j : Nat) (k l m : Bool) (n : WalkKind) (o : Nat) (p q r : Bool) (x : FaultRec) :
    ScanOk ⟨a, b, c, d, e, f, g, i, j, k, l, m, n, o, p, q, r, x⟩ ↔ g < 20 := .rfl

@[simp] theorem ScanOk.within {x : Rails} (h : ScanOk x) : x.slot < 20 := h

@[simp] theorem keepOk_mk (a b : KeepCopy) (c : Bool) (d : Option Nat) (e : Nat) :
    KeepOk ⟨a, b, c, d, e⟩ ↔ a.body.events.length ≤ 64 ∧ b.body.events.length ≤ 64 := ⟨fun h => ⟨h.copyA, h.copyB⟩, fun h => ⟨h.1, h.2⟩⟩

@[simp] theorem KeepOk.within {x : Keep} (h : KeepOk x) : x.copyA.body.events.length ≤ 64 ∧ x.copyB.body.events.length ≤ 64 :=
  ⟨h.copyA, h.copyB⟩

/-! ### Conditionals -/

@[simp] theorem cacheOk_ite (c : Prop) [Decidable c] (a b : Cache) :
    CacheOk (if c then a else b) ↔ if c then CacheOk a else CacheOk b := by split <;> rfl

@[simp] theorem dictOk_ite (c : Prop) [Decidable c] (a b : Dict) :
    DictOk (if c then a else b) ↔ if c then DictOk a else DictOk b := by split <;> rfl

@[simp] theorem islOk_ite (c : Prop) [Decidable c] (a b : Islands) :
    IslOk (if c then a else b) ↔ if c then IslOk a else IslOk b := by split <;> rfl

@[simp] theorem evOk_ite (c : Prop) [Decidable c] (a b : Events) :
    EvOk (if c then a else b) ↔ if c then EvOk a else EvOk b := by split <;> rfl

@[simp] theorem canOk_ite (c : Prop) [Decidable c] (a b : Can) :
    CanOk (if c then a else b) ↔ if c then CanOk a else CanOk b := by split <;> rfl

@[simp] theorem keepOk_ite (c : Prop) [Decidable c] (a b : Keep) :
    KeepOk (if c then a else b) ↔ if c then KeepOk a else KeepOk b := by split <;> rfl

@[simp] theorem scanOk_ite (c : Prop) [Decidable c] (a b : Rails) :
    ScanOk (if c then a else b) ↔ if c then ScanOk a else ScanOk b := by split <;> rfl

/-! ### Raising events -/

theorem setPending_lists (e : Events) (ev : Nat) : (setPending e ev).log = e.log ∧ (setPending e ev).heldSup = e.heldSup ∧
    (setPending e ev).heldCtl = e.heldCtl := by
  unfold setPending
  split <;> exact ⟨rfl, rfl, rfl⟩

theorem foldLog_length {s : State} {r : Rec} {l m : List Rec} (h : foldLog s r l = some m) : m.length = l.length := by
  induction l generalizing m with
  | nil => cases h
  | cons old rest ih =>
    unfold foldLog at h
    split at h
    · split at h <;> cases h
      rfl
    · obtain ⟨m', e, rfl⟩ := Option.map_eq_some_iff.1 h
      simp [ih e]

theorem ringPut_log (s : State) (x : EvPart) (n : Fin 16) (r : Rec) : (ringPut s x n r).1.ev.log = x.ev.log := by
  unfold ringPut
  dsimp only
  (repeat' split) <;> rfl

theorem ringAll_log (s : State) (x : EvPart) (r : Rec) : (ringAll s x r).1.ev.log = x.ev.log := by
  unfold ringAll
  generalize List.finRange 16 = l
  suffices h : ∀ a : EvPart × List Nat, (l.foldl (fun (a : EvPart × List Nat) n =>
      ((ringPut s a.1 n r).1, if (ringPut s a.1 n r).2 then a.2 ++ [n.val] else a.2)) a).1.ev.log = a.1.ev.log from h _
  induction l with
  | nil => intro a; rfl
  | cons n l ih => intro a; rw [List.foldl_cons, ih]; exact ringPut_log s a.1 n r

theorem emcyPut_within (s : State) (x : EvPart) (r : Rec) (h : x.can.emcy.length ≤ 32) : (emcyPut s x r).1.can.emcy.length ≤ 32 := by
  unfold emcyPut
  split
  · exact h
  · split
    · exact h
    · rename_i room
      simp only [not_or, not_le] at room
      simpa using room.1

theorem logSize_le (e : Events) : logSize e ≤ 4096 := by unfold logSize; split <;> omega

theorem logRecs_log (s : State) (fuel : Nat) (l : List Rec) (x : EvPart) (h : x.ev.log.length ≤ 4096) :
    (logRecs s fuel l x).ev.log.length ≤ 4096 := by
  induction fuel generalizing l x with
  | zero => exact h
  | succ fuel ih =>
    cases l with
    | nil => exact h
    | cons r l =>
      unfold logRecs
      split
      · exact ih _ _ h
      · split
        · rename_i m folded
          refine ih _ _ ?_
          simpa [(setPending_lists _ _).1, foldLog_length folded] using h
        · refine ih _ _ ?_
          rw [emcyPut_ev, ringAll_log]
          have := logSize_le x.ev
          simp only [(setPending_lists _ _).1, List.length_take, List.length_cons]
          omega

theorem logRecs_emcy (s : State) (fuel : Nat) (l : List Rec) (x : EvPart) (h : x.can.emcy.length ≤ 32) :
    (logRecs s fuel l x).can.emcy.length ≤ 32 := by
  induction fuel generalizing l x with
  | zero => exact h
  | succ fuel ih =>
    cases l with
    | nil => exact h
    | cons r l =>
      unfold logRecs
      split
      · exact ih _ _ h
      · split
        · exact ih _ _ h
        · refine ih _ _ (emcyPut_within _ _ _ ?_)
          rw [ringAll_can]
          exact h

theorem logRecs_evOk (s : State) (fuel : Nat) (l : List Rec) (x : EvPart) (h : EvOk x.ev) : EvOk (logRecs s fuel l x).ev := by
  obtain ⟨sup, ctl⟩ := logRecs_held s fuel l x
  exact ⟨logRecs_log _ _ _ _ h.log, sup ▸ h.heldSup, ctl ▸ h.heldCtl⟩

@[simp] theorem logRecs_bounds (s : State) (fuel : Nat) (l : List Rec) (x : EvPart) :
    (CanOk x.can → CanOk (logRecs s fuel l x).can) ∧ (EvOk x.ev → EvOk (logRecs s fuel l x).ev) :=
  ⟨logRecs_emcy s fuel l x, logRecs_evOk s fuel l x⟩

@[simp] theorem raiseWord_bounds (s : State) (ev : Nat) (isl : EvIsland) (data : BitVec 32) :
    (CanOk s.can → CanOk (raiseWord s ev isl data).can) ∧ (EvOk s.ev → EvOk (raiseWord s ev isl data).ev) := by
  refine ⟨fun h => ?_, fun h => ?_⟩
  all_goals unfold raiseWord takeRec; dsimp only
  · split
    · split <;> exact h
    · split
      · split <;> exact h
      · exact logRecs_emcy _ _ _ _ h
  · split
    · split
      · simp [h]; omega
      · simp [h]
    · split
      · split
        · simp [h]; omega
        · simp [h]
      · exact logRecs_evOk _ _ _ _ h

@[simp] theorem keepEvents_length (s : State) : (keepEvents s).length ≤ 64 := by
  simp only [keepEvents, last64, List.length_drop]
  omega

@[simp] theorem keepPut_keepOk (k : Keep) (b : KeepRec) (h : KeepOk k) (hb : b.events.length ≤ 64) : KeepOk (keepPut k b) := by
  unfold keepPut
  split <;> simp [h, hb]

@[simp] theorem keepPut_within (k : Keep) (b : KeepRec) (h : KeepOk k) (hb : b.events.length ≤ 64) :
    (keepPut k b).copyA.body.events.length ≤ 64 ∧ (keepPut k b).copyB.body.events.length ≤ 64 :=
  (keepPut_keepOk k b h hb).within

@[simp] theorem keepRecord_events (s : State) (a b : Option Snap) : (keepRecord s a b).events = keepEvents s := by
  unfold keepRecord
  rfl

@[simp] theorem keepTear_keepOk (k : Keep) (h : KeepOk k) : KeepOk (keepTear k) := by
  unfold keepTear
  split <;> simp [h]

@[simp] theorem keepBody_within (k : Keep) (h : KeepOk k) : (keepBody k).events.length ≤ 64 := by
  unfold keepBody
  split
  case h_1 c newest =>
    unfold keepNewest at newest
    (repeat' split at newest) <;> cases newest
    · exact h.copyA
    · exact h.copyB
  case h_2 => exact Nat.zero_le _

theorem keepSeed_within (s : State) (h : KeepOk s.keep) : (keepSeed s).length ≤ 64 :=
  (List.length_filter_le ..).trans (keepBody_within _ h)

@[simp] theorem freeHandles_cacheOk (x : Cache) (h : CacheOk x) : CacheOk (freeHandles x) := by simp [freeHandles, h]

@[simp] theorem eraseSlot_cacheOk (x : Cache) (k : Nat) (h : CacheOk x) : CacheOk (eraseSlot x k) :=
  freeHandles_cacheOk _ (by simp [h])

@[simp] theorem eraseSlots_cacheOk (x : Cache) (p : Slot → Bool) (h : CacheOk x) : CacheOk (eraseSlots x p) :=
  freeHandles_cacheOk _ (by simp [h])

@[simp] theorem clearCopyValid_cacheOk (x : Cache) (h : CacheOk x) : CacheOk (clearCopyValid x) := by simp [clearCopyValid, h]

/-- A handle that is found or taken anew leaves the directory, and the handles canonical. -/
theorem withHandle_cacheOk {x : Cache} {n : Fin 16} {vol : BitVec 32} {hx : Nat × Cache} (taken : withHandle x n vol = some hx)
    (h : CacheOk x) : CacheOk hx.2 := by
  unfold withHandle at taken
  (repeat' split at taken) <;> cases taken
  · exact h
  · simp [h]

theorem evictClean_cacheOk {n : Fin 16} {keep : List Nat} {k : Nat} {s t : State} (gone : evictClean n keep k s = some t)
    (h : CacheOk s.cache) : CacheOk t.cache := by
  induction k generalizing s with
  | zero => cases gone; exact h
  | succ k ih =>
    unfold evictClean at gone
    split at gone
    · cases gone
    · exact ih gone (eraseSlot_cacheOk _ _ h)

theorem takeSlots_bounds {s t : State} {n : Fin 16} {vol : BitVec 32} {lba len need : Nat}
    (taken : takeSlots s n vol lba len need = some t) :
    (CacheOk s.cache → CacheOk t.cache) ∧ (IslOk s.isl → IslOk t.isl) ∧ (DictOk s.dict → DictOk t.dict) ∧ (CanOk s.can → CanOk t.can) ∧
    (EvOk s.ev → EvOk t.ev) ∧ (KeepOk s.keep → KeepOk t.keep) ∧ (ScanOk s.rails → ScanOk t.rails) := by
  refine ⟨evictClean_cacheOk taken, ?_, ?_, ?_, ?_, ?_, ?_⟩
  all_goals rw [takeSlots_eq _ _ _ _ _ _ _ taken]; exact id

@[simp] theorem eventsReset_evOk : EvOk Events.reset := ⟨by decide, by decide, by decide⟩

@[simp] theorem islandsReset_islOk : IslOk Islands.reset := rfl

@[simp] theorem dictReset_dictOk : DictOk Dict.reset := rfl

@[simp] theorem canReset_canOk : CanOk Can.reset := Nat.zero_le _

/-! ### Folds -/

@[simp] theorem foldl_bounds {α : Type} (f : State → α → State) (l : List α) (s : State) :
    (CacheOk s.cache → (∀ t a, CacheOk t.cache → CacheOk (f t a).cache) → CacheOk (l.foldl f s).cache) ∧
    (DictOk s.dict → (∀ t a, DictOk t.dict → DictOk (f t a).dict) → DictOk (l.foldl f s).dict) ∧
    (IslOk s.isl → (∀ t a, IslOk t.isl → IslOk (f t a).isl) → IslOk (l.foldl f s).isl) ∧
    (EvOk s.ev → (∀ t a, EvOk t.ev → EvOk (f t a).ev) → EvOk (l.foldl f s).ev) ∧
    (CanOk s.can → (∀ t a, CanOk t.can → CanOk (f t a).can) → CanOk (l.foldl f s).can) ∧
    (KeepOk s.keep → (∀ t a, KeepOk t.keep → KeepOk (f t a).keep) → KeepOk (l.foldl f s).keep) ∧
    (ScanOk s.rails → (∀ t a, ScanOk t.rails → ScanOk (f t a).rails) → ScanOk (l.foldl f s).rails) := by
  refine ⟨?_, ?_, ?_, ?_, ?_, ?_, ?_⟩
  all_goals exact fun start each => List.foldlRecOn l f start fun t ht a _ => each t a ht

@[simp] theorem forAll_bounds {n : Nat} (f : State → Fin n → State) (s : State) :
    (CacheOk s.cache → (∀ t a, CacheOk t.cache → CacheOk (f t a).cache) → CacheOk (forAll n f s).cache) ∧
    (DictOk s.dict → (∀ t a, DictOk t.dict → DictOk (f t a).dict) → DictOk (forAll n f s).dict) ∧
    (IslOk s.isl → (∀ t a, IslOk t.isl → IslOk (f t a).isl) → IslOk (forAll n f s).isl) ∧
    (EvOk s.ev → (∀ t a, EvOk t.ev → EvOk (f t a).ev) → EvOk (forAll n f s).ev) ∧
    (CanOk s.can → (∀ t a, CanOk t.can → CanOk (f t a).can) → CanOk (forAll n f s).can) ∧
    (KeepOk s.keep → (∀ t a, KeepOk t.keep → KeepOk (f t a).keep) → KeepOk (forAll n f s).keep) ∧
    (ScanOk s.rails → (∀ t a, ScanOk t.rails → ScanOk (f t a).rails) → ScanOk (forAll n f s).rails) := foldl_bounds f _ s

/-! ### The operations -/

@[simp] theorem State.setIsland_bounds (s : State) (i : Island) (r : IslandRun) : (IslOk s.isl → IslOk (State.setIsland s i
    r).isl) := by
  intro h
  unfold State.setIsland
  simp [h]

@[simp] theorem State.modTen_bounds (s : State) (n : Fin 16) (f : Tenant → Tenant) : (CacheOk s.cache → CacheOk (State.modTen
    s n f).cache) := by
  intro h
  unfold State.modTen
  simp [h]

@[simp] theorem State.modRail_bounds (s : State) (r : Fin 12) (f : Rail → Rail) : (ScanOk s.rails → ScanOk (State.modRail s r
    f).rails) := by
  intro h
  unfold State.modRail
  simp [h]

@[simp] theorem State.modGate_bounds (s : State) (g : Fin 8) (f : GateReg → GateReg) : (ScanOk s.rails → ScanOk (State.modGate
    s g f).rails) := by
  intro h
  unfold State.modGate
  simp [h]

@[simp] theorem State.setHeld_bounds (s : State) (index sub v : Nat) : (DictOk s.dict → DictOk (State.setHeld s index sub
    v).dict) := by
  intro h
  unfold State.setHeld
  simp [h]

@[simp] theorem State.keepUndelivered_bounds (s : State) (index sub : Nat) : (IslOk s.isl → IslOk (State.keepUndelivered s
    index sub).isl) := by
  intro h
  unfold State.keepUndelivered
  (repeat' split) <;> simp [h]

@[simp] theorem State.deliver_bounds (s : State) (i : Island) : (IslOk s.isl → IslOk (State.deliver s i).isl) := by
  intro h
  unfold State.deliver
  simp +contextual [h]

@[simp] theorem State.storeCommand_bounds (s : State) (index sub v : Nat) : (IslOk s.isl → IslOk (State.storeCommand s index
    sub v).isl) := by
  intro h
  unfold State.storeCommand
  simp [h]

@[simp] theorem State.startIsland_bounds (s : State) (i : Island) : (IslOk s.isl → IslOk (State.startIsland s i).isl) := by
  intro h
  unfold State.startIsland
  simp [h]

@[simp] theorem State.stopIsland_bounds (s : State) (i : Island) : (IslOk s.isl → IslOk (State.stopIsland s i).isl) := by
  intro h
  unfold State.stopIsland
  simp [h]

@[simp] theorem raise_bounds (s : State) (ev : Nat) (isl : EvIsland) (vs : List (Nat × Nat)) : (CanOk s.can → CanOk (raise s
    ev isl vs).can) ∧ (EvOk s.ev → EvOk (raise s ev isl vs).ev) := by
  refine ⟨fun h => ?_, fun h => ?_⟩
  all_goals
    unfold raise
    simp [h]

@[simp] theorem raiseIf_bounds (b : Bool) (s : State) (ev : Nat) (isl : EvIsland) (vs : List (Nat × Nat)) : (CanOk s.can →
    CanOk (raiseIf b s ev isl vs).can) ∧ (EvOk s.ev → EvOk (raiseIf b s ev isl vs).ev) := by
  refine ⟨fun h => ?_, fun h => ?_⟩
  all_goals
    unfold raiseIf
    (repeat' split) <;> simp [h]

/-- The log starts with what the keep store gives, which fits (15 R836, R856). -/
@[simp] theorem startLog_bounds (s : State) (seed : List Rec) : (CanOk s.can → CanOk (startLog s seed).can) ∧
    (seed.length ≤ 4096 → EvOk (startLog s seed).ev) := by
  unfold startLog
  refine ⟨fun h => ?_, fun h => ?_⟩
  · exact (logRecs_bounds ..).1 h
  · exact (logRecs_bounds ..).2 (by simp [h])

@[simp] theorem releaseHeld_bounds (s : State) : (CanOk s.can → CanOk (releaseHeld s).can) ∧ (EvOk s.ev → EvOk (releaseHeld
    s).ev) := by
  refine ⟨fun h => ?_, fun h => ?_⟩
  all_goals
    unfold releaseHeld
    dsimp only
    (repeat' split) <;> simp [h]

@[simp] theorem keepWriteSnap_bounds (packSnap bankSnap : Option Snap) (s : State) : (KeepOk s.keep → KeepOk (keepWriteSnap
    packSnap bankSnap s).keep) ∧ (EvOk s.ev → EvOk (keepWriteSnap packSnap bankSnap s).ev) := by
  refine ⟨fun h => ?_, fun h => ?_⟩
  all_goals
    unfold keepWriteSnap
    (repeat' split) <;> simp [h]

@[simp] theorem keepWrite_bounds (s : State) : (KeepOk s.keep → KeepOk (keepWrite s).keep) ∧ (EvOk s.ev → EvOk (keepWrite
    s).ev) := by
  refine ⟨fun h => ?_, fun h => ?_⟩
  all_goals
    unfold keepWrite
    simp [h]

@[simp] theorem keepWriteEnd_bounds (n : Nat) (s : State) : (KeepOk s.keep → KeepOk (keepWriteEnd n s).keep) ∧ (EvOk s.ev →
    EvOk (keepWriteEnd n s).ev) := by
  refine ⟨fun h => ?_, fun h => ?_⟩
  all_goals
    unfold keepWriteEnd
    simp [h]

@[simp] theorem keepPend_bounds (s : State) : (KeepOk s.keep → KeepOk (keepPend s).keep) := by
  intro h
  unfold keepPend
  simp [h]

@[simp] theorem loadKeep_bounds (s : State) : (CanOk s.can → CanOk (loadKeep s).can) ∧ (ScanOk s.rails → ScanOk (loadKeep
    s).rails) ∧ (KeepOk s.keep → KeepOk (loadKeep s).keep) ∧ (EvOk s.ev → EvOk (loadKeep s).ev) := by
  refine ⟨fun h => ?_, fun h => ?_, fun h => ?_, fun h => ?_⟩
  all_goals
    unfold loadKeep
    dsimp only
    simp (maxDischargeDepth := 20) [h]

@[simp] theorem State.countScan_bounds (s : State) (r : Fin 12) (mv : Nat) : (ScanOk s.rails → ScanOk (State.countScan s r
    mv).rails) := by
  intro h
  unfold State.countScan
  dsimp only
  (repeat' split) <;> simp [h]

@[simp] theorem latchFault_bounds (kind rail switch position reading lag : Nat) (s : State) : (CanOk s.can → CanOk (latchFault
    kind rail switch position reading lag s).can) ∧ (ScanOk s.rails → ScanOk (latchFault kind rail switch position reading lag
    s).rails) ∧ (EvOk s.ev → EvOk (latchFault kind rail switch position reading lag s).ev) := by
  refine ⟨fun h => ?_, fun h => ?_, fun h => ?_⟩
  all_goals
    unfold latchFault
    dsimp only
    (repeat' split) <;> simp [h]

@[simp] theorem latchRail_bounds (kind : Nat) (r : Fin 12) (reading lag : Nat) (s : State) : (CanOk s.can → CanOk (latchRail
    kind r reading lag s).can) ∧ (ScanOk s.rails → ScanOk (latchRail kind r reading lag s).rails) ∧ (EvOk s.ev → EvOk
    (latchRail kind r reading lag s).ev) := by
  refine ⟨fun h => ?_, fun h => ?_, fun h => ?_⟩
  all_goals
    unfold latchRail
    simp [h]

@[simp] theorem assertResets_bounds (r : Fin 12) (s : State) : (ScanOk s.rails → ScanOk (assertResets r s).rails) := by
  intro h
  unfold assertResets
  simp [h]

@[simp] theorem stretchResets_bounds (r : Fin 12) (s : State) : (ScanOk s.rails → ScanOk (stretchResets r s).rails) := by
  intro h
  unfold stretchResets
  dsimp only
  simp [h]

@[simp] theorem portReady_bounds (s : State) : (ScanOk s.rails → ScanOk (portReady s).rails) := by
  intro h
  unfold portReady
  simp +contextual [h]

@[simp] theorem stretchFree_bounds (s : State) : (ScanOk s.rails → ScanOk (stretchFree s).rails) := by
  intro h
  unfold stretchFree
  dsimp only
  simp [h]

@[simp] theorem rampGate_bounds (g : Fin 8) (s : State) : (ScanOk s.rails → ScanOk (rampGate g s).rails) := by
  intro h
  unfold rampGate
  simp [h]

@[simp] theorem gateOff_bounds (g : Fin 8) (s : State) : (ScanOk s.rails → ScanOk (gateOff g s).rails) := by
  intro h
  unfold gateOff
  simp [h]

@[simp] theorem gateFail_bounds (g : Fin 8) (lag : Nat) (s : State) : (ScanOk s.rails → ScanOk (gateFail g lag s).rails) := by
  intro h
  unfold gateFail
  simp [h]

@[simp] theorem rampRail_bounds (r : Fin 12) (s : State) : (ScanOk s.rails → ScanOk (rampRail r s).rails) := by
  intro h
  unfold rampRail
  simp [h]

@[simp] theorem dropRail_bounds (by_ : OffBy) (st : RailStatus) (r : Fin 12) (s : State) : (ScanOk s.rails → ScanOk (dropRail
    by_ st r s).rails) := by
  intro h
  unfold dropRail
  simp (maxDischargeDepth := 20) [h]

@[simp] theorem pullRail_bounds (lag : Nat) (r : Fin 12) (s : State) : (ScanOk s.rails → ScanOk (pullRail lag r s).rails) :=
    by
  intro h
  unfold pullRail
  simp (maxDischargeDepth := 20) [h]

@[simp] theorem rampStep_bounds (groups : List Nat) (pos : Nat) (s : State) : (ScanOk s.rails → ScanOk (rampStep groups pos
    s).rails) := by
  intro h
  unfold rampStep
  simp +contextual [h]

@[simp] theorem dropStep_bounds (groups : List Nat) (pos : Nat) (s : State) : (ScanOk s.rails → ScanOk (dropStep groups pos
    s).rails) := by
  intro h
  unfold dropStep
  simp +contextual [h]

@[simp] theorem endUpWalk_bounds (s : State) : (CanOk s.can → CanOk (endUpWalk s).can) ∧ (ScanOk s.rails → ScanOk (endUpWalk
    s).rails) ∧ (EvOk s.ev → EvOk (endUpWalk s).ev) := by
  refine ⟨fun h => ?_, fun h => ?_, fun h => ?_⟩
  all_goals
    unfold endUpWalk
    simp [h]

@[simp] theorem endDownWalk_bounds (s : State) : (CanOk s.can → CanOk (endDownWalk s).can) ∧ (ScanOk s.rails → ScanOk
    (endDownWalk s).rails) ∧ (EvOk s.ev → EvOk (endDownWalk s).ev) := by
  refine ⟨fun h => ?_, fun h => ?_, fun h => ?_⟩
  all_goals
    unfold endDownWalk
    simp [h]

@[simp] theorem upFrom_bounds (groups : List Nat) (p : Nat) (s : State) : (CanOk s.can → CanOk (upFrom groups p s).can) ∧
    (ScanOk s.rails → ScanOk (upFrom groups p s).rails) ∧ (EvOk s.ev → EvOk (upFrom groups p s).ev) := by
  refine ⟨fun h => ?_, fun h => ?_, fun h => ?_⟩
  all_goals
    unfold upFrom
    (repeat' split) <;> simp [h]

@[simp] theorem downFrom_bounds (groups : List Nat) (p : Nat) (s : State) : (CanOk s.can → CanOk (downFrom groups p s).can) ∧
    (ScanOk s.rails → ScanOk (downFrom groups p s).rails) ∧ (EvOk s.ev → EvOk (downFrom groups p s).ev) := by
  refine ⟨fun h => ?_, fun h => ?_, fun h => ?_⟩
  all_goals
    unfold downFrom
    (repeat' split) <;> simp [h]

@[simp] theorem walkUp_bounds (groups : List Nat) (s : State) : (ScanOk s.rails → ScanOk (walkUp groups s).rails) := by
  intro h
  unfold walkUp
  (repeat' split) <;> simp [h]

@[simp] theorem walkDown_bounds (groups : List Nat) (s : State) : (ScanOk s.rails → ScanOk (walkDown groups s).rails) := by
  intro h
  unfold walkDown
  (repeat' split) <;> simp [h]

@[simp] theorem clearFalling_bounds (s : State) : (ScanOk s.rails → ScanOk (clearFalling s).rails) := by
  intro h
  unfold clearFalling
  simp [h]

@[simp] theorem releaseEnables_bounds (s : State) : (ScanOk s.rails → ScanOk (releaseEnables s).rails) := by
  intro h
  unfold releaseEnables
  simp [h]

@[simp] theorem releaseOutputs_bounds (s : State) : (ScanOk s.rails → ScanOk (releaseOutputs s).rails) := by
  intro h
  unfold releaseOutputs
  simp [h]

@[simp] theorem trimTo_bounds (t : Fin 4) (v : Nat) (s : State) : (ScanOk s.rails → ScanOk (trimTo t v s).rails) := by
  intro h
  unfold trimTo
  dsimp only
  simp [h]

@[simp] theorem holdTrims_bounds (s : State) : (ScanOk s.rails → ScanOk (holdTrims s).rails) := by
  intro h
  unfold holdTrims
  simp [h]

@[simp] theorem freeTrims_bounds (s : State) : (ScanOk s.rails → ScanOk (freeTrims s).rails) := by
  intro h
  unfold freeTrims
  simp +contextual [h]

@[simp] theorem startCharge_bounds (s : State) (c : Channel) : (CanOk s.can → CanOk (startCharge s c).can) ∧ (EvOk s.ev → EvOk
    (startCharge s c).ev) := by
  refine ⟨fun h => ?_, fun h => ?_⟩
  all_goals
    unfold startCharge
    dsimp only
    simp [h]

@[simp] theorem chargeRefresh_bounds (s : State) (c : Channel) : (CanOk s.can → CanOk (chargeRefresh s c).can) ∧ (EvOk s.ev →
    EvOk (chargeRefresh s c).ev) := by
  refine ⟨fun h => ?_, fun h => ?_⟩
  all_goals
    unfold chargeRefresh
    dsimp only
    (repeat' split) <;> simp [h]

@[simp] theorem chargesRefresh_bounds (s : State) : (CanOk s.can → CanOk (chargesRefresh s).can) ∧ (EvOk s.ev → EvOk
    (chargesRefresh s).ev) := by
  refine ⟨fun h => ?_, fun h => ?_⟩
  all_goals
    unfold chargesRefresh
    simp [h]

@[simp] theorem faultChannel_bounds (c : Channel) (code : Nat) (s : State) : (CanOk s.can → CanOk (faultChannel c code s).can)
    ∧ (KeepOk s.keep → KeepOk (faultChannel c code s).keep) ∧ (EvOk s.ev → EvOk (faultChannel c code s).ev) := by
  refine ⟨fun h => ?_, fun h => ?_, fun h => ?_⟩
  all_goals
    unfold faultChannel
    dsimp only
    (repeat' split) <;> simp [h]

@[simp] theorem setSource_bounds (c : Channel) (closed : Bool) (s : State) : (ScanOk s.rails → ScanOk (setSource c closed
    s).rails) := by
  intro h
  unfold setSource
  dsimp only
  (repeat' split) <;> simp [h]

@[simp] theorem armHold_bounds (s : State) : (ScanOk s.rails → ScanOk (armHold s).rails) := by
  intro h
  unfold armHold
  (repeat' split) <;> simp [h]

@[simp] theorem gateMissingRefresh_bounds (s : State) : (CanOk s.can → CanOk (gateMissingRefresh s).can) ∧ (EvOk s.ev → EvOk
    (gateMissingRefresh s).ev) := by
  refine ⟨fun h => ?_, fun h => ?_⟩
  all_goals
    unfold gateMissingRefresh
    simp [h]

@[simp] theorem endAssist_bounds (s : State) : (CanOk s.can → CanOk (endAssist s).can) ∧ (ScanOk s.rails → ScanOk (endAssist
    s).rails) ∧ (EvOk s.ev → EvOk (endAssist s).ev) := by
  refine ⟨fun h => ?_, fun h => ?_, fun h => ?_⟩
  all_goals
    unfold endAssist
    (repeat' split) <;> simp [h]

@[simp] theorem startAssist_bounds (c : Channel) (s : State) : (CanOk s.can → CanOk (startAssist c s).can) ∧ (ScanOk s.rails →
    ScanOk (startAssist c s).rails) ∧ (EvOk s.ev → EvOk (startAssist c s).ev) := by
  refine ⟨fun h => ?_, fun h => ?_, fun h => ?_⟩
  all_goals
    unfold startAssist
    simp [h]

@[simp] theorem discardLearn_bounds (c : Channel) (why : Cause) (s : State) : (CanOk s.can → CanOk (discardLearn c why s).can)
    ∧ (EvOk s.ev → EvOk (discardLearn c why s).ev) := by
  refine ⟨fun h => ?_, fun h => ?_⟩
  all_goals
    unfold discardLearn
    (repeat' split) <;> simp [h]

@[simp] theorem enterMismatch_bounds (c : Channel) (s : State) : (CanOk s.can → CanOk (enterMismatch c s).can) ∧ (EvOk s.ev →
    EvOk (enterMismatch c s).ev) := by
  refine ⟨fun h => ?_, fun h => ?_⟩
  all_goals
    unfold enterMismatch
    (repeat' split) <;> simp [h]

@[simp] theorem healthRefresh_bounds (c : Channel) (s : State) : (CanOk s.can → CanOk (healthRefresh c s).can) ∧ (EvOk s.ev →
    EvOk (healthRefresh c s).ev) := by
  refine ⟨fun h => ?_, fun h => ?_⟩
  all_goals
    unfold healthRefresh
    dsimp only
    (repeat' split) <;> simp [h]

@[simp] theorem acceptLearn_bounds (c : Channel) (v : Nat) (s : State) : (CanOk s.can → CanOk (acceptLearn c v s).can) ∧
    (KeepOk s.keep → KeepOk (acceptLearn c v s).keep) ∧ (EvOk s.ev → EvOk (acceptLearn c v s).ev) := by
  refine ⟨fun h => ?_, fun h => ?_, fun h => ?_⟩
  all_goals
    unfold acceptLearn
    dsimp only
    simp [h]

@[simp] theorem quarantineLearn_bounds (c : Channel) (v : Nat) (s : State) : (CanOk s.can → CanOk (quarantineLearn c v s).can)
    ∧ (KeepOk s.keep → KeepOk (quarantineLearn c v s).keep) ∧ (EvOk s.ev → EvOk (quarantineLearn c v s).ev) := by
  refine ⟨fun h => ?_, fun h => ?_, fun h => ?_⟩
  all_goals
    unfold quarantineLearn
    dsimp only
    (repeat' split) <;> simp [h]

@[simp] theorem checkLearn_bounds (c : Channel) (s : State) : (CanOk s.can → CanOk (checkLearn c s).can) ∧ (EvOk s.ev → EvOk
    (checkLearn c s).ev) := by
  refine ⟨fun h => ?_, fun h => ?_⟩
  all_goals
    unfold checkLearn
    dsimp only
    (repeat' split) <;> simp [h]

@[simp] theorem finishLearn_bounds (c : Channel) (s : State) : (CanOk s.can → CanOk (finishLearn c s).can) ∧ (KeepOk s.keep →
    KeepOk (finishLearn c s).keep) ∧ (EvOk s.ev → EvOk (finishLearn c s).ev) := by
  refine ⟨fun h => ?_, fun h => ?_, fun h => ?_⟩
  all_goals
    unfold finishLearn
    dsimp only
    (repeat' split) <;> simp [h]

@[simp] theorem geyserBegin_bounds (c : Channel) (s : State) : (CanOk s.can → CanOk (geyserBegin c s).can) ∧ (ScanOk s.rails →
    ScanOk (geyserBegin c s).rails) ∧ (EvOk s.ev → EvOk (geyserBegin c s).ev) := by
  refine ⟨fun h => ?_, fun h => ?_, fun h => ?_⟩
  all_goals
    unfold geyserBegin
    dsimp only
    simp (maxDischargeDepth := 20) [h]

@[simp] theorem geyserAbort_bounds (c : Channel) (s : State) : (CanOk s.can → CanOk (geyserAbort c s).can) ∧ (ScanOk s.rails →
    ScanOk (geyserAbort c s).rails) ∧ (EvOk s.ev → EvOk (geyserAbort c s).ev) := by
  refine ⟨fun h => ?_, fun h => ?_, fun h => ?_⟩
  all_goals
    unfold geyserAbort
    dsimp only
    (repeat' split) <;> simp (maxDischargeDepth := 20) [h]

@[simp] theorem geyserAbortAll_bounds (s : State) : (CanOk s.can → CanOk (geyserAbortAll s).can) ∧ (ScanOk s.rails → ScanOk
    (geyserAbortAll s).rails) ∧ (EvOk s.ev → EvOk (geyserAbortAll s).ev) := by
  refine ⟨fun h => ?_, fun h => ?_, fun h => ?_⟩
  all_goals
    unfold geyserAbortAll
    simp [h]

@[simp] theorem resetChannel_bounds (c : Channel) (s : State) : (CanOk s.can → CanOk (resetChannel c s).can) ∧ (EvOk s.ev →
    EvOk (resetChannel c s).ev) := by
  refine ⟨fun h => ?_, fun h => ?_⟩
  all_goals
    unfold resetChannel
    (repeat' split) <;> simp [h]

@[simp] theorem stopBorrowing_bounds (s : State) : (CanOk s.can → CanOk (stopBorrowing s).can) ∧ (EvOk s.ev → EvOk
    (stopBorrowing s).ev) := by
  refine ⟨fun h => ?_, fun h => ?_⟩
  all_goals
    unfold stopBorrowing
    (repeat' split) <;> simp +contextual [h]

@[simp] theorem modeChanged_bounds (dim old new : Nat) (s : State) : (CanOk s.can → CanOk (modeChanged dim old new s).can) ∧
    (EvOk s.ev → EvOk (modeChanged dim old new s).ev) := by
  refine ⟨fun h => ?_, fun h => ?_⟩
  all_goals
    unfold modeChanged
    simp [h]

@[simp] theorem modeFallback_bounds (a b : Nat) (s : State) : (CanOk s.can → CanOk (modeFallback a b s).can) ∧ (EvOk s.ev →
    EvOk (modeFallback a b s).ev) := by
  refine ⟨fun h => ?_, fun h => ?_⟩
  all_goals
    unfold modeFallback
    simp [h]

@[simp] theorem outageEffRefresh_bounds (s : State) : (CanOk s.can → CanOk (outageEffRefresh s).can) ∧ (EvOk s.ev → EvOk
    (outageEffRefresh s).ev) := by
  refine ⟨fun h => ?_, fun h => ?_⟩
  all_goals
    unfold outageEffRefresh
    dsimp only
    (repeat' split) <;> simp [h]

@[simp] theorem policyRefresh_bounds (s : State) : (CanOk s.can → CanOk (policyRefresh s).can) ∧ (EvOk s.ev → EvOk
    (policyRefresh s).ev) := by
  refine ⟨fun h => ?_, fun h => ?_⟩
  all_goals
    unfold policyRefresh
    dsimp only
    simp +contextual [h]

@[simp] theorem activityRefresh_bounds (s : State) : (CanOk s.can → CanOk (activityRefresh s).can) ∧ (EvOk s.ev → EvOk
    (activityRefresh s).ev) := by
  refine ⟨fun h => ?_, fun h => ?_⟩
  all_goals
    unfold activityRefresh
    dsimp only
    (repeat' split) <;> simp [h]

@[simp] theorem fitRefresh_bounds (s : State) : (CanOk s.can → CanOk (fitRefresh s).can) ∧ (EvOk s.ev → EvOk (fitRefresh
    s).ev) := by
  refine ⟨fun h => ?_, fun h => ?_⟩
  all_goals
    unfold fitRefresh
    dsimp only
    (repeat' split) <;> simp [h]

@[simp] theorem modesRefresh_bounds (s : State) : (CanOk s.can → CanOk (modesRefresh s).can) ∧ (EvOk s.ev → EvOk (modesRefresh
    s).ev) := by
  refine ⟨fun h => ?_, fun h => ?_⟩
  all_goals
    unfold modesRefresh
    simp (maxDischargeDepth := 20) [h]

@[simp] theorem stageRefresh_bounds (s : State) : (CanOk s.can → CanOk (stageRefresh s).can) ∧ (EvOk s.ev → EvOk (stageRefresh
    s).ev) := by
  refine ⟨fun h => ?_, fun h => ?_⟩
  all_goals
    unfold stageRefresh
    dsimp only
    (repeat' split) <;> simp [h]

@[simp] theorem geyserEnds_bounds (s : State) : (CanOk s.can → CanOk (geyserEnds s).can) ∧ (EvOk s.ev → EvOk (geyserEnds
    s).ev) := by
  refine ⟨fun h => ?_, fun h => ?_⟩
  all_goals
    unfold geyserEnds
    simp [h]

@[simp] theorem geyserStops_bounds (s : State) : (CanOk s.can → CanOk (geyserStops s).can) ∧ (ScanOk s.rails → ScanOk
    (geyserStops s).rails) ∧ (EvOk s.ev → EvOk (geyserStops s).ev) := by
  refine ⟨fun h => ?_, fun h => ?_, fun h => ?_⟩
  all_goals
    unfold geyserStops
    simp [h]

@[simp] theorem setForced_bounds (b : Bool) (n : Fin 16) (s : State) : (CacheOk s.cache → CacheOk (setForced b n s).cache) :=
    by
  intro h
  unfold setForced
  simp [h]

@[simp] theorem forceCover_bounds (overshoot : Nat) (l : List (Fin 16)) (s : State) (acc : List (Fin 16)) :
    CacheOk s.cache → CacheOk (forceCover overshoot l s acc).1.cache := by
  intro h
  induction l generalizing s acc with
  | nil => exact h
  | cons n l ih =>
    unfold forceCover
    dsimp only
    (repeat' split) <;> simp [ih, h]

@[simp] theorem forceEvery_bounds (l : List (Fin 16)) (s : State) (acc : List (Fin 16)) :
    CacheOk s.cache → CacheOk (forceEvery l s acc).1.cache := by
  intro h
  induction l generalizing s acc with
  | nil => exact h
  | cons n l ih =>
    unfold forceEvery
    (repeat' split) <;> simp [ih, h]

@[simp] theorem resumeSome_bounds (l : List (Fin 16)) (s : State) (acc : List (Fin 16)) :
    CacheOk s.cache → CacheOk (resumeSome l s acc).1.cache := by
  intro h
  induction l generalizing s acc with
  | nil => exact h
  | cons n l ih =>
    unfold resumeSome
    (repeat' split) <;> simp [ih, h]

@[simp] theorem belowRefresh_bounds (s : State) : (CanOk s.can → CanOk (belowRefresh s).can) ∧ (EvOk s.ev → EvOk (belowRefresh
    s).ev) := by
  refine ⟨fun h => ?_, fun h => ?_⟩
  all_goals
    unfold belowRefresh
    dsimp only
    simp [h]

@[simp] theorem setCeiling_bounds (s : State) : (CanOk s.can → CanOk (setCeiling s).can) ∧ (CacheOk s.cache → CacheOk
    (setCeiling s).cache) ∧ (EvOk s.ev → EvOk (setCeiling s).ev) := by
  refine ⟨fun h => ?_, fun h => ?_, fun h => ?_⟩
  all_goals
    unfold setCeiling
    dsimp only
    (repeat' split) <;> simp [h]

@[simp] theorem applyCeiling_bounds (old : Nat) (s : State) : (CanOk s.can → CanOk (applyCeiling old s).can) ∧
    (CacheOk s.cache → CacheOk (applyCeiling old s).cache) ∧ (EvOk s.ev → EvOk (applyCeiling old s).ev) := by
  refine ⟨fun h => ?_, fun h => ?_, fun h => ?_⟩
  all_goals
    unfold applyCeiling
    extract_lets overshoot running gforce _ s1 f r s2 anyBorrower _ s3 s4 s5 s6 s7 s8
  · have h1 : CanOk s1.can := h
    have hf : CanOk f.1.can := by unfold f; (repeat' split) <;> simp [h1]
    have h2 : CanOk s2.can := by unfold s2 r; split <;> simp [hf]
    have h3 : CanOk s3.can := by unfold s3; (repeat' split) <;> exact h2
    have h6 : CanOk s6.can := by simp (maxDischargeDepth := 20) +contextual [s6, s5, s4, h3]
    have h8 : CanOk s8.can := by unfold s8; split <;> simp (maxDischargeDepth := 20) +contextual [s7, h6]
    simp [h8]
  · have h1 : CacheOk s1.cache := h
    have hf : CacheOk f.1.cache := by unfold f; (repeat' split) <;> simp [h1]
    have h2 : CacheOk s2.cache := by unfold s2 r; split <;> simp [hf]
    have h3 : CacheOk s3.cache := by unfold s3; (repeat' split) <;> exact h2
    have h6 : CacheOk s6.cache := by simp (maxDischargeDepth := 20) +contextual [s6, s5, s4, h3]
    have h8 : CacheOk s8.cache := by unfold s8; split <;> simp (maxDischargeDepth := 20) +contextual [s7, h6]
    simp [h8]
  · have h1 : EvOk s1.ev := h
    have hf : EvOk f.1.ev := by unfold f; (repeat' split) <;> simp [h1]
    have h2 : EvOk s2.ev := by unfold s2 r; split <;> simp [hf]
    have h3 : EvOk s3.ev := by unfold s3; (repeat' split) <;> exact h2
    have h6 : EvOk s6.ev := by simp (maxDischargeDepth := 20) +contextual [s6, s5, s4, h3]
    have h8 : EvOk s8.ev := by unfold s8; split <;> simp (maxDischargeDepth := 20) +contextual [s7, h6]
    simp [h8]

@[simp] theorem joinThawed_bounds (s : State) : (CacheOk s.cache → CacheOk (joinThawed s).cache) := by
  intro h
  unfold joinThawed
  simp [h]

@[simp] theorem recompute_bounds (s : State) : (CanOk s.can → CanOk (recompute s).can) ∧ (CacheOk s.cache → CacheOk (recompute
    s).cache) ∧ (EvOk s.ev → EvOk (recompute s).ev) := by
  refine ⟨fun h => ?_, fun h => ?_, fun h => ?_⟩
  all_goals
    unfold recompute
    simp (maxDischargeDepth := 20) [h]

@[simp] theorem openEpoch_bounds (byPre : Bool) (s : State) : (CanOk s.can → CanOk (openEpoch byPre s).can) ∧ (CacheOk s.cache
    → CacheOk (openEpoch byPre s).cache) ∧ (EvOk s.ev → EvOk (openEpoch byPre s).ev) := by
  refine ⟨fun h => ?_, fun h => ?_, fun h => ?_⟩
  all_goals
    unfold openEpoch
    dsimp only
    (repeat' split) <;> simp [h]

@[simp] theorem allocStripe_bounds (s : State) : (CanOk s.can → CanOk (allocStripe s).can) ∧ (CacheOk s.cache → CacheOk
    (allocStripe s).cache) ∧ (EvOk s.ev → EvOk (allocStripe s).ev) := by
  refine ⟨fun h => ?_, fun h => ?_, fun h => ?_⟩
  all_goals
    unfold allocStripe
    dsimp only
    (repeat' split) <;> simp [h]

@[simp] theorem makeRoom_bounds (s : State) : (CanOk s.can → CanOk (makeRoom s).can) ∧ (CacheOk s.cache → CacheOk (makeRoom
    s).cache) ∧ (EvOk s.ev → EvOk (makeRoom s).ev) := by
  refine ⟨fun h => ?_, fun h => ?_, fun h => ?_⟩
  all_goals
    unfold makeRoom
    (repeat' split) <;> simp [h]

@[simp] theorem appendCopy_bounds (k : Nat) (q : Slot) (e : Epoch) (s : State) : (CacheOk s.cache → CacheOk (appendCopy k q e
    s).cache) := by
  intro h
  unfold appendCopy
  simp [h]

@[simp] theorem copySlot_bounds (k : Nat) (s : State) : (CanOk s.can → CanOk (copySlot k s).can) ∧ (CacheOk s.cache → CacheOk
    (copySlot k s).cache) ∧ (EvOk s.ev → EvOk (copySlot k s).ev) := by
  refine ⟨fun h => ?_, fun h => ?_, fun h => ?_⟩
  all_goals
    unfold copySlot
    (repeat' split) <;> simp [h]

@[simp] theorem copyAll_bounds (p : Slot → Bool) (fuel : Nat) (s : State) : (CanOk s.can → CanOk (copyAll p fuel s).can) ∧
    (CacheOk s.cache → CacheOk (copyAll p fuel s).cache) ∧ (EvOk s.ev → EvOk (copyAll p fuel s).ev) := by
  induction fuel generalizing s with
  | zero => exact ⟨id, id, id⟩
  | succ fuel ih =>
    refine ⟨fun h => ?_, fun h => ?_, fun h => ?_⟩
    all_goals
      unfold copyAll
      dsimp only
      (repeat' split) <;> simp [ih, h]

@[simp] theorem moveCopy_bounds (number i : Nat) (dest : Option (Nat × Nat)) (s : State) : (CacheOk s.cache → CacheOk
    (moveCopy number i dest s).cache) := by
  intro h
  unfold moveCopy
  simp [h]

@[simp] theorem rewriteCopy_bounds (number i : Nat) (c : Copy) (s : State) : (CanOk s.can → CanOk (rewriteCopy number i c
    s).can) ∧ (CacheOk s.cache → CacheOk (rewriteCopy number i c s).cache) ∧ (EvOk s.ev → EvOk (rewriteCopy number i c s).ev)
    := by
  refine ⟨fun h => ?_, fun h => ?_, fun h => ?_⟩
  all_goals
    unfold rewriteCopy
    dsimp only
    (repeat' split) <;> simp [h]

@[simp] theorem rewriteAt_bounds (e : Epoch) (i : Nat) (s : State) : (CanOk s.can → CanOk (rewriteAt e i s).can) ∧ (CacheOk
    s.cache → CacheOk (rewriteAt e i s).cache) ∧ (EvOk s.ev → EvOk (rewriteAt e i s).ev) := by
  refine ⟨fun h => ?_, fun h => ?_, fun h => ?_⟩
  all_goals
    unfold rewriteAt
    (repeat' split) <;> simp [h]

@[simp] theorem relocatePage_bounds (d : Fin 16) (s : State) : (CanOk s.can → CanOk (relocatePage d s).can) ∧ (CacheOk s.cache
    → CacheOk (relocatePage d s).cache) ∧ (EvOk s.ev → EvOk (relocatePage d s).ev) := by
  refine ⟨fun h => ?_, fun h => ?_, fun h => ?_⟩
  all_goals
    unfold relocatePage
    (repeat' split) <;> simp +contextual [h]

@[simp] theorem allocStripes_bounds (n : Nat) (s : State) : (CanOk s.can → CanOk (allocStripes n s).can) ∧ (CacheOk s.cache →
    CacheOk (allocStripes n s).cache) ∧ (EvOk s.ev → EvOk (allocStripes n s).ev) := by
  refine ⟨fun h => ?_, fun h => ?_, fun h => ?_⟩
  all_goals
    unfold allocStripes
    simp +contextual [h]

@[simp] theorem writeMeta_bounds (s : State) : (CanOk s.can → CanOk (writeMeta s).can) ∧ (CacheOk s.cache → CacheOk (writeMeta
    s).cache) ∧ (EvOk s.ev → EvOk (writeMeta s).ev) := by
  refine ⟨fun h => ?_, fun h => ?_, fun h => ?_⟩
  all_goals
    unfold writeMeta
    dsimp only
    (repeat' split) <;> simp +contextual [h]

@[simp] theorem commitEpochs_bounds (s : State) : (CanOk s.can → CanOk (commitEpochs s).can) ∧ (CacheOk s.cache → CacheOk
    (commitEpochs s).cache) ∧ (EvOk s.ev → EvOk (commitEpochs s).ev) := by
  refine ⟨fun h => ?_, fun h => ?_, fun h => ?_⟩
  all_goals
    unfold commitEpochs
    dsimp only
    (repeat' split) <;> simp [h]

@[simp] theorem commitSinter_bounds (s : State) : (CanOk s.can → CanOk (commitSinter s).can) ∧ (CacheOk s.cache → CacheOk
    (commitSinter s).cache) ∧ (EvOk s.ev → EvOk (commitSinter s).ev) := by
  refine ⟨fun h => ?_, fun h => ?_, fun h => ?_⟩
  all_goals
    unfold commitSinter
    (repeat' split) <;> simp [h]

@[simp] theorem markCopies_bounds (s : State) : (CacheOk s.cache → CacheOk (markCopies s).cache) := by
  intro h
  unfold markCopies
  dsimp only
  simp [h]

@[simp] theorem cancelEpoch_bounds (s : State) : (CacheOk s.cache → CacheOk (cancelEpoch s).cache) := by
  intro h
  unfold cancelEpoch
  dsimp only
  (repeat' split) <;> simp [h]

@[simp] theorem cancelPreSinter_bounds (s : State) : (CanOk s.can → CanOk (cancelPreSinter s).can) ∧ (CacheOk s.cache →
    CacheOk (cancelPreSinter s).cache) ∧ (EvOk s.ev → EvOk (cancelPreSinter s).ev) := by
  refine ⟨fun h => ?_, fun h => ?_, fun h => ?_⟩
  all_goals
    unfold cancelPreSinter
    (repeat' split) <;> simp [h]

@[simp] theorem releaseImage_bounds (s : State) : (CanOk s.can → CanOk (releaseImage s).can) ∧ (CacheOk s.cache → CacheOk
    (releaseImage s).cache) ∧ (EvOk s.ev → EvOk (releaseImage s).ev) := by
  refine ⟨fun h => ?_, fun h => ?_, fun h => ?_⟩
  all_goals
    unfold releaseImage
    dsimp only
    simp [h]

@[simp] theorem pageCopy_bounds (a : Nat × Copy) (s : State) : (CanOk s.can → CanOk (pageCopy a s).can) ∧ (CacheOk s.cache →
    CacheOk (pageCopy a s).cache) ∧ (EvOk s.ev → EvOk (pageCopy a s).ev) := by
  refine ⟨fun h => ?_, fun h => ?_, fun h => ?_⟩
  all_goals
    unfold pageCopy
    (repeat' split) <;> simp [h]

@[simp] theorem pageProgrammed_bounds (s : State) : (CanOk s.can → CanOk (pageProgrammed s).can) ∧ (CacheOk s.cache → CacheOk
    (pageProgrammed s).cache) ∧ (EvOk s.ev → EvOk (pageProgrammed s).ev) := by
  refine ⟨fun h => ?_, fun h => ?_, fun h => ?_⟩
  all_goals
    unfold pageProgrammed
    simp +contextual [h]

@[simp] theorem startPreSinter_bounds (s : State) : (CanOk s.can → CanOk (startPreSinter s).can) ∧ (CacheOk s.cache → CacheOk
    (startPreSinter s).cache) ∧ (EvOk s.ev → EvOk (startPreSinter s).ev) := by
  refine ⟨fun h => ?_, fun h => ?_, fun h => ?_⟩
  all_goals
    unfold startPreSinter
    dsimp only
    (repeat' split) <;> simp [h]

@[simp] theorem endProbation_bounds (d : Fin 16) (s : State) : (CanOk s.can → CanOk (endProbation d s).can) ∧ (EvOk s.ev →
    EvOk (endProbation d s).ev) := by
  refine ⟨fun h => ?_, fun h => ?_⟩
  all_goals
    unfold endProbation
    (repeat' split) <;> simp [h]

@[simp] theorem endProbations_bounds (s : State) : (CanOk s.can → CanOk (endProbations s).can) ∧ (EvOk s.ev → EvOk
    (endProbations s).ev) := by
  refine ⟨fun h => ?_, fun h => ?_⟩
  all_goals
    unfold endProbations
    simp +contextual [h]

@[simp] theorem retireDie_bounds (d : Fin 16) (cause : Nat) (s : State) : (CanOk s.can → CanOk (retireDie d cause s).can) ∧
    (CacheOk s.cache → CacheOk (retireDie d cause s).cache) ∧ (EvOk s.ev → EvOk (retireDie d cause s).ev) := by
  refine ⟨fun h => ?_, fun h => ?_, fun h => ?_⟩
  all_goals
    unfold retireDie
    simp [h]

@[simp] theorem markBad_bounds (d : Fin 16) (b : Nat) (s : State) : (CanOk s.can → CanOk (markBad d b s).can) ∧ (CacheOk
    s.cache → CacheOk (markBad d b s).cache) ∧ (EvOk s.ev → EvOk (markBad d b s).ev) := by
  refine ⟨fun h => ?_, fun h => ?_, fun h => ?_⟩
  all_goals
    unfold markBad
    dsimp only
    (repeat' split) <;> simp [h]

@[simp] theorem noteRebuild_bounds (d : Fin 16) (s : State) : (CanOk s.can → CanOk (noteRebuild d s).can) ∧ (CacheOk s.cache →
    CacheOk (noteRebuild d s).cache) ∧ (EvOk s.ev → EvOk (noteRebuild d s).ev) := by
  refine ⟨fun h => ?_, fun h => ?_, fun h => ?_⟩
  all_goals
    unfold noteRebuild
    dsimp only
    (repeat' split) <;> simp [h]

@[simp] theorem restoreData_bounds (k : Nat) (s : State) : (CacheOk s.cache → CacheOk (restoreData k s).cache) := by
  intro h
  unfold restoreData
  dsimp only
  (repeat' split) <;> simp [h]

@[simp] theorem loseSlot_bounds (k : Nat) (s : State) : (CanOk s.can → CanOk (loseSlot k s).can) ∧ (CacheOk s.cache → CacheOk
    (loseSlot k s).cache) ∧ (EvOk s.ev → EvOk (loseSlot k s).ev) := by
  refine ⟨fun h => ?_, fun h => ?_, fun h => ?_⟩
  all_goals
    unfold loseSlot
    (repeat' split) <;> simp [h]

@[simp] theorem readSlots_bounds (gone : Fin 16 → Fin 16 → Nat → Bool) (ks : List Nat) (r : ReadResult) (s : State) : (CanOk
    s.can → CanOk (readSlots gone ks r s).can) ∧ (CacheOk s.cache → CacheOk (readSlots gone ks r s).cache) ∧ (EvOk s.ev → EvOk
    (readSlots gone ks r s).ev) := by
  refine ⟨fun h => ?_, fun h => ?_, fun h => ?_⟩
  all_goals
    unfold readSlots
    (repeat' split) <;> simp (maxDischargeDepth := 20) +contextual [h]

@[simp] theorem indexCopy_bounds (s : State) (p : Epoch × Nat × Copy) : CacheOk s.cache → CacheOk (indexCopy s p).cache := by
  intro h
  unfold indexCopy
  dsimp only
  split
  · simp [h]
  · split
    · rename_i k hx _ taken
      simp [withHandle_cacheOk taken h]
    · exact h

@[simp] theorem loadIndex_bounds (s : State) : (IslOk s.isl → IslOk (loadIndex s).isl) ∧
    (DictOk s.dict → DictOk (loadIndex s).dict) ∧ (CanOk s.can → CanOk (loadIndex s).can) ∧
    (CacheOk s.cache → CacheOk (loadIndex s).cache) ∧ (ScanOk s.rails → ScanOk (loadIndex s).rails) ∧
    (KeepOk s.keep → KeepOk (loadIndex s).keep) ∧ (EvOk s.ev → EvOk (loadIndex s).ev) := by
  unfold loadIndex
  split
  · exact ⟨id, id, id, id, id, id, id⟩
  · rename_i m _
    extract_lets s1 seqs x
    obtain ⟨cache, dict, isl, ev, can, keep, rails⟩ := foldl_bounds indexCopy (imageCopies m.chain) { s1 with cache.tenants := seqs }
    obtain ⟨cache1, dict1, isl1, ev1, can1, keep1, rails1⟩ :=
      foldl_bounds (fun t e => readMeta m.cPerPage e t) m.chain.reverse s
    refine ⟨fun h => isl (isl1 h (by simp)) (by simp), fun h => dict (dict1 h (by simp)) (by simp),
      fun h => can (can1 h (by simp)) (by simp), fun h => cache ?_ indexCopy_bounds,
      fun h => rails (rails1 h (by simp)) (by simp), fun h => keep (keep1 h (by simp)) (by simp),
      fun h => ev (ev1 h (by simp)) (by simp)⟩
    have held : CacheOk s1.cache := cache1 h (by simp)
    exact ⟨held.slots, held.handles⟩

@[simp] theorem raiseTenant_bounds (fn : Fin 16) (k : Nat) (vs : List (Nat × Nat)) (s : State) : (CanOk s.can → CanOk
    (raiseTenant fn k vs s).can) ∧ (EvOk s.ev → EvOk (raiseTenant fn k vs s).ev) := by
  refine ⟨fun h => ?_, fun h => ?_⟩
  all_goals
    unfold raiseTenant
    simp [h]

@[simp] theorem stopPair_bounds (fn : Fin 16) (qp : Fin 4) (code : Byte) (s : State) : (CanOk s.can → CanOk (stopPair fn qp
    code s).can) ∧ (EvOk s.ev → EvOk (stopPair fn qp code s).ev) := by
  refine ⟨fun h => ?_, fun h => ?_⟩
  all_goals
    unfold stopPair
    simp [h]

@[simp] theorem takeTail_bounds (fn : Fin 16) (qp : Fin 4) (v : BitVec 32) (s : State) : (CanOk s.can → CanOk (takeTail fn qp
    v s).can) ∧ (EvOk s.ev → EvOk (takeTail fn qp v s).ev) := by
  refine ⟨fun h => ?_, fun h => ?_⟩
  all_goals
    unfold takeTail
    dsimp only
    (repeat' split) <;> simp [h]

@[simp] theorem takeCqHead_bounds (fn : Fin 16) (qp : Fin 4) (v : BitVec 32) (s : State) : (CanOk s.can → CanOk (takeCqHead fn
    qp v s).can) ∧ (EvOk s.ev → EvOk (takeCqHead fn qp v s).ev) := by
  refine ⟨fun h => ?_, fun h => ?_⟩
  all_goals
    unfold takeCqHead
    dsimp only
    (repeat' split) <;> simp [h]

@[simp] theorem takeDoorbell_bounds (fn : Fin 16) (qp : Fin 4) (head : Bool) (v : BitVec 32) (s : State) : (CanOk s.can →
    CanOk (takeDoorbell fn qp head v s).can) ∧ (EvOk s.ev → EvOk (takeDoorbell fn qp head v s).ev) := by
  refine ⟨fun h => ?_, fun h => ?_⟩
  all_goals
    unfold takeDoorbell
    (repeat' split) <;> simp [h]

@[simp] theorem replayTails_bounds (fn : Fin 16) (s : State) : (CanOk s.can → CanOk (replayTails fn s).can) ∧ (EvOk s.ev →
    EvOk (replayTails fn s).ev) := by
  refine ⟨fun h => ?_, fun h => ?_⟩
  all_goals
    unfold replayTails
    (repeat' split) <;> simp (maxDischargeDepth := 20) +contextual [h]

@[simp] theorem complete_bounds (c : Cmd) (x : Completion) (s : State) : (CacheOk s.cache → CacheOk (complete c x s).cache) :=
    by
  intro h
  unfold complete
  simp [h]

@[simp] theorem endCmd_bounds (c : Cmd) (st : Status) (result : Nat) (s : State) : (CacheOk s.cache → CacheOk (endCmd c st
    result s).cache) := by
  intro h
  unfold endCmd
  simp [h]

@[simp] theorem endField_bounds (c : Cmd) (off : Nat) (s : State) : (CacheOk s.cache → CacheOk (endField c off s).cache) := by
  intro h
  unfold endField
  simp [h]

@[simp] theorem dmaFault_bounds (c : Cmd) (s : State) : (CanOk s.can → CanOk (dmaFault c s).can) ∧ (CacheOk s.cache → CacheOk
    (dmaFault c s).cache) ∧ (EvOk s.ev → EvOk (dmaFault c s).ev) := by
  refine ⟨fun h => ?_, fun h => ?_, fun h => ?_⟩
  all_goals
    unfold dmaFault
    simp [h]

@[simp] theorem earlierPuts_bounds (s : State) : (CacheOk s.cache → CacheOk (earlierPuts s).cache) := by
  intro h
  unfold earlierPuts
  simp +contextual [h]

@[simp] theorem noteThrottle_bounds (n : Fin 16) (new : Nat) (s : State) : (CanOk s.can → CanOk (noteThrottle n new s).can) ∧
    (CacheOk s.cache → CacheOk (noteThrottle n new s).cache) ∧ (EvOk s.ev → EvOk (noteThrottle n new s).ev) := by
  refine ⟨fun h => ?_, fun h => ?_, fun h => ?_⟩
  all_goals
    unfold noteThrottle
    dsimp only
    (repeat' split) <;> simp (maxDischargeDepth := 20) [h]

@[simp] theorem throttlePut_bounds (c : Cmd) (s : State) : (CanOk s.can → CanOk (throttlePut c s).can) ∧ (CacheOk s.cache →
    CacheOk (throttlePut c s).cache) ∧ (EvOk s.ev → EvOk (throttlePut c s).ev) := by
  refine ⟨fun h => ?_, fun h => ?_, fun h => ?_⟩
  all_goals
    unfold throttlePut
    simp [h]

@[simp] theorem writeBlock_bounds (n : Fin 16) (vol : BitVec 32) (seq : Nat) (dirty recording : Bool) (p : Nat × Block) (s : State) :
    CacheOk s.cache → CacheOk (writeBlock n vol seq dirty recording p s).cache := by
  intro h
  unfold writeBlock
  split
  · exact h
  · rename_i hx taken
    have hc := withHandle_cacheOk taken h
    extract_lets x s1 k s2
    have h1 : CacheOk s1.cache := by unfold s1; (repeat' split) <;> exact ⟨by simp [hc], hc.handles⟩
    clear_value k
    split
    · exact h
    · have h2 : CacheOk s2.cache := by unfold s2; split <;> simp [h1]
      exact freeHandles_cacheOk _ ⟨by simp [h2], h2.handles⟩

@[simp] theorem ensureKey_bounds (n : Fin 16) (s : State) : (CacheOk s.cache → CacheOk (ensureKey n s).cache) := by
  intro h
  unfold ensureKey
  (repeat' split) <;> simp [h]

@[simp] theorem applyBlocks_bounds (n : Fin 16) (vol : BitVec 32) (lba : Nat) (dirty recording : Bool) (bs : List Block) (s :
    State) : (CacheOk s.cache → CacheOk (applyBlocks n vol lba dirty recording bs s).cache) := by
  intro h
  unfold applyBlocks
  dsimp only
  simp (maxDischargeDepth := 20) +contextual [h]

@[simp] theorem applyPut_bounds (n : Fin 16) (vol : BitVec 32) (lba : Nat) (dirty recording : Bool) (bs : List Block) (s :
    State) : (CacheOk s.cache → CacheOk (applyPut n vol lba dirty recording bs s).cache) := by
  intro h
  unfold applyPut
  dsimp only
  (repeat' split) <;> simp [h]

@[simp] theorem touchSlot_bounds (k : Nat) (s : State) : (CacheOk s.cache → CacheOk (touchSlot k s).cache) := by
  intro h
  unfold touchSlot
  simp [h]

@[simp] theorem cleanSlot_bounds (k : Nat) (s : State) : (CacheOk s.cache → CacheOk (cleanSlot k s).cache) := by
  intro h
  unfold cleanSlot
  dsimp only
  (repeat' split) <;> simp [h]

@[simp] theorem dropSlot_bounds (k : Nat) (s : State) : (CacheOk s.cache → CacheOk (dropSlot k s).cache) := by
  intro h
  unfold dropSlot
  (repeat' split) <;> simp [h]

@[simp] theorem noteVolume_bounds (n : Fin 16) (vol : BitVec 32) (s : State) : (IslOk s.isl → IslOk (noteVolume n vol
    s).2.isl) ∧ (DictOk s.dict → DictOk (noteVolume n vol s).2.dict) ∧ (CanOk s.can → CanOk (noteVolume n vol s).2.can) ∧
    (CacheOk s.cache → CacheOk (noteVolume n vol s).2.cache) ∧ (ScanOk s.rails → ScanOk (noteVolume n vol s).2.rails) ∧
    (KeepOk s.keep → KeepOk (noteVolume n vol s).2.keep) ∧ (EvOk s.ev → EvOk (noteVolume n vol s).2.ev) := by
  refine ⟨fun h => ?_, fun h => ?_, fun h => ?_, fun h => ?_, fun h => ?_, fun h => ?_, fun h => ?_⟩
  all_goals
    unfold noteVolume
    dsimp only
    (repeat' split) <;> simp [h]

@[simp] theorem resetQueues_bounds (fn : Fin 16) (s : State) : (CanOk s.can → CanOk (resetQueues fn s).can) ∧ (CacheOk s.cache
    → CacheOk (resetQueues fn s).cache) ∧ (EvOk s.ev → EvOk (resetQueues fn s).ev) := by
  refine ⟨fun h => ?_, fun h => ?_, fun h => ?_⟩
  all_goals
    unfold resetQueues
    dsimp only
    simp +contextual [h]

@[simp] theorem freezeSlots_bounds (n : Fin 16) (s : State) : (CacheOk s.cache → CacheOk (freezeSlots n s).cache) := by
  intro h
  unfold freezeSlots
  simp [h]

@[simp] theorem thawSlots_bounds (n : Fin 16) (s : State) : (CanOk s.can → CanOk (thawSlots n s).can) ∧ (CacheOk s.cache →
    CacheOk (thawSlots n s).cache) ∧ (EvOk s.ev → EvOk (thawSlots n s).ev) := by
  refine ⟨fun h => ?_, fun h => ?_, fun h => ?_⟩
  all_goals
    unfold thawSlots
    (repeat' split) <;> simp [h]

@[simp] theorem resetRing_bounds (n : Fin 16) (s : State) : (EvOk s.ev → EvOk (resetRing n s).ev) := by
  intro h
  unfold resetRing
  simp [h]

@[simp] theorem segPut_bounds (n : Fin 16) (lba : Nat) (bs : List Block) (s : State) :
    (CanOk s.can → CanOk (segPut n lba bs s).2.can) ∧ (CacheOk s.cache → CacheOk (segPut n lba bs s).2.cache) ∧
    (EvOk s.ev → EvOk (segPut n lba bs s).2.ev) := by
  refine ⟨fun h => ?_, fun h => ?_, fun h => ?_⟩
  all_goals
    unfold segPut
    dsimp only
    split
    · exact h
    · split
      · simp [h]
      · split
        · simp [h]
        · split
          · simp [h]
          · rename_i taken
            simp (maxDischargeDepth := 20) [takeSlots_bounds taken, h]

@[simp] theorem putHeader_bounds (n : Fin 16) (g : Segment) (flags : Nat) (s : State) : (CanOk s.can → CanOk (putHeader n g
    flags s).2.can) ∧ (CacheOk s.cache → CacheOk (putHeader n g flags s).2.cache) ∧ (EvOk s.ev → EvOk (putHeader n g flags
    s).2.ev) := by
  refine ⟨fun h => ?_, fun h => ?_, fun h => ?_⟩
  all_goals
    unfold putHeader
    dsimp only
    (repeat' split) <;> simp [h]

@[simp] theorem flushSegment_bounds (n : Fin 16) (s : State) : (CanOk s.can → CanOk (flushSegment n s).2.can) ∧ (CacheOk
    s.cache → CacheOk (flushSegment n s).2.cache) ∧ (EvOk s.ev → EvOk (flushSegment n s).2.ev) := by
  refine ⟨fun h => ?_, fun h => ?_, fun h => ?_⟩
  all_goals
    unfold flushSegment
    dsimp only
    (repeat' split) <;> simp [h]

@[simp] theorem putHalves_bounds (n : Fin 16) (base frames last fuel : Nat) (s : State) :
    (CanOk s.can → CanOk (putHalves n base frames last fuel s).2.can) ∧
    (CacheOk s.cache → CacheOk (putHalves n base frames last fuel s).2.cache) ∧
    (EvOk s.ev → EvOk (putHalves n base frames last fuel s).2.ev) := by
  induction fuel generalizing base frames last s with
  | zero => exact ⟨id, id, id⟩
  | succ fuel ih =>
    refine ⟨fun h => ?_, fun h => ?_, fun h => ?_⟩
    all_goals
      unfold putHalves
      dsimp only
      (repeat' split) <;> simp [ih, h]

@[simp] theorem sealSegment_bounds (n : Fin 16) (why : Cause) (flags : Nat) (s : State) : (CanOk s.can → CanOk (sealSegment n
    why flags s).can) ∧ (CacheOk s.cache → CacheOk (sealSegment n why flags s).cache) ∧ (EvOk s.ev → EvOk (sealSegment n why
    flags s).ev) := by
  refine ⟨fun h => ?_, fun h => ?_, fun h => ?_⟩
  all_goals
    unfold sealSegment
    dsimp only
    (repeat' split) <;> simp [h]

@[simp] theorem pauseRecording_bounds (n : Fin 16) (why : Cause) (s : State) : (CanOk s.can → CanOk (pauseRecording n why
    s).can) ∧ (CacheOk s.cache → CacheOk (pauseRecording n why s).cache) ∧ (EvOk s.ev → EvOk (pauseRecording n why s).ev) :=
    by
  refine ⟨fun h => ?_, fun h => ?_, fun h => ?_⟩
  all_goals
    unfold pauseRecording
    dsimp only
    (repeat' split) <;> simp (maxDischargeDepth := 20) [h]

@[simp] theorem closeSegment_bounds (n : Fin 16) (why : Cause) (flags : Nat) (s : State) : (CanOk s.can → CanOk (closeSegment
    n why flags s).can) ∧ (CacheOk s.cache → CacheOk (closeSegment n why flags s).cache) ∧ (EvOk s.ev → EvOk (closeSegment n
    why flags s).ev) := by
  refine ⟨fun h => ?_, fun h => ?_, fun h => ?_⟩
  all_goals
    unfold closeSegment
    dsimp only
    (repeat' split) <;> simp [h]

@[simp] theorem closeSegments_bounds (p : Fin 16 → Bool) (why : Cause) (flags : Nat) (s : State) : (CanOk s.can → CanOk
    (closeSegments p why flags s).can) ∧ (CacheOk s.cache → CacheOk (closeSegments p why flags s).cache) ∧ (EvOk s.ev → EvOk
    (closeSegments p why flags s).ev) := by
  refine ⟨fun h => ?_, fun h => ?_, fun h => ?_⟩
  all_goals
    unfold closeSegments
    simp +contextual [h]

@[simp] theorem openSegment_bounds (n : Fin 16) (md : Meta) (s : State) : (CanOk s.can → CanOk (openSegment n md s).can) ∧
    (CacheOk s.cache → CacheOk (openSegment n md s).cache) ∧ (EvOk s.ev → EvOk (openSegment n md s).ev) := by
  refine ⟨fun h => ?_, fun h => ?_, fun h => ?_⟩
  all_goals
    unfold openSegment
    dsimp only
    (repeat' split) <;> simp [h]

@[simp] theorem appendRecord_bounds (n : Fin 16) (md : Meta) (bytes : List Byte) (s : State) : (CanOk s.can → CanOk
    (appendRecord n md bytes s).can) ∧ (CacheOk s.cache → CacheOk (appendRecord n md bytes s).cache) ∧ (EvOk s.ev → EvOk
    (appendRecord n md bytes s).ev) := by
  refine ⟨fun h => ?_, fun h => ?_, fun h => ?_⟩
  all_goals
    unfold appendRecord
    dsimp only
    (repeat' split) <;> simp [h]

@[simp] theorem stopEncode_bounds (n : Fin 16) (why close : Cause) (flags : Nat) (dest : EncRun) (s : State) : (CanOk s.can →
    CanOk (stopEncode n why close flags dest s).can) ∧ (CacheOk s.cache → CacheOk (stopEncode n why close flags dest s).cache)
    ∧ (EvOk s.ev → EvOk (stopEncode n why close flags dest s).ev) := by
  refine ⟨fun h => ?_, fun h => ?_, fun h => ?_⟩
  all_goals
    unfold stopEncode
    dsimp only
    simp [h]

@[simp] theorem admitStream_bounds (ok : Fin 16 → Bool) (n : Fin 16) (s : State) : (CanOk s.can → CanOk (admitStream ok n
    s).can) ∧ (EvOk s.ev → EvOk (admitStream ok n s).ev) := by
  refine ⟨fun h => ?_, fun h => ?_⟩
  all_goals
    unfold admitStream
    (repeat' split) <;> simp [h]

@[simp] theorem admitStreams_bounds (s : State) : (CanOk s.can → CanOk (admitStreams s).can) ∧ (EvOk s.ev → EvOk (admitStreams
    s).ev) := by
  refine ⟨fun h => ?_, fun h => ?_⟩
  all_goals
    unfold admitStreams
    simp +contextual [h]

@[simp] theorem stopStream_bounds (n : Fin 16) (why close : Cause) (flags : Nat) (dest : StreamRun) (s : State) : (CanOk s.can
    → CanOk (stopStream n why close flags dest s).can) ∧ (CacheOk s.cache → CacheOk (stopStream n why close flags dest
    s).cache) ∧ (EvOk s.ev → EvOk (stopStream n why close flags dest s).ev) := by
  refine ⟨fun h => ?_, fun h => ?_, fun h => ?_⟩
  all_goals
    unfold stopStream
    dsimp only
    (repeat' split) <;> simp [h]

@[simp] theorem startStream_bounds (n : Fin 16) (s : State) : (CanOk s.can → CanOk (startStream n s).can) ∧ (CacheOk s.cache →
    CacheOk (startStream n s).cache) ∧ (EvOk s.ev → EvOk (startStream n s).ev) := by
  refine ⟨fun h => ?_, fun h => ?_, fun h => ?_⟩
  all_goals
    unfold startStream
    dsimp only
    (repeat' split) <;> simp [h]

@[simp] theorem streamsRefresh_bounds (s : State) : (CanOk s.can → CanOk (streamsRefresh s).can) ∧ (CacheOk s.cache → CacheOk
    (streamsRefresh s).cache) ∧ (EvOk s.ev → EvOk (streamsRefresh s).ev) := by
  refine ⟨fun h => ?_, fun h => ?_, fun h => ?_⟩
  all_goals
    unfold streamsRefresh
    simp +contextual [h]

@[simp] theorem closeSession_bounds (d : Fin 2) (why : Nat) (s : State) : (CanOk s.can → CanOk (closeSession d why s).can) ∧
    (EvOk s.ev → EvOk (closeSession d why s).ev) := by
  refine ⟨fun h => ?_, fun h => ?_⟩
  all_goals
    unfold closeSession
    (repeat' split) <;> simp [h]

@[simp] theorem closeSessions_bounds (s : State) : (CanOk s.can → CanOk (closeSessions s).can) ∧ (EvOk s.ev → EvOk
    (closeSessions s).ev) := by
  refine ⟨fun h => ?_, fun h => ?_⟩
  all_goals
    unfold closeSessions
    simp +contextual [h]

@[simp] theorem restartVideo_bounds (s : State) : (CanOk s.can → CanOk (restartVideo s).can) ∧ (CacheOk s.cache → CacheOk
    (restartVideo s).cache) ∧ (EvOk s.ev → EvOk (restartVideo s).ev) := by
  refine ⟨fun h => ?_, fun h => ?_, fun h => ?_⟩
  all_goals
    unfold restartVideo
    simp [h]

@[simp] theorem streamChanged_bounds (before : State) (n : Fin 16) (s : State) : (CanOk s.can → CanOk (streamChanged before n
    s).can) ∧ (CacheOk s.cache → CacheOk (streamChanged before n s).cache) ∧ (EvOk s.ev → EvOk (streamChanged before n s).ev)
    := by
  refine ⟨fun h => ?_, fun h => ?_, fun h => ?_⟩
  all_goals
    unfold streamChanged
    dsimp only
    (repeat' split) <;> simp (maxDischargeDepth := 20) [h]

@[simp] theorem closeLock_bounds (by_ : Option Session) (s : State) : (CanOk s.can → CanOk (closeLock by_ s).can) ∧ (EvOk s.ev
    → EvOk (closeLock by_ s).ev) := by
  refine ⟨fun h => ?_, fun h => ?_⟩
  all_goals
    unfold closeLock
    (repeat' split) <;> simp [h]

@[simp] theorem closeExpert_bounds (s : State) : (CanOk s.can → CanOk (closeExpert s).can) ∧ (EvOk s.ev → EvOk (closeExpert
    s).ev) := by
  refine ⟨fun h => ?_, fun h => ?_⟩
  all_goals
    unfold closeExpert
    (repeat' split) <;> simp [h]

@[simp] theorem spoilFirmware_bounds (s : State) : (KeepOk s.keep → KeepOk (spoilFirmware s).keep) := by
  intro h
  unfold spoilFirmware
  dsimp only
  (repeat' split) <;> simp [h]

@[simp] theorem closeWindow_bounds (w : Fin 7) (abandoned : Bool) (s : State) : (CanOk s.can → CanOk (closeWindow w abandoned
    s).can) ∧ (EvOk s.ev → EvOk (closeWindow w abandoned s).ev) := by
  refine ⟨fun h => ?_, fun h => ?_⟩
  all_goals
    unfold closeWindow
    dsimp only
    (repeat' split) <;> simp [h]

@[simp] theorem closeWindows_bounds (p : Win → Bool) (abandoned : Bool) (s : State) : (CanOk s.can → CanOk (closeWindows p
    abandoned s).can) ∧ (EvOk s.ev → EvOk (closeWindows p abandoned s).ev) := by
  refine ⟨fun h => ?_, fun h => ?_⟩
  all_goals
    unfold closeWindows
    simp +contextual [h]

@[simp] theorem hostChanged_bounds (before s : State) : (CanOk s.can → CanOk (hostChanged before s).can) ∧ (CacheOk s.cache →
    CacheOk (hostChanged before s).cache) ∧ (EvOk s.ev → EvOk (hostChanged before s).ev) := by
  refine ⟨fun h => ?_, fun h => ?_, fun h => ?_⟩
  all_goals
    unfold hostChanged
    dsimp only
    (repeat' split) <;> simp (maxDischargeDepth := 20) [h]

@[simp] theorem resetFunction_bounds (fn : Fin 16) (s : State) : (CanOk s.can → CanOk (resetFunction fn s).can) ∧ (CacheOk
    s.cache → CacheOk (resetFunction fn s).cache) ∧ (EvOk s.ev → EvOk (resetFunction fn s).ev) := by
  refine ⟨fun h => ?_, fun h => ?_, fun h => ?_⟩
  all_goals
    unfold resetFunction
    dsimp only
    (repeat' split) <;> simp (maxDischargeDepth := 20) [h]

@[simp] theorem resetFunctions_bounds (s : State) : (CanOk s.can → CanOk (resetFunctions s).can) ∧ (CacheOk s.cache → CacheOk
    (resetFunctions s).cache) ∧ (EvOk s.ev → EvOk (resetFunctions s).ev) := by
  refine ⟨fun h => ?_, fun h => ?_, fun h => ?_⟩
  all_goals
    unfold resetFunctions
    simp +contextual [h]

@[simp] theorem resetEvery_bounds (s : State) : (CanOk s.can → CanOk (resetEvery s).can) ∧ (CacheOk s.cache → CacheOk
    (resetEvery s).cache) ∧ (EvOk s.ev → EvOk (resetEvery s).ev) := by
  refine ⟨fun h => ?_, fun h => ?_, fun h => ?_⟩
  all_goals
    unfold resetEvery
    simp +contextual [h]

@[simp] theorem linkLost_bounds (s : State) : (CanOk s.can → CanOk (linkLost s).can) ∧ (CacheOk s.cache → CacheOk (linkLost
    s).cache) ∧ (EvOk s.ev → EvOk (linkLost s).ev) := by
  refine ⟨fun h => ?_, fun h => ?_, fun h => ?_⟩
  all_goals
    unfold linkLost
    dsimp only
    simp (maxDischargeDepth := 20) [h]

@[simp] theorem hostStops_bounds (s : State) : (CanOk s.can → CanOk (hostStops s).can) ∧ (CacheOk s.cache → CacheOk (hostStops
    s).cache) ∧ (EvOk s.ev → EvOk (hostStops s).ev) := by
  refine ⟨fun h => ?_, fun h => ?_, fun h => ?_⟩
  all_goals
    unfold hostStops
    dsimp only
    (repeat' split) <;> simp [h]

@[simp] theorem islandRefresh_bounds (i : Island) (s : State) : (IslOk s.isl → IslOk (islandRefresh i s).isl) := by
  intro h
  unfold islandRefresh
  (repeat' split) <;> simp [h]

@[simp] theorem islandsRefresh_bounds (s : State) : (IslOk s.isl → IslOk (islandsRefresh s).isl) ∧ (CanOk s.can → CanOk
    (islandsRefresh s).can) ∧ (CacheOk s.cache → CacheOk (islandsRefresh s).cache) ∧ (EvOk s.ev → EvOk (islandsRefresh s).ev)
    := by
  refine ⟨fun h => ?_, fun h => ?_, fun h => ?_, fun h => ?_⟩
  all_goals
    unfold islandsRefresh
    dsimp only
    (repeat' split) <;> simp (maxDischargeDepth := 20) +contextual [h]

@[simp] theorem haltIslands_bounds (s : State) : (IslOk s.isl → IslOk (haltIslands s).isl) ∧ (CanOk s.can → CanOk (haltIslands
    s).can) ∧ (CacheOk s.cache → CacheOk (haltIslands s).cache) ∧ (EvOk s.ev → EvOk (haltIslands s).ev) := by
  refine ⟨fun h => ?_, fun h => ?_, fun h => ?_, fun h => ?_⟩
  all_goals
    unfold haltIslands
    (repeat' split) <;> simp [h]

@[simp] theorem enterState_bounds (d : DevState) (why : Cause) (s : State) : (IslOk s.isl → IslOk (enterState d why s).isl) ∧
    (CanOk s.can → CanOk (enterState d why s).can) ∧ (CacheOk s.cache → CacheOk (enterState d why s).cache) ∧ (EvOk s.ev →
    EvOk (enterState d why s).ev) := by
  refine ⟨fun h => ?_, fun h => ?_, fun h => ?_, fun h => ?_⟩
  all_goals
    unfold enterState
    dsimp only
    (repeat' split) <;> simp (maxDischargeDepth := 20) [h]

@[simp] theorem applySaved_bounds (saved : SMap Nat) (p : Nat → Bool) (s : State) : (IslOk s.isl → IslOk (applySaved saved p
    s).isl) ∧ (DictOk s.dict → DictOk (applySaved saved p s).dict) := by
  refine ⟨fun h => ?_, fun h => ?_⟩
  all_goals
    unfold applySaved
    dsimp only
    simp (maxDischargeDepth := 20) +contextual [h]

@[simp] theorem applyStored_bounds (p : Nat → Bool) (s : State) : (IslOk s.isl → IslOk (applyStored p s).isl) ∧ (DictOk s.dict
    → DictOk (applyStored p s).dict) ∧ (KeepOk s.keep → KeepOk (applyStored p s).keep) := by
  refine ⟨fun h => ?_, fun h => ?_, fun h => ?_⟩
  all_goals
    unfold applyStored
    simp [h]

@[simp] theorem canStart_bounds (saved : SMap Nat) (s : State) : (CanOk s.can → CanOk (canStart saved s).can) := by
  intro h
  unfold canStart
  dsimp only
  simp [h]

@[simp] theorem setGroup_bounds (g : Nat) (s : State) : (CanOk s.can → CanOk (setGroup g s).can) ∧ (EvOk s.ev → EvOk (setGroup
    g s).ev) := by
  refine ⟨fun h => ?_, fun h => ?_⟩
  all_goals
    unfold setGroup
    (repeat' split) <;> simp [h]

@[simp] theorem groupRefresh_bounds (s : State) : (CanOk s.can → CanOk (groupRefresh s).can) ∧ (EvOk s.ev → EvOk (groupRefresh
    s).ev) := by
  refine ⟨fun h => ?_, fun h => ?_⟩
  all_goals
    unfold groupRefresh
    dsimp only
    simp [h]

@[simp] theorem bootBegins_bounds (s : State) : (CanOk s.can → CanOk (bootBegins s).can) ∧ (EvOk s.ev → EvOk (bootBegins
    s).ev) := by
  refine ⟨fun h => ?_, fun h => ?_⟩
  all_goals
    unfold bootBegins
    dsimp only
    simp (maxDischargeDepth := 20) [h]

@[simp] theorem loseDram_bounds (s : State) : (CacheOk s.cache → CacheOk (loseDram s).cache) ∧ (EvOk s.ev → EvOk (loseDram
    s).ev) := by
  refine ⟨fun h => ?_, fun h => ?_⟩
  all_goals
    unfold loseDram
    simp [h]

@[simp] theorem keepFlush_bounds (cause : Nat) (s : State) : (IslOk s.isl → IslOk (keepFlush cause s).isl) ∧ (DictOk s.dict →
    DictOk (keepFlush cause s).dict) ∧ (CanOk s.can → CanOk (keepFlush cause s).can) ∧ (CacheOk s.cache → CacheOk (keepFlush
    cause s).cache) ∧ (ScanOk s.rails → ScanOk (keepFlush cause s).rails) ∧ (KeepOk s.keep → KeepOk (keepFlush cause s).keep)
    ∧ (EvOk s.ev → EvOk (keepFlush cause s).ev) := by
  refine ⟨fun h => ?_, fun h => ?_, fun h => ?_, fun h => ?_, fun h => ?_, fun h => ?_, fun h => ?_⟩
  all_goals
    unfold keepFlush
    (repeat' split) <;> simp [h]

@[simp] theorem coldBoot_bounds (cause : Nat) (why : Cause) (s : State) : (IslOk s.isl → IslOk (coldBoot cause why s).isl) ∧
    (DictOk s.dict → DictOk (coldBoot cause why s).dict) ∧ (CanOk s.can → CanOk (coldBoot cause why s).can) ∧ (CacheOk s.cache
    → CacheOk (coldBoot cause why s).cache) ∧ (ScanOk s.rails → ScanOk (coldBoot cause why s).rails) ∧ (KeepOk s.keep → KeepOk
    (coldBoot cause why s).keep) ∧ (EvOk s.ev → EvOk (coldBoot cause why s).ev) := by
  refine ⟨fun h => ?_, fun h => ?_, fun h => ?_, fun h => ?_, fun h => ?_, fun h => ?_, fun h => ?_⟩
  all_goals
    unfold coldBoot
    dsimp only
    (repeat' split) <;> simp (maxDischargeDepth := 20) [h, estAtBoot_frame, loadKeep_frame, loseDram_frame]

@[simp] theorem downWork_bounds (s : State) : (ScanOk s.rails → ScanOk (downWork s).rails) := by
  intro h
  unfold downWork
  (repeat' split) <;> simp [h]

@[simp] theorem enterDown_bounds (k : Nat) (s : State) : (ScanOk s.rails → ScanOk (enterDown k s).rails) := by
  intro h
  unfold enterDown
  dsimp only
  (repeat' split) <;> simp [h]

@[simp] theorem upWork_bounds (s : State) : (ScanOk s.rails → ScanOk (upWork s).rails) := by
  intro h
  unfold upWork
  dsimp only
  (repeat' split) <;> simp [h]

@[simp] theorem enterUp_bounds (k : Nat) (s : State) : (ScanOk s.rails → ScanOk (enterUp k s).rails) := by
  intro h
  unfold enterUp
  dsimp only
  (repeat' split) <;> simp [h]

@[simp] theorem announce_bounds (s : State) : (CanOk s.can → CanOk (announce s).can) ∧ (EvOk s.ev → EvOk (announce s).ev) :=
    by
  refine ⟨fun h => ?_, fun h => ?_⟩
  all_goals
    unfold announce
    simp [h]

@[simp] theorem wantDown_bounds (c : DownCause) (s : State) : (ScanOk s.rails → ScanOk (wantDown c s).rails) := by
  intro h
  unfold wantDown
  (repeat' split) <;> simp [h]

@[simp] theorem tremorFault_bounds (s : State) : (CanOk s.can → CanOk (tremorFault s).can) ∧ (EvOk s.ev → EvOk (tremorFault
    s).ev) := by
  refine ⟨fun h => ?_, fun h => ?_⟩
  all_goals
    unfold tremorFault
    simp [h]

@[simp] theorem sleepLearns_bounds (s : State) : (CanOk s.can → CanOk (sleepLearns s).can) ∧ (EvOk s.ev → EvOk (sleepLearns
    s).ev) := by
  refine ⟨fun h => ?_, fun h => ?_⟩
  all_goals
    unfold sleepLearns
    simp [h]

@[simp] theorem enterSleep_bounds (why : Cause) (s : State) : (IslOk s.isl → IslOk (enterSleep why s).isl) ∧ (DictOk s.dict →
    DictOk (enterSleep why s).dict) ∧ (CanOk s.can → CanOk (enterSleep why s).can) ∧ (CacheOk s.cache → CacheOk (enterSleep
    why s).cache) ∧ (ScanOk s.rails → ScanOk (enterSleep why s).rails) ∧ (KeepOk s.keep → KeepOk (enterSleep why s).keep) ∧
    (EvOk s.ev → EvOk (enterSleep why s).ev) := by
  refine ⟨fun h => ?_, fun h => ?_, fun h => ?_, fun h => ?_, fun h => ?_, fun h => ?_, fun h => ?_⟩
  all_goals
    unfold enterSleep
    dsimp only
    (repeat' split) <;> simp (maxDischargeDepth := 20) [h, releaseOutputs_frame, sleepLearns_frame]

@[simp] theorem haltLog_bounds (s : State) : (CanOk s.can → CanOk (haltLog s).can) ∧
    (KeepOk s.keep → EvOk s.ev → EvOk (haltLog s).ev) := by
  unfold haltLog
  split
  · exact ⟨id, fun _ h => by simp [h]⟩
  · have fits (hk : KeepOk s.keep) : (keepBody s.keep).events.length ≤ 4096 := by have := keepBody_within _ hk; omega
    exact ⟨fun h => by simp [h], fun hk _ => by simpa using ((startLog_bounds ..).2 (fits hk)).within⟩

@[simp] theorem haltConfig_bounds (cause : Nat) (s : State) : (IslOk s.isl → IslOk (haltConfig cause s).isl) ∧ (DictOk s.dict
    → DictOk (haltConfig cause s).dict) ∧ (KeepOk s.keep → KeepOk (haltConfig cause s).keep) := by
  refine ⟨fun h => ?_, fun h => ?_, fun h => ?_⟩
  all_goals
    unfold haltConfig
    dsimp only
    (repeat' split) <;> simp [h]

@[simp] theorem haltCan_bounds (s : State) : (CanOk s.can → CanOk (haltCan s).can) := by
  intro h
  unfold haltCan
  (repeat' split) <;> simp [h]

@[simp] theorem enterHalt_bounds (cause : Nat) (control sticky : Bool) (s : State) : (IslOk s.isl → IslOk (enterHalt cause
    control sticky s).isl) ∧ (DictOk s.dict → DictOk (enterHalt cause control sticky s).dict) ∧ (CanOk s.can → CanOk
    (enterHalt cause control sticky s).can) ∧ (CacheOk s.cache → CacheOk (enterHalt cause control sticky s).cache) ∧ (ScanOk
    s.rails → ScanOk (enterHalt cause control sticky s).rails) ∧ (KeepOk s.keep → KeepOk (enterHalt cause control sticky
    s).keep) ∧ (KeepOk s.keep → EvOk s.ev → EvOk (enterHalt cause control sticky s).ev) := by
  refine ⟨fun h => ?_, fun h => ?_, fun h => ?_, fun h => ?_, fun h => ?_, fun h => ?_, fun hk h => ?_⟩
  case refine_7 =>
    unfold enterHalt
    dsimp only
    (repeat' split) <;> simp (maxDischargeDepth := 20) [h, hk]
  all_goals
    unfold enterHalt
    dsimp only
    (repeat' split) <;> simp (maxDischargeDepth := 20) [h]

@[simp] theorem enterKeep_bounds (why : Cause) (s : State) : (IslOk s.isl → IslOk (enterKeep why s).isl) ∧ (DictOk s.dict →
    DictOk (enterKeep why s).dict) ∧ (CanOk s.can → CanOk (enterKeep why s).can) ∧ (CacheOk s.cache → CacheOk (enterKeep why
    s).cache) ∧ (ScanOk s.rails → ScanOk (enterKeep why s).rails) ∧ (KeepOk s.keep → KeepOk (enterKeep why s).keep) ∧ (EvOk
    s.ev → EvOk (enterKeep why s).ev) := by
  refine ⟨fun h => ?_, fun h => ?_, fun h => ?_, fun h => ?_, fun h => ?_, fun h => ?_, fun h => ?_⟩
  all_goals
    unfold enterKeep
    dsimp only
    (repeat' split) <;> simp (maxDischargeDepth := 20) [h]

@[simp] theorem stopStreams_bounds (why : Cause) (flags : Nat) (s : State) : (CanOk s.can → CanOk (stopStreams why flags
    s).can) ∧ (CacheOk s.cache → CacheOk (stopStreams why flags s).cache) ∧ (EvOk s.ev → EvOk (stopStreams why flags s).ev) :=
    by
  refine ⟨fun h => ?_, fun h => ?_, fun h => ?_⟩
  all_goals
    unfold stopStreams
    simp +contextual [h]

@[simp] theorem enterSinter_bounds (cause : Nat) (s : State) : (IslOk s.isl → IslOk (enterSinter cause s).isl) ∧ (DictOk
    s.dict → DictOk (enterSinter cause s).dict) ∧ (CanOk s.can → CanOk (enterSinter cause s).can) ∧ (CacheOk s.cache → CacheOk
    (enterSinter cause s).cache) ∧ (ScanOk s.rails → ScanOk (enterSinter cause s).rails) ∧ (KeepOk s.keep → KeepOk
    (enterSinter cause s).keep) ∧ (KeepOk s.keep → EvOk s.ev → EvOk (enterSinter cause s).ev) := by
  refine ⟨fun h => ?_, fun h => ?_, fun h => ?_, fun h => ?_, fun h => ?_, fun h => ?_, fun hk h => ?_⟩
  case refine_7 =>
    unfold enterSinter
    dsimp only
    (repeat' split) <;> simp (maxDischargeDepth := 20) [h, hk]
  all_goals
    unfold enterSinter
    dsimp only
    (repeat' split) <;> simp (maxDischargeDepth := 20) [h]

@[simp] theorem enterSimmer_bounds (s : State) : (IslOk s.isl → IslOk (enterSimmer s).isl) ∧ (CanOk s.can → CanOk (enterSimmer
    s).can) ∧ (CacheOk s.cache → CacheOk (enterSimmer s).cache) ∧ (ScanOk s.rails → ScanOk (enterSimmer s).rails) ∧ (EvOk s.ev
    → EvOk (enterSimmer s).ev) := by
  refine ⟨fun h => ?_, fun h => ?_, fun h => ?_, fun h => ?_, fun h => ?_⟩
  all_goals
    unfold enterSimmer
    dsimp only
    simp (maxDischargeDepth := 20) +contextual [h]

@[simp] theorem warnEnds_bounds (s : State) : (IslOk s.isl → IslOk (warnEnds s).isl) ∧ (DictOk s.dict → DictOk (warnEnds
    s).dict) ∧ (CanOk s.can → CanOk (warnEnds s).can) ∧ (CacheOk s.cache → CacheOk (warnEnds s).cache) ∧ (ScanOk s.rails →
    ScanOk (warnEnds s).rails) ∧ (KeepOk s.keep → KeepOk (warnEnds s).keep) ∧ (KeepOk s.keep → EvOk s.ev → EvOk (warnEnds
    s).ev) := by
  refine ⟨fun h => ?_, fun h => ?_, fun h => ?_, fun h => ?_, fun h => ?_, fun h => ?_, fun hk h => ?_⟩
  case refine_7 =>
    unfold warnEnds
    dsimp only
    (repeat' split) <;> simp [h, hk]
  all_goals
    unfold warnEnds
    dsimp only
    (repeat' split) <;> simp [h]

@[simp] theorem warnCheck_bounds (s : State) : (IslOk s.isl → IslOk (warnCheck s).isl) ∧ (DictOk s.dict → DictOk (warnCheck
    s).dict) ∧ (CanOk s.can → CanOk (warnCheck s).can) ∧ (CacheOk s.cache → CacheOk (warnCheck s).cache) ∧ (ScanOk s.rails →
    ScanOk (warnCheck s).rails) ∧ (KeepOk s.keep → KeepOk (warnCheck s).keep) ∧ (KeepOk s.keep → EvOk s.ev → EvOk (warnCheck
    s).ev) := by
  refine ⟨fun h => ?_, fun h => ?_, fun h => ?_, fun h => ?_, fun h => ?_, fun h => ?_, fun hk h => ?_⟩
  case refine_7 =>
    unfold warnCheck
    (repeat' split) <;> simp [h, hk]
  all_goals
    unfold warnCheck
    (repeat' split) <;> simp [h]

@[simp] theorem shutGroup_bounds (g : Nat) (c : DownCause) (s : State) : (ScanOk s.rails → ScanOk (shutGroup g c s).rails) :=
    by
  intro h
  unfold shutGroup
  (repeat' split) <;> simp [h]

@[simp] theorem abandonCommands_bounds (s : State) : (CanOk s.can → CanOk (abandonCommands s).can) ∧ (CacheOk s.cache →
    CacheOk (abandonCommands s).cache) ∧ (EvOk s.ev → EvOk (abandonCommands s).ev) := by
  refine ⟨fun h => ?_, fun h => ?_, fun h => ?_⟩
  all_goals
    unfold abandonCommands
    simp [h]

@[simp] theorem saveOrder_bounds (s : State) : (IslOk s.isl → IslOk (saveOrder s).isl) ∧ (DictOk s.dict → DictOk (saveOrder
    s).dict) ∧ (CanOk s.can → CanOk (saveOrder s).can) ∧ (CacheOk s.cache → CacheOk (saveOrder s).cache) ∧ (ScanOk s.rails →
    ScanOk (saveOrder s).rails) ∧ (KeepOk s.keep → KeepOk (saveOrder s).keep) ∧ (KeepOk s.keep → EvOk s.ev → EvOk (saveOrder
    s).ev) := by
  refine ⟨fun h => ?_, fun h => ?_, fun h => ?_, fun h => ?_, fun h => ?_, fun h => ?_, fun hk h => ?_⟩
  case refine_7 =>
    unfold saveOrder
    dsimp only
    (repeat' split) <;> simp (maxDischargeDepth := 20) [h, hk]
  all_goals
    unfold saveOrder
    dsimp only
    (repeat' split) <;> simp (maxDischargeDepth := 20) [h]

@[simp] theorem startSettle_bounds (cause : Nat) (s : State) : (IslOk s.isl → IslOk (startSettle cause s).isl) ∧ (DictOk
    s.dict → DictOk (startSettle cause s).dict) ∧ (CanOk s.can → CanOk (startSettle cause s).can) ∧ (CacheOk s.cache → CacheOk
    (startSettle cause s).cache) ∧ (ScanOk s.rails → ScanOk (startSettle cause s).rails) ∧ (KeepOk s.keep → KeepOk
    (startSettle cause s).keep) ∧ (KeepOk s.keep → EvOk s.ev → EvOk (startSettle cause s).ev) := by
  refine ⟨fun h => ?_, fun h => ?_, fun h => ?_, fun h => ?_, fun h => ?_, fun h => ?_, fun hk h => ?_⟩
  case refine_7 =>
    unfold startSettle
    dsimp only
    (repeat' split) <;> simp [h, hk]
  all_goals
    unfold startSettle
    dsimp only
    (repeat' split) <;> simp [h]

@[simp] theorem settleCheck_bounds (s : State) : (IslOk s.isl → IslOk (settleCheck s).isl) ∧ (DictOk s.dict → DictOk
    (settleCheck s).dict) ∧ (CanOk s.can → CanOk (settleCheck s).can) ∧ (CacheOk s.cache → CacheOk (settleCheck s).cache) ∧
    (ScanOk s.rails → ScanOk (settleCheck s).rails) ∧ (KeepOk s.keep → KeepOk (settleCheck s).keep) ∧ (KeepOk s.keep → EvOk
    s.ev → EvOk (settleCheck s).ev) := by
  refine ⟨fun h => ?_, fun h => ?_, fun h => ?_, fun h => ?_, fun h => ?_, fun h => ?_, fun hk h => ?_⟩
  case refine_7 =>
    unfold settleCheck
    (repeat' split) <;> simp [h, hk]
  all_goals
    unfold settleCheck
    (repeat' split) <;> simp [h]

@[simp] theorem warnWindows_bounds (s : State) : (CanOk s.can → CanOk (warnWindows s).can) ∧ (KeepOk s.keep → KeepOk
    (warnWindows s).keep) ∧ (EvOk s.ev → EvOk (warnWindows s).ev) := by
  refine ⟨fun h => ?_, fun h => ?_, fun h => ?_⟩
  all_goals
    unfold warnWindows
    dsimp only
    (repeat' split) <;> simp +contextual [h]

@[simp] theorem firstDecision_bounds (s : State) : (CanOk s.can → CanOk (firstDecision s).can) ∧ (EvOk s.ev → EvOk
    (firstDecision s).ev) := by
  refine ⟨fun h => ?_, fun h => ?_⟩
  all_goals
    unfold firstDecision
    dsimp only
    (repeat' split) <;> simp [h]

@[simp] theorem stopRequest_bounds (s : State) : (ScanOk s.rails → ScanOk (stopRequest s).rails) := by
  intro h
  unfold stopRequest
  (repeat' split) <;> simp [h]

@[simp] theorem enterWarn_bounds (fatal : Bool) (why : Cause) (s : State) : (IslOk s.isl → IslOk (enterWarn fatal why s).isl)
    ∧ (CanOk s.can → CanOk (enterWarn fatal why s).can) ∧ (CacheOk s.cache → CacheOk (enterWarn fatal why s).cache) ∧ (ScanOk
    s.rails → ScanOk (enterWarn fatal why s).rails) ∧ (KeepOk s.keep → KeepOk (enterWarn fatal why s).keep) ∧ (EvOk s.ev →
    EvOk (enterWarn fatal why s).ev) := by
  refine ⟨fun h => ?_, fun h => ?_, fun h => ?_, fun h => ?_, fun h => ?_, fun h => ?_⟩
  all_goals
    unfold enterWarn
    dsimp only
    (repeat' split) <;> simp (maxDischargeDepth := 20) [h]

@[simp] theorem endRestore_bounds (s : State) : (CanOk s.can → CanOk (endRestore s).can) ∧ (EvOk s.ev → EvOk (endRestore
    s).ev) := by
  refine ⟨fun h => ?_, fun h => ?_⟩
  all_goals
    unfold endRestore
    (repeat' split) <;> simp [h]

@[simp] theorem resumeServe_bounds (sa : State) : (IslOk sa.isl → IslOk (resumeServe sa).isl) ∧ (CanOk sa.can → CanOk
    (resumeServe sa).can) ∧ (CacheOk sa.cache → CacheOk (resumeServe sa).cache) ∧ (ScanOk sa.rails → ScanOk (resumeServe
    sa).rails) ∧ (EvOk sa.ev → EvOk (resumeServe sa).ev) := by
  refine ⟨fun h => ?_, fun h => ?_, fun h => ?_, fun h => ?_, fun h => ?_⟩
  all_goals
    unfold resumeServe
    dsimp only
    (repeat' split) <;> simp (maxDischargeDepth := 20) [h]

@[simp] theorem bootFails_bounds (cause : Nat) (s : State) : (IslOk s.isl → IslOk (bootFails cause s).isl) ∧ (DictOk s.dict →
    DictOk (bootFails cause s).dict) ∧ (CanOk s.can → CanOk (bootFails cause s).can) ∧ (CacheOk s.cache → CacheOk (bootFails
    cause s).cache) ∧ (ScanOk s.rails → ScanOk (bootFails cause s).rails) ∧ (KeepOk s.keep → KeepOk (bootFails cause s).keep)
    ∧ (KeepOk s.keep → EvOk s.ev → EvOk (bootFails cause s).ev) := by
  refine ⟨fun h => ?_, fun h => ?_, fun h => ?_, fun h => ?_, fun h => ?_, fun h => ?_, fun hk h => ?_⟩
  case refine_7 =>
    unfold bootFails
    dsimp only
    (repeat' split) <;> simp [h, hk]
  all_goals
    unfold bootFails
    dsimp only
    (repeat' split) <;> simp [h]

@[simp] theorem dieHalt_bounds (s : State) : (IslOk s.isl → IslOk (dieHalt s).isl) ∧ (CanOk s.can → CanOk (dieHalt s).can) ∧
    (CacheOk s.cache → CacheOk (dieHalt s).cache) ∧ (ScanOk s.rails → ScanOk (dieHalt s).rails) ∧ (EvOk s.ev → EvOk (dieHalt
    s).ev) := by
  refine ⟨fun h => ?_, fun h => ?_, fun h => ?_, fun h => ?_, fun h => ?_⟩
  all_goals
    unfold dieHalt
    (repeat' split) <;> simp [h]

@[simp] theorem fatalFault_bounds (s : State) : (IslOk s.isl → IslOk (fatalFault s).isl) ∧ (DictOk s.dict → DictOk (fatalFault
    s).dict) ∧ (CanOk s.can → CanOk (fatalFault s).can) ∧ (CacheOk s.cache → CacheOk (fatalFault s).cache) ∧ (ScanOk s.rails →
    ScanOk (fatalFault s).rails) ∧ (KeepOk s.keep → KeepOk (fatalFault s).keep) ∧ (KeepOk s.keep → EvOk s.ev → EvOk
    (fatalFault s).ev) := by
  refine ⟨fun h => ?_, fun h => ?_, fun h => ?_, fun h => ?_, fun h => ?_, fun h => ?_, fun hk h => ?_⟩
  case refine_7 =>
    unfold fatalFault
    dsimp only
    (repeat' split) <;> simp [h, hk]
  all_goals
    unfold fatalFault
    dsimp only
    (repeat' split) <;> simp [h, dieHalt_frame, enterWarn_frame]

@[simp] theorem afterDown_bounds (s : State) : (IslOk s.isl → IslOk (afterDown s).isl) ∧ (DictOk s.dict → DictOk (afterDown
    s).dict) ∧ (CanOk s.can → CanOk (afterDown s).can) ∧ (CacheOk s.cache → CacheOk (afterDown s).cache) ∧ (ScanOk s.rails →
    ScanOk (afterDown s).rails) ∧ (KeepOk s.keep → KeepOk (afterDown s).keep) ∧ (KeepOk s.keep → EvOk s.ev → EvOk (afterDown
    s).ev) := by
  refine ⟨fun h => ?_, fun h => ?_, fun h => ?_, fun h => ?_, fun h => ?_, fun h => ?_, fun hk h => ?_⟩
  case refine_7 =>
    unfold afterDown
    (repeat' split) <;> simp [h, hk]
  all_goals
    unfold afterDown
    (repeat' split) <;> simp [h, dieHalt_frame]

@[simp] theorem shutAll_bounds (groups : List Nat) (s : State) : (IslOk s.isl → IslOk (shutAll groups s).isl) ∧ (DictOk s.dict
    → DictOk (shutAll groups s).dict) ∧ (CanOk s.can → CanOk (shutAll groups s).can) ∧ (CacheOk s.cache → CacheOk (shutAll
    groups s).cache) ∧ (ScanOk s.rails → ScanOk (shutAll groups s).rails) ∧ (KeepOk s.keep → KeepOk (shutAll groups s).keep) ∧
    (KeepOk s.keep → EvOk s.ev → EvOk (shutAll groups s).ev) := by
  refine ⟨fun h => ?_, fun h => ?_, fun h => ?_, fun h => ?_, fun h => ?_, fun h => ?_, fun hk h => ?_⟩
  case refine_7 =>
    unfold shutAll
    dsimp only
    (repeat' split) <;> simp [h, hk]
  all_goals
    unfold shutAll
    dsimp only
    (repeat' split) <;> simp [h]

@[simp] theorem startFirmware_bounds (s : State) : (CanOk s.can → CanOk (startFirmware s).can) ∧ (KeepOk s.keep → KeepOk
    (startFirmware s).keep) ∧ (EvOk s.ev → EvOk (startFirmware s).ev) := by
  refine ⟨fun h => ?_, fun h => ?_, fun h => ?_⟩
  all_goals
    unfold startFirmware
    dsimp only
    (repeat' split) <;> simp [h]

@[simp] theorem warmBoot_bounds (cause : Nat) (why : Cause) (s : State) : (IslOk s.isl → IslOk (warmBoot cause why s).isl) ∧
    (CanOk s.can → CanOk (warmBoot cause why s).can) ∧ (CacheOk s.cache → CacheOk (warmBoot cause why s).cache) ∧ (ScanOk
    s.rails → ScanOk (warmBoot cause why s).rails) ∧ (KeepOk s.keep → KeepOk (warmBoot cause why s).keep) ∧ (EvOk s.ev → EvOk
    (warmBoot cause why s).ev) := by
  refine ⟨fun h => ?_, fun h => ?_, fun h => ?_, fun h => ?_, fun h => ?_, fun h => ?_⟩
  all_goals
    unfold warmBoot
    dsimp only
    simp (maxDischargeDepth := 20) [h]

@[simp] theorem outageRestart_bounds (s : State) : (IslOk s.isl → IslOk (outageRestart s).isl) ∧ (CanOk s.can → CanOk
    (outageRestart s).can) ∧ (CacheOk s.cache → CacheOk (outageRestart s).cache) ∧ (ScanOk s.rails → ScanOk (outageRestart
    s).rails) ∧ (KeepOk s.keep → KeepOk (outageRestart s).keep) ∧ (EvOk s.ev → EvOk (outageRestart s).ev) := by
  refine ⟨fun h => ?_, fun h => ?_, fun h => ?_, fun h => ?_, fun h => ?_, fun h => ?_⟩
  all_goals
    unfold outageRestart
    dsimp only
    (repeat' split) <;> simp (maxDischargeDepth := 20) [h]

@[simp] theorem commitWin_bounds (p : Session) (w : Fin 7) (s : State) : (CanOk s.can → CanOk (commitWin p w s).1.can) ∧ (EvOk
    s.ev → EvOk (commitWin p w s).1.ev) := by
  refine ⟨fun h => ?_, fun h => ?_⟩
  all_goals
    unfold commitWin
    dsimp only
    (repeat' split) <;> simp [h]

@[simp] theorem abortWin_bounds (p : Session) (w : Fin 7) (s : State) : (CanOk s.can → CanOk (abortWin p w s).1.can) ∧ (EvOk
    s.ev → EvOk (abortWin p w s).1.ev) := by
  refine ⟨fun h => ?_, fun h => ?_⟩
  all_goals
    unfold abortWin
    dsimp only
    (repeat' split) <;> simp [h]

@[simp] theorem loadTable_bounds (c : Channel) (s : State) : (CanOk s.can → CanOk (loadTable c s).can) ∧ (EvOk s.ev → EvOk
    (loadTable c s).ev) := by
  refine ⟨fun h => ?_, fun h => ?_⟩
  all_goals
    unfold loadTable
    dsimp only
    (repeat' split) <;> simp [h]

@[simp] theorem storeFirmware_bounds (image : List Byte) (s : State) : (KeepOk s.keep → KeepOk (storeFirmware image s).keep)
    := by
  intro h
  unfold storeFirmware
  dsimp only
  (repeat' split) <;> simp [h]

@[simp] theorem endCommit_bounds (w : Fin 7) (ok : Bool) (s : State) : (CanOk s.can → CanOk (endCommit w ok s).can) ∧ (EvOk
    s.ev → EvOk (endCommit w ok s).ev) := by
  refine ⟨fun h => ?_, fun h => ?_⟩
  all_goals
    unfold endCommit
    (repeat' split) <;> simp [h]

@[simp] theorem finishCommit_bounds (w : Fin 7) (r : CommitEnd) (s : State) : (CanOk s.can → CanOk (finishCommit w r s).can) ∧
    (KeepOk s.keep → KeepOk (finishCommit w r s).keep) ∧ (EvOk s.ev → EvOk (finishCommit w r s).ev) := by
  refine ⟨fun h => ?_, fun h => ?_, fun h => ?_⟩
  all_goals
    unfold finishCommit
    dsimp only
    (repeat' split) <;> simp [h]

@[simp] theorem pumpStream_bounds (n : Fin 16) (s : State) : (CanOk s.can → CanOk (pumpStream n s).can) ∧ (EvOk s.ev → EvOk
    (pumpStream n s).ev) := by
  refine ⟨fun h => ?_, fun h => ?_⟩
  all_goals
    unfold pumpStream
    dsimp only
    (repeat' split) <;> simp [h]

@[simp] theorem pumpPort_bounds (p : Fin 4) (s : State) : (CanOk s.can → CanOk (pumpPort p s).can) ∧ (EvOk s.ev → EvOk
    (pumpPort p s).ev) := by
  refine ⟨fun h => ?_, fun h => ?_⟩
  all_goals
    unfold pumpPort
    simp +contextual [h]

@[simp] theorem refuseRequest_bounds (s : State) : (CanOk s.can → CanOk (refuseRequest s).1.can) ∧ (EvOk s.ev → EvOk
    (refuseRequest s).1.ev) := by
  refine ⟨fun h => ?_, fun h => ?_⟩
  all_goals
    unfold refuseRequest
    simp [h]

@[simp] theorem reqFirmware_bounds (s : State) : (IslOk s.isl → IslOk (reqFirmware s).1.isl) ∧ (CanOk s.can → CanOk
    (reqFirmware s).1.can) ∧ (CacheOk s.cache → CacheOk (reqFirmware s).1.cache) ∧ (ScanOk s.rails → ScanOk (reqFirmware
    s).1.rails) ∧ (KeepOk s.keep → KeepOk (reqFirmware s).1.keep) ∧ (EvOk s.ev → EvOk (reqFirmware s).1.ev) := by
  refine ⟨fun h => ?_, fun h => ?_, fun h => ?_, fun h => ?_, fun h => ?_, fun h => ?_⟩
  all_goals
    unfold reqFirmware
    (repeat' split) <;> simp [h]

@[simp] theorem reqDown_bounds (next : Nat) (s : State) : (IslOk s.isl → IslOk (reqDown next s).1.isl) ∧ (DictOk s.dict →
    DictOk (reqDown next s).1.dict) ∧ (CanOk s.can → CanOk (reqDown next s).1.can) ∧ (CacheOk s.cache → CacheOk (reqDown next
    s).1.cache) ∧ (ScanOk s.rails → ScanOk (reqDown next s).1.rails) ∧ (KeepOk s.keep → KeepOk (reqDown next s).1.keep) ∧
    (KeepOk s.keep → EvOk s.ev → EvOk (reqDown next s).1.ev) := by
  refine ⟨fun h => ?_, fun h => ?_, fun h => ?_, fun h => ?_, fun h => ?_, fun h => ?_, fun hk h => ?_⟩
  case refine_7 =>
    unfold reqDown
    dsimp only
    (repeat' split) <;> simp [h, hk]
  all_goals
    unfold reqDown
    dsimp only
    (repeat' split) <;> simp [h]

@[simp] theorem reqClearHalt_bounds (s : State) : (IslOk s.isl → IslOk (reqClearHalt s).1.isl) ∧ (DictOk s.dict → DictOk
    (reqClearHalt s).1.dict) ∧ (CanOk s.can → CanOk (reqClearHalt s).1.can) ∧ (CacheOk s.cache → CacheOk (reqClearHalt
    s).1.cache) ∧ (ScanOk s.rails → ScanOk (reqClearHalt s).1.rails) ∧ (KeepOk s.keep → KeepOk (reqClearHalt s).1.keep) ∧
    (KeepOk s.keep → EvOk s.ev → EvOk (reqClearHalt s).1.ev) := by
  refine ⟨fun h => ?_, fun h => ?_, fun h => ?_, fun h => ?_, fun h => ?_, fun h => ?_, fun hk h => ?_⟩
  case refine_7 =>
    unfold reqClearHalt
    dsimp only
    (repeat' split) <;> simp [h, hk]
  all_goals
    unfold reqClearHalt
    dsimp only
    (repeat' split) <;> simp [h]

@[simp] theorem reqLife_bounds (v : Nat) (s : State) : (IslOk s.isl → IslOk (reqLife v s).1.isl) ∧ (DictOk s.dict → DictOk
    (reqLife v s).1.dict) ∧ (CanOk s.can → CanOk (reqLife v s).1.can) ∧ (CacheOk s.cache → CacheOk (reqLife v s).1.cache) ∧
    (ScanOk s.rails → ScanOk (reqLife v s).1.rails) ∧ (KeepOk s.keep → KeepOk (reqLife v s).1.keep) ∧ (KeepOk s.keep → EvOk
    s.ev → EvOk (reqLife v s).1.ev) := by
  refine ⟨fun h => ?_, fun h => ?_, fun h => ?_, fun h => ?_, fun h => ?_, fun h => ?_, fun hk h => ?_⟩
  case refine_7 =>
    unfold reqLife
    (repeat' split) <;> simp [h, hk]
  all_goals
    unfold reqLife
    (repeat' split) <;> simp [h, reqFirmware_frame]

@[simp] theorem setEncryption_bounds (v : Nat) (s : State) : (DictOk s.dict → DictOk (setEncryption v s).1.dict) ∧ (CanOk
    s.can → CanOk (setEncryption v s).1.can) ∧ (EvOk s.ev → EvOk (setEncryption v s).1.ev) := by
  refine ⟨fun h => ?_, fun h => ?_, fun h => ?_⟩
  all_goals
    unfold setEncryption
    (repeat' split) <;> simp [h]

@[simp] theorem refuseExpert_bounds (code : Nat) (s : State) : (CanOk s.can → CanOk (refuseExpert code s).1.can) ∧ (EvOk s.ev
    → EvOk (refuseExpert code s).1.ev) := by
  refine ⟨fun h => ?_, fun h => ?_⟩
  all_goals
    unfold refuseExpert
    simp [h]

@[simp] theorem wrongCode_bounds (s : State) : (CanOk s.can → CanOk (wrongCode s).1.can) ∧ (EvOk s.ev → EvOk (wrongCode
    s).1.ev) := by
  refine ⟨fun h => ?_, fun h => ?_⟩
  all_goals
    unfold wrongCode
    dsimp only
    (repeat' split) <;> simp [h]

@[simp] theorem openExpert_bounds (p : Session) (s : State) : (CanOk s.can → CanOk (openExpert p s).1.can) ∧ (EvOk s.ev → EvOk
    (openExpert p s).1.ev) := by
  refine ⟨fun h => ?_, fun h => ?_⟩
  all_goals
    unfold openExpert
    simp [h]

@[simp] theorem setExpert_bounds (p : Session) (v : Nat) (s : State) : (CanOk s.can → CanOk (setExpert p v s).1.can) ∧ (EvOk
    s.ev → EvOk (setExpert p v s).1.ev) := by
  refine ⟨fun h => ?_, fun h => ?_⟩
  all_goals
    unfold setExpert
    (repeat' split) <;> simp [h]

@[simp] theorem setLock_bounds (p : Session) (v : Nat) (s : State) : (CanOk s.can → CanOk (setLock p v s).1.can) ∧ (EvOk s.ev
    → EvOk (setLock p v s).1.ev) := by
  refine ⟨fun h => ?_, fun h => ?_⟩
  all_goals
    unfold setLock
    (repeat' split) <;> simp [h]

@[simp] theorem resetEByte_bounds (s : State) : (KeepOk s.keep → KeepOk (resetEByte s).keep) := by
  intro h
  unfold resetEByte
  simp [h]

@[simp] theorem clearChannel_bounds (c : Channel) (s : State) : (CanOk s.can → CanOk (clearChannel c s).can) ∧ (KeepOk s.keep
    → KeepOk (clearChannel c s).keep) ∧ (EvOk s.ev → EvOk (clearChannel c s).ev) := by
  refine ⟨fun h => ?_, fun h => ?_, fun h => ?_⟩
  all_goals
    unfold clearChannel
    simp [h]

@[simp] theorem redetect_bounds (c : Channel) (s : State) : (CanOk s.can → CanOk (redetect c s).can) ∧ (EvOk s.ev → EvOk
    (redetect c s).ev) := by
  refine ⟨fun h => ?_, fun h => ?_⟩
  all_goals
    unfold redetect
    simp [h]

@[simp] theorem reqGeyser_bounds (c : Channel) (v : Nat) (s : State) : (CanOk s.can → CanOk (reqGeyser c v s).1.can) ∧ (ScanOk
    s.rails → ScanOk (reqGeyser c v s).1.rails) ∧ (EvOk s.ev → EvOk (reqGeyser c v s).1.ev) := by
  refine ⟨fun h => ?_, fun h => ?_, fun h => ?_⟩
  all_goals
    unfold reqGeyser
    (repeat' split) <;> simp [h]

@[simp] theorem setMask_bounds (r : Fin 12) (v : Nat) (s : State) : (CanOk s.can → CanOk (setMask r v s).can) ∧ (ScanOk
    s.rails → ScanOk (setMask r v s).rails) ∧ (EvOk s.ev → EvOk (setMask r v s).ev) := by
  refine ⟨fun h => ?_, fun h => ?_, fun h => ?_⟩
  all_goals
    unfold setMask
    (repeat' split) <;> simp [h]

@[simp] theorem switchOff_bounds (r : Fin 12) (s : State) : (IslOk s.isl → IslOk (switchOff r s).1.isl) ∧ (CanOk s.can → CanOk
    (switchOff r s).1.can) ∧ (CacheOk s.cache → CacheOk (switchOff r s).1.cache) ∧ (ScanOk s.rails → ScanOk (switchOff r
    s).1.rails) ∧ (EvOk s.ev → EvOk (switchOff r s).1.ev) := by
  refine ⟨fun h => ?_, fun h => ?_, fun h => ?_, fun h => ?_, fun h => ?_⟩
  all_goals
    unfold switchOff
    (repeat' split) <;> simp [h]

@[simp] theorem switchOn_bounds (r : Fin 12) (s : State) : (ScanOk s.rails → ScanOk (switchOn r s).1.rails) := by
  intro h
  unfold switchOn
  (repeat' split) <;> simp [h]

@[simp] theorem anchorTrim_bounds (t : Fin 4) (s : State) : (ScanOk s.rails → ScanOk (anchorTrim t s).rails) := by
  intro h
  unfold anchorTrim
  (repeat' split) <;> simp [h]

@[simp] theorem pulseReset_bounds (k : Fin 4) (s : State) : (ScanOk s.rails → ScanOk (pulseReset k s).rails) := by
  intro h
  unfold pulseReset
  (repeat' split) <;> simp [h]

@[simp] theorem resetRailChanged_bounds (k : Fin 4) (s : State) : (ScanOk s.rails → ScanOk (resetRailChanged k s).rails) := by
  intro h
  unfold resetRailChanged
  dsimp only
  (repeat' split) <;> simp [h]

@[simp] theorem retireCommand_bounds (d : Fin 16) (s : State) : (CanOk s.can → CanOk (retireCommand d s).1.can) ∧ (CacheOk
    s.cache → CacheOk (retireCommand d s).1.cache) ∧ (EvOk s.ev → EvOk (retireCommand d s).1.ev) := by
  refine ⟨fun h => ?_, fun h => ?_, fun h => ?_⟩
  all_goals
    unfold retireCommand
    (repeat' split) <;> simp [h]

@[simp] theorem returnCommand_bounds (d : Fin 16) (answers : Bool) (s : State) : (CanOk s.can → CanOk (returnCommand d answers
    s).1.can) ∧ (EvOk s.ev → EvOk (returnCommand d answers s).1.ev) := by
  refine ⟨fun h => ?_, fun h => ?_⟩
  all_goals
    unfold returnCommand
    dsimp only
    (repeat' split) <;> simp [h]

@[simp] theorem sanitizeTenant_bounds (keys : Bool) (n : Fin 16) (s : State) : (CacheOk s.cache → CacheOk (sanitizeTenant keys
    n s).cache) := by
  intro h
  unfold sanitizeTenant
  dsimp only
  (repeat' split) <;> simp [h]

@[simp] theorem startSanitize_bounds (v : Nat) (s : State) : (CanOk s.can → CanOk (startSanitize v s).1.can) ∧ (CacheOk
    s.cache → CacheOk (startSanitize v s).1.cache) ∧ (EvOk s.ev → EvOk (startSanitize v s).1.ev) := by
  refine ⟨fun h => ?_, fun h => ?_, fun h => ?_⟩
  all_goals
    unfold startSanitize
    dsimp only
    (repeat' split) <;> simp (maxDischargeDepth := 20) +contextual [h]

@[simp] theorem clearStaging_bounds (n : Fin 16) (s : State) : (DictOk s.dict → DictOk (clearStaging n s).dict) := by
  intro h
  unfold clearStaging
  simp +contextual [h]

@[simp] theorem commitExposure_bounds (n : Fin 16) (s : State) : (DictOk s.dict → DictOk (commitExposure n s).1.dict) ∧ (CanOk
    s.can → CanOk (commitExposure n s).1.can) ∧ (EvOk s.ev → EvOk (commitExposure n s).1.ev) := by
  refine ⟨fun h => ?_, fun h => ?_, fun h => ?_⟩
  all_goals
    unfold commitExposure
    dsimp only
    (repeat' split) <;> simp [h]

@[simp] theorem directCci_bounds (n : Fin 16) (op : Nat) (s : State) : (CanOk s.can → CanOk (directCci n op s).1.can) ∧ (EvOk
    s.ev → EvOk (directCci n op s).1.ev) := by
  refine ⟨fun h => ?_, fun h => ?_⟩
  all_goals
    unfold directCci
    (repeat' split) <;> simp [h]

@[simp] theorem videoModeChanged_bounds (s : State) : (CanOk s.can → CanOk (videoModeChanged s).can) ∧ (CacheOk s.cache →
    CacheOk (videoModeChanged s).cache) ∧ (EvOk s.ev → EvOk (videoModeChanged s).ev) := by
  refine ⟨fun h => ?_, fun h => ?_, fun h => ?_⟩
  all_goals
    unfold videoModeChanged
    (repeat' split) <;> simp +contextual [h]

@[simp] theorem refuseBudget_bounds (s : State) : (CanOk s.can → CanOk (refuseBudget s).1.can) ∧ (EvOk s.ev → EvOk
    (refuseBudget s).1.ev) := by
  refine ⟨fun h => ?_, fun h => ?_⟩
  all_goals
    unfold refuseBudget
    simp [h]

@[simp] theorem openDecode_bounds (d : Fin 2) (s : State) : (CanOk s.can → CanOk (openDecode d s).1.can) ∧ (EvOk s.ev → EvOk
    (openDecode d s).1.ev) := by
  refine ⟨fun h => ?_, fun h => ?_⟩
  all_goals
    unfold openDecode
    (repeat' split) <;> simp [h]

@[simp] theorem closeDecode_bounds (d : Fin 2) (s : State) : (CanOk s.can → CanOk (closeDecode d s).can) ∧ (EvOk s.ev → EvOk
    (closeDecode d s).ev) := by
  refine ⟨fun h => ?_, fun h => ?_⟩
  all_goals
    unfold closeDecode
    simp [h]

@[simp] theorem acknowledge_bounds (b : Fin 28) (v : Nat) (s : State) : (EvOk s.ev → EvOk (acknowledge b v s).ev) := by
  intro h
  unfold acknowledge
  simp [h]

@[simp] theorem emptyLog_bounds (s : State) : (CanOk s.can → CanOk (emptyLog s).can) ∧ (EvOk s.ev → EvOk (emptyLog s).ev) :=
    by
  refine ⟨fun h => ?_, fun h => ?_⟩
  all_goals
    unfold emptyLog
    simp [h]

@[simp] theorem setRing_bounds (n : Fin 16) (v : Nat) (s : State) : (EvOk s.ev → EvOk (setRing n v s).ev) := by
  intro h
  unfold setRing
  simp [h]

@[simp] theorem setConsumer_bounds (n : Fin 16) (v : Nat) (s : State) : (EvOk s.ev → EvOk (setConsumer n v s).1.ev) := by
  intro h
  unfold setConsumer
  (repeat' split) <;> simp [h]

@[simp] theorem allDelivered_bounds (s : State) : (IslOk s.isl → IslOk (allDelivered s).isl) := by
  intro h
  unfold allDelivered
  simp

@[simp] theorem holdValue_bounds (index sub v : Nat) (s : State) : (IslOk s.isl → IslOk (holdValue index sub v s).1.isl) ∧
    (DictOk s.dict → DictOk (holdValue index sub v s).1.dict) := by
  refine ⟨fun h => ?_, fun h => ?_⟩
  all_goals
    unfold holdValue
    (repeat' split) <;> simp [h]

@[simp] theorem sourceMoved_bounds (c : Channel) (before s : State) : (CanOk s.can → CanOk (sourceMoved c before s).can) ∧
    (ScanOk s.rails → ScanOk (sourceMoved c before s).rails) ∧ (EvOk s.ev → EvOk (sourceMoved c before s).ev) := by
  refine ⟨fun h => ?_, fun h => ?_, fun h => ?_⟩
  all_goals
    unfold sourceMoved
    dsimp only
    (repeat' split) <;> simp [h]

@[simp] theorem controlWin_bounds (p : Session) (w : Fin 7) (v : Nat) (s : State) : (CanOk s.can → CanOk (controlWin p w v
    s).1.can) ∧ (EvOk s.ev → EvOk (controlWin p w v s).1.ev) := by
  refine ⟨fun h => ?_, fun h => ?_⟩
  all_goals
    unfold controlWin
    (repeat' split) <;> simp [h]

@[simp] theorem noteBadRequest_bounds (index sub : Nat) (s : State) : (CanOk s.can → CanOk (noteBadRequest index sub s).can) ∧
    (EvOk s.ev → EvOk (noteBadRequest index sub s).ev) := by
  refine ⟨fun h => ?_, fun h => ?_⟩
  all_goals
    unfold noteBadRequest
    simp [h]

@[simp] theorem countRefusal_bounds (p : Session) (s : State) : (DictOk s.dict → DictOk (countRefusal p s).dict) := by
  intro h
  unfold countRefusal
  (repeat' split) <;> simp [h]

@[simp] theorem noteAnswer_bounds (p : Session) (a : Answer) (s : State) : (DictOk s.dict → DictOk (noteAnswer p a s).dict) :=
    by
  intro h
  unfold noteAnswer
  (repeat' split) <;> simp [h]

@[simp] theorem dictRead_bounds (p : Session) (index sub len : Nat) (s : State) : (DictOk s.dict → DictOk (dictRead p index
    sub len s).1.dict) := by
  intro h
  unfold dictRead
  dsimp only
  simp [h]

@[simp] theorem dictNext_bounds (p : Session) (index sub : Nat) (s : State) : (DictOk s.dict → DictOk (dictNext p index sub
    s).1.dict) := by
  intro h
  unfold dictNext
  dsimp only
  (repeat' split) <;> simp [h]

@[simp] theorem answerUsdo_bounds (c : Fin 128) (index sub : Nat) (a : Answer) (data : List Byte) (s : State) : (CanOk s.can →
    CanOk (answerUsdo c index sub a data s).can) := by
  intro h
  unfold answerUsdo
  (repeat' split) <;> simp [h]

@[simp] theorem nmtReset_bounds (s : State) : (IslOk s.isl → IslOk (nmtReset s).isl) ∧ (DictOk s.dict → DictOk (nmtReset
    s).dict) ∧ (CanOk s.can → CanOk (nmtReset s).can) ∧ (KeepOk s.keep → KeepOk (nmtReset s).keep) ∧ (EvOk s.ev → EvOk
    (nmtReset s).ev) := by
  refine ⟨fun h => ?_, fun h => ?_, fun h => ?_, fun h => ?_, fun h => ?_⟩
  all_goals
    unfold nmtReset
    dsimp only
    (repeat' split) <;> simp (maxDischargeDepth := 20) [h]

@[simp] theorem resumeRecording_bounds (n : Fin 16) (s : State) : (CanOk s.can → CanOk (resumeRecording n s).can) ∧ (EvOk s.ev
    → EvOk (resumeRecording n s).ev) := by
  refine ⟨fun h => ?_, fun h => ?_⟩
  all_goals
    unfold resumeRecording
    (repeat' split) <;> simp [h]

@[simp] theorem resumeRecordings_bounds (s : State) : (CanOk s.can → CanOk (resumeRecordings s).can) ∧ (EvOk s.ev → EvOk
    (resumeRecordings s).ev) := by
  refine ⟨fun h => ?_, fun h => ?_⟩
  all_goals
    unfold resumeRecordings
    simp +contextual [h]

@[simp] theorem recomputeAll_bounds (s : State) : (CanOk s.can → CanOk (recomputeAll s).can) ∧ (CacheOk s.cache → CacheOk
    (recomputeAll s).cache) ∧ (EvOk s.ev → EvOk (recomputeAll s).ev) := by
  refine ⟨fun h => ?_, fun h => ?_, fun h => ?_⟩
  all_goals
    unfold recomputeAll
    simp [h]

@[simp] theorem simmerPublication_bounds (s : State) : (IslOk s.isl → IslOk (simmerPublication s).isl) ∧ (DictOk s.dict →
    DictOk (simmerPublication s).dict) ∧ (CanOk s.can → CanOk (simmerPublication s).can) ∧ (CacheOk s.cache → CacheOk
    (simmerPublication s).cache) ∧ (ScanOk s.rails → ScanOk (simmerPublication s).rails) ∧ (KeepOk s.keep → KeepOk
    (simmerPublication s).keep) ∧ (KeepOk s.keep → EvOk s.ev → EvOk (simmerPublication s).ev) := by
  refine ⟨fun h => ?_, fun h => ?_, fun h => ?_, fun h => ?_, fun h => ?_, fun h => ?_, fun hk h => ?_⟩
  case refine_7 =>
    unfold simmerPublication
    (repeat' split) <;> simp [h, hk]
  all_goals
    unfold simmerPublication
    (repeat' split) <;> simp [h]

@[simp] theorem publishFigures_bounds (pack bank : Nat) (s : State) : (CanOk s.can → CanOk (publishFigures pack bank s).can) ∧
    (CacheOk s.cache → CacheOk (publishFigures pack bank s).cache) ∧ (EvOk s.ev → EvOk (publishFigures pack bank s).ev) := by
  refine ⟨fun h => ?_, fun h => ?_, fun h => ?_⟩
  all_goals
    unfold publishFigures
    simp [h]

@[simp] theorem publishWith_bounds (pack bank : Nat) (s : State) : (IslOk s.isl → IslOk (publishWith pack bank s).isl) ∧
    (DictOk s.dict → DictOk (publishWith pack bank s).dict) ∧ (CanOk s.can → CanOk (publishWith pack bank s).can) ∧ (CacheOk
    s.cache → CacheOk (publishWith pack bank s).cache) ∧ (ScanOk s.rails → ScanOk (publishWith pack bank s).rails) ∧ (KeepOk
    s.keep → KeepOk (publishWith pack bank s).keep) ∧ (KeepOk s.keep → EvOk s.ev → EvOk (publishWith pack bank s).ev) := by
  refine ⟨fun h => ?_, fun h => ?_, fun h => ?_, fun h => ?_, fun h => ?_, fun h => ?_, fun hk h => ?_⟩
  case refine_7 =>
    unfold publishWith
    simp [h, hk]
  all_goals
    unfold publishWith
    simp [h]

@[simp] theorem publish_bounds (s : State) : (IslOk s.isl → IslOk (publish s).isl) ∧ (DictOk s.dict → DictOk (publish s).dict)
    ∧ (CanOk s.can → CanOk (publish s).can) ∧ (CacheOk s.cache → CacheOk (publish s).cache) ∧ (ScanOk s.rails → ScanOk
    (publish s).rails) ∧ (KeepOk s.keep → KeepOk (publish s).keep) ∧ (KeepOk s.keep → EvOk s.ev → EvOk (publish s).ev) := by
  refine ⟨fun h => ?_, fun h => ?_, fun h => ?_, fun h => ?_, fun h => ?_, fun h => ?_, fun hk h => ?_⟩
  case refine_7 =>
    unfold publish
    dsimp only
    simp (maxDischargeDepth := 20) [h, hk]
  all_goals
    unfold publish
    dsimp only
    simp (maxDischargeDepth := 20) [h]

@[simp] theorem publishNone_bounds (c : Channel) (s : State) : (IslOk s.isl → IslOk (publishNone c s).isl) ∧ (DictOk s.dict →
    DictOk (publishNone c s).dict) ∧ (CanOk s.can → CanOk (publishNone c s).can) ∧ (CacheOk s.cache → CacheOk (publishNone c
    s).cache) ∧ (ScanOk s.rails → ScanOk (publishNone c s).rails) ∧ (KeepOk s.keep → KeepOk (publishNone c s).keep) ∧ (KeepOk
    s.keep → EvOk s.ev → EvOk (publishNone c s).ev) := by
  refine ⟨fun h => ?_, fun h => ?_, fun h => ?_, fun h => ?_, fun h => ?_, fun h => ?_, fun hk h => ?_⟩
  case refine_7 =>
    unfold publishNone
    (repeat' split) <;> simp [h, hk]
  all_goals
    unfold publishNone
    (repeat' split) <;> simp [h]

@[simp] theorem leaveSimmer_bounds (cause : Nat) (s : State) : (IslOk s.isl → IslOk (leaveSimmer cause s).isl) ∧ (DictOk
    s.dict → DictOk (leaveSimmer cause s).dict) ∧ (CanOk s.can → CanOk (leaveSimmer cause s).can) ∧ (CacheOk s.cache → CacheOk
    (leaveSimmer cause s).cache) ∧ (ScanOk s.rails → ScanOk (leaveSimmer cause s).rails) ∧ (KeepOk s.keep → KeepOk
    (leaveSimmer cause s).keep) ∧ (KeepOk s.keep → EvOk s.ev → EvOk (leaveSimmer cause s).ev) := by
  refine ⟨fun h => ?_, fun h => ?_, fun h => ?_, fun h => ?_, fun h => ?_, fun h => ?_, fun hk h => ?_⟩
  case refine_7 =>
    unfold leaveSimmer
    (repeat' split) <;> simp [h, hk]
  all_goals
    unfold leaveSimmer
    (repeat' split) <;> simp [h]

@[simp] theorem holdUpFails_bounds (s : State) : (IslOk s.isl → IslOk (holdUpFails s).isl) ∧ (DictOk s.dict → DictOk
    (holdUpFails s).dict) ∧ (CanOk s.can → CanOk (holdUpFails s).can) ∧ (CacheOk s.cache → CacheOk (holdUpFails s).cache) ∧
    (ScanOk s.rails → ScanOk (holdUpFails s).rails) ∧ (KeepOk s.keep → KeepOk (holdUpFails s).keep) ∧ (KeepOk s.keep → EvOk
    s.ev → EvOk (holdUpFails s).ev) := by
  refine ⟨fun h => ?_, fun h => ?_, fun h => ?_, fun h => ?_, fun h => ?_, fun h => ?_, fun hk h => ?_⟩
  case refine_7 =>
    unfold holdUpFails
    dsimp only
    (repeat' split) <;> simp (maxDischargeDepth := 20) [h, hk]
  all_goals
    unfold holdUpFails
    dsimp only
    (repeat' split) <;> simp (maxDischargeDepth := 20) [h]

@[simp] theorem faultNow_bounds (c : Channel) (code : Nat) (s : State) : (IslOk s.isl → IslOk (faultNow c code s).isl) ∧
    (DictOk s.dict → DictOk (faultNow c code s).dict) ∧ (CanOk s.can → CanOk (faultNow c code s).can) ∧ (CacheOk s.cache →
    CacheOk (faultNow c code s).cache) ∧ (ScanOk s.rails → ScanOk (faultNow c code s).rails) ∧ (KeepOk s.keep → KeepOk
    (faultNow c code s).keep) ∧ (KeepOk s.keep → EvOk s.ev → EvOk (faultNow c code s).ev) := by
  refine ⟨fun h => ?_, fun h => ?_, fun h => ?_, fun h => ?_, fun h => ?_, fun h => ?_, fun hk h => ?_⟩
  case refine_7 =>
    unfold faultNow
    dsimp only
    (repeat' split) <;> simp (maxDischargeDepth := 20) [h, hk]
  all_goals
    unfold faultNow
    dsimp only
    (repeat' split) <;> simp (maxDischargeDepth := 20) [h]

@[simp] theorem endNoSpace_bounds (k : Nat) (c : Cmd) (s : State) : (CanOk s.can → CanOk (endNoSpace k c s).can) ∧ (CacheOk
    s.cache → CacheOk (endNoSpace k c s).cache) ∧ (EvOk s.ev → EvOk (endNoSpace k c s).ev) := by
  refine ⟨fun h => ?_, fun h => ?_, fun h => ?_⟩
  all_goals
    unfold endNoSpace
    simp [h]

@[simp] theorem beginPut_bounds (elems : List Element) (c : Cmd) (protect : Bool) (n k : Nat) (s : State) : (CacheOk s.cache →
    CacheOk (beginPut elems c protect n k s).cache) := by
  intro h
  unfold beginPut
  simp [h]

@[simp] theorem checkPut_bounds (elems : List Element) (c : Cmd) (s : State) :
    (CanOk s.can → CanOk (checkPut elems c s).can) ∧ (CacheOk s.cache → CacheOk (checkPut elems c s).cache) ∧
    (EvOk s.ev → EvOk (checkPut elems c s).ev) := by
  refine ⟨fun h => ?_, fun h => ?_, fun h => ?_⟩
  all_goals
    unfold checkPut
    dsimp only
    split
    · simp [h]
    · split
      · simp [h]
      · split
        · simp [h]
        · split
          · simp [h]
          · rename_i taken
            simp [takeSlots_bounds taken, h]

@[simp] theorem finishPut_bounds (c : Cmd) (bs : List Block) (s : State) : (CanOk s.can → CanOk (finishPut c bs s).can) ∧
    (CacheOk s.cache → CacheOk (finishPut c bs s).cache) ∧ (EvOk s.ev → EvOk (finishPut c bs s).ev) := by
  refine ⟨fun h => ?_, fun h => ?_, fun h => ?_⟩
  all_goals
    unfold finishPut
    dsimp only
    simp (maxDischargeDepth := 20) [h]

@[simp] theorem failPut_bounds (c : Cmd) (s : State) : (CanOk s.can → CanOk (failPut c s).can) ∧ (CacheOk s.cache → CacheOk
    (failPut c s).cache) ∧ (EvOk s.ev → EvOk (failPut c s).ev) := by
  refine ⟨fun h => ?_, fun h => ?_, fun h => ?_⟩
  all_goals
    unfold failPut
    simp [h]

@[simp] theorem eccFails_bounds (n : Fin 16) (lba : Nat) (c : Cmd) (s : State) : (CanOk s.can → CanOk (eccFails n lba c
    s).can) ∧ (CacheOk s.cache → CacheOk (eccFails n lba c s).cache) ∧ (EvOk s.ev → EvOk (eccFails n lba c s).ev) := by
  refine ⟨fun h => ?_, fun h => ?_, fun h => ?_⟩
  all_goals
    unfold eccFails
    simp [h]

@[simp] theorem finishGet_bounds (onDemand : Bool) (eccBad : Option Nat) (elems : List Element) (c : Cmd) (s : State) : (CanOk
    s.can → CanOk (finishGet onDemand eccBad elems c s).can) ∧ (CacheOk s.cache → CacheOk (finishGet onDemand eccBad elems c
    s).cache) ∧ (EvOk s.ev → EvOk (finishGet onDemand eccBad elems c s).ev) := by
  refine ⟨fun h => ?_, fun h => ?_, fun h => ?_⟩
  all_goals
    unfold finishGet
    dsimp only
    (repeat' split) <;> simp (maxDischargeDepth := 20) +contextual [h]

@[simp] theorem startGet_bounds (eccBad : Option Nat) (elems : List Element) (c : Cmd) (s : State) : (CanOk s.can → CanOk
    (startGet eccBad elems c s).can) ∧ (CacheOk s.cache → CacheOk (startGet eccBad elems c s).cache) ∧ (EvOk s.ev → EvOk
    (startGet eccBad elems c s).ev) := by
  refine ⟨fun h => ?_, fun h => ?_, fun h => ?_⟩
  all_goals
    unfold startGet
    (repeat' split) <;> simp [h]

@[simp] theorem cleanBlocks_bounds (c : Cmd) (s : State) : (CanOk s.can → CanOk (cleanBlocks c s).can) ∧ (CacheOk s.cache →
    CacheOk (cleanBlocks c s).cache) ∧ (EvOk s.ev → EvOk (cleanBlocks c s).ev) := by
  refine ⟨fun h => ?_, fun h => ?_, fun h => ?_⟩
  all_goals
    unfold cleanBlocks
    dsimp only
    (repeat' split) <;> simp (maxDischargeDepth := 20) +contextual [h]

@[simp] theorem dropBlocks_bounds (c : Cmd) (s : State) : (CanOk s.can → CanOk (dropBlocks c s).can) ∧ (CacheOk s.cache →
    CacheOk (dropBlocks c s).cache) ∧ (EvOk s.ev → EvOk (dropBlocks c s).ev) := by
  refine ⟨fun h => ?_, fun h => ?_, fun h => ?_⟩
  all_goals
    unfold dropBlocks
    dsimp only
    simp (maxDischargeDepth := 20) +contextual [h]

@[simp] theorem listExtents_bounds (elems : List Element) (c : Cmd) (s : State) : (IslOk s.isl → IslOk (listExtents elems c
    s).isl) ∧ (DictOk s.dict → DictOk (listExtents elems c s).dict) ∧ (CanOk s.can → CanOk (listExtents elems c s).can) ∧
    (CacheOk s.cache → CacheOk (listExtents elems c s).cache) ∧ (ScanOk s.rails → ScanOk (listExtents elems c s).rails) ∧
    (KeepOk s.keep → KeepOk (listExtents elems c s).keep) ∧ (EvOk s.ev → EvOk (listExtents elems c s).ev) := by
  refine ⟨fun h => ?_, fun h => ?_, fun h => ?_, fun h => ?_, fun h => ?_, fun h => ?_, fun h => ?_⟩
  all_goals
    unfold listExtents
    dsimp only
    (repeat' split) <;> simp [h]

@[simp] theorem startFence_bounds (c : Cmd) (s : State) : (CacheOk s.cache → CacheOk (startFence c s).cache) := by
  intro h
  unfold startFence
  (repeat' split) <;> simp [h]

@[simp] theorem readSegment_bounds (eccBad : Option Nat) (elems : List Element) (c : Cmd) (s : State) : (IslOk s.isl → IslOk
    (readSegment eccBad elems c s).isl) ∧ (DictOk s.dict → DictOk (readSegment eccBad elems c s).dict) ∧ (CanOk s.can → CanOk
    (readSegment eccBad elems c s).can) ∧ (CacheOk s.cache → CacheOk (readSegment eccBad elems c s).cache) ∧ (ScanOk s.rails →
    ScanOk (readSegment eccBad elems c s).rails) ∧ (KeepOk s.keep → KeepOk (readSegment eccBad elems c s).keep) ∧ (EvOk s.ev →
    EvOk (readSegment eccBad elems c s).ev) := by
  refine ⟨fun h => ?_, fun h => ?_, fun h => ?_, fun h => ?_, fun h => ?_, fun h => ?_, fun h => ?_⟩
  all_goals
    unfold readSegment
    dsimp only
    (repeat' split) <;> simp (maxDischargeDepth := 20) +contextual [h]

@[simp] theorem resumeRead_bounds (eccBad : Option Nat) (c : Cmd) (s : State) : (IslOk s.isl → IslOk (resumeRead eccBad c
    s).isl) ∧ (DictOk s.dict → DictOk (resumeRead eccBad c s).dict) ∧ (CanOk s.can → CanOk (resumeRead eccBad c s).can) ∧
    (CacheOk s.cache → CacheOk (resumeRead eccBad c s).cache) ∧ (ScanOk s.rails → ScanOk (resumeRead eccBad c s).rails) ∧
    (KeepOk s.keep → KeepOk (resumeRead eccBad c s).keep) ∧ (EvOk s.ev → EvOk (resumeRead eccBad c s).ev) := by
  refine ⟨fun h => ?_, fun h => ?_, fun h => ?_, fun h => ?_, fun h => ?_, fun h => ?_, fun h => ?_⟩
  all_goals
    unfold resumeRead
    (repeat' split) <;> simp [h]

@[simp] theorem toNmt_bounds (node : Fin 128) (n : Nmt) (s : State) : (CanOk s.can → CanOk (toNmt node n s).can) := by
  intro h
  unfold toNmt
  (repeat' split) <;> simp [h]

@[simp] theorem suspendIfDue_bounds (n : Fin 16) (g : Fin 4) (s : State) : (CanOk s.can → CanOk (suspendIfDue n g s).can) ∧
    (EvOk s.ev → EvOk (suspendIfDue n g s).ev) := by
  refine ⟨fun h => ?_, fun h => ?_⟩
  all_goals
    unfold suspendIfDue
    (repeat' split) <;> simp [h]

@[simp] theorem insertFrame_bounds (n : Fin 16) (g : Fin 4) (t0 k number : Nat) (s : State) : (CanOk s.can → CanOk
    (insertFrame n g t0 k number s).can) ∧ (EvOk s.ev → EvOk (insertFrame n g t0 k number s).ev) := by
  refine ⟨fun h => ?_, fun h => ?_⟩
  all_goals
    unfold insertFrame
    dsimp only
    (repeat' split) <;> simp [h]

@[simp] theorem fillTicks_bounds (n : Fin 16) (g : Fin 4) (t0 k fuel : Nat) (s : State) :
    (CanOk s.can → CanOk (fillTicks n g t0 k fuel s).can) ∧ (EvOk s.ev → EvOk (fillTicks n g t0 k fuel s).ev) := by
  induction fuel generalizing s with
  | zero => exact ⟨id, id⟩
  | succ fuel ih =>
    refine ⟨fun h => ?_, fun h => ?_⟩
    all_goals
      unfold fillTicks
      dsimp only
      split <;> simp [ih, h]

@[simp] theorem noteDrop_bounds (n : Fin 16) (cause : Nat) (s : State) : (CanOk s.can → CanOk (noteDrop n cause s).can) ∧
    (EvOk s.ev → EvOk (noteDrop n cause s).ev) := by
  refine ⟨fun h => ?_, fun h => ?_⟩
  all_goals
    unfold noteDrop
    dsimp only
    (repeat' split) <;> simp [h]

@[simp] theorem dropCur_bounds (n : Fin 16) (cause : Nat) (s : State) : (CanOk s.can → CanOk (dropCur n cause s).can) ∧ (EvOk
    s.ev → EvOk (dropCur n cause s).ev) := by
  refine ⟨fun h => ?_, fun h => ?_⟩
  all_goals
    unfold dropCur
    dsimp only
    (repeat' split) <;> simp [h]

@[simp] theorem takeLayers_bounds (n : Fin 16) (s : State) : (CanOk s.can → CanOk (takeLayers n s).can) ∧ (EvOk s.ev → EvOk
    (takeLayers n s).ev) := by
  refine ⟨fun h => ?_, fun h => ?_⟩
  all_goals
    unfold takeLayers
    dsimp only
    simp [h]

@[simp] theorem startRunning_bounds (n : Fin 16) (s : State) : (CanOk s.can → CanOk (startRunning n s).can) ∧ (EvOk s.ev →
    EvOk (startRunning n s).ev) := by
  refine ⟨fun h => ?_, fun h => ?_⟩
  all_goals
    unfold startRunning
    (repeat' split) <;> simp [h]

@[simp] theorem soloFrame_bounds (n : Fin 16) (s : State) : (CanOk s.can → CanOk (soloFrame n s).can) ∧ (EvOk s.ev → EvOk
    (soloFrame n s).ev) := by
  refine ⟨fun h => ?_, fun h => ?_⟩
  all_goals
    unfold soloFrame
    (repeat' split) <;> simp [h]

@[simp] theorem surplusFrame_bounds (n : Fin 16) (s : State) : (CanOk s.can → CanOk (surplusFrame n s).can) ∧ (EvOk s.ev →
    EvOk (surplusFrame n s).ev) := by
  refine ⟨fun h => ?_, fun h => ?_⟩
  all_goals
    unfold surplusFrame
    dsimp only
    (repeat' split) <;> simp [h]

@[simp] theorem memberFrame_bounds (n : Fin 16) (g : Fin 4) (t0 : Nat) (s : State) : (CanOk s.can → CanOk (memberFrame n g t0
    s).can) ∧ (EvOk s.ev → EvOk (memberFrame n g t0 s).ev) := by
  refine ⟨fun h => ?_, fun h => ?_⟩
  all_goals
    unfold memberFrame
    dsimp only
    (repeat' split) <;> simp [h]

@[simp] theorem frameStarts_bounds (n : Fin 16) (s : State) : (CanOk s.can → CanOk (frameStarts n s).can) ∧ (EvOk s.ev → EvOk
    (frameStarts n s).ev) := by
  refine ⟨fun h => ?_, fun h => ?_⟩
  all_goals
    unfold frameStarts
    dsimp only
    (repeat' split) <;> simp (maxDischargeDepth := 20) [h]

@[simp] theorem packetError_bounds (port : Fin 4) (n : Option (Fin 16)) (s : State) : (CanOk s.can → CanOk (packetError port n
    s).can) ∧ (EvOk s.ev → EvOk (packetError port n s).ev) := by
  refine ⟨fun h => ?_, fun h => ?_⟩
  all_goals
    unfold packetError
    dsimp only
    (repeat' split) <;> simp [h]

@[simp] theorem unknownPacket_bounds (port : Fin 4) (s : State) : (CanOk s.can → CanOk (unknownPacket port s).can) ∧ (EvOk
    s.ev → EvOk (unknownPacket port s).ev) := by
  refine ⟨fun h => ?_, fun h => ?_⟩
  all_goals
    unfold unknownPacket
    dsimp only
    (repeat' split) <;> simp [h]

@[simp] theorem addLine_bounds (n : Fin 16) (format : Nat) (data : List Byte) (s : State) : (CanOk s.can → CanOk (addLine n
    format data s).can) ∧ (EvOk s.ev → EvOk (addLine n format data s).ev) := by
  refine ⟨fun h => ?_, fun h => ?_⟩
  all_goals
    unfold addLine
    dsimp only
    (repeat' split) <;> simp [h]

@[simp] theorem takePacket_bounds (port : Fin 4) (n : Option (Fin 16)) (dataType : BitVec 6) (data : List Byte) (s : State) :
    (CanOk s.can → CanOk (takePacket port n dataType data s).can) ∧ (EvOk s.ev → EvOk (takePacket port n dataType data s).ev)
    := by
  refine ⟨fun h => ?_, fun h => ?_⟩
  all_goals
    unfold takePacket
    (repeat' split) <;> simp [h]

@[simp] theorem blankingBegins_bounds (n : Fin 16) (s : State) : (CanOk s.can → CanOk (blankingBegins n s).can) ∧ (EvOk s.ev →
    EvOk (blankingBegins n s).ev) := by
  refine ⟨fun h => ?_, fun h => ?_⟩
  all_goals
    unfold blankingBegins
    simp [h]

@[simp] theorem frameEnds_bounds (port : Fin 4) (n : Fin 16) (s : State) : (CanOk s.can → CanOk (frameEnds port n s).can) ∧
    (EvOk s.ev → EvOk (frameEnds port n s).ev) := by
  refine ⟨fun h => ?_, fun h => ?_⟩
  all_goals
    unfold frameEnds
    dsimp only
    (repeat' split) <;> simp [h]

@[simp] theorem portStarted_bounds (before : State) (port : Fin 4) (s : State) : (CanOk s.can → CanOk (portStarted before port
    s).can) ∧ (CacheOk s.cache → CacheOk (portStarted before port s).cache) ∧ (EvOk s.ev → EvOk (portStarted before port
    s).ev) := by
  refine ⟨fun h => ?_, fun h => ?_, fun h => ?_⟩
  all_goals
    unfold portStarted
    (repeat' split) <;> simp +contextual [h]

@[simp] theorem burstFails_bounds (port : Fin 4) (s : State) : (CanOk s.can → CanOk (burstFails port s).can) ∧ (EvOk s.ev →
    EvOk (burstFails port s).ev) := by
  refine ⟨fun h => ?_, fun h => ?_⟩
  all_goals
    unfold burstFails
    dsimp only
    (repeat' split) <;> simp [h]

@[simp] theorem answerWaiting_bounds (p : Session) (index sub : Nat) (a : Answer) (s : State) : (DictOk s.dict → DictOk
    (answerWaiting p index sub a s).dict) ∧ (CanOk s.can → CanOk (answerWaiting p index sub a s).can) := by
  refine ⟨fun h => ?_, fun h => ?_⟩
  all_goals
    unfold answerWaiting
    dsimp only
    (repeat' split) <;> simp [h]

@[simp] theorem storeDone_bounds (k : StoreKind) (s : State) : (CanOk s.can → CanOk (storeDone k s).can) ∧ (KeepOk s.keep →
    KeepOk (storeDone k s).keep) ∧ (EvOk s.ev → EvOk (storeDone k s).ev) := by
  refine ⟨fun h => ?_, fun h => ?_, fun h => ?_⟩
  all_goals
    unfold storeDone
    dsimp only
    simp [h]

@[simp] theorem storeFailed_bounds (s : State) : (CanOk s.can → CanOk (storeFailed s).can) ∧ (EvOk s.ev → EvOk (storeFailed
    s).ev) := by
  refine ⟨fun h => ?_, fun h => ?_⟩
  all_goals
    unfold storeFailed
    simp [h]

@[simp] theorem detect_bounds (c : Channel) (s : State) : (CanOk s.can → CanOk (detect c s).can) ∧ (KeepOk s.keep → KeepOk
    (detect c s).keep) ∧ (EvOk s.ev → EvOk (detect c s).ev) := by
  refine ⟨fun h => ?_, fun h => ?_, fun h => ?_⟩
  all_goals
    unfold detect
    dsimp only
    (repeat' split) <;> simp [h]

@[simp] theorem mismatchRefresh_bounds (c : Channel) (was : Bool) (s : State) : (CanOk s.can → CanOk (mismatchRefresh c was
    s).can) ∧ (EvOk s.ev → EvOk (mismatchRefresh c was s).ev) := by
  refine ⟨fun h => ?_, fun h => ?_⟩
  all_goals
    unfold mismatchRefresh
    simp [h]

@[simp] theorem cycleKeep_bounds (c : Channel) (old : Nat) (s : State) : (KeepOk s.keep → KeepOk (cycleKeep c old s).keep) :=
    by
  intro h
  unfold cycleKeep
  (repeat' split) <;> simp [h]

@[simp] theorem estimate_bounds (c : Channel) (mv : Nat) (ma dt : Int) (s : State) : (CanOk s.can → CanOk (estimate c mv ma dt
    s).can) ∧ (KeepOk s.keep → KeepOk (estimate c mv ma dt s).keep) ∧ (EvOk s.ev → EvOk (estimate c mv ma dt s).ev) := by
  refine ⟨fun h => ?_, fun h => ?_, fun h => ?_⟩
  all_goals
    unfold estimate
    (repeat' split) <;> simp [h]

@[simp] theorem geyserTemp_bounds (c : Channel) (s : State) : (CanOk s.can → CanOk (geyserTemp c s).can) ∧ (ScanOk s.rails →
    ScanOk (geyserTemp c s).rails) ∧ (EvOk s.ev → EvOk (geyserTemp c s).ev) := by
  refine ⟨fun h => ?_, fun h => ?_, fun h => ?_⟩
  all_goals
    unfold geyserTemp
    (repeat' split) <;> simp [h]

@[simp] theorem geyserDone_bounds (c : Channel) (s : State) : (CanOk s.can → CanOk (geyserDone c s).can) ∧ (EvOk s.ev → EvOk
    (geyserDone c s).ev) := by
  refine ⟨fun h => ?_, fun h => ?_⟩
  all_goals
    unfold geyserDone
    (repeat' split) <;> simp [h]

@[simp] theorem endSag_bounds (s : State) : (CanOk s.can → CanOk (endSag s).can) ∧ (CacheOk s.cache → CacheOk (endSag
    s).cache) ∧ (EvOk s.ev → EvOk (endSag s).ev) := by
  refine ⟨fun h => ?_, fun h => ?_, fun h => ?_⟩
  all_goals
    unfold endSag
    simp (maxDischargeDepth := 20) [h]

@[simp] theorem geyserRecharge_bounds (c : Channel) (s : State) : (CanOk s.can → CanOk (geyserRecharge c s).can) ∧ (ScanOk
    s.rails → ScanOk (geyserRecharge c s).rails) ∧ (EvOk s.ev → EvOk (geyserRecharge c s).ev) := by
  refine ⟨fun h => ?_, fun h => ?_, fun h => ?_⟩
  all_goals
    unfold geyserRecharge
    (repeat' split) <;> simp [h]

@[simp] theorem endAwaiting_bounds (s : State) : (CanOk s.can → CanOk (endAwaiting s).can) ∧ (EvOk s.ev → EvOk (endAwaiting
    s).ev) := by
  refine ⟨fun h => ?_, fun h => ?_⟩
  all_goals
    unfold endAwaiting
    (repeat' split) <;> simp [h]

@[simp] theorem discardImpedance_bounds (c : Channel) (s : State) : (CanOk s.can → CanOk (discardImpedance c s).can) ∧ (EvOk
    s.ev → EvOk (discardImpedance c s).ev) := by
  refine ⟨fun h => ?_, fun h => ?_⟩
  all_goals
    unfold discardImpedance
    dsimp only
    (repeat' split) <;> simp [h]

@[simp] theorem takeImpedance_bounds (c : Channel) (i : Nat) (x : Rat) (s : State) : (CanOk s.can → CanOk (takeImpedance c i x
    s).can) ∧ (EvOk s.ev → EvOk (takeImpedance c i x s).ev) := by
  refine ⟨fun h => ?_, fun h => ?_⟩
  all_goals
    unfold takeImpedance
    dsimp only
    simp [h]

@[simp] theorem failProbation_bounds (d : Fin 16) (s : State) : (CanOk s.can → CanOk (failProbation d s).can) ∧ (EvOk s.ev →
    EvOk (failProbation d s).ev) := by
  refine ⟨fun h => ?_, fun h => ?_⟩
  all_goals
    unfold failProbation
    simp [h]

@[simp] theorem passProbation_bounds (d : Fin 16) (s : State) : (CanOk s.can → CanOk (passProbation d s).can) ∧ (EvOk s.ev →
    EvOk (passProbation d s).ev) := by
  refine ⟨fun h => ?_, fun h => ?_⟩
  all_goals
    unfold passProbation
    simp [h]

@[simp] theorem verifyBlock_bounds (d : Fin 16) (b : Nat) (ok : Bool) (sv : State) : (CanOk sv.can → CanOk (verifyBlock d b ok
    sv).can) ∧ (CacheOk sv.cache → CacheOk (verifyBlock d b ok sv).cache) ∧ (EvOk sv.ev → EvOk (verifyBlock d b ok sv).ev) :=
    by
  refine ⟨fun h => ?_, fun h => ?_, fun h => ?_⟩
  all_goals
    unfold verifyBlock
    dsimp only
    (repeat' split) <;> simp [h]

@[simp] theorem startPair_bounds (fn : Fin 16) (qp : Fin 4) (s : State) : (CanOk s.can → CanOk (startPair fn qp s).can) ∧
    (EvOk s.ev → EvOk (startPair fn qp s).ev) := by
  refine ⟨fun h => ?_, fun h => ?_⟩
  all_goals
    unfold startPair
    dsimp only
    (repeat' split) <;> simp [h]

@[simp] theorem doorbell_bounds (fn : Fin 16) (qp : Fin 4) (head : Bool) (v : BitVec 32) (s : State) : (CanOk s.can → CanOk
    (doorbell fn qp head v s).can) ∧ (EvOk s.ev → EvOk (doorbell fn qp head v s).ev) := by
  refine ⟨fun h => ?_, fun h => ?_⟩
  all_goals
    unfold doorbell
    (repeat' split) <;> simp [h]

@[simp] theorem fetchOne_bounds (s : State) (x : (Fin 16 × Fin 4) × FetchResult) : (CanOk s.can → CanOk (fetchOne s x).can) ∧
    (CacheOk s.cache → CacheOk (fetchOne s x).cache) ∧ (EvOk s.ev → EvOk (fetchOne s x).ev) := by
  refine ⟨fun h => ?_, fun h => ?_, fun h => ?_⟩
  all_goals
    unfold fetchOne
    dsimp only
    (repeat' split) <;> simp [h]

@[simp] theorem restartByBoot_bounds (i : Island) (s : State) : (IslOk s.isl → IslOk (restartByBoot i s).isl) ∧ (CanOk s.can →
    CanOk (restartByBoot i s).can) ∧ (CacheOk s.cache → CacheOk (restartByBoot i s).cache) ∧ (ScanOk s.rails → ScanOk
    (restartByBoot i s).rails) ∧ (KeepOk s.keep → KeepOk (restartByBoot i s).keep) ∧ (EvOk s.ev → EvOk (restartByBoot i s).ev)
    := by
  refine ⟨fun h => ?_, fun h => ?_, fun h => ?_, fun h => ?_, fun h => ?_, fun h => ?_⟩
  all_goals
    unfold restartByBoot
    (repeat' split) <;> simp (maxDischargeDepth := 20) [h]

@[simp] theorem afterTimeout_bounds (i : Island) (s : State) : (IslOk s.isl → IslOk (afterTimeout i s).isl) ∧ (DictOk s.dict →
    DictOk (afterTimeout i s).dict) ∧ (CanOk s.can → CanOk (afterTimeout i s).can) ∧ (CacheOk s.cache → CacheOk (afterTimeout
    i s).cache) ∧ (ScanOk s.rails → ScanOk (afterTimeout i s).rails) ∧ (KeepOk s.keep → KeepOk (afterTimeout i s).keep) ∧
    (KeepOk s.keep → EvOk s.ev → EvOk (afterTimeout i s).ev) := by
  refine ⟨fun h => ?_, fun h => ?_, fun h => ?_, fun h => ?_, fun h => ?_, fun h => ?_, fun hk h => ?_⟩
  case refine_7 =>
    unfold afterTimeout
    dsimp only
    (repeat' split) <;> simp (maxDischargeDepth := 20) [h, hk]
  all_goals
    unfold afterTimeout
    dsimp only
    (repeat' split) <;> simp (maxDischargeDepth := 20) [h, restartByBoot_frame]

@[simp] theorem tear_bounds (tornKeep tornStore : Bool) (s : State) : (KeepOk s.keep → KeepOk (tear tornKeep tornStore
    s).keep) := by
  intro h
  unfold tear
  dsimp only
  (repeat' split) <;> simp [h]

@[simp] theorem nextStep_bounds (n : Nat) (s : State) : (IslOk s.isl → IslOk (nextStep n s).isl) ∧ (CanOk s.can → CanOk
    (nextStep n s).can) ∧ (CacheOk s.cache → CacheOk (nextStep n s).cache) ∧ (EvOk s.ev → EvOk (nextStep n s).ev) := by
  refine ⟨fun h => ?_, fun h => ?_, fun h => ?_, fun h => ?_⟩
  all_goals
    unfold nextStep
    simp [h]

@[simp] theorem startSupplies_bounds (s : State) : (IslOk s.isl → IslOk (startSupplies s).isl) ∧ (CanOk s.can → CanOk
    (startSupplies s).can) ∧ (CacheOk s.cache → CacheOk (startSupplies s).cache) ∧ (ScanOk s.rails → ScanOk (startSupplies
    s).rails) ∧ (EvOk s.ev → EvOk (startSupplies s).ev) := by
  refine ⟨fun h => ?_, fun h => ?_, fun h => ?_, fun h => ?_, fun h => ?_⟩
  all_goals
    unfold startSupplies
    simp [h]

@[simp] theorem cancelTrial_bounds (s : State) : (KeepOk s.keep → KeepOk (cancelTrial s).keep) := by
  intro h
  unfold cancelTrial
  (repeat' split) <;> simp [h]

@[simp] theorem noFirmware_bounds (s : State) : (IslOk s.isl → IslOk (noFirmware s).isl) ∧ (DictOk s.dict → DictOk (noFirmware
    s).dict) ∧ (CanOk s.can → CanOk (noFirmware s).can) ∧ (CacheOk s.cache → CacheOk (noFirmware s).cache) ∧ (ScanOk s.rails →
    ScanOk (noFirmware s).rails) ∧ (KeepOk s.keep → KeepOk (noFirmware s).keep) ∧ (KeepOk s.keep → EvOk s.ev → EvOk
    (noFirmware s).ev) := by
  refine ⟨fun h => ?_, fun h => ?_, fun h => ?_, fun h => ?_, fun h => ?_, fun h => ?_, fun hk h => ?_⟩
  case refine_7 =>
    unfold noFirmware
    dsimp only
    (repeat' split) <;> simp [h, hk]
  all_goals
    unfold noFirmware
    dsimp only
    (repeat' split) <;> simp [h]

@[simp] theorem fallBack_bounds (s : State) : (CanOk s.can → CanOk (fallBack s).can) ∧ (KeepOk s.keep → KeepOk (fallBack
    s).keep) ∧ (EvOk s.ev → EvOk (fallBack s).ev) := by
  refine ⟨fun h => ?_, fun h => ?_, fun h => ?_⟩
  all_goals
    unfold fallBack
    dsimp only
    simp [h]

@[simp] theorem firmwareLoaded_bounds (aOk bOk : Bool) (aVersion bVersion : BitVec 32) (aReads bReads : Nat) (s : State) :
    (IslOk s.isl → IslOk (firmwareLoaded aOk bOk aVersion bVersion aReads bReads s).isl) ∧ (DictOk s.dict → DictOk
    (firmwareLoaded aOk bOk aVersion bVersion aReads bReads s).dict) ∧ (CanOk s.can → CanOk (firmwareLoaded aOk bOk aVersion
    bVersion aReads bReads s).can) ∧ (CacheOk s.cache → CacheOk (firmwareLoaded aOk bOk aVersion bVersion aReads bReads
    s).cache) ∧ (ScanOk s.rails → ScanOk (firmwareLoaded aOk bOk aVersion bVersion aReads bReads s).rails) ∧ (KeepOk s.keep →
    KeepOk (firmwareLoaded aOk bOk aVersion bVersion aReads bReads s).keep) ∧ (KeepOk s.keep → EvOk s.ev → EvOk
    (firmwareLoaded aOk bOk aVersion bVersion aReads bReads s).ev) := by
  refine ⟨fun h => ?_, fun h => ?_, fun h => ?_, fun h => ?_, fun h => ?_, fun h => ?_, fun hk h => ?_⟩
  case refine_7 =>
    unfold firmwareLoaded
    dsimp only
    (repeat' split) <;> simp [h, hk]
  all_goals
    unfold firmwareLoaded
    dsimp only
    (repeat' split) <;> simp [h]

@[simp] theorem startTrims_bounds (s : State) : (ScanOk s.rails → ScanOk (startTrims s).rails) := by
  intro h
  unfold startTrims
  simp +contextual [h]

@[simp] theorem defaultsOnly_bounds (s : State) : (IslOk s.isl → IslOk (defaultsOnly s).isl) ∧ (DictOk s.dict → DictOk
    (defaultsOnly s).dict) := by
  refine ⟨fun h => ?_, fun h => ?_⟩
  all_goals
    unfold defaultsOnly
    simp [h]

@[simp] theorem configureCold_bounds (s : State) : (CanOk s.can → CanOk (configureCold s).can) ∧ (CacheOk s.cache → CacheOk
    (configureCold s).cache) ∧ (ScanOk s.rails → ScanOk (configureCold s).rails) ∧ (EvOk s.ev → EvOk (configureCold s).ev) :=
    by
  refine ⟨fun h => ?_, fun h => ?_, fun h => ?_, fun h => ?_⟩
  all_goals
    unfold configureCold
    dsimp only
    simp [h]

@[simp] theorem startMemoryRails_bounds (s : State) : (IslOk s.isl → IslOk (startMemoryRails s).isl) ∧ (CanOk s.can → CanOk
    (startMemoryRails s).can) ∧ (CacheOk s.cache → CacheOk (startMemoryRails s).cache) ∧ (ScanOk s.rails → ScanOk
    (startMemoryRails s).rails) ∧ (EvOk s.ev → EvOk (startMemoryRails s).ev) := by
  refine ⟨fun h => ?_, fun h => ?_, fun h => ?_, fun h => ?_, fun h => ?_⟩
  all_goals
    unfold startMemoryRails
    dsimp only
    (repeat' split) <;> simp [h]

@[simp] theorem freezeHolders_bounds (s : State) : (CanOk s.can → CanOk (freezeHolders s).can) ∧ (CacheOk s.cache → CacheOk
    (freezeHolders s).cache) ∧ (EvOk s.ev → EvOk (freezeHolders s).ev) := by
  refine ⟨fun h => ?_, fun h => ?_, fun h => ?_⟩
  all_goals
    unfold freezeHolders
    simp (maxDischargeDepth := 20) +contextual [h]

@[simp] theorem restartDone_bounds (s : State) : (IslOk s.isl → IslOk (restartDone s).isl) ∧ (DictOk s.dict → DictOk
    (restartDone s).dict) ∧ (CanOk s.can → CanOk (restartDone s).can) ∧ (CacheOk s.cache → CacheOk (restartDone s).cache) ∧
    (ScanOk s.rails → ScanOk (restartDone s).rails) ∧ (KeepOk s.keep → KeepOk (restartDone s).keep) ∧ (KeepOk s.keep → EvOk
    s.ev → EvOk (restartDone s).ev) := by
  refine ⟨fun h => ?_, fun h => ?_, fun h => ?_, fun h => ?_, fun h => ?_, fun h => ?_, fun hk h => ?_⟩
  case refine_7 =>
    unfold restartDone
    dsimp only
    (repeat' split) <;> simp (maxDischargeDepth := 20) +contextual [h, hk]
  all_goals
    unfold restartDone
    dsimp only
    (repeat' split) <;> simp (maxDischargeDepth := 20) +contextual [h]

@[simp] theorem restartFaulted_bounds (s : State) : (IslOk s.isl → IslOk (restartFaulted s).isl) ∧ (CanOk s.can → CanOk
    (restartFaulted s).can) ∧ (CacheOk s.cache → CacheOk (restartFaulted s).cache) ∧ (ScanOk s.rails → ScanOk (restartFaulted
    s).rails) ∧ (KeepOk s.keep → KeepOk (restartFaulted s).keep) ∧ (EvOk s.ev → EvOk (restartFaulted s).ev) := by
  refine ⟨fun h => ?_, fun h => ?_, fun h => ?_, fun h => ?_, fun h => ?_, fun h => ?_⟩
  all_goals
    unfold restartFaulted
    (repeat' split) <;> simp [h]

@[simp] theorem bootDone_bounds (s : State) : (IslOk s.isl → IslOk (bootDone s).isl) ∧ (DictOk s.dict → DictOk (bootDone
    s).dict) ∧ (CanOk s.can → CanOk (bootDone s).can) ∧ (CacheOk s.cache → CacheOk (bootDone s).cache) ∧ (ScanOk s.rails →
    ScanOk (bootDone s).rails) ∧ (KeepOk s.keep → KeepOk (bootDone s).keep) ∧ (KeepOk s.keep → EvOk s.ev → EvOk (bootDone
    s).ev) := by
  refine ⟨fun h => ?_, fun h => ?_, fun h => ?_, fun h => ?_, fun h => ?_, fun h => ?_, fun hk h => ?_⟩
  case refine_7 =>
    unfold bootDone
    dsimp only
    (repeat' split) <;> simp (maxDischargeDepth := 20) +contextual [h, hk, freezeHolders_frame, stretchFree_frame]
  all_goals
    unfold bootDone
    dsimp only
    (repeat' split) <;> simp (maxDischargeDepth := 20) +contextual [h, freezeHolders_frame, restartFaulted_frame, stretchFree_frame]

@[simp] theorem configured_bounds (ok : Bool) (s : State) : (IslOk s.isl → IslOk (configured ok s).isl) ∧ (DictOk s.dict →
    DictOk (configured ok s).dict) ∧ (CanOk s.can → CanOk (configured ok s).can) ∧ (CacheOk s.cache → CacheOk (configured ok
    s).cache) ∧ (ScanOk s.rails → ScanOk (configured ok s).rails) ∧ (KeepOk s.keep → KeepOk (configured ok s).keep) ∧ (KeepOk
    s.keep → EvOk s.ev → EvOk (configured ok s).ev) := by
  refine ⟨fun h => ?_, fun h => ?_, fun h => ?_, fun h => ?_, fun h => ?_, fun h => ?_, fun hk h => ?_⟩
  case refine_7 =>
    unfold configured
    dsimp only
    (repeat' split) <;> simp (maxDischargeDepth := 20) [h, hk, configureCold_frame, defaultsOnly_frame, followConfig_frame]
  all_goals
    unfold configured
    dsimp only
    (repeat' split) <;> simp (maxDischargeDepth := 20) [h, configureCold_frame, defaultsOnly_frame, followConfig_frame, startMemoryRails_frame]

@[simp] theorem memoryRailsUp_bounds (s : State) : (IslOk s.isl → IslOk (memoryRailsUp s).isl) ∧ (CanOk s.can → CanOk
    (memoryRailsUp s).can) ∧ (CacheOk s.cache → CacheOk (memoryRailsUp s).cache) ∧ (ScanOk s.rails → ScanOk (memoryRailsUp
    s).rails) ∧ (EvOk s.ev → EvOk (memoryRailsUp s).ev) := by
  refine ⟨fun h => ?_, fun h => ?_, fun h => ?_, fun h => ?_, fun h => ?_⟩
  all_goals
    unfold memoryRailsUp
    simp [h]

@[simp] theorem dramTrained_bounds (gib : Nat) (s : State) : (IslOk s.isl → IslOk (dramTrained gib s).isl) ∧
    (CanOk s.can → CanOk (dramTrained gib s).can) ∧ (CacheOk s.cache → CacheOk (dramTrained gib s).cache) ∧
    (KeepOk s.keep → EvOk (dramTrained gib s).ev) := by
  unfold dramTrained
  extract_lets _ _ x t
  refine ⟨fun h => ?_, fun h => ?_, fun h => ?_, fun h => ?_⟩
  · simp [t, h]
  · simp [t, h]
  · have ht : CacheOk t.cache := by simp [t, x, h]
    simp [ht]
  · have := keepSeed_within t h
    have fits : (keepSeed t).length ≤ 4096 := by omega
    simp [fits]

@[simp] theorem dieMissing_bounds (d : Fin 16) (s : State) : (CanOk s.can → CanOk (dieMissing d s).can) ∧ (EvOk s.ev → EvOk
    (dieMissing d s).ev) := by
  refine ⟨fun h => ?_, fun h => ?_⟩
  all_goals
    unfold dieMissing
    (repeat' split) <;> simp [h]

@[simp] theorem flashAll_bounds (d : Fin 16) (os : List FlashOp) (s : State) : (IslOk s.isl → IslOk (flashAll d os s).isl) ∧
    (DictOk s.dict → DictOk (flashAll d os s).dict) ∧ (CanOk s.can → CanOk (flashAll d os s).can) ∧ (CacheOk s.cache → CacheOk
    (flashAll d os s).cache) ∧ (ScanOk s.rails → ScanOk (flashAll d os s).rails) ∧ (KeepOk s.keep → KeepOk (flashAll d os
    s).keep) ∧ (EvOk s.ev → EvOk (flashAll d os s).ev) := by
  refine ⟨fun h => ?_, fun h => ?_, fun h => ?_, fun h => ?_, fun h => ?_, fun h => ?_, fun h => ?_⟩
  all_goals
    unfold flashAll
    simp +contextual [h]

@[simp] theorem setUpDie_bounds (d : Fin 16) (interface rate : Nat) (s : State) : (IslOk s.isl → IslOk (setUpDie d interface
    rate s).isl) ∧ (DictOk s.dict → DictOk (setUpDie d interface rate s).dict) ∧ (CanOk s.can → CanOk (setUpDie d interface
    rate s).can) ∧ (CacheOk s.cache → CacheOk (setUpDie d interface rate s).cache) ∧ (ScanOk s.rails → ScanOk (setUpDie d
    interface rate s).rails) ∧ (KeepOk s.keep → KeepOk (setUpDie d interface rate s).keep) ∧ (EvOk s.ev → EvOk (setUpDie d
    interface rate s).ev) := by
  refine ⟨fun h => ?_, fun h => ?_, fun h => ?_, fun h => ?_, fun h => ?_, fun h => ?_, fun h => ?_⟩
  all_goals
    unfold setUpDie
    dsimp only
    (repeat' split) <;> simp [h]

@[simp] theorem probeDie_bounds (interface rate : Nat) (d : Fin 16) (p : DieProbe) (s : State) : (IslOk s.isl → IslOk
    (probeDie interface rate d p s).isl) ∧ (DictOk s.dict → DictOk (probeDie interface rate d p s).dict) ∧ (CanOk s.can →
    CanOk (probeDie interface rate d p s).can) ∧ (CacheOk s.cache → CacheOk (probeDie interface rate d p s).cache) ∧ (ScanOk
    s.rails → ScanOk (probeDie interface rate d p s).rails) ∧ (KeepOk s.keep → KeepOk (probeDie interface rate d p s).keep) ∧
    (EvOk s.ev → EvOk (probeDie interface rate d p s).ev) := by
  refine ⟨fun h => ?_, fun h => ?_, fun h => ?_, fun h => ?_, fun h => ?_, fun h => ?_, fun h => ?_⟩
  all_goals
    unfold probeDie
    (repeat' split) <;> simp (maxDischargeDepth := 20) [h]

@[simp] theorem findImage_bounds (s : State) : (IslOk s.isl → IslOk (findImage s).isl) ∧ (DictOk s.dict → DictOk (findImage
    s).dict) ∧ (CanOk s.can → CanOk (findImage s).can) ∧ (CacheOk s.cache → CacheOk (findImage s).cache) ∧ (ScanOk s.rails →
    ScanOk (findImage s).rails) ∧ (KeepOk s.keep → KeepOk (findImage s).keep) ∧ (EvOk s.ev → EvOk (findImage s).ev) := by
  refine ⟨fun h => ?_, fun h => ?_, fun h => ?_, fun h => ?_, fun h => ?_, fun h => ?_, fun h => ?_⟩
  all_goals
    unfold findImage
    (repeat' split) <;> simp [h]

@[simp] theorem repairKeys_bounds (s : State) : (CanOk s.can → CanOk (repairKeys s).can) ∧ (EvOk s.ev → EvOk (repairKeys
    s).ev) := by
  refine ⟨fun h => ?_, fun h => ?_⟩
  all_goals
    unfold repairKeys
    (repeat' split) <;> simp [h]

@[simp] theorem precisionStep_bounds (s : State) : (CanOk s.can → CanOk (precisionStep s).can) ∧ (EvOk s.ev → EvOk
    (precisionStep s).ev) := by
  refine ⟨fun h => ?_, fun h => ?_⟩
  all_goals
    unfold precisionStep
    simp [h]

@[simp] theorem flashOverruns_bounds (s : State) : (IslOk s.isl → IslOk (flashOverruns s).isl) ∧ (CanOk s.can → CanOk
    (flashOverruns s).can) ∧ (CacheOk s.cache → CacheOk (flashOverruns s).cache) ∧ (ScanOk s.rails → ScanOk (flashOverruns
    s).rails) ∧ (EvOk s.ev → EvOk (flashOverruns s).ev) := by
  refine ⟨fun h => ?_, fun h => ?_, fun h => ?_, fun h => ?_, fun h => ?_⟩
  all_goals
    unfold flashOverruns
    dsimp only
    (repeat' split) <;> simp [h]

@[simp] theorem stepOverruns_bounds (s : State) : (IslOk s.isl → IslOk (stepOverruns s).isl) ∧ (DictOk s.dict → DictOk
    (stepOverruns s).dict) ∧ (CanOk s.can → CanOk (stepOverruns s).can) ∧ (CacheOk s.cache → CacheOk (stepOverruns s).cache) ∧
    (ScanOk s.rails → ScanOk (stepOverruns s).rails) ∧ (KeepOk s.keep → KeepOk (stepOverruns s).keep) ∧ (KeepOk s.keep → EvOk
    s.ev → EvOk (stepOverruns s).ev) := by
  refine ⟨fun h => ?_, fun h => ?_, fun h => ?_, fun h => ?_, fun h => ?_, fun h => ?_, fun hk h => ?_⟩
  case refine_7 =>
    unfold stepOverruns
    (repeat' split) <;> simp [h, hk]
  all_goals
    unfold stepOverruns
    (repeat' split) <;> simp [h]

@[simp] theorem interruptBoot_bounds (s : State) : (IslOk s.isl → IslOk (interruptBoot s).isl) ∧ (DictOk s.dict → DictOk
    (interruptBoot s).dict) ∧ (CanOk s.can → CanOk (interruptBoot s).can) ∧ (CacheOk s.cache → CacheOk (interruptBoot
    s).cache) ∧ (ScanOk s.rails → ScanOk (interruptBoot s).rails) ∧ (KeepOk s.keep → KeepOk (interruptBoot s).keep) ∧ (KeepOk
    s.keep → EvOk s.ev → EvOk (interruptBoot s).ev) := by
  refine ⟨fun h => ?_, fun h => ?_, fun h => ?_, fun h => ?_, fun h => ?_, fun h => ?_, fun hk h => ?_⟩
  case refine_7 =>
    unfold interruptBoot
    dsimp only
    (repeat' split) <;> simp [h, hk]
  all_goals
    unfold interruptBoot
    dsimp only
    (repeat' split) <;> simp [h]

@[simp] theorem inputFails_bounds (s : State) : (IslOk s.isl → IslOk (inputFails s).isl) ∧ (DictOk s.dict → DictOk (inputFails
    s).dict) ∧ (CanOk s.can → CanOk (inputFails s).can) ∧ (CacheOk s.cache → CacheOk (inputFails s).cache) ∧ (ScanOk s.rails →
    ScanOk (inputFails s).rails) ∧ (KeepOk s.keep → KeepOk (inputFails s).keep) ∧ (KeepOk s.keep → EvOk s.ev → EvOk
    (inputFails s).ev) := by
  refine ⟨fun h => ?_, fun h => ?_, fun h => ?_, fun h => ?_, fun h => ?_, fun h => ?_, fun hk h => ?_⟩
  case refine_7 =>
    unfold inputFails
    (repeat' split) <;> simp [h, hk]
  all_goals
    unfold inputFails
    (repeat' split) <;> simp [h, enterWarn_frame]

@[simp] theorem learnEByte_bounds (s : State) : (CanOk s.can → CanOk (learnEByte s).can) ∧ (EvOk s.ev → EvOk (learnEByte
    s).ev) := by
  refine ⟨fun h => ?_, fun h => ?_⟩
  all_goals
    unfold learnEByte
    dsimp only
    (repeat' split) <;> simp [h]

@[simp] theorem commitDone_bounds (s : State) : (CanOk s.can → CanOk (commitDone s).can) ∧ (CacheOk s.cache → CacheOk
    (commitDone s).cache) ∧ (KeepOk s.keep → KeepOk (commitDone s).keep) ∧ (EvOk s.ev → EvOk (commitDone s).ev) := by
  refine ⟨fun h => ?_, fun h => ?_, fun h => ?_, fun h => ?_⟩
  all_goals
    unfold commitDone
    dsimp only
    simp (maxDischargeDepth := 20) [h]

@[simp] theorem chargeAgain_bounds (before s : State) : (CanOk s.can → CanOk (chargeAgain before s).can) ∧ (CacheOk s.cache →
    CacheOk (chargeAgain before s).cache) ∧ (EvOk s.ev → EvOk (chargeAgain before s).ev) := by
  refine ⟨fun h => ?_, fun h => ?_, fun h => ?_⟩
  all_goals
    unfold chargeAgain
    (repeat' split) <;> simp [h]

@[simp] theorem sagOver_bounds (s : State) : (CanOk s.can → CanOk (sagOver s).can) ∧ (EvOk s.ev → EvOk (sagOver s).ev) := by
  refine ⟨fun h => ?_, fun h => ?_⟩
  all_goals
    unfold sagOver
    (repeat' split) <;> simp [h]

@[simp] theorem powerReturns_bounds (s : State) : (IslOk s.isl → IslOk (powerReturns s).isl) ∧ (DictOk s.dict → DictOk
    (powerReturns s).dict) ∧ (CanOk s.can → CanOk (powerReturns s).can) ∧ (CacheOk s.cache → CacheOk (powerReturns s).cache) ∧
    (ScanOk s.rails → ScanOk (powerReturns s).rails) ∧ (KeepOk s.keep → KeepOk (powerReturns s).keep) ∧ (EvOk s.ev → EvOk
    (powerReturns s).ev) := by
  refine ⟨fun h => ?_, fun h => ?_, fun h => ?_, fun h => ?_, fun h => ?_, fun h => ?_, fun h => ?_⟩
  all_goals
    unfold powerReturns
    (repeat' split) <;> simp [h, chargeAgain_frame, resumeServe_frame]

@[simp] theorem advanceUp_bounds (s : State) : (CanOk s.can → CanOk (advanceUp s).can) ∧ (ScanOk s.rails → ScanOk (advanceUp
    s).rails) ∧ (EvOk s.ev → EvOk (advanceUp s).ev) := by
  refine ⟨fun h => ?_, fun h => ?_, fun h => ?_⟩
  all_goals
    unfold advanceUp
    (repeat' split) <;> simp [h]

@[simp] theorem goodRail_bounds (r : Fin 12) (s : State) : (IslOk s.isl → IslOk (goodRail r s).isl) ∧ (CanOk s.can → CanOk
    (goodRail r s).can) ∧ (CacheOk s.cache → CacheOk (goodRail r s).cache) ∧ (ScanOk s.rails → ScanOk (goodRail r s).rails) ∧
    (EvOk s.ev → EvOk (goodRail r s).ev) := by
  refine ⟨fun h => ?_, fun h => ?_, fun h => ?_, fun h => ?_, fun h => ?_⟩
  all_goals
    unfold goodRail
    dsimp only
    (repeat' split) <;> simp (maxDischargeDepth := 20) [h]

@[simp] theorem afterPull_bounds (s : State) : (IslOk s.isl → IslOk (afterPull s).isl) ∧ (CanOk s.can → CanOk (afterPull
    s).can) ∧ (CacheOk s.cache → CacheOk (afterPull s).cache) ∧ (ScanOk s.rails → ScanOk (afterPull s).rails) ∧ (EvOk s.ev →
    EvOk (afterPull s).ev) := by
  refine ⟨fun h => ?_, fun h => ?_, fun h => ?_, fun h => ?_, fun h => ?_⟩
  all_goals
    unfold afterPull
    simp [h]

@[simp] theorem rampFails_bounds (kind : Nat) (r : Fin 12) (lag : Nat) (s : State) : (IslOk s.isl → IslOk (rampFails kind r
    lag s).isl) ∧ (DictOk s.dict → DictOk (rampFails kind r lag s).dict) ∧ (CanOk s.can → CanOk (rampFails kind r lag s).can)
    ∧ (CacheOk s.cache → CacheOk (rampFails kind r lag s).cache) ∧ (ScanOk s.rails → ScanOk (rampFails kind r lag s).rails) ∧
    (KeepOk s.keep → KeepOk (rampFails kind r lag s).keep) ∧ (KeepOk s.keep → EvOk s.ev → EvOk (rampFails kind r lag s).ev) :=
    by
  refine ⟨fun h => ?_, fun h => ?_, fun h => ?_, fun h => ?_, fun h => ?_, fun h => ?_, fun hk h => ?_⟩
  case refine_7 =>
    unfold rampFails
    dsimp only
    (repeat' split) <;> simp (maxDischargeDepth := 20) [h, hk, afterPull_frame, latchRail_frame, pullRail_frame, tremorFault_frame]
  all_goals
    unfold rampFails
    dsimp only
    (repeat' split) <;> simp (maxDischargeDepth := 20) [h, afterPull_frame, latchRail_frame, pullRail_frame, tremorFault_frame]

@[simp] theorem sourceFails_bounds (kind : Nat) (g : Fin 8) (lag : Nat) (s : State) : (IslOk s.isl → IslOk (sourceFails kind g
    lag s).isl) ∧ (DictOk s.dict → DictOk (sourceFails kind g lag s).dict) ∧ (CanOk s.can → CanOk (sourceFails kind g lag
    s).can) ∧ (CacheOk s.cache → CacheOk (sourceFails kind g lag s).cache) ∧ (ScanOk s.rails → ScanOk (sourceFails kind g lag
    s).rails) ∧ (KeepOk s.keep → KeepOk (sourceFails kind g lag s).keep) ∧ (KeepOk s.keep → EvOk s.ev → EvOk (sourceFails kind
    g lag s).ev) := by
  refine ⟨fun h => ?_, fun h => ?_, fun h => ?_, fun h => ?_, fun h => ?_, fun h => ?_, fun hk h => ?_⟩
  case refine_7 =>
    unfold sourceFails
    dsimp only
    (repeat' split) <;> simp (maxDischargeDepth := 20) [h, hk]
  all_goals
    unfold sourceFails
    dsimp only
    (repeat' split) <;> simp (maxDischargeDepth := 20) [h]

@[simp] theorem gateRampFails_bounds (kind : Nat) (g : Fin 8) (lag : Nat) (s : State) : (IslOk s.isl → IslOk (gateRampFails
    kind g lag s).isl) ∧ (DictOk s.dict → DictOk (gateRampFails kind g lag s).dict) ∧ (CanOk s.can → CanOk (gateRampFails kind
    g lag s).can) ∧ (CacheOk s.cache → CacheOk (gateRampFails kind g lag s).cache) ∧ (ScanOk s.rails → ScanOk (gateRampFails
    kind g lag s).rails) ∧ (KeepOk s.keep → KeepOk (gateRampFails kind g lag s).keep) ∧ (KeepOk s.keep → EvOk s.ev → EvOk
    (gateRampFails kind g lag s).ev) := by
  refine ⟨fun h => ?_, fun h => ?_, fun h => ?_, fun h => ?_, fun h => ?_, fun h => ?_, fun hk h => ?_⟩
  case refine_7 =>
    unfold gateRampFails
    (repeat' split) <;> simp [h, hk]
  all_goals
    unfold gateRampFails
    (repeat' split) <;> simp [h]

@[simp] theorem memoryRailLost_bounds (r : Fin 12) (s : State) : (CanOk s.can → CanOk (memoryRailLost r s).can) ∧ (EvOk s.ev →
    EvOk (memoryRailLost r s).ev) := by
  refine ⟨fun h => ?_, fun h => ?_⟩
  all_goals
    unfold memoryRailLost
    (repeat' split) <;> simp [h]

@[simp] theorem railFatal_bounds (s : State) : (IslOk s.isl → IslOk (railFatal s).isl) ∧ (DictOk s.dict → DictOk (railFatal
    s).dict) ∧ (CanOk s.can → CanOk (railFatal s).can) ∧ (CacheOk s.cache → CacheOk (railFatal s).cache) ∧ (ScanOk s.rails →
    ScanOk (railFatal s).rails) ∧ (KeepOk s.keep → KeepOk (railFatal s).keep) ∧ (KeepOk s.keep → EvOk s.ev → EvOk (railFatal
    s).ev) := by
  refine ⟨fun h => ?_, fun h => ?_, fun h => ?_, fun h => ?_, fun h => ?_, fun h => ?_, fun hk h => ?_⟩
  case refine_7 =>
    unfold railFatal
    (repeat' split) <;> simp [h, hk]
  all_goals
    unfold railFatal
    (repeat' split) <;> simp [h]

@[simp] theorem railTrips_bounds (kind : Nat) (r : Fin 12) (mv : Nat) (s : State) : (IslOk s.isl → IslOk (railTrips kind r mv
    s).isl) ∧ (DictOk s.dict → DictOk (railTrips kind r mv s).dict) ∧ (CanOk s.can → CanOk (railTrips kind r mv s).can) ∧
    (CacheOk s.cache → CacheOk (railTrips kind r mv s).cache) ∧ (ScanOk s.rails → ScanOk (railTrips kind r mv s).rails) ∧
    (KeepOk s.keep → KeepOk (railTrips kind r mv s).keep) ∧ (KeepOk s.keep → EvOk s.ev → EvOk (railTrips kind r mv s).ev) :=
    by
  refine ⟨fun h => ?_, fun h => ?_, fun h => ?_, fun h => ?_, fun h => ?_, fun h => ?_, fun hk h => ?_⟩
  case refine_7 =>
    unfold railTrips
    dsimp only
    (repeat' split) <;> simp (maxDischargeDepth := 20) [h, hk, afterPull_frame, latchRail_frame, memoryRailLost_frame, pullRail_frame]
  all_goals
    unfold railTrips
    dsimp only
    (repeat' split) <;> simp (maxDischargeDepth := 20) [h, afterPull_frame, latchRail_frame, memoryRailLost_frame, pullRail_frame]

@[simp] theorem notCompared_bounds (r : Fin 12) (s : State) : (IslOk s.isl → IslOk (notCompared r s).isl) ∧ (DictOk s.dict →
    DictOk (notCompared r s).dict) ∧ (CanOk s.can → CanOk (notCompared r s).can) ∧ (CacheOk s.cache → CacheOk (notCompared r
    s).cache) ∧ (ScanOk s.rails → ScanOk (notCompared r s).rails) ∧ (KeepOk s.keep → KeepOk (notCompared r s).keep) ∧ (EvOk
    s.ev → EvOk (notCompared r s).ev) := by
  refine ⟨fun h => ?_, fun h => ?_, fun h => ?_, fun h => ?_, fun h => ?_, fun h => ?_, fun h => ?_⟩
  all_goals
    unfold notCompared
    (repeat' split) <;> simp [h]

@[simp] theorem scanRail_bounds (r : Fin 12) (mv : Nat) (s : State) : (IslOk s.isl → IslOk (scanRail r mv s).isl) ∧ (DictOk
    s.dict → DictOk (scanRail r mv s).dict) ∧ (CanOk s.can → CanOk (scanRail r mv s).can) ∧ (CacheOk s.cache → CacheOk
    (scanRail r mv s).cache) ∧ (ScanOk s.rails → ScanOk (scanRail r mv s).rails) ∧ (KeepOk s.keep → KeepOk (scanRail r mv
    s).keep) ∧ (KeepOk s.keep → EvOk s.ev → EvOk (scanRail r mv s).ev) := by
  refine ⟨fun h => ?_, fun h => ?_, fun h => ?_, fun h => ?_, fun h => ?_, fun h => ?_, fun hk h => ?_⟩
  case refine_7 =>
    unfold scanRail
    dsimp only
    (repeat' split) <;> simp (maxDischargeDepth := 20) [h, hk, State.countScan_frame]
  all_goals
    unfold scanRail
    dsimp only
    (repeat' split) <;> simp (maxDischargeDepth := 20) [h, State.countScan_frame, goodRail_frame]

@[simp] theorem scanCell_bounds (k : Fin 6) (mv : Nat) (s : State) : (CanOk s.can → CanOk (scanCell k mv s).can) ∧ (EvOk s.ev
    → EvOk (scanCell k mv s).ev) := by
  refine ⟨fun h => ?_, fun h => ?_⟩
  all_goals
    unfold scanCell
    dsimp only
    simp [h]

@[simp] theorem scanDie_bounds (t : Int) (s : State) : (IslOk s.isl → IslOk (scanDie t s).isl) ∧ (DictOk s.dict → DictOk
    (scanDie t s).dict) ∧ (CanOk s.can → CanOk (scanDie t s).can) ∧ (CacheOk s.cache → CacheOk (scanDie t s).cache) ∧ (ScanOk
    s.rails → ScanOk (scanDie t s).rails) ∧ (KeepOk s.keep → KeepOk (scanDie t s).keep) ∧ (KeepOk s.keep → EvOk s.ev → EvOk
    (scanDie t s).ev) := by
  refine ⟨fun h => ?_, fun h => ?_, fun h => ?_, fun h => ?_, fun h => ?_, fun h => ?_, fun hk h => ?_⟩
  case refine_7 =>
    unfold scanDie
    dsimp only
    (repeat' split) <;> simp (maxDischargeDepth := 20) [h, hk]
  all_goals
    unfold scanDie
    dsimp only
    (repeat' split) <;> simp (maxDischargeDepth := 20) [h]

@[simp] theorem scanVkeep_bounds (mv : Nat) (s : State) : (CanOk s.can → CanOk (scanVkeep mv s).can) ∧ (ScanOk s.rails →
    ScanOk (scanVkeep mv s).rails) ∧ (EvOk s.ev → EvOk (scanVkeep mv s).ev) := by
  refine ⟨fun h => ?_, fun h => ?_, fun h => ?_⟩
  all_goals
    unfold scanVkeep
    dsimp only
    simp [h]

@[simp] theorem downStepDone_bounds (s : State) : (IslOk s.isl → IslOk (downStepDone s).isl) ∧ (DictOk s.dict → DictOk
    (downStepDone s).dict) ∧ (CanOk s.can → CanOk (downStepDone s).can) ∧ (CacheOk s.cache → CacheOk (downStepDone s).cache) ∧
    (ScanOk s.rails → ScanOk (downStepDone s).rails) ∧ (KeepOk s.keep → KeepOk (downStepDone s).keep) ∧ (KeepOk s.keep → EvOk
    s.ev → EvOk (downStepDone s).ev) := by
  refine ⟨fun h => ?_, fun h => ?_, fun h => ?_, fun h => ?_, fun h => ?_, fun h => ?_, fun hk h => ?_⟩
  case refine_7 =>
    unfold downStepDone
    dsimp only
    (repeat' split) <;> simp (maxDischargeDepth := 20) [h, hk, clearFalling_frame, downFrom_frame]
  all_goals
    unfold downStepDone
    dsimp only
    (repeat' split) <;> simp (maxDischargeDepth := 20) [h, clearFalling_frame, downFrom_frame]

@[simp] theorem enterIdleUp_bounds (s : State) : (CanOk s.can → CanOk (enterIdleUp s).can) ∧ (EvOk s.ev → EvOk (enterIdleUp
    s).ev) := by
  refine ⟨fun h => ?_, fun h => ?_⟩
  all_goals
    unfold enterIdleUp
    dsimp only
    (repeat' split) <;> simp [h]

@[simp] theorem restAfterWalk_bounds (c : DownCause) (s : State) : (IslOk s.isl → IslOk (restAfterWalk c s).isl) ∧ (DictOk
    s.dict → DictOk (restAfterWalk c s).dict) ∧ (CanOk s.can → CanOk (restAfterWalk c s).can) ∧ (CacheOk s.cache → CacheOk
    (restAfterWalk c s).cache) ∧ (ScanOk s.rails → ScanOk (restAfterWalk c s).rails) ∧ (KeepOk s.keep → KeepOk (restAfterWalk
    c s).keep) ∧ (KeepOk s.keep → EvOk s.ev → EvOk (restAfterWalk c s).ev) := by
  refine ⟨fun h => ?_, fun h => ?_, fun h => ?_, fun h => ?_, fun h => ?_, fun h => ?_, fun hk h => ?_⟩
  case refine_7 =>
    unfold restAfterWalk
    (repeat' split) <;> simp [h, hk]
  all_goals
    unfold restAfterWalk
    (repeat' split) <;> simp [h]

@[simp] theorem enterIdleDown_bounds (s : State) : (IslOk s.isl → IslOk (enterIdleDown s).isl) ∧ (DictOk s.dict → DictOk
    (enterIdleDown s).dict) ∧ (CanOk s.can → CanOk (enterIdleDown s).can) ∧ (CacheOk s.cache → CacheOk (enterIdleDown
    s).cache) ∧ (ScanOk s.rails → ScanOk (enterIdleDown s).rails) ∧ (KeepOk s.keep → KeepOk (enterIdleDown s).keep) ∧ (KeepOk
    s.keep → EvOk s.ev → EvOk (enterIdleDown s).ev) := by
  refine ⟨fun h => ?_, fun h => ?_, fun h => ?_, fun h => ?_, fun h => ?_, fun h => ?_, fun hk h => ?_⟩
  case refine_7 =>
    unfold enterIdleDown
    dsimp only
    simp (maxDischargeDepth := 20) [h, hk]
  all_goals
    unfold enterIdleDown
    dsimp only
    simp (maxDischargeDepth := 20) [h]

@[simp] theorem beginDown_bounds (s : State) : (CanOk s.can → CanOk (beginDown s).can) ∧ (ScanOk s.rails → ScanOk (beginDown
    s).rails) ∧ (EvOk s.ev → EvOk (beginDown s).ev) := by
  refine ⟨fun h => ?_, fun h => ?_, fun h => ?_⟩
  all_goals
    unfold beginDown
    dsimp only
    (repeat' split) <;> simp [h]

@[simp] theorem advance_bounds (s : State) : (IslOk s.isl → IslOk (advance s).isl) ∧ (DictOk s.dict → DictOk (advance s).dict)
    ∧ (CanOk s.can → CanOk (advance s).can) ∧ (CacheOk s.cache → CacheOk (advance s).cache) ∧ (ScanOk s.rails → ScanOk
    (advance s).rails) ∧ (KeepOk s.keep → KeepOk (advance s).keep) ∧ (KeepOk s.keep → EvOk s.ev → EvOk (advance s).ev) := by
  refine ⟨fun h => ?_, fun h => ?_, fun h => ?_, fun h => ?_, fun h => ?_, fun h => ?_, fun hk h => ?_⟩
  case refine_7 =>
    unfold advance
    (repeat' split) <;> simp [h, hk, enterUp_frame]
  all_goals
    unfold advance
    (repeat' split) <;> simp [h, beginDown_frame, enterIdleUp_frame, enterUp_frame]

@[simp] theorem lineFault_bounds (kind ev : Nat) (s : State) : (IslOk s.isl → IslOk (lineFault kind ev s).isl) ∧ (DictOk
    s.dict → DictOk (lineFault kind ev s).dict) ∧ (CanOk s.can → CanOk (lineFault kind ev s).can) ∧ (CacheOk s.cache → CacheOk
    (lineFault kind ev s).cache) ∧ (ScanOk s.rails → ScanOk (lineFault kind ev s).rails) ∧ (KeepOk s.keep → KeepOk (lineFault
    kind ev s).keep) ∧ (KeepOk s.keep → EvOk s.ev → EvOk (lineFault kind ev s).ev) := by
  refine ⟨fun h => ?_, fun h => ?_, fun h => ?_, fun h => ?_, fun h => ?_, fun h => ?_, fun hk h => ?_⟩
  case refine_7 =>
    unfold lineFault
    dsimp only
    (repeat' split) <;> simp (maxDischargeDepth := 20) [h, hk, tremorFault_frame]
  all_goals
    unfold lineFault
    dsimp only
    (repeat' split) <;> simp (maxDischargeDepth := 20) [h, tremorFault_frame]

@[simp] theorem startCoding_bounds (n : Fin 16) (f : Frame) (qp : Nat) (s : State) : (IslOk s.isl → IslOk (startCoding n f qp
    s).isl) ∧ (DictOk s.dict → DictOk (startCoding n f qp s).dict) ∧ (CanOk s.can → CanOk (startCoding n f qp s).can) ∧
    (CacheOk s.cache → CacheOk (startCoding n f qp s).cache) ∧ (ScanOk s.rails → ScanOk (startCoding n f qp s).rails) ∧
    (KeepOk s.keep → KeepOk (startCoding n f qp s).keep) ∧ (EvOk s.ev → EvOk (startCoding n f qp s).ev) := by
  refine ⟨fun h => ?_, fun h => ?_, fun h => ?_, fun h => ?_, fun h => ?_, fun h => ?_, fun h => ?_⟩
  all_goals
    unfold startCoding
    dsimp only
    (repeat' split) <;> simp [h]

@[simp] theorem endCoding_bounds (n : Fin 16) (f : Frame) (r : CodeResult) (s : State) : (CanOk s.can → CanOk (endCoding n f r
    s).can) ∧ (EvOk s.ev → EvOk (endCoding n f r s).ev) := by
  refine ⟨fun h => ?_, fun h => ?_⟩
  all_goals
    unfold endCoding
    dsimp only
    (repeat' split) <;> simp [h]

@[simp] theorem fillRing_bounds (fill : Nat) (s : State) : (CanOk s.can → CanOk (fillRing fill s).can) ∧ (EvOk s.ev → EvOk
    (fillRing fill s).ev) := by
  refine ⟨fun h => ?_, fun h => ?_⟩
  all_goals
    unfold fillRing
    dsimp only
    simp [h]

@[simp] theorem rowDone_bounds (n : Fin 16) (f : Frame) (r : CodeResult) (s : State) : (CanOk s.can → CanOk (rowDone n f r
    s).can) ∧ (EvOk s.ev → EvOk (rowDone n f r s).ev) := by
  refine ⟨fun h => ?_, fun h => ?_⟩
  all_goals
    unfold rowDone
    dsimp only
    (repeat' split) <;> simp [h]

@[simp] theorem liveOverflow_bounds (n : Fin 16) (s : State) : (CanOk s.can → CanOk (liveOverflow n s).can) ∧ (EvOk s.ev →
    EvOk (liveOverflow n s).ev) := by
  refine ⟨fun h => ?_, fun h => ?_⟩
  all_goals
    unfold liveOverflow
    dsimp only
    (repeat' split) <;> simp [h]

@[simp] theorem putSlice_bounds (n : Fin 16) (c : Coded) (nal : List Byte) (last : Bool) (consumer : Nat) (s : State) : (CanOk
    s.can → CanOk (putSlice n c nal last consumer s).can) ∧ (EvOk s.ev → EvOk (putSlice n c nal last consumer s).ev) := by
  refine ⟨fun h => ?_, fun h => ?_⟩
  all_goals
    unfold putSlice
    dsimp only
    (repeat' split) <;> simp [h]

@[simp] theorem recordFrame_bounds (n : Fin 16) (c : Coded) (nal : List Byte) (s : State) : (CanOk s.can → CanOk (recordFrame
    n c nal s).can) ∧ (CacheOk s.cache → CacheOk (recordFrame n c nal s).cache) ∧ (EvOk s.ev → EvOk (recordFrame n c nal
    s).ev) := by
  refine ⟨fun h => ?_, fun h => ?_, fun h => ?_⟩
  all_goals
    unfold recordFrame
    dsimp only
    (repeat' split) <;> simp (maxDischargeDepth := 20) [h]

@[simp] theorem lastPicture_bounds (d : Fin 2) (last : Bool) (s : State) : (CanOk s.can → CanOk (lastPicture d last s).can) ∧
    (EvOk s.ev → EvOk (lastPicture d last s).ev) := by
  refine ⟨fun h => ?_, fun h => ?_⟩
  all_goals
    unfold lastPicture
    (repeat' split) <;> simp [h]

@[simp] theorem stopSession_bounds (d : Fin 2) (code : Nat) (s : State) : (CanOk s.can → CanOk (stopSession d code s).can) ∧
    (EvOk s.ev → EvOk (stopSession d code s).ev) := by
  refine ⟨fun h => ?_, fun h => ?_⟩
  all_goals
    unfold stopSession
    simp [h]

@[simp] theorem State.withFetchWord_bounds (s : State) (nbits w : Nat) : (IslOk s.isl → IslOk (State.withFetchWord s nbits
    w).isl) ∧ (DictOk s.dict → DictOk (State.withFetchWord s nbits w).dict) ∧ (CanOk s.can → CanOk (State.withFetchWord s
    nbits w).can) ∧ (CacheOk s.cache → CacheOk (State.withFetchWord s nbits w).cache) ∧ (ScanOk s.rails → ScanOk
    (State.withFetchWord s nbits w).rails) ∧ (KeepOk s.keep → KeepOk (State.withFetchWord s nbits w).keep) ∧ (EvOk s.ev → EvOk
    (State.withFetchWord s nbits w).ev) := by
  refine ⟨fun h => ?_, fun h => ?_, fun h => ?_, fun h => ?_, fun h => ?_, fun h => ?_, fun h => ?_⟩
  all_goals
    unfold State.withFetchWord
    (repeat' split) <;> simp [h]

end Sys2Proof.Machine
end

section
/-! What a write, a request and a command do: they keep the invariant and the queue (`Sound`). -/

namespace Sys2Proof.Machine

/-! ### What a command may do: it keeps the invariant and the queue -/

/-- From `s` to `t` the invariant holds on, and what waits in the queue stays. -/
structure Sound (s t : State) : Prop where
  inv : Inv s → Inv t
  queue : t.pending = s.pending

theorem Sound.refl (s : State) : Sound s s := ⟨id, rfl⟩

theorem Sound.trans {s t u : State} (h : Sound s t) (g : Sound t u) : Sound s u := ⟨g.inv ∘ h.inv, g.queue.trans h.queue⟩

/-- Part by part. -/
theorem Sound.of {s t : State} (inv : CacheOk s.cache → DictOk s.dict → IslOk s.isl → EvOk s.ev → CanOk s.can → KeepOk s.keep →
    ScanOk s.rails → CacheOk t.cache ∧ DictOk t.dict ∧ IslOk t.isl ∧ EvOk t.ev ∧ CanOk t.can ∧ KeepOk t.keep ∧ ScanOk t.rails)
    (queue : t.pending = s.pending) : Sound s t := by
  refine ⟨fun h => ?_, queue⟩
  obtain ⟨cache, dict, isl, ev, can, keep, rails⟩ := (inv_iff s).1 h
  exact (inv_iff t).2 (inv cache dict isl ev can keep rails)

theorem Sound.ite {c : Prop} [Decidable c] {s t u : State} (h : Sound s t) (g : Sound s u) : Sound s (if c then t else u) := by
  split <;> assumption

theorem Sound.foldl {α : Type} (f : State → α → State) (each : ∀ t a, Sound t (f t a)) (l : List α) (s : State) :
    Sound s (l.foldl f s) := by
  induction l generalizing s with
  | nil => exact .refl s
  | cons a l ih => exact (each s a).trans (ih _)
/-! ### What an action does -/

theorem beforeHold_sound (index sub : Nat) (s : State) : Sound s (beforeHold index sub s) := by
  unfold beforeHold
  split
  · refine .of (fun cache dict isl ev can keep rails => ?_) (by simp [anchorCharge_frame])
    simp [cache, dict, isl, ev, can, keep, rails, anchorCharge_frame]
  · split
    · generalize Fin.ofNat 4 (index - 0x2720) = c
      refine .of (fun cache dict isl ev can keep rails => ?_) (by simp [anchorTrim_frame])
      simp [cache, dict, isl, ev, can, keep, rails, anchorTrim_frame]
    · exact .refl s

theorem globalAction_sound {p : Session} {index sub v : Nat} {s : State} {r : State × Answer}
    (e : globalAction p index sub v s = some r) : Sound s r.1 := by
  unfold globalAction at e
  refine .of (fun cache dict isl ev can keep rails => ?_) ?_
  · split at e <;> cases e
    all_goals simp [cache, dict, isl, ev, can, keep, rails, clearChannel_frame, done_frame,
      emptyLog_frame, reqGeyser_frame, reqRelease_frame, resetEByte_frame, restoreDefaults_frame, setEncryption_frame,
      setExpert_frame, setLock_frame, setWall_frame, startSanitize_frame, startStore_frame]
  · split at e <;> cases e
    all_goals simp [clearChannel_frame, done_frame, emptyLog_frame, reqGeyser_frame, reqRelease_frame,
      resetEByte_frame, restoreDefaults_frame, setEncryption_frame, setExpert_frame, setLock_frame, setWall_frame,
      startSanitize_frame, startStore_frame]

theorem rangedAction_sound {answers : Bool} {index sub v : Nat} {s : State} {r : State × Answer}
    (e : rangedAction answers index sub v s = some r) : Sound s r.1 := by
  unfold rangedAction at e
  generalize Fin.ofNat 12 (index - 0x2610) = rail, Fin.ofNat 4 (index - 0x2730) = reset, Fin.ofNat 16 (index - 0x2910) = die,
    Fin.ofNat 2 (index - 0x2A40) = session, Fin.ofNat 28 (index - 0x5000) = bank at e
  dsimp only at e
  refine .of (fun cache dict isl ev can keep rails => ?_) ?_
  · (repeat' split at e) <;> cases e
    all_goals simp [cache, dict, isl, ev, can, keep, rails, acknowledge_frame, closeDecode_frame,
      done_frame, endDecode_frame, openDecode_frame, pulseReset_frame, retireCommand_frame, returnCommand_frame, setMask_frame,
      switchOff_frame, switchOn_frame]
  · (repeat' split at e) <;> cases e
    all_goals simp [acknowledge_frame, closeDecode_frame, done_frame, endDecode_frame, openDecode_frame,
      pulseReset_frame, retireCommand_frame, returnCommand_frame, setMask_frame, switchOff_frame, switchOn_frame]

theorem blockAction_sound {index sub v : Nat} {s : State} {r : State × Answer} (e : blockAction index sub v s = some r) :
    Sound s r.1 := by
  unfold blockAction at e
  generalize Fin.ofNat 16 (index / 256) = n at e
  dsimp only at e
  refine .of (fun cache dict isl ev can keep rails => ?_) ?_
  · (repeat' split at e) <;> cases e
    all_goals simp [cache, dict, isl, ev, can, keep, rails, commitExposure_frame, directCci_frame,
      done_frame, forceIdrNow_frame, setConsumer_frame, setRing_frame]
  · (repeat' split at e) <;> cases e
    all_goals simp [commitExposure_frame, directCci_frame, done_frame, forceIdrNow_frame,
      setConsumer_frame, setRing_frame]

theorem actionOf_sound {p : Session} {answers : Bool} {index sub v : Nat} {s : State} {r : State × Answer}
    (e : actionOf p answers index sub v s = some r) : Sound s r.1 := by
  unfold actionOf at e
  split at e
  · cases e
    exact globalAction_sound ‹_›
  · split at e
    · cases e
      exact rangedAction_sound ‹_›
    · exact blockAction_sound e

/-! ### What a write does -/

theorem outageEffRefresh_sound (s : State) : Sound s (outageEffRefresh s) := by
  refine .of (fun cache dict isl ev can keep rails => ?_) ?_
  · simp [cache, dict, isl, ev, can, keep, rails]
  · simp

theorem policyRefresh_sound (s : State) : Sound s (policyRefresh s) := by
  refine .of (fun cache dict isl ev can keep rails => ?_) ?_
  · simp [cache, dict, isl, ev, can, keep, rails]
  · simp

theorem chargesRefresh_sound (s : State) : Sound s (chargesRefresh s) := by
  refine .of (fun cache dict isl ev can keep rails => ?_) ?_
  · simp [cache, dict, isl, ev, can, keep, rails]
  · simp

theorem followConfig_sound (before s : State) : Sound s (followConfig before s) := by
  refine .of (fun cache dict isl ev can keep rails => ?_) ?_
  · simp [cache, dict, isl, ev, can, keep, rails, followConfig_frame]
  · simp [followConfig_frame]

theorem videoModeChanged_sound (s : State) : Sound s (videoModeChanged s) := by
  refine .of (fun cache dict isl ev can keep rails => ?_) ?_
  · simp [cache, dict, isl, ev, can, keep, rails, videoModeChanged_frame]
  · simp [videoModeChanged_frame]

theorem redetect_sound (c : Channel) (s : State) : Sound s (redetect c s) := by
  refine .of (fun cache dict isl ev can keep rails => ?_) ?_
  · simp [cache, dict, isl, ev, can, keep, rails, redetect_frame]
  · simp [redetect_frame]

theorem sourceMoved_sound (c : Channel) (before s : State) : Sound s (sourceMoved c before s) := by
  refine .of (fun cache dict isl ev can keep rails => ?_) ?_
  · simp [cache, dict, isl, ev, can, keep, rails, sourceMoved_frame]
  · simp [sourceMoved_frame]

theorem trimTo_sound (k : Fin 4) (target : Nat) (s : State) : Sound s (trimTo k target s) := by
  refine .of (fun cache dict isl ev can keep rails => ?_) ?_
  · simp [cache, dict, isl, ev, can, keep, rails]
  · simp

theorem resetRailChanged_sound (k : Fin 4) (s : State) : Sound s (resetRailChanged k s) := by
  refine .of (fun cache dict isl ev can keep rails => ?_) ?_
  · simp [cache, dict, isl, ev, can, keep, rails, resetRailChanged_frame]
  · simp [resetRailChanged_frame]

theorem streamChanged_sound (before : State) (n : Fin 16) (s : State) : Sound s (streamChanged before n s) := by
  refine .of (fun cache dict isl ev can keep rails => ?_) ?_
  · simp [cache, dict, isl, ev, can, keep, rails]
  · simp

theorem afterHold_sound (index sub : Nat) (before s : State) : Sound s (afterHold index sub before s) := by
  have streams : Sound s (forAll 16 (fun t n => if s.sc n 0x4000 8 = index - 0x2A20 then streamChanged before n t else t) s) :=
    .foldl _ (fun t n => .ite (streamChanged_sound ..) (.refl t)) _ s
  exact .ite ((followConfig_sound ..).trans (outageEffRefresh_sound _)) <|
    .ite ((videoModeChanged_sound _).trans (outageEffRefresh_sound _)) <|
    .ite (redetect_sound ..) <| .ite (redetect_sound ..) <| .ite (chargesRefresh_sound _) <|
    .ite (sourceMoved_sound ..) <| .ite (sourceMoved_sound ..) <| .ite (trimTo_sound ..) <| .ite (resetRailChanged_sound ..) <|
    .ite streams <| .ite ((followConfig_sound ..).trans (policyRefresh_sound _)) <|
    .ite (streamChanged_sound ..) (.refl s)

theorem holdValue_sound (index sub v : Nat) (s : State) : Sound s (holdValue index sub v s).1 := by
  refine .of (fun cache dict isl ev can keep rails => ?_) ?_
  · unfold holdValue; split
    all_goals simp [cache, dict, isl, ev, can, keep, rails]
  · unfold holdValue; split
    all_goals simp

theorem writePlain_sound (p : Session) (index sub v : Nat) (s : State) : Sound s (writePlain p index sub v s).1 := by
  unfold writePlain
  split
  · exact .refl s
  · split
    · exact .of (fun cache dict isl ev can keep rails => by simp [cache, dict, isl, ev, can, keep, rails]) (by simp)
    · exact ((beforeHold_sound ..).trans (holdValue_sound ..)).trans (afterHold_sound ..)

theorem storeCommand_sound (index sub v : Nat) (s : State) : Sound s (s.storeCommand index sub v) := by
  refine .of (fun cache dict isl ev can keep rails => ?_) ?_
  · unfold State.storeCommand
    simp [cache, dict, isl, ev, can, keep, rails]
  · unfold State.storeCommand
    simp

theorem controlWin_sound (p : Session) (w : Fin 7) (v : Nat) (s : State) : Sound s (controlWin p w v s).1 := by
  refine .of (fun cache dict isl ev can keep rails => ?_) ?_
  · simp [cache, dict, isl, ev, can, keep, rails, controlWin_frame]
  · simp [controlWin_frame]

theorem writeWin_sound (p : Session) (w : Fin 7) (sub v : Nat) (s : State) : Sound s (writeWin p w sub v s).1 := by
  refine .of (fun cache dict isl ev can keep rails => ?_) ?_
  · simp [cache, dict, isl, ev, can, keep, rails, writeWin_frame]
  · simp [writeWin_frame]

theorem writeData_sound (p : Session) (w : Fin 7) (data : List Byte) (s : State) : Sound s (writeData p w data s).1 := by
  refine .of (fun cache dict isl ev can keep rails => ?_) ?_
  · simp [cache, dict, isl, ev, can, keep, rails, writeData_frame]
  · simp [writeData_frame]

theorem applyValue_sound (p : Session) (answers : Bool) (index sub v : Nat) (s : State) :
    Sound s (applyValue p answers index sub v s).1 := by
  unfold applyValue
  split
  · split
    · exact controlWin_sound ..
    · exact writeWin_sound ..
  · split
    · rename_i r e
      have act : Sound s r.1 := actionOf_sound e
      split
      · exact act
      · unfold storeAction
        split
        · exact act
        · exact storeCommand_sound ..
    · exact writePlain_sound ..

theorem noteBadRequest_sound (index sub : Nat) (s : State) : Sound s (noteBadRequest index sub s) := by
  refine .of (fun cache dict isl ev can keep rails => ?_) ?_
  · simp [cache, dict, isl, ev, can, keep, rails, noteBadRequest_frame]
  · simp [noteBadRequest_frame]

theorem writeValue_sound (p : Session) (answers : Bool) (r : Row) (index sub : Nat) (data : List Byte) (s : State) :
    Sound s (writeValue p answers r index sub data s).1 := by
  unfold writeValue
  split
  · exact .refl s
  · split
    · exact noteBadRequest_sound ..
    · exact applyValue_sound ..

theorem writeEntry_sound (p : Session) (answers : Bool) (index sub : Nat) (data : List Byte) (s : State) :
    Sound s (writeEntry p answers index sub data s).1 := by
  unfold writeEntry
  split
  · exact .refl s
  · iterate 6 (split; · exact .refl s)
    split
    · split
      · exact writeData_sound ..
      · exact writeValue_sound ..
    · exact writeValue_sound ..

theorem noteRequest_sound (p : Session) (s : State) : Sound s (noteRequest p s) := by
  refine .of (fun cache dict isl ev can keep rails => ?_) ?_
  · simp [cache, dict, isl, ev, can, keep, rails]
  · simp

theorem countRefusal_sound (p : Session) (s : State) : Sound s (countRefusal p s) := by
  refine .of (fun cache dict isl ev can keep rails => ?_) ?_
  · simp [cache, dict, isl, ev, can, keep, rails]
  · simp

theorem noteAnswer_sound (p : Session) (a : Answer) (s : State) : Sound s (noteAnswer p a s) := by
  refine .of (fun cache dict isl ev can keep rails => ?_) ?_
  · simp [cache, dict, isl, ev, can, keep, rails]
  · simp

theorem dictWriteA_sound (p : Session) (answers : Bool) (index sub : Nat) (data : List Byte) (s : State) :
    Sound s (dictWriteA p answers index sub data s).1 :=
  ((noteRequest_sound ..).trans (writeEntry_sound ..)).trans (noteAnswer_sound ..)

theorem dictWrite_sound (p : Session) (index sub : Nat) (data : List Byte) (s : State) :
    Sound s (noData (dictWrite p index sub data s)).1 := dictWriteA_sound ..

theorem faultHolder_sound (i : Island) (s : State) : Sound s (raise (s.setIsland i .fault) 4 .control []) := by
  refine .of (fun cache dict isl ev can keep rails => ?_) ?_
  · simp [cache, dict, isl, ev, can, keep, rails]
  · simp

theorem keepHeld_sound (index sub v : Nat) (s : State) : Sound s ((s.keepUndelivered index sub).setHeld index sub v) := by
  refine .of (fun cache dict isl ev can keep rails => ?_) ?_
  · unfold State.keepUndelivered State.setHeld; split
    all_goals simp [cache, dict, isl, ev, can, keep, rails]
  · unfold State.keepUndelivered State.setHeld; split
    all_goals simp

theorem timeoutWrite_sound (p : Session) (index sub : Nat) (data : List Byte) (i : Island) (s : State) :
    Sound s (timeoutWrite p index sub data i s).1 := by
  unfold timeoutWrite
  refine (noteRequest_sound p s).trans (.trans ?_ ((faultHolder_sound i _).trans (countRefusal_sound ..)))
  split
  · exact storeCommand_sound ..
  · exact keepHeld_sound ..

/-! ### What a request and its answer do -/

theorem answerUsdo_sound (c : Fin 128) (index sub : Nat) (a : Answer) (data : List Byte) (s : State) : Sound s (answerUsdo c index sub a data s) := by
  refine .of (fun cache dict isl ev can keep rails => ?_) ?_
  · simp [cache, dict, isl, ev, can, keep, rails]
  · simp

theorem answerMbx_sound (fn : Fin 16) (tag : Byte) (a : Answer) (data : List Byte) (s : State) : Sound s (answerMbx fn tag a data s) := by
  refine .of (fun cache dict isl ev can keep rails => ?_) ?_
  · simp [cache, dict, isl, ev, can, keep, rails]
  · simp

theorem endMbx_sound (fn : Fin 16) (tag : Byte) (result abort : Nat) (data : List Byte) (s : State) : Sound s (endMbx fn tag result abort data s) := by
  refine .of (fun cache dict isl ev can keep rails => ?_) ?_
  · simp [cache, dict, isl, ev, can, keep, rails]
  · simp

theorem modMbx_sound (fn : Fin 16) (f : Mbx → Mbx) (s : State) : Sound s (s.modMbx fn f) :=
  .of (fun cache dict isl ev can keep rails => ⟨cache, dict, isl, ev, can, keep, rails⟩) rfl

theorem usdoServe_sound (c : Fin 128) (index sub : Nat) {f : State → State × Answer × List Byte} (hf : ∀ t, Sound t (f t).1)
    (s : State) : Sound s (usdoServe c index sub f s) := by
  unfold usdoServe
  split
  · exact .refl s
  · split
    · exact (countRefusal_sound ..).trans (answerUsdo_sound ..)
    · exact (hf s).trans (answerUsdo_sound ..)

theorem mbxServe_sound (fn : Fin 16) (irqEn : Bool) (tag : Byte) (op : BitVec 2) (index : BitVec 16) (sub : BitVec 8) (len : BitVec 9)
    (data : List Byte) {f : State → State × Answer × List Byte} (hf : ∀ t, Sound t (f t).1) (s : State) :
    Sound s (mbxServe fn irqEn tag op index sub len data f s) := by
  unfold mbxServe
  split
  · exact .refl s
  · split
    · exact modMbx_sound ..
    · dsimp only
      split
      · exact (modMbx_sound ..).trans (endMbx_sound ..)
      · exact ((modMbx_sound ..).trans (hf _)).trans (answerMbx_sound ..)

theorem fromSession_sound (p : Session) (index : BitVec 16) (sub : BitVec 8) (data : List Byte) {f : State → State × Answer}
    (hf : ∀ t, Sound t (f t).1) (s : State) : Sound s (fromSession p index sub data f s) := by
  unfold fromSession
  split
  · exact usdoServe_sound _ _ _ hf s
  · exact mbxServe_sound _ _ _ _ _ _ _ _ hf s

theorem sessionWrite_sound (p : Session) (index : BitVec 16) (sub : BitVec 8) (data : List Byte) (s : State) :
    Sound s (sessionWrite p index sub data s) := fromSession_sound _ _ _ _ (fun t => dictWriteA_sound _ _ _ _ _ t) s

theorem sessionPut_sound (p : Session) (index : BitVec 16) (sub : BitVec 8) (n v : Nat) (s : State) :
    Sound s (sessionPut p index sub n v s) := sessionWrite_sound ..

/-! ### What waited for its island -/

theorem handshakes_sound (s : State) : Sound s (handshakes s) := by
  unfold handshakes
  split
  · exact .refl s
  · extract_lets _ before t ready
    have started : Sound s { s with isl.handed := [] } :=
      .of (fun cache dict isl ev can keep rails => ⟨cache, dict, isl, ev, can, keep, rails⟩) rfl
    have delivered : Sound s t := started.trans
      (.foldl (fun (u : State) (p : Nat × Nat) => afterHold (p.1 / 256) (p.1 % 256) before u) (fun u p => afterHold_sound ..) _ _)
    have kept : Sound t { t with isl.waiting := t.isl.waiting.filter (fun p => !ready p) } :=
      .of (fun cache dict isl ev can keep rails => ⟨cache, dict, isl, ev, can, keep, rails⟩) rfl
    refine delivered.trans (kept.trans (.foldl _ (fun u p => ?_) _ _))
    split
    · exact actionOf_sound ‹_›
    · exact .refl u

/-! ### What a fetched command does -/

theorem endCmd_sound (c : Cmd) (st : Status) (n : Nat) (s : State) : Sound s (endCmd c st n s) := by
  refine .of (fun cache dict isl ev can keep rails => ?_) ?_
  · simp [cache, dict, isl, ev, can, keep, rails]
  · simp

theorem endField_sound (c : Cmd) (off : Nat) (s : State) : Sound s (endField c off s) := by
  refine .of (fun cache dict isl ev can keep rails => ?_) ?_
  · simp [cache, dict, isl, ev, can, keep, rails, endField_frame]
  · simp [endField_frame]

theorem dmaFault_sound (c : Cmd) (s : State) : Sound s (dmaFault c s) := by
  refine .of (fun cache dict isl ev can keep rails => ?_) ?_
  · simp [cache, dict, isl, ev, can, keep, rails]
  · simp

theorem runCmd_sound {o : Op} (id : Nat) (elems : Option (List Element)) {f : List Element → Cmd → State → State}
    (hf : ∀ l c t, Sound t (f l c t)) (s : State) : Sound s (runCmd o id elems f s) := by
  unfold runCmd
  split
  · exact .refl s
  · split
    · exact .refl s
    · split
      · exact dmaFault_sound ..
      · split
        · exact endField_sound ..
        · exact endCmd_sound ..
        · exact hf ..

theorem throttlePut_sound (c : Cmd) (s : State) : Sound s (throttlePut c s) := by
  refine .of (fun cache dict isl ev can keep rails => ?_) ?_
  · simp [cache, dict, isl, ev, can, keep, rails]
  · simp

theorem endNoSpace_sound (k : Nat) (c : Cmd) (s : State) : Sound s (endNoSpace k c s) := by
  refine .of (fun cache dict isl ev can keep rails => ?_) ?_
  · simp [cache, dict, isl, ev, can, keep, rails]
  · simp

theorem beginPut_sound (elems : List Element) (c : Cmd) (protect : Bool) (charged slots : Nat) (s : State) :
    Sound s (beginPut elems c protect charged slots s) := by
  refine .of (fun cache dict isl ev can keep rails => ?_) ?_
  · simp [cache, dict, isl, ev, can, keep, rails]
  · simp

theorem takeSlots_sound {s t : State} {n : Fin 16} {vol : BitVec 32} {lba len need : Nat}
    (taken : takeSlots s n vol lba len need = some t) : Sound s t := by
  refine .of (fun cache dict isl ev can keep rails => ?_) ?_
  · simp [takeSlots_bounds taken, cache, dict, isl, ev, can, keep, rails]
  · rw [takeSlots_eq _ _ _ _ _ _ _ taken]

theorem checkPut_sound (elems : List Element) (c : Cmd) (s : State) : Sound s (checkPut elems c s) := by
  unfold checkPut
  dsimp only
  split
  · exact endCmd_sound ..
  · split
    · exact throttlePut_sound ..
    · split
      · exact endNoSpace_sound ..
      · split
        · exact endNoSpace_sound ..
        · exact (takeSlots_sound ‹_›).trans (beginPut_sound ..)

theorem startGet_sound (eccBad : Option Nat) (elems : List Element) (c : Cmd) (s : State) : Sound s (startGet eccBad elems c s) := by
  refine .of (fun cache dict isl ev can keep rails => ?_) ?_
  · simp [cache, dict, isl, ev, can, keep, rails, startGet_frame]
  · simp [startGet_frame]

theorem cleanBlocks_sound (c : Cmd) (s : State) : Sound s (cleanBlocks c s) := by
  refine .of (fun cache dict isl ev can keep rails => ?_) ?_
  · simp [cache, dict, isl, ev, can, keep, rails, cleanBlocks_frame]
  · simp [cleanBlocks_frame]

theorem dropBlocks_sound (c : Cmd) (s : State) : Sound s (dropBlocks c s) := by
  refine .of (fun cache dict isl ev can keep rails => ?_) ?_
  · simp [cache, dict, isl, ev, can, keep, rails, dropBlocks_frame]
  · simp [dropBlocks_frame]

theorem listExtents_sound (elems : List Element) (c : Cmd) (s : State) : Sound s (listExtents elems c s) := by
  refine .of (fun cache dict isl ev can keep rails => ?_) ?_
  · simp [cache, dict, isl, ev, can, keep, rails]
  · simp

theorem startFence_sound (c : Cmd) (s : State) : Sound s (startFence c s) := by
  refine .of (fun cache dict isl ev can keep rails => ?_) ?_
  · simp [cache, dict, isl, ev, can, keep, rails, startFence_frame]
  · simp [startFence_frame]

theorem readSegment_sound (eccBad : Option Nat) (elems : List Element) (c : Cmd) (s : State) : Sound s (readSegment eccBad elems c s) := by
  refine .of (fun cache dict isl ev can keep rails => ?_) ?_
  · simp [cache, dict, isl, ev, can, keep, rails]
  · simp

theorem dictRead_sound (p : Session) (index sub len : Nat) (s : State) : Sound s (dictRead p index sub len s).1 := by
  refine .of (fun cache dict isl ev can keep rails => ?_) ?_
  · simp [cache, dict, isl, ev, can, keep, rails, dictRead_frame]
  · simp [dictRead_frame]

theorem dictNext_sound (p : Session) (index sub : Nat) (s : State) : Sound s (dictNext p index sub s).1 := by
  refine .of (fun cache dict isl ev can keep rails => ?_) ?_
  · simp [cache, dict, isl, ev, can, keep, rails, dictNext_frame]
  · simp [dictNext_frame]

/-! ### What a scan and a step down do -/

theorem scanRail_sound (r : Fin 12) (mv : Nat) (s : State) : Sound s (scanRail r mv s) := by
  refine .of (fun cache dict isl ev can keep rails => ?_) ?_
  · unfold scanRail; dsimp only; (repeat' split)
    all_goals simp (maxDischargeDepth := 20) [cache, dict, isl, ev, can, keep, rails, goodRail_frame, State.countScan_frame]
  · unfold scanRail; dsimp only; (repeat' split)
    all_goals simp (maxDischargeDepth := 20) [goodRail_frame, State.countScan_frame]

theorem clearFalling_sound (s : State) : Sound s (clearFalling s) := by
  refine .of (fun cache dict isl ev can keep rails => ?_) ?_
  · simp [cache, dict, isl, ev, can, keep, rails, clearFalling_frame]
  · simp [clearFalling_frame]

theorem downStepDone_sound (s : State) : Sound s (downStepDone s) := by
  refine .of (fun cache dict isl ev can keep rails => ?_) ?_
  · simp [cache, dict, isl, ev, can, keep, rails]
  · unfold downStepDone
    dsimp only
    (repeat' split) <;> simp [downFrom_frame, clearFalling_frame]

theorem raise_sound (s : State) (ev : Nat) (i : EvIsland) (vs : List (Nat × Nat)) : Sound s (raise s ev i vs) := by
  refine .of (fun cache dict isl ev can keep rails => ?_) ?_
  · simp [cache, dict, isl, ev, can, keep, rails]
  · simp

theorem haltIslands_sound (s : State) : Sound s (haltIslands s) := by
  refine .of (fun cache dict isl ev can keep rails => ?_) ?_
  · simp [cache, dict, isl, ev, can, keep, rails]
  · simp

theorem scanCell_sound (i : Fin 6) (mv : Nat) (s : State) : Sound s (scanCell i mv s) := by
  refine .of (fun cache dict isl ev can keep rails => ?_) ?_
  · simp [cache, dict, isl, ev, can, keep, rails, scanCell_frame]
  · simp [scanCell_frame]

theorem scanDie_sound (t : Int) (s : State) : Sound s (scanDie t s) := by
  refine .of (fun cache dict isl ev can keep rails => ?_) ?_
  · simp [cache, dict, isl, ev, can, keep, rails]
  · simp

theorem scanVkeep_sound (mv : Nat) (s : State) : Sound s (scanVkeep mv s) := by
  refine .of (fun cache dict isl ev can keep rails => ?_) ?_
  · simp [cache, dict, isl, ev, can, keep, rails, scanVkeep_frame]
  · simp [scanVkeep_frame]

/-! ### What the end of an island does -/

theorem afterTimeout_sound (i : Island) (s : State) : Sound s (afterTimeout i s) := by
  refine .of (fun cache dict isl ev can keep rails => ?_) ?_
  · simp [cache, dict, isl, ev, can, keep, rails]
  · simp

theorem stopIsland_sound (i : Island) (s : State) : Sound s (s.stopIsland i) := by
  refine .of (fun cache dict isl ev can keep rails => ?_) ?_
  · simp [cache, dict, isl, ev, can, keep, rails]
  · simp

theorem startIsland_sound (i : Island) (s : State) : Sound s (s.startIsland i) := by
  refine .of (fun cache dict isl ev can keep rails => ?_) ?_
  · simp [cache, dict, isl, ev, can, keep, rails]
  · simp

theorem modStream_sound (n : Fin 16) (f : Stream → Stream) (s : State) : Sound s (s.modStream n f) := by
  refine .of (fun cache dict isl ev can keep rails => ?_) ?_
  · simp [cache, dict, isl, ev, can, keep, rails]
  · simp

theorem restartEncoder_sound (n : Fin 16) (s : State) : Sound s (restartEncoder n s) := by
  refine .of (fun cache dict isl ev can keep rails => ?_) ?_
  · simp [cache, dict, isl, ev, can, keep, rails, restartEncoder_frame]
  · simp [restartEncoder_frame]

/-! ### What the end of a BOOT step does -/

theorem probeDie_sound (interface rate : Nat) (d : Fin 16) (p : DieProbe) (s : State) : Sound s (probeDie interface rate d p s) := by
  refine .of (fun cache dict isl ev can keep rails => ?_) ?_
  · simp [cache, dict, isl, ev, can, keep, rails]
  · simp

theorem raiseIf_sound (b : Bool) (s : State) (ev : Nat) (i : EvIsland) (vs : List (Nat × Nat)) : Sound s (raiseIf b s ev i vs) := by
  refine .of (fun cache dict isl ev can keep rails => ?_) ?_
  · simp [cache, dict, isl, ev, can, keep, rails]
  · simp

theorem findImage_sound (s : State) : Sound s (findImage s) := by
  refine .of (fun cache dict isl ev can keep rails => ?_) ?_
  · simp [cache, dict, isl, ev, can, keep, rails]
  · simp

theorem repairKeys_sound (s : State) : Sound s (repairKeys s) := by
  refine .of (fun cache dict isl ev can keep rails => ?_) ?_
  · simp [cache, dict, isl, ev, can, keep, rails]
  · simp

theorem nextStep_sound (n : Nat) (s : State) : Sound s (nextStep n s) := by
  refine .of (fun cache dict isl ev can keep rails => ?_) ?_
  · simp [cache, dict, isl, ev, can, keep, rails]
  · simp

theorem upWork_sound (s : State) : Sound s (upWork s) := by
  refine .of (fun cache dict isl ev can keep rails => ?_) ?_
  · simp [cache, dict, isl, ev, can, keep, rails]
  · simp

theorem walkUp_sound (groups : List Nat) (s : State) : Sound s (walkUp groups s) := by
  refine .of (fun cache dict isl ev can keep rails => ?_) ?_
  · simp [cache, dict, isl, ev, can, keep, rails]
  · simp

theorem flash_sound (s : State) (f : Flash) : Sound s { s with flash := f } :=
  .of (fun cache dict isl ev can keep rails => ⟨cache, dict, isl, ev, can, keep, rails⟩) rfl

theorem flashFound_sound (dies : List DieProbe) (interface rate : Nat) (downgraded : Bool) (badCopies : Nat) (s : State) :
    Sound s (flashFound dies interface rate downgraded badCopies s) := by
  unfold flashFound
  extract_lets -lift top s1 _ s2 found s3 s4 s5 _ s6 t
  have probed : Sound s s1 := .foldl _ (fun t d => probeDie_sound ..) _ s
  have rated : Sound s1 s2 := (flash_sound s1 _).trans (raiseIf_sound ..)
  have told : Sound s2 s3 := raise_sound ..
  have counted : Sound s3 s4 := .foldl _ (fun t n => raise_sound t 515 .flash []) _ s3
  have noted : Sound s5 s6 := by
    unfold s6
    split
    · exact (flash_sound s5 _).trans (raise_sound ..)
    · exact .refl s5
  have found4 : Sound s s5 := ((probed.trans rated).trans (told.trans counted)).trans (findImage_sound s4)
  have next : Sound s t := (found4.trans noted).trans ((repairKeys_sound s6).trans (nextStep_sound 11 _))
  exact next.trans (.ite (upWork_sound t) (walkUp_sound _ t))

theorem startSupplies_sound (s : State) : Sound s (startSupplies s) := by
  refine .of (fun cache dict isl ev can keep rails => ?_) ?_
  · simp [cache, dict, isl, ev, can, keep, rails, startSupplies_frame]
  · simp [startSupplies_frame]

theorem precisionStep_sound (s : State) : Sound s (precisionStep s) := by
  refine .of (fun cache dict isl ev can keep rails => ?_) ?_
  · simp [cache, dict, isl, ev, can, keep, rails, precisionStep_frame]
  · simp [precisionStep_frame]

theorem chargesNext_sound (n : Nat) (s : State) : Sound s (chargesRefresh (nextStep n s)) := by
  refine .of (fun cache dict isl ev can keep rails => ?_) ?_
  · simp [cache, dict, isl, ev, can, keep, rails]
  · simp

theorem startFirmware_sound (s : State) : Sound s (startFirmware s) := by
  refine .of (fun cache dict isl ev can keep rails => ?_) ?_
  · simp [cache, dict, isl, ev, can, keep, rails]
  · simp

theorem time_sound (s : State) (x : Time) : Sound s { s with time := x } :=
  .of (fun cache dict isl ev can keep rails => ⟨cache, dict, isl, ev, can, keep, rails⟩) rfl

theorem firmwareLoaded_sound (a b : Bool) (av bv : BitVec 32) (ar br : Nat) (s : State) : Sound s (firmwareLoaded a b av bv ar br s) := by
  refine .of (fun cache dict isl ev can keep rails => ?_) ?_
  · simp [cache, dict, isl, ev, can, keep, rails]
  · simp

theorem configured_sound (ok : Bool) (s : State) : Sound s (configured ok s) := by
  refine .of (fun cache dict isl ev can keep rails => ?_) ?_
  · simp [cache, dict, isl, ev, can, keep, rails]
  · simp

theorem memoryRailsUp_sound (s : State) : Sound s (memoryRailsUp s) := by
  refine .of (fun cache dict isl ev can keep rails => ?_) ?_
  · simp [cache, dict, isl, ev, can, keep, rails, memoryRailsUp_frame]
  · simp [memoryRailsUp_frame]

theorem dramTrained_sound (gib : Nat) (s : State) : Sound s (dramTrained gib s) := by
  refine .of (fun cache dict isl ev can keep rails => ?_) ?_
  · simp [cache, dict, isl, can, keep, rails, dramTrained_frame]
  · simp [dramTrained_frame]

theorem portReady_sound (s : State) : Sound s (portReady s) := by
  refine .of (fun cache dict isl ev can keep rails => ?_) ?_
  · simp [cache, dict, isl, ev, can, keep, rails]
  · simp

theorem bootDone_sound (s : State) : Sound s (bootDone s) := by
  refine .of (fun cache dict isl ev can keep rails => ?_) ?_
  · simp [cache, dict, isl, ev, can, keep, rails]
  · simp

theorem stepEnds_sound (r : BootReport) (s : State) : Sound s (stepEnds r s) := by
  unfold stepEnds
  split
  · exact nextStep_sound 3 s
  · exact .ite (startSupplies_sound s) (precisionStep_sound s)
  · exact .ite (chargesNext_sound 5 s) (.refl s)
  · exact (time_sound s _).trans ((nextStep_sound 6 _).trans (startFirmware_sound _))
  · exact firmwareLoaded_sound _ _ _ _ _ _ s
  · exact configured_sound true s
  · exact .ite (memoryRailsUp_sound s) (.refl s)
  · exact dramTrained_sound _ s
  · exact flashFound_sound _ _ _ _ _ s
  · exact .ite ((portReady_sound s).trans (bootDone_sound _)) (.refl s)
  · exact .refl s

/-! ### Each command -/

theorem execPut_sound (id : Nat) (elems : Option (List Element)) (s : State) : ∃ u, execPut id elems s = .next u ∧ Sound s u :=
  ⟨_, rfl, runCmd_sound _ _ checkPut_sound s⟩

theorem execPutApply_sound (id : Nat) (r : DmaResult) (s : State) : ∃ u, execPutApply id r s = .next u ∧ Sound s u := by
  unfold execPutApply
  (repeat' split) <;> refine ⟨_, rfl, .of (fun cache dict isl ev can keep rails => ?_) (by simp
      [failPut_frame, finishPut_frame])⟩ <;>
    simp [cache, dict, isl, ev, can, keep, rails, failPut_frame, finishPut_frame]

theorem execGet_sound (id : Nat) (elems : Option (List Element)) (eccBad : Option Nat) (s : State) : ∃ u, execGet id elems
    eccBad s = .next u ∧ Sound s u :=
  ⟨_, rfl, runCmd_sound _ _ (startGet_sound eccBad) s⟩

theorem execClean_sound (id : Nat) (s : State) : ∃ u, execClean id s = .next u ∧ Sound s u :=
  ⟨_, rfl, runCmd_sound _ _ (fun _ => cleanBlocks_sound) s⟩

theorem execDrop_sound (id : Nat) (s : State) : ∃ u, execDrop id s = .next u ∧ Sound s u :=
  ⟨_, rfl, runCmd_sound _ _ (fun _ => dropBlocks_sound) s⟩

theorem execList_sound (id : Nat) (elems : Option (List Element)) (s : State) : ∃ u, execList id elems s = .next u ∧ Sound s
    u :=
  ⟨_, rfl, runCmd_sound _ _ listExtents_sound s⟩

theorem execFence_sound (id : Nat) (s : State) : ∃ u, execFence id s = .next u ∧ Sound s u :=
  ⟨_, rfl, runCmd_sound _ _ (fun _ => startFence_sound) s⟩

theorem execFenceComplete_sound (id : Nat) (s : State) : ∃ u, execFenceComplete id s = .next u ∧ Sound s u := by
  unfold execFenceComplete
  (repeat' split) <;> refine ⟨_, rfl, .of (fun cache dict isl ev can keep rails => ?_) (by simp)⟩ <;>
    simp [cache, dict, isl, ev, can, keep, rails]

theorem execSegmentRead_sound (id : Nat) (elems : Option (List Element)) (eccBad : Option Nat) (s : State) : ∃ u,
    execSegmentRead id elems eccBad s = .next u ∧ Sound s u :=
  ⟨_, rfl, runCmd_sound _ _ (readSegment_sound eccBad) s⟩

theorem execOnDemandFetchComplete_sound (id : Nat) (r : ReadResult) (eccBad : Option Nat) (s : State) : ∃ u,
    execOnDemandFetchComplete id r eccBad s = .next u ∧ Sound s u := by
  unfold execOnDemandFetchComplete
  dsimp only
  (repeat' split) <;> refine ⟨_, rfl, .of (fun cache dict isl ev can keep rails => ?_) (by simp
      [readSlots_frame])⟩ <;>
    simp [cache, dict, isl, ev, can, keep, rails, readSlots_frame]

theorem execNmtStart_sound (node : Fin 128) (s : State) : ∃ u, execNmtStart node s = .next u ∧ Sound s u := by
  unfold execNmtStart
  refine ⟨_, rfl, .of (fun cache dict isl ev can keep rails => ?_) (by simp
      [toNmt_frame])⟩ <;>
    simp [cache, dict, isl, ev, can, keep, rails, toNmt_frame]

theorem execNmtStop_sound (node : Fin 128) (s : State) : ∃ u, execNmtStop node s = .next u ∧ Sound s u := by
  unfold execNmtStop
  refine ⟨_, rfl, .of (fun cache dict isl ev can keep rails => ?_) (by simp
      [toNmt_frame])⟩ <;>
    simp [cache, dict, isl, ev, can, keep, rails, toNmt_frame]

theorem execNmtEnterPreOperational_sound (node : Fin 128) (s : State) : ∃ u, execNmtEnterPreOperational node s = .next u ∧ Sound s
    u := by
  unfold execNmtEnterPreOperational
  refine ⟨_, rfl, .of (fun cache dict isl ev can keep rails => ?_) (by simp
      [toNmt_frame])⟩ <;>
    simp [cache, dict, isl, ev, can, keep, rails, toNmt_frame]

theorem execNmtResetNode_sound (node : Fin 128) (s : State) : ∃ u, execNmtResetNode node s = .next u ∧ Sound s u := by
  unfold execNmtResetNode
  (repeat' split) <;> refine ⟨_, rfl, .of (fun cache dict isl ev can keep rails => ?_) (by simp
      [nmtReset_frame])⟩ <;>
    simp [cache, dict, isl, ev, can, keep, rails, nmtReset_frame]

theorem execNmtResetCommunication_sound (node : Fin 128) (s : State) : ∃ u, execNmtResetCommunication node s = .next u ∧ Sound s u
    := by
  unfold execNmtResetCommunication
  (repeat' split) <;> refine ⟨_, rfl, .of (fun cache dict isl ev can keep rails => ?_) (by simp
      [nmtReset_frame])⟩ <;>
    simp [cache, dict, isl, ev, can, keep, rails, nmtReset_frame]

theorem execUsdoRequest_sound (client : Fin 128) (req : UsdoReq) (s : State) : ∃ u, execUsdoRequest client req s = .next u ∧
    Sound s u := by
  unfold execUsdoRequest
  split
  · exact ⟨_, rfl, usdoServe_sound _ _ _ (dictRead_sound _ _ _ _) s⟩
  · exact ⟨_, rfl, usdoServe_sound _ _ _ (dictWrite_sound _ _ _ _) s⟩
  · exact ⟨_, rfl, usdoServe_sound _ _ _ (countRefusal_sound (.usdo client)) s⟩

theorem execHeartbeat_sound (s : State) : ∃ u, execHeartbeat s = .next u ∧ Sound s u := by
  unfold execHeartbeat
  (repeat' split) <;> refine ⟨_, rfl, .of (fun cache dict isl ev can keep rails => ?_) (by simp)⟩ <;>
    simp [cache, dict, isl, ev, can, keep, rails]

theorem execTpdoTransmit_sound (k : Fin 4) (s : State) : ∃ u, execTpdoTransmit k s = .next u ∧ Sound s u := by
  unfold execTpdoTransmit
  (repeat' split) <;> refine ⟨_, rfl, .of (fun cache dict isl ev can keep rails => ?_) (by simp)⟩ <;>
    simp [cache, dict, isl, ev, can, keep, rails]

theorem execEmcyTransmit_sound (s : State) : ∃ u, execEmcyTransmit s = .next u ∧ Sound s u := by
  unfold execEmcyTransmit
  split
  · exact ⟨_, rfl, .refl s⟩
  · rename_i m rest waiting
    split
    · exact ⟨_, rfl, .refl s⟩
    · refine ⟨_, rfl, .of (fun cache dict isl ev can keep rails => ?_) (by simp)⟩
      have room : (m :: rest).length ≤ 32 := waiting ▸ can
      have fits : rest.length ≤ 32 := by simp only [List.length_cons] at room; omega
      simp [cache, dict, isl, ev, fits, keep, rails]

theorem execCanErrorPassiveOrBusOff_sound (_e : CanError) (s : State) : ∃ u, execCanErrorPassiveOrBusOff _e s = .next u ∧ Sound s
    u := by
  unfold execCanErrorPassiveOrBusOff
  (repeat' split) <;> refine ⟨_, rfl, .of (fun cache dict isl ev can keep rails => ?_) (by simp)⟩ <;>
    simp [cache, dict, isl, ev, can, keep, rails]

theorem execFrameStart_sound (port vc : Fin 4) (s : State) : ∃ u, execFrameStart port vc s = .next u ∧ Sound s u := by
  unfold execFrameStart
  (repeat' split) <;> refine ⟨_, rfl, .of (fun cache dict isl ev can keep rails => ?_) (by simp
      [frameStarts_frame, setPort_frame])⟩ <;>
    simp [cache, dict, isl, ev, can, keep, rails, frameStarts_frame, setPort_frame]

theorem execLongPacket_sound (port vc : Fin 4) (dataType : BitVec 6) (data : List Byte) (check : PacketCheck) (s : State) : ∃ u,
    execLongPacket port vc dataType data check s = .next u ∧ Sound s u := by
  unfold execLongPacket
  dsimp only
  (repeat' split) <;> refine ⟨_, rfl, .of (fun cache dict isl ev can keep rails => ?_) (by simp
      [takePacket_frame])⟩ <;>
    simp [cache, dict, isl, ev, can, keep, rails, takePacket_frame]

theorem execFrameEnd_sound (port vc : Fin 4) (s : State) : ∃ u, execFrameEnd port vc s = .next u ∧ Sound s u := by
  unfold execFrameEnd
  dsimp only
  (repeat' split) <;> refine ⟨_, rfl, .of (fun cache dict isl ev can keep rails => ?_) (by simp
      [frameEnds_frame, setPort_frame])⟩ <;>
    simp [cache, dict, isl, ev, can, keep, rails, frameEnds_frame, setPort_frame]

theorem execClockLaneLost_sound (port : Fin 4) (s : State) : ∃ u, execClockLaneLost port s = .next u ∧ Sound s u := by
  unfold execClockLaneLost
  dsimp only
  (repeat' split) <;> refine ⟨_, rfl, .of (fun cache dict isl ev can keep rails => ?_) (by
      simp +contextual (maxDischargeDepth := 20))⟩ <;>
    simp +contextual (maxDischargeDepth := 20) [cache, dict, isl, ev, can, keep, rails]

theorem execClockLaneUp_sound (port : Fin 4) (laneRate : Nat) (s : State) : ∃ u, execClockLaneUp port laneRate s = .next u ∧ Sound
    s u := by
  unfold execClockLaneUp
  dsimp only
  (repeat' split) <;> refine ⟨_, rfl, .of (fun cache dict isl ev can keep rails => ?_) (by simp (maxDischargeDepth := 20)
      [portStarted_frame])⟩ <;>
    simp (maxDischargeDepth := 20) [cache, dict, isl, ev, can, keep, rails, portStarted_frame]

theorem execExposureCommit_sound (p : Session) (n : Fin 16) (s : State) : ∃ u, execExposureCommit p n s = .next u ∧ Sound s u :=
  ⟨_, rfl, sessionPut_sound ..⟩

theorem execExposureClear_sound (p : Session) (n : Fin 16) (s : State) : ∃ u, execExposureClear p n s = .next u ∧ Sound s u :=
  ⟨_, rfl, sessionPut_sound ..⟩

theorem execCciBurstComplete_sound (port : Fin 4) (s : State) : ∃ u, execCciBurstComplete port s = .next u ∧ Sound s u := by
  unfold execCciBurstComplete
  dsimp only
  (repeat' split) <;> refine ⟨_, rfl, .of (fun cache dict isl ev can keep rails => ?_) (by simp)⟩ <;>
    simp [cache, dict, isl, ev, can, keep, rails]

theorem execCciNack_sound (port : Fin 4) (s : State) : ∃ u, execCciNack port s = .next u ∧ Sound s u := by
  unfold execCciNack
  refine ⟨_, rfl, .of (fun cache dict isl ev can keep rails => ?_) (by simp
      [burstFails_frame])⟩ <;>
    simp [cache, dict, isl, ev, can, keep, rails, burstFails_frame]

theorem execCciBusStuck_sound (port : Fin 4) (s : State) : ∃ u, execCciBusStuck port s = .next u ∧ Sound s u := by
  unfold execCciBusStuck
  (repeat' split) <;> refine ⟨_, rfl, .of (fun cache dict isl ev can keep rails => ?_) (by simp
      [burstFails_frame])⟩ <;>
    simp [cache, dict, isl, ev, can, keep, rails, burstFails_frame]

theorem execCciDirectWrite_sound (p : Session) (n : Fin 16) (s : State) : ∃ u, execCciDirectWrite p n s = .next u ∧ Sound s u :=
  ⟨_, rfl, sessionPut_sound ..⟩

theorem execCciDirectRead_sound (p : Session) (n : Fin 16) (s : State) : ∃ u, execCciDirectRead p n s = .next u ∧ Sound s u :=
  ⟨_, rfl, sessionPut_sound ..⟩

theorem execCciDirectTransferDone_sound (n : Fin 16) (e : CciEnd) (s : State) : ∃ u, execCciDirectTransferDone n e s = .next u ∧
    Sound s u := by
  unfold execCciDirectTransferDone
  dsimp only
  (repeat' split) <;> refine ⟨_, rfl, .of (fun cache dict isl ev can keep rails => ?_) (by simp
     )⟩ <;>
    simp [cache, dict, isl, ev, can, keep, rails]

theorem execTickToleranceExpiry_sound (n : Fin 16) (s : State) : ∃ u, execTickToleranceExpiry n s = .next u ∧ Sound s u := by
  unfold execTickToleranceExpiry
  dsimp only
  (repeat' split) <;> refine ⟨_, rfl, .of (fun cache dict isl ev can keep rails => ?_) (by simp)⟩ <;>
    simp [cache, dict, isl, ev, can, keep, rails]

theorem execEncryptionWrite_sound (p : Session) (v : Byte) (s : State) : ∃ u, execEncryptionWrite p v s = .next u ∧ Sound s u :=
  ⟨_, rfl, sessionPut_sound ..⟩

theorem execExpertOpen_sound (p : Session) (code : BitVec 32) (s : State) : ∃ u, execExpertOpen p code s = .next u ∧ Sound s u :=
  ⟨_, rfl, sessionPut_sound ..⟩

theorem execExpertClose_sound (p : Session) (s : State) : ∃ u, execExpertClose p s = .next u ∧ Sound s u :=
  ⟨_, rfl, sessionPut_sound ..⟩

theorem execExpertIdleTimeout_sound (s : State) : ∃ u, execExpertIdleTimeout s = .next u ∧ Sound s u := by
  unfold execExpertIdleTimeout
  (repeat' split) <;> refine ⟨_, rfl, .of (fun cache dict isl ev can keep rails => ?_) (by simp)⟩ <;>
    simp [cache, dict, isl, ev, can, keep, rails]

theorem execExpertLockoutEnd_sound (s : State) : ∃ u, execExpertLockoutEnd s = .next u ∧ Sound s u := by
  unfold execExpertLockoutEnd
  (repeat' split) <;> refine ⟨_, rfl, .of (fun cache dict isl ev can keep rails => ?_) (by simp)⟩ <;>
    simp [cache, dict, isl, ev, can, keep, rails]

theorem execExpertCodeWrite_sound (p : Session) (code : BitVec 32) (s : State) : ∃ u, execExpertCodeWrite p code s = .next u ∧
    Sound s u :=
  ⟨_, rfl, sessionPut_sound ..⟩

theorem execConfigLockWrite_sound (p : Session) (v : Byte) (s : State) : ∃ u, execConfigLockWrite p v s = .next u ∧ Sound s u :=
  ⟨_, rfl, sessionPut_sound ..⟩

theorem execStoreAll_sound (p : Session) (sig : BitVec 32) (s : State) : ∃ u, execStoreAll p sig s = .next u ∧ Sound s u :=
  ⟨_, rfl, sessionPut_sound ..⟩

theorem execStoreCommunication_sound (p : Session) (sig : BitVec 32) (s : State) : ∃ u, execStoreCommunication p sig s = .next u ∧
    Sound s u :=
  ⟨_, rfl, sessionPut_sound ..⟩

theorem execStoreApplication_sound (p : Session) (sig : BitVec 32) (s : State) : ∃ u, execStoreApplication p sig s = .next u ∧
    Sound s u :=
  ⟨_, rfl, sessionPut_sound ..⟩

theorem execStoreComplete_sound (ok : Bool) (s : State) : ∃ u, execStoreComplete ok s = .next u ∧ Sound s u := by
  unfold execStoreComplete
  (repeat' split) <;> refine ⟨_, rfl, .of (fun cache dict isl ev can keep rails => ?_) (by simp (maxDischargeDepth := 20)
      [answerWaiting_frame, storeDone_frame, storeFailed_frame])⟩ <;>
    simp (maxDischargeDepth := 20) [cache, dict, isl, ev, can, keep, rails, answerWaiting_frame, storeDone_frame,
      storeFailed_frame]

theorem execRestoreDefaultsAll_sound (p : Session) (sig : BitVec 32) (s : State) : ∃ u, execRestoreDefaultsAll p sig s = .next u ∧
    Sound s u :=
  ⟨_, rfl, sessionPut_sound ..⟩

theorem execSample_sound (c : Channel) (mv : Nat) (ma dt : Int) (s : State) : ∃ u, execSample c mv ma dt s = .next u ∧ Sound s u
    := by
  unfold execSample
  dsimp only
  (repeat' split) <;> refine ⟨_, rfl, .of (fun cache dict isl ev can keep rails => ?_) (by simp (maxDischargeDepth := 20)
      [detect_frame, estimate_frame, geyserTemp_frame, mismatchRefresh_frame, sampleCounts_frame])⟩ <;>
    simp (maxDischargeDepth := 20) [cache, dict, isl, ev, can, keep, rails, detect_frame, estimate_frame, geyserTemp_frame,
      mismatchRefresh_frame, sampleCounts_frame]

theorem execEbyteReset_sound (p : Session) (s : State) : ∃ u, execEbyteReset p s = .next u ∧ Sound s u :=
  ⟨_, rfl, sessionPut_sound ..⟩

theorem execChannelRemoved_sound (c : Channel) (s : State) : ∃ u, execChannelRemoved c s = .next u ∧ Sound s u := by
  unfold execChannelRemoved
  dsimp only
  (repeat' split) <;> refine ⟨_, rfl, .of (fun cache dict isl ev can keep rails => ?_) (by simp (maxDischargeDepth := 20))⟩ <;>
    simp (maxDischargeDepth := 20) [cache, dict, isl, ev, can, keep, rails]

theorem execChannelConfigWrite_sound (p : Session) (index : BitVec 16) (sub : BitVec 8) (data : List Byte) (s : State) : ∃
    u, execChannelConfigWrite p index sub data s = .next u ∧ Sound s u := by
  unfold execChannelConfigWrite
  split
  · exact ⟨_, rfl, sessionWrite_sound ..⟩
  · exact ⟨_, rfl, .refl s⟩

theorem execEndOfCharge_sound (c : Channel) (s : State) : ∃ u, execEndOfCharge c s = .next u ∧ Sound s u := by
  unfold execEndOfCharge
  dsimp only
  (repeat' split) <;> refine ⟨_, rfl, .of (fun cache dict isl ev can keep rails => ?_) (by simp (maxDischargeDepth := 20)
      [calibrate_frame, geyserDone_frame, startLearn_frame])⟩ <;>
    simp (maxDischargeDepth := 20) [cache, dict, isl, ev, can, keep, rails, calibrate_frame, geyserDone_frame, startLearn_frame]

theorem execPrechargeTimeout_sound (s : State) : ∃ u, execPrechargeTimeout s = .next u ∧ Sound s u := by
  unfold execPrechargeTimeout
  (repeat' split) <;> refine ⟨_, rfl, .of (fun cache dict isl ev can keep rails => ?_) (by simp
      [faultNow_frame])⟩ <;>
    simp [cache, dict, isl, ev, can, keep, rails]

theorem execChargerOvercurrent_sound (c : Channel) (s : State) : ∃ u, execChargerOvercurrent c s = .next u ∧ Sound s u := by
  unfold execChargerOvercurrent
  dsimp only
  (repeat' split) <;> refine ⟨_, rfl, .of (fun cache dict isl ev can keep rails => ?_) (by simp
      [faultNow_frame])⟩ <;>
    simp [cache, dict, isl, ev, can, keep, rails]

theorem execChargerStuckOn_sound (c : Channel) (s : State) : ∃ u, execChargerStuckOn c s = .next u ∧ Sound s u := by
  unfold execChargerStuckOn
  dsimp only
  (repeat' split) <;> refine ⟨_, rfl, .of (fun cache dict isl ev can keep rails => ?_) (by simp
      [faultNow_frame])⟩ <;>
    simp [cache, dict, isl, ev, can, keep, rails]

theorem execOvercharge_sound (c : Channel) (s : State) : ∃ u, execOvercharge c s = .next u ∧ Sound s u := by
  unfold execOvercharge
  dsimp only
  (repeat' split) <;> refine ⟨_, rfl, .of (fun cache dict isl ev can keep rails => ?_) (by simp
      [faultNow_frame])⟩ <;>
    simp [cache, dict, isl, ev, can, keep, rails]

theorem execChannelClearFault_sound (p : Session) (c : Channel) (s : State) : ∃ u, execChannelClearFault p c s = .next u ∧
    Sound s u := by
  cases c
  · exact ⟨_, rfl, sessionPut_sound ..⟩
  · exact ⟨_, rfl, sessionPut_sound ..⟩

theorem execChargeTargetReached_sound (c : Channel) (s : State) : ∃ u, execChargeTargetReached c s = .next u ∧ Sound s u := by
  unfold execChargeTargetReached
  dsimp only
  (repeat' split) <;> refine ⟨_, rfl, .of (fun cache dict isl ev can keep rails => ?_) (by simp)⟩ <;>
    simp [cache, dict, isl, ev, can, keep, rails]

theorem execCellImbalance_sound (s : State) : ∃ u, execCellImbalance s = .next u ∧ Sound s u := by
  unfold execCellImbalance
  refine ⟨_, rfl, .of (fun cache dict isl ev can keep rails => ?_) (by
      simp +contextual)⟩ <;>
    simp +contextual [cache, dict, isl, ev, can, keep, rails]

theorem execInputSag_sound (s : State) : ∃ u, execInputSag s = .next u ∧ Sound s u := by
  unfold execInputSag
  dsimp only
  (repeat' split) <;> refine ⟨_, rfl, .of (fun cache dict isl ev can keep rails => ?_) (by simp (maxDischargeDepth := 20)
      [holdAssist_frame, startPreSinter_frame])⟩ <;>
    simp (maxDischargeDepth := 20) [cache, dict, isl, ev, can, keep, rails, holdAssist_frame, startPreSinter_frame]

theorem execSagCleared_sound (s : State) : ∃ u, execSagCleared s = .next u ∧ Sound s u := by
  unfold execSagCleared
  (repeat' split) <;> refine ⟨_, rfl, .of (fun cache dict isl ev can keep rails => ?_) (by simp
      [endSag_frame])⟩ <;>
    simp [cache, dict, isl, ev, can, keep, rails, endSag_frame]

theorem execHoldUpFault_sound (s : State) : ∃ u, execHoldUpFault s = .next u ∧ Sound s u := by
  unfold execHoldUpFault
  (repeat' split) <;> refine ⟨_, rfl, .of (fun cache dict isl ev can keep rails => ?_) (by simp)⟩ <;>
    simp [cache, dict, isl, ev, can, keep, rails]

theorem execHoldUpRecovered_sound (s : State) : ∃ u, execHoldUpRecovered s = .next u ∧ Sound s u := by
  unfold execHoldUpRecovered
  (repeat' split) <;> refine ⟨_, rfl, .of (fun cache dict isl ev can keep rails => ?_) (by simp)⟩ <;>
    simp [cache, dict, isl, ev, can, keep, rails]

theorem execPrecisionReached_sound (s : State) : ∃ u, execPrecisionReached s = .next u ∧ Sound s u := by
  unfold execPrecisionReached
  dsimp only
  (repeat' split) <;> refine ⟨_, rfl, .of (fun cache dict isl ev can keep rails => ?_) (by simp)⟩ <;>
    simp [cache, dict, isl, ev, can, keep, rails]

theorem execEndOfDischarge_sound (c : Channel) (s : State) : ∃ u, execEndOfDischarge c s = .next u ∧ Sound s u := by
  unfold execEndOfDischarge
  dsimp only
  (repeat' split) <;> refine ⟨_, rfl, .of (fun cache dict isl ev can keep rails => ?_) (by simp (maxDischargeDepth := 20)
      [calibrate_frame, finishLearn_frame, geyserRecharge_frame, publishNone_frame])⟩ <;>
    simp (maxDischargeDepth := 20) [cache, dict, isl, ev, can, keep, rails, calibrate_frame, finishLearn_frame,
      geyserRecharge_frame]

theorem execOcvRelaxed_sound (c : Channel) (s : State) : ∃ u, execOcvRelaxed c s = .next u ∧ Sound s u := by
  unfold execOcvRelaxed
  dsimp only
  (repeat' split) <;> refine ⟨_, rfl, .of (fun cache dict isl ev can keep rails => ?_) (by simp
      [calibrate_frame, endAwaiting_frame])⟩ <;>
    simp [cache, dict, isl, ev, can, keep, rails, calibrate_frame, endAwaiting_frame]

theorem execImpedanceSample_sound (c : Channel) (dmv dma : Int) (s : State) : ∃ u, execImpedanceSample c dmv dma s = .next u ∧
    Sound s u := by
  unfold execImpedanceSample
  dsimp only
  (repeat' split) <;> refine ⟨_, rfl, .of (fun cache dict isl ev can keep rails => ?_) (by simp
      [discardImpedance_frame, takeImpedance_frame])⟩ <;>
    simp [cache, dict, isl, ev, can, keep, rails, discardImpedance_frame, takeImpedance_frame]

theorem execGeyserDue_sound (c : Channel) (s : State) : ∃ u, execGeyserDue c s = .next u ∧ Sound s u := by
  unfold execGeyserDue
  (repeat' split) <;> refine ⟨_, rfl, .of (fun cache dict isl ev can keep rails => ?_) (by simp)⟩ <;>
    simp [cache, dict, isl, ev, can, keep, rails]

theorem execGeyserStart_sound (c : Channel) (s : State) : ∃ u, execGeyserStart c s = .next u ∧ Sound s u := by
  unfold execGeyserStart
  (repeat' split) <;> refine ⟨_, rfl, .of (fun cache dict isl ev can keep rails => ?_) (by simp)⟩ <;>
    simp [cache, dict, isl, ev, can, keep, rails]

theorem execGeyserRequestStart_sound (p : Session) (c : Channel) (s : State) : ∃ u, execGeyserRequestStart p c s = .next u ∧ Sound
    s u :=
  ⟨_, rfl, sessionPut_sound ..⟩

theorem execGeyserRequestAbort_sound (p : Session) (c : Channel) (s : State) : ∃ u, execGeyserRequestAbort p c s = .next u ∧ Sound
    s u :=
  ⟨_, rfl, sessionPut_sound ..⟩

theorem execChannelReset_sound (p : Session) (c : Channel) (s : State) : ∃ u, execChannelReset p c s = .next u ∧ Sound s u :=
  ⟨_, rfl, sessionPut_sound ..⟩

theorem execSnapshotHourly_sound (s : State) : ∃ u, execSnapshotHourly s = .next u ∧ Sound s u := by
  unfold execSnapshotHourly
  (repeat' split) <;> refine ⟨_, rfl, .of (fun cache dict isl ev can keep rails => ?_) (by simp)⟩ <;>
    simp [cache, dict, isl, ev, can, keep, rails]

theorem execEventVectorRaise_sound (fn : Fin 16) (s : State) : ∃ u, execEventVectorRaise fn s = .next u ∧ Sound s u := by
  unfold execEventVectorRaise
  dsimp only
  (repeat' split) <;> refine ⟨_, rfl, .of (fun cache dict isl ev can keep rails => ?_) (by simp)⟩ <;>
    simp [cache, dict, isl, ev, can, keep, rails]

theorem execEventAcknowledge_sound (p : Session) (bank : Fin 28) (bits : BitVec 64) (s : State) : ∃ u, execEventAcknowledge p bank
    bits s = .next u ∧ Sound s u :=
  ⟨_, rfl, sessionPut_sound ..⟩

theorem execClearLog_sound (p : Session) (s : State) : ∃ u, execClearLog p s = .next u ∧ Sound s u :=
  ⟨_, rfl, sessionPut_sound ..⟩

theorem execProgramFail_sound (die : Fin 16) (s : State) : ∃ u, execProgramFail die s = .next u ∧ Sound s u := by
  unfold execProgramFail
  (repeat' split) <;> refine ⟨_, rfl, .of (fun cache dict isl ev can keep rails => ?_) (by simp (maxDischargeDepth := 20))⟩ <;>
    simp (maxDischargeDepth := 20) [cache, dict, isl, ev, can, keep, rails]

theorem execEraseFail_sound (die : Fin 16) (s : State) : ∃ u, execEraseFail die s = .next u ∧ Sound s u := by
  unfold execEraseFail
  (repeat' split) <;> refine ⟨_, rfl, .of (fun cache dict isl ev can keep rails => ?_) (by simp)⟩ <;>
    simp [cache, dict, isl, ev, can, keep, rails]

theorem execDieCommandTimeout_sound (die : Fin 16) (s : State) : ∃ u, execDieCommandTimeout die s = .next u ∧ Sound s u := by
  unfold execDieCommandTimeout
  dsimp only
  (repeat' split) <;> refine ⟨_, rfl, .of (fun cache dict isl ev can keep rails => ?_) (by simp)⟩ <;>
    simp [cache, dict, isl, ev, can, keep, rails]

theorem execBackgroundErase_sound (die : Fin 16) (s : State) : ∃ u, execBackgroundErase die s = .next u ∧ Sound s u := by
  unfold execBackgroundErase
  (repeat' split) <;> refine ⟨_, rfl, .of (fun cache dict isl ev can keep rails => ?_) (by simp)⟩ <;>
    simp [cache, dict, isl, ev, can, keep, rails]

theorem execImageRelease_sound (s : State) : ∃ u, execImageRelease s = .next u ∧ Sound s u := by
  unfold execImageRelease
  (repeat' split) <;> refine ⟨_, rfl, .of (fun cache dict isl ev can keep rails => ?_) (by simp)⟩ <;>
    simp [cache, dict, isl, ev, can, keep, rails]

theorem execReleaseRequest_sound (p : Session) (s : State) : ∃ u, execReleaseRequest p s = .next u ∧ Sound s u :=
  ⟨_, rfl, sessionPut_sound ..⟩

theorem execDieRetire_sound (p : Session) (die : Fin 16) (s : State) : ∃ u, execDieRetire p die s = .next u ∧ Sound s u :=
  ⟨_, rfl, sessionPut_sound ..⟩

theorem execDieReturn_sound (p : Session) (die : Fin 16) (answers : Bool) (s : State) : ∃ u, execDieReturn p die answers s =
    .next u ∧ Sound s u :=
  ⟨_, rfl, fromSession_sound _ _ _ _ (dictWriteA_sound _ _ _ _ _) s⟩

theorem execProbationBlockVerified_sound (die : Fin 16) (ok : Bool) (s : State) : ∃ u, execProbationBlockVerified die ok s = .next
    u ∧ Sound s u := by
  unfold execProbationBlockVerified
  (repeat' split) <;> refine ⟨_, rfl, .of (fun cache dict isl ev can keep rails => ?_) (by simp
      [verifyBlock_frame])⟩ <;>
    simp [cache, dict, isl, ev, can, keep, rails, verifyBlock_frame]

theorem execSanitize_sound (p : Session) (v : Byte) (s : State) : ∃ u, execSanitize p v s = .next u ∧ Sound s u :=
  ⟨_, rfl, sessionPut_sound ..⟩

theorem execSanitizeComplete_sound (s : State) : ∃ u, execSanitizeComplete s = .next u ∧ Sound s u := by
  unfold execSanitizeComplete
  dsimp only
  (repeat' split) <;> refine ⟨_, rfl, .of (fun cache dict isl ev can keep rails => ?_) (by simp)⟩ <;>
    simp [cache, dict, isl, ev, can, keep, rails]

theorem execPreSinterPageProgrammed_sound (s : State) : ∃ u, execPreSinterPageProgrammed s = .next u ∧ Sound s u := by
  unfold execPreSinterPageProgrammed
  (repeat' split) <;> refine ⟨_, rfl, .of (fun cache dict isl ev can keep rails => ?_) (by simp
      [pageProgrammed_frame])⟩ <;>
    simp [cache, dict, isl, ev, can, keep, rails, pageProgrammed_frame]

theorem execBackgroundRestoreRead_sound (r : ReadResult) (s : State) : ∃ u, execBackgroundRestoreRead r s = .next u ∧ Sound s u :=
    by
  unfold execBackgroundRestoreRead
  dsimp only
  (repeat' split) <;> refine ⟨_, rfl, .of (fun cache dict isl ev can keep rails => ?_) (by simp
      [readSlots_frame])⟩ <;>
    simp [cache, dict, isl, ev, can, keep, rails, readSlots_frame]

theorem execFunctionLevelReset_sound (fn : Fin 16) (s : State) : ∃ u, execFunctionLevelReset fn s = .next u ∧ Sound s u := by
  unfold execFunctionLevelReset
  (repeat' split) <;> refine ⟨_, rfl, .of (fun cache dict isl ev can keep rails => ?_) (by simp)⟩ <;>
    simp [cache, dict, isl, ev, can, keep, rails]

theorem execVfEnableClear_sound (s : State) : ∃ u, execVfEnableClear s = .next u ∧ Sound s u := by
  unfold execVfEnableClear
  (repeat' split) <;> refine ⟨_, rfl, .of (fun cache dict isl ev can keep rails => ?_) (by
      simp +contextual (maxDischargeDepth := 20))⟩ <;>
    simp +contextual (maxDischargeDepth := 20) [cache, dict, isl, ev, can, keep, rails]

theorem execLinkUp_sound (speed width vfs : Nat) (s : State) : ∃ u, execLinkUp speed width vfs s = .next u ∧ Sound s u := by
  unfold execLinkUp
  dsimp only
  (repeat' split) <;> refine ⟨_, rfl, .of (fun cache dict isl ev can keep rails => ?_) (by simp (maxDischargeDepth := 20))⟩ <;>
    simp (maxDischargeDepth := 20) [cache, dict, isl, ev, can, keep, rails]

theorem execLinkDown_sound (s : State) : ∃ u, execLinkDown s = .next u ∧ Sound s u := by
  unfold execLinkDown
  (repeat' split) <;> refine ⟨_, rfl, .of (fun cache dict isl ev can keep rails => ?_) (by simp)⟩ <;>
    simp [cache, dict, isl, ev, can, keep, rails]

theorem execHotReset_sound (s : State) : ∃ u, execHotReset s = .next u ∧ Sound s u := by
  unfold execHotReset
  (repeat' split) <;> refine ⟨_, rfl, .of (fun cache dict isl ev can keep rails => ?_) (by simp)⟩ <;>
    simp [cache, dict, isl, ev, can, keep, rails]

theorem execBusMasterEnable_sound (fn : Fin 16) (mps mrrs : Nat) (s : State) : ∃ u, execBusMasterEnable fn mps mrrs s = .next u ∧
    Sound s u := by
  unfold execBusMasterEnable
  (repeat' split) <;> refine ⟨_, rfl, .of (fun cache dict isl ev can keep rails => ?_) (by simp)⟩ <;>
    simp [cache, dict, isl, ev, can, keep, rails]

theorem execQueueEnable_sound (fn : Fin 16) (qp : Fin 4) (regs : QueueRegs) (s : State) : ∃ u, execQueueEnable fn qp regs s =
    .next u ∧ Sound s u := by
  unfold execQueueEnable
  (repeat' split) <;> refine ⟨_, rfl, .of (fun cache dict isl ev can keep rails => ?_) (by simp (maxDischargeDepth := 20)
      [startPair_frame])⟩ <;>
    simp (maxDischargeDepth := 20) [cache, dict, isl, ev, can, keep, rails, startPair_frame]

theorem execQueueDisable_sound (fn : Fin 16) (qp : Fin 4) (s : State) : ∃ u, execQueueDisable fn qp s = .next u ∧ Sound s u := by
  unfold execQueueDisable
  dsimp only
  (repeat' split) <;> refine ⟨_, rfl, .of (fun cache dict isl ev can keep rails => ?_) (by
      simp +contextual (maxDischargeDepth := 20))⟩ <;>
    simp +contextual (maxDischargeDepth := 20) [cache, dict, isl, ev, can, keep, rails]

theorem execQueueReadyFall_sound (fn : Fin 16) (qp : Fin 4) (s : State) : ∃ u, execQueueReadyFall fn qp s = .next u ∧ Sound s u :=
    by
  unfold execQueueReadyFall
  (repeat' split) <;> refine ⟨_, rfl, .of (fun cache dict isl ev can keep rails => ?_) (by simp)⟩ <;>
    simp [cache, dict, isl, ev, can, keep, rails]

theorem execSqTailDoorbell_sound (fn : Fin 16) (qp : Fin 4) (value : BitVec 32) (s : State) : ∃ u, execSqTailDoorbell fn qp value
    s = .next u ∧ Sound s u := by
  unfold execSqTailDoorbell
  refine ⟨_, rfl, .of (fun cache dict isl ev can keep rails => ?_) (by simp
      [doorbell_frame])⟩ <;>
    simp [cache, dict, isl, ev, can, keep, rails, doorbell_frame]

theorem execCqHeadDoorbell_sound (fn : Fin 16) (qp : Fin 4) (value : BitVec 32) (s : State) : ∃ u, execCqHeadDoorbell fn qp value
    s = .next u ∧ Sound s u := by
  unfold execCqHeadDoorbell
  refine ⟨_, rfl, .of (fun cache dict isl ev can keep rails => ?_) (by simp
      [doorbell_frame])⟩ <;>
    simp [cache, dict, isl, ev, can, keep, rails, doorbell_frame]

theorem execCommandFetch_sound (results : List FetchResult) (s : State) : ∃ u, execCommandFetch results s = .next u ∧ Sound s u :=
    by
  unfold execCommandFetch
  dsimp only
  (repeat' split) <;> refine ⟨_, rfl, .of (fun cache dict isl ev can keep rails => ?_) (by
      simp +contextual [fetchOne_frame])⟩ <;>
    simp +contextual [cache, dict, isl, ev, can, keep, rails, fetchOne_frame]

theorem execCompletionPost_sound (fn : Fin 16) (qp : Fin 4) (s : State) : ∃ u, execCompletionPost fn qp s = .next u ∧ Sound s u :=
    by
  unfold execCompletionPost
  dsimp only
  (repeat' split) <;> refine ⟨_, rfl, .of (fun cache dict isl ev can keep rails => ?_) (by simp
      [postCompletion_frame, signalPair_frame])⟩ <;>
    simp [cache, dict, isl, ev, can, keep, rails, postCompletion_frame, signalPair_frame]

theorem execIrqAggTimer_sound (fn : Fin 16) (qp : Fin 4) (s : State) : ∃ u, execIrqAggTimer fn qp s = .next u ∧ Sound s u := by
  unfold execIrqAggTimer
  (repeat' split) <;> refine ⟨_, rfl, .of (fun cache dict isl ev can keep rails => ?_) (by simp
      [signalPair_frame])⟩ <;>
    simp [cache, dict, isl, ev, can, keep, rails, signalPair_frame]

theorem execDictionaryWrite_sound (p : Session) (index : BitVec 16) (sub : BitVec 8) (data : List Byte) (s : State) : ∃ u,
    execDictionaryWrite p index sub data s = .next u ∧ Sound s u :=
  ⟨_, rfl, sessionWrite_sound ..⟩

theorem execIslandHandshakeTimeout_sound (p : Session) (index : BitVec 16) (sub : BitVec 8) (data : List Byte) (s : State) :
    ∃ u, execIslandHandshakeTimeout p index sub data s = .next u ∧ Sound s u := by
  unfold execIslandHandshakeTimeout
  dsimp only
  split
  · exact ⟨_, rfl, .refl s⟩
  · have written := fromSession_sound p index sub data (timeoutWrite_sound p index.toNat sub.toNat data (s.ownerOf index.toNat sub.toNat)) s
    exact ⟨_, rfl, .ite (written.trans (afterTimeout_sound ..)) written⟩

theorem execIslandRestart_sound (i : Island) (s : State) : ∃ u, execIslandRestart i s = .next u ∧ Sound s u := by
  unfold execIslandRestart
  split
  · exact ⟨_, rfl, .refl s⟩
  · split
    · exact ⟨_, rfl, stopIsland_sound ..⟩
    · refine ⟨_, rfl, ((startIsland_sound ..).trans (.foldl _ (fun t n => ?_) _ _)).trans (handshakes_sound _)⟩
      split
      · exact (modStream_sound ..).trans (restartEncoder_sound ..)
      · exact .refl t

theorem execEgPublication_sound (s : State) : ∃ u, execEgPublication s = .next u ∧ Sound s u := by
  unfold execEgPublication
  (repeat' split) <;> refine ⟨_, rfl, .of (fun cache dict isl ev can keep rails => ?_) (by simp
      [publish_frame])⟩ <;>
    simp [cache, dict, isl, ev, can, keep, rails]

theorem execEstimatorStale_sound (s : State) : ∃ u, execEstimatorStale s = .next u ∧ Sound s u := by
  unfold execEstimatorStale
  (repeat' split) <;> refine ⟨_, rfl, .of (fun cache dict isl ev can keep rails => ?_) (by simp (maxDischargeDepth := 20))⟩ <;>
    simp (maxDischargeDepth := 20) [cache, dict, isl, ev, can, keep, rails]

theorem execCrystalFail_sound (s : State) : ∃ u, execCrystalFail s = .next u ∧ Sound s u := by
  unfold execCrystalFail
  (repeat' split) <;> refine ⟨_, rfl, .of (fun cache dict isl ev can keep rails => ?_) (by simp)⟩ <;>
    simp [cache, dict, isl, ev, can, keep, rails]

theorem execWallClockWrite_sound (p : Session) (seconds : BitVec 32) (fraction : BitVec 16) (s : State) : ∃ u,
    execWallClockWrite p seconds fraction s = .next u ∧ Sound s u :=
  ⟨_, rfl, (sessionPut_sound ..).trans (sessionPut_sound ..)⟩

theorem execVkeepCollapse_sound (tornKeep tornStore : Bool) (s : State) : ∃ u, execVkeepCollapse tornKeep tornStore s = .next u ∧
    Sound s u := by
  unfold execVkeepCollapse
  dsimp only
  (repeat' split) <;> refine ⟨_, rfl, .of (fun cache dict isl ev can keep rails => ?_) (by simp
      [loseDram_frame, releaseOutputs_frame, tear_frame])⟩ <;>
    simp [cache, dict, isl, ev, can, keep, rails, loseDram_frame, releaseOutputs_frame, tear_frame]

theorem execVkeepRise_sound (wakeHigh : Bool) (s : State) : ∃ u, execVkeepRise wakeHigh s = .next u ∧ Sound s u := by
  unfold execVkeepRise
  dsimp only
  (repeat' split) <;> refine ⟨_, rfl, .of (fun cache dict isl ev can keep rails => ?_) (by simp)⟩ <;>
    simp [cache, dict, isl, ev, can, keep, rails]

theorem execWake_sound (s : State) : ∃ u, execWake s = .next u ∧ Sound s u := by
  unfold execWake
  dsimp only
  (repeat' split) <;> refine ⟨_, rfl, .of (fun cache dict isl ev can keep rails => ?_) (by simp)⟩ <;>
    simp [cache, dict, isl, ev, can, keep, rails]

theorem execBootStepComplete_sound (r : BootReport) (s : State) : ∃ u, execBootStepComplete r s = .next u ∧ Sound s u :=
  ⟨_, rfl, .ite (stepEnds_sound r s) (.refl s)⟩

theorem execBootStepTimeout_sound (s : State) : ∃ u, execBootStepTimeout s = .next u ∧ Sound s u := by
  unfold execBootStepTimeout
  (repeat' split) <;> refine ⟨_, rfl, .of (fun cache dict isl ev can keep rails => ?_) (by simp)⟩ <;>
    simp [cache, dict, isl, ev, can, keep, rails]

theorem execInputQualifyTimeout_sound (s : State) : ∃ u, execInputQualifyTimeout s = .next u ∧ Sound s u := by
  unfold execInputQualifyTimeout
  (repeat' split) <;> refine ⟨_, rfl, .of (fun cache dict isl ev can keep rails => ?_) (by simp)⟩ <;>
    simp [cache, dict, isl, ev, can, keep, rails]

theorem execFirmwareRestart_sound (p : Session) (s : State) : ∃ u, execFirmwareRestart p s = .next u ∧ Sound s u :=
  ⟨_, rfl, sessionPut_sound ..⟩

theorem execColdRestart_sound (p : Session) (s : State) : ∃ u, execColdRestart p s = .next u ∧ Sound s u :=
  ⟨_, rfl, sessionPut_sound ..⟩

theorem execClearHalt_sound (p : Session) (s : State) : ∃ u, execClearHalt p s = .next u ∧ Sound s u :=
  ⟨_, rfl, sessionPut_sound ..⟩

theorem execSleepRequest_sound (p : Session) (s : State) : ∃ u, execSleepRequest p s = .next u ∧ Sound s u :=
  ⟨_, rfl, sessionPut_sound ..⟩

theorem execWatchdogExpiry_sound (s : State) : ∃ u, execWatchdogExpiry s = .next u ∧ Sound s u := by
  unfold execWatchdogExpiry
  dsimp only
  (repeat' split) <;> refine ⟨_, rfl, .of (fun cache dict isl ev can keep rails => ?_) (by simp (maxDischargeDepth := 20))⟩ <;>
    simp (maxDischargeDepth := 20) [cache, dict, isl, ev, can, keep, rails]

theorem execTrialConfirm_sound (s : State) : ∃ u, execTrialConfirm s = .next u ∧ Sound s u := by
  unfold execTrialConfirm
  (repeat' split) <;> refine ⟨_, rfl, .of (fun cache dict isl ev can keep rails => ?_) (by simp)⟩ <;>
    simp [cache, dict, isl, ev, can, keep, rails]

theorem execRestoreProgressUpdate_sound (s : State) : ∃ u, execRestoreProgressUpdate s = .next u ∧ Sound s u := by
  unfold execRestoreProgressUpdate
  (repeat' split) <;> refine ⟨_, rfl, .of (fun cache dict isl ev can keep rails => ?_) (by simp
      [showProgress_frame])⟩ <;>
    simp [cache, dict, isl, ev, can, keep, rails, showProgress_frame]

theorem execRestoreComplete_sound (s : State) : ∃ u, execRestoreComplete s = .next u ∧ Sound s u := by
  unfold execRestoreComplete
  (repeat' split) <;> refine ⟨_, rfl, .of (fun cache dict isl ev can keep rails => ?_) (by simp (maxDischargeDepth := 20)
      [showProgress_frame])⟩ <;>
    simp (maxDischargeDepth := 20) [cache, dict, isl, ev, can, keep, rails, showProgress_frame]

theorem execMbxRead_sound (fn : Fin 16) (irqEn : Bool) (tag : Byte) (index : BitVec 16) (sub : BitVec 8) (len : BitVec 9) (s
    : State) : ∃ u, execMbxRead fn irqEn tag index sub len s = .next u ∧ Sound s u :=
  ⟨_, rfl, mbxServe_sound _ _ _ _ _ _ _ _ (dictRead_sound _ _ _ _) s⟩

theorem execMbxWrite_sound (fn : Fin 16) (irqEn : Bool) (tag : Byte) (index : BitVec 16) (sub : BitVec 8) (data : List Byte)
    (s : State) : ∃ u, execMbxWrite fn irqEn tag index sub data s = .next u ∧ Sound s u :=
  ⟨_, rfl, mbxServe_sound _ _ _ _ _ _ _ _ (dictWrite_sound _ _ _ _) s⟩

theorem execMbxNextEntry_sound (fn : Fin 16) (irqEn : Bool) (tag : Byte) (index : BitVec 16) (sub : BitVec 8) (s : State) :
    ∃ u, execMbxNextEntry fn irqEn tag index sub s = .next u ∧ Sound s u :=
  ⟨_, rfl, mbxServe_sound _ _ _ _ _ _ _ _ (dictNext_sound _ _ _) s⟩

theorem execWindowOpenRead_sound (p : Session) (w : Fin 7) (s : State) : ∃ u, execWindowOpenRead p w s = .next u ∧ Sound s u :=
  ⟨_, rfl, sessionPut_sound ..⟩

theorem execWindowOpenWrite_sound (p : Session) (w : Fin 7) (s : State) : ∃ u, execWindowOpenWrite p w s = .next u ∧ Sound s u :=
  ⟨_, rfl, sessionPut_sound ..⟩

theorem execWindowDataRead_sound (p : Session) (w : Fin 7) (len : Nat) (s : State) : ∃ u, execWindowDataRead p w len s =
    .next u ∧ Sound s u := by
  unfold execWindowDataRead
  split
  · exact ⟨_, rfl, usdoServe_sound _ _ _ (dictRead_sound _ _ _ _) s⟩
  · exact ⟨_, rfl, mbxServe_sound _ _ _ _ _ _ _ _ (dictRead_sound _ _ _ _) s⟩

theorem execWindowDataWrite_sound (p : Session) (w : Fin 7) (data : List Byte) (s : State) : ∃ u, execWindowDataWrite p w data s =
    .next u ∧ Sound s u :=
  ⟨_, rfl, sessionWrite_sound ..⟩

theorem execWindowCommit_sound (p : Session) (w : Fin 7) (s : State) : ∃ u, execWindowCommit p w s = .next u ∧ Sound s u :=
  ⟨_, rfl, sessionPut_sound ..⟩

theorem execWindowCommitComplete_sound (w : Fin 7) (r : CommitEnd) (s : State) : ∃ u, execWindowCommitComplete w r s = .next u ∧
    Sound s u := by
  unfold execWindowCommitComplete
  refine ⟨_, rfl, .of (fun cache dict isl ev can keep rails => ?_) (by simp)⟩ <;>
    simp [cache, dict, isl, ev, can, keep, rails]

theorem execWindowAbort_sound (p : Session) (w : Fin 7) (s : State) : ∃ u, execWindowAbort p w s = .next u ∧ Sound s u :=
  ⟨_, rfl, sessionPut_sound ..⟩

theorem execWindowIdleTimeout_sound (w : Fin 7) (s : State) : ∃ u, execWindowIdleTimeout w s = .next u ∧ Sound s u := by
  unfold execWindowIdleTimeout
  (repeat' split) <;> refine ⟨_, rfl, .of (fun cache dict isl ev can keep rails => ?_) (by simp)⟩ <;>
    simp [cache, dict, isl, ev, can, keep, rails]

theorem execInputFail_sound (s : State) : ∃ u, execInputFail s = .next u ∧ Sound s u := by
  unfold execInputFail
  dsimp only
  (repeat' split) <;> refine ⟨_, rfl, .of (fun cache dict isl ev can keep rails => ?_) (by simp)⟩ <;>
    simp [cache, dict, isl, ev, can, keep, rails]

theorem execSupervisorLedOutage_sound (s : State) : ∃ u, execSupervisorLedOutage s = .next u ∧ Sound s u := by
  unfold execSupervisorLedOutage
  (repeat' split) <;> refine ⟨_, rfl, .of (fun cache dict isl ev can keep rails => ?_) (by simp)⟩ <;>
    simp [cache, dict, isl, ev, can, keep, rails]

theorem execDrainPoint_sound (s : State) : ∃ u, execDrainPoint s = .next u ∧ Sound s u := by
  unfold execDrainPoint
  (repeat' split) <;> refine ⟨_, rfl, .of (fun cache dict isl ev can keep rails => ?_) (by simp)⟩ <;>
    simp [cache, dict, isl, ev, can, keep, rails]

theorem execWarnWindowEnd_sound (s : State) : ∃ u, execWarnWindowEnd s = .next u ∧ Sound s u := by
  unfold execWarnWindowEnd
  dsimp only
  (repeat' split) <;> refine ⟨_, rfl, .of (fun cache dict isl ev can keep rails => ?_) (by simp (maxDischargeDepth := 20)
      [settleCheck_frame])⟩ <;>
    simp (maxDischargeDepth := 20) [cache, dict, isl, ev, can, keep, rails]

theorem execDrvactLow_sound (k : Fin 2) (s : State) : ∃ u, execDrvactLow k s = .next u ∧ Sound s u := by
  unfold execDrvactLow
  (repeat' split) <;> refine ⟨_, rfl, .of (fun cache dict isl ev can keep rails => ?_) (by simp
      [settleCheck_frame])⟩ <;>
    simp [cache, dict, isl, ev, can, keep, rails]

theorem execDriveActiveStuck_sound (s : State) : ∃ u, execDriveActiveStuck s = .next u ∧ Sound s u := by
  unfold execDriveActiveStuck
  (repeat' split) <;> refine ⟨_, rfl, .of (fun cache dict isl ev can keep rails => ?_) (by simp)⟩ <;>
    simp [cache, dict, isl, ev, can, keep, rails]

theorem execDriveSettleEnd_sound (s : State) : ∃ u, execDriveSettleEnd s = .next u ∧ Sound s u := by
  unfold execDriveSettleEnd
  (repeat' split) <;> refine ⟨_, rfl, .of (fun cache dict isl ev can keep rails => ?_) (by simp)⟩ <;>
    simp [cache, dict, isl, ev, can, keep, rails]

theorem execSinterDeadlineExpiry_sound (s : State) : ∃ u, execSinterDeadlineExpiry s = .next u ∧ Sound s u := by
  unfold execSinterDeadlineExpiry
  (repeat' split) <;> refine ⟨_, rfl, .of (fun cache dict isl ev can keep rails => ?_) (by simp)⟩ <;>
    simp [cache, dict, isl, ev, can, keep, rails]

theorem execSimmerTimerExpiry_sound (s : State) : ∃ u, execSimmerTimerExpiry s = .next u ∧ Sound s u := by
  unfold execSimmerTimerExpiry
  (repeat' split) <;> refine ⟨_, rfl, .of (fun cache dict isl ev can keep rails => ?_) (by simp)⟩ <;>
    simp [cache, dict, isl, ev, can, keep, rails]

theorem execDeadlineAckTimeout_sound (s : State) : ∃ u, execDeadlineAckTimeout s = .next u ∧ Sound s u := by
  unfold execDeadlineAckTimeout
  (repeat' split) <;> refine ⟨_, rfl, .of (fun cache dict isl ev can keep rails => ?_) (by simp)⟩ <;>
    simp [cache, dict, isl, ev, can, keep, rails]

theorem execSinterCopyComplete_sound (energyMj durationMs : Nat) (s : State) : ∃ u, execSinterCopyComplete energyMj durationMs s =
    .next u ∧ Sound s u := by
  unfold execSinterCopyComplete
  dsimp only
  (repeat' split) <;> refine ⟨_, rfl, .of (fun cache dict isl ev can keep rails => ?_) (by simp
      [copyAll_frame])⟩ <;>
    simp [cache, dict, isl, ev, can, keep, rails, copyAll_frame]

theorem execManifestCommitted_sound (s : State) : ∃ u, execManifestCommitted s = .next u ∧ Sound s u := by
  unfold execManifestCommitted
  dsimp only
  (repeat' split) <;> refine ⟨_, rfl, .of (fun cache dict isl ev can keep rails => ?_) (by simp (maxDischargeDepth := 20)
      [chargeAgain_frame, commitDone_frame, noteShort_frame, resumeServe_frame])⟩ <;>
    simp (maxDischargeDepth := 20) [cache, dict, isl, ev, can, keep, rails, chargeAgain_frame, commitDone_frame, noteShort_frame,
      resumeServe_frame]

theorem execPowerReturn_sound (s : State) : ∃ u, execPowerReturn s = .next u ∧ Sound s u := by
  unfold execPowerReturn
  dsimp only
  (repeat' split) <;> refine ⟨_, rfl, .of (fun cache dict isl ev can keep rails => ?_) (by simp (maxDischargeDepth := 20)
      [sagOver_frame])⟩ <;>
    simp (maxDischargeDepth := 20) [cache, dict, isl, ev, can, keep, rails, sagOver_frame]

theorem execKeepTimeExpiry_sound (s : State) : ∃ u, execKeepTimeExpiry s = .next u ∧ Sound s u := by
  unfold execKeepTimeExpiry
  (repeat' split) <;> refine ⟨_, rfl, .of (fun cache dict isl ev can keep rails => ?_) (by simp)⟩ <;>
    simp [cache, dict, isl, ev, can, keep, rails]

theorem execKeepFloorReached_sound (s : State) : ∃ u, execKeepFloorReached s = .next u ∧ Sound s u := by
  unfold execKeepFloorReached
  (repeat' split) <;> refine ⟨_, rfl, .of (fun cache dict isl ev can keep rails => ?_) (by simp)⟩ <;>
    simp [cache, dict, isl, ev, can, keep, rails]

theorem execScanSlot_sound (reading : Int) (s : State) : ∃ u, execScanSlot reading s = .next u ∧ Sound s u := by
  unfold execScanSlot
  split
  · exact ⟨_, rfl, .refl s⟩
  · extract_lets k _ t
    have moved : Sound s t := .of (fun cache dict isl ev can keep _ => ⟨cache, dict, isl, ev, can, keep, Nat.mod_lt _ (by decide)⟩) rfl
    refine ⟨_, rfl, moved.trans ?_⟩
    generalize railMv s (Fin.ofNat 12 k) reading = mv, Fin.ofNat 12 k = r, Fin.ofNat 6 (k - 12) = cell
    exact .ite ((scanRail_sound ..).trans (haltIslands_sound _)) (.ite (scanCell_sound ..) (.ite (scanDie_sound ..) (scanVkeep_sound ..)))

theorem execRailWarning_sound (r : Fin 12) (s : State) : ∃ u, execRailWarning r s = .next u ∧ Sound s u := by
  unfold execRailWarning
  dsimp only
  (repeat' split) <;> refine ⟨_, rfl, .of (fun cache dict isl ev can keep rails => ?_) (by simp)⟩ <;>
    simp [cache, dict, isl, ev, can, keep, rails]

theorem execRailCleared_sound (r : Fin 12) (s : State) : ∃ u, execRailCleared r s = .next u ∧ Sound s u := by
  unfold execRailCleared
  dsimp only
  (repeat' split) <;> refine ⟨_, rfl, .of (fun cache dict isl ev can keep rails => ?_) (by simp
      [goodRail_frame])⟩ <;>
    simp [cache, dict, isl, ev, can, keep, rails, goodRail_frame]

theorem execRailFaultTime_sound (r : Fin 12) (s : State) : ∃ u, execRailFaultTime r s = .next u ∧ Sound s u := by
  unfold execRailFaultTime
  (repeat' split) <;> refine ⟨_, rfl, .of (fun cache dict isl ev can keep rails => ?_) (by simp (maxDischargeDepth := 20)
      [afterPull_frame, latchRail_frame])⟩ <;>
    simp (maxDischargeDepth := 20) [cache, dict, isl, ev, can, keep, rails, afterPull_frame, latchRail_frame]

theorem execRampLagTrip_sound (g : Fin 8) (lagMv : Nat) (s : State) : ∃ u, execRampLagTrip g lagMv s = .next u ∧ Sound s u := by
  unfold execRampLagTrip
  refine ⟨_, rfl, .of (fun cache dict isl ev can keep rails => ?_) (by simp)⟩ <;>
    simp [cache, dict, isl, ev, can, keep, rails]

theorem execRampEnd_sound (g : Fin 8) (lagMv : Nat) (s : State) : ∃ u, execRampEnd g lagMv s = .next u ∧ Sound s u := by
  unfold execRampEnd
  dsimp only
  (repeat' split) <;> refine ⟨_, rfl, .of (fun cache dict isl ev can keep rails => ?_) (by simp (maxDischargeDepth := 20))⟩ <;>
    simp (maxDischargeDepth := 20) [cache, dict, isl, ev, can, keep, rails]

theorem execRampTimeout_sound (g : Fin 8) (lagMv : Nat) (s : State) : ∃ u, execRampTimeout g lagMv s = .next u ∧ Sound s u := by
  unfold execRampTimeout
  refine ⟨_, rfl, .of (fun cache dict isl ev can keep rails => ?_) (by simp)⟩ <;>
    simp [cache, dict, isl, ev, can, keep, rails]

theorem execRailGood_sound (r : Fin 12) (s : State) : ∃ u, execRailGood r s = .next u ∧ Sound s u := by
  unfold execRailGood
  dsimp only
  (repeat' split) <;> refine ⟨_, rfl, .of (fun cache dict isl ev can keep rails => ?_) (by simp
      [goodRail_frame])⟩ <;>
    simp [cache, dict, isl, ev, can, keep, rails, goodRail_frame]

theorem execRailGoodTimeout_sound (r : Fin 12) (s : State) : ∃ u, execRailGoodTimeout r s = .next u ∧ Sound s u := by
  unfold execRailGoodTimeout
  dsimp only
  (repeat' split) <;> refine ⟨_, rfl, .of (fun cache dict isl ev can keep rails => ?_) (by simp)⟩ <;>
    simp [cache, dict, isl, ev, can, keep, rails]

theorem execUpStepDelay_sound (s : State) : ∃ u, execUpStepDelay s = .next u ∧ Sound s u := by
  unfold execUpStepDelay
  dsimp only
  (repeat' split) <;> refine ⟨_, rfl, .of (fun cache dict isl ev can keep rails => ?_) (by simp
      [upFrom_frame])⟩ <;>
    simp [cache, dict, isl, ev, can, keep, rails, upFrom_frame]

theorem execDownStepEnd_sound (s : State) : ∃ u, execDownStepEnd s = .next u ∧ Sound s u := by
  unfold execDownStepEnd
  split
  · exact ⟨_, rfl, .refl s⟩
  · exact ⟨_, rfl, downStepDone_sound s⟩

theorem execDownStepTimeout_sound (s : State) : ∃ u, execDownStepTimeout s = .next u ∧ Sound s u := by
  unfold execDownStepTimeout
  split
  · exact ⟨_, rfl, .refl s⟩
  · exact ⟨_, rfl, (raise_sound ..).trans (downStepDone_sound _)⟩

theorem execEnableGood_sound (s : State) : ∃ u, execEnableGood s = .next u ∧ Sound s u := by
  unfold execEnableGood
  dsimp only
  (repeat' split) <;> refine ⟨_, rfl, .of (fun cache dict isl ev can keep rails => ?_) (by simp)⟩ <;>
    simp [cache, dict, isl, ev, can, keep, rails]

theorem execEnableTimeout_sound (s : State) : ∃ u, execEnableTimeout s = .next u ∧ Sound s u := by
  unfold execEnableTimeout
  dsimp only
  (repeat' split) <;> refine ⟨_, rfl, .of (fun cache dict isl ev can keep rails => ?_) (by simp (maxDischargeDepth := 20))⟩ <;>
    simp (maxDischargeDepth := 20) [cache, dict, isl, ev, can, keep, rails]

theorem execRailMask_sound (p : Session) (r : Fin 12) (v : Byte) (s : State) : ∃ u, execRailMask p r v s = .next u ∧ Sound s u :=
  ⟨_, rfl, sessionPut_sound ..⟩

theorem execRailSwitchOff_sound (p : Session) (r : Fin 12) (s : State) : ∃ u, execRailSwitchOff p r s = .next u ∧ Sound s u :=
  ⟨_, rfl, sessionPut_sound ..⟩

theorem execRailSwitchOn_sound (p : Session) (r : Fin 12) (s : State) : ∃ u, execRailSwitchOn p r s = .next u ∧ Sound s u :=
  ⟨_, rfl, sessionPut_sound ..⟩

theorem execResetRelease_sound (k : Fin 4) (s : State) : ∃ u, execResetRelease k s = .next u ∧ Sound s u := by
  unfold execResetRelease
  (repeat' split) <;> refine ⟨_, rfl, .of (fun cache dict isl ev can keep rails => ?_) (by simp)⟩ <;>
    simp [cache, dict, isl, ev, can, keep, rails]

theorem execResetPulse_sound (p : Session) (k : Fin 4) (s : State) : ∃ u, execResetPulse p k s = .next u ∧ Sound s u :=
  ⟨_, rfl, sessionPut_sound ..⟩

theorem execTrimTargetWrite_sound (p : Session) (t : Fin 4) (v : BitVec 16) (s : State) : ∃ u, execTrimTargetWrite p t v s = .next
    u ∧ Sound s u :=
  ⟨_, rfl, sessionPut_sound ..⟩

theorem execTrimTargetReached_sound (t : Fin 4) (s : State) : ∃ u, execTrimTargetReached t s = .next u ∧ Sound s u := by
  unfold execTrimTargetReached
  dsimp only
  (repeat' split) <;> refine ⟨_, rfl, .of (fun cache dict isl ev can keep rails => ?_) (by simp)⟩ <;>
    simp [cache, dict, isl, ev, can, keep, rails]

theorem execKeepStoreWrite_sound (s : State) : ∃ u, execKeepStoreWrite s = .next u ∧ Sound s u := by
  unfold execKeepStoreWrite
  dsimp only
  (repeat' split) <;> refine ⟨_, rfl, .of (fun cache dict isl ev can keep rails => ?_) (by simp)⟩ <;>
    simp [cache, dict, isl, ev, can, keep, rails]

theorem execTremorAdvance_sound (s : State) : ∃ u, execTremorAdvance s = .next u ∧ Sound s u := by
  unfold execTremorAdvance
  (repeat' split) <;> refine ⟨_, rfl, .of (fun cache dict isl ev can keep rails => ?_) (by simp)⟩ <;>
    simp [cache, dict, isl, ev, can, keep, rails]

theorem execTremorRelease_sound (s : State) : ∃ u, execTremorRelease s = .next u ∧ Sound s u := by
  unfold execTremorRelease
  dsimp only
  (repeat' split) <;> refine ⟨_, rfl, .of (fun cache dict isl ev can keep rails => ?_) (by simp)⟩ <;>
    simp [cache, dict, isl, ev, can, keep, rails]

theorem execTremorLineFall_sound (s : State) : ∃ u, execTremorLineFall s = .next u ∧ Sound s u := by
  unfold execTremorLineFall
  refine ⟨_, rfl, .of (fun cache dict isl ev can keep rails => ?_) (by simp)⟩ <;>
    simp [cache, dict, isl, ev, can, keep, rails]

theorem execTremorReset_sound (s : State) : ∃ u, execTremorReset s = .next u ∧ Sound s u := by
  unfold execTremorReset
  (repeat' split) <;> refine ⟨_, rfl, .of (fun cache dict isl ev can keep rails => ?_) (by simp)⟩ <;>
    simp [cache, dict, isl, ev, can, keep, rails]

theorem execTremorDownRequest_sound (s : State) : ∃ u, execTremorDownRequest s = .next u ∧ Sound s u := by
  unfold execTremorDownRequest
  (repeat' split) <;> refine ⟨_, rfl, .of (fun cache dict isl ev can keep rails => ?_) (by simp)⟩ <;>
    simp [cache, dict, isl, ev, can, keep, rails]

theorem execTremorSendDownRequest_sound (s : State) : ∃ u, execTremorSendDownRequest s = .next u ∧ Sound s u := by
  unfold execTremorSendDownRequest
  dsimp only
  (repeat' split) <;> refine ⟨_, rfl, .of (fun cache dict isl ev can keep rails => ?_) (by simp)⟩ <;>
    simp [cache, dict, isl, ev, can, keep, rails]

theorem execTremorSendReset_sound (s : State) : ∃ u, execTremorSendReset s = .next u ∧ Sound s u := by
  unfold execTremorSendReset
  dsimp only
  (repeat' split) <;> refine ⟨_, rfl, .of (fun cache dict isl ev can keep rails => ?_) (by simp)⟩ <;>
    simp [cache, dict, isl, ev, can, keep, rails]

theorem execTremorBootHold_sound (s : State) : ∃ u, execTremorBootHold s = .next u ∧ Sound s u := by
  unfold execTremorBootHold
  dsimp only
  (repeat' split) <;> refine ⟨_, rfl, .of (fun cache dict isl ev can keep rails => ?_) (by simp)⟩ <;>
    simp [cache, dict, isl, ev, can, keep, rails]

theorem execGatherWaiting_sound (s : State) : ∃ u, execGatherWaiting s = .next u ∧ Sound s u := by
  unfold execGatherWaiting
  (repeat' split) <;> refine ⟨_, rfl, .of (fun cache dict isl ev can keep rails => ?_) (by simp)⟩ <;>
    simp [cache, dict, isl, ev, can, keep, rails]

theorem execTremorStepTimeout_sound (s : State) : ∃ u, execTremorStepTimeout s = .next u ∧ Sound s u := by
  unfold execTremorStepTimeout
  (repeat' split) <;> refine ⟨_, rfl, .of (fun cache dict isl ev can keep rails => ?_) (by simp)⟩ <;>
    simp [cache, dict, isl, ev, can, keep, rails]

theorem execTremorWireFault_sound (s : State) : ∃ u, execTremorWireFault s = .next u ∧ Sound s u := by
  unfold execTremorWireFault
  (repeat' split) <;> refine ⟨_, rfl, .of (fun cache dict isl ev can keep rails => ?_) (by simp)⟩ <;>
    simp [cache, dict, isl, ev, can, keep, rails]

theorem execPixelRowComplete_sound (n : Fin 16) (ringFill : Nat) (r : CodeResult) (s : State) : ∃ u, execPixelRowComplete n
    ringFill r s = .next u ∧ Sound s u := by
  unfold execPixelRowComplete
  dsimp only
  (repeat' split) <;> refine ⟨_, rfl, .of (fun cache dict isl ev can keep rails => ?_) (by simp (maxDischargeDepth := 20)
      [fillRing_frame, rowDone_frame])⟩ <;>
    simp (maxDischargeDepth := 20) [cache, dict, isl, ev, can, keep, rails, fillRing_frame, rowDone_frame]

theorem execSyntaxRingCleared_sound (ringFill : Nat) (s : State) : ∃ u, execSyntaxRingCleared ringFill s = .next u ∧ Sound s u :=
    by
  unfold execSyntaxRingCleared
  (repeat' split) <;> refine ⟨_, rfl, .of (fun cache dict isl ev can keep rails => ?_) (by simp)⟩ <;>
    simp [cache, dict, isl, ev, can, keep, rails]

theorem execLiveSliceWrite_sound (n : Fin 16) (nal : List Byte) (consumer : BitVec 64) (s : State) : ∃ u, execLiveSliceWrite n nal
    consumer s = .next u ∧ Sound s u := by
  unfold execLiveSliceWrite
  dsimp only
  (repeat' split) <;> refine ⟨_, rfl, .of (fun cache dict isl ev can keep rails => ?_) (by simp
      [liveFrameDone_frame, putSlice_frame])⟩ <;>
    simp [cache, dict, isl, ev, can, keep, rails, liveFrameDone_frame, putSlice_frame]

theorem execForceIdr_sound (p : Session) (n : Fin 16) (s : State) : ∃ u, execForceIdr p n s = .next u ∧ Sound s u :=
  ⟨_, rfl, sessionPut_sound ..⟩

theorem execSegmentFlush_sound (n : Fin 16) (s : State) : ∃ u, execSegmentFlush n s = .next u ∧ Sound s u := by
  unfold execSegmentFlush
  dsimp only
  (repeat' split) <;> refine ⟨_, rfl, .of (fun cache dict isl ev can keep rails => ?_) (by simp)⟩ <;>
    simp [cache, dict, isl, ev, can, keep, rails]

theorem execRecordingFrameEncoded_sound (n : Fin 16) (nal : List Byte) (s : State) : ∃ u, execRecordingFrameEncoded n nal s =
    .next u ∧ Sound s u := by
  unfold execRecordingFrameEncoded
  dsimp only
  (repeat' split) <;> refine ⟨_, rfl, .of (fun cache dict isl ev can keep rails => ?_) (by simp)⟩ <;>
    simp [cache, dict, isl, ev, can, keep, rails]

theorem execDecodeOpen_sound (p : Session) (d : Fin 2) (s : State) : ∃ u, execDecodeOpen p d s = .next u ∧ Sound s u :=
  ⟨_, rfl, sessionPut_sound ..⟩

theorem execDecodeClose_sound (p : Session) (d : Fin 2) (s : State) : ∃ u, execDecodeClose p d s = .next u ∧ Sound s u :=
  ⟨_, rfl, sessionPut_sound ..⟩

theorem execDecodeEndOfInput_sound (p : Session) (d : Fin 2) (s : State) : ∃ u, execDecodeEndOfInput p d s = .next u ∧ Sound s u
    :=
  ⟨_, rfl, sessionPut_sound ..⟩

theorem execDecodePictureOutput_sound (d : Fin 2) (r : DecodeResult) (s : State) : ∃ u, execDecodePictureOutput d r s = .next u ∧
    Sound s u := by
  unfold execDecodePictureOutput
  (repeat' split) <;> refine ⟨_, rfl, .of (fun cache dict isl ev can keep rails => ?_) (by simp
      [lastPicture_frame])⟩ <;>
    simp [cache, dict, isl, ev, can, keep, rails, lastPicture_frame]

/-! ### What a command and a step do -/

theorem exec_sound (c : Instr) (s : State) : ∃ t, exec c s = .next t ∧ Sound s t :=
  match c with
  | .dictionaryWrite p index sub data => execDictionaryWrite_sound p index sub data s
  | .islandHandshakeTimeout p index sub data => execIslandHandshakeTimeout_sound p index sub data s
  | .islandRestart isl => execIslandRestart_sound isl s
  | .egPublication => execEgPublication_sound s
  | .estimatorStale => execEstimatorStale_sound s
  | .crystalFail => execCrystalFail_sound s
  | .wallClockWrite p seconds fraction => execWallClockWrite_sound p seconds fraction s
  | .sample c mv ma dt => execSample_sound c mv ma dt s
  | .vkeepCollapse tornKeep tornStore => execVkeepCollapse_sound tornKeep tornStore s
  | .vkeepRise wakeHigh => execVkeepRise_sound wakeHigh s
  | .wake => execWake_sound s
  | .bootStepComplete r => execBootStepComplete_sound r s
  | .bootStepTimeout => execBootStepTimeout_sound s
  | .inputQualifyTimeout => execInputQualifyTimeout_sound s
  | .firmwareRestart p => execFirmwareRestart_sound p s
  | .coldRestart p => execColdRestart_sound p s
  | .clearHalt p => execClearHalt_sound p s
  | .sleepRequest p => execSleepRequest_sound p s
  | .watchdogExpiry => execWatchdogExpiry_sound s
  | .trialConfirm => execTrialConfirm_sound s
  | .restoreProgressUpdate => execRestoreProgressUpdate_sound s
  | .restoreComplete => execRestoreComplete_sound s
  | .onDemandFetchComplete id r eccBad => execOnDemandFetchComplete_sound id r eccBad s
  | .encryptionWrite p v => execEncryptionWrite_sound p v s
  | .expertOpen p code => execExpertOpen_sound p code s
  | .expertClose p => execExpertClose_sound p s
  | .expertIdleTimeout => execExpertIdleTimeout_sound s
  | .expertLockoutEnd => execExpertLockoutEnd_sound s
  | .expertCodeWrite p code => execExpertCodeWrite_sound p code s
  | .configLockWrite p v => execConfigLockWrite_sound p v s
  | .storeAll p sig => execStoreAll_sound p sig s
  | .storeCommunication p sig => execStoreCommunication_sound p sig s
  | .storeApplication p sig => execStoreApplication_sound p sig s
  | .storeComplete ok => execStoreComplete_sound ok s
  | .restoreDefaultsAll p sig => execRestoreDefaultsAll_sound p sig s
  | .nmtStart node => execNmtStart_sound node s
  | .nmtStop node => execNmtStop_sound node s
  | .nmtEnterPreOperational node => execNmtEnterPreOperational_sound node s
  | .nmtResetNode node => execNmtResetNode_sound node s
  | .nmtResetCommunication node => execNmtResetCommunication_sound node s
  | .usdoRequest client req => execUsdoRequest_sound client req s
  | .heartbeat => execHeartbeat_sound s
  | .tpdoTransmit k => execTpdoTransmit_sound k s
  | .mbxRead fn irqEn tag index sub len => execMbxRead_sound fn irqEn tag index sub len s
  | .mbxWrite fn irqEn tag index sub data => execMbxWrite_sound fn irqEn tag index sub data s
  | .mbxNextEntry fn irqEn tag index sub => execMbxNextEntry_sound fn irqEn tag index sub s
  | .windowOpenRead p w => execWindowOpenRead_sound p w s
  | .windowOpenWrite p w => execWindowOpenWrite_sound p w s
  | .windowDataRead p w len => execWindowDataRead_sound p w len s
  | .windowDataWrite p w data => execWindowDataWrite_sound p w data s
  | .windowCommit p w => execWindowCommit_sound p w s
  | .windowCommitComplete w r => execWindowCommitComplete_sound w r s
  | .windowAbort p w => execWindowAbort_sound p w s
  | .windowIdleTimeout w => execWindowIdleTimeout_sound w s
  | .functionLevelReset fn => execFunctionLevelReset_sound fn s
  | .vfEnableClear => execVfEnableClear_sound s
  | .linkUp speed width vfs => execLinkUp_sound speed width vfs s
  | .linkDown => execLinkDown_sound s
  | .hotReset => execHotReset_sound s
  | .busMasterEnable fn mps mrrs => execBusMasterEnable_sound fn mps mrrs s
  | .queueEnable fn qp regs => execQueueEnable_sound fn qp regs s
  | .queueDisable fn qp => execQueueDisable_sound fn qp s
  | .queueReadyFall fn qp => execQueueReadyFall_sound fn qp s
  | .sqTailDoorbell fn qp value => execSqTailDoorbell_sound fn qp value s
  | .cqHeadDoorbell fn qp value => execCqHeadDoorbell_sound fn qp value s
  | .commandFetch results => execCommandFetch_sound results s
  | .put id elems => execPut_sound id elems s
  | .putApply id r => execPutApply_sound id r s
  | .get id elems eccBad => execGet_sound id elems eccBad s
  | .clean id => execClean_sound id s
  | .drop id => execDrop_sound id s
  | .list id elems => execList_sound id elems s
  | .fence id => execFence_sound id s
  | .fenceComplete id => execFenceComplete_sound id s
  | .segmentRead id elems eccBad => execSegmentRead_sound id elems eccBad s
  | .completionPost fn qp => execCompletionPost_sound fn qp s
  | .irqAggTimer fn qp => execIrqAggTimer_sound fn qp s
  | .ebyteReset p => execEbyteReset_sound p s
  | .channelRemoved c => execChannelRemoved_sound c s
  | .channelConfigWrite p index sub data => execChannelConfigWrite_sound p index sub data s
  | .endOfCharge c => execEndOfCharge_sound c s
  | .prechargeTimeout => execPrechargeTimeout_sound s
  | .chargerOvercurrent c => execChargerOvercurrent_sound c s
  | .chargerStuckOn c => execChargerStuckOn_sound c s
  | .overcharge c => execOvercharge_sound c s
  | .channelClearFault p c => execChannelClearFault_sound p c s
  | .chargeTargetReached c => execChargeTargetReached_sound c s
  | .cellImbalance => execCellImbalance_sound s
  | .inputSag => execInputSag_sound s
  | .sagCleared => execSagCleared_sound s
  | .holdUpFault => execHoldUpFault_sound s
  | .holdUpRecovered => execHoldUpRecovered_sound s
  | .precisionReached => execPrecisionReached_sound s
  | .endOfDischarge c => execEndOfDischarge_sound c s
  | .ocvRelaxed c => execOcvRelaxed_sound c s
  | .impedanceSample c dmv dma => execImpedanceSample_sound c dmv dma s
  | .geyserDue c => execGeyserDue_sound c s
  | .geyserStart c => execGeyserStart_sound c s
  | .geyserRequestStart p c => execGeyserRequestStart_sound p c s
  | .geyserRequestAbort p c => execGeyserRequestAbort_sound p c s
  | .channelReset p c => execChannelReset_sound p c s
  | .snapshotHourly => execSnapshotHourly_sound s
  | .scanSlot reading => execScanSlot_sound reading s
  | .railWarning r => execRailWarning_sound r s
  | .railCleared r => execRailCleared_sound r s
  | .railFaultTime r => execRailFaultTime_sound r s
  | .rampLagTrip g lagMv => execRampLagTrip_sound g lagMv s
  | .rampEnd g lagMv => execRampEnd_sound g lagMv s
  | .rampTimeout g lagMv => execRampTimeout_sound g lagMv s
  | .railGood r => execRailGood_sound r s
  | .railGoodTimeout r => execRailGoodTimeout_sound r s
  | .upStepDelay => execUpStepDelay_sound s
  | .downStepEnd => execDownStepEnd_sound s
  | .downStepTimeout => execDownStepTimeout_sound s
  | .enableGood => execEnableGood_sound s
  | .enableTimeout => execEnableTimeout_sound s
  | .railMask p r v => execRailMask_sound p r v s
  | .railSwitchOff p r => execRailSwitchOff_sound p r s
  | .railSwitchOn p r => execRailSwitchOn_sound p r s
  | .resetRelease k => execResetRelease_sound k s
  | .resetPulse p k => execResetPulse_sound p k s
  | .trimTargetWrite p t v => execTrimTargetWrite_sound p t v s
  | .trimTargetReached t => execTrimTargetReached_sound t s
  | .keepStoreWrite => execKeepStoreWrite_sound s
  | .tremorAdvance => execTremorAdvance_sound s
  | .tremorRelease => execTremorRelease_sound s
  | .tremorLineFall => execTremorLineFall_sound s
  | .tremorReset => execTremorReset_sound s
  | .tremorDownRequest => execTremorDownRequest_sound s
  | .tremorSendDownRequest => execTremorSendDownRequest_sound s
  | .tremorSendReset => execTremorSendReset_sound s
  | .tremorBootHold => execTremorBootHold_sound s
  | .gatherWaiting => execGatherWaiting_sound s
  | .tremorStepTimeout => execTremorStepTimeout_sound s
  | .tremorWireFault => execTremorWireFault_sound s
  | .inputFail => execInputFail_sound s
  | .supervisorLedOutage => execSupervisorLedOutage_sound s
  | .drainPoint => execDrainPoint_sound s
  | .warnWindowEnd => execWarnWindowEnd_sound s
  | .drvactLow k => execDrvactLow_sound k s
  | .driveActiveStuck => execDriveActiveStuck_sound s
  | .driveSettleEnd => execDriveSettleEnd_sound s
  | .sinterDeadlineExpiry => execSinterDeadlineExpiry_sound s
  | .simmerTimerExpiry => execSimmerTimerExpiry_sound s
  | .deadlineAckTimeout => execDeadlineAckTimeout_sound s
  | .sinterCopyComplete energyMj durationMs => execSinterCopyComplete_sound energyMj durationMs s
  | .manifestCommitted => execManifestCommitted_sound s
  | .powerReturn => execPowerReturn_sound s
  | .keepTimeExpiry => execKeepTimeExpiry_sound s
  | .keepFloorReached => execKeepFloorReached_sound s
  | .programFail die => execProgramFail_sound die s
  | .eraseFail die => execEraseFail_sound die s
  | .dieCommandTimeout die => execDieCommandTimeout_sound die s
  | .backgroundErase die => execBackgroundErase_sound die s
  | .imageRelease => execImageRelease_sound s
  | .releaseRequest p => execReleaseRequest_sound p s
  | .dieRetire p die => execDieRetire_sound p die s
  | .dieReturn p die answers => execDieReturn_sound p die answers s
  | .probationBlockVerified die ok => execProbationBlockVerified_sound die ok s
  | .sanitize p v => execSanitize_sound p v s
  | .sanitizeComplete => execSanitizeComplete_sound s
  | .frameStart port vc => execFrameStart_sound port vc s
  | .longPacket port vc dataType data check => execLongPacket_sound port vc dataType data check s
  | .frameEnd port vc => execFrameEnd_sound port vc s
  | .clockLaneLost port => execClockLaneLost_sound port s
  | .clockLaneUp port laneRate => execClockLaneUp_sound port laneRate s
  | .exposureCommit p n => execExposureCommit_sound p n s
  | .exposureClear p n => execExposureClear_sound p n s
  | .cciBurstComplete port => execCciBurstComplete_sound port s
  | .cciNack port => execCciNack_sound port s
  | .cciBusStuck port => execCciBusStuck_sound port s
  | .cciDirectWrite p n => execCciDirectWrite_sound p n s
  | .cciDirectRead p n => execCciDirectRead_sound p n s
  | .tickToleranceExpiry n => execTickToleranceExpiry_sound n s
  | .pixelRowComplete n ringFill r => execPixelRowComplete_sound n ringFill r s
  | .syntaxRingCleared ringFill => execSyntaxRingCleared_sound ringFill s
  | .liveSliceWrite n nal consumer => execLiveSliceWrite_sound n nal consumer s
  | .forceIdr p n => execForceIdr_sound p n s
  | .segmentFlush n => execSegmentFlush_sound n s
  | .decodeOpen p d => execDecodeOpen_sound p d s
  | .decodeClose p d => execDecodeClose_sound p d s
  | .decodeEndOfInput p d => execDecodeEndOfInput_sound p d s
  | .decodePictureOutput d r => execDecodePictureOutput_sound d r s
  | .eventVectorRaise fn => execEventVectorRaise_sound fn s
  | .eventAcknowledge p bank bits => execEventAcknowledge_sound p bank bits s
  | .clearLog p => execClearLog_sound p s
  | .emcyTransmit => execEmcyTransmit_sound s
  | .canErrorPassiveOrBusOff e => execCanErrorPassiveOrBusOff_sound e s
  | .preSinterPageProgrammed => execPreSinterPageProgrammed_sound s
  | .backgroundRestoreRead r => execBackgroundRestoreRead_sound r s
  | .recordingFrameEncoded n nal => execRecordingFrameEncoded_sound n nal s
  | .cciDirectTransferDone n e => execCciDirectTransferDone_sound n e s

theorem tick_sound (s : State) : Sound s (tick s) := by
  unfold tick
  exact .ite (.of (fun cache dict isl ev can keep rails => ⟨cache, dict, isl, ev, can, keep, rails⟩) rfl)
    (.of (fun cache dict isl ev can keep rails => ⟨cache, dict, isl, ev, can, keep, rails⟩) rfl)

theorem inv_setPending {s : State} {l : List Instr} (h : Inv s) : Inv { s with pending := l } :=
  ⟨h.slots, h.handles, h.values, h.undelivered, h.log, h.heldSup, h.heldCtl, h.emcy, h.keepA, h.keepB, h.scan⟩

theorem step_cons {s : State} {c : Instr} {rest : List Instr} (h : s.pending = c :: rest) :
    step s = exec c { s with pending := rest } := by
  unfold step
  rw [h]

theorem step_nil {s : State} (h : s.pending = []) : step s = .next (handshakes (tick s)) := by
  unfold step
  rw [h]

theorem step_inv {s t : State} (h : Inv s) (e : step s = .next t) : Inv t := by
  cases p : s.pending with
  | nil =>
    obtain rfl : handshakes (tick s) = t := by simpa [step_nil p] using e
    exact ((tick_sound s).trans (handshakes_sound _)).inv h
  | cons c rest =>
    obtain ⟨u, ran, ok⟩ := exec_sound c { s with pending := rest }
    obtain rfl : u = t := by simpa [step_cons p, ran] using e
    exact ok.inv (inv_setPending h)

theorem tick_now (s : State) : (tick s).time.now = s.time.now + 1 := by
  unfold tick
  split <;> rfl

theorem tick_timeBase (s : State) : (tick s).time.timeBase = s.time.timeBase + (if s.life.dev.supervised then 1 else 0) := by
  unfold tick
  split <;> rfl

theorem tick_eq (s : State) : tick s = { s with time := (tick s).time } := by
  unfold tick
  split <;> rfl

end Sys2Proof.Machine
end

section

open Sys2Proof Sys2Proof.Machine

/-- Settles O46: `step` is defined so, and every command answers a next state and leaves the queue. -/
theorem stepRunsTheFrontCommand : Obligations.StepRunsTheFrontCommand := by
  intro c rest s h
  obtain ⟨t, ran, ok⟩ := exec_sound c { s with pending := rest }
  exact ⟨step_cons h, t, (step_cons h).trans ran, ok.queue⟩

/-- Settles O47: with nothing in the queue a step is a tick and the handshakes that wait, of which there may be none. -/
theorem idleStepIsOneMicrosecond : Obligations.IdleStepIsOneMicrosecond := by
  intro s h
  refine ⟨tick s, step_nil h, tick_now s, tick_timeBase s, tick_eq s, fun handed waiting => ?_⟩
  rw [step_nil h, handshakes_of_none_waiting (by simpa [tick_frame] using handed) (by simpa [tick_frame] using waiting)]

/-- Settles O48, command by command (`exec_sound`). -/
theorem everyCommandAnswers : Obligations.EveryCommandAnswers := fun c s =>
  let ⟨t, ran, ok⟩ := exec_sound c s
  ⟨t, ran, ok.queue⟩

/-- Settles O49: the reset state is written out in the model. -/
theorem resetLeavesTheControllerOff : Obligations.ResetLeavesTheControllerOff := by
  unfold Obligations.ResetLeavesTheControllerOff
  refine ⟨rfl, rfl, fun i => by cases i <;> rfl, rfl, rfl, rfl, rfl, rfl, rfl, by decide, rfl, rfl⟩

/-- Settles O50: the stores of the reset state are empty, and the scanner stands at its first slot. -/
theorem resetKeepsBounds : Obligations.ResetKeepsBounds :=
  ⟨rfl, rfl, rfl, rfl, Nat.zero_le _, Nat.zero_le _, Nat.zero_le _, Nat.zero_le _, Nat.zero_le _, Nat.zero_le _, by decide⟩

/-- Settles O51: every command keeps the invariant part by part, as do the tick and the handshakes of an idle step. -/
theorem everyStepKeepsBounds : Obligations.EveryStepKeepsBounds := fun _ _ => step_inv
end

section
/-! Dirty blocks of other tenants (O60): a key that a store finds or finds free, the slot of a block, and what the cache commands leave. -/

namespace Sys2Proof.Machine

/-! ### Keys of an addressed store -/

theorem mem_of_mapFind {α : Type} {m : SMap α} {k : Nat} {v : α} (found : mapFind m k = some v) : (k, v) ∈ m := by
  induction m with
  | nil => cases found
  | cons p m ih =>
    unfold mapFind at found
    split at found
    · rename_i here
      cases found
      exact here ▸ List.mem_cons_self
    · exact List.mem_cons_of_mem _ (ih found)

/-- The first free key of a canonical store is not in use. -/
theorem mapFree_free {α : Type} {m : SMap α} {fuel k r : Nat} (wf : mapWf m = true) (above : ∀ p ∈ m, k ≤ p.1)
    (free : mapFree m fuel k = some r) : k ≤ r ∧ mapFind m r = none := by
  induction fuel generalizing m k with
  | zero => simp [mapFree] at free
  | succ fuel ih =>
    cases m with
    | nil => simp only [mapFree, Option.some.injEq] at free; exact free ▸ ⟨le_rfl, rfl⟩
    | cons p m =>
      obtain ⟨first, rest⟩ := List.pairwise_cons.1 ((mapWf_iff_pairwise _).1 wf)
      simp only [mapFree] at free
      split at free
      · rename_i below
        cases free
        refine ⟨le_rfl, ?_⟩
        by_contra used
        obtain ⟨v, found⟩ := Option.ne_none_iff_exists'.1 used
        rcases List.mem_cons.1 (mem_of_mapFind found) with rfl | later
        · exact lt_irrefl _ below
        · exact lt_asymm below (first _ later)
      · rename_i notBelow
        have here : k = p.1 := le_antisymm (above p List.mem_cons_self) (not_lt.1 notBelow)
        obtain ⟨past, none⟩ := ih ((mapWf_iff_pairwise _).2 rest) (fun q hq => here ▸ first q hq) free
        refine ⟨by omega, ?_⟩
        unfold mapFind
        rw [if_neg (by omega)]
        exact none

theorem mapFree_isSome {α : Type} {m : SMap α} {fuel k : Nat} (room : m.length < fuel) : ∃ r, mapFree m fuel k = some r := by
  induction fuel generalizing m k with
  | zero => cases room
  | succ fuel ih =>
    cases m with
    | nil => exact ⟨k, rfl⟩
    | cons p m =>
      simp only [mapFree]
      split
      · exact ⟨k, rfl⟩
      · exact ih (by simpa using room)

/-! ### Slots of a block -/

/-- The slot of a block belongs to its tenant, its handle and its address. -/
theorem slotNo_some {x : Cache} {n : Fin 16} {vol : BitVec 32} {lba k : Nat} (found : slotNo x n vol lba = some k) :
    ∃ h q, handleOf x n vol = some h ∧ (k, q) ∈ x.slots ∧ q.tenant = n ∧ q.handle = h ∧ q.lba = lba := by
  unfold slotNo at found
  split at found
  · cases found
  · rename_i h held
    obtain ⟨p, hp, rfl⟩ := Option.map_eq_some_iff.1 found
    have fits := List.find?_some hp
    simp only [Bool.and_eq_true, beq_iff_eq] at fits
    exact ⟨h, p.2, held, List.mem_of_find?_eq_some hp, fits.1.1, fits.1.2, fits.2⟩

/-! ### Dirty blocks of other tenants -/

/-- The same block with the same contents: what may differ is when it was used last and the state of its copies. -/
structure SameBlock (q u : Slot) : Prop where
  tenant : u.tenant = q.tenant
  handle : u.handle = q.handle
  lba : u.lba = q.lba
  data : u.data = q.data
  seq : u.seq = q.seq
  dirty : u.dirty = q.dirty

theorem SameBlock.refl (q : Slot) : SameBlock q q := ⟨rfl, rfl, rfl, rfl, rfl, rfl⟩

theorem SameBlock.trans {q u v : Slot} (h : SameBlock q u) (g : SameBlock u v) : SameBlock q v :=
  ⟨g.tenant.trans h.tenant, g.handle.trans h.handle, g.lba.trans h.lba, g.data.trans h.data, g.seq.trans h.seq, g.dirty.trans h.dirty⟩

/-- From `s` to `t` every dirty block of another tenant than `n` stays where it is. -/
def LeavesOthers (n : Fin 16) (s t : State) : Prop :=
  ∀ k q, mapFind s.cache.slots k = some q → q.tenant ≠ n → q.dirty = true → ∃ u, mapFind t.cache.slots k = some u ∧ SameBlock q u

theorem LeavesOthers.of_slots {n : Fin 16} {s t : State} (h : t.cache.slots = s.cache.slots) : LeavesOthers n s t :=
  fun _ q found _ _ => ⟨q, h ▸ found, .refl q⟩

theorem LeavesOthers.refl (n : Fin 16) (s : State) : LeavesOthers n s s := .of_slots rfl

theorem LeavesOthers.trans {n : Fin 16} {s t u : State} (h : LeavesOthers n s t) (g : LeavesOthers n t u) : LeavesOthers n s u := by
  intro k q found other dirty
  obtain ⟨v, found, same⟩ := h k q found other dirty
  obtain ⟨w, found, same'⟩ := g k v found (same.tenant ▸ other) (same.dirty.trans dirty)
  exact ⟨w, found, same.trans same'⟩

/-- A fold of changes that each leave the others' blocks where `P` holds, and keep `P`. -/
theorem LeavesOthers.foldl {α : Type} {n : Fin 16} {f : State → α → State} {l : List α} {s : State} (P : State → Prop)
    (each : ∀ t, ∀ a ∈ l, P t → LeavesOthers n t (f t a) ∧ P (f t a)) (start : P s) : LeavesOthers n s (l.foldl f s) := by
  induction l generalizing s with
  | nil => exact .refl n s
  | cons a l ih =>
    obtain ⟨leaves, next⟩ := each s a List.mem_cons_self start
    exact leaves.trans (ih (fun t b hb => each t b (List.mem_cons_of_mem _ hb)) next)

/-- Where a slot of tenant `n` stood, no other tenant's block stands. -/
theorem LeavesOthers.of_key {n : Fin 16} {s t : State} {v : Nat} (own : ∀ q, mapFind s.cache.slots v = some q → q.tenant = n)
    (rest : ∀ k, k ≠ v → mapFind t.cache.slots k = mapFind s.cache.slots k) : LeavesOthers n s t := by
  intro k q found other dirty
  have away : k ≠ v := fun here => other (own q (here ▸ found))
  exact ⟨q, (rest k away).trans found, .refl q⟩

theorem slotNo_own {x : Cache} {n : Fin 16} {vol : BitVec 32} {lba k : Nat} (wf : mapWf x.slots = true)
    (found : slotNo x n vol lba = some k) {q : Slot} (here : mapFind x.slots k = some q) : q.tenant = n := by
  obtain ⟨h, p, -, mem, own, -, -⟩ := slotNo_some found
  rw [mapFind_of_mem wf mem] at here
  cases here
  exact own

@[simp] theorem freeHandles_slots (x : Cache) : (freeHandles x).slots = x.slots := rfl

@[simp] theorem eraseSlot_slots (x : Cache) (k : Nat) : (eraseSlot x k).slots = mapErase x.slots k := rfl

@[simp] theorem noteRemoval_cache (n : Fin 16) (vol : BitVec 32) (lba : Nat) (s : State) : (noteRemoval n vol lba s).cache = s.cache := by
  simp

theorem withHandle_slots {x : Cache} {n : Fin 16} {vol : BitVec 32} {hx : Nat × Cache} (taken : withHandle x n vol = some hx) :
    hx.2.slots = x.slots := by
  unfold withHandle at taken
  (repeat' split at taken) <;> cases taken <;> rfl

theorem dropSlot_leaves {n : Fin 16} {k : Nat} {s : State} (own : ∀ q, mapFind s.cache.slots k = some q → q.tenant = n) :
    LeavesOthers n s (dropSlot k s) := by
  refine .of_key own fun j away => ?_
  unfold dropSlot
  split
  · rfl
  · simp [mapFind_mapErase, away]

theorem cleanSlot_leaves {n : Fin 16} {k : Nat} {s : State} (own : ∀ q, mapFind s.cache.slots k = some q → q.tenant = n) :
    LeavesOthers n s (cleanSlot k s) := by
  refine .of_key own fun j away => ?_
  unfold cleanSlot
  split
  · rfl
  · dsimp only
    split
    · simp [mapFind_mapErase, away]
    · simp [mapFind_mapSet, away]

theorem mapFind_mapVals {α : Type} (f : Nat → α → α) (m : SMap α) (k : Nat) :
    mapFind (mapVals f m) k = (mapFind m k).map (f k) := by
  induction m with
  | nil => rfl
  | cons p m ih =>
    unfold mapVals at *
    simp only [List.map_cons, mapFind]
    split
    · rename_i here
      simp [here]
    · exact ih

theorem touchSlot_leaves (n : Fin 16) (k : Nat) (s : State) : LeavesOthers n s (touchSlot k s) := by
  intro j q found _ _
  have touched : mapFind (touchSlot k s).cache.slots j = some (if j = k then { q with used := s.cache.stamp } else q) := by
    unfold touchSlot
    simp [mapFind_mapVals, found]
  refine ⟨_, touched, ?_⟩
  split
  · exact ⟨rfl, rfl, rfl, rfl, rfl, rfl⟩
  · exact .refl q

/-! ### Writing one block -/

/-- The directory before a block is written: a slot of the block that is not restored yet has gone (05 R228). -/
def clearedFor (x : Cache) (n : Fin 16) (vol : BitVec 32) (lba : Nat) : SMap Slot :=
  match slotNo x n vol lba with
  | some v => if (match mapFind x.slots v with | some q => q.unrestored | none => false) then mapErase x.slots v else x.slots
  | none => x.slots

/-- The slot that a block is written to: its own, or the first free one (06 R285). -/
def keyFor (x : Cache) (n : Fin 16) (vol : BitVec 32) (lba : Nat) : Option Nat :=
  match slotNo x n vol lba with
  | some k => some k
  | none => mapFree x.slots x.usable 0

/-- A block as PUT writes it. -/
def blockSlot (n : Fin 16) (h seq : Nat) (dirty recording : Bool) (used : Nat) (p : Nat × Block) : Slot :=
  { lba := p.1, handle := h, tenant := n, seq := seq, dirty := dirty, frozen := false, copyValid := false, unrestored := false,
    fromImage := false, recording := recording, lost := false, data := p.2, used := used, copy := none }

section
variable {n : Fin 16} {vol : BitVec 32} {seq : Nat} {dirty recording : Bool} {p : Nat × Block} {s : State} {hx : Nat × Cache}

theorem writeBlock_of_noHandle (none : withHandle s.cache n vol = none) : writeBlock n vol seq dirty recording p s = s := by
  unfold writeBlock
  rw [none]

theorem writeBlock_cache (taken : withHandle s.cache n vol = some hx) :
    (writeBlock n vol seq dirty recording p s).cache =
      match keyFor { hx.2 with slots := clearedFor s.cache n vol p.1 } n vol p.1 with
      | none => s.cache
      | some k => freeHandles { hx.2 with
          stamp := hx.2.stamp + 1
          slots := mapSet (clearedFor s.cache n vol p.1) k (blockSlot n hx.1 seq dirty recording hx.2.stamp p) } := by
  have same := withHandle_slots taken
  unfold writeBlock
  split
  · rename_i none
    cases taken.symm.trans none
  · rename_i hy again
    cases taken.symm.trans again
    extract_lets x s1 key s2 y
    have cleared : s1.cache = { hx.2 with slots := clearedFor s.cache n vol p.1 } := by
      unfold s1 clearedFor
      cases slotNo s.cache n vol p.1 with
      | none => simp [← same]
      | some v =>
        dsimp only
        cases mapFind s.cache.slots v with
        | none => simp [← same]
        | some q => cases unrestored : q.unrestored <;> simp [x, ← same, unrestored]
    have keyed : key = keyFor { hx.2 with slots := clearedFor s.cache n vol p.1 } n vol p.1 := by
      unfold key
      rw [cleared]
      rfl
    have kept : s2.cache = s1.cache := by
      unfold s2
      split <;> simp
    rw [← keyed]
    clear_value key
    cases key with
    | none => rfl
    | some k => simp [x, y, blockSlot, kept, cleared]
end

section
variable {n : Fin 16} {vol : BitVec 32} {lba : Nat} {x : Cache}

theorem clearedFor_cases (x : Cache) (n : Fin 16) (vol : BitVec 32) (lba : Nat) : clearedFor x n vol lba = x.slots ∨
    ∃ v, slotNo x n vol lba = some v ∧ clearedFor x n vol lba = mapErase x.slots v := by
  unfold clearedFor
  split
  · rename_i v found
    split_ifs
    · exact .inr ⟨v, found, rfl⟩
    · exact .inl rfl
  · exact .inl rfl

theorem mapWf_clearedFor (wf : mapWf x.slots = true) : mapWf (clearedFor x n vol lba) = true := by
  rcases clearedFor_cases x n vol lba with same | ⟨v, -, erased⟩
  · rwa [same]
  · rw [erased]
    exact mapWf_mapErase _ v wf

/-- The slot that a block is written to is the tenant's own or a free one. -/
theorem keyFor_own {k : Nat} (wf : mapWf x.slots = true) (key : keyFor x n vol lba = some k) {q : Slot}
    (here : mapFind x.slots k = some q) : q.tenant = n := by
  unfold keyFor at key
  split at key
  · rename_i j found
    cases key
    exact slotNo_own wf found here
  · rw [(mapFree_free wf (fun _ _ => Nat.zero_le _) key).2] at here
    cases here

end

/-- Writing a block leaves the blocks of other tenants. -/
theorem writeBlock_leaves {n : Fin 16} {vol : BitVec 32} {seq : Nat} {dirty recording : Bool} {p : Nat × Block} {s : State}
    (ok : CacheOk s.cache) : LeavesOthers n s (writeBlock n vol seq dirty recording p s) := by
  cases taken : withHandle s.cache n vol with
  | none => exact .of_slots (by rw [writeBlock_of_noHandle taken])
  | some hx =>
    cases key : keyFor { hx.2 with slots := clearedFor s.cache n vol p.1 } n vol p.1 with
    | none => exact .of_slots (by simp [writeBlock_cache taken, key])
    | some k =>
      have cleared : LeavesOthers n s { s with cache := { hx.2 with slots := clearedFor s.cache n vol p.1 } } := by
        rcases clearedFor_cases s.cache n vol p.1 with same | ⟨v, found, erased⟩
        · exact .of_slots same
        · refine .of_key (fun q => slotNo_own ok.slots found) fun j away => ?_
          simp [erased, mapFind_mapErase, away]
      refine cleared.trans (.of_key (fun q => keyFor_own (mapWf_clearedFor ok.slots) key) fun j away => ?_)
      simp [writeBlock_cache taken, key, mapFind_mapSet, away]

/-! ### What a cache command leaves of the directory -/

@[simp] theorem modTen_slots (s : State) (n : Fin 16) (f : Tenant → Tenant) : (s.modTen n f).cache.slots = s.cache.slots := rfl

@[simp] theorem complete_slots (c : Cmd) (x : Completion) (s : State) : (complete c x s).cache.slots = s.cache.slots := rfl

@[simp] theorem endCmd_slots (c : Cmd) (st : Status) (r : Nat) (s : State) : (endCmd c st r s).cache.slots = s.cache.slots := rfl

@[simp] theorem endField_slots (c : Cmd) (off : Nat) (s : State) : (endField c off s).cache.slots = s.cache.slots := rfl

@[simp] theorem dmaFault_slots (c : Cmd) (s : State) : (dmaFault c s).cache.slots = s.cache.slots := by simp [dmaFault]

@[simp] theorem ensureKey_slots (n : Fin 16) (s : State) : (ensureKey n s).cache.slots = s.cache.slots := by
  unfold ensureKey
  split <;> simp

@[simp] theorem noteThrottle_slots (n : Fin 16) (new : Nat) (s : State) : (noteThrottle n new s).cache.slots = s.cache.slots := by
  unfold noteThrottle
  dsimp only
  split <;> simp

@[simp] theorem throttlePut_slots (c : Cmd) (s : State) : (throttlePut c s).cache.slots = s.cache.slots := by simp [throttlePut]

@[simp] theorem endNoSpace_slots (k : Nat) (c : Cmd) (s : State) : (endNoSpace k c s).cache.slots = s.cache.slots := by
  simp [endNoSpace]

@[simp] theorem beginPut_slots (elems : List Element) (c : Cmd) (protect : Bool) (charged slots : Nat) (s : State) :
    (beginPut elems c protect charged slots s).cache.slots = s.cache.slots := by
  simp [beginPut]

@[simp] theorem failPut_slots (c : Cmd) (s : State) : (failPut c s).cache.slots = s.cache.slots := by simp [failPut]

@[simp] theorem noteVolume_slots (n : Fin 16) (vol : BitVec 32) (s : State) : (noteVolume n vol s).2.cache.slots = s.cache.slots := by
  unfold noteVolume
  dsimp only
  split <;> simp

@[simp] theorem eccFails_slots (n : Fin 16) (lba : Nat) (c : Cmd) (s : State) : (eccFails n lba c s).cache.slots = s.cache.slots := by
  simp [eccFails]

@[simp] theorem listExtents_slots (elems : List Element) (c : Cmd) (s : State) : (listExtents elems c s).cache.slots = s.cache.slots := by
  unfold listExtents
  dsimp only
  split <;> simp

@[simp] theorem startFence_slots (c : Cmd) (s : State) : (startFence c s).cache.slots = s.cache.slots := by
  unfold startFence
  split <;> simp

/-- A PUT takes slots from no other tenant's dirty block (06 R287). -/
theorem checkPut_leaves {n : Fin 16} (elems : List Element) (c : Cmd) {s : State} (ok : CacheOk s.cache) :
    LeavesOthers n s (checkPut elems c s) := by
  unfold checkPut
  dsimp only
  split
  · exact .of_slots (by simp)
  split
  · exact .of_slots (by simp)
  split
  · exact .of_slots (by simp)
  split
  · exact .of_slots (by simp)
  · rename_i t taken
    have held : LeavesOthers n s t := fun k q found _ dirty =>
      ⟨q, evictClean_keeps ok.slots taken found (takeable_eq_false (.inl dirty)), .refl q⟩
    exact held.trans (.of_slots (by simp))

theorem applyBlocks_leaves {n : Fin 16} (vol : BitVec 32) (lba : Nat) (dirty recording : Bool) (bs : List Block) {s : State}
    (ok : CacheOk s.cache) : LeavesOthers n s (applyBlocks n vol lba dirty recording bs s) := by
  unfold applyBlocks
  have ready : LeavesOthers n s (ensureKey n (s.modTen n (fun t => { t with writeSeq := (s.ten n).writeSeq + 1 }))) :=
    .of_slots (by simp)
  exact ready.trans (.foldl (fun t => CacheOk t.cache) (fun t p _ ht => ⟨writeBlock_leaves ht, writeBlock_bounds _ _ _ _ _ _ _ ht⟩) (by simp [ok]))

theorem finishPut_leaves (c : Cmd) (bs : List Block) {s : State} (ok : CacheOk s.cache) :
    LeavesOthers c.fn s (finishPut c bs s) := by
  unfold finishPut
  dsimp only
  refine .trans (t := s.modTen c.fn (fun t => { t with reserved := t.reserved - c.charged, lastThrottled := false }))
    (.of_slots rfl) (.trans (applyBlocks_leaves (sqeVolume c.sqe) (sqeLba c.sqe) c.protect false bs (by simp [ok])) (.of_slots ?_))
  unfold applyPut
  dsimp only
  split <;> simp

theorem finishGet_leaves {n : Fin 16} (onDemand : Bool) (ecc : Option Nat) (elems : List Element) (c : Cmd) {s : State}
    (ok : CacheOk s.cache) : LeavesOthers n s (finishGet onDemand ecc elems c s) := by
  unfold finishGet
  dsimp only
  split
  · exact .of_slots (by simp)
  · exact .of_slots (by simp)
  split
  · exact .of_slots (by simp)
  · rename_i ks _ _ _
    have touched : LeavesOthers n s (ks.foldl (fun t k => touchSlot k t) s) :=
      .foldl (fun t => CacheOk t.cache) (fun t k _ ht => ⟨touchSlot_leaves n k t, by simp [ht]⟩) ok
    refine touched.trans (.of_slots ?_)
    split <;> simp

theorem startGet_leaves {n : Fin 16} (ecc : Option Nat) (elems : List Element) (c : Cmd) {s : State} (ok : CacheOk s.cache) :
    LeavesOthers n s (startGet ecc elems c s) := by
  unfold startGet
  split
  · split
    · exact finishGet_leaves _ _ _ _ ok
    · exact .of_slots (by simp)
  · exact finishGet_leaves _ _ _ _ ok

/-- The slots of a command's blocks are its target's. -/
theorem heldBlocks_own {s : State} {c : Cmd} (notPF0 : c.fn ≠ 0) (ok : CacheOk s.cache) {k : Nat}
    (mem : k ∈ (heldBlocks s c).map (·.1)) {q : Slot} (found : mapFind s.cache.slots k = some q) : q.tenant = c.fn := by
  obtain ⟨p, hp, rfl⟩ := List.mem_map.1 mem
  unfold heldBlocks slotsIn at hp
  split at hp
  · cases hp
  · obtain ⟨mem, fits⟩ := List.mem_filter.1 hp
    simp only [Bool.and_eq_true, beq_iff_eq] at fits
    rw [mapFind_of_mem ok.slots mem] at found
    cases found
    simpa [targetOf, notPF0] using fits.1.1.1

/-- The slots with the keys `ks` are tenant `n`'s. -/
def OwnKeys (n : Fin 16) (ks : List Nat) (s : State) : Prop := ∀ k ∈ ks, ∀ q, mapFind s.cache.slots k = some q → q.tenant = n

theorem cleanSlot_own {n : Fin 16} {ks : List Nat} {s : State} (k : Nat) (own : OwnKeys n ks s) : OwnKeys n ks (cleanSlot k s) := by
  intro j hj q found
  unfold cleanSlot at found
  split at found
  · exact own j hj q found
  · rename_i p here
    dsimp only at found
    split at found
    · simp only [eraseSlot_slots, mapFind_mapErase, noteRemoval_cache] at found
      split at found
      · cases found
      · exact own j hj q found
    · simp only [mapFind_mapSet, noteRemoval_cache] at found
      split at found
      · rename_i same
        cases found
        exact own j hj p (same ▸ here)
      · exact own j hj q found

theorem dropSlot_own {n : Fin 16} {ks : List Nat} {s : State} (k : Nat) (own : OwnKeys n ks s) : OwnKeys n ks (dropSlot k s) := by
  intro j hj q found
  unfold dropSlot at found
  split at found
  · exact own j hj q found
  · simp only [eraseSlot_slots, mapFind_mapErase] at found
    split at found
    · cases found
    · exact own j hj q found

theorem cleanBlocks_leaves {s : State} {c : Cmd} (notPF0 : c.fn ≠ 0) (ok : CacheOk s.cache) :
    LeavesOthers c.fn s (cleanBlocks c s) := by
  unfold cleanBlocks
  extract_lets held fetched ks x
  have own : OwnKeys c.fn ks s := by
    intro k hk q found
    obtain ⟨p, hp, rfl⟩ := List.mem_map.1 hk
    exact heldBlocks_own notPF0 ok (List.mem_map.2 ⟨p, (List.mem_filter.1 hp).1, rfl⟩) found
  refine .trans (.of_slots (t := fetched.foldl (fun t k => readSlotWord k t)
    { s with flash.onDemandFetches := s.flash.onDemandFetches + fetched.length }) (by simp)) (.trans (.foldl (OwnKeys c.fn ks)
    (fun t k hk ht => ⟨cleanSlot_leaves (ht k hk), cleanSlot_own k ht⟩) ?_) (.of_slots (by simp [x])))
  intro k hk q found
  exact own k hk q (by simpa using found)

theorem dropBlocks_leaves {s : State} {c : Cmd} (notPF0 : c.fn ≠ 0) (ok : CacheOk s.cache) :
    LeavesOthers c.fn s (dropBlocks c s) := by
  unfold dropBlocks
  exact .trans (.foldl (OwnKeys c.fn ((heldBlocks s c).map (·.1)))
    (fun t k hk ht => ⟨dropSlot_leaves (ht k hk), dropSlot_own k ht⟩) fun k hk q => heldBlocks_own notPF0 ok hk) (.of_slots (by simp))

theorem runCmd_leaves {o : Op} {id : Nat} {elems : Option (List Element)} {f : List Element → Cmd → State → State} {s : State} {c : Cmd}
    (found : findCmd s id = some c) (run : ∀ l, LeavesOthers c.fn s (f l c s)) : LeavesOthers c.fn s (runCmd o id elems f s) := by
  unfold runCmd
  rw [found]
  dsimp only
  split
  · exact .refl _ s
  split
  · exact .of_slots (by simp)
  split
  · exact .of_slots (by simp)
  · exact .of_slots (by simp)
  · exact run _

theorem putApply_leaves {id : Nat} {r : DmaResult} {s t : State} {c : Cmd} (found : findCmd s id = some c) (ok : CacheOk s.cache)
    (ran : execPutApply id r s = .next t) : LeavesOthers c.fn s t := by
  unfold execPutApply at ran
  rw [found] at ran
  dsimp only at ran
  (repeat' split at ran) <;> cases ran
  · exact .refl _ s
  · exact .of_slots (by simp)
  · exact finishPut_leaves c _ ok
  · exact .refl _ s

/-- A cache command leaves the dirty blocks of other tenants, but for PF0's. -/
theorem cacheCommand_leaves {s t : State} {id : Nat} {c : Cmd} {cmd : Instr} (inv : Inv s) (found : findCmd s id = some c)
    (notPF0 : c.fn ≠ 0) (isCache : ∃ elems ecc r, cmd ∈ [Instr.put id elems, .putApply id r, .get id elems ecc, .clean id, .drop id,
      .list id elems, .fence id]) (ran : exec cmd s = .next t) : LeavesOthers c.fn s t := by
  have ok : CacheOk s.cache := ((inv_iff s).1 inv).1
  obtain ⟨elems, ecc, r, mem⟩ := isCache
  simp only [List.mem_cons, List.not_mem_nil, or_false] at mem
  rcases mem with rfl | rfl | rfl | rfl | rfl | rfl | rfl
  case inr.inl => exact putApply_leaves found ok ran
  all_goals cases ran
  · exact runCmd_leaves found fun l => checkPut_leaves l c ok
  · exact runCmd_leaves found fun l => startGet_leaves ecc l c ok
  · exact runCmd_leaves found fun _ => cleanBlocks_leaves notPF0 ok
  · exact runCmd_leaves found fun _ => dropBlocks_leaves notPF0 ok
  · exact runCmd_leaves found fun l => .of_slots (listExtents_slots l c s)
  · exact runCmd_leaves found fun _ => .of_slots (startFence_slots c s)

end Sys2Proof.Machine
end

section
open Sys2Proof Sys2Proof.Machine

/-- Settles O60, command by command: a slot is written, cleaned or dropped only where the command's own tenant has it, or where none is,
and a PUT takes no dirty slot. -/
theorem tenantsKeepTheirDirtyBlocks : Obligations.TenantsKeepTheirDirtyBlocks := by
  intro s t id c cmd k q inv found notPF0 isCache ran held other dirty
  obtain ⟨u, stays, same⟩ := cacheCommand_leaves inv found notPF0 isCache ran k q held other dirty
  exact ⟨u, stays, same.tenant, same.handle, same.lba, same.data, same.seq, same.dirty.trans dirty⟩
end

section
/-! The blocks of a PUT (O59): the first slot of a block, the handle of its volume, and how many slots it still needs. -/

namespace Sys2Proof.Machine

/-! ### The first slot of a block -/

/-- The key that a search of a canonical store finds: the least whose value fits. -/
theorem find?_key_iff {α : Type} {m : SMap α} (wf : mapWf m = true) (fits : Nat × α → Bool) (k : Nat) :
    (m.find? fits).map (·.1) = some k ↔
      (∃ q, mapFind m k = some q ∧ fits (k, q) = true) ∧ ∀ j < k, ∀ q, mapFind m j = some q → fits (j, q) = false := by
  induction m with
  | nil => simp [mapFind]
  | cons p m ih =>
    obtain ⟨i, v⟩ := p
    obtain ⟨first, rest⟩ := List.pairwise_cons.1 ((mapWf_iff_pairwise _).1 wf)
    have later (j : Nat) (q : α) (found : mapFind m j = some q) : i < j := first _ (mem_of_mapFind found)
    have absent : mapFind m i = none := by
      by_contra used
      obtain ⟨q, found⟩ := Option.ne_none_iff_exists'.1 used
      exact lt_irrefl _ (later i q found)
    by_cases here : fits (i, v) = true
    · simp only [List.find?_cons_of_pos here, Option.map_some, Option.some.injEq]
      constructor
      · rintro rfl
        refine ⟨⟨v, by simp [mapFind], here⟩, fun j below q found => ?_⟩
        rw [mapFind, if_neg (by omega)] at found
        exact absurd (later j q found) (by omega)
      · rintro ⟨⟨q, found, -⟩, least⟩
        by_contra other
        rw [mapFind, if_neg (Ne.symm other)] at found
        have := least i (later k q found) v (by simp [mapFind])
        simp [here] at this
    · rw [List.find?_cons_of_neg here, ih ((mapWf_iff_pairwise _).2 rest)]
      have same (j : Nat) (q : α) : mapFind ((i, v) :: m) j = some q ∧ fits (j, q) = true ↔ mapFind m j = some q ∧ fits (j, q) = true := by
        by_cases at_i : j = i
        · subst at_i
          simp only [mapFind, if_true, absent, Option.some.injEq]
          exact ⟨fun ⟨e, f⟩ => absurd (e ▸ f) here, fun ⟨e, _⟩ => by cases e⟩
        · simp [mapFind, at_i]
      have least (j : Nat) (q : α) : (mapFind ((i, v) :: m) j = some q → fits (j, q) = false) ↔ (mapFind m j = some q → fits (j, q) = false) := by
        have := same j q
        cases f : fits (j, q) <;> simp_all
      simp only [same, least]

theorem find?_key_none {α : Type} {m : SMap α} (wf : mapWf m = true) (fits : Nat × α → Bool) :
    (m.find? fits).map (·.1) = none ↔ ∀ j q, mapFind m j = some q → fits (j, q) = false := by
  rw [Option.map_eq_none_iff, List.find?_eq_none]
  constructor
  · intro none j q found
    simpa using none _ (mem_of_mapFind found)
  · intro none p mem
    simpa using none p.1 p.2 (mapFind_of_mem wf mem)

/-- A slot of one block: of its tenant, its handle and its address. -/
def isBlock (n : Fin 16) (h lba : Nat) (q : Slot) : Bool := q.tenant == n && q.handle == h && q.lba == lba

section
variable {x : Cache} {n : Fin 16} {vol : BitVec 32} {h lba k : Nat}

theorem slotNo_eq (held : handleOf x n vol = some h) :
    slotNo x n vol lba = (x.slots.find? (fun p => isBlock n h lba p.2)).map (·.1) := by
  unfold slotNo
  rw [held]
  rfl

theorem slotNo_iff (wf : mapWf x.slots = true) (held : handleOf x n vol = some h) : slotNo x n vol lba = some k ↔
    (∃ q, mapFind x.slots k = some q ∧ isBlock n h lba q = true) ∧
      ∀ j < k, ∀ q, mapFind x.slots j = some q → isBlock n h lba q = false := by
  rw [slotNo_eq held, find?_key_iff wf]

theorem slotNo_none_iff (wf : mapWf x.slots = true) (held : handleOf x n vol = some h) : slotNo x n vol lba = none ↔
    ∀ j q, mapFind x.slots j = some q → isBlock n h lba q = false := by
  rw [slotNo_eq held, find?_key_none wf]

/-- A block's slot by its key and its contents. -/
theorem slotAt_iff (wf : mapWf x.slots = true) (held : handleOf x n vol = some h) {q : Slot} : slotAt x n vol lba = some q ↔
    isBlock n h lba q = true ∧
      ∃ k, mapFind x.slots k = some q ∧ ∀ j < k, ∀ r, mapFind x.slots j = some r → isBlock n h lba r = false := by
  unfold slotAt
  constructor
  · intro found
    split at found
    · rename_i k no
      obtain ⟨⟨r, here, fits⟩, least⟩ := (slotNo_iff wf held).1 no
      cases found.symm.trans here
      exact ⟨fits, k, here, least⟩
    · cases found
  · rintro ⟨fits, k, here, least⟩
    rw [(slotNo_iff wf held).2 ⟨⟨q, here, fits⟩, least⟩]
    exact here

theorem slotAt_eq_none_iff (wf : mapWf x.slots = true) : slotAt x n vol lba = none ↔ slotNo x n vol lba = none := by
  unfold slotAt
  cases no : slotNo x n vol lba with
  | none => simp
  | some k =>
    obtain ⟨h, q, -, mem, -, -, -⟩ := slotNo_some no
    simp [mapFind_of_mem wf mem]

theorem handleOf_of_slotAt {q : Slot} (found : slotAt x n vol lba = some q) : ∃ h, handleOf x n vol = some h := by
  unfold slotAt at found
  split at found
  · rename_i k no
    obtain ⟨h, -, held, -⟩ := slotNo_some no
    exact ⟨h, held⟩
  · cases found

end

/-! ### The handle of a volume -/

theorem find?_filter_of_pos {α : Type} {l : List α} {fits keep : α → Bool} {a : α} (found : l.find? fits = some a)
    (kept : keep a = true) : (l.filter keep).find? fits = some a := by
  obtain ⟨hit, before, after, rfl, misses⟩ := List.find?_eq_some_iff_append.1 found
  have skipped : (before.filter keep).find? fits = none :=
    List.find?_eq_none.2 fun b hb => by simpa using misses b (List.mem_filter.1 hb).1
  simp [List.filter_append, List.find?_append, skipped, kept, hit]

/-- A handle that a slot has is kept. -/
theorem handleOf_freeHandles {x : Cache} {n : Fin 16} {vol : BitVec 32} {h k : Nat} {q : Slot} (held : handleOf x n vol = some h)
    (used : (k, q) ∈ x.slots) (same : q.handle = h) : handleOf (freeHandles x) n vol = some h := by
  obtain ⟨p, found, rfl⟩ := Option.map_eq_some_iff.1 held
  exact Option.map_eq_some_iff.2 ⟨p, find?_filter_of_pos found (List.any_eq_true.2 ⟨_, used, by simpa using same⟩), rfl⟩

theorem handleOf_of_withHandle {x : Cache} {n : Fin 16} {vol : BitVec 32} {hx : Nat × Cache} (ok : CacheOk x)
    (taken : withHandle x n vol = some hx) : handleOf hx.2 n vol = some hx.1 := by
  unfold withHandle at taken
  split at taken
  · rename_i h held
    cases taken
    exact held
  · rename_i none
    split at taken
    · rename_i h free
      cases taken
      have absent : ∀ j v, mapFind x.handles j = some v → (v == (n, vol)) = false := fun j v found => by
        simpa using List.find?_eq_none.1 (Option.map_eq_none_iff.1 none) _ (mem_of_mapFind found)
      refine (find?_key_iff (mapWf_mapSet _ _ _ ok.handles) (fun p => p.2 == (n, vol)) h).2 ⟨⟨(n, vol), ?_, by simp⟩, fun j below v found => ?_⟩
      · simp [mapFind_mapSet]
      · rw [mapFind_mapSet, if_neg (by omega)] at found
        exact absent j v found
    · cases taken

theorem withHandle_of_held {x : Cache} {n : Fin 16} {vol : BitVec 32} {h : Nat} (held : handleOf x n vol = some h) :
    withHandle x n vol = some (h, x) := by
  unfold withHandle
  rw [held]

theorem withHandle_isSome {x : Cache} {n : Fin 16} {vol : BitVec 32}
    (room : (handleOf x n vol).isSome = true ∨ x.handles.length < 4096) : ∃ hx, withHandle x n vol = some hx := by
  cases held : handleOf x n vol with
  | some h => exact ⟨_, withHandle_of_held held⟩
  | none =>
    obtain ⟨h, free⟩ := mapFree_isSome (k := 0) (room.resolve_left (by simp [held]))
    exact ⟨_, by unfold withHandle; rw [held, free]⟩

/-! ### How many slots there are -/

theorem length_mapErase_lt {α : Type} {m : SMap α} {k : Nat} {v : α} (found : mapFind m k = some v) :
    (mapErase m k).length < m.length := by
  refine List.length_filter_lt_length_iff_exists.2 ⟨_, mem_of_mapFind found, by simp⟩

theorem length_mapSet {α : Type} (m : SMap α) (k : Nat) (v : α) : (mapSet m k v).length = (mapErase m k).length + 1 := by
  have parts : (mapErase m k).length = (m.filter (fun p => p.1 < k)).length + (m.filter (fun p => k < p.1)).length := by
    unfold mapErase
    induction m with
    | nil => rfl
    | cons p m ih =>
      rcases lt_trichotomy p.1 k with below | same | above
      · have : p.1 ≠ k := by omega
        simp [List.filter_cons, *, not_lt.2 below.le]
        omega
      · simp [List.filter_cons, same, ih]
      · have : p.1 ≠ k := by omega
        simp [List.filter_cons, *, not_lt.2 above.le]
        omega
  simp only [mapSet, List.length_append, List.length_cons, parts]
  omega

theorem length_mapErase_le {α : Type} (m : SMap α) (k : Nat) : (mapErase m k).length ≤ m.length := List.length_filter_le ..

theorem length_mapSet_le {α : Type} (m : SMap α) (k : Nat) (v : α) : (mapSet m k v).length ≤ m.length + 1 := by
  rw [length_mapSet]
  exact Nat.succ_le_succ (length_mapErase_le m k)

theorem length_mapSet_of_found {α : Type} {m : SMap α} {k : Nat} {v w : α} (found : mapFind m k = some w) :
    (mapSet m k v).length ≤ m.length := by
  rw [length_mapSet]
  exact length_mapErase_lt found

/-! ### What a written block leaves in the directory -/

theorem withHandle_usable {x : Cache} {n : Fin 16} {vol : BitVec 32} {hx : Nat × Cache} (taken : withHandle x n vol = some hx) :
    hx.2.usable = x.usable := by
  unfold withHandle at taken
  (repeat' split at taken) <;> cases taken <;> rfl

section
variable {n : Fin 16} {vol : BitVec 32} {seq : Nat} {dirty recording : Bool} {p : Nat × Block} {s : State} {hx : Nat × Cache} {k : Nat}

/-- The directory while a block is written: with the volume's handle, and cleared for the block. -/
def readyFor (x y : Cache) (n : Fin 16) (vol : BitVec 32) (lba : Nat) : Cache := { y with slots := clearedFor x n vol lba }

theorem handleOf_readyFor {x y : Cache} {m : Fin 16} {v : BitVec 32} {lba : Nat} :
    handleOf (readyFor x y n vol lba) m v = handleOf y m v := rfl

/-- What the slots are once the block has been written to `k`. -/
theorem writeBlock_slots (taken : withHandle s.cache n vol = some hx)
    (key : keyFor (readyFor s.cache hx.2 n vol p.1) n vol p.1 = some k) :
    (writeBlock n vol seq dirty recording p s).cache.slots =
      mapSet (clearedFor s.cache n vol p.1) k (blockSlot n hx.1 seq dirty recording hx.2.stamp p) := by
  rw [writeBlock_cache taken]
  unfold readyFor at key
  rw [key]
  rfl

/-- The volume has its handle once the block has been written. -/
theorem writeBlock_handle (ok : CacheOk s.cache) (taken : withHandle s.cache n vol = some hx)
    (key : keyFor (readyFor s.cache hx.2 n vol p.1) n vol p.1 = some k) :
    handleOf (writeBlock n vol seq dirty recording p s).cache n vol = some hx.1 := by
  have held := handleOf_of_withHandle ok taken
  rw [writeBlock_cache taken]
  unfold readyFor at key
  rw [key]
  refine handleOf_freeHandles (x := { hx.2 with
    stamp := hx.2.stamp + 1
    slots := mapSet (clearedFor s.cache n vol p.1) k (blockSlot n hx.1 seq dirty recording hx.2.stamp p) }) (k := k)
    (q := blockSlot n hx.1 seq dirty recording hx.2.stamp p) held ?_ rfl
  simp [mapSet]

/-- The slot that is written was the block's first one, or free while the block has none. -/
theorem keyFor_cases {x : Cache} {h lba : Nat} (wf : mapWf x.slots = true) (held : handleOf x n vol = some h)
    (key : keyFor x n vol lba = some k) :
    (∀ j < k, ∀ q, mapFind x.slots j = some q → isBlock n h lba q = false) ∧
      ((∃ q, mapFind x.slots k = some q ∧ isBlock n h lba q = true) ∨ mapFind x.slots k = none) := by
  unfold keyFor at key
  split at key
  · rename_i j no
    cases key
    obtain ⟨here, least⟩ := (slotNo_iff wf held).1 no
    exact ⟨least, .inl here⟩
  · rename_i no
    exact ⟨fun j _ => (slotNo_none_iff wf held).1 no j, .inr (mapFree_free wf (fun _ _ => Nat.zero_le _) key).2⟩

/-- The block that is written is found with its data. -/
theorem writeBlock_stores (ok : CacheOk s.cache) (taken : withHandle s.cache n vol = some hx)
    (key : keyFor (readyFor s.cache hx.2 n vol p.1) n vol p.1 = some k) :
    slotAt (writeBlock n vol seq dirty recording p s).cache n vol p.1 =
      some (blockSlot n hx.1 seq dirty recording hx.2.stamp p) := by
  have wf : mapWf (clearedFor s.cache n vol p.1) = true := mapWf_clearedFor ok.slots
  have held := handleOf_of_withHandle ok taken
  obtain ⟨least, -⟩ := keyFor_cases (x := readyFor s.cache hx.2 n vol p.1) wf held key
  refine (slotAt_iff (writeBlock_bounds _ _ _ _ _ _ _ ok).slots (writeBlock_handle ok taken key)).2 ⟨by simp [isBlock, blockSlot], k, ?_, ?_⟩
  · rw [writeBlock_slots taken key, mapFind_mapSet, if_pos rfl]
  · intro j below r found
    rw [writeBlock_slots taken key, mapFind_mapSet, if_neg (by omega)] at found
    exact least j below r found

/-- What is cleared for a block is a slot of that block. -/
theorem mapFind_clearedFor {x : Cache} {h lba : Nat} (wf : mapWf x.slots = true) (held : handleOf x n vol = some h) {j : Nat} {q : Slot}
    (found : mapFind x.slots j = some q) (other : isBlock n h lba q = false) : mapFind (clearedFor x n vol lba) j = some q := by
  rcases clearedFor_cases x n vol lba with same | ⟨v, no, erased⟩
  · rw [same, found]
  · obtain ⟨⟨r, here, fits⟩, -⟩ := (slotNo_iff wf held).1 no
    rw [erased, mapFind_mapErase, if_neg, found]
    rintro rfl
    cases found.symm.trans here
    simp [fits] at other

theorem mapFind_of_clearedFor {x : Cache} {lba j : Nat} {q : Slot} (found : mapFind (clearedFor x n vol lba) j = some q) :
    mapFind x.slots j = some q := by
  rcases clearedFor_cases x n vol lba with same | ⟨v, -, erased⟩
  · rwa [same] at found
  · rw [erased, mapFind_mapErase] at found
    split at found
    · cases found
    · exact found

/-- A block of another address is found as before. -/
theorem writeBlock_keeps {lba : Nat} {q : Slot} (ok : CacheOk s.cache) (found : slotAt s.cache n vol lba = some q) (other : lba ≠ p.1) :
    slotAt (writeBlock n vol seq dirty recording p s).cache n vol lba = some q := by
  obtain ⟨h, held⟩ := handleOf_of_slotAt found
  have taken := withHandle_of_held held
  cases key : keyFor (readyFor s.cache s.cache n vol p.1) n vol p.1 with
  | none =>
    unfold readyFor at key
    rw [writeBlock_cache taken, key]
    exact found
  | some k =>
    have wf : mapWf (clearedFor s.cache n vol p.1) = true := mapWf_clearedFor ok.slots
    obtain ⟨fits, j, here, least⟩ := (slotAt_iff ok.slots held).1 found
    have apart {r : Slot} (f : isBlock n h lba r = true) : isBlock n h p.1 r = false := by
      simp only [isBlock, Bool.and_eq_true, beq_iff_eq] at f
      simp [isBlock, f.2, other]
    have away : j ≠ k := by
      rintro rfl
      have still := mapFind_clearedFor ok.slots held here (apart fits)
      rcases (keyFor_cases (x := readyFor s.cache s.cache n vol p.1) wf held key).2 with ⟨r, there, own⟩ | free
      · cases there.symm.trans still
        simp [apart fits] at own
      · cases free.symm.trans still
    refine (slotAt_iff (writeBlock_bounds _ _ _ _ _ _ _ ok).slots (writeBlock_handle ok taken key)).2 ⟨fits, j, ?_, ?_⟩
    · rw [writeBlock_slots taken key, mapFind_mapSet, if_neg away]
      exact mapFind_clearedFor ok.slots held here (apart fits)
    · intro i below r there
      rw [writeBlock_slots taken key, mapFind_mapSet] at there
      split at there
      · cases there
        simp [isBlock, blockSlot, Ne.symm other]
      · exact least i below r (mapFind_of_clearedFor there)

theorem length_clearedFor_le (x : Cache) (n : Fin 16) (vol : BitVec 32) (lba : Nat) : (clearedFor x n vol lba).length ≤ x.slots.length := by
  rcases clearedFor_cases x n vol lba with same | ⟨v, -, erased⟩
  · rw [same]
  · rw [erased]
    exact length_mapErase_le _ _

/-- Where a block's slot has been cleared away and no other is left, one more is free. -/
theorem length_clearedFor_lt {x : Cache} {lba v : Nat} (ok : CacheOk x) (taken : withHandle x n vol = some hx)
    (no : slotNo x n vol lba = some v) (gone : slotNo (readyFor x hx.2 n vol lba) n vol lba = none) :
    (clearedFor x n vol lba).length < x.slots.length := by
  obtain ⟨h, q, held, mem, -⟩ := slotNo_some no
  cases taken.symm.trans (withHandle_of_held held)
  rcases clearedFor_cases x n vol lba with same | ⟨w, now, erased⟩
  · unfold readyFor at gone
    rw [same] at gone
    cases no.symm.trans gone
  · cases no.symm.trans now
    rw [erased]
    exact length_mapErase_lt (mapFind_of_mem ok.slots mem)

/-- The slots that a block still needs. -/
def needs (x : Cache) (n : Fin 16) (vol : BitVec 32) (lba : Nat) : Nat := if (slotAt x n vol lba).isNone then 1 else 0

/-- A slot can be had for a block that has one, or while one is free. -/
theorem keyFor_isSome {x : Cache} {lba : Nat} (ok : CacheOk x) (taken : withHandle x n vol = some hx)
    (room : x.slots.length + needs x n vol lba ≤ x.usable) :
    ∃ k, keyFor (readyFor x hx.2 n vol lba) n vol lba = some k ∧
      ∀ v, (mapSet (clearedFor x n vol lba) k v).length ≤ x.slots.length + needs x n vol lba := by
  have wf : mapWf (readyFor x hx.2 n vol lba).slots = true := mapWf_clearedFor ok.slots
  have held := handleOf_of_withHandle ok taken
  have shorter := length_clearedFor_le x n vol lba
  unfold keyFor
  cases now : slotNo (readyFor x hx.2 n vol lba) n vol lba with
  | some k =>
    refine ⟨k, rfl, fun v => ?_⟩
    obtain ⟨⟨q, here, -⟩, -⟩ := (slotNo_iff wf held).1 now
    have := length_mapSet_of_found (v := v) here
    simp only [readyFor] at this
    omega
  | none =>
    have fits : (clearedFor x n vol lba).length + 1 ≤ x.slots.length + needs x n vol lba := by
      cases no : slotNo x n vol lba with
      | none =>
        have : needs x n vol lba = 1 := by simp [needs, (slotAt_eq_none_iff ok.slots).2 no]
        omega
      | some v =>
        have := length_clearedFor_lt ok taken no now
        omega
    have free : (readyFor x hx.2 n vol lba).slots.length < hx.2.usable := by
      rw [withHandle_usable taken]
      simp only [readyFor]
      omega
    obtain ⟨k, key⟩ := mapFree_isSome (k := 0) free
    exact ⟨k, key, fun v => (length_mapSet_le _ _ _).trans fits⟩

/-- What the next block finds: the volume's handle, and room for all that still need a slot. -/
theorem writeBlock_room (ok : CacheOk s.cache) (taken : withHandle s.cache n vol = some hx)
    (room : s.cache.slots.length + needs s.cache n vol p.1 ≤ s.cache.usable) :
    ∃ k, keyFor (readyFor s.cache hx.2 n vol p.1) n vol p.1 = some k ∧
      (writeBlock n vol seq dirty recording p s).cache.usable = s.cache.usable ∧
      (writeBlock n vol seq dirty recording p s).cache.slots.length ≤ s.cache.slots.length + needs s.cache n vol p.1 := by
  obtain ⟨k, key, fits⟩ := keyFor_isSome ok taken room
  refine ⟨k, key, ?_, ?_⟩
  · unfold readyFor at key
    rw [writeBlock_cache taken, key]
    exact withHandle_usable taken
  · rw [writeBlock_slots taken key]
    exact fits _

/-- Another block needs no more than before. -/
theorem needs_writeBlock_le {lba : Nat} (ok : CacheOk s.cache) (other : lba ≠ p.1) :
    needs (writeBlock n vol seq dirty recording p s).cache n vol lba ≤ needs s.cache n vol lba := by
  cases before : slotAt s.cache n vol lba with
  | some q => simp [needs, before, writeBlock_keeps ok before other]
  | none =>
    have one : needs s.cache n vol lba = 1 := by simp [needs, before]
    rw [one]
    unfold needs
    split
    · exact le_rfl
    · exact Nat.zero_le _

/-! ### All the blocks of a PUT -/

/-- What the blocks of a list still need. -/
def allNeed (x : Cache) (n : Fin 16) (vol : BitVec 32) (l : List Nat) : Nat := (l.map (needs x n vol)).sum

theorem allNeed_writeBlock_le {l : List Nat} (ok : CacheOk s.cache) (other : p.1 ∉ l) :
    allNeed (writeBlock n vol seq dirty recording p s).cache n vol l ≤ allNeed s.cache n vol l := by
  refine List.sum_le_sum fun lba mem => needs_writeBlock_le ok ?_
  rintro rfl
  exact other mem

end

/-- Every block of a list, each with an address of its own, is found afterwards with its data, and what stood elsewhere still is. -/
theorem writeBlocks_store {n : Fin 16} {vol : BitVec 32} {seq : Nat} {dirty recording : Bool} {l : List (Nat × Block)} {s : State}
    (ok : CacheOk s.cache) (handle : (handleOf s.cache n vol).isSome = true ∨ s.cache.handles.length < 4096)
    (room : s.cache.slots.length + allNeed s.cache n vol (l.map (·.1)) ≤ s.cache.usable) (apart : (l.map (·.1)).Nodup) :
    (∀ lba ∉ l.map (·.1), ∀ q, slotAt s.cache n vol lba = some q →
      slotAt (l.foldl (fun t p => writeBlock n vol seq dirty recording p t) s).cache n vol lba = some q) ∧
    ∀ p ∈ l, ∃ h used, slotAt (l.foldl (fun t p => writeBlock n vol seq dirty recording p t) s).cache n vol p.1 =
      some (blockSlot n h seq dirty recording used p) := by
  induction l generalizing s with
  | nil => exact ⟨fun _ _ q found => found, fun p hp => by cases hp⟩
  | cons p l ih =>
    obtain ⟨alone, apart⟩ := List.nodup_cons.1 apart
    have need : allNeed s.cache n vol ((p :: l).map (·.1)) = needs s.cache n vol p.1 + allNeed s.cache n vol (l.map (·.1)) := rfl
    obtain ⟨hx, taken⟩ := withHandle_isSome handle
    obtain ⟨k, key, usable, longer⟩ := writeBlock_room (seq := seq) (dirty := dirty) (recording := recording) (p := p) ok taken (by omega)
    have ok' : CacheOk (writeBlock n vol seq dirty recording p s).cache := writeBlock_bounds _ _ _ _ _ _ _ ok
    have less := allNeed_writeBlock_le (n := n) (vol := vol) (seq := seq) (dirty := dirty) (recording := recording) ok alone
    obtain ⟨keeps, stores⟩ := ih ok' (.inl (by simp [writeBlock_handle ok taken key])) (by omega) apart
    refine ⟨fun lba away q found => ?_, fun q hq => ?_⟩
    · simp only [List.map_cons, List.mem_cons, not_or] at away
      exact keeps lba away.2 q (writeBlock_keeps ok found away.1)
    · rcases List.mem_cons.1 hq with rfl | later
      · exact ⟨_, _, keeps _ alone _ (writeBlock_stores ok taken key)⟩
      · exact stores q later

theorem slotAt_congr {x y : Cache} (slots : y.slots = x.slots) (handles : y.handles = x.handles) (n : Fin 16) (vol : BitVec 32)
    (lba : Nat) : slotAt y n vol lba = slotAt x n vol lba := by
  unfold slotAt slotNo handleOf
  rw [slots, handles]

theorem ensureKey_handles (n : Fin 16) (s : State) : (ensureKey n s).cache.handles = s.cache.handles := by
  unfold ensureKey
  split
  · simp
    rfl
  · rfl

theorem ensureKey_usable (n : Fin 16) (s : State) : (ensureKey n s).cache.usable = s.cache.usable := by
  unfold ensureKey
  split
  · simp
    rfl
  · rfl

theorem allNeed_eq_slotless {s : State} {c : Cmd} :
    allNeed s.cache c.fn (sqeVolume c.sqe) (blocksOf c) = slotlessBlocks s c := by
  unfold allNeed slotlessBlocks needs
  induction blocksOf c with
  | nil => rfl
  | cons b l ih =>
    simp only [List.map_cons, List.sum_cons, List.filter_cons, ih]
    split <;> simp [Nat.add_comm]

/-- The blocks of a PUT, each with its address. -/
def addressed (lba : Nat) (bs : List Block) : List (Nat × Block) := bs.zipIdx.map (fun p => (lba + p.2, p.1))

theorem addressed_keys (lba : Nat) (bs : List Block) : (addressed lba bs).map (·.1) = (List.range bs.length).map (lba + ·) := by
  simp only [addressed, List.map_map]
  rw [show ((fun x : Nat × Block => x.1) ∘ fun p : Block × Nat => (lba + p.2, p.1)) = (lba + ·) ∘ Prod.snd from rfl,
    ← List.map_map, List.zipIdx_map_snd, List.range_eq_range']

theorem mem_addressed {lba i : Nat} {bs : List Block} {b : Block} (found : bs[i]? = some b) : (lba + i, b) ∈ addressed lba bs :=
  List.mem_map.2 ⟨(b, i), List.mem_zipIdx_iff_getElem?.2 found, rfl⟩

theorem applyBlocks_store {n : Fin 16} {vol : BitVec 32} {lba : Nat} {dirty recording : Bool} {bs : List Block} {s : State}
    (ok : CacheOk s.cache) (handle : (handleOf s.cache n vol).isSome = true ∨ s.cache.handles.length < 4096)
    (room : s.cache.slots.length + allNeed s.cache n vol ((List.range bs.length).map (lba + ·)) ≤ s.cache.usable) {i : Nat} {b : Block}
    (sent : bs[i]? = some b) : ∃ h used, slotAt (applyBlocks n vol lba dirty recording bs s).cache n vol (lba + i) =
      some (blockSlot n h ((s.ten n).writeSeq + 1) dirty recording used (lba + i, b)) := by
  unfold applyBlocks
  extract_lets seq s1
  have slots : s1.cache.slots = s.cache.slots := by simp [s1]
  have handles : s1.cache.handles = s.cache.handles := ensureKey_handles n _
  have usable : s1.cache.usable = s.cache.usable := ensureKey_usable n _
  have same : handleOf s1.cache n vol = handleOf s.cache n vol := by unfold handleOf; rw [handles]
  have needed (l : List Nat) : allNeed s1.cache n vol l = allNeed s.cache n vol l := by
    unfold allNeed needs
    simp only [slotAt_congr slots handles]
  have apart : ((addressed lba bs).map (·.1)).Nodup := by
    rw [addressed_keys]
    exact (List.nodup_range).map fun a b e => by simpa using e
  exact (writeBlocks_store (l := addressed lba bs) (by simp [s1, ok]) (by rw [same, handles]; exact handle)
    (by rw [slots, usable, addressed_keys, needed]; exact room) apart).2 _ (mem_addressed sent)

/-- What a PUT gives back before its blocks are written. -/
def putReady (c : Cmd) (s : State) : State :=
  s.modTen c.fn (fun t => { t with reserved := t.reserved - c.charged, lastThrottled := false })

/-- What PUT_APPLY leaves in the directory is what writing the blocks leaves there. -/
theorem finishPut_slots (c : Cmd) (bs : List Block) (s : State) :
    (finishPut c bs s).cache.slots =
      (applyBlocks c.fn (sqeVolume c.sqe) (sqeLba c.sqe) c.protect false bs (putReady c s)).cache.slots ∧
    (finishPut c bs s).cache.handles =
      (applyBlocks c.fn (sqeVolume c.sqe) (sqeLba c.sqe) c.protect false bs (putReady c s)).cache.handles := by
  have same (t : State) : (complete c { completion c .success ((applyPut c.fn (sqeVolume c.sqe) (sqeLba c.sqe) c.protect false bs
      (putReady c s)).ten c.fn).writeSeq 0 with notProtected := !c.protect } t).cache.handles = t.cache.handles := rfl
  unfold finishPut
  dsimp only
  rw [complete_slots]
  unfold putReady at same ⊢
  rw [same]
  unfold applyPut
  dsimp only
  split <;> simp

/-- The data of a PUT is in the directory once it has ended (05 R228, R231). -/
theorem finishPut_stores {c : Cmd} {bs : List Block} {s : State} (ok : CacheOk s.cache) (whole : bs.length = sqeLength c.sqe)
    (handle : (handleOf s.cache c.fn (sqeVolume c.sqe)).isSome = true ∨ s.cache.handles.length < 4096)
    (room : s.cache.slots.length + slotlessBlocks s c ≤ s.cache.usable) {i : Nat} {b : Block} (sent : bs[i]? = some b) :
    ∃ h used, slotAt (finishPut c bs s).cache c.fn (sqeVolume c.sqe) (sqeLba c.sqe + i) =
      some (blockSlot c.fn h ((s.ten c.fn).writeSeq + 1) c.protect false used (sqeLba c.sqe + i, b)) := by
  have ok1 : CacheOk (putReady c s).cache := ⟨ok.slots, ok.handles⟩
  have seq : ((putReady c s).ten c.fn).writeSeq = (s.ten c.fn).writeSeq := by simp [putReady, State.ten, State.modTen]
  have needed : allNeed (putReady c s).cache c.fn (sqeVolume c.sqe) ((List.range bs.length).map (sqeLba c.sqe + ·)) =
      slotlessBlocks s c := by
    rw [whole, ← allNeed_eq_slotless]
    rfl
  obtain ⟨h, used, stored⟩ := applyBlocks_store (dirty := c.protect) (recording := false) ok1 handle
    (by rw [needed]; exact room) sent
  obtain ⟨slots, handles⟩ := finishPut_slots c bs s
  refine ⟨h, used, ?_⟩
  rw [slotAt_congr slots handles, stored, seq]

end Sys2Proof.Machine
end

section
open Sys2Proof Sys2Proof.Machine

/-- Settles O59: each block is written to a slot of its own, which the later ones leave. -/
theorem putsStoreTheirBlocks : Obligations.PutsStoreTheirBlocks := by
  intro id bs c s inv found moving open' whole handle room
  have ran : exec (.putApply id (.data bs)) s = .next (finishPut c bs s) := by
    show execPutApply id (.data bs) s = _
    simp [execPutApply, found, moving, open', whole]
  refine ⟨_, ran, fun i b sent => ?_⟩
  obtain ⟨h, used, stored⟩ := finishPut_stores ((inv_iff s).1 inv).1 whole handle room sent
  exact ⟨_, stored, rfl, rfl, rfl⟩
end

section
/-! What a request served at once does: the state it leaves and what its port and the events take note of. -/

namespace Sys2Proof.Machine

/-! ### What an answered request changes -/

theorem withPba_of_withPba (a b c : Vector Func 16) : withPba a (withPba b c) = withPba a c := by
  ext i h; simp [withPba]

theorem arrived_withRequest (s : State) (x : Nat) (m : Vector Mbx 16) :
    arrivedAs s x m = withRequest s (arrivedAs s x m) := by
  simp only [withRequest, withEvents, arrivedAs, withPba_self]

/-- What a request may change, where the functions are as they were. -/
theorem withRequest_of_port {q r : State} (port : r.port = q.port) (same : r = { Machine.withRequest q r with port := r.port }) :
    r = withRequest q r := by
  have fns : withPba q.port.fns r.port.fns = q.port.fns := by rw [port, withPba_self]
  rw [port] at same
  rw [withRequest, fns]
  exact same

/-- An answer adds nothing to what a request may change. -/
theorem withRequest_of_reply {q r t : State} (reply : t = withReply r t) (inner : r = withRequest q r) : t = withRequest q t := by
  have ev : t.ev = r.ev := (congrArg State.ev reply :)
  have can : t.can = r.can := (congrArg State.can reply :)
  have mode : t.mode = r.mode := (congrArg State.mode reply :)
  have port : t.port = { r.port with fns := withPba r.port.fns t.port.fns } := (congrArg State.port reply :)
  have same : withReply r t = withRequest q t := by
    rw [inner]
    simp only [withReply, withRequest, withEvents, withPba_withPba, ev, can, mode]
  exact reply.trans same

/-- The same for a refusal, which is counted too. -/
theorem withRequest_of_refusal {q r t : State} {a b} (inner : r = withRequest q r)
    (reply : t = { withReply r t with dict := { r.dict with refusedMbx := a, refusedUsdo := b } }) :
    t = { withRequest q t with dict := { q.dict with refusedMbx := t.dict.refusedMbx, refusedUsdo := t.dict.refusedUsdo } } := by
  have ev : t.ev = r.ev := (congrArg State.ev reply :)
  have can : t.can = r.can := (congrArg State.can reply :)
  have mode : t.mode = r.mode := (congrArg State.mode reply :)
  have dict : t.dict = { r.dict with refusedMbx := a, refusedUsdo := b } := (congrArg State.dict reply :)
  have same : ({ withReply r t with dict := { r.dict with refusedMbx := a, refusedUsdo := b } } : State) =
      { withRequest q t with dict := { q.dict with refusedMbx := t.dict.refusedMbx, refusedUsdo := t.dict.refusedUsdo } } := by
    rw [dict, inner]
    simp only [withReply, withRequest, withEvents, withPba_withPba, ev, can, mode]
  exact reply.trans same

/-- An event raised by a request is among what a request may change. -/
theorem raiseWord_withRequest {q r : State} (ev : Nat) (i : EvIsland) (d : BitVec 32) (inner : r = withRequest q r) :
    raiseWord r ev i d = withRequest q (raiseWord r ev i d) := by
  have raised := raiseWord_eq r ev i d
  generalize raiseWord r ev i d = t at *
  rw [raised, inner]
  simp only [withRequest, withEvents, withPba_of_withPba]

theorem raise_withRequest {q r : State} (ev : Nat) (i : EvIsland) (vs : List (Nat × Nat)) (inner : r = withRequest q r) :
    raise r ev i vs = withRequest q (raise r ev i vs) := raiseWord_withRequest _ _ _ inner

/-- An accepted write of an entry that has an action and takes it, by what the action answers. -/
structure Replied (p : Session) (index sub code : Nat) (r t : State) : Prop where
  answered : Answered p index sub code [] t
  frame : if code = 0 then t = withReply r t else
    ∃ a b, t = { withReply r t with dict := { r.dict with refusedMbx := a, refusedUsdo := b } }

theorem replyTo_replied_ok (p : Session) (tag : Byte) (index sub : Nat) (r : State) :
    Replied p index sub 0 r (replyTo p tag index sub (r, .ok)) := ⟨replyTo_answered .., replyTo_ok ..⟩

theorem replyTo_replied_abort (p : Session) (tag : Byte) (index sub : Nat) {code : Nat} (r : State) (h : code ≠ 0) :
    Replied p index sub code r (replyTo p tag index sub (r, .abort code)) :=
  ⟨replyTo_refused _ _ _ _ _ _ h, by rw [if_neg h]; exact replyTo_abort ..⟩

section
variable {p : Session} {index sub code : Nat} {q r t : State}

theorem Replied.reply (h : Replied p index sub 0 r t) : t = withReply r t := h.frame

/-- What a reply does not reach is as the action left it. -/
theorem Replied.frame_eq (h : Replied p index sub code r t) :
    t = { r with mbx := t.mbx, out := t.out, port := { r.port with fns := withPba r.port.fns t.port.fns }, dict := t.dict } := by
  have frame := h.frame
  split at frame
  · have dict : t.dict = r.dict := (congrArg State.dict frame :)
    rw [dict]
    exact frame
  · obtain ⟨a, b, frame⟩ := frame
    have dict : t.dict = { r.dict with refusedMbx := a, refusedUsdo := b } := (congrArg State.dict frame :)
    rw [dict]
    exact frame

theorem Replied.time (h : Replied p index sub code r t) : t.time = r.time := (congrArg State.time h.frame_eq :)
theorem Replied.isl (h : Replied p index sub code r t) : t.isl = r.isl := (congrArg State.isl h.frame_eq :)
theorem Replied.life (h : Replied p index sub code r t) : t.life = r.life := (congrArg State.life h.frame_eq :)
theorem Replied.mode (h : Replied p index sub code r t) : t.mode = r.mode := (congrArg State.mode h.frame_eq :)
theorem Replied.nor (h : Replied p index sub code r t) : t.nor = r.nor := (congrArg State.nor h.frame_eq :)
theorem Replied.can (h : Replied p index sub code r t) : t.can = r.can := (congrArg State.can h.frame_eq :)
theorem Replied.win (h : Replied p index sub code r t) : t.win = r.win := (congrArg State.win h.frame_eq :)
theorem Replied.cache (h : Replied p index sub code r t) : t.cache = r.cache := (congrArg State.cache h.frame_eq :)
theorem Replied.adm (h : Replied p index sub code r t) : t.adm = r.adm := (congrArg State.adm h.frame_eq :)
theorem Replied.pack (h : Replied p index sub code r t) : t.pack = r.pack := (congrArg State.pack h.frame_eq :)
theorem Replied.bank (h : Replied p index sub code r t) : t.bank = r.bank := (congrArg State.bank h.frame_eq :)
theorem Replied.packEst (h : Replied p index sub code r t) : t.packEst = r.packEst := (congrArg State.packEst h.frame_eq :)
theorem Replied.bankEst (h : Replied p index sub code r t) : t.bankEst = r.bankEst := (congrArg State.bankEst h.frame_eq :)
theorem Replied.hold (h : Replied p index sub code r t) : t.hold = r.hold := (congrArg State.hold h.frame_eq :)
theorem Replied.rails (h : Replied p index sub code r t) : t.rails = r.rails := (congrArg State.rails h.frame_eq :)
theorem Replied.keep (h : Replied p index sub code r t) : t.keep = r.keep := (congrArg State.keep h.frame_eq :)
theorem Replied.tremor (h : Replied p index sub code r t) : t.tremor = r.tremor := (congrArg State.tremor h.frame_eq :)
theorem Replied.outage (h : Replied p index sub code r t) : t.outage = r.outage := (congrArg State.outage h.frame_eq :)
theorem Replied.flash (h : Replied p index sub code r t) : t.flash = r.flash := (congrArg State.flash h.frame_eq :)
theorem Replied.video (h : Replied p index sub code r t) : t.video = r.video := (congrArg State.video h.frame_eq :)
theorem Replied.ev (h : Replied p index sub code r t) : t.ev = r.ev := (congrArg State.ev h.frame_eq :)
theorem Replied.pending (h : Replied p index sub code r t) : t.pending = r.pending := (congrArg State.pending h.frame_eq :)

theorem Replied.dict (h : Replied p index sub 0 r t) : t.dict = r.dict := (congrArg State.dict h.reply :)

theorem Replied.withRequest (h : Replied p index sub 0 r t) (inner : r = withRequest q r) : t = Machine.withRequest q t :=
  withRequest_of_reply h.reply inner

theorem Replied.refusal (h : Replied p index sub code r t) (nonzero : code ≠ 0) (inner : r = Machine.withRequest q r) :
    t = { Machine.withRequest q t with dict := { q.dict with refusedMbx := t.dict.refusedMbx, refusedUsdo := t.dict.refusedUsdo } } := by
  have frame := h.frame
  rw [if_neg nonzero] at frame
  obtain ⟨a, b, frame⟩ := frame
  exact withRequest_of_refusal inner frame

theorem Replied.told {ev : Nat} {s : State} (h : Replied p index sub code r t) (told : Told ev s r) : Told ev s t :=
  told.ev_eq h.ev

end

section
variable {p : Session} {index : BitVec 16} {sub : BitVec 8} {data : List Byte} {s : State} {f : State → State × Answer} {g : State → State}

/-- A command that its entry's island takes runs the entry's action on the state in which it has arrived, and is answered. -/
theorem command_ok (h : Commands p index.toNat sub.toNat data s) (hw : winOf index.toNat = none)
    (ha : ∀ a u, actionOf p a index.toNat sub.toNat (ofLe data) u = some (f u))
    (does : ∀ x m, f (arrivedAs s x m) = (g (arrivedAs s x m), .ok)) :
    ∃ x m, Replied p index.toNat sub.toNat 0 (g (arrivedAs s x m)) (sessionWrite p index sub data s) := by
  obtain ⟨x, m, e⟩ := sessionWrite_action h hw ha
  exact ⟨x, m, by rw [e, does]; exact replyTo_replied_ok ..⟩

theorem command_refused {code : Nat} (h : Commands p index.toNat sub.toNat data s) (hw : winOf index.toNat = none)
    (ha : ∀ a u, actionOf p a index.toNat sub.toNat (ofLe data) u = some (f u)) (nonzero : code ≠ 0)
    (does : ∀ x m, f (arrivedAs s x m) = (g (arrivedAs s x m), .abort code)) :
    ∃ x m, Replied p index.toNat sub.toNat code (g (arrivedAs s x m)) (sessionWrite p index sub data s) := by
  obtain ⟨x, m, e⟩ := sessionWrite_action h hw ha
  exact ⟨x, m, by rw [e, does]; exact replyTo_replied_abort _ _ _ _ _ nonzero⟩

end

theorem raise_arrived (s : State) (x : Nat) (m : Vector Mbx 16) (ev : Nat) (i : EvIsland) (vs : List (Nat × Nat)) :
    Told ev s (raise (arrivedAs s x m) ev i vs) := (raise_told ..).of rfl rfl rfl

end Sys2Proof.Machine
end

section
/-! The expert session, the encryption mode, the expert code and the configuration lock (O3). -/

namespace Sys2Proof.Machine

/-! ### The expert session and the writes of the modes (03 R119 to R129; 04 R143 to R161) -/

theorem holdsExpert_of_closed {p : Session} {s : State} (closed : s.mode.expert = none) : holdsExpert p s = false := by
  simp [holdsExpert, closed]

theorem holdsExpert_open {p : Session} {s : State} (h : holdsExpert p s = true) : ∃ q, s.mode.expert = some q := by
  unfold holdsExpert at h
  split at h
  · exact ⟨_, ‹_›⟩
  · cases h

/-- An open session closes with EV-0013. -/
theorem closeExpert_of_open {s : State} {q : Session} (opened : s.mode.expert = some q) :
    closeExpert s = raise { s with mode := { s.mode with expert := none } } 13 .control [(1, q.code)] := by
  simp only [closeExpert, opened]

/-- With no session, no lockout and a requester that may, only the code decides. -/
theorem setExpert_of_closed {p : Session} {v : Nat} {s : State} (closed : s.mode.expert = none) (free : s.mode.lockoutEnd = none)
    (near : ∀ fn, p = .mailbox fn → hostAttach s.port ≠ 1) :
    setExpert p v s = if s.held 0x2F00 1 = 0 ∨ v = s.held 0x2F00 1 then openExpert p s else wrongCode s := by
  unfold setExpert
  rw [holdsExpert_of_closed closed, free, closed]
  cases p with
  | usdo _ => simp
  | mailbox fn => simp [near fn rfl]

theorem setExpert_of_lockout {p : Session} {v : Nat} {s : State} (other : holdsExpert p s = false) (locked : s.mode.lockoutEnd.isSome = true) :
    setExpert p v s = refuseExpert abState s := by
  simp [setExpert, other, locked]

theorem wrongCode_answer (s : State) : (wrongCode s).2 = .abort abData := rfl

theorem wrongCode_told (s : State) : Told 14 s (wrongCode s).1 := by
  unfold wrongCode
  dsimp only
  split <;> exact (raise_told ..).of rfl rfl rfl

theorem wrongCode_mode (s : State) : (wrongCode s).1.mode.expert = s.mode.expert := by
  unfold wrongCode refuseExpert
  dsimp only
  split <;> simp

/-- An accepted write of an entry without an action or a check of its own, held by CONTROL, holds its value. -/
theorem plain_ok {p : Session} {index : BitVec 16} {sub : BitVec 8} {data : List Byte} {s : State}
    (h : Accepts p index.toNat sub.toNat data s) (hw : winOf index.toNat = none)
    (ha : ∀ a u, actionOf p a index.toNat sub.toNat (ofLe data) u = none)
    (holds : ∀ x m, writePlain p index.toNat sub.toNat (ofLe data) (arrivedAs s x m) =
      ((arrivedAs s x m).setHeld index.toNat sub.toNat (ofLe data), .ok)) :
    ∃ x m, Replied p index.toNat sub.toNat 0 ((arrivedAs s x m).setHeld index.toNat sub.toNat (ofLe data))
      (sessionWrite p index sub data s) := by
  obtain ⟨x, m, e⟩ := sessionWrite_accepts h (.inl hw)
  rw [applyValue_plain hw (ha _ _), holds] at e
  exact ⟨x, m, by rw [e]; exact replyTo_replied_ok ..⟩

theorem holdCode_plain (p : Session) (v : Nat) {s : State} (runs : controlRuns s = true) :
    writePlain p 0x2F00 1 v s = (s.setHeld 0x2F00 1 v, .ok) := by
  have here : s.island (s.ownerOf 0x2F00 1) = .running := eq_of_beq runs
  simp [writePlain, chapterCheck, railOfIndex, tenantBlock, overBudget, budgeted, streamEntry, valueHeld, beforeHold, holdValue, here, afterHold]

theorem noDirty_iff (x : Cache) : noDirty x = true ↔ ∀ q ∈ x.slots, q.2.dirty = false := by
  simp [noDirty]

theorem setLock_open {p : Session} {v : Nat} {s : State} (nonzero : v ≠ 0) (closed : s.mode.lock = false) :
    setLock p v s = (raise { s with mode := { s.mode with lock := true } } 15 .control [(1, 1), (1, p.code)], .ok) := by
  simp [setLock, nonzero, closed]

theorem setLock_close {p : Session} {s : State} (opened : s.mode.lock = true) :
    setLock p 0 s = (raise { s with mode := { s.mode with lock := false } } 15 .control [(1, 0), (1, holderCode (some p))], .ok) := by
  simp [setLock, closeLock, opened]

end Sys2Proof.Machine
end

section
open Sys2Proof Sys2Proof.Machine

/-- Settles O3: each write runs its entry's action on the request that has arrived, and the guards of the action decide what it answers. -/
theorem expertAndModeWrites : Obligations.ExpertAndModeWrites := by
  unfold Obligations.ExpertAndModeWrites
  refine ⟨?opens, ?lockedOut, ?wrong, ?closes, ?idles, ?lockoutEnds, ?encrypts, ?encryptionRefused, ?codeHeld, ?locks⟩
  case opens =>
    intro p code s accepted closed free near fits
    obtain ⟨x, m, r⟩ := command_ok (index := 0x2021) (sub := 1) (f := setExpert p code.toNat) (g := fun u => (openExpert p u).1)
      (accepts_commands_of_control rfl accepted) rfl
      (fun a u => by rw [ofLe_leBytes_toNat code (by decide)]; rfl)
      (fun x m => (setExpert_of_closed (s := arrivedAs s x m) closed free near).trans (if_pos fits))
    exact ⟨_, rfl, r.answered, r.told ((raise_told ..).of rfl rfl rfl), r.mode ▸ by simp [openExpert],
      r.mode ▸ by simp [openExpert, arrivedAs], r.withRequest (raise_withRequest _ _ _ (withRequest_of_port rfl rfl))⟩
  case lockedOut =>
    intro p code s accepted other locked
    obtain ⟨x, m, r⟩ := command_refused (index := 0x2021) (sub := 1) (f := setExpert p code.toNat)
      (g := fun u => raise u 14 .control []) (code := abState)
      (accepts_commands_of_control rfl accepted) rfl
      (fun a u => by rw [ofLe_leBytes_toNat code (by decide)]; rfl) (by decide)
      (fun x m => setExpert_of_lockout (s := arrivedAs s x m) other locked)
    exact ⟨_, rfl, r.answered, r.told (raise_arrived ..), r.refusal (by decide) (raise_withRequest _ _ _ (arrived_withRequest ..))⟩
  case wrong =>
    intro p code s accepted closed free near guarded differs
    obtain ⟨x, m, r⟩ := command_refused (index := 0x2021) (sub := 1) (f := setExpert p code.toNat)
      (g := fun u => (wrongCode u).1) (code := abData)
      (accepts_commands_of_control rfl accepted) rfl
      (fun a u => by rw [ofLe_leBytes_toNat code (by decide)]; rfl) (by decide)
      (fun x m => (setExpert_of_closed (s := arrivedAs s x m) closed free near).trans (if_neg (not_or.2 ⟨guarded, differs⟩)))
    exact ⟨_, rfl, r.answered, r.told ((wrongCode_told _).of rfl rfl rfl), (congrArg _ r.mode).trans ((wrongCode_mode _).trans closed)⟩
  case closes =>
    intro p s accepted holds
    obtain ⟨q, opened⟩ := holdsExpert_open holds
    obtain ⟨x, m, r⟩ := command_ok (index := 0x2021) (sub := 1) (f := setExpert p 0) (g := closeExpert)
      (accepts_commands_of_control rfl accepted) rfl (fun a u => rfl)
      (fun x m => if_pos ⟨holds, rfl⟩)
    rw [closeExpert_of_open (s := arrivedAs s x m) opened] at r
    exact ⟨_, rfl, r.answered, r.told ((raise_told ..).of rfl rfl rfl), r.withRequest (raise_withRequest _ _ _ (withRequest_of_port rfl rfl))⟩
  case idles =>
    intro p s opened idle
    have run : exec .expertIdleTimeout s = .next (closeExpert s) := if_neg (not_lt.2 idle)
    rw [closeExpert_of_open opened] at run
    exact ⟨_, run, (raise_told ..).of rfl rfl rfl, raise_eq ..⟩
  case lockoutEnds =>
    intro s e locked passed
    have run : exec .expertLockoutEnd s = execExpertLockoutEnd s := rfl
    rw [run, execExpertLockoutEnd, locked]
    exact congrArg _ (if_pos passed)
  case encrypts =>
    intro p v s accepted clean noImage
    obtain ⟨x, m, r⟩ := command_ok (index := 0x2020) (sub := 6) (f := setEncryption v.toNat) (g := fun u => u.setHeld 0x2020 6 v.toNat)
      (accepts_commands_of_control rfl accepted) rfl
      (fun a u => by rw [ofLe_leBytes_toNat v (by decide)]; rfl)
      (fun x m => if_pos (.inr ⟨(noDirty_iff _).2 clean, noImage⟩))
    exact ⟨_, rfl, r.answered, r.withRequest (withRequest_of_port rfl rfl)⟩
  case encryptionRefused =>
    rintro p v s accepted changes ⟨q, stored, dirty⟩
    have notClean : ¬ noDirty s.cache = true := fun clean => by simp [(noDirty_iff _).1 clean q stored] at dirty
    obtain ⟨x, m, r⟩ := command_refused (index := 0x2020) (sub := 6) (f := setEncryption v.toNat)
      (g := fun u => raiseWord u 11 .control (Config.openWord 11 0)) (code := abState)
      (accepts_commands_of_control rfl accepted) rfl
      (fun a u => by rw [ofLe_leBytes_toNat v (by decide)]; rfl) (by decide)
      (fun x m => if_neg (not_or.2 ⟨changes, fun h => notClean h.1⟩))
    exact ⟨_, rfl, r.answered, r.told ((raiseWord_told ..).of rfl rfl rfl),
      r.refusal (by decide) (raiseWord_withRequest _ _ _ (arrived_withRequest ..))⟩
  case codeHeld =>
    intro p code s accepted
    obtain ⟨x, m, r⟩ := plain_ok (index := 0x2F00) (sub := 1) accepted rfl (fun a u => rfl)
      (fun x m => holdCode_plain p _ (s := arrivedAs s x m) (reaches_control (s := s) accepted.1))
    rw [ofLe_leBytes_toNat code (by decide)] at r
    exact ⟨_, rfl, r.answered, r.withRequest (withRequest_of_port rfl rfl)⟩
  case locks =>
    intro p s v accepted before
    by_cases zero : v = 0
    · subst zero
      obtain ⟨x, m, r⟩ := command_ok (index := 0x2030) (sub := 1) (f := setLock p 0)
        (g := fun u => raise { u with mode := { u.mode with lock := false } } 15 .control [(1, 0), (1, holderCode (some p))])
        (accepts_commands_of_control rfl accepted) rfl (fun a u => rfl)
        (fun x m => setLock_close (s := arrivedAs s x m) before)
      exact ⟨_, rfl, r.answered, r.told ((raise_told ..).of rfl rfl rfl), r.withRequest (raise_withRequest _ _ _ (withRequest_of_port rfl rfl))⟩
    · have nonzero : v.toNat ≠ 0 := fun h => zero (BitVec.eq_of_toNat_eq h)
      obtain ⟨x, m, r⟩ := command_ok (index := 0x2030) (sub := 1) (f := setLock p v.toNat)
        (g := fun u => raise { u with mode := { u.mode with lock := true } } 15 .control [(1, 1), (1, p.code)])
        (accepts_commands_of_control rfl accepted) rfl
        (fun a u => by rw [ofLe_leBytes_toNat v (by decide)]; rfl)
        (fun x m => setLock_open (s := arrivedAs s x m) nonzero (before.trans (decide_eq_false zero)))
      simp only [zero, ne_eq, not_false_eq_true, decide_true]
      exact ⟨_, rfl, r.answered, r.told ((raise_told ..).of rfl rfl rfl), r.withRequest (raise_withRequest _ _ _ (withRequest_of_port rfl rfl))⟩
end

section
/-! Whether a request reaches its entry and passes the checks, read off from the port and the life cycle alone; a controller in service. -/

namespace Sys2Proof.Machine

/-! ### A write that is accepted, on a state that is given: the checks as one computation -/

/-- The transport serves the session and no earlier request of it waits. -/
def reachesNow (p : Session) (s : State) : Bool :=
  match p with
  | .usdo c => usdoServed s && !s.can.busy.contains c
  | .mailbox fn => mbxReached s fn && !(s.mbx[fn]).go && !mbxBusy s

/-- The checks that a write makes of the row of its entry. -/
def passesNow (p : Session) (index sub : Nat) (data : List Byte) (s : State) : Bool :=
  match findEntry p index sub s with
  | .error _ => false
  | .ok r =>
    r.acc.mayWrite (classesOf p index) && decide (r.level = .expert → holdsExpert p s = true) &&
    decide (romOnly s = true → romServes index = true) && !pathRefuses s r index && !tenantDisabled s index &&
    decide (r.acc.locked = true → s.mode.lock = true) && decide (data.length = r.ty.size) &&
    decide (rangeCheck s.held r index sub (ofLe data) = none) && decide (s.island (s.ownerOf index sub) ≠ .fault)

theorem reaches_of_now {p : Session} {s : State} (h : reachesNow p s = true) : Reaches p s := by
  cases p with
  | usdo c => simpa [reachesNow, Reaches] using h
  | mailbox fn => simpa [reachesNow, Reaches, and_assoc] using h

theorem passes_of_now {p : Session} {index sub : Nat} {data : List Byte} {s : State} (h : passesNow p index sub data s = true) :
    Passes p index sub data s := by
  unfold passesNow at h
  split at h
  · cases h
  · rename_i r found
    simp only [Bool.and_eq_true, decide_eq_true_eq, Bool.not_eq_true', and_assoc] at h
    exact ⟨r, found, h⟩

theorem accepts_of_now {p : Session} {index sub : Nat} {data : List Byte} {s : State} (reached : reachesNow p s = true)
    (passed : passesNow p index sub data s = true) : Accepts p index sub data s :=
  ⟨reaches_of_now reached, passes_of_now passed⟩

/-- SERVE with every island running, CAN FD operational, the configuration lock open, and client 1 holding the expert session. -/
def inService : State :=
  { State.reset with
    life := { State.reset.life with dev := .serve }
    isl := { State.reset.isl with run := Vector.replicate 11 .running }
    mode := { State.reset.mode with lock := true, expert := some (.usdo 1) }
    can := { State.reset.can with nmt := .operational } }

end Sys2Proof.Machine
end

section
/-! A request to clear a channel fault (O6): what the counterexample runs. -/

namespace Sys2Proof.Machine

/-! ### A reset of a channel's learned values and the low-health mark -/

/-- The PACK's health has been low. -/
def packHealthLow : State := { inService with packEst := { inService.packEst with healthLow := true } }

theorem channelReset_clears_healthLow : (sessionPut (.usdo 1) 0x2511 0x0A 1 1 packHealthLow).packEst.healthLow = false := by
  decide +kernel

theorem channelReset_accepted : Accepts (.usdo 1) 0x2511 0x0A (leBytes 1 1) packHealthLow :=
  accepts_of_now (by decide +kernel) (by decide +kernel)

end Sys2Proof.Machine
end

section
open Sys2Proof Sys2Proof.Machine

/-- Refutes O6 in its third clause: a channel's health is reckoned anew once its learned capacity is gone, so a reset also takes back
the mark of low health (08 R426), which the statement says it leaves. -/
theorem not_channelRequests : ¬ Obligations.ChannelRequests := by
  unfold Obligations.ChannelRequests
  rintro ⟨-, -, resets, -⟩
  obtain ⟨t, run, -, -, same⟩ := resets (.usdo 1) .pack packHealthLow 0x2511 (by decide) channelReset_accepted
  obtain rfl : sessionPut (.usdo 1) 0x2511 0x0A 1 1 packHealthLow = t := Host.Outcome.next.inj run
  have kept : (sessionPut (.usdo 1) 0x2511 0x0A 1 1 packHealthLow).packEst.healthLow = true := congrArg (fun u => u.packEst.healthLow) same
  exact absurd (channelReset_clears_healthLow.symm.trans kept) (by decide)
end

section
/-! Storing the parameters and restoring the defaults (O2). -/

namespace Sys2Proof.Machine

/-! ### Storing the parameters (04 R146 to R151) -/

/-- What tells of an occurrence depends on the configuration alone, not on the refusal counters. -/
theorem Told.of_values {ev : Nat} {s s' t : State} (h : Told ev s' t) (hi : s'.isl = s.isl) (hd : s'.dict.values = s.dict.values)
    (he : s'.ev = s.ev) : Told ev s t := by
  have runs : controlRuns s' = controlRuns s := controlRuns_of_isl hi
  have enabled : evEnabled s' ev = evEnabled s ev := by unfold evEnabled State.cfg; rw [hi, hd]
  refine ⟨fun a b c => ?_, fun a b => ?_, fun a b c => ?_⟩
  · exact h.logged (by rw [runs, a]) (by rw [he, b]) (by rw [enabled, c])
  · exact h.early (by rw [runs, a]) (by rw [he]; exact b)
  · exact h.waits (by rw [runs, a]) (by rw [he, b]) (by rw [he]; exact c)

/-- A request that a mailbox serves has arrived with Go set. -/
theorem mbxWrite_accepts {fn : Fin 16} {index : BitVec 16} {sub : BitVec 8} {data : List Byte} {s : State}
    (h : Accepts (.mailbox fn) index.toNat sub.toNat data s) (hw : winOf index.toNat = none ∨ sub.toNat ≠ 4) :
    ∃ x, ∃ m : Vector Mbx 16, (m[fn]).go = true ∧ sessionWrite (.mailbox fn) index sub data s =
      replyTo (.mailbox fn) (tagOf (.mailbox fn) s) index.toNat sub.toNat
        (applyValue (.mailbox fn) (dieAnswers s index.toNat) index.toNat sub.toNat (ofLe data) (arrivedAs s x m)) := by
  obtain ⟨hr, hp⟩ := h
  unfold sessionWrite fromSession mbxServe dictWrite dictWriteA noData replyTo answerTo tagOf
  simp only [hr.1, hr.2.1, hr.2.2, Bool.true_eq_false, Bool.false_eq_true, if_false]
  generalize hm : (State.modMbx s fn _) = t
  have ht : t = arrivedAs s s.mode.expertLast t.mbx := by rw [← hm]; rfl
  have going : (t.mbx[fn]).go = true := by rw [← hm]; simp [State.modMbx]
  obtain ⟨y, hy⟩ := noteRequest_arrived (.mailbox fn) s s.mode.expertLast t.mbx
  rw [← ht] at hy
  refine ⟨y, t.mbx, going, ?_⟩
  have hd : dieAnswers t index.toNat = dieAnswers s index.toNat := by rw [ht]; rfl
  rw [hd, hy, writeEntry_passes (passes_arrived y t.mbx hp) hw]

/-- A command that is answered later waits, and has done what its action does. -/
theorem command_later {p : Session} {index : BitVec 16} {sub : BitVec 8} {data : List Byte} {s : State} {f : State → State × Answer}
    {g : State → State} (h : Commands p index.toNat sub.toNat data s) (hw : winOf index.toNat = none)
    (ha : ∀ a u, actionOf p a index.toNat sub.toNat (ofLe data) u = some (f u))
    (does : ∀ x m, f (arrivedAs s x m) = (g (arrivedAs s x m), .later)) (keepsMbx : ∀ u, (g u).mbx = u.mbx) :
    ∃ x m b, Waits p (sessionWrite p index sub data s) ∧
      sessionWrite p index sub data s = { g (arrivedAs s x m) with can := { (g (arrivedAs s x m)).can with busy := b } } := by
  obtain ⟨accepted, taken⟩ := h
  have here : ∀ x m, applyValue p (dieAnswers s index.toNat) index.toNat sub.toNat (ofLe data) (arrivedAs s x m) =
      (g (arrivedAs s x m), .later) := fun x m =>
    (applyValue_action (s := arrivedAs s x m) hw taken (ha _ _)).trans (does x m)
  cases p with
  | usdo c =>
    obtain ⟨x, m, e⟩ := sessionWrite_accepts accepted (.inl hw)
    rw [here] at e
    exact ⟨x, m, _, by rw [e]; exact List.mem_append_right (g (arrivedAs s x m)).can.busy (List.mem_singleton_self c), e⟩
  | mailbox fn =>
    obtain ⟨x, m, going, e⟩ := mbxWrite_accepts accepted (.inl hw)
    rw [here] at e
    refine ⟨x, m, _, ?_, e⟩
    have kept : (sessionWrite (.mailbox fn) index sub data s).mbx = m := by rw [e]; exact keepsMbx _
    simpa only [Waits, kept] using going

theorem startStore_starts {p : Session} {k : StoreKind} {s : State} (free : storeRefused s = false) :
    startStore p k saveSignature s = ({ s with nor := { s.nor with storing := some (k, p), storeState := 1 } }, .later) := by
  simp [startStore, free]

/-- Where a write of 1010h passes the checks, no store waits and there is firmware, a store may start. -/
theorem storeRefused_of_accepts {p : Session} {sub : Nat} {data : List Byte} {s : State} (h : Accepts p 0x1010 sub data s)
    (idle : s.nor.storing = none) (firmware : ¬(s.life.dev = .halt ∧ s.life.haltCause = 1)) : storeRefused s = false := by
  obtain ⟨-, r, -, -, -, -, path, -⟩ := h
  have offPath : pathState s.life.dev = false := by simpa [pathRefuses] using path
  simpa [storeRefused, offPath, idle] using firmware

/-- A write of the copy not in use leaves the one in use. -/
theorem storedCopy_writeCopy_void {x : Nor} {c : NorCopy} (h : storedCopy x = some c) :
    storedCopy (writeCopy { NorCopy.reset with valid := false } x) = some c := by
  unfold storedCopy at h ⊢
  unfold writeCopy
  by_cases inA : x.copyA.valid = true ∧ (x.copyB.valid = false ∨ x.copyB.seq < x.copyA.seq)
  · simp_all
  · rw [if_neg inA] at h ⊢
    simpa using h

/-- A copy written with the next sequence is the one in use. -/
theorem storedCopy_writeCopy_next (x : Nor) (void : Bool) (values : SMap Nat) :
    storedCopy (writeCopy ⟨true, nextCopySeq x, void, values⟩ x) = some ⟨true, nextCopySeq x, void, values⟩ := by
  unfold writeCopy nextCopySeq
  by_cases inA : x.copyA.valid = true ∧ (x.copyB.valid = false ∨ x.copyB.seq < x.copyA.seq)
  · simp [storedCopy, inA]
  · by_cases inB : x.copyB.valid = true
    · have next : storedCopy x = some x.copyB := (if_neg inA).trans (if_pos inB)
      rw [if_neg inA, next]
      simp [storedCopy]
    · rw [if_neg inA]
      simp [storedCopy, inB]

theorem storedCopy_voidCopy {x : Nor} {c : NorCopy} (h : storedCopy x = some c) :
    storedCopy (voidCopy x) = some { c with void := true } := by
  unfold storedCopy at h ⊢
  unfold voidCopy
  by_cases inA : x.copyA.valid = true ∧ (x.copyB.valid = false ∨ x.copyB.seq < x.copyA.seq)
  · rw [if_pos inA] at h ⊢
    simp_all
  · rw [if_neg inA] at h ⊢
    split at h <;> simp_all

/-- An answer to a request that waits. -/
theorem answerWaiting_answered {p : Session} {index sub code : Nat} {a : Answer} {s : State} (waits : Waits p s)
    (coded : a = .ok ∧ code = 0 ∨ code ≠ 0 ∧ a = .abort code) : Answered p index sub code [] (answerWaiting p index sub a s) := by
  have replied : ∀ (tag : Byte) (u : State), Answered p index sub code [] (replyTo p tag index sub (u, a)) := by
    intro tag u
    rcases coded with ⟨rfl, rfl⟩ | ⟨nonzero, rfl⟩
    · exact replyTo_answered ..
    · exact replyTo_refused _ _ _ _ _ _ nonzero
  cases p with
  | usdo c =>
    have busy : s.can.busy.contains c = true := List.contains_iff_mem.2 waits
    have e : answerWaiting (.usdo c) index sub a s =
        replyTo (.usdo c) 0 index sub ({ s with can := { s.can with busy := s.can.busy.filter (fun d => d != c) } }, a) := by
      rcases coded with ⟨rfl, rfl⟩ | ⟨nonzero, rfl⟩ <;> exact if_pos busy
    rw [e]
    exact replied ..
  | mailbox fn =>
    have e : answerWaiting (.mailbox fn) index sub a s = replyTo (.mailbox fn) (s.mbx[fn]).tag index sub (s, a) := if_pos waits
    rw [e]
    exact replied ..

theorem answerWaiting_values (p : Session) (index sub : Nat) (a : Answer) (s : State) :
    (answerWaiting p index sub a s).dict.values = s.dict.values := by
  cases p with
  | usdo c => cases a <;> · unfold answerWaiting; dsimp only; split <;> rfl
  | mailbox fn =>
    unfold answerWaiting noteAnswer
    dsimp only
    split <;> cases a <;> simp [countRefusal]

/-- What waits for a store's end is not reached by what the end writes. -/
theorem waits_of {p : Session} {s t : State} (can : t.can = s.can) (mbx : t.mbx = s.mbx) (h : Waits p s) : Waits p t := by
  cases p with
  | usdo c => simpa only [Waits, can] using h
  | mailbox fn => simpa only [Waits, mbx] using h

theorem storeSupplies_copies (k : StoreKind) (s : State) : (storeSupplies k s).nor.copyA = s.nor.copyA ∧
    (storeSupplies k s).nor.copyB = s.nor.copyB ∧ (storeSupplies k s).nor.storing = s.nor.storing ∧
    (storeSupplies k s).nor.storeState = s.nor.storeState ∧ (storeSupplies k s).nor.storeCount = s.nor.storeCount := by
  unfold storeSupplies
  split <;> exact ⟨rfl, rfl, rfl, rfl, rfl⟩

theorem storedCopy_congr {x y : Nor} (a : x.copyA = y.copyA) (b : x.copyB = y.copyB) : storedCopy x = storedCopy y := by
  unfold storedCopy
  rw [a, b]

/-- What an accepted write of the signature to an entry of 1010h does. -/
theorem storePut_starts {p : Session} {s : State} {sub : BitVec 8} {k : StoreKind} (accepted : Accepts p 0x1010 sub.toNat (leBytes 4 0x65766173) s)
    (owner : s.ownerOf 0x1010 sub.toNat = .control)
    (action : ∀ a u, actionOf p a 0x1010 sub.toNat 0x65766173 u = some (startStore p k 0x65766173 u)) (idle : s.nor.storing = none)
    (firmware : ¬(s.life.dev = .halt ∧ s.life.haltCause = 1)) :
    Waits p (sessionPut p 0x1010 sub 4 0x65766173 s) ∧ sessionPut p 0x1010 sub 4 0x65766173 s =
      { withRequest { s with nor := { s.nor with storing := some (k, p), storeState := 1 } } (sessionPut p 0x1010 sub 4 0x65766173 s) with
        can := { s.can with busy := (sessionPut p 0x1010 sub 4 0x65766173 s).can.busy } } := by
  have free : storeRefused s = false := storeRefused_of_accepts accepted idle firmware
  obtain ⟨x, m, b, waits, e⟩ := command_later (index := 0x1010) (f := startStore p k 0x65766173)
    (g := fun u => { u with nor := { u.nor with storing := some (k, p), storeState := 1 } })
    (accepts_commands_of_control owner accepted) rfl action
    (fun x m => startStore_starts (s := arrivedAs s x m) free) (fun _ => rfl)
  refine ⟨waits, ?_⟩
  unfold sessionPut
  rw [e]
  simp only [withRequest, withEvents, arrivedAs, withPba_self]

/-- What an accepted write of another value does. -/
theorem storePut_refused {p : Session} {s : State} {sub : BitVec 8} {sig : BitVec 32} {k : StoreKind}
    (accepted : Accepts p 0x1010 sub.toNat (leBytes 4 sig.toNat) s) (owner : s.ownerOf 0x1010 sub.toNat = .control)
    (action : ∀ v a u, actionOf p a 0x1010 sub.toNat v u = some (startStore p k v u)) (bad : sig ≠ 0x65766173) :
    Answered p 0x1010 sub.toNat 0x08000020 [] (sessionPut p 0x1010 sub 4 sig.toNat s) ∧
      sessionPut p 0x1010 sub 4 sig.toNat s = { withRequest s (sessionPut p 0x1010 sub 4 sig.toNat s) with dict := { s.dict with
        refusedMbx := (sessionPut p 0x1010 sub 4 sig.toNat s).dict.refusedMbx
        refusedUsdo := (sessionPut p 0x1010 sub 4 sig.toNat s).dict.refusedUsdo } } := by
  have differs : sig.toNat ≠ saveSignature := fun h => bad (BitVec.eq_of_toNat_eq h)
  obtain ⟨x, m, r⟩ := command_refused (index := 0x1010) (f := startStore p k sig.toNat) (g := fun u => u) (code := abData)
    (accepts_commands_of_control owner accepted) rfl
    (fun a u => by rw [ofLe_leBytes_toNat sig (by decide)]; exact action ..) (by decide) (fun x m => if_pos differs)
  exact ⟨r.answered, r.refusal (by decide) (arrived_withRequest ..)⟩

/-- What the end of a store does before its event, and what of it no answer reaches. -/
theorem storeDone_does (k : StoreKind) (s : State) : (storeDone k s).nor.storing = none ∧ (storeDone k s).nor.storeState = 2 ∧
    (storeDone k s).nor.storeCount = s.nor.storeCount + 1 ∧
    storedCopy (storeDone k s).nor = some ⟨true, nextCopySeq s.nor, false, savedValues k s⟩ ∧ (storeDone k s).keep.pending = true := by
  obtain ⟨a, b, storing, state, count⟩ := storeSupplies_copies k { s with
    nor := { writeCopy ⟨true, nextCopySeq s.nor, false, savedValues k s⟩ s.nor with storing := none, storeState := 2, storeCount := s.nor.storeCount + 1 } }
  refine ⟨storing, state, count, ?_, rfl⟩
  exact (storedCopy_congr a b).trans (storedCopy_writeCopy_next ..)

theorem storeDone_keeps (k : StoreKind) (s : State) : (storeDone k s).isl = s.isl ∧ (storeDone k s).dict = s.dict ∧
    (storeDone k s).ev = s.ev ∧ (storeDone k s).can = s.can ∧ (storeDone k s).mbx = s.mbx := by
  unfold storeDone keepPend storeSupplies
  dsimp only
  split <;> exact ⟨rfl, rfl, rfl, rfl, rfl⟩

theorem storeEnd_nor (p : Session) (index sub ev : Nat) (a : Answer) (r : State) :
    (raise (answerWaiting p index sub a r) ev .control []).nor = r.nor := by
  simp [answerWaiting_frame]

theorem storeEnd_keep (p : Session) (index sub ev : Nat) (a : Answer) (r : State) :
    (raise (answerWaiting p index sub a r) ev .control []).keep = r.keep := by
  simp [answerWaiting_frame]

theorem storeEnd_values (p : Session) (index sub ev : Nat) (a : Answer) (r : State) :
    (raise (answerWaiting p index sub a r) ev .control []).dict.values = r.dict.values := by
  simp [answerWaiting_values]

/-- The whole of a store's end: what the state of the store gives, the answer, and the event. -/
theorem storeEnd_tells {p : Session} {index sub ev : Nat} {a : Answer} {s r : State} (isl : r.isl = s.isl) (dict : r.dict = s.dict)
    (ev' : r.ev = s.ev) : Told ev s (raise (answerWaiting p index sub a r) ev .control []) := by
  refine (raise_told ..).of_values ?_ ((answerWaiting_values ..).trans (by rw [dict])) ?_
  · simp [answerWaiting_frame, isl]
  · simp [answerWaiting_frame, ev']

theorem writeCopy_count (c : NorCopy) (x : Nor) : (writeCopy c x).storeCount = x.storeCount := by
  unfold writeCopy
  split <;> rfl

end Sys2Proof.Machine
end

section
open Sys2Proof Sys2Proof.Machine

/-- Settles O2: a store waits in the NOR state alone; its end writes the copy not in use with the next sequence, or spoils it; and a
restore marks the copy in use. -/
theorem storeAndRestore : Obligations.StoreAndRestore := by
  unfold Obligations.StoreAndRestore
  refine ⟨?starts, ?badSignature, ?stores, ?fails, ?restores⟩
  case starts =>
    intro p s sub k c named accepted idle firmware
    simp only [List.mem_cons, Prod.mk.injEq, List.not_mem_nil, or_false] at named
    obtain ⟨rfl, rfl, rfl⟩ | ⟨rfl, rfl, rfl⟩ | ⟨rfl, rfl, rfl⟩ := named
    · exact ⟨_, rfl, storePut_starts (sub := 1) accepted rfl (fun _ _ => rfl) idle firmware⟩
    · exact ⟨_, rfl, storePut_starts (sub := 2) accepted rfl (fun _ _ => rfl) idle firmware⟩
    · exact ⟨_, rfl, storePut_starts (sub := 3) accepted rfl (fun _ _ => rfl) idle firmware⟩
  case badSignature =>
    intro p s sub c sig named accepted bad
    simp only [List.mem_cons, Prod.mk.injEq, List.not_mem_nil, or_false] at named
    obtain ⟨rfl, rfl⟩ | ⟨rfl, rfl⟩ | ⟨rfl, rfl⟩ := named
    · exact ⟨_, rfl, storePut_refused (sub := 1) (k := .all) accepted rfl (fun _ _ _ => rfl) bad⟩
    · exact ⟨_, rfl, storePut_refused (sub := 2) (k := .communication) accepted rfl (fun _ _ _ => rfl) bad⟩
    · exact ⟨_, rfl, storePut_refused (sub := 3) (k := .application) accepted rfl (fun _ _ _ => rfl) bad⟩
  case stores =>
    intro s k p storing
    have run : exec (.storeComplete true) s = .next (raise (answerWaiting p 0x1010 (storeSub k) .ok (storeDone k s)) 16 .control []) := by
      simp only [exec, execStoreComplete, storing, if_true]
    obtain ⟨none, state, count, inUse, pending⟩ := storeDone_does k s
    obtain ⟨isl, dict, ev, can, mbx⟩ := storeDone_keeps k s
    have nor := storeEnd_nor p 0x1010 (storeSub k) 16 .ok (storeDone k s)
    refine ⟨_, run, by rw [nor, none], by rw [nor, state], by rw [nor, count], storeEnd_tells isl dict ev, by rw [storeEnd_keep, pending],
      by rw [storeEnd_values, dict], ⟨_, by rw [nor, inUse], rfl, rfl⟩, fun waits => ⟨_, ?_, rfl⟩⟩
    cases k <;> exact answerWaiting_answered (waits_of can mbx waits) (.inl ⟨rfl, rfl⟩)
  case fails =>
    intro s k p storing
    have run : exec (.storeComplete false) s =
        .next (raise (answerWaiting p 0x1010 (storeSub k) (.abort abData) (storeFailed s)) 17 .control []) := by
      simp only [exec, execStoreComplete, storing, Bool.false_eq_true, if_false]
    have nor := storeEnd_nor p 0x1010 (storeSub k) 17 (.abort abData) (storeFailed s)
    refine ⟨_, run, by rw [nor]; rfl, by rw [nor]; rfl, by rw [nor]; exact writeCopy_count .., storeEnd_tells rfl rfl rfl,
      by rw [storeEnd_values]; rfl, fun c inUse => ?copies, fun waits => ⟨_, ?answer, rfl⟩⟩
    case copies =>
      rw [nor]
      exact (storedCopy_congr rfl rfl).trans (storedCopy_writeCopy_void inUse)
    case answer =>
      cases k <;> exact answerWaiting_answered (waits_of rfl rfl waits) (.inr ⟨by decide, rfl⟩)
  case restores =>
    intro p s accepted
    obtain ⟨x, m, r⟩ := command_ok (index := 0x1011) (sub := 1) (f := restoreDefaults 0x64616F6C)
      (g := fun u => { u with nor := voidCopy u.nor }) (accepts_commands_of_control rfl accepted) rfl
      (fun a u => rfl) (fun x m => rfl)
    have run : exec (.restoreDefaultsAll p 0x64616F6C) s = .next (sessionWrite p 0x1011 1 (leBytes 4 0x64616F6C) s) := rfl
    generalize sessionWrite p 0x1011 1 (leBytes 4 0x64616F6C) s = t at r run
    refine ⟨t, run, r.answered, r.withRequest (withRequest_of_port rfl (by rw [r.nor]; rfl)), fun c inUse => ?_⟩
    rw [r.nor]
    exact storedCopy_voidCopy inUse
end

section
/-! Switching off a host rail in HALT (O7): what the counterexample runs. -/

namespace Sys2Proof.Machine

/-! ### Switching off the rail that powers the host, in HALT -/

/-- HALT, with rail 0 of 1,000 mV, driven by gate 0 and good; it is in save group 1, as by default, so HOST runs by it (01 R20 note 2). -/
def haltedWithHost : State :=
  let s := ((inService.setHeld 0x2610 1 1000).setHeld 0x2610 8 1).setHeld 0x2610 9 0
  { s with
    life := { s.life with dev := .halt }
    rails := { s.rails with
      rail := vset s.rails.rail 0 { s.rails.rail[(0 : Fin 12)] with status := .good }
      gate := vset s.rails.gate 0 ⟨.on, true, 0⟩ } }

theorem haltedWithHost_runs_host : hostRailUp haltedWithHost = true ∧ haltedWithHost.island .host = .running := by decide +kernel

theorem switchOff_of_hostRail_stops_host :
    (sessionPut (.usdo 1) 0x2610 0x11 1 0 haltedWithHost).island .host ≠ .running := by decide +kernel

theorem switchOff_commanded : Commands (.usdo 1) 0x2610 0x11 (leBytes 1 0) haltedWithHost :=
  ⟨accepts_of_now (by decide +kernel) (by decide +kernel), by decide +kernel⟩

end Sys2Proof.Machine
end

section
open Sys2Proof Sys2Proof.Machine

/-- Refutes O7 in its second clause: in HALT the HOST island follows the rail that powers the host (01 R20), so switching that rail off
also stops HOST, where the statement says that nothing but the rails changes. -/
theorem not_railAndTrimRequests : ¬ Obligations.RailAndTrimRequests := by
  unfold Obligations.RailAndTrimRequests
  rintro ⟨-, switchesOff, -⟩
  obtain ⟨t, run, -, -, -, -, -, -, same⟩ :=
    switchesOff (.usdo 1) 0 haltedWithHost switchOff_commanded (by decide +kernel) (by decide +kernel)
  obtain rfl : sessionPut (.usdo 1) 0x2610 0x11 1 0 haltedWithHost = t := Host.Outcome.next.inj run
  have isl : (sessionPut (.usdo 1) 0x2610 0x11 1 0 haltedWithHost).isl = haltedWithHost.isl := (congrArg State.isl same :)
  have host : (sessionPut (.usdo 1) 0x2610 0x11 1 0 haltedWithHost).island .host = haltedWithHost.island .host := by
    unfold State.island
    rw [isl]
  exact switchOff_of_hostRail_stops_host (host.trans haltedWithHost_runs_host.2)
end

section
/-! A rail that is given back its gate (O20): what the counterexample runs. -/

namespace Sys2Proof.Machine

/-! ### A rail whose gate is also a source switch's -/

/-- SERVE with rail 0 of 1,000 mV good and driven by gate 0, which PackSourceGate names too, during an assist. -/
def servedWithSharedGate : State :=
  let s := (((inService.setHeld 0x2610 1 1000).setHeld 0x2610 8 1).setHeld 0x2610 9 0).setHeld 0x2570 2 0
  { s with
    rails := { s.rails with
      rail := vset s.rails.rail 0 { s.rails.rail[(0 : Fin 12)] with status := .good }
      gate := vset s.rails.gate 0 ⟨.on, true, 0⟩ }
    hold := { s.hold with assist := some .pack } }

theorem scanSlot_of_short_leaves_gate_driven :
    (match exec (.scanSlot 0) servedWithSharedGate with | .next t => t.driven 0 | _ => false) = true := by decide +kernel

theorem servedWithSharedGate_shorts : servedWithSharedGate.compared 0 = true ∧
    servedWithSharedGate.isShort 0 (railMv servedWithSharedGate 0 0) = true := by decide +kernel

end Sys2Proof.Machine
end

section
open Sys2Proof Sys2Proof.Machine

/-- Refutes O20 in its seventh clause: where a source switch names the rail's gate too, the entry to WARN ends the assist and closes
both source switches again (07 R376), so the gate of the rail that was shorted is driven. -/
theorem not_scansAndSupervision : ¬ Obligations.ScansAndSupervision := by
  unfold Obligations.ScansAndSupervision
  rintro ⟨-, -, -, -, -, -, trips, -⟩
  obtain ⟨compared, short⟩ := servedWithSharedGate_shorts
  obtain ⟨t, run, -, -, -, notDriven, -⟩ := trips 0 servedWithSharedGate (by decide) compared (.inl short) (.inl rfl)
  have driven := scanSlot_of_short_leaves_gate_driven
  rw [run] at driven
  exact absurd (driven.symm.trans notDriven) (by decide)
end

section
/-! What a change of state leaves of the life cycle, and what the configuration, the gates and the rail groups depend on. -/

namespace Sys2Proof.Machine

/-! ### Entering a state -/

@[simp] theorem enterState_life (d : DevState) (why : Cause) (s : State) : (enterState d why s).life =
    { s.life with dev := d, prev := s.life.dev, entryTime := s.time.timeBase, enteredAt := s.time.now } := by
  unfold enterState
  dsimp only
  split <;> simp

/-! ### What the rails depend on -/

section
variable {s t : State} (isl : t.isl = s.isl) (dict : t.dict = s.dict) (rails : t.rails = s.rails)
include isl dict

theorem cfg_congr : t.cfg = s.cfg := by
  unfold State.cfg
  rw [isl, dict]

theorem gated_congr : t.gated = s.gated := by
  unfold State.gated State.configured State.nominal State.railCfg
  rw [cfg_congr isl dict]

theorem gateOf_congr : t.gateOf = s.gateOf := by
  unfold State.gateOf State.railCfg
  rw [cfg_congr isl dict]

theorem saveGroup_congr : t.saveGroup = s.saveGroup := by
  unfold State.saveGroup State.railCfg
  rw [cfg_congr isl dict]

include rails

theorem driven_congr : t.driven = s.driven := by
  have gates : t.gateOf = s.gateOf := gateOf_congr isl dict
  funext r
  unfold State.driven
  simp only [gated_congr isl dict, gates, rails]

theorem groupShut_congr : t.groupShut = s.groupShut := by
  funext g
  unfold State.groupShut State.rl
  rw [gated_congr isl dict, saveGroup_congr isl dict, driven_congr isl dict rails, rails]

end

end Sys2Proof.Machine
end

section
/-! The end of the warn window with DRAM lost (O25): what the counterexample runs. -/

namespace Sys2Proof.Machine

/-! ### The end of the warn window with DRAM lost, before the estimators have started -/

theorem reconcile_awaits {s : State} (known : s.life.socKnown = false) (none : (keepBody s.keep).pack.snap = none) :
    (reconcile s).packEst.awaiting = true := by
  simp [reconcile, known, none, State.setEst]

/-- A HALT before the estimators have started starts them: with no stored snapshot the PACK waits for a relaxed reading (02 R97). -/
theorem enterHalt_awaits {cause : Nat} {s : State} (control sticky : Bool) (early : haltEarly s = true) (known : s.life.socKnown = false)
    (none : (keepBody s.keep).pack.snap = none) (firmware : cause ≠ 1) :
    (enterHalt cause control sticky s).packEst.awaiting = true := by
  have config : (haltConfig cause s).packEst.awaiting = true := by
    rw [haltConfig, if_pos early]
    simp only [if_neg firmware]
    exact reconcile_awaits known none
  unfold enterHalt
  dsimp only
  (repeat' split) <;> simpa using config

theorem enterHalt_of_firmware {cause : Nat} {s : State} (control sticky : Bool) (firmware : cause ≠ 1) (dram : cause ≠ 3) :
    (enterHalt cause control sticky s).life.dev = .halt := by
  unfold enterHalt
  dsimp only
  rw [if_neg (by simp [firmware, dram])]
  (repeat' split) <;> simp

/-- Without DRAM a Sinter ends at once in HALT (11 R559). -/
theorem enterSinter_awaits {cause : Nat} {s : State} (early : haltEarly s = true) (known : s.life.socKnown = false)
    (none : (keepBody s.keep).pack.snap = none) (lost : s.life.dramLost = true) :
    (enterSinter cause s).life.dev = .halt ∧ (enterSinter cause s).packEst.awaiting = true := by
  unfold enterSinter
  simp only [lost, if_true]
  exact ⟨enterHalt_of_firmware _ _ (by decide) (by decide),
    enterHalt_awaits _ _ (by simpa [haltEarly] using early) (by simpa using known) (by simpa using none) (by decide)⟩

/-- WARN with every window but the warn window over and DRAM lost, in a cold BOOT's step before the estimators start. -/
def warnWithoutDram : State :=
  { inService with
    life := { inService.life with dev := .warn, boot := .cold, bootStep := 1, dramLost := true, socKnown := false }
    outage := { inService.outage with settled := true, simmerOk := false, hostShut := true, driveShut := true } }

theorem abandoned_groupShut (s : State) (o : Outage) : ({ abandonCommands s with outage := o } : State).groupShut = s.groupShut :=
  groupShut_congr (by simp) (by simp) (by simp)

/-- With every window over and the host and drive groups shut, the save order ends WARN. -/
theorem saveOrder_ends {s : State} (ended : s.outage.warnEnded = true) (settled : s.outage.settled = true) (host : s.groupShut 1 = true)
    (drive : s.groupShut 2 = true) (hostShut : s.outage.hostShut = true) (driveShut : s.outage.driveShut = true)
    (warn : s.life.dev = .warn) (runs : s.life.restarting = false) :
    saveOrder s = warnEnds { abandonCommands s with
      outage := { (abandonCommands s).outage with warnEnded := true, settled := true, hostShut := true, driveShut := true } } := by
  have settled' : (abandonCommands s).outage.settled = true := by simpa using settled
  have driveShut' : (abandonCommands s).outage.driveShut = true := by simpa using driveShut
  have ended' : (abandonCommands s).outage.warnEnded = true := by simpa using ended
  have warn' : (abandonCommands s).life.dev = .warn := by simpa using warn
  have runs' : (abandonCommands s).life.restarting = false := by simpa using runs
  unfold saveOrder
  simp only [ended, host, hostShut, drive, abandoned_groupShut, warnCheck, settled', driveShut', ended', warn', runs', Bool.true_eq_false,
    and_false, and_self, if_true, if_false]

/-- The warn window of that state at its end. -/
def warnWindowOver : State :=
  raise { warnWithoutDram with
    outage := { warnWithoutDram.outage with warnEnded := true, drained := true, phase := .waitDrvact }
    port := { warnWithoutDram.port with fetchStopped := true } } 452 .supervisor []

theorem warnWindowOver_shut : warnWindowOver.groupShut 1 = true ∧ warnWindowOver.groupShut 2 = true := by decide +kernel

/-- Where SIMMER is not wanted, WARN ends in SINTER. -/
theorem warnEnds_sinter {s : State} (no : s.outage.simmerOk = false) :
    warnEnds s = enterSinter (if s.life.fatalPath then 7 else s.outage.sinterCause) s := by
  simp [warnEnds, no]

theorem warnWindowEnd_awaits : ∃ t, exec .warnWindowEnd warnWithoutDram = .next t ∧ t.packEst.awaiting = true := by
  obtain ⟨host, drive⟩ := warnWindowOver_shut
  have run : exec .warnWindowEnd warnWithoutDram = .next (settleCheck (saveOrder warnWindowOver)) :=
    show execWarnWindowEnd _ = _ from if_neg (by decide)
  rw [saveOrder_ends rfl rfl host drive rfl rfl rfl rfl, warnEnds_sinter (by simp [warnWindowOver, warnWithoutDram])] at run
  obtain ⟨halted, awaits⟩ := enterSinter_awaits (cause := if (abandonCommands warnWindowOver).life.fatalPath then 7
      else (abandonCommands warnWindowOver).outage.sinterCause)
    (s := { abandonCommands warnWindowOver with
      outage := { (abandonCommands warnWindowOver).outage with
        warnEnded := true, settled := true, hostShut := true, driveShut := true } })
    (by simp [haltEarly, warnWindowOver, warnWithoutDram]) (by simp [warnWindowOver, warnWithoutDram])
    ((by simp [warnWindowOver, warnWithoutDram, inService] : _ = (keepBody State.reset.keep).pack.snap).trans (by decide +kernel)) (by simp [warnWindowOver, warnWithoutDram])
  rw [settleCheck, if_neg (fun h => absurd (halted.symm.trans h.1) (by decide))] at run
  exact ⟨_, run, awaits⟩

end Sys2Proof.Machine
end

section
open Sys2Proof Sys2Proof.Machine

/-- Refutes O25: with DRAM lost the end of the warn window leads to HALT, which starts the estimators where a cold BOOT has not yet
done so. -/
theorem not_outageBegins : ¬ Obligations.OutageBegins := by
  rintro ⟨-, -, -, -, windowEnds, -⟩
  obtain ⟨t, run, -, -, -, -, -, -, -, same, -⟩ := windowEnds warnWithoutDram rfl rfl (by decide)
  obtain ⟨u, ran, awaits⟩ := warnWindowEnd_awaits
  obtain rfl : t = u := Host.Outcome.next.inj (run.symm.trans ran)
  have kept : t.packEst.awaiting = false := by rw [same]; rfl
  exact absurd (kept.symm.trans awaits) (by decide)
end

section
/-! The flash probe that outruns its bound while SIMMER waits (O30): what the counterexample runs. -/

namespace Sys2Proof.Machine

/-! ### A flash probe that times out where the host island has to stop -/

/-- SIMMER, with the firmware restarting at step 10, HOST still running, the link up, and one slot of tenant 3. -/
def simmerAtStep10 : State :=
  { inService with
    life := { inService.life with dev := .simmer, restarting := true, bootStep := 10 }
    port := { inService.port with linkState := 2 }
    cache := { inService.cache with slots := [(0, blockSlot 3 0 1 true false 0 (0, 0))] } }

theorem probeTimeout_freezes : (match exec .bootStepTimeout simmerAtStep10 with
    | .next t => (t.cache.slots.map (·.2.frozen)) == [true] | _ => false) = true := by decide +kernel

end Sys2Proof.Machine
end

section
open Sys2Proof Sys2Proof.Machine

/-- Refutes O30: in SIMMER the next step stops HOST, which may still run; the link is lost with it, and every tenant's slots freeze. -/
theorem not_bootFailuresAndRestarts : ¬ Obligations.BootFailuresAndRestarts := by
  rintro ⟨-, -, -, -, -, probeTimesOut, -⟩
  obtain ⟨t, run, -, -, -, -, same⟩ := probeTimesOut simmerAtStep10 rfl rfl (by decide)
  have frozen := probeTimeout_freezes
  rw [run] at frozen
  have kept : (t.cache.slots.map (·.2.frozen)) = [false] := by rw [same]; rfl
  simp [kept] at frozen
end

section
/-! Steps that change only the video part and what events leave: what they keep, and what the reads of a stream, an encoder, a recorder, a port and a session return after them. -/

namespace Sys2Proof.Machine

/-! ### A log that runs -/

section
variable (s : State)

theorem setPending_started (e : Events) (ev : Nat) : (setPending e ev).started = e.started := by
  unfold setPending
  split <;> rfl

theorem ringAll_started (x : EvPart) (r : Rec) : (ringAll s x r).1.ev.started = x.ev.started := by
  have put : ∀ (y : EvPart) (n : Fin 16), (ringPut s y n r).1.ev.started = y.ev.started := by
    intro y n
    unfold ringPut
    dsimp only
    (repeat' split) <;> rfl
  unfold ringAll
  exact List.foldlRecOn (motive := fun a : EvPart × List Nat => a.1.ev.started = x.ev.started) _ _ rfl fun (a : EvPart × List Nat) h n _ => (put a.1 n).trans h

theorem logRecs_started (n : Nat) (l : List Rec) (x : EvPart) : (logRecs s n l x).ev.started = x.ev.started := by
  induction n generalizing l x with
  | zero => rfl
  | succ n ih =>
    cases l with
    | nil => rfl
    | cons r l =>
      unfold logRecs
      split
      · exact ih _ _
      · split
        · rw [ih]; exact setPending_started _ _
        · rw [ih, emcyPut_ev, ringAll_started]; exact setPending_started _ _

/-- An event that is raised neither starts the log nor ends it. -/
@[simp] theorem raise_started (ev : Nat) (i : EvIsland) (vs : List (Nat × Nat)) : (raise s ev i vs).ev.started = s.ev.started := by
  unfold raise raiseWord takeRec
  dsimp only
  (repeat' split)
  all_goals first | rfl | exact logRecs_started _ _ _ _

end

/-! ### Steps of the video part -/

/-- From `s` to `t` nothing changes but the video part and what events leave; what was told stays told. -/
structure VideoStep (s t : State) : Prop where
  frame : t = withEvents { s with video := t.video } t
  tells : ∀ ev s0, Told ev s0 s → Told ev s0 t
  log : t.ev.started = s.ev.started

section
variable {s t u : State}

theorem VideoStep.refl (s : State) : VideoStep s s := ⟨rfl, fun _ _ h => h, rfl⟩

theorem VideoStep.trans (h : VideoStep s t) (g : VideoStep t u) : VideoStep s u := by
  refine ⟨?_, fun ev s0 told => g.tells ev s0 (h.tells ev s0 told), g.log.trans h.log⟩
  have frame := g.frame
  rw [h.frame] at frame
  exact frame

theorem VideoStep.video (h : VideoStep s t) (v : Video) : VideoStep s { t with video := v } :=
  h.trans ⟨rfl, fun _ _ told => told.ev_eq rfl, rfl⟩

theorem VideoStep.stream (h : VideoStep s t) (n : Fin 16) (f : Stream → Stream) : VideoStep s (t.modStream n f) := h.video _
theorem VideoStep.enc (h : VideoStep s t) (n : Fin 16) (f : Encoder → Encoder) : VideoStep s (t.modEnc n f) := h.video _
theorem VideoStep.recorder (h : VideoStep s t) (n : Fin 16) (f : Recorder → Recorder) : VideoStep s (t.modRec n f) := h.video _
theorem VideoStep.csi (h : VideoStep s t) (p : Fin 4) (f : CsiPort → CsiPort) : VideoStep s (t.modPort p f) := h.video _
theorem VideoStep.dec (h : VideoStep s t) (d : Fin 2) (f : Session_ → Session_) : VideoStep s (t.modDec d f) := h.video _

theorem VideoStep.sends {α : Type} (h : VideoStep s t) (l : List α) (f : α → Output) :
    VideoStep s (l.foldl (fun u a => u.send (f a)) t) :=
  List.foldlRecOn l _ h fun _ g a _ => g.trans ⟨rfl, fun _ _ told => told.ev_eq rfl, rfl⟩

theorem VideoStep.send (h : VideoStep s t) (o : Output) : VideoStep s (t.send o) :=
  h.trans ⟨rfl, fun _ _ told => told.ev_eq rfl, rfl⟩

theorem VideoStep.raise (h : VideoStep s t) (ev : Nat) (i : EvIsland) (vs : List (Nat × Nat)) :
    VideoStep s (Machine.raise t ev i vs) := by
  refine h.trans ⟨?_, fun _ _ told => told.raise ev i vs, raise_started ..⟩
  have frame := raise_eq t ev i vs
  rw [frame]
  rfl

theorem VideoStep.raiseIf (h : VideoStep s t) (b : Bool) (ev : Nat) (i : EvIsland) (vs : List (Nat × Nat)) :
    VideoStep s (Machine.raiseIf b t ev i vs) := by
  cases b
  · exact h
  · exact h.raise ev i vs

variable (h : VideoStep s t)
include h

theorem VideoStep.isl : t.isl = s.isl := (congrArg State.isl h.frame :)
theorem VideoStep.dict : t.dict = s.dict := (congrArg State.dict h.frame :)
theorem VideoStep.time : t.time = s.time := (congrArg State.time h.frame :)
theorem VideoStep.life : t.life = s.life := (congrArg State.life h.frame :)
theorem VideoStep.rails : t.rails = s.rails := (congrArg State.rails h.frame :)
theorem VideoStep.cache : t.cache = s.cache := (congrArg State.cache h.frame :)
theorem VideoStep.hostPort : t.port = s.port := (congrArg State.port h.frame :)

theorem VideoStep.cfg : t.cfg = s.cfg := cfg_congr h.isl h.dict

theorem VideoStep.sc : t.sc = s.sc := by
  funext n base sub
  exact congrFun (congrFun h.cfg _) _

/-- An event raised along the way is logged from the start. -/
theorem VideoStep.logged {ev : Nat} (told : Told ev t u) : Logged ev s u := fun runs started enabled =>
  told.logged ((controlRuns_of_isl h.isl).trans runs) (h.log.trans started) ((evEnabled_of h.isl h.dict ev).trans enabled)

end

/-! ### What is read after a change -/

section
variable (s : State) (n m : Fin 16) (p : Fin 4)

@[simp] theorem strOf_modStream (f : Stream → Stream) :
    strOf (s.modStream n f) m = if n = m then f (strOf s m) else strOf s m := by
  show (vmod s.video.stream n f)[m.val] = _
  rw [vmod_getElem]
  simp only [Fin.val_inj]
  rfl

@[simp] theorem encOf_modEnc (f : Encoder → Encoder) :
    encOf (s.modEnc n f) m = if n = m then f (encOf s m) else encOf s m := by
  show (vmod s.video.enc n f)[m.val] = _
  rw [vmod_getElem]
  simp only [Fin.val_inj]
  rfl

@[simp] theorem recOf_modRec (f : Recorder → Recorder) :
    recOf (s.modRec n f) m = if n = m then f (recOf s m) else recOf s m := by
  show (vmod s.video.recorder n f)[m.val] = _
  rw [vmod_getElem]
  simp only [Fin.val_inj]
  rfl

@[simp] theorem portOf_modPort (q : Fin 4) (f : CsiPort → CsiPort) :
    portOf (s.modPort q f) p = if q = p then f (portOf s p) else portOf s p := by
  show (vmod s.video.port q f)[p.val] = _
  rw [vmod_getElem]
  simp only [Fin.val_inj]
  rfl

/-- A decode session. -/
def decOf (s : State) (d : Fin 2) : Session_ := s.video.dec[d]

@[simp] theorem decOf_modDec (d e : Fin 2) (f : Session_ → Session_) :
    decOf (s.modDec d f) e = if d = e then f (decOf s e) else decOf s e := by
  show (vmod s.video.dec d f)[e.val] = _
  rw [vmod_getElem]
  simp only [Fin.val_inj]
  rfl

variable (f : Stream → Stream) (g : Encoder → Encoder) (r : Recorder → Recorder) (q : Fin 4) (c : CsiPort → CsiPort)

@[simp] theorem strOf_modEnc : strOf (s.modEnc n g) m = strOf s m := rfl
@[simp] theorem strOf_modRec : strOf (s.modRec n r) m = strOf s m := rfl
@[simp] theorem strOf_modPort : strOf (s.modPort q c) m = strOf s m := rfl
@[simp] theorem encOf_modStream : encOf (s.modStream n f) m = encOf s m := rfl
@[simp] theorem encOf_modRec : encOf (s.modRec n r) m = encOf s m := rfl
@[simp] theorem encOf_modPort : encOf (s.modPort q c) m = encOf s m := rfl
@[simp] theorem recOf_modStream : recOf (s.modStream n f) m = recOf s m := rfl
@[simp] theorem recOf_modEnc : recOf (s.modEnc n g) m = recOf s m := rfl
@[simp] theorem portOf_modStream : portOf (s.modStream n f) p = portOf s p := rfl
@[simp] theorem portOf_modEnc : portOf (s.modEnc n g) p = portOf s p := rfl

variable (ev : Nat) (i : EvIsland) (vs : List (Nat × Nat)) (b : Bool)

@[simp] theorem strOf_raise : strOf (raise s ev i vs) m = strOf s m := by simp [strOf]
@[simp] theorem encOf_raise : encOf (raise s ev i vs) m = encOf s m := by simp [encOf]
@[simp] theorem recOf_raise : recOf (raise s ev i vs) m = recOf s m := by simp [recOf]
@[simp] theorem portOf_raise : portOf (raise s ev i vs) p = portOf s p := by simp [portOf]
@[simp] theorem decOf_raise (d : Fin 2) : decOf (raise s ev i vs) d = decOf s d := by simp [decOf]
@[simp] theorem strOf_raiseIf : strOf (raiseIf b s ev i vs) m = strOf s m := by simp [strOf]
@[simp] theorem encOf_raiseIf : encOf (raiseIf b s ev i vs) m = encOf s m := by simp [encOf]
@[simp] theorem recOf_raiseIf : recOf (raiseIf b s ev i vs) m = recOf s m := by simp [recOf]
@[simp] theorem portOf_raiseIf : portOf (raiseIf b s ev i vs) p = portOf s p := by simp [portOf]

@[simp] theorem cfg_raise : (raise s ev i vs).cfg = s.cfg := cfg_congr (by simp) (by simp)
@[simp] theorem cfg_raiseIf : (raiseIf b s ev i vs).cfg = s.cfg := cfg_congr (by simp) (by simp)
@[simp] theorem sc_raise : (raise s ev i vs).sc = s.sc := by unfold State.sc; rw [cfg_raise]
@[simp] theorem sc_raiseIf : (raiseIf b s ev i vs).sc = s.sc := by unfold State.sc; rw [cfg_raiseIf]
@[simp] theorem sc_modStream : (s.modStream n f).sc = s.sc := rfl
@[simp] theorem sc_modEnc : (s.modEnc n g).sc = s.sc := rfl
@[simp] theorem sc_modRec : (s.modRec n r).sc = s.sc := rfl
@[simp] theorem sc_modPort : (s.modPort q c).sc = s.sc := rfl

/-- An event that is raised on a condition is told where the condition holds. -/
theorem raiseIf_told (on : b = true) : Told ev s (raiseIf b s ev i vs) := by
  subst on
  exact raise_told s ev i vs

end

theorem dmaWrite_step (fn : Fin 16) (parts : List (Nat × Nat)) (bytes : List Byte) (s : State) :
    VideoStep s (dmaWrite fn parts bytes s) := (VideoStep.refl s).sends _ fun p : Nat × List Byte => .dma fn p.1 p.2

/-! ### What the bus carries -/

theorem sends_eq {α : Type} (s : State) (l : List α) (f : α → Output) :
    l.foldl (fun u a => u.send (f a)) s = { s with out := s.out ++ l.map f } := by
  induction l generalizing s with
  | nil => simp
  | cons a l ih => rw [List.foldl_cons, ih]; simp [State.send]

section
variable (fn : Fin 16) (parts : List (Nat × Nat)) (bytes : List Byte) (s : State) (n : Fin 16)

theorem dmaWrite_eq : dmaWrite fn parts bytes s = { s with
    out := s.out ++ (spread (writeParts s fn parts) bytes).map fun p => .dma fn p.1 p.2 } :=
  sends_eq s _ fun p : Nat × List Byte => .dma fn p.1 p.2

@[simp] theorem decOf_dmaWrite (d : Fin 2) : decOf (dmaWrite fn parts bytes s) d = decOf s d := by simp [decOf]
@[simp] theorem encOf_dmaWrite : encOf (dmaWrite fn parts bytes s) n = encOf s n := by simp [encOf]
@[simp] theorem decOf_takeFnTurn (d : Fin 2) : decOf (takeFnTurn fn s) d = decOf s d := rfl
@[simp] theorem encOf_takeFnTurn : encOf (takeFnTurn fn s) n = encOf s n := rfl

end

/-! ### Steps that also take the function's turn at the bus -/

/-- From `s` to `t` nothing changes but the video part, whose turn it is at the bus, and what events leave. -/
structure TurnStep (s t : State) : Prop where
  frame : t = withEvents { s with video := t.video, port := { s.port with lastFn := t.port.lastFn } } t
  tells : ∀ ev s0, Told ev s0 s → Told ev s0 t
  log : t.ev.started = s.ev.started

section
variable {s t u : State}

theorem VideoStep.turn (h : VideoStep s t) : TurnStep s t := by
  refine ⟨?_, h.tells, h.log⟩
  have frame := h.frame
  have port := h.hostPort
  rw [port]
  exact frame

theorem TurnStep.trans (h : TurnStep s t) (g : TurnStep t u) : TurnStep s u := by
  refine ⟨?_, fun ev s0 told => g.tells ev s0 (h.tells ev s0 told), g.log.trans h.log⟩
  have frame := g.frame
  rw [h.frame] at frame
  exact frame

theorem TurnStep.take (h : TurnStep s t) (fn : Fin 16) : TurnStep s (takeFnTurn fn t) :=
  h.trans ⟨rfl, fun _ _ told => told.ev_eq rfl, rfl⟩

theorem TurnStep.isl (h : TurnStep s t) : t.isl = s.isl := (congrArg State.isl h.frame :)
theorem TurnStep.dict (h : TurnStep s t) : t.dict = s.dict := (congrArg State.dict h.frame :)

theorem TurnStep.logged (h : TurnStep s t) {ev : Nat} (told : Told ev t u) : Logged ev s u := fun runs started enabled =>
  told.logged ((controlRuns_of_isl h.isl).trans runs) (h.log.trans started) ((evEnabled_of h.isl h.dict ev).trans enabled)

end

end Sys2Proof.Machine
end

section
/-! Pixel rows and the ring of coded rows (O43). -/

namespace Sys2Proof.Machine

/-! ### The start of a frame's coding -/

/-- The oldest frame once its coding has started. -/
def startedFrame (s : State) (n : Fin 16) (f : Frame) : Frame :=
  { f with
    started := true, rowsLeft := codingRows s n, picture := encodedPicture (s.sc n 0x4040 7 == 1) (codingUnit s n) f.picture }

/-- The coded frame that a frame starts, with no row yet. -/
def codedFrame (s : State) (n : Fin 16) (f : Frame) (qp : Nat) : Coded :=
  ⟨f.md, isIdr s n f, codingRows s n, sliceRowsOf s n (codingRows s n), [], f.md.inserted,
    frameQp s n (isIdr s n f) (addedQp s n) qp, (encOf s n).nextLtr && !isIdr s n f, renewsLtr s n (isIdr s n f)⟩

section
variable (s : State) (n : Fin 16) (f : Frame) (qp : Nat)

theorem startCoding_step : VideoStep s (startCoding n f qp s) := by
  unfold startCoding
  dsimp only
  split
  · exact ((((VideoStep.refl s).stream _ _).enc _ _).raiseIf _ _ _ _).raiseIf _ _ _ _
  · exact (((VideoStep.refl s).stream _ _).enc _ _).raiseIf _ _ _ _

theorem startCoding_strOf : strOf (startCoding n f qp s) n =
    { strOf s n with queue := startedFrame s n f :: (strOf s n).queue.tail } := by
  unfold startCoding
  dsimp only
  split <;> simp [startedFrame]

theorem startCoding_encOf : (encOf (startCoding n f qp s) n).state = .encoding ∧
    (encOf (startCoding n f qp s) n).coding = (encOf s n).coding ++ [codedFrame s n f qp] := by
  unfold startCoding
  dsimp only
  split <;> simp [codedFrame]

/-- A stream that waited for its first frame tells that its encoder has started. -/
theorem startCoding_tells (waiting : (encOf s n).state = .waiting) : Told (streamEv n.val 16) s (startCoding n f qp s) := by
  have told : ∀ u, u.isl = s.isl → u.dict = s.dict → u.ev = s.ev →
      Told (streamEv n.val 16) s (raiseIf ((encOf s n).state == .waiting) u (streamEv n.val 16) .pixel []) :=
    fun u isl dict ev => (raiseIf_told u _ _ _ _ (by simp [waiting])).of isl dict ev
  unfold startCoding
  dsimp only
  split
  · exact ((VideoStep.refl _).raiseIf _ _ _ _).tells _ _ (told _ rfl rfl rfl)
  · exact told _ rfl rfl rfl

end

/-! ### The rows of a frame, and the ring -/

/-- A coded frame with its next row decided. -/
def withRow (s : State) (n : Fin 16) (f : Frame) (r : CodeResult) (c : Coded) : Coded :=
  { c with rows := c.rows ++ [rowChoices s n f r c] }

theorem modCoded_append_other {f : Frame} {g : Coded → Coded} {l : List Coded} {c : Coded} (others : ∀ d ∈ l, d.md.number ≠ f.md.number)
    (same : c.md.number = f.md.number) : modCoded f g (l ++ [c]) = l ++ [g c] := by
  unfold modCoded
  rw [List.map_append]
  congr 1
  · exact (List.map_congr_left fun d hd => if_neg (others d hd)).trans (List.map_id _)
  · simp [same]

section
variable (s : State) (n : Fin 16) (f : Frame) (r : CodeResult) (fill : Nat)

theorem decideRow_step : VideoStep s (decideRow n f r s) := (VideoStep.refl s).enc _ _

theorem endCoding_step : VideoStep s (endCoding n f r s) := (((VideoStep.refl s).stream _ _).enc _ _).raiseIf _ _ _ _

theorem rowDone_step : VideoStep s (rowDone n f r s) := by
  unfold rowDone
  split
  · exact (decideRow_step s n f r).trans (endCoding_step _ n f r)
  · exact (decideRow_step s n f r).stream _ _

theorem fillRing_step : VideoStep s (fillRing fill s) := (((VideoStep.refl s).video _).raiseIf _ _ _ _).raiseIf _ _ _ _

theorem fillRing_video : (fillRing fill s).video = { s.video with
    ringFill := min 1000 fill, ringHigh := s.video.ringHigh || decide (s.cfg 0x2A00 5 ≤ fill), ringFull := decide (1000 ≤ fill) } := by
  simp [fillRing]

theorem fillRing_strOf : strOf (fillRing fill s) n = strOf s n := by unfold strOf; rw [fillRing_video]
theorem fillRing_encOf : encOf (fillRing fill s) n = encOf s n := by unfold encOf; rw [fillRing_video]

theorem fillRing_tells (low : s.video.ringHigh = false) (reached : s.cfg 0x2A00 5 ≤ fill) : Told 1728 s (fillRing fill s) := by
  refine ((VideoStep.refl _).raiseIf _ _ _ _).tells _ _ ?_
  exact (raiseIf_told _ _ _ _ _ (by simp [low, reached])).of rfl rfl rfl

/-- A row that is not the last leaves one row less, and a row decided. -/
theorem rowDone_more (more : 1 < f.rowsLeft) :
    strOf (rowDone n f r s) n = { strOf s n with queue := { f with rowsLeft := f.rowsLeft - 1 } :: (strOf s n).queue.tail } ∧
    encOf (rowDone n f r s) n = { encOf s n with
      coding := modCoded f (withRow s n f r) (encOf s n).coding } := by
  unfold rowDone
  rw [if_neg (not_le.2 more)]
  simp [decideRow]
  rfl

/-- The reference of a frame changes nothing else of its encoder. -/
theorem takeReference_frames (e : Encoder) : (takeReference s n f e).frames = e.frames := by
  unfold takeReference
  split <;> rfl

/-- The last row frees the frame's buffer and counts the frame. -/
theorem rowDone_last (last : f.rowsLeft ≤ 1) : (strOf (rowDone n f r s) n).queue = (strOf s n).queue.tail ∧
    (encOf (rowDone n f r s) n).frames = (encOf s n).frames + 1 ∧ (rowDone n f r s).video.ringHigh = s.video.ringHigh := by
  unfold rowDone
  rw [if_pos last]
  unfold endCoding
  dsimp only
  refine ⟨by simp [decideRow], ?_, ?_⟩
  · simp [decideRow, takeReference_frames]
  · simp [decideRow, State.modEnc, State.modStream]

end

/-! ### What an executed row does -/

section
variable {s : State} {n : Fin 16} {f : Frame} {fill : Nat} {r : CodeResult}

theorem execPixelRowComplete_row {t : State} {g : Frame} (head : headFrame s n = some f) (runs : s.island .pixel = .running)
    (open' : admitted s n = true) (takes : f.started = true ∨ takesFrames s n = true) (first : pixelYields s n f = false)
    (room : s.video.ringFull = false ∨ fill < 1000) (coded : (if f.started then s else startCoding n f (chosenQp s n r) s) = t)
    (next : headFrame t n = some g) :
    exec (.pixelRowComplete n fill r) s = .next (fillRing fill (rowDone n g r t)) := by
  show execPixelRowComplete n fill r s = _
  have kept : ¬(f.started = false ∧ takesFrames s n = false) := by rcases takes with h | h <;> simp [h]
  have fits : ¬(pixelYields s n f = true ∨ s.video.ringFull = true ∧ 1000 ≤ fill) := by
    rcases room with h | h
    · simp [first, h]
    · simp [first]; omega
  unfold execPixelRowComplete
  simp only [head, runs, open', kept, fits, if_false, ne_eq, not_true_eq_false, Bool.true_eq_false, or_self, coded, next]

end

end Sys2Proof.Machine
end

section
open Sys2Proof Sys2Proof.Machine

/-- Settles O43: a row starts the coding of a frame that has not started, is decided, ends the frame if it is the last, and fills the
ring; the guards of the command decide which of these it does. -/
theorem rowsAndSyntaxRing : Obligations.RowsAndSyntaxRing := by
  unfold Obligations.RowsAndSyntaxRing
  refine ⟨?starts, ?ends, ?yields, ?discards, ?idle, ?clears, ?stays⟩
  case starts =>
    intro n fill r f s head runs open' takes fresh rows first room others
    have queue := startCoding_strOf s n f (chosenQp s n r)
    have head' : headFrame (startCoding n f (chosenQp s n r) s) n = some (startedFrame s n f) := by
      unfold headFrame
      rw [queue]
      rfl
    have run := execPixelRowComplete_row (r := r) head runs open' (.inr takes) first room (by simp [fresh]) head'
    obtain ⟨state, coding⟩ := startCoding_encOf s n f (chosenQp s n r)
    obtain ⟨left, decided⟩ := rowDone_more (startCoding n f (chosenQp s n r) s) n (startedFrame s n f) r rows
    have step := ((startCoding_step s n f (chosenQp s n r)).trans (rowDone_step _ n (startedFrame s n f) r)).trans (fillRing_step _ fill)
    have coded : (encOf (fillRing fill (rowDone n (startedFrame s n f) r (startCoding n f (chosenQp s n r) s))) n).coding =
        (encOf s n).coding ++ [withRow (startCoding n f (chosenQp s n r) s) n (startedFrame s n f) r (codedFrame s n f (chosenQp s n r))] := by
      rw [fillRing_encOf, decided]
      simp only [coding]
      exact modCoded_append_other others rfl
    have queued : (strOf (fillRing fill (rowDone n (startedFrame s n f) r (startCoding n f (chosenQp s n r) s))) n).queue =
        { startedFrame s n f with rowsLeft := codingRows s n - 1 } :: (strOf s n).queue.tail := by
      rw [fillRing_strOf, left, queue]
      rfl
    refine ⟨_, _, _, run, queued, rfl, rfl, rfl, coded, rfl, rfl, rfl, rfl, rfl, ?_, ?_, fun waiting => ?_, step.frame⟩
    · rw [fillRing_encOf, decided]
      exact state
    · rw [fillRing_video]
    · exact ((rowDone_step _ n _ r).trans (fillRing_step _ fill)).tells _ _ (startCoding_tells s n f _ waiting)
  case ends =>
    intro n fill r f s head runs open' started last first room
    have run := execPixelRowComplete_row (r := r) head runs open' (.inl started) first room (if_pos started) head
    obtain ⟨left, counted, high⟩ := rowDone_last s n f r last
    have step := (rowDone_step s n f r).trans (fillRing_step _ fill)
    have mark := (rowDone_step s n f r).cfg
    refine ⟨_, run, ?_, ?_, ?_, ?_, ?_, fun low reached => ?_, step.frame⟩
    · rw [fillRing_strOf, left]
    · rw [fillRing_encOf, counted]
    · rw [fillRing_video]
    · rw [fillRing_video]; simp
    · rw [fillRing_video, mark, high]; simp
    · exact (rowDone_step s n f r).logged (fillRing_tells _ fill (high.trans low) (by rw [mark]; exact reached))
  case yields =>
    intro n fill r f s head takes waits
    show execPixelRowComplete n fill r s = _
    have kept : ¬(f.started = false ∧ takesFrames s n = false) := by rcases takes with h | h <;> simp [h]
    unfold execPixelRowComplete
    simp only [head, kept, if_false, if_pos waits, ite_self]
  case discards =>
    intro n fill r f s head runs open' fresh closed
    show execPixelRowComplete n fill r s = _
    unfold execPixelRowComplete
    simp [head, runs, open', fresh, closed]
  case idle =>
    intro n fill r s none
    show execPixelRowComplete n fill r s = _
    unfold execPixelRowComplete
    simp [none]
  case clears =>
    intro fill s high low
    have run : exec (.syntaxRingCleared fill) s = .next (raise { s with
        video := { s.video with ringFill := fill, ringHigh := false, ringFull := false } } 1730 .entropy []) :=
      if_neg (by simp [high]; omega)
    exact ⟨_, run, (raise_told ..).of rfl rfl rfl, raise_eq ..⟩
  case stays =>
    intro fill s high
    exact if_pos (.inr high)
end

section
/-! Decoded pictures and event vectors (O45). -/

namespace Sys2Proof.Machine

/-! ### The output of a decode session -/

section
variable (s : State) (d : Fin 2)

theorem readInput_step (read : Nat) : VideoStep s (readInput d read s) := by
  unfold readInput
  dsimp only
  split
  · exact (VideoStep.refl s).dec _ _
  · exact ((VideoStep.refl s).dec _ _).trans (dmaWrite_step _ _ _ _)

theorem readInput_decOf (read : Nat) : decOf (readInput d read s) d = { decOf s d with consumer := (decOf s d).consumer + read } := by
  have counted : decOf (s.modDec d fun x => { x with consumer := x.consumer + read }) d =
      { decOf s d with consumer := (decOf s d).consumer + read } := by simp
  unfold readInput
  dsimp only
  split
  · exact counted
  · rw [decOf_dmaWrite]
    exact counted

theorem writePicture_step (p : Decoded) (concealed : Bool) : TurnStep s (writePicture d p concealed s) := by
  unfold writePicture
  dsimp only
  split
  · exact ((VideoStep.refl s).dec _ _).turn
  · exact ((((VideoStep.refl s).dec _ _).turn.take _).trans (dmaWrite_step _ _ _ _).turn).trans (dmaWrite_step _ _ _ _).turn

theorem writePicture_decOf (p : Decoded) (concealed : Bool) : decOf (writePicture d p concealed s) d = { decOf s d with
    state := 2, pictures := (decOf s d).pictures + 1
    producer := (decOf s d).producer + (pictureBytes p concealed (fromSegment s d)).length, previous := some p.picture } := by
  have counted : decOf (s.modDec d fun x => { x with
      state := 2, pictures := x.pictures + 1
      producer := (decOf s d).producer + (pictureBytes p concealed (fromSegment s d)).length, previous := some p.picture }) d = { decOf s d with
        state := 2, pictures := (decOf s d).pictures + 1
        producer := (decOf s d).producer + (pictureBytes p concealed (fromSegment s d)).length, previous := some p.picture } := by simp
  unfold writePicture
  dsimp only
  split
  · exact counted
  · rw [decOf_dmaWrite, decOf_dmaWrite, decOf_takeFnTurn]
    exact counted

theorem lastPicture_step (last : Bool) : VideoStep s (lastPicture d last s) := by
  unfold lastPicture closeSession
  split
  · split
    · exact .refl s
    · exact ((VideoStep.refl s).dec _ _).raise _ _ _
  · exact .refl s

theorem stopSession_step (code : Nat) : VideoStep s (stopSession d code s) := ((VideoStep.refl s).dec _ _).raise _ _ _

theorem stopSession_told (code : Nat) : Told (1736 + d.val) s (stopSession d code s) := (raise_told ..).of rfl rfl rfl

theorem stopSession_decOf (code : Nat) : decOf (stopSession d code s) d = { decOf s d with state := 3, error := code } := by
  simp [stopSession]

/-- A picture that is not the last leaves the session open. -/
theorem lastPicture_of_more {last : Bool} (more : ¬(last = true ∧ (decOf s d).ending = true)) : lastPicture d last s = s := if_neg more

/-- The last picture closes the session. -/
theorem lastPicture_of_last {last : Bool} (ends : last = true ∧ (decOf s d).ending = true) (open' : (decOf s d).state ≠ 0) :
    Told (1734 + d.val) s (lastPicture d last s) ∧ (decOf (lastPicture d last s) d).state = 0 ∧
    (decOf (lastPicture d last s) d).pictures = (decOf s d).pictures ∧
    (decOf (lastPicture d last s) d).producer = (decOf s d).producer ∧ (decOf (lastPicture d last s) d).consumer = (decOf s d).consumer := by
  have closed : lastPicture d last s = closeSession d (Config.causeCode .decodeEnd).toNat s := if_pos ends
  unfold closeSession at closed
  rw [closed.trans (if_neg open')]
  exact ⟨(raise_told ..).of rfl rfl rfl, by simp, by simp, by simp, by simp⟩

end

/-- A session that is served, with its source there and no encoding work in its way, takes what the decoder gives. -/
theorem execDecodePictureOutput_served {s : State} {d : Fin 2} {r : DecodeResult} (entropy : s.island .entropy = .running)
    (pixel : s.island .pixel = .running) (open' : decOpen s d = true) (served : decodeServed s = true)
    (source : sourceMissing s d = false) (free : encodeWaits s = false) :
    exec (.decodePictureOutput d r) s = (match r with
      | .picture p read last =>
        if mayRead s d read then .next (lastPicture d last (writePicture d p false (readInput d read s))) else .next s
      | .concealed p failed read last =>
        if mayRead s d read then
          .next (lastPicture d last (raise ((writePicture d (conceal failed s.video.dec[d].previous p) true (readInput d read s)).modDec d
            (fun x => { x with error := 3 })) (1736 + d.val) .entropy [(1, 3)]))
        else .next s
      | .stop k => .next (stopSession d (stopCode k) s)) := by
  show execDecodePictureOutput d r s = _
  unfold execDecodePictureOutput
  simp only [entropy, pixel, open', served, source, free, ne_eq, not_true_eq_false, Bool.true_eq_false, Bool.false_eq_true, or_self, if_false] <;> cases r <;> rfl

end Sys2Proof.Machine
end

section
open Sys2Proof Sys2Proof.Machine

/-- Settles O45: a picture is what reading its input, writing its record and the end of the input leave; a stop and a missing source
leave their error; a vector is sent where its ring is due and open. -/
theorem picturesAndEventVectors : Obligations.PicturesAndEventVectors := by
  unfold Obligations.PicturesAndEventVectors
  refine ⟨?picture, ?concealed, ?stops, ?missing, ?waits, ?raises, ?spaced⟩
  case picture =>
    intro d p read last s entropy pixel open' served source free room
    have run := execDecodePictureOutput_served (r := .picture p read last) entropy pixel open' served source free
    simp only [room, if_true] at run
    have input := readInput_step s d read
    have step := (input.turn.trans (writePicture_step _ d p false)).trans (lastPicture_step _ d last).turn
    have written := writePicture_decOf (readInput d read s) d p false
    rw [readInput_decOf, fromSegment, input.cfg] at written
    by_cases ends : last = true ∧ (decOf s d).ending = true
    · obtain ⟨told, state, pictures, producer, consumer⟩ := lastPicture_of_last (writePicture d p false (readInput d read s)) d (last := last)
        (by rw [written]; exact ends) (by rw [written]; simp)
      rw [written] at pictures producer consumer
      exact ⟨_, run, pictures.symm, producer, consumer, state.trans (if_pos ends).symm,
        fun _ _ => (input.turn.trans (writePicture_step _ d p false)).logged told, step.frame⟩
    · have kept := lastPicture_of_more (writePicture d p false (readInput d read s)) d (last := last) (by rw [written]; exact ends)
      have read' := written
      rw [← kept] at read'
      have session := congrArg Session_.state read'
      exact ⟨_, run, (congrArg Session_.pictures read').symm, congrArg Session_.producer read', congrArg Session_.consumer read',
        (congrArg Session_.state read').trans (if_neg ends).symm, fun l e => absurd ⟨l, e⟩ ends, step.frame⟩
  case concealed =>
    intro d p failed read s entropy pixel open' served source free room
    have run := execDecodePictureOutput_served (r := .concealed p failed read false) entropy pixel open' served source free
    simp only [room, if_true] at run
    have written := writePicture_decOf (readInput d read s) d (conceal failed s.video.dec[d].previous p) true
    rw [readInput_decOf] at written
    have last : ∀ u, lastPicture d false u = u := fun u => if_neg (by simp)
    simp only [last] at run
    have left : decOf (raise ((writePicture d (conceal failed s.video.dec[d].previous p) true (readInput d read s)).modDec d
        fun x => { x with error := 3 }) (1736 + d.val) .entropy [(1, 3)]) d =
        { decOf (writePicture d (conceal failed s.video.dec[d].previous p) true (readInput d read s)) d with error := 3 } := by simp
    rw [written] at left
    exact ⟨_, run, congrArg Session_.error left, congrArg Session_.pictures left, (raise_told ..).of (by simp) (by simp) (by simp)⟩
  case stops =>
    intro d k s entropy pixel open' served source free
    have run := execDecodePictureOutput_served (r := .stop k) entropy pixel open' served source free
    have left := stopSession_decOf s d (stopCode k)
    exact ⟨_, run, congrArg Session_.state left, congrArg Session_.error left, (congrArg Session_.pictures left :), stopSession_told s d _,
      (stopSession_step s d _).frame⟩
  case missing =>
    intro d r s entropy pixel open' served source
    have run : exec (.decodePictureOutput d r) s = .next (stopSession d 4 s) := by
      show execDecodePictureOutput d r s = _
      simp [execDecodePictureOutput, entropy, pixel, open', served, source]
    have left := stopSession_decOf s d 4
    exact ⟨_, run, congrArg Session_.state left, congrArg Session_.error left, (congrArg Session_.pictures left :), stopSession_told s d _,
      (stopSession_step s d _).frame⟩
  case waits =>
    intro d r s source busy
    show execDecodePictureOutput d r s = _
    unfold execDecodePictureOutput
    simp only [source, busy, Bool.false_eq_true, if_false, if_true, ite_self]
  case raises =>
    intro fn s due open' free
    exact if_pos ⟨due, open', free⟩
  case spaced =>
    intro fn s spaced
    exact if_neg fun h => absurd (h.2.2.symm.trans spaced) (by decide)
end

section
/-! Live slices and recording segments (O44). -/

namespace Sys2Proof.Machine

/-! ### Live slices -/

/-- Bytes that one posted write carries go out in one piece. -/
theorem spread_single {s : State} {fn : Fin 16} {a len : Nat} {bytes : List Byte} (long : bytes.length = len) (some' : len ≠ 0)
    (fits : len ≤ s.port.fns[fn].mps) : spread (writeParts s fn [(a, len)]) bytes = [(a, bytes)] := by
  have nonempty : bytes ≠ [] := fun h => some' (by simp [← long, h])
  have one : pieces s.port.fns[fn].mps (a, len) = [(a, len)] := by
    generalize s.port.fns[fn].mps = m at fits
    simp [pieces, cutSpan, some', fits]
  simp only [writeParts, List.flatMap_cons, List.flatMap_nil, one, List.append_nil]
  simp [spread, nonempty, ← long]

/-- A record is written with its padding before it and the producer offset after it. -/
theorem writeLive_eq {s : State} {n : Fin 16} {bytes : List Byte} {producer : Nat}
    (after : producer = (encOf s n).producer + padBefore (liveSize s n) (encOf s n).producer bytes.length + bytes.length)
    (wide : 8 ≤ s.port.fns[s.cache.videoTenant].mps) : ∃ before, writeLive n bytes s = { s.modEnc n (fun e => { e with producer := producer }) with
      port := { s.port with lastFn := s.cache.videoTenant }
      out := s.out ++ before ++ [.dma s.cache.videoTenant (liveIndex s n) (leBytes 8 producer)] } := by
  have index : ∀ u : State, u.port.fns = s.port.fns →
      dmaWrite s.cache.videoTenant [(liveIndex s n, 8)] (leBytes 8 producer) u =
        { u with out := u.out ++ [.dma s.cache.videoTenant (liveIndex s n) (leBytes 8 producer)] } := by
    intro u same
    have one := spread_single (s := u) (fn := s.cache.videoTenant) (a := liveIndex s n) (len := 8) (bytes := leBytes 8 producer)
      (by simp [leBytes]) (by decide) (by rw [same]; exact wide)
    rw [dmaWrite_eq, one]
    rfl
  have padding : ∀ (c : Prop) [Decidable c] (p : List (Nat × Nat)) (b : List Byte), ∃ pads : List Output,
      (if c then s else dmaWrite s.cache.videoTenant p b s) = { s with out := s.out ++ pads } := by
    intro c _ p b
    by_cases hc : c
    · exact ⟨[], by simp [hc]⟩
    · exact ⟨_, (if_neg hc).trans (dmaWrite_eq ..)⟩
  unfold writeLive
  dsimp only
  obtain ⟨pads, padded⟩ := padding (padBefore (liveSize s n) (encOf s n).producer bytes.length = 0)
    [(liveBase s n + (encOf s n).producer % liveSize s n, padBefore (liveSize s n) (encOf s n).producer bytes.length)]
    (padBytes (padBefore (liveSize s n) (encOf s n).producer bytes.length))
  have written : ∀ u v : State, ∀ p, ∃ l : List Output,
      dmaWrite v.cache.videoTenant p bytes u = { u with out := u.out ++ l } := fun u v p => ⟨_, dmaWrite_eq ..⟩
  obtain ⟨record, written⟩ := written (takeFnTurn s.cache.videoTenant { s with out := s.out ++ pads }) s
    [(liveBase s n + ((encOf s n).producer + padBefore (liveSize s n) (encOf s n).producer bytes.length) % liveSize s n, bytes.length)]
  rw [padded, written, ← after, index]
  · exact ⟨pads ++ record, by simp only [State.modEnc, takeFnTurn, List.append_assoc]⟩
  · rfl

/-- What writing a slice leaves: the producer offset, and nothing else but what goes out and whose turn it is at the bus. -/
structure SliceWritten (n : Fin 16) (producer : Nat) (s t : State) : Prop where
  enc : encOf t n = { encOf s n with producer := producer }
  out : ∃ before, t.out = s.out ++ before ++ [.dma s.cache.videoTenant (liveIndex s n) (leBytes 8 producer)]
  frame : t = { s with video := t.video, port := { s.port with lastFn := s.cache.videoTenant }, out := t.out }

theorem writeLive_written {s : State} {n : Fin 16} {bytes : List Byte} {producer : Nat}
    (after : producer = (encOf s n).producer + padBefore (liveSize s n) (encOf s n).producer bytes.length + bytes.length)
    (wide : 8 ≤ s.port.fns[s.cache.videoTenant].mps) : SliceWritten n producer s (writeLive n bytes s) := by
  obtain ⟨before, written⟩ := writeLive_eq after wide
  have enc : encOf (s.modEnc n (fun e => { e with producer := producer })) n = { encOf s n with producer := producer } := by simp
  rw [written]
  exact ⟨enc, ⟨before, rfl⟩, rfl⟩

/-- A slice with room is written, its record after the producer offset. -/
theorem putSlice_room {s : State} {n : Fin 16} {c : Coded} {nal : List Byte} {last : Bool} {consumer : Nat}
    (whole : (encOf s n).overflow = false) (open' : liveOpen s n = true)
    (room : liveRoom s n (sliceBytes c (encOf s n).slice last nal).length (encOf s n).consumer = true) :
    putSlice n c nal last consumer s = writeLive n (sliceBytes c (encOf s n).slice last nal) s := by
  unfold putSlice
  simp [whole, open', room]

/-- The last slice of a frame that was written whole raises the stream's vector. -/
theorem liveFrameDone_written {s : State} {n : Fin 16} {c : Coded} (whole : (encOf s n).overflow = false)
    (master : s.port.fns[s.cache.videoTenant].bme = true) : liveFrameDone n c true s = (s.modEnc n (fun e => { e with
      coding := e.coding.tail, slice := 0, overflow := false, whole := true
      ltrWhole := if c.becomesLtr then (encOf s n).whole else e.ltrWhole })).send (.msix s.cache.videoTenant (s.sc n 0x4043 4)) := by
  unfold liveFrameDone
  simp only [whole, and_self, if_true]
  exact if_pos master

/-- After a slice that was written the last one raises the vector; the others are followed by the next one. -/
theorem sliceWritten_done {s t : State} {n : Fin 16} {c : Coded} {producer : Nat} (last : Bool) (h : SliceWritten n producer s t)
    (whole : (encOf s n).overflow = false) (master : s.port.fns[s.cache.videoTenant].bme = true) :
    let u := t.modEnc n (fun e => { e with slice := e.slice + 1 })
    let d := if last then liveFrameDone n c true u else u
    (encOf d n).producer = producer ∧ (last = false → (encOf d n).slice = (encOf s n).slice + 1 ∧ (encOf d n).coding = (encOf s n).coding) ∧
    (last = true → (encOf d n).slice = 0 ∧ (encOf d n).coding = (encOf s n).coding.tail) ∧
    d.out = t.out ++ (if last then [.msix s.cache.videoTenant (s.sc n 0x4043 4)] else []) ∧
    d = { s with video := d.video, port := { s.port with lastFn := s.cache.videoTenant }, out := d.out } := by
  obtain ⟨enc, -, frame⟩ := h
  have cache : t.cache = s.cache := (congrArg State.cache frame :)
  have isl : t.isl = s.isl := (congrArg State.isl frame :)
  have dict : t.dict = s.dict := (congrArg State.dict frame :)
  have port : t.port = { s.port with lastFn := s.cache.videoTenant } := (congrArg State.port frame :)
  have sc : t.sc = s.sc := by unfold State.sc; rw [cfg_congr isl dict]
  cases last with
  | false =>
    dsimp only
    rw [if_neg Bool.false_ne_true]
    exact ⟨by simp [enc], fun _ => by simp [enc], fun no => absurd no Bool.false_ne_true, by simp, by rw [frame]; rfl⟩
  | true =>
    dsimp only
    rw [if_pos rfl, liveFrameDone_written (by simpa [enc] using whole) (by simpa [cache, port] using master)]
    have sent (u : State) (o : Output) : encOf (u.send o) n = encOf u n := rfl
    refine ⟨by simp [sent, enc], fun no => absurd no.symm Bool.false_ne_true, fun _ => by simp [sent, enc], ?_, ?_⟩
    · rw [sc_modEnc, sc]
      simp [State.send, cache]
    · rw [frame]; rfl

theorem master_of_liveOpen {s : State} {n : Fin 16} (h : liveOpen s n = true) : s.port.fns[s.cache.videoTenant].bme = true := by
  unfold liveOpen dmaOpen at h
  simp only [Bool.and_eq_true] at h
  exact h.1.2.2

theorem dmaRead_step (fn : Fin 16) (parts : List (Nat × Nat)) (s : State) : VideoStep s (dmaRead fn parts s) :=
  (VideoStep.refl s).sends _ fun p : Nat × Nat => .dmaRead fn p.1 p.2

theorem readConsumer_step (n : Fin 16) (consumer : Nat) (s : State) : VideoStep s (readConsumer n consumer s) :=
  ((VideoStep.refl s).enc _ _).trans (dmaRead_step _ _ _)

theorem readConsumer_encOf (n : Fin 16) (consumer : Nat) (s : State) :
    encOf (readConsumer n consumer s) n = { encOf s n with consumer := consumer } := by
  have read : encOf (s.modEnc n fun e => { e with consumer := consumer }) n = { encOf s n with consumer := consumer } := by simp
  rw [← read]
  simp [readConsumer, encOf]

theorem liveOverflow_step (n : Fin 16) (s : State) : VideoStep s (liveOverflow n s) := by
  unfold liveOverflow dueIdr
  dsimp only
  split
  · exact (((VideoStep.refl s).enc _ _).raise _ _ _).enc _ _
  · exact (((VideoStep.refl s).enc _ _).raise _ _ _).enc _ _

theorem liveOverflow_told (n : Fin 16) (s : State) : Told (streamEv n.val 20) s (liveOverflow n s) := by
  have told : Told (streamEv n.val 20) s (raise (s.modEnc n (fun e => { e with overflow := true, whole := false, overflows := e.overflows + 1 }))
      (streamEv n.val 20) .entropy []) := (raise_told ..).of rfl rfl rfl
  unfold liveOverflow dueIdr
  dsimp only
  split
  · exact told.ev_eq rfl
  · exact told.ev_eq rfl

/-- An overflow is counted; the next frame is predicted from the long-term reference if all of it was written, else an IDR frame is due. -/
theorem liveOverflow_encOf (n : Fin 16) (s : State) :
    (encOf (liveOverflow n s) n).overflow = true ∧ (encOf (liveOverflow n s) n).overflows = (encOf s n).overflows + 1 ∧
    (encOf (liveOverflow n s) n).producer = (encOf s n).producer ∧
    ((encOf s n).ltr = true → (encOf s n).ltrWhole = true → (encOf (liveOverflow n s) n).nextLtr = true) ∧
    ((encOf s n).ltr = false ∨ (encOf s n).ltrWhole = false → (encOf (liveOverflow n s) n).idrCause.isSome = true) := by
  unfold liveOverflow dueIdr
  dsimp only
  split
  · rename_i reference
    simp [reference]
  · rename_i reference
    refine ⟨by simp, by simp, by simp, fun a b => absurd ⟨a, b⟩ reference, fun _ => ?_⟩
    simp only [encOf_modEnc, if_true]
    split <;> rfl

/-- A slice without room, by the offset known and by the one read, overflows. -/
theorem putSlice_overflow {s : State} {n : Fin 16} {c : Coded} {nal : List Byte} {last : Bool} {consumer : Nat}
    (whole : (encOf s n).overflow = false) (open' : liveOpen s n = true)
    (full : liveRoom s n (sliceBytes c (encOf s n).slice last nal).length (encOf s n).consumer = false)
    (still : liveRoom s n (sliceBytes c (encOf s n).slice last nal).length consumer = false) :
    putSlice n c nal last consumer s = liveOverflow n (readConsumer n consumer s) := by
  have read := readConsumer_encOf n consumer s
  have still' : liveRoom (readConsumer n consumer s) n (sliceBytes c (encOf s n).slice last nal).length consumer = false := by
    unfold liveRoom liveSize at still ⊢
    rw [(readConsumer_step n consumer s).sc, read]
    exact still
  unfold putSlice
  simp [whole, open', full, read, still']

/-! ### Recording -/

section
variable {n : Fin 16} {s : State}

theorem recOf_of_video {t : State} (h : t.video = s.video) : recOf t n = recOf s n := by unfold recOf; rw [h]

theorem sealSegment_recOf (why : Cause) (flags : Nat) : (recOf (sealSegment n why flags s) n).seg = none ∧
    (recOf (sealSegment n why flags s) n).paused = (recOf s n).paused ∧
    (recOf (sealSegment n why flags s) n).current = (recOf s n).current := by
  unfold sealSegment
  split
  · rename_i none
    exact ⟨none, rfl, rfl⟩
  · rename_i g _
    have kept : recOf (putHeader n g (1 + flags) s).2 n = recOf s n := recOf_of_video (by simp)
    simp [kept]

/-- A pause closes the segment. -/
theorem pauseRecording_recOf (why : Cause) (runs : (recOf s n).paused = false) : (recOf (pauseRecording n why s) n).seg = none ∧
    (recOf (pauseRecording n why s) n).paused = true ∧ (recOf (pauseRecording n why s) n).current = (recOf s n).current := by
  obtain ⟨seg, -, current⟩ := sealSegment_recOf (n := n) (s := s) .closePause 8
  unfold pauseRecording
  simp [runs, seg, current]

section
variable {m : Fin 16}

/-- Pausing, opening a segment and adding a record leave what is still to be coded. -/
theorem encOf_of_video {t : State} (h : t.video = s.video) : encOf t m = encOf s m := by unfold encOf; rw [h]

theorem sealSegment_encOf (why : Cause) (flags : Nat) : encOf (sealSegment n why flags s) m = encOf s m := by
  unfold sealSegment
  split
  · rfl
  · simpa using encOf_of_video (by simp)

theorem pauseRecording_coding (why : Cause) : (encOf (pauseRecording n why s) m).coding = (encOf s m).coding := by
  unfold pauseRecording
  split
  · rfl
  · simp only [encOf_raiseIf, encOf_raise, encOf_modEnc]
    split <;> simp [sealSegment_encOf]

theorem openSegment_coding (md : Meta) : (encOf (openSegment n md s) m).coding = (encOf s m).coding := by
  unfold openSegment
  dsimp only
  split
  · exact (pauseRecording_coding _).trans (congrArg Encoder.coding (encOf_of_video (by simp)))
  · simp only [encOf_raise, encOf_modRec]
    exact congrArg Encoder.coding (encOf_of_video (by simp))

theorem putHalves_encOf (base frames last fuel : Nat) : encOf (putHalves n base frames last fuel s).2 m = encOf s m := by
  induction fuel generalizing s with
  | zero => rfl
  | succ fuel ih =>
    have put (lba : Nat) (bs : List Block) : encOf (segPut n lba bs s).2 m = encOf s m := encOf_of_video (by simp)
    unfold putHalves
    split
    · rfl
    · dsimp only
      split
      · rfl
      · split
        · exact put _ _
        · rw [ih]; simp [setSeg, put]

theorem appendRecord_coding (md : Meta) (bytes : List Byte) : (encOf (appendRecord n md bytes s) m).coding = (encOf s m).coding := by
  unfold appendRecord
  split
  · rfl
  · dsimp only
    split
    · rw [pauseRecording_coding, putHalves_encOf]; rfl
    · rw [putHalves_encOf]; rfl

end

theorem pauseRecording_paused (why : Cause) : (recOf (pauseRecording n why s) n).paused = true := by
  unfold pauseRecording
  split
  · assumption
  · simp

/-- A PUT of a segment that is taken leaves the events alone. -/
theorem segPut_ev {lba : Nat} {bs : List Block} (taken : (segPut n lba bs s).1 = none) : (segPut n lba bs s).2.ev = s.ev := by
  unfold segPut at taken ⊢
  dsimp only at taken ⊢
  split
  · rename_i closed; simp [closed] at taken
  · rename_i open'
    rw [if_neg open'] at taken
    split
    · rename_i full; simp [full] at taken
    · rename_i room
      rw [if_neg room] at taken
      split
      · rename_i none; simp [none] at taken
      · rename_i handle
        rw [if_neg handle] at taken
        split
        · rename_i none; simp [none] at taken
        · rename_i t slots
          have kept : t.ev = s.ev := by rw [takeSlots_eq _ _ _ _ _ _ _ slots]
          simpa using kept

/-- What is staged goes out as one PUT, of which the segment takes note where it is taken. -/
theorem flushSegment_staged {g : Segment} (open' : (recOf s n).seg = some g) (staged : g.staged ≠ []) :
    ∃ t : State, t.video = s.video ∧ (t.life = s.life ∧ t.dict = s.dict ∧ t.port = s.port ∧ t.rails = s.rails) ∧
      ((∃ c, flushSegment n s = (some c, t)) ∨ ∃ h : Segment, h.staged = [] ∧ h.put = g.put + g.staged.length ∧ h.framesPut = g.frames ∧
        flushSegment n s = (none, setSeg n (some h) t)) := by
  have some' : g.staged.isEmpty = false := by simpa using staged
  unfold flushSegment
  simp only [open', some', Bool.false_eq_true, if_false]
  generalize put : segPut n _ _ s = r
  have kept : r.2.video = s.video ∧ r.2.life = s.life ∧ r.2.dict = s.dict ∧ r.2.port = s.port ∧ r.2.rails = s.rails := by simp [← put]
  refine ⟨r.2, kept.1, kept.2, ?_⟩
  obtain ⟨c | c, u⟩ := r
  · exact .inr ⟨_, rfl, rfl, rfl, rfl⟩
  · exact .inl ⟨c, rfl⟩

/-- A segment that is the one of before, as far as its number and frames go, with the events left alone. -/
structure SameSegment (n : Fin 16) (g : Segment) (s t : State) : Prop where
  seg : ∃ h, (recOf t n).seg = some h ∧ h.number = g.number ∧ h.frames = g.frames
  current : (recOf t n).current = (recOf s n).current
  ev : t.ev = s.ev

theorem putHalves_same {base frames last fuel : Nat} {g : Segment} (open' : (recOf s n).seg = some g)
    (taken : (putHalves n base frames last fuel s).1 = none) : SameSegment n g s (putHalves n base frames last fuel s).2 := by
  induction fuel generalizing g s with
  | zero => exact ⟨⟨g, open', rfl, rfl⟩, rfl, rfl⟩
  | succ fuel ih =>
    unfold putHalves at taken ⊢
    simp only [open'] at taken ⊢
    split
    · exact ⟨⟨g, open', rfl, rfl⟩, rfl, rfl⟩
    · rename_i full
      rw [if_neg full] at taken
      split
      · rename_i c refused
        simp [refused] at taken
      · rename_i put
        simp only [put] at taken
        have rest := ih (s := setSeg n _ _) (by simp [setSeg]; rfl) taken
        obtain ⟨⟨h, seg, number, frames'⟩, current, ev⟩ := rest
        refine ⟨⟨h, seg, number, frames'⟩, current.trans ?_, ev.trans (segPut_ev put)⟩
        simp only [setSeg, recOf_modRec, if_true]
        exact congrArg Recorder.current (recOf_of_video (by simp))

/-- A record joins its segment, or recording pauses. -/
theorem appendRecord_recOf {md : Meta} {bytes : List Byte} {g : Segment} (open' : (recOf s n).seg = some g) :
    (recOf (appendRecord n md bytes s) n).paused = true ∨
      (∃ h, (recOf (appendRecord n md bytes s) n).seg = some h ∧ h.number = g.number ∧ h.frames = g.frames + 1) ∧
        (recOf (appendRecord n md bytes s) n).current = (recOf s n).current ∧ (appendRecord n md bytes s).ev = s.ev := by
  unfold appendRecord
  simp only [open']
  split
  · exact .inl (pauseRecording_paused _)
  · rename_i taken
    obtain ⟨seg, current, ev⟩ := putHalves_same (g := { g with
      staged := g.staged ++ bytes, frames := g.frames + 1, lastTime := md.time, hasInserted := g.hasInserted || md.inserted })
      (by simp [setSeg]) taken
    exact .inr ⟨seg, current.trans (by simp [setSeg]), ev⟩

/-- An IDR frame opens the next segment, or recording pauses. -/
theorem openSegment_recOf (md : Meta) : (recOf (openSegment n md s) n).paused = true ∨
    (∃ g, (recOf (openSegment n md s) n).seg = some g ∧ g.number = nextSegment s n ∧ g.frames = 0) ∧
      (recOf (openSegment n md s) n).current = nextSegment s n ∧ Logged (streamEv n.val 21) s (openSegment n md s) := by
  unfold openSegment
  dsimp only
  split
  · exact .inl (pauseRecording_paused _)
  · rename_i taken
    refine .inr ⟨⟨_, by simp; rfl, rfl, rfl⟩, by simp, fun runs started enabled => ?_⟩
    refine (raise_told ..).logged ?_ ?_ ?_
    · rw [controlRuns_of_isl (s := s) (by simp), runs]
    · rw [show ∀ u r, (State.modRec u n r).ev = u.ev from fun _ _ => rfl, putHeader, segPut_ev taken, started]
    · rw [evEnabled_of (s := s) (by simp) (by simp), enabled]

end

/-! ### What an executed flush or frame does -/

theorem execSegmentFlush_flush {n : Fin 16} {s : State} (runs : s.island .entropy = .running) (open' : (recOf s n).seg.isSome = true) :
    exec (.segmentFlush n) s = .next (match (flushSegment n s).1 with
      | some c => pauseRecording n c (flushSegment n s).2
      | none => (flushSegment n s).2) := by
  show execSegmentFlush n s = _
  have some' : (recOf s n).seg.isNone = false := by simpa using open'
  unfold execSegmentFlush
  simp only [runs, some', ne_eq, not_true_eq_false, Bool.false_eq_true, or_self, if_false]
  cases (flushSegment n s).1 <;> rfl

theorem execRecordingFrameEncoded_frame {n : Fin 16} {s : State} {c : Coded} {nal : List Byte} (head : (encOf s n).coding.head? = some c)
    (runs : s.island .entropy = .running) (ready : frameReady s n = true) (free : liveWaits s = false) :
    exec (.recordingFrameEncoded n nal) s =
      .next (if (recOf s n).paused then s.modEnc n (fun e => { e with coding := e.coding.tail })
        else recordFrame n c nal (s.modEnc n (fun e => { e with coding := e.coding.tail }))) := by
  show execRecordingFrameEncoded n nal s = _
  unfold execRecordingFrameEncoded
  simp only [head, runs, ready, free, ne_eq, not_true_eq_false, Bool.true_eq_false, Bool.false_eq_true, or_self, if_false]
  rfl

/-- Without a segment open there is none to close. -/
theorem recordFrame_of_none {n : Fin 16} {c : Coded} {nal : List Byte} {s : State} (none : (recOf s n).seg = none)
    (runs : (recOf s n).paused = false) : recordFrame n c nal s =
      (if c.idr then
        (if (recOf (openSegment n c.md s) n).paused then openSegment n c.md s
         else if (recOf (openSegment n c.md s) n).seg.isNone then dueIdr n .idrSegment (openSegment n c.md s)
         else appendRecord n c.md (recordBytes c (averageQp c) nal) (openSegment n c.md s))
       else dueIdr n .idrSegment s) := by
  unfold recordFrame
  simp only [segmentOld, segmentFull, none, Bool.false_eq_true, and_false, if_false, runs, Option.isNone_none, true_and]
  split
  · rfl
  · simp [runs, none]

end Sys2Proof.Machine
end

section
open Sys2Proof Sys2Proof.Machine

/-- Settles O44: a slice is written or overflows by the room of its ring; a segment takes what is staged, and an IDR frame opens the
next one, where their PUTs are taken, and recording pauses where one is not. -/
theorem liveAndRecording : Obligations.LiveAndRecording := by
  unfold Obligations.LiveAndRecording
  refine ⟨?writes, ?overflows, ?notLive, ?flushes, ?noSegment, ?discards, ?opens, ?waitsIdr, ?notReady⟩
  case writes =>
    intro n nal consumer c s head runs ready whole open' wide last bytes room
    have put : putSlice n c nal last consumer.toNat s = writeLive n bytes s := putSlice_room whole open' room
    have run : exec (.liveSliceWrite n nal consumer) s = .next (if last then
        liveFrameDone n c (liveOpen s n) ((putSlice n c nal last consumer.toNat s).modEnc n (fun e => { e with slice := e.slice + 1 }))
        else (putSlice n c nal last consumer.toNat s).modEnc n (fun e => { e with slice := e.slice + 1 })) := by
      show execLiveSliceWrite n nal consumer s = _
      unfold execLiveSliceWrite
      simp only [head, runs, ready, ne_eq, not_true_eq_false, Bool.true_eq_false, or_self, if_false]
      rfl
    rw [put, open'] at run
    have written := writeLive_written (s := s) (n := n) (bytes := bytes) rfl wide
    obtain ⟨producer, more, final, out, frame⟩ := sliceWritten_done (c := c) last written whole (master_of_liveOpen open')
    obtain ⟨before, sent⟩ := written.out
    exact ⟨_, run, producer, more, final, ⟨before, by rw [out, sent, producer]⟩, frame⟩
  case overflows =>
    intro n nal consumer c s head runs ready whole open' more full still
    have run : exec (.liveSliceWrite n nal consumer) s = .next
        ((liveOverflow n (readConsumer n consumer.toNat s)).modEnc n (fun e => { e with slice := e.slice + 1 })) := by
      show execLiveSliceWrite n nal consumer s = _
      unfold execLiveSliceWrite
      simp only [head, runs, ready, more, ne_eq, not_true_eq_false, Bool.true_eq_false, Bool.false_eq_true, or_self, if_false]
      rw [putSlice_overflow whole open' full still]
    obtain ⟨full', counted, producer, ltr, idr⟩ := liveOverflow_encOf n (readConsumer n consumer.toNat s)
    rw [readConsumer_encOf] at counted producer ltr idr
    have step := ((readConsumer_step n consumer.toNat s).trans (liveOverflow_step n _)).enc n (fun e => { e with slice := e.slice + 1 })
    refine ⟨_, run, by simpa using full', by simpa using counted, by simpa using producer, ?_, fun a b => by simpa using ltr a b,
      fun a => by simpa using idr a, step.frame⟩
    exact ((liveOverflow_told n _).of (readConsumer_step n consumer.toNat s).isl (readConsumer_step n consumer.toNat s).dict
      (by simp)).ev_eq rfl
  case notLive =>
    intro n nal consumer s other
    have not : sliceReady s n = false := by
      rcases other with other | other
      · simp [sliceReady, other]
      · exact other
    show execLiveSliceWrite n nal consumer s = _
    unfold execLiveSliceWrite
    simp only [not, or_true, if_true]
    split <;> rfl
  case flushes =>
    intro n g s runs open' staged resumes
    have run := execSegmentFlush_flush (s := s) (n := n) runs (by simp [open'])
    obtain ⟨u, video, ⟨life, dict, port, rails⟩, ⟨c, refused⟩ | ⟨h, staged', put, frames, taken⟩⟩ := flushSegment_staged open' staged
    · rw [refused] at run
      obtain ⟨seg, paused, current⟩ := pauseRecording_recOf c ((congrArg Recorder.paused (recOf_of_video video)).trans resumes)
      exact ⟨_, run, .inl ⟨paused, seg⟩, current.trans (congrArg Recorder.current (recOf_of_video video)), by simp [life], by simp [dict],
        by simp [port], by simp [rails]⟩
    · rw [taken] at run
      exact ⟨_, run, .inr ⟨h, by simp [setSeg], staged', put, frames⟩, by simp [setSeg, recOf_of_video video], life, dict, port, rails⟩
  case noSegment =>
    intro n s none
    exact if_pos (.inr (by simp [none]))
  case discards =>
    intro n nal c s head runs ready free paused
    rw [execRecordingFrameEncoded_frame head runs ready free, if_pos paused]
  case opens =>
    intro n nal c s head runs ready free resumes none idr
    have run := execRecordingFrameEncoded_frame (nal := nal) head runs ready free
    rw [resumes, if_neg (by decide), recordFrame_of_none (by simpa using none) (by simpa using resumes), if_pos idr] at run
    generalize tail : s.modEnc n (fun e => { e with coding := e.coding.tail }) = u at run
    have coded : (encOf u n).coding = (encOf s n).coding.tail := by simp [← tail]
    have kept : u.life = s.life ∧ u.dict = s.dict ∧ u.port = s.port ∧ u.rails = s.rails := by simp [← tail]
    have next : nextSegment u n = nextSegment s n := by simp [← tail, nextSegment]
    obtain ⟨life, dict, port, rails⟩ := kept
    rcases openSegment_recOf (n := n) (s := u) c.md with paused | ⟨⟨g, seg, number, frames⟩, current, told⟩
    · rw [if_pos paused] at run
      exact ⟨_, run, (openSegment_coding _).trans coded, .inl paused, by simp [life], by simp [dict], by simp [port], by simp [rails]⟩
    · by_cases paused : (recOf (openSegment n c.md u) n).paused = true
      · rw [if_pos paused] at run
        exact ⟨_, run, (openSegment_coding _).trans coded, .inl paused, by simp [life], by simp [dict], by simp [port], by simp [rails]⟩
      · rw [if_neg paused, if_neg (by simp [seg])] at run
        refine ⟨_, run, ((appendRecord_coding _ _).trans (openSegment_coding _)).trans coded, ?_, by simp [life], by simp [dict],
          by simp [port], by simp [rails]⟩
        refine (appendRecord_recOf seg).imp_right ?_
        rintro ⟨⟨h, seg', number', frames'⟩, current', ev⟩
        refine ⟨h, seg', by rw [number', number, next], by rw [frames', frames], by rw [current', current, next], ?_⟩
        intro logs started enabled
        have logged := told (by rw [← logs]; exact controlRuns_of_isl (by simp [← tail])) (by simpa [← tail] using started)
          (by rw [← enabled]; exact evEnabled_of (by simp [← tail]) dict _)
        unfold pendingBit at logged ⊢
        rwa [ev]
  case waitsIdr =>
    intro n nal c s head runs ready free resumes none notIdr
    have run := execRecordingFrameEncoded_frame (nal := nal) head runs ready free
    rw [resumes, if_neg (by decide), recordFrame_of_none (by simpa using none) (by simpa using resumes), notIdr, if_neg (by decide)] at run
    refine ⟨_, run, by simp [dueIdr], ?_, rfl⟩
    simp only [dueIdr, encOf_modEnc, if_true]
    split <;> rfl
  case notReady =>
    intro n nal s not
    show execRecordingFrameEncoded n nal s = _
    unfold execRecordingFrameEncoded
    split
    · rfl
    · exact if_pos (.inr not)
end

section
/-! An event system that only grows: what has been told of an occurrence stays told. -/

namespace Sys2Proof.Machine


/-! ### What is told stays told -/

/-- An event system that has kept the pending bits of another one, and, where `held` says so, its held events. -/
structure Grows (held : Bool) (g e : Events) : Prop where
  pending : ∀ ev, bitOf g ev = true → bitOf e ev = true
  sup : held = true → ∀ r ∈ g.heldSup, r ∈ e.heldSup
  ctl : held = true → ∀ r ∈ g.heldCtl, r ∈ e.heldCtl

section
variable {held : Bool} {g : Events}

@[simp] theorem Grows.refl (g : Events) : Grows held g g := ⟨fun _ h => h, fun _ _ h => h, fun _ _ h => h⟩

/-- An occurrence stays told while the event system only grows. -/
theorem Told.grows {ev : Nat} {s t u : State} (told : Told ev s t) (grows : Grows true t.ev u.ev) : Told ev s u := by
  refine ⟨fun a b c => grows.pending ev (told.logged a b c), fun a b => ?_, fun a b c => ?_⟩
  · obtain ⟨r, held, event⟩ := told.early a b
    exact ⟨r, grows.sup rfl r held, event⟩
  · obtain ⟨r, held, event⟩ := told.waits a b c
    exact ⟨r, grows.ctl rfl r held, event⟩

/-- An occurrence that is logged stays logged while the pending bits stay. -/
theorem Logged.grows {ev : Nat} {s t u : State} (told : Logged ev s t) (grows : Grows false t.ev u.ev) : Logged ev s u :=
  fun a b c => grows.pending ev (told a b c)

@[simp] theorem raise_grows (s : State) (ev : Nat) (i : EvIsland) (vs : List (Nat × Nat)) (h : Grows held g s.ev) :
    Grows held g (raise s ev i vs).ev :=
  ⟨fun w p => raise_keeps s ev i vs w (h.pending w p), fun on r p => (raiseWord_held ..).1 r (h.sup on r p),
    fun on r p => (raiseWord_held ..).2 r (h.ctl on r p)⟩

@[simp] theorem raiseIf_grows (b : Bool) (s : State) (ev : Nat) (i : EvIsland) (vs : List (Nat × Nat)) (h : Grows held g s.ev) :
    Grows held g (raiseIf b s ev i vs).ev := by
  cases b
  · exact h
  · exact raise_grows s ev i vs h

@[simp] theorem foldl_grows {α : Type} (f : State → α → State) (l : List α) (s : State) (h : Grows held g s.ev)
    (each : ∀ t a, Grows held g t.ev → Grows held g (f t a).ev) : Grows held g (l.foldl f s).ev :=
  List.foldlRecOn l f h fun t ht a _ => each t a ht

@[simp] theorem forAll_grows {n : Nat} (f : State → Fin n → State) (s : State) (h : Grows held g s.ev)
    (each : ∀ t a, Grows held g t.ev → Grows held g (f t a).ev) : Grows held g (forAll n f s).ev :=
  foldl_grows f _ s h each

@[simp] theorem latchFault_grows (kind rail switch position reading lag : Nat) (s : State) (h : Grows held g s.ev) : Grows
    held g (latchFault kind rail switch position reading lag s).ev := by
  unfold latchFault
  dsimp only
  (repeat' split) <;> simp (maxDischargeDepth := 20) [h]

@[simp] theorem latchRail_grows (kind : Nat) (r : Fin 12) (reading lag : Nat) (s : State) (h : Grows held g s.ev) : Grows held
    g (latchRail kind r reading lag s).ev := by
  unfold latchRail
  (repeat' split) <;> simp (maxDischargeDepth := 20) [h]

@[simp] theorem endUpWalk_grows (s : State) (h : Grows held g s.ev) : Grows held g (endUpWalk s).ev := by
  unfold endUpWalk
  (repeat' split) <;> simp (maxDischargeDepth := 20) [h]

@[simp] theorem endDownWalk_grows (s : State) (h : Grows held g s.ev) : Grows held g (endDownWalk s).ev := by
  unfold endDownWalk
  (repeat' split) <;> simp (maxDischargeDepth := 20) [h]

@[simp] theorem gateMissingRefresh_grows (s : State) (h : Grows held g s.ev) : Grows held g (gateMissingRefresh s).ev := by
  unfold gateMissingRefresh
  (repeat' split) <;> simp (maxDischargeDepth := 20) [h]

@[simp] theorem endAssist_grows (s : State) (h : Grows held g s.ev) : Grows held g (endAssist s).ev := by
  unfold endAssist
  (repeat' split) <;> simp (maxDischargeDepth := 20) [h]

@[simp] theorem discardLearn_grows (c : Channel) (why : Cause) (s : State) (h : Grows held g s.ev) : Grows held g
    (discardLearn c why s).ev := by
  unfold discardLearn
  (repeat' split) <;> simp (maxDischargeDepth := 20) [h]

@[simp] theorem geyserAbort_grows (c : Channel) (s : State) (h : Grows held g s.ev) : Grows held g (geyserAbort c s).ev := by
  unfold geyserAbort
  dsimp only
  (repeat' split) <;> simp (maxDischargeDepth := 20) [h]

@[simp] theorem geyserAbortAll_grows (s : State) (h : Grows held g s.ev) : Grows held g (geyserAbortAll s).ev := by
  unfold geyserAbortAll
  (repeat' split) <;> simp (maxDischargeDepth := 20) [h]

@[simp] theorem modeChanged_grows (dim old new : Nat) (s : State) (h : Grows held g s.ev) : Grows held g (modeChanged dim old
    new s).ev := by
  unfold modeChanged
  (repeat' split) <;> simp (maxDischargeDepth := 20) [h]

@[simp] theorem modeFallback_grows (a b : Nat) (s : State) (h : Grows held g s.ev) : Grows held g (modeFallback a b s).ev :=
    by
  unfold modeFallback
  (repeat' split) <;> simp (maxDischargeDepth := 20) [h]

@[simp] theorem outageEffRefresh_grows (s : State) (h : Grows held g s.ev) : Grows held g (outageEffRefresh s).ev := by
  unfold outageEffRefresh
  dsimp only
  (repeat' split) <;> simp (maxDischargeDepth := 20) [h]

@[simp] theorem activityRefresh_grows (s : State) (h : Grows held g s.ev) : Grows held g (activityRefresh s).ev := by
  unfold activityRefresh
  dsimp only
  (repeat' split) <;> simp (maxDischargeDepth := 20) [h]

@[simp] theorem fitRefresh_grows (s : State) (h : Grows held g s.ev) : Grows held g (fitRefresh s).ev := by
  unfold fitRefresh
  dsimp only
  (repeat' split) <;> simp (maxDischargeDepth := 20) [h]

@[simp] theorem modesRefresh_grows (s : State) (h : Grows held g s.ev) : Grows held g (modesRefresh s).ev := by
  unfold modesRefresh
  (repeat' split) <;> simp (maxDischargeDepth := 20) [h]

@[simp] theorem stageRefresh_grows (s : State) (h : Grows held g s.ev) : Grows held g (stageRefresh s).ev := by
  unfold stageRefresh
  dsimp only
  (repeat' split) <;> simp (maxDischargeDepth := 20) [h]

@[simp] theorem geyserEnds_grows (s : State) (h : Grows held g s.ev) : Grows held g (geyserEnds s).ev := by
  unfold geyserEnds
  (repeat' split) <;> simp (maxDischargeDepth := 20) [h]

@[simp] theorem geyserStops_grows (s : State) (h : Grows held g s.ev) : Grows held g (geyserStops s).ev := by
  unfold geyserStops
  (repeat' split) <;> simp (maxDischargeDepth := 20) [h]

@[simp] theorem raiseTenant_grows (fn : Fin 16) (k : Nat) (vs : List (Nat × Nat)) (s : State) (h : Grows held g s.ev) : Grows
    held g (raiseTenant fn k vs s).ev := by
  unfold raiseTenant
  (repeat' split) <;> simp (maxDischargeDepth := 20) [h]

@[simp] theorem stopPair_grows (fn : Fin 16) (qp : Fin 4) (code : Byte) (s : State) (h : Grows held g s.ev) : Grows held g
    (stopPair fn qp code s).ev := by
  unfold stopPair
  (repeat' split) <;> simp (maxDischargeDepth := 20) [h]

@[simp] theorem thawSlots_grows (n : Fin 16) (s : State) (h : Grows held g s.ev) : Grows held g (thawSlots n s).ev := by
  unfold thawSlots
  (repeat' split) <;> simp (maxDischargeDepth := 20) [h]

@[simp] theorem closeSession_grows (d : Fin 2) (why : Nat) (s : State) (h : Grows held g s.ev) : Grows held g (closeSession d
    why s).ev := by
  unfold closeSession
  (repeat' split) <;> simp (maxDischargeDepth := 20) [h]

@[simp] theorem closeSessions_grows (s : State) (h : Grows held g s.ev) : Grows held g (closeSessions s).ev := by
  unfold closeSessions
  (repeat' split) <;> simp +contextual (maxDischargeDepth := 20) [h]

@[simp] theorem hostChanged_grows (before s : State) (h : Grows held g s.ev) : Grows held g (hostChanged before s).ev := by
  unfold hostChanged
  dsimp only
  (repeat' split) <;> simp (maxDischargeDepth := 20) [h]

@[simp] theorem tremorFault_grows (s : State) (h : Grows held g s.ev) : Grows held g (tremorFault s).ev := by
  unfold tremorFault
  (repeat' split) <;> simp (maxDischargeDepth := 20) [h]

@[simp] theorem advanceUp_grows (s : State) (h : Grows held g s.ev) : Grows held g (advanceUp s).ev := by
  unfold advanceUp
  (repeat' split) <;> simp (maxDischargeDepth := 20) [h]

end

end Sys2Proof.Machine
end

section
/-! Queue pairs and tenants: what they read after a change, what commands that end leave of them, and slots that thaw. -/

namespace Sys2Proof.Machine


/-! ### What a pair and a tenant read after a change -/

section
variable (s : State) (fn g : Fin 16) (qp k : Fin 4)

theorem pair_of_port {s t : State} (h : t.port = s.port) : t.pair g k = s.pair g k := by unfold State.pair; rw [h]
theorem ten_of_cache {s t : State} (h : t.cache = s.cache) : t.ten g = s.ten g := by unfold State.ten; rw [h]

@[simp] theorem pair_modPair (f : Pair → Pair) :
    (s.modPair fn qp f).pair g k = if fn = g ∧ qp = k then f (s.pair g k) else s.pair g k := by
  show (vmod s.port.fns fn _)[g.val].pairs[k.val] = _
  rw [vmod_getElem]
  simp only [Fin.val_inj]
  by_cases same : fn = g
  · simp only [same, if_true, true_and]
    rw [vmod_getElem]
    simp only [Fin.val_inj]
    rfl
  · simp only [same, if_false, false_and]
    rfl

/-- A pair that was changed. -/
theorem pair_modPair_self (f : Pair → Pair) : (s.modPair fn qp f).pair fn qp = f (s.pair fn qp) := by simp

/-- A pair other than the one that was changed. -/
theorem pair_modPair_ne (f : Pair → Pair) (other : (g, k) ≠ (fn, qp)) : (s.modPair fn qp f).pair g k = s.pair g k := by
  rw [pair_modPair, if_neg]
  rintro ⟨rfl, rfl⟩
  exact other rfl

@[simp] theorem ten_modTen (f : Tenant → Tenant) : (s.modTen fn f).ten g = if fn = g then f (s.ten g) else s.ten g := by
  show (vmod s.cache.tenants fn f)[g.val] = _
  rw [vmod_getElem]
  simp only [Fin.val_inj]
  rfl

@[simp] theorem cmds_modPair (f : Pair → Pair) : (s.modPair fn qp f).port.cmds = s.port.cmds := rfl
@[simp] theorem pair_modTen (f : Tenant → Tenant) : (s.modTen fn f).pair g k = s.pair g k := rfl
@[simp] theorem ten_modPair (f : Pair → Pair) : (s.modPair fn qp f).ten g = s.ten g := rfl
@[simp] theorem pair_dropCmd (id : Nat) : (dropCmd id s).pair g k = s.pair g k := rfl
@[simp] theorem pair_send (o : Output) : (s.send o).pair g k = s.pair g k := rfl
@[simp] theorem pair_raise (ev : Nat) (i : EvIsland) (vs : List (Nat × Nat)) : (raise s ev i vs).pair g k = s.pair g k :=
  pair_of_port _ _ (by simp)
@[simp] theorem ten_raise (ev : Nat) (i : EvIsland) (vs : List (Nat × Nat)) : (raise s ev i vs).ten g = s.ten g :=
  ten_of_cache _ (by simp)

/-- A turn at the bus leaves what the pairs hold. -/
@[simp] theorem pair_takeTurn : (takeTurn fn qp s).pair g k = s.pair g k := by
  show (vmod s.port.fns fn _)[g.val].pairs[k.val] = _
  rw [vmod_getElem]
  split <;> rfl

@[simp] theorem bme_modPair (f : Pair → Pair) : ((s.modPair fn qp f).port.fns[g]).bme = (s.port.fns[g]).bme := by
  show (vmod s.port.fns fn _)[g.val].bme = _
  rw [vmod_getElem]
  split <;> rfl

@[simp] theorem bme_takeTurn : ((takeTurn fn qp s).port.fns[g]).bme = (s.port.fns[g]).bme := by
  show (vmod s.port.fns fn _)[g.val].bme = _
  rw [vmod_getElem]
  split <;> rfl

@[simp] theorem mrrs_takeTurn : ((takeTurn fn qp s).port.fns[g]).mrrs = (s.port.fns[g]).mrrs := by
  show (vmod s.port.fns fn _)[g.val].mrrs = _
  rw [vmod_getElem]
  split <;> rfl

/-! ### Completions -/

@[simp] theorem pair_complete (c : Cmd) (x : Completion) : (complete c x s).pair g k =
    if c.fn = g ∧ c.qp = k then { s.pair g k with waiting := (s.pair g k).waiting ++ [x] } else s.pair g k := by
  unfold complete
  simp

@[simp] theorem complete_cmds (c : Cmd) (x : Completion) : (complete c x s).port.cmds = s.port.cmds.filter (fun d => d.id != c.id) := rfl

/-- Commands of one pair that end leave its completions in their order, and nothing else of the pairs. -/
theorem endAll_pair (l : List Cmd) (st : Status) (of : ∀ c ∈ l, c.fn = fn ∧ c.qp = qp) :
    (l.foldl (fun u c => endCmd c st 0 u) s).pair g k = if fn = g ∧ qp = k then
      { s.pair g k with waiting := (s.pair g k).waiting ++ l.map (fun c => completion c st 0 0) } else s.pair g k := by
  induction l generalizing s with
  | nil => simp
  | cons c l ih =>
    obtain ⟨rfl, rfl⟩ := of c (by simp)
    rw [List.foldl_cons, ih _ fun d hd => of d (by simp [hd])]
    simp only [endCmd, pair_complete]
    split <;> simp

theorem endAll_cmds (l : List Cmd) (st : Status) : (l.foldl (fun u c => endCmd c st 0 u) s).port.cmds =
    s.port.cmds.filter (fun d => l.all fun c => d.id != c.id) := by
  induction l generalizing s with
  | nil => simp
  | cons c l ih =>
    rw [List.foldl_cons, ih, endCmd, complete_cmds, List.filter_filter]
    simp [Bool.and_comm]

theorem endAll_slots (l : List Cmd) (st : Status) : (l.foldl (fun u c => endCmd c st 0 u) s).cache.slots = s.cache.slots :=
  List.foldlRecOn (motive := fun t : State => t.cache.slots = s.cache.slots) l _ rfl fun _ h _ _ => h

end

/-! ### Thawing -/

/-- Slots that thaw keep their places, and their tenant is frozen no more. -/
theorem thawSlots_ten (n m : Fin 16) (s : State) : ((thawSlots n s).ten m).frozen = ((s.ten m).frozen && n != m) := by
  unfold thawSlots raiseTenant
  split
  · rename_i frozen
    rw [ten_raise]
    show ((s.modTen n _).ten m).frozen = _
    rw [ten_modTen]
    by_cases same : n = m
    · simp [same]
    · simp [same]
  · rename_i thawed
    by_cases same : n = m
    · subst same
      simpa using thawed
    · simp [same]

theorem thawSlots_keys (n : Fin 16) (s : State) : (thawSlots n s).cache.slots.map (·.1) = s.cache.slots.map (·.1) := by
  unfold thawSlots raiseTenant
  split
  · rw [(raise_frame ..).2.2.2.2.2.2.2.2.2.1]
    simp [mapVals, Function.comp_def]
  · rfl

/-- What a change of the host's attachment leaves of the slots and of who is frozen. -/
theorem hostChanged_cache (before s : State) :
    (hostChanged before s).cache = s.cache ∨ ∃ u n, u.cache = s.cache ∧ hostChanged before s = thawSlots n u := by
  unfold hostChanged
  dsimp only
  generalize attached : (if hostAttach before.port = 0 ∧ hostAttach (modesRefresh s).port = 1 then closeSessions (modesRefresh s)
    else modesRefresh s) = u
  have cache : u.cache = s.cache := by
    rw [← attached]
    split <;> simp
  split
  · exact .inr ⟨u, _, cache, rfl⟩
  · exact .inl cache

theorem hostChanged_thawed (before s : State) (m : Fin 16) (thawed : (s.ten m).frozen = false) :
    ((hostChanged before s).ten m).frozen = false := by
  rcases hostChanged_cache before s with cache | ⟨u, n, cache, thaws⟩
  · rw [ten_of_cache _ cache, thawed]
  · rw [thaws, thawSlots_ten, ten_of_cache _ cache, thawed]; rfl

theorem hostChanged_keys (before s : State) : (hostChanged before s).cache.slots.map (·.1) = s.cache.slots.map (·.1) := by
  rcases hostChanged_cache before s with cache | ⟨u, n, cache, thaws⟩
  · rw [cache]
  · rw [thaws, thawSlots_keys, cache]

end Sys2Proof.Machine
end

section
/-! Queue pairs and their doorbells (O33). -/

namespace Sys2Proof.Machine


/-- A pair whose registers pass the check starts empty. -/
theorem startPair_passes {s : State} {fn : Fin 16} {qp : Fin 4} (passes : enableError s fn qp (s.pair fn qp) = 0) :
    startPair fn qp s = s.modPair fn qp (fun p => { p with
      ready := true, fault := false, error := 0, sqHead := 0, sqTail := 0, cqHead := 0, cqTail := 0, phase := true
      unsignalled := 0 }) := if_pos passes

theorem startPair_fails {s : State} {fn : Fin 16} {qp : Fin 4} (fails : enableError s fn qp (s.pair fn qp) ≠ 0) :
    startPair fn qp s = stopPair fn qp (enableError s fn qp (s.pair fn qp)) s := if_neg fails

/-- A pair that stops is told, and no other one is touched. -/
theorem stopPair_told (fn : Fin 16) (qp : Fin 4) (code : Byte) (s : State) : Told (tenantEv fn.val 20) s (stopPair fn qp code s) :=
  (raise_told ..).of rfl rfl rfl

@[simp] theorem stopPair_pair (fn g : Fin 16) (qp k : Fin 4) (code : Byte) (s : State) : (stopPair fn qp code s).pair g k =
    if fn = g ∧ qp = k then { s.pair g k with fault := true, ready := false, error := code } else s.pair g k := by
  simp [stopPair, raiseTenant]

/-- The check of a pair looks at nothing that loading its registers changes. -/
theorem enableError_modPair (s : State) (fn : Fin 16) (qp : Fin 4) (f : Pair → Pair) (p : Pair) :
    enableError (s.modPair fn qp f) fn qp p = enableError s fn qp p := rfl

theorem execQueueEnable_starts {s : State} {fn : Fin 16} {qp : Fin 4} {regs : QueueRegs} (reached : fnReached s fn = true)
    (off : (s.pair fn qp).enable = false) : exec (.queueEnable fn qp regs) s =
      .next (hostChanged s (thawSlots fn (startPair fn qp (s.modPair fn qp (loadRegs regs))))) := by
  show execQueueEnable fn qp regs s = _
  unfold execQueueEnable
  simp [reached, off]

/-- A doorbell of an enabled pair is recorded or taken. -/
theorem doorbell_reached {s : State} {fn : Fin 16} {qp : Fin 4} {head : Bool} {v : BitVec 32} (reached : fnReached s fn = true)
    (on : (s.pair fn qp).enable = true) : doorbell fn qp head v s =
      if doorbellWaits s fn then s.modPair fn qp (fun p => { p with recorded := p.recorded ++ [(head, v)] })
      else takeDoorbell fn qp head v s := by
  unfold doorbell
  simp [reached, on]

theorem takeTail_inside {s : State} {fn : Fin 16} {qp : Fin 4} {v : BitVec 32} (on : (s.pair fn qp).enable = true)
    (good : (s.pair fn qp).fault = false) (inside : v.toNat < sqLen (s.pair fn qp))
    (room : ((s.pair fn qp).sqTail + sqLen (s.pair fn qp) - (s.pair fn qp).sqHead) % sqLen (s.pair fn qp) +
      (v.toNat + sqLen (s.pair fn qp) - (s.pair fn qp).sqTail) % sqLen (s.pair fn qp) < sqLen (s.pair fn qp)) :
    takeTail fn qp v s = s.modPair fn qp (fun p => { p with sqTail := v.toNat }) := by
  unfold takeTail
  simp only [on, good, Bool.true_eq_false, Bool.false_eq_true, or_self, if_false]
  exact if_neg (not_or.2 ⟨Nat.not_le.2 inside, Nat.not_le.2 room⟩)

theorem takeCqHead_inside {s : State} {fn : Fin 16} {qp : Fin 4} {v : BitVec 32} (on : (s.pair fn qp).enable = true)
    (inside : v.toNat < cqLen (s.pair fn qp))
    (posted : (v.toNat + cqLen (s.pair fn qp) - (s.pair fn qp).cqHead) % cqLen (s.pair fn qp) ≤
      ((s.pair fn qp).cqTail + cqLen (s.pair fn qp) - (s.pair fn qp).cqHead) % cqLen (s.pair fn qp)) :
    takeCqHead fn qp v s = s.modPair fn qp (fun p => { p with cqHead := v.toNat }) := by
  unfold takeCqHead
  simp only [on, Bool.true_eq_false, if_false]
  exact if_neg (not_or.2 ⟨Nat.not_le.2 inside, Nat.not_lt.2 posted⟩)

/-- A doorbell past its queue's end stops the pair. -/
theorem takeDoorbell_outside {s : State} {fn : Fin 16} {qp : Fin 4} {v : BitVec 32} (head : Bool) (on : (s.pair fn qp).enable = true)
    (good : (s.pair fn qp).fault = false) (outside : (if head then cqLen (s.pair fn qp) else sqLen (s.pair fn qp)) ≤ v.toNat) :
    takeDoorbell fn qp head v s = stopPair fn qp 1 s := by
  cases head with
  | true =>
    show takeCqHead fn qp v s = _
    unfold takeCqHead
    simp only [on, Bool.true_eq_false, if_false]
    exact if_pos (.inl outside)
  | false =>
    show takeTail fn qp v s = _
    unfold takeTail
    simp only [on, good, Bool.true_eq_false, Bool.false_eq_true, or_self, if_false]
    exact if_pos (.inl outside)

end Sys2Proof.Machine
end

section
open Sys2Proof Sys2Proof.Machine

/-- Settles O33: a pair starts or stops by its check, a disabled one ends what has not begun, and a doorbell is taken, recorded or
refused by its place in the queue. -/
theorem queuePairs : Obligations.QueuePairs := by
  unfold Obligations.QueuePairs
  refine ⟨?starts, ?fails, ?ctrl, ?disables, ?falls, ?stays, ?tail, ?head, ?outside, ?recorded, ?off⟩
  case starts =>
    intro fn qp regs s reached off passes
    have run := execQueueEnable_starts (regs := regs) reached off
    rw [startPair_passes (by rwa [pair_modPair_self, enableError_modPair])] at run
    have kept (u : State) (g : Fin 16) (k : Fin 4) : (hostChanged s (thawSlots fn u)).pair g k = u.pair g k := pair_of_port _ _ (by simp)
    refine ⟨_, run, ?_, ?_, ?_, by simp, by simp, by simp, by simp, by simp, by simp, by simp, by simp⟩
    · rw [kept, pair_modPair_self, pair_modPair_self]
    · exact hostChanged_thawed _ _ _ (by rw [thawSlots_ten]; simp)
    · intro g k other
      rw [kept, pair_modPair_ne _ _ _ _ _ _ other, pair_modPair_ne _ _ _ _ _ _ other]
  case fails =>
    intro fn qp regs s reached off fails
    have run := execQueueEnable_starts (regs := regs) reached off
    rw [startPair_fails (by rwa [pair_modPair_self, enableError_modPair]), pair_modPair_self, enableError_modPair] at run
    have kept (u : State) (g : Fin 16) (k : Fin 4) : (hostChanged s (thawSlots fn u)).pair g k = u.pair g k := pair_of_port _ _ (by simp)
    refine ⟨_, run, ?_, by simp [kept], by simp [kept], by simp [kept], ?_, by simp [stopPair, raiseTenant], by simp [stopPair, raiseTenant]⟩
    · have told (code : Byte) : Told (tenantEv fn.val 20) s (stopPair fn qp code (s.modPair fn qp (loadRegs regs))) :=
        (stopPair_told ..).of rfl rfl rfl
      exact (told _).grows (hostChanged_grows _ _ (thawSlots_grows _ _ (.refl _)))
    · intro g k other
      have ne : ¬(fn = g ∧ qp = k) := fun ⟨a, b⟩ => other (by rw [a, b])
      rw [kept, stopPair_pair, if_neg ne, pair_modPair, if_neg ne]
  case ctrl =>
    intro fn qp regs s reached on
    show execQueueEnable fn qp regs s = _
    unfold execQueueEnable
    simp only [reached, on, Bool.true_eq_false, if_false, if_true]
    rfl
  case disables =>
    intro fn qp s reached on
    have run : exec (.queueDisable fn qp) s = .next (hostChanged s ((s.port.cmds.filter (notBegun fn qp)).foldl
        (fun u c => endCmd c .aborted 0 u) (s.modPair fn qp (fun p => { p with enable := false, recorded := [] })))) := by
      show execQueueDisable fn qp s = _
      unfold execQueueDisable
      simp [reached, on]
    have kept (u : State) (g : Fin 16) (k : Fin 4) : (hostChanged s u).pair g k = u.pair g k := pair_of_port _ _ (by simp)
    have of : ∀ c ∈ s.port.cmds.filter (notBegun fn qp), c.fn = fn ∧ c.qp = qp := by
      intro c mem
      have begun := (List.mem_filter.1 mem).2
      simp only [notBegun, Bool.and_eq_true, beq_iff_eq] at begun
      exact begun.1
    refine ⟨_, run, ?_, ?_, ?_, ?_, ?_, ?_, by simp, by simp, by simp, by simp⟩
    · simp [kept, endAll_pair _ fn _ qp _ _ _ of]
    · simp [kept, endAll_pair _ fn _ qp _ _ _ of]
    · intro c mem
      rw [(hostChanged_frame ..).2.2.2.2.2.2.2.1, endAll_cmds] at mem
      obtain ⟨under, other⟩ := List.mem_filter.1 mem
      refine ⟨under, Bool.eq_false_iff.2 fun begun => ?_⟩
      have ne := List.all_eq_true.1 other c (List.mem_filter.2 ⟨under, begun⟩)
      simp at ne
    · simp [kept, endAll_pair _ fn _ qp _ _ _ of]
    · intro g k other
      have ne : ¬(fn = g ∧ qp = k) := fun ⟨a, b⟩ => other (by rw [a, b])
      rw [kept, endAll_pair _ fn _ qp _ _ _ of, if_neg ne, pair_modPair, if_neg ne]
    · rw [hostChanged_keys, endAll_slots]; rfl
  case falls =>
    intro fn qp s off none
    refine if_neg (not_or.2 ⟨by simp [off], fun some' => ?_⟩)
    obtain ⟨c, under, same⟩ := List.any_eq_true.1 some'
    simp only [Bool.and_eq_true, beq_iff_eq] at same
    exact (none c under).elim (fun h => h same.1) (fun h => h same.2)
  case stays =>
    intro fn qp c s under hfn hqp
    refine if_pos (.inr (List.any_eq_true.2 ⟨c, under, by simp [hfn, hqp]⟩))
  case tail =>
    intro fn qp v s reached on good takes inside room
    show Host.Outcome.next (doorbell fn qp false v s) = _
    rw [doorbell_reached reached on, takes, if_neg Bool.false_ne_true]
    exact congrArg _ (takeTail_inside on good inside room)
  case head =>
    intro fn qp v s reached on takes inside posted
    show Host.Outcome.next (doorbell fn qp true v s) = _
    rw [doorbell_reached reached on, takes, if_neg Bool.false_ne_true]
    exact congrArg _ (takeCqHead_inside on inside posted)
  case outside =>
    intro fn qp v s cmd reached on good takes which
    have stops : ∀ head, (if head then cqLen (s.pair fn qp) else sqLen (s.pair fn qp)) ≤ v.toNat →
        doorbell fn qp head v s = stopPair fn qp 1 s := fun head past => by
      rw [doorbell_reached reached on, takes, if_neg Bool.false_ne_true, takeDoorbell_outside head on good past]
    have run : exec cmd s = .next (stopPair fn qp 1 s) := by
      obtain ⟨rfl, past⟩ | ⟨rfl, past⟩ := which
      · exact congrArg Host.Outcome.next (stops false past)
      · exact congrArg Host.Outcome.next (stops true past)
    exact ⟨_, run, stopPair_told .., raise_eq _ _ _ _⟩
  case recorded =>
    intro fn qp v s b cmd which reached on waits
    have records : ∀ head, doorbell fn qp head v s = s.modPair fn qp (fun p => { p with recorded := p.recorded ++ [(head, v)] }) :=
      fun head => by rw [doorbell_reached reached on, waits, if_pos rfl]
    simp only [List.mem_cons, Prod.mk.injEq, List.not_mem_nil, or_false] at which
    obtain ⟨rfl, rfl⟩ | ⟨rfl, rfl⟩ := which
    · exact congrArg Host.Outcome.next (records false)
    · exact congrArg Host.Outcome.next (records true)
  case off =>
    intro fn qp v s cmd which off
    have stays : ∀ head, doorbell fn qp head v s = s := fun head => if_pos (.inr off)
    simp only [List.mem_cons, List.not_mem_nil, or_false] at which
    obtain rfl | rfl := which
    · exact congrArg Host.Outcome.next (stays false)
    · exact congrArg Host.Outcome.next (stays true)
end

section
/-! Fetching entries, posting completions and signalling them (O34). -/

namespace Sys2Proof.Machine


/-! ### Fetching -/

section
variable (s : State) (fn g : Fin 16) (qp k : Fin 4)

/-- A turn at the bus leaves what there is to fetch. -/
@[simp] theorem available_takeTurn : available (takeTurn fn qp s) g k = available s g k := by
  unfold available dmaOpen doorbellWaits
  rw [pair_takeTurn, bme_takeTurn]
  rfl

/-- A pair whose turn it is waits for one. -/
theorem nextTurn_waits {waits : Fin 16 → Fin 4 → Bool} (next : nextTurn s waits = some (g, k)) : waits g k = true := by
  obtain ⟨f, -, found⟩ := List.exists_of_findSome?_eq_some next
  obtain ⟨q, found, eq⟩ := Option.map_eq_some_iff.1 found
  obtain ⟨rfl, rfl⟩ := eq
  exact List.find?_some found

/-- The turns of a cycle are those of pairs that have something to fetch. -/
theorem fetchTurns_available (n : Nat) (l : List (Fin 16 × Fin 4)) (have' : ∀ x ∈ l, available s x.1 x.2 ≠ 0) :
    ∀ x ∈ fetchTurns s n l, available s x.1 x.2 ≠ 0 := by
  induction n generalizing s l with
  | zero => exact have'
  | succ n ih =>
    unfold fetchTurns
    split
    · exact have'
    · rename_i x next
      have waits := nextTurn_waits s x.1 x.2 next
      refine fun y mem => ?_
      rw [← available_takeTurn s x.1 y.1 x.2 y.2]
      refine ih (takeTurn x.1 x.2 s) _ (fun y mem => ?_) y mem
      rw [available_takeTurn]
      rcases List.mem_append.1 mem with old | new
      · exact have' y old
      · rw [List.mem_singleton.1 new]
        exact Nat.ne_of_gt (Nat.lt_of_le_of_lt (Nat.zero_le _) (of_decide_eq_true waits))

theorem fetchPlan_available {x : Fin 16 × Fin 4} (mem : x ∈ fetchPlan s) : available s x.1 x.2 ≠ 0 := by
  refine fetchTurns_available s 4 [] (by simp) x ?_
  unfold fetchPlan at mem
  simp only [List.mem_flatMap, List.mem_replicate] at mem
  obtain ⟨f, -, q, -, some', rfl⟩ := mem
  exact List.one_le_count_iff.1 (Nat.one_le_iff_ne_zero.2 some')

/-- The state in which a cycle's entries are fetched: each fetch has taken its turn. -/
def fetchCycle : State :=
  { (fetchTurns s 4 []).foldl (fun t x => takeTurn x.1 x.2 t) s with port := { ((fetchTurns s 4 []).foldl (fun t x => takeTurn x.1 x.2 t) s).port
      with cycleFrom := s.port.fetched } }

/-- What taking turns keeps. -/
structure Turned (s t : State) : Prop where
  frame : t = { s with port := t.port }
  pairs : ∀ g k, t.pair g k = s.pair g k
  room : ∀ g k, available t g k = available s g k
  reads : ∀ g : Fin 16, t.port.fns[g].mrrs = s.port.fns[g].mrrs
  cmds : t.port.cmds = s.port.cmds
  fetched : t.port.fetched = s.port.fetched

theorem fetchCycle_turned : Turned s (fetchCycle s) := by
  have turns (l : List (Fin 16 × Fin 4)) : Turned s (l.foldl (fun t x => takeTurn x.1 x.2 t) s) := by
    refine List.foldlRecOn l _ ⟨rfl, fun _ _ => rfl, fun _ _ => rfl, fun _ => rfl, rfl, rfl⟩ fun t h x _ => ?_
    obtain ⟨frame, pairs, room, reads, cmds, fetched⟩ := h
    refine ⟨?_, fun g k => by simp [pairs], fun g k => by simp [room], fun g => (mrrs_takeTurn ..).trans (reads g), cmds, fetched⟩
    rw [frame]; rfl
  obtain ⟨frame, pairs, room, reads, cmds, fetched⟩ := turns (fetchTurns s 4 [])
  exact ⟨by unfold fetchCycle; rw [frame], pairs, room, reads, cmds, fetched⟩

/-- A cycle fetches the entry of the first pair of its plan. -/
theorem execCommandFetch_first {s : State} {fn : Fin 16} {qp : Fin 4} {rest : List (Fin 16 × Fin 4)} {r : FetchResult}
    (fetches : s.port.fetchStopped = false) (plan : fetchPlan s = (fn, qp) :: rest) :
    exec (.commandFetch [r]) s = .next (fetchOne (fetchCycle s) ((fn, qp), r)) ∧ available (fetchCycle s) fn qp ≠ 0 := by
  refine ⟨?_, ?_⟩
  · show execCommandFetch [r] s = _
    unfold execCommandFetch
    rw [fetches, if_neg Bool.false_ne_true, plan]
    simp only [List.zip_cons_cons, List.zip_nil_right, List.foldl_cons, List.foldl_nil]
    rfl
  · rw [(fetchCycle_turned s).room]
    exact fetchPlan_available s (x := (fn, qp)) (by simp [plan])

@[simp] theorem fetchRead_pair : (fetchRead fn qp s).pair g k = s.pair g k := pair_of_port _ _ (by simp [fetchRead])

/-- A read that the host allows in one request. -/
theorem fetchRead_eq : ∃ l, fetchRead fn qp s = { s with out := s.out ++ l } ∧
    (64 ≤ s.port.fns[fn].mrrs → l = [.dmaRead fn ((s.pair fn qp).sqBase.toNat + 64 * (s.pair fn qp).sqHead) 64]) := by
  refine ⟨_, (sends_eq ..), fun wide => ?_⟩
  have one (m a : Nat) (wide : 64 ≤ m) : [(a, 64)].flatMap (pieces m) = [(a, 64)] := by
    simp [pieces, cutSpan, wide]
  rw [one _ _ wide]
  rfl

/-- The command that an entry is fetched as. -/
def fetchedCmd (w : BitVec 512) : Cmd :=
  { id := s.port.fetched, fn := fn, qp := qp, sqe := w, sqHead := ((s.pair fn qp).sqHead + 1) % sqLen (s.pair fn qp), stage := .fetched
    protect := false, charged := 0, slots := 0, fetches := [], elems := [] }

/-- The state with that command fetched. -/
def withFetched (w : BitVec 512) : State :=
  let t := (fetchRead fn qp s).modPair fn qp (fun p => { p with sqHead := (fetchedCmd s fn qp w).sqHead })
  { t with port := { t.port with fetched := t.port.fetched + 1, cmds := t.port.cmds ++ [fetchedCmd s fn qp w] } }

theorem fetchOne_failed (room : available s fn qp ≠ 0) : fetchOne s ((fn, qp), .failed) =
    raiseTenant fn 23 [] (stopPair fn qp 3 (fetchRead fn qp s)) := by
  unfold fetchOne
  exact if_neg room

theorem withFetched_pair (w : BitVec 512) : (withFetched s fn qp w).pair g k =
    if fn = g ∧ qp = k then { s.pair g k with sqHead := (fetchedCmd s fn qp w).sqHead } else s.pair g k := by
  show ((fetchRead fn qp s).modPair fn qp _).pair g k = _
  simp

theorem withFetched_cmds (w : BitVec 512) : (withFetched s fn qp w).port.cmds = s.port.cmds ++ [fetchedCmd s fn qp w] ∧
    (withFetched s fn qp w).port.fetched = s.port.fetched + 1 := by
  obtain ⟨l, read, -⟩ := fetchRead_eq s fn qp
  unfold withFetched
  rw [read]
  exact ⟨rfl, rfl⟩

theorem withFetched_frame (w : BitVec 512) : withFetched s fn qp w =
    { s with port := (withFetched s fn qp w).port, out := (fetchRead fn qp s).out } := by
  obtain ⟨l, read, -⟩ := fetchRead_eq s fn qp
  unfold withFetched
  rw [read]
  rfl

/-- What ending a command at once leaves. -/
theorem endCmd_of {u : State} {p : Port} {o : List Output} (c : Cmd) (st : Status) (h : u = { s with port := p, out := o }) :
    endCmd c st 0 u = { s with port := (endCmd c st 0 u).port, cache := (endCmd c st 0 u).cache, out := o } := by
  subst h; rfl

/-- An entry with an unknown opcode, fetched and ended. -/
def refusedEntry (w : BitVec 512) : State := endCmd (fetchedCmd s fn qp w) .invalidOpcode 0 (withFetched s fn qp w)

theorem fetchOne_entry {w : BitVec 512} (room : available s fn qp ≠ 0) : fetchOne s ((fn, qp), .entry w) =
    if (opOf w).isSome then withFetched s fn qp w else refusedEntry s fn qp w := by
  unfold fetchOne
  exact if_neg room

theorem refusedEntry_pair (w : BitVec 512) : (refusedEntry s fn qp w).pair g k = if fn = g ∧ qp = k then
    { s.pair g k with
      sqHead := (fetchedCmd s fn qp w).sqHead
      waiting := (s.pair g k).waiting ++ [completion (fetchedCmd s fn qp w) .invalidOpcode 0 0] } else s.pair g k := by
  rw [refusedEntry, endCmd, pair_complete, withFetched_pair]
  show (if fn = g ∧ qp = k then _ else _) = _
  split <;> rfl

theorem refusedEntry_cmds (w : BitVec 512) (ids : ∀ c ∈ s.port.cmds, c.id < s.port.fetched) :
    (refusedEntry s fn qp w).port.cmds = s.port.cmds := by
  rw [refusedEntry, endCmd, complete_cmds, (withFetched_cmds ..).1, List.filter_append]
  simp only [fetchedCmd, bne_self_eq_false, List.filter_cons, List.filter_nil, Bool.false_eq_true, if_false, List.append_nil]
  exact List.filter_eq_self.2 fun c mem => by simpa using Nat.ne_of_lt (ids c mem)

theorem refusedEntry_fetched (w : BitVec 512) : (refusedEntry s fn qp w).port.fetched = s.port.fetched + 1 :=
  (withFetched_cmds s fn qp w).2

theorem refusedEntry_frame (w : BitVec 512) : refusedEntry s fn qp w = { s with
    port := (refusedEntry s fn qp w).port, cache := (refusedEntry s fn qp w).cache, out := (fetchRead fn qp s).out } :=
  endCmd_of s _ _ (withFetched_frame s fn qp w)

theorem refusedEntry_slots (w : BitVec 512) : (refusedEntry s fn qp w).cache.slots = s.cache.slots :=
  (complete_slots ..).trans (congrArg (fun t : State => t.cache.slots) (withFetched_frame s fn qp w) :)

/-- A fetch that fails stops its pair. -/
theorem fetchFailed_frame {t : State} {l : List Output} (turned : t = { s with port := t.port })
    (read : fetchRead fn qp t = { t with out := t.out ++ l }) :
    let u := raiseTenant fn 23 [] (stopPair fn qp 3 (fetchRead fn qp t))
    u = withEvents { s with port := u.port } u ∧ Told (tenantEv fn.val 20) s u ∧ Logged (tenantEv fn.val 23) s u := by
  have base : fetchRead fn qp t = { s with port := t.port, out := s.out ++ l } := by
    rw [read, turned]
  dsimp only
  rw [base]
  refine ⟨?_, ?_, fun runs started enabled => (raise_told ..).logged ?_ ?_ ?_⟩
  · rw [raiseTenant, raise_eq, stopPair, raiseTenant, raise_eq]
    rfl
  · exact ((stopPair_told fn qp 3 { s with port := t.port, out := s.out ++ l }).of (s := s) rfl rfl rfl).grows
      (raise_grows _ _ _ _ (.refl _))
  · rw [controlRuns_of_isl (s := s) (by simp [stopPair, raiseTenant]), runs]
  · simp [stopPair, raiseTenant, started]
  · rw [evEnabled_of (s := s) (by simp [stopPair, raiseTenant]) (by simp [stopPair, raiseTenant]), enabled]

end

/-! ### Signalling -/

theorem signalPair_open {s : State} {fn : Fin 16} {qp : Fin 4} (on : (s.pair fn qp).irqEn = true) (some' : 0 < (s.pair fn qp).unsignalled)
    (master : s.port.fns[fn].bme = true) : signalPair fn qp s =
      (s.modPair fn qp (fun p => { p with unsignalled := 0 })).send (.msix fn (s.pair fn qp).vector.toNat) := by
  unfold signalPair
  simp only [on, some', and_self, if_true]
  exact if_pos ((bme_modPair ..).trans master)

theorem signalPair_off {s : State} {fn : Fin 16} {qp : Fin 4} (off : (s.pair fn qp).irqEn = false) : signalPair fn qp s = s := by
  unfold signalPair
  simp [off]

theorem postCompletion_posts {s : State} {fn : Fin 16} {qp : Fin 4} {x : Completion} {rest : List Completion}
    (waits : (s.pair fn qp).waiting = x :: rest) (room : cqFull (s.pair fn qp) = false) (open' : dmaOpen s fn = true) :
    postCompletion fn qp s = ((takeTurn fn qp s).modPair fn qp (fun p => { p with
        waiting := rest
        cqTail := (p.cqTail + 1) % cqLen p
        phase := if p.cqTail + 1 = cqLen p then !p.phase else p.phase
        unsignalled := if p.irqEn then p.unsignalled + 1 else p.unsignalled })).send
        (.dma fn ((s.pair fn qp).cqBase.toNat + 16 * (s.pair fn qp).cqTail) (completionBytes x qp (s.pair fn qp).phase)) := by
  unfold postCompletion
  simp only [waits]
  exact if_neg (by simp [room, open'])

theorem postCompletion_none {s : State} {fn : Fin 16} {qp : Fin 4} (h : (s.pair fn qp).waiting = [] ∨ cqFull (s.pair fn qp) = true) :
    postCompletion fn qp s = s := by
  unfold postCompletion
  rcases h with none | full
  · simp only [none]
  · dsimp only
    split
    · rfl
    · exact if_pos (.inl full)

/-- Where pairs change and something is sent, only the functions and what goes out differ, and whose turn it is. -/
def PortOnly (fn : Fin 16) (s t : State) : Prop := t = { s with port := { s.port with fns := t.port.fns, lastFn := fn }, out := t.out }

theorem PortOnly.takeTurn (s : State) (fn : Fin 16) (qp : Fin 4) : PortOnly fn s (takeTurn fn qp s) := rfl

theorem PortOnly.pairSend {s t : State} {fn : Fin 16} (h : PortOnly fn s t) (qp : Fin 4) (f : Pair → Pair) (o : Output) :
    PortOnly fn s ((t.modPair fn qp f).send o) := by
  unfold PortOnly at h ⊢
  generalize t.port.fns = fns at h
  generalize t.out = out at h
  subst h
  rfl

theorem out_send (s : State) (o : Output) : (s.send o).out = s.out ++ [o] := rfl

theorem master_of_dmaOpen {s : State} {fn : Fin 16} (open' : dmaOpen s fn = true) : s.port.fns[fn].bme = true := by
  simp only [dmaOpen, Bool.and_eq_true] at open'
  exact open'.2

/-- A completion is posted, and raises no vector while interrupts are off. -/
theorem execCompletionPost_silent {s : State} {fn : Fin 16} {qp : Fin 4}
    (off : ((postCompletion fn qp s).pair fn qp).irqEn = false) : exec (.completionPost fn qp) s = .next (postCompletion fn qp s) :=
  congrArg Host.Outcome.next (if_neg (by simp [off]))

/-- A completion that brings the count past its bound raises the vector. -/
theorem execCompletionPost_signals {s : State} {fn : Fin 16} {qp : Fin 4} (on : ((postCompletion fn qp s).pair fn qp).irqEn = true)
    (many : ((postCompletion fn qp s).pair fn qp).aggCount.toNat < ((postCompletion fn qp s).pair fn qp).unsignalled)
    (master : (postCompletion fn qp s).port.fns[fn].bme = true) : exec (.completionPost fn qp) s =
      .next (((postCompletion fn qp s).modPair fn qp (fun p => { p with unsignalled := 0 })).send
        (.msix fn ((postCompletion fn qp s).pair fn qp).vector.toNat)) :=
  congrArg Host.Outcome.next ((if_pos ⟨on, many⟩).trans (signalPair_open on (Nat.zero_lt_of_lt many) master))

end Sys2Proof.Machine
end

section
open Sys2Proof Sys2Proof.Machine

/-- Settles O34: the first pair of the plan is fetched, the oldest completion is posted in the phase of its pass, and a vector is
raised for what is not signalled. -/
theorem fetchAndPost : Obligations.FetchAndPost := by
  unfold Obligations.FetchAndPost
  refine ⟨?fetches, ?fails, ?stopped, ?posts, ?signals, ?nothing, ?timer⟩
  case fetches =>
    intro fn qp rest w s fetches plan ids head
    obtain ⟨run, room⟩ := execCommandFetch_first (r := .entry w) fetches plan
    obtain ⟨frame, pairs, -, reads, cmds, fetched⟩ := fetchCycle_turned s
    obtain ⟨l, read, one⟩ := fetchRead_eq (fetchCycle s) fn qp
    have out : (fetchRead fn qp (fetchCycle s)).out = s.out ++ l := by rw [read, frame]
    have one' : 64 ≤ s.port.fns[fn].mrrs → s.out ++ l = s.out ++ [.dmaRead fn ((s.pair fn qp).sqBase.toNat + 64 * (s.pair fn qp).sqHead) 64] := by
      intro wide
      rw [one (by rw [reads]; exact wide), pairs]
    have sqHead : (fetchedCmd (fetchCycle s) fn qp w).sqHead = head := by simp [fetchedCmd, pairs, head]
    obtain ⟨queued, counted⟩ := withFetched_cmds (fetchCycle s) fn qp w
    rw [cmds] at queued
    rw [fetched] at counted
    have kept := withFetched_frame (fetchCycle s) fn qp w
    have pair (g : Fin 16) (k : Fin 4) := withFetched_pair (fetchCycle s) fn g qp k w
    simp only [pairs, sqHead] at pair
    rw [fetchOne_entry _ _ _ room] at run
    rcases Bool.eq_false_or_eq_true (opOf w).isSome with known | unknown
    · rw [if_pos known] at run
      refine ⟨_, run, counted, by simp [pair], fun _ => ⟨_, queued, fetched, rfl, rfl, rfl, rfl, sqHead, by simp [pair]⟩,
        fun no => absurd known (by simp [no]), fun wide => ?_, ?_, ?_, ?_⟩
      · rw [kept, ← one' wide, ← out]
      · intro g k other
        rw [pair, if_neg fun ⟨a, b⟩ => other (by rw [a, b])]
      · rw [kept, frame]
      · rw [kept, frame]
    · rw [if_neg (by simp [unknown])] at run
      have pair (g : Fin 16) (k : Fin 4) := refusedEntry_pair (fetchCycle s) fn g qp k w
      have kept := refusedEntry_frame (fetchCycle s) fn qp w
      simp only [pairs, sqHead] at pair
      refine ⟨_, run, (refusedEntry_fetched ..).trans (by rw [fetched]), by simp [pair], fun yes => absurd yes (by simp [unknown]),
        fun _ => ⟨?_, completion (fetchedCmd (fetchCycle s) fn qp w) .invalidOpcode 0 0, by simp [pair], rfl⟩, fun wide => ?_, ?_, ?_, ?_⟩
      · rw [refusedEntry_cmds _ _ _ _ (by rw [cmds, fetched]; exact ids), cmds]
      · rw [kept, ← one' wide, ← out]
      · intro g k other
        rw [pair, if_neg fun ⟨a, b⟩ => other (by rw [a, b])]
      · rw [kept, frame]
      · rw [refusedEntry_slots, frame]
  case fails =>
    intro fn qp rest s fetches plan
    obtain ⟨run, room⟩ := execCommandFetch_first (r := .failed) fetches plan
    obtain ⟨frame, pairs, -, reads, cmds, fetched⟩ := fetchCycle_turned s
    obtain ⟨l, read, -⟩ := fetchRead_eq (fetchCycle s) fn qp
    rw [fetchOne_failed _ _ _ room] at run
    obtain ⟨kept, told, logged⟩ := fetchFailed_frame s fn qp frame read
    refine ⟨_, run, told, logged, by simp [raiseTenant, pairs], ?_, ?_, kept⟩
    · intro g k other
      have ne : ¬(fn = g ∧ qp = k) := fun ⟨a, b⟩ => other (by rw [a, b])
      simp [raiseTenant, ne, pairs]
    · simp [raiseTenant, stopPair, read, cmds]
  case stopped =>
    intro rs s stopped
    exact if_pos stopped
  case posts =>
    intro fn qp x rest s waits room open' off
    have posted := postCompletion_posts waits room open'
    have run := execCompletionPost_silent (s := s) (fn := fn) (qp := qp) (by simp [posted, off])
    rw [posted] at run
    refine ⟨_, run, by simp [out_send], ?_, ?_, (PortOnly.takeTurn s fn qp).pairSend ..⟩
    · rw [pair_send, pair_modPair_self, pair_takeTurn]
      simp only [off, Bool.false_eq_true, if_false]
      congr 1
      by_cases wraps : (s.pair fn qp).cqTail + 1 = cqLen (s.pair fn qp) <;> simp [wraps]
    · intro g k other
      rw [pair_send, pair_modPair_ne _ _ _ _ _ _ other, pair_takeTurn]
  case signals =>
    intro fn qp x rest s waits room open' on many
    have posted := postCompletion_posts waits room open'
    have master : (postCompletion fn qp s).port.fns[fn].bme = true := by
      rw [posted]
      exact ((bme_modPair ..).trans (bme_takeTurn ..)).trans (master_of_dmaOpen open')
    have run := execCompletionPost_signals (by simp [posted, on]) (by simpa [posted, on] using Nat.lt_succ_of_le many) master
    rw [posted] at run
    refine ⟨_, run, by simp [out_send], by simp, by simp, ?_, (((PortOnly.takeTurn s fn qp).pairSend ..).pairSend ..)⟩
    intro g k other
    rw [pair_send, pair_modPair_ne _ _ _ _ _ _ other, pair_send, pair_modPair_ne _ _ _ _ _ _ other, pair_takeTurn]
  case nothing =>
    intro fn qp s none off
    show execCompletionPost fn qp s = _
    unfold execCompletionPost
    rw [postCompletion_none none]
    simp [off]
  case timer =>
    intro fn qp s open' timed on some'
    refine ⟨_, (congrArg Host.Outcome.next (if_pos ⟨open', timed⟩)).trans (by rw [signalPair_open on some' (master_of_dmaOpen open')]), rfl, rfl⟩
end

section
/-! Passes over every item of a vector. -/

namespace Sys2Proof.Machine


/-! ### Passes over every item -/

section
variable {σ ρ : Type} {n : Nat} {f : σ → Fin n → σ} {s : σ}

theorem foldl_inv {α : Type} {f : σ → α → σ} {inv : σ → Prop} (l : List α) (start : inv s) (keeps : ∀ t a, inv t → inv (f t a)) :
    inv (l.foldl f s) := List.foldlRecOn l f start fun t h a _ => keeps t a h

theorem forAll_inv {inv : σ → Prop} (start : inv s) (keeps : ∀ t a, inv t → inv (f t a)) : inv (forAll n f s) :=
  foldl_inv _ start keeps

/-- A pass that changes one item at each of its steps does to every item what the item's step does. -/
theorem forAll_item (read : σ → Fin n → ρ) (done : Fin n → ρ → ρ → Prop) {inv : σ → Prop} (start : inv s)
    (keeps : ∀ t a, inv t → inv (f t a)) (other : ∀ t a b, b ≠ a → read (f t a) b = read t b)
    (step : ∀ t a, inv t → done a (read t a) (read (f t a) a)) (a : Fin n) : done a (read s a) (read (forAll n f s) a) := by
  have unread : ∀ (l : List (Fin n)) (t : σ), a ∉ l → read (l.foldl f t) a = read t a := by
    intro l
    induction l with
    | nil => exact fun _ _ => rfl
    | cons b l ih =>
      intro t mem
      simp only [List.mem_cons, not_or] at mem
      rw [List.foldl_cons, ih _ mem.2, other _ _ _ mem.1]
  have visit : ∀ (l : List (Fin n)) (t : σ), inv t → l.Nodup → a ∈ l → done a (read t a) (read (l.foldl f t) a) := by
    intro l
    induction l with
    | nil => exact fun _ _ _ mem => absurd mem (by simp)
    | cons b l ih =>
      intro t ht nodup mem
      obtain ⟨fresh, nodup⟩ := List.nodup_cons.1 nodup
      by_cases same : a = b
      · subst same
        rw [List.foldl_cons, unread _ _ fresh]
        exact step t a ht
      · have rest := ih (f t b) (keeps t b ht) nodup ((List.mem_cons.1 mem).resolve_left same)
        rw [other _ _ _ same] at rest
        exact rest
  exact visit (List.finRange n) s start (List.nodup_finRange n) (List.mem_finRange a)

/-- The same for a pass whose step is a function of the item. -/
theorem forAll_read (read : σ → Fin n → ρ) (g : Fin n → ρ → ρ) (other : ∀ t a b, b ≠ a → read (f t a) b = read t b)
    (step : ∀ t a, read (f t a) a = g a (read t a)) (a : Fin n) : read (forAll n f s) a = g a (read s a) :=
  forAll_item read (fun a x y => y = g a x) (inv := fun _ => True) trivial (fun _ _ _ => trivial) other (fun t a _ => step t a) a

end

end Sys2Proof.Machine
end

section
/-! Data windows: what they read after a change, and what closing them leaves. -/

namespace Sys2Proof.Machine


/-! ### Windows -/

/-- A window. -/
def windowOf (s : State) (w : Fin 7) : Win := s.win[w]

@[simp] theorem windowOf_modWin (s : State) (v w : Fin 7) (f : Win → Win) : windowOf (s.modWin v f) w = if v = w then f (windowOf s w) else windowOf s w := by
  show (vmod s.win v f)[w.val] = _
  rw [vmod_getElem]
  simp only [Fin.val_inj]
  rfl

@[simp] theorem windowOf_raiseIf (b : Bool) (s : State) (ev : Nat) (i : EvIsland) (vs : List (Nat × Nat)) (w : Fin 7) :
    windowOf (raiseIf b s ev i vs) w = windowOf s w := by simp [windowOf]

/-- A window that closes has no owner, and the others stay as they are. -/
theorem closeWindow_windowOf (v w : Fin 7) (abandoned : Bool) (s : State) : windowOf (closeWindow v abandoned s) w =
    if v = w ∧ (windowOf s w).owner.isSome then { windowOf s w with owner := none, status := 0, buf := [], writing := false } else windowOf s w := by
  by_cases open' : (windowOf s v).owner.isSome
  · have closes : closeWindow v abandoned s = raiseIf abandoned (s.modWin v (fun x =>
        { x with owner := none, status := 0, buf := [], writing := false })) 20 .control [] := if_pos open'
    rw [closes, windowOf_raiseIf, windowOf_modWin]
    by_cases same : v = w
    · subst same; simp [open']
    · simp [same]
  · have stays : closeWindow v abandoned s = s := if_neg open'
    rw [stays, if_neg]
    rintro ⟨rfl, h⟩
    exact open' h

/-- Every window that is named has no owner, and the others stay as they are. -/
theorem closeWindows_windowOf (p : Win → Bool) (abandoned : Bool) (s : State) (w : Fin 7) : windowOf (closeWindows p abandoned s) w =
    if p (windowOf s w) ∧ (windowOf s w).owner.isSome then { windowOf s w with owner := none, status := 0, buf := [], writing := false }
    else windowOf s w := by
  refine forAll_read windowOf (fun _ x => if p x ∧ x.owner.isSome then { x with owner := none, status := 0, buf := [], writing := false } else x)
    (fun t a b other => ?_) (fun t a => ?_) w
  · split
    · rw [closeWindow_windowOf, if_neg (fun h => other h.1.symm)]
    · rfl
  · by_cases named : p (windowOf t a)
    · refine (congrArg (windowOf · a) (if_pos named)).trans ?_
      rw [closeWindow_windowOf]
      simp [named]
    · refine (congrArg (windowOf · a) (if_neg named)).trans ?_
      simp [named]

end Sys2Proof.Machine
end

section
/-! NMT commands and CAN FD messages (O31). -/

namespace Sys2Proof.Machine


theorem toNmt_for {node : Fin 128} {n : Nmt} {s : State} (named : nmtFor node s = true) :
    toNmt node n s = { s with can := { s.can with nmt := n } } := if_pos named

theorem toNmt_other {node : Fin 128} {n : Nmt} {s : State} (other : nmtFor node s = false) : toNmt node n s = s :=
  if_neg (by simp [other])

theorem closeExpert_expert (s : State) : (closeExpert s).mode.expert = none := by
  unfold closeExpert
  split
  · assumption
  · simp

/-- The stored values that are taken over leave the entries that they do not name. -/
theorem applySaved_other (saved : SMap Nat) (p : Nat → Bool) (s : State) (k : Nat) (out : p k = false) :
    mapFind (applySaved saved p s).dict.values k = mapFind s.dict.values k := by
  have set : ∀ (l : List (Nat × Nat)) (m : SMap Nat), (∀ q ∈ l, p q.1 = true) →
      mapFind (l.foldl (fun m q => mapSet m q.1 q.2) m) k = mapFind m k := by
    intro l
    induction l with
    | nil => exact fun _ _ => rfl
    | cons q l ih =>
      intro m named
      rw [List.foldl_cons, ih _ fun r hr => named r (List.mem_cons_of_mem _ hr), mapFind_mapSet, if_neg]
      rintro rfl
      simp [named q (by simp)] at out
  refine (set _ _ fun q mem => (List.mem_filter.1 mem).2).trans ?_
  have kept := mapFind_filter s.dict.values (fun k => !(isStored k && p k)) k
  rw [kept]
  simp [out]

/-- A session on CAN FD. -/
def onCan : Option Session → Bool
  | some (.usdo _) => true
  | _ => false

/-- What a reset of the node leaves: CAN FD started with the stored configuration, and no session of it. -/
theorem nmtReset_result (s : State) :
    let id := valueIn (savedNow s.nor) 0x2003 1
    let t := nmtReset s
    t.can.nmt = .preOperational ∧ t.can.node = id ∧ t.can.busy = [] ∧ t.can.errorSeen = false ∧ (∃ o, t.out = o ++ [.can (0x700 + id) [0]]) ∧
    (∀ k, 0x2000 ≤ k / 256 → mapFind t.dict.values k = mapFind s.dict.values k) ∧ t.isl = s.isl ∧ t.keep = s.keep ∧
    (∀ w, onCan (windowOf t w).owner = false) ∧ onCan t.mode.expert = false := by
  dsimp only
  unfold nmtReset
  dsimp only
  generalize closed : (if (match s.mode.expert with | some (.usdo _) => true | _ => false) = true then closeExpert s else s) = u
  have same : u = if onCan s.mode.expert then closeExpert s else s := by
    rw [← closed]
    rcases s.mode.expert with _ | (_ | _) <;> rfl
  have kept : u.nor = s.nor ∧ u.dict = s.dict ∧ u.isl = s.isl ∧ u.keep = s.keep := by
    rw [same]
    split <;> simp
  obtain ⟨nor, dict, isl, keep⟩ := kept
  generalize windows : closeWindows (fun w => match w.owner with | some (.usdo _) => true | _ => false) true u = v
  have same' : v = closeWindows (fun w => onCan w.owner) true u := by
    rw [← windows]
    exact congrArg (fun p => closeWindows p true u) (funext fun w => by rcases w.owner with _ | (_ | _) <;> rfl)
  have kept : v.nor = s.nor ∧ v.dict = s.dict ∧ v.isl = s.isl ∧ v.keep = s.keep ∧ v.mode = u.mode := by
    simp [same', nor, dict, isl, keep]
  obtain ⟨nor, dict, isl, keep, mode⟩ := kept
  refine ⟨rfl, by simp [canStart, State.send, nor], rfl, rfl, ⟨_, by simp [canStart, State.send, nor]; rfl⟩, fun k high => ?_, isl, keep,
    fun w => ?_, ?_⟩
  · exact (applySaved_other _ (fun k => decide (k / 256 < 0x2000)) v k (decide_eq_false (Nat.not_lt.2 high))).trans (by rw [dict])
  · show onCan (windowOf v w).owner = false
    rw [same', closeWindows_windowOf]
    split
    · rfl
    · rename_i other
      rcases hu : (windowOf u w).owner with _ | p
      · rfl
      · exact Bool.eq_false_iff.2 fun h => other ⟨by rw [hu]; exact h, by rw [hu]; rfl⟩
  · show onCan v.mode.expert = false
    rw [mode, same]
    split
    · rw [closeExpert_expert]; rfl
    · rename_i other
      exact Bool.eq_false_iff.2 other

end Sys2Proof.Machine
end

section
open Sys2Proof Sys2Proof.Machine

/-- Settles O31: a command that names the node is followed, a reset starts CAN FD with the stored configuration, and what is due is
sent. -/
theorem canCommands : Obligations.CanCommands := by
  unfold Obligations.CanCommands
  refine ⟨?states, ?resets, ?others, ?heartbeat, ?tpdo, ?noTpdo, ?emcy, ?error⟩
  case states =>
    intro node s cmd n which named
    simp only [List.mem_cons, Prod.mk.injEq, List.not_mem_nil, or_false] at which
    obtain ⟨rfl, rfl⟩ | ⟨rfl, rfl⟩ | ⟨rfl, rfl⟩ := which
    all_goals exact congrArg Host.Outcome.next (toNmt_for named)
  case resets =>
    intro node s cmd which named id
    have run : exec cmd s = .next (nmtReset s) := by
      simp only [List.mem_cons, List.not_mem_nil, or_false] at which
      obtain rfl | rfl := which
      all_goals exact congrArg Host.Outcome.next (if_pos named)
    obtain ⟨nmt, node', busy, error, out, values, isl, keep, windows, mode⟩ := nmtReset_result s
    obtain ⟨time, life, -, -, -, cache, -, -, -, -, -, -, rails, -, -, -, -, -⟩ := nmtReset_frame s
    refine ⟨_, run, nmt, node', busy, error, out, values, fun w c owns => ?_, fun c holds => ?_, isl, life, time, cache, rails, keep⟩
    · have none := windows w
      rw [show (windowOf (nmtReset s) w).owner = some (.usdo c) from owns] at none
      exact absurd (show true = false from none) (by decide)
    · rw [holds] at mode
      exact absurd (show true = false from mode) (by decide)
  case others =>
    intro node s cmd which other
    have none : ¬nmtFor node s = true := by simp [other]
    simp only [List.mem_cons, List.not_mem_nil, or_false] at which
    obtain rfl | rfl | rfl | rfl | rfl := which
    · exact congrArg Host.Outcome.next (toNmt_other other)
    · exact congrArg Host.Outcome.next (toNmt_other other)
    · exact congrArg Host.Outcome.next (toNmt_other other)
    · exact congrArg Host.Outcome.next (if_neg none)
    · exact congrArg Host.Outcome.next (if_neg none)
  case heartbeat =>
    intro s up on
    exact if_neg (by simp [up, on])
  case tpdo =>
    intro k s up operational fitted due
    refine ⟨_, if_neg (by simp [up, operational, fitted, due]), rfl, ?_, ?_, rfl⟩
    · simp [State.send, vset]
    · intro j other
      exact Vector.getElem_set_ne k.isLt j.isLt fun h => other (Fin.ext h.symm)
  case noTpdo =>
    intro k s not
    refine if_pos ?_
    rcases not with h | h | h
    · exact .inl h
    · exact .inr (.inl h)
    · exact .inr (.inr (.inl h))
  case emcy =>
    intro m rest s queue up runs valid
    show execEmcyTransmit s = _
    unfold execEmcyTransmit
    simp only [queue]
    exact if_neg (by simp [up, runs, valid])
  case error =>
    intro e s up
    exact congrArg Host.Outcome.next (if_pos up)
end

section
/-! Islands that restart, and what waited for them (O14). -/

namespace Sys2Proof.Machine


/-! ### Islands -/

section
variable (s : State) (i j : Island)

theorem Island.idx_injective : Function.Injective Island.idx := by
  intro a b
  cases a <;> cases b <;> decide

theorem island_setIsland (r : IslandRun) : (s.setIsland i r).island j = if i = j then r else s.island j := by
  show (vset s.isl.run i.idx r)[j.idx.val] = _
  unfold vset
  by_cases same : i = j
  · subst same
    simp
  · rw [if_neg same]
    exact Vector.getElem_set_ne _ _ fun h => same (Island.idx_injective (Fin.ext h))

theorem island_startIsland : (s.startIsland i).island j = if i = j then .running else s.island j := island_setIsland s i j .running

theorem startIsland_undelivered (q : Nat × Nat) : q ∈ (s.startIsland i).isl.undelivered ↔
    q ∈ s.isl.undelivered ∧ s.ownerOf (q.1 / 256) (q.1 % 256) ≠ i := by
  show q ∈ s.isl.undelivered.filter (fun p => !s.waitsFor i p) ↔ _
  simp [List.mem_filter, State.waitsFor]

theorem mapFind_foldl_mapSet {l : List (Nat × Nat)} {m : SMap Nat} {k : Nat}
    (set : (∃ q ∈ l, q.1 = k) ∨ (mapFind m k).isSome) : (mapFind (l.foldl (fun m p => mapSet m p.1 p.2) m) k).isSome = true := by
  induction l generalizing m with
  | nil => simpa using set
  | cons q l ih =>
    rw [List.foldl_cons]
    refine ih ?_
    rw [mapFind_mapSet]
    rcases set with ⟨r, mem, same⟩ | old
    · rcases List.mem_cons.1 mem with rfl | mem
      · exact .inr (by rw [if_pos same.symm]; rfl)
      · exact .inl ⟨r, mem, same⟩
    · by_cases same : k = q.1
      · exact .inr (by rw [if_pos same]; rfl)
      · exact .inr (by rw [if_neg same]; exact old)

theorem startIsland_handed {q : Nat × Nat} (mem : q ∈ s.isl.undelivered) (owned : s.ownerOf (q.1 / 256) (q.1 % 256) = i) :
    (mapFind (s.startIsland i).isl.handed q.1).isSome = true :=
  mapFind_foldl_mapSet (l := s.isl.undelivered.filter (s.waitsFor i)) (.inl ⟨q, by simp [List.mem_filter, State.waitsFor, mem, owned], rfl⟩)

/-- Where nothing waited for the island nothing is handed over. -/
theorem startIsland_idle (none : ∀ q ∈ s.isl.undelivered, s.ownerOf (q.1 / 256) (q.1 % 256) ≠ i) :
    (s.startIsland i).isl.handed = s.isl.handed := by
  have empty : s.isl.undelivered.filter (s.waitsFor i) = [] :=
    List.filter_eq_nil_iff.2 fun q mem => by simpa [State.waitsFor] using none q mem
  show (s.isl.undelivered.filter (s.waitsFor i)).foldl (fun m p => mapSet m p.1 p.2) s.isl.handed = _
  rw [empty]
  rfl

/-- What a restart of an island does to a stream and its encoder that it serves. -/
def restartStream (s : State) (i : Island) (t : State) (n : Fin 16) : State :=
  if servedBy s i n then restartEncoder n (t.modStream n (fun x => { x with cur := none })) else t

/-- The state that a restarted island leaves before what waited for it is handed over. -/
def islandRestarted : State := forAll 16 (restartStream s i) (s.startIsland i)

theorem restartEncoder_video (n : Fin 16) (t : State) : restartEncoder n t = { t with video := (restartEncoder n t).video } := by
  unfold restartEncoder
  split <;> rfl

theorem restartEncoder_cur (n m : Fin 16) (t : State) : (strOf (restartEncoder n t) m).cur = (strOf t m).cur := by
  unfold restartEncoder dueIdr dropStarted
  split
  · rw [strOf_modEnc, strOf_modEnc, strOf_modStream]
    split <;> rfl
  · rfl

theorem restartStream_video (t : State) (n : Fin 16) : restartStream s i t n = { t with video := (restartStream s i t n).video } := by
  unfold restartStream
  split
  · rw [restartEncoder_video]; rfl
  · rfl

theorem islandRestarted_frame : islandRestarted s i = { s with isl := (s.startIsland i).isl, video := (islandRestarted s i).video } := by
  refine forAll_inv (inv := fun t : State => t = { s with isl := (s.startIsland i).isl, video := t.video }) rfl fun t n h => ?_
  rw [restartStream_video, h]

theorem islandRestarted_cur {n : Fin 16} (served : servedBy s i n = true) : (strOf (islandRestarted s i) n).cur = none := by
  have item := forAll_item (f := restartStream s i) (s := s.startIsland i) (fun t n => (strOf t n).cur)
    (fun n _ y => servedBy s i n = true → y = none) (inv := fun _ => True) trivial (fun _ _ _ => trivial) (fun t a b other => ?_)
    (fun t a _ served => ?_) n
  · exact item served
  · unfold restartStream
    split
    · rw [restartEncoder_cur, strOf_modStream, if_neg (Ne.symm other)]
    · rfl
  · rw [restartStream, if_pos served, restartEncoder_cur, strOf_modStream, if_pos rfl]

end

/-- Without a value that waits nothing is handed over. -/
theorem handshakes_idle {s : State} (handed : s.isl.handed = []) (waiting : s.isl.waiting = []) : handshakes s = s :=
  if_pos (by simp [handed, waiting])

end Sys2Proof.Machine
end

section
open Sys2Proof Sys2Proof.Machine

/-- Settles O14: a restarted island runs with what waited for it handed over, or is stopped where the state does not let it run; the
clock fails over to the RC oscillator, and the conservative bounds end. -/
theorem islandsAndClock : Obligations.IslandsAndClock := by
  unfold Obligations.IslandsAndClock
  refine ⟨?restarts, ?stops, ?crystal, ?precision⟩
  case restarts =>
    intro i s video fault mark
    have run : exec (.islandRestart i) s = .next (handshakes (islandRestarted s i)) := by
      refine (if_neg ?_).trans (if_neg (by simp [mark]))
      simp only [List.mem_cons, List.not_mem_nil, or_false] at video
      obtain rfl | rfl | rfl | rfl | rfl | rfl := video <;> simp [byBoot, fault]
    have frame := islandRestarted_frame s i
    have isl : (islandRestarted s i).isl = (s.startIsland i).isl := (congrArg State.isl frame :)
    have island (j : Island) : (islandRestarted s i).island j = if i = j then .running else s.island j := by
      rw [← island_startIsland]
      unfold State.island
      rw [isl]
    refine ⟨_, run, by simp [island], fun j other => by simp [island, Ne.symm other], fun q => ?_, fun q mem owned => ?_,
      fun n served => islandRestarted_cur s i served, ?_, fun none handed waiting => ?_⟩
    · rw [isl]
      exact startIsland_undelivered s i q
    · rw [isl]
      exact startIsland_handed s i mem owned
    · rw [isl]; exact frame
    · exact handshakes_idle (by rw [isl, startIsland_idle s i none, handed]) (by rw [isl]; exact waiting)
  case stops =>
    intro i s video fault mark
    refine (if_neg ?_).trans (if_pos mark)
    simp only [List.mem_cons, List.not_mem_nil, or_false] at video
    obtain rfl | rfl | rfl | rfl | rfl | rfl := video <;> simp [byBoot, fault]
  case crystal =>
    intro s supervised crystal
    exact ⟨_, if_neg (by simp [supervised, crystal]), (raise_told ..).of rfl rfl rfl, raise_eq ..⟩
  case precision =>
    intro s runs conservative calibrated samples
    have ok (c : Channel) : (!(s.chan c).fitted || decide (1000 ≤ (s.est c).samples)) = true := by
      rcases Bool.eq_false_or_eq_true (s.chan c).fitted with fitted | not
      · simp [fitted, samples c fitted]
      · simp [not]
    exact ⟨_, congrArg Host.Outcome.next (if_pos ⟨runs, conservative, calibrated, ok .pack, ok .bank⟩), (raise_told ..).of rfl rfl rfl,
      raise_eq ..⟩
end

section
/-! The end of a data window commit (O12). -/

namespace Sys2Proof.Machine


/-! ### The end of a commit -/

section
variable {s t : State} {w : Fin 7}

/-- What the end of a commit leaves: its event, its window closed with its result, and nothing else. -/
theorem endCommit_result (ok : Bool) (kept : t.win = s.win) :
    windowOf (endCommit w ok t) w = { windowOf s w with status := if ok then 4 else 5, owner := none, buf := [], writing := false } ∧
    (∀ v, v ≠ w → windowOf (endCommit w ok t) v = windowOf s v) ∧
    endCommit w ok t = withEvents { t with win := (endCommit w ok t).win } (endCommit w ok t) := by
  have read (v : Fin 7) : windowOf (endCommit w ok t) v = if w = v then
      { windowOf s v with status := if ok then 4 else 5, owner := none, buf := [], writing := false } else windowOf s v := by
    have same : windowOf t v = windowOf s v := by unfold windowOf; rw [kept]
    have raised : windowOf (endCommit w ok t) v = windowOf (t.modWin w (fun x =>
      { x with status := if ok then 4 else 5, owner := none, buf := [], writing := false })) v := by simp [endCommit, windowOf]
    rw [raised, windowOf_modWin, same]
  refine ⟨by simp [read], fun v other => by rw [read, if_neg (Ne.symm other)], ?_⟩
  have win : (endCommit w ok t).win = (t.modWin w (fun x =>
    { x with status := if ok then 4 else 5, owner := none, buf := [], writing := false })).win := by simp [endCommit]
  rw [win]
  unfold endCommit
  rw [raise_eq]
  rfl

theorem endCommit_told (ok : Bool) (isl : t.isl = s.isl) (dict : t.dict = s.dict) (ev : t.ev = s.ev) :
    Told (if ok then 18 else 19) s (endCommit w ok t) :=
  (raise_told (t.modWin w _) (if ok then 18 else 19) .control []).of isl dict ev

/-- A commit of a window that is not committing does nothing; the others end by what they were. -/
theorem finishCommit_firmware (r : CommitEnd) (busy : (windowOf s 0).status = 3) : finishCommit 0 r s = endCommit 0 (r == .written)
    (match r with | .written => storeFirmware (windowOf s 0).buf s | .rejected => s | .failed => spoilFirmware s) := by
  unfold finishCommit
  exact (if_neg (not_not.2 busy)).trans (if_pos rfl)

/-- An overlay bitmap that fits its layer is the layer's next one. -/
def layerGood (s : State) (x : Win) : Bool := layerOk x.buf (x.target % 4) (s.sc (Fin.ofNat 16 (x.target / 4)) 0x4000 2)
  (s.sc (Fin.ofNat 16 (x.target / 4)) 0x4000 3)

theorem finishCommit_layer (r : CommitEnd) (busy : (windowOf s 2).status = 3) : finishCommit 2 r s =
    endCommit 2 (layerGood s (windowOf s 2))
      (if layerGood s (windowOf s 2) then storeLayer (windowOf s 2).target (windowOf s 2).buf s else s) := by
  unfold finishCommit
  exact (if_neg (not_not.2 busy)).trans ((if_neg (by decide)).trans (if_pos rfl))

theorem finishCommit_table (r : CommitEnd) (busy : (windowOf s w).status = 3) (notFirmware : w ≠ 0) (notLayer : w ≠ 2) :
    finishCommit w r s = endCommit w (tableOk s (windowOf s w).target (windowOf s w).buf)
      (if tableOk s (windowOf s w).target (windowOf s w).buf then stageTable (windowOf s w).target (windowOf s w).buf s else s) := by
  unfold finishCommit
  exact (if_neg (not_not.2 busy)).trans ((if_neg notFirmware).trans (if_neg notLayer))

/-- A table that is staged waits; the profile in force stays. -/
theorem stageTable_est (target : Nat) (b : List Byte) (s : State) :
    ((stageTable target b s).est (tableChannel target)).pendingProfile.isSome = true ∧
    ((stageTable target b s).est (tableChannel target)).profile = (s.est (tableChannel target)).profile := by
  unfold stageTable
  dsimp only
  cases tableChannel target <;> exact ⟨rfl, rfl⟩

/-- A whole image goes to the slot that is not active, and its trial is pending. -/
theorem storeFirmware_slots (image : List Byte) (s : State) :
    (if s.life.activeB then (storeFirmware image s).nor.slotA else (storeFirmware image s).nor.slotB) = ⟨image, true⟩ ∧
    (if s.life.activeB then (storeFirmware image s).nor.slotB = s.nor.slotB else (storeFirmware image s).nor.slotA = s.nor.slotA) ∧
    storeFirmware image s = { s with
      nor := { s.nor with slotA := (storeFirmware image s).nor.slotA, slotB := (storeFirmware image s).nor.slotB }
      life := { s.life with trialState := 1, trialUsed := 0 }, keep := { s.keep with pending := true } } := by
  unfold storeFirmware keepPend
  dsimp only
  cases s.life.activeB <;> exact ⟨rfl, rfl, rfl⟩

/-- A write that broke off leaves no whole image in that slot, and no trial. -/
theorem spoilFirmware_slots (s : State) :
    (if s.life.activeB then (spoilFirmware s).nor.slotA.whole = false ∧ (spoilFirmware s).nor.slotB = s.nor.slotB
      else (spoilFirmware s).nor.slotB.whole = false ∧ (spoilFirmware s).nor.slotA = s.nor.slotA) ∧
    spoilFirmware s = { s with
      nor := { s.nor with slotA := (spoilFirmware s).nor.slotA, slotB := (spoilFirmware s).nor.slotB }
      life := { s.life with trialState := 0, trialUsed := 0 }, keep := { s.keep with pending := true } } := by
  unfold spoilFirmware keepPend
  dsimp only
  cases s.life.activeB <;> exact ⟨⟨rfl, rfl⟩, rfl⟩

/-- A commit of an object that is not good changes nothing but its window. -/
theorem finishCommit_bad (r : CommitEnd) (busy : (windowOf s w).status = 3) (firmware : w = 0 → r = .rejected)
    (layer : w = 2 → layerGood s (windowOf s w) = false)
    (table : w ≠ 0 → w ≠ 2 → tableOk s (windowOf s w).target (windowOf s w).buf = false) : finishCommit w r s = endCommit w false s := by
  by_cases zero : w = 0
  · subst zero
    rw [finishCommit_firmware r busy, firmware rfl]
    rfl
  · by_cases two : w = 2
    · subst two
      rw [finishCommit_layer r busy, layer rfl]
      rfl
    · rw [finishCommit_table r busy zero two, table zero two]
      rfl

end

end Sys2Proof.Machine
end

section
open Sys2Proof Sys2Proof.Machine

/-- Settles O12: a commit ends by what its window was for, with its event and its result. -/
theorem windowCommitEnds : Obligations.WindowCommitEnds := by
  unfold Obligations.WindowCommitEnds
  refine ⟨?firmware, ?layer, ?table, ?fails⟩
  case firmware =>
    intro s busy
    have run : exec (.windowCommitComplete 0 .written) s = .next (endCommit 0 true (storeFirmware (windowOf s 0).buf s)) :=
      congrArg Host.Outcome.next (finishCommit_firmware .written busy)
    obtain ⟨closed, others, frame⟩ := endCommit_result (s := s) (w := 0) (t := storeFirmware (windowOf s 0).buf s) true rfl
    obtain ⟨stored, kept, store⟩ := storeFirmware_slots (windowOf s 0).buf s
    have nor : (endCommit 0 true (storeFirmware (windowOf s 0).buf s)).nor = (storeFirmware (windowOf s 0).buf s).nor := by
      rw [frame]; rfl
    refine ⟨_, run, endCommit_told true rfl rfl rfl, congrArg Win.status closed, congrArg Win.owner closed, ?_, ?_, ?_, ?_,
      others, ?_⟩
    · rw [frame]; rfl
    · rw [frame]; rfl
    · rw [nor]; exact stored
    · rw [nor]; exact kept
    · rw [nor, frame, store]; rfl
  case layer =>
    intro s r busy x good
    have run : exec (.windowCommitComplete 2 r) s = .next (endCommit 2 true (storeLayer x.target x.buf s)) := by
      refine congrArg Host.Outcome.next ((finishCommit_layer r busy).trans ?_)
      have good' : layerGood s (windowOf s 2) = true := good
      rw [good', if_pos rfl]
      rfl
    obtain ⟨closed, others, frame⟩ := endCommit_result (s := s) (w := 2) (t := storeLayer x.target x.buf s) true rfl
    refine ⟨_, run, endCommit_told true rfl rfl rfl, congrArg Win.status closed, congrArg Win.owner closed, ?_, others, ?_, ?_, ?_, ?_⟩
    · have video : (endCommit 2 true (storeLayer x.target x.buf s)).video = (storeLayer x.target x.buf s).video := by rw [frame]; rfl
      have stream : strOf (endCommit 2 true (storeLayer x.target x.buf s)) (Fin.ofNat 16 (x.target / 4)) =
          strOf (storeLayer x.target x.buf s) (Fin.ofNat 16 (x.target / 4)) := by unfold strOf; rw [video]
      rw [stream, storeLayer, strOf_modStream, if_pos rfl]
      simp [vmod]
    all_goals rw [frame]; rfl
  case table =>
    intro s r busy good
    have run : exec (.windowCommitComplete 3 r) s = .next (endCommit 3 true (stageTable (windowOf s 3).target (windowOf s 3).buf s)) := by
      refine congrArg Host.Outcome.next ((finishCommit_table r busy (by decide) (by decide)).trans ?_)
      have good' : tableOk s (windowOf s 3).target (windowOf s 3).buf = true := good
      rw [good', if_pos rfl]
    obtain ⟨closed, others, frame⟩ := endCommit_result (s := s) (w := 3) (t := stageTable (windowOf s 3).target (windowOf s 3).buf s) true
      (by simp)
    have est (c : Channel) : (endCommit 3 true (stageTable (windowOf s 3).target (windowOf s 3).buf s)).est c =
        (stageTable (windowOf s 3).target (windowOf s 3).buf s).est c := by rw [frame]; rfl
    obtain ⟨waits, kept⟩ := stageTable_est (windowOf s 3).target (windowOf s 3).buf s
    refine ⟨_, run, endCommit_told true (by simp) (by simp) (by simp), congrArg Win.status closed, ?_, ?_,
      others, ?_, ?_, ?_, ?_⟩
    · exact (congrArg (fun e : Est => e.pendingProfile.isSome) (est _)).trans waits
    · exact (congrArg Est.profile (est _)).trans kept
    all_goals simp [endCommit]
  case fails =>
    intro s w r busy firmware layer table
    by_cases broke : w = 0 ∧ r = .failed
    · obtain ⟨rfl, rfl⟩ := broke
      have run : exec (.windowCommitComplete 0 .failed) s = .next (endCommit 0 false (spoilFirmware s)) :=
        congrArg Host.Outcome.next (finishCommit_firmware .failed busy)
      obtain ⟨closed, others, frame⟩ := endCommit_result (s := s) (w := 0) (t := spoilFirmware s) false rfl
      obtain ⟨spoiled, spoil⟩ := spoilFirmware_slots s
      have nor : (endCommit 0 false (spoilFirmware s)).nor = (spoilFirmware s).nor := by rw [frame]; rfl
      refine ⟨_, run, endCommit_told false rfl rfl rfl, congrArg Win.status closed, congrArg Win.owner closed, others,
        fun h => absurd h (by simp), fun _ _ => ⟨?_, ?_⟩⟩
      · rw [nor]; exact spoiled
      · rw [nor, frame, spoil]; rfl
    · have rejected : w = 0 → r = .rejected := by
        intro zero
        cases r
        · exact absurd rfl (firmware zero)
        · rfl
        · exact absurd ⟨zero, rfl⟩ broke
      have run : exec (.windowCommitComplete w r) s = .next (endCommit w false s) :=
        congrArg Host.Outcome.next (finishCommit_bad r busy rejected layer table)
      obtain ⟨closed, others, frame⟩ := endCommit_result (s := s) (w := w) (t := s) false rfl
      exact ⟨_, run, endCommit_told false rfl rfl rfl, congrArg Win.status closed, congrArg Win.owner closed, others, fun _ => frame,
        fun zero failed => absurd ⟨zero, failed⟩ broke⟩
end

section
/-! Entering HALT, latching a fault, and a change of the rails that is told. -/

namespace Sys2Proof.Machine


/-- What a vector reads after one of its items is set. -/
theorem vset_get {α : Type} {n : Nat} (v : Vector α n) (i j : Fin n) (a : α) : (vset v i a)[j] = if i = j then a else v[j] := by
  show (v.set i.val a i.isLt)[j.val] = _
  by_cases same : i = j
  · subst same; simp
  · rw [if_neg same]
    exact Vector.getElem_set_ne i.isLt j.isLt fun h => same (Fin.ext h)

/-- An item other than the one that is set. -/
theorem vset_get_ne {α : Type} {n : Nat} (v : Vector α n) {i j : Fin n} (a : α) (other : j ≠ i) : (vset v i a)[j] = v[j] := by
  rw [vset_get, if_neg (Ne.symm other)]

theorem vset_get_self {α : Type} {n : Nat} (v : Vector α n) (i : Fin n) (a : α) : (vset v i a)[i] = a := by
  rw [vset_get, if_pos rfl]

/-- A change of the rails that is told. -/
theorem railsRaised (s : State) (r : Rails) (ev : Nat) (i : EvIsland) (vs : List (Nat × Nat)) :
    Told ev s (raise { s with rails := r } ev i vs) ∧ (raise { s with rails := r } ev i vs).rails = r ∧
    raise { s with rails := r } ev i vs = withEvents { s with rails := r } (raise { s with rails := r } ev i vs) :=
  ⟨(raise_told ..).of rfl rfl rfl, by simp, raise_eq ..⟩

/-! ### Entering HALT -/

section
variable (cause : Nat) (control sticky : Bool) (s : State)

/-- HALT is entered with its cause, by SUPERVISOR alone or with CONTROL. -/
theorem enterHalt_life : (enterHalt cause control sticky s).life.dev = .halt ∧ (enterHalt cause control sticky s).life.haltCause = cause ∧
    (enterHalt cause control sticky s).life.supervisorHalt = !control := by
  unfold enterHalt
  dsimp only
  split <;> split <;> simp

/-- A HALT that leaves the rails as they are writes its cause into the record of the fault that stands. -/
theorem enterHalt_rails (stays : cause ≠ 1 ∧ cause ≠ 3) : (enterHalt cause control sticky s).rails = { s.rails with
    fault := if s.rails.fault.kind ≠ 0 ∧ s.rails.fault.haltCause = 0 then { s.rails.fault with haltCause := cause } else s.rails.fault } := by
  unfold enterHalt
  dsimp only
  rw [if_neg (fun h => h.1.elim stays.1 stays.2)]
  split <;> simp

theorem enterHalt_lifeEnd : (enterHalt cause control sticky s).keep.lifeEnd = 3 := by
  have keeps (t : State) : (keepWriteEnd 3 t).keep.lifeEnd = 3 := by
    unfold keepWriteEnd keepWrite keepWriteSnap keepPut
    dsimp only
    split <;> rfl
  unfold enterHalt
  dsimp only
  split
  · simp [keeps]
  · exact keeps _

end

/-- The first fault is latched; a later one is counted. -/
theorem latchFault_rails (kind rail switch position reading lag : Nat) (s : State) :
    (latchFault kind rail switch position reading lag s).rails.latched = true ∧
    (s.rails.fault.kind = 0 → (latchFault kind rail switch position reading lag s).rails.fault.kind = kind ∧
      (latchFault kind rail switch position reading lag s).rails.fault.haltCause = 0) ∧
    (latchFault kind rail switch position reading lag s).rails = { s.rails with
      fault := (latchFault kind rail switch position reading lag s).rails.fault, latched := true } := by
  unfold latchFault
  dsimp only
  refine ⟨by simp, fun first => ?_, by simp⟩
  simp [first]

end Sys2Proof.Machine
end

section
/-! Own supplies, reset outputs and trim outputs (O22). -/

open Sys2Proof Sys2Proof.Machine

/-- Settles O22: the next own supply is enabled, a supply that fails leads to HALT with its enable released, and a stretch and a slew
that have ended leave their output where it was to go. -/
theorem suppliesResetsAndTrims : Obligations.SuppliesResetsAndTrims := by
  unfold Obligations.SuppliesResetsAndTrims
  refine ⟨?good, ?fails, ?release, ?trim⟩
  case good =>
    intro s up
    refine ⟨_, if_neg (by simp [up]), rfl, fun k => ?_, rfl⟩
    by_cases more : s.rails.pos + 1 < 4
    · dsimp only
      rw [if_pos more, vset_get]
      have next : (Fin.ofNat 4 (s.rails.pos + 1)).val = s.rails.pos + 1 := Nat.mod_eq_of_lt more
      by_cases same : k.val = s.rails.pos + 1
      · rw [if_pos (Fin.ext (next.trans same.symm)), decide_eq_true same, Bool.or_true]
      · rw [if_neg (fun h => same (by rw [← h, next])), decide_eq_false same, Bool.or_false]
    · have ne : k.val ≠ s.rails.pos + 1 := fun h => more (h ▸ k.isLt)
      dsimp only
      rw [if_neg more, decide_eq_false ne, Bool.or_false]
  case fails =>
    intro s up
    have pos : s.rails.pos < 4 := by
      simp only [supplyUp, Bool.and_eq_true, decide_eq_true_eq] at up
      exact up.1.2
    have at' : (Fin.ofNat 4 s.rails.pos).val = s.rails.pos := Nat.mod_eq_of_lt pos
    refine ⟨_, if_neg (by simp [up]), ?_⟩
    generalize raised : raise (latchFault 3 0xFF _ 0 0 0 _) _ _ _ = u
    have rails : u.rails = (latchFault 3 0xFF (2 * 16 + (Fin.ofNat 4 s.rails.pos).val) 0 0 0
      { s with rails.en := vset s.rails.en (Fin.ofNat 4 s.rails.pos) false }).rails := by rw [← raised]; simp
    obtain ⟨latched, first, rest⟩ := latchFault_rails 3 0xFF (2 * 16 + (Fin.ofNat 4 s.rails.pos).val) 0 0 0
      { s with rails.en := vset s.rails.en (Fin.ofNat 4 s.rails.pos) false }
    rw [← rails] at latched first rest
    obtain ⟨dev, halt, supervisor⟩ := enterHalt_life 2 (Fin.ofNat 4 s.rails.pos == 3) false u
    have halted := enterHalt_rails 2 (Fin.ofNat 4 s.rails.pos == 3) false u (by decide)
    refine ⟨dev, halt, ?_, fun k hk => ?_, fun k hk => ?_, ?_, fun none => ?_, enterHalt_lifeEnd ..⟩
    · rw [supervisor]
      refine Bool.eq_iff_iff.2 ?_
      simp only [Bool.not_eq_true', beq_eq_false_iff_ne, ne_eq, decide_eq_true_eq]
      exact not_congr ⟨fun h => at' ▸ congrArg Fin.val h, fun h => Fin.ext (at'.trans h)⟩
    · rw [halted, rest]
      exact (vset_get ..).trans (if_pos (Fin.ext (at'.trans hk.symm)))
    · rw [halted, rest]
      exact (vset_get ..).trans (if_neg fun h => hk (by rw [← h, at']))
    · rw [halted]; exact latched
    · obtain ⟨kind, cause⟩ := first none
      rw [halted]
      simp [kind, cause]
  case release =>
    intro k s stretching
    obtain ⟨told, rails, frame⟩ := railsRaised s { s.rails with rst := vset s.rails.rst k .released } (336 + k.val) .supervisor []
    have rst := congrArg Rails.rst rails
    refine ⟨_, if_neg (by simp [stretching]), told, ?_, fun j other => ?_, ?_⟩
    · rw [rst]; exact vset_get_self ..
    · rw [rst]; exact vset_get_ne _ _ other
    · rw [rst]; exact frame
  case trim =>
    intro k s slewing reached
    obtain ⟨told, rails, frame⟩ := railsRaised s
      { s.rails with trim := vset s.rails.trim k { s.rails.trim[k] with present := s.rails.trim[k].target, slewing := false } }
      (332 + k.val) .supervisor []
    have trim := congrArg Rails.trim rails
    have ends : ¬(s.rails.trim[k].slewing = false ∨ trimCode s k ≠ s.rails.trim[k].target) :=
      fun h => h.elim (fun no => absurd (slewing.symm.trans no) (by decide)) (fun no => no reached)
    refine ⟨_, if_neg ends, told, ?_, ?_, fun j other => ?_, ?_⟩
    · rw [trim, vset_get_self]
    · rw [trim, vset_get_self]
    · rw [trim]; exact vset_get_ne _ _ other
    · rw [trim]; exact frame
end

section
/-! Channels, their chargers and their inhibits. -/

namespace Sys2Proof.Machine


/-! ### Channels -/

section
variable (s : State) (c d : Channel)

@[simp] theorem chan_setChan (x : Chan) : (s.setChan c x).chan d = if c = d then x else s.chan d := by
  cases c <;> cases d <;> rfl
@[simp] theorem est_setEst (x : Est) : (s.setEst c x).est d = if c = d then x else s.est d := by
  cases c <;> cases d <;> rfl
@[simp] theorem chan_setEst (x : Est) : (s.setEst c x).chan d = s.chan d := by
  cases c <;> cases d <;> rfl
@[simp] theorem est_setChan (x : Chan) : (s.setChan c x).est d = s.est d := by
  cases c <;> cases d <;> rfl

theorem chan_congr {s t : State} (pack : t.pack = s.pack) (bank : t.bank = s.bank) : t.chan d = s.chan d := by
  cases d
  · exact pack
  · exact bank
theorem est_congr {s t : State} (pack : t.packEst = s.packEst) (bank : t.bankEst = s.bankEst) : t.est d = s.est d := by
  cases d
  · exact pack
  · exact bank

@[simp] theorem chan_raise (ev : Nat) (i : EvIsland) (vs : List (Nat × Nat)) : (raise s ev i vs).chan d = s.chan d :=
  chan_congr d (by simp) (by simp)
@[simp] theorem chan_raiseIf (b : Bool) (ev : Nat) (i : EvIsland) (vs : List (Nat × Nat)) : (raiseIf b s ev i vs).chan d = s.chan d :=
  chan_congr d (by simp) (by simp)
@[simp] theorem est_raise (ev : Nat) (i : EvIsland) (vs : List (Nat × Nat)) : (raise s ev i vs).est d = s.est d :=
  est_congr d (by simp) (by simp)
@[simp] theorem est_raiseIf (b : Bool) (ev : Nat) (i : EvIsland) (vs : List (Nat × Nat)) : (raiseIf b s ev i vs).est d = s.est d :=
  est_congr d (by simp) (by simp)

theorem Channel.other_ne : c.other ≠ c := by cases c <;> decide

/-! ### The charger follows its inhibits -/

theorem driveCharge_chan : ((driveCharge s c).chan d).inhibit = (s.chan d).inhibit ∧ ((driveCharge s c).chan d).enable = (s.chan d).enable ∧
    (d ≠ c → (driveCharge s c).chan d = s.chan d) := by
  unfold driveCharge
  by_cases same : c = d
  · subst same; simp
  · simp [same]

theorem retarget_chan : ((retarget s c).chan d).inhibit = (s.chan d).inhibit ∧ ((retarget s c).chan d).enable = (s.chan d).enable ∧
    (d ≠ c → (retarget s c).chan d = s.chan d) := by
  unfold retarget
  dsimp only
  split
  · exact ⟨rfl, rfl, fun _ => rfl⟩
  · by_cases same : c = d
    · subst same; simp
    · simp [same]

theorem startCharge_chan : ((startCharge s c).chan d).inhibit = (s.chan d).inhibit ∧ ((startCharge s c).chan c).enable = true ∧
    (d ≠ c → (startCharge s c).chan d = s.chan d) := by
  unfold startCharge
  by_cases same : c = d
  · subst same; simp
  · simp [same]

/-- The channel whose charger is looked at again: its inhibits, and enabled just where there is none; the other one stays. -/
theorem chargeRefresh_chan : ((chargeRefresh s c).chan c).inhibit = inhibits s c ∧
    ((chargeRefresh s c).chan c).enable = decide (inhibits s c = 0) ∧ (d ≠ c → (chargeRefresh s c).chan d = s.chan d) := by
  have driven (u : State) (on : (u.chan c).enable = true) : ((driveCharge u c).chan c).enable = true :=
    (driveCharge_chan u c c).2.1.trans on
  generalize raised : raiseIf ((inhibits s c &&& ~~~(s.chan c).inhibit &&& 0x5F#8) != 0) (s.setChan c { s.chan c with
    inhibit := inhibits s c, full := (inhibits s c).getLsbD 7 }) (chanEv c 134) .supervisor [] = u
  have inhibit : (u.chan c).inhibit = inhibits s c := by simp [← raised]
  have other (ne : d ≠ c) : u.chan d = s.chan d := by simp [← raised, Ne.symm ne]
  have refreshed : chargeRefresh s c = if inhibits s c = 0 then
      if (u.chan c).enable then driveCharge (retarget u c) c else driveCharge (startCharge u c) c
    else if (u.chan c).enable then holdCharge u c else u.setChan c { u.chan c with phase := heldPhase u c } := by
    rw [← raised]; rfl
  rw [refreshed]
  by_cases free : inhibits s c = 0
  · rw [if_pos free, decide_eq_true free]
    split
    · rename_i on
      exact ⟨((driveCharge_chan ..).1.trans (retarget_chan ..).1).trans inhibit, driven _ ((retarget_chan ..).2.1.trans on),
        fun ne => (((driveCharge_chan _ c d).2.2 ne).trans ((retarget_chan _ c d).2.2 ne)).trans (other ne)⟩
    · exact ⟨((driveCharge_chan ..).1.trans (startCharge_chan ..).1).trans inhibit, driven _ (startCharge_chan u c d).2.1,
        fun ne => (((driveCharge_chan _ c d).2.2 ne).trans ((startCharge_chan _ c d).2.2 ne)).trans (other ne)⟩
  · rw [if_neg free, decide_eq_false free]
    split
    · exact ⟨by simp [holdCharge, inhibit], by simp [holdCharge], fun ne => by simp [holdCharge, Ne.symm ne, other ne]⟩
    · rename_i off
      exact ⟨by simp [inhibit], by simpa using off, fun ne => by simp [Ne.symm ne, other ne]⟩

/-- A charger that assists is inhibited by bit 4. -/
theorem inhibits_assist : (inhibits s c).getLsbD 4 = (s.hold.assist == some c) := by
  unfold inhibits
  generalize (!chargeState s.life) = b0
  generalize s.hold.sag = b1
  generalize ((s.chan c).zone == .below || (s.chan c).zone == .above) = b2
  generalize (chanFaulted s c || !(s.chan c).fitted || !chanConfigured s c) = b3
  generalize (s.hold.assist == some c) = b4
  generalize (c == .pack && s.cfg 0x2570 1 == 0 && s.bank.fitted && (s.bank.phase == .precharge || s.bank.phase == .constCurrent)) = b5
  generalize (c == .bank && cellsOver s) = b6
  generalize atEndOfCharge s c = b7
  revert b0 b1 b2 b3 b4 b5 b6 b7
  decide

end

/-! ### Assist -/

theorem setSource_assist (c : Channel) (closed : Bool) (s : State) : (setSource c closed s).hold.assist = s.hold.assist := by
  unfold setSource
  cases c <;> (dsimp only; split <;> rfl)

theorem startAssist_assist (c : Channel) (s : State) : (startAssist c s).hold.assist = some c := by
  unfold startAssist holdRefresh
  simp [setSource_assist]

theorem modesRefresh_hold (s : State) : ∃ b, (modesRefresh s).hold = { s.hold with gateMissing := b } := by
  have hold : (modesRefresh s).hold = (gateMissingRefresh (activityRefresh (fitRefresh s))).hold := by
    unfold modesRefresh outageEffRefresh modeFallback modeChanged
    dsimp only
    split
    · rfl
    · split <;> simp
  have same : (activityRefresh (fitRefresh s)).hold = s.hold := by simp
  rw [hold, ← same]
  exact ⟨_, by unfold gateMissingRefresh; simp; rfl⟩

end Sys2Proof.Machine
end

section
/-! Geyser cycles and the writes of the keep store (O19). -/

namespace Sys2Proof.Machine


/-- The next sequence is newer than the one it follows, and not older. -/
theorem seqNewer_next (x : BitVec 32) : seqNewer (x + 1#32) x = true ∧ seqNewer x (x + 1#32) = false := by
  refine ⟨decide_eq_true ?_, decide_eq_false ?_⟩
  · rw [show x + 1#32 - x = 1#32 from by bv_omega]
    decide
  · rw [show x - (x + 1#32) = 4294967295#32 from by bv_omega]
    decide

/-- A copy in use is a valid one. -/
theorem valid_of_useA {k : Keep} (use : useA k = true) : k.copyA.valid = true := by
  unfold useA at use
  split at use
  · rename_i both
    exact (Bool.and_eq_true_iff.1 both).1
  · exact use

/-- A write of the keep store takes the copy that is not in use, which is then in use with the next sequence. -/
theorem keepPut_result (k : Keep) (b : KeepRec) : keepBody (keepPut k b) = b ∧ keepNextSeq (keepPut k b) = keepNextSeq k + 1 ∧
    (if useA k then (keepPut k b).copyA = k.copyA else (keepPut k b).copyB = k.copyB) := by
  by_cases use : useA k = true
  · have put : keepPut k b = { k with copyB := ⟨true, keepNextSeq k, b⟩ } := if_pos use
    have next : keepNextSeq k = k.copyA.seq + 1 := by unfold keepNextSeq keepNewest; simp [use]
    have newest : keepNewest (keepPut k b) = some ⟨true, keepNextSeq k, b⟩ := by
      have older : useA (keepPut k b) = false := by
        rw [put]
        unfold useA
        simp [valid_of_useA use, next, (seqNewer_next _).2]
      unfold keepNewest
      rw [older, put]
      simp
    exact ⟨by unfold keepBody; rw [newest], by unfold keepNextSeq; rw [newest]; rfl, by rw [if_pos use, put]⟩
  · have put : keepPut k b = { k with copyA := ⟨true, keepNextSeq k, b⟩ } := if_neg use
    have newest : keepNewest (keepPut k b) = some ⟨true, keepNextSeq k, b⟩ := by
      have newer : useA (keepPut k b) = true := by
        rw [put]
        unfold useA
        rcases Bool.eq_false_or_eq_true k.copyB.valid with valid | void
        · have next : keepNextSeq k = k.copyB.seq + 1 := by unfold keepNextSeq keepNewest; simp [use, valid]
          simp [valid, next, (seqNewer_next _).1]
        · simp [void]
      unfold keepNewest
      rw [newer, put]
      simp
    exact ⟨by unfold keepBody; rw [newest], by unfold keepNextSeq; rw [newest]; rfl, by rw [if_neg use, put]⟩

/-- A cycle that begins discharges into the assist. -/
theorem geyserBegin_result (c : Channel) (s : State) : ((geyserBegin c s).est c).geyser = .discharging ∧
    (geyserBegin c s).hold.assist = some c ∧ ((geyserBegin c s).chan c).inhibit.getLsbD 4 = true ∧
    (geyserBegin c s).est c.other = s.est c.other ∧ (geyserBegin c s).chan c.other = s.chan c.other := by
  generalize begun : startAssist c (s.setEst c { s.est c with geyser := .discharging }) = u
  have begins : geyserBegin c s = raise (chargeRefresh u c) (chanEv c 148) .control [(1, chanCode c)] := by rw [← begun]; rfl
  have assist : u.hold.assist = some c := by rw [← begun, startAssist_assist]
  have est (d : Channel) : u.est d = (s.setEst c { s.est c with geyser := .discharging }).est d := est_congr d (by simp [← begun]) (by simp [← begun])
  have chan (d : Channel) : u.chan d = s.chan d := chan_congr d (by simp [← begun]) (by simp [← begun])
  have refreshed (d : Channel) : (chargeRefresh u c).est d = u.est d := est_congr d (by simp) (by simp)
  obtain ⟨inhibit, -, other⟩ := chargeRefresh_chan u c c.other
  rw [begins]
  refine ⟨by simp [refreshed, est], by simp [assist], ?_, ?_, ?_⟩
  · rw [chan_raise, inhibit, inhibits_assist, assist]
    simp
  · rw [est_raise, refreshed, est, est_setEst, if_neg (Ne.symm (Channel.other_ne c))]
  · rw [chan_raise, other (Channel.other_ne c), chan]

end Sys2Proof.Machine
end

section
open Sys2Proof Sys2Proof.Machine

/-- Settles O19: a cycle whose time has come is due, a due one that may start discharges into the assist, and a write of the keep store
takes the copy that is not in use. -/
theorem geyserCyclesAndKeepStore : Obligations.GeyserCyclesAndKeepStore := by
  unfold Obligations.GeyserCyclesAndKeepStore
  refine ⟨?due, ?starts, ?hourly, ?write⟩
  case due =>
    intro c s serves idle due
    exact congrArg Host.Outcome.next (if_pos ⟨serves, idle, due⟩)
  case starts =>
    intro c s due may first
    have run : exec (.geyserStart c) s = .next (modesRefresh (geyserBegin c s)) :=
      congrArg Host.Outcome.next (if_pos ⟨due, may, first⟩)
    obtain ⟨geyser, assist, inhibit, est, chan⟩ := geyserBegin_result c s
    obtain ⟨b, hold⟩ := modesRefresh_hold (geyserBegin c s)
    have est' (d : Channel) : (modesRefresh (geyserBegin c s)).est d = (geyserBegin c s).est d := est_congr d (by simp) (by simp)
    have chan' (d : Channel) : (modesRefresh (geyserBegin c s)).chan d = (geyserBegin c s).chan d := chan_congr d (by simp) (by simp)
    refine ⟨_, run, by rw [est', geyser], by rw [hold, assist], by rw [chan', inhibit], by rw [est', est], by rw [chan', chan], by simp, by simp,
      by simp, by simp, by simp, by simp, by simp, by simp⟩
  case hourly =>
    intro s supervised control
    obtain ⟨body, seq, kept⟩ := keepPut_result s.keep (keepRecord s (hourSnap s .pack) (hourSnap s .bank))
    exact ⟨_, if_neg (by simp [supervised, control]), body, seq, kept, rfl⟩
  case write =>
    intro s supervised pending spaced
    obtain ⟨body, seq, kept⟩ := keepPut_result s.keep (keepRecord s none none)
    have run : exec .keepStoreWrite s = .next { keepWrite s with keep.lastWrite := some s.time.now } := by
      refine if_neg ?_
      simp only [supervised, pending, Bool.true_eq_false, false_or]
      split
      · rename_i e last
        simpa using spaced e last
      · simp
    exact ⟨_, run, body, rfl, rfl, seq, kept, rfl⟩
end

section
/-! Rails and gates: what they read after a change, and what the steps of the walks leave of them. -/

namespace Sys2Proof.Machine


/-! ### Rails and gates -/

theorem vmap_get {α β : Type} {n : Nat} (f : α → β) (v : Vector α n) (i : Fin n) : (vmap f v)[i] = f v[i] := by
  show (vmap f v)[i.val] = _
  simp [vmap]

section
variable (s : State) (r q : Fin 12) (g h : Fin 8)

@[simp] theorem rl_modRail (f : Rail → Rail) : (s.modRail r f).rl q = if r = q then f (s.rl q) else s.rl q := by
  show (vmod s.rails.rail r f)[q.val] = _
  rw [vmod_getElem]
  simp only [Fin.val_inj]
  rfl

/-- A gate. -/
def gateAt (g : Fin 8) : GateReg := s.rails.gate[g]

@[simp] theorem gateAt_modGate (f : GateReg → GateReg) : gateAt (s.modGate g f) h = if g = h then f (gateAt s h) else gateAt s h := by
  show (vmod s.rails.gate g f)[h.val] = _
  rw [vmod_getElem]
  simp only [Fin.val_inj]
  rfl

@[simp] theorem rl_modGate (f : GateReg → GateReg) : (s.modGate g f).rl q = s.rl q := rfl
@[simp] theorem gateAt_modRail (f : Rail → Rail) : gateAt (s.modRail r f) h = gateAt s h := rfl
@[simp] theorem rl_assertResets : (assertResets r s).rl q = s.rl q := rfl
@[simp] theorem gateAt_assertResets : gateAt (assertResets r s) h = gateAt s h := rfl

theorem rl_of_rails {s t : State} (same : t.rails = s.rails) : t.rl q = s.rl q := by unfold State.rl; rw [same]
theorem gateAt_of_rails {s t : State} (same : t.rails = s.rails) : gateAt t h = gateAt s h := by unfold gateAt; rw [same]

@[simp] theorem rl_raise (ev : Nat) (i : EvIsland) (vs : List (Nat × Nat)) : (raise s ev i vs).rl q = s.rl q := rl_of_rails q (by simp)
@[simp] theorem gateAt_raise (ev : Nat) (i : EvIsland) (vs : List (Nat × Nat)) : gateAt (raise s ev i vs) h = gateAt s h :=
  gateAt_of_rails h (by simp)

theorem driven_eq : s.driven r = (s.gated r && (gateAt s (s.gateOf r)).driven) := rfl

/-! ### Steps of the walks -/

/-- A rail that ramps. -/
def ramping (x : Rail) : Rail := { x with status := .ramping, outRun := 0, inRun := 0, ramped := false, scans := 0, falling := false }

/-- A rail that a walk shuts. -/
def shutting (by' : OffBy) (st : RailStatus) (x : Rail) : Rail :=
  { x with status := st, outRun := 0, inRun := 0, ramped := false, falling := true, offBy := by' }

/-- What does not change while rails ramp or fall: the configuration, and so which gate a rail has. -/
structure SameGates (s t : State) : Prop where
  gates : t.gateOf = s.gateOf
  gated : t.gated = s.gated

theorem SameGates.refl : SameGates s s := ⟨rfl, rfl⟩
theorem SameGates.of {s t : State} (isl : t.isl = s.isl) (dict : t.dict = s.dict) : SameGates s t :=
  ⟨gateOf_congr isl dict, gated_congr isl dict⟩

theorem rampRail_rl : (rampRail r s).rl q = if r = q then ramping (s.rl q) else s.rl q := by
  unfold rampRail rampGate
  simp [ramping]

theorem rampRail_gate : gateAt (rampRail r s) h = if s.gateOf r = h then ⟨.ramping, true, 0⟩ else gateAt s h := by
  unfold rampRail rampGate
  simp

theorem dropRail_rl (by' : OffBy) (st : RailStatus) : (dropRail by' st r s).rl q = if r = q then shutting by' st (s.rl q) else s.rl q := by
  unfold dropRail gateOff
  simp [shutting]

theorem dropRail_gate (by' : OffBy) (st : RailStatus) : gateAt (dropRail by' st r s) h =
    if s.gateOf r = h then { gateAt s h with state := .off, driven := false } else gateAt s h := by
  unfold dropRail gateOff
  simp

/-- Rails that ramp together. -/
theorem rampRails_rl (l : List (Fin 12)) : (l.foldl (fun t r => rampRail r t) s).rl q = if q ∈ l then ramping (s.rl q) else s.rl q := by
  induction l generalizing s with
  | nil => simp
  | cons r l ih =>
    rw [List.foldl_cons, ih, rampRail_rl]
    by_cases same : r = q
    · subst same
      simp [ramping]
    · simp [same, Ne.symm same]

theorem rampRails_gate (l : List (Fin 12)) : gateAt (l.foldl (fun t r => rampRail r t) s) h =
    if h ∈ l.map s.gateOf then ⟨.ramping, true, 0⟩ else gateAt s h := by
  induction l generalizing s with
  | nil => simp
  | cons r l ih =>
    have gates : (rampRail r s).gateOf = s.gateOf := gateOf_congr (by simp) (by simp)
    rw [List.foldl_cons, ih, rampRail_gate, gates]
    by_cases same : s.gateOf r = h
    · simp [same]
    · simp [same, Ne.symm same]

/-- Rails that fall together. -/
theorem dropRails_rl (by' : OffBy) (st : RailStatus) (l : List (Fin 12)) : (l.foldl (fun t r => dropRail by' st r t) s).rl q =
    if q ∈ l then shutting by' st (s.rl q) else s.rl q := by
  induction l generalizing s with
  | nil => simp
  | cons r l ih =>
    rw [List.foldl_cons, ih, dropRail_rl]
    by_cases same : r = q
    · subst same
      simp [shutting]
    · simp [same, Ne.symm same]

theorem dropRails_gate (by' : OffBy) (st : RailStatus) (l : List (Fin 12)) : gateAt (l.foldl (fun t r => dropRail by' st r t) s) h =
    if h ∈ l.map s.gateOf then { gateAt s h with state := .off, driven := false } else gateAt s h := by
  induction l generalizing s with
  | nil => simp
  | cons r l ih =>
    have gates : (dropRail by' st r s).gateOf = s.gateOf := gateOf_congr (by simp) (by simp)
    rw [List.foldl_cons, ih, dropRail_gate, gates]
    by_cases same : s.gateOf r = h
    · simp [same]
    · simp [same, Ne.symm same]

/-- Where a walk's step ramps: its rails, their gates, and its place. -/
theorem rampStep_walk (groups : List Nat) (pos : Nat) : (rampStep groups pos s).rails.walk = .up groups ∧
    (rampStep groups pos s).rails.pos = pos ∧ (rampStep groups pos s).rails.delaying = false :=
  List.foldlRecOn (motive := fun t : State => t.rails.walk = .up groups ∧ t.rails.pos = pos ∧ t.rails.delaying = false) (s.upRails groups pos) _
    ⟨rfl, rfl, rfl⟩ fun _ h _ _ => h

theorem rampStep_rl (groups : List Nat) (pos : Nat) : (rampStep groups pos s).rl q =
    if q ∈ s.upRails groups pos then ramping (s.rl q) else s.rl q := rampRails_rl ..

theorem rampStep_gate (groups : List Nat) (pos : Nat) : gateAt (rampStep groups pos s) h =
    if h ∈ (s.upRails groups pos).map s.gateOf then ⟨.ramping, true, 0⟩ else gateAt s h := rampRails_gate ..

theorem dropStep_walk (groups : List Nat) (pos : Nat) : (dropStep groups pos s).rails.walk = .down groups ∧
    (dropStep groups pos s).rails.pos = pos ∧ (dropStep groups pos s).rails.delaying = false :=
  List.foldlRecOn (motive := fun t : State => t.rails.walk = .down groups ∧ t.rails.pos = pos ∧ t.rails.delaying = false)
    (s.downRails groups pos) _ ⟨rfl, rfl, rfl⟩ fun _ h _ _ => h

theorem dropStep_rl (groups : List Nat) (pos : Nat) : (dropStep groups pos s).rl q =
    if q ∈ s.downRails groups pos then shutting .walk .off (s.rl q) else s.rl q := dropRails_rl ..

theorem dropStep_gate (groups : List Nat) (pos : Nat) : gateAt (dropStep groups pos s) h =
    if h ∈ (s.downRails groups pos).map s.gateOf then { gateAt s h with state := .off, driven := false } else gateAt s h := dropRails_gate ..

/-- A rail that a walk shuts is driven no more. -/
theorem dropStep_driven (groups : List Nat) (pos : Nat) (mem : r ∈ s.downRails groups pos) : (dropStep groups pos s).driven r = false := by
  have gates : (dropStep groups pos s).gateOf = s.gateOf := gateOf_congr (by simp) (by simp)
  rw [driven_eq, gates, dropStep_gate, if_pos (List.mem_map_of_mem mem)]
  simp

theorem rampStep_frame' (groups : List Nat) (pos : Nat) : rampStep groups pos s = { s with rails := (rampStep groups pos s).rails } :=
  List.foldlRecOn (motive := fun t : State => t = { s with rails := t.rails }) (s.upRails groups pos) _ rfl fun t h r _ => by
    rw [h]; rfl

theorem dropStep_frame' (groups : List Nat) (pos : Nat) : dropStep groups pos s = { s with rails := (dropStep groups pos s).rails } :=
  List.foldlRecOn (motive := fun t : State => t = { s with rails := t.rails }) (s.downRails groups pos) _ rfl fun t h r _ => by
    rw [h]; rfl

end

end Sys2Proof.Machine
end

section
/-! The walks of the Tremor line (O23). -/

namespace Sys2Proof.Machine


/-! ### The member's walk -/

section
variable (s : State) (k : Nat)

/-- The line has risen: the state in which the counter moves on. -/
def lineRisen : State := { s with tremor := { s.tremor with high := true, low := false } }

theorem execTremorAdvance_rises (member : isMember s = true) (free : s.tremor.pulling = false) :
    exec .tremorAdvance s = .next (advance (lineRisen s)) := if_neg (by simp [member, free])

/-- A step of a walk and what is told of it. -/
structure WalkStep (ev : Nat) (s t : State) : Prop where
  told : Told ev s t
  frame : t = withEvents { s with tremor := t.tremor, rails := t.rails } t

/-- What is told of a state in which only the line and the rails differ. -/
theorem walkStep_raise {s t : State} (ev : Nat) (vs : List (Nat × Nat)) (h : t = { s with tremor := t.tremor, rails := t.rails }) :
    WalkStep ev s (raise t ev .supervisor vs) := by
  have isl : t.isl = s.isl := (congrArg State.isl h :)
  have dict : t.dict = s.dict := (congrArg State.dict h :)
  have events : t.ev = s.ev := (congrArg State.ev h :)
  refine ⟨(raise_told ..).of isl dict events, ?_⟩
  generalize t.tremor = x at h
  generalize t.rails = y at h
  subst h
  rw [show (raise _ ev .supervisor vs).tremor = x by simp, show (raise _ ev .supervisor vs).rails = y by simp, raise_eq]
  rfl

/-- A change of the line that is told. -/
theorem tremorRaised (x : Tremor) (ev : Nat) (vs : List (Nat × Nat)) : Told ev s (raise { s with tremor := x } ev .supervisor vs) ∧
    (raise { s with tremor := x } ev .supervisor vs).tremor = x ∧
    raise { s with tremor := x } ev .supervisor vs = withEvents { s with tremor := x } (raise { s with tremor := x } ev .supervisor vs) :=
  ⟨(raise_told ..).of rfl rfl rfl, by simp, raise_eq ..⟩

/-- The state of an up walk that a member enters, before its work. -/
def inUp : State := { s with tremor := { s.tremor with walk := .upWalk, counter := k } }

theorem enterUp_kept : enterUp k s = { s with tremor := (enterUp k s).tremor, rails := (enterUp k s).rails } ∧
    (enterUp k s).tremor.walk = .upWalk ∧ (enterUp k s).tremor.counter = k := by
  have work (t : State) : upWork t = { t with tremor := (upWork t).tremor, rails := (upWork t).rails } ∧
      (upWork t).tremor.walk = t.tremor.walk ∧ (upWork t).tremor.counter = t.tremor.counter := by
    unfold upWork
    dsimp only
    split
    · exact ⟨rfl, rfl, rfl⟩
    · split
      · exact ⟨rfl, rfl, rfl⟩
      · refine ⟨?_, by simp, by simp⟩
        rw [rampStep_frame']
  unfold enterUp
  dsimp only
  split
  · obtain ⟨frame, walk, counter⟩ := work (pullLine { s with tremor := { s.tremor with walk := .upWalk, counter := k } })
    exact ⟨by rw [frame]; rfl, walk, counter⟩
  · exact ⟨rfl, rfl, rfl⟩

/-- A member that goes up holds the line in a state with rails of its own, which ramp, and releases it in one without. -/
theorem enterUp_works (up : goesUp s = true) (ready : upReady s k = true) :
    (s.upRails (upGroups s k) k ≠ [] ↔ (enterUp k s).tremor.pulling = true) ∧
    (∀ r ∈ s.upRails (upGroups s k) k, ((enterUp k s).rl r).status = .ramping) := by
  have enters : enterUp k s = if (s.upRails (upGroups s k) k).isEmpty then releaseLine (pullLine (inUp s k))
      else rampStep (upGroups s k) k (pullLine (inUp s k)) := by
    unfold enterUp
    refine (if_pos up).trans ?_
    unfold upWork
    exact if_neg fun not => absurd (ready.symm.trans not) (by decide)
  rw [enters]
  by_cases none : (s.upRails (upGroups s k) k).isEmpty = true
  · rw [if_pos none]
    have empty := List.isEmpty_iff.1 none
    rw [empty]
    exact ⟨⟨fun h => absurd rfl h, fun h => absurd (show false = true from h) (by decide)⟩, fun r mem => absurd mem (by simp)⟩
  · rw [if_neg none]
    refine ⟨⟨fun _ => by simp [pullLine], fun _ empty => none (by simp [empty])⟩, fun r mem => ?_⟩
    have step := (rampStep_rl (pullLine (inUp s k)) r (upGroups s k) k).trans (if_pos mem)
    rw [step]
    rfl

theorem enterUp_stays (down : goesUp s = false) : (enterUp k s).tremor.pulling = false := by
  unfold enterUp
  dsimp only
  rw [if_neg]
  · rfl
  · exact fun up => absurd (down.symm.trans up) (by decide)

/-- The state of a down walk that a member enters, before its work. -/
def inDown : State := { s with tremor := { s.tremor with walk := .downWalk, counter := k } }

theorem downWork_kept (t : State) : downWork t = { t with rails := (downWork t).rails } := by
  unfold downWork
  split
  · rfl
  · rw [dropStep_frame']

theorem enterDown_kept : enterDown k s = { s with tremor := (enterDown k s).tremor, rails := (enterDown k s).rails } ∧
    (enterDown k s).tremor.walk = .downWalk ∧ (enterDown k s).tremor.counter = k ∧ (enterDown k s).tremor.down = s.tremor.down ∧
    (enterDown k s).tremor.wantDown = s.tremor.wantDown ∧ (enterDown k s).tremor.asked = s.tremor.asked := by
  have enters : enterDown k s = if ((inDown s k).downRails (downHeld (inDown s k)) k).isEmpty then releaseLine (inDown s k)
      else downWork (pullLine (inDown s k)) := rfl
  rw [enters]
  split
  · exact ⟨rfl, rfl, rfl, rfl, rfl, rfl⟩
  · have tremor : (downWork (pullLine (inDown s k))).tremor = (pullLine (inDown s k)).tremor := (congrArg State.tremor (downWork_kept _) :)
    rw [tremor]
    refine ⟨?_, rfl, rfl, rfl, rfl, rfl⟩
    conv_lhs => rw [downWork_kept]
    rfl

/-- A member that goes down for its own request shuts its rails of the state and holds the line. -/
theorem enterDown_works (request : s.tremor.down = .request) (r : Fin 12) (mem : r ∈ s.downRails [0, 1, 2, 3, 4] k) :
    ((enterDown k s).rl r).status = .off ∧ (enterDown k s).driven r = false ∧ (enterDown k s).tremor.pulling = true := by
  have held : downHeld (inDown s k) = [0, 1, 2, 3, 4] := if_pos request
  have now : downNow (pullLine (inDown s k)) = [0, 1, 2, 3, 4] := if_pos request
  have some' : ¬(s.downRails [0, 1, 2, 3, 4] k).isEmpty = true := fun none => by
    rw [List.isEmpty_iff.1 none] at mem
    exact absurd mem (by simp)
  have enters : enterDown k s = dropStep [0, 1, 2, 3, 4] k (pullLine (inDown s k)) := by
    have enters : enterDown k s = if ((inDown s k).downRails (downHeld (inDown s k)) k).isEmpty then releaseLine (inDown s k)
        else downWork (pullLine (inDown s k)) := rfl
    have works : downWork (pullLine (inDown s k)) = if ((pullLine (inDown s k)).downRails (downNow (pullLine (inDown s k))) k).isEmpty
        then pullLine (inDown s k) else dropStep (downNow (pullLine (inDown s k))) k (pullLine (inDown s k)) := rfl
    rw [enters, held, works, now]
    exact (if_neg some').trans (if_neg some')
  rw [enters]
  refine ⟨?_, dropStep_driven _ r _ _ mem, by simp [pullLine]⟩
  have step := (dropStep_rl (pullLine (inDown s k)) r [0, 1, 2, 3, 4] k).trans (if_pos mem)
  rw [step]
  rfl

/-- A state that the walk enters is announced by its number. -/
theorem announce_step {s t : State} (h : t = { s with tremor := t.tremor, rails := t.rails }) :
    WalkStep (400 + t.tremor.counter) s (announce t) := walkStep_raise _ _ h

@[simp] theorem announce_tremor : (announce s).tremor = s.tremor := by simp [announce]
@[simp] theorem announce_rails : (announce s).rails = s.rails := by simp [announce]

/-- The idle state after an up walk. -/
theorem enterIdleUp_result : Told 385 s (enterIdleUp s) ∧ (enterIdleUp s).tremor = { s.tremor with walk := .idleUp } ∧
    (enterIdleUp s).outage.phase ≠ .returning ∧ (s.outage.phase ≠ .returning → (enterIdleUp s).outage = s.outage) ∧
    enterIdleUp s = withEvents { s with
      tremor := (enterIdleUp s).tremor, outage := { s.outage with phase := (enterIdleUp s).outage.phase } } (enterIdleUp s) := by
  generalize idle : raise { s with tremor := { s.tremor with walk := .idleUp } } 385 .supervisor [] = t
  have told : Told 385 s t := idle ▸ (raise_told ..).of rfl rfl rfl
  have frame : t = withEvents { s with tremor := { s.tremor with walk := .idleUp } } t := by rw [← idle]; exact raise_eq ..
  generalize done : raiseIf (goesUp t) t 340 .supervisor [] = u
  have told' : Told 385 s u := by rw [← done]; exact told.grows (raiseIf_grows _ _ _ _ _ (.refl _))
  have frame' : u = withEvents { s with tremor := { s.tremor with walk := .idleUp } } u := by
    rw [← done, raiseIf_eq, frame]; rfl
  have outage : u.outage = s.outage := (congrArg State.outage frame' :)
  have tremor : u.tremor = { s.tremor with walk := .idleUp } := (congrArg State.tremor frame' :)
  have ends : enterIdleUp s = if u.outage.phase = .returning then { u with outage.phase := .none } else u := by
    rw [← done, ← idle]; rfl
  rw [ends]
  split
  · rename_i returning
    refine ⟨told'.ev_eq rfl, tremor, by simp, fun no => absurd (outage ▸ returning) no, ?_⟩
    rw [frame']; rfl
  · rename_i other
    refine ⟨told', tremor, other, fun _ => outage, ?_⟩
    rw [outage, tremor]
    exact frame'

/-- The idle state after a down walk, in which no rail is left to shut alone. -/
theorem enterIdleDown_result (notRequest : s.tremor.down ≠ .request) (stays : s.tremor.down = .none ∨ s.life.dev ≠ .warn) :
    Told 387 s (enterIdleDown s) ∧ enterIdleDown s = withEvents { s with tremor := (enterIdleDown s).tremor } (enterIdleDown s) ∧
    (enterIdleDown s).tremor = { s.tremor with walk := .idleDown, counter := 0, down := .none } := by
  generalize idle : raise { s with tremor := { s.tremor with walk := .idleDown, counter := 0, down := .none } } 387 .supervisor [] = t
  have told : Told 387 s t := idle ▸ (raise_told ..).of rfl rfl rfl
  have frame : t = withEvents { s with tremor := { s.tremor with walk := .idleDown, counter := 0, down := .none } } t := by
    rw [← idle]; exact raise_eq ..
  have life : (announce t).life = s.life := by simp [announce, ← idle]
  have rests : restAfterWalk s.tremor.down (announce t) = announce t := by
    unfold restAfterWalk
    rcases hd : s.tremor.down with _ | _ | _ | _
    · rfl
    · exact absurd hd notRequest
    · exact if_neg (by rw [life]; exact stays.resolve_left (by simp [hd]))
    · exact if_neg (by rw [life]; exact stays.resolve_left (by simp [hd]))
  have ends : enterIdleDown s = announce t := by rw [← rests, ← idle]; rfl
  have tremor : (announce t).tremor = { s.tremor with walk := .idleDown, counter := 0, down := .none } := by
    rw [announce_tremor, frame]; rfl
  rw [ends]
  refine ⟨told.grows (raise_grows _ _ _ _ (.refl _)), ?_, tremor⟩
  rw [tremor]
  unfold announce
  rw [raise_eq, frame]
  rfl

/-- A down walk begins in state N with its cause. -/
theorem beginDown_result : Told 386 s (beginDown s) ∧
    beginDown s = withEvents { s with tremor := (beginDown s).tremor, rails := (beginDown s).rails } (beginDown s) ∧
    (beginDown s).tremor.walk = .downWalk ∧ (beginDown s).tremor.counter = groupLength s ∧
    (beginDown s).tremor.down = s.tremor.wantDown ∧ (beginDown s).tremor.wantDown = .none ∧ (beginDown s).tremor.asked = false := by
  generalize asks : raise { s with tremor := { s.tremor with down := s.tremor.wantDown, wantDown := .none, asked := false } } 386 .supervisor
    [(1, if s.tremor.wantDown = .none then 1 else s.tremor.wantDown.code)] = t
  have told : Told 386 s t := asks ▸ (raise_told ..).of rfl rfl rfl
  have frame : t = withEvents { s with tremor := { s.tremor with down := s.tremor.wantDown, wantDown := .none, asked := false } } t := by
    rw [← asks]; exact raise_eq ..
  have tremor : t.tremor = { s.tremor with down := s.tremor.wantDown, wantDown := .none, asked := false } := (congrArg State.tremor frame :)
  have begins : beginDown s = announce (enterDown (groupLength s) t) := by rw [← asks]; rfl
  obtain ⟨kept, walk, counter, down, want, asked⟩ := enterDown_kept t (groupLength s)
  have events : (enterDown (groupLength s) t).ev = t.ev := (congrArg State.ev kept :)
  rw [begins, announce_tremor, announce_rails]
  refine ⟨?_, ?_, walk, counter, down.trans (by rw [tremor]), want.trans (by rw [tremor]), asked.trans (by rw [tremor])⟩
  · exact (told.ev_eq events).grows (raise_grows _ _ _ _ (.refl _))
  · generalize entered : enterDown (groupLength s) t = u at kept
    generalize u.tremor = x at kept
    generalize u.rails = y at kept
    unfold announce
    rw [raise_eq, kept, frame]
    rfl

end

end Sys2Proof.Machine
end

section
open Sys2Proof Sys2Proof.Machine

/-- Settles O23: a rise of the line moves the walk on by one state, in which a member with rails of that state works and holds the line;
the line falls, is pulled and is released as its user wants. -/
theorem tremorWalksAndLine : Obligations.TremorWalksAndLine := by
  unfold Obligations.TremorWalksAndLine
  refine ⟨?gathered, ?up, ?upEnds, ?down, ?downEnds, ?begins, ?rises, ?releases, ?holds, ?works, ?falls, ?steps, ?reset, ?asks, ?sendsDown,
    ?sendsReset, ?bootHold, ?gathers⟩
  case gathered =>
    intro s member free walk
    have run := execTremorAdvance_rises s member free
    rw [advance, show (lineRisen s).tremor.walk = .gathering from walk] at run
    obtain ⟨frame, walk', counter⟩ := enterUp_kept (lineRisen s) 1
    obtain ⟨told, frame'⟩ := announce_step (s := s) (t := enterUp 1 (lineRisen s)) (by rw [frame]; rfl)
    rw [counter] at told
    refine ⟨_, run, told, by simpa using walk', by simpa using counter, fun up ready => ?_, fun not => ?_, frame'⟩
    · rw [announce_tremor]
      exact (enterUp_works (lineRisen s) 1 up ready).1
    · rw [announce_tremor]
      exact enterUp_stays (lineRisen s) 1 not
  case up =>
    intro s member free walk more
    have run := execTremorAdvance_rises s member free
    rw [advance, show (lineRisen s).tremor.walk = .upWalk from walk] at run
    have run' := run.trans (congrArg Host.Outcome.next (if_pos more))
    obtain ⟨frame, walk', counter⟩ := enterUp_kept (lineRisen s) ((lineRisen s).tremor.counter + 1)
    obtain ⟨told, frame'⟩ := announce_step (s := s) (t := enterUp ((lineRisen s).tremor.counter + 1) (lineRisen s)) (by rw [frame]; rfl)
    rw [counter] at told
    refine ⟨_, run', told, by rw [announce_tremor]; exact walk', by rw [announce_tremor]; exact counter, fun up ready r mem => ?_, frame'⟩
    rw [announce_tremor] at ready mem ⊢
    rw [counter] at ready mem
    obtain ⟨pulls, ramps⟩ := enterUp_works (lineRisen s) _ up ready
    exact ⟨(congrArg Rail.status (rl_of_rails r (announce_rails _))).trans (ramps r mem), pulls.1 (List.ne_nil_of_mem mem)⟩
  case upEnds =>
    intro s member free walk last
    have run := execTremorAdvance_rises s member free
    rw [advance, show (lineRisen s).tremor.walk = .upWalk from walk] at run
    have run' := run.trans (congrArg Host.Outcome.next (if_neg (Nat.not_lt.2 last)))
    obtain ⟨told, tremor, ended, kept, frame⟩ := enterIdleUp_result (lineRisen s)
    refine ⟨_, run', told.of rfl rfl rfl, tremor, ended, kept, ?_⟩
    exact frame
  case down =>
    intro s member free walk more
    have run := execTremorAdvance_rises s member free
    rw [advance, show (lineRisen s).tremor.walk = .downWalk from walk] at run
    have run' := run.trans (congrArg Host.Outcome.next (if_pos more))
    obtain ⟨frame, walk', counter, -, -, -⟩ := enterDown_kept (lineRisen s) ((lineRisen s).tremor.counter - 1)
    obtain ⟨told, frame'⟩ := announce_step (s := s) (t := enterDown ((lineRisen s).tremor.counter - 1) (lineRisen s)) (by rw [frame]; rfl)
    rw [counter] at told
    refine ⟨_, run', told, by rw [announce_tremor]; exact walk', by rw [announce_tremor]; exact counter, fun request r mem => ?_, frame'⟩
    rw [announce_tremor] at mem ⊢
    rw [counter] at mem
    obtain ⟨off, undriven, pulls⟩ := enterDown_works (lineRisen s) _ request r mem
    have driven : (announce (enterDown ((lineRisen s).tremor.counter - 1) (lineRisen s))).driven =
      (enterDown ((lineRisen s).tremor.counter - 1) (lineRisen s)).driven := driven_congr (by simp [announce]) (by simp [announce]) (by simp)
    exact ⟨(congrArg Rail.status (rl_of_rails r (announce_rails _))).trans off, by rw [driven]; exact undriven, pulls⟩
  case downEnds =>
    intro s member free walk last notRequest stays
    have run := execTremorAdvance_rises s member free
    rw [advance, show (lineRisen s).tremor.walk = .downWalk from walk] at run
    have run' := run.trans (congrArg Host.Outcome.next (if_neg (Nat.not_lt.2 last)))
    obtain ⟨told, frame, tremor⟩ := enterIdleDown_result (lineRisen s) notRequest stays
    exact ⟨_, run', told.of rfl rfl rfl, tremor, frame⟩
  case begins =>
    intro s member free idle asked
    have run := execTremorAdvance_rises s member free
    have begins : advance (lineRisen s) = beginDown (lineRisen s) := by
      unfold advance
      rcases idle with walk | walk
      · rw [show (lineRisen s).tremor.walk = .idleUp from walk]
        exact if_pos asked
      · rw [show (lineRisen s).tremor.walk = .idleDown from walk]
        exact if_pos asked
    rw [begins] at run
    obtain ⟨told, frame, walk, counter, down, want, asked'⟩ := beginDown_result (lineRisen s)
    exact ⟨_, run, told.of rfl rfl rfl, walk, counter, down, want, asked', frame⟩
  case rises =>
    intro s member free idle asked
    refine (execTremorAdvance_rises s member free).trans (congrArg Host.Outcome.next ?_)
    unfold advance
    have not : ¬(lineRisen s).tremor.asked = true := by simp [lineRisen, asked]
    rcases idle with walk | walk
    · rw [show (lineRisen s).tremor.walk = .idleUp from walk]
      exact if_neg not
    · rw [show (lineRisen s).tremor.walk = .idleDown from walk]
      exact if_neg not
  case releases =>
    intro s member pulling done none
    exact (if_neg (by simp [member, pulling, done])).trans (congrArg Host.Outcome.next (if_neg (by simp [none])))
  case holds =>
    intro s member pulling done hold
    exact (if_neg (by simp [member, pulling, done])).trans (congrArg Host.Outcome.next (if_pos hold))
  case works =>
    intro s pulling work
    exact if_pos (.inr (.inr work))
  case falls =>
    intro s idle
    have idle' : lineIdle s = true := by rcases idle with h | h <;> simp [lineIdle, h]
    show Host.Outcome.next _ = _
    rw [idle']
    rfl
  case steps =>
    intro s notUp notDown
    have walks : lineIdle s = false := by simp [lineIdle, notUp, notDown]
    show Host.Outcome.next _ = _
    rw [walks]
    rfl
  case reset =>
    intro s member idle low
    obtain ⟨told, tremor, frame⟩ := tremorRaised s { s.tremor with
      walk := .gathering, counter := 0, low := false, wantReset := false, asked := false } 388 []
    refine ⟨_, if_neg (by simp [member, idle, low]), told, by rw [tremor], by rw [tremor], by rw [tremor], by rw [tremor], ?_⟩
    rw [tremor]
    exact frame
  case asks =>
    intro s member idle low none
    exact if_neg (by simp [member, idle, low, none])
  case sendsDown =>
    intro s steps idle want free high
    exact if_neg (by simp [steps, idle, want, free, high])
  case sendsReset =>
    intro s steps idle want free high
    exact if_neg (by simp [steps, idle, want, free, high])
  case bootHold =>
    intro s boot cold member none walk
    exact if_neg (by simp [boot, cold, member, none, walk])
  case gathers =>
    intro s boot member walk
    exact ⟨_, if_neg (by simp [boot, member, walk]), raise_told .., raise_eq ..⟩
end

section
/-! The figures that the loop publishes, and what a new ceiling leaves. -/

namespace Sys2Proof.Machine


/-! ### The figures that the loop publishes, and the ceiling -/

section
variable {held : Bool} {g : Events} (s : State) (h : Grows held g s.ev)
include h

theorem policyRefresh_grows : Grows held g (policyRefresh s).ev := by
  unfold policyRefresh
  refine forAll_grows _ s h fun t n each => ?_
  dsimp only
  split
  · exact each
  · split
    · exact modeFallback_grows _ _ _ each
    · exact modeChanged_grows _ _ _ _ each

theorem applyCeiling_grows (old : Nat) : Grows held g (applyCeiling old s).ev := by
  unfold applyCeiling
  extract_lets overshoot running gforce adm s1 f r s2 anyBorrower adm' s3 s4 s5 s6 s7 s8
  have forced : f.1.ev = s.ev := by
    unfold f
    split
    · simp [s1]
    · split <;> simp [s1]
  have resumed : s2.ev = s.ev := by
    unfold s2 r
    split
    · exact forced
    · simp [forced]
  have borrows : s3.ev = s.ev := by
    unfold s3
    split <;> split <;> exact resumed
  have h5 : Grows held g s5.ev := raiseIf_grows _ _ _ _ _ (stageRefresh_grows _ (by rw [borrows]; exact h))
  have h6 : Grows held g s6.ev := foldl_grows _ _ _ h5 fun _ _ each => raise_grows _ _ _ _ each
  have h7 : Grows held g s7.ev := foldl_grows _ _ _ h6 fun _ _ each => raise_grows _ _ _ _ each
  have h8 : Grows held g s8.ev := by
    unfold s8
    split
    · exact forAll_grows _ _ h7 fun _ _ each => raiseIf_grows _ _ _ _ _ each
    · exact h7
  refine policyRefresh_grows _ ?_
  unfold belowRefresh
  exact raiseIf_grows _ _ _ _ _ h8

theorem recomputeAll_grows : Grows held g (recomputeAll s).ev := by
  unfold recomputeAll recompute
  have set : Grows held g (joinThawed (setCeiling s)).ev := by
    have join (t : State) : (joinThawed t).ev = t.ev := by simp
    rw [join]
    exact raiseIf_grows _ _ _ _ _ (raiseIf_grows _ _ _ _ _ h)
  have ceiling : Grows held g (applyCeiling s.adm.ceiling (joinThawed (setCeiling s))).ev := applyCeiling_grows _ set _
  unfold resumeRecordings
  refine forAll_grows _ _ ceiling fun t n each => ?_
  unfold resumeRecording
  split
  · exact raise_grows _ _ _ _ (by simpa [dueIdr] using each)
  · exact each

theorem publishFigures_grows (pack bank : Nat) : Grows held g (publishFigures pack bank s).ev := recomputeAll_grows _ h

end

/-! ### What a new ceiling leaves of the admission -/

/-- A state in which only what admission holds of its tenants and its stage may have moved. -/
structure Weighed (s t : State) : Prop where
  adm : t.adm = { s.adm with
    stage := t.adm.stage, borrowStopped := t.adm.borrowStopped, geyserForce := t.adm.geyserForce, belowDirty := t.adm.belowDirty }
  cache : t.cache = { s.cache with tenants := t.cache.tenants }
  guaranteed : ∀ n, (t.ten n).guaranteed = (s.ten n).guaranteed

section
variable {s t u : State}

theorem Weighed.refl (s : State) : Weighed s s := ⟨rfl, rfl, fun _ => rfl⟩

theorem Weighed.trans (a : Weighed s t) (b : Weighed t u) : Weighed s u :=
  ⟨by rw [b.adm, a.adm], by rw [b.cache, a.cache], fun n => (b.guaranteed n).trans (a.guaranteed n)⟩

theorem Weighed.of (adm : t.adm = s.adm) (cache : t.cache = s.cache) : Weighed s t :=
  ⟨by rw [adm], by rw [cache], fun n => by unfold State.ten; rw [cache]⟩

theorem Weighed.set (s : State) (stage : Nat) (stopped force below : Bool) : Weighed s { s with adm := { s.adm with
    stage := stage, borrowStopped := stopped, geyserForce := force, belowDirty := below } } := ⟨rfl, rfl, fun _ => rfl⟩

theorem Weighed.raised (a : Weighed s t) (ev : Nat) (i : EvIsland) (vs : List (Nat × Nat)) : Weighed s (raise t ev i vs) :=
  a.trans (.of (by simp) (by simp))

theorem Weighed.raisedIf (a : Weighed s t) (b : Bool) (ev : Nat) (i : EvIsland) (vs : List (Nat × Nat)) : Weighed s (raiseIf b t ev i vs) :=
  a.trans (.of (by simp) (by simp))

theorem setForced_weighed (b : Bool) (n : Fin 16) : Weighed s (setForced b n s) := by
  refine ⟨rfl, rfl, fun m => ?_⟩
  unfold setForced
  rw [ten_modTen]
  split <;> rfl

theorem forceEvery_weighed (l : List (Fin 16)) (acc : List (Fin 16)) : Weighed s (forceEvery l s acc).1 := by
  induction l generalizing s acc with
  | nil => exact .refl s
  | cons n rest ih =>
    unfold forceEvery
    split
    · exact (setForced_weighed ..).trans (ih _)
    · exact ih _

theorem forceCover_weighed (overshoot : Nat) (l : List (Fin 16)) (acc : List (Fin 16)) : Weighed s (forceCover overshoot l s acc).1 := by
  induction l generalizing s acc with
  | nil => exact .refl s
  | cons n rest ih =>
    unfold forceCover
    dsimp only
    split
    · exact .refl s
    · split
      · exact (setForced_weighed ..).trans (ih _)
      · exact ih _

theorem resumeSome_weighed (l : List (Fin 16)) (acc : List (Fin 16)) : Weighed s (resumeSome l s acc).1 := by
  induction l generalizing s acc with
  | nil => exact .refl s
  | cons n rest ih =>
    unfold resumeSome
    split
    · exact (setForced_weighed ..).trans (ih _)
    · exact ih _

theorem stageRefresh_weighed : Weighed s (stageRefresh s) := by
  unfold stageRefresh
  dsimp only
  split
  · exact .refl s
  · exact (Weighed.set s ..).raised ..

theorem applyCeiling_weighed (old : Nat) : Weighed s (applyCeiling old s) := by
  unfold applyCeiling
  extract_lets overshoot running gforce adm s1 f r s2 anyBorrower adm' s3 s4 s5 s6 s7 s8
  have first : Weighed s s1 := ⟨rfl, rfl, fun _ => rfl⟩
  have forced : Weighed s f.1 := by
    unfold f
    split
    · exact first.trans (forceEvery_weighed ..)
    · split
      · exact first.trans (forceCover_weighed ..)
      · exact first
  have resumed : Weighed s s2 := by
    unfold s2 r
    split
    · exact forced
    · exact forced.trans (resumeSome_weighed ..)
  have borrows : Weighed s s3 := by
    have set (b : Bool) : Weighed s2 { s2 with adm.borrowStopped := b } := ⟨rfl, rfl, fun _ => rfl⟩
    unfold s3
    split <;> split <;> first | exact resumed | exact resumed.trans (set _)
  have h5 : Weighed s s5 := (borrows.trans stageRefresh_weighed).raisedIf ..
  have h6 : Weighed s s6 := List.foldlRecOn (motive := Weighed s) f.2 _ h5 fun _ each _ _ => each.raised ..
  have h7 : Weighed s s7 := List.foldlRecOn (motive := Weighed s) r.2 _ h6 fun _ each _ _ => each.raised ..
  have h8 : Weighed s s8 := by
    unfold s8
    split
    · exact forAll_inv (inv := Weighed s) h7 fun _ _ each => each.raisedIf ..
    · exact h7
  have below (t : State) : Weighed t (belowRefresh t) := by
    unfold belowRefresh
    exact (Weighed.set t ..).raisedIf ..
  exact (h8.trans (below _)).trans (.of (by simp) (by simp))

/-- What a recomputation leaves of the admission. -/
theorem recomputeAll_adm (s : State) :
    (recomputeAll s).adm.pubSeq = s.adm.pubSeq ∧ (recomputeAll s).adm.pubAt = s.adm.pubAt ∧ (recomputeAll s).adm.stale = s.adm.stale ∧
    (recomputeAll s).adm.eByteInUse = s.adm.eByteInUse ∧ (recomputeAll s).adm.egTotal = s.packEst.eg + s.bankEst.eg ∧
    (recomputeAll s).adm.ceiling = ceilingOf s (dmaxNumOf s (s.packEst.eg + s.bankEst.eg)) s.adm.eByteInUse ∧
    (recomputeAll s).adm.dmaxNum = (if dmaxZero s then 0 else
      min (dmaxNumOf s (s.packEst.eg + s.bankEst.eg) * 262144) (sinterSpace s * s.adm.eByteInUse)) ∧
    (∀ n, ((recomputeAll s).ten n).guaranteed = (recomputeAll s).adm.ceiling * s.cfg (blockIndex 0x3030 n.val) 1 / 1000) ∧
    (recomputeAll s).cache.slots = s.cache.slots := by
  generalize set : joinThawed (setCeiling s) = t
  have weighed : Weighed t (recomputeAll s) := by
    have ceiling : recompute s = applyCeiling s.adm.ceiling t := by rw [← set]; rfl
    unfold recomputeAll
    rw [ceiling]
    exact (applyCeiling_weighed s.adm.ceiling).trans (.of (by simp) (by simp))
  obtain ⟨adm, cache, guaranteed⟩ := weighed
  have settled : (recomputeAll s).adm.ceiling = t.adm.ceiling := by rw [adm]
  have before : t.adm = (setCeiling s).adm := by rw [← set]; simp
  have slots : t.cache.slots = (setCeiling s).cache.slots := by rw [← set]; rfl
  have ten (n : Fin 16) : (t.ten n).guaranteed = ((setCeiling s).ten n).guaranteed := by
    have joined : (joinThawed (setCeiling s)).ten n = { (setCeiling s).ten n with thawed := false } :=
      vmap_get (fun x : Tenant => ({ x with thawed := false } : Tenant)) _ n
    rw [← set, joined]
  have sets (n : Fin 16) : ((setCeiling s).ten n).guaranteed = (setCeiling s).adm.ceiling * s.cfg (blockIndex 0x3030 n.val) 1 / 1000 := by
    unfold setCeiling
    simp [State.ten]
  rw [settled, before]
  refine ⟨?_, ?_, ?_, ?_, ?_, ?_, ?_, fun n => (guaranteed n).trans ((ten n).trans (sets n)), ?_⟩
  · rw [adm, before]; simp [setCeiling]
  · rw [adm, before]; simp [setCeiling]
  · rw [adm, before]; simp [setCeiling]
  · rw [adm, before]; simp [setCeiling]
  · rw [adm, before]; simp [setCeiling]
  · simp [setCeiling]
  · rw [adm, before]; simp [setCeiling]
  · rw [cache]; exact slots.trans (by simp [setCeiling])

end

end Sys2Proof.Machine
end

section
/-! The hold-up converter that fails. -/

namespace Sys2Proof.Machine


/-- What is raised along the way, with the log as it was, is logged from the start. -/
theorem Told.loggedFrom {ev : Nat} {s t u : State} (told : Told ev t u) (isl : t.isl = s.isl) (dict : t.dict = s.dict)
    (started : t.ev.started = s.ev.started) : Logged ev s u := fun runs log enabled =>
  told.logged ((controlRuns_of_isl isl).trans runs) (started.trans log) ((evEnabled_of isl dict ev).trans enabled)

/-! ### The hold-up converter that fails -/

section
variable (s : State) (c : Channel)

theorem setSource_holdState (closed : Bool) : (setSource c closed s).hold.state = s.hold.state := by
  unfold setSource
  cases c <;> dsimp only <;> split <;> rfl

/-- A failed converter stays failed when an assist ends. -/
theorem endAssist_failed (failed : s.hold.state = 4) : (endAssist s).hold.state = 4 := by
  unfold endAssist
  split
  · exact failed
  · have state : (setSource .bank true (setSource .pack true { s with hold.assist := none, hold.assistHeld := false })).hold.state = 4 :=
      (setSource_holdState ..).trans ((setSource_holdState ..).trans failed)
    simp [holdRefresh, holdState, state]

/-- Without an assist that ends, the hold-up converter, the switches and the rails stay. -/
theorem endAssist_none (none : s.hold.assist = none) : endAssist s = s := by
  unfold endAssist
  rw [none]

theorem discardLearn_hold (why : Cause) : (discardLearn c why s).hold = s.hold := by
  unfold discardLearn
  split
  · cases c <;> simp [State.setEst]
  · rfl

/-- The estimator's part of an abort: what is left before its assist ends. -/
def geyserDropped : State :=
  let s1 := discardLearn c .learnAborted { s with adm.geyserForce := false }
  s1.setEst c { s1.est c with geyser := .idle, geyserAfter := s.poweredSec + 86400 }

theorem geyserAbort_eq : geyserAbort c s = if geyserRuns (s.est c) then
    raise (endAssist (geyserDropped s c)) (chanEv c 150) .control [(1, chanCode c)] else s := rfl

theorem geyserDropped_hold : (geyserDropped s c).hold = s.hold := by
  unfold geyserDropped
  dsimp only
  have set (t : State) (x : Est) : (t.setEst c x).hold = t.hold := by cases c <;> rfl
  rw [set, discardLearn_hold]

theorem geyserAbort_failed (failed : s.hold.state = 4) : (geyserAbort c s).hold.state = 4 := by
  rw [geyserAbort_eq]
  split
  · have ended : (endAssist (geyserDropped s c)).hold.state = 4 := endAssist_failed _ (by rw [geyserDropped_hold]; exact failed)
    simpa using ended
  · exact failed

theorem geyserAbort_none (none : s.hold.assist = none) : (geyserAbort c s).hold = s.hold ∧ (geyserAbort c s).rails = s.rails := by
  rw [geyserAbort_eq]
  split
  · have dropped := geyserDropped_hold s c
    rw [endAssist_none _ (by rw [dropped]; exact none)]
    have rails : (geyserDropped s c).rails = s.rails := by simp [geyserDropped]
    exact ⟨by simpa using dropped, by simpa using rails⟩
  · exact ⟨rfl, rfl⟩

theorem geyserEnds_holdState : (geyserEnds s).hold.state = s.hold.state := by
  obtain ⟨b, hold⟩ := modesRefresh_hold (stageRefresh s)
  unfold geyserEnds
  rw [hold]
  simp

theorem geyserStops_failed (failed : s.hold.state = 4) : (geyserStops s).hold.state = 4 := by
  unfold geyserStops geyserAbortAll
  exact (geyserEnds_holdState _).trans (geyserAbort_failed _ _ (geyserAbort_failed _ _ failed))

theorem geyserStops_none (none : s.hold.assist = none) : (geyserStops s).rails = s.rails := by
  obtain ⟨hold, rails⟩ := geyserAbort_none s .pack none
  have both := (geyserAbort_none (geyserAbort .pack s) .bank (by rw [hold]; exact none)).2
  have ends (t : State) : (geyserEnds t).rails = t.rails := by simp
  unfold geyserStops geyserAbortAll
  rw [ends, both, rails]

theorem setSource_fault (closed : Bool) : (setSource c closed s).rails.fault = s.rails.fault ∧
    (setSource c closed s).rails.latched = s.rails.latched := by
  unfold setSource
  cases c <;> dsimp only <;> split <;> exact ⟨rfl, rfl⟩

theorem endAssist_fault : (endAssist s).rails.fault = s.rails.fault ∧ (endAssist s).rails.latched = s.rails.latched := by
  unfold endAssist
  split
  · exact ⟨rfl, rfl⟩
  · simp [holdRefresh, setSource_fault]

/-- The record of the first fault outlives the cycles. -/
theorem geyserStops_fault : (geyserStops s).rails.fault = s.rails.fault ∧ (geyserStops s).rails.latched = s.rails.latched := by
  have abort (c : Channel) (t : State) : (geyserAbort c t).rails.fault = t.rails.fault ∧ (geyserAbort c t).rails.latched = t.rails.latched := by
    have drops : (geyserDropped t c).rails = t.rails := by simp [geyserDropped]
    rw [geyserAbort_eq]
    split
    · simp [endAssist_fault, drops]
    · exact ⟨rfl, rfl⟩
  have ends (t : State) : (geyserEnds t).rails = t.rails := by simp
  unfold geyserStops geyserAbortAll
  rw [ends, (abort ..).1, (abort ..).1, (abort ..).2, (abort ..).2]
  exact ⟨rfl, rfl⟩

theorem geyserStops_pubSeq : (geyserStops s).adm.pubSeq = s.adm.pubSeq := by
  have abort (c : Channel) (t : State) : (geyserAbort c t).adm.pubSeq = t.adm.pubSeq := by
    unfold geyserAbort
    dsimp only
    split <;> simp
  have ends (t : State) : (geyserEnds t).adm.pubSeq = t.adm.pubSeq := by
    unfold geyserEnds stageRefresh
    dsimp only
    split <;> simp
  unfold geyserStops geyserAbortAll
  rw [ends, abort, abort]

theorem recomputeAll_hold : (recomputeAll s).hold = s.hold := by
  have set : (setCeiling s).hold = s.hold := by simp [setCeiling]
  unfold recomputeAll recompute
  simp [set]

/-- The figures of a publication, before the ceiling follows them. -/
def figured (pack bank : Nat) : State := { s with
    packEst.eg := pack, bankEst.eg := bank
    adm := { s.adm with pubSeq := s.adm.pubSeq + 1, pubAt := some s.time.now, stale := false, eByteInUse := s.adm.eByte } }

theorem publishFigures_eq (pack bank : Nat) : publishFigures pack bank s = recomputeAll (figured s pack bank) := rfl

/-- What the loop publishes. -/
theorem publishFigures_result (pack bank : Nat) : (publishFigures pack bank s).packEst.eg = pack ∧
    (publishFigures pack bank s).bankEst.eg = bank ∧ (publishFigures pack bank s).hold = s.hold ∧
    (publishFigures pack bank s).adm.pubSeq = s.adm.pubSeq + 1 ∧ (publishFigures pack bank s).cache.slots = s.cache.slots := by
  obtain ⟨seq, -, -, -, -, -, -, -, slots⟩ := recomputeAll_adm (figured s pack bank)
  rw [publishFigures_eq, seq, slots, recomputeAll_hold]
  simp [figured]

/-- A hold-up converter that has failed, with its cycles stopped. -/
def holdUpStopped : State := geyserStops (raise { s with hold.state := 4 } 40 .supervisor [(1, holdState s.hold)])

theorem holdUpStopped_frame : (holdUpStopped s).time = s.time ∧ (holdUpStopped s).isl = s.isl ∧ (holdUpStopped s).life = s.life ∧
    (holdUpStopped s).dict = s.dict ∧ (holdUpStopped s).port = s.port ∧ (holdUpStopped s).keep = s.keep ∧
    (holdUpStopped s).outage = s.outage ∧ (holdUpStopped s).flash = s.flash ∧ (holdUpStopped s).cache = s.cache := by
  simp [holdUpStopped]

theorem holdUpStopped_result : Told 40 s (holdUpStopped s) ∧ (holdUpStopped s).hold.state = 4 ∧
    (holdUpStopped s).adm.pubSeq = s.adm.pubSeq ∧ (s.hold.assist = none → (holdUpStopped s).rails = s.rails) ∧ (holdUpStopped s).rails.fault = s.rails.fault ∧
    Grows true s.ev (holdUpStopped s).ev := by
  unfold holdUpStopped
  generalize failed : raise { s with hold.state := 4 } 40 .supervisor [(1, holdState s.hold)] = u
  have told : Told 40 s u := failed ▸ (raise_told ..).of rfl rfl rfl
  have grows : Grows true s.ev u.ev := failed ▸ raise_grows _ _ _ _ (.refl _)
  have hold : u.hold = { s.hold with state := 4 } := by rw [← failed]; simp
  have rails : u.rails = s.rails := by rw [← failed]; simp
  have adm : u.adm = s.adm := by rw [← failed]; simp
  exact ⟨told.grows (geyserStops_grows _ (.refl _)), geyserStops_failed _ (by rw [hold]), (geyserStops_pubSeq u).trans (by rw [adm]),
    fun none => (geyserStops_none _ (by rw [hold]; exact none)).trans rails, (geyserStops_fault u).1.trans (by rw [rails]), geyserStops_grows _ grows⟩

/-- After that every channel publishes 0 J. -/
def holdUpZeroed : State :=
  if publishes (holdUpStopped s) then publishFigures 0 0 (holdUpStopped s)
  else { holdUpStopped s with packEst.eg := 0, bankEst.eg := 0 }

theorem holdUpFails_eq : holdUpFails s = leaveSimmer 5 (holdUpZeroed s) := by
  unfold holdUpFails holdUpZeroed holdUpStopped
  dsimp only

theorem holdUpZeroed_frame : (holdUpZeroed s).time = s.time ∧ (holdUpZeroed s).isl = s.isl ∧ (holdUpZeroed s).life = s.life ∧
    (holdUpZeroed s).dict = s.dict ∧ (holdUpZeroed s).port = s.port ∧ (holdUpZeroed s).keep = s.keep ∧
    (holdUpZeroed s).outage = s.outage ∧ (holdUpZeroed s).flash = s.flash := by
  unfold holdUpZeroed
  split <;> simp [holdUpStopped_frame]

theorem holdUpZeroed_result : Told 40 s (holdUpZeroed s) ∧ (holdUpZeroed s).hold.state = 4 ∧ (holdUpZeroed s).packEst.eg = 0 ∧
    (holdUpZeroed s).bankEst.eg = 0 ∧ (publishes s = true → (holdUpZeroed s).adm.pubSeq = s.adm.pubSeq + 1) ∧
    (holdUpZeroed s).cache.slots = s.cache.slots ∧ (s.hold.assist = none → (holdUpZeroed s).rails = s.rails) ∧
    (holdUpZeroed s).rails.fault = s.rails.fault ∧
    Grows true s.ev (holdUpZeroed s).ev := by
  obtain ⟨told, state, seq, rails, fault, grows⟩ := holdUpStopped_result s
  have cache : (holdUpStopped s).cache = s.cache := by simp [holdUpStopped]
  have stays : publishes (holdUpStopped s) = publishes s := by
    unfold publishes
    rw [controlRuns_of_isl (s := s) (by simp [holdUpStopped]), show (holdUpStopped s).life = s.life by simp [holdUpStopped]]
  unfold holdUpZeroed
  rw [stays]
  generalize holdUpStopped s = u at told state seq rails fault grows cache ⊢
  split
  · obtain ⟨pack, bank, hold, seq', slots⟩ := publishFigures_result u 0 0
    refine ⟨told.grows (publishFigures_grows _ (.refl _) _ _), by rw [hold, state], pack, bank, fun _ => by rw [seq', seq], by rw [slots, cache],
      fun none => ?_, ?_, publishFigures_grows _ grows _ _⟩
    · simp [rails none]
    · simp [fault]
  · rename_i off
    exact ⟨told.ev_eq rfl, state, rfl, rfl, fun on => absurd on off, congrArg Cache.slots cache, rails, fault, grows⟩

end

theorem Grows.mono {g e : Events} (h : Grows true g e) : Grows false g e := ⟨h.pending, fun no => absurd no (by simp), fun no => absurd no (by simp)⟩

end Sys2Proof.Machine
end

section
/-! The walks of the rails, their ramps and the failures to come up (O21). -/

namespace Sys2Proof.Machine


/-! ### A ramp that fails -/

section
variable {s : State} (kind lag : Nat) (r q : Fin 12) (g : Fin 8)

/-- A gate that is pulled down by a fault. -/
def failedGate (lag : Nat) (x : GateReg) : GateReg := ⟨.failed, false, max x.lagMax lag⟩

/-- A rail that is pulled down by a fault. -/
def failedRail (x : Rail) : Rail := { x with status := .failed, outRun := 0, inRun := 0, ramped := false, falling := false, offBy := .fault }

theorem pullRail_rl : (pullRail lag r s).rl q = if r = q then failedRail (s.rl q) else s.rl q := by
  unfold pullRail gateFail
  simp [failedRail]

theorem pullRail_gate : gateAt (pullRail lag r s) g = if s.gateOf r = g then failedGate lag (gateAt s g) else gateAt s g := by
  unfold pullRail gateFail
  simp [failedGate]

theorem latchRail_rl (reading : Nat) : (latchRail kind r reading lag s).rl q = s.rl q := by
  unfold State.rl latchRail
  rw [(latchFault_rails ..).2.2]

theorem latchRail_gate (reading : Nat) : gateAt (latchRail kind r reading lag s) g = gateAt s g := by
  unfold gateAt latchRail
  rw [(latchFault_rails ..).2.2]

/-- A rail that has failed to come up: pulled down, its fault latched and told. -/
def rampPulled (kind lag : Nat) (r : Fin 12) (s : State) : State :=
  raise (pullRail lag r (latchRail kind r (s.rl r).mv lag s)) (320 + (s.gateOf r).val) .supervisor [(1, kind)]

theorem rampPulled_rl : (rampPulled kind lag r s).rl q = if r = q then failedRail (s.rl q) else s.rl q := by
  rw [rampPulled, rl_raise, pullRail_rl, latchRail_rl]

theorem rampPulled_gate : gateAt (rampPulled kind lag r s) g = if s.gateOf r = g then failedGate lag (gateAt s g) else gateAt s g := by
  have same : (latchRail kind r (s.rl r).mv lag s).gateOf = s.gateOf := gateOf_congr (by simp [latchRail]) (by simp [latchRail])
  rw [rampPulled, gateAt_raise, pullRail_gate, latchRail_gate, same]

theorem rampPulled_told : Told 343 s (rampPulled kind lag r s) := by
  have told : Told 343 s (latchRail kind r (s.rl r).mv lag s) := (raise_told ..).of rfl rfl rfl
  have pulled : (pullRail lag r (latchRail kind r (s.rl r).mv lag s)).ev = (latchRail kind r (s.rl r).mv lag s).ev := rfl
  exact (told.ev_eq pulled).grows (raise_grows _ _ _ _ (.refl _))

theorem rampPulled_fault : (rampPulled kind lag r s).rails.latched = true ∧ (s.rails.fault.kind = 0 →
    (rampPulled kind lag r s).rails.fault.kind = kind ∧ (rampPulled kind lag r s).rails.fault.rail = r.val) := by
  have rails : (rampPulled kind lag r s).rails = (pullRail lag r (latchRail kind r (s.rl r).mv lag s)).rails := by simp [rampPulled]
  rw [rails]
  have fault : (pullRail lag r (latchRail kind r (s.rl r).mv lag s)).rails.fault = (latchRail kind r (s.rl r).mv lag s).rails.fault ∧
    (pullRail lag r (latchRail kind r (s.rl r).mv lag s)).rails.latched = (latchRail kind r (s.rl r).mv lag s).rails.latched := ⟨rfl, rfl⟩
  rw [fault.1, fault.2]
  unfold latchRail latchFault
  refine ⟨by simp, fun first => ?_⟩
  simp [first]

/-- What a rail that has failed leaves: nothing changes but the rails, the CAN FD layer and the events. -/
theorem rampPulled_frame : rampPulled kind lag r s = withEvents { s with rails := (rampPulled kind lag r s).rails } (rampPulled kind lag r s) := by
  have rails : (rampPulled kind lag r s).rails = (pullRail lag r (latchRail kind r (s.rl r).mv lag s)).rails := by simp [rampPulled]
  rw [rails, rampPulled, raise_eq, latchRail, latchFault, raise_eq]
  rfl

/-- An up walk that goes on leaves the rails and gates as they are. -/
theorem advanceUp_rails : (advanceUp s).rails.rail = s.rails.rail ∧ (advanceUp s).rails.gate = s.rails.gate ∧
    (advanceUp s).rails.fault = s.rails.fault ∧ (advanceUp s).rails.latched = s.rails.latched := by
  unfold advanceUp
  split
  · split
    · exact ⟨rfl, rfl, rfl, rfl⟩
    · split
      · have done (t : State) : (upDone t).rails = t.rails := by
          unfold upDone
          split <;> rfl
        rw [done]
        simp [endUpWalk]
      · exact ⟨rfl, rfl, rfl, rfl⟩
  · exact ⟨rfl, rfl, rfl, rfl⟩

theorem advanceUp_rl : (advanceUp s).rl q = s.rl q := by unfold State.rl; rw [advanceUp_rails.1]
theorem advanceUp_gate : gateAt (advanceUp s) g = gateAt s g := by unfold gateAt; rw [advanceUp_rails.2.1]

theorem advanceUp_driven : (advanceUp s).driven r = s.driven r := by
  have gates : (advanceUp s).gateOf = s.gateOf := gateOf_congr (by simp) (by simp)
  have gated : (advanceUp s).gated = s.gated := gated_congr (by simp) (by simp)
  rw [driven_eq, driven_eq, gates, gated, advanceUp_gate]

theorem afterPull_service (service : s.life.dev ≠ .halt) : afterPull s = advanceUp s := congrArg advanceUp (if_neg service)

/-- Only an input fail and a collapse of VKEEP rank above a fatal fault, by the device state alone. -/
def aboveFault (d : DevState) (c : Instr) : Bool :=
  match c with
  | .vkeepCollapse _ _ => d != .off
  | .inputFail => failEnds d
  | _ => false

theorem aboveFault_iff (s : State) (c : Instr) : 4 < transitionRank s c ↔ aboveFault s.life.dev c = true := by
  unfold transitionRank
  split
  · by_cases off : s.life.dev = .off <;> simp [aboveFault, off]
  · by_cases ends : failEnds s.life.dev = true <;> simp [aboveFault, ends]
  all_goals
    have low : ∀ (p : Prop) [Decidable p] (n : Nat), n ≤ 4 → ¬4 < if p then n else 0 := fun p _ n small => by split <;> omega
    exact iff_of_false (low _ _ (by decide)) (by simp [aboveFault])

/-- Whether a condition of a rank above that of a fatal fault waits, hangs on the device state and the queue alone. -/
theorem outranked_fault {t : State} (dev : t.life.dev = s.life.dev) (pending : t.pending = s.pending) : outranked 4 t = outranked 4 s := by
  have ranks (u : State) : outranked 4 u = u.pending.any (aboveFault u.life.dev) := by
    unfold outranked
    congr 1
    funext c
    exact Bool.eq_iff_iff.2 (decide_eq_true_iff.trans (aboveFault_iff u c))
  rw [ranks, ranks, dev, pending]

end

/-! ### The steps of the walks -/

section
variable {s : State} {gs : List Nat}

theorem execUpStepDelay_next (walk : s.rails.walk = .up gs) (delaying : s.rails.delaying = true) (alone : stepsWithGroup s = false) :
    exec .upStepDelay s = .next (if (upFrom gs (s.rails.pos + 1) s).rails.walk = .none then upDone (upFrom gs (s.rails.pos + 1) s)
      else upFrom gs (s.rails.pos + 1) s) := by
  show execUpStepDelay s = _
  unfold execUpStepDelay
  rw [walk]
  exact (if_neg (by simp [delaying])).trans (if_neg (by simp [alone]))

@[simp] theorem clearFalling_rl (r : Fin 12) : (clearFalling s).rl r = { s.rl r with falling := false } :=
  vmap_get (fun x : Rail => ({ x with falling := false } : Rail)) s.rails.rail r

theorem clearFalling_none : (clearFalling s).noneFalling = true := List.all_eq_true.2 fun r _ => by simp

/-- The end of a position of a down walk that the member does alone: the next position falls, or the walk ends. -/
theorem downStepDone_walk (walk : s.rails.walk = .down gs) (alone : (stepsWithGroup s && s.tremor.walk == .downWalk) = false) :
    downStepDone s = if (downFrom gs s.rails.pos (clearFalling s)).rails.walk = .none then afterDown (downFrom gs s.rails.pos (clearFalling s))
      else downFrom gs s.rails.pos (clearFalling s) := by
  unfold downStepDone
  rw [walk]
  refine if_neg fun h => ?_
  simp [h.1, h.2] at alone

theorem execDownStepEnd_done (falling : s.noneFalling = false) (fallen : s.fallenAll = true) :
    exec .downStepEnd s = .next (downStepDone s) := if_neg (by simp [falling, fallen])

/-- An up walk that ends. -/
theorem endUpWalk_result (groups : List Nat) (pos : Nat) :
    let t := endUpWalk { s with rails := { s.rails with walk := .up groups, pos := pos } }
    Told 340 s t ∧ t.rails.walk = .none ∧ t.rails.rail = s.rails.rail ∧ t.rails.gate = s.rails.gate ∧
    t = withEvents { s with rails := t.rails } t := by
  obtain ⟨told, rails, frame⟩ := railsRaised s { s.rails with walk := .none, pos := pos, delaying := false } 340 .supervisor []
  exact ⟨told, by rw [endUpWalk, rails], by rw [endUpWalk, rails], by rw [endUpWalk, rails], by rw [endUpWalk, rails]; exact frame⟩

/-- With the walk up the path of a returning input is over. -/
theorem upDone_result {t : State} (alone : stepsWithGroup t = false) : (upDone t).rails = t.rails ∧ (upDone t).ev = t.ev ∧
    (t.outage.phase = .returning → (upDone t).outage.phase = .none) ∧
    upDone t = { t with outage := { t.outage with phase := (upDone t).outage.phase } } := by
  unfold upDone
  split
  · exact ⟨rfl, rfl, fun _ => rfl, rfl⟩
  · rename_i stays
    exact ⟨rfl, rfl, fun returning => absurd ⟨returning, alone⟩ stays, rfl⟩

/-- A down walk that ends. -/
theorem endDownWalk_result (groups : List Nat) (pos : Nat) :
    let t := endDownWalk { s with rails := { s.rails with walk := .down groups, pos := pos } }
    Told 341 s t ∧ t.rails.walk = .none ∧ t.rails.rail = s.rails.rail ∧ t.rails.gate = s.rails.gate ∧
    t = withEvents { s with rails := t.rails } t := by
  obtain ⟨told, rails, frame⟩ := railsRaised s { s.rails with walk := .none, pos := pos, delaying := false } 341 .supervisor []
  exact ⟨told, by rw [endDownWalk, rails], by rw [endDownWalk, rails], by rw [endDownWalk, rails], by rw [endDownWalk, rails]; exact frame⟩

/-- On the path a walk that has ended starts nothing. -/
theorem afterDown_path (dev : s.life.dev = .simmer ∨ s.life.dev = .sinter) : afterDown s = s := by
  unfold afterDown
  rcases dev with h | h <;> rw [h]

/-- The fault record and what is latched survive a walk's step down. -/
theorem walkDown_latched (groups : List Nat) : (walkDown groups s).rails.latched = s.rails.latched := by
  unfold walkDown
  split
  · exact List.foldlRecOn (motive := fun t : State => t.rails.latched = s.rails.latched) (s.downRails groups _) _ rfl fun t h r _ => h
  · rfl

/-- A BOOT that fails walks down to HALT, or is there at once. -/
theorem bootFails_result {cause : Nat} (rank : outranked 4 s = false) (firmware : cause ≠ 1) (dram : cause ≠ 3) :
    ((bootFails cause s).life.haltPending = cause ∨ (bootFails cause s).life.dev = .halt ∧ (bootFails cause s).life.haltCause = cause) ∧
    (bootFails cause s).rails.latched = s.rails.latched := by
  have latched : (walkDown [0, 1, 2, 3, 4] { s with life.haltPending := cause }).rails.latched = s.rails.latched := walkDown_latched _
  have fails : bootFails cause s = if (walkDown [0, 1, 2, 3, 4] { s with life.haltPending := cause }).rails.walk = .none then
      enterHalt cause true false (walkDown [0, 1, 2, 3, 4] { s with life.haltPending := cause })
    else walkDown [0, 1, 2, 3, 4] { s with life.haltPending := cause } := if_neg (by simp [rank])
  rw [fails]
  split
  · obtain ⟨dev, halt, -⟩ := enterHalt_life cause true false (walkDown [0, 1, 2, 3, 4] { s with life.haltPending := cause })
    exact ⟨.inr ⟨dev, halt⟩, by rw [enterHalt_rails _ _ _ _ ⟨firmware, dram⟩]; exact latched⟩
  · exact ⟨.inl (by simp), latched⟩

/-! ### A ramp that fails, by the state -/

variable {kind lag : Nat} {r : Fin 12} {g : Fin 8}

theorem gateOf_of_railOf (rail : s.railOf g = some r) : s.gateOf r = g := by
  have on := List.find?_some rail
  simp only [State.onGate, Bool.and_eq_true, beq_iff_eq] at on
  unfold State.gateOf
  rw [on.2]
  exact Fin.ext (Nat.mod_eq_of_lt g.isLt)

theorem execRamp_fails {cmd : Instr} (which : (kind, cmd) ∈ [(1, Instr.rampLagTrip g lag), (2, .rampTimeout g lag)])
    (ramping : s.rails.gate[g].state = .ramping) (source : s.isSourceGate g = false) (rail : s.railOf g = some r) :
    exec cmd s = .next (rampFails kind r lag s) := by
  have fails (k : Nat) : gateRampFails k g lag s = rampFails k r lag s := by
    unfold gateRampFails
    rw [if_neg (not_not.2 ramping), source, if_neg Bool.false_ne_true, rail]
  simp only [List.mem_cons, Prod.mk.injEq, List.not_mem_nil, or_false] at which
  obtain ⟨rfl, rfl⟩ | ⟨rfl, rfl⟩ := which
  · exact congrArg Host.Outcome.next (fails 1)
  · exact congrArg Host.Outcome.next (fails 2)

/-- In service a rail that fails to come up is pulled down, and the walk goes on without it. -/
theorem rampFails_service (dev : s.life.dev = .serve ∨ s.life.dev = .restore ∨ s.life.dev = .boot ∧ s.life.boot ≠ .cold)
    (action : s.railCfg r 0x0E ≠ 2) (alone : stepsWithGroup s = false) : rampFails kind r lag s = advanceUp (rampPulled kind lag r s) := by
  have life : (rampPulled kind lag r s).life = s.life := (congrArg State.life (rampPulled_frame kind lag r) :)
  have notCold : ¬(s.life.dev = .boot ∧ s.life.boot = .cold) := by
    rintro ⟨boot, cold⟩
    rcases dev with h | h | h
    · exact absurd (boot.symm.trans h) (by decide)
    · exact absurd (boot.symm.trans h) (by decide)
    · exact h.2 cold
  have notHalt : (rampPulled kind lag r s).life.dev ≠ .halt := by
    rw [life]
    rcases dev with h | h | h
    · rw [h]; decide
    · rw [h]; decide
    · rw [h.1]; decide
  have fails : rampFails kind r lag s = afterPull (rampPulled kind lag r s) := by
    unfold rampFails
    simp only [alone, Bool.false_and, Bool.false_eq_true, if_false, notCold, action, false_and, or_self]
    rfl
  rw [fails, afterPull_service notHalt]

/-- What that leaves. -/
theorem rampFails_result (dev : s.life.dev = .serve ∨ s.life.dev = .restore ∨ s.life.dev = .boot ∧ s.life.boot ≠ .cold)
    (action : s.railCfg r 0x0E ≠ 2) (alone : stepsWithGroup s = false) :
    let t := rampFails kind r lag s
    Told 343 s t ∧ (t.rl r).status = .failed ∧ gateAt t (s.gateOf r) = failedGate lag (gateAt s (s.gateOf r)) ∧ t.driven r = false ∧
    (s.rails.fault.kind = 0 → t.rails.fault.kind = kind ∧ t.rails.fault.rail = r.val) ∧ (∀ q, q ≠ r → t.rl q = s.rl q) ∧
    (∀ h, h ≠ s.gateOf r → gateAt t h = gateAt s h) ∧ t.life = s.life ∧ t.isl = s.isl ∧ t.dict = s.dict ∧ t.time = s.time ∧
    t.hold = s.hold ∧ t.keep = s.keep ∧ t.flash = s.flash := by
  dsimp only
  rw [rampFails_service dev action alone]
  have frame := rampPulled_frame (s := s) kind lag r
  have gates : (rampPulled kind lag r s).gateOf = s.gateOf := gateOf_congr (congrArg State.isl frame :) (congrArg State.dict frame :)
  have kept : (rampPulled kind lag r s).life = s.life ∧ (rampPulled kind lag r s).isl = s.isl ∧ (rampPulled kind lag r s).dict = s.dict ∧
      (rampPulled kind lag r s).time = s.time ∧ (rampPulled kind lag r s).hold = s.hold ∧ (rampPulled kind lag r s).keep = s.keep ∧
      (rampPulled kind lag r s).flash = s.flash := by
    rw [frame]
    exact ⟨rfl, rfl, rfl, rfl, rfl, rfl, rfl⟩
  refine ⟨?_, ?_, ?_, ?_, ?_, fun q other => ?_, fun h other => ?_, ?_, ?_, ?_, ?_, ?_, ?_, ?_⟩
  · exact (rampPulled_told kind lag r).grows (advanceUp_grows _ (.refl _))
  · rw [advanceUp_rl, rampPulled_rl, if_pos rfl]; rfl
  · rw [advanceUp_gate, rampPulled_gate, if_pos rfl]
  · rw [advanceUp_driven, driven_eq, gates, rampPulled_gate, if_pos rfl]
    simp [failedGate]
  · rw [advanceUp_rails.2.2.1]
    exact (rampPulled_fault kind lag r).2
  · rw [advanceUp_rl, rampPulled_rl, if_neg (Ne.symm other)]
  · rw [advanceUp_gate, rampPulled_gate, if_neg (Ne.symm other)]
  all_goals simp [kept]

/-- A ramp that ends: its gate is on and its rail waits to be good, and the walk goes on. -/
def rampDone (g : Fin 8) (lag : Nat) (r : Fin 12) (s : State) : State :=
  (s.modGate g fun _ => ⟨.on, true, lag⟩).modRail r fun x => { x with
    status := .pending, ramped := true, scans := 0, inRun := 0, outRun := 0 }

theorem execRampEnd_done (ramping : s.rails.gate[g].state = .ramping) (source : s.isSourceGate g = false) (rail : s.railOf g = some r) :
    exec (.rampEnd g lag) s = .next (advanceUp (rampDone g lag r s)) := by
  show execRampEnd g lag s = _
  unfold execRampEnd
  rw [if_neg (not_not.2 ramping), source]
  dsimp only
  rw [if_neg Bool.false_ne_true, rail]
  rfl

theorem rampDone_rl (q : Fin 12) : (rampDone g lag r s).rl q = if r = q then
    { s.rl q with status := .pending, ramped := true, scans := 0, inRun := 0, outRun := 0 } else s.rl q := by simp [rampDone]

theorem rampDone_gate (h : Fin 8) : gateAt (rampDone g lag r s) h = if g = h then ⟨.on, true, lag⟩ else gateAt s h := by simp [rampDone]

/-- The failure of a ramp in a cold BOOT ends it. -/
theorem rampFails_boot (boot : s.life.dev = .boot) (cold : s.life.boot = .cold) (free : s.life.haltPending = 0)
    (path : s.outage.phase = .none) (rank : outranked 4 s = false) :
    (rampFails kind r lag s).rails.latched = true ∧
    ((rampFails kind r lag s).life.haltPending = 2 ∨ (rampFails kind r lag s).life.dev = .halt ∧ (rampFails kind r lag s).life.haltCause = 2) := by
  generalize pulled : (if (stepsWithGroup s && s.tremor.walk == .upWalk) then tremorFault (rampPulled kind lag r s)
    else rampPulled kind lag r s) = t
  have fails : rampFails kind r lag s = bootFails 2 (afterPull t) := by
    unfold rampFails
    dsimp only
    rw [if_pos ⟨boot, cold⟩, if_pos ⟨free, path⟩, ← pulled]
    rfl
  have frame := rampPulled_frame (s := s) kind lag r
  have life' : (rampPulled kind lag r s).life = s.life := (congrArg State.life frame :)
  have pending' : (rampPulled kind lag r s).pending = s.pending := (congrArg State.pending frame :)
  have kept : t.life = s.life ∧ t.pending = s.pending ∧ t.rails.latched = true := by
    have latched := (rampPulled_fault (s := s) kind lag r).1
    rw [← pulled]
    split
    · simp [tremorFault_frame, life', pending', latched]
    · exact ⟨life', pending', latched⟩
  obtain ⟨life, pending, latched⟩ := kept
  have up : afterPull t = advanceUp t := afterPull_service (by rw [life, boot]; decide)
  have free' : outranked 4 (advanceUp t) = false := (outranked_fault (s := s) (by simp [life]) (by simp [pending])).trans rank
  obtain ⟨ends, stays⟩ := bootFails_result (cause := 2) free' (by decide) (by decide)
  rw [fails, up]
  exact ⟨stays.trans (advanceUp_rails.2.2.2.trans latched), ends⟩

/-! ### The failure of a source switch -/

theorem execRamp_sourceFails {cmd : Instr} (which : (kind, cmd) ∈ [(1, Instr.rampLagTrip g lag), (2, .rampTimeout g lag)])
    (ramping : s.rails.gate[g].state = .ramping) (source : s.isSourceGate g = true) :
    exec cmd s = .next (sourceFails kind g lag s) := by
  have fails (k : Nat) : gateRampFails k g lag s = sourceFails k g lag s := (if_neg (not_not.2 ramping)).trans (if_pos source)
  simp only [List.mem_cons, Prod.mk.injEq, List.not_mem_nil, or_false] at which
  obtain ⟨rfl, rfl⟩ | ⟨rfl, rfl⟩ := which
  · exact congrArg Host.Outcome.next (fails 1)
  · exact congrArg Host.Outcome.next (fails 2)

/-- A source switch that has failed: its gate pulled down, its fault latched and told. -/
def sourcePulled (kind : Nat) (g : Fin 8) (lag : Nat) (s : State) : State :=
  raise (gateFail g lag (latchFault kind 0xFF (16 + g.val) 0 0 lag s)) (320 + g.val) .supervisor [(1, kind)]

theorem sourcePulled_frame : sourcePulled kind g lag s =
    withEvents { s with rails := (sourcePulled kind g lag s).rails } (sourcePulled kind g lag s) := by
  have rails : (sourcePulled kind g lag s).rails = (gateFail g lag (latchFault kind 0xFF (16 + g.val) 0 0 lag s)).rails := by simp [sourcePulled]
  rw [rails, sourcePulled, raise_eq, latchFault, raise_eq]
  rfl

theorem sourcePulled_result : Told 343 s (sourcePulled kind g lag s) ∧ Logged (320 + g.val) s (sourcePulled kind g lag s) ∧
    (gateAt (sourcePulled kind g lag s) g).driven = false ∧
    (s.rails.fault.kind = 0 → (sourcePulled kind g lag s).rails.fault.kind = kind ∧ (sourcePulled kind g lag s).rails.fault.rail = 0xFF) := by
  have fault : (sourcePulled kind g lag s).rails.fault = (latchFault kind 0xFF (16 + g.val) 0 0 lag s).rails.fault := by
    have rails : (sourcePulled kind g lag s).rails = (gateFail g lag (latchFault kind 0xFF (16 + g.val) 0 0 lag s)).rails := by simp [sourcePulled]
    rw [rails]
    rfl
  refine ⟨?_, ?_, ?_, fun first => ?_⟩
  · have told : Told 343 s (gateFail g lag (latchFault kind 0xFF (16 + g.val) 0 0 lag s)) := by
      have told : Told 343 s (latchFault kind 0xFF (16 + g.val) 0 0 lag s) := (raise_told ..).of rfl rfl rfl
      exact told.ev_eq rfl
    exact told.raise ..
  · have told : Told (320 + g.val) (gateFail g lag (latchFault kind 0xFF (16 + g.val) 0 0 lag s)) (sourcePulled kind g lag s) := raise_told ..
    refine told.loggedFrom (by simp [gateFail, latchFault]) (by simp [gateFail, latchFault]) ?_
    exact raise_started ..
  · rw [sourcePulled, gateAt_raise, gateFail, gateAt_modGate, if_pos rfl]
  · rw [fault]
    unfold latchFault
    simp [first]

end

end Sys2Proof.Machine
end

section
open Sys2Proof Sys2Proof.Machine

/-- Settles O21: a walk goes on with its next position or ends, a ramp that ends waits to be good, and one that fails pulls its gate
down with its fault latched. -/
theorem walksAndRamps : Obligations.WalksAndRamps := by
  unfold Obligations.WalksAndRamps
  refine ⟨?up, ?upEnds, ?upWaits, ?down, ?fallen, ?downEnds, ?source, ?ramped, ?fails, ?notGood, ?bootFails, ?sourceFails⟩
  case up =>
    intro gs q s walk delaying alone next
    have up : upFrom gs (s.rails.pos + 1) s = rampStep gs q s := by unfold upFrom; rw [next]
    have run := execUpStepDelay_next walk delaying alone
    rw [up, if_neg (by rw [(rampStep_walk ..).1]; simp)] at run
    obtain ⟨walk', pos, delay⟩ := rampStep_walk s gs q
    refine ⟨_, run, walk', pos, delay, fun r mem => ⟨?_, ?_⟩, fun r out => ?_, rampStep_frame' ..⟩
    · rw [rampStep_rl, if_pos mem]; rfl
    · exact (rampStep_gate ..).trans (if_pos (List.mem_map_of_mem mem))
    · rw [rampStep_rl, if_neg out]
  case upEnds =>
    intro gs s walk delaying alone none
    have ends : upFrom gs (s.rails.pos + 1) s = endUpWalk { s with rails := { s.rails with walk := .up gs, pos := 12 } } := by
      unfold upFrom; rw [none]
    have run := execUpStepDelay_next walk delaying alone
    obtain ⟨told, walked, rail, gate, frame⟩ := endUpWalk_result (s := s) gs 12
    rw [ends, if_pos walked] at run
    generalize endUpWalk { s with rails := { s.rails with walk := .up gs, pos := 12 } } = w at run told walked rail gate frame
    have alone' : stepsWithGroup w = false := by rw [frame]; exact alone
    have outage : w.outage = s.outage := (congrArg State.outage frame :)
    obtain ⟨rails, ev, returns, frame'⟩ := upDone_result alone'
    refine ⟨_, run, told.ev_eq ev, by rw [rails, walked], by rw [rails, rail], by rw [rails, gate], fun back => returns (by rw [outage, back]), ?_⟩
    rw [rails, frame', outage]
    rw [frame]
    rfl
  case upWaits =>
    intro gs s walk delaying steps
    show execUpStepDelay s = _
    unfold execUpStepDelay
    rw [walk]
    simp [delaying, steps]
  case down =>
    intro gs q s walk falling fallen alone next
    have down : downFrom gs s.rails.pos (clearFalling s) = dropStep gs q (clearFalling s) := by unfold downFrom; rw [next]
    have done := downStepDone_walk walk alone
    obtain ⟨walk', pos, -⟩ := dropStep_walk (clearFalling s) gs q
    rw [down, if_neg (by rw [walk']; simp)] at done
    have rails : (clearFalling s).downRails gs q = s.downRails gs q := rfl
    refine ⟨_, (execDownStepEnd_done falling fallen).trans (by rw [done]), walk', pos, fun r mem => ⟨?_, ?_, ?_⟩, fun r out => ?_, ?_⟩
    · rw [dropStep_rl, if_pos (rails ▸ mem)]; rfl
    · rw [dropStep_rl, if_pos (rails ▸ mem)]; rfl
    · exact dropStep_driven _ r _ _ (rails ▸ mem)
    · rw [dropStep_rl, if_neg (rails ▸ out), clearFalling_rl]
    · rw [dropStep_frame']; rfl
  case fallen =>
    intro s walk falling fallen dev
    have done : downStepDone s = clearFalling s := by
      unfold downStepDone
      rw [walk]
      exact if_neg dev
    rw [execDownStepEnd_done falling fallen, done]
  case downEnds =>
    intro gs s walk falling alone last dev
    generalize late : raise s 342 .supervisor [] = u
    have told : Told 342 s u := late ▸ (raise_told ..).of rfl rfl rfl
    have frame : u = withEvents s u := late ▸ raise_eq ..
    have falling' : u.noneFalling = false := by rw [frame]; exact falling
    have alone' : (stepsWithGroup u && u.tremor.walk == .downWalk) = false := by rw [frame]; exact alone
    have last' : (clearFalling u).nextDown gs u.rails.pos = none := by rw [frame]; exact last
    have walk' : u.rails.walk = .down gs := by rw [frame]; exact walk
    have run : exec .downStepTimeout s = .next (downStepDone u) := by
      rw [← late]
      exact if_neg (by simp [falling])
    have ends : downFrom gs u.rails.pos (clearFalling u) =
        endDownWalk { clearFalling u with rails := { (clearFalling u).rails with walk := .down gs, pos := 0 } } := by
      unfold downFrom; rw [last']
    obtain ⟨told', walked, rail, gate, frame'⟩ := endDownWalk_result (s := clearFalling u) gs 0
    have done := downStepDone_walk walk' alone'
    rw [ends, if_pos walked] at done
    have grows : Grows true u.ev (endDownWalk { clearFalling u with
        rails := { (clearFalling u).rails with walk := .down gs, pos := 0 } }).ev := endDownWalk_grows _ (.refl _)
    generalize endDownWalk { clearFalling u with rails := { (clearFalling u).rails with walk := .down gs, pos := 0 } } = w
      at done told' walked rail gate frame' grows
    have life : w.life = s.life := by rw [frame', frame]; rfl
    rw [done, afterDown_path (by rw [life]; exact dev)] at run
    have started : u.ev.started = s.ev.started := late ▸ raise_started ..
    refine ⟨w, run, told.grows grows, told'.loggedFrom (congrArg State.isl frame :) (congrArg State.dict frame :) started, walked, ?_, ?_, ?_⟩
    · have clear := clearFalling_none (s := u)
      unfold State.noneFalling State.rl at clear ⊢
      rw [rail]
      exact clear
    · rw [gate, frame]; rfl
    · rw [frame', frame]; rfl
  case source =>
    intro g lag s ramping source
    exact (if_neg (not_not.2 ramping)).trans (if_pos source)
  case ramped =>
    intro g lag r s ramping source rail
    refine ⟨_, execRampEnd_done ramping source rail, ?_, ?_, ?_, ?_, fun q other => ?_, fun h other => ?_, ?_, ?_, ?_, ?_, ?_, ?_, ?_⟩
    · exact (advanceUp_gate g).trans ((rampDone_gate g).trans (if_pos rfl))
    · rw [advanceUp_rl, rampDone_rl, if_pos rfl]
    · rw [advanceUp_rl, rampDone_rl, if_pos rfl]
    · rw [advanceUp_rl, rampDone_rl, if_pos rfl]
    · rw [advanceUp_rl, rampDone_rl, if_neg (Ne.symm other)]
    · exact (advanceUp_gate h).trans ((rampDone_gate h).trans (if_neg (Ne.symm other)))
    all_goals simp [rampDone]
  case fails =>
    intro g lag r s kind cmd which ramping source rail dev action alone
    obtain ⟨told, status, gate, driven, fault, rails, gates, kept⟩ := rampFails_result (kind := kind) (lag := lag) dev action alone
    have its : s.gateOf r = g := gateOf_of_railOf rail
    rw [its] at gate gates
    exact ⟨_, execRamp_fails which ramping source rail, told, status, congrArg GateReg.state gate, driven, fault, rails, gates, kept⟩
  case notGood =>
    intro r s gated mask pending ramped scans dev action alone
    obtain ⟨told, status, -, driven, fault, rails, -, kept⟩ := rampFails_result (kind := 2) (lag := s.rails.gate[s.gateOf r].lagMax)
      dev action alone
    have run : exec (.railGoodTimeout r) s = .next (rampFails 2 r s.rails.gate[s.gateOf r].lagMax s) :=
      if_neg (by simp [gated, mask, pending, ramped, scans])
    exact ⟨_, run, told, status, driven, fault, rails, kept⟩
  case bootFails =>
    intro g lag r s kind cmd which ramping source rail boot cold free path rank
    exact ⟨_, execRamp_fails which ramping source rail, rampFails_boot boot cold free path rank⟩
  case sourceFails =>
    intro g lag s kind cmd which ramping source state simmer
    obtain ⟨told, logged, driven, fault⟩ := sourcePulled_result (s := s) (kind := kind) (lag := lag) (g := g)
    have frame := sourcePulled_frame (s := s) (kind := kind) (lag := lag) (g := g)
    have run := execRamp_sourceFails which ramping source
    have hold : (sourcePulled kind g lag s).hold = s.hold := (congrArg State.hold frame :)
    have life : (sourcePulled kind g lag s).life = s.life := (congrArg State.life frame :)
    have dict : (sourcePulled kind g lag s).dict = s.dict := (congrArg State.dict frame :)
    have fails : sourceFails kind g lag s = holdUpZeroed (sourcePulled kind g lag s) := by
      have up : sourceFails kind g lag s = holdUpFails (sourcePulled kind g lag s) :=
        if_neg (show ¬(sourcePulled kind g lag s).hold.state = 4 by rw [hold]; exact state)
      rw [up, holdUpFails_eq]
      exact if_neg (by rw [(holdUpZeroed_frame _).2.2.1, life]; exact simmer)
    rw [fails] at run
    obtain ⟨-, failed, pack, bank, -, -, rails, record, grows⟩ := holdUpZeroed_result (sourcePulled kind g lag s)
    obtain ⟨-, -, life', dict', -⟩ := holdUpZeroed_frame (sourcePulled kind g lag s)
    refine ⟨_, run, ?_, fun idle => ?_, failed, pack, bank, life'.trans life, dict'.trans dict, ?_, fun first => ?_⟩
    · exact logged.grows (grows.mono)
    · rw [rails (by rw [hold]; exact idle)]
      exact driven
    · exact told.grows grows
    · rw [record]
      exact fault first
end

section
/-! What is logged stays logged through a change of state. -/

namespace Sys2Proof.Machine


/-! ### What is logged stays logged, through changes of state -/

section
variable {g : Events}

theorem logRecs_grows (s : State) (n : Nat) (l : List Rec) (x : EvPart) (h : ∀ ev, bitOf g ev = true → bitOf x.ev ev = true) :
    Grows false g (logRecs s n l x).ev :=
  ⟨fun ev p => logRecs_mono s ev n l x (h ev p), fun no => absurd no (by simp), fun no => absurd no (by simp)⟩

/-- An event system with the same pending bits. -/
theorem Grows.of_bits {e f : Events} (h : Grows false g e) (same : f.pendingBits = e.pendingBits) : Grows false g f :=
  ⟨fun ev p => by have q := h.pending ev p; unfold bitOf at q ⊢; rw [same]; exact q, fun no => absurd no (by simp), fun no => absurd no (by simp)⟩


@[simp] theorem releaseHeld_grows (s : State) (h : Grows false g s.ev) : Grows false g (releaseHeld s).ev := by
  unfold releaseHeld
  split
  · exact h
  · exact logRecs_grows _ _ _ _ h.pending

@[simp] theorem startCharge_grows (s : State) (c : Channel) (h : Grows false g s.ev) : Grows false g (startCharge s c).ev :=
    by
  unfold startCharge
  dsimp only
  (repeat' split) <;> simp (maxDischargeDepth := 20) [h]

@[simp] theorem chargeRefresh_grows (s : State) (c : Channel) (h : Grows false g s.ev) : Grows false g (chargeRefresh s c).ev
    := by
  unfold chargeRefresh
  dsimp only
  (repeat' split) <;> simp (maxDischargeDepth := 20) [h]

@[simp] theorem chargesRefresh_grows (s : State) (h : Grows false g s.ev) : Grows false g (chargesRefresh s).ev := by
  unfold chargesRefresh
  (repeat' split) <;> simp (maxDischargeDepth := 20) [h]

@[simp] theorem endProbation_grows (d : Fin 16) (s : State) (h : Grows false g s.ev) : Grows false g (endProbation d s).ev :=
    by
  unfold endProbation
  (repeat' split) <;> simp (maxDischargeDepth := 20) [h]

@[simp] theorem endProbations_grows (s : State) (h : Grows false g s.ev) : Grows false g (endProbations s).ev := by
  unfold endProbations
  (repeat' split) <;> simp +contextual (maxDischargeDepth := 20) [h]

@[simp] theorem resetQueues_grows (fn : Fin 16) (s : State) (h : Grows false g s.ev) : Grows false g (resetQueues fn s).ev :=
    by
  unfold resetQueues
  dsimp only
  (repeat' split) <;> simp +contextual (maxDischargeDepth := 20) [h]

@[simp] theorem resetRing_grows (n : Fin 16) (s : State) (h : Grows false g s.ev) : Grows false g (resetRing n s).ev :=
  h.of_bits rfl

@[simp] theorem closeLock_grows (by_ : Option Session) (s : State) (h : Grows false g s.ev) : Grows false g (closeLock by_
    s).ev := by
  unfold closeLock
  (repeat' split) <;> simp (maxDischargeDepth := 20) [h]

@[simp] theorem closeExpert_grows (s : State) (h : Grows false g s.ev) : Grows false g (closeExpert s).ev := by
  unfold closeExpert
  (repeat' split) <;> simp (maxDischargeDepth := 20) [h]

@[simp] theorem closeWindow_grows (w : Fin 7) (abandoned : Bool) (s : State) (h : Grows false g s.ev) : Grows false g
    (closeWindow w abandoned s).ev := by
  unfold closeWindow
  dsimp only
  (repeat' split) <;> simp (maxDischargeDepth := 20) [h]

@[simp] theorem closeWindows_grows (p : Win → Bool) (a : Bool) (s : State) (h : Grows false g s.ev) :
    Grows false g (closeWindows p a s).ev := by
  unfold closeWindows
  refine forAll_grows _ _ h fun t w each => ?_
  split
  · exact closeWindow_grows _ _ _ each
  · exact each

@[simp] theorem resetFunction_grows (fn : Fin 16) (s : State) (h : Grows false g s.ev) : Grows false g (resetFunction fn s).ev
    := by
  unfold resetFunction
  dsimp only
  (repeat' split) <;> simp (maxDischargeDepth := 20) [h]

@[simp] theorem resetEvery_grows (s : State) (h : Grows false g s.ev) : Grows false g (resetEvery s).ev := by
  unfold resetEvery
  (repeat' split) <;> simp +contextual (maxDischargeDepth := 20) [h]

@[simp] theorem linkLost_grows (s : State) (h : Grows false g s.ev) : Grows false g (linkLost s).ev := by
  unfold linkLost
  dsimp only
  (repeat' split) <;> simp (maxDischargeDepth := 20) [h]

@[simp] theorem hostStops_grows (s : State) (h : Grows false g s.ev) : Grows false g (hostStops s).ev := by
  unfold hostStops
  dsimp only
  (repeat' split) <;> simp (maxDischargeDepth := 20) [h]

@[simp] theorem islandsRefresh_grows (s : State) (h : Grows false g s.ev) : Grows false g (islandsRefresh s).ev := by
  unfold islandsRefresh
  dsimp only
  (repeat' split) <;> simp +contextual (maxDischargeDepth := 20) [h]

@[simp] theorem enterState_grows (d : DevState) (why : Cause) (s : State) (h : Grows false g s.ev) : Grows false g (enterState
    d why s).ev := by
  unfold enterState
  dsimp only
  (repeat' split) <;> simp (maxDischargeDepth := 20) [h]

@[simp] theorem warnWindows_grows (s : State) (h : Grows false g s.ev) : Grows false g (warnWindows s).ev := by
  have closes (t : State) (each : Grows false g t.ev) : Grows false g (forAll 7 (fun t w =>
      if t.win[w].writing ∧ (t.win[w].status ≠ 3 ∨ w = 0) then closeWindow w false t else t) t).ev := by
    refine forAll_grows _ _ each fun u w each => ?_
    split
    · exact closeWindow_grows _ _ _ each
    · exact each
  unfold warnWindows
  dsimp only
  split
  · exact closes _ (by simp [spoilFirmware, keepPend, h])
  · exact closes _ h

@[simp] theorem firstDecision_grows (s : State) (h : Grows false g s.ev) : Grows false g (firstDecision s).ev := by
  unfold firstDecision
  dsimp only
  (repeat' split) <;> simp (maxDischargeDepth := 20) [h]

@[simp] theorem enterWarn_grows (fatal : Bool) (why : Cause) (s : State) (h : Grows false g s.ev) : Grows false g (enterWarn
    fatal why s).ev := by
  unfold enterWarn
  dsimp only
  (repeat' split) <;> simp (maxDischargeDepth := 20) [h]


end

end Sys2Proof.Machine
end

section
/-! The faults of the Tremor line (O24). -/

namespace Sys2Proof.Machine


/-! ### The outage path of a fatal fault -/

section
variable (s : State)

theorem warnWindows_life : (warnWindows s).life.dev = s.life.dev ∧ (warnWindows s).life.fatalPath = s.life.fatalPath := by
  have closes (t : State) : (forAll 7 (fun t w =>
      if t.win[w].writing ∧ (t.win[w].status ≠ 3 ∨ w = 0) then closeWindow w false t else t) t).life = t.life :=
    forAll_inv (inv := fun u : State => u.life = t.life) rfl fun u w (each : u.life = t.life) => by
      split
      · simpa using each
      · exact each
  unfold warnWindows
  dsimp only
  rw [closes]
  split
  · exact ⟨rfl, rfl⟩
  · exact ⟨rfl, rfl⟩

/-- The outage path begins in WARN, by a fatal fault or by the input, and leaves a latched fault latched. -/
theorem enterWarn_result (fatal : Bool) (why : Cause) : (enterWarn fatal why s).life.dev = .warn ∧
    (enterWarn fatal why s).life.fatalPath = fatal ∧ (enterWarn fatal why s).rails.latched = s.rails.latched := by
  have stop : (stopRequest s).rails.latched = s.rails.latched := by
    unfold stopRequest
    split <;> rfl
  have decides (t : State) : (firstDecision t).life = t.life ∧ (firstDecision t).rails = t.rails := by
    unfold firstDecision
    dsimp only
    split
    · exact ⟨rfl, rfl⟩
    · split
      · exact ⟨rfl, rfl⟩
      · simp
  unfold enterWarn
  dsimp only
  refine ⟨?_, ?_, ?_⟩
  · rw [(decides _).1]; simp [warnWindows_life, holdTrims]
  · rw [(decides _).1]; simp [warnWindows_life, holdTrims]
  · rw [(decides _).2]; simp [endAssist_fault, geyserStops_fault, holdTrims, stop]

/-- A fatal fault in service ends it. -/
theorem fatalFault_service (service : s.life.dev = .serve ∨ s.life.dev = .restore ∨ s.life.dev = .boot ∧ ∃ d, s.life.boot = .warm d) :
    fatalFault s = enterWarn true (pathCause s) s := by
  unfold fatalFault
  rcases service with h | h | ⟨h, d, warm⟩
  · rw [h]
  · rw [h]
  · rw [h, warm]

/-! ### The line that fails -/

variable (kind ev : Nat)

/-- The member in fault: the line held low, its fault latched and told. -/
def linePulled : State :=
  tremorFault (latchFault kind 0xFF 0 s.tremor.counter 0 0 (raise s ev .supervisor [(1, s.tremor.counter), (1, s.tremor.walk.code)]))

/-- The line of a member in fault. -/
theorem tremorFault_result : (tremorFault s).tremor = { s.tremor with
      walk := .fault, wantDown := .none, wantReset := false, asked := false, pulling := true, high := false, heldAt := s.time.now } ∧
    tremorFault s = withEvents { s with tremor := (tremorFault s).tremor } (tremorFault s) := by
  obtain ⟨-, tremor, frame⟩ := tremorRaised s { s.tremor with
    walk := .fault, wantDown := .none, wantReset := false, asked := false, pulling := true, high := false, heldAt := s.time.now }
    391 [(1, s.tremor.counter), (1, s.tremor.walk.code)]
  have same : tremorFault s = raise { s with tremor := { s.tremor with
    walk := .fault, wantDown := .none, wantReset := false, asked := false, pulling := true, high := false, heldAt := s.time.now } }
    391 .supervisor [(1, s.tremor.counter), (1, s.tremor.walk.code)] := rfl
  rw [same, tremor]
  exact ⟨rfl, frame⟩

/-- The record of a line that has failed. -/
theorem latchFault_line (k : Nat) :
    (s.rails.fault.kind = 0 → (latchFault kind 0xFF 0 k 0 0 s).rails.fault.kind = kind ∧
      (latchFault kind 0xFF 0 k 0 0 s).rails.fault.position = k) ∧
    latchFault kind 0xFF 0 k 0 0 s = withEvents { s with
      rails := { s.rails with fault := (latchFault kind 0xFF 0 k 0 0 s).rails.fault, latched := true } } (latchFault kind 0xFF 0 k 0 0 s) := by
  constructor
  · intro first
    unfold latchFault
    simp [first]
  · conv_rhs => rw [← (latchFault_rails ..).2.2]
    have rails := (latchFault_rails kind 0xFF 0 k 0 0 s).2.2
    rw [latchFault] at rails ⊢
    rw [raise_eq] at rails ⊢
    rfl

theorem linePulled_result : Told ev s (linePulled s kind ev) ∧ (linePulled s kind ev).tremor.walk = .fault ∧
    (linePulled s kind ev).tremor.pulling = true ∧ (linePulled s kind ev).tremor.high = false ∧
    (linePulled s kind ev).tremor.counter = s.tremor.counter ∧ (linePulled s kind ev).tremor.wantDown = .none ∧
    (linePulled s kind ev).rails.latched = true ∧ (s.rails.fault.kind = 0 → (linePulled s kind ev).rails.fault.kind = kind ∧
      (linePulled s kind ev).rails.fault.position = s.tremor.counter) ∧
    linePulled s kind ev = withEvents { s with
      tremor := (linePulled s kind ev).tremor, rails := { s.rails with fault := (linePulled s kind ev).rails.fault, latched := true } }
      (linePulled s kind ev) := by
  generalize raised : raise s ev .supervisor [(1, s.tremor.counter), (1, s.tremor.walk.code)] = t
  have told : Told ev s t := raised ▸ raise_told ..
  have frame : t = withEvents s t := raised ▸ raise_eq ..
  have rails : t.rails = s.rails := (congrArg State.rails frame :)
  obtain ⟨record, latches⟩ := latchFault_line t kind s.tremor.counter
  have pulled : linePulled s kind ev = tremorFault (latchFault kind 0xFF 0 s.tremor.counter 0 0 t) := by rw [← raised]; rfl
  have grows : Grows true t.ev (linePulled s kind ev).ev := by
    rw [pulled]
    exact tremorFault_grows _ (by unfold latchFault; exact raise_grows _ _ _ _ (.refl _))
  generalize latchFault kind 0xFF 0 s.tremor.counter 0 0 t = u at record latches pulled
  obtain ⟨tremor, line⟩ := tremorFault_result u
  rw [← pulled] at tremor line
  have kept : u.tremor = s.tremor := by rw [latches, frame]; rfl
  have latched : (linePulled s kind ev).rails = u.rails := (congrArg State.rails line :)
  refine ⟨told.grows grows, ?_, ?_, ?_, ?_, ?_, ?_, fun first => ?_, ?_⟩
  · rw [tremor]
  · rw [tremor]
  · rw [tremor]
  · rw [tremor, kept]
  · rw [tremor]
  · rw [latched, latches]; rfl
  · rw [latched]
    exact record (by rw [rails]; exact first)
  · rw [latched]
    generalize (linePulled s kind ev).tremor = x at line
    rw [line]
    generalize u.rails.fault = f at latches
    rw [latches, frame]
    rfl

theorem execLine_fails {cmd : Instr} (which : cmd = Instr.tremorStepTimeout ∧ ev = 389 ∧ kind = 8 ∧ s.tremor.pulling = false ∧
    stepTimed s = true ∨ cmd = .tremorWireFault ∧ ev = 390 ∧ kind = 9 ∧ s.tremor.pulling = true) (member : stepsWithGroup s = true) :
    exec cmd s = .next (lineFault kind ev s) := by
  obtain ⟨rfl, rfl, rfl, free, late⟩ | ⟨rfl, rfl, rfl, holds⟩ := which
  · exact if_neg (by simp [member, free, late])
  · exact if_neg (by simp [member, holds])

/-- What a member in fault does by the state that it is in. -/
theorem lineFault_eq : lineFault kind ev s = match s.life.dev with
    | .boot => if s.life.boot = .cold then (if s.life.haltPending = 0 then bootFails 2 (linePulled s kind ev) else linePulled s kind ev)
      else fatalFault (linePulled s kind ev)
    | .restore | .serve => fatalFault (linePulled s kind ev)
    | .warn => saveOrder (linePulled s kind ev)
    | _ => linePulled s kind ev := by
  have life : (linePulled s kind ev).life = s.life := (congrArg State.life (linePulled_result s kind ev).2.2.2.2.2.2.2.2 :)
  rw [← life]
  unfold lineFault
  rfl

end

end Sys2Proof.Machine
end

section
open Sys2Proof Sys2Proof.Machine

/-- Settles O24: a line that fails leaves the member in fault with its fault latched, and starts the path of a fatal fault in
service. -/
theorem tremorFaults : Obligations.TremorFaults := by
  unfold Obligations.TremorFaults
  intro s ev kind cmd which member
  have run := execLine_fails s kind ev which member
  rw [lineFault_eq] at run
  obtain ⟨told, walk, pulling, high, counter, want, latched, record, frame⟩ := linePulled_result s kind ev
  have life : (linePulled s kind ev).life = s.life := (congrArg State.life frame :)
  refine ⟨fun rest => ?_, fun service => ?_, fun boot cold free rank => ?_⟩
  · refine ⟨_, run.trans ?_, told, walk, pulling, high, counter, want, latched, record, frame⟩
    simp only [List.mem_cons, List.not_mem_nil, or_false, not_or] at rest
    obtain ⟨boot, serve, restore, warn⟩ := rest
    split
    · rename_i h; exact absurd h boot
    · rename_i h; exact absurd h restore
    · rename_i h; exact absurd h serve
    · rename_i h; exact absurd h warn
    · rfl
  · have warns := fatalFault_service (linePulled s kind ev) (by rw [life]; exact service)
    obtain ⟨dev, fatal, stays⟩ := enterWarn_result (linePulled s kind ev) true (pathCause (linePulled s kind ev))
    have logs : Logged ev s (enterWarn true (pathCause (linePulled s kind ev)) (linePulled s kind ev)) :=
      Logged.grows told.logged (enterWarn_grows _ _ _ (.refl _))
    have line : (enterWarn true (pathCause (linePulled s kind ev)) (linePulled s kind ev)).tremor = (linePulled s kind ev).tremor :=
      (enterWarn_frame ..).2.2.1
    refine ⟨_, run.trans ?_, logs, by rw [line, walk], by rw [line, pulling], stays.trans latched, dev, fatal⟩
    rw [← warns]
    rcases service with h | h | ⟨h, d, warm⟩
    · rw [h]
    · rw [h]
    · rw [h]
      simp [warm]
  · rw [boot] at run
    obtain ⟨ends, stays⟩ := bootFails_result (s := linePulled s kind ev) (cause := 2)
      ((outranked_fault (s := s) (by rw [life]) (congrArg State.pending frame :)).trans rank) (by decide) (by decide)
    have line : (bootFails 2 (linePulled s kind ev)).tremor = (linePulled s kind ev).tremor := by simp [bootFails_frame]
    refine ⟨_, run.trans ?_, by rw [line, walk], stays.trans latched, ends⟩
    dsimp only
    rw [if_pos cold, if_pos free]
end

section
/-! A cold BOOT, and the collapse of VKEEP (O28). -/

namespace Sys2Proof.Machine


/-! ### A cold BOOT -/

section
variable (cause : Nat) (why : Cause) (s : State)

theorem loadKeep_frame' : (loadKeep s).life.dev = s.life.dev ∧ (loadKeep s).life.boot = s.life.boot ∧
    (loadKeep s).life.resetCause = s.life.resetCause ∧ (loadKeep s).life.bootStep = s.life.bootStep ∧
    (loadKeep s).time.timeBase = s.time.timeBase ∧ (loadKeep s).keep = { s.keep with lifeEnd := (keepBody s.keep).lifeEnd } := by
  unfold loadKeep
  simp

theorem endProbation_committed (d : Fin 16) : (endProbation d s).flash.committed = s.flash.committed := by
  unfold endProbation
  split
  · have same : (raise (s.modDie d staleVerified) (624 + d.val) .flash []).flash = (s.modDie d staleVerified).flash := by simp
    rw [same]
    rfl
  · rfl

theorem endProbations_committed : (endProbations s).flash.committed = s.flash.committed := by
  unfold endProbations
  exact forAll_inv (inv := fun t : State => t.flash.committed = s.flash.committed) rfl fun t d h => (endProbation_committed t d).trans h

theorem estAtBoot_frame' (c : Channel) : estAtBoot s c = s.setEst c ((estAtBoot s c).est c) := by
  unfold estAtBoot
  dsimp only
  cases c <;> rfl

/-- What a cold BOOT finds of the controller: the outage's record, the flash and the outputs. -/
theorem bootBegins_result : (bootBegins s).time.timeBase = 0 ∧ (bootBegins s).flash.committed = s.flash.committed := by
  unfold bootBegins
  dsimp only
  simp [endProbations_committed]

theorem keepFlush_result : (keepFlush cause s).flash = s.flash ∧
    (cause < 2 ∨ s.keep.pending = false → keepFlush cause s = s) := by
  unfold keepFlush
  split
  · rename_i flushes
    exact ⟨rfl, fun h => absurd flushes (by rintro ⟨late, waits⟩; rcases h with h | h; omega; simp [h] at waits)⟩
  · exact ⟨rfl, fun _ => rfl⟩

theorem activityRefresh_mode : (activityRefresh s).mode.lock = s.mode.lock ∧ (activityRefresh s).mode.expert = s.mode.expert := by
  unfold activityRefresh
  dsimp only
  repeat' split
  all_goals simp

theorem setGroup_mode (g : Nat) : (setGroup g s).mode.lock = s.mode.lock ∧ (setGroup g s).mode.expert = s.mode.expert := by
  unfold setGroup
  split
  · exact ⟨rfl, rfl⟩
  · simp [modeChanged]

/-- Without a link the islands change nothing of the modes. -/
theorem islandsRefresh_mode (down : s.port.linkState ≠ 2) : (islandsRefresh s).mode = s.mode := by
  have refresh : (allIslands.foldl (fun u i => islandRefresh i u) s).mode = s.mode ∧
      (allIslands.foldl (fun u i => islandRefresh i u) s).port = s.port := by
    constructor <;> simp
  have stops (t : State) (down : t.port.linkState ≠ 2) : (hostStops t).mode = t.mode := by
    unfold hostStops
    simp [down]
  unfold islandsRefresh
  dsimp only
  split <;> split <;> simp [stops, refresh, down]

theorem enterState_mode (d : DevState) (down : s.port.linkState ≠ 2) : (enterState d why s).mode = s.mode := by
  have islands (t : State) (down : t.port.linkState ≠ 2) := islandsRefresh_mode t down
  unfold enterState
  dsimp only
  split <;> simp [islands, down]

theorem estAtBoot_keeps (c : Channel) : (estAtBoot s c).life = s.life ∧ (estAtBoot s c).time = s.time ∧ (estAtBoot s c).keep = s.keep ∧
    (estAtBoot s c).mode = s.mode ∧ (estAtBoot s c).dict = s.dict ∧ (estAtBoot s c).flash = s.flash ∧ (estAtBoot s c).port = s.port := by
  rw [estAtBoot_frame']
  cases c <;> exact ⟨rfl, rfl, rfl, rfl, rfl, rfl, rfl⟩

theorem coldBoot_result : (coldBoot cause why s).life.dev = .boot ∧ (coldBoot cause why s).life.boot = .cold ∧
    (coldBoot cause why s).life.resetCause = cause ∧ (coldBoot cause why s).life.bootStep = 1 ∧
    (coldBoot cause why s).time.timeBase = 0 ∧ (coldBoot cause why s).life.bootCount = (keepBody s.keep).bootCount + 1 ∧
    (coldBoot cause why s).mode.lock = false ∧ (coldBoot cause why s).mode.expert = none ∧
    (coldBoot cause why s).dict.values = [] ∧ (coldBoot cause why s).flash.committed = s.flash.committed ∧
    (coldBoot cause why s).keep = { (keepFlush cause s).keep with lifeEnd := (keepBody (keepFlush cause s).keep).lifeEnd } := by
  generalize begun : loseDram (bootBegins ((keepFlush cause s).stopIsland .control)) = u
  have begins := bootBegins_result ((keepFlush cause s).stopIsland .control)
  have loses (t : State) : (loseDram t).time = t.time ∧ (loseDram t).flash = t.flash := ⟨rfl, rfl⟩
  have timeBase : u.time.timeBase = 0 := by rw [← begun, (loses _).1]; exact begins.1
  have committed : u.flash.committed = s.flash.committed := by
    have flushed : ((keepFlush cause s).stopIsland .control).flash = s.flash := (keepFlush_result cause s).1
    rw [← begun, (loses _).2, begins.2, flushed]
  have keep : u.keep = (keepFlush cause s).keep := by rw [← begun]; simp [loseDram, State.stopIsland]
  unfold coldBoot
  rw [begun]
  dsimp only
  refine ⟨?_, ?_, ?_, ?_, ?_, ?_, ?_, ?_, ?_, ?_, ?_⟩
  · simp
  · simp [loadKeep_frame', estAtBoot_keeps]
  · simp [loadKeep_frame', estAtBoot_keeps]
  · simp [loadKeep_frame', estAtBoot_keeps]
  · simp [loadKeep_frame', estAtBoot_keeps, timeBase]
  · simp [loadKeep_frame', estAtBoot_keeps]
  · rw [enterState_mode _ _ _ (by simp [loadKeep_frame, estAtBoot_keeps, Port.reset])]
    simp [activityRefresh_mode, setGroup_mode, loadKeep_frame, estAtBoot_keeps, Modes.reset]
  · rw [enterState_mode _ _ _ (by simp [loadKeep_frame, estAtBoot_keeps, Port.reset])]
    simp [activityRefresh_mode, setGroup_mode, loadKeep_frame, estAtBoot_keeps, Modes.reset]
  · simp [loadKeep_frame, estAtBoot_keeps]
  · simp [loadKeep_frame, estAtBoot_keeps, committed, flashAtBoot]
  · simp [loadKeep_frame', estAtBoot_keeps, keep]

/-- With VKEEP the controller sleeps or boots. -/
theorem execVkeepRise_next (high : Bool) (off : s.life.dev = .off) : exec (.vkeepRise high) s = .next (
    if high then enterState .sleep .vkeep { s with life.wakeHigh := high } else coldBoot 0 .vkeep { s with life.wakeHigh := high }) :=
  if_neg (not_not.2 off)

/-- A keep store in which no write waits. -/
def writtenKeep (k : Keep) : Keep := { k with pending := false }

/-- What a collapse tears: of the keep store and the NOR only what was being written. -/
theorem tear_result (a b : Bool) : (tear a b s).flash.committed = s.flash.committed ∧ (tear a b s).flash.die = s.flash.die ∧
    (a = false → writtenKeep (tear a b s).keep = writtenKeep s.keep) ∧
    (b = false → s.win[(0 : Fin 7)].status ≠ 3 → (tear a b s).nor = s.nor) := by
  unfold tear
  extract_lets s1 torn s2 s3
  have keep1 : a = false → s1 = s := fun whole => if_neg (by simp [whole])
  have flash1 : s1.flash = s.flash ∧ s1.nor = s.nor := by unfold s1; split <;> exact ⟨rfl, rfl⟩
  have nor2 : b = false → s2 = s1 := fun whole => if_neg (by simp [whole])
  have flash2 : s2.flash = s1.flash ∧ s2.keep = s1.keep := by unfold s2; split <;> exact ⟨rfl, rfl⟩
  have spoils (t : State) : (spoilFirmware t).flash = t.flash ∧
      writtenKeep (spoilFirmware t).keep = writtenKeep t.keep := ⟨rfl, rfl⟩
  have flash3 : s3.flash = s.flash ∧ writtenKeep s3.keep = writtenKeep s2.keep := by
    rw [← flash1.1, ← flash2.1]
    unfold s3
    split
    · exact spoils s2
    · exact ⟨rfl, rfl⟩
  have nor3 : s.win[(0 : Fin 7)].status ≠ 3 → s3 = s2 := fun idle => if_neg idle
  have all : s3.flash.committed = s.flash.committed ∧ s3.flash.die = s.flash.die ∧
      (a = false → writtenKeep s3.keep = writtenKeep s.keep) ∧
      (b = false → s.win[(0 : Fin 7)].status ≠ 3 → s3.nor = s.nor) := by
    refine ⟨by rw [flash3.1], by rw [flash3.1], fun whole => ?_, fun whole idle => ?_⟩
    · rw [flash3.2, flash2.2, keep1 whole]
    · rw [nor3 idle, nor2 whole, flash1.2]
  split
  · exact all
  · exact all

end

end Sys2Proof.Machine
end

section
open Sys2Proof Sys2Proof.Machine

/-- Settles O28: a collapse of VKEEP leaves what VKEEP, the NOR and the flash hold, and a wake boots from SLEEP and KEEP. -/
theorem powerAndWake : Obligations.PowerAndWake := by
  unfold Obligations.PowerAndWake
  refine ⟨?collapse, ?sleeps, ?boots, ?wakes, ?fault, ?other⟩
  case collapse =>
    intro a b s dev
    obtain ⟨committed, die, keep, nor⟩ := tear_result s a b
    have run : exec (.vkeepCollapse a b) s = .next _ := if_neg dev
    refine ⟨_, run, ?_, rfl, rfl, rfl, rfl, rfl, rfl, rfl, rfl, rfl, fun g => ?_, fun whole => ?_, fun whole idle => ?_, ?_, ?_⟩
    · simp [loseDram, releaseOutputs]
    · exact congrArg GateReg.driven (vmap_get (fun x : GateReg => ({ x with state := .off, driven := false } : GateReg)) _ g)
    · have kept := keep whole
      unfold writtenKeep at kept
      rw [← kept]
      simp [loseDram, releaseOutputs]
    · rw [← nor whole idle]
      simp [loseDram, releaseOutputs]
    · rw [← committed]
      simp [loseDram, releaseOutputs]
    · rw [← die]
      simp [loseDram, releaseOutputs]
  case sleeps =>
    intro s dev
    have run : exec (.vkeepRise true) s = .next (enterState .sleep .vkeep { s with life.wakeHigh := true }) :=
      (execVkeepRise_next s true dev).trans (congrArg Host.Outcome.next (if_pos rfl))
    exact ⟨_, run, by simp, by simp, by simp, by simp, by simp, by simp⟩
  case boots =>
    intro s dev
    have run : exec (.vkeepRise false) s = .next (coldBoot 0 .vkeep { s with life.wakeHigh := false }) :=
      (execVkeepRise_next s false dev).trans (congrArg Host.Outcome.next (if_neg Bool.false_ne_true))
    obtain ⟨boot, cold, cause, step, time, count, -⟩ := coldBoot_result 0 .vkeep { s with life.wakeHigh := false }
    exact ⟨_, run, boot, cold, cause, step, time, count⟩
  case wakes =>
    intro s c from'
    have run : exec .wake s = .next (coldBoot c .wake { s with life.wakeHigh := false }) := by
      show execWake s = _
      unfold execWake
      obtain ⟨sleep, rfl⟩ | ⟨keep, free, rfl⟩ := from'
      · rw [sleep]
      · rw [keep, free]
        exact congrArg Host.Outcome.next (if_neg Bool.false_ne_true)
    obtain ⟨boot, cold, cause, step, time, count, lock, expert, values, committed, keep⟩ :=
      coldBoot_result c .wake { s with life.wakeHigh := false }
    refine ⟨_, run, boot, cold, cause, step, time, count, lock, expert, values, committed, fun idle => ?_⟩
    have flushed := (keepFlush_result c { s with life.wakeHigh := false }).2 (idle.imp (by omega) id)
    rw [keep, flushed]
    exact ⟨rfl, rfl⟩
  case fault =>
    intro s dev rank
    show execWake s = _
    unfold execWake
    rw [dev, rank]
    exact congrArg Host.Outcome.next (if_pos rfl)
  case other =>
    intro s sleep keep
    show execWake s = _
    unfold execWake
    split
    · rename_i h; exact absurd h sleep
    · rename_i h; exact absurd h keep
    · by_cases off : s.life.afterDown = 4 <;> simp [off]
end

section
/-! What is told stays told through a change of the video streams. -/

namespace Sys2Proof.Machine


section
variable {held : Bool} {base : Events}

@[simp] theorem stopBorrowing_grows (s : State) (h : Grows held base s.ev) : Grows held base (stopBorrowing s).ev := by
  unfold stopBorrowing
  (repeat' split) <;> simp +contextual (maxDischargeDepth := 20) [h]

@[simp] theorem cancelPreSinter_grows (s : State) (h : Grows held base s.ev) : Grows held base (cancelPreSinter s).ev := by
  unfold cancelPreSinter
  (repeat' split) <;> simp (maxDischargeDepth := 20) [h]

@[simp] theorem noteThrottle_grows (n : Fin 16) (new : Nat) (s : State) (h : Grows held base s.ev) : Grows held base (noteThrottle n
    new s).ev := by
  unfold noteThrottle
  dsimp only
  (repeat' split) <;> simp (maxDischargeDepth := 20) [h]

@[simp] theorem segPut_grows (n : Fin 16) (lba : Nat) (bs : List Block) (s : State) (h : Grows held base s.ev) :
    Grows held base (segPut n lba bs s).2.ev := by
  unfold segPut
  dsimp only
  split
  · exact h
  · split
    · simp [h]
    · split
      · simp [h]
      · split
        · simp [h]
        · rename_i taken
          rw [takeSlots_eq _ _ _ _ _ _ _ taken]
          simpa using h

@[simp] theorem putHeader_grows (n : Fin 16) (g : Segment) (flags : Nat) (s : State) (h : Grows held base s.ev) :
    Grows held base (putHeader n g flags s).2.ev := segPut_grows _ _ _ _ h

@[simp] theorem flushSegment_grows (n : Fin 16) (s : State) (h : Grows held base s.ev) : Grows held base (flushSegment n s).2.ev :=
    by
  unfold flushSegment
  dsimp only
  (repeat' split) <;> simp (maxDischargeDepth := 20) [h]

@[simp] theorem sealSegment_grows (n : Fin 16) (why : Cause) (flags : Nat) (s : State) (h : Grows held base s.ev) :
    Grows held base (sealSegment n why flags s).ev := by
  unfold sealSegment
  split
  · exact h
  · exact raise_grows _ _ _ _ (putHeader_grows _ _ _ _ h)

@[simp] theorem pauseRecording_grows (n : Fin 16) (why : Cause) (s : State) (h : Grows held base s.ev) : Grows held base
    (pauseRecording n why s).ev := by
  unfold pauseRecording
  dsimp only
  (repeat' split) <;> simp (maxDischargeDepth := 20) [h]

@[simp] theorem closeSegment_grows (n : Fin 16) (why : Cause) (flags : Nat) (s : State) (h : Grows held base s.ev) : Grows held base
    (closeSegment n why flags s).ev := by
  unfold closeSegment
  dsimp only
  (repeat' split) <;> simp (maxDischargeDepth := 20) [h]

@[simp] theorem stopEncode_grows (n : Fin 16) (why close : Cause) (flags : Nat) (dest : EncRun) (s : State) (h : Grows held base
    s.ev) : Grows held base (stopEncode n why close flags dest s).ev := by
  unfold stopEncode
  dsimp only
  simp (maxDischargeDepth := 20) [h]

@[simp] theorem admitStream_grows (ok : Fin 16 → Bool) (n : Fin 16) (s : State) (h : Grows held base s.ev) : Grows held base
    (admitStream ok n s).ev := by
  unfold admitStream
  (repeat' split) <;> simp (maxDischargeDepth := 20) [h]

@[simp] theorem admitStreams_grows (s : State) (h : Grows held base s.ev) : Grows held base (admitStreams s).ev := by
  unfold admitStreams
  refine forAll_grows _ _ h fun t n each => ?_
  split
  · exact each
  · exact admitStream_grows _ _ _ each

@[simp] theorem stopStream_grows (n : Fin 16) (why close : Cause) (flags : Nat) (dest : StreamRun) (s : State) (h : Grows held
    base s.ev) : Grows held base (stopStream n why close flags dest s).ev := by
  unfold stopStream
  dsimp only
  (repeat' split) <;> simp (maxDischargeDepth := 20) [h]

@[simp] theorem startStream_grows (n : Fin 16) (s : State) (h : Grows held base s.ev) : Grows held base (startStream n s).ev := by
  unfold startStream
  dsimp only
  (repeat' split) <;> simp (maxDischargeDepth := 20) [h]

@[simp] theorem streamsRefresh_grows (s : State) (h : Grows held base s.ev) : Grows held base (streamsRefresh s).ev := by
  unfold streamsRefresh
  simp +contextual (maxDischargeDepth := 20) [h]

@[simp] theorem restartVideo_grows (s : State) (h : Grows held base s.ev) : Grows held base (restartVideo s).ev := by
  unfold restartVideo
  simp (maxDischargeDepth := 20) [h]

@[simp] theorem endRestore_grows (s : State) (h : Grows held base s.ev) : Grows held base (endRestore s).ev := by
  unfold endRestore
  (repeat' split) <;> simp (maxDischargeDepth := 20) [h]


end

end Sys2Proof.Machine
end

section
/-! The return of power and the end of KEEP (O27). -/

namespace Sys2Proof.Machine


/-! ### Entering a state: what stays of the hold-up converter and of the port -/

@[simp] theorem gateMissingRefresh_sag (s : State) : (gateMissingRefresh s).hold.sag = s.hold.sag ∧ (gateMissingRefresh
    s).hold.failed = s.hold.failed := by
  unfold gateMissingRefresh
  simp

@[simp] theorem modesRefresh_sag (s : State) : (modesRefresh s).hold.sag = s.hold.sag ∧ (modesRefresh s).hold.failed =
    s.hold.failed := by
  unfold modesRefresh
  simp

@[simp] theorem hostChanged_sag (before s : State) : (hostChanged before s).hold.sag = s.hold.sag ∧ (hostChanged before
    s).hold.failed = s.hold.failed := by
  unfold hostChanged
  dsimp only
  (repeat' split) <;> simp

@[simp] theorem linkLost_sag (s : State) : (linkLost s).hold.sag = s.hold.sag ∧ (linkLost s).hold.failed = s.hold.failed := by
  unfold linkLost
  dsimp only
  simp

@[simp] theorem hostStops_sag (s : State) : (hostStops s).hold.sag = s.hold.sag ∧ (hostStops s).hold.failed = s.hold.failed :=
    by
  unfold hostStops
  dsimp only
  (repeat' split) <;> simp

@[simp] theorem islandsRefresh_sag (s : State) : (islandsRefresh s).hold.sag = s.hold.sag ∧ (islandsRefresh s).hold.failed =
    s.hold.failed := by
  unfold islandsRefresh
  dsimp only
  (repeat' split) <;> simp +contextual

@[simp] theorem enterState_sag (d : DevState) (why : Cause) (s : State) : (enterState d why s).hold.sag = s.hold.sag ∧
    (enterState d why s).hold.failed = s.hold.failed := by
  unfold enterState
  dsimp only
  (repeat' split) <;> simp

@[simp] theorem foldl_fetch {α : Type} (f : State → α → State) (l : List α) (s : State)
    (h : ∀ t a, (f t a).port.fetchStopped = t.port.fetchStopped) : (l.foldl f s).port.fetchStopped = s.port.fetchStopped := foldl_keeps (fun t => t.port.fetchStopped) f h l s

@[simp] theorem forAll_fetch {n : Nat} (f : State → Fin n → State) (s : State) (h : ∀ t a, (f t a).port.fetchStopped = t.port.fetchStopped) :
    (forAll n f s).port.fetchStopped = s.port.fetchStopped := foldl_keeps (fun t => t.port.fetchStopped) f h _ s

@[simp] theorem State.modFn_fetch (s : State) (fn : Fin 16) (f : Func → Func) : (State.modFn s fn f).port.fetchStopped =
    s.port.fetchStopped := by
  unfold State.modFn
  simp

@[simp] theorem resetQueues_fetch (fn : Fin 16) (s : State) : (resetQueues fn s).port.fetchStopped = s.port.fetchStopped := by
  unfold resetQueues
  dsimp only
  simp +contextual

@[simp] theorem resetFunction_fetch (fn : Fin 16) (s : State) : (resetFunction fn s).port.fetchStopped = s.port.fetchStopped
    := by
  unfold resetFunction
  dsimp only
  (repeat' split) <;> simp

@[simp] theorem resetEvery_fetch (s : State) : (resetEvery s).port.fetchStopped = s.port.fetchStopped := by
  unfold resetEvery
  simp +contextual

@[simp] theorem disableVfs_fetch (s : State) : (disableVfs s).port.fetchStopped = s.port.fetchStopped := by
  unfold disableVfs
  simp

@[simp] theorem linkLost_fetch (s : State) : (linkLost s).port.fetchStopped = s.port.fetchStopped := by
  unfold linkLost
  dsimp only
  simp

@[simp] theorem hostStops_fetch (s : State) : (hostStops s).port.fetchStopped = s.port.fetchStopped := by
  unfold hostStops
  dsimp only
  (repeat' split) <;> simp

@[simp] theorem islandsRefresh_fetch (s : State) : (islandsRefresh s).port.fetchStopped = s.port.fetchStopped := by
  unfold islandsRefresh
  dsimp only
  (repeat' split) <;> simp +contextual

@[simp] theorem enterState_fetch (d : DevState) (why : Cause) (s : State) : (enterState d why s).port.fetchStopped =
    s.port.fetchStopped := by
  unfold enterState
  dsimp only
  (repeat' split) <;> simp

/-! ### The return of power -/

section
variable (s : State)

theorem sagOver_result : (sagOver s).hold.sag = false ∧ (sagOver s).ev.started = s.ev.started ∧
    sagOver s = withEvents { s with hold.sag := false } (sagOver s) := by
  unfold sagOver
  split
  · refine ⟨by simp, raise_started .., ?_⟩
    rw [raise_eq]
    rfl
  · rename_i off
    have clear : s.hold.sag = false := by simpa using off
    refine ⟨clear, rfl, ?_⟩
    rw [← clear]
    rfl

/-- The state that the return of power leaves, before what follows from it. -/
def powered : State := sagOver (holdRefresh { s with hold.failed := false })

theorem powered_result : (powered s).hold.sag = false ∧ (powered s).hold.failed = false ∧ (powered s).ev.started = s.ev.started ∧
    powered s = withEvents { s with hold := (powered s).hold } (powered s) := by
  obtain ⟨sag, started, frame⟩ := sagOver_result (holdRefresh { s with hold.failed := false })
  have hold : (powered s).hold = { (holdRefresh { s with hold.failed := false }).hold with sag := false } := (congrArg State.hold frame :)
  refine ⟨sag, by rw [hold]; rfl, started, ?_⟩
  rw [hold]
  exact frame

/-- The return of power that is told. -/
def poweredTold : State := raise (powered s) 451 .supervisor [(1, s.life.dev.code)]

theorem poweredTold_result : Logged 451 s (poweredTold s) ∧ (poweredTold s).hold.sag = false ∧ (poweredTold s).hold.failed = false ∧
    poweredTold s = withEvents { s with hold := (poweredTold s).hold } (poweredTold s) := by
  obtain ⟨sag, failed, started, frame⟩ := powered_result s
  have told : Told 451 (powered s) (poweredTold s) := raise_told ..
  have hold : (poweredTold s).hold = (powered s).hold := by simp [poweredTold]
  refine ⟨told.loggedFrom (congrArg State.isl frame :) (congrArg State.dict frame :) started, by rw [hold, sag], by rw [hold, failed], ?_⟩
  rw [hold]
  generalize (powered s).hold = x at frame
  unfold poweredTold
  rw [raise_eq, frame]
  rfl

theorem execPowerReturn_next (supervised : s.life.dev.supervised = true) (failed : s.hold.failed = true) (path : s.life.fatalPath = false)
    (rank : outranked 3 s = false) :
    exec .powerReturn s = .next (powerReturns (poweredTold s)) := by
  show execPowerReturn s = _
  unfold execPowerReturn
  rw [if_neg (by simp [supervised, failed])]
  exact if_neg (by simp [path, rank])


/-- What follows from the return, by the state it meets. -/
theorem powerReturns_service (dev : s.life.dev = .warn ∨ s.life.dev = .simmer) : powerReturns s = chargeAgain s (resumeServe s) := by
  unfold powerReturns
  rcases dev with h | h <;> rw [h]

theorem powerReturns_sinter (dev : s.life.dev = .sinter) : powerReturns s = { s with outage.returned := true } := by
  unfold powerReturns
  rw [dev]

theorem powerReturns_keep (dev : s.life.dev = .keep) : powerReturns s = coldBoot 2 .powerReturn s := by
  unfold powerReturns
  rw [dev]

theorem setSource_hold (c : Channel) (closed : Bool) : (setSource c closed s).hold.sag = s.hold.sag ∧
    (setSource c closed s).hold.failed = s.hold.failed ∧ (setSource c closed s).rails.pfwLow = s.rails.pfwLow := by
  unfold setSource
  cases c <;> dsimp only <;> split <;> exact ⟨rfl, rfl, rfl⟩

theorem freeTrims_pfwLow : (freeTrims s).rails.pfwLow = s.rails.pfwLow := by
  unfold freeTrims
  exact forAll_inv (inv := fun t : State => t.rails.pfwLow = s.rails.pfwLow) rfl fun t k h => by
    exact h

theorem walkUp_pfwLow (groups : List Nat) : (walkUp groups s).rails.pfwLow = s.rails.pfwLow := by
  unfold walkUp
  split
  · exact List.foldlRecOn (motive := fun t : State => t.rails.pfwLow = s.rails.pfwLow) _ _ rfl fun t h r _ => h
  · rfl

theorem walkUp_frame' (groups : List Nat) : walkUp groups s = { s with rails := (walkUp groups s).rails } := by
  unfold walkUp
  split
  · rw [rampStep_frame']
  · rfl

/-- Service that resumes: what it leaves of the path. -/
theorem resumeServe_result : (resumeServe s).life.prev = s.life.dev ∧
    (resumeServe s).life.dev = (if s.life.fromRestore && decide (0 < unrestoredCount s.cache) then .restore else .serve) ∧
    (resumeServe s).hold.failed = false ∧ (resumeServe s).hold.sag = s.hold.sag ∧ (resumeServe s).rails.pfwLow = false ∧
    (resumeServe s).outage.warnEnded = false ∧ (resumeServe s).outage.deadline = none ∧ (resumeServe s).life.haltRepeat = 0 ∧
    (resumeServe s).life.selfRefresh = false ∧ (resumeServe s).port.fetchStopped = false ∧ Grows false s.ev (resumeServe s).ev := by
  unfold resumeServe
  extract_lets e target shut life port hold rails outage s1 s2 life' s3 s4
  have restored : e.life = s.life ∧ e.cache = s.cache ∧ e.hold = s.hold := by simp [e]
  have target_eq : target = if s.life.fromRestore && decide (0 < unrestoredCount s.cache) then .restore else .serve := by
    unfold target
    rw [restored.1, restored.2.1]
    simp
  have before : s1.life.dev = s.life.dev ∧ s1.life.selfRefresh = false ∧ s1.port.fetchStopped = false ∧ s1.rails.pfwLow = false ∧
      s1.hold.failed = false ∧ s1.hold.sag = s.hold.sag ∧ s1.outage.deadline = none ∧ s1.outage.warnEnded = false ∧
      Grows false s.ev s1.ev := by
    refine ⟨?_, ?_, ?_, ?_, ?_, ?_, ?_, ?_, cancelPreSinter_grows _ (endRestore_grows _ (.refl _))⟩
    · simp [s1, life, restored]
    · simp [s1, life]
    · simp [s1, port]
    · simp [s1, rails]
    · simp [s1, hold]
    · simp [s1, hold, restored]
    · simp [s1, outage]
    · simp [s1, outage]
  obtain ⟨dev1, refresh1, fetch1, pfw1, failed1, sag1, deadline1, warn1, grows1⟩ := before
  have entered : s2.life.dev = target ∧ s2.life.prev = s.life.dev ∧ s2.life.selfRefresh = false ∧ s2.port.fetchStopped = false ∧
      s2.rails.pfwLow = false ∧ s2.hold.failed = false ∧ s2.hold.sag = s.hold.sag ∧ s2.outage.deadline = none ∧
      s2.outage.warnEnded = false ∧ Grows false s.ev s2.ev := by
    have switched : (holdRefresh (setSource .bank true s1)).hold.failed = false ∧ (holdRefresh (setSource .bank true s1)).hold.sag = s.hold.sag ∧
        (holdRefresh (setSource .bank true s1)).rails.pfwLow = false := by
      simp [holdRefresh, setSource_hold, failed1, sag1, pfw1]
    refine ⟨?_, ?_, ?_, ?_, ?_, ?_, ?_, ?_, ?_, ?_⟩
    · simp [s2]
    · simp [s2, dev1]
    · simp [s2, refresh1]
    · simp [s2, fetch1]
    · rw [show s2.rails.pfwLow = _ from freeTrims_pfwLow _]
      simpa using switched.2.2
    · simpa [s2] using switched.1
    · simpa [s2] using switched.2.1
    · simp [s2, deadline1]
    · simp [s2, warn1]
    · have ev (t : State) : (freeTrims t).ev = t.ev := by simp
      rw [show s2.ev = _ from ev _]
      exact enterState_grows _ _ _ (by simpa using grows1)
  obtain ⟨dev2, prev2, refresh2, fetch2, pfw2, failed2, sag2, deadline2, warn2, grows2⟩ := entered
  have video : s3.life = { s2.life with haltRepeat := 0 } ∧ s3.port = s2.port ∧ s3.rails = s2.rails ∧ s3.hold = s2.hold ∧
      s3.outage = s2.outage ∧ Grows false s.ev s3.ev := by
    refine ⟨?_, ?_, ?_, ?_, ?_, restartVideo_grows _ grows2⟩
    all_goals simp [s3, life']
  obtain ⟨life3, port3, rails3, hold3, outage3, grows3⟩ := video
  clear_value s3
  have walks : s4.life = s3.life ∧ s4.port = s3.port ∧ s4.rails.pfwLow = s3.rails.pfwLow ∧ s4.hold = s3.hold ∧
      s4.outage = s3.outage ∧ Grows false s.ev s4.ev := by
    have up := walkUp_pfwLow s3 allGroups
    unfold s4
    split
    · split
      · exact ⟨rfl, rfl, rfl, rfl, rfl, grows3⟩
      · have kept := walkUp_frame' s3 allGroups
        have ev : (walkUp allGroups s3).ev = s3.ev := (congrArg State.ev kept :)
        exact ⟨(congrArg State.life kept :), (congrArg State.port kept :), up, (congrArg State.hold kept :), (congrArg State.outage kept :),
          by rw [ev]; exact grows3⟩
    · exact ⟨rfl, rfl, rfl, rfl, rfl, grows3⟩
  obtain ⟨life4, port4, rails4, hold4, outage4, grows4⟩ := walks
  have all : s4.life.prev = s.life.dev ∧ s4.life.dev = target ∧ s4.hold.failed = false ∧ s4.hold.sag = s.hold.sag ∧
      s4.rails.pfwLow = false ∧ s4.outage.warnEnded = false ∧ s4.outage.deadline = none ∧ s4.life.haltRepeat = 0 ∧
      s4.life.selfRefresh = false ∧ s4.port.fetchStopped = false ∧ Grows false s.ev s4.ev := by
    rw [life4, port4, rails4, hold4, outage4, life3, port3, rails3, hold3, outage3]
    exact ⟨prev2, dev2, failed2, sag2, pfw2, warn2, deadline2, rfl, refresh2, fetch2, grows4⟩
  rw [← target_eq]
  split
  · exact all
  · exact all


theorem chargeAgain_result (before : State) : (chargeAgain before s).hold = s.hold ∧
    (∀ base, Grows false base s.ev → Grows false base (chargeAgain before s).ev) := by
  unfold chargeAgain
  split
  · exact ⟨recomputeAll_hold s, fun _ h => recomputeAll_grows s h⟩
  · exact ⟨rfl, fun _ h => h⟩

/-! ### The end of KEEP -/

theorem enterSleep_result (why : Cause) (free : s.life.wakeHeld = false) :
    (enterSleep why s).life.dev = .sleep ∧ (enterSleep why s).life.prev = s.life.dev ∧ (enterSleep why s).keep.lifeEnd = 1 ∧
    (enterSleep why s).time.wallSet = false ∧ (enterSleep why s).rails.released = true ∧
    (∀ g : Fin 8, (enterSleep why s).rails.gate[g].driven = false) ∧ (∀ k : Fin 4, (enterSleep why s).rails.en[k] = false) ∧
    (enterSleep why s).hold.en = false ∧ (enterSleep why s).dict = s.dict ∧ (enterSleep why s).nor = s.nor := by
  have put (k : Keep) (b : KeepRec) : (keepPut k b).lifeEnd = k.lifeEnd := by
    unfold keepPut
    split <;> rfl
  unfold enterSleep
  dsimp only
  rw [if_neg (by simp [free])]
  refine ⟨?_, ?_, ?_, rfl, rfl, fun g => ?_, fun k => ?_, rfl, ?_, ?_⟩
  · simp [releaseOutputs, keepWriteSnap]
  · simp [releaseOutputs, keepWriteSnap, sleepLearns]
  · simp [releaseOutputs, keepWriteSnap, put]
  · exact congrArg GateReg.driven (vmap_get (fun x : GateReg => ({ x with state := .off, driven := false } : GateReg)) _ g)
  · simp [releaseOutputs]
  · simp [releaseOutputs, keepWriteSnap, sleepLearns]
  · simp [releaseOutputs, keepWriteSnap, sleepLearns]

end

end Sys2Proof.Machine
end

section
open Sys2Proof Sys2Proof.Machine

/-- Settles O27: WARN and SIMMER return to service, a Sinter remembers the return, KEEP boots, and its end is SLEEP. -/
theorem powerReturns : Obligations.PowerReturns := by
  unfold Obligations.PowerReturns
  refine ⟨?serves, ?sinters, ?boots, ?sleeps, ?outranked⟩
  case serves =>
    intro s from' failed path rank
    have supervised : s.life.dev.supervised = true := by rcases from' with h | h <;> rw [h] <;> rfl
    have run := execPowerReturn_next s supervised failed path rank
    obtain ⟨logged, sag, -, frame⟩ := poweredTold_result s
    generalize poweredTold s = u at run logged sag frame
    have life : u.life = s.life := (congrArg State.life frame :)
    have cache : u.cache = s.cache := (congrArg State.cache frame :)
    obtain ⟨prev, dev, failed', sag', pfw, warn, deadline, repeat', refresh, fetch, grows⟩ := resumeServe_result u
    obtain ⟨hold, grows'⟩ := chargeAgain_result (resumeServe u) u
    rw [powerReturns_service u (by rw [life]; exact from')] at run
    have charge := chargeAgain_frame u (resumeServe u)
    have resume := resumeServe_frame u
    refine ⟨_, run, Logged.grows logged (grows' _ grows), ?_, ?_, by rw [hold, failed'], by rw [hold, sag', sag], ?_, ?_, ?_, ?_, ?_, ?_, ?_, ?_, ?_, ?_⟩
    · simp [charge, prev, life]
    · simp [charge, dev, life, cache]
    · simp [charge, pfw]
    · simp [charge, warn]
    · simp [charge, deadline]
    · simp [charge, repeat']
    · simp [charge, refresh]
    · simp [charge, fetch]
    · simp only [charge, resume]; exact (congrArg State.dict frame :)
    · simp only [charge, resume]; exact (congrArg State.time frame :)
    · simp only [charge, resume]; exact (congrArg State.nor frame :)
    · simp only [charge, resume]; exact (congrArg State.keep frame :)
  case sinters =>
    intro s dev failed path rank
    have run := execPowerReturn_next s (by rw [dev]; rfl) failed path rank
    obtain ⟨logged, -, failed', frame⟩ := poweredTold_result s
    generalize poweredTold s = u at run logged failed' frame
    have life : u.life = s.life := (congrArg State.life frame :)
    have outage : u.outage = s.outage := (congrArg State.outage frame :)
    rw [powerReturns_sinter u (by rw [life]; exact dev)] at run
    refine ⟨_, run, logged, by simp [outage], failed', ?_⟩
    generalize u.hold = x at frame
    rw [frame]
    rfl
  case boots =>
    intro s dev failed path rank
    have run := execPowerReturn_next s (by rw [dev]; rfl) failed path rank
    obtain ⟨-, -, -, frame⟩ := poweredTold_result s
    generalize poweredTold s = u at run frame
    have life : u.life = s.life := (congrArg State.life frame :)
    have keep : u.keep = s.keep := (congrArg State.keep frame :)
    rw [powerReturns_keep u (by rw [life]; exact dev)] at run
    obtain ⟨boot, cold, cause, step, time, count, -⟩ := coldBoot_result 2 .powerReturn u
    exact ⟨_, run, boot, cold, cause, step, time, by rw [count, keep]⟩
  case sleeps =>
    intro s cmd dev which free rank
    have sleeps (u : State) (why : Cause) (run : exec cmd s = .next (enterSleep why u)) (life : u.life = s.life) (dict : u.dict = s.dict)
        (nor : u.nor = s.nor) : ∃ t, exec cmd s = .next t ∧ t.life.dev = .sleep ∧ t.life.prev = .keep ∧ t.keep.lifeEnd = 1 ∧
          t.time.wallSet = false ∧ t.rails.released = true ∧ (∀ g : Fin 8, t.rails.gate[g].driven = false) ∧
          (∀ k : Fin 4, t.rails.en[k] = false) ∧ t.hold.en = false ∧ t.dict = s.dict ∧ t.nor = s.nor := by
      obtain ⟨sleep, prev, ends, wall, released, gates, en, hold, dict', nor'⟩ := enterSleep_result u why (by rw [life, free])
      exact ⟨_, run, sleep, by rw [prev, life, dev], ends, wall, released, gates, en, hold, dict'.trans dict, nor'.trans nor⟩
    rcases which with rfl | ⟨rfl, pack, bank⟩
    · exact sleeps s .timer (if_neg (by simp [dev, rank])) rfl rfl rfl
    · exact sleeps (raise s 463 .supervisor []) .completion (if_neg (by simp [dev, rank, pack, bank])) (by simp) (by simp) (by simp)
  case outranked =>
    intro s cmd mem rank
    simp only [List.mem_cons, List.not_mem_nil, or_false] at mem
    rcases mem with rfl | rfl | rfl | rfl | rfl | rfl | rfl | rfl
    · exact if_pos (.inr rank)
    · exact if_pos (.inr (.inr (.inr rank)))
    · exact if_pos (.inr (.inr (.inr rank)))
    · exact if_pos (.inr rank)
    · exact if_pos (.inr (.inr rank))
    · exact if_pos (.inr (.inr rank))
    · exact if_pos (.inr (.inr (.inr rank)))
    · exact congrArg Host.Outcome.next (if_neg (by simp [rank]))
end

section
/-! What leaves the log running as it was. -/

namespace Sys2Proof.Machine


/-! ### What leaves the log running as it was -/

@[simp] theorem raiseIf_log (b : Bool) (s : State) (ev : Nat) (i : EvIsland) (vs : List (Nat × Nat)) :
    (raiseIf b s ev i vs).ev.started = s.ev.started := by
  cases b
  · rfl
  · exact raise_started ..

@[simp] theorem foldl_log {α : Type} (f : State → α → State) (l : List α) (s : State)
    (h : ∀ t a, (f t a).ev.started = t.ev.started) : (l.foldl f s).ev.started = s.ev.started := foldl_keeps (fun t => t.ev.started) f h l s

@[simp] theorem forAll_log {n : Nat} (f : State → Fin n → State) (s : State) (h : ∀ t a, (f t a).ev.started = t.ev.started) :
    (forAll n f s).ev.started = s.ev.started := foldl_keeps (fun t => t.ev.started) f h _ s

@[simp] theorem releaseHeld_log (s : State) : (releaseHeld s).ev.started = s.ev.started := by
  unfold releaseHeld
  split
  · rfl
  · exact logRecs_started ..

@[simp] theorem keepWriteSnap_log (packSnap bankSnap : Option Snap) (s : State) : (keepWriteSnap packSnap bankSnap
    s).ev.started = s.ev.started := by
  unfold keepWriteSnap
  (repeat' split) <;> simp

@[simp] theorem keepWrite_log (s : State) : (keepWrite s).ev.started = s.ev.started := by
  unfold keepWrite
  simp

@[simp] theorem startCharge_log (s : State) (c : Channel) : (startCharge s c).ev.started = s.ev.started := by
  unfold startCharge
  dsimp only
  simp

@[simp] theorem chargeRefresh_log (s : State) (c : Channel) : (chargeRefresh s c).ev.started = s.ev.started := by
  unfold chargeRefresh
  dsimp only
  (repeat' split) <;> simp

@[simp] theorem chargesRefresh_log (s : State) : (chargesRefresh s).ev.started = s.ev.started := by
  unfold chargesRefresh
  simp

@[simp] theorem gateMissingRefresh_log (s : State) : (gateMissingRefresh s).ev.started = s.ev.started := by
  unfold gateMissingRefresh
  simp

@[simp] theorem stopBorrowing_log (s : State) : (stopBorrowing s).ev.started = s.ev.started := by
  unfold stopBorrowing
  (repeat' split) <;> simp +contextual

@[simp] theorem modeChanged_log (dim old new : Nat) (s : State) : (modeChanged dim old new s).ev.started = s.ev.started := by
  unfold modeChanged
  simp

@[simp] theorem modeFallback_log (a b : Nat) (s : State) : (modeFallback a b s).ev.started = s.ev.started := by
  unfold modeFallback
  simp

@[simp] theorem outageEffRefresh_log (s : State) : (outageEffRefresh s).ev.started = s.ev.started := by
  unfold outageEffRefresh
  dsimp only
  (repeat' split) <;> simp

@[simp] theorem activityRefresh_log (s : State) : (activityRefresh s).ev.started = s.ev.started := by
  unfold activityRefresh
  dsimp only
  (repeat' split) <;> simp

@[simp] theorem fitRefresh_log (s : State) : (fitRefresh s).ev.started = s.ev.started := by
  unfold fitRefresh
  dsimp only
  (repeat' split) <;> simp

@[simp] theorem modesRefresh_log (s : State) : (modesRefresh s).ev.started = s.ev.started := by
  unfold modesRefresh
  simp

@[simp] theorem stageRefresh_log (s : State) : (stageRefresh s).ev.started = s.ev.started := by
  unfold stageRefresh
  dsimp only
  (repeat' split) <;> simp

@[simp] theorem openEpoch_log (byPre : Bool) (s : State) : (openEpoch byPre s).ev.started = s.ev.started := by
  unfold openEpoch
  dsimp only
  (repeat' split) <;> simp

@[simp] theorem allocStripe_log (s : State) : (allocStripe s).ev.started = s.ev.started := by
  unfold allocStripe
  dsimp only
  (repeat' split) <;> simp

@[simp] theorem allocStripes_log (n : Nat) (s : State) : (allocStripes n s).ev.started = s.ev.started := by
  unfold allocStripes
  simp +contextual

@[simp] theorem writeMeta_log (s : State) : (writeMeta s).ev.started = s.ev.started := by
  unfold writeMeta
  dsimp only
  (repeat' split) <;> simp +contextual

@[simp] theorem commitEpochs_log (s : State) : (commitEpochs s).ev.started = s.ev.started := by
  unfold commitEpochs
  dsimp only
  (repeat' split) <;> simp

@[simp] theorem commitSinter_log (s : State) : (commitSinter s).ev.started = s.ev.started := by
  unfold commitSinter
  (repeat' split) <;> simp

@[simp] theorem raiseTenant_log (fn : Fin 16) (k : Nat) (vs : List (Nat × Nat)) (s : State) : (raiseTenant fn k vs
    s).ev.started = s.ev.started := by
  unfold raiseTenant
  simp

@[simp] theorem noteThrottle_log (n : Fin 16) (new : Nat) (s : State) : (noteThrottle n new s).ev.started = s.ev.started := by
  unfold noteThrottle
  dsimp only
  (repeat' split) <;> simp

@[simp] theorem resetQueues_log (fn : Fin 16) (s : State) : (resetQueues fn s).ev.started = s.ev.started := by
  unfold resetQueues
  dsimp only
  simp +contextual

@[simp] theorem thawSlots_log (n : Fin 16) (s : State) : (thawSlots n s).ev.started = s.ev.started := by
  unfold thawSlots
  (repeat' split) <;> simp

@[simp] theorem resetRing_log (n : Fin 16) (s : State) : (resetRing n s).ev.started = s.ev.started := by
  unfold resetRing
  simp

@[simp] theorem segPut_log (n : Fin 16) (lba : Nat) (bs : List Block) (s : State) :
    (segPut n lba bs s).2.ev.started = s.ev.started := by
  unfold segPut
  dsimp only
  split
  · rfl
  · split
    · simp
    · split
      · simp
      · split
        · simp
        · rename_i taken
          rw [takeSlots_eq _ _ _ _ _ _ _ taken]
          simp

@[simp] theorem putHeader_log (n : Fin 16) (g : Segment) (flags : Nat) (s : State) : (putHeader n g flags s).2.ev.started =
    s.ev.started := by
  unfold putHeader
  dsimp only
  (repeat' split) <;> simp

@[simp] theorem flushSegment_log (n : Fin 16) (s : State) : (flushSegment n s).2.ev.started = s.ev.started := by
  unfold flushSegment
  dsimp only
  (repeat' split) <;> simp

@[simp] theorem sealSegment_log (n : Fin 16) (why : Cause) (flags : Nat) (s : State) : (sealSegment n why flags s).ev.started
    = s.ev.started := by
  unfold sealSegment
  dsimp only
  (repeat' split) <;> simp

@[simp] theorem pauseRecording_log (n : Fin 16) (why : Cause) (s : State) : (pauseRecording n why s).ev.started = s.ev.started
    := by
  unfold pauseRecording
  dsimp only
  (repeat' split) <;> simp

@[simp] theorem closeSegment_log (n : Fin 16) (why : Cause) (flags : Nat) (s : State) : (closeSegment n why flags
    s).ev.started = s.ev.started := by
  unfold closeSegment
  dsimp only
  (repeat' split) <;> simp

@[simp] theorem stopEncode_log (n : Fin 16) (why close : Cause) (flags : Nat) (dest : EncRun) (s : State) : (stopEncode n why
    close flags dest s).ev.started = s.ev.started := by
  unfold stopEncode
  dsimp only
  simp

@[simp] theorem stopStream_log (n : Fin 16) (why close : Cause) (flags : Nat) (dest : StreamRun) (s : State) : (stopStream n
    why close flags dest s).ev.started = s.ev.started := by
  unfold stopStream
  dsimp only
  (repeat' split) <;> simp

@[simp] theorem closeSession_log (d : Fin 2) (why : Nat) (s : State) : (closeSession d why s).ev.started = s.ev.started := by
  unfold closeSession
  (repeat' split) <;> simp

@[simp] theorem closeSessions_log (s : State) : (closeSessions s).ev.started = s.ev.started := by
  unfold closeSessions
  simp +contextual

@[simp] theorem closeExpert_log (s : State) : (closeExpert s).ev.started = s.ev.started := by
  unfold closeExpert
  (repeat' split) <;> simp

@[simp] theorem closeWindow_log (w : Fin 7) (abandoned : Bool) (s : State) : (closeWindow w abandoned s).ev.started =
    s.ev.started := by
  unfold closeWindow
  dsimp only
  (repeat' split) <;> simp

@[simp] theorem closeWindows_log (p : Win → Bool) (abandoned : Bool) (s : State) :
    (closeWindows p abandoned s).ev.started = s.ev.started := by
  unfold closeWindows
  refine forAll_log _ _ fun t w => ?_
  split
  · exact closeWindow_log ..
  · rfl

@[simp] theorem hostChanged_log (before s : State) : (hostChanged before s).ev.started = s.ev.started := by
  unfold hostChanged
  dsimp only
  (repeat' split) <;> simp

@[simp] theorem resetFunction_log (fn : Fin 16) (s : State) : (resetFunction fn s).ev.started = s.ev.started := by
  unfold resetFunction
  dsimp only
  (repeat' split) <;> simp

@[simp] theorem resetEvery_log (s : State) : (resetEvery s).ev.started = s.ev.started := by
  unfold resetEvery
  simp +contextual

@[simp] theorem linkLost_log (s : State) : (linkLost s).ev.started = s.ev.started := by
  unfold linkLost
  dsimp only
  simp

@[simp] theorem hostStops_log (s : State) : (hostStops s).ev.started = s.ev.started := by
  unfold hostStops
  dsimp only
  (repeat' split) <;> simp

@[simp] theorem islandsRefresh_log (s : State) : (islandsRefresh s).ev.started = s.ev.started := by
  unfold islandsRefresh
  dsimp only
  (repeat' split) <;> simp +contextual

@[simp] theorem enterState_log (d : DevState) (why : Cause) (s : State) : (enterState d why s).ev.started = s.ev.started := by
  unfold enterState
  dsimp only
  (repeat' split) <;> simp

@[simp] theorem stopStreams_log (why : Cause) (flags : Nat) (s : State) : (stopStreams why flags s).ev.started = s.ev.started
    := by
  unfold stopStreams
  simp +contextual

@[simp] theorem learnEByte_log (s : State) : (learnEByte s).ev.started = s.ev.started := by
  unfold learnEByte
  dsimp only
  (repeat' split) <;> simp

@[simp] theorem commitDone_log (s : State) : (commitDone s).ev.started = s.ev.started := by
  unfold commitDone
  dsimp only
  simp

end Sys2Proof.Machine
end

section
/-! Events while a state is entered: CONTROL runs on, and its configuration stays in force. -/

namespace Sys2Proof.Machine


/-! ### Events while a state is entered: CONTROL runs on, and its configuration stays in force -/

section
variable {s : State}

/-- An entry from the event table is CONTROL's. -/
theorem ownerOf_event {index sub : Nat} (event : 0x5000 ≤ index) : s.ownerOf index sub = .control := by
  unfold State.ownerOf
  split
  · unfold ownerIsland
    repeat rw [if_neg (by omega)]
  · rfl

/-- What is handed to another island changes nothing of what events are enabled. -/
theorem evEnabled_startIsland {i : Island} (other : i ≠ .control) (ev : Nat) : evEnabled (s.startIsland i) ev = evEnabled s ev := by
  have same : (s.startIsland i).cfg (0x5000 + ev / 64) 1 = s.cfg (0x5000 + ev / 64) 1 := by
    have found : mapFind (s.startIsland i).isl.undelivered (key (0x5000 + ev / 64) 1) = mapFind s.isl.undelivered (key (0x5000 + ev / 64) 1) := by
      have owner : s.ownerOf (key (0x5000 + ev / 64) 1 / 256) (key (0x5000 + ev / 64) 1 % 256) = .control :=
        ownerOf_event (by unfold key; omega)
      have kept := mapFind_filter s.isl.undelivered (fun k => !(s.ownerOf (k / 256) (k % 256) == i)) (key (0x5000 + ev / 64) 1)
      rw [owner] at kept
      exact kept.trans (if_pos (by simp [Ne.symm other]))
    unfold State.cfg cfgIn
    rw [found]
    rfl
  unfold evEnabled
  rw [same]

/-- What a change of the islands leaves of CONTROL: it runs, and the same events are enabled and logged. -/
structure ControlRuns (s t : State) : Prop where
  runs : controlRuns t = true
  enabled : ∀ ev, evEnabled t ev = evEnabled s ev
  started : t.ev.started = s.ev.started

theorem ControlRuns.logged {t u : State} {ev : Nat} (same : controlRuns s = true → ControlRuns s t) (told : Told ev t u) : Logged ev s u :=
  fun runs log enabled => told.logged (same runs).runs ((same runs).started.trans log) (((same runs).enabled ev).trans enabled)

/-- Whether CONTROL is to run hangs on the life cycle alone. -/
theorem islandMark_control {t : State} (life : t.life = s.life) : islandMark t .control = islandMark s .control := by
  have parts (u : State) : islandMark u .control = match u.life.dev with
      | .boot => bootRuns u.life .control
      | .restore | .serve | .warn | .simmer | .sinter => !u.life.restarting || decide (7 ≤ u.life.bootStep)
      | .halt => !u.life.supervisorHalt
      | _ => false := by
    unfold islandMark
    have others : (Island.control == Island.memory) = false ∧ (Island.control == Island.flash) = false := ⟨rfl, rfl⟩
    cases u.life.dev <;> simp [others]
  rw [parts, parts, life]

theorem islandRefresh_control {t : State} (i : Island) (mark : islandMark s .control = true) (life : t.life = s.life)
    (runs : ControlRuns s t) : ControlRuns s (islandRefresh i t) := by
  have mark' : islandMark t .control = true := (islandMark_control life).trans mark
  have running : t.island .control = .running := eq_of_beq runs.runs
  have sets (j : Island) (r : IslandRun) (other : j ≠ .control) : ControlRuns s (t.setIsland j r) := by
    refine ⟨?_, runs.enabled, runs.started⟩
    unfold controlRuns
    rw [island_setIsland, if_neg other, running]
    rfl
  by_cases control : i = .control
  · subst control
    unfold islandRefresh
    rw [if_pos mark', running]
    exact runs
  · unfold islandRefresh
    split
    · split
      · exact runs
      · exact runs
      · refine ⟨?_, fun ev => (evEnabled_startIsland control ev).trans (runs.enabled ev), runs.started⟩
        unfold controlRuns
        rw [island_startIsland, if_neg control, running]
        rfl
    · split
      · exact sets i _ control
      · exact sets i _ control


/-- With CONTROL to run in the state reached, the islands' change leaves it running. -/
theorem islandsRefresh_control (mark : islandMark s .control = true) (runs : controlRuns s = true) : ControlRuns s (islandsRefresh s) := by
  have each : (allIslands.foldl (fun u i => islandRefresh i u) s).life = s.life ∧
      ControlRuns s (allIslands.foldl (fun u i => islandRefresh i u) s) :=
    foldl_inv (inv := fun u : State => u.life = s.life ∧ ControlRuns s u) _ ⟨rfl, runs, fun _ => rfl, rfl⟩
      fun t i ⟨life, same⟩ => ⟨by simpa using life, islandRefresh_control i mark life same⟩
  unfold islandsRefresh
  dsimp only
  generalize allIslands.foldl (fun u i => islandRefresh i u) s = t at each
  obtain ⟨-, runs', enabled, started⟩ := each
  have stops : ControlRuns s (hostStops t) := by
    have isl : (hostStops t).isl = t.isl := by simp
    exact ⟨(controlRuns_of_isl isl).trans runs', fun ev => (evEnabled_of isl (by simp) ev).trans (enabled ev),
      (hostStops_log t).trans started⟩
  have all : ControlRuns s (if s.island .host = .running ∧ t.island .host ≠ .running then hostStops t else t) := by
    split
    · exact stops
    · exact ⟨runs', enabled, started⟩
  rw [if_neg (by simp [runs])]
  exact all

/-- A state that is entered, before its islands change. -/
def entering (d : DevState) (s : State) : State :=
  { s with life := { s.life with dev := d, prev := s.life.dev, entryTime := s.time.timeBase, enteredAt := s.time.now } }

/-- A state that is entered and told, before the chargers follow. -/
def entered (d : DevState) (why : Cause) (s : State) : State :=
  raise (islandsRefresh (entering d s)) 64 .supervisor [(1, s.life.dev.code), (1, d.code), (1, (Config.causeCode why).toNat)]

theorem enterState_eq (d : DevState) (why : Cause) (s : State) : enterState d why s = if balanceOff d then
    { chargesRefresh (entered d why s) with hold.bal := Vector.replicate 6 false } else chargesRefresh (entered d why s) := by
  unfold enterState entered entering
  rfl

theorem entering_control (d : DevState) (mark : islandMark (entering d s) .control = true) (runs : controlRuns s = true) :
    ControlRuns s (islandsRefresh (entering d s)) := by
  have same : controlRuns (entering d s) = controlRuns s := controlRuns_of_isl rfl
  obtain ⟨runs', enabled, started⟩ := islandsRefresh_control mark (same.trans runs)
  exact ⟨runs', fun e => (enabled e).trans (evEnabled_of rfl rfl e), started⟩

/-- A state that CONTROL runs on in logs its own entry. -/
theorem enterState_logs (d : DevState) (why : Cause) (mark : islandMark (entering d s) .control = true) :
    Logged 64 s (enterState d why s) ∧ (controlRuns s = true → ControlRuns s (enterState d why s)) := by
  have told : Told 64 (islandsRefresh (entering d s)) (entered d why s) := raise_told ..
  have logged : Logged 64 s (chargesRefresh (entered d why s)) :=
    Logged.grows (ControlRuns.logged (entering_control d mark) told) (chargesRefresh_grows _ (.refl _))
  have stays (runs : controlRuns s = true) : ControlRuns s (chargesRefresh (entered d why s)) := by
    obtain ⟨runs', enabled, started⟩ := entering_control d mark runs
    have isl : (chargesRefresh (entered d why s)).isl = (islandsRefresh (entering d s)).isl := by simp [entered]
    have dict : (chargesRefresh (entered d why s)).dict = (islandsRefresh (entering d s)).dict := by simp [entered]
    have log : (chargesRefresh (entered d why s)).ev.started = (islandsRefresh (entering d s)).ev.started := by simp [entered]
    exact ⟨(controlRuns_of_isl isl).trans runs', fun e => (evEnabled_of isl dict e).trans (enabled e), log.trans started⟩
  rw [enterState_eq]
  generalize chargesRefresh (entered d why s) = w at logged stays
  split
  · exact ⟨logged, fun runs => ⟨(stays runs).runs, (stays runs).enabled, (stays runs).started⟩⟩
  · exact ⟨logged, stays⟩

end

end Sys2Proof.Machine
end

section
/-! What leaves the CAN FD layer as it was but for the EMCY queue. -/

namespace Sys2Proof.Machine


/-! ### What leaves the CAN FD layer as it was, but for the EMCY queue -/

/-- The CAN FD layer without its EMCY queue. -/
def Can.rest (c : Can) : Can := { c with emcy := [], emcyDropped := 0, emcyDropSeen := false }

theorem Can.eq_of_rest {c d : Can} (same : c.rest = d.rest) :
    c = { d with emcy := c.emcy, emcyDropped := c.emcyDropped, emcyDropSeen := c.emcyDropSeen } := by
  cases c
  cases d
  simp_all [Can.rest]

@[simp] theorem raise_rest (s : State) (ev : Nat) (i : EvIsland) (vs : List (Nat × Nat)) : (raise s ev i vs).can.rest = s.can.rest := by
  rw [raise_eq]
  rfl

@[simp] theorem raiseIf_rest (b : Bool) (s : State) (ev : Nat) (i : EvIsland) (vs : List (Nat × Nat)) :
    (raiseIf b s ev i vs).can.rest = s.can.rest := by
  cases b
  · rfl
  · exact raise_rest ..

/-- Two states with the same parts are the same, but for what events leave. -/
theorem eq_withEvents {t u : State} (time : t.time = u.time) (isl : t.isl = u.isl) (life : t.life = u.life) (mode : t.mode = u.mode)
    (nor : t.nor = u.nor) (dict : t.dict = u.dict) (can : t.can.rest = u.can.rest) (mbx : t.mbx = u.mbx) (win : t.win = u.win)
    (port : t.port = u.port) (cache : t.cache = u.cache) (adm : t.adm = u.adm) (pack : t.pack = u.pack) (bank : t.bank = u.bank)
    (packEst : t.packEst = u.packEst) (bankEst : t.bankEst = u.bankEst) (hold : t.hold = u.hold) (rails : t.rails = u.rails)
    (keep : t.keep = u.keep) (tremor : t.tremor = u.tremor) (outage : t.outage = u.outage) (flash : t.flash = u.flash)
    (video : t.video = u.video) (pending : t.pending = u.pending) : t = withEvents u t := by
  have layer := Can.eq_of_rest can
  unfold withEvents
  rw [← layer, ← time, ← isl, ← life, ← mode, ← nor, ← dict, ← mbx, ← win, ← port, ← cache, ← adm, ← pack, ← bank, ← packEst, ← bankEst,
    ← hold, ← rails, ← keep, ← tremor, ← outage, ← flash, ← video, ← pending]

@[simp] theorem foldl_rest {α : Type} (f : State → α → State) (l : List α) (s : State)
    (h : ∀ t a, (f t a).can.rest = t.can.rest) : (l.foldl f s).can.rest = s.can.rest := foldl_keeps (fun t => t.can.rest) f h l s

@[simp] theorem forAll_rest {n : Nat} (f : State → Fin n → State) (s : State) (h : ∀ t a, (f t a).can.rest = t.can.rest) :
    (forAll n f s).can.rest = s.can.rest := foldl_keeps (fun t => t.can.rest) f h _ s

@[simp] theorem openEpoch_rest (byPre : Bool) (s : State) : (openEpoch byPre s).can.rest = s.can.rest := by
  unfold openEpoch
  dsimp only
  (repeat' split) <;> simp

@[simp] theorem allocStripe_rest (s : State) : (allocStripe s).can.rest = s.can.rest := by
  unfold allocStripe
  dsimp only
  (repeat' split) <;> simp

@[simp] theorem makeRoom_rest (s : State) : (makeRoom s).can.rest = s.can.rest := by
  unfold makeRoom
  (repeat' split) <;> simp

@[simp] theorem copySlot_rest (k : Nat) (s : State) : (copySlot k s).can.rest = s.can.rest := by
  unfold copySlot
  (repeat' split) <;> simp

end Sys2Proof.Machine
end

section
/-! The end of SIMMER and of the Sinter (O26). -/

namespace Sys2Proof.Machine


/-! ### The Sinter begins -/

section
variable (cause : Nat) (s : State)

/-- The outage's record as the Sinter begins, with the streams stopped. -/
def sintering : State := stopStreams .closeSinter 4 { s with
  outage := { s.outage with
    phase := .copy, sinterCause := cause, deadline := none, bytes := 0, duration := 0, energy := 0
    lastSimmer := if s.life.dev == .simmer then (s.time.now - s.outage.simmerAt) / 1000000 else s.outage.lastSimmer }
  life.selfRefresh := false }

/-- The Sinter entered and told. -/
def sinterTold : State :=
  raiseIf (decide ((energyTotal s : Rat) < energyNeed s))
    (raise (enterState .sinter (if cause = 3 then .timer else .completion) (sintering cause s)) 458 .control [(1, cause)]) 465 .control []

/-- The Sinter with its supplies: the drives' rails down. -/
def sinterSupplied : State := walkDown [3] (holdRefresh (setSource .bank true (sinterTold cause s)))

theorem enterSinter_eq : enterSinter cause s = if s.life.dramLost then enterHalt 4 true false (sinterSupplied cause s) else
    let t := if (sinterSupplied cause s).flash.open_.isEmpty then openEpoch false (sinterSupplied cause s) else sinterSupplied cause s
    { t with flash := { t.flash with preSinter := false, copying := [] } } := by
  unfold enterSinter sinterSupplied sinterTold sintering
  rfl

theorem sinterSupplied_frame : (sinterSupplied cause s).dict = s.dict ∧ (sinterSupplied cause s).time = s.time ∧
    (sinterSupplied cause s).nor = s.nor ∧ (sinterSupplied cause s).keep = s.keep ∧
    (sinterSupplied cause s).life = { s.life with
      selfRefresh := false, dev := .sinter, prev := s.life.dev, entryTime := s.time.timeBase, enteredAt := s.time.now } ∧
    (sinterSupplied cause s).outage = (sintering cause s).outage := by
  unfold sinterSupplied sinterTold
  simp [sintering]

theorem sintering_outage : (sintering cause s).outage = { s.outage with
    phase := .copy, sinterCause := cause, deadline := none, bytes := 0, duration := 0, energy := 0
    lastSimmer := if s.life.dev == .simmer then (s.time.now - s.outage.simmerAt) / 1000000 else s.outage.lastSimmer } := by
  simp [sintering]

/-- The Sinter's beginning is logged, with its entry, where CONTROL runs. -/
theorem sinterSupplied_logged (runs : s.life.restarting = false) : Logged 458 s (sinterSupplied cause s) ∧ Logged 64 s (sinterSupplied cause s) := by
  have mark : islandMark (entering .sinter (sintering cause s)) .control = true := by
    have restarting : (sintering cause s).life.restarting = false := by simp [sintering, runs]
    simp [islandMark, entering, restarting]
  generalize why : (if cause = 3 then Cause.timer else Cause.completion) = w
  obtain ⟨entry, control⟩ := enterState_logs .sinter w mark
  have isl : (sintering cause s).isl = s.isl := by simp [sintering]
  have dict : (sintering cause s).dict = s.dict := by simp [sintering]
  have log : (sintering cause s).ev.started = s.ev.started := by simp [sintering]
  have back {ev : Nat} {t : State} (logged : Logged ev (sintering cause s) t) : Logged ev s t := fun runs started enabled =>
    logged ((controlRuns_of_isl isl).trans runs) (log.trans started) ((evEnabled_of isl dict ev).trans enabled)
  have told : Told 458 (enterState .sinter w (sintering cause s))
      (raise (enterState .sinter w (sintering cause s)) 458 .control [(1, cause)]) := raise_told ..
  have grows : Grows false (raise (enterState .sinter w (sintering cause s)) 458 .control [(1, cause)]).ev (sinterSupplied cause s).ev := by
    have same : (sinterSupplied cause s).ev = (sinterTold cause s).ev := by simp [sinterSupplied]
    rw [same]
    unfold sinterTold
    rw [why]
    exact raiseIf_grows _ _ _ _ _ (.refl _)
  exact ⟨(back (ControlRuns.logged control told)).grows grows, ((back entry).grows (raise_grows _ _ _ _ (.refl _))).grows grows⟩


theorem enterSinter_result (dram : s.life.dramLost = false) (runs : s.life.restarting = false) :
    Logged 458 s (enterSinter cause s) ∧ Logged 64 s (enterSinter cause s) ∧
    (enterSinter cause s).life = { s.life with
      selfRefresh := false, dev := .sinter, prev := s.life.dev, entryTime := s.time.timeBase, enteredAt := s.time.now } ∧
    (enterSinter cause s).outage = (sintering cause s).outage ∧ (enterSinter cause s).flash.preSinter = false ∧
    (enterSinter cause s).flash.open_ ≠ [] ∧ (enterSinter cause s).dict = s.dict ∧ (enterSinter cause s).time = s.time ∧
    (enterSinter cause s).nor = s.nor ∧ (enterSinter cause s).keep = s.keep := by
  obtain ⟨logged, entry⟩ := sinterSupplied_logged cause s runs
  obtain ⟨dict, time, nor, keep, life, outage⟩ := sinterSupplied_frame cause s
  rw [enterSinter_eq, if_neg (by simp [dram])]
  generalize sinterSupplied cause s = t at logged entry dict time nor keep life outage
  dsimp only
  by_cases none : t.flash.open_.isEmpty = true
  · rw [if_pos none]
    have opens : (openEpoch false t).flash.open_ ≠ [] := by
      unfold openEpoch
      simp
    have ev : (openEpoch false t).ev = t.ev := by
      unfold openEpoch
      dsimp only
      split <;> rfl
    refine ⟨logged.grows (by rw [ev]; exact .refl _), entry.grows (by rw [ev]; exact .refl _), ?_, ?_, rfl, opens, ?_, ?_, ?_, ?_⟩
    all_goals simp [life, outage, dict, time, nor, keep]
  · rw [if_neg none]
    exact ⟨logged, entry, life, outage, rfl, fun empty => none (by simp [empty]), dict, time, nor, keep⟩

theorem enterSinter_lost (dram : s.life.dramLost = true) : (enterSinter cause s).life.dev = .halt ∧
    (enterSinter cause s).life.haltCause = 4 := by
  obtain ⟨dev, halt, -⟩ := enterHalt_life 4 true false (sinterSupplied cause s)
  rw [enterSinter_eq, if_pos dram]
  exact ⟨dev, halt⟩

/-! ### The firmware that restarts on the path -/

theorem startFirmware_life : (startFirmware s).life.dev = s.life.dev ∧ (startFirmware s).life.restarting = s.life.restarting ∧
    (startFirmware s).life.bootStep = 6 ∧ (startFirmware s).life.resetCause = s.life.resetCause := by
  unfold startFirmware
  dsimp only
  split
  · exact ⟨rfl, rfl, rfl, rfl⟩
  · split
    · exact ⟨rfl, rfl, rfl, rfl⟩
    · simp [keepPend]

/-- The firmware's restart as it begins: the islands follow it. -/
def restartBegun : State :=
  let s1 := bootBegins s
  islandsRefresh { s1 with
    life := { s1.life with resetCause := 7, restarting := true, bootStep := 6, bootAt := s1.time.now, warmBoot := true }
    adm.pubAt := none }

theorem outageRestart_eq (runs : s.life.restarting = false) : outageRestart s = startFirmware (restartBegun s) := by
  unfold outageRestart restartBegun
  rw [if_neg (by simp [runs])]

theorem restartBegun_result : (restartBegun s).life.dev = s.life.dev ∧ (restartBegun s).life.restarting = true ∧
    (restartBegun s).life.resetCause = 7 ∧ (restartBegun s).time.timeBase = 0 := by
  have begins : (bootBegins s).life.dev = s.life.dev := by simp [bootBegins]
  have time := (bootBegins_result s).1
  unfold restartBegun
  dsimp only
  generalize bootBegins s = u at begins time
  simp [begins, time]

theorem outageRestart_result (runs : s.life.restarting = false) : (outageRestart s).life.dev = s.life.dev ∧
    (outageRestart s).life.restarting = true ∧ (outageRestart s).life.bootStep = 6 ∧ (outageRestart s).life.resetCause = 7 ∧
    (outageRestart s).time.timeBase = 0 := by
  obtain ⟨dev, restarting, cause, time⟩ := restartBegun_result s
  obtain ⟨dev', restarting', step, cause'⟩ := startFirmware_life (restartBegun s)
  have same (u : State) : (startFirmware u).time = u.time := by simp
  rw [outageRestart_eq s runs]
  exact ⟨dev'.trans dev, restarting'.trans restarting, step, cause'.trans cause, by rw [same, time]⟩

/-! ### The copy and the commit -/

theorem copyAll_rest (p : Slot → Bool) (fuel : Nat) : (copyAll p fuel s).can.rest = s.can.rest := by
  induction fuel generalizing s with
  | zero => rfl
  | succ fuel ih =>
    unfold copyAll
    split
    · rfl
    · dsimp only
      split
      · rfl
      · exact (ih _).trans (copySlot_rest ..)

theorem copyAll_eq (p : Slot → Bool) (fuel : Nat) : copyAll p fuel s =
    withEvents { s with cache := (copyAll p fuel s).cache, flash := (copyAll p fuel s).flash } (copyAll p fuel s) := by
  apply eq_withEvents <;> simp [copyAll_frame, copyAll_rest]


/-- The report of the latest Sinter. -/
def lastSinter : Nat × Nat × Nat := (s.outage.lastBytes, s.outage.lastDuration, s.outage.lastEnergy)

theorem enterHalt_lastSinter (control sticky : Bool) : lastSinter (enterHalt cause control sticky s) = lastSinter s := by
  unfold lastSinter enterHalt
  dsimp only
  split <;> split <;> simp

theorem resumeServe_lastSinter : lastSinter (resumeServe s) = lastSinter s := by
  unfold lastSinter resumeServe
  dsimp only
  repeat' split
  all_goals simp

/-- KEEP where power has not returned. -/
theorem enterKeep_result (why : Cause) (gone : s.outage.returned = false) : (enterKeep why s).life.dev = .keep ∧
    (enterKeep why s).outage = { s.outage with phase := .keep } ∧ (enterKeep why s).keep.lifeEnd = 2 ∧
    (s.life.socKnown = true → (enterKeep why s).packEst.keepCounter = s.packEst.counter) := by
  have put (k : Keep) (b : KeepRec) : (keepPut k b).lifeEnd = k.lifeEnd := by
    unfold keepPut
    split <;> rfl
  have enables (t : State) (p : Prop) [Decidable p] : (if p then releaseEnables t else t).life = t.life ∧
      (if p then releaseEnables t else t).outage = t.outage ∧ (if p then releaseEnables t else t).keep = t.keep ∧
      (if p then releaseEnables t else t).packEst = t.packEst := by
    split <;> exact ⟨rfl, rfl, rfl, rfl⟩
  unfold enterKeep
  dsimp only
  rw [if_neg (by simp [gone]), (enables ..).1, (enables ..).2.1, (enables ..).2.2.1, (enables ..).2.2.2]
  refine ⟨?_, ?_, ?_, fun known => ?_⟩
  · simp [keepWriteSnap]
  · simp [keepWriteSnap]
  · simp [keepWriteSnap, put]
  · simp [keepWriteSnap, known]

/-! ### What a commit leaves unrestored -/

theorem countSlots_mapVals {x y : Cache} {f : Nat → Slot → Slot} {p : Slot → Bool} (slots : y.slots = mapVals f x.slots)
    (same : ∀ k q, p (f k q) = p q) : countSlots y p = countSlots x p := by
  unfold countSlots
  rw [slots, mapVals, List.filter_map, List.length_map]
  congr 1
  exact List.filter_congr fun q _ => same q.1 q.2

theorem openEpoch_unrestored (byPre : Bool) : unrestoredCount (openEpoch byPre s).cache = unrestoredCount s.cache := by
  unfold openEpoch
  dsimp only
  split
  · exact countSlots_mapVals (f := fun _ q => { q with copyValid := false }) rfl fun _ _ => rfl
  · rfl

theorem allocStripe_unrestored : unrestoredCount (allocStripe s).cache = unrestoredCount s.cache := by
  unfold allocStripe
  dsimp only
  have same (b : Bool) (t : State) (i : EvIsland) : (raiseIf b t 526 i []).cache = t.cache := by simp
  rw [same]
  split
  · exact openEpoch_unrestored s false
  · rfl

theorem commitSinter_unrestored : unrestoredCount (commitSinter s).cache = unrestoredCount s.cache := by
  have programs (ws : List (Nat × Block)) (k : Nat) (t : State) : (programMeta ws k t).cache = t.cache := by simp
  have pads (t : State) : (padStripe t).cache = t.cache := by simp
  have manifests (m : Manifest) (t : State) : (writeManifest m t).cache = t.cache := by simp
  have writes (t : State) : unrestoredCount (writeMeta t).cache = unrestoredCount t.cache := by
    unfold writeMeta
    dsimp only
    exact foldl_inv (inv := fun u : State => unrestoredCount u.cache = unrestoredCount t.cache) _ rfl fun u k h => by
      rw [programs]
      exact (allocStripe_unrestored u).trans h
  unfold commitSinter
  split
  · rfl
  · unfold commitEpochs
    dsimp only
    rw [manifests, writes, pads]

/-- A slot whose latest version the image holds, marked so. -/
def copyMarked (q : Slot) : Slot :=
  match imageCopy (chainOf s.flash) q.tenant (volumeOf s.cache q.handle) q.lba with
  | some p => if q.dirty ∧ p.2.2.seq = q.seq then { q with copyValid := true, copy := some (p.1.number, p.2.1) } else q
  | none => q

theorem markCopies_slots : (markCopies s).cache.slots = mapVals (fun _ q => copyMarked s q) s.cache.slots := rfl

theorem markCopies_unrestored : unrestoredCount (markCopies s).cache = unrestoredCount s.cache := by
  refine countSlots_mapVals (x := s.cache) (markCopies_slots s) fun k q => ?_
  unfold copyMarked
  split
  · split <;> rfl
  · rfl

theorem commitDone_unrestored : unrestoredCount (commitDone s).cache = unrestoredCount s.cache := by
  have same : (commitDone s).cache = (markCopies (commitSinter s)).cache := by
    unfold commitDone
    simp [keepWrite, keepWriteSnap]
  rw [same, markCopies_unrestored, commitSinter_unrestored]

/-! ### The manifest is committed -/

theorem commitSinter_keeps : (markCopies (commitSinter s)).life = s.life ∧ (markCopies (commitSinter s)).outage = s.outage ∧
    (markCopies (commitSinter s)).isl = s.isl ∧ (markCopies (commitSinter s)).dict = s.dict ∧
    (markCopies (commitSinter s)).packEst = s.packEst ∧ (markCopies (commitSinter s)).ev.started = s.ev.started := by
  have log : (markCopies (commitSinter s)).ev = (commitSinter s).ev := rfl
  rw [log]
  refine ⟨?_, ?_, ?_, ?_, ?_, commitSinter_log s⟩
  all_goals simp [markCopies, commitSinter_frame]

theorem commitDone_result : (commitDone s).life = s.life ∧ (commitDone s).outage = { s.outage with
      lastBytes := s.outage.bytes, lastDuration := s.outage.duration, lastEnergy := s.outage.energy } ∧
    (commitDone s).isl = s.isl ∧ (commitDone s).dict = s.dict ∧ (commitDone s).packEst = s.packEst ∧
    (commitDone s).ev.started = s.ev.started ∧ lastSinter (commitDone s) = (s.outage.bytes, s.outage.duration, s.outage.energy) := by
  obtain ⟨life, outage, isl, dict, est, log⟩ := commitSinter_keeps s
  have kept : (commitDone s).outage = { s.outage with
      lastBytes := s.outage.bytes, lastDuration := s.outage.duration, lastEnergy := s.outage.energy } := by
    unfold commitDone
    simp [keepWrite, keepWriteSnap]
  refine ⟨?_, kept, ?_, ?_, ?_, ?_, by unfold lastSinter; rw [kept]⟩
  · simp [commitDone_frame]
  · simp [commitDone_frame]
  · simp [commitDone_frame]
  · simp [commitDone_frame]
  · exact commitDone_log s

end

end Sys2Proof.Machine
end

section
open Sys2Proof Sys2Proof.Machine

/-- Settles O26: SIMMER ends in SINTER with its cause, the copy ends with its report, and the commit leads to KEEP, to HALT or back to
service. -/
theorem simmerAndSinterEnd : Obligations.SimmerAndSinterEnd := by
  unfold Obligations.SimmerAndSinterEnd
  refine ⟨?ends, ?lost, ?waits, ?restarts, ?copied, ?committed⟩
  case ends =>
    intro s c cmd which dev runs deadline dram rank
    have run : exec cmd s = .next (enterSinter c s) := by
      simp only [List.mem_cons, Prod.mk.injEq, List.not_mem_nil, or_false] at which
      obtain ⟨rfl, rfl⟩ | ⟨rfl, rfl⟩ := which
      · exact if_neg (by simp [dev, runs, deadline, rank])
      · exact (if_neg (by simp [dev, rank])).trans (if_neg (by simp [runs]))
    obtain ⟨logged, entry, life, outage, pre, open', dict, time, nor, keep⟩ := enterSinter_result c s dram runs
    rw [sintering_outage] at outage
    refine ⟨_, run, logged, entry, by rw [life], by rw [life, dev], ?_, ?_, ?_, ?_, ?_, by rw [life], pre, open', dict, time, nor, keep⟩
    all_goals simp [outage, dev]
  case lost =>
    intro s cmd which dev runs deadline dram rank
    have run : ∃ c, exec cmd s = .next (enterSinter c s) := by
      simp only [List.mem_cons, List.not_mem_nil, or_false] at which
      obtain rfl | rfl := which
      · exact ⟨2, if_neg (by simp [dev, runs, deadline, rank])⟩
      · exact ⟨3, (if_neg (by simp [dev, rank])).trans (if_neg (by simp [runs]))⟩
    obtain ⟨c, run⟩ := run
    exact ⟨_, run, enterSinter_lost c s dram⟩
  case waits =>
    intro s dev runs rank
    exact (if_neg (by simp [dev, rank])).trans (if_pos runs)
  case restarts =>
    intro s dev runs
    have run : exec .deadlineAckTimeout s = .next (outageRestart { s with outage.deadline := none }) := if_neg (not_not.2 dev)
    obtain ⟨dev', restarting, step, cause, time⟩ := outageRestart_result { s with outage.deadline := none } runs
    obtain ⟨-, dict, -, outage, -⟩ := outageRestart_frame { s with outage.deadline := none }
    exact ⟨_, run, outage, dev'.trans dev, restarting, step, cause, time, dict⟩
  case copied =>
    intro e d s dev phase runs
    have run : exec (.sinterCopyComplete e d) s = .next _ := if_neg (by simp [dev, phase, runs])
    have frame := copyAll_eq s toCopy s.cache.slots.length
    refine ⟨_, run, ?_, ?_⟩
    · rw [show (copyAll toCopy s.cache.slots.length s).outage = s.outage from (congrArg State.outage frame :)]
    · generalize copyAll toCopy s.cache.slots.length s = t at frame
      generalize t.cache = x at frame ⊢
      generalize t.flash = y at frame ⊢
      rw [frame]
      rfl
  case committed =>
    intro s dev phase runs
    obtain ⟨life, outage, isl, dict, est, log, last⟩ := commitDone_result s
    have run : exec .manifestCommitted s = .next (if (commitDone s).life.fatalPath then enterHalt 4 true false (noteShort (commitDone s))
        else if (commitDone s).outage.returned then chargeAgain (commitDone s)
          (resumeServe (raise { commitDone s with flash.imageState := 2 } 460 .control []))
        else enterKeep .completion (noteShort (commitDone s))) := if_neg (by simp [dev, phase, runs])
    have unrestored := commitDone_unrestored s
    generalize commitDone s = t at run unrestored life outage isl dict est log last
    have short : (noteShort t).life = t.life ∧ (noteShort t).outage = t.outage ∧ (noteShort t).packEst = t.packEst := by
      simp [noteShort_frame]
    have lastShort : lastSinter (noteShort t) = lastSinter t := by unfold lastSinter; rw [short.2.1]
    have report (u : State) (same : lastSinter u = lastSinter t) : u.outage.lastBytes = s.outage.bytes ∧
        u.outage.lastDuration = s.outage.duration ∧ u.outage.lastEnergy = s.outage.energy := by
      rw [last] at same
      simpa [lastSinter] using same
    have back : t.outage.returned = s.outage.returned := by rw [outage]
    by_cases path : s.life.fatalPath = true
    · rw [if_pos (by rw [life]; exact path)] at run
      obtain ⟨halt, cause, -⟩ := enterHalt_life 4 true false (noteShort t)
      exact ⟨_, run, fun no => absurd (no.symm.trans path) (by decide), fun _ => ⟨halt, cause, enterHalt_lifeEnd ..⟩,
        fun no => absurd (no.symm.trans path) (by decide), report _ ((enterHalt_lastSinter ..).trans lastShort)⟩
    · have path' : s.life.fatalPath = false := by simpa using path
      rw [if_neg (by rw [life]; exact path)] at run
      by_cases returned : s.outage.returned = true
      · rw [if_pos (by rw [back]; exact returned)] at run
        generalize told : raise { t with flash.imageState := 2 } 460 .control [] = u at run
        have tells : Told 460 t u := told ▸ (raise_told ..).of rfl rfl rfl
        have logs : Logged 460 s u := tells.loggedFrom isl dict log
        have frame : u = withEvents { t with flash.imageState := 2 } u := told ▸ (raise_eq ..)
        have life' : u.life = s.life := (congrArg State.life frame :).trans life
        have cache : u.cache = t.cache := (congrArg State.cache frame :)
        have outage' : u.outage = t.outage := (congrArg State.outage frame :)
        obtain ⟨prev, dev', -, -, -, -, -, -, -, -, grows⟩ := resumeServe_result u
        obtain ⟨-, grows'⟩ := chargeAgain_result (resumeServe u) t
        have charge := chargeAgain_frame t (resumeServe u)
        refine ⟨_, run, fun _ no => absurd (no.symm.trans returned) (by decide), fun yes => absurd yes path,
          fun _ _ => ⟨?_, ?_, Logged.grows logs (grows' _ grows)⟩, report _ ?_⟩
        · simp [charge, prev, life', dev]
        · simp [charge, dev', life', cache, unrestored]
        · have same : lastSinter (chargeAgain t (resumeServe u)) = lastSinter (resumeServe u) := by unfold lastSinter; simp [charge]
          rw [same, resumeServe_lastSinter]
          unfold lastSinter
          rw [outage']
      · rw [if_neg (by rw [back]; exact returned)] at run
        have gone : (noteShort t).outage.returned = false := by rw [short.2.1, back]; simpa using returned
        obtain ⟨keep, phase', ends, counter⟩ := enterKeep_result (noteShort t) .completion gone
        refine ⟨_, run, fun _ _ => ⟨keep, by rw [phase'], ends, fun known => ?_⟩, fun no => absurd no path, fun _ yes => absurd yes returned, ?_⟩
        · rw [counter (by rw [short.1, life]; exact known), short.2.2, est]
        · refine report _ ((?_ : lastSinter _ = lastSinter (noteShort t)).trans lastShort)
          unfold lastSinter
          rw [phase']
end

section
/-! The lock, the expert session and the slots while a state is entered. -/

namespace Sys2Proof.Machine


/-! ### The lock, the session and the slots while a state is entered -/

/-- The lock is closed and no expert session is open. -/
def Modes.shut (m : Modes) : Prop := m.lock = false ∧ m.expert = none

@[simp] theorem foldl_shut {α : Type} (f : State → α → State) (l : List α) (s : State) (h : s.mode.shut)
    (each : ∀ t a, t.mode.shut → (f t a).mode.shut) : (l.foldl f s).mode.shut :=
  List.foldlRecOn l f h fun t ht a _ => each t a ht

@[simp] theorem forAll_shut {n : Nat} (f : State → Fin n → State) (s : State) (h : s.mode.shut)
    (each : ∀ t a, t.mode.shut → (f t a).mode.shut) : (forAll n f s).mode.shut :=
  foldl_shut f _ s h each

@[simp] theorem outageEffRefresh_shut (s : State) (h : s.mode.shut) : (outageEffRefresh s).mode.shut := by
  unfold outageEffRefresh
  dsimp only
  repeat' split
  all_goals simpa [Modes.shut] using h

@[simp] theorem activityRefresh_shut (s : State) (h : s.mode.shut) : (activityRefresh s).mode.shut := by
  obtain ⟨lock, expert⟩ := activityRefresh_mode s
  exact ⟨lock.trans h.1, expert.trans h.2⟩

@[simp] theorem fitRefresh_shut (s : State) (h : s.mode.shut) : (fitRefresh s).mode.shut := by
  unfold fitRefresh
  dsimp only
  split
  all_goals simpa [Modes.shut] using h

@[simp] theorem modesRefresh_shut (s : State) (h : s.mode.shut) : (modesRefresh s).mode.shut := by
  unfold modesRefresh
  simp (maxDischargeDepth := 20) [h]

@[simp] theorem geyserEnds_shut (s : State) (h : s.mode.shut) : (geyserEnds s).mode.shut := by
  unfold geyserEnds
  simp (maxDischargeDepth := 20) [h]

@[simp] theorem geyserStops_shut (s : State) (h : s.mode.shut) : (geyserStops s).mode.shut := by
  unfold geyserStops
  simp (maxDischargeDepth := 20) [h]

@[simp] theorem closeExpert_shut (s : State) (h : s.mode.shut) : (closeExpert s).mode.shut := by
  unfold closeExpert
  rw [h.2]
  exact h

@[simp] theorem hostChanged_shut (before s : State) (h : s.mode.shut) : (hostChanged before s).mode.shut := by
  unfold hostChanged
  dsimp only
  (repeat' split) <;> simp (maxDischargeDepth := 20) [h]

@[simp] theorem resetFunction_shut (fn : Fin 16) (s : State) (h : s.mode.shut) : (resetFunction fn s).mode.shut := by
  unfold resetFunction
  dsimp only
  (repeat' split) <;> simp (maxDischargeDepth := 20) [h]

@[simp] theorem resetEvery_shut (s : State) (h : s.mode.shut) : (resetEvery s).mode.shut := by
  unfold resetEvery
  simp +contextual (maxDischargeDepth := 20) [h]

@[simp] theorem linkLost_shut (s : State) (h : s.mode.shut) : (linkLost s).mode.shut := by
  unfold linkLost
  dsimp only
  simp (maxDischargeDepth := 20) [h]

@[simp] theorem hostStops_shut (s : State) (h : s.mode.shut) : (hostStops s).mode.shut := by
  unfold hostStops
  dsimp only
  (repeat' split) <;> simp (maxDischargeDepth := 20) [h]

@[simp] theorem islandsRefresh_shut (s : State) (h : s.mode.shut) : (islandsRefresh s).mode.shut := by
  unfold islandsRefresh
  dsimp only
  (repeat' split) <;> simp +contextual (maxDischargeDepth := 20) [h]

@[simp] theorem enterState_shut (d : DevState) (why : Cause) (s : State) (h : s.mode.shut) : (enterState d why s).mode.shut :=
    by
  unfold enterState
  dsimp only
  (repeat' split) <;> simp (maxDischargeDepth := 20) [h]

@[simp] theorem foldl_free {α : Type} (f : State → α → State) (l : List α) (s : State) (h : s.cache.slots = [])
    (each : ∀ t a, t.cache.slots = [] → (f t a).cache.slots = []) : (l.foldl f s).cache.slots = [] :=
  List.foldlRecOn l f h fun t ht a _ => each t a ht

@[simp] theorem forAll_free {n : Nat} (f : State → Fin n → State) (s : State) (h : s.cache.slots = [])
    (each : ∀ t a, t.cache.slots = [] → (f t a).cache.slots = []) : (forAll n f s).cache.slots = [] :=
  foldl_free f _ s h each

@[simp] theorem State.modTen_free (s : State) (n : Fin 16) (f : Tenant → Tenant) (h : s.cache.slots = []) : (State.modTen s n
    f).cache.slots = [] := by
  unfold State.modTen
  simp (maxDischargeDepth := 20) [h]

@[simp] theorem resetQueues_free (fn : Fin 16) (s : State) (h : s.cache.slots = []) : (resetQueues fn s).cache.slots = [] :=
    by
  unfold resetQueues
  dsimp only
  simp +contextual (maxDischargeDepth := 20) [h]

@[simp] theorem freezeSlots_free (n : Fin 16) (s : State) (h : s.cache.slots = []) : (freezeSlots n s).cache.slots = [] := by
  simp [freezeSlots, h, mapVals]

@[simp] theorem thawSlots_free (n : Fin 16) (s : State) (h : s.cache.slots = []) : (thawSlots n s).cache.slots = [] := by
  unfold thawSlots
  split
  · simp [h, mapVals]
  · exact h

@[simp] theorem hostChanged_free (before s : State) (h : s.cache.slots = []) : (hostChanged before s).cache.slots = [] := by
  unfold hostChanged
  dsimp only
  (repeat' split) <;> simp (maxDischargeDepth := 20) [h]

@[simp] theorem resetFunction_free (fn : Fin 16) (s : State) (h : s.cache.slots = []) : (resetFunction fn s).cache.slots = []
    := by
  unfold resetFunction
  dsimp only
  (repeat' split) <;> simp (maxDischargeDepth := 20) [h]

@[simp] theorem resetEvery_free (s : State) (h : s.cache.slots = []) : (resetEvery s).cache.slots = [] := by
  unfold resetEvery
  simp +contextual (maxDischargeDepth := 20) [h]

@[simp] theorem linkLost_free (s : State) (h : s.cache.slots = []) : (linkLost s).cache.slots = [] := by
  unfold linkLost
  dsimp only
  simp (maxDischargeDepth := 20) [h]

@[simp] theorem hostStops_free (s : State) (h : s.cache.slots = []) : (hostStops s).cache.slots = [] := by
  unfold hostStops
  dsimp only
  (repeat' split) <;> simp (maxDischargeDepth := 20) [h]

@[simp] theorem islandsRefresh_free (s : State) (h : s.cache.slots = []) : (islandsRefresh s).cache.slots = [] := by
  unfold islandsRefresh
  dsimp only
  (repeat' split) <;> simp +contextual (maxDischargeDepth := 20) [h]

@[simp] theorem enterState_free (d : DevState) (why : Cause) (s : State) (h : s.cache.slots = []) : (enterState d why
    s).cache.slots = [] := by
  unfold enterState
  dsimp only
  (repeat' split) <;> simp (maxDischargeDepth := 20) [h]

end Sys2Proof.Machine
end

section
/-! A warm BOOT, and the requests of the life cycle (O1). -/

namespace Sys2Proof.Machine


/-! ### A warm BOOT -/

section
variable (cause : Nat) (why : Cause) (s : State)

theorem bootBegins_shut : (bootBegins s).mode.shut ∧ (bootBegins s).life = { s.life with bootCount := s.life.bootCount + 1 } := by
  have closes (t : State) : (closeWindows (fun _ => true) true t).mode = t.mode := by simp
  have lock (t : State) : (closeLock none t).mode.lock = false := by
    unfold closeLock
    split
    · simp
    · rename_i off; simpa using off
  have expert (t : State) : (closeExpert t).mode.expert = none ∧ (closeExpert t).mode.lock = t.mode.lock := by
    unfold closeExpert
    split
    · rename_i none; exact ⟨none, rfl⟩
    · simp
  constructor
  · unfold bootBegins
    dsimp only
    rw [closes]
    exact ⟨(expert _).2.trans (lock _), (expert _).1⟩
  · simp [bootBegins]

/-- A warm BOOT as it begins, before its state is entered. -/
def warmBegun : State :=
  let s1 := stopStreams .closeBoot 4 (closeSessions (bootBegins (geyserStops s)))
  { s1 with
    life := { s1.life with
      resetCause := cause, boot := .warm s.life.dev, bootStep := 6, bootAt := s1.time.now, warmBoot := true, selfRefresh := true }
    adm.pubAt := none }

theorem warmBoot_eq : warmBoot cause why s = startFirmware (enterState .boot why (warmBegun cause s)) := rfl

theorem warmBegun_result : (warmBegun cause s).mode.shut ∧ (warmBegun cause s).time.timeBase = 0 ∧
    (warmBegun cause s).life = { s.life with
      bootCount := s.life.bootCount + 1, resetCause := cause, boot := .warm s.life.dev, bootStep := 6
      bootAt := (warmBegun cause s).life.bootAt, warmBoot := true, selfRefresh := true } := by
  obtain ⟨shut, life⟩ := bootBegins_shut (geyserStops s)
  have time := (bootBegins_result (geyserStops s)).1
  have same : (geyserStops s).life = s.life := by simp
  rw [same] at life
  have kept (t : State) : (stopStreams .closeBoot 4 (closeSessions t)).mode = t.mode ∧ (stopStreams .closeBoot 4 (closeSessions t)).time = t.time ∧
      (stopStreams .closeBoot 4 (closeSessions t)).life = t.life := by simp
  obtain ⟨mode', time', life'⟩ := kept (bootBegins (geyserStops s))
  unfold warmBegun
  dsimp only
  rw [mode', time', life', life]
  exact ⟨shut, time, rfl⟩

theorem startFirmware_boot : (startFirmware s).life.boot = s.life.boot ∧ (startFirmware s).life.warmBoot = s.life.warmBoot ∧
    (startFirmware s).life.bootCount = s.life.bootCount := by
  unfold startFirmware
  dsimp only
  split
  · exact ⟨rfl, rfl, rfl⟩
  · split
    · exact ⟨rfl, rfl, rfl⟩
    · simp [keepPend]

theorem warmBoot_result : (warmBoot cause why s).life.dev = .boot ∧ (warmBoot cause why s).life.boot = .warm s.life.dev ∧
    (warmBoot cause why s).life.resetCause = cause ∧ (warmBoot cause why s).life.warmBoot = true ∧
    (warmBoot cause why s).life.bootCount = s.life.bootCount + 1 ∧ (warmBoot cause why s).time.timeBase = 0 ∧
    (warmBoot cause why s).mode.shut := by
  obtain ⟨shut, time, life⟩ := warmBegun_result cause s
  have shut' := enterState_shut .boot why _ shut
  have time' : (enterState .boot why (warmBegun cause s)).time = (warmBegun cause s).time := by simp
  have life' := enterState_life .boot why (warmBegun cause s)
  rw [life] at life'
  rw [warmBoot_eq]
  generalize enterState .boot why (warmBegun cause s) = t at shut' time' life'
  obtain ⟨dev, -, -, cause'⟩ := startFirmware_life t
  obtain ⟨boot, warm, count⟩ := startFirmware_boot t
  have kept : (startFirmware t).time = t.time ∧ (startFirmware t).mode = t.mode := by simp
  rw [dev, boot, warm, count, cause', kept.1, kept.2, time', time, life']
  exact ⟨rfl, rfl, rfl, rfl, rfl, rfl, shut'⟩

/-! ### Going down on request -/

theorem walkDown_fault (groups : List Nat) : (walkDown groups s).rails.fault = s.rails.fault := by
  unfold walkDown
  split
  · exact List.foldlRecOn (motive := fun t : State => t.rails.fault = s.rails.fault) (s.downRails groups _) _ rfl fun t h r _ => h
  · rfl

theorem coldBoot_slots : (coldBoot cause why s).cache.slots = [] := by
  unfold coldBoot
  dsimp only
  have est (t : State) (c : Channel) : (estAtBoot t c).cache = t.cache := by
    rw [estAtBoot_frame']
    cases c <;> rfl
  refine enterState_free _ _ _ ?_
  simp [loadKeep_frame, est, loseDram]

/-- Service that goes down on request: the walk is under way, or it is over and what was asked for follows. -/
theorem reqDown_accepts (next : Nat) (dev : s.life.dev = .serve) (clean : noDirty s.cache = true) (rank : outranked 1 s = false) :
    (reqDown next s).2 = .ok ∧ ((reqDown next s).1.life.dev = .serve ∧ (reqDown next s).1.life.afterDown = next ∨
      (∃ t, (reqDown next s).1 = coldBoot 5 .request t ∧ next = 2) ∨
      (∃ t, (reqDown next s).1 = enterSleep .request t ∧ next = 4 ∧ t.life = { s.life with afterDown := next })) := by
  have wants (t : State) (c : DownCause) : (wantDown c t).life = t.life := by simp
  have stops (t : State) : (geyserStops t).life = t.life := by simp
  have walks (t : State) : (walkDown [0, 1, 2, 3, 4] t).life = t.life := by simp
  have halts (t : State) : (haltIslands t).life = t.life := by simp
  unfold reqDown
  rw [if_pos ⟨dev, clean, rank⟩]
  dsimp only
  refine ⟨rfl, ?_⟩
  split
  · left
    rw [wants]
    exact ⟨dev, rfl⟩
  · have life := walks { s with life.afterDown := next }
    unfold shutAll
    dsimp only
    generalize walkDown [0, 1, 2, 3, 4] { s with life.afterDown := next } = t at life
    have dev' : t.life.dev = .serve := by rw [life]; exact dev
    have next' : t.life.afterDown = next := by rw [life]
    split
    · unfold afterDown
      rw [dev']
      dsimp only
      split
      · exact .inl ⟨dev', next'⟩
      · split
        · rename_i two
          exact .inr (.inl ⟨_, rfl, next'.symm.trans two⟩)
        · split
          · rename_i four
            exact .inr (.inr ⟨_, rfl, next'.symm.trans four, (stops t).trans life⟩)
          · exact .inl ⟨dev', next'⟩
    · rw [halts]
      exact .inl ⟨dev', next'⟩

/-- A wake that was held boots at once. -/
theorem enterSleep_held (held : s.life.wakeHeld = true) : ∃ t, enterSleep why s = coldBoot 1 .wake t := by
  unfold enterSleep
  dsimp only
  rw [if_pos held]
  exact ⟨_, rfl⟩

/-- HALT that is left on request: the walk is under way with the latch clear, or it is over and a cold BOOT follows. -/
theorem reqClearHalt_accepts (dev : s.life.dev = .halt) (rank : outranked 1 s = false) :
    (reqClearHalt s).2 = .ok ∧ ((reqClearHalt s).1.life.dev = .halt ∧ (reqClearHalt s).1.life.afterDown = 6 ∧
      (reqClearHalt s).1.life.haltRepeat = 0 ∧ (reqClearHalt s).1.rails.latched = false ∧ (reqClearHalt s).1.rails.fault.kind = 0 ∨
      ∃ t, (reqClearHalt s).1 = coldBoot 6 .request t) := by
  have walks (t : State) : (walkDown [0, 1, 2, 3, 4] t).life = t.life := by simp
  have halts (t : State) : (haltIslands t).life = t.life ∧ (haltIslands t).rails = t.rails := by simp
  unfold reqClearHalt
  rw [if_pos ⟨dev, rank⟩]
  refine ⟨rfl, ?_⟩
  generalize cleared : keepWrite { s with
      rails := { s.rails with latched := false, fault := FaultRec.reset }
      life := { s.life with haltRepeat := 0, afterDown := 6 } } = u
  have fault : u.rails.latched = false ∧ u.rails.fault.kind = 0 := by rw [← cleared]; exact ⟨rfl, rfl⟩
  have life : u.life.dev = .halt ∧ u.life.afterDown = 6 ∧ u.life.haltRepeat = 0 := by rw [← cleared]; exact ⟨dev, rfl, rfl⟩
  have latched := walkDown_latched (s := u) [0, 1, 2, 3, 4]
  have record := walkDown_fault u [0, 1, 2, 3, 4]
  have life' := walks u
  dsimp only
  unfold shutAll
  dsimp only
  generalize walkDown [0, 1, 2, 3, 4] u = t at latched record life'
  have stays : t.life.dev = .halt ∧ t.life.afterDown = 6 ∧ t.life.haltRepeat = 0 ∧ t.rails.latched = false ∧ t.rails.fault.kind = 0 := by
    rw [life', latched, record]
    exact ⟨life.1, life.2.1, life.2.2, fault⟩
  split
  · unfold afterDown
    rw [stays.1]
    dsimp only
    rw [if_pos stays.2.1]
    split
    · rw [(halts t).1, (halts t).2]
      exact .inl stays
    · exact .inr ⟨_, rfl⟩
  · rw [(halts t).1, (halts t).2]
    exact .inl stays

/-! ### A request that is refused -/

theorem reqLife_refused (v : Nat) (refuses : s.life.dev ∉ [DevState.serve, .restore, .halt] ∨ outranked 1 s = true) :
    reqLife v s = refuseRequest s := by
  have serve : ¬(s.life.dev = .serve ∧ outranked 1 s = false) := by
    rintro ⟨dev, rank⟩
    rcases refuses with h | h
    · exact h (by simp [dev])
    · exact absurd (h.symm.trans rank) (by decide)
  have halt : ¬(s.life.dev = .halt ∧ outranked 1 s = false) := by
    rintro ⟨dev, rank⟩
    rcases refuses with h | h
    · exact h (by simp [dev])
    · exact absurd (h.symm.trans rank) (by decide)
  have restore : ¬(s.life.dev = .restore ∧ outranked 1 s = false) := by
    rintro ⟨dev, rank⟩
    rcases refuses with h | h
    · exact h (by simp [dev])
    · exact absurd (h.symm.trans rank) (by decide)
  have down (next : Nat) : reqDown next s = refuseRequest s := if_neg fun h => serve ⟨h.1, h.2.2⟩
  unfold reqLife
  split
  · exact if_neg fun h => h.1.elim (fun d => serve ⟨d, h.2⟩) fun d => restore ⟨d, h.2⟩
  · exact down 2
  · exact if_neg halt
  · exact down 4


/-- What an accepted write of LifeCycleRequest does. -/
theorem lifePut_ok {p : Session} {v : Nat} (accepted : Accepts p 0x2011 1 (leBytes 1 v) s) (small : v < 256)
    (does : ∀ x m, (reqLife v (arrivedAs s x m)).2 = .ok) :
    ∃ x m, Replied p 0x2011 1 0 (reqLife v (arrivedAs s x m)).1 (sessionPut p 0x2011 1 1 v s) :=
  command_ok (index := 0x2011) (sub := 1) (f := reqLife v) (g := fun u => (reqLife v u).1)
    (accepts_commands_of_control rfl accepted) rfl
    (fun a u => by rw [(ofLe_leBytes 1 v).trans (Nat.mod_eq_of_lt (by simpa using small))]; rfl) (fun x m => Prod.ext rfl (does x m))

theorem lifePut_refused {p : Session} {v : Nat} (accepted : Accepts p 0x2011 1 (leBytes 1 v) s) (small : v < 256)
    (refuses : s.life.dev ∉ [DevState.serve, .restore, .halt] ∨ outranked 1 s = true) :
    ∃ x m, Replied p 0x2011 1 abState (raise (arrivedAs s x m) 73 .control []) (sessionPut p 0x2011 1 1 v s) :=
  command_refused (index := 0x2011) (sub := 1) (f := reqLife v) (g := fun u => raise u 73 .control [])
    (accepts_commands_of_control rfl accepted) rfl
    (fun a u => by rw [(ofLe_leBytes 1 v).trans (Nat.mod_eq_of_lt (by simpa using small))]; rfl) (by decide)
    (fun x m => (reqLife_refused (arrivedAs s x m) v refuses).trans rfl)

end

end Sys2Proof.Machine
end

section
open Sys2Proof Sys2Proof.Machine

/-- Settles O1: a request of the life cycle starts what it asks for in the state that allows it, and is refused elsewhere. -/
theorem lifeCycleRequests : Obligations.LifeCycleRequests := by
  unfold Obligations.LifeCycleRequests
  have dirt {s : State} (clean : ∀ q ∈ s.cache.slots, q.2.dirty = false) : noDirty s.cache = true := by
    unfold noDirty
    exact List.all_eq_true.2 fun q mem => by simp [clean q mem]
  refine ⟨?firmware, ?cold, ?sleep, ?halt, ?refused⟩
  case firmware =>
    intro p s accepted dev rank
    have starts (x : Nat) (m : Vector Mbx 16) : reqLife 1 (arrivedAs s x m) = (warmBoot 3 .request (arrivedAs s x m), .ok) :=
      if_pos ⟨dev, rank⟩
    obtain ⟨x, m, r⟩ := lifePut_ok s accepted (by decide) (fun x m => by rw [starts])
    rw [starts] at r
    obtain ⟨boot, warm, cause, flag, count, time, shut⟩ := warmBoot_result 3 .request (arrivedAs s x m)
    refine ⟨_, rfl, by rw [r.life, boot], by rw [r.life, warm]; rfl, by rw [r.life, cause], by rw [r.life, flag], by rw [r.life, count]; rfl,
      by rw [r.time, time], by rw [r.mode, shut.1], by rw [r.mode, shut.2], r.answered⟩
  case cold =>
    intro p s accepted dev clean rank
    have accepts (x : Nat) (m : Vector Mbx 16) := reqDown_accepts (arrivedAs s x m) 2 dev (dirt clean) rank
    obtain ⟨x, m, r⟩ := lifePut_ok s accepted (by decide) (fun x m => (accepts x m).1)
    refine ⟨_, rfl, r.answered, ?_⟩
    rcases (accepts x m).2 with ⟨serve, next⟩ | ⟨t, cold, -⟩ | ⟨t, -, four, -⟩
    · exact .inl ⟨by rw [r.life]; exact serve, by rw [r.life]; exact next⟩
    · rw [show (reqLife 2 (arrivedAs s x m)).1 = _ from cold] at r
      obtain ⟨boot, kind, cause, -⟩ := coldBoot_result 5 .request t
      exact .inr ⟨by rw [r.life, boot], by rw [r.life, kind], by rw [r.life, cause], by rw [r.cache, coldBoot_slots]⟩
    · exact absurd four (by decide)
  case sleep =>
    intro p s accepted dev clean rank
    have accepts (x : Nat) (m : Vector Mbx 16) := reqDown_accepts (arrivedAs s x m) 4 dev (dirt clean) rank
    obtain ⟨x, m, r⟩ := lifePut_ok s accepted (by decide) (fun x m => (accepts x m).1)
    refine ⟨_, rfl, r.answered, ?_⟩
    rcases (accepts x m).2 with ⟨serve, next⟩ | ⟨t, -, two⟩ | ⟨t, sleeps, -, life⟩
    · exact .inl ⟨by rw [r.life]; exact serve, by rw [r.life]; exact next⟩
    · exact absurd two (by decide)
    · rw [show (reqLife 4 (arrivedAs s x m)).1 = _ from sleeps] at r
      by_cases held : s.life.wakeHeld = true
      · obtain ⟨u, wakes⟩ := enterSleep_held .request t (by rw [life]; exact held)
        obtain ⟨boot, -, cause, -⟩ := coldBoot_result 1 .wake u
        rw [wakes] at r
        exact .inr (.inr ⟨held, by rw [r.life, boot], by rw [r.life, cause]⟩)
      · obtain ⟨sleep, -, -, wall, -⟩ := enterSleep_result t .request (by rw [life]; exact Bool.eq_false_iff.2 held)
        exact .inr (.inl ⟨by rw [r.life, sleep], by rw [r.time, wall]⟩)
  case halt =>
    intro p s accepted dev rank
    have accepts (x : Nat) (m : Vector Mbx 16) := reqClearHalt_accepts (arrivedAs s x m) dev rank
    obtain ⟨x, m, r⟩ := lifePut_ok s accepted (by decide) (fun x m => (accepts x m).1)
    refine ⟨_, rfl, r.answered, ?_⟩
    rcases (accepts x m).2 with ⟨halt, next, count, latch, kind⟩ | ⟨t, cold⟩
    · exact .inl ⟨by rw [r.life]; exact halt, by rw [r.life]; exact next, by rw [r.life]; exact count, by rw [r.rails]; exact latch,
        by rw [r.rails]; exact kind⟩
    · rw [show (reqLife 3 (arrivedAs s x m)).1 = _ from cold] at r
      obtain ⟨boot, kind, cause, -⟩ := coldBoot_result 6 .request t
      exact .inr ⟨by rw [r.life, boot], by rw [r.life, kind], by rw [r.life, cause]⟩
  case refused =>
    intro p s v c which accepted refuses
    have run : v < 256 ∧ exec c s = .next (sessionPut p 0x2011 1 1 v s) := by
      simp only [List.mem_cons, Prod.mk.injEq, List.not_mem_nil, or_false] at which
      obtain ⟨rfl, rfl⟩ | ⟨rfl, rfl⟩ | ⟨rfl, rfl⟩ | ⟨rfl, rfl⟩ := which
      all_goals exact ⟨by decide, rfl⟩
    obtain ⟨small, run⟩ := run
    obtain ⟨x, m, r⟩ := lifePut_refused s accepted small refuses
    exact ⟨_, run, r.answered, r.told (raise_arrived ..), r.refusal (by decide) (raise_withRequest _ _ _ (arrived_withRequest ..))⟩
end

section
/-! Acknowledges, the log that is cleared, and the refusals of a write (O10). -/

namespace Sys2Proof.Machine

/-! ### Which entries have an action -/

/-- The entries of single indices whose write is a request or a command of its own. -/
def actionIndices : List Nat :=
  [0x1010, 0x1011, 0x2011, 0x2020, 0x2021, 0x2030, 0x2100, 0x2420, 0x2500, 0x2580, 0x2511, 0x2591, 0x2901, 0x2C00, 0x2F10]

theorem globalAction_none {p : Session} {index sub v : Nat} {s : State} (away : index ∉ actionIndices) :
    globalAction p index sub v s = none := by
  unfold globalAction
  split <;> first | rfl | exact absurd (by decide) away

theorem actionOf_acknowledge (p : Session) (a : Bool) (b : Fin 28) (v : Nat) (s : State) :
    actionOf p a (0x5000 + b.val) 3 v s = some (done (acknowledge b v s)) := by
  have away : 0x5000 + b.val ∉ actionIndices := by
    simp only [actionIndices, List.mem_cons, List.not_mem_nil, or_false]
    omega
  have bank : Fin.ofNat 28 (0x5000 + b.val - 0x5000) = b := Fin.ext (by simp)
  unfold actionOf rangedAction
  rw [globalAction_none away, bank, if_neg (by omega), if_neg (by omega), if_neg (by omega), if_neg (by omega), if_pos (by omega)]

/-! ### A write that the checks refuse -/

section
variable {p : Session} {index : BitVec 16} {sub : BitVec 8} {data : List Byte} {s : State} {code : Nat}

/-- A write that is taken arrives, is checked, and is answered. -/
theorem sessionWrite_reaches (reaches : Reaches p s) : ∃ x m, sessionWrite p index sub data s =
    replyTo p (tagOf p s) index.toNat sub.toNat
      (writeEntry p (dieAnswers s index.toNat) index.toNat sub.toNat data (arrivedAs s x m)) := by
  cases p with
  | usdo c =>
    obtain ⟨y, arrives⟩ := noteRequest_arrived (.usdo c) s s.mode.expertLast s.mbx
    refine ⟨y, s.mbx, ?_⟩
    have same : arrivedAs s s.mode.expertLast s.mbx = s := rfl
    rw [same] at arrives
    unfold sessionWrite fromSession usdoServe dictWrite dictWriteA noData replyTo answerTo
    simp only [reaches.1, reaches.2, Bool.true_eq_false, Bool.false_eq_true, if_false, arrives]
  | mailbox fn =>
    unfold sessionWrite fromSession mbxServe dictWrite dictWriteA noData replyTo answerTo tagOf
    simp only [reaches.1, reaches.2.1, reaches.2.2, Bool.true_eq_false, Bool.false_eq_true, if_false]
    generalize going : (State.modMbx s fn _) = t
    have arrived : t = arrivedAs s s.mode.expertLast t.mbx := by rw [← going]; rfl
    obtain ⟨y, arrives⟩ := noteRequest_arrived (.mailbox fn) s s.mode.expertLast t.mbx
    rw [← arrived] at arrives
    have die : dieAnswers t index.toNat = dieAnswers s index.toNat := by rw [arrived]; rfl
    exact ⟨y, t.mbx, by rw [die, arrives]⟩

/-- A refusal that needs no more than the checks changes nothing but the refusal counters. -/
theorem sessionWrite_refused (reaches : Reaches p s) (nonzero : code ≠ 0)
    (refuses : ∀ a x m, writeEntry p a index.toNat sub.toNat data (arrivedAs s x m) = (arrivedAs s x m, .abort code)) :
    ∃ x m, Replied p index.toNat sub.toNat code (arrivedAs s x m) (sessionWrite p index sub data s) := by
  obtain ⟨x, m, e⟩ := sessionWrite_reaches (index := index) (sub := sub) (data := data) reaches
  exact ⟨x, m, by rw [e, refuses]; exact replyTo_replied_abort _ _ _ _ _ nonzero⟩

end

section
variable {p : Session} {a : Bool} {index sub : Nat} {data : List Byte} {s : State} {r : Row}

theorem writeEntry_absent {code : Nat} (absent : findEntry p index sub s = .error code) :
    writeEntry p a index sub data s = (s, .abort code) := by
  unfold writeEntry
  rw [absent]

theorem writeEntry_readOnly (found : findEntry p index sub s = .ok r) (readOnly : r.acc.mayWrite (classesOf p index) = false) :
    writeEntry p a index sub data s = (s, .abort abNoWrite) := by
  unfold writeEntry
  rw [found]
  exact if_pos readOnly

/-- A write that the session may make, where the state allows it. -/
def Permitted (p : Session) (index : Nat) (r : Row) (s : State) : Prop :=
  r.acc.mayWrite (classesOf p index) = true ∧ (r.level = .expert → holdsExpert p s = true) ∧
    (romOnly s = true → romServes index = true) ∧ pathRefuses s r index = false ∧ tenantDisabled s index = false

/-- A write that is permitted: to a window's Data, or of a value. -/
def writeChecked (p : Session) (a : Bool) (r : Row) (index sub : Nat) (data : List Byte) (s : State) : State × Answer :=
  match winOf index with
  | some w => if sub = 4 then writeData p w data s else writeValue p a r index sub data s
  | none => writeValue p a r index sub data s

theorem writeEntry_permitted (found : findEntry p index sub s = .ok r) (permitted : Permitted p index r s) :
    writeEntry p a index sub data s = if r.acc.locked ∧ s.mode.lock = false then (s, .abort abLock)
      else writeChecked p a r index sub data s := by
  obtain ⟨writable, keyed, inRom, served, owned⟩ := permitted
  have noExpert : ¬(r.level = .expert ∧ holdsExpert p s = false) := fun h => absurd ((keyed h.1).symm.trans h.2) (by decide)
  have noRom : ¬(romOnly s = true ∧ romServes index = false) := fun h => absurd ((inRom h.1).symm.trans h.2) (by decide)
  unfold writeEntry
  rw [found]
  dsimp only
  rw [writable, served, owned, if_neg (by decide), if_neg noExpert, if_neg noRom, if_neg (by decide), if_neg (by decide)]
  rfl

theorem writeEntry_locked (found : findEntry p index sub s = .ok r) (permitted : Permitted p index r s) (locked : r.acc.locked = true)
    (closed : s.mode.lock = false) : writeEntry p a index sub data s = (s, .abort abLock) :=
  (writeEntry_permitted found permitted).trans (if_pos ⟨locked, closed⟩)

theorem writeEntry_length (found : findEntry p index sub s = .ok r) (permitted : Permitted p index r s)
    (unlocked : r.acc.locked = true → s.mode.lock = true) (noData : winOf index = none ∨ sub ≠ 4) (length : data.length ≠ r.ty.size) :
    writeEntry p a index sub data s = (s, .abort abLength) := by
  rw [writeEntry_permitted found permitted, if_neg fun h => absurd ((unlocked h.1).symm.trans h.2) (by decide)]
  have value : writeValue p a r index sub data s = (s, .abort abLength) := if_pos length
  unfold writeChecked
  cases w : winOf index with
  | none => exact value
  | some i => exact (if_neg (noData.resolve_left (by simp [w]))).trans value

theorem findEntry_error_ne {code : Nat} (absent : findEntry p index sub s = .error code) : code ≠ 0 := by
  unfold findEntry at absent
  (repeat' split at absent) <;> cases absent <;> decide

end

/-! ### The log that is cleared -/

theorem foldLog_events {s : State} {r : Rec} {l m : List Rec} (folded : foldLog s r l = some m) :
    m.map Rec.event = l.map Rec.event := by
  induction l generalizing m with
  | nil => cases folded
  | cons old rest ih =>
    unfold foldLog at folded
    split at folded
    · split at folded <;> cases folded
      rfl
    · obtain ⟨m', further, rfl⟩ := Option.map_eq_some_iff.1 folded
      simp [ih further]

/-- The oldest record of a log that has room for all that follows stays the oldest. -/
theorem logRecs_oldest {s : State} {ev : Nat} (fuel : Nat) (l : List Rec) (x : EvPart) (room : x.ev.log.length + fuel ≤ 256)
    (oldest : (x.ev.log.map Rec.event).getLast? = some ev) : ((logRecs s fuel l x).ev.log.map Rec.event).getLast? = some ev := by
  induction fuel generalizing l x with
  | zero => exact oldest
  | succ fuel ih =>
    cases l with
    | nil => exact oldest
    | cons r rest =>
      unfold logRecs
      split
      · exact ih _ _ (by omega) oldest
      · split
        · rename_i m folded
          refine ih _ _ ?_ ?_
          · simp only [(setPending_lists _ _).1, foldLog_length folded]
            omega
          · simp only [(setPending_lists _ _).1, foldLog_events folded]
            exact oldest
        · have size : 256 ≤ logSize x.ev := by unfold logSize; split <;> omega
          refine ih _ _ ?_ ?_
          · rw [emcyPut_ev, ringAll_log]
            simp only [(setPending_lists _ _).1, List.length_take, List.length_cons]
            omega
          · rw [emcyPut_ev, ringAll_log]
            simp only [(setPending_lists _ _).1]
            rw [List.take_of_length_le (by simp only [List.length_cons]; omega), List.map_cons, List.getLast?_cons, oldest]
            rfl

theorem logRecs_first {s : State} {r : Rec} {x : EvPart} {fuel : Nat} (few : fuel ≤ 255) (enabled : evEnabled s r.event = true)
    (empty : x.ev.log = []) : ((logRecs s (fuel + 1) [r] x).ev.log.map Rec.event).getLast? = some r.event := by
  have size : 1 ≤ logSize x.ev := by unfold logSize; split <;> omega
  unfold logRecs
  rw [enabled, if_neg (by decide), empty]
  refine logRecs_oldest _ _ _ ?_ ?_ <;> rw [emcyPut_ev, ringAll_log] <;> simp only [(setPending_lists _ _).1]
  · rw [List.take_of_length_le (by simpa using size), List.length_singleton]
    omega
  · rw [List.take_of_length_le (by simpa using size)]
    rfl

theorem emptyLog_last {s : State} (runs : controlRuns s = true) (enabled : evEnabled s 0 = true) (started : s.ev.started = true) :
    ∃ r, (emptyLog s).ev.log.getLast? = some r ∧ r.event = 0 := by
  have first := logRecs_first (fuel := 63) (s := { s with ev := { s.ev with log := [] } }) (r := newRec { s with ev := { s.ev with log := [] } } 0 .control 0)
    (x := ⟨{ s.ev with log := [] }, s.can, s.out⟩) (by decide) enabled rfl
  rw [← takeRec_of_logRuns (s := { s with ev := { s.ev with log := [] } }) runs started, List.getLast?_map] at first
  obtain ⟨r, isLast, event⟩ := Option.map_eq_some_iff.1 first
  exact ⟨r, isLast, event⟩

theorem emptyLog_told {s : State} {x : Nat} {m : Vector Mbx 16} : Told 0 s (emptyLog (arrivedAs s x m)) :=
  have told := raise_told { arrivedAs s x m with ev := { s.ev with log := [] } } 0 .control []
  ⟨told.logged, told.early, told.waits⟩

end Sys2Proof.Machine
end

section
open Sys2Proof Sys2Proof.Machine

/-- Settles O10: an acknowledge clears the bits of its own bank alone, a cleared log begins with EV-0000, and each check of a write that
refuses it answers before anything has changed. -/
theorem eventRequestsAndRefusals : Obligations.EventRequestsAndRefusals := by
  unfold Obligations.EventRequestsAndRefusals
  refine ⟨?acknowledge, ?clear, ?refused⟩
  case acknowledge =>
    intro p b bits s accepted
    have index : (BitVec.ofNat 16 (0x5000 + b.val)).toNat = 0x5000 + b.val := by simp; omega
    have owner : s.ownerOf (0x5000 + b.val) 3 = .control := ownerOf_event (by omega)
    obtain ⟨x, m, r⟩ := command_ok (index := BitVec.ofNat 16 (0x5000 + b.val)) (sub := 3) (data := leBytes 8 bits.toNat)
      (f := fun u => done (acknowledge b bits.toNat u)) (g := acknowledge b bits.toNat)
      (by rw [index]; exact accepts_commands_of_control owner accepted) (by rw [index]; exact if_neg (by omega))
      (fun a u => by rw [index, ofLe_leBytes_toNat bits (by decide)]; exact actionOf_acknowledge p a b bits.toNat u) (fun _ _ => rfl)
    rw [index] at r
    change Replied _ _ _ _ _ (sessionPut p (BitVec.ofNat 16 (0x5000 + b.val)) 3 8 bits.toNat s) at r
    refine ⟨_, rfl, r.answered, ?_, fun a other => ?_, ?_⟩
    · rw [r.ev]
      simp [acknowledge, arrivedAs]
    · rw [r.ev]
      simp [acknowledge, arrivedAs, Fin.val_ne_of_ne other.symm]
    · have same := r.withRequest (q := s) (withRequest_of_port rfl rfl)
      have ev : (sessionPut p (BitVec.ofNat 16 (0x5000 + b.val)) 3 8 bits.toNat s).ev =
          { s.ev with pendingBits := (sessionPut p (BitVec.ofNat 16 (0x5000 + b.val)) 3 8 bits.toNat s).ev.pendingBits } := by
        rw [r.ev]
        rfl
      generalize sessionPut p (BitVec.ofNat 16 (0x5000 + b.val)) 3 8 bits.toNat s = t at same ev
      exact same.trans (congrArg (fun e => ({ withRequest s t with ev := e } : State)) ev)
  case clear =>
    intro p s accepted
    have owner : s.ownerOf 0x2C00 5 = .control := by
      unfold State.ownerOf
      split <;> simp [ownerIsland]
    obtain ⟨x, m, r⟩ := command_ok (index := 0x2C00) (sub := 5) (f := fun u => done (emptyLog u)) (g := emptyLog)
      (accepts_commands_of_control owner accepted) rfl (fun _ _ => rfl) (fun _ _ => rfl)
    refine ⟨_, rfl, r.answered, r.told emptyLog_told, fun enabled started => ?_, ?_⟩
    · have ev : (sessionPut p 0x2C00 5 1 1 s).ev = (emptyLog (arrivedAs s x m)).ev := r.ev
      rw [ev]
      exact emptyLog_last (s := arrivedAs s x m) (reaches_control (s := s) accepted.1) enabled started
    · exact r.withRequest (raise_withRequest _ _ _ (withRequest_of_port rfl rfl))
  case refused =>
    intro p index sub data s code reaches refuses
    have nonzero : code ≠ 0 := by
      rcases refuses with absent | ⟨r, found, ⟨-, rfl⟩ | ⟨-, -, -, -, -, ⟨-, -, rfl⟩ | ⟨-, -, -, rfl⟩⟩⟩
      · exact findEntry_error_ne absent
      all_goals decide
    obtain ⟨x, m, r⟩ := sessionWrite_refused (index := index) (sub := sub) (data := data) reaches nonzero fun a x m => by
      rcases refuses with absent | ⟨r, found, ⟨readOnly, rfl⟩ | ⟨writable, keyed, inRom, served, owned, why⟩⟩
      · exact writeEntry_absent absent
      · exact writeEntry_readOnly found readOnly
      · have permitted : Permitted p index.toNat r (arrivedAs s x m) := ⟨writable, keyed, inRom, served, owned⟩
        rcases why with ⟨locked, closed, rfl⟩ | ⟨unlocked, noData, length, rfl⟩
        · exact writeEntry_locked found permitted locked closed
        · exact writeEntry_length found permitted unlocked (noData.imp_right fun h e => h (BitVec.eq_of_toNat_eq e)) length
    exact ⟨_, rfl, r.answered, r.refusal nonzero (arrived_withRequest ..)⟩
end

section
/-! Exposure sets, direct transfers, IDR requests and decode sessions (O9). -/

namespace Sys2Proof.Machine

/-! ### A write of an entry that has an action, by its index -/

section
variable {p : Session} {i : Nat} {sub : BitVec 8} {n v : Nat} {s : State} {f : State → State × Answer} {g : State → State}

/-- A command that is taken runs the entry's action, and is answered. -/
theorem put_ok (small : i < 65536) (commands : Commands p i sub.toNat (leBytes n v) s) (window : winOf i = none)
    (action : ∀ a u, actionOf p a i sub.toNat (ofLe (leBytes n v)) u = some (f u))
    (does : ∀ x m, f (arrivedAs s x m) = (g (arrivedAs s x m), .ok)) :
    ∃ x m, Replied p i sub.toNat 0 (g (arrivedAs s x m)) (sessionPut p (BitVec.ofNat 16 i) sub n v s) := by
  have index : (BitVec.ofNat 16 i).toNat = i := by rw [BitVec.toNat_ofNat, Nat.mod_eq_of_lt small]
  have taken := command_ok (p := p) (index := BitVec.ofNat 16 i) (sub := sub) (data := leBytes n v) (s := s) (f := f) (g := g)
  rw [index] at taken
  exact taken commands window action does

/-- A command whose action refuses it is refused, whether or not its island takes it now. -/
theorem put_refused {code : Nat} (small : i < 65536) (accepts : Accepts p i sub.toNat (leBytes n v) s) (window : winOf i = none)
    (action : ∀ a u, actionOf p a i sub.toNat (ofLe (leBytes n v)) u = some (f u)) (nonzero : code ≠ 0)
    (does : ∀ x m, f (arrivedAs s x m) = (g (arrivedAs s x m), .abort code)) :
    ∃ x m, Replied p i sub.toNat code (g (arrivedAs s x m)) (sessionPut p (BitVec.ofNat 16 i) sub n v s) := by
  have index : (BitVec.ofNat 16 i).toNat = i := by rw [BitVec.toNat_ofNat, Nat.mod_eq_of_lt small]
  have arrives := sessionWrite_accepts (p := p) (index := BitVec.ofNat 16 i) (sub := sub) (data := leBytes n v) (s := s)
  rw [index] at arrives
  obtain ⟨x, m, e⟩ := arrives accepts (.inl window)
  have here : applyValue p (dieAnswers s i) i sub.toNat (ofLe (leBytes n v)) (arrivedAs s x m) =
      (g (arrivedAs s x m), .abort code) := by
    unfold applyValue
    rw [window, action, does]
    dsimp only
    split <;> rfl
  refine ⟨x, m, ?_⟩
  have told : sessionPut p (BitVec.ofNat 16 i) sub n v s = _ := e
  rw [told, here]
  exact replyTo_replied_abort _ _ _ _ _ nonzero

end

/-! ### The actions of streams and of decode sessions -/

section
variable {p : Session} {a : Bool} {v : Nat} {s : State}

theorem actionOf_stream {index sub : Nat} (block : 0x4000 ≤ index ∧ index < 0x5000) :
    actionOf p a index sub v s = blockAction index sub v s := by
  have away : index ∉ actionIndices := by
    simp only [actionIndices, List.mem_cons, List.not_mem_nil, or_false]
    omega
  unfold actionOf rangedAction
  rw [globalAction_none away, if_neg (by omega), if_neg (by omega), if_neg (by omega), if_neg (by omega), if_neg (by omega)]

theorem stream_of_index {n : Fin 16} {k : Nat} (low : k < 256) : Fin.ofNat 16 ((0x4000 + k + 0x100 * n.val) / 256) = n := by
  apply Fin.ext
  simp only [Fin.val_ofNat]
  omega

theorem actionOf_commit (n : Fin 16) :
    actionOf p a (0x4010 + 0x100 * n.val) 9 v s = some (if v = 1 then commitExposure n s else done (clearStaging n s)) := by
  have stream := stream_of_index (n := n) (k := 0x10) (by decide)
  rw [actionOf_stream (by omega)]
  unfold blockAction
  dsimp only
  rw [if_neg (by omega), if_pos (by omega), if_pos (by omega), stream]

theorem actionOf_cci (n : Fin 16) : actionOf p a (0x4011 + 0x100 * n.val) 4 v s = some (directCci n v s) := by
  have stream := stream_of_index (n := n) (k := 0x11) (by decide)
  rw [actionOf_stream (by omega)]
  unfold blockAction
  dsimp only
  rw [if_neg (by omega), if_pos (by omega), if_neg (by omega), if_pos (by omega), stream]

theorem actionOf_forceIdr (n : Fin 16) : actionOf p a (0x4040 + 0x100 * n.val) 0x0C v s = some (done (forceIdrNow n s)) := by
  have stream := stream_of_index (n := n) (k := 0x40) (by decide)
  rw [actionOf_stream (by omega)]
  unfold blockAction
  dsimp only
  rw [if_neg (by omega), if_pos (by omega), if_neg (by omega), if_neg (by omega), if_pos (by omega), stream]

theorem actionOf_decode (d : Fin 2) : actionOf p a (0x2A40 + d.val) 1 v s =
    some (if v = 1 then openDecode d s else if v = 2 then done (closeDecode d s) else endDecode d s) := by
  have away : 0x2A40 + d.val ∉ actionIndices := by
    simp only [actionIndices, List.mem_cons, List.not_mem_nil, or_false]
    omega
  have session : Fin.ofNat 2 (0x2A40 + d.val - 0x2A40) = d := Fin.ext (by simp)
  unfold actionOf rangedAction
  rw [globalAction_none away, if_neg (by omega), if_neg (by omega), if_neg (by omega), if_pos (by omega)]
  dsimp only
  rw [session]

end

/-! ### The camera control of a stream -/

section
variable {n : Fin 16} {s : State}

/-- The configuration with the staged writes of a stream emptied. -/
def withoutStaged (n : Fin 16) (values : SMap Nat) : SMap Nat :=
  (List.range 8).foldl (fun v i => putValue v (blockIndex 0x4010 n.val) (i + 1) 0) values

theorem clearStaging_eq : clearStaging n s = { s with dict := { s.dict with values := withoutStaged n s.dict.values } } := by
  unfold clearStaging withoutStaged
  generalize List.range 8 = l
  induction l generalizing s with
  | nil => rfl
  | cons i l ih => exact ih (s := s.setHeld (blockIndex 0x4010 n.val) (i + 1) 0)

theorem startBurst_video (x : ExpSet) : (startBurst n x s).video.stream = s.video.stream := by
  unfold startBurst
  exact List.foldlRecOn (motive := fun t : State => t.video.stream = s.video.stream) x.writes _ rfl fun t h w _ => h

theorem startDirect_stream : strOf (startDirect n s) n = { strOf s n with cciRunning := true } := by
  unfold startDirect strOf
  simp [State.modStream, State.send]

/-- What a stream sends next leaves its sets where they are, but for when they are due. -/
theorem pumpStream_stream : ∃ r, strOf (pumpStream n s) n = { strOf s n with cciRunning := r } ∨
    ∃ id, strOf (pumpStream n s) n = { holdSets id (strOf s n) with cciRunning := r } := by
  have burst (x : ExpSet) : strOf (startBurst n x s) n = { strOf s n with cciRunning := (strOf s n).cciRunning } := by
    unfold strOf
    rw [startBurst_video]
  unfold pumpStream
  split
  · exact ⟨_, .inl rfl⟩
  · split
    · rename_i x found
      split
      · exact ⟨_, .inl (burst x)⟩
      · split
        · exact ⟨_, .inl rfl⟩
        · split
          · exact ⟨_, .inl (burst x)⟩
          · have held : strOf (raise (s.modStream n (holdSets x.id)) (streamEv n.val 7) .capture [(4, x.id)]) n =
                { holdSets x.id (strOf s n) with cciRunning := (strOf s n).cciRunning } := by
              unfold strOf
              simp [State.modStream, holdSets]
            dsimp only
            split
            · refine ⟨true, .inr ⟨x.id, ?_⟩⟩
              rw [startDirect_stream, held]
            · exact ⟨_, .inr ⟨x.id, held⟩⟩
    · split
      · exact ⟨true, .inl startDirect_stream⟩
      · exact ⟨_, .inl rfl⟩

/-- A set that waits keeps waiting with its writes. -/
theorem pumpStream_waits {q : ExpSet} (waits : q ∈ (strOf s n).pendingSets) :
    ∃ r ∈ (strOf (pumpStream n s) n).pendingSets, r.id = q.id ∧ r.writes = q.writes ∧ r.failures = q.failures := by
  obtain ⟨b, same | ⟨id, held⟩⟩ := pumpStream_stream (n := n) (s := s)
  · exact ⟨q, by rw [same]; exact waits, rfl, rfl, rfl⟩
  · rw [held]
    refine ⟨_, List.mem_map_of_mem waits, ?_⟩
    split <;> exact ⟨rfl, rfl, rfl⟩

theorem pumpStream_keeps : (strOf (pumpStream n s) n).lastSet = (strOf s n).lastSet ∧ (strOf (pumpStream n s) n).cciOp = (strOf s n).cciOp ∧
    (strOf (pumpStream n s) n).cciResult = (strOf s n).cciResult := by
  obtain ⟨b, same | ⟨id, held⟩⟩ := pumpStream_stream (n := n) (s := s)
  · rw [same]
    exact ⟨rfl, rfl, rfl⟩
  · rw [held]
    exact ⟨rfl, rfl, rfl⟩

/-- A set that is committed: with the next ID, the staged writes, and no failure yet. -/
def committedSet (n : Fin 16) (s : State) : ExpSet := ⟨(strOf s n).lastSet + 1, stagedWrites s n, 0, !streamLive s n⟩

/-- The state once the set is committed, before anything is sent. -/
def exposureCommitted (n : Fin 16) (s : State) : State :=
  clearStaging n (s.modStream n (fun x => { x with
    lastSet := (strOf s n).lastSet + 1, pendingSets := x.pendingSets ++ [committedSet n s] }))

theorem commitExposure_room (room : (strOf s n).pendingSets.length < 4) :
    commitExposure n s = (pumpStream n (exposureCommitted n s), .ok) := if_neg (by omega)

theorem exposureCommitted_stream : strOf (exposureCommitted n s) n =
    { strOf s n with lastSet := (strOf s n).lastSet + 1, pendingSets := (strOf s n).pendingSets ++ [committedSet n s] } := by
  unfold exposureCommitted strOf
  rw [clearStaging_eq]
  simp [State.modStream]

theorem exposureCommitted_dict : (exposureCommitted n s).dict = (clearStaging n s).dict := by
  unfold exposureCommitted
  rw [clearStaging_eq, clearStaging_eq]
  rfl

theorem forceIdrNow_video : forceIdrNow n s = { s with video := { s.video with enc := (forceIdrNow n s).video.enc } } := by
  unfold forceIdrNow
  split <;> rfl

theorem forceIdrNow_due (hit : admitted s n = true) : (encOf (forceIdrNow n s) n).idrCause.isSome = true := by
  unfold forceIdrNow
  rw [if_pos hit]
  unfold dueIdr encOf
  simp only [State.modEnc, Fin.getElem_fin, vmod_getElem, if_true]
  split <;> rfl

theorem forceIdrNow_others {m : Fin 16} (other : m ≠ n) : encOf (forceIdrNow n s) m = encOf s m := by
  unfold forceIdrNow
  split
  · unfold dueIdr encOf
    simp [State.modEnc, Fin.val_ne_of_ne other.symm]
  · rfl

theorem closeDecode_open {d : Fin 2} (opened : s.video.dec[d].state ≠ 0) : closeDecode d s =
    raise (s.modDec d (fun x => { x with
      state := 0, ending := false, error := if (Config.causeCode .decodeRequest).toNat = 5 then 5 else x.error })) (1734 + d.val)
      .entropy [(1, (Config.causeCode .decodeRequest).toNat)] := if_neg opened

end

end Sys2Proof.Machine
end

section
open Sys2Proof Sys2Proof.Machine

/-- Settles O9: each request runs its entry's action, which touches its stream or its decode session alone. -/
theorem videoRequests : Obligations.VideoRequests := by
  unfold Obligations.VideoRequests
  refine ⟨?commit, ?full, ?clear, ?cci, ?cciTaken, ?idr, ?opens, ?notOpened, ?closes, ?ends, ?notOpen⟩
  case commit =>
    intro p n s commands room
    obtain ⟨x, m, r⟩ := put_ok (sub := 9) (f := fun u => if (1 : Nat) = 1 then commitExposure n u else done (clearStaging n u))
      (g := fun u => pumpStream n (exposureCommitted n u)) (by omega) commands (if_neg (by omega)) (fun a u => actionOf_commit n)
      (fun x m => commitExposure_room (s := arrivedAs s x m) room)
    have dict : (sessionPut p (BitVec.ofNat 16 (0x4010 + 0x100 * n.val)) 9 1 1 s).dict = (clearStaging n (arrivedAs s x m)).dict := by
      rw [r.dict]
      simp [exposureCommitted_dict]
    have video := r.video
    have kept (u : State) : (pumpStream n (exposureCommitted n u)).life = u.life ∧ (pumpStream n (exposureCommitted n u)).cache = u.cache ∧
        (pumpStream n (exposureCommitted n u)).rails = u.rails := by
      simp [exposureCommitted, State.modStream]
    obtain ⟨life, cache, rails⟩ := kept (arrivedAs s x m)
    have stream : strOf (sessionPut p (BitVec.ofNat 16 (0x4010 + 0x100 * n.val)) 9 1 1 s) n =
        strOf (pumpStream n (exposureCommitted n (arrivedAs s x m))) n := by unfold strOf; rw [video]
    refine ⟨_, rfl, r.answered, ?_, ?_, ?_, r.life.trans life, r.cache.trans cache, r.rails.trans rails⟩
    · refine (congrArg Stream.lastSet stream).trans ?_
      rw [pumpStream_keeps.1, exposureCommitted_stream]
      rfl
    · obtain ⟨q, waits, id, writes, failures⟩ := pumpStream_waits (n := n) (s := exposureCommitted n (arrivedAs s x m))
        (q := committedSet n (arrivedAs s x m)) (by rw [exposureCommitted_stream]; simp)
      exact ⟨q, (congrArg Stream.pendingSets stream) ▸ waits, id, writes, failures⟩
    · refine (congrArg Dict.values dict).trans ?_
      rw [clearStaging_eq, clearStaging_eq]
      rfl
  case full =>
    intro p n s accepts full
    obtain ⟨x, m, r⟩ := put_refused (sub := 9) (code := abState) (f := fun u => if (1 : Nat) = 1 then commitExposure n u else done (clearStaging n u))
      (g := fun u => u) (by omega) accepts (if_neg (by omega)) (fun a u => actionOf_commit n) (by decide)
      (fun x m => if_pos full)
    exact ⟨_, rfl, r.answered, r.refusal (by decide) (arrived_withRequest ..)⟩
  case clear =>
    intro p n s commands
    obtain ⟨x, m, r⟩ := put_ok (sub := 9) (f := fun u => if (2 : Nat) = 1 then commitExposure n u else done (clearStaging n u))
      (g := clearStaging n) (by omega) commands (if_neg (by omega)) (fun a u => actionOf_commit n) (fun x m => rfl)
    refine ⟨_, rfl, r.answered, r.withRequest ?_⟩
    rw [clearStaging_eq, clearStaging_eq]
    exact withRequest_of_port rfl rfl
  case cci =>
    intro p n s k c which commands free
    obtain ⟨x, m, r⟩ := put_ok (sub := 4) (f := directCci n k)
      (g := fun u => pumpStream n (u.modStream n (fun x => { x with cciOp := k, cciResult := 1 }))) (by omega) commands
      (if_neg (by omega)) (fun a u => by
        have value : ofLe (leBytes 1 k) = k := by
          rcases List.mem_pair.1 which with e | e <;> cases e <;> rfl
        rw [value]
        exact actionOf_cci n)
      (fun x m => if_neg (not_not.2 free))
    have runs : exec c s = .next (sessionPut p (BitVec.ofNat 16 (0x4011 + 0x100 * n.val)) 4 1 k s) := by
      rcases List.mem_pair.1 which with e | e <;> cases e <;> rfl
    have kept (u : State) (f : Stream → Stream) : (pumpStream n (u.modStream n f)).life = u.life ∧ (pumpStream n (u.modStream n f)).cache = u.cache ∧
        (pumpStream n (u.modStream n f)).rails = u.rails ∧ (pumpStream n (u.modStream n f)).dict = u.dict := by
      simp [State.modStream]
    obtain ⟨life, cache, rails, dict⟩ := kept (arrivedAs s x m) (fun x => { x with cciOp := k, cciResult := 1 })
    have stream : strOf (sessionPut p (BitVec.ofNat 16 (0x4011 + 0x100 * n.val)) 4 1 k s) n =
        strOf (pumpStream n ((arrivedAs s x m).modStream n (fun x => { x with cciOp := k, cciResult := 1 }))) n := by unfold strOf; rw [r.video]
    obtain ⟨-, op, result⟩ := pumpStream_keeps (n := n) (s := (arrivedAs s x m).modStream n (fun x => { x with cciOp := k, cciResult := 1 }))
    refine ⟨_, runs, r.answered, ?_, ?_, r.life.trans life, r.cache.trans cache, r.rails.trans rails, r.dict.trans dict⟩
    · rw [stream, op]
      simp [strOf, State.modStream]
    · rw [stream, result]
      simp [strOf, State.modStream]
  case cciTaken =>
    intro p n s k c which accepts taken
    obtain ⟨x, m, r⟩ := put_refused (sub := 4) (code := abState) (f := directCci n k) (g := fun u => u) (by omega) accepts
      (if_neg (by omega)) (fun a u => by
        have value : ofLe (leBytes 1 k) = k := by
          rcases List.mem_pair.1 which with e | e <;> cases e <;> rfl
        rw [value]
        exact actionOf_cci n) (by decide)
      (fun x m => if_pos taken)
    have runs : exec c s = .next (sessionPut p (BitVec.ofNat 16 (0x4011 + 0x100 * n.val)) 4 1 k s) := by
      rcases List.mem_pair.1 which with e | e <;> cases e <;> rfl
    exact ⟨_, runs, r.answered, r.refusal (by decide) (arrived_withRequest ..)⟩
  case idr =>
    intro p n s commands
    obtain ⟨x, m, r⟩ := put_ok (sub := 0x0C) (f := fun u => done (forceIdrNow n u))
      (g := forceIdrNow n) (by omega) commands (if_neg (by omega)) (fun a u => actionOf_forceIdr n) (fun x m => rfl)
    have enc (k : Fin 16) : encOf (sessionPut p (BitVec.ofNat 16 (0x4040 + 0x100 * n.val)) 0x0C 1 1 s) k =
        encOf (forceIdrNow n (arrivedAs s x m)) k := by unfold encOf; rw [r.video]
    refine ⟨_, rfl, r.answered, fun hit => ?_, fun k other => (enc k).trans (forceIdrNow_others other), ?_⟩
    · exact (congrArg (fun e => e.idrCause.isSome) (enc n)).trans (forceIdrNow_due (s := arrivedAs s x m) hit)
    · refine r.withRequest ?_
      have video : (sessionPut p (BitVec.ofNat 16 (blockIndex 0x4040 n.val)) 0x0C 1 1 s).video = _ := r.video
      rw [video, forceIdrNow_video]
      exact withRequest_of_port rfl rfl
  case opens =>
    intro p d s commands served closed budget
    obtain ⟨x, m, r⟩ := put_ok (sub := 1) (f := openDecode d)
      (g := fun u => raise (u.modDec d (fun _ => ⟨1, 0, 0, false, 0, 0, none⟩)) (1732 + d.val) .entropy
        [(1, (Config.causeCode .decodeRequest).toNat)])
      (by omega) commands (if_neg (by omega)) (fun a u => actionOf_decode d)
      (fun x m => by
        have may : ¬(decodeServed (arrivedAs s x m) = false ∨ decOpen (arrivedAs s x m) d = true) := by
          rintro (h | h)
          · exact absurd (h.symm.trans served) (by decide)
          · exact absurd (h.symm.trans closed) (by decide)
        unfold openDecode
        rw [if_neg may]
        exact if_neg (fun h => absurd (h.symm.trans budget) (by decide)))
    exact ⟨_, rfl, r.answered, r.told ((raise_told ..).of rfl rfl rfl), r.withRequest (raise_withRequest _ _ _ (withRequest_of_port rfl rfl))⟩
  case notOpened =>
    intro p d s accepts why
    obtain ⟨x, m, r⟩ := put_refused (sub := 1) (code := abState) (f := openDecode d) (g := fun u => u)
      (by omega) accepts (if_neg (by omega)) (fun a u => actionOf_decode d) (by decide) (fun x m => if_pos why)
    exact ⟨_, rfl, r.answered, r.refusal (by decide) (arrived_withRequest ..)⟩
  case closes =>
    intro p d s commands opened
    obtain ⟨x, m, r⟩ := put_ok (sub := 1) (f := fun u => done (closeDecode d u)) (g := closeDecode d)
      (by omega) commands (if_neg (by omega)) (fun a u => actionOf_decode d) (fun x m => rfl)
    have closed := closeDecode_open (s := arrivedAs s x m) opened
    have video : (sessionPut p (BitVec.ofNat 16 (decIndex d)) 1 1 2 s).video = ((arrivedAs s x m).modDec d (fun x => { x with
        state := 0, ending := false, error := if (Config.causeCode .decodeRequest).toNat = 5 then 5 else x.error })).video :=
      r.video.trans (by rw [closed]; simp)
    refine ⟨_, rfl, r.answered, r.told ?_, ?_, ?_, r.withRequest ?_⟩
    · rw [closed]
      exact (raise_told ..).of rfl rfl rfl
    · rw [video]
      simp [State.modDec]
    · rw [video]
      simp [State.modDec]
    · rw [video, closed]
      exact raise_withRequest _ _ _ (withRequest_of_port rfl rfl)
  case ends =>
    intro p d s commands opened
    obtain ⟨x, m, r⟩ := put_ok (sub := 1) (f := endDecode d) (g := fun u => u.modDec d (fun x => { x with ending := true }))
      (by omega) commands (if_neg (by omega)) (fun a u => actionOf_decode d) (fun x m => if_pos opened)
    exact ⟨_, rfl, r.answered, r.withRequest (withRequest_of_port rfl rfl)⟩
  case notOpen =>
    intro p d s accepts closed
    obtain ⟨x, m, r⟩ := put_refused (sub := 1) (code := abState) (f := endDecode d) (g := fun u => u)
      (by omega) accepts (if_neg (by omega)) (fun a u => actionOf_decode d) (by decide)
      (fun x m => if_neg (fun h => absurd (h.symm.trans closed) (by decide)))
    exact ⟨_, rfl, r.answered, r.refusal (by decide) (arrived_withRequest ..)⟩
end

section
/-! Requests that answer data, and the windows (O11). -/

namespace Sys2Proof.Machine

/-! ### Requests that answer data -/

/-- A request that is answered with data: what it has done, and the answer. -/
structure Sent (p : Session) (index sub : Nat) (data : List Byte) (r t : State) : Prop where
  answered : Answered p index sub 0 data t
  reply : t = withReply r t

theorem answerTo_sent (p : Session) (tag : Byte) (index sub : Nat) (data : List Byte) (r : State) :
    Sent p index sub data r (answerTo p tag index sub .ok data r) := by
  cases p with
  | usdo c => exact ⟨⟨r.out, rfl⟩, by simp [answerTo, answerUsdo, withReply, withPba_self, State.send]⟩
  | mailbox fn =>
    obtain ⟨reply, mbx⟩ := endMbx_eq fn tag 0 0 data r
    refine ⟨?_, reply⟩
    simp only [Answered, answerTo, answerMbx, mbx, State.modMbx, Fin.getElem_fin, vmod_getElem]
    cases data <;> simp

section
variable {p : Session} {index sub : Nat} {data : List Byte} {q r t : State}

theorem Sent.win (h : Sent p index sub data r t) : t.win = r.win := (congrArg State.win h.reply :)

theorem Sent.withRequest (h : Sent p index sub data r t) (inner : r = withRequest q r) : t = Machine.withRequest q t :=
  withRequest_of_reply h.reply inner

end

section
variable {s : State} {f : State → State × Answer × List Byte}

theorem usdoServe_reaches {c : Fin 128} {index sub : Nat} (reaches : Reaches (.usdo c) s) :
    usdoServe c index sub f s = answerUsdo c index sub (f s).2.1 (f s).2.2 (f s).1 := by
  unfold usdoServe
  rw [if_neg (by rw [reaches.1]; decide), if_neg (by rw [reaches.2]; decide)]

/-- The mailboxes once Go is set in one of them. -/
def mbxGoing (fn : Fin 16) (irqEn : Bool) (tag : Byte) (op : BitVec 2) (index : BitVec 16) (sub : BitVec 8) (len : BitVec 9)
    (data : List Byte) (s : State) : Vector Mbx 16 :=
  vmod s.mbx fn (fun m => { m with
    irqEn := irqEn, addr := BitVec.ofNat 32 (sub.toNat * 65536 + index.toNat), len := len, go := true, tag := tag, op := op, done := false
    data := if data.isEmpty then m.data else data ++ m.data.drop data.length })

theorem mbxServe_reaches {fn : Fin 16} {irqEn : Bool} {tag : Byte} {op : BitVec 2} {index : BitVec 16} {sub : BitVec 8} {len : BitVec 9}
    {data : List Byte} (reaches : Reaches (.mailbox fn) s) :
    let u := arrivedAs s s.mode.expertLast (mbxGoing fn irqEn tag op index sub len data s)
    mbxServe fn irqEn tag op index sub len data f s = answerMbx fn tag (f u).2.1 (f u).2.2 (f u).1 := by
  obtain ⟨reached, idle, free⟩ := reaches
  unfold mbxServe
  rw [if_neg (by rw [reached]; decide), if_neg (by rw [idle]; decide)]
  dsimp only
  rw [if_neg (by
    have same (m : Vector Mbx 16) : mbxBusy { s with mbx := m } = mbxBusy s := rfl
    exact fun h => absurd ((same _).symm.trans h |>.symm.trans free) (by decide))]
  rfl

/-- A read that answers an entry's data. -/
theorem dictRead_ok {p : Session} {index sub len : Nat} {data : List Byte} {g : State → State} (x : Nat) (m : Vector Mbx 16)
    (reads : ∀ x m, readEntry p index sub len (arrivedAs s x m) = (g (arrivedAs s x m), .ok, data)) :
    ∃ y, dictRead p index sub len (arrivedAs s x m) = (g (arrivedAs s y m), .ok, data) := by
  obtain ⟨y, arrives⟩ := noteRequest_arrived p s x m
  refine ⟨y, ?_⟩
  unfold dictRead
  rw [arrives, reads]
  rfl

end

/-! ### The entries of a window -/

theorem winOf_window (w : Fin 7) : winOf (0x2E00 + w.val) = some w := by
  unfold winOf
  rw [if_pos (by omega)]
  exact congrArg some (Fin.ext (by simp))

theorem winIndex_toNat (w : Fin 7) : (winIndex w).toNat = 0x2E00 + w.val := by
  unfold winIndex
  rw [BitVec.toNat_ofNat, Nat.mod_eq_of_lt (by omega)]

/-- The entry of a window's Data. -/
def dataRow : Row := row 0x2E00 0x04 1 7 0x1 .u32 .admin .basic .no 0 []

theorem dataRow_found (w : Fin 7) : indexExists (0x2E00 + w.val) = true ∧ tenantBlock (0x2E00 + w.val) = none ∧
    entryRow (0x2E00 + w.val) 4 = some dataRow := by
  revert w
  decide

section
variable {p : Session} {w : Fin 7} {s : State}

theorem findEntry_data : findEntry p (0x2E00 + w.val) 4 s = .ok dataRow := by
  obtain ⟨exists_, block, found⟩ := dataRow_found w
  have shown : hiddenBlock p (0x2E00 + w.val) = false := by
    unfold hiddenBlock
    rw [block]
  unfold findEntry
  rw [exists_, shown, found]
  rfl

theorem romServes_window (serves : romOnly s = true → w = 0) : romOnly s = true → romServes (0x2E00 + w.val) = true := by
  intro rom
  rw [serves rom]
  rfl

theorem permitted_data (admin : p.isAdmin = true) (serves : romOnly s = true → w = 0) :
    Permitted p (0x2E00 + w.val) dataRow s := by
  refine ⟨?_, fun h => absurd h (by decide), romServes_window serves, ?_, ?_⟩
  · have writes : Acc.admin.aWr = true := rfl
    simp [dataRow, row, Acc.mayWrite, classesOf, admin, writes]
  · have away : (0x2E00 + w.val == 0x1010) = false ∧ (0x2E00 + w.val == 0x1011) = false :=
      ⟨beq_eq_false_iff_ne.2 (by omega), beq_eq_false_iff_ne.2 (by omega)⟩
    unfold pathRefuses
    rw [away.1, away.2]
    cases pathState s.life.dev <;> rfl
  · unfold tenantDisabled
    rw [(dataRow_found w).2.1]

theorem writeEntry_data {a : Bool} {data : List Byte} (admin : p.isAdmin = true) (serves : romOnly s = true → w = 0) :
    writeEntry p a (0x2E00 + w.val) 4 data s = writeData p w data s := by
  rw [writeEntry_permitted findEntry_data (permitted_data admin serves), if_neg (fun h => absurd h.1 (by decide))]
  unfold writeChecked
  rw [winOf_window]
  exact if_pos rfl

theorem readEntry_data {n : Nat} (admin : p.isAdmin = true) (serves : romOnly s = true → w = 0) :
    readEntry p (0x2E00 + w.val) 4 n s = readData p w n s := by
  have may : mayReadEntry p (0x2E00 + w.val) 4 dataRow = true := by
    have reads : Acc.admin.aRd = true := rfl
    simp [mayReadEntry, dataRow, row, Acc.mayRead, classesOf, admin, reads]
  have rom : ¬(romOnly s = true ∧ romServes (0x2E00 + w.val) = false) := fun h =>
    absurd ((romServes_window serves h.1).symm.trans h.2) (by decide)
  unfold readEntry
  rw [findEntry_data]
  dsimp only
  rw [may, if_neg (by decide), if_neg rom, winOf_window]
  rfl

/-! ### Control writes -/

variable {k : Nat} {g : State → State}

/-- A Control write that passes the checks is the window's own. -/
theorem control_ok (small : k < 256) (accepts : Accepts p (0x2E00 + w.val) 5 (leBytes 1 k) s)
    (does : ∀ x m, controlWin p w k (arrivedAs s x m) = (g (arrivedAs s x m), .ok)) :
    ∃ x m, Replied p (0x2E00 + w.val) 5 0 (g (arrivedAs s x m)) (sessionPut p (winIndex w) 5 1 k s) := by
  have value : ofLe (leBytes 1 k) = k := (ofLe_leBytes 1 k).trans (Nat.mod_eq_of_lt (by simpa using small))
  have arrives := sessionWrite_accepts (p := p) (index := winIndex w) (sub := 5) (data := leBytes 1 k) (s := s)
  rw [winIndex_toNat, value] at arrives
  obtain ⟨x, m, e⟩ := arrives accepts (.inr (by decide))
  have here (a : Bool) : applyValue p a (0x2E00 + w.val) (BitVec.toNat (5 : BitVec 8)) k (arrivedAs s x m) = (g (arrivedAs s x m), .ok) := by
    unfold applyValue
    rw [winOf_window]
    exact does x m
  have told : sessionPut p (winIndex w) 5 1 k s = _ := e
  exact ⟨x, m, by rw [told, here]; exact replyTo_replied_ok ..⟩

theorem control_refused {code : Nat} (small : k < 256) (nonzero : code ≠ 0) (accepts : Accepts p (0x2E00 + w.val) 5 (leBytes 1 k) s)
    (does : ∀ x m, controlWin p w k (arrivedAs s x m) = (g (arrivedAs s x m), .abort code)) :
    ∃ x m, Replied p (0x2E00 + w.val) 5 code (g (arrivedAs s x m)) (sessionPut p (winIndex w) 5 1 k s) := by
  have value : ofLe (leBytes 1 k) = k := (ofLe_leBytes 1 k).trans (Nat.mod_eq_of_lt (by simpa using small))
  have arrives := sessionWrite_accepts (p := p) (index := winIndex w) (sub := 5) (data := leBytes 1 k) (s := s)
  rw [winIndex_toNat, value] at arrives
  obtain ⟨x, m, e⟩ := arrives accepts (.inr (by decide))
  have here (a : Bool) : applyValue p a (0x2E00 + w.val) (BitVec.toNat (5 : BitVec 8)) k (arrivedAs s x m) = (g (arrivedAs s x m), .abort code) := by
    unfold applyValue
    rw [winOf_window]
    exact does x m
  have told : sessionPut p (winIndex w) 5 1 k s = _ := e
  exact ⟨x, m, by rw [told, here]; exact replyTo_replied_abort _ _ _ _ _ nonzero⟩

theorem not_ownedByOther_of_owns {x : Win} (owned : owns p x = true) : ownedByOther p x = false := by
  unfold owns at owned
  unfold ownedByOther
  split at owned
  · rename_i q other
    simpa only [other, Bool.not_eq_false'] using owned
  · cases owned

theorem touchWin_of_owns (owned : owns p s.win[w] = true) :
    touchWin p w s = s.modWin w (fun x => { x with lastAccess := s.time.now }) := if_pos owned

theorem openRead_ok (notOther : ownedByOther p s.win[w] = false) (reads : w ≠ 2) (closed : s.win[w].status ∈ [0, 4, 5])
    (slot : w = 0 → s.win[w].target ≤ 1) : openRead p w s = (s.modWin w (fun y => { y with
      status := 1, buf := snapshotOf s w s.win[w].target, length := (snapshotOf s w s.win[w].target).length
      crc := crc32 (snapshotOf s w s.win[w].target), offset := 0, owner := some p, writing := false
      lastAccess := s.time.now }), .ok) := by
  have may : mayOpen s.win[w] = true := by
    simpa [mayOpen, or_assoc] using closed
  have readable : winReads w = true := bne_iff_ne.2 reads
  unfold openRead
  dsimp only
  rw [notOther, readable, may, if_neg (by decide), if_neg (by decide), if_neg (by decide), if_neg (fun h => absurd (slot h.1) (by omega))]

theorem openWrite_ok (notOther : ownedByOther p s.win[w] = false) (writes : w ∈ [(0 : Fin 7), 2, 3]) (closed : s.win[w].status ∈ [0, 4, 5])
    (some_ : 1 ≤ s.win[w].length) (fits : s.win[w].length ≤ winMax w s.win[w].target) : openWrite p w s = (s.modWin w (fun y => { y with
      status := 2, buf := List.replicate y.length 0, offset := 0, owner := some p, writing := true
      lastAccess := s.time.now }), .ok) := by
  have may : mayOpen s.win[w] = true := by
    simpa [mayOpen, or_assoc] using closed
  have writable : winWrites w = true := by
    simpa [winWrites, or_assoc] using writes
  unfold openWrite
  dsimp only
  rw [notOther, writable, may, if_neg (by decide), if_neg (by decide), if_neg (by decide), if_neg (by omega)]

theorem commitWin_ok (owned : owns p s.win[w] = true) (writing : s.win[w].writing = true) (open_ : s.win[w].status ≠ 3)
    (served : pathState s.life.dev = false) (sum : crc32 s.win[w].buf = s.win[w].crc)
    (expert : w = 3 → s.mode.lock = true ∧ holdsExpert p s = true) :
    commitWin p w s = ((s.modWin w (fun x => { x with lastAccess := s.time.now })).modWin w (fun y => { y with status := 3 }), .ok) := by
  have unlocked : ¬(w = 3 ∧ s.mode.lock = false) := fun h => absurd ((expert h.1).1.symm.trans h.2) (by decide)
  have keyed : ¬(w = 3 ∧ holdsExpert p s = false) := fun h => absurd ((expert h.1).2.symm.trans h.2) (by decide)
  unfold commitWin
  dsimp only
  rw [not_ownedByOther_of_owns owned, touchWin_of_owns owned, served, owned, writing, if_neg (by decide), if_neg (by decide),
    if_neg (by simpa using open_), if_neg (not_not.2 sum), if_neg unlocked, if_neg keyed]

theorem abortWin_ok (owned : owns p s.win[w] = true) (open_ : s.win[w].status ≠ 3) : abortWin p w s =
    (s.modWin w (fun x => { x with owner := none, status := 0, buf := [], writing := false }), .ok) := by
  have some_ : s.win[w].owner.isSome = true := by
    unfold owns at owned
    split at owned
    · rename_i q other
      rw [other]
      rfl
    · cases owned
  unfold abortWin
  dsimp only
  rw [not_ownedByOther_of_owns owned, if_neg (by decide), if_neg open_]
  unfold closeWindow
  dsimp only
  rw [if_pos some_]
  rfl

theorem controlWin_other (other : ownedByOther p s.win[w] = true) (v : Nat) : controlWin p w v s = (s, .abort abOwner) := by
  unfold controlWin openRead openWrite commitWin abortWin
  (repeat' split) <;> simp_all

/-! ### Data -/

theorem readData_ok {n : Nat} (owned : owns p s.win[w] = true) (reading : s.win[w].status = 1) (words : n % 4 = 0) (least : 4 ≤ n)
    (most : n ≤ 256) (inside : s.win[w].offset < s.win[w].buf.length) (fits : s.win[w].offset + n ≤ up4 s.win[w].buf.length) :
    readData p w n s = ((s.modWin w (fun x => { x with lastAccess := s.time.now })).modWin w (fun y => { y with offset := y.offset + n }),
      .ok, (List.range (n / 4)).flatMap (fun i => wordAt s.win[w].buf (s.win[w].offset + 4 * i))) := by
  have length : dataLength n = true := by simp [dataLength, words, least, most]
  unfold readData
  dsimp only
  rw [not_ownedByOther_of_owns owned, touchWin_of_owns owned, length, owned, if_neg (by decide), if_neg (by decide),
    if_neg (by simpa using reading), if_neg (by omega)]

theorem writeData_ok {data : List Byte} (owned : owns p s.win[w] = true) (writing : s.win[w].writing = true) (open_ : s.win[w].status ≠ 3)
    (words : data.length % 4 = 0) (least : 4 ≤ data.length) (most : data.length ≤ 256) (inside : s.win[w].offset < s.win[w].buf.length)
    (fits : s.win[w].offset + data.length ≤ up4 s.win[w].buf.length) : writeData p w data s =
      ((s.modWin w (fun x => { x with lastAccess := s.time.now })).modWin w
        (fun y => { y with buf := storeAt y.buf y.offset data, offset := y.offset + data.length }), .ok) := by
  have length : dataLength data.length = true := by simp [dataLength, words, least, most]
  unfold writeData
  dsimp only
  rw [not_ownedByOther_of_owns owned, touchWin_of_owns owned, length, owned, writing, if_neg (by decide), if_neg (by decide),
    if_neg (by simpa using open_), if_neg (by omega)]

end

theorem length_storeAt (buf : List Byte) (off : Nat) (data : List Byte) : (storeAt buf off data).length = buf.length := by
  induction data generalizing buf off with
  | nil => rfl
  | cons b bs ih => exact (ih _ _).trans List.length_set

theorem getElem?_storeAt (buf : List Byte) (off : Nat) (data : List Byte) (i : Nat) : (storeAt buf off data)[i]? =
    if off ≤ i ∧ i < off + data.length ∧ i < buf.length then data[i - off]? else buf[i]? := by
  induction data generalizing buf off with
  | nil => exact (if_neg (by simp; omega)).symm
  | cons b bs ih =>
    unfold storeAt
    rw [ih, List.length_set, List.length_cons]
    by_cases first : off = i
    · subst first
      rw [if_neg (by omega), List.getElem?_set_self', Nat.sub_self]
      by_cases inside : off < buf.length
      · rw [if_pos (by omega), List.getElem?_eq_getElem inside]
        rfl
      · rw [if_neg (by omega), List.getElem?_eq_none (by omega)]
        rfl
    · rw [List.getElem?_set_ne first]
      by_cases within : off + 1 ≤ i ∧ i < off + 1 + bs.length ∧ i < buf.length
      · rw [if_pos within, if_pos (by omega)]
        have next : i - off = i - (off + 1) + 1 := by omega
        rw [next, List.getElem?_cons_succ]
      · rw [if_neg within, if_neg (by omega)]

/-! ### A window's request changes its window alone -/

section
variable {p : Session} {index sub : Nat} {data : List Byte} {s t : State} {x : Nat} {m : Vector Mbx 16} {w : Fin 7} {f : Win → Win}

theorem Replied.window (h : Replied p index sub 0 ((arrivedAs s x m).modWin w f) t) : t.win[w] = f s.win[w] ∧
    (∀ v, v ≠ w → t.win[v] = s.win[v]) ∧ t = Machine.withRequest { s with win := t.win } t := by
  have win : t.win = vmod s.win w f := h.win
  refine ⟨by rw [win]; simp, fun v other => by rw [win]; simp [Fin.val_ne_of_ne other.symm], ?_⟩
  have same := h.withRequest (q := { s with win := vmod s.win w f }) (withRequest_of_port rfl rfl)
  rw [win]
  exact same

theorem Sent.window (h : Sent p index sub data ((arrivedAs s x m).modWin w f) t) : t.win[w] = f s.win[w] ∧
    (∀ v, v ≠ w → t.win[v] = s.win[v]) ∧ t = Machine.withRequest { s with win := t.win } t := by
  have win : t.win = vmod s.win w f := h.win
  refine ⟨by rw [win]; simp, fun v other => by rw [win]; simp [Fin.val_ne_of_ne other.symm], ?_⟩
  have same := h.withRequest (q := { s with win := vmod s.win w f }) (withRequest_of_port rfl rfl)
  rw [win]
  exact same

theorem modWin_modWin (s : State) (w : Fin 7) (f g : Win → Win) : (s.modWin w f).modWin w g = s.modWin w (fun x => g (f x)) := by
  have twice : vmod (vmod s.win w f) w g = vmod s.win w (fun x => g (f x)) := by
    ext i h
    simp only [vmod_getElem]
    split <;> rfl
  unfold State.modWin
  rw [twice]

/-- A read of Data, over either transport. -/
def dataRead (p : Session) (w : Fin 7) (n : Nat) (s : State) : State :=
  match p with
  | .usdo c => usdoServe c (winIndex w).toNat 4 (dictRead p (winIndex w).toNat 4 n) s
  | .mailbox fn =>
    mbxServe fn (s.mbx[fn]).irqEn (s.mbx[fn]).tag 0 (winIndex w) 4 (BitVec.ofNat 9 n) [] (dictRead p (winIndex w).toNat 4 n) s

theorem exec_windowDataRead (p : Session) (w : Fin 7) (n : Nat) (s : State) : exec (.windowDataRead p w n) s = .next (dataRead p w n s) := by
  cases p <;> rfl

theorem dataRead_ok {n : Nat} {g : State → State} (reaches : Reaches p s) (admin : p.isAdmin = true) (serves : romOnly s = true → w = 0)
    (reads : ∀ x m, readData p w n (arrivedAs s x m) = (g (arrivedAs s x m), .ok, data)) :
    ∃ x m, Sent p (0x2E00 + w.val) 4 data (g (arrivedAs s x m)) (dataRead p w n s) := by
  have read (x : Nat) (m : Vector Mbx 16) : ∃ y, dictRead p (winIndex w).toNat 4 n (arrivedAs s x m) = (g (arrivedAs s y m), .ok, data) :=
    dictRead_ok x m fun x m => by
      rw [winIndex_toNat]
      exact (readEntry_data (s := arrivedAs s x m) admin serves).trans (reads x m)
  unfold dataRead
  cases p with
  | usdo c =>
    obtain ⟨y, e⟩ := read s.mode.expertLast s.mbx
    have same : arrivedAs s s.mode.expertLast s.mbx = s := rfl
    rw [same] at e
    dsimp only
    rw [usdoServe_reaches reaches, e, winIndex_toNat]
    exact ⟨y, s.mbx, answerTo_sent (.usdo c) 0 _ _ _ _⟩
  | mailbox fn =>
    dsimp only
    rw [mbxServe_reaches reaches]
    obtain ⟨y, e⟩ := read s.mode.expertLast (mbxGoing fn (s.mbx[fn]).irqEn (s.mbx[fn]).tag 0 (winIndex w) 4 (BitVec.ofNat 9 n) [] s)
    rw [e]
    exact ⟨y, _, answerTo_sent (.mailbox fn) _ _ _ _ _⟩

theorem dataWrite_ok {g : State → State} (reaches : Reaches p s) (admin : p.isAdmin = true) (serves : romOnly s = true → w = 0)
    (writes : ∀ x m, writeData p w data (arrivedAs s x m) = (g (arrivedAs s x m), .ok)) :
    ∃ x m, Replied p (0x2E00 + w.val) 4 0 (g (arrivedAs s x m)) (sessionWrite p (winIndex w) 4 data s) := by
  obtain ⟨x, m, e⟩ := sessionWrite_reaches (index := winIndex w) (sub := 4) (data := data) reaches
  rw [winIndex_toNat] at e
  have here (a : Bool) : writeEntry p a (0x2E00 + w.val) (BitVec.toNat (4 : BitVec 8)) data (arrivedAs s x m) =
      (g (arrivedAs s x m), .ok) := (writeEntry_data (s := arrivedAs s x m) admin serves).trans (writes x m)
  exact ⟨x, m, by rw [e, here]; exact replyTo_replied_ok ..⟩

end

end Sys2Proof.Machine
end

section
open Sys2Proof Sys2Proof.Machine

/-- Settles O11: each Control write and each access to Data changes its own window alone, and another session than the Owner is refused. -/
theorem windowControlAndData : Obligations.WindowControlAndData := by
  unfold Obligations.WindowControlAndData
  refine ⟨?opensRead, ?opensWrite, ?commits, ?aborts, ?refused, ?reads, ?writes, ?idles⟩
  case opensRead =>
    intro p w s accepts notOther readable closed slot
    obtain ⟨x, m, r⟩ := control_ok (g := fun u => u.modWin w (fun y => { y with
        status := 1, buf := snapshotOf s w s.win[w].target, length := (snapshotOf s w s.win[w].target).length
        crc := crc32 (snapshotOf s w s.win[w].target), offset := 0, owner := some p, writing := false
        lastAccess := s.time.now })) (by decide) accepts
      (fun x m => openRead_ok (s := arrivedAs s x m) notOther readable closed slot)
    obtain ⟨here, others, same⟩ := r.window
    refine ⟨_, rfl, r.answered, ?_, ?_, ?_, ?_, ?_, ?_, others, same⟩ <;> rw [here]
  case opensWrite =>
    intro p w s accepts notOther writable closed least fits
    obtain ⟨x, m, r⟩ := control_ok (g := fun u => u.modWin w (fun y => { y with
        status := 2, buf := List.replicate y.length 0, offset := 0, owner := some p, writing := true
        lastAccess := s.time.now })) (by decide) accepts
      (fun x m => openWrite_ok (s := arrivedAs s x m) notOther writable closed least fits)
    obtain ⟨here, others, same⟩ := r.window
    refine ⟨_, rfl, r.answered, ?_, ?_, ?_, ?_, ?_, others, same⟩ <;> rw [here]
  case commits =>
    intro p w s accepts owned writing opened served sum expert
    obtain ⟨x, m, r⟩ := control_ok (g := fun u => u.modWin w (fun y => { y with lastAccess := s.time.now, status := 3 })) (by decide) accepts
      (fun x m => (commitWin_ok (s := arrivedAs s x m) owned writing opened served sum expert).trans (by rw [modWin_modWin]; rfl))
    obtain ⟨here, others, same⟩ := r.window
    refine ⟨_, rfl, r.answered, ?_, ?_, others, same⟩ <;> rw [here]
  case aborts =>
    intro p w s accepts owned opened
    obtain ⟨x, m, r⟩ := control_ok (g := fun u => u.modWin w (fun x => { x with owner := none, status := 0, buf := [], writing := false }))
      (by decide) accepts (fun x m => abortWin_ok (s := arrivedAs s x m) owned opened)
    obtain ⟨here, others, same⟩ := r.window
    refine ⟨_, rfl, r.answered, ?_, ?_, ?_, others, same⟩ <;> rw [here]
  case refused =>
    intro p w s k c which accepts other
    have put : k < 256 ∧ exec c s = .next (sessionPut p (winIndex w) 5 1 k s) := by
      simp only [List.mem_cons, List.not_mem_nil, or_false] at which
      rcases which with e | e | e | e <;> cases e <;> exact ⟨by decide, rfl⟩
    obtain ⟨x, m, r⟩ := control_refused (code := abOwner) (g := fun u => u) put.1 (by decide) accepts
      (fun x m => controlWin_other (s := arrivedAs s x m) other k)
    exact ⟨_, put.2, r.answered, r.refusal (by decide) (arrived_withRequest ..)⟩
  case reads =>
    intro p w n s reaches admin serves owned reading words least most inside fits
    obtain ⟨x, m, r⟩ := dataRead_ok (g := fun u => u.modWin w (fun y => { y with lastAccess := s.time.now, offset := y.offset + n }))
      (data := (List.range (n / 4)).flatMap (fun i => wordAt s.win[w].buf (s.win[w].offset + 4 * i)))
      reaches admin serves (fun x m => (readData_ok (s := arrivedAs s x m) owned reading words least most inside fits).trans
        (by rw [modWin_modWin]; rfl))
    obtain ⟨here, others, same⟩ := r.window
    refine ⟨_, exec_windowDataRead p w n s, r.answered, ?_, ?_, ?_, others, same⟩ <;> rw [here]
  case writes =>
    intro p w data s reaches admin serves owned writing opened words least most inside fits
    obtain ⟨x, m, r⟩ := dataWrite_ok
      (g := fun u => u.modWin w (fun y => { y with
        lastAccess := s.time.now, buf := storeAt y.buf y.offset data, offset := y.offset + data.length }))
      reaches admin serves (fun x m => (writeData_ok (s := arrivedAs s x m) owned writing opened words least most inside fits).trans
        (by rw [modWin_modWin]; rfl))
    obtain ⟨here, others, same⟩ := r.window
    refine ⟨_, rfl, r.answered, ?_, ?_, ?_, fun i from_ below within => ?_, fun i outside => ?_, others, same⟩ <;> rw [here]
    · exact length_storeAt ..
    · exact (getElem?_storeAt ..).trans (if_pos ⟨from_, below, within⟩)
    · exact (getElem?_storeAt ..).trans (if_neg (by omega))
  case idles =>
    intro w s opened owned idle
    have runs : exec (.windowIdleTimeout w) s = .next (closeWindow w true s) := if_pos ⟨opened, idle⟩
    have closes : closeWindow w true s =
        raise (s.modWin w (fun x => { x with owner := none, status := 0, buf := [], writing := false })) 20 .control [] := if_pos owned
    have win : (closeWindow w true s).win = vmod s.win w (fun x => { x with owner := none, status := 0, buf := [], writing := false }) := by
      rw [closes]
      simp [State.modWin]
    refine ⟨_, runs, ?_, ?_, ?_, ?_, fun v other => ?_, ?_⟩
    · rw [win]; simp
    · rw [win]; simp
    · rw [win]; simp
    · rw [closes]
      exact (raise_told ..).of rfl rfl rfl
    · rw [win]; simp [Fin.val_ne_of_ne other.symm]
    · rw [win, closes]
      exact raise_eq ..
end

section
/-! Entries that only hold a value, and the requests of the transports (O13). -/

namespace Sys2Proof.Machine

/-! ### An entry that only holds a value -/

/-- What no value that is held changes by what follows from it. -/
def PlainFrame (s t : State) : Prop :=
  t.time = s.time ∧ t.isl = s.isl ∧ t.life = s.life ∧ t.nor = s.nor ∧ t.dict = s.dict ∧ t.mbx = s.mbx ∧ t.port = s.port ∧
    t.keep = s.keep ∧ t.tremor = s.tremor

section
variable (index sub v : Nat) (before s : State)

theorem plainFrame_refl : PlainFrame s s := ⟨rfl, rfl, rfl, rfl, rfl, rfl, rfl, rfl, rfl⟩

theorem beforeHold_frame : PlainFrame s (beforeHold index sub s) := by
  have trims (k : Fin 4) : PlainFrame s (anchorTrim k s) := by simp [PlainFrame, anchorTrim_frame]
  unfold beforeHold
  refine iteInduction (fun _ => ?_) fun _ => iteInduction (fun _ => trims _) fun _ => plainFrame_refl s
  simp [PlainFrame, anchorCharge_frame]

theorem streamsChanged_frame (g : Nat) :
    PlainFrame s (forAll 16 (fun t n => if s.sc n 0x4000 8 = g then streamChanged before n t else t) s) := by
  simp [PlainFrame]

theorem afterHold_frame : PlainFrame s (afterHold index sub before s) := by
  have trims (k : Fin 4) (v : Nat) : PlainFrame s (trimTo k v s) := by simp [PlainFrame]
  have resets (k : Fin 4) : PlainFrame s (resetRailChanged k s) := by simp [PlainFrame, resetRailChanged_frame]
  have moved (c : Channel) : PlainFrame s (sourceMoved c before s) := by simp [PlainFrame, sourceMoved_frame]
  have detected (c : Channel) : PlainFrame s (redetect c s) := by simp [PlainFrame, redetect_frame]
  have changed (n : Fin 16) : PlainFrame s (streamChanged before n s) := by simp [PlainFrame]
  unfold afterHold
  refine iteInduction (fun _ => ?policy) fun _ => iteInduction (fun _ => ?video) fun _ => iteInduction (fun _ => detected _) fun _ =>
    iteInduction (fun _ => detected _) fun _ => iteInduction (fun _ => ?charges) fun _ => iteInduction (fun _ => moved _) fun _ =>
    iteInduction (fun _ => moved _) fun _ => iteInduction (fun _ => trims _ _) fun _ => iteInduction (fun _ => resets _) fun _ =>
    iteInduction (fun _ => streamsChanged_frame ..) fun _ => iteInduction (fun _ => ?tenant) fun _ => iteInduction (fun _ => changed _)
    fun _ => plainFrame_refl s
  case policy => simp [PlainFrame, followConfig_frame]
  case video => simp [PlainFrame, videoModeChanged_frame]
  case charges => simp [PlainFrame]
  case tenant => simp [PlainFrame, followConfig_frame]

/-- The state in which an entry holds a value, with what follows from it. -/
def heldPlain : State := afterHold index sub s ((beforeHold index sub s).setHeld index sub (valueHeld index sub v))

theorem heldPlain_result : (heldPlain index sub v s).time = s.time ∧ (heldPlain index sub v s).isl = s.isl ∧
    (heldPlain index sub v s).life = s.life ∧ (heldPlain index sub v s).nor = s.nor ∧ (heldPlain index sub v s).mbx = s.mbx ∧
    (heldPlain index sub v s).port = s.port ∧ (heldPlain index sub v s).keep = s.keep ∧ (heldPlain index sub v s).tremor = s.tremor ∧
    (heldPlain index sub v s).dict.values = putValue s.dict.values index sub (valueHeld index sub v) := by
  obtain ⟨time, isl, life, nor, dict, mbx, port, keep, tremor⟩ := afterHold_frame index sub s
    ((beforeHold index sub s).setHeld index sub (valueHeld index sub v))
  obtain ⟨time', isl', life', nor', dict', mbx', port', keep', tremor'⟩ := beforeHold_frame index sub s
  unfold heldPlain
  rw [time, isl, life, nor, dict, mbx, port, keep, tremor]
  unfold State.setHeld
  rw [dict']
  exact ⟨time', isl', life', nor', mbx', port', keep', tremor', rfl⟩

end

theorem writePlain_ok {p : Session} {index sub v : Nat} {s : State} (checked : chapterCheck p index sub v s = none)
    (budget : overBudget index sub v s = false) (runs : s.island (s.ownerOf index sub) = .running) :
    writePlain p index sub v s = (heldPlain index sub v s, .ok) := by
  have frame := beforeHold_frame index sub s
  have runs' : (beforeHold index sub s).island ((beforeHold index sub s).ownerOf index sub) = .running := by
    have owner : (beforeHold index sub s).ownerOf index sub = s.ownerOf index sub := by
      unfold State.ownerOf
      rw [frame.2.2.2.2.1]
    rw [owner]
    unfold State.island
    rw [frame.2.1]
    exact runs
  unfold writePlain
  rw [checked]
  dsimp only
  rw [budget, if_neg (by decide)]
  unfold holdValue
  rw [runs']
  rfl

/-! ### Which entries have an action does not depend on the state -/

section
variable {p : Session} {a : Bool} {index sub v : Nat} {s : State} (t : State)

theorem globalAction_absent (absent : globalAction p index sub v s = none) : globalAction p index sub v t = none := by
  unfold globalAction at absent ⊢
  split at absent <;> first | rfl | cases absent

theorem none_iff_of_some {α : Type} (x y : α) : some x = none ↔ some y = none := ⟨(nomatch ·), (nomatch ·)⟩

theorem none_iff_ite {α : Type} {c : Prop} [Decidable c] {x x' y y' : Option α} (yes : x = none ↔ x' = none) (no : y = none ↔ y' = none) :
    (if c then x else y) = none ↔ (if c then x' else y') = none := by
  split
  · exact yes
  · exact no

theorem rangedAction_absent (absent : rangedAction a index sub v s = none) : rangedAction a index sub v t = none := by
  refine Iff.mp ?_ absent
  unfold rangedAction
  exact none_iff_ite (none_iff_ite (none_iff_of_some _ _) (none_iff_ite (none_iff_of_some _ _) Iff.rfl))
    (none_iff_ite (none_iff_of_some _ _) (none_iff_ite (none_iff_of_some _ _) (none_iff_ite (none_iff_of_some _ _)
      (none_iff_ite (none_iff_of_some _ _) Iff.rfl))))

theorem blockAction_absent (absent : blockAction index sub v s = none) : blockAction index sub v t = none := by
  refine Iff.mp ?_ absent
  unfold blockAction
  exact none_iff_ite (none_iff_ite (none_iff_of_some _ _) (none_iff_ite (none_iff_of_some _ _) Iff.rfl))
    (none_iff_ite (none_iff_ite (none_iff_of_some _ _) (none_iff_ite (none_iff_of_some _ _) (none_iff_ite (none_iff_of_some _ _) Iff.rfl)))
      Iff.rfl)

theorem actionOf_absent (absent : actionOf p a index sub v s = none) : actionOf p a index sub v t = none := by
  unfold actionOf at absent
  split at absent
  · cases absent
  · rename_i noGlobal
    split at absent
    · cases absent
    · rename_i noRanged
      unfold actionOf
      rw [globalAction_absent t noGlobal, rangedAction_absent t noRanged]
      exact blockAction_absent t absent

end

/-! ### Entries that are read -/

section
variable {p : Session} {index sub len : Nat} {s : State} {r : Row}

theorem liveValue_arrived (x : Nat) (m : Vector Mbx 16) : liveValue (arrivedAs s x m) index sub = liveValue s index sub := by
  have com : liveCom (arrivedAs s x m) index sub = liveCom s index sub := rfl
  have glob : liveGlobal (arrivedAs s x m) index sub = liveGlobal s index sub := rfl
  have host : liveHost (arrivedAs s x m) index sub = liveHost s index sub := rfl
  have chan (c : Channel) (i : Nat) : liveChannel (arrivedAs s x m) c i sub = liveChannel s c i sub := rfl
  have rails : liveRails (arrivedAs s x m) index sub = liveRails s index sub := rfl
  have flash : liveFlash (arrivedAs s x m) index sub = liveFlash s index sub := rfl
  have video : liveVideo (arrivedAs s x m) index sub = liveVideo s index sub := rfl
  have tenant : liveTenant (arrivedAs s x m) index sub = liveTenant s index sub := rfl
  have stream : liveStream (arrivedAs s x m) index sub = liveStream s index sub := rfl
  unfold liveValue
  rw [com, glob, host, chan, chan, rails, flash, video, tenant, stream]
  rfl

theorem entryBytes_arrived (x : Nat) (m : Vector Mbx 16) : entryBytes (arrivedAs s x m) index sub = entryBytes s index sub := by
  have number : entryNumber (arrivedAs s x m) index sub = entryNumber s index sub := by
    unfold entryNumber
    rw [liveValue_arrived]
    rfl
  unfold entryBytes
  rw [number]
  rfl

theorem readEntry_ok (window : winOf index = none) (found : findEntry p index sub s = .ok r)
    (readable : r.acc.mayRead (classesOf p index) = true) (serves : romOnly s = true → romServes index = true) :
    readEntry p index sub len s = (s, .ok, entryBytes s index sub) := by
  have may : mayReadEntry p index sub r = true := by simp [mayReadEntry, readable]
  have rom : ¬(romOnly s = true ∧ romServes index = false) := fun h => absurd ((serves h.1).symm.trans h.2) (by decide)
  unfold readEntry
  rw [found]
  dsimp only
  rw [may, if_neg (by decide), if_neg rom, window]

theorem nextEntry_arrived (x : Nat) (m : Vector Mbx 16) (after : Key) : nextEntry p (arrivedAs s x m) after = nextEntry p s after := rfl

/-- An entry that is found after a key, if one is. -/
def Later (after : Key) (best : Option (Key × Row)) : Prop := ∀ x, best = some x → after < x.1

theorem lesser_later {after : Key} {best : Option (Key × Row)} {b : Key × Row} (later : Later after best) (above : after < b.1) :
    Later after (lesser best b) := by
  intro x found
  unfold lesser at found
  split at found
  · cases found
    exact above
  · split at found
    · cases found
      exact above
    · exact later x found

theorem nextEntry_later {after : Key} : Later after (nextEntry p s after) := by
  unfold nextEntry
  refine List.foldlRecOn (motive := Later after) allRows _ (fun _ none => nomatch none) fun best later r _ => ?_
  refine List.foldlRecOn (motive := Later after) (List.range r.count) _ later fun best later i _ => ?_
  dsimp only
  split
  · refine List.foldlRecOn (motive := Later after) _ _ later fun best later b listed => lesser_later later ?_
    simpa using (List.mem_filter.1 listed).2
  · exact later

end

/-! ### The end of a mailbox request -/

section
variable (fn : Fin 16) (tag : Byte) (result abort : Nat) (data : List Byte) (s : State)

theorem endMbx_registers : ((endMbx fn tag result abort data s).mbx[fn]).go = false ∧ ((endMbx fn tag result abort data s).mbx[fn]).done = true ∧
    ((endMbx fn tag result abort data s).mbx[fn]).result = BitVec.ofNat 3 result ∧
    ((endMbx fn tag result abort data s).mbx[fn]).statusTag = tag ∧
    ((endMbx fn tag result abort data s).mbx[fn]).irqEn = (s.mbx[fn]).irqEn ∧
    ∀ g, g ≠ fn → (endMbx fn tag result abort data s).mbx[g] = s.mbx[g] := by
  rw [(endMbx_eq fn tag result abort data s).2]
  refine ⟨?_, ?_, ?_, ?_, ?_, fun g other => ?_⟩
  case refine_6 => simp [State.modMbx, Fin.val_ne_of_ne other.symm]
  all_goals simp [State.modMbx]

/-- Vector 0 is sent where the mailbox asks for it and the function may master the bus, and waits where it may not. -/
theorem endMbx_signals (asked : (s.mbx[fn]).irqEn = true) :
    (s.port.fns[fn].bme = true → (endMbx fn tag result abort data s).out.getLast? = some (.msix fn 0)) ∧
    (s.port.fns[fn].bme = false → (endMbx fn tag result abort data s).port.fns[fn].pba = s.port.fns[fn].pba ||| 1) := by
  unfold endMbx
  dsimp only
  rw [if_pos (by simpa [State.modMbx] using asked)]
  unfold signal
  constructor <;> intro master
  · rw [if_pos (by exact master)]
    simp [State.send]
  · rw [if_neg (by rw [Bool.not_eq_true]; exact master)]
    simp [State.modFn, State.modMbx]

end

section
variable {fn : Fin 16} {irqEn : Bool} {tag : Byte} {op : BitVec 2} {index : BitVec 16} {sub : BitVec 8} {len : BitVec 9}
  {data : List Byte} {f : State → State × Answer × List Byte} {s : State}

theorem mbxGoing_irqEn : ((mbxGoing fn irqEn tag op index sub len data s)[fn]).irqEn = irqEn := by simp [mbxGoing]

theorem mbxGoing_others {g : Fin 16} (other : g ≠ fn) : (mbxGoing fn irqEn tag op index sub len data s)[g] = s.mbx[g] := by
  simp [mbxGoing, Fin.val_ne_of_ne other.symm]

/-- A request that arrives while CONTROL does not serve ends busy. -/
theorem mbxServe_busy (reached : mbxReached s fn = true) (idle : (s.mbx[fn]).go = false) (busy : mbxBusy s = true) :
    mbxServe fn irqEn tag op index sub len data f s =
      endMbx fn tag 2 0 [] { s with mbx := mbxGoing fn irqEn tag op index sub len data s } := by
  unfold mbxServe
  rw [if_neg (by rw [reached]; decide), if_neg (by rw [idle]; decide)]
  dsimp only
  exact if_pos busy

theorem mbxServe_unreached (unreached : mbxReached s fn = false) : mbxServe fn irqEn tag op index sub len data f s = s := if_pos unreached

theorem mbxServe_going (reached : mbxReached s fn = true) (going : (s.mbx[fn]).go = true) :
    mbxServe fn irqEn tag op index sub len data f s = s.modMbx fn (fun m => { m with irqEn := irqEn }) := by
  unfold mbxServe
  rw [if_neg (by rw [reached]; decide), if_pos going]

end

/-! ### Requests over the mailbox and over USDO -/

section
variable {fn : Fin 16} {c : Fin 128} {irqEn : Bool} {tag : Byte} {index : BitVec 16} {sub : BitVec 8} {data : List Byte} {s : State} {r : Row}

/-- What a mailbox answers a read with, after the state its request is served in. -/
structure MailboxRead (fn : Fin 16) (tag : Byte) (irqEn : Bool) (s u t : State) (data : List Byte) : Prop where
  ends : t = endMbx fn tag 0 0 data u
  arrived : ∃ x m, u = arrivedAs s x m ∧ (m[fn]).irqEn = irqEn ∧ ∀ g, g ≠ fn → m[g] = s.mbx[g]

theorem mbxRead_ok {len : BitVec 9} (reaches : Reaches (.mailbox fn) s) (window : winOf index.toNat = none)
    (found : findEntry (.mailbox fn) index.toNat sub.toNat s = .ok r)
    (readable : r.acc.mayRead (classesOf (.mailbox fn) index.toNat) = true) (serves : romOnly s = true → romServes index.toNat = true) :
    ∃ u t, exec (.mbxRead fn irqEn tag index sub len) s = .next t ∧
      MailboxRead fn tag irqEn s u t (entryBytes s index.toNat sub.toNat) := by
  obtain ⟨y, e⟩ := dictRead_ok (s := s) (p := .mailbox fn) (index := index.toNat) (sub := sub.toNat) (len := len.toNat) (g := fun u => u)
    s.mode.expertLast (mbxGoing fn irqEn tag 0 index sub len [] s)
    (fun x m => (readEntry_ok (s := arrivedAs s x m) window found readable serves).trans (by rw [entryBytes_arrived]))
  refine ⟨_, _, rfl, ?_, y, mbxGoing fn irqEn tag 0 index sub len [] s, rfl, mbxGoing_irqEn, fun g other => mbxGoing_others other⟩
  rw [mbxServe_reaches reaches, e]
  rfl

theorem mbxNext_some {k : Key × Row} (reaches : Reaches (.mailbox fn) s)
    (found : nextEntry (.mailbox fn) s (key index.toNat sub.toNat) = some k) :
    ∃ u t, exec (.mbxNextEntry fn irqEn tag index sub) s = .next t ∧ MailboxRead fn tag irqEn s u t (descriptor k.1 k.2) := by
  obtain ⟨y, arrives⟩ := noteRequest_arrived (.mailbox fn) s s.mode.expertLast (mbxGoing fn irqEn tag 2 index sub 0 [] s)
  refine ⟨_, _, rfl, ?_, y, mbxGoing fn irqEn tag 2 index sub 0 [] s, rfl, mbxGoing_irqEn, fun g other => mbxGoing_others other⟩
  rw [mbxServe_reaches reaches]
  unfold dictNext
  dsimp only
  rw [arrives, nextEntry_arrived, found]
  rfl

theorem mbxNext_none (reaches : Reaches (.mailbox fn) s)
    (absent : nextEntry (.mailbox fn) s (key index.toNat sub.toNat) = none) :
    ∃ x m, exec (.mbxNextEntry fn irqEn tag index sub) s =
      .next (replyTo (.mailbox fn) tag index.toNat sub.toNat (arrivedAs s x m, .abort abNoObject)) := by
  obtain ⟨y, arrives⟩ := noteRequest_arrived (.mailbox fn) s s.mode.expertLast (mbxGoing fn irqEn tag 2 index sub 0 [] s)
  refine ⟨y, mbxGoing fn irqEn tag 2 index sub 0 [] s, ?_⟩
  have serves : mbxServe fn irqEn tag 2 index sub 0 [] (dictNext (.mailbox fn) index.toNat sub.toNat) s =
      replyTo (.mailbox fn) tag index.toNat sub.toNat (arrivedAs s y (mbxGoing fn irqEn tag 2 index sub 0 [] s), .abort abNoObject) := by
    rw [mbxServe_reaches reaches]
    unfold dictNext
    dsimp only
    rw [arrives, nextEntry_arrived, absent]
    rfl
  exact congrArg _ serves

/-- A value that a mailbox writes is held, and answered. -/
theorem mbxWrite_ok (accepts : Accepts (.mailbox fn) index.toNat sub.toNat data s) (window : winOf index.toNat = none)
    (plain : ∀ a, actionOf (.mailbox fn) a index.toNat sub.toNat (ofLe data) s = none)
    (checked : chapterCheck (.mailbox fn) index.toNat sub.toNat (ofLe data) s = none)
    (budget : overBudget index.toNat sub.toNat (ofLe data) s = false) (runs : s.island (s.ownerOf index.toNat sub.toNat) = .running) :
    ∃ x m, (m[fn]).irqEn = irqEn ∧ exec (.mbxWrite fn irqEn tag index sub data) s = .next (replyTo (.mailbox fn) tag index.toNat sub.toNat
      (heldPlain index.toNat sub.toNat (ofLe data) (arrivedAs s x m), .ok)) := by
  let m := mbxGoing fn irqEn tag 1 index sub (BitVec.ofNat 9 data.length) data s
  obtain ⟨y, arrives⟩ := noteRequest_arrived (.mailbox fn) s s.mode.expertLast m
  have held : applyValue (.mailbox fn) (dieAnswers (arrivedAs s s.mode.expertLast m) index.toNat) index.toNat sub.toNat (ofLe data)
      (arrivedAs s y m) = (heldPlain index.toNat sub.toNat (ofLe data) (arrivedAs s y m), .ok) :=
    (applyValue_plain window (actionOf_absent _ (plain _))).trans (writePlain_ok (s := arrivedAs s y m) checked budget runs)
  refine ⟨y, m, mbxGoing_irqEn, ?_⟩
  have serves : mbxServe fn irqEn tag 1 index sub (BitVec.ofNat 9 data.length) data
      (fun t => noData (dictWrite (.mailbox fn) index.toNat sub.toNat data t)) s =
      replyTo (.mailbox fn) tag index.toNat sub.toNat (heldPlain index.toNat sub.toNat (ofLe data) (arrivedAs s y m), .ok) := by
    rw [mbxServe_reaches accepts.1]
    unfold dictWrite dictWriteA noData replyTo answerTo
    dsimp only
    rw [arrives, writeEntry_passes (passes_arrived y m accepts.2) (.inl window), held]
  exact congrArg _ serves

/-- A value that a client writes is held, and answered. -/
theorem plainWrite_ok {p : Session} (accepts : Accepts p index.toNat sub.toNat data s) (window : winOf index.toNat = none)
    (plain : ∀ a, actionOf p a index.toNat sub.toNat (ofLe data) s = none)
    (checked : chapterCheck p index.toNat sub.toNat (ofLe data) s = none)
    (budget : overBudget index.toNat sub.toNat (ofLe data) s = false) (runs : s.island (s.ownerOf index.toNat sub.toNat) = .running) :
    ∃ x m, Replied p index.toNat sub.toNat 0 (heldPlain index.toNat sub.toNat (ofLe data) (arrivedAs s x m)) (sessionWrite p index sub data s) := by
  obtain ⟨x, m, e⟩ := sessionWrite_accepts accepts (.inl window)
  rw [applyValue_plain window (actionOf_absent _ (plain _)), writePlain_ok (s := arrivedAs s x m) checked budget runs] at e
  exact ⟨x, m, by rw [e]; exact replyTo_replied_ok ..⟩

theorem usdoRead_ok {len : Nat} (reaches : Reaches (.usdo c) s) (window : winOf index.toNat = none)
    (found : findEntry (.usdo c) index.toNat sub.toNat s = .ok r)
    (readable : r.acc.mayRead (classesOf (.usdo c) index.toNat) = true) (serves : romOnly s = true → romServes index.toNat = true) :
    ∃ x t, exec (.usdoRequest c (.read index sub len)) s = .next t ∧
      Sent (.usdo c) index.toNat sub.toNat (entryBytes s index.toNat sub.toNat) (arrivedAs s x s.mbx) t := by
  obtain ⟨y, e⟩ := dictRead_ok (s := s) (p := .usdo c) (index := index.toNat) (sub := sub.toNat) (len := len) (g := fun u => u)
    s.mode.expertLast s.mbx
    (fun x m => (readEntry_ok (s := arrivedAs s x m) window found readable serves).trans (by rw [entryBytes_arrived]))
  have same : arrivedAs s s.mode.expertLast s.mbx = s := rfl
  rw [same] at e
  refine ⟨y, _, rfl, ?_⟩
  rw [usdoServe_reaches reaches, e]
  exact answerTo_sent (.usdo c) 0 _ _ _ _

end

/-- A refusal that a mailbox's counter alone counts. -/
theorem withRequest_of_mbxRefusal {fn : Fin 16} {s t : State} {x : Nat} {m : Vector Mbx 16}
    (reply : t = withReply (countRefusal (.mailbox fn) (arrivedAs s x m)) t) :
    t = { withRequest s t with dict := { s.dict with refusedMbx := t.dict.refusedMbx } } := by
  have ev : t.ev = s.ev := (congrArg State.ev reply :)
  have can : t.can = s.can := (congrArg State.can reply :)
  have mode : t.mode = { s.mode with expertLast := x } := (congrArg State.mode reply :)
  have dict : t.dict = (countRefusal (.mailbox fn) (arrivedAs s x m)).dict := (congrArg State.dict reply :)
  have same : withReply (countRefusal (.mailbox fn) (arrivedAs s x m)) t =
      { withRequest s t with dict := { s.dict with refusedMbx := t.dict.refusedMbx } } := by
    rw [dict]
    simp only [withReply, withRequest, withEvents, countRefusal, arrivedAs, ev, can, mode]
  exact reply.trans same

end Sys2Proof.Machine
end

section
open Sys2Proof Sys2Proof.Machine

/-- Settles O13: a request that its transport takes is served as the dictionary serves it, and answered; one that it does not take
changes no more than the transport's own registers. -/
theorem transportRequests : Obligations.TransportRequests := by
  unfold Obligations.TransportRequests
  refine ⟨?read, ?write, ?next, ?last, ?busy, ?untaken, ?usdoRead, ?usdoWrite, ?unsupported, ?second, ?unserved⟩
  case read =>
    intro fn irq tag index sub len r s reaches window found readable serves
    obtain ⟨u, t, runs, ends, x, m, rfl, irqEn, others⟩ :=
      mbxRead_ok (irqEn := irq) (tag := tag) (len := len) reaches window found readable serves
    obtain ⟨-, -, -, status, irq', others'⟩ := endMbx_registers fn tag 0 0 (entryBytes s index.toNat sub.toNat) (arrivedAs s x m)
    have signals := endMbx_signals fn tag 0 0 (entryBytes s index.toNat sub.toNat) (arrivedAs s x m)
    have sent := answerTo_sent (.mailbox fn) tag index.toNat sub.toNat (entryBytes s index.toNat sub.toNat) (arrivedAs s x m)
    have same := sent.withRequest (arrived_withRequest ..)
    have answered := sent.answered
    unfold answerTo answerMbx at same answered
    dsimp only at same answered
    rw [← ends] at status irq' others' signals same answered
    exact ⟨t, runs, answered, status, irq'.trans irqEn, fun asked => (signals (irqEn.trans asked)).1, fun asked => (signals (irqEn.trans asked)).2,
      fun g other => (others' g other).trans (others g other), same⟩
  case write =>
    intro fn irq tag index sub data s accepts window plain checked budget runs
    obtain ⟨x, m, irqEn, step⟩ := mbxWrite_ok (irqEn := irq) (tag := tag) accepts window plain checked budget runs
    have replied := replyTo_replied_ok (.mailbox fn) tag index.toNat sub.toNat (heldPlain index.toNat sub.toNat (ofLe data) (arrivedAs s x m))
    obtain ⟨time, isl, life, nor, mbx, -, keep, tremor, values⟩ := heldPlain_result index.toNat sub.toNat (ofLe data) (arrivedAs s x m)
    obtain ⟨-, -, -, status, irq', -⟩ := endMbx_registers fn tag 0 0 [] (heldPlain index.toNat sub.toNat (ofLe data) (arrivedAs s x m))
    rw [mbx] at irq'
    exact ⟨_, step, replied.answered, status, irq'.trans irqEn, (congrArg Dict.values replied.dict).trans values, replied.isl.trans isl,
      replied.life.trans life, replied.time.trans time, replied.keep.trans keep, replied.nor.trans nor, replied.tremor.trans tremor⟩
  case next =>
    intro fn irq tag index sub k s reaches found
    obtain ⟨u, t, runs, ends, x, m, rfl, -⟩ := mbxNext_some (irqEn := irq) (tag := tag) reaches found
    have status := (endMbx_registers fn tag 0 0 (descriptor k.1 k.2) (arrivedAs s x m)).2.2.2.1
    have sent := answerTo_sent (.mailbox fn) tag index.toNat sub.toNat (descriptor k.1 k.2) (arrivedAs s x m)
    have same := sent.withRequest (arrived_withRequest ..)
    have answered := sent.answered
    unfold answerTo answerMbx at same answered
    dsimp only at same answered
    rw [← ends] at status same answered
    exact ⟨t, runs, answered, status, nextEntry_later k found, same⟩
  case last =>
    intro fn irq tag index sub s reaches absent
    obtain ⟨x, m, runs⟩ := mbxNext_none (irqEn := irq) (tag := tag) reaches absent
    refine ⟨_, runs, replyTo_refused _ _ _ _ _ _ (by decide), ?_⟩
    have same := (endMbx_eq fn tag 1 abNoObject [] (countRefusal (.mailbox fn) (arrivedAs s x m))).1
    exact withRequest_of_mbxRefusal same
  case busy =>
    intro fn irq tag index sub data s c reached idle busy which
    have step : ∃ op len d, exec c s = .next (endMbx fn tag 2 0 [] { s with mbx := mbxGoing fn irq tag op index sub len d s }) := by
      simp only [List.mem_cons, List.not_mem_nil, or_false] at which
      rcases which with rfl | rfl | rfl
      · exact ⟨_, _, _, congrArg _ (mbxServe_busy reached idle busy)⟩
      · exact ⟨_, _, _, congrArg _ (mbxServe_busy reached idle busy)⟩
      · exact ⟨_, _, _, congrArg _ (mbxServe_busy reached idle busy)⟩
    obtain ⟨op, len, d, step⟩ := step
    obtain ⟨go, done, result, status, -, others⟩ := endMbx_registers fn tag 2 0 [] { s with mbx := mbxGoing fn irq tag op index sub len d s }
    have same := (endMbx_eq fn tag 2 0 [] { s with mbx := mbxGoing fn irq tag op index sub len d s }).1
    exact ⟨_, step, go, done, result, status, fun g other => (others g other).trans (mbxGoing_others other), same⟩
  case untaken =>
    intro fn irq tag index sub len data s c which
    simp only [List.mem_cons, List.not_mem_nil, or_false] at which
    refine ⟨fun unreached => ?_, fun reached going => ?_⟩
    · rcases which with rfl | rfl | rfl <;> exact congrArg _ (mbxServe_unreached unreached)
    · rcases which with rfl | rfl | rfl <;> exact congrArg _ (mbxServe_going reached going)
  case usdoRead =>
    intro c index sub len r s reaches window found readable serves
    obtain ⟨x, t, runs, sent⟩ := usdoRead_ok (len := len) reaches window found readable serves
    exact ⟨t, runs, sent.answered, sent.withRequest (arrived_withRequest ..)⟩
  case usdoWrite =>
    intro c index sub data s accepts window plain checked budget runs
    obtain ⟨x, m, r⟩ := plainWrite_ok accepts window plain checked budget runs
    obtain ⟨time, isl, life, nor, -, -, keep, tremor, values⟩ := heldPlain_result index.toNat sub.toNat (ofLe data) (arrivedAs s x m)
    exact ⟨_, rfl, r.answered, (congrArg Dict.values r.dict).trans values, r.isl.trans isl, r.life.trans life, r.time.trans time,
      r.keep.trans keep, r.nor.trans nor, r.tremor.trans tremor⟩
  case unsupported =>
    intro c s reaches
    have serves : usdoServe c 0 0 (fun t => (countRefusal (.usdo c) t, .abort abSpecifier, [])) s =
        answerUsdo c 0 0 (.abort abSpecifier) [] (countRefusal (.usdo c) s) := usdoServe_reaches reaches
    exact ⟨_, congrArg Host.Outcome.next serves, ⟨s.out, rfl⟩, rfl⟩
  case second =>
    intro c index sub data s served waits
    have serves (f : State → State × Answer × List Byte) : usdoServe c index.toNat sub.toNat f s =
        answerUsdo c index.toNat sub.toNat (.abort abSpecifier) [] (countRefusal (.usdo c) s) := by
      unfold usdoServe
      rw [if_neg (by rw [served]; decide), if_pos (List.contains_iff_mem.2 waits)]
    exact ⟨_, congrArg Host.Outcome.next (serves _), ⟨s.out, rfl⟩, rfl⟩
  case unserved =>
    intro c req s unserved
    cases req <;> exact congrArg _ (if_pos unserved)
end

section
/-! What a charger's control leaves of its channel, and when it is off. -/

namespace Sys2Proof.Machine

/-! ### What a charger's control leaves of its channel -/

/-- What is measured and found at a channel: what the charger's control does not set. -/
def Chan.measure (x : Chan) : Chan :=
  { x with
    enable := false, full := false, phase := .off, inhibit := 0, target := 0, targetFinal := 0, slewAt := 0, slewing := false
    iset := 0, taperAt := none, setpoint := 0 }

section
variable (s : State) (c d : Channel)

theorem measure_setChan (x : Chan) (same : x.measure = (s.chan c).measure) : ((s.setChan c x).chan d).measure = (s.chan d).measure := by
  rw [chan_setChan]
  split
  · rename_i e
    rw [← e]
    exact same
  · rfl

theorem driveCharge_measure : ((driveCharge s c).chan d).measure = (s.chan d).measure := measure_setChan _ _ _ _ rfl

theorem retarget_measure : ((retarget s c).chan d).measure = (s.chan d).measure := by
  unfold retarget
  dsimp only
  split
  · rfl
  · exact measure_setChan _ _ _ _ rfl

theorem startCharge_measure : ((startCharge s c).chan d).measure = (s.chan d).measure := by
  unfold startCharge
  dsimp only
  rw [chan_raise]
  exact measure_setChan _ _ _ _ rfl

theorem holdCharge_measure : ((holdCharge s c).chan d).measure = (s.chan d).measure := measure_setChan _ _ _ _ rfl

theorem chargeRefresh_measure : ((chargeRefresh s c).chan d).measure = (s.chan d).measure := by
  unfold chargeRefresh
  dsimp only
  have first : ∀ u : State, u.chan d = (s.setChan c { s.chan c with
      inhibit := inhibits s c, full := (inhibits s c).getLsbD 7 }).chan d → (u.chan d).measure = (s.chan d).measure := fun u same => by
    rw [same]
    exact measure_setChan _ _ _ _ rfl
  have kept := first (raiseIf ((inhibits s c &&& ~~~(s.chan c).inhibit &&& 0x5F#8) != 0) (s.setChan c { s.chan c with
      inhibit := inhibits s c, full := (inhibits s c).getLsbD 7 }) (chanEv c 134) .supervisor []) (chan_raiseIf ..)
  generalize raiseIf ((inhibits s c &&& ~~~(s.chan c).inhibit &&& 0x5F#8) != 0) _ _ _ _ = u at kept ⊢
  refine Eq.trans ?_ kept
  split
  · split
    · exact (driveCharge_measure ..).trans (retarget_measure ..)
    · exact (driveCharge_measure ..).trans (startCharge_measure ..)
  · split
    · exact holdCharge_measure ..
    · exact measure_setChan _ _ _ _ rfl

theorem chargesRefresh_measure : ((chargesRefresh s).chan c).measure = (s.chan c).measure :=
  (chargeRefresh_measure ..).trans (chargeRefresh_measure ..)

theorem modesRefresh_chan : (modesRefresh s).chan c = s.chan c := chan_congr c (by simp) (by simp)

theorem redetect_measure : ((redetect c s).chan d).measure = ((s.setChan c { s.chan c with fitted := false, full := false }).chan d).measure := by
  unfold redetect
  rw [modesRefresh_chan]
  exact chargesRefresh_measure ..

theorem redetect_fitted : ((redetect c s).chan c).fitted = false := by
  refine (congrArg Chan.fitted (redetect_measure s c c) :).trans ?_
  rw [chan_setChan, if_pos rfl]
  rfl

theorem redetect_pack : (redetect .pack s).pack.fitted = false := by
  have fitted := redetect_fitted s .pack
  generalize redetect .pack s = t at fitted ⊢
  exact fitted

theorem redetect_bank : (redetect .bank s).bank.fitted = false := by
  have fitted := redetect_fitted s .bank
  generalize redetect .bank s = t at fitted ⊢
  exact fitted

/-! ### A charger that is held -/

theorem inhibitBits (b0 b1 b2 b3 b4 b5 b6 b7 : Bool) :
    let x := BitVec.ofNat 8 (bitIf b0 0 + bitIf b1 1 + bitIf b2 2 + bitIf b3 3 + bitIf b4 4 + bitIf b5 5 + bitIf b6 6 + bitIf b7 7)
    x.getLsbD 1 = b1 ∧ x.getLsbD 3 = b3 ∧ x.getLsbD 7 = b7 := by
  revert b0 b1 b2 b3 b4 b5 b6 b7
  decide

theorem inhibits_sag : (inhibits s c).getLsbD 1 = s.hold.sag := (inhibitBits ..).1

theorem inhibits_fault : (inhibits s c).getLsbD 3 = (chanFaulted s c || !(s.chan c).fitted || !chanConfigured s c) := (inhibitBits ..).2.1

theorem inhibits_full : (inhibits s c).getLsbD 7 = atEndOfCharge s c := (inhibitBits ..).2.2

/-- A bit that inhibits one charger in every state of its supervisor's two looks switches it off. -/
theorem chargesRefresh_off (k : Nat) (first : (inhibits s c).getLsbD k = true)
    (then_ : (inhibits (chargeRefresh s .bank) c).getLsbD k = true) : ((chargesRefresh s).chan c).enable = false := by
  have nonzero {b : BitVec 8} (set : b.getLsbD k = true) : b ≠ 0 := fun zero => by simp [zero] at set
  unfold chargesRefresh
  cases c with
  | pack => rw [(chargeRefresh_chan _ .pack .pack).2.1, decide_eq_false (nonzero then_)]
  | bank => rw [(chargeRefresh_chan _ .pack .bank).2.2 (by decide), (chargeRefresh_chan _ .bank .bank).2.1, decide_eq_false (nonzero first)]

theorem chargesRefresh_off_sag (sag : s.hold.sag = true) : ((chargesRefresh s).chan c).enable = false := by
  refine chargesRefresh_off s c 1 ?_ ?_ <;> rw [inhibits_sag]
  · exact sag
  · simpa using sag

theorem chargesRefresh_off_fault (faulted : chanFaulted s c || !(s.chan c).fitted || !chanConfigured s c) :
    ((chargesRefresh s).chan c).enable = false := by
  have measure := chargeRefresh_measure s .bank c
  have fault : ((chargeRefresh s .bank).chan c).fault = (s.chan c).fault := (congrArg Chan.fault measure :)
  have fitted : ((chargeRefresh s .bank).chan c).fitted = (s.chan c).fitted := (congrArg Chan.fitted measure :)
  have dict : (chargeRefresh s .bank).dict = s.dict ∧ (chargeRefresh s .bank).isl = s.isl ∧ (chargeRefresh s .bank).hold = s.hold := by simp
  refine chargesRefresh_off s c 3 ((inhibits_fault s c).trans faulted) ((inhibits_fault _ c).trans ?_)
  have cfg : (chargeRefresh s .bank).cfg = s.cfg := by
    funext index sub
    unfold State.cfg
    rw [dict.1, dict.2.1]
  have configured : chanConfigured (chargeRefresh s .bank) c = chanConfigured s c := by
    unfold chanConfigured
    rw [cfg]
  have same : chanFaulted (chargeRefresh s .bank) c = chanFaulted s c := by
    have mv : ((chargeRefresh s .bank).chan c).mv = (s.chan c).mv := (congrArg Chan.mv measure :)
    unfold chanFaulted configMismatch mismatchLevel cells chemistry
    rw [fault, fitted, mv, cfg]
  rw [same, fitted, configured]
  exact faulted

end

end Sys2Proof.Machine
end

section
/-! The configuration of a channel, and commands that wait (O4). -/

namespace Sys2Proof.Machine

/-! ### The configuration of a channel -/

section
variable {p : Session} {index sub : Nat} {s : State}

theorem isChannelConfig_iff : isChannelConfig index sub = true ↔
    index = 0x2500 ∧ 1 ≤ sub ∧ sub ≤ 0x0C ∨ index = 0x2580 ∧ 1 ≤ sub ∧ sub ≤ 9 := by
  simp [isChannelConfig, and_assoc]

theorem channelConfig_owner (config : isChannelConfig index sub = true) : s.ownerOf index sub ∈ [Island.supervisor, .control] ∧
    (s.island .supervisor = .running → s.island .control = .running → s.island (s.ownerOf index sub) = .running) := by
  have owner : s.ownerOf index sub ∈ [Island.supervisor, .control] := by
    unfold State.ownerOf
    split
    · unfold ownerIsland
      rcases isChannelConfig_iff.1 config with ⟨rfl, -⟩ | ⟨rfl, -⟩ <;> simp
    · simp
  refine ⟨owner, fun supervisor control => ?_⟩
  simp only [List.mem_cons, List.not_mem_nil, or_false] at owner
  rcases owner with e | e <;> rw [e]
  · exact supervisor
  · exact control

/-- An entry of a channel's configuration only holds a value, and no chapter checks it. -/
theorem channelConfig_plain (config : isChannelConfig index sub = true) (v : Nat) (a : Bool) : winOf index = none ∧
    actionOf p a index sub v s = none ∧ chapterCheck p index sub v s = none ∧ overBudget index sub v s = false ∧
    valueHeld index sub v = v := by
  have range : (index = 0x2500 ∧ sub ≤ 0x0C ∨ index = 0x2580 ∧ sub ≤ 9) :=
    (isChannelConfig_iff.1 config).imp (fun h => ⟨h.1, h.2.2⟩) fun h => ⟨h.1, h.2.2⟩
  have noGlobal : globalAction p index sub v s = none := by
    unfold globalAction
    split <;> first | rfl | omega
  have noTenant : tenantBlock index = none := if_neg (by omega)
  have noRail : railOfIndex index = none := if_neg (by omega)
  refine ⟨if_neg (by omega), ?_, ?_, ?_, ?_⟩
  · unfold actionOf rangedAction blockAction
    rw [noGlobal, if_neg (by omega), if_neg (by omega), if_neg (by omega), if_neg (by omega), if_neg (by omega)]
    dsimp only
    rw [if_neg (by omega), if_neg (by omega)]
  · unfold chapterCheck
    dsimp only
    rw [noRail, noTenant]
    dsimp only
    rw [if_neg (by omega), if_neg (by simp), if_neg (by simp), if_neg (by omega), if_neg (by omega), if_neg (by omega), if_neg (by omega)]
  · have free : budgeted index sub = false := by
      rcases range with ⟨rfl, -⟩ | ⟨rfl, -⟩ <;> rfl
    unfold overBudget
    dsimp only
    rw [free]
    rfl
  · unfold valueHeld
    rw [noTenant, if_neg (by omega), if_neg (by simp)]

theorem afterHold_detects (before : State) : (sub ≤ 0x0B → afterHold 0x2500 sub before s = redetect .pack s) ∧
    (sub ≤ 9 → afterHold 0x2580 sub before s = redetect .bank s) ∧ afterHold 0x2500 0x0C before s = s := by
  unfold afterHold
  refine ⟨fun low => ?_, fun low => ?_, ?_⟩
  · rw [if_neg (by omega), if_neg (by omega), if_pos ⟨rfl, low⟩]
  · rw [if_neg (by omega), if_neg (by omega), if_neg (by omega), if_pos ⟨rfl, low⟩]
  · simp [tenantBlock]

theorem beforeHold_channel (config : isChannelConfig index sub = true) :
    beforeHold index sub s = if index = 0x2500 ∧ sub = 0x0C then anchorCharge .bank (anchorCharge .pack s) else s := by
  unfold beforeHold
  split
  · rfl
  · have away : ¬(0x2720 ≤ index ∧ index < 0x2724 ∧ sub = 2) := by
      rcases isChannelConfig_iff.1 config with ⟨rfl, -⟩ | ⟨rfl, -⟩ <;> omega
    rw [if_neg away]

/-- What follows a channel's configuration: its charger is looked at again, the channel counting as not fitted, or a slew goes on. -/
theorem channelConfig_follows (config : isChannelConfig index sub = true) (v : Nat) :
    (index = 0x2500 → sub ≤ 0x0B → (heldPlain index sub v s).pack.fitted = false) ∧
    (index = 0x2580 → (heldPlain index sub v s).bank.fitted = false) ∧ (heldPlain index sub v s).cache = s.cache ∧
    (heldPlain index sub v s).flash = s.flash ∧ (heldPlain index sub v s).video = s.video := by
  unfold heldPlain
  rw [beforeHold_channel config]
  rcases isChannelConfig_iff.1 config with ⟨rfl, least, most⟩ | ⟨rfl, least, most⟩
  · by_cases slew : sub = 0x0C
    · subst slew
      rw [(afterHold_detects (sub := 0x0C) s).2.2]
      refine ⟨fun _ low => absurd low (by decide), fun other => absurd other (by decide), ?_⟩
      simp [State.setHeld, anchorCharge_frame]
    · rw [if_neg fun h => slew h.2, (afterHold_detects s).1 (by omega)]
      refine ⟨fun _ _ => redetect_pack _, fun other => absurd other (by decide), ?_⟩
      simp [State.setHeld, redetect_frame]
  · rw [if_neg (by omega), (afterHold_detects s).2.1 most]
    refine ⟨fun other => absurd other (by decide), fun _ => redetect_bank _, ?_⟩
    simp [State.setHeld, redetect_frame]

end

/-! ### A command of a stopped island -/

/-- A command whose island does not take it now is stored, and answered. -/
theorem stored_ok {p : Session} {index : BitVec 16} {sub : BitVec 8} {data : List Byte} {s : State} {f : State → State}
    (accepts : Accepts p index.toNat sub.toNat data s) (stopped : takesCommand s index.toNat sub.toNat = false)
    (window : winOf index.toNat = none) (action : ∀ a u, actionOf p a index.toNat sub.toNat (ofLe data) u = some (done (f u))) :
    ∃ x m, Replied p index.toNat sub.toNat 0 ((arrivedAs s x m).storeCommand index.toNat sub.toNat (ofLe data))
      (sessionWrite p index sub data s) := by
  obtain ⟨x, m, e⟩ := sessionWrite_accepts accepts (.inl window)
  obtain ⟨-, r, -, -, -, -, -, -, -, -, -, sound⟩ := accepts
  have here (a : Bool) : applyValue p a index.toNat sub.toNat (ofLe data) (arrivedAs s x m) =
      ((arrivedAs s x m).storeCommand index.toNat sub.toNat (ofLe data), .ok) := by
    have waits : takesCommand (arrivedAs s x m) index.toNat sub.toNat = false := stopped
    unfold applyValue
    rw [window, action]
    dsimp only
    rw [waits, if_neg (by decide)]
    unfold storeAction done
    dsimp only
    exact congrArg _ (if_neg sound)
  exact ⟨x, m, by rw [e, here]; exact replyTo_replied_ok ..⟩

end Sys2Proof.Machine
end

section
open Sys2Proof Sys2Proof.Machine

/-- Settles O4: a value is held as it is written and nothing of the controller's own course follows; a command that waits is among what
waits. -/
theorem valueWrites : Obligations.ValueWrites := by
  unfold Obligations.ValueWrites
  refine ⟨?value, ?channel, ?command⟩
  case value =>
    intro p index sub data s accepts window plain checked budget runs
    obtain ⟨x, m, r⟩ := plainWrite_ok accepts window plain checked budget runs
    obtain ⟨time, isl, life, nor, -, port, keep, tremor, values⟩ := heldPlain_result index.toNat sub.toNat (ofLe data) (arrivedAs s x m)
    have port' : (sessionWrite p index sub data s).port = { s.port with fns := withPba s.port.fns (sessionWrite p index sub data s).port.fns } := by
      have reply := (congrArg State.port r.reply :)
      unfold withReply at reply
      dsimp only at reply
      rw [port] at reply
      exact reply
    exact ⟨_, rfl, r.answered, (congrArg Dict.values r.dict).trans values, r.isl.trans isl, r.life.trans life, r.time.trans time,
      r.keep.trans keep, r.nor.trans nor, r.tremor.trans tremor, port'⟩
  case channel =>
    intro p index sub data s config accepts runs
    have facts (a : Bool) := channelConfig_plain (p := p) (s := s) config (ofLe data) a
    obtain ⟨window, -, checked, budget, value⟩ := facts true
    have owner := (channelConfig_owner (s := s) config).2 runs (eq_of_beq (reaches_control accepts.1))
    obtain ⟨x, m, r⟩ := plainWrite_ok accepts window (fun a => (facts a).2.1) checked budget owner
    obtain ⟨time, isl, life, -, -, -, -, -, values⟩ := heldPlain_result index.toNat sub.toNat (ofLe data) (arrivedAs s x m)
    obtain ⟨pack, bank, cache, flash, video⟩ := channelConfig_follows (s := arrivedAs s x m) config (ofLe data)
    rw [value] at values
    refine ⟨_, congrArg Host.Outcome.next (if_pos config), r.answered, (congrArg Dict.values r.dict).trans values, fun here low => ?_,
      fun here => ?_, r.isl.trans isl, r.life.trans life, r.time.trans time, r.cache.trans cache, r.flash.trans flash, r.video.trans video⟩
    · exact (congrArg Chan.fitted r.pack).trans (pack (by rw [here]; rfl) low)
    · exact (congrArg Chan.fitted r.bank).trans (bank (by rw [here]; rfl))
  case command =>
    intro p s c index sub v which accepts stopped
    have runs : winOf index.toNat = none ∧ exec c s = .next (sessionWrite p index sub [v] s) ∧
        ∃ f : State → State, ∀ a u, actionOf p a index.toNat sub.toNat (ofLe [v]) u = some (done (f u)) := by
      simp only [List.mem_cons, List.not_mem_nil, or_false] at which
      rcases which with e | e | e | e | e | e | e <;> cases e
      all_goals exact ⟨rfl, rfl, _, fun _ _ => rfl⟩
    obtain ⟨window, step, f, action⟩ := runs
    obtain ⟨x, m, r⟩ := stored_ok accepts stopped window action
    have value : ofLe [v] = v.toNat := by simp [ofLe]
    rw [value] at r
    exact ⟨_, step, r.answered, r.withRequest (withRequest_of_port rfl rfl)⟩
end

section
/-! Writes that an island does not acknowledge (O5). -/

namespace Sys2Proof.Machine

/-! ### A write that its island does not acknowledge -/

section
variable (p : Session) (index sub : Nat) (data : List Byte) (i : Island) (s : State)

/-- What CONTROL keeps of a write that is not acknowledged: a value, or a command that waits. -/
def unacknowledged : State :=
  if (actionOf p true index sub (ofLe data) s).isSome then s.storeCommand index sub (ofLe data)
  else (s.keepUndelivered index sub).setHeld index sub (valueHeld index sub (ofLe data))

theorem unacknowledged_frame : (unacknowledged p index sub data s).life = s.life ∧ (unacknowledged p index sub data s).cache = s.cache ∧
    (unacknowledged p index sub data s).rails = s.rails ∧ (unacknowledged p index sub data s).time = s.time ∧
    (unacknowledged p index sub data s).isl.lastTimeout = s.isl.lastTimeout ∧ (unacknowledged p index sub data s).isl.run = s.isl.run := by
  unfold unacknowledged State.keepUndelivered
  (repeat' split) <;> exact ⟨rfl, rfl, rfl, rfl, rfl, rfl⟩

/-- The state in which the island has not acknowledged the write, before the request is answered. -/
def timedOut : State := raise ((unacknowledged p index sub data s).setIsland i .fault) 4 .control []

theorem timedOut_result : (timedOut p index sub data i s).life = s.life ∧ (timedOut p index sub data i s).cache = s.cache ∧
    (timedOut p index sub data i s).rails = s.rails ∧ (timedOut p index sub data i s).time = s.time ∧
    (timedOut p index sub data i s).dict = (unacknowledged p index sub data s).dict ∧
    (timedOut p index sub data i s).isl = { (unacknowledged p index sub data s).isl with run := vset s.isl.run i.idx .fault } := by
  obtain ⟨life, cache, rails, time, -, run⟩ := unacknowledged_frame p index sub data s
  have islands : ((unacknowledged p index sub data s).setIsland i .fault).isl =
      { (unacknowledged p index sub data s).isl with run := vset s.isl.run i.idx .fault } := by
    unfold State.setIsland
    rw [run]
  unfold timedOut
  simp only [raise_frame, islands, and_true]
  exact ⟨life, cache, rails, time, rfl⟩

end

section
variable {p : Session} {index : BitVec 16} {sub : BitVec 8} {data : List Byte} {i : Island} {s : State}

/-- The answer of a write that is not acknowledged. -/
theorem timeoutWrite_replied (reaches : Reaches p s) : ∃ x m, Replied p index.toNat sub.toNat abIsland
    (timedOut p index.toNat sub.toNat data i (arrivedAs s x m))
    (fromSession p index sub data (timeoutWrite p index.toNat sub.toNat data i) s) := by
  have serves : ∃ x m, fromSession p index sub data (timeoutWrite p index.toNat sub.toNat data i) s =
      replyTo p (tagOf p s) index.toNat sub.toNat (timedOut p index.toNat sub.toNat data i (arrivedAs s x m), .abort abIsland) := by
    cases p with
    | usdo c =>
      obtain ⟨y, arrives⟩ := noteRequest_arrived (.usdo c) s s.mode.expertLast s.mbx
      have same : arrivedAs s s.mode.expertLast s.mbx = s := rfl
      rw [same] at arrives
      refine ⟨y, s.mbx, ?_⟩
      unfold fromSession
      dsimp only
      rw [usdoServe_reaches reaches]
      unfold noData timeoutWrite
      dsimp only
      rw [arrives]
      rfl
    | mailbox fn =>
      unfold fromSession
      dsimp only
      rw [mbxServe_reaches reaches]
      generalize mbxGoing fn _ _ _ _ _ _ _ s = m
      obtain ⟨y, arrives⟩ := noteRequest_arrived (.mailbox fn) s s.mode.expertLast m
      refine ⟨y, m, ?_⟩
      unfold noData timeoutWrite
      dsimp only
      rw [arrives]
      rfl
  obtain ⟨x, m, e⟩ := serves
  exact ⟨x, m, by rw [e]; exact replyTo_replied_abort _ _ _ _ _ (by decide)⟩

theorem island_of_timedOut {x : Nat} {m : Vector Mbx 16} {t : State}
    (r : Replied p index.toNat sub.toNat abIsland (timedOut p index.toNat sub.toNat data i (arrivedAs s x m)) t) : t.island i = .fault := by
  unfold State.island
  rw [r.isl, (timedOut_result ..).2.2.2.2.2]
  simp [vset]

/-- A write that the dictionary would take and its running island does not acknowledge. -/
theorem exec_handshakeTimeout (held : s.ownerOf index.toNat sub.toNat ≠ .control)
    (runs : s.island (s.ownerOf index.toNat sub.toNat) = .running) (taken : (dictWrite p index.toNat sub.toNat data s).2 = .ok)
    (reaches : Reaches p s) : ∃ x m t, Replied p index.toNat sub.toNat abIsland
      (timedOut p index.toNat sub.toNat data (s.ownerOf index.toNat sub.toNat) (arrivedAs s x m)) t ∧
      exec (.islandHandshakeTimeout p index sub data) s = .next (afterTimeout (s.ownerOf index.toNat sub.toNat) t) := by
  obtain ⟨x, m, r⟩ := timeoutWrite_replied (index := index) (sub := sub) (data := data) (i := s.ownerOf index.toNat sub.toNat) reaches
  refine ⟨x, m, _, r, ?_⟩
  have may : ¬(s.ownerOf index.toNat sub.toNat = .control ∨ s.island (s.ownerOf index.toNat sub.toNat) ≠ .running ∨
      (dictWrite p index.toNat sub.toNat data s).2 ≠ .ok) := by
    simp [held, runs, taken]
  exact (if_neg may).trans (congrArg Host.Outcome.next (if_pos (island_of_timedOut r)))

end

/-! ### The islands that a warm BOOT restarts -/

section
variable {i : Island} {s : State}

theorem afterTimeout_other (other : i ∉ [Island.supervisor, .host, .memory, .flash]) : afterTimeout i s = s := by
  have notBoot : byBoot i = false := by
    cases i <;> first | rfl | exact absurd (by decide) other
  exact if_pos notBoot

theorem startFirmware_fatalPath (s : State) : (startFirmware s).life.fatalPath = s.life.fatalPath := by
  unfold startFirmware
  dsimp only
  split
  · rfl
  · split
    · rfl
    · simp [keepPend]

theorem outageRestart_path (s : State) : (outageRestart s).life.dev = s.life.dev ∧ (outageRestart s).life.fatalPath = s.life.fatalPath := by
  by_cases runs : s.life.restarting = false
  · refine ⟨(outageRestart_result s runs).1, ?_⟩
    have begins : (bootBegins s).life.fatalPath = s.life.fatalPath := by rw [bootBegins_shut s |>.2]
    rw [outageRestart_eq s runs, startFirmware_fatalPath]
    unfold restartBegun
    dsimp only
    generalize bootBegins s = u at begins
    simp [begins]
  · have same : outageRestart s = s := if_pos (by simpa using runs)
    rw [same]
    exact ⟨rfl, rfl⟩

theorem restartByBoot_serve (dev : s.life.dev = .serve) : (restartByBoot i s).life.dev = .boot ∧
    (restartByBoot i s).life.boot = .warm .serve := by
  unfold restartByBoot
  rw [dev]
  dsimp only
  obtain ⟨boot, from_, -⟩ := warmBoot_result ((Config.openWord 31 0).toNat % 8) .timer (s.setIsland i .starting)
  have same : (s.setIsland i .starting).life.dev = .serve := dev
  exact ⟨boot, from_.trans (by rw [same])⟩

theorem restartByBoot_warn (dev : s.life.dev = .warn) : (restartByBoot i s).life.dev = .warn ∧
    (restartByBoot i s).life.fatalPath = s.life.fatalPath := by
  obtain ⟨stays, path⟩ := outageRestart_path (s.setIsland i .starting)
  have life (t : State) : (islandsRefresh t).life = t.life := by simp
  unfold restartByBoot
  rw [dev]
  dsimp only
  rw [life]
  exact ⟨stays.trans dev, path⟩

/-- The first timeout of an island in service, and the second within 10 min. -/
theorem afterTimeout_serve (boots : i ∈ [Island.supervisor, .host, .memory, .flash]) (dev : s.life.dev = .serve) :
    ((∀ e, s.isl.lastTimeout[i.idx] = some e → e + 600000000 ≤ s.time.now) →
      (afterTimeout i s).life.dev = .boot ∧ (afterTimeout i s).life.boot = .warm .serve) ∧
    ((∃ e, s.isl.lastTimeout[i.idx] = some e ∧ s.time.now < e + 600000000) →
      (afterTimeout i s).life.dev = .warn ∧ (afterTimeout i s).life.fatalPath = true) := by
  have isBoot : byBoot i = true := by
    simp only [List.mem_cons, List.not_mem_nil, or_false] at boots
    rcases boots with rfl | rfl | rfl | rfl <;> rfl
  have minutes : tenMinutes = 600000000 := rfl
  unfold afterTimeout
  rw [isBoot, if_neg (by decide)]
  dsimp only
  constructor
  · intro apart
    split
    · rename_i e last
      rw [if_neg (by have := apart e last; omega)]
      exact restartByBoot_serve dev
    · exact restartByBoot_serve dev
  · rintro ⟨e, last, soon⟩
    rw [last]
    dsimp only
    rw [if_pos (by omega)]
    have dev' : ({ s with isl := { s.isl with lastTimeout := vset s.isl.lastTimeout i.idx (some s.time.now) } } : State).life.dev = .serve := dev
    generalize ({ s with isl := { s.isl with lastTimeout := vset s.isl.lastTimeout i.idx (some s.time.now) } } : State) = u at dev'
    rw [fatalFault_service u (.inl dev')]
    obtain ⟨warn, path, -⟩ := enterWarn_result u true (pathCause u)
    obtain ⟨stays, keeps⟩ := restartByBoot_warn (i := i) warn
    exact ⟨stays, keeps.trans path⟩

end

/-! ### A command that is not acknowledged -/

theorem forceIdr_entry (n : Fin 16) : (rowOf (0x4040 + 0x100 * n.val) 0x0C).isSome = true := by
  revert n
  decide

theorem ownerOf_forceIdr (n : Fin 16) (s : State) : s.ownerOf (0x4040 + 0x100 * n.val) 0x0C = .pixel := by
  obtain ⟨r, found⟩ := Option.isSome_iff_exists.1 (forceIdr_entry n)
  unfold State.ownerOf
  rw [found]
  dsimp only
  unfold ownerIsland
  repeat rw [if_neg (by omega)]
  rw [if_pos (by omega)]

/-- A command that its island takes, and whose action takes it, is taken by the dictionary. -/
theorem dictWrite_done {p : Session} {index sub : Nat} {data : List Byte} {s : State} {f : State → State}
    (passes : Passes p index sub data s) (taken : takesCommand s index sub = true) (window : winOf index = none)
    (action : ∀ a u, actionOf p a index sub (ofLe data) u = some (done (f u))) : (dictWrite p index sub data s).2 = .ok := by
  obtain ⟨y, arrives⟩ := noteRequest_arrived p s s.mode.expertLast s.mbx
  have same : arrivedAs s s.mode.expertLast s.mbx = s := rfl
  rw [same] at arrives
  unfold dictWrite dictWriteA
  dsimp only
  rw [arrives, writeEntry_passes (passes_arrived y s.mbx passes) (.inl window),
    applyValue_action (s := arrivedAs s y s.mbx) window taken (action _ _)]
  rfl

end Sys2Proof.Machine
end

section
open Sys2Proof Sys2Proof.Machine

/-- Settles O5: CONTROL keeps what was written, the island is in fault, and what follows depends on whether a BOOT ends its fault. -/
theorem handshakeTimeouts : Obligations.HandshakeTimeouts := by
  unfold Obligations.HandshakeTimeouts
  refine ⟨?value, ?command, ?boots⟩
  case value =>
    intro p index sub data s accepts away runs taken plain
    simp only [List.mem_cons, List.not_mem_nil, or_false, not_or] at away
    obtain ⟨notControl, others⟩ := away
    obtain ⟨x, m, t, r, step⟩ := exec_handshakeTimeout notControl runs taken accepts.1
    rw [afterTimeout_other (by simpa using others)] at step
    obtain ⟨life, cache, rails, -, dict, isl⟩ := timedOut_result p index.toNat sub.toNat data (s.ownerOf index.toNat sub.toNat) (arrivedAs s x m)
    have kept : unacknowledged p index.toNat sub.toNat data (arrivedAs s x m) =
        ((arrivedAs s x m).keepUndelivered index.toNat sub.toNat).setHeld index.toNat sub.toNat
          (valueHeld index.toNat sub.toNat (ofLe data)) := by
      unfold unacknowledged
      rw [actionOf_absent _ (plain true), if_neg (by decide)]
    have values : (unacknowledged p index.toNat sub.toNat data (arrivedAs s x m)).dict.values =
        putValue s.dict.values index.toNat sub.toNat (valueHeld index.toNat sub.toNat (ofLe data)) := by
      rw [kept]
      unfold State.keepUndelivered
      split <;> rfl
    refine ⟨t, step, island_of_timedOut r, r.answered, ?_, fun delivered => ?_, r.life.trans life, r.cache.trans cache, r.rails.trans rails⟩
    · obtain ⟨a, b, frame⟩ : ∃ a b, t.dict = { (timedOut p index.toNat sub.toNat data (s.ownerOf index.toNat sub.toNat)
          (arrivedAs s x m)).dict with refusedMbx := a, refusedUsdo := b } := by
        have frame := r.frame
        rw [if_neg (by decide)] at frame
        obtain ⟨a, b, frame⟩ := frame
        exact ⟨a, b, (congrArg State.dict frame :)⟩
      rw [frame]
      exact (congrArg Dict.values dict).trans values
    · rw [r.isl, isl]
      dsimp only
      rw [kept]
      unfold State.keepUndelivered
      have none : mapFind (arrivedAs s x m).isl.undelivered (key index.toNat sub.toNat) = none := delivered
      rw [none]
      rfl
  case command =>
    intro p n s
    dsimp only
    intro accepts runs
    have index : (BitVec.ofNat 16 (0x4040 + 0x100 * n.val)).toNat = 0x4040 + 0x100 * n.val := by
      rw [BitVec.toNat_ofNat, Nat.mod_eq_of_lt (by omega)]
    rw [index] at accepts ⊢
    have owner := ownerOf_forceIdr n s
    have takes : takesCommand s (0x4040 + 0x100 * n.val) 0x0C = true := by
      unfold takesCommand
      rw [owner, runs]
    have taken : (dictWrite p (0x4040 + 0x100 * n.val) 0x0C [1] s).2 = .ok :=
      dictWrite_done accepts.2 takes (if_neg (by omega)) fun a u => actionOf_forceIdr n
    have step := exec_handshakeTimeout (p := p) (index := BitVec.ofNat 16 (0x4040 + 0x100 * n.val)) (sub := 0x0C) (data := [1]) (s := s)
    rw [index] at step
    have owner' : s.ownerOf (0x4040 + 0x100 * n.val) (BitVec.toNat (0x0C : BitVec 8)) = .pixel := owner
    rw [owner'] at step
    obtain ⟨x, m, t, r, step⟩ := step (by decide) runs taken accepts.1
    rw [afterTimeout_other (by decide)] at step
    have replied : Replied p (0x4040 + 0x100 * n.val) 0x0C abIsland (timedOut p (0x4040 + 0x100 * n.val) 0x0C [1] .pixel (arrivedAs s x m)) t := r
    obtain ⟨life, cache, rails, -, dict, isl⟩ := timedOut_result p (0x4040 + 0x100 * n.val) 0x0C [1] .pixel (arrivedAs s x m)
    have kept : unacknowledged p (0x4040 + 0x100 * n.val) 0x0C [1] (arrivedAs s x m) =
        (arrivedAs s x m).storeCommand (0x4040 + 0x100 * n.val) 0x0C 1 := by
      unfold unacknowledged
      rw [actionOf_forceIdr]
      rfl
    rw [kept] at dict isl
    refine ⟨t, step, ?_, replied.answered, ?_, ?_, replied.life.trans life, replied.cache.trans cache, replied.rails.trans rails⟩
    · unfold State.island
      rw [replied.isl, isl]
      simp [vset]
    · have frame := replied.frame
      rw [if_neg (by decide)] at frame
      obtain ⟨a, b, frame⟩ := frame
      have values : t.dict.values = (timedOut p (0x4040 + 0x100 * n.val) 0x0C [1] .pixel (arrivedAs s x m)).dict.values :=
        (congrArg (fun u => u.dict.values) frame :)
      rw [values, dict]
      rfl
    · rw [replied.isl, isl]
      rfl
  case boots =>
    intro p index sub data s accepts boots runs taken dev
    have notControl : s.ownerOf index.toNat sub.toNat ≠ .control := by
      intro e
      rw [e] at boots
      exact absurd boots (by decide)
    obtain ⟨x, m, t, r, step⟩ := exec_handshakeTimeout notControl runs taken accepts.1
    obtain ⟨life, -, -, time, -, isl⟩ := timedOut_result p index.toNat sub.toNat data (s.ownerOf index.toNat sub.toNat) (arrivedAs s x m)
    have last : t.isl.lastTimeout = s.isl.lastTimeout := by
      rw [r.isl, isl]
      exact (unacknowledged_frame ..).2.2.2.2.1
    have now : t.time = s.time := r.time.trans time
    obtain ⟨apart, soon⟩ := afterTimeout_serve (s := t) boots ((congrArg Life.dev (r.life.trans life)).trans dev)
    rw [last, now] at apart soon
    exact ⟨_, step, apart, soon⟩
end

section
/-! Dies that are written on, retire, or have a block that fails. -/

namespace Sys2Proof.Machine


/-! ### Dies while a copy is written -/

@[simp] theorem modDie_die (d e : Fin 16) (f : Die → Die) (s : State) :
    (s.modDie d f).flash.die[e] = if e = d then f s.flash.die[d] else s.flash.die[e] := by
  simp only [State.modDie, Fin.getElem_fin, vmod_getElem]
  by_cases same : e = d
  · simp [same]
  · rw [if_neg same, if_neg fun h => same (Fin.ext h.symm)]

theorem blockOfDie_set {x v : Die} {b : Nat} {u : BlockUse × Nat} (table : v.table = mapSet x.table b u) (c : Nat) :
    blockOfDie v c = if c = b then u else blockOfDie x c := by
  unfold blockOfDie
  rw [table, mapFind_mapSet]
  split <;> rfl

/-- A die that has only been written on: which blocks it uses and where it writes next differ, and its bad blocks that it was not
writing are still bad, and it is not writing them. -/
structure Written (x y : Die) : Prop where
  same : y = { x with table := y.table, cur := y.cur, nextPage := y.nextPage }
  bad : ∀ b, (blockOfDie x b).1 = .bad → x.cur ≠ some b → (blockOfDie y b).1 = .bad ∧ y.cur ≠ some b

theorem Written.refl (x : Die) : Written x x := ⟨rfl, fun _ bad away => ⟨bad, away⟩⟩

theorem Written.trans {x y z : Die} (h : Written x y) (k : Written y z) : Written x z where
  same := by rw [k.same, h.same]
  bad b bad away := (h.bad b bad away).elim (k.bad b)

/-- A block is picked among the erased ones. -/
theorem pickBlock_erased {d : Die} {b : Nat} (picked : pickBlock d = some b) : (blockOfDie d b).1 = .erased := by
  have all : ∀ c, pickBlock d = some c → (blockOfDie d c).1 = .erased := by
    unfold pickBlock
    refine List.foldlRecOn (motive := fun a => ∀ c, a = some c → (blockOfDie d c).1 = .erased) _ _ (by simp) fun a holds c _ => ?_
    split
    · rename_i erased
      split
      · simpa using erased
      · split
        · simpa using erased
        · exact holds
    · exact holds
  exact all b picked

theorem used_written {d : Die} {b : Nat} (page : Nat) (picked : pickBlock d = some b) :
    Written d { useBlock .used b d with cur := some b, nextPage := page } where
  same := rfl
  bad c bad _ := by
    have other : c ≠ b := fun h => by
      rw [h, pickBlock_erased picked] at bad
      exact absurd bad (by decide)
    rw [blockOfDie_set (x := d) (b := b) rfl, if_neg other]
    exact ⟨bad, fun h => other (Option.some.inj h).symm⟩

theorem nextPage_written (d : Die) : Written d (nextPage d) := by
  unfold nextPage
  split
  · split
    · exact ⟨rfl, fun _ bad away => ⟨bad, away⟩⟩
    · split
      · rename_i picked
        exact used_written 1 picked
      · exact ⟨rfl, fun _ bad _ => ⟨bad, by simp⟩⟩
  · split
    · rename_i picked
      exact used_written 1 picked
    · exact .refl d

theorem takeStripe_written (x : Flash) (d : Fin 16) : Written x.die[d] (takeStripe x).die[d] := by
  have walk (dies : List (Fin 16)) :
      Written x.die[d] (dies.foldl (fun (x : Flash) d => { x with die := vmod x.die d nextPage }) x).die[d] := by
    refine List.foldlRecOn (motive := fun (y : Flash) => Written x.die[d] y.die[d]) dies _ (.refl _) fun y hy e _ => ?_
    simp only [Fin.getElem_fin, vmod_getElem]
    split
    · rename_i here
      obtain rfl : e = d := Fin.ext here
      exact hy.trans (nextPage_written _)
    · exact hy
  exact walk _

/-- A state whose dies have only been written on. -/
def DiesWritten (s t : State) : Prop := ∀ d : Fin 16, Written s.flash.die[d] t.flash.die[d]

theorem DiesWritten.refl (s : State) : DiesWritten s s := fun _ => .refl _

theorem DiesWritten.trans {s t u : State} (h : DiesWritten s t) (k : DiesWritten t u) : DiesWritten s u := fun d => (h d).trans (k d)

theorem DiesWritten.of_die {s t : State} (same : t.flash.die = s.flash.die) : DiesWritten s t := fun d => by
  rw [same]
  exact .refl _

theorem openEpoch_die (byPre : Bool) (s : State) : (openEpoch byPre s).flash.die = s.flash.die := by
  unfold openEpoch
  dsimp only
  split <;> rfl

theorem allocStripe_written (s : State) : DiesWritten s (allocStripe s) := by
  have opened : DiesWritten s (if needsFifth s.flash then openEpoch false s else s) := by
    split
    · exact .of_die (openEpoch_die ..)
    · exact .refl s
  refine opened.trans fun d => ?_
  unfold allocStripe
  simp only [raiseIf_frame]
  exact takeStripe_written _ d

theorem makeRoom_written (s : State) : DiesWritten s (makeRoom s) := by
  unfold makeRoom
  split
  · exact allocStripe_written s
  · exact .refl s

theorem pushCopy_written (c : Copy) (s : State) : DiesWritten s (pushCopy c s) := .of_die (by
  unfold pushCopy
  dsimp only
  split <;> simp [onOpen])

theorem rewriteCopy_written (number i : Nat) (c : Copy) (s : State) : DiesWritten s (rewriteCopy number i c s) := by
  unfold rewriteCopy
  dsimp only
  split
  · exact .refl s
  · have killed : DiesWritten s (killCopy number i s) := .of_die rfl
    split
    · exact ((killed.trans (makeRoom_written _)).trans (pushCopy_written _ _)).trans (.of_die rfl)
    · exact killed.trans (.of_die rfl)

theorem relocatePage_written (d : Fin 16) (s : State) : DiesWritten s (relocatePage d s) := by
  unfold relocatePage
  split
  · exact .refl s
  · refine List.foldlRecOn (motive := DiesWritten s) _ _ (.refl s) fun t ht i _ => ht.trans ?_
    unfold rewriteAt
    split
    · exact rewriteCopy_written _ _ _ _
    · exact .refl t

theorem raise_flash (s : State) (ev : Nat) (i : EvIsland) (vs : List (Nat × Nat)) : (raise s ev i vs).flash = s.flash := by simp

/-- The state in which a die is retired, before its page that is not full is written elsewhere. -/
def retired (d : Fin 16) (cause : Nat) (s : State) : State :=
  raise (s.modDie d (fun x => { x with state := .retired, cause := cause, retiredInTable := true, cur := none, nextPage := 0 }))
    (576 + d.val) .flash [(1, cause)]

theorem retired_die (d : Fin 16) (cause : Nat) (s : State) : (retired d cause s).flash.die[d] =
    { s.flash.die[d] with state := .retired, cause := cause, retiredInTable := true, cur := none, nextPage := 0 } := by
  unfold retired
  rw [raise_flash, modDie_die, if_pos rfl]

theorem retireDie_eq (d : Fin 16) (cause : Nat) (s : State) : retireDie d cause s = relocatePage d (retired d cause s) := rfl

/-- A die that is retired is retired for the cause, also in the block table. -/
theorem retireDie_die (d : Fin 16) (cause : Nat) (s : State) : (retireDie d cause s).flash.die[d].state = .retired ∧
    (retireDie d cause s).flash.die[d].cause = cause ∧ (retireDie d cause s).flash.die[d].retiredInTable = true := by
  have same := (relocatePage_written d (retired d cause s) d).same
  rw [retired_die] at same
  rw [retireDie_eq, same]
  exact ⟨rfl, rfl, rfl⟩

/-- Retiring a die leaves its bad blocks bad. -/
theorem retireDie_bad {d : Fin 16} {b : Nat} (cause : Nat) {s : State} (bad : (blockOfDie s.flash.die[d] b).1 = .bad) :
    (blockOfDie (retireDie d cause s).flash.die[d] b).1 = .bad ∧ (retireDie d cause s).flash.die[d].cur ≠ some b :=
  (relocatePage_written d (retired d cause s) d).bad b (by rw [retired_die]; exact bad) (by rw [retired_die]; simp)

/-- The state in which a block has been found bad, before its die may have to be retired. -/
def marked (d : Fin 16) (b : Nat) (s : State) : State :=
  raise (s.modDie d (fun x => { useBlock .bad b x with cur := if x.cur = some b then none else x.cur })) 524 .flash
    [(1, d.val), (2, b)]

theorem marked_die (d : Fin 16) (b : Nat) (s : State) : (marked d b s).flash.die[d] =
    { useBlock .bad b s.flash.die[d] with cur := if s.flash.die[d].cur = some b then none else s.flash.die[d].cur } := by
  unfold marked
  rw [raise_flash, modDie_die, if_pos rfl]

theorem markBad_eq (d : Fin 16) (b : Nat) (s : State) : markBad d b s =
    if (marked d b s).flash.die[d].state = .active ∧ badBeyond (marked d b s) (marked d b s).flash.die[d] then
      retireDie d 2 (marked d b s) else marked d b s := rfl

/-- A block that fails is bad, and its die writes another one. -/
theorem markBad_bad (d : Fin 16) (b : Nat) (s : State) :
    (blockOfDie (markBad d b s).flash.die[d] b).1 = .bad ∧ (markBad d b s).flash.die[d].cur ≠ some b := by
  have bad : (blockOfDie (marked d b s).flash.die[d] b).1 = .bad := by
    rw [marked_die, blockOfDie_set (x := s.flash.die[d]) (b := b) (u := (.bad, (blockOfDie s.flash.die[d] b).2)) rfl, if_pos rfl]
  rw [markBad_eq]
  split
  · exact retireDie_bad 2 bad
  · refine ⟨bad, ?_⟩
    rw [marked_die]
    dsimp only
    split
    · simp
    · assumption

/-! ### What is told of the dies stays told -/

section
variable {held : Bool} {g : Events}

@[simp] theorem openEpoch_grows (byPre : Bool) (s : State) (h : Grows held g s.ev) : Grows held g (openEpoch byPre s).ev := by
  unfold openEpoch
  dsimp only
  (repeat' split) <;> simp (maxDischargeDepth := 20) [h]

@[simp] theorem allocStripe_grows (s : State) (h : Grows held g s.ev) : Grows held g (allocStripe s).ev := by
  unfold allocStripe
  dsimp only
  (repeat' split) <;> simp (maxDischargeDepth := 20) [h]

@[simp] theorem makeRoom_grows (s : State) (h : Grows held g s.ev) : Grows held g (makeRoom s).ev := by
  unfold makeRoom
  (repeat' split) <;> simp (maxDischargeDepth := 20) [h]

@[simp] theorem rewriteCopy_grows (number i : Nat) (c : Copy) (s : State) (h : Grows held g s.ev) : Grows held g (rewriteCopy
    number i c s).ev := by
  unfold rewriteCopy
  dsimp only
  (repeat' split) <;> simp (maxDischargeDepth := 20) [h]

@[simp] theorem rewriteAt_grows (e : Epoch) (i : Nat) (s : State) (h : Grows held g s.ev) : Grows held g (rewriteAt e i s).ev
    := by
  unfold rewriteAt
  (repeat' split) <;> simp (maxDischargeDepth := 20) [h]

@[simp] theorem relocatePage_grows (d : Fin 16) (s : State) (h : Grows held g s.ev) : Grows held g (relocatePage d s).ev := by
  unfold relocatePage
  (repeat' split) <;> simp +contextual (maxDischargeDepth := 20) [h]

@[simp] theorem releaseImage_grows (s : State) (h : Grows held g s.ev) : Grows held g (releaseImage s).ev := by
  unfold releaseImage
  dsimp only
  simp (maxDischargeDepth := 20) [h]

@[simp] theorem retireDie_grows (d : Fin 16) (cause : Nat) (s : State) (h : Grows held g s.ev) : Grows held g (retireDie d
    cause s).ev := by
  unfold retireDie
  simp (maxDischargeDepth := 20) [h]

@[simp] theorem markBad_grows (d : Fin 16) (b : Nat) (s : State) (h : Grows held g s.ev) : Grows held g (markBad d b s).ev :=
    by
  unfold markBad
  dsimp only
  (repeat' split) <;> simp (maxDischargeDepth := 20) [h]

@[simp] theorem noteRebuild_grows (d : Fin 16) (s : State) (h : Grows held g s.ev) : Grows held g (noteRebuild d s).ev := by
  unfold noteRebuild
  dsimp only
  (repeat' split) <;> simp (maxDischargeDepth := 20) [h]

end

theorem retireDie_told (d : Fin 16) (cause : Nat) (s : State) : Told (576 + d.val) s (retireDie d cause s) :=
  Told.grows (t := retired d cause s) ((raise_told ..).of rfl rfl rfl) (relocatePage_grows _ _ (.refl _))

theorem markBad_told (d : Fin 16) (b : Nat) (s : State) : Told 524 s (markBad d b s) := by
  have told : Told 524 s (marked d b s) := (raise_told ..).of rfl rfl rfl
  rw [markBad_eq]
  split
  · exact told.grows (retireDie_grows _ _ _ (.refl _))
  · exact told

end Sys2Proof.Machine
end

section
/-! Requests to the dies, and the sanitize (O8). -/

namespace Sys2Proof.Machine


/-! ### Requests to the dies -/

section
variable {p : Session} {a : Bool} {v : Nat} {s : State}

theorem actionOf_die (d : Fin 16) : actionOf p a (0x2910 + d.val) 2 v s =
    some (if v = 1 then retireCommand d s else returnCommand d a s) := by
  have away : 0x2910 + d.val ∉ actionIndices := by
    simp only [actionIndices, List.mem_cons, List.not_mem_nil, or_false]
    omega
  have die : Fin.ofNat 16 (0x2910 + d.val - 0x2910) = d := Fin.ext (by simp)
  unfold actionOf rangedAction
  rw [globalAction_none away, if_neg (by omega), if_neg (by omega), if_pos (by omega)]
  dsimp only
  rw [die]

theorem retireCommand_active {d : Fin 16} (active : s.flash.die[d].state = .active) : retireCommand d s = (retireDie d 5 s, .ok) := by
  unfold retireCommand
  rw [active]

theorem retireCommand_refused {d : Fin 16} (idle : s.flash.die[d].state ∉ [DieRun.active, .probation]) :
    retireCommand d s = (s, .abort abState) := by
  unfold retireCommand
  split
  · rename_i active; exact absurd (by rw [active]; decide) idle
  · rename_i probation; exact absurd (by rw [probation]; decide) idle
  · rfl

/-- A die returns to its probation. -/
def onProbation (d : Fin 16) (s : State) : State :=
  raise ((flashDo d .readStatusEnhanced s).modDie d (fun x => { x with state := .probation, verified := 0 })) (592 + d.val) .flash []

theorem returnCommand_ok {d : Fin 16} (retired : s.flash.die[d].state = .retired) (serve : s.life.dev = .serve) :
    returnCommand d true s = (onProbation d s, .ok) := if_pos ⟨retired, serve⟩

/-- A retired die is asked whether it answers, in SERVE. -/
def askDie (d : Fin 16) (s : State) : State :=
  if s.flash.die[d].state = .retired ∧ s.life.dev = .serve then flashDo d .readStatusEnhanced s else s

theorem returnCommand_refused {d : Fin 16} (not : s.flash.die[d].state ≠ .retired ∨ s.life.dev ≠ .serve ∨ a = false) :
    returnCommand d a s = (askDie d s, .abort abState) := by
  unfold returnCommand askDie
  dsimp only
  split
  · rename_i here
    rcases not with h | h | h
    · exact absurd here.1 h
    · exact absurd here.2 h
    · rw [h]; rfl
  · rfl

end

/-! ### A request that says itself whether the die answers -/

section
variable {p : Session} {i : Nat} {sub : BitVec 8} {data : List Byte} {s : State} {a : Bool} {f : State → State × Answer}

/-- A write that passes the checks reaches its entry's action, and its answer the session. -/
theorem fromSession_reaches (small : i < 65536) (accepts : Accepts p i sub.toNat data s) (window : winOf i = none) :
    ∃ x m, fromSession p (BitVec.ofNat 16 i) sub data (dictWriteA p a i sub.toNat data) s =
      replyTo p (tagOf p s) i sub.toNat (applyValue p a i sub.toNat (ofLe data) (arrivedAs s x m)) := by
  have index : (BitVec.ofNat 16 i).toNat = i := by rw [BitVec.toNat_ofNat, Nat.mod_eq_of_lt small]
  obtain ⟨reaches, passes⟩ := accepts
  cases p with
  | usdo c =>
    obtain ⟨y, arrives⟩ := noteRequest_arrived (.usdo c) s s.mode.expertLast s.mbx
    refine ⟨y, s.mbx, ?_⟩
    have same : arrivedAs s s.mode.expertLast s.mbx = s := rfl
    rw [same] at arrives
    unfold fromSession usdoServe dictWriteA noData replyTo answerTo
    simp only [reaches.1, reaches.2, Bool.true_eq_false, Bool.false_eq_true, if_false, arrives, index,
      writeEntry_passes (passes_arrived y s.mbx passes) (.inl window)]
  | mailbox fn =>
    unfold fromSession mbxServe dictWriteA noData replyTo answerTo tagOf
    simp only [reaches.1, reaches.2.1, reaches.2.2, Bool.true_eq_false, Bool.false_eq_true, if_false]
    generalize going : (State.modMbx s fn _) = t
    have arrived : t = arrivedAs s s.mode.expertLast t.mbx := by rw [← going]; rfl
    obtain ⟨y, arrives⟩ := noteRequest_arrived (.mailbox fn) s s.mode.expertLast t.mbx
    rw [← arrived] at arrives
    exact ⟨y, t.mbx, by rw [arrives, writeEntry_passes (passes_arrived y t.mbx passes) (.inl window)]⟩

theorem fromSession_ok {g : State → State} (small : i < 65536) (commands : Commands p i sub.toNat data s) (window : winOf i = none)
    (action : ∀ u, actionOf p a i sub.toNat (ofLe data) u = some (f u))
    (does : ∀ x m, f (arrivedAs s x m) = (g (arrivedAs s x m), .ok)) :
    ∃ x m, Replied p i sub.toNat 0 (g (arrivedAs s x m))
      (fromSession p (BitVec.ofNat 16 i) sub data (dictWriteA p a i sub.toNat data) s) := by
  obtain ⟨accepts, taken⟩ := commands
  obtain ⟨x, m, e⟩ := fromSession_reaches (a := a) small accepts window
  have here : applyValue p a i sub.toNat (ofLe data) (arrivedAs s x m) = f (arrivedAs s x m) :=
    applyValue_action window taken (action _)
  exact ⟨x, m, by rw [e, here, does]; exact replyTo_replied_ok ..⟩

theorem fromSession_refused {g : State → State} {code : Nat} (small : i < 65536) (accepts : Accepts p i sub.toNat data s)
    (window : winOf i = none) (action : ∀ u, actionOf p a i sub.toNat (ofLe data) u = some (f u)) (nonzero : code ≠ 0)
    (does : ∀ x m, f (arrivedAs s x m) = (g (arrivedAs s x m), .abort code)) :
    ∃ x m, Replied p i sub.toNat code (g (arrivedAs s x m))
      (fromSession p (BitVec.ofNat 16 i) sub data (dictWriteA p a i sub.toNat data) s) := by
  obtain ⟨x, m, e⟩ := fromSession_reaches (a := a) small accepts window
  have here : applyValue p a i sub.toNat (ofLe data) (arrivedAs s x m) = (g (arrivedAs s x m), .abort code) := by
    unfold applyValue
    rw [window, action, does]
    dsimp only
    split <;> rfl
  exact ⟨x, m, by rw [e, here]; exact replyTo_replied_abort _ _ _ _ _ nonzero⟩

end

/-! ### The sanitize -/

section
variable {s t : State} {keys : Bool}

theorem sanitizeTenant_slots (keys : Bool) (n : Fin 16) (s : State) :
    (sanitizeTenant keys n s).cache.slots = s.cache.slots.filter (fun q => q.2.tenant != n) := by
  have filtered : (eraseSlots s.cache (fun q => q.tenant == n)).slots = s.cache.slots.filter (fun q => q.2.tenant != n) := by
    unfold eraseSlots freeHandles
    rfl
  cases keys <;> exact filtered

/-- The slots of the tenants that a sanitize names go. -/
def sanitizeNamed (keys : Bool) (v : Nat) (s : State) : State :=
  forAll 16 (fun t n => if v = 0xFF ∨ v = n.val then sanitizeTenant keys n t else t) s

theorem sanitizeNamed_slots {v : Nat} {q : Nat × Slot} (left : q ∈ (sanitizeNamed keys v s).cache.slots) :
    v ≠ 0xFF ∧ v ≠ q.2.tenant.val := by
  have walk (l : List (Fin 16)) (s : State)
      (left : q ∈ (l.foldl (fun t n => if v = 0xFF ∨ v = n.val then sanitizeTenant keys n t else t) s).cache.slots) :
      q ∈ s.cache.slots ∧ ∀ n ∈ l, v = 0xFF ∨ v = n.val → q.2.tenant ≠ n := by
    induction l generalizing s with
    | nil => exact ⟨left, by simp⟩
    | cons n l ih =>
      obtain ⟨mem, others⟩ := ih _ left
      dsimp only at mem
      split at mem
      · rw [sanitizeTenant_slots, List.mem_filter] at mem
        refine ⟨mem.1, fun m hm named => ?_⟩
        rcases List.mem_cons.1 hm with rfl | hm
        · simpa using mem.2
        · exact others m hm named
      · rename_i spared
        refine ⟨mem, fun m hm named => ?_⟩
        rcases List.mem_cons.1 hm with rfl | hm
        · exact absurd named spared
        · exact others m hm named
  have gone := (walk (List.finRange 16) s left).2 q.2.tenant (List.mem_finRange _)
  exact ⟨fun all => gone (.inl all) rfl, fun its => gone (.inr its) rfl⟩

/-- Every slot is one of the tenant's that held it before. -/
def TenantsKept (s t : State) : Prop := ∀ q ∈ t.cache.slots, ∃ r ∈ s.cache.slots, r.2.tenant = q.2.tenant

theorem TenantsKept.of_mapVals {f : Nat → Slot → Slot} (same : ∀ k q, (f k q).tenant = q.tenant)
    (slots : t.cache.slots = mapVals f s.cache.slots) : TenantsKept s t := by
  intro q mem
  rw [slots] at mem
  obtain ⟨r, hr, rfl⟩ := List.mem_map.1 mem
  exact ⟨r, hr, (same ..).symm⟩

theorem TenantsKept.of_slots (slots : t.cache.slots = s.cache.slots) : TenantsKept s t :=
  fun q mem => ⟨q, slots ▸ mem, rfl⟩

theorem TenantsKept.trans {u : State} (h : TenantsKept s t) (k : TenantsKept t u) : TenantsKept s u := by
  intro q mem
  obtain ⟨r, hr, same⟩ := k q mem
  obtain ⟨r', hr', same'⟩ := h r hr
  exact ⟨r', hr', same'.trans same⟩

theorem cancelEpoch_tenants (s : State) : TenantsKept s (cancelEpoch s) := by
  unfold cancelEpoch
  split
  · exact .of_slots rfl
  · intro q mem
    obtain ⟨r, old, rfl⟩ := List.mem_map.1 mem
    refine ⟨r, old, ?_⟩
    dsimp only
    split <;> rfl

theorem releaseImage_slots (s : State) : (releaseImage s).cache = clearCopyValid s.cache := by
  unfold releaseImage
  simp

theorem releaseImage_tenants (s : State) : TenantsKept s (releaseImage s) :=
  .of_mapVals (f := fun _ q => { q with copyValid := false }) (fun _ _ => rfl) (congrArg Cache.slots (releaseImage_slots s))

/-- What a sanitize leaves to the flash: the keys are gone, or the image with its copies. -/
def sanitizeImage (keys : Bool) (s : State) : State :=
  stageRefresh (if keys then s else releaseImage (if s.flash.open_.isEmpty then s else cancelEpoch s))

theorem sanitizeImage_tenants (s : State) : TenantsKept s (sanitizeImage keys s) := by
  have staged (u : State) : TenantsKept u (stageRefresh u) := .of_slots (by simp)
  refine TenantsKept.trans ?_ (staged _)
  cases keys
  · refine TenantsKept.trans ?_ (releaseImage_tenants _)
    split
    · exact .of_slots rfl
    · exact cancelEpoch_tenants s
  · exact .of_slots rfl

/-- A sanitize as it begins. -/
def sanitizing (v : Nat) (s : State) : State :=
  let s3 := sanitizeImage (s.cfg 0x2020 6 == 1) (sanitizeNamed (s.cfg 0x2020 6 == 1) v (raise s 522 .control []))
  { s3 with flash := { s3.flash with sanitizeState := 1, sanitizeKeys := s.cfg 0x2020 6 == 1 } }

theorem startSanitize_ok {v : Nat} (serve : s.life.dev = .serve) : startSanitize v s = (sanitizing v s, .ok) := by
  have may : ¬sanitizeOk s = false := by simp [sanitizeOk, serve]
  exact if_neg may

theorem startSanitize_refused {v : Nat} (away : s.life.dev ≠ .serve) (not : s.life.dev ≠ .restore ∨ s.cfg 0x2020 6 ≠ 1) :
    startSanitize v s = (s, .abort abState) := by
  refine if_pos ?_
  unfold sanitizeOk
  rcases not with h | h <;> simp [away, h]

theorem sanitizeNamed_frame (keys : Bool) (v : Nat) (s : State) : (sanitizeNamed keys v s).life = s.life ∧
    (sanitizeNamed keys v s).rails = s.rails ∧ (sanitizeNamed keys v s).dict = s.dict ∧ (sanitizeNamed keys v s).ev = s.ev := by
  refine List.foldlRecOn (motive := fun t : State => t.life = s.life ∧ t.rails = s.rails ∧ t.dict = s.dict ∧ t.ev = s.ev) _ _
    ⟨rfl, rfl, rfl, rfl⟩ fun t ht n _ => ?_
  split
  · simpa using ht
  · exact ht

theorem sanitizeImage_frame (keys : Bool) (s : State) : (sanitizeImage keys s).life = s.life ∧
    (sanitizeImage keys s).rails = s.rails ∧ (sanitizeImage keys s).dict = s.dict := by
  unfold sanitizeImage
  cases keys
  · simp only [stageRefresh_frame, Bool.false_eq_true, if_false, releaseImage_frame]
    split <;> simp
  · simp

theorem sanitizeImage_grows (keys : Bool) (s : State) : Grows true s.ev (sanitizeImage keys s).ev := by
  unfold sanitizeImage
  refine stageRefresh_grows _ ?_
  cases keys
  · refine releaseImage_grows _ ?_
    split <;> simp
  · exact .refl _

theorem sanitizing_result (v : Nat) (s : State) : (sanitizing v s).life = s.life ∧ (sanitizing v s).rails = s.rails ∧
    (sanitizing v s).dict = s.dict ∧ Told 522 s (sanitizing v s) := by
  obtain ⟨life, rails, dict⟩ := sanitizeImage_frame (s.cfg 0x2020 6 == 1) (sanitizeNamed (s.cfg 0x2020 6 == 1) v (raise s 522 .control []))
  obtain ⟨life', rails', dict', ev⟩ := sanitizeNamed_frame (s.cfg 0x2020 6 == 1) v (raise s 522 .control [])
  have told := ((raise_told s 522 .control []).ev_eq ev).grows (sanitizeImage_grows (s.cfg 0x2020 6 == 1) _)
  exact ⟨(life.trans life').trans (by simp), (rails.trans rails').trans (by simp), (dict.trans dict').trans (by simp), told.ev_eq rfl⟩

end

end Sys2Proof.Machine
end

section
open Sys2Proof Sys2Proof.Machine

/-- Settles O8: a release is wanted, a die retires or returns, and a sanitize runs, in the state that allows it. -/
theorem flashAndSanitizeRequests : Obligations.FlashAndSanitizeRequests := by
  unfold Obligations.FlashAndSanitizeRequests
  refine ⟨?release, ?retire, ?retireNot, ?returns, ?returnsNot, ?sanitize, ?sanitizeNot⟩
  case release =>
    intro p s commands
    obtain ⟨x, m, r⟩ := put_ok (i := 0x2901) (sub := 0x0A) (f := fun u => done (reqRelease u)) (g := reqRelease) (by decide) commands rfl
      (fun a u => rfl) (fun x m => rfl)
    refine ⟨_, rfl, r.answered, r.withRequest ?_⟩
    exact withRequest_of_port rfl rfl
  case retire =>
    intro p d s commands active
    obtain ⟨x, m, r⟩ := put_ok (sub := 2) (f := retireCommand d) (g := retireDie d 5) (by omega) commands (if_neg (by omega))
      (fun a u => actionOf_die d) (fun x m => retireCommand_active (s := arrivedAs s x m) active)
    obtain ⟨state, cause, table⟩ := retireDie_die d 5 (arrivedAs s x m)
    have flash := congrArg (fun y : Flash => y.die[d]) r.flash
    refine ⟨_, rfl, r.answered, r.told ((retireDie_told d 5 (arrivedAs s x m)).of rfl rfl rfl), ?_, ?_, ?_, ?_, ?_, ?_⟩
    · exact (congrArg Die.state flash).trans state
    · exact (congrArg Die.cause flash).trans cause
    · exact (congrArg Die.retiredInTable flash).trans table
    · exact r.life.trans (by simp; rfl)
    · exact r.rails.trans (by simp; rfl)
    · exact r.dict.trans (by simp; rfl)
  case retireNot =>
    intro p d s accepts idle
    obtain ⟨x, m, r⟩ := put_refused (sub := 2) (code := abState) (f := retireCommand d) (g := fun u => u) (by omega) accepts
      (if_neg (by omega)) (fun a u => actionOf_die d) (by decide) (fun x m => retireCommand_refused (s := arrivedAs s x m) idle)
    exact ⟨_, rfl, r.answered, r.refusal (by decide) (arrived_withRequest ..)⟩
  case returns =>
    intro p d s commands retired serve
    obtain ⟨x, m, r⟩ := fromSession_ok (sub := 2) (a := true) (f := returnCommand d true) (g := onProbation d) (by omega) commands
      (if_neg (by omega)) (fun u => actionOf_die d) (fun x m => returnCommand_ok (s := arrivedAs s x m) retired serve)
    have die (e : Fin 16) : (onProbation d (arrivedAs s x m)).flash.die[e] =
        if e = d then { s.flash.die[d] with state := .probation, verified := 0 } else s.flash.die[e] := by
      unfold onProbation
      rw [raise_flash, modDie_die]
      rfl
    have flash (e : Fin 16) := (congrArg (fun y : Flash => y.die[e]) r.flash).trans (die e)
    refine ⟨_, rfl, r.answered, r.told ((raise_told ..).of rfl rfl rfl), ?_, ?_, fun e other => ?_, ?_⟩
    · exact (congrArg Die.state (flash d)).trans (by rw [if_pos rfl])
    · exact (congrArg Die.verified (flash d)).trans (by rw [if_pos rfl])
    · exact (flash e).trans (if_neg other)
    · have dies : (fromSession p (BitVec.ofNat 16 (0x2910 + d.val)) 2 [2] (dictWriteA p true (0x2910 + d.val) 2 [2]) s).flash.die =
          ((flashDo d .readStatusEnhanced (arrivedAs s x m)).modDie d
          (fun x => { x with state := .probation, verified := 0 })).flash.die :=
        congrArg Flash.die (r.flash.trans (raise_flash ..))
      refine r.withRequest (raise_withRequest _ _ _ ?_)
      rw [dies]
      exact withRequest_of_port rfl rfl
  case returnsNot =>
    intro p d a s accepts not
    obtain ⟨x, m, r⟩ := fromSession_refused (sub := 2) (a := a) (code := abState) (f := returnCommand d a) (g := askDie d) (by omega) accepts
      (if_neg (by omega)) (fun u => actionOf_die d) (by decide) (fun x m => returnCommand_refused (s := arrivedAs s x m) not)
    refine ⟨_, rfl, r.answered, r.refusal (by decide) ?_⟩
    unfold askDie
    split
    · exact withRequest_of_port rfl rfl
    · exact arrived_withRequest ..
  case sanitize =>
    intro p s v accepts serve
    have value : ofLe (leBytes 1 v.toNat) = v.toNat := (ofLe_leBytes 1 _).trans (Nat.mod_eq_of_lt (by simpa using v.isLt))
    obtain ⟨x, m, r⟩ := put_ok (i := 0x2F10) (sub := 1) (f := startSanitize v.toNat) (g := sanitizing v.toNat) (by decide)
      (accepts_commands_of_control rfl accepts) rfl (fun a u => by rw [value]; rfl)
      (fun x m => startSanitize_ok (s := arrivedAs s x m) serve)
    obtain ⟨life, rails, dict, told⟩ := sanitizing_result v.toNat (arrivedAs s x m)
    refine ⟨_, rfl, r.answered, r.told (told.of rfl rfl rfl), ?_, ?_, fun q mem => ?_, r.life.trans life, r.rails.trans rails, r.dict.trans dict⟩
    · exact (congrArg Flash.sanitizeState r.flash).trans rfl
    · refine (congrArg Flash.sanitizeKeys r.flash).trans ?_
      rfl
    · obtain ⟨o, left, same⟩ := sanitizeImage_tenants _ q ((congrArg Cache.slots r.cache) ▸ mem)
      obtain ⟨all, its⟩ := sanitizeNamed_slots left
      rw [same] at its
      exact ⟨fun h => all (by rw [h]; rfl), its⟩
  case sanitizeNot =>
    intro p s v accepts away not
    have value : ofLe (leBytes 1 v.toNat) = v.toNat := (ofLe_leBytes 1 _).trans (Nat.mod_eq_of_lt (by simpa using v.isLt))
    obtain ⟨x, m, r⟩ := put_refused (i := 0x2F10) (sub := 1) (code := abState) (f := startSanitize v.toNat) (g := fun u => u) (by decide)
      accepts rfl (fun a u => by rw [value]; rfl) (by decide) (fun x m => startSanitize_refused (s := arrivedAs s x m) away not)
    exact ⟨_, rfl, r.answered, r.refusal (by decide) (arrived_withRequest ..)⟩
end

section
/-! Failing dies, erases, the release of an image and a die in probation (O39). -/

namespace Sys2Proof.Machine


/-! ### What only the hardware is told -/

/-- A state in which nothing has happened but outputs. -/
def Sends (s t : State) : Prop := ∃ l, t = { s with out := s.out ++ l }

namespace Sends
variable {s t u : State}

theorem refl (s : State) : Sends s s := ⟨[], by simp⟩

theorem trans (h : Sends s t) (k : Sends t u) : Sends s u := by
  obtain ⟨l, rfl⟩ := h
  obtain ⟨m, rfl⟩ := k
  exact ⟨l ++ m, by simp⟩

theorem foldl {α : Type} (f : State → α → State) (l : List α) (h : Sends s t) (each : ∀ t a, Sends t (f t a)) : Sends s (l.foldl f t) :=
  List.foldlRecOn l f h fun t ht a _ => ht.trans (each t a)

theorem eq (h : Sends s t) : t = { s with out := t.out } := by
  obtain ⟨l, rfl⟩ := h
  rfl

theorem out (h : Sends s t) {o : Output} (mem : o ∈ s.out) : o ∈ t.out := by
  obtain ⟨l, rfl⟩ := h
  exact List.mem_append_left _ mem

end Sends

section
variable (d : Fin 16) (s : State)

theorem flashDo_sends (o : FlashOp) : Sends s (flashDo d o s) := ⟨[.flash d o], rfl⟩

theorem programPage_sends (b : FlashBlock) (page : Nat) (data : PageData) : Sends s (programPage d b page data s) :=
  (flashDo_sends ..).trans (flashDo_sends ..)

theorem eraseDie_sends (b : FlashBlock) : Sends s (eraseDie d b s) := (flashDo_sends ..).trans (flashDo_sends ..)

theorem writeTables_sends : Sends s (writeTables s) :=
  Sends.foldl _ _ (.refl s) fun t d => by
    split
    · exact programPage_sends ..
    · exact .refl t

theorem writeKeyCopy_sends (b : FlashBlock) : Sends s (writeKeyCopy d b s) := by
  unfold writeKeyCopy
  exact ((eraseDie_sends ..).trans (programPage_sends ..)).trans (flashDo_sends ..)

theorem writeKeys_sends : Sends s (writeKeys s) := by
  unfold writeKeys
  split
  · exact (writeKeyCopy_sends ..).trans (writeKeyCopy_sends ..)
  · exact (writeKeyCopy_sends ..).trans (writeKeyCopy_sends ..)
  · exact .refl s

theorem verifyOps_sends (b : Nat) : Sends s (verifyOps d b s) :=
  Sends.foldl _ _ (Sends.foldl _ _ (eraseDie_sends ..) fun _ _ => programPage_sends ..) fun _ _ => flashDo_sends ..

/-- An erase is counted, and nothing else is noted of it. -/
theorem countErase_eq : ∃ l, countErase s = { s with flash := { s.flash with erases := (s.flash.erases + 1) % 64 }, out := s.out ++ l } := by
  unfold countErase
  dsimp only
  split
  · exact writeTables_sends _
  · exact ⟨[], by simp⟩

end

/-! ### A die that fails -/

section
variable {d : Fin 16} {s : State}

theorem relocatePage_bad {b : Nat} (bad : (blockOfDie s.flash.die[d] b).1 = .bad) (away : s.flash.die[d].cur ≠ some b) :
    (blockOfDie (relocatePage d s).flash.die[d] b).1 = .bad := ((relocatePage_written d s d).bad b bad away).1

/-- What a die that fails leaves alone. -/
theorem markBad_kept (b : Nat) : (markBad d b s).life = s.life ∧ (markBad d b s).isl = s.isl ∧ (markBad d b s).dict = s.dict ∧
    (markBad d b s).time = s.time ∧ (markBad d b s).rails = s.rails ∧ (markBad d b s).adm = s.adm ∧ (markBad d b s).keep = s.keep ∧
    (markBad d b s).port = s.port := by simp

end

/-! ### The image is released -/

section
variable (s : State)

theorem putManifest_sends (m : Manifest) (d : Fin 16) : Sends s (putManifest m s d) := by
  unfold putManifest
  dsimp only
  refine Sends.trans ?_ (flashDo_sends ..)
  refine Sends.trans ?_ (programPage_sends ..)
  split
  · exact eraseDie_sends ..
  · exact .refl s

/-- A manifest is written: the flash takes it as its committed one. -/
theorem writeManifest_eq (m : Manifest) : ∃ l, writeManifest m s = { s with flash := commitManifest m s.flash, out := s.out ++ l } := by
  obtain ⟨l, e⟩ : Sends s (writeTables ((manifestDies (activeDies s.flash)).foldl (putManifest m) s)) :=
    (Sends.foldl _ _ (.refl s) fun t d => putManifest_sends t m d).trans (writeTables_sends _)
  exact ⟨l, by unfold writeManifest; dsimp only; rw [e]⟩

/-- The flash of a released image. -/
def releasedFlash : Flash :=
  let x := commitManifest (manifestOf { s with cache := clearCopyValid s.cache } [] (topEpoch s.flash)) s.flash
  { x with imageState := 0, released := true, releaseWanted := false }

theorem releaseImage_eq : ∃ l, releaseImage s = raise { s with
    cache := clearCopyValid s.cache, adm.formatHold := false, flash := releasedFlash s, out := s.out ++ l } 520 .flash [] := by
  obtain ⟨l, e⟩ := writeManifest_eq { s with cache := clearCopyValid s.cache }
    (manifestOf { s with cache := clearCopyValid s.cache } [] (topEpoch s.flash))
  exact ⟨l, by unfold releaseImage; dsimp only; rw [e]; rfl⟩

end

/-! ### A die in probation -/

/-- A state in which one die has changed, and what events leave. -/
def OnlyDie (d : Fin 16) (s t : State) : Prop := t = withEvents (s.modDie d fun _ => t.flash.die[d]) t

section
variable {d : Fin 16} {s t u : State}

theorem modDie_modDie (f g : Die → Die) : (s.modDie d f).modDie d g = s.modDie d fun x => g (f x) := by
  have dies : vmod (vmod s.flash.die d f) d g = vmod s.flash.die d fun x => g (f x) := by
    ext i hi
    simp only [vmod_getElem]
    split <;> simp
  unfold State.modDie
  dsimp only
  rw [dies]

theorem modDie_self (s : State) : (s.modDie d fun _ => s.flash.die[d]) = s := by
  have dies : (vmod s.flash.die d fun _ => s.flash.die[d]) = s.flash.die := by
    ext i hi
    simp only [vmod_getElem, Fin.getElem_fin]
    split
    · rename_i here; subst here; rfl
    · rfl
  unfold State.modDie
  rw [dies]

theorem OnlyDie.trans (h : OnlyDie d s t) (k : OnlyDie d t u) : OnlyDie d s u := by
  have twice : withEvents ((withEvents (s.modDie d fun _ => t.flash.die[d]) t).modDie d fun _ => u.flash.die[d]) u =
      withEvents ((s.modDie d fun _ => t.flash.die[d]).modDie d fun _ => u.flash.die[d]) u := rfl
  refine (show u = _ from k).trans ?_
  rw [modDie_modDie] at twice
  exact (congrArg (fun v : State => withEvents (v.modDie d fun _ => u.flash.die[d]) u) h).trans twice

theorem modDie_only (f : Die → Die) : OnlyDie d s (s.modDie d f) := by
  unfold OnlyDie
  rw [modDie_die, if_pos rfl]
  rfl

theorem raise_only (ev : Nat) (i : EvIsland) (vs : List (Nat × Nat)) : OnlyDie d s (raise s ev i vs) := by
  unfold OnlyDie
  rw [raise_flash, modDie_self]
  exact raise_eq ..

theorem Sends.only (h : Sends s t) : OnlyDie d s t := by
  obtain ⟨l, rfl⟩ := h
  unfold OnlyDie
  have same := modDie_self (d := d) s
  exact (congrArg (fun v : State => ({ v with out := s.out ++ l } : State)) same).symm

theorem passProbation_only : OnlyDie d s (passProbation d s) := (modDie_only _).trans (raise_only ..)

theorem passProbation_die : (passProbation d s).flash.die[d] = { s.flash.die[d] with
    state := .active, cause := 0, retiredInTable := false, verified := 0, cur := none, nextPage := 0, timeouts := 0
    rebuilds := [] } := by
  unfold passProbation
  rw [raise_flash, modDie_die, if_pos rfl]

theorem failProbation_eq (probation : s.flash.die[d].state = .probation) :
    failProbation d s = raise ((s.modDie d fun x => { x with cause := 6 }).modDie d staleVerified) (624 + d.val) .flash [] := by
  refine if_pos ?_
  rw [modDie_die, if_pos rfl]
  exact probation

theorem failProbation_only (probation : s.flash.die[d].state = .probation) : OnlyDie d s (failProbation d s) := by
  rw [failProbation_eq probation]
  exact ((modDie_only _).trans (modDie_only _)).trans (raise_only ..)

theorem failProbation_die (probation : s.flash.die[d].state = .probation) :
    (failProbation d s).flash.die[d] = staleVerified { s.flash.die[d] with cause := 6 } := by
  rw [failProbation_eq probation, raise_flash, modDie_die, if_pos rfl, modDie_die, if_pos rfl]

theorem staleVerified_bad {x : Die} {b : Nat} (bad : (blockOfDie x b).1 = .bad) : (blockOfDie (staleVerified x) b).1 = .bad := by
  unfold blockOfDie staleVerified at *
  dsimp only
  rw [mapFind_mapVals]
  cases found : mapFind x.table b with
  | none => rw [found] at bad; exact absurd bad (by decide)
  | some u =>
    rw [found] at bad
    have here : u.1 = .bad := bad
    simp [here]

/-- How a probation goes on after a block, by what the die then is. -/
def probationGoesOn (d : Fin 16) (t : State) : State :=
  if badBeyond t t.flash.die[d] then failProbation d t
  else if (probeBlock t.flash.die[d]).isNone then passProbation d t
  else t

/-- A block of a die in probation has been erased, programmed and read back. -/
def probed (d : Fin 16) (b : Nat) (sent : List Output) (s : State) : State :=
  ({ s with out := s.out ++ sent }).modDie d fun x => { eraseBlock b x with verified := b + 1 }

theorem verifyBlock_good {b : Nat} : ∃ l, verifyBlock d b true s = probationGoesOn d (probed d b l s) := by
  obtain ⟨l, e⟩ := verifyOps_sends d s b
  exact ⟨l, by unfold verifyBlock probationGoesOn probed; dsimp only; rw [if_pos rfl, e]⟩

theorem probed_die {b : Nat} (l : List Output) :
    (probed d b l s).flash.die[d] = { eraseBlock b s.flash.die[d] with verified := b + 1 } := (modDie_die ..).trans (if_pos rfl)

theorem probed_only {b : Nat} (l : List Output) : OnlyDie d s (probed d b l s) := (Sends.only ⟨l, rfl⟩).trans (modDie_only _)

theorem verifyBlock_bad {b : Nat} : verifyBlock d b false s =
    probationGoesOn d ((markBad d b (verifyOps d b s)).modDie d fun x => { x with verified := b + 1 }) := rfl

theorem probationGoesOn_only (probation : s.flash.die[d].state = .probation) : OnlyDie d s (probationGoesOn d s) := by
  unfold probationGoesOn
  split
  · exact failProbation_only probation
  · split
    · exact passProbation_only
    · exact (Sends.refl s).only

theorem probationGoesOn_bad {b : Nat} (probation : s.flash.die[d].state = .probation) (bad : (blockOfDie s.flash.die[d] b).1 = .bad) :
    (blockOfDie (probationGoesOn d s).flash.die[d] b).1 = .bad := by
  unfold probationGoesOn
  split
  · rw [failProbation_die probation]
    exact staleVerified_bad bad
  · split
    · rw [passProbation_die]
      exact bad
    · exact bad

theorem probationGoesOn_grows (probation : s.flash.die[d].state = .probation) : Grows true s.ev (probationGoesOn d s).ev := by
  unfold probationGoesOn
  split
  · rw [failProbation_eq probation]
    exact raise_grows _ _ _ _ (.refl _)
  · split
    · exact raise_grows _ _ _ _ (.refl _)
    · exact .refl _

/-- A die in probation is not retired for a block that fails. -/
theorem markBad_probation {b : Nat} (probation : s.flash.die[d].state = .probation) : markBad d b s = marked d b s := by
  rw [markBad_eq]
  refine if_neg fun h => ?_
  rw [marked_die] at h
  exact absurd (probation.symm.trans h.1) (by decide)

theorem marked_only (b : Nat) : OnlyDie d s (marked d b s) := (modDie_only _).trans (raise_only ..)

end

end Sys2Proof.Machine
end

section
open Sys2Proof Sys2Proof.Machine

/-- Settles O39: what a failing die, an erase, a release, the end of a sanitize and a probation leave. -/
theorem dieFailuresAndImage : Obligations.DieFailuresAndImage := by
  unfold Obligations.DieFailuresAndImage
  refine ⟨?program, ?erase, ?slow, ?retires, ?stale, ?buffer, ?release, ?sanitized, ?verified, ?notVerified⟩
  case program =>
    intro d b s block runs active
    have step : exec (.programFail d) s = .next (relocatePage d (markBad d b (raise s 518 .flash []))) := by
      show execProgramFail d s = _
      unfold execProgramFail
      rw [block]
      exact if_neg (not_or.2 ⟨by simp [runs], not_not.2 active⟩)
    obtain ⟨bad, away⟩ := markBad_bad d b (raise s 518 .flash [])
    refine ⟨_, step, (raise_told ..).grows (relocatePage_grows _ _ (markBad_grows _ _ _ (.refl _))), relocatePage_bad bad away, ?_⟩
    simp
  case erase =>
    intro d b s block runs present
    have step : exec (.eraseFail d) s = .next (markBad d b s) := by
      show execEraseFail d s = _
      unfold execEraseFail
      rw [block]
      exact if_neg (not_or.2 ⟨by simp [runs], present⟩)
    refine ⟨_, step, markBad_told .., (markBad_bad ..).1, ?_⟩
    simp
  case slow =>
    intro d s runs present few
    show execDieCommandTimeout d s = _
    unfold execDieCommandTimeout
    rw [if_neg (not_or.2 ⟨by simp [runs], present⟩)]
    dsimp only
    rw [modDie_die, if_pos rfl, if_neg]
    rintro ⟨active, many⟩
    rcases few with idle | few
    · exact idle active
    · dsimp only at many
      omega
  case retires =>
    intro d s runs active many
    have step : exec (.dieCommandTimeout d) s = .next (retireDie d 1 (s.modDie d (fun x => { x with timeouts := x.timeouts + 1 }))) := by
      show execDieCommandTimeout d s = _
      unfold execDieCommandTimeout
      rw [if_neg (not_or.2 ⟨by simp [runs], by rw [active]; decide⟩)]
      dsimp only
      rw [modDie_die, if_pos rfl, if_pos ⟨active, by dsimp only; omega⟩]
    obtain ⟨state, cause, table⟩ := retireDie_die d 1 (s.modDie d (fun x => { x with timeouts := x.timeouts + 1 }))
    exact ⟨_, step, (retireDie_told ..).of rfl rfl rfl, state, cause, table, by simp [State.modDie], by simp [State.modDie], by simp [State.modDie]⟩
  case stale =>
    intro d b s block runs present clean
    obtain ⟨l, sent⟩ := eraseDie_sends d (s.modDie d (eraseBlock b)) (.image b)
    obtain ⟨m, counted⟩ := countErase_eq (eraseDie d (.image b) (s.modDie d (eraseBlock b)))
    have step : exec (.backgroundErase d) s = .next (countErase (eraseDie d (.image b) (s.modDie d (eraseBlock b)))) := by
      show execBackgroundErase d s = _
      unfold execBackgroundErase
      rw [if_neg (not_or.2 ⟨by simp [runs], present⟩), if_neg (by rw [clean]; decide), block]
    rw [sent] at counted
    have die (e : Fin 16) := modDie_die d e (eraseBlock b) s
    rw [step, sent, counted]
    refine ⟨_, rfl, ?_, fun c other => ?_, fun e other => (die e).trans (if_neg other), rfl⟩
    · refine (congrArg (blockOfDie · b) ((die d).trans (if_pos rfl))).trans ?_
      rw [blockOfDie_set (x := s.flash.die[d]) (b := b) rfl, if_pos rfl]
    · refine (congrArg (fun x : Die => mapFind x.table c) ((die d).trans (if_pos rfl))).trans ?_
      exact (mapFind_mapSet ..).trans (if_neg other)
  case buffer =>
    intro d s runs present dirty
    have step : exec (.backgroundErase d) s = .next (countErase (eraseBuffer d s)) := by
      show execBackgroundErase d s = _
      unfold execBackgroundErase
      rw [if_neg (not_or.2 ⟨by simp [runs], present⟩), if_pos dirty]
    obtain ⟨m, counted⟩ := countErase_eq (eraseBuffer d s)
    rw [step, counted]
    refine ⟨_, rfl, List.mem_append_left _ ?_, rfl, fun done => ?_, rfl⟩
    · simp [eraseBuffer, eraseDie, flashDo, State.send]
    · have none : (s.flash.bufferDirty.filter (· != d)).isEmpty = true := List.isEmpty_iff.2 done
      exact if_pos none
  case release =>
    intro s due ok
    have step : exec .imageRelease s = .next (releaseImage s) := congrArg Host.Outcome.next (if_pos ⟨due, ok⟩)
    obtain ⟨l, e⟩ := releaseImage_eq s
    have raised := raise_eq { s with
      cache := clearCopyValid s.cache, adm.formatHold := false, flash := releasedFlash s, out := s.out ++ l } 520 .flash []
    have told : Told 520 s (releaseImage s) := by
      rw [e]
      exact (raise_told ..).of rfl rfl rfl
    have flash : (releaseImage s).flash = releasedFlash s := by rw [e, raise_flash]
    have cache := releaseImage_slots s
    have hold : (releaseImage s).adm = { s.adm with formatHold := false } := by rw [e]; simp
    rw [← e] at raised
    refine ⟨_, step, told, by rw [flash]; rfl, by rw [flash]; rfl, by rw [flash]; rfl, by rw [flash]; rfl, by rw [flash]; rfl, ?_, ?_, by rw [hold], ?_⟩
    · intro q mem
      rw [cache] at mem
      obtain ⟨r, -, rfl⟩ := List.mem_map.1 mem
      rfl
    · rw [cache]
      exact List.length_map ..
    · refine raised.trans ?_
      rw [flash, cache]
      rfl
  case sanitized =>
    intro s runs running done
    obtain ⟨l, sent⟩ : Sends s (if s.flash.sanitizeKeys then writeKeys s else s) := by
      split
      · exact writeKeys_sends s
      · exact .refl s
    have step : exec .sanitizeComplete s = .next (raise { s with
        flash := { s.flash with sanitizeState := 2, sanitizeKeys := false }, out := s.out ++ l } 523 .control []) := by
      show execSanitizeComplete s = _
      unfold execSanitizeComplete
      rw [if_neg]
      · dsimp only
        rw [sent]
      · rintro (h | h | h)
        · simp [runs] at h
        · exact h running
        · exact done.elim (fun k => by simp [k] at h) h.2
    refine ⟨_, step, (raise_told ..).of rfl rfl rfl, ?_⟩
    exact raise_eq ..
  case verified =>
    intro d b s runs probation probe
    dsimp only
    obtain ⟨l, e⟩ := verifyBlock_good (d := d) (b := b) (s := s)
    have step : exec (.probationBlockVerified d true) s = .next (verifyBlock d b true s) := by
      show execProbationBlockVerified d true s = _
      unfold execProbationBlockVerified
      rw [if_neg (not_or.2 ⟨by simp [runs], not_not.2 probation⟩), probe]
    rw [e] at step
    have here := probed_die (d := d) (b := b) (s := s) l
    have only := probed_only (d := d) (b := b) (s := s) l
    have told {ev : Nat} {t : State} (h : Told ev (probed d b l s) t) : Told ev s t := h.of rfl rfl rfl
    have limit (x : Die) : badBeyond (probed d b l s) x = badBeyond s x := rfl
    have same : probed d b l s = { s.modDie d (fun _ => { eraseBlock b s.flash.die[d] with verified := b + 1 }) with out := s.out ++ l } := rfl
    unfold probationGoesOn at step
    rw [here, limit] at step
    generalize probed d b l s = u at *
    refine ⟨fun sound more => ?_, fun sound last => ?_, fun worn => ?_⟩
    · rw [sound, if_neg (by decide), if_neg (by rw [← Option.not_isSome, more]; decide)] at step
      exact ⟨_, step, by rw [same]⟩
    · rw [sound, if_neg (by decide), if_pos (by rw [last]; rfl)] at step
      have die := passProbation_die (d := d) (s := u)
      refine ⟨_, step, told ((raise_told ..).of rfl rfl rfl), by rw [die], by rw [die], by rw [die], only.trans passProbation_only⟩
    · rw [worn, if_pos rfl] at step
      have probes : u.flash.die[d].state = .probation := by rw [here]; exact probation
      have die := failProbation_die probes
      refine ⟨_, step, told ?_, by rw [die]; rfl, by rw [die]; rfl, only.trans (failProbation_only probes)⟩
      rw [failProbation_eq probes]
      exact (raise_told ..).of rfl rfl rfl
  case notVerified =>
    intro d b s runs probation probe
    have step : exec (.probationBlockVerified d false) s = .next (verifyBlock d b false s) := by
      show execProbationBlockVerified d false s = _
      unfold execProbationBlockVerified
      rw [if_neg (not_or.2 ⟨by simp [runs], not_not.2 probation⟩), probe]
    rw [verifyBlock_bad] at step
    obtain ⟨l, sent⟩ := verifyOps_sends d s b
    have verified : (verifyOps d b s).flash.die[d].state = .probation := by rw [sent]; exact probation
    rw [markBad_probation verified] at step
    have here : ((marked d b (verifyOps d b s)).modDie d fun x => { x with verified := b + 1 }).flash.die[d] =
        { (marked d b (verifyOps d b s)).flash.die[d] with verified := b + 1 } := (modDie_die ..).trans (if_pos rfl)
    have probes : ((marked d b (verifyOps d b s)).modDie d fun x => { x with verified := b + 1 }).flash.die[d].state = .probation := by
      rw [here, marked_die]
      exact verified
    have bad := (markBad_bad d b (verifyOps d b s)).1
    rw [markBad_probation verified] at bad
    refine ⟨_, step, ?_, probationGoesOn_bad probes (by rw [here]; exact bad), ?_⟩
    · have told : Told 524 s (marked d b (verifyOps d b s)) := by
        rw [sent]
        exact (raise_told ..).of rfl rfl rfl
      exact Told.grows (t := (marked d b (verifyOps d b s)).modDie d fun x => { x with verified := b + 1 }) (told.ev_eq rfl) (probationGoesOn_grows probes)
    · exact (((verifyOps_sends d s b).only.trans (marked_only b)).trans (modDie_only _)).trans (probationGoesOn_only probes)
end

section
/-! What is told stays told through the charge control and the learning. -/

namespace Sys2Proof.Machine


/-! ### What is told stays told, through the charge control and the learning -/

section
variable {held : Bool} {g : Events}

@[simp] theorem startCharge_grown (s : State) (c : Channel) (h : Grows held g s.ev) : Grows held g (startCharge s c).ev := by
  unfold startCharge
  dsimp only
  simp (maxDischargeDepth := 20) [h]

@[simp] theorem chargeRefresh_grown (s : State) (c : Channel) (h : Grows held g s.ev) : Grows held g (chargeRefresh s c).ev :=
    by
  unfold chargeRefresh
  dsimp only
  (repeat' split) <;> simp (maxDischargeDepth := 20) [h]

@[simp] theorem chargesRefresh_grown (s : State) (h : Grows held g s.ev) : Grows held g (chargesRefresh s).ev := by
  unfold chargesRefresh
  simp (maxDischargeDepth := 20) [h]

@[simp] theorem enterMismatch_grows (c : Channel) (s : State) (h : Grows held g s.ev) : Grows held g (enterMismatch c s).ev :=
    by
  unfold enterMismatch
  (repeat' split) <;> simp (maxDischargeDepth := 20) [h]

@[simp] theorem healthRefresh_grows (c : Channel) (s : State) (h : Grows held g s.ev) : Grows held g (healthRefresh c s).ev :=
    by
  unfold healthRefresh
  dsimp only
  (repeat' split) <;> simp (maxDischargeDepth := 20) [h]

@[simp] theorem acceptLearn_grows (c : Channel) (v : Nat) (s : State) (h : Grows held g s.ev) : Grows held g (acceptLearn c v
    s).ev := by
  unfold acceptLearn
  dsimp only
  simp (maxDischargeDepth := 20) [h]

@[simp] theorem quarantineLearn_grows (c : Channel) (v : Nat) (s : State) (h : Grows held g s.ev) : Grows held g
    (quarantineLearn c v s).ev := by
  unfold quarantineLearn
  dsimp only
  (repeat' split) <;> simp (maxDischargeDepth := 20) [h]

@[simp] theorem finishLearn_grows (c : Channel) (s : State) (h : Grows held g s.ev) : Grows held g (finishLearn c s).ev := by
  unfold finishLearn
  dsimp only
  (repeat' split) <;> simp (maxDischargeDepth := 20) [h]

@[simp] theorem startPreSinter_grows (s : State) (h : Grows held g s.ev) : Grows held g (startPreSinter s).ev := by
  unfold startPreSinter
  dsimp only
  (repeat' split) <;> simp (maxDischargeDepth := 20) [h]

@[simp] theorem endProbation_grown (d : Fin 16) (s : State) (h : Grows held g s.ev) : Grows held g (endProbation d s).ev := by
  unfold endProbation
  (repeat' split) <;> simp (maxDischargeDepth := 20) [h]

@[simp] theorem endProbations_grown (s : State) (h : Grows held g s.ev) : Grows held g (endProbations s).ev := by
  unfold endProbations
  simp +contextual (maxDischargeDepth := 20) [h]

@[simp] theorem endSag_grows (s : State) (h : Grows held g s.ev) : Grows held g (endSag s).ev := by
  unfold endSag
  simp (maxDischargeDepth := 20) [h]

@[simp] theorem geyserRecharge_grows (c : Channel) (s : State) (h : Grows held g s.ev) : Grows held g (geyserRecharge c s).ev
    := by
  unfold geyserRecharge
  (repeat' split) <;> simp (maxDischargeDepth := 20) [h]

@[simp] theorem endAwaiting_grows (s : State) (h : Grows held g s.ev) : Grows held g (endAwaiting s).ev := by
  unfold endAwaiting
  (repeat' split) <;> simp (maxDischargeDepth := 20) [h]

end

end Sys2Proof.Machine
end

section
/-! Input sag, and the hold-up converter that fails (O17). -/

namespace Sys2Proof.Machine


/-! ### The failed hold-up converter in the Sinter -/

@[simp] theorem foldl_holdState {α : Type} (f : State → α → State) (l : List α) (s : State)
    (h : ∀ t a, (f t a).hold.state = t.hold.state) : (l.foldl f s).hold.state = s.hold.state := foldl_keeps (fun t => t.hold.state) f h l s

@[simp] theorem forAll_holdState {n : Nat} (f : State → Fin n → State) (s : State) (h : ∀ t a, (f t a).hold.state = t.hold.state) :
    (forAll n f s).hold.state = s.hold.state := foldl_keeps (fun t => t.hold.state) f h _ s

@[simp] theorem gateMissingRefresh_holdState (s : State) : (gateMissingRefresh s).hold.state = s.hold.state := by
  unfold gateMissingRefresh
  simp

@[simp] theorem modesRefresh_holdState (s : State) : (modesRefresh s).hold.state = s.hold.state := by
  unfold modesRefresh
  simp

@[simp] theorem hostChanged_holdState (before s : State) : (hostChanged before s).hold.state = s.hold.state := by
  unfold hostChanged
  dsimp only
  (repeat' split) <;> simp

@[simp] theorem linkLost_holdState (s : State) : (linkLost s).hold.state = s.hold.state := by
  unfold linkLost
  dsimp only
  simp

@[simp] theorem hostStops_holdState (s : State) : (hostStops s).hold.state = s.hold.state := by
  unfold hostStops
  dsimp only
  (repeat' split) <;> simp

@[simp] theorem islandsRefresh_holdState (s : State) : (islandsRefresh s).hold.state = s.hold.state := by
  unfold islandsRefresh
  dsimp only
  (repeat' split) <;> simp +contextual

@[simp] theorem enterState_holdState (d : DevState) (why : Cause) (s : State) : (enterState d why s).hold.state = s.hold.state
    := by
  unfold enterState
  dsimp only
  (repeat' split) <;> simp

section
variable (s : State)

theorem sinterSupplied_failed (cause : Nat) (failed : s.hold.state = 4) : (sinterSupplied cause s).hold.state = 4 := by
  have told : (sinterTold cause s).hold.state = 4 := by simp [sinterTold, sintering, failed]
  have state : (setSource .bank true (sinterTold cause s)).hold.state = 4 := (setSource_holdState ..).trans told
  simp [sinterSupplied, holdRefresh, holdState, state]

/-- The Sinter as it begins, with DRAM kept. -/
theorem enterSinter_kept (cause : Nat) (dram : s.life.dramLost = false) : (enterSinter cause s).life.dev = .sinter ∧
    (enterSinter cause s).outage.sinterCause = cause ∧ (enterSinter cause s).dict = s.dict ∧
    (enterSinter cause s).hold = (sinterSupplied cause s).hold := by
  obtain ⟨dict, -, -, -, life, outage⟩ := sinterSupplied_frame cause s
  have record := congrArg Outage.sinterCause (outage.trans (sintering_outage cause s))
  have dev := congrArg Life.dev life
  rw [enterSinter_eq, if_neg (by simp [dram])]
  generalize sinterSupplied cause s = t at dict dev record ⊢
  dsimp only
  split
  · simp [dev, record, dict]
  · exact ⟨dev, record, dict, rfl⟩

end

/-! ### Input sag -/

section
variable (s : State) {c : Channel}

theorem holdAssist_none (none : s.hold.assist = none) : holdAssist s = s := by
  unfold holdAssist
  rw [none]

theorem holdAssist_some (assisted : s.hold.assist = some c) : (holdAssist s).hold = { s.hold with assistHeld := true } ∧
    ((holdAssist s).est c).geyser = .suspended ∧ (holdAssist s).est c.other = s.est c.other := by
  unfold holdAssist
  rw [assisted]
  cases c <;> exact ⟨rfl, rfl, rfl⟩

theorem freeAssist_some (assisted : s.hold.assist = some c) : (freeAssist s).hold = { s.hold with assistHeld := false } ∧
    ((freeAssist s).est c).geyser = .discharging := by
  unfold freeAssist
  rw [assisted]
  cases c <;> exact ⟨rfl, rfl⟩

theorem holdAssist_sag : (holdAssist s).hold.sag = s.hold.sag ∧ (freeAssist s).hold.sag = s.hold.sag ∧
    (freeAssist s).hold.failed = s.hold.failed := by
  unfold holdAssist freeAssist
  split
  · exact ⟨rfl, rfl, rfl⟩
  · rename_i c _
    cases c <;> exact ⟨rfl, rfl, rfl⟩

/-- A sag that is noted. -/
def sagging : State := raise { s with hold.sag := true } 449 .supervisor []

/-- A sag with the assist held and the chargers off. -/
def sagHeld : State := chargesRefresh (endProbations (holdAssist (sagging s)))

/-- A sag as it leaves its step: a pre-sinter may have begun. -/
def sagStarted : State := startPreSinter (sagHeld s)

theorem inputSag_eq (supervised : s.life.dev.supervised = true) (sag : s.hold.sag = false) (failed : s.hold.failed = false) :
    exec .inputSag s = .next (sagStarted s) := by
  have may : ¬(s.life.dev.supervised = false ∨ s.hold.sag = true ∨ s.hold.failed = true) := by simp [supervised, sag, failed]
  exact if_neg may

theorem sagHeld_charge (c : Channel) : ((sagHeld s).chan c).enable = false := by
  have sag : (sagging s).hold.sag = true := by simp [sagging]
  exact chargesRefresh_off_sag _ _ (by simp [holdAssist_sag, sag])

theorem sagStarted_told : Told 449 s (sagStarted s) := by
  have told : Told 449 s (holdAssist (sagging s)) :=
    Told.ev_eq (t := sagging s) ((raise_told ..).of rfl rfl rfl) (by simp [holdAssist_frame])
  exact told.grows (startPreSinter_grows _ (chargesRefresh_grown _ (endProbations_grown _ (.refl _))))

theorem sagStarted_charge (c : Channel) : ((sagStarted s).chan c).enable = false := by
  rw [show (sagStarted s).chan c = (sagHeld s).chan c from chan_congr c (by simp [sagStarted, startPreSinter_frame])
    (by simp [sagStarted, startPreSinter_frame])]
  exact sagHeld_charge s c

theorem sagStarted_off : (sagStarted s).pack.enable = false ∧ (sagStarted s).bank.enable = false := by
  have off := sagStarted_charge s
  generalize sagStarted s = t at off ⊢
  exact ⟨off .pack, off .bank⟩

theorem sagStarted_assist : (sagStarted s).hold = (holdAssist (sagging s)).hold ∧
    (sagStarted s).packEst = (holdAssist (sagging s)).packEst ∧ (sagStarted s).bankEst = (holdAssist (sagging s)).bankEst := by
  simp [sagStarted, startPreSinter_frame, sagHeld]

theorem sagStarted_frame : (sagStarted s).life = s.life ∧ (sagStarted s).isl = s.isl ∧ (sagStarted s).dict = s.dict ∧ (sagStarted s).time = s.time ∧
    (sagStarted s).rails = s.rails ∧ (sagStarted s).keep = s.keep ∧ (sagStarted s).adm = s.adm ∧ (sagStarted s).outage = s.outage ∧
    (sagStarted s).port = s.port ∧ (sagStarted s).video = s.video := by
  simp [sagStarted, startPreSinter_frame, sagHeld, sagging, holdAssist_frame]

end

end Sys2Proof.Machine
end

section
open Sys2Proof Sys2Proof.Machine

/-- Settles O17: a sag holds the chargers and the assist, and a failed hold-up converter leaves every channel 0 J. -/
theorem sagAndHoldUp : Obligations.SagAndHoldUp := by
  unfold Obligations.SagAndHoldUp
  refine ⟨?sag, ?clears, ?fails, ?simmer, ?recovers⟩
  case sag =>
    intro s supervised sag failed
    obtain ⟨hold, pack, bank⟩ := sagStarted_assist s
    have est (c : Channel) : (sagStarted s).est c = (holdAssist (sagging s)).est c := est_congr c pack bank
    have noted : (sagging s).hold = { s.hold with sag := true } ∧ (sagging s).packEst = s.packEst ∧ (sagging s).bankEst = s.bankEst := by
      simp [sagging]
    refine ⟨_, inputSag_eq s supervised sag failed, sagStarted_told s, ?_, (sagStarted_off s).1, (sagStarted_off s).2,
      fun c assisted => ?_, fun none => ?_, sagStarted_frame s⟩
    · rw [hold, (holdAssist_sag _).1, noted.1]
    · obtain ⟨held, suspended, other⟩ := holdAssist_some (sagging s) (c := c) (by rw [noted.1]; exact assisted)
      exact ⟨by rw [hold, held], by rw [est, suspended], by rw [est, other]; exact est_congr _ noted.2.1 noted.2.2⟩
    · have same := holdAssist_none (sagging s) (by rw [noted.1]; exact none)
      rw [same] at pack bank
      exact ⟨pack.trans noted.2.1, bank.trans noted.2.2⟩
  case clears =>
    intro s sag failed
    have step : exec .sagCleared s = .next (endSag s) := congrArg Host.Outcome.next (if_pos ⟨sag, failed⟩)
    generalize noted : raise { s with hold.sag := false } 450 .supervisor [] = u
    have hold : u.hold = { s.hold with sag := false } := by rw [← noted]; simp
    have told : Told 450 s u := noted ▸ (raise_told ..).of rfl rfl rfl
    have ends : endSag s = chargesRefresh (cancelPreSinter (freeAssist u)) := by rw [← noted]; rfl
    have holds : (endSag s).hold = (freeAssist u).hold := by rw [ends]; simp
    have est (c : Channel) : (endSag s).est c = (freeAssist u).est c := by
      rw [ends]
      exact est_congr c (by simp) (by simp)
    have grows : Grows true u.ev (endSag s).ev := by
      rw [ends]
      exact chargesRefresh_grown _ (cancelPreSinter_grows _ (by simp [freeAssist_frame]))
    refine ⟨_, step, told.grows grows, ?_, ?_, fun c assisted => ?_, by simp [endSag_frame], by simp [endSag_frame], by simp [endSag_frame],
      by simp [endSag_frame], by simp [endSag_frame], by simp [endSag_frame], by simp [endSag_frame], by simp [endSag_frame],
      by simp [endSag_frame], by simp [endSag_frame]⟩
    · rw [holds, (holdAssist_sag u).2.1, hold]
    · rw [holds, (holdAssist_sag u).2.2, hold]
      exact failed
    · obtain ⟨free, discharging⟩ := freeAssist_some u (c := c) (by rw [hold]; exact assisted)
      exact ⟨by rw [holds, free], by rw [est, discharging]⟩
  case fails =>
    intro s enabled working away
    have step : exec .holdUpFault s = .next (holdUpFails s) := if_neg (by simp [enabled, working])
    obtain ⟨told, state, pack, bank, seq, slots, -⟩ := holdUpZeroed_result s
    obtain ⟨time, isl, life, dict, port, keep, -, flash⟩ := holdUpZeroed_frame s
    have stays : holdUpFails s = holdUpZeroed s := by
      rw [holdUpFails_eq]
      exact if_neg (by rw [life]; exact away)
    exact ⟨_, step.trans (congrArg Host.Outcome.next stays), told, state, pack, bank, seq, life, isl, dict, time, keep, flash, port, slots⟩
  case simmer =>
    intro s enabled working simmer dram
    have step : exec .holdUpFault s = .next (holdUpFails s) := if_neg (by simp [enabled, working])
    obtain ⟨-, state, -⟩ := holdUpZeroed_result s
    obtain ⟨-, -, life, dict, -⟩ := holdUpZeroed_frame s
    have leaves : holdUpFails s = enterSinter 5 (holdUpZeroed s) := by
      rw [holdUpFails_eq]
      exact if_pos (by rw [life]; exact simmer)
    obtain ⟨dev, cause, dict', hold⟩ := enterSinter_kept (holdUpZeroed s) 5 (by rw [life]; exact dram)
    exact ⟨_, step.trans (congrArg Host.Outcome.next leaves), dev, cause, by rw [hold]; exact sinterSupplied_failed _ _ state, dict'.trans dict⟩
  case recovers =>
    intro s failed
    have step : exec .holdUpRecovered s = .next (raise (holdRefresh { s with hold.state := 1 }) 41 .supervisor []) :=
      congrArg Host.Outcome.next (if_pos failed)
    have hold : (raise (holdRefresh { s with hold.state := 1 }) 41 .supervisor []).hold = (holdRefresh { s with hold.state := 1 }).hold := by simp
    refine ⟨_, step, (raise_told ..).of rfl rfl rfl, by rw [hold]; rfl, ?_⟩
    rw [hold]
    exact raise_eq ..
end

section
/-! Estimators through learning, recharging and publication. -/

namespace Sys2Proof.Machine


/-! ### Estimators through learning, recharging and publication -/

/-- The part of an estimator that a learn that ends never sets. -/
def Est.points (x : Est) : Est :=
  { x with
    fcc := none, quarantined := 0, quarantines := 0, learnedAt := none, history := [], daysFrom := 0, mismatch := false, discards := 0
    learning := false, healthLow := false }

section
variable (s : State) (c d : Channel)

theorem points_setEst (x : Est) (same : x.points = (s.est c).points) : ((s.setEst c x).est d).points = (s.est d).points := by
  rw [est_setEst]
  split
  · rename_i e
    rw [← e]
    exact same
  · rfl

theorem enterMismatch_points : ((enterMismatch c s).est d).points = (s.est d).points ∧
    (d ≠ c → (enterMismatch c s).est d = s.est d) ∧ ((enterMismatch c s).est c).learning = (s.est c).learning := by
  unfold enterMismatch
  split
  · exact ⟨rfl, fun _ => rfl, rfl⟩
  · rw [est_raise, est_raise]
    refine ⟨points_setEst s c d _ rfl, fun ne => ?_, ?_⟩
    · rw [est_setEst, if_neg (Ne.symm ne)]
    · rw [est_setEst, if_pos rfl]

theorem healthRefresh_points : ((healthRefresh c s).est d).points = (s.est d).points ∧
    (d ≠ c → (healthRefresh c s).est d = s.est d) ∧ ((healthRefresh c s).est c).learning = (s.est c).learning := by
  unfold healthRefresh
  dsimp only
  rw [est_raiseIf, est_raiseIf]
  refine ⟨points_setEst s c d _ rfl, fun ne => ?_, ?_⟩
  · rw [est_setEst, if_neg (Ne.symm ne)]
  · rw [est_setEst, if_pos rfl]

theorem acceptLearn_points (v : Nat) : ((acceptLearn c v s).est d).points = (s.est d).points ∧
    (d ≠ c → (acceptLearn c v s).est d = s.est d) ∧ ((acceptLearn c v s).est c).learning = false := by
  have kept (t : State) : (keepPend t).est d = t.est d ∧ (keepPend t).est c = t.est c := ⟨rfl, rfl⟩
  unfold acceptLearn
  dsimp only
  rw [(kept _).1, (kept _).2]
  obtain ⟨points, other, learning⟩ := healthRefresh_points (raise (s.setEst c { s.est c with
    fcc := some v, quarantined := 0, quarantines := 0, learnedAt := some s.poweredSec, daysFrom := s.poweredSec,
    mismatch := false, discards := 0, learning := false, history := (learnEntry s c v .learnAccepted :: (s.est c).history).take 4 })
    (chanEv c 145) .control []) c d
  refine ⟨points.trans ?_, fun ne => (other ne).trans ?_, learning.trans ?_⟩
  · rw [est_raise]
    exact points_setEst s c d _ rfl
  · rw [est_raise, est_setEst, if_neg (Ne.symm ne)]
  · rw [est_raise, est_setEst, if_pos rfl]

theorem quarantineLearn_points (v : Nat) : ((quarantineLearn c v s).est d).points = (s.est d).points ∧
    (d ≠ c → (quarantineLearn c v s).est d = s.est d) ∧ ((quarantineLearn c v s).est c).learning = false := by
  have kept (t : State) : (keepPend t).est d = t.est d ∧ (keepPend t).est c = t.est c := ⟨rfl, rfl⟩
  unfold quarantineLearn
  dsimp only
  rw [(kept _).1, (kept _).2]
  generalize held : raise (s.setEst c { s.est c with
    quarantined := v, quarantines := (s.est c).quarantines + 1, learning := false, daysFrom := s.poweredSec
    history := (learnEntry s c v .learnQuarantined :: (s.est c).history).take 4 }) (chanEv c 146) .control [] = u
  have points : (u.est d).points = (s.est d).points := by
    rw [← held, est_raise]
    exact points_setEst s c d _ rfl
  have other (ne : d ≠ c) : u.est d = s.est d := by rw [← held, est_raise, est_setEst, if_neg (Ne.symm ne)]
  have learning : (u.est c).learning = false := by rw [← held, est_raise, est_setEst, if_pos rfl]
  split
  · obtain ⟨points', other', learning'⟩ := enterMismatch_points u c d
    exact ⟨points'.trans points, fun ne => (other' ne).trans (other ne), learning'.trans learning⟩
  · exact ⟨points, other, learning⟩

/-- A learn that ends sets what it has learned, and nothing else of its estimator. -/
theorem finishLearn_points : ((finishLearn c s).est d).points = (s.est d).points ∧
    (d ≠ c → (finishLearn c s).est d = s.est d) ∧ ((finishLearn c s).est c).learning = false := by
  unfold finishLearn
  dsimp only
  split
  · rename_i none
    exact ⟨rfl, fun _ => rfl, none⟩
  · split
    · exact acceptLearn_points ..
    · exact quarantineLearn_points ..

theorem est_endAssist : (endAssist s).est d = s.est d := est_congr d (by simp) (by simp)

theorem est_chargesRefresh : (chargesRefresh s).est d = s.est d := est_congr d (by simp) (by simp)

theorem geyserRecharge_est : (geyserRecharge c s).est c =
      (if (s.est c).geyser = .discharging then { s.est c with geyser := .recharging } else s.est c) ∧
    (d ≠ c → (geyserRecharge c s).est d = s.est d) := by
  unfold geyserRecharge
  split
  · rw [est_chargesRefresh, est_endAssist, est_chargesRefresh, est_endAssist, est_setEst, if_pos rfl]
    exact ⟨rfl, fun ne => by rw [est_setEst, if_neg (Ne.symm ne)]⟩
  · exact ⟨rfl, fun _ => rfl⟩

theorem endAssist_state : ((endAssist s).hold.state == 4) = (s.hold.state == 4) := by
  unfold endAssist
  split
  · rfl
  · have state := (setSource_holdState (setSource .pack true { s with hold.assist := none, hold.assistHeld := false }) .bank true).trans
      (setSource_holdState { s with hold.assist := none, hold.assistHeld := false } .pack true)
    simp only [raise_frame, holdRefresh, holdState, state]
    split
    · rename_i failed
      rw [failed]
    · rename_i works
      have left : (s.hold.state == 4) = false := by simpa using works
      rw [left]
      split
      · rfl
      · split
        · rfl
        · split <;> rfl

theorem geyserRecharge_state : ((geyserRecharge c s).hold.state == 4) = (s.hold.state == 4) := by
  unfold geyserRecharge
  split
  · have refreshed (t : State) : (chargesRefresh t).hold = t.hold := by simp
    have set (x : Est) : (s.setEst c x).hold = s.hold := by cases c <;> rfl
    rw [refreshed, endAssist_state, set]
  · rfl

theorem geyserRecharge_measure : ((geyserRecharge c s).chan d).measure = (s.chan d).measure := by
  unfold geyserRecharge
  split
  · have ended (t : State) : (endAssist t).chan d = t.chan d := chan_congr d (by simp) (by simp)
    rw [chargesRefresh_measure, ended, chan_setEst]
  · rfl

/-! ### Channels that publish 0 J -/

/-- A channel's zero follows its measurement, the configuration, the hold-up converter and its end of discharge. -/
theorem publishesZero_congr {s t : State} (d : Channel) (isl : t.isl = s.isl) (dict : t.dict = s.dict)
    (measure : (t.chan d).measure = (s.chan d).measure) (hold : (t.hold.state == 4) = (s.hold.state == 4))
    (empty : (t.est d).empty = (s.est d).empty) : publishesZero t d = publishesZero s d := by
  have fitted : (t.chan d).fitted = (s.chan d).fitted := (congrArg Chan.fitted measure :)
  have fault : (t.chan d).fault = (s.chan d).fault := (congrArg Chan.fault measure :)
  have mv : (t.chan d).mv = (s.chan d).mv := (congrArg Chan.mv measure :)
  have level : mismatchLevel t d = mismatchLevel s d := by
    unfold mismatchLevel cells chemistry State.cfg
    rw [isl, dict]
  unfold publishesZero chanFaulted configMismatch
  rw [fitted, fault, mv, level, hold, empty]

theorem publishFigures_est (pack bank : Nat) : (publishFigures pack bank s).packEst = { s.packEst with eg := pack } ∧
    (publishFigures pack bank s).bankEst = { s.bankEst with eg := bank } := by
  rw [publishFigures_eq]
  simp [figured]

/-- The figure of a channel when another publication than its own gives `c` nothing. -/
def figureWithout (s : State) (c d : Channel) : Nat := if d = c then 0 else latestEg s d

/-- Outside SIMMER a channel that has nothing is published with 0 J, the other one with its figure. -/
theorem publishNone_eq (away : s.life.dev ≠ .simmer) : publishNone c s =
    if publishes s then publishFigures (figureWithout s c .pack) (figureWithout s c .bank) s else s.setEst c { s.est c with eg := 0 } := by
  have stays (a b : Nat) : publishWith a b s = publishFigures a b s := by
    have life : (publishFigures a b s).life = s.life := by simp
    unfold publishWith simmerPublication
    rw [life, if_neg away]
  unfold publishNone
  cases c
  · rw [← stays]; rfl
  · rw [← stays]; rfl

/-- What a channel that has nothing publishes outside SIMMER. -/
theorem publishNone_est (away : s.life.dev ≠ .simmer) : (publishNone c s).est c = { s.est c with eg := 0 } ∧
    (publishNone c s).est c.other = { s.est c.other with eg := ((publishNone c s).est c.other).eg } ∧
    (publishesZero s c.other = false → (publishNone c s).est c.other = s.est c.other) := by
  rw [publishNone_eq s c away]
  split
  · obtain ⟨pack, bank⟩ := publishFigures_est s (figureWithout s c .pack) (figureWithout s c .bank)
    have est (d : Channel) : (publishFigures (figureWithout s c .pack) (figureWithout s c .bank) s).est d =
        { s.est d with eg := figureWithout s c d } := by
      generalize publishFigures (figureWithout s c .pack) (figureWithout s c .bank) s = t at pack bank ⊢
      cases d
      · exact pack
      · exact bank
    rw [est, est]
    refine ⟨by rw [figureWithout, if_pos rfl], rfl, fun live => ?_⟩
    rw [figureWithout, if_neg (Channel.other_ne c), latestEg, live]
    rfl
  · rw [est_setEst, est_setEst, if_pos rfl, if_neg (Channel.other_ne c).symm]
    exact ⟨rfl, rfl, fun _ => rfl⟩

theorem publishNone_kept (away : s.life.dev ≠ .simmer) : (publishNone c s).life = s.life ∧ (publishNone c s).isl = s.isl ∧
    (publishNone c s).dict = s.dict ∧ (publishNone c s).flash = s.flash ∧ (publishNone c s).port = s.port ∧
    (publishNone c s).cache.slots = s.cache.slots ∧ Grows true s.ev (publishNone c s).ev := by
  rw [publishNone_eq s c away]
  split
  · obtain ⟨-, -, -, -, slots⟩ := publishFigures_result s (figureWithout s c .pack) (figureWithout s c .bank)
    exact ⟨by simp, by simp, by simp, by simp, by simp, slots, publishFigures_grows _ (.refl _) _ _⟩
  · cases c <;> exact ⟨rfl, rfl, rfl, rfl, rfl, rfl, .refl _⟩

/-! ### A state in which one estimator has changed -/

end

/-- A state in which one channel's estimator has changed, and what events leave. -/
def OnlyEst (c : Channel) (s t : State) : Prop := t = withEvents (s.setEst c (t.est c)) t

section
variable {c : Channel} {s t u : State}

theorem setEst_setEst (x y : Est) : (s.setEst c x).setEst c y = s.setEst c y := by cases c <;> rfl

theorem setEst_self (s : State) : s.setEst c (s.est c) = s := by cases c <;> rfl

theorem OnlyEst.refl (s : State) : OnlyEst c s s := by
  unfold OnlyEst
  rw [setEst_self]
  rfl

theorem OnlyEst.trans (h : OnlyEst c s t) (k : OnlyEst c t u) : OnlyEst c s u := by
  have twice : withEvents ((withEvents (s.setEst c (t.est c)) t).setEst c (u.est c)) u =
      withEvents ((s.setEst c (t.est c)).setEst c (u.est c)) u := by cases c <;> rfl
  refine (show u = _ from k).trans ?_
  rw [setEst_setEst] at twice
  exact (congrArg (fun v : State => withEvents (v.setEst c (u.est c)) u) h).trans twice

theorem setEst_only (x : Est) : OnlyEst c s (s.setEst c x) := by
  unfold OnlyEst
  rw [est_setEst, if_pos rfl]
  rfl

theorem raise_onlyEst (ev : Nat) (i : EvIsland) (vs : List (Nat × Nat)) : OnlyEst c s (raise s ev i vs) := by
  unfold OnlyEst
  rw [est_raise, setEst_self]
  exact raise_eq ..

theorem raiseIf_onlyEst (b : Bool) (ev : Nat) (i : EvIsland) (vs : List (Nat × Nat)) : OnlyEst c s (raiseIf b s ev i vs) := by
  cases b
  · exact .refl s
  · exact raise_onlyEst ..

theorem enterMismatch_only : OnlyEst c s (enterMismatch c s) := by
  unfold enterMismatch
  split
  · exact .refl s
  · exact (setEst_only _).trans (raise_onlyEst ..)

theorem calibrate_only (soc w : Rat) : OnlyEst c s (calibrate c soc w s) := setEst_only _

end

end Sys2Proof.Machine
end

section
/-! The end of discharge, relaxed readings and impedance samples (O18). -/

namespace Sys2Proof.Machine


/-! ### The end of discharge -/

section
variable (s : State) (c : Channel)

/-- A channel at its end of discharge, before its learn and its cycle follow. -/
def emptied : State :=
  let s1 := calibrate c 0 (5 / 1000) s
  raise (s1.setEst c { s1.est c with empty := true, dropRep := true }) (chanEv c 144) .control []

/-- Its learn ended and its cycle recharging, before it publishes 0 J. -/
def discharged : State := geyserRecharge c (finishLearn c (emptied s c))

theorem endOfDischarge_eq (serves : estServes s c = true) (seen : 3 ≤ (s.chan c).eod) (fresh : (s.est c).empty = false) :
    exec (.endOfDischarge c) s = .next (publishNone c (discharged s c)) := by
  have may : ¬(estServes s c = false ∨ (s.chan c).eod < 3 ∨ (s.est c).empty = true) := by
    rw [serves, fresh]
    rintro (h | h | h)
    · exact absurd h (by decide)
    · omega
    · exact absurd h (by decide)
  exact if_neg may

theorem emptied_est : (emptied s c).est c =
      { s.est c with socInt := 0, uCal := 5 / 1000, sinceCharge := 0, sinceAt := s.time.now, empty := true, dropRep := true } ∧
    (emptied s c).est c.other = s.est c.other := by
  unfold emptied calibrate
  simp [(Channel.other_ne c).symm]

theorem emptied_told : Told (chanEv c 144) s (emptied s c) := (raise_told ..).of (by cases c <;> rfl) (by cases c <;> rfl) (by cases c <;> rfl)

theorem discharged_est : ((discharged s c).est c).socInt = 0 ∧ ((discharged s c).est c).uCal = 5 / 1000 ∧
    ((discharged s c).est c).empty = true ∧ ((discharged s c).est c).dropRep = true ∧ ((discharged s c).est c).learning = false ∧
    ((s.est c).geyser = .discharging → ((discharged s c).est c).geyser = .recharging) ∧
    (discharged s c).est c.other = s.est c.other := by
  obtain ⟨points, -, learning⟩ := finishLearn_points (emptied s c) c c
  have other := (finishLearn_points (emptied s c) c c.other).2.1 (Channel.other_ne c)
  obtain ⟨here, there⟩ := emptied_est s c
  rw [here] at points
  rw [there] at other
  unfold discharged
  generalize finishLearn c (emptied s c) = u at points learning other
  have soc := (congrArg Est.socInt points :)
  have uncertain := (congrArg Est.uCal points :)
  have empty := (congrArg Est.empty points :)
  have drops := (congrArg Est.dropRep points :)
  have cycle : (u.est c).geyser = (s.est c).geyser := (congrArg Est.geyser points :)
  rw [(geyserRecharge_est u c c.other).2 (Channel.other_ne c), (geyserRecharge_est u c c).1]
  split
  · exact ⟨soc, uncertain, empty, drops, learning, fun _ => rfl, other⟩
  · rename_i idle
    exact ⟨soc, uncertain, empty, drops, learning, fun runs => absurd (cycle.trans runs) idle, other⟩

theorem discharged_frame : (discharged s c).life = s.life ∧ (discharged s c).isl = s.isl ∧ (discharged s c).dict = s.dict ∧
    (discharged s c).time = s.time ∧ (discharged s c).flash = s.flash ∧ (discharged s c).port = s.port ∧ (discharged s c).cache = s.cache := by
  simp [discharged, geyserRecharge_frame, finishLearn_frame, emptied, calibrate_frame]

theorem discharged_told : Told (chanEv c 144) s (discharged s c) :=
  (emptied_told s c).grows (geyserRecharge_grows _ _ (finishLearn_grows _ _ (.refl _)))

theorem discharged_zero (d : Channel) (away : d ≠ c) : publishesZero (discharged s c) d = publishesZero s d := by
  obtain ⟨-, isl, dict, -⟩ := discharged_frame s c
  have emptied' : (emptied s c).pack = s.pack ∧ (emptied s c).bank = s.bank ∧ (emptied s c).hold = s.hold := by
    simp [emptied, calibrate_frame]
  obtain ⟨pack, bank, hold⟩ := emptied'
  have learned : (finishLearn c (emptied s c)).pack = s.pack ∧ (finishLearn c (emptied s c)).bank = s.bank ∧
      (finishLearn c (emptied s c)).hold = s.hold := by
    simp [finishLearn_frame, pack, bank, hold]
  refine publishesZero_congr d isl dict ?_ ?_ ?_
  · refine (geyserRecharge_measure _ c d).trans (congrArg Chan.measure ?_)
    exact chan_congr d learned.1 learned.2.1
  · refine (geyserRecharge_state _ c).trans ?_
    rw [learned.2.2]
  · obtain ⟨-, -, -, -, -, -, other⟩ := discharged_est s c
    have here : d = c.other := by
      revert away
      cases c <;> cases d <;> decide
    rw [here, other]

end

/-! ### A relaxed reading, and the impedance cells -/

section
variable (s : State) (c : Channel)

theorem endAwaiting_only : OnlyEst .pack s (endAwaiting s) := by
  unfold endAwaiting
  split
  · exact (setEst_only _).trans (raise_onlyEst ..)
  · exact setEst_only _

theorem endAwaiting_est : (endAwaiting s).packEst.socInt = s.packEst.socInt ∧ (endAwaiting s).packEst.uCal = s.packEst.uCal ∧
    (endAwaiting s).packEst.awaiting = false ∧ (endAwaiting s).packEst.sinceCharge = s.packEst.sinceCharge := by
  unfold endAwaiting
  split
  · have est (x : Est) : (raise (s.setEst .pack x) 154 .control []).packEst = x := est_raise (s.setEst .pack x) .pack 154 .control []
    rw [est]
    exact ⟨rfl, rfl, rfl, rfl⟩
  · rename_i calm
    exact ⟨rfl, rfl, (Bool.not_eq_true _).mp calm, rfl⟩

theorem enterMismatch_est : (enterMismatch c s).est c = { s.est c with mismatch := true } := by
  unfold enterMismatch
  split
  · rename_i noted
    rw [← noted]
  · rw [est_raise, est_setEst, if_pos rfl]

/-- A relaxed reading that is taken, before the channel stops waiting for one. -/
def relaxedTo (soc : Rat) : State :=
  let t := calibrate .pack soc (ocvUncertainty (chemistry s .pack) soc) s
  if uSoc s .pack + 5 / 100 < max (soc - s.packEst.socInt) (s.packEst.socInt - soc) ∧ s.packEst.mismatch = false then enterMismatch .pack t else t

theorem relaxedTo_only (soc : Rat) : OnlyEst .pack s (relaxedTo s soc) := by
  unfold relaxedTo
  dsimp only
  split
  · exact (calibrate_only _ _).trans enterMismatch_only
  · exact calibrate_only _ _

theorem relaxedTo_est (soc : Rat) : (relaxedTo s soc).packEst.socInt = soc ∧
    (relaxedTo s soc).packEst.uCal = ocvUncertainty (chemistry s .pack) soc ∧ (relaxedTo s soc).packEst.sinceCharge = 0 := by
  unfold relaxedTo
  dsimp only
  split
  · have est : (enterMismatch .pack (calibrate .pack soc (ocvUncertainty (chemistry s .pack) soc) s)).packEst = _ := enterMismatch_est _ .pack
    rw [est]
    exact ⟨rfl, rfl, rfl⟩
  · exact ⟨rfl, rfl, rfl⟩

theorem discardImpedance_only : OnlyEst c s (discardImpedance c s) := by
  unfold discardImpedance
  dsimp only
  split
  · exact (setEst_only _).trans enterMismatch_only
  · exact setEst_only _

theorem discardImpedance_est : ((discardImpedance c s).est c).discards = (s.est c).discards + 1 ∧
    ((discardImpedance c s).est c).impedance = (s.est c).impedance := by
  unfold discardImpedance
  dsimp only
  split
  · rw [enterMismatch_est, est_setEst, if_pos rfl]
    exact ⟨rfl, rfl⟩
  · rw [est_setEst, if_pos rfl]
    exact ⟨rfl, rfl⟩

/-- The running mean of an impedance cell after a sample. -/
def impedanceMean (v : Nat × Nat) (x : Rat) : Nat × Nat :=
  (((v.1 : Rat) + (x - (v.1 : Rat)) / ((min (v.2 + 1) 8 : Nat) : Rat)).floor.toNat, min 255 (v.2 + 1))

theorem takeImpedance_eq (i : Nat) (x : Rat) : takeImpedance c i x s = raiseIf ((impedanceCell s c i).2 == 0) (s.setEst c { s.est c with
    impedance := mapSet (s.est c).impedance i (impedanceMean (impedanceCell s c i) x), discards := 0 }) (chanEv c 151) .control [] := rfl

theorem takeImpedance_only (i : Nat) (x : Rat) : OnlyEst c s (takeImpedance c i x s) := by
  rw [takeImpedance_eq]
  exact (setEst_only _).trans (raiseIf_onlyEst ..)

theorem takeImpedance_est (i : Nat) (x : Rat) : (takeImpedance c i x s).est c = { s.est c with
    impedance := mapSet (s.est c).impedance i (impedanceMean (impedanceCell s c i) x), discards := 0 } := by
  rw [takeImpedance_eq, est_raiseIf, est_setEst, if_pos rfl]

/-- The first sample of a cell is its mean. -/
theorem impedanceMean_first {v : Nat × Nat} (x : Rat) (first : v.2 = 0) : impedanceMean v x = (x.floor.toNat, 1) := by
  unfold impedanceMean
  rw [first]
  norm_num

theorem takeImpedance_told (i : Nat) (x : Rat) (first : (impedanceCell s c i).2 = 0) : Told (chanEv c 151) s (takeImpedance c i x s) := by
  rw [takeImpedance_eq, first]
  exact (raise_told ..).of (by cases c <;> rfl) (by cases c <;> rfl) (by cases c <;> rfl)

end

end Sys2Proof.Machine
end

section
open Sys2Proof Sys2Proof.Machine

/-- Settles O18: the end of discharge, the relaxed reading and an impedance sample. -/
theorem estimatorPoints : Obligations.EstimatorPoints := by
  unfold Obligations.EstimatorPoints
  refine ⟨?discharge, ?relaxed, ?impedance⟩
  case discharge =>
    intro c s serves seen fresh away
    obtain ⟨soc, uncertain, empty, drops, learning, cycle, other⟩ := discharged_est s c
    obtain ⟨life, isl, dict, time, flash, port, cache⟩ := discharged_frame s c
    have told := discharged_told s c
    have zero := discharged_zero s c c.other (Channel.other_ne c)
    have step := endOfDischarge_eq s c serves seen fresh
    generalize discharged s c = u at *
    have stays : u.life.dev ≠ .simmer := by rw [life]; exact away
    obtain ⟨here, there, live⟩ := publishNone_est u c stays
    obtain ⟨life', isl', dict', flash', port', slots, grows⟩ := publishNone_kept u c stays
    rw [other] at there live
    rw [zero] at live
    refine ⟨_, step, told.grows grows, ?_, ?_, ?_, ?_, ?_, ?_, ?_, there, live, life'.trans life, isl'.trans isl, dict'.trans dict,
      ((publishNone_frame c u).1).trans time, flash'.trans flash, port'.trans port, slots.trans (congrArg Cache.slots cache)⟩ <;> rw [here]
    · exact soc
    · exact uncertain
    · exact empty
    · exact drops
    · exact learning
    · exact cycle
  case relaxed =>
    intro s serves rest
    let soc := socOfOcv (profileOf s .pack) ((s.pack.mv : Rat) / (cells s .pack : Rat)) (s.pack.dt : Rat)
    have step : exec (.ocvRelaxed .pack) s = .next (endAwaiting (relaxedTo s soc)) := if_neg (by simp [serves, rest])
    obtain ⟨at_, uncertain, since⟩ := relaxedTo_est s soc
    have only := (relaxedTo_only s soc).trans (endAwaiting_only _)
    generalize relaxedTo s soc = u at *
    obtain ⟨at', uncertain', awaiting, since'⟩ := endAwaiting_est u
    exact ⟨_, step, at'.trans at_, by rw [uncertain', at', at_, uncertain], awaiting, since'.trans since, only⟩
  case impedance =>
    intro c dmv dma s serves moved large
    dsimp only
    have may : ¬(estServes s c = false ∨ dma = 0 ∨ 5 * dma.natAbs < cOf s c) := by
      rw [serves]
      rintro (h | h | h)
      · exact absurd h (by decide)
      · exact moved h
      · omega
    have step : exec (.impedanceSample c dmv dma) s = _ := if_neg may
    generalize cellIndex (s.chan c).dt (s.est c).socInt = i at *
    generalize impedanceOf s c dmv dma = x at *
    by_cases outside : 4 * x < (((profileOf s c).impedance.getD i 0 : Nat) : Rat) ∨ 4 * (((profileOf s c).impedance.getD i 0 : Nat) : Rat) < x
    · rw [if_pos outside] at step
      refine ⟨_, step, fun low high => ?_, fun _ => discardImpedance_est s c, discardImpedance_only s c⟩
      exact absurd outside (not_or.2 ⟨not_lt.2 low, not_lt.2 high⟩)
    · rw [if_neg outside] at step
      have est := takeImpedance_est s c i x
      refine ⟨_, step, fun _ _ => ⟨by rw [est], fun k other => ?_, fun first => ⟨takeImpedance_told s c i x first, ?_⟩⟩,
        fun out => absurd out outside, takeImpedance_only s c i x⟩
      · rw [est]
        exact (mapFind_mapSet ..).trans (if_neg other)
      · rw [est]
        refine (mapFind_mapSet ..).trans ?_
        rw [if_pos rfl, impedanceMean_first x first]
end

section
/-! The end of charge, chargers that fail, and imbalance (O16). -/

namespace Sys2Proof.Machine


/-! ### Cycles that end or are aborted -/

section
variable (s : State) (c d : Channel)

theorem geyserEnds_adm : (geyserEnds s).adm = { s.adm with stage := (geyserEnds s).adm.stage } := by
  unfold geyserEnds stageRefresh
  dsimp only
  split <;> simp

theorem geyserEnds_chan : (geyserEnds s).chan d = s.chan d ∧ (geyserEnds s).est d = s.est d :=
  ⟨chan_congr d (by simp) (by simp), est_congr d (by simp) (by simp)⟩

theorem discardLearn_est (why : Cause) (away : d ≠ c) : (discardLearn c why s).est d = s.est d := by
  unfold discardLearn
  split
  · rw [est_raise, est_setEst, if_neg away.symm]
  · rfl

theorem geyserDropped_est (away : d ≠ c) : (geyserDropped s c).est d = s.est d := by
  unfold geyserDropped
  dsimp only
  rw [est_setEst, if_neg away.symm, discardLearn_est _ _ _ _ away]
  rfl

theorem geyserDropped_adm : (geyserDropped s c).adm = { s.adm with geyserForce := false } := by
  have set (t : State) (x : Est) : (t.setEst c x).adm = t.adm := by cases c <;> rfl
  unfold geyserDropped
  dsimp only
  rw [set]
  simp

/-- An abort leaves the other estimator and, but for the force bit, the admission. -/
theorem geyserAbort_other : ((d ≠ c) → (geyserAbort c s).est d = s.est d) ∧
    (geyserAbort c s).adm = { s.adm with geyserForce := (geyserAbort c s).adm.geyserForce } ∧ (geyserAbort c s).chan d = s.chan d := by
  refine ⟨fun away => ?_, ?_, chan_congr d (by simp) (by simp)⟩
  · rw [geyserAbort_eq]
    split
    · rw [est_raise, est_endAssist, geyserDropped_est s c d away]
    · rfl
  · rw [geyserAbort_eq]
    split
    · simp [geyserDropped_adm]
    · rfl

theorem geyserDone_est : (geyserDone c s).est c = (if (s.est c).geyser = .recharging then { s.est c with geyser := .idle } else s.est c) ∧
    (d ≠ c → (geyserDone c s).est d = s.est d) ∧ (geyserDone c s).chan d = s.chan d ∧
    (geyserDone c s).adm = { s.adm with geyserForce := (geyserDone c s).adm.geyserForce, stage := (geyserDone c s).adm.stage } ∧
    ((s.est c).geyser ≠ .recharging → geyserDone c s = s) := by
  unfold geyserDone
  split
  · rename_i runs
    refine ⟨?_, fun away => ?_, ?_, ?_, fun idle => absurd runs idle⟩
    · rw [(geyserEnds_chan _ c).2, est_raise, est_setEst, if_pos rfl]
    · rw [(geyserEnds_chan _ d).2, est_raise, est_setEst, if_neg away.symm]
      rfl
    · rw [(geyserEnds_chan _ d).1, chan_raise, chan_setEst]
      rfl
    · rw [geyserEnds_adm]
      simp
  · exact ⟨rfl, fun _ => rfl, rfl, rfl, fun _ => rfl⟩

theorem geyserDone_grows {held : Bool} {g : Events} (h : Grows held g s.ev) : Grows held g (geyserDone c s).ev := by
  have set (x : Est) (b : Bool) : (({ s with adm.geyserForce := b } : State).setEst c x).ev = s.ev := by cases c <;> rfl
  unfold geyserDone
  split
  · exact geyserEnds_grows _ (raise_grows _ _ _ _ (by rw [set]; exact h))
  · exact h

end

/-! ### The end of charge -/

section
variable (s : State) (c : Channel)

theorem endCharge_est (d : Channel) : (endCharge c s).est d = s.est d := by cases c <;> cases d <;> rfl

theorem endCharge_pack : (endCharge .pack s).pack.enable = false ∧ (endCharge .pack s).pack.full = true ∧
    (endCharge .pack s).pack.inhibit.getLsbD 7 = true := by
  refine ⟨rfl, rfl, ?_⟩
  have inhibit : (endCharge .pack s).pack.inhibit = s.pack.inhibit ||| 0x80#8 := rfl
  rw [inhibit]
  simp

/-- A channel that is full, with its learn started, before the other charger and its cycle follow. -/
def charged : State := raise (startLearn c (calibrate c 1 (5 / 1000) (endCharge c s))) (chanEv c 132) .supervisor []

theorem charged_est : (charged s c).est c = { s.est c with
      socInt := 1, uCal := 5 / 1000, sinceCharge := 0, sinceAt := s.time.now
      learning := true, learnOut := 0, learnIn := 0, learnTemp := 0, learnRate := 0, learnCount := 0, learnHot := false
      learnMv := ((charged s c).est c).learnMv } ∧
    (charged s c).est c.other = s.est c.other ∧ (∀ d, (charged s c).chan d = (endCharge c s).chan d) := by
  have time : (endCharge c s).time = s.time := by cases c <;> rfl
  unfold charged startLearn calibrate
  simp only [est_raise, est_setEst, endCharge_est, chan_raise, chan_setEst, time, (Channel.other_ne c).symm, if_true, if_false]
  exact ⟨trivial, trivial, fun _ => trivial⟩

/-- The same with the other charger looked at again. -/
def chargedOn : State := chargeRefresh (charged s c) c.other

theorem chargedOn_est : (chargedOn s c).est c = { s.est c with
      socInt := 1, uCal := 5 / 1000, sinceCharge := 0, sinceAt := s.time.now
      learning := true, learnOut := 0, learnIn := 0, learnTemp := 0, learnRate := 0, learnCount := 0, learnHot := false
      learnMv := ((chargedOn s c).est c).learnMv } ∧
    (chargedOn s c).est c.other = s.est c.other ∧ (chargedOn s c).chan c = (endCharge c s).chan c := by
  obtain ⟨here, there, chan⟩ := charged_est s c
  have est (d : Channel) : (chargedOn s c).est d = (charged s c).est d := est_congr d (by simp [chargedOn]) (by simp [chargedOn])
  rw [est, est, ← chan]
  exact ⟨here, there, (chargeRefresh_chan (charged s c) c.other c).2.2 (Channel.other_ne c).symm⟩

theorem chargedOn_told : Told (chanEv c 132) s (chargedOn s c) := by
  have told : Told (chanEv c 132) s (charged s c) :=
    (raise_told ..).of (by cases c <;> rfl) (by cases c <;> rfl) (by cases c <;> rfl)
  exact told.grows (chargeRefresh_grown _ _ (.refl _))

theorem chargedOn_frame : (chargedOn s c).life = s.life ∧ (chargedOn s c).isl = s.isl ∧ (chargedOn s c).dict = s.dict ∧
    (chargedOn s c).time = s.time ∧ (chargedOn s c).cache = s.cache ∧ (chargedOn s c).adm = s.adm ∧ (chargedOn s c).rails = s.rails ∧
    (chargedOn s c).keep = s.keep ∧ (chargedOn s c).flash = s.flash := by
  cases c <;> simp [chargedOn, charged, startLearn, calibrate, endCharge, holdCharge, State.setEst, State.setChan]

/-- A channel that is full stands at its end of charge. -/
theorem chargedOn_chan : (c = .pack → (chargedOn s c).pack.enable = false ∧ (chargedOn s c).pack.full = true ∧
      (chargedOn s c).pack.inhibit.getLsbD 7 = true) ∧
    (c = .bank → (chargedOn s c).bank.phase = .float) := by
  obtain ⟨-, -, chan⟩ := chargedOn_est s c
  cases c with
  | pack =>
    have here : (chargedOn s .pack).pack = (endCharge .pack s).pack := chan
    refine ⟨fun _ => ?_, fun no => absurd no (by decide)⟩
    rw [here]
    exact endCharge_pack s
  | bank =>
    have here : (chargedOn s .bank).bank = (endCharge .bank s).bank := chan
    refine ⟨fun no => absurd no (by decide), fun _ => ?_⟩
    rw [here]
    rfl

end

/-! ### A charger that fails -/

section
variable (s : State) (c d : Channel) (code : Nat)

/-- A channel's fault code as it is latched. -/
def latchedCode (s : State) (c : Channel) (code : Nat) : Nat := if (s.chan c).fault = 0 then code else (s.chan c).fault

/-- A channel with its fault latched and told. -/
def latched : State := raise (s.setChan c { s.chan c with fault := latchedCode s c code }) (chanEv c 135) .supervisor []

theorem latched_chan : ((latched s c code).chan c).fault = latchedCode s c code ∧
    (d ≠ c → (latched s c code).chan d = s.chan d) := by
  unfold latched
  rw [chan_raise, chan_raise, chan_setChan, if_pos rfl]
  exact ⟨rfl, fun away => by rw [chan_setChan, if_neg away.symm]⟩

theorem faultChannel_eq : faultChannel c code s = keepPend (chargesRefresh (latched s c code)) := rfl

theorem faultChannel_chan (nonzero : code ≠ 0) : ((faultChannel c code s).chan c).fault = latchedCode s c code ∧
    ((faultChannel c code s).chan c).enable = false ∧ (d ≠ c → ((faultChannel c code s).chan d).fault = (s.chan d).fault) := by
  have kept (t : State) (d : Channel) : (keepPend t).chan d = t.chan d := rfl
  obtain ⟨here, -⟩ := latched_chan s c c code
  obtain ⟨-, there⟩ := latched_chan s c d code
  have standing : latchedCode s c code ≠ 0 := by
    unfold latchedCode
    split
    · exact nonzero
    · assumption
  have measure (d : Channel) : ((chargesRefresh (latched s c code)).chan d).fault = ((latched s c code).chan d).fault :=
    (congrArg Chan.fault (chargesRefresh_measure (latched s c code) d) :)
  rw [faultChannel_eq, kept, kept]
  refine ⟨(measure c).trans here, chargesRefresh_off_fault _ _ ?_, fun away => (measure d).trans (congrArg Chan.fault (there away))⟩
  have faulted : chanFaulted (latched s c code) c = true := by
    unfold chanFaulted
    rw [here]
    simp [standing]
  simp [faulted]

theorem faultChannel_told : Told (chanEv c 135) s (faultChannel c code s) := by
  have told : Told (chanEv c 135) s (latched s c code) :=
    (raise_told ..).of (by cases c <;> rfl) (by cases c <;> rfl) (by cases c <;> rfl)
  exact (told.grows (chargesRefresh_grown _ (.refl _))).ev_eq rfl

theorem faultChannel_keep : (faultChannel c code s).keep = { s.keep with pending := true } := by
  rw [faultChannel_eq]
  have keep : (chargesRefresh (latched s c code)).keep = s.keep := by simp [latched]
  unfold keepPend
  rw [keep]

/-- A charger that has failed, with its cycle aborted. -/
def failed : State := geyserEnds (geyserAbort c (faultChannel c code s))

theorem faultNow_eq : faultNow c code s = if c = .pack then leaveSimmer 4 (failed s c code) else failed s c code := rfl

theorem failed_chan : (failed s c code).chan d = (faultChannel c code s).chan d :=
  (geyserEnds_chan _ d).1.trans (geyserAbort_other _ c d).2.2

theorem failed_est (away : d ≠ c) : (failed s c code).est d = s.est d :=
  ((geyserEnds_chan _ d).2.trans ((geyserAbort_other _ c d).1 away)).trans (est_congr d (by simp) (by simp))

theorem failed_adm : (failed s c code).adm =
    { s.adm with geyserForce := (failed s c code).adm.geyserForce, stage := (failed s c code).adm.stage } := by
  have abort := (geyserAbort_other (faultChannel c code s) c c).2.1
  have same : (faultChannel c code s).adm = s.adm := by simp
  unfold failed
  rw [geyserEnds_adm, abort, same]

theorem failed_frame : (failed s c code).life = s.life ∧ (failed s c code).isl = s.isl ∧ (failed s c code).dict = s.dict ∧
    (failed s c code).time = s.time ∧ (failed s c code).cache = s.cache ∧ (failed s c code).flash = s.flash ∧
    (failed s c code).nor = s.nor ∧ (failed s c code).port = s.port ∧ (failed s c code).keep = { s.keep with pending := true } := by
  simp [failed, faultChannel_keep]

theorem failed_told : Told (chanEv c 135) s (failed s c code) :=
  (faultChannel_told s c code).grows (geyserEnds_grows _ (geyserAbort_grows _ _ (.refl _)))

/-- What makes a charger fail fails it, but for the overcharge with its readings counted anew. -/
theorem chargerFails {s : State} {c : Channel} {code : Nat} {cmd : Instr}
    (which : cmd = Instr.prechargeTimeout ∧ c = .pack ∧ code = 3 ∧ s.pack.enable = true ∧ s.pack.phase = .precharge ∨
      cmd = .chargerOvercurrent c ∧ code = 1 ∧ (s.chan c).enable = true ∧
        (60 * (s.chan c).setpoint + cRate s c : Int) < 50 * (s.chan c).ma ∨
      cmd = .chargerStuckOn c ∧ code = 2 ∧ s.life.dev.supervised = true ∧ chanConfigured s c = true ∧ (s.chan c).enable = false ∧
        (cRate s c : Int) < 50 * (s.chan c).ma ∨
      cmd = .overcharge c ∧ code = 4 ∧ s.life.dev.supervised = true ∧ chanConfigured s c = true ∧ 3 ≤ (s.chan c).overRun) :
    ∃ u, exec cmd s = .next (faultNow c code u) ∧ code ≠ 0 ∧ (∀ d, (u.chan d).fault = (s.chan d).fault) ∧ (∀ d, u.est d = s.est d) ∧
      u.life = s.life ∧ u.isl = s.isl ∧ u.dict = s.dict ∧ u.time = s.time ∧ u.cache = s.cache ∧ u.adm = s.adm ∧ u.keep = s.keep ∧
      u.flash = s.flash ∧ u.nor = s.nor ∧ u.port = s.port ∧ u.ev = s.ev := by
  rcases which with ⟨rfl, rfl, rfl, on, phase⟩ | ⟨rfl, rfl, on, above⟩ | ⟨rfl, rfl, supervised, configured, off, above⟩ |
    ⟨rfl, rfl, supervised, configured, seen⟩
  · exact ⟨s, congrArg Host.Outcome.next (if_pos ⟨on, phase⟩), by decide, fun _ => rfl, fun _ => rfl, rfl, rfl, rfl, rfl, rfl, rfl, rfl, rfl,
      rfl, rfl, rfl⟩
  · exact ⟨s, congrArg Host.Outcome.next (if_pos ⟨on, above⟩), by decide, fun _ => rfl, fun _ => rfl, rfl, rfl, rfl, rfl, rfl, rfl, rfl, rfl,
      rfl, rfl, rfl⟩
  · exact ⟨s, congrArg Host.Outcome.next (if_pos ⟨supervised, configured, off, above⟩), by decide, fun _ => rfl, fun _ => rfl, rfl, rfl, rfl,
      rfl, rfl, rfl, rfl, rfl, rfl, rfl, rfl⟩
  · refine ⟨s.setChan c { s.chan c with overRun := 0 }, congrArg Host.Outcome.next (if_pos ⟨supervised, configured, seen⟩), by decide,
      fun d => ?_, fun d => est_setChan .., ?_⟩
    · rw [chan_setChan]
      split
      · rename_i same
        rw [← same]
      · rfl
    · cases c <;> exact ⟨rfl, rfl, rfl, rfl, rfl, rfl, rfl, rfl, rfl, rfl, rfl⟩

end

/-! ### Channels in the Sinter -/

section
variable (s : State) (d : Channel)

theorem enterState_measure (dev : DevState) (why : Cause) : ((enterState dev why s).chan d).measure = (s.chan d).measure := by
  have balanced (t : State) (b : Vector Bool 6) : ({ t with hold.bal := b } : State).chan d = t.chan d := chan_congr d rfl rfl
  have refreshed (t : State) : (islandsRefresh t).chan d = t.chan d := chan_congr d (by simp) (by simp)
  have entered (l : Life) : ({ s with life := l } : State).chan d = s.chan d := chan_congr d rfl rfl
  unfold enterState
  dsimp only
  split
  · rw [balanced, chargesRefresh_measure, chan_raise, refreshed, entered]
  · rw [chargesRefresh_measure, chan_raise, refreshed, entered]

theorem enterSinter_measure (cause : Nat) (dram : s.life.dramLost = false) : ((enterSinter cause s).chan d).measure = (s.chan d).measure := by
  have supplied : ((sinterSupplied cause s).chan d).measure = ((sinterTold cause s).chan d).measure :=
    congrArg Chan.measure (chan_congr d (by simp [sinterSupplied]) (by simp [sinterSupplied]))
  have told : ((sinterTold cause s).chan d).measure = (s.chan d).measure := by
    unfold sinterTold
    rw [chan_raiseIf, chan_raise, enterState_measure]
    exact congrArg Chan.measure (chan_congr d (by simp [sintering]) (by simp [sintering]))
  have same : (enterSinter cause s).pack = (sinterSupplied cause s).pack ∧ (enterSinter cause s).bank = (sinterSupplied cause s).bank := by
    rw [enterSinter_eq, if_neg (by simp [dram])]
    generalize sinterSupplied cause s = t
    dsimp only
    split <;> simp
  exact (congrArg Chan.measure (chan_congr d same.1 same.2)).trans (supplied.trans told)

end

/-! ### Cell imbalance -/

theorem leastOf_le {l : List Nat} {a : Nat} (mem : a ∈ l) : leastOf l ≤ a := by
  induction l with
  | nil => exact absurd mem List.not_mem_nil
  | cons b l ih =>
    cases l with
    | nil => exact (List.mem_singleton.1 mem).ge
    | cons c l =>
      rcases List.mem_cons.1 mem with rfl | later
      · exact Nat.min_le_left ..
      · exact (Nat.min_le_right ..).trans (ih later)

theorem le_foldl_max {l : List Nat} {a : Nat} (m : Nat) (mem : a ∈ l ∨ a ≤ m) : a ≤ l.foldl max m := by
  induction l generalizing m with
  | nil => exact mem.resolve_left List.not_mem_nil
  | cons b l ih =>
    refine ih (max m b) ?_
    rcases mem with mem | low
    · rcases List.mem_cons.1 mem with rfl | later
      · exact .inr (Nat.le_max_right ..)
      · exact .inl later
    · exact .inr (low.trans (Nat.le_max_left ..))

end Sys2Proof.Machine
end

section
open Sys2Proof Sys2Proof.Machine

/-- Settles O16: a charge that ends, a target that is reached, an imbalance and a charger that fails. -/
theorem charging : Obligations.Charging := by
  unfold Obligations.Charging
  refine ⟨?ends, ?target, ?imbalance, ?fails⟩
  case ends =>
    intro c s t0 taper enable phase late
    have step : exec (.endOfCharge c) s = .next (geyserDone c (chargedOn s c)) := by
      show execEndOfCharge c s = _
      unfold execEndOfCharge
      dsimp only
      rw [taper]
      refine if_neg ?_
      rintro (h | h | h)
      · exact absurd (enable.symm.trans h) (by decide)
      · exact phase h
      · exact absurd late (not_le.2 h)
    obtain ⟨here, there, -⟩ := chargedOn_est s c
    obtain ⟨pack, bank⟩ := chargedOn_chan s c
    have told := (chargedOn_told s c).grows (u := geyserDone c (chargedOn s c)) (geyserDone_grows _ _ (.refl _))
    obtain ⟨life, isl, dict, time, cache, adm, rails, keep, flash⟩ := chargedOn_frame s c
    generalize chargedOn s c = u at *
    obtain ⟨est, -, -, admT, idle⟩ := geyserDone_est u c c
    obtain ⟨-, other, -⟩ := geyserDone_est u c c.other
    obtain ⟨time', isl', life', -, dict', -, -, -, cache', pack', bank', rails', keep', -, -, flash', -⟩ := geyserDone_frame c u
    have cycle : (u.est c).geyser = (s.est c).geyser := by rw [here]
    have learn : ((geyserDone c u).est c).socInt = 1 ∧ ((geyserDone c u).est c).uCal = 5 / 1000 ∧
        ((geyserDone c u).est c).sinceCharge = 0 ∧ ((geyserDone c u).est c).learning = true ∧ ((geyserDone c u).est c).learnOut = 0 := by
      rw [est]
      split <;> rw [here] <;> exact ⟨rfl, rfl, rfl, rfl, rfl⟩
    obtain ⟨soc, uncertain, since, learning, out⟩ := learn
    rw [adm] at admT
    refine ⟨_, step, told, soc, uncertain, since, learning, out, fun runs => ?_, by rw [pack']; exact pack, by rw [bank']; exact bank,
      (other (Channel.other_ne c)).trans there, life'.trans life, isl'.trans isl, dict'.trans dict, time'.trans time, cache'.trans cache,
      fun still => ?_, admT, rails'.trans rails, keep'.trans keep, flash'.trans flash⟩
    · rw [est, if_pos (cycle.trans runs)]
    · rw [idle (by rw [cycle]; exact still), adm]
  case target =>
    intro c s slewing at_
    have step : exec (.chargeTargetReached c) s =
        .next (raise (s.setChan c { s.chan c with target := (s.chan c).targetFinal, slewing := false }) (chanEv c 133) .supervisor []) :=
      congrArg Host.Outcome.next (if_pos ⟨slewing, at_⟩)
    exact ⟨_, step, (raise_told ..).of (by cases c <;> rfl) (by cases c <;> rfl) (by cases c <;> rfl), raise_eq ..⟩
  case imbalance =>
    intro s float apart
    obtain ⟨a, low, b, high, apart⟩ := apart
    have beyond : leastOf (cellVoltages s) + 150 < (cellVoltages s).foldl max 0 :=
      (Nat.add_le_add_right (leastOf_le low) 150).trans_lt (apart.trans_le (le_foldl_max 0 (.inl high)))
    have step : exec .cellImbalance s = .next (raise s 203 .supervisor []) := by
      show execCellImbalance s = _
      unfold execCellImbalance
      rw [float, decide_eq_true beyond]
      rfl
    exact ⟨_, step, raise_told .., raise_eq ..⟩
  case fails =>
    intro c code cmd s which
    obtain ⟨u, step, nonzero, fault, est, life, isl, dict, time, cache, adm, keep, flash, nor, port, ev⟩ := chargerFails which
    have told : Told (chanEv c 135) s (failed u c code) := (failed_told u c code).of isl dict ev
    obtain ⟨life', isl', dict', time', cache', flash', nor', port', keep'⟩ := failed_frame u c code
    have code' : ((failed u c code).chan c).fault = (if (s.chan c).fault = 0 then code else (s.chan c).fault) := by
      rw [failed_chan, (faultChannel_chan u c c code nonzero).1, latchedCode, fault]
    refine ⟨fun away => ?_, fun pack simmer dram => ?_⟩
    · have stays : faultNow c code u = failed u c code := by
        rw [faultNow_eq]
        split
        · rename_i pack
          refine if_neg ?_
          rw [life', life]
          exact away.resolve_left (by rw [pack]; decide)
        · rfl
      rw [stays] at step
      have admT := failed_adm u c code
      rw [adm] at admT
      refine ⟨_, step, told, code', ?_, by rw [keep', keep], ?_, ?_, life'.trans life, isl'.trans isl, dict'.trans dict, time'.trans time,
        cache'.trans cache, admT, flash'.trans flash, nor'.trans nor, port'.trans port⟩
      · rw [failed_chan]
        exact (faultChannel_chan u c c code nonzero).2.1
      · rw [failed_chan, (faultChannel_chan u c c.other code nonzero).2.2 (Channel.other_ne c), fault]
      · rw [failed_est u c c.other code (Channel.other_ne c), est]
    · subst pack
      have enters : faultNow .pack code u = enterSinter 4 (failed u .pack code) := by
        rw [faultNow_eq, if_pos rfl, leaveSimmer, life', life, if_pos simmer]
      rw [enters] at step
      have kept : (failed u .pack code).life.dramLost = false := by rw [life', life]; exact dram
      obtain ⟨dev, cause, dict'', -⟩ := enterSinter_kept (failed u .pack code) 4 kept
      have measure := enterSinter_measure (failed u .pack code) .pack 4 kept
      generalize enterSinter 4 (failed u .pack code) = t at *
      generalize failed u .pack code = v at *
      have latches : (t.chan .pack).fault = (v.chan .pack).fault := (congrArg Chan.fault measure :)
      exact ⟨_, step, latches.trans code', dev, cause, (dict''.trans dict').trans dict⟩
end

section
/-! Samples, channels that are gone, and publications (O15). -/

namespace Sys2Proof.Machine


/-! ### A sample in its channel -/

section
variable (s : State) (c d : Channel)

/-- A channel that is looked at for its NTC: fitted where it is configured and its reading is plausible. -/
theorem detect_chan : (detect c s).chan c = { s.chan c with
      fitted := (s.chan c).fitted || (chanConfigured s c && ntcOk (s.chan c)), wasRemoved := ((detect c s).chan c).wasRemoved } ∧
    (d ≠ c → (detect c s).chan d = s.chan d) := by
  have reset (t : State) : (keepPend (resetChannel c t)).chan d = t.chan d ∧ (keepPend (resetChannel c t)).chan c = t.chan c :=
    ⟨(show _ = (resetChannel c t).chan d from rfl).trans (chan_congr d (by simp) (by simp)),
      (show _ = (resetChannel c t).chan c from rfl).trans (chan_congr c (by simp) (by simp))⟩
  unfold detect
  dsimp only
  split
  · rename_i stays
    refine ⟨?_, fun _ => rfl⟩
    have fitted : ((s.chan c).fitted || (chanConfigured s c && ntcOk (s.chan c))) = (s.chan c).fitted := by
      rcases stays with h | h | h <;> simp [h]
    rw [fitted]
  · rename_i found
    have configured : chanConfigured s c = true := by
      by_contra no
      exact found (.inr (.inl (by simpa using no)))
    have plausible : ntcOk (s.chan c) = true := by
      by_contra no
      exact found (.inr (.inr (by simpa using no)))
    rw [configured, plausible]
    split
    · rw [(reset _).1, (reset _).2, chan_setChan, chan_setChan, if_pos rfl, chan_raise, chan_raise, chan_setChan, chan_setChan, if_pos rfl]
      refine ⟨by simp, fun away => ?_⟩
      rw [if_neg away.symm, if_neg away.symm]
    · rw [chan_raise, chan_raise, chan_setChan, chan_setChan, if_pos rfl]
      exact ⟨by simp, fun away => if_neg away.symm⟩

/-- The charge counter of an estimator, and its state of charge. -/
def Est.counts (x : Est) : BitVec 40 × BitVec 40 × Rat := (x.counter, x.lastCounter, x.socInt)

theorem counts_of_points {x y : Est} (same : x.points = y.points) : x.counts = y.counts :=
  (congrArg Est.counts same : _)

theorem runs_of_points {x y : Est} (same : x.points = y.points) : geyserRuns x = geyserRuns y :=
  (congrArg geyserRuns same : _)

theorem resetChannel_est : ((resetChannel c s).est c).counts = (s.est c).counts ∧
    geyserRuns ((resetChannel c s).est c) = geyserRuns (s.est c) ∧ (d ≠ c → (resetChannel c s).est d = s.est d) := by
  unfold resetChannel
  rw [est_raise, est_raise]
  generalize set : s.setEst c { s.est c with
    fcc := none, learnedAt := none, cycles := 0, cycleRest := 0, impedance := [], history := [], quarantined := 0, quarantines := 0,
    geyser := if geyserRuns (s.est c) then (s.est c).geyser else .due, geyserAfter := 0 } = u
  obtain ⟨points, -, -⟩ := healthRefresh_points u c c
  obtain ⟨-, other, -⟩ := healthRefresh_points u c d
  refine ⟨(counts_of_points points).trans ?_, (runs_of_points points).trans ?_, fun away => (other away).trans ?_⟩
  · rw [← set, est_setEst, if_pos rfl]
    rfl
  · rw [← set, est_setEst, if_pos rfl]
    by_cases runs : geyserRuns (s.est c) = true
    · simp only [runs, if_true]
      exact runs
    · simp only [runs]
      simp [geyserRuns]
  · rw [← set, est_setEst, if_neg away.symm]

theorem detect_est : ((detect c s).est c).counts = (s.est c).counts ∧ geyserRuns ((detect c s).est c) = geyserRuns (s.est c) ∧
    (d ≠ c → (detect c s).est d = s.est d) := by
  have kept (t : State) (d : Channel) : (keepPend t).est d = t.est d := rfl
  unfold detect
  dsimp only
  split
  · exact ⟨rfl, rfl, fun _ => rfl⟩
  · generalize found : raise (s.setChan c { s.chan c with fitted := true }) (chanEv c 128) .supervisor [] = u
    have est (d : Channel) : u.est d = s.est d := by rw [← found, est_raise, est_setChan]
    split
    · rw [kept, kept]
      obtain ⟨counts, runs, other⟩ := resetChannel_est (u.setChan c { u.chan c with wasRemoved := false }) c d
      rw [est_setChan, est] at counts runs
      rw [est_setChan, est] at other
      exact ⟨counts, runs, other⟩
    · rw [est, est]
      exact ⟨rfl, rfl, fun _ => rfl⟩

theorem checkLearn_points : ((checkLearn c s).est d).points = (s.est d).points ∧ (d ≠ c → (checkLearn c s).est d = s.est d) := by
  have dropped (why : Cause) : ((discardLearn c why s).est d).points = (s.est d).points := by
    unfold discardLearn
    split
    · rw [est_raise]
      exact points_setEst s c d _ rfl
    · rfl
  unfold checkLearn
  dsimp only
  split
  · exact ⟨dropped _, discardLearn_est s c d _⟩
  · split
    · exact ⟨dropped _, discardLearn_est s c d _⟩
    · exact ⟨rfl, fun _ => rfl⟩

end

section
variable (s : State) (c d : Channel) (mv : Nat) (ma dt : Int)

theorem learnSample_counts (e : Est) : (restSample s c mv ma (learnSample s c ma dt e)).counts = e.counts ∧
    geyserRuns (restSample s c mv ma (learnSample s c ma dt e)) = geyserRuns e := by
  have learn : (learnSample s c ma dt e).counts = e.counts ∧ geyserRuns (learnSample s c ma dt e) = geyserRuns e := by
    unfold learnSample
    split <;> exact ⟨rfl, rfl⟩
  rw [← learn.1, ← learn.2]
  generalize learnSample s c ma dt e = x
  unfold restSample
  split
  · split
    · exact ⟨rfl, rfl⟩
    · split <;> exact ⟨rfl, rfl⟩
  · exact ⟨rfl, rfl⟩

theorem estSample_est : ((estSample c mv ma dt s).est c).counts =
      ((s.est c).counter + BitVec.ofInt 40 ma, (s.est c).counter + BitVec.ofInt 40 ma, socAfter s c mv ma dt) ∧
    geyserRuns ((estSample c mv ma dt s).est c) = geyserRuns (s.est c) ∧ (d ≠ c → (estSample c mv ma dt s).est d = s.est d) := by
  unfold estSample
  dsimp only
  rw [est_setEst, est_setEst, if_pos rfl, (learnSample_counts ..).1, (learnSample_counts ..).2]
  exact ⟨rfl, rfl, fun away => if_neg away.symm⟩

theorem socAfter_bounds : 0 ≤ socAfter s c mv ma dt ∧ socAfter s c mv ma dt ≤ 1 := by
  have clamp (x : Rat) : 0 ≤ max 0 (min 1 x) ∧ max 0 (min 1 x) ≤ 1 :=
    ⟨le_max_left .., max_le (by norm_num) (min_le_left ..)⟩
  unfold socAfter
  cases c
  · exact clamp _
  · exact clamp _

/-- What the loop makes of a sample: the charge is counted, and the state of charge follows where it runs. -/
theorem estimate_est : ((estimate c mv ma dt s).est c).counter = (s.est c).counter + BitVec.ofInt 40 ma ∧
    (controlRuns s = true → (s.chan c).fitted = true → ((estimate c mv ma dt s).est c).lastCounter = ((estimate c mv ma dt s).est c).counter ∧
      0 ≤ ((estimate c mv ma dt s).est c).socInt ∧ ((estimate c mv ma dt s).est c).socInt ≤ 1) ∧
    (controlRuns s = false → ((estimate c mv ma dt s).est c).socInt = (s.est c).socInt) ∧
    geyserRuns ((estimate c mv ma dt s).est c) = geyserRuns (s.est c) ∧ (d ≠ c → (estimate c mv ma dt s).est d = s.est d) := by
  unfold estimate
  split
  · rename_i runs
    obtain ⟨counts, cycle, -⟩ := estSample_est s c c mv ma dt
    obtain ⟨-, -, other⟩ := estSample_est s c d mv ma dt
    generalize estSample c mv ma dt s = u at *
    have keeps (e : Channel) : (cycleKeep c (s.est c).cycles u).est e = u.est e := est_congr e (by simp) (by simp)
    obtain ⟨points, -⟩ := checkLearn_points (cycleKeep c (s.est c).cycles u) c c
    have other' := (checkLearn_points (cycleKeep c (s.est c).cycles u) c d).2
    rw [keeps] at points other'
    have all := (counts_of_points points).trans counts
    have runs' := (runs_of_points points).trans cycle
    generalize checkLearn c (cycleKeep c (s.est c).cycles u) = t at *
    have counter : (t.est c).counter = (s.est c).counter + BitVec.ofInt 40 ma := (congrArg Prod.fst all :)
    have last : (t.est c).lastCounter = (s.est c).counter + BitVec.ofInt 40 ma := (congrArg (fun p => p.2.1) all :)
    have soc : (t.est c).socInt = socAfter s c mv ma dt := (congrArg (fun p => p.2.2) all :)
    refine ⟨counter, fun _ _ => ⟨last.trans counter.symm, ?_⟩, fun off => absurd (runs.1.symm.trans off) (by decide), runs',
      fun away => (other' away).trans (other away)⟩
    rw [soc]
    exact socAfter_bounds ..
  · rename_i off
    unfold countSample
    dsimp only
    rw [est_setEst, est_setEst, if_pos rfl]
    exact ⟨rfl, fun runs fitted => absurd ⟨runs, fitted⟩ off, fun _ => rfl, rfl, fun away => if_neg away.symm⟩

theorem geyserDropped_points : ((geyserDropped s c).est c).counts = (s.est c).counts := by
  have dropped (u : State) : ((discardLearn c .learnAborted u).est c).counts = (u.est c).counts := by
    unfold discardLearn
    split
    · rw [est_raise, est_setEst, if_pos rfl]
      rfl
    · rfl
  unfold geyserDropped
  dsimp only
  rw [est_setEst, if_pos rfl]
  exact (dropped _).trans rfl

theorem geyserAbort_counts : ((geyserAbort c s).est c).counts = (s.est c).counts := by
  rw [geyserAbort_eq]
  split
  · rw [est_raise, est_endAssist, geyserDropped_points]
  · rfl

theorem geyserTemp_est : ((geyserTemp c s).est c).counts = (s.est c).counts ∧ (d ≠ c → (geyserTemp c s).est d = s.est d) ∧
    (geyserTemp c s).adm = { s.adm with geyserForce := (geyserTemp c s).adm.geyserForce, stage := (geyserTemp c s).adm.stage } ∧
    (geyserRuns (s.est c) = false → geyserTemp c s = s) := by
  have staged (u : State) (e : Channel) : (stageRefresh u).est e = u.est e := est_congr e (by simp) (by simp)
  have stage (u : State) : (stageRefresh u).adm = { u.adm with stage := (stageRefresh u).adm.stage } := by
    unfold stageRefresh
    dsimp only
    split <;> simp
  unfold geyserTemp
  split
  · rename_i runs
    rw [staged, staged, stage, (geyserAbort_other s c c).2.1]
    exact ⟨geyserAbort_counts .., (geyserAbort_other s c d).1, rfl, fun off => absurd (runs.1.symm.trans off) (by decide)⟩
  · exact ⟨rfl, fun _ => rfl, rfl, fun _ => rfl⟩

/-! ### A sample that is taken -/

/-- The reading in its channel, which is fitted where it is plausible. -/
def sampled : State :=
  mismatchRefresh c (configMismatch s c) (detect c (s.setChan c { s.chan c with mv := mv, ma := ma, dt := dt, zone := zoneOf c (s.chan c).zone dt }))

/-- The sample in the estimator, with the cycle that its temperature may end. -/
def estimated : State := geyserTemp c (estimate c mv ma dt (sampled s c mv ma dt))

/-- The sample with what it counts for the charger. -/
def counted : State := modesRefresh (chargesRefresh (sampleCounts c (estimated s c mv ma dt)))

theorem exec_sample (supervised : s.life.dev.supervised = true) : exec (.sample c mv ma dt) s = .next (counted s c mv ma dt) :=
  if_neg (by rw [supervised]; decide)

theorem sampled_chan : (sampled s c mv ma dt).chan c = { s.chan c with
      mv := mv, ma := ma, dt := dt, zone := zoneOf c (s.chan c).zone dt
      fitted := (s.chan c).fitted || (chanConfigured s c && decide (-400 ≤ dt) && decide (dt ≤ 1000))
      wasRemoved := ((sampled s c mv ma dt).chan c).wasRemoved } ∧
    (d ≠ c → (sampled s c mv ma dt).chan d = s.chan d) := by
  unfold sampled
  generalize read : s.setChan c { s.chan c with mv := mv, ma := ma, dt := dt, zone := zoneOf c (s.chan c).zone dt } = u
  have refreshed (t : State) (e : Channel) : (mismatchRefresh c (configMismatch s c) t).chan e = t.chan e :=
    chan_congr e (by simp [mismatchRefresh_frame]) (by simp [mismatchRefresh_frame])
  have configured : chanConfigured u c = chanConfigured s c := by rw [← read]; cases c <;> rfl
  have here : u.chan c = { s.chan c with mv := mv, ma := ma, dt := dt, zone := zoneOf c (s.chan c).zone dt } := by
    rw [← read, chan_setChan, if_pos rfl]
  have there (away : d ≠ c) : u.chan d = s.chan d := by rw [← read, chan_setChan, if_neg away.symm]
  rw [refreshed, refreshed]
  refine ⟨(detect_chan u c c).1.trans ?_, fun away => ((detect_chan u c d).2 away).trans (there away)⟩
  rw [here, configured]
  simp only [ntcOk, Bool.and_assoc]

theorem sampled_est : ((sampled s c mv ma dt).est c).counts = (s.est c).counts ∧
    geyserRuns ((sampled s c mv ma dt).est c) = geyserRuns (s.est c) ∧ (d ≠ c → (sampled s c mv ma dt).est d = s.est d) := by
  unfold sampled
  have refreshed (t : State) (e : Channel) : (mismatchRefresh c (configMismatch s c) t).est e = t.est e :=
    est_congr e (by simp [mismatchRefresh_frame]) (by simp [mismatchRefresh_frame])
  rw [refreshed, refreshed]
  obtain ⟨counts, runs, -⟩ := detect_est (s.setChan c { s.chan c with mv := mv, ma := ma, dt := dt, zone := zoneOf c (s.chan c).zone dt }) c c
  obtain ⟨-, -, other⟩ := detect_est (s.setChan c { s.chan c with mv := mv, ma := ma, dt := dt, zone := zoneOf c (s.chan c).zone dt }) c d
  rw [est_setChan] at counts runs other
  exact ⟨counts, runs, other⟩

theorem sampled_frame : (sampled s c mv ma dt).isl = s.isl ∧ (sampled s c mv ma dt).adm = s.adm := by
  unfold sampled
  simp [mismatchRefresh_frame, detect_frame]

theorem counted_frame : (counted s c mv ma dt).life = s.life ∧ (counted s c mv ma dt).isl = s.isl ∧ (counted s c mv ma dt).dict = s.dict ∧
    (counted s c mv ma dt).time = s.time ∧ (counted s c mv ma dt).cache = s.cache ∧ (counted s c mv ma dt).flash = s.flash ∧
    (counted s c mv ma dt).nor = s.nor ∧ (counted s c mv ma dt).port = s.port ∧ (counted s c mv ma dt).outage = s.outage ∧
    (counted s c mv ma dt).tremor = s.tremor ∧ (counted s c mv ma dt).video = s.video := by
  unfold counted sampleCounts estimated sampled
  simp [geyserTemp_frame, estimate_frame, mismatchRefresh_frame, detect_frame]

/-- What a sample leaves in its channel and in the estimators. -/
theorem counted_est : (counted s c mv ma dt).est d = (estimated s c mv ma dt).est d := by
  have set (t : State) (x : Chan) : (t.setChan c x).est d = t.est d := est_setChan ..
  have charges (t : State) : (modesRefresh (chargesRefresh t)).est d = t.est d := est_congr d (by simp) (by simp)
  unfold counted sampleCounts
  dsimp only
  rw [charges, set]

theorem counted_adm : (counted s c mv ma dt).adm = (estimated s c mv ma dt).adm := by
  unfold counted sampleCounts
  simp

theorem estimated_chan : (estimated s c mv ma dt).chan d = (sampled s c mv ma dt).chan d :=
  chan_congr d (by simp [estimated, geyserTemp_frame, estimate_frame]) (by simp [estimated, geyserTemp_frame, estimate_frame])

theorem counted_chan : ((counted s c mv ma dt).chan c).mv = mv ∧ ((counted s c mv ma dt).chan c).ma = ma ∧
    ((counted s c mv ma dt).chan c).dt = dt ∧ ((counted s c mv ma dt).chan c).zone = zoneOf c (s.chan c).zone dt ∧
    ((counted s c mv ma dt).chan c).fitted =
      ((s.chan c).fitted || (chanConfigured s c && decide (-400 ≤ dt) && decide (dt ≤ 1000))) ∧
    ((counted s c mv ma dt).chan c.other).mv = (s.chan c.other).mv ∧ ((counted s c mv ma dt).chan c.other).ma = (s.chan c.other).ma := by
  have measure (e : Channel) : ((counted s c mv ma dt).chan e).measure = ((sampleCounts c (estimated s c mv ma dt)).chan e).measure := by
    unfold counted
    rw [modesRefresh_chan, chargesRefresh_measure]
  obtain ⟨here, -⟩ := sampled_chan s c c mv ma dt
  have there := (sampled_chan s c c.other mv ma dt).2 (Channel.other_ne c)
  rw [← estimated_chan] at here there
  have own : (sampleCounts c (estimated s c mv ma dt)).chan c = { (estimated s c mv ma dt).chan c with
      overRun := ((sampleCounts c (estimated s c mv ma dt)).chan c).overRun
      taperAt := ((sampleCounts c (estimated s c mv ma dt)).chan c).taperAt
      eod := ((sampleCounts c (estimated s c mv ma dt)).chan c).eod } := by
    unfold sampleCounts
    dsimp only
    rw [chan_setChan, if_pos rfl]
  have other : (sampleCounts c (estimated s c mv ma dt)).chan c.other = s.chan c.other := by
    unfold sampleCounts
    dsimp only
    rw [chan_setChan, if_neg (Channel.other_ne c).symm, there]
  rw [here] at own
  have mine := measure c
  have theirs := measure c.other
  rw [other] at theirs
  generalize counted s c mv ma dt = t at *
  generalize sampleCounts c (estimated s c mv ma dt) = u at *
  have each {α : Type} (f : Chan → α) (same : ∀ x : Chan, f x.measure = f x) : f (t.chan c) = f (u.chan c) := by
    rw [← same, mine, same]
  have each' {α : Type} (f : Chan → α) (same : ∀ x : Chan, f x.measure = f x) : f (t.chan c.other) = f (s.chan c.other) := by
    rw [← same, theirs, same]
  refine ⟨(each Chan.mv fun _ => rfl).trans ?_, (each Chan.ma fun _ => rfl).trans ?_, (each Chan.dt fun _ => rfl).trans ?_,
    (each Chan.zone fun _ => rfl).trans ?_, (each Chan.fitted fun _ => rfl).trans ?_, each' Chan.mv fun _ => rfl, each' Chan.ma fun _ => rfl⟩ <;>
    rw [own]

end

/-! ### A channel that is gone -/

section
variable (s : State) (c d : Channel)

/-- A channel that is no longer there, as it is told. -/
def gone : State := raise (s.setChan c { s.chan c with fitted := false, wasRemoved := true, eod := 0, overRun := 0 }) (chanEv c 129) .supervisor []

/-- The same with its cycle aborted and the chargers looked at. -/
def removed : State := geyserEnds (chargesRefresh (geyserAbort c (gone s c)))

theorem exec_channelRemoved (supervised : s.life.dev.supervised = true) (fitted : (s.chan c).fitted = true)
    (ntc : ntcOk (s.chan c) = false) (away : c = .bank ∨ s.life.dev ≠ .simmer) : exec (.channelRemoved c) s = .next (removed s c) := by
  have may : ¬(s.life.dev.supervised = false ∨ (s.chan c).fitted = false ∨ ntcOk (s.chan c) = true) := by
    rw [supervised, fitted, ntc]
    decide
  have life : (removed s c).life = s.life := by simp [removed, gone]
  have step : exec (.channelRemoved c) s = .next (if c = .pack then leaveSimmer 4 (removed s c) else removed s c) := by
    show execChannelRemoved c s = _
    unfold execChannelRemoved
    dsimp only
    rw [if_neg may]
    rfl
  refine step.trans (congrArg Host.Outcome.next ?_)
  by_cases pack : c = .pack
  · rw [if_pos pack, leaveSimmer, life, if_neg (away.resolve_left (by rw [pack]; decide))]
  · rw [if_neg pack]

theorem removed_told : Told (chanEv c 129) s (removed s c) := by
  have told : Told (chanEv c 129) s (gone s c) := (raise_told ..).of (by cases c <;> rfl) (by cases c <;> rfl) (by cases c <;> rfl)
  exact told.grows (geyserEnds_grows _ (chargesRefresh_grown _ (geyserAbort_grows _ _ (.refl _))))

theorem removed_measure : ((removed s c).chan d).measure = ((gone s c).chan d).measure := by
  unfold removed
  rw [(geyserEnds_chan _ d).1, chargesRefresh_measure, (geyserAbort_other _ c d).2.2]

theorem removed_chan : ((removed s c).chan c).fitted = false ∧ ((removed s c).chan c).wasRemoved = true ∧
    ((removed s c).chan c).enable = false ∧ ((removed s c).chan c.other).fitted = (s.chan c.other).fitted := by
  have here : (gone s c).chan c = { s.chan c with fitted := false, wasRemoved := true, eod := 0, overRun := 0 } := by
    unfold gone
    rw [chan_raise, chan_setChan, if_pos rfl]
  have there : (gone s c).chan c.other = s.chan c.other := by
    unfold gone
    rw [chan_raise, chan_setChan, if_neg (Channel.other_ne c).symm]
  have mine := removed_measure s c c
  have theirs := removed_measure s c c.other
  rw [here] at mine
  rw [there] at theirs
  have off : ((removed s c).chan c).enable = false := by
    unfold removed
    rw [(geyserEnds_chan _ c).1]
    refine chargesRefresh_off_fault _ _ ?_
    rw [(geyserAbort_other _ c c).2.2, here]
    simp
  generalize removed s c = t at *
  exact ⟨(congrArg Chan.fitted mine :), (congrArg Chan.wasRemoved mine :), off, (congrArg Chan.fitted theirs :)⟩

theorem removed_est (away : d ≠ c) : (removed s c).est d = s.est d := by
  unfold removed
  rw [(geyserEnds_chan _ d).2, est_chargesRefresh, (geyserAbort_other _ c d).1 away, gone, est_raise, est_setChan]

theorem removed_adm : (removed s c).adm =
    { s.adm with geyserForce := (removed s c).adm.geyserForce, stage := (removed s c).adm.stage } := by
  have abort := (geyserAbort_other (gone s c) c c).2.1
  have charges : (chargesRefresh (geyserAbort c (gone s c))).adm = (geyserAbort c (gone s c)).adm := by simp
  have same : (gone s c).adm = s.adm := by simp [gone]
  unfold removed
  rw [geyserEnds_adm, charges, abort, same]

theorem removed_frame : (removed s c).life = s.life ∧ (removed s c).isl = s.isl ∧ (removed s c).dict = s.dict ∧
    (removed s c).time = s.time ∧ (removed s c).cache = s.cache ∧ (removed s c).flash = s.flash ∧ (removed s c).keep = s.keep := by
  simp [removed, gone]

end

/-! ### Publications -/

section
variable (s : State) (c d : Channel)

theorem ceilingOf_congr {s t : State} (num den : Nat) (isl : t.isl = s.isl) (dict : t.dict = s.dict) (cache : t.cache = s.cache)
    (flash : t.flash = s.flash) (stale : t.adm.stale = s.adm.stale) (hold : t.adm.formatHold = s.adm.formatHold) :
    ceilingOf t num den = ceilingOf s num den := by
  have cfg (i k : Nat) : t.cfg i k = s.cfg i k := by unfold State.cfg; rw [isl, dict]
  unfold ceilingOf dmaxZero sinterSpace fewDies
  rw [flash, cache, stale, hold]
  simp only [cfg]

theorem loadTable_est : ((loadTable c s).est c).pendingProfile = none ∧ (d ≠ c → (loadTable c s).est d = s.est d) := by
  unfold loadTable
  split
  · rename_i none
    exact ⟨none, fun _ => rfl⟩
  · rw [est_raise, est_raise, est_setEst, est_setEst, if_pos rfl]
    exact ⟨rfl, fun away => if_neg away.symm⟩

theorem loadTable_pending (h : (s.est d).pendingProfile = none) : ((loadTable c s).est d).pendingProfile = none := by
  by_cases same : d = c
  · rw [same]
    exact (loadTable_est s c c).1
  · rw [(loadTable_est s c d).2 same, h]

/-- The state in which the waiting tables have been taken. -/
def loaded : State := loadTable .bank (loadTable .pack s)

theorem loaded_pending : ((loaded s).est c).pendingProfile = none := by
  unfold loaded
  cases c with
  | pack => exact loadTable_pending _ .bank .pack (loadTable_est s .pack .pack).1
  | bank => exact (loadTable_est _ .bank .bank).1

/-- The figures that a publication gives the channels. -/
def published : State := publishFigures (guaranteed (loaded s) .pack) (guaranteed (loaded s) .bank) (loaded s)

theorem exec_publication (publishing : publishes s = true) (away : s.life.dev ≠ .simmer) : exec .egPublication s = .next (published s) := by
  have life : (published s).life = s.life := by simp [published, loaded]
  have step : exec .egPublication s = .next (publish s) := congrArg Host.Outcome.next (if_pos publishing)
  have stays : publish s = simmerPublication (published s) := rfl
  rw [step, stays, simmerPublication, life, if_neg away]

theorem published_frame : (published s).life = s.life ∧ (published s).isl = s.isl ∧ (published s).dict = s.dict ∧
    (published s).time = s.time ∧ (published s).rails = s.rails ∧ (published s).keep = s.keep ∧ (published s).nor = s.nor ∧
    (published s).flash = s.flash ∧ (published s).port = s.port ∧ (published s).outage = s.outage := by
  simp [published, loaded]

theorem published_est : ((published s).est c).eg = guaranteed (loaded s) c ∧ ((published s).est c).pendingProfile = none := by
  obtain ⟨pack, bank⟩ := publishFigures_est (loaded s) (guaranteed (loaded s) .pack) (guaranteed (loaded s) .bank)
  have est : (published s).est c = { (loaded s).est c with eg := guaranteed (loaded s) c } := by
    unfold published
    generalize publishFigures (guaranteed (loaded s) .pack) (guaranteed (loaded s) .bank) (loaded s) = t at *
    cases c
    · exact pack
    · exact bank
  rw [est]
  exact ⟨rfl, loaded_pending s c⟩

/-- The bounds and shares that follow a publication. -/
theorem published_adm : (published s).adm.pubSeq = s.adm.pubSeq + 1 ∧ (published s).adm.pubAt = some s.time.now ∧
    (published s).adm.stale = false ∧ (published s).adm.eByteInUse = s.adm.eByte ∧
    (published s).adm.egTotal = (published s).packEst.eg + (published s).bankEst.eg ∧
    (published s).adm.ceiling =
      ceilingOf { s with adm := { s.adm with stale := false } } (dmaxNumOf s (published s).adm.egTotal) s.adm.eByte ∧
    (∀ n, ((published s).ten n).guaranteed = (published s).adm.ceiling * s.cfg (blockIndex 0x3030 n.val) 1 / 1000) ∧
    (published s).cache.slots = s.cache.slots := by
  have kept : (loaded s).isl = s.isl ∧ (loaded s).dict = s.dict ∧ (loaded s).adm = s.adm ∧ (loaded s).cache = s.cache ∧
      (loaded s).flash = s.flash ∧ (loaded s).time = s.time := by simp [loaded]
  obtain ⟨isl, dict, adm, cache, flash, time⟩ := kept
  unfold published
  rw [publishFigures_eq]
  generalize figures : figured (loaded s) (guaranteed (loaded s) .pack) (guaranteed (loaded s) .bank) = u
  have figuredAdm : u.adm = { s.adm with pubSeq := s.adm.pubSeq + 1, pubAt := some s.time.now, stale := false, eByteInUse := s.adm.eByte } := by
    rw [← figures, ← adm, ← time]
    rfl
  have isl' : u.isl = s.isl := by rw [← figures]; exact isl
  have dict' : u.dict = s.dict := by rw [← figures]; exact dict
  have cache' : u.cache = s.cache := by rw [← figures]; exact cache
  have flash' : u.flash = s.flash := by rw [← figures]; exact flash
  have cfg (i k : Nat) : u.cfg i k = s.cfg i k := by unfold State.cfg; rw [isl', dict']
  have bound (eg : Nat) : dmaxNumOf u eg = dmaxNumOf s eg := by unfold dmaxNumOf; simp only [cfg]
  have ceiling (num den : Nat) : ceilingOf u num den = ceilingOf { s with adm := { s.adm with stale := false } } num den :=
    ceilingOf_congr num den isl' dict' cache' flash' (by rw [figuredAdm]) (by rw [figuredAdm])
  obtain ⟨seq, at_, stale, eByte, total, ceil, -, shares, slots⟩ := recomputeAll_adm u
  have eg : (recomputeAll u).packEst = u.packEst ∧ (recomputeAll u).bankEst = u.bankEst := by simp
  rw [figuredAdm] at seq at_ stale eByte
  rw [ceiling, bound, figuredAdm] at ceil
  refine ⟨seq, at_, stale, eByte, by rw [total, eg.1, eg.2], by rw [total]; exact ceil, fun n => by rw [shares, cfg], slots.trans (by rw [cache'])⟩

/-- Figures that are too old leave no ceiling. -/
def overdueNow : State := recomputeAll (raise { s with adm.stale := true } 5 .control [])

theorem overdueNow_adm : (overdueNow s).adm.stale = true ∧ (overdueNow s).adm.ceiling = 0 ∧ (overdueNow s).adm.dmaxNum = 0 ∧
    (∀ n, ((overdueNow s).ten n).guaranteed = 0) ∧ (overdueNow s).cache.slots = s.cache.slots := by
  unfold overdueNow
  generalize told : raise { s with adm.stale := true } 5 .control [] = u
  have adm : u.adm.stale = true := by rw [← told]; simp
  have cache : u.cache = s.cache := by rw [← told]; simp
  have zero : dmaxZero u = true := by simp [dmaxZero, adm]
  obtain ⟨-, -, stale, -, -, ceil, dmax, shares, slots⟩ := recomputeAll_adm u
  have none : (recomputeAll u).adm.ceiling = 0 := by rw [ceil]; simp [ceilingOf, zero]
  refine ⟨stale.trans adm, none, by rw [dmax, zero]; rfl, fun n => by rw [shares, none]; simp, by rw [slots, cache]⟩

end

end Sys2Proof.Machine
end

section
open Sys2Proof Sys2Proof.Machine

/-- Settles O15: samples, a channel that is gone, a publication, and figures that are overdue. -/
theorem samplesAndPublication : Obligations.SamplesAndPublication := by
  unfold Obligations.SamplesAndPublication
  refine ⟨?sample, ?removed, ?publication, ?stale⟩
  case sample =>
    intro c mv ma dt s supervised
    have step := exec_sample s c mv ma dt supervised
    obtain ⟨mv', ma', dt', zone, fitted, mvOther, maOther⟩ := counted_chan s c mv ma dt
    obtain ⟨counts, runs, -⟩ := sampled_est s c c mv ma dt
    have other := (sampled_est s c c.other mv ma dt).2.2 (Channel.other_ne c)
    obtain ⟨isl, adm⟩ := sampled_frame s c mv ma dt
    have own := (sampled_chan s c c mv ma dt).1
    have est (d : Channel) := counted_est s c d mv ma dt
    have admT := counted_adm s c mv ma dt
    have frame := counted_frame s c mv ma dt
    unfold estimated at est admT
    generalize counted s c mv ma dt = t at *
    generalize sampled s c mv ma dt = u at *
    have control : controlRuns u = controlRuns s := controlRuns_of_isl isl
    have seen : (s.chan c).fitted = true → (u.chan c).fitted = true := fun here => by rw [own]; simp [here]
    obtain ⟨counter, loop, still, cycle, -⟩ := estimate_est u c c mv ma dt
    have otherE := (estimate_est u c c.other mv ma dt).2.2.2.2 (Channel.other_ne c)
    have admE : (estimate c mv ma dt u).adm = s.adm := by simp [estimate_frame, adm]
    generalize estimate c mv ma dt u = v at *
    obtain ⟨countsT, -, admV, stays⟩ := geyserTemp_est v c c
    have otherT := (geyserTemp_est v c c.other).2.1 (Channel.other_ne c)
    have counterU : (u.est c).counter = (s.est c).counter := (congrArg Prod.fst counts :)
    have socU : (u.est c).socInt = (s.est c).socInt := (congrArg (fun p => p.2.2) counts :)
    have counterT : (t.est c).counter = (v.est c).counter := by rw [est]; exact (congrArg Prod.fst countsT :)
    have lastT : (t.est c).lastCounter = (v.est c).lastCounter := by rw [est]; exact (congrArg (fun p => p.2.1) countsT :)
    have socT : (t.est c).socInt = (v.est c).socInt := by rw [est]; exact (congrArg (fun p => p.2.2) countsT :)
    rw [control] at loop still
    refine ⟨t, step, mv', ma', dt', zone, ?_, fitted, fun on here => ?_, fun off => ?_, ?_, mvOther, maOther, fun idle => ?_, ?_, frame⟩
    · rw [counterT, counter, counterU]
    · rw [lastT, counterT, socT]
      exact loop on (seen here)
    · rw [socT, still off, socU]
    · rw [est, otherT, otherE, other]
    · rw [admT, stays (by rw [cycle, runs, idle]), admE]
    · rw [admE] at admV
      rw [admT]
      exact admV
  case removed =>
    intro c s supervised fitted ntc away
    obtain ⟨off, was, charger, others⟩ := removed_chan s c
    obtain ⟨life, isl, dict, time, cache, flash, keep⟩ := removed_frame s c
    have zero : publishesZero (removed s c) c = true := by simp [publishesZero, off]
    exact ⟨_, exec_channelRemoved s c supervised fitted ntc away, removed_told s c, off, was, charger, zero, others,
      removed_est s c c.other (Channel.other_ne c), life, isl, dict, time, cache, removed_adm s c, flash, keep⟩
  case publication =>
    intro s publishing away
    obtain ⟨seq, at_, stale, eByte, total, ceiling, shares, slots⟩ := published_adm s
    obtain ⟨life, isl, dict, time, rails, keep, nor, flash, port, outage⟩ := published_frame s
    exact ⟨_, exec_publication s publishing away, seq, at_, stale, eByte, published_est s, total, ceiling, shares, life, isl, dict, time,
      rails, keep, nor, flash, port, outage, slots⟩
  case stale =>
    intro s publishing fresh late away
    have life : (overdueNow s).life = s.life := by simp [overdueNow]
    have step : exec .estimatorStale s = .next (overdueNow s) := by
      have first : exec .estimatorStale s = .next (leaveSimmer 6 (overdueNow s)) := if_neg (by simp [publishing, fresh, late])
      rw [first, leaveSimmer, life, if_neg away]
    have told : Told 5 s (overdueNow s) :=
      Told.grows (t := raise { s with adm.stale := true } 5 .control []) ((raise_told ..).of rfl rfl rfl) (recomputeAll_grows _ (.refl _))
    obtain ⟨stale, ceiling, dmax, shares, slots⟩ := overdueNow_adm s
    exact ⟨_, step, told, stale, ceiling, dmax, shares, by simp [overdueNow], by simp [overdueNow], life, by simp [overdueNow],
      by simp [overdueNow], by simp [overdueNow], by simp [overdueNow], by simp [overdueNow], slots⟩
end

section
/-! Commands that run, end and are told, and what they change of the state. -/

namespace Sys2Proof.Machine

/-! ### A command under way -/

section
variable {s t u : State} {c : Cmd} {x : Completion} {id : Nat} {o : Op} {elems : Option (List Element)}

theorem findCmd_id (found : findCmd s id = some c) : c.id = id := by
  have := List.find?_some found
  simpa using this

/-- The command that was changed is found with its change. -/
theorem findCmd_modCmd {f : Cmd → Cmd} (found : findCmd s id = some c) (keeps : ∀ d, (f d).id = d.id)
    (cmds : t.port.cmds = s.port.cmds.map (fun d => if d.id = id then f d else d)) : findCmd t id = some (f c) := by
  have test : (fun d : Cmd => d.id == id) ∘ (fun d => if d.id = id then f d else d) = fun d => d.id == id := by
    funext d
    by_cases h : d.id = id <;> simp [h, keeps]
  unfold findCmd at *
  rw [cmds, List.find?_map, test, found]
  have := findCmd_id found
  simp [this]

theorem runCmd_of_runs (runs : Runs o id elems c s) (f : List Element → Cmd → State → State) :
    runCmd o id elems f s = f (elems.getD []) c s := by
  obtain ⟨found, kind, turn, bus, listed, checks⟩ := runs
  unfold runCmd
  simp [found, kind, turn, bus, listed, checks]

theorem runCmd_of_listFails (found : findCmd s id = some c) (kind : cmdIs o .fetched c = true) (turn : mayStart s c = true)
    (bus : dmaOpen s c.fn = true) (fails : listFails o c elems = true) (f : List Element → Cmd → State → State) :
    runCmd o id elems f s = dmaFault c s := by
  unfold runCmd
  simp [found, kind, turn, bus, fails]

/-! ### A command that ends -/

@[simp] theorem ten_complete (n : Fin 16) : (complete c x s).ten n =
    if c.fn = n then { s.ten n with completed := (s.ten n).completed + 1 } else s.ten n := by
  unfold complete
  simp only [ten_modTen, ten_modPair]
  rfl

theorem complete_out : (complete c x s).out = s.out := rfl

theorem complete_flash : (complete c x s).flash = s.flash := rfl

theorem complete_eq : complete c x s = { s with
    port := (complete c x s).port, cache := { s.cache with tenants := (complete c x s).cache.tenants } } := rfl

/-- A completion of a command, where nothing before it has ended a command or counted one. -/
theorem complete_completed (cmds : t.port.cmds = s.port.cmds) (pairs : t.pair c.fn c.qp = s.pair c.fn c.qp)
    (counted : (t.ten c.fn).completed = (s.ten c.fn).completed) : Completed c x s (complete c x t) where
  gone := by rw [complete_cmds, cmds]
  waits := by simp [pairs]
  counted := by simp [counted]

theorem endCmd_completed {st : Status} {r : Nat} : Completed c (completion c st r 0) s (endCmd c st r s) := complete_completed rfl rfl rfl

/-- What follows a completion and leaves the queues and the tenants leaves it as it is. -/
theorem Completed.of_eq (h : Completed c x s t) (port : u.port = t.port) (tenants : u.cache.tenants = t.cache.tenants) :
    Completed c x s u where
  gone := by rw [port, h.gone]
  waits := by rw [pair_of_port _ _ port, h.waits]
  counted := by
    have := h.counted
    unfold State.ten at *
    rwa [tenants]

theorem Completed.raise (h : Completed c x s t) (ev : Nat) (i : EvIsland) (vs : List (Nat × Nat)) : Completed c x s (raise t ev i vs) :=
  h.of_eq (by simp) (by simp)

theorem dmaFault_completed : Completed c (completion c .dataError 0 0) s (dmaFault c s) := endCmd_completed.raise _ _ _

theorem dmaFault_told : Told (tenantEv c.fn.val 23) s (dmaFault c s) := (raise_told (endCmd c .dataError 0 s) _ _ _).of rfl rfl rfl

/-- A command that ends, and an event about it, change the queues, the tenants' counts and the event system, and nothing else. -/
theorem endedTold_eq {ev : Nat} {i : EvIsland} {vs : List (Nat × Nat)} : Machine.raise (complete c x s) ev i vs = withEvents { s with
    port := (Machine.raise (complete c x s) ev i vs).port
    cache := { s.cache with tenants := (Machine.raise (complete c x s) ev i vs).cache.tenants } } (Machine.raise (complete c x s) ev i vs) := by
  conv_lhs => rw [raise_eq, complete_eq]
  obtain ⟨_, _, _, _, _, _, _, _, port, cache, _⟩ := raise_frame (complete c x s) ev i vs
  rw [port, cache]
  rfl

end

/-! ### The bus -/

section
variable {s : State} {fn : Fin 16}

theorem dmaRead_eq (parts : List (Nat × Nat)) : dmaRead fn parts s = { s with
    out := s.out ++ (parts.flatMap (pieces s.port.fns[fn].mrrs)).map fun p => .dmaRead fn p.1 p.2 } :=
  sends_eq s _ fun p : Nat × Nat => .dmaRead fn p.1 p.2

theorem mps_takeTurn {qp : Fin 4} {g : Fin 16} : ((takeTurn fn qp s).port.fns[g]).mps = (s.port.fns[g]).mps := by
  show (vmod s.port.fns fn _)[g.val].mps = _
  rw [vmod_getElem]
  split <;> rfl

theorem writeParts_takeTurn {qp : Fin 4} {n : Fin 16} (parts : List (Nat × Nat)) :
    writeParts (takeTurn fn qp s) n parts = writeParts s n parts := by
  unfold writeParts
  rw [mps_takeTurn]

end

/-! ### Slots that are touched -/

section
variable {s : State}

/-- Reading slots notes when it was, and nothing else of the cache (06 R285). -/
theorem touchSlots_eq (ks : List Nat) : ks.foldl (fun t k => touchSlot k t) s = { s with
      cache := { s.cache with
        stamp := (ks.foldl (fun t k => touchSlot k t) s).cache.stamp
        slots := (ks.foldl (fun t k => touchSlot k t) s).cache.slots } } :=
  List.foldlRecOn (motive := fun t : State => t = { s with cache := { s.cache with stamp := t.cache.stamp, slots := t.cache.slots } }) ks
    (fun t k => touchSlot k t) rfl fun t h k _ => by
      conv_lhs => rw [h]
      conv_rhs => rw [h]
      rfl

/-- A touched slot is what it was but for the time of its use. -/
theorem touchSlots_slots (ks : List Nat) (k : Nat) :
    (mapFind (ks.foldl (fun t k => touchSlot k t) s).cache.slots k).map (fun q => { q with used := 0 }) =
      (mapFind s.cache.slots k).map (fun q => { q with used := 0 }) :=
  List.foldlRecOn (motive := fun t : State => (mapFind t.cache.slots k).map (fun q : Slot => { q with used := 0 }) =
      (mapFind s.cache.slots k).map (fun q => { q with used := 0 })) ks
    (fun t k => touchSlot k t) rfl fun t h j _ => by
      rw [← h]
      unfold touchSlot
      dsimp only
      rw [mapFind_mapVals, Option.map_map]
      congr 1
      funext q
      simp only [Function.comp]
      split <;> rfl

end

/-! ### What the commands of the cache change -/

section
variable {s t u : State}

/-- From `s` to `t` only the queues, the cache, the flash, the admission stage and the event system have changed. -/
def Staged (s t : State) : Prop := t = withEvents { s with
  port := t.port, cache := t.cache, flash := t.flash, adm := { s.adm with stage := t.adm.stage } } t

theorem Staged.trans (h : Staged s t) (g : Staged t u) : Staged s u := by
  unfold Staged at *
  rw [h] at g
  exact g

/-- Where the flash stays and the cache but for its tenants, no more than that is said of them. -/
theorem Staged.tenants (h : Staged s t) (flash : t.flash = s.flash) (cache : t.cache = { s.cache with tenants := t.cache.tenants }) :
    t = withEvents { s with port := t.port, cache := { s.cache with tenants := t.cache.tenants }
                            adm := { s.adm with stage := t.adm.stage } } t := by
  unfold Staged at h
  rw [flash] at h
  rw [← cache]
  exact h

theorem complete_staged (c : Cmd) (x : Completion) : Staged s (complete c x s) := rfl

theorem raise_staged (ev : Nat) (i : EvIsland) (vs : List (Nat × Nat)) : Staged s (raise s ev i vs) := by
  have raised := raise_eq s ev i vs
  obtain ⟨_, _, _, _, _, _, _, _, port, cache, adm, _, _, _, _, _, _, _, _, _, flash, _⟩ := raise_frame s ev i vs
  unfold Staged
  rw [port, cache, adm, flash]
  exact raised

/-- A change of the admission stage is told, and nothing else is done (06 R309). -/
theorem stageRefresh_staged : Staged s (stageRefresh s) := by
  unfold stageRefresh
  dsimp only
  split
  · rfl
  · exact Staged.trans (t := { s with adm.stage := admissionStage s }) rfl (raise_staged ..)

end

end Sys2Proof.Machine
end

section
/-! PUT: admission, the transfer, and the arrival of its data (O35). -/

namespace Sys2Proof.Machine

/-! ### Slots for a PUT -/

section
variable {s u : State} {c : Cmd} {n : Fin 16}

/-- Making room for a PUT leaves the tenants (06 R285). -/
theorem evictClean_tenants {keep : List Nat} {k : Nat} (taken : evictClean n keep k s = some u) :
    u.cache.tenants = s.cache.tenants := by
  induction k generalizing s with
  | zero =>
    obtain rfl : s = u := Option.some.inj taken
    rfl
  | succ k ih =>
    unfold evictClean at taken
    split at taken
    · cases taken
    · have := ih taken
      exact this

theorem takeSlots_tenants {vol : BitVec 32} {lba len need : Nat} (taken : takeSlots s n vol lba len need = some u) :
    u.cache.tenants = s.cache.tenants := evictClean_tenants taken

/-! ### The admission check of a PUT -/

/-- A PUT that admission takes, by the policy's choice of protection (06 R284, R301). -/
def putBegun (elems : List Element) (c : Cmd) (s u : State) : State :=
  beginPut elems c (effPolicy s c.fn == 0) (if effPolicy s c.fn = 0 then chargeBlocks s c else 0) (slotlessBlocks s c) u

theorem checkPut_policy {elems : List Element} (barred : recordVolume (sqeVolume c.sqe) = true ∨ effPolicy s c.fn = 2) :
    checkPut elems c s = endCmd c .policy 0 s := by
  unfold checkPut
  dsimp only
  rw [if_pos barred]

theorem checkPut_throttled {elems : List Element} (record : recordVolume (sqeVolume c.sqe) = false) (policy : effPolicy s c.fn = 0)
    (short : headroom s c.fn < newBlocks s c) : checkPut elems c s = throttlePut c s := by
  unfold checkPut
  dsimp only
  rw [if_neg (by simp [record, policy]), if_pos ⟨policy, short⟩]

section
variable {elems : List Element} (record : recordVolume (sqeVolume c.sqe) = false) (policy : effPolicy s c.fn ≠ 2)
  (admits : effPolicy s c.fn = 0 → newBlocks s c ≤ headroom s c.fn)
include record policy admits

theorem checkPut_noHandle (none : noHandle s c.fn (sqeVolume c.sqe) = true) : checkPut elems c s = endNoSpace 6 c s := by
  unfold checkPut
  dsimp only
  rw [if_neg (by simp [record, policy]), if_neg (fun h => absurd (admits h.1) (by omega)), if_pos none]

theorem checkPut_noSlots (handle : noHandle s c.fn (sqeVolume c.sqe) = false)
    (full : takeSlots s c.fn (sqeVolume c.sqe) (sqeLba c.sqe) (sqeLength c.sqe) (slotlessBlocks s c) = none) :
    checkPut elems c s = endNoSpace 4 c s := by
  unfold checkPut
  dsimp only
  rw [if_neg (by simp [record, policy]), if_neg (fun h => absurd (admits h.1) (by omega)), if_neg (by simp [handle]), full]

theorem checkPut_begins (handle : noHandle s c.fn (sqeVolume c.sqe) = false)
    (taken : takeSlots s c.fn (sqeVolume c.sqe) (sqeLba c.sqe) (sqeLength c.sqe) (slotlessBlocks s c) = some u) :
    checkPut elems c s = putBegun elems c s u := by
  unfold checkPut putBegun
  dsimp only
  rw [if_neg (by simp [record, policy]), if_neg (fun h => absurd (admits h.1) (by omega)), if_neg (by simp [handle]), taken]

end

/-! ### A PUT that begins -/

section
variable {elems : List Element} {protect : Bool} {k m : Nat}

theorem beginPut_found (found : findCmd u c.id = some c) :
    findCmd (beginPut elems c protect m k u) c.id = some { c with stage := .transferring, protect := protect, charged := m, slots := k } :=
  findCmd_modCmd (f := fun c => { c with stage := .transferring, protect := protect, charged := m, slots := k }) found
    (fun _ => rfl) (by unfold beginPut; rw [dmaRead_eq]; rfl)

theorem beginPut_ten (g : Fin 16) : (beginPut elems c protect m k u).ten g =
    if c.fn = g then { u.ten g with reserved := (u.ten g).reserved + m } else u.ten g := by
  unfold beginPut
  rw [dmaRead_eq]
  show (State.modTen _ _ _).ten g = _
  rw [ten_modTen]
  rfl

theorem beginPut_pair (g : Fin 16) (j : Fin 4) : (beginPut elems c protect m k u).pair g j = u.pair g j := by
  unfold beginPut
  rw [dmaRead_eq]
  exact pair_takeTurn u c.fn g c.qp j

theorem beginPut_out : (beginPut elems c protect m k u).out = u.out ++
    ((dataParts c.sqe elems).flatMap (pieces u.port.fns[c.fn].mrrs)).map fun p => .dmaRead c.fn p.1 p.2 := by
  unfold beginPut
  rw [dmaRead_eq]
  show _ ++ ((dataParts c.sqe elems).flatMap (pieces (takeTurn c.fn c.qp u).port.fns[c.fn].mrrs)).map _ = _
  rw [mrrs_takeTurn]
  rfl

theorem beginPut_eq : beginPut elems c protect m k u = { u with
    port := (beginPut elems c protect m k u).port
    cache := { u.cache with tenants := (beginPut elems c protect m k u).cache.tenants }
    out := (beginPut elems c protect m k u).out } := by
  unfold beginPut
  rw [dmaRead_eq]
  generalize begun : State.modTen _ _ _ = v
  have same : v = { u with port := v.port, cache := { u.cache with tenants := v.cache.tenants } } := by
    rw [← begun]
    rfl
  dsimp only
  generalize v.out ++ _ = o
  conv_lhs => rw [same]

end

/-! ### A PUT that ends without its data -/

theorem endNoSpace_completed (k : Nat) : Completed c (completion c .noSpace 0 0) s (endNoSpace k c s) := endCmd_completed.raise _ _ _

theorem endNoSpace_told (k : Nat) : Told (tenantEv c.fn.val k) s (endNoSpace k c s) :=
  (raise_told (endCmd c .noSpace 0 s) _ _ _).of rfl rfl rfl

/-- The cache after a throttle: a count, and that it was the latest (06 R307). -/
theorem noteThrottle_cache (m : Nat) : (noteThrottle n m s).cache =
    (s.modTen n fun t => { t with throttled := t.throttled + 1, lastThrottled := true }).cache := by
  unfold noteThrottle
  dsimp only
  split <;> simp

theorem noteThrottle_told (m : Nat) (first : (s.ten n).lastThrottled = false) : Told (tenantEv n.val 0) s (noteThrottle n m s) := by
  unfold noteThrottle
  dsimp only
  have told := (raiseIf_told (s := s.modTen n fun t => { t with throttled := t.throttled + 1, lastThrottled := true })
    (ev := tenantEv n.val 0) (i := .control) (vs := []) (b := !(s.ten n).lastThrottled) (by simp [first])).of (s := s) rfl rfl rfl
  split
  · exact told.grows (stageRefresh_grows _ (stopBorrowing_grows _ (.refl _)))
  · exact told

theorem throttlePut_ends : throttlePut c s = complete c (completion c .throttled (headroom s c.fn * 2 ^ 32 + nextRecompute s) 0)
    (noteThrottle c.fn (newBlocks s c) s) := rfl

theorem throttlePut_completed : Completed c (completion c .throttled (headroom s c.fn * 2 ^ 32 + nextRecompute s) 0) s (throttlePut c s) := by
  rw [throttlePut_ends]
  exact complete_completed (by simp) (pair_of_port _ _ (by simp)) (by rw [ten_of_cache _ (noteThrottle_cache _)]; simp)

theorem throttlePut_told (first : (s.ten c.fn).lastThrottled = false) : Told (tenantEv c.fn.val 0) s (throttlePut c s) := by
  rw [throttlePut_ends]
  exact (noteThrottle_told (newBlocks s c) first).ev_eq (by simp)

theorem throttlePut_ten : ((throttlePut c s).ten c.fn).throttled = (s.ten c.fn).throttled + 1 ∧
    ((throttlePut c s).ten c.fn).lastThrottled = true := by
  rw [throttlePut_ends, ten_complete, if_pos rfl]
  dsimp only
  rw [ten_of_cache _ (noteThrottle_cache _)]
  simp

/-! ### A PUT that ends with its data -/

theorem ten_of_tenants {t : State} {g : Fin 16} (h : t.cache.tenants = s.cache.tenants) : t.ten g = s.ten g := by
  unfold State.ten
  rw [h]

theorem withHandle_tenants {x : Cache} {vol : BitVec 32} {hx : Nat × Cache} (taken : withHandle x n vol = some hx) :
    hx.2.tenants = x.tenants := by
  unfold withHandle at taken
  split at taken
  · cases taken
    rfl
  · split at taken <;> cases taken
    rfl

theorem writeBlock_tenants (vol : BitVec 32) (seq : Nat) (dirty recording : Bool) (p : Nat × Block) :
    (writeBlock n vol seq dirty recording p s).cache.tenants = s.cache.tenants := by
  cases taken : withHandle s.cache n vol with
  | none => rw [writeBlock_of_noHandle taken]
  | some hx =>
    rw [writeBlock_cache taken]
    split
    · rfl
    · exact withHandle_tenants taken

theorem writeBlocks_tenants (vol : BitVec 32) (seq : Nat) (dirty recording : Bool) (l : List (Nat × Block)) :
    (l.foldl (fun t p => writeBlock n vol seq dirty recording p t) s).cache.tenants = s.cache.tenants :=
  List.foldlRecOn (motive := fun t : State => t.cache.tenants = s.cache.tenants) l _ rfl
    fun _ h _ _ => (writeBlock_tenants ..).trans h

/-- Of a tenant only its key may be another. -/
structure SameButKey (a b : Tenant) : Prop where
  writeSeq : b.writeSeq = a.writeSeq
  reserved : b.reserved = a.reserved
  throttled : b.lastThrottled = a.lastThrottled
  completed : b.completed = a.completed

/-- A tenant that writes has a key, where keys are kept (12 R699). -/
theorem ensureKey_ten : SameButKey (s.ten n) ((ensureKey n s).ten n) ∧ (s.cfg 0x2020 6 = 1 → ((ensureKey n s).ten n).hasKey = true) := by
  unfold ensureKey
  split
  · rename_i keyed
    have made : (writeKeys (s.modTen n fun t => { t with hasKey := true })).ten n = { s.ten n with hasKey := true } := by
      rw [(writeKeys_sends _).eq]
      show (s.modTen n _).ten n = _
      rw [ten_modTen, if_pos rfl]
    rw [made]
    exact ⟨⟨rfl, rfl, rfl, rfl⟩, fun _ => rfl⟩
  · rename_i kept
    exact ⟨⟨rfl, rfl, rfl, rfl⟩, fun on => by simpa [on] using kept⟩

/-- A tenant whose blocks are written has one write sequence more, and its key (05 R231; 12 R699). -/
theorem applyPut_ten (vol : BitVec 32) (lba : Nat) (dirty recording : Bool) (bs : List Block) :
    SameButKey { s.ten n with writeSeq := (s.ten n).writeSeq + 1 } ((applyPut n vol lba dirty recording bs s).ten n) ∧
    (s.cfg 0x2020 6 = 1 → ((applyPut n vol lba dirty recording bs s).ten n).hasKey = true) := by
  have blocks : (applyPut n vol lba dirty recording bs s).ten n = (applyBlocks n vol lba dirty recording bs s).ten n := by
    unfold applyPut
    dsimp only
    split
    · exact ten_of_cache _ (by simp)
    · rfl
  have keyed : (applyBlocks n vol lba dirty recording bs s).ten n =
      (ensureKey n (s.modTen n fun t => { t with writeSeq := (s.ten n).writeSeq + 1 })).ten n :=
    ten_of_tenants (writeBlocks_tenants ..)
  have made := ensureKey_ten (s := s.modTen n fun t => { t with writeSeq := (s.ten n).writeSeq + 1 }) (n := n)
  rw [ten_modTen, if_pos rfl] at made
  rw [blocks, keyed]
  exact made

theorem applyPut_staged (vol : BitVec 32) (lba : Nat) (dirty recording : Bool) (bs : List Block) :
    Staged s (applyPut n vol lba dirty recording bs s) := by
  have frame := applyPut_frame n vol lba dirty recording bs s
  unfold Staged
  generalize applyPut n vol lba dirty recording bs s = t at frame ⊢
  cases t
  simp_all [withEvents]

/-- A PUT's blocks are written. -/
def putApplied (c : Cmd) (bs : List Block) (s : State) : State :=
  applyPut c.fn (sqeVolume c.sqe) (sqeLba c.sqe) c.protect false bs (putReady c s)

theorem finishPut_ends (bs : List Block) : finishPut c bs s = complete c { completion c .success
    ((putApplied c bs s).ten c.fn).writeSeq 0 with notProtected := !c.protect } (stageRefresh (putApplied c bs s)) := rfl

theorem putApplied_frame (bs : List Block) : (putApplied c bs s).port = s.port ∧ (putApplied c bs s).can = s.can ∧
    (putApplied c bs s).adm = s.adm := by
  unfold putApplied putReady
  simp

theorem putApplied_ten (bs : List Block) :
    SameButKey { s.ten c.fn with writeSeq := (s.ten c.fn).writeSeq + 1, reserved := (s.ten c.fn).reserved - c.charged, lastThrottled := false }
      ((putApplied c bs s).ten c.fn) ∧ (s.cfg 0x2020 6 = 1 → ((putApplied c bs s).ten c.fn).hasKey = true) := by
  have made := applyPut_ten (s := putReady c s) (n := c.fn) (sqeVolume c.sqe) (sqeLba c.sqe) c.protect false bs
  have ready : (putReady c s).ten c.fn = { s.ten c.fn with reserved := (s.ten c.fn).reserved - c.charged, lastThrottled := false } := by
    unfold putReady
    rw [ten_modTen, if_pos rfl]
  rw [ready] at made
  obtain ⟨⟨seq, reserved, throttled, completed⟩, keyed⟩ := made
  exact ⟨⟨seq, reserved, throttled, completed⟩, keyed⟩

/-- What PUT_APPLY leaves: the queues, the cache, the flash, and the events of the stage. -/
theorem finishPut_staged (bs : List Block) : Staged s (finishPut c bs s) := by
  rw [finishPut_ends]
  have ready : Staged s (putReady c s) := rfl
  exact ((ready.trans (applyPut_staged ..)).trans stageRefresh_staged).trans (complete_staged ..)

theorem finishPut_completed (bs : List Block) : Completed c { completion c .success ((s.ten c.fn).writeSeq + 1) 0 with
    notProtected := !c.protect } s (finishPut c bs s) := by
  obtain ⟨port, _, _⟩ := putApplied_frame (c := c) (s := s) bs
  obtain ⟨made, _⟩ := putApplied_ten (c := c) (s := s) bs
  rw [finishPut_ends, made.writeSeq]
  exact complete_completed (by simp [port]) (pair_of_port _ _ (by simp [port]))
    (by rw [ten_of_cache _ (by simp : (stageRefresh (putApplied c bs s)).cache = (putApplied c bs s).cache)]; exact made.completed)

theorem finishPut_ten (bs : List Block) : ((finishPut c bs s).ten c.fn).writeSeq = (s.ten c.fn).writeSeq + 1 ∧
    ((finishPut c bs s).ten c.fn).reserved = (s.ten c.fn).reserved - c.charged ∧
    ((finishPut c bs s).ten c.fn).lastThrottled = false ∧
    (s.cfg 0x2020 6 = 1 → ((finishPut c bs s).ten c.fn).hasKey = true) := by
  obtain ⟨made, keyed⟩ := putApplied_ten (c := c) (s := s) bs
  rw [finishPut_ends, ten_complete, if_pos rfl,
    ten_of_cache _ (by simp : (stageRefresh (putApplied c bs s)).cache = (putApplied c bs s).cache)]
  exact ⟨made.writeSeq, made.reserved, made.throttled, keyed⟩

/-! ### A PUT whose transfer failed -/

/-- A PUT that has given back what it was charged. -/
def putGivenBack (c : Cmd) (s : State) : State := stageRefresh (s.modTen c.fn fun t => { t with reserved := t.reserved - c.charged })

theorem failPut_faults : failPut c s = dmaFault c (putGivenBack c s) := rfl

theorem putGivenBack_frame : (putGivenBack c s).port = s.port ∧ (putGivenBack c s).isl = s.isl ∧ (putGivenBack c s).dict = s.dict ∧
    (putGivenBack c s).ev.started = s.ev.started := by
  unfold putGivenBack
  simp

theorem putGivenBack_cache : (putGivenBack c s).cache =
    (s.modTen c.fn fun t => { t with reserved := t.reserved - c.charged }).cache := by
  unfold putGivenBack
  simp

theorem putGivenBack_ten : (putGivenBack c s).ten c.fn = { s.ten c.fn with reserved := (s.ten c.fn).reserved - c.charged } := by
  rw [ten_of_cache _ putGivenBack_cache, ten_modTen, if_pos rfl]

theorem failPut_completed : Completed c (completion c .dataError 0 0) s (failPut c s) := by
  obtain ⟨port, _⟩ := putGivenBack_frame (c := c) (s := s)
  have ended : Completed c (completion c .dataError 0 0) s (endCmd c .dataError 0 (putGivenBack c s)) :=
    complete_completed (by rw [port]) (pair_of_port _ _ port) (by rw [putGivenBack_ten])
  exact ended.raise _ _ _

theorem failPut_logged : Logged (tenantEv c.fn.val 23) s (failPut c s) := by
  obtain ⟨_, isl, dict, started⟩ := putGivenBack_frame (c := c) (s := s)
  exact (dmaFault_told (c := c) (s := putGivenBack c s)).loggedFrom isl dict started

theorem failPut_reserved : ((failPut c s).ten c.fn).reserved = (s.ten c.fn).reserved - c.charged := by
  rw [failPut_faults]
  unfold dmaFault raiseTenant endCmd
  rw [ten_raise, ten_complete, if_pos rfl, putGivenBack_ten]

theorem failPut_eq : failPut c s = withEvents { s with
    port := (failPut c s).port, cache := { s.cache with tenants := (failPut c s).cache.tenants }
    adm := { s.adm with stage := (failPut c s).adm.stage } } (failPut c s) := by
  have staged : Staged s (failPut c s) := by
    rw [failPut_faults]
    have charged : Staged s (s.modTen c.fn fun t => { t with reserved := t.reserved - c.charged }) := rfl
    exact ((charged.trans stageRefresh_staged).trans (complete_staged ..)).trans (raise_staged ..)
  have flash : (failPut c s).flash = s.flash := by
    rw [failPut_faults]
    unfold dmaFault raiseTenant putGivenBack
    simp
  refine staged.tenants flash ?_
  have fault : (failPut c s).cache = (endCmd c .dataError 0 (putGivenBack c s)).cache := by
    rw [failPut_faults]
    unfold dmaFault raiseTenant
    simp
  have ended : (endCmd c .dataError 0 (putGivenBack c s)).cache = { (putGivenBack c s).cache with
    tenants := (endCmd c .dataError 0 (putGivenBack c s)).cache.tenants } := rfl
  rw [fault, ended, putGivenBack_cache]
  rfl

end

end Sys2Proof.Machine
end

section
open Sys2Proof Sys2Proof.Machine

/-- Settles O35: the admission check is taken branch by branch, and PUT_APPLY through what its steps leave of the tenant. -/
theorem putCommands : Obligations.PutCommands := by
  unfold Obligations.PutCommands
  refine ⟨fun id elems c u s runs record policy admits handle taken => ?_, fun id elems c s runs record policy admits handle => ?_,
    fun id elems c s runs record policy admits handle full => ?_, fun id elems c s runs record policy short => ?_,
    fun id elems c s runs barred => ?_, fun id bs c s found kind bus whole => ?_, fun id c s found kind bus => ?_,
    fun id ecc o c s cmd mem found kind turn bus listed => ?_⟩
  · have sameId : c.id = id := findCmd_id runs.found
    have tenants (g : Fin 16) : u.ten g = s.ten g := ten_of_tenants (takeSlots_tenants taken)
    have same := takeSlots_eq _ _ _ _ _ _ _ taken
    have port : u.port = s.port := by rw [same]
    have begins := checkPut_begins (elems := elems.getD []) record policy admits handle taken
    refine ⟨putBegun (elems.getD []) c s u, congrArg Host.Outcome.next ((runCmd_of_runs runs _).trans begins), ?_, ?_, ?_, ?_, ?_, ?_⟩
    · rw [← sameId]
      exact beginPut_found (by unfold findCmd; rw [port, sameId]; exact runs.found)
    · unfold putBegun
      rw [beginPut_ten, if_pos rfl, tenants]
    · intro m other
      unfold putBegun
      rw [beginPut_ten, if_neg (Ne.symm other), tenants]
    · unfold putBegun
      rw [beginPut_out, port, show u.out = s.out by rw [same]]
    · intro g k
      unfold putBegun
      rw [beginPut_pair, pair_of_port _ _ port]
    · unfold putBegun
      have begun := beginPut_eq (elems := elems.getD []) (c := c) (protect := effPolicy s c.fn == 0) (u := u)
        (m := if effPolicy s c.fn = 0 then chargeBlocks s c else 0) (k := slotlessBlocks s c)
      generalize beginPut _ _ _ _ _ u = v at begun ⊢
      conv_lhs => rw [begun, same]
  · exact ⟨_, congrArg Host.Outcome.next ((runCmd_of_runs runs _).trans (checkPut_noHandle record policy admits handle)),
      endNoSpace_completed 6, endNoSpace_told 6, endNoSpace_slots 6 c s⟩
  · exact ⟨_, congrArg Host.Outcome.next ((runCmd_of_runs runs _).trans (checkPut_noSlots record policy admits handle full)),
      endNoSpace_completed 4, endNoSpace_told 4, endNoSpace_slots 4 c s⟩
  · refine ⟨_, congrArg Host.Outcome.next ((runCmd_of_runs runs _).trans (checkPut_throttled record policy short)),
      throttlePut_completed, throttlePut_ten.1, throttlePut_ten.2, throttlePut_told, ?_, ?_, ?_, ?_⟩
    all_goals simp [throttlePut_ends]
  · exact ⟨_, congrArg Host.Outcome.next ((runCmd_of_runs runs _).trans (checkPut_policy barred)), endCmd_completed, complete_eq⟩
  · obtain ⟨seq, reserved, first, key⟩ := finishPut_ten (c := c) (s := s) bs
    refine ⟨finishPut c bs s, ?_, finishPut_completed bs, seq, reserved, first, key, finishPut_staged bs⟩
    show execPutApply id (.data bs) s = _
    unfold execPutApply
    simp [found, kind, bus, whole]
  · refine ⟨failPut c s, ?_, failPut_completed, failPut_logged, failPut_reserved, by simp, failPut_eq⟩
    show execPutApply id .failed s = _
    unfold execPutApply
    simp [found, kind, bus]
  · have fails (data : o.fields.data = true) : listFails o c none = true := by simp [listFails, data, listed]
    have ended : exec cmd s = .next (dmaFault c s) := by
      simp only [List.mem_cons, Prod.mk.injEq, List.not_mem_nil, or_false] at mem
      obtain ⟨rfl, rfl⟩ | ⟨rfl, rfl⟩ | ⟨rfl, rfl⟩ | ⟨rfl, rfl⟩ := mem
      all_goals exact congrArg Host.Outcome.next (runCmd_of_listFails found kind turn bus (fails rfl) _)
    exact ⟨dmaFault c s, ended, dmaFault_completed, dmaFault_told, by simp, endedTold_eq⟩
end

section
/-! GET (O36). -/

namespace Sys2Proof.Machine

/-! ### Reading blocks -/

section
variable {s : State} {c : Cmd} {elems : List Element}

/-- A GET whose blocks have been read, before it ends. -/
def blocksSent (elems : List Element) (c : Cmd) (ks : List Nat) (s : State) : State :=
  (takeTurn c.fn c.qp (ks.foldl (fun t k => touchSlot k t) s)).send
    (.dmaBlocks c.fn (writeParts s c.fn (dataParts c.sqe elems)) (slotData s ks))

theorem blocksSent_eq (ks : List Nat) : blocksSent elems c ks s = { s with
    port := (takeTurn c.fn c.qp s).port
    cache := { s.cache with
      stamp := (ks.foldl (fun t k => touchSlot k t) s).cache.stamp
      slots := (ks.foldl (fun t k => touchSlot k t) s).cache.slots }
    out := s.out ++ [.dmaBlocks c.fn (writeParts s c.fn (dataParts c.sqe elems)) (slotData s ks)] } := by
  have touched := touchSlots_eq (s := s) ks
  unfold blocksSent
  generalize List.foldl _ s ks = t at touched ⊢
  rw [touched]
  rfl

theorem blocksSent_pair (ks : List Nat) (g : Fin 16) (k : Fin 4) : (blocksSent elems c ks s).pair g k = s.pair g k := by
  rw [blocksSent_eq]
  exact pair_takeTurn s c.fn g c.qp k

theorem blocksSent_completed (ks : List Nat) (x : Completion) : Completed c x s (complete c x (blocksSent elems c ks s)) :=
  complete_completed (by rw [blocksSent_eq]; rfl) (blocksSent_pair ..) (by rw [blocksSent_eq]; rfl)

theorem blocksSent_out (ks : List Nat) : (blocksSent elems c ks s).out =
    s.out ++ [.dmaBlocks c.fn (writeParts s c.fn (dataParts c.sqe elems)) (slotData s ks)] := by
  rw [blocksSent_eq]

theorem blocksSent_slots (ks : List Nat) : (blocksSent elems c ks s).cache.slots =
    (ks.foldl (fun t k => touchSlot k t) s).cache.slots := by
  rw [blocksSent_eq]

theorem blocksOf_length (c : Cmd) : (blocksOf c).length = sqeLength c.sqe := by
  unfold blocksOf
  simp

theorem finishGet_reads {ks : List Nat} (found : lookBlocks s (targetOf c.fn c.sqe) (sqeVolume c.sqe) 0 (blocksOf c) = .slots ks) : finishGet false none elems c s =
    complete c (completion c .success (4096 * sqeLength c.sqe) 0) (blocksSent elems c ks s) := by
  unfold finishGet
  dsimp only
  rw [found]
  simp [completion]
  rfl

theorem finishGet_ecc {ks : List Nat} {i : Nat} (found : lookBlocks s (targetOf c.fn c.sqe) (sqeVolume c.sqe) 0 (blocksOf c) = .slots ks) (inside : i < sqeLength c.sqe) :
    ∃ lba, finishGet false (some i) elems c s = eccFails (targetOf c.fn c.sqe) lba c s := by
  have there : i < (blocksOf c).length := by rw [blocksOf_length]; exact inside
  refine ⟨(blocksOf c)[i], ?_⟩
  unfold finishGet
  dsimp only
  rw [found]
  simp [there]

theorem startGet_reads {ks : List Nat} {ecc : Option Nat} (found : lookBlocks s (targetOf c.fn c.sqe) (sqeVolume c.sqe) 0 (blocksOf c) = .slots ks) (there : unrestoredOf s ks = []) :
    startGet ecc elems c s = finishGet false ecc elems c s := by
  unfold startGet
  rw [found]
  simp [there]

theorem startGet_fetches {ks : List Nat} {ecc : Option Nat} (found : lookBlocks s (targetOf c.fn c.sqe) (sqeVolume c.sqe) 0 (blocksOf c) = .slots ks) (away : unrestoredOf s ks ≠ []) :
    startGet ecc elems c s = startFetches c elems ks s := by
  unfold startGet
  rw [found]
  simp [away]

theorem startGet_absent {i : Nat} {ecc : Option Nat} (found : lookBlocks s (targetOf c.fn c.sqe) (sqeVolume c.sqe) 0 (blocksOf c) = .absent i) :
    startGet ecc elems c s = endCmd c .notPresent i s := by
  unfold startGet finishGet
  simp [found]

theorem startGet_lost {i : Nat} {ecc : Option Nat} (found : lookBlocks s (targetOf c.fn c.sqe) (sqeVolume c.sqe) 0 (blocksOf c) = .lost i) :
    startGet ecc elems c s = endCmd c .lost 0 s := by
  unfold startGet finishGet
  simp [found]

theorem eccFails_completed {n : Fin 16} {lba : Nat} : Completed c (completion c .eccError 0 0) s (eccFails n lba c s) :=
  endCmd_completed.raise _ _ _

theorem eccFails_told {n : Fin 16} {lba : Nat} : Told (tenantEv n.val 24) s (eccFails n lba c s) :=
  (raise_told (endCmd c .eccError 0 s) _ _ _).of rfl rfl rfl

/-- A GET that may run does what its look-up lets it do. -/
theorem exec_get {id : Nat} {elems : Option (List Element)} (runs : Runs .get id elems c s) (ecc : Option Nat) :
    exec (.get id elems ecc) s = .next (startGet ecc (elems.getD []) c s) :=
  congrArg Host.Outcome.next (runCmd_of_runs runs (startGet ecc))

theorem blocksSent_ended (ks : List Nat) (x : Completion) : complete c x (blocksSent elems c ks s) = { s with
    port := (complete c x (blocksSent elems c ks s)).port
    cache := (complete c x (blocksSent elems c ks s)).cache
    out := (complete c x (blocksSent elems c ks s)).out } := by
  have sent := blocksSent_eq (s := s) (c := c) (elems := elems) ks
  generalize blocksSent elems c ks s = t at sent ⊢
  rw [sent]
  rfl

end

end Sys2Proof.Machine
end

section
open Sys2Proof Sys2Proof.Machine

/-- Settles O36: by what the look-up of the blocks finds. -/
theorem getCommand : Obligations.GetCommand := by
  unfold Obligations.GetCommand
  refine ⟨fun id elems c ks s runs found there => ?_, fun id elems ecc c i s runs found => ?_, fun id elems ecc c i s runs found => ?_,
    fun id elems i c ks s runs found there inside => ?_, fun id elems ecc c ks s runs found away => ?_⟩
  · refine ⟨_, ?_, blocksSent_completed (elems := elems.getD []) ks _, (by simp [blocksSent_out]), fun k => ?_, blocksSent_ended ks _⟩
    · rw [exec_get runs, startGet_reads found there, finishGet_reads found]
    · rw [complete_slots, blocksSent_slots]
      exact touchSlots_slots ks k
  · refine ⟨_, ?_, endCmd_completed, complete_eq⟩
    rw [exec_get runs, startGet_absent found]
  · refine ⟨_, ?_, endCmd_completed, complete_eq⟩
    rw [exec_get runs, startGet_lost found]
  · obtain ⟨lba, fails⟩ := finishGet_ecc (elems := elems.getD []) found inside
    refine ⟨_, ?_, eccFails_completed (lba := lba), eccFails_told, endedTold_eq⟩
    rw [exec_get runs, startGet_reads found there, fails]
  · refine ⟨startFetches c (elems.getD []) ks s, by rw [exec_get runs, startGet_fetches found away], ?_, rfl⟩
    have sameId : c.id = id := findCmd_id runs.found
    rw [← sameId]
    exact findCmd_modCmd (f := fun c => { c with stage := .fetching, fetches := unrestoredOf s ks, elems := elems.getD [] })
      (by rw [sameId]; exact runs.found) (fun _ => rfl) rfl
end

section
/-! CLEAN and DROP, slot by slot (O37). -/

namespace Sys2Proof.Machine

/-! ### Cleaning and dropping slots -/

section
variable {s : State} {c : Cmd}

/-- A slot that CLEAN has made clean (05 R237; 06 R327): one that DRAM does not hold is gone. -/
def cleanedSlot (q : Slot) : Option Slot :=
  if q.unrestored ∨ q.lost then none else some { q with dirty := false, copyValid := false, fromImage := false, copy := none }

theorem cleanedSlot_twice (x : Option Slot) : (x.bind cleanedSlot).bind cleanedSlot = x.bind cleanedSlot := by
  cases x with
  | none => rfl
  | some q =>
    show (cleanedSlot q).bind cleanedSlot = cleanedSlot q
    unfold cleanedSlot
    split
    · rfl
    · rename_i kept
      simp [kept]

theorem mapFind_cleanSlot (k j : Nat) : mapFind (cleanSlot k s).cache.slots j =
    if j = k then (mapFind s.cache.slots k).bind cleanedSlot else mapFind s.cache.slots j := by
  unfold cleanSlot
  split
  · rename_i none
    split
    · rename_i same
      rw [same, none]
      rfl
    · rfl
  · rename_i q found
    simp only [found, Option.bind_some, cleanedSlot]
    split
    · simp [mapFind_mapErase]
    · simp [mapFind_mapSet]

theorem mapFind_dropSlot (k j : Nat) : mapFind (dropSlot k s).cache.slots j = if j = k then none else mapFind s.cache.slots j := by
  unfold dropSlot
  split
  · rename_i none
    split
    · rename_i same
      rw [same, none]
    · rfl
  · simp [mapFind_mapErase]

theorem mapFind_cleanSlots (ks : List Nat) (j : Nat) : mapFind (ks.foldl (fun t k => cleanSlot k t) s).cache.slots j =
    if j ∈ ks then (mapFind s.cache.slots j).bind cleanedSlot else mapFind s.cache.slots j := by
  induction ks generalizing s with
  | nil => simp
  | cons k ks ih =>
    rw [List.foldl_cons, ih, mapFind_cleanSlot]
    by_cases same : j = k
    · subst same
      simp [cleanedSlot_twice]
    · simp [same]

theorem mapFind_dropSlots (ks : List Nat) (j : Nat) : mapFind (ks.foldl (fun t k => dropSlot k t) s).cache.slots j =
    if j ∈ ks then none else mapFind s.cache.slots j := by
  induction ks generalizing s with
  | nil => simp
  | cons k ks ih =>
    rw [List.foldl_cons, ih, mapFind_dropSlot]
    by_cases same : j = k
    · simp [same]
    · simp [same]

/-! ### The rest of the state -/

/-- From `s` to `t` the commands have not changed, and the tenants neither. -/
structure SameQueues (s t : State) : Prop where
  staged : Staged s t
  port : t.port = s.port
  tenants : t.cache.tenants = s.cache.tenants

theorem SameQueues.trans {t u : State} (h : SameQueues s t) (g : SameQueues t u) : SameQueues s u :=
  ⟨h.staged.trans g.staged, g.port.trans h.port, g.tenants.trans h.tenants⟩

theorem SameQueues.foldl {t : State} {f : State → Nat → State} (ks : List Nat) (h : SameQueues s t)
    (each : ∀ u k, SameQueues u (f u k)) : SameQueues s (ks.foldl f t) :=
  List.foldlRecOn (motive := SameQueues s) ks f h fun u hu k _ => hu.trans (each u k)

theorem SameQueues.completed {t : State} (h : SameQueues s t) (x : Completion) : Completed c x s (complete c x t) :=
  complete_completed (by rw [h.port]) (pair_of_port _ _ h.port) (by rw [ten_of_tenants h.tenants])

theorem cleanSlot_only (k : Nat) : SameQueues s (cleanSlot k s) := by
  refine ⟨?_, by simp, ?_⟩
  · have frame := cleanSlot_frame k s
    unfold Staged
    generalize cleanSlot k s = t at frame ⊢
    cases t
    simp_all [withEvents]
  · unfold cleanSlot
    split
    · rfl
    · rename_i q _
      dsimp only
      have removed := congrArg Cache.tenants (noteRemoval_cache q.tenant (volumeOf s.cache q.handle) q.lba s)
      split <;> exact removed

theorem dropSlot_only (k : Nat) : SameQueues s (dropSlot k s) := by
  refine ⟨?_, by simp, ?_⟩
  · have frame := dropSlot_frame k s
    unfold Staged
    generalize dropSlot k s = t at frame ⊢
    cases t
    simp_all [withEvents]
  · unfold dropSlot
    split <;> rfl

theorem Sends.queues {t : State} (h : Sends s t) : SameQueues s t := by
  obtain ⟨l, rfl⟩ := h
  exact ⟨rfl, rfl, rfl⟩

theorem readSlotWord_sends (k : Nat) : Sends s (readSlotWord k s) := by
  have word (p : Place) : Sends s (readWord p s) := (flashDo_sends ..).trans (flashDo_sends ..)
  unfold readSlotWord
  (repeat' split) <;> simp only [word, Sends.refl]

/-! ### CLEAN -/

/-- The slots that CLEAN fetches on demand, so as to see their sequence (12 R680). -/
def fetchedToClean (s : State) (c : Cmd) : List Nat :=
  if sqeParam1 c.sqe = 0 then [] else ((heldBlocks s c).filter (fun q => q.2.unrestored)).map (·.1)

/-- The state in which CLEAN has cleaned its slots. -/
def cleaned (c : Cmd) (s : State) : State :=
  (((heldBlocks s c).filter (cleans (sqeParam1 c.sqe))).map (·.1)).foldl (fun t k => cleanSlot k t)
    ((fetchedToClean s c).foldl (fun t k => readSlotWord k t)
      { s with flash.onDemandFetches := s.flash.onDemandFetches + (fetchedToClean s c).length })

theorem cleanBlocks_ends : cleanBlocks c s = stageRefresh (complete c
    (completion c .success ((heldBlocks s c).filter (cleans (sqeParam1 c.sqe))).length 0) (cleaned c s)) := by
  rw [← List.length_map (f := (·.1))]
  rfl

theorem cleaned_only : SameQueues s (cleaned c s) := by
  have counted : SameQueues s { s with flash.onDemandFetches := s.flash.onDemandFetches + (fetchedToClean s c).length } := ⟨rfl, rfl, rfl⟩
  exact (counted.foldl _ fun u k => (readSlotWord_sends k).queues).foldl _ fun u k => cleanSlot_only k

theorem mapFind_cleaned (k : Nat) : mapFind (cleaned c s).cache.slots k =
    if k ∈ ((heldBlocks s c).filter (cleans (sqeParam1 c.sqe))).map (·.1) then (mapFind s.cache.slots k).bind cleanedSlot
    else mapFind s.cache.slots k := by
  unfold cleaned
  rw [mapFind_cleanSlots]
  simp

/-- The number of a slot is among those of a part of the directory exactly where the slot is. -/
theorem mem_keys_iff {l : List (Nat × Slot)} {k : Nat} {q : Slot} (wf : mapWf s.cache.slots = true) (sub : l ⊆ s.cache.slots)
    (found : mapFind s.cache.slots k = some q) : k ∈ l.map (·.1) ↔ (k, q) ∈ l := by
  refine ⟨fun mem => ?_, fun mem => List.mem_map.2 ⟨_, mem, rfl⟩⟩
  obtain ⟨⟨_, r⟩, here, rfl⟩ := List.mem_map.1 mem
  have same := mapFind_of_mem wf (sub here)
  rw [found] at same
  cases same
  exact here

theorem heldBlocks_subset : heldBlocks s c ⊆ s.cache.slots := by
  unfold heldBlocks slotsIn
  split
  · simp
  · exact List.filter_subset_self _

/-- The slots after CLEAN or DROP are those before the completion. -/
theorem stagedEnd_slots (x : Completion) : (stageRefresh (complete c x s)).cache.slots = s.cache.slots := by simp

theorem SameQueues.ended {t : State} (h : SameQueues s t) (x : Completion) :
    Completed c x s (stageRefresh (complete c x t)) ∧ Staged s (stageRefresh (complete c x t)) :=
  ⟨(h.completed x).of_eq (by simp) (by simp), (h.staged.trans (complete_staged ..)).trans stageRefresh_staged⟩

/-! ### DROP -/

/-- The state in which DROP has dropped its slots. -/
def dropped (c : Cmd) (s : State) : State := ((heldBlocks s c).map (·.1)).foldl (fun t k => dropSlot k t) s

theorem dropBlocks_ends : dropBlocks c s = stageRefresh (complete c (completion c .success (heldBlocks s c).length 0) (dropped c s)) := by
  rw [← List.length_map (f := (·.1))]
  rfl

theorem dropped_only : SameQueues s (dropped c s) := (⟨rfl, rfl, rfl⟩ : SameQueues s s).foldl _ fun _ k => dropSlot_only k

end

end Sys2Proof.Machine
end

section
open Sys2Proof Sys2Proof.Machine

/-- Settles O37: what the slots of the span become one by one, and that the rest of the queues and the state stays. -/
theorem cleanAndDrop : Obligations.CleanAndDrop := by
  unfold Obligations.CleanAndDrop
  refine ⟨fun id c s inv runs => ?_, fun id c s inv runs => ?_⟩
  · have cleanable {k q} (found : mapFind s.cache.slots k = some q) :
        k ∈ ((heldBlocks s c).filter (cleans (sqeParam1 c.sqe))).map (·.1) ↔
          (k, q) ∈ heldBlocks s c ∧ cleans (sqeParam1 c.sqe) (k, q) = true := by
      rw [mem_keys_iff inv.slots (fun _ mem => heldBlocks_subset (List.mem_filter.1 mem).1) found, List.mem_filter]
    obtain ⟨completed, staged⟩ := (cleaned_only (c := c) (s := s)).ended (c := c)
      (completion c .success ((heldBlocks s c).filter (cleans (sqeParam1 c.sqe))).length 0)
    refine ⟨_, ?_, completed, fun k q found mem cleanly => ?_, fun k q found other => ?_, staged⟩
    · rw [← cleanBlocks_ends]
      exact congrArg Host.Outcome.next (runCmd_of_runs runs fun _ => cleanBlocks)
    · rw [stagedEnd_slots, mapFind_cleaned, if_pos ((cleanable found).2 ⟨mem, cleanly⟩), found]
      rfl
    · rw [stagedEnd_slots, mapFind_cleaned, if_neg (fun mem => other ((cleanable found).1 mem)), found]
  · obtain ⟨completed, staged⟩ := (dropped_only (c := c) (s := s)).ended (c := c) (completion c .success (heldBlocks s c).length 0)
    refine ⟨_, ?_, completed, fun k q found => ?_, staged⟩
    · rw [← dropBlocks_ends]
      exact congrArg Host.Outcome.next (runCmd_of_runs runs fun _ => dropBlocks)
    · rw [stagedEnd_slots, dropped, mapFind_dropSlots, found]
      simp only [mem_keys_iff inv.slots heldBlocks_subset found]
end

section
/-! LIST, FENCE, SEGMENT_READ and on-demand fetches (O38). -/

namespace Sys2Proof.Machine

/-! ### LIST -/

section
variable {s : State} {c : Cmd} {elems : List Element}

/-- From `s` to `t` a tenant's volumes may have been noted for LIST, and nothing else has happened. -/
structure NotesVolumes (s t : State) : Prop where
  only : t = { s with cache := { s.cache with tenants := t.cache.tenants } }
  completed : ∀ m, (t.ten m).completed = (s.ten m).completed

/-- A volume has its place in the tenant's list, from which a cursor names it (05 R241; log 52). -/
theorem noteVolume_notes (n : Fin 16) (vol : BitVec 32) : NotesVolumes s (noteVolume n vol s).2 ∧
    ((noteVolume n vol s).2.ten n).listVolumes[(noteVolume n vol s).1]? = some vol := by
  unfold noteVolume
  dsimp only
  split
  · rename_i there
    refine ⟨⟨rfl, fun _ => rfl⟩, ?_⟩
    have mem : vol ∈ (s.ten n).listVolumes := by simpa using there
    show (s.ten n).listVolumes[(s.ten n).listVolumes.idxOf vol]? = some vol
    rw [List.getElem?_eq_getElem (List.idxOf_lt_length_iff.2 mem), List.getElem_idxOf]
  · refine ⟨⟨rfl, fun m => ?_⟩, ?_⟩
    · show ((s.modTen n _).ten m).completed = _
      rw [ten_modTen]
      split <;> rfl
    · show ((s.modTen n _).ten n).listVolumes[_]? = _
      rw [ten_modTen, if_pos rfl]
      simp

/-- The cursor that LIST answers, and the state in which it stands. -/
def listNext (n : Fin 16) (left : Option Extent) (s : State) : Nat × State :=
  match left with
  | some e => (cursorOf (noteVolume n e.volume s).1 e.lba, (noteVolume n e.volume s).2)
  | none => (0, s)

theorem listNext_notes (n : Fin 16) (left : Option Extent) : NotesVolumes s (listNext n left s).2 := by
  cases left with
  | none => exact ⟨rfl, fun _ => rfl⟩
  | some e => exact (noteVolume_notes n e.volume).1

theorem listNext_cursor {n : Fin 16} {e : Extent} (fits : e.lba < 2 ^ 48) : (listNext n (some e) s).1 ≠ 0 ∧
    cursorAt (listNext n (some e) s).2 n (listNext n (some e) s).1 = (e.volume, e.lba) := by
  obtain ⟨_, noted⟩ := noteVolume_notes (s := s) n e.volume
  have nonzero : cursorOf (noteVolume n e.volume s).1 e.lba ≠ 0 := Nat.succ_ne_zero _
  refine ⟨nonzero, ?_⟩
  show cursorAt (noteVolume n e.volume s).2 n (cursorOf (noteVolume n e.volume s).1 e.lba) = _
  unfold cursorAt
  rw [if_neg nonzero]
  have place : (cursorOf (noteVolume n e.volume s).1 e.lba - 1) / 2 ^ 48 = (noteVolume n e.volume s).1 := by
    unfold cursorOf
    omega
  have block : (cursorOf (noteVolume n e.volume s).1 e.lba - 1) % 2 ^ 48 = e.lba := by
    unfold cursorOf
    omega
  rw [place, block, List.getD_eq_getElem?_getD, noted]
  rfl

theorem cursorAt_congr {t : State} {n : Fin 16} {cursor : Nat} (same : (t.ten n).listVolumes = (s.ten n).listVolumes) :
    cursorAt t n cursor = cursorAt s n cursor := by
  unfold cursorAt
  rw [same]

/-- What LIST writes of some extents (05 R240). -/
def listBytes (es : List Extent) (room : Nat) : List Byte :=
  (es.take room).flatMap extentBytes ++ (if es.length < room then List.replicate 16 0 else [])

/-- The extents that a LIST finds from its cursor on. -/
def listFound (c : Cmd) (s : State) : List Extent := extentsFrom s (targetOf c.fn c.sqe) (sqeVolume c.sqe) (sqeParam1 c.sqe)

/-- The state in which LIST has written its extents. -/
def listed (elems : List Element) (c : Cmd) (s : State) : State :=
  dmaWrite c.fn (dataParts c.sqe elems) (listBytes (listFound c s) (dataBytes c.sqe elems / 16)) (takeTurn c.fn c.qp
    (listNext (targetOf c.fn c.sqe) ((listFound c s).drop (dataBytes c.sqe elems / 16)).head? s).2)

theorem listExtents_ends : listExtents elems c s = complete c (completion c .success
    (listNext (targetOf c.fn c.sqe) ((listFound c s).drop (dataBytes c.sqe elems / 16)).head? s).1 0) (listed elems c s) := by
  unfold listExtents listNext listed
  rfl

theorem listed_eq : ∃ tenants, listed elems c s = { s with
    port := (takeTurn c.fn c.qp s).port
    cache := { s.cache with tenants := tenants }
    out := s.out ++ (spread (writeParts s c.fn (dataParts c.sqe elems))
      (listBytes (listFound c s) (dataBytes c.sqe elems / 16))).map fun p => .dma c.fn p.1 p.2 } ∧
    tenants = (listNext (targetOf c.fn c.sqe) ((listFound c s).drop (dataBytes c.sqe elems / 16)).head? s).2.cache.tenants := by
  obtain ⟨noted, _⟩ := listNext_notes (s := s) (targetOf c.fn c.sqe) ((listFound c s).drop (dataBytes c.sqe elems / 16)).head?
  refine ⟨_, ?_, rfl⟩
  unfold listed
  rw [dmaWrite_eq, writeParts_takeTurn]
  generalize (listNext _ _ s).2 = t at noted ⊢
  rw [noted]
  rfl

theorem listed_ten (m : Fin 16) : (listed elems c s).ten m =
    (listNext (targetOf c.fn c.sqe) ((listFound c s).drop (dataBytes c.sqe elems / 16)).head? s).2.ten m := by
  obtain ⟨tenants, same, at_⟩ := listed_eq (elems := elems) (c := c) (s := s)
  exact ten_of_tenants (by rw [same, at_])

theorem listed_completed (m : Fin 16) : ((listed elems c s).ten m).completed = (s.ten m).completed := by
  rw [listed_ten]
  exact (listNext_notes ..).completed m

theorem listed_pair (g : Fin 16) (k : Fin 4) : (listed elems c s).pair g k = s.pair g k := by
  obtain ⟨tenants, same, _⟩ := listed_eq (elems := elems) (c := c) (s := s)
  rw [same]
  exact pair_takeTurn s c.fn g c.qp k

theorem listed_cmds : (listed elems c s).port.cmds = s.port.cmds := by
  obtain ⟨tenants, same, _⟩ := listed_eq (elems := elems) (c := c) (s := s)
  rw [same]
  rfl

theorem listed_ended (x : Completion) : complete c x (listed elems c s) = { s with
    port := (complete c x (listed elems c s)).port
    cache := { s.cache with tenants := (complete c x (listed elems c s)).cache.tenants }
    out := (complete c x (listed elems c s)).out } := by
  obtain ⟨tenants, same, _⟩ := listed_eq (elems := elems) (c := c) (s := s)
  generalize listed elems c s = t at same ⊢
  rw [same]
  rfl

/-! ### SEGMENT_READ -/

/-- A SEGMENT-READ whose bytes have been read, before it ends. -/
def segmentSent (elems : List Element) (c : Cmd) (ks : List Nat) (bytes : List Byte) (s : State) : State :=
  dmaWrite c.fn (dataParts c.sqe elems) bytes (takeTurn c.fn c.qp (ks.foldl (fun t k => touchSlot k t) s))

theorem segmentSent_eq (ks : List Nat) (bytes : List Byte) : segmentSent elems c ks bytes s = { s with
    port := (takeTurn c.fn c.qp s).port
    cache := { s.cache with
      stamp := (ks.foldl (fun t k => touchSlot k t) s).cache.stamp
      slots := (ks.foldl (fun t k => touchSlot k t) s).cache.slots }
    out := s.out ++ (spread (writeParts s c.fn (dataParts c.sqe elems)) bytes).map fun p => .dma c.fn p.1 p.2 } := by
  have touched := touchSlots_eq (s := s) ks
  unfold segmentSent
  rw [dmaWrite_eq, writeParts_takeTurn]
  generalize List.foldl _ s ks = t at touched ⊢
  rw [touched]
  rfl

theorem segmentSent_completed (ks : List Nat) (bytes : List Byte) (x : Completion) :
    Completed c x s (complete c x (segmentSent elems c ks bytes s)) :=
  complete_completed (by rw [segmentSent_eq]; rfl) (by rw [segmentSent_eq]; exact pair_takeTurn s c.fn c.fn c.qp c.qp)
    (by rw [segmentSent_eq]; rfl)

theorem segmentSent_ended (ks : List Nat) (bytes : List Byte) (x : Completion) : complete c x (segmentSent elems c ks bytes s) = { s with
    port := (complete c x (segmentSent elems c ks bytes s)).port
    cache := (complete c x (segmentSent elems c ks bytes s)).cache
    out := (complete c x (segmentSent elems c ks bytes s)).out } := by
  have sent := segmentSent_eq (s := s) (c := c) (elems := elems) ks bytes
  generalize segmentSent elems c ks bytes s = t at sent ⊢
  rw [sent]
  rfl

/-- The segment that a SEGMENT-READ names, and the bytes it has and may read of it. -/
def segmentOf (c : Cmd) : Fin 16 := Fin.ofNat 16 (sqeVolume c.sqe).toNat
def segmentLen (s : State) (c : Cmd) (h : Slot) : Nat :=
  min (sqeLength c.sqe) (segmentEnd s (segmentOf c) (sqeLba c.sqe) h.data - sqeParam1 c.sqe)

/-- A SEGMENT-READ of slots that DRAM holds: it ends with its bytes, or at a block with an error (05 R247, R248, R261). -/
def segmentGoes (ecc : Option Nat) (elems : List Element) (c : Cmd) (h : Slot) (ks : List Nat) (s : State) : State :=
  match (spanBlocks (sqeLba c.sqe) (sqeParam1 c.sqe) (segmentLen s c h))[ecc.getD
      (spanBlocks (sqeLba c.sqe) (sqeParam1 c.sqe) (segmentLen s c h)).length]? with
  | some lba => eccFails s.cache.videoTenant lba c s
  | none => complete c { completion c .success (segmentLen s c h) 0 with
      segmentEnd := decide (segmentEnd s (segmentOf c) (sqeLba c.sqe) h.data ≤ sqeParam1 c.sqe + sqeLength c.sqe)
      onDemand := c.stage == .fetching }
      (segmentSent elems c ks (cutBytes s ks (sqeParam1 c.sqe % 4096) (segmentLen s c h)) s)

theorem segmentGoes_reads {h : Slot} {ks : List Nat} (fetched : c.stage = .fetched) : segmentGoes none elems c h ks s =
    complete c { completion c .success (segmentLen s c h) 0 with
      segmentEnd := decide (segmentEnd s (segmentOf c) (sqeLba c.sqe) h.data ≤ sqeParam1 c.sqe + sqeLength c.sqe) }
      (segmentSent elems c ks (cutBytes s ks (sqeParam1 c.sqe % 4096) (segmentLen s c h)) s) := by
  unfold segmentGoes
  simp [fetched, completion]
  rfl

theorem segmentGoes_fails {h : Slot} {ks : List Nat} {i : Nat}
    (inside : i < (spanBlocks (sqeLba c.sqe) (sqeParam1 c.sqe) (segmentLen s c h)).length) :
    ∃ lba, segmentGoes (some i) elems c h ks s = eccFails s.cache.videoTenant lba c s := by
  unfold segmentGoes
  simp only [Option.getD_some, List.getElem?_eq_getElem inside]
  exact ⟨_, rfl⟩

section
variable {h : Slot} {hk : Nat} {ks : List Nat} {ecc : Option Nat} (may : c.fn = s.cache.videoTenant ∨ c.fn = 0) (fits : sqeLba c.sqe < 2 ^ 34)
  (header : slotAt s.cache s.cache.videoTenant (segVolume (segmentOf c)) (segLba (sqeLba c.sqe)) = some h)
  (number : slotNo s.cache s.cache.videoTenant (segVolume (segmentOf c)) (segLba (sqeLba c.sqe)) = some hk)
  (here : h.unrestored = false) (kept : h.lost = false)
  (found : lookBlocks s s.cache.videoTenant (segVolume (segmentOf c)) 0
    (spanBlocks (sqeLba c.sqe) (sqeParam1 c.sqe) (segmentLen s c h)) = .slots ks) (there : unrestoredOf s ks = [])
include may fits header number here kept found there

/-- A SEGMENT-READ of blocks that DRAM holds goes to them. -/
theorem readSegment_found : readSegment ecc elems c s = segmentGoes ecc elems c h ks s := by
  have barred : ¬ (c.fn ≠ s.cache.videoTenant ∧ c.fn ≠ 0) := by
    rcases may with h | h <;> simp [h]
  unfold readSegment segmentGoes
  unfold segmentLen segmentOf at *
  dsimp only
  rw [if_neg barred, header, number]
  dsimp only
  rw [if_neg (by omega), if_neg (by simp [here]), if_neg (by simp [kept]), found]
  dsimp only
  rw [if_neg (by simp [there])]
  rfl

end

theorem readSegment_barred {ecc : Option Nat} (other : c.fn ≠ s.cache.videoTenant) (notPF0 : c.fn ≠ 0) :
    readSegment ecc elems c s = endCmd c .policy 0 s := by
  unfold readSegment
  dsimp only
  rw [if_pos ⟨other, notPF0⟩]

/-! ### On-demand fetches -/

theorem mapFind_restoreData (k j : Nat) : mapFind (restoreData k s).cache.slots j = mapFind s.cache.slots j ∨
    j = k ∧ ∃ q d, mapFind s.cache.slots k = some q ∧
      mapFind (restoreData k s).cache.slots j = some { q with unrestored := false, data := d } := by
  unfold restoreData
  split
  · exact .inl rfl
  · rename_i q found
    split
    · exact .inl rfl
    · extract_lets d
      show mapFind (mapSet s.cache.slots k _) j = _ ∨ _ ∧ ∃ _ _, _ ∧ mapFind (mapSet s.cache.slots k _) j = _
      rw [mapFind_mapSet]
      split
      · rename_i same
        exact .inr ⟨same, q, d, found, rfl⟩
      · exact .inl rfl

/-- A slot that has come from flash is restored (02 R92). -/
theorem restoreData_restored {k : Nat} {q : Slot} (found : mapFind (restoreData k s).cache.slots k = some q) : q.unrestored = false := by
  unfold restoreData at found
  split at found
  · rename_i none
    rw [none] at found
    cases found
  · rename_i r there
    split at found
    · rename_i restored
      rw [there] at found
      cases found
      exact restored
    · extract_lets d at found
      have set : mapFind (mapSet s.cache.slots k { r with unrestored := false, data := d }) k = some q := found
      rw [mapFind_mapSet, if_pos rfl] at set
      cases set
      rfl

theorem restoreData_done {k : Nat} {q : Slot} (found : mapFind s.cache.slots k = some q) (away : q.unrestored = true) :
    (restoreData k s).flash.restoreDone = s.flash.restoreDone + 1 := by
  unfold restoreData
  simp [found, away]

theorem restoreData_eq (k : Nat) : restoreData k s = { s with
    cache := { s.cache with slots := (restoreData k s).cache.slots }
    flash := { s.flash with restoreDone := (restoreData k s).flash.restoreDone } } := by
  unfold restoreData
  split
  · rfl
  · split <;> rfl

/-- What a block's slot is known by, and whether its copy is lost. -/
def placeOfSlot (q : Slot) : Fin 16 × Nat × Nat × Bool := (q.tenant, q.handle, q.lba, q.lost)

/-- From one directory to another the same blocks stand in the same slots. -/
def SamePlaces (m m' : SMap Slot) : Prop := ∀ j, (mapFind m' j).map placeOfSlot = (mapFind m j).map placeOfSlot

/-- A slot of a directory holds a block. -/
def holdsBlock (m : SMap Slot) (n : Fin 16) (h lba j : Nat) : Bool := ((mapFind m j).map placeOfSlot).any
  fun p => p.1 == n && p.2.1 == h && p.2.2.1 == lba

theorem holdsBlock_iff {m : SMap Slot} {n : Fin 16} {h lba j : Nat} :
    holdsBlock m n h lba j = true ↔ ∃ q, mapFind m j = some q ∧ isBlock n h lba q = true := by
  unfold holdsBlock
  cases mapFind m j with
  | none => simp
  | some q => simp [placeOfSlot, isBlock]

theorem not_holdsBlock_iff {m : SMap Slot} {n : Fin 16} {h lba j : Nat} :
    holdsBlock m n h lba j = false ↔ ∀ q, mapFind m j = some q → isBlock n h lba q = false := by
  unfold holdsBlock
  cases mapFind m j with
  | none => simp
  | some q => simp [placeOfSlot, isBlock]

/-- Slots of the same blocks are found as before. -/
theorem slotNo_congr {x y : Cache} {n : Fin 16} {vol : BitVec 32} {lba : Nat} (wfx : mapWf x.slots = true) (wfy : mapWf y.slots = true)
    (handles : y.handles = x.handles) (same : SamePlaces x.slots y.slots) : slotNo y n vol lba = slotNo x n vol lba := by
  have sameHandle : handleOf y n vol = handleOf x n vol := by
    unfold handleOf
    rw [handles]
  cases held : handleOf x n vol with
  | none =>
    rw [held] at sameHandle
    unfold slotNo
    rw [held, sameHandle]
  | some h =>
    rw [held] at sameHandle
    have blocks (j : Nat) : holdsBlock y.slots n h lba j = holdsBlock x.slots n h lba j := by
      unfold holdsBlock
      rw [same j]
    refine Option.ext fun k => ?_
    rw [slotNo_iff wfy sameHandle, slotNo_iff wfx held, ← holdsBlock_iff, ← holdsBlock_iff, blocks]
    simp only [← not_holdsBlock_iff, blocks]

/-- A look-up finds in the slots of the same blocks what it found. -/
theorem lookBlocks_congr {t : State} {n : Fin 16} {vol : BitVec 32} (number : ∀ b, slotNo t.cache n vol b = slotNo s.cache n vol b)
    (same : SamePlaces s.cache.slots t.cache.slots) (l : List Nat) (i : Nat) : lookBlocks t n vol i l = lookBlocks s n vol i l := by
  induction l generalizing i with
  | nil => rfl
  | cons b rest ih =>
    unfold lookBlocks
    rw [number b]
    cases slotNo s.cache n vol b with
    | none => rfl
    | some k =>
      dsimp only
      rw [ih]
      have lost := congrArg (Option.map fun p => p.2.2.2) (same k)
      rw [Option.map_map, Option.map_map] at lost
      have lostOf : ((fun p : Fin 16 × Nat × Nat × Bool => p.2.2.2) ∘ placeOfSlot) = Slot.lost := rfl
      rw [lostOf] at lost
      cases before : mapFind s.cache.slots k <;> cases after : mapFind t.cache.slots k <;> simp_all

theorem restoreData_places (k : Nat) : SamePlaces s.cache.slots (restoreData k s).cache.slots := by
  intro j
  rcases mapFind_restoreData (s := s) k j with same | ⟨rfl, q, d, found, restored⟩
  · rw [same]
  · rw [found, restored]
    rfl

/-- The state before a slot that is fetched comes: a read has been asked for and counted. -/
def fetchAsked (k : Nat) (s : State) : State := readSlotWord k { s with flash.onDemandFetches := s.flash.onDemandFetches + 1 }

/-- One slot of a waiting read has come from flash. -/
def fetched (k : Nat) (s : State) : State := restoreData k (fetchAsked k s)

theorem fetched_eq (k : Nat) : fetched k s = { s with
    cache := { s.cache with slots := (fetched k s).cache.slots }
    flash := { s.flash with onDemandFetches := s.flash.onDemandFetches + 1, restoreDone := (fetched k s).flash.restoreDone }
    out := (fetched k s).out } := by
  have word : fetchAsked k s = { s with
      flash.onDemandFetches := s.flash.onDemandFetches + 1, out := (fetchAsked k s).out } := (readSlotWord_sends k).eq
  have restored := restoreData_eq (s := fetchAsked k s) k
  unfold fetched
  generalize fetchAsked k s = t at word restored ⊢
  generalize restoreData k t = u at restored ⊢
  conv_lhs => rw [restored, word]
  have out : u.out = t.out := by rw [restored]
  rw [out]

theorem fetchAsked_cache (k : Nat) : (fetchAsked k s).cache = s.cache := by simp [fetchAsked]
theorem fetchAsked_done (k : Nat) : (fetchAsked k s).flash.restoreDone = s.flash.restoreDone := by simp [fetchAsked]

theorem fetched_other {k j : Nat} (other : j ≠ k) : mapFind (fetched k s).cache.slots j = mapFind s.cache.slots j := by
  rcases mapFind_restoreData (s := fetchAsked k s) k j with same | ⟨eq, _⟩
  · exact same.trans (by rw [fetchAsked_cache])
  · exact absurd eq other

theorem fetched_places (k : Nat) : SamePlaces s.cache.slots (fetched k s).cache.slots := by
  have places := restoreData_places (s := fetchAsked k s) k
  rw [fetchAsked_cache] at places
  exact places

theorem fetched_done {k : Nat} {q : Slot} (found : mapFind s.cache.slots k = some q) (away : q.unrestored = true) :
    (fetched k s).flash.restoreDone = s.flash.restoreDone + 1 :=
  (restoreData_done (s := fetchAsked k s) (by rw [fetchAsked_cache]; exact found) away).trans (by rw [fetchAsked_done])

/-- A waiting read after one of its fetches: what it waits for is `rest`. -/
def fetchNoted (id k : Nat) (rest : List Nat) (s : State) : State := modCmd id (fun c => { c with fetches := rest }) (fetched k s)

theorem exec_fetched {id k : Nat} {rest : List Nat} {ecc : Option Nat} (found : findCmd s id = some c) (stage : c.stage = .fetching)
    (waits : c.fetches = k :: rest) : exec (.onDemandFetchComplete id .good ecc) s =
      .next (if rest = [] then resumeRead ecc { c with fetches := [] } (fetchNoted id k rest s) else fetchNoted id k rest s) := by
  show execOnDemandFetchComplete id .good ecc s = _
  unfold execOnDemandFetchComplete
  simp only [found, stage, waits]
  rfl

theorem fetchNoted_found {id k : Nat} {rest : List Nat} (found : findCmd s id = some c) :
    findCmd (fetchNoted id k rest s) id = some { c with fetches := rest } :=
  findCmd_modCmd (f := fun c => { c with fetches := rest }) found (fun _ => rfl) (by unfold fetchNoted; rw [fetched_eq]; rfl)

theorem fetchNoted_eq (id k : Nat) (rest : List Nat) : fetchNoted id k rest s = { s with
    port := { s.port with cmds := (fetchNoted id k rest s).port.cmds }
    cache := { s.cache with slots := (fetched k s).cache.slots }
    flash := { s.flash with onDemandFetches := s.flash.onDemandFetches + 1, restoreDone := (fetched k s).flash.restoreDone }
    out := (fetched k s).out } := by
  have came := fetched_eq (s := s) k
  unfold fetchNoted
  generalize fetched k s = t at came ⊢
  rw [came]
  rfl

/-- Without a command the list is what it was without it before one of its fields was changed. -/
theorem fetchNoted_others (id k : Nat) (rest : List Nat) :
    (fetchNoted id k rest s).port.cmds.filter (fun d => d.id != id) = s.port.cmds.filter (fun d => d.id != id) := by
  have cmds : (fetchNoted id k rest s).port.cmds = s.port.cmds.map (fun d => if d.id = id then { d with fetches := rest } else d) := by
    unfold fetchNoted
    rw [fetched_eq]
    rfl
  rw [cmds]
  induction s.port.cmds with
  | nil => rfl
  | cons d l ih =>
    rw [List.map_cons, List.filter_cons, List.filter_cons, ih]
    by_cases same : d.id = id <;> simp [same]

/-- A GET whose fetches have all come ends SUCCESS, with its blocks (05 R262; 02 R92). -/
theorem finishGet_resumes {ks : List Nat} (found : lookBlocks s (targetOf c.fn c.sqe) (sqeVolume c.sqe) 0 (blocksOf c) = .slots ks) :
    finishGet true none elems c s = complete c { completion c .success (4096 * sqeLength c.sqe) 0 with onDemand := true }
      ((blocksSent elems c ks s).modTen c.fn fun x => { x with onDemand := x.onDemand + 1 }) := by
  unfold finishGet
  dsimp only
  rw [found]
  simp
  rfl

/-- The state in which a GET that waited for a slot has read its blocks. -/
def resumedReading (c : Cmd) (id k : Nat) (ks : List Nat) (s : State) : State :=
  (blocksSent c.elems c ks (fetchNoted id k [] s)).modTen c.fn fun x => { x with onDemand := x.onDemand + 1 }

theorem resumedReading_completed {id k : Nat} {ks : List Nat} (found : findCmd s id = some c) (x : Completion) :
    Completed c x s (complete c x (resumedReading c id k ks s)) := by
  have sent := blocksSent_eq (s := fetchNoted id k [] s) (c := c) (elems := c.elems) ks
  have came := fetchNoted_eq (s := s) id k []
  have cmds : (resumedReading c id k ks s).port.cmds = (fetchNoted id k [] s).port.cmds := by
    unfold resumedReading
    rw [sent]
    rfl
  refine ⟨?_, ?_, ?_⟩
  · rw [complete_cmds, cmds, findCmd_id found]
    exact fetchNoted_others id k []
  · rw [pair_complete, if_pos ⟨rfl, rfl⟩]
    show ((blocksSent c.elems c ks (fetchNoted id k [] s)).pair c.fn c.qp).waiting ++ _ = _
    rw [blocksSent_pair, came]
    rfl
  · rw [ten_complete, if_pos rfl]
    unfold resumedReading
    rw [ten_modTen, if_pos rfl, sent, came]
    rfl

theorem resumedReading_onDemand {id k : Nat} {ks : List Nat} : ((resumedReading c id k ks s).ten c.fn).onDemand =
    (s.ten c.fn).onDemand + 1 := by
  have sent := blocksSent_eq (s := fetchNoted id k [] s) (c := c) (elems := c.elems) ks
  have came := fetchNoted_eq (s := s) id k []
  unfold resumedReading
  rw [ten_modTen, if_pos rfl, sent, came]
  rfl

/-- After its last fetch a GET finds the blocks that it found (02 R92; 05 R262). -/
theorem fetchNoted_blocks {id k : Nat} {n : Fin 16} {vol : BitVec 32} {l : List Nat} (ok : CacheOk s.cache) :
    lookBlocks (fetchNoted id k [] s) n vol 0 l = lookBlocks s n vol 0 l := by
  have places : SamePlaces s.cache.slots (fetchNoted id k [] s).cache.slots := fetched_places k
  have wf : CacheOk (fetched k s).cache := restoreData_bounds k _ (by rw [fetchAsked_cache]; exact ok)
  have handles : (fetchNoted id k [] s).cache.handles = s.cache.handles := by rw [fetchNoted_eq]
  exact lookBlocks_congr (t := fetchNoted id k [] s) (fun b => slotNo_congr ok.slots wf.slots handles places) places l 0

end

end Sys2Proof.Machine
end

section
open Sys2Proof Sys2Proof.Machine

/-- Settles O38: LIST through the volume it notes, and a read that resumes through the blocks that stand where they stood. -/
theorem listFenceSegmentRead : Obligations.ListFenceSegmentRead := by
  unfold Obligations.ListFenceSegmentRead
  refine ⟨fun id elems c s runs => ?_, fun id c s runs free => ?_, fun id c s runs waits => ?_, fun id c s found kind free => ?_,
    fun id c s found waits => ?_, fun id elems ecc c h hk ks s runs may fits => ?_, fun id elems ecc c s runs other notPF0 => ?_,
    fun id ecc c k rest s found stage fetches more => ?_, fun id c k ks q s inv found stage fetches get blocks there away => ?_⟩
  · intro n es room
    refine ⟨_, (listNext n (es.drop room).head? s).1, (congrArg Host.Outcome.next (runCmd_of_runs runs listExtents)).trans
      (congrArg Host.Outcome.next listExtents_ends), complete_completed listed_cmds (listed_pair ..) (listed_completed _),
      fun whole => ?_, fun e cut fits => ?_, ?_, ?_, fun m other => ?_, listed_ended _⟩
    · rw [List.drop_eq_nil_of_le whole]
      rfl
    · rw [List.head?_drop, cut]
      obtain ⟨nonzero, at_⟩ := listNext_cursor (s := s) (n := n) fits
      refine ⟨nonzero, (cursorAt_congr ?_).trans at_⟩
      rw [ten_complete, listed_ten, show (listFound c s).drop _ = es.drop room from rfl, List.head?_drop, cut]
      split <;> rfl
    · obtain ⟨tenants, same, _⟩ := listed_eq (elems := elems.getD []) (c := c) (s := s)
      rw [complete_out, same]
      rfl
    · obtain ⟨tenants, same, _⟩ := listed_eq (elems := elems.getD []) (c := c) (s := s)
      rw [complete_slots, same]
    · rw [ten_complete, if_neg (Ne.symm other)]
      exact listed_completed m
  · refine ⟨endCmd c .success 0 s, ?_, endCmd_completed, complete_eq⟩
    refine (congrArg Host.Outcome.next (runCmd_of_runs runs fun _ => startFence)).trans (congrArg Host.Outcome.next ?_)
    unfold startFence
    rw [if_neg (by simp [free])]
  · refine ⟨modCmd c.id (fun c => { c with stage := .fencing }) s, ?_, ?_, rfl⟩
    · refine (congrArg Host.Outcome.next (runCmd_of_runs runs fun _ => startFence)).trans (congrArg Host.Outcome.next ?_)
      unfold startFence
      rw [if_pos waits]
    · have sameId : c.id = id := findCmd_id runs.found
      exact findCmd_modCmd (f := fun c => { c with stage := .fencing }) runs.found (fun _ => rfl) (by rw [← sameId]; rfl)
  · refine ⟨endCmd c .success 0 s, ?_, endCmd_completed, complete_eq⟩
    show execFenceComplete id s = _
    unfold execFenceComplete
    simp [found, kind, free]
  · show execFenceComplete id s = _
    unfold execFenceComplete
    simp [found, waits]
  · intro n e len header number here kept blocks there
    have goes (x : Option Nat) : exec (.segmentRead id elems x) s = .next (segmentGoes x (elems.getD []) c h ks s) :=
      (congrArg Host.Outcome.next (runCmd_of_runs runs (readSegment x))).trans
        (congrArg Host.Outcome.next (readSegment_found may fits header number here kept blocks there))
    have fetched : c.stage = .fetched := by
      have kind := runs.kind
      unfold cmdIs at kind
      simpa using (Bool.and_eq_true_iff.1 kind).2
    refine ⟨⟨_, (goes none).trans (congrArg Host.Outcome.next (segmentGoes_reads fetched)), segmentSent_completed .., ?_, fun k => ?_,
      segmentSent_ended ..⟩, fun inside => ?_⟩
    · rw [complete_out, segmentSent_eq]
      rfl
    · rw [complete_slots, segmentSent_eq]
      exact touchSlots_slots ks k
    · obtain ⟨lba, fails⟩ := segmentGoes_fails (elems := elems.getD []) (c := c) (s := s) (h := h) (ks := ks) inside
      exact ⟨_, (goes (some ecc)).trans (congrArg Host.Outcome.next fails), eccFails_completed (lba := lba), eccFails_told, endedTold_eq⟩
  · exact ⟨_, (congrArg Host.Outcome.next (runCmd_of_runs runs (readSegment ecc))).trans
      (congrArg Host.Outcome.next (readSegment_barred other notPF0)), endCmd_completed, complete_eq⟩
  · refine ⟨fetchNoted id k rest s, ?_, fetchNoted_found found, ?_, fun q at_ => ?_, fun j other => ?_, ?_⟩
    · rw [exec_fetched found stage fetches, if_neg more]
    · rw [fetchNoted_eq]
    · exact restoreData_restored at_
    · exact fetched_other other
    · have came := fetchNoted_eq (s := s) id k rest
      have count : (fetchNoted id k rest s).flash.onDemandFetches = s.flash.onDemandFetches + 1 := by rw [came]
      rw [count]
      exact came
  · have ok : CacheOk s.cache := ⟨inv.slots, inv.handles⟩
    have sent := blocksSent_slots (s := fetchNoted id k [] s) (c := c) (elems := c.elems) ks
    refine ⟨complete c { completion c .success (4096 * sqeLength c.sqe) 0 with onDemand := true } (resumedReading c id k ks s), ?_,
      resumedReading_completed found _, ?_, fun r at_ => ?_, ?_⟩
    · rw [exec_fetched found stage fetches, if_pos rfl]
      refine congrArg Host.Outcome.next ?_
      unfold resumeRead
      rw [if_pos get]
      exact finishGet_resumes (c := { c with fetches := [] }) ((fetchNoted_blocks ok).trans blocks)
    · rw [ten_complete, if_pos rfl]
      exact resumedReading_onDemand
    · have touched := touchSlots_slots (s := fetchNoted id k [] s) ks k
      rw [complete_slots] at at_
      rw [← sent, show (blocksSent c.elems c ks (fetchNoted id k [] s)).cache.slots = (resumedReading c id k ks s).cache.slots from rfl,
        at_] at touched
      cases restored : mapFind (fetchNoted id k [] s).cache.slots k with
      | none =>
        rw [restored] at touched
        cases touched
      | some r' =>
        rw [restored] at touched
        have same := congrArg (Option.map Slot.unrestored) touched
        have away' := restoreData_restored restored
        simp only [Option.map_some, Option.some.injEq] at same
        rw [same, away']
    · have done := fetched_done there away
      rw [complete_flash]
      have reading := blocksSent_eq (s := fetchNoted id k [] s) (c := c) (elems := c.elems) ks
      unfold resumedReading
      rw [reading, ← done]
      rfl
end

section
/-! Pre-sinter copies and restore reads (O40). -/

namespace Sys2Proof.Machine

/-! ### What a copy leaves of the slots -/

section
variable {s t u : State}

/-- From `s` to `t` the slots are restored as far as they were. -/
def SameRestored (s t : State) : Prop := ∀ k, (mapFind t.cache.slots k).map Slot.unrestored = (mapFind s.cache.slots k).map Slot.unrestored

theorem SameRestored.trans (h : SameRestored s t) (g : SameRestored t u) : SameRestored s u := fun k => (g k).trans (h k)

theorem SameRestored.of_slots (same : t.cache.slots = s.cache.slots) : SameRestored s t := fun k => by rw [same]

theorem SameRestored.of_mapVals {f : Nat → Slot → Slot} (same : ∀ k q, (f k q).unrestored = q.unrestored)
    (slots : t.cache.slots = mapVals f s.cache.slots) : SameRestored s t := fun k => by
  rw [slots, mapFind_mapVals, Option.map_map]
  exact congrArg (fun g => (mapFind s.cache.slots k).map g) (funext fun q => same k q)

theorem SameRestored.away {k : Nat} (h : SameRestored s t) (restored : ∀ q, mapFind s.cache.slots k = some q → q.unrestored = false)
    {q : Slot} (found : mapFind t.cache.slots k = some q) : q.unrestored = false := by
  have same := h k
  rw [found] at same
  cases before : mapFind s.cache.slots k with
  | none =>
    rw [before] at same
    cases same
  | some r =>
    rw [before] at same
    rw [Option.some.inj same]
    exact restored r before

/-- Room for a copy is made by clearing, at most, the slots' copy bits. -/
theorem makeRoom_cache : (makeRoom s).cache = s.cache ∨ (makeRoom s).cache = clearCopyValid s.cache := by
  have opened : (openEpoch false s).cache = s.cache ∨ (openEpoch false s).cache = clearCopyValid s.cache := by
    unfold openEpoch
    dsimp only
    split
    · exact .inr rfl
    · exact .inl rfl
  unfold makeRoom
  split
  · unfold allocStripe
    simp only [raiseIf_frame]
    split
    · exact opened
    · exact .inl rfl
  · exact .inl rfl

theorem makeRoom_restored : SameRestored s (makeRoom s) := by
  rcases makeRoom_cache (s := s) with same | cleared
  · exact .of_slots (by rw [same])
  · exact .of_mapVals (f := fun _ q => { q with copyValid := false }) (fun _ _ => rfl) (by rw [cleared]; rfl)

theorem pushCopy_slots (c : Copy) : (pushCopy c s).cache.slots = s.cache.slots := by simp

theorem moveCopy_restored (number i : Nat) (dest : Option (Nat × Nat)) : SameRestored s (moveCopy number i dest s) :=
  .of_mapVals (f := fun _ q => if q.copy = some (number, i) then { q with copy := dest, copyValid := q.copyValid && dest.isSome } else q)
    (fun _ q => by split <;> rfl) rfl

theorem rewriteCopy_restored (number i : Nat) (c : Copy) : SameRestored s (rewriteCopy number i c s) := by
  have killed : SameRestored s (killCopy number i s) := .of_slots rfl
  unfold rewriteCopy
  dsimp only
  split
  · exact .of_slots rfl
  · split
    · exact ((killed.trans makeRoom_restored).trans (.of_slots (pushCopy_slots c))).trans (moveCopy_restored _ _ _)
    · exact killed.trans (moveCopy_restored _ _ _)

theorem retireDie_restored (d : Fin 16) (cause : Nat) : SameRestored s (retireDie d cause s) := by
  have written : SameRestored s (retired d cause s) := .of_slots (by unfold retired; simp)
  rw [retireDie_eq]
  refine written.trans ?_
  unfold relocatePage
  split
  · exact .of_slots rfl
  · refine List.foldlRecOn (motive := SameRestored (retired d cause s)) _ _ (.of_slots rfl) fun v h i _ => h.trans ?_
    unfold rewriteAt
    split
    · exact rewriteCopy_restored _ _ _
    · exact .of_slots rfl

/-! ### A page of the pre-sinter -/

/-- The latest epoch is the one that a change of it leaves. -/
theorem curEpoch_onOpen {e : Epoch} {x : Flash} (f : Epoch → Epoch) (cur : curEpoch x = some e) : curEpoch (onOpen f x) = some (f e) := by
  unfold curEpoch at *
  unfold onOpen
  obtain ⟨l, last⟩ := List.getLast?_eq_some_iff.1 cur
  rw [last]
  simp

theorem pushCopy_open (c : Copy) : (pushCopy c s).flash = onOpen (fun e => { e with copies := e.copies ++ [c] }) s.flash := by
  unfold pushCopy
  dsimp only
  split
  · simp
  · rfl

/-- A slot that was not rewritten meanwhile has its copy, the latest of the epoch (06 R324, R326). -/
theorem pageCopy_copied {k : Nat} {c : Copy} {q : Slot} (found : mapFind s.cache.slots k = some q) (same : unchanged s.cache q c = true)
    (room : roomLeft s = true) (opens : (curEpoch (makeRoom s).flash).isSome = true) :
    (∃ r, mapFind (pageCopy (k, c) s).cache.slots k = some r ∧ r.copyValid = true ∧ r.copy.isSome = true ∧ r.data = q.data) ∧
      ∃ e, curEpoch (pageCopy (k, c) s).flash = some e ∧ e.copies.getLast? = some c := by
  obtain ⟨e, cur⟩ := Option.isSome_iff_exists.1 opens
  have copied : copyOf (makeRoom s).cache q = c := by
    have handles : (makeRoom s).cache.handles = s.cache.handles := by
      rcases makeRoom_cache (s := s) with same | cleared
      · rw [same]
      · rw [cleared]
        rfl
    have now : copyOf s.cache q = c := by
      unfold unchanged at same
      simpa using (Bool.and_eq_true_iff.1 same).1
    rw [← now]
    unfold copyOf volumeOf
    rw [handles]
  have done : pageCopy (k, c) s = appendCopy k q e (makeRoom s) := by
    unfold pageCopy
    rw [cur]
    dsimp only
    rw [if_pos room, found]
    dsimp only
    rw [if_pos same]
  rw [done]
  unfold appendCopy
  rw [copied]
  refine ⟨⟨{ q with copyValid := true, copy := some (e.number, e.copies.length) }, ?_, rfl, rfl, rfl⟩, { e with copies := e.copies ++ [c] }, ?_, ?_⟩
  · rw [pushCopy_slots]
    exact (mapFind_mapSet ..).trans (if_pos rfl)
  · rw [pushCopy_open]
    exact curEpoch_onOpen (x := (makeRoom s).flash) _ cur
  · simp

/-! ### Slots that come back from flash -/

/-- From `s` to `t` one slot has come from flash, if it was away, and the others are as they were. -/
structure RestoresAt (k : Nat) (s t : State) : Prop where
  others : ∀ j, j ≠ k → mapFind t.cache.slots j = mapFind s.cache.slots j
  restored : ∀ q, mapFind t.cache.slots k = some q → q.unrestored = false

theorem restoreData_at (k : Nat) : RestoresAt k s (restoreData k s) where
  others j other := by
    rcases mapFind_restoreData (s := s) k j with same | ⟨here, _⟩
    · exact same
    · exact absurd here other
  restored _ found := restoreData_restored found

theorem loseSlot_at (k : Nat) : RestoresAt k s (loseSlot k s) := by
  unfold loseSlot
  split
  · rename_i none
    exact ⟨fun _ _ => rfl, fun q found => by rw [none] at found; cases found⟩
  · rename_i q found
    split
    · rename_i restored
      refine ⟨fun _ _ => rfl, fun r here => ?_⟩
      rw [found] at here
      cases here
      exact restored
    · have slots {r : Slot} {n : Nat} {v : List (Nat × Nat)} {w : State} :
          (raise { w with cache.slots := mapSet s.cache.slots k r, flash.restoreDone := n } 75 .memory v).cache.slots =
            mapSet s.cache.slots k r := by simp
      refine ⟨fun j other => ?_, fun r here => ?_⟩
      · rw [slots, mapFind_mapSet, if_neg other]
      · rw [slots, mapFind_mapSet, if_pos rfl] at here
        cases here
        rfl

/-- Slots that come one after the other are all restored, and no other slot changes. -/
theorem restoresAt_foldl {f : State → Nat → State} (each : ∀ t k, RestoresAt k t (f t k)) (ks : List Nat) :
    (∀ k ∈ ks, ∀ q, mapFind (ks.foldl f s).cache.slots k = some q → q.unrestored = false) ∧
      ∀ k, k ∉ ks → mapFind (ks.foldl f s).cache.slots k = mapFind s.cache.slots k := by
  induction ks generalizing s with
  | nil => simp
  | cons k ks ih =>
    obtain ⟨restored, others⟩ := ih (s := f s k)
    rw [List.foldl_cons]
    refine ⟨fun j mem q found => ?_, fun j away => ?_⟩
    · by_cases later : j ∈ ks
      · exact restored j later q found
      · rcases List.mem_cons.1 mem with rfl | mem
        · rw [others j later] at found
          exact (each s j).restored q found
        · exact absurd mem later
    · simp only [List.mem_cons, not_or] at away
      rw [others j away.2, (each s k).others j away.1]

/-! ### Reading a stripe -/

theorem readOrdinal_sends (c : Nat) (e : Epoch) (i : Nat) : Sends s (readOrdinal c e i s) := by
  unfold readOrdinal
  split
  · unfold readStripe
    refine Sends.foldl _ _ (.refl s) fun t p => ?_
    split
    · exact flashDo_sends ..
    · exact .refl t
  · exact .refl s

/-- Codewords of a page of the image, as it stands. -/
def imageWords (s : State) : Nat := match s.flash.committed with | some m => m.cPerPage | none => 0

/-- The state in which the next stripe of the restore has been asked for. -/
def stripeAsked (x : Epoch × List (Nat × Nat)) (s : State) : State :=
  match x.2.head? with | some p => readOrdinal (imageWords s) x.1 p.1 s | none => s

theorem stripeAsked_sends (x : Epoch × List (Nat × Nat)) : Sends s (stripeAsked x s) := by
  unfold stripeAsked
  split
  · exact readOrdinal_sends ..
  · exact .refl s

theorem exec_restoreRead {x : Epoch × List (Nat × Nat)} (r : ReadResult) (runs : flashRuns s = true) (dev : s.life.dev = .restore)
    (restoring : s.flash.restoring = true) (fetch : fetchWaits s = false) (busy : preSinterBusy s = false) (next : nextStripe s = some x) :
    exec (.backgroundRestoreRead r) s = .next (readSlots (onDies (imageWords s) x.1 x.2) (x.2.map (·.2)) r (stripeAsked x s)) := by
  show execBackgroundRestoreRead r s = _
  unfold execBackgroundRestoreRead
  rw [if_neg (by simp [runs, dev, restoring, fetch, busy]), next]
  rfl

/-- From `s` to `t` slots have been restored, and only that. -/
def Restores (s t : State) : Prop := s.flash.restoreDone ≤ t.flash.restoreDone ∧ t = { s with
  cache := { s.cache with slots := t.cache.slots }, flash := { s.flash with restoreDone := t.flash.restoreDone }, out := t.out }

theorem Restores.trans (h : Restores s t) (g : Restores t u) : Restores s u := by
  obtain ⟨more, same⟩ := h
  obtain ⟨more', same'⟩ := g
  refine ⟨Nat.le_trans more more', ?_⟩
  rw [same] at same'
  exact same'

theorem Sends.restores (h : Sends s t) : Restores s t := by
  obtain ⟨l, rfl⟩ := h
  exact ⟨Nat.le_refl _, rfl⟩

theorem restoreData_only (k : Nat) : Restores s (restoreData k s) := by
  refine ⟨?_, ?_⟩
  · unfold restoreData
    split
    · exact Nat.le_refl _
    · split
      · exact Nat.le_refl _
      · exact Nat.le_succ _
  · have same := restoreData_eq (s := s) k
    have out : (restoreData k s).out = s.out := by simp
    rw [out]
    exact same

theorem restoreDatas_only (ks : List Nat) : Restores s (ks.foldl (fun t k => restoreData k t) s) :=
  List.foldlRecOn (motive := Restores s) ks _ ⟨Nat.le_refl _, rfl⟩ fun _ h k _ => h.trans (restoreData_only k)

/-- A codeword that was rebuilt counts for its die, and may retire it (12 R678). -/
theorem noteRebuild_counts (d : Fin 16) : (noteRebuild d s).flash.die[d].rebuildCount = s.flash.die[d].rebuildCount + 1 ∧
    Told 525 s (noteRebuild d s) ∧ SameRestored s (noteRebuild d s) := by
  unfold noteRebuild
  extract_lets recent s1
  have told : Told 525 s s1 := (raise_told ..).of rfl rfl rfl
  have slots : SameRestored s s1 := .of_slots (by simp [s1])
  have count : s1.flash.die[d].rebuildCount = s.flash.die[d].rebuildCount + 1 := by
    unfold s1
    rw [raise_flash, modDie_die, if_pos rfl]
  split
  · refine ⟨?_, told.grows (retireDie_grows _ _ _ (.refl _)), slots.trans (retireDie_restored d 3)⟩
    rw [retireDie_eq, (relocatePage_written d (retired d 3 s1) d).same, retired_die]
    exact count
  · exact ⟨count, told, slots⟩

/-- A stripe that has come: each of its slots is restored, or lost with it. -/
theorem loseOrRestore_at (gone : Nat → Bool) (k : Nat) : RestoresAt k s (if gone k then loseSlot k s else restoreData k s) := by
  split
  · exact loseSlot_at k
  · exact restoreData_at k

/-- What the events of a read look at. -/
def SameLog (s t : State) : Prop := t.isl = s.isl ∧ t.dict = s.dict ∧ t.ev.started = s.ev.started

theorem restoreData_log (k : Nat) : SameLog s (restoreData k s) := by simp [SameLog]

theorem loseSlot_log (k : Nat) : SameLog s (loseSlot k s) := by
  refine ⟨by simp, by simp, ?_⟩
  unfold loseSlot
  split
  · rfl
  · split
    · rfl
    · simp

theorem loseOrRestore_log (gone : Nat → Bool) (ks : List Nat) :
    SameLog s (ks.foldl (fun t k => if gone k then loseSlot k t else restoreData k t) s) :=
  List.foldlRecOn (motive := SameLog s) ks _ ⟨rfl, rfl, rfl⟩ fun t h k _ => by
    have more {u : State} (g : SameLog t u) : SameLog s u := ⟨g.1.trans h.1, g.2.1.trans h.2.1, g.2.2.trans h.2.2⟩
    split
    · exact more (loseSlot_log k)
    · exact more (restoreData_log k)

end

end Sys2Proof.Machine
end

section
open Sys2Proof Sys2Proof.Machine

/-- Settles O40: a page's one slot, and the slots of a stripe one by one. -/
theorem copyAndRestore : Obligations.CopyAndRestore := by
  unfold Obligations.CopyAndRestore
  refine ⟨fun s runs pre => ?_, fun x s runs dev restoring fetch busy next => ?_, fun x d s runs dev restoring fetch busy next => ?_,
    fun x a b s runs dev restoring fetch busy next => ?_⟩
  · refine ⟨pageProgrammed s, ?_, fun k c q copying found same room opens => ?_, ?_⟩
    · show execPreSinterPageProgrammed s = _
      unfold execPreSinterPageProgrammed
      rw [if_pos ⟨runs, pre⟩]
    · have one : pageProgrammed s = nextPreSinter (pageCopy (k, c) s) := by
        unfold pageProgrammed
        rw [copying]
        rfl
      obtain ⟨⟨r, at_, valid, copied, data⟩, e, cur, last⟩ := pageCopy_copied found same room opens
      rw [one]
      exact ⟨r, by simpa using at_, valid, copied, data, e, cur, last⟩
    · obtain ⟨time, isl, life, mode, nor, dict, mbx, win, port, adm, pack, bank, packEst, bankEst, hold, rails, keep, tremor, outage, _⟩ :=
        pageProgrammed_frame s
      exact ⟨life, isl, dict, time, adm, hold, outage, rails, port⟩
  · obtain ⟨restored, others⟩ := restoresAt_foldl (s := stripeAsked x s) (f := fun t k => restoreData k t) (fun _ k => restoreData_at k)
      (x.2.map (·.2))
    obtain ⟨more, only⟩ := (stripeAsked_sends x (s := s)).restores.trans (restoreDatas_only (x.2.map (·.2)))
    have slots : (stripeAsked x s).cache.slots = s.cache.slots := by rw [(stripeAsked_sends x).eq]
    refine ⟨_, exec_restoreRead .good runs dev restoring fetch busy next, fun p mem q found => ?_, fun k away => ?_, more, only⟩
    · exact restored p.2 (List.mem_map.2 ⟨p, mem, rfl⟩) q found
    · rw [← slots]
      refine others k fun mem => ?_
      obtain ⟨p, here, rfl⟩ := List.mem_map.1 mem
      exact away p here rfl
  · have sends := stripeAsked_sends x (s := s)
    obtain ⟨restored, _⟩ := restoresAt_foldl (s := stripeAsked x s) (f := fun t k => restoreData k t) (fun _ k => restoreData_at k)
      (x.2.map (·.2))
    obtain ⟨_, only⟩ := sends.restores.trans (restoreDatas_only (x.2.map (·.2)))
    obtain ⟨count, told, same⟩ := noteRebuild_counts (s := (x.2.map (·.2)).foldl (fun t k => restoreData k t) (stripeAsked x s)) d
    obtain ⟨time, isl, life, mode, nor, dict, _⟩ :=
      noteRebuild_frame d ((x.2.map (·.2)).foldl (fun t k => restoreData k t) (stripeAsked x s))
    refine ⟨_, exec_restoreRead (.rebuilt d) runs dev restoring fetch busy next, ?_, ?_, fun p mem q found => ?_, ?_, ?_, ?_⟩
    · exact told.of (by rw [only]) (by rw [only]) (by rw [only])
    · exact count.trans (by rw [only])
    · exact same.away (restored p.2 (List.mem_map.2 ⟨p, mem, rfl⟩)) found
    · exact life.trans (by rw [only])
    · exact dict.trans (by rw [only])
    · exact time.trans (by rw [only])
  · have sends := (stripeAsked_sends x (s := s)).eq
    have log := loseOrRestore_log (s := stripeAsked x s) (onDies (imageWords s) x.1 x.2 a b) (x.2.map (·.2))
    obtain ⟨restored, _⟩ := restoresAt_foldl (s := stripeAsked x s)
      (fun t k => loseOrRestore_at (s := t) (onDies (imageWords s) x.1 x.2 a b) k) (x.2.map (·.2))
    obtain ⟨time, isl, life, mode, nor, dict, _⟩ :=
      readSlots_frame (onDies (imageWords s) x.1 x.2) (x.2.map (·.2)) (.lost a b) (stripeAsked x s)
    refine ⟨_, exec_restoreRead (.lost a b) runs dev restoring fetch busy next, ?_, fun p mem q found => ?_, ?_, ?_, ?_⟩
    · exact (raise_told _ 517 .flash []).loggedFrom (log.1.trans (by rw [sends])) (log.2.1.trans (by rw [sends]))
        (log.2.2.trans (by rw [sends]))
    · refine restored p.2 (List.mem_map.2 ⟨p, mem, rfl⟩) q (Eq.trans ?_ found)
      exact congrArg (fun c : Cache => mapFind c.slots p.2) (by simp [readSlots])
    · exact life.trans (by rw [sends])
    · exact dict.trans (by rw [sends])
    · exact time.trans (by rw [sends])
end

section
/-! What is sent stays sent, and rings that are off stay off. -/

namespace Sys2Proof.Machine

/-! ### What an event does to the rings and to what is sent -/

section
variable {Q : Vector EvRing 16 → List Output → Prop} {s : State}

/-- Every delivery to a ring keeps what is said of the rings and the outputs. -/
def RingKeeps (Q : Vector EvRing 16 → List Output → Prop) (s : State) : Prop := ∀ (x : EvPart) n r,
  Q x.ev.ring x.out → Q (ringPut s x n r).1.ev.ring (ringPut s x n r).1.out

theorem ringAll_keeps (put : RingKeeps Q s)
    (x : EvPart) (r : Rec) (h : Q x.ev.ring x.out) : Q (ringAll s x r).1.ev.ring (ringAll s x r).1.out := by
  unfold ringAll
  generalize List.finRange 16 = l
  exact List.foldlRecOn (motive := fun a : EvPart × List Nat => Q a.1.ev.ring a.1.out) l _ h fun a ha n _ => put a.1 n r ha

theorem logRecs_keeps (put : RingKeeps Q s)
    (n : Nat) (l : List Rec) (x : EvPart) (h : Q x.ev.ring x.out) : Q (logRecs s n l x).ev.ring (logRecs s n l x).out := by
  have pending (e : Events) (ev : Nat) : (setPending e ev).ring = e.ring := by
    unfold setPending
    split <;> rfl
  have emcy (y : EvPart) (r : Rec) : (emcyPut s y r).1.ev.ring = y.ev.ring ∧ (emcyPut s y r).1.out = y.out := by
    unfold emcyPut
    split
    · exact ⟨rfl, rfl⟩
    · split <;> exact ⟨rfl, rfl⟩
  induction n generalizing l x with
  | zero => exact h
  | succ n ih =>
    cases l with
    | nil => exact h
    | cons r l =>
      unfold logRecs
      split
      · exact ih l x h
      · split
        · exact ih l _ (by rw [pending]; exact h)
        · refine ih _ _ ?_
          rw [(emcy ..).1, (emcy ..).2]
          exact ringAll_keeps put _ r (by rw [pending]; exact h)

/-- What every delivery to a ring keeps, an event keeps. -/
theorem raise_ringKeeps (put : RingKeeps Q s)
    (ev : Nat) (i : EvIsland) (vs : List (Nat × Nat)) (h : Q s.ev.ring s.out) : Q (raise s ev i vs).ev.ring (raise s ev i vs).out := by
  unfold raise raiseWord takeRec
  dsimp only
  split
  · split <;> exact h
  · split
    · split <;> exact h
    · exact logRecs_keeps put _ _ _ h

/-- What has been sent stays sent. -/
theorem raise_sent {o : Output} (ev : Nat) (i : EvIsland) (vs : List (Nat × Nat)) (sent : o ∈ s.out) : o ∈ (raise s ev i vs).out :=
  raise_ringKeeps (Q := fun _ out => o ∈ out) (fun x n r mem => by
    unfold ringPut
    dsimp only
    split
    · exact mem
    · split
      · exact mem
      · exact List.mem_append_left _ mem) ev i vs sent

/-- A function's event ring is off, and stands at its beginning (15 R849). -/
def Events.ringOff (e : Events) (m : Fin 16) : Prop := e.ring[m].entries = 0 ∧ e.ring[m].producer = 0

end

section
variable {m : Fin 16}

/-- A ring that is off takes no record. -/
@[simp] theorem raise_ringOff (s : State) (ev : Nat) (i : EvIsland) (vs : List (Nat × Nat)) (h : s.ev.ringOff m) :
    (raise s ev i vs).ev.ringOff m :=
  raise_ringKeeps (Q := fun ring _ => ring[m].entries = 0 ∧ ring[m].producer = 0) (fun x k r off => by
    have other {g : EvRing} (on : x.ev.ring[k].entries ≠ 0) : (vset x.ev.ring k g)[m] = x.ev.ring[m] := by
      rw [vset_get, if_neg]
      rintro rfl
      exact on off.1
    unfold ringPut
    dsimp only
    split
    · exact off
    · rename_i open_
      have on : x.ev.ring[k].entries ≠ 0 := fun h => open_ (.inl h)
      split
      · dsimp only
        rw [other on]
        exact off
      · dsimp only
        rw [other on]
        exact off) ev i vs h

@[simp] theorem raiseIf_ringOff (b : Bool) (s : State) (ev : Nat) (i : EvIsland) (vs : List (Nat × Nat)) (h : s.ev.ringOff m) :
    (raiseIf b s ev i vs).ev.ringOff m := by
  unfold raiseIf
  split
  · exact raise_ringOff s ev i vs h
  · exact h

/-! ### Rings that are off while the host's attachment changes -/

@[simp] theorem foldl_ringOff {α : Type} (f : State → α → State) (l : List α) (s : State) (h : s.ev.ringOff m)
    (each : ∀ t a, t.ev.ringOff m → (f t a).ev.ringOff m) : (l.foldl f s).ev.ringOff m :=
  List.foldlRecOn l f h fun t ht a _ => each t a ht

@[simp] theorem forAll_ringOff {n : Nat} (f : State → Fin n → State) (s : State) (h : s.ev.ringOff m)
    (each : ∀ t a, t.ev.ringOff m → (f t a).ev.ringOff m) : (forAll n f s).ev.ringOff m :=
  foldl_ringOff f _ s h each

@[simp] theorem gateMissingRefresh_ringOff (s : State) (h : s.ev.ringOff m) : (gateMissingRefresh s).ev.ringOff m := by
  unfold gateMissingRefresh
  simp (maxDischargeDepth := 20) [h]

@[simp] theorem modeChanged_ringOff (dim old new : Nat) (s : State) (h : s.ev.ringOff m) : (modeChanged dim old new
    s).ev.ringOff m := by
  unfold modeChanged
  simp (maxDischargeDepth := 20) [h]

@[simp] theorem modeFallback_ringOff (a b : Nat) (s : State) (h : s.ev.ringOff m) : (modeFallback a b s).ev.ringOff m := by
  unfold modeFallback
  simp (maxDischargeDepth := 20) [h]

@[simp] theorem outageEffRefresh_ringOff (s : State) (h : s.ev.ringOff m) : (outageEffRefresh s).ev.ringOff m := by
  unfold outageEffRefresh
  dsimp only
  (repeat' split) <;> simp (maxDischargeDepth := 20) [h]

@[simp] theorem activityRefresh_ringOff (s : State) (h : s.ev.ringOff m) : (activityRefresh s).ev.ringOff m := by
  unfold activityRefresh
  dsimp only
  (repeat' split) <;> simp (maxDischargeDepth := 20) [h]

@[simp] theorem fitRefresh_ringOff (s : State) (h : s.ev.ringOff m) : (fitRefresh s).ev.ringOff m := by
  unfold fitRefresh
  dsimp only
  (repeat' split) <;> simp (maxDischargeDepth := 20) [h]

@[simp] theorem modesRefresh_ringOff (s : State) (h : s.ev.ringOff m) : (modesRefresh s).ev.ringOff m := by
  unfold modesRefresh
  simp (maxDischargeDepth := 20) [h]

@[simp] theorem stageRefresh_ringOff (s : State) (h : s.ev.ringOff m) : (stageRefresh s).ev.ringOff m := by
  unfold stageRefresh
  dsimp only
  (repeat' split) <;> simp (maxDischargeDepth := 20) [h]

@[simp] theorem raiseTenant_ringOff (fn : Fin 16) (k : Nat) (vs : List (Nat × Nat)) (s : State) (h : s.ev.ringOff m) :
    (raiseTenant fn k vs s).ev.ringOff m := by
  unfold raiseTenant
  simp (maxDischargeDepth := 20) [h]

@[simp] theorem thawSlots_ringOff (n : Fin 16) (s : State) (h : s.ev.ringOff m) : (thawSlots n s).ev.ringOff m := by
  unfold thawSlots
  (repeat' split) <;> simp (maxDischargeDepth := 20) [h]

@[simp] theorem closeSession_ringOff (d : Fin 2) (why : Nat) (s : State) (h : s.ev.ringOff m) : (closeSession d why
    s).ev.ringOff m := by
  unfold closeSession
  (repeat' split) <;> simp (maxDischargeDepth := 20) [h]

@[simp] theorem closeSessions_ringOff (s : State) (h : s.ev.ringOff m) : (closeSessions s).ev.ringOff m := by
  unfold closeSessions
  simp +contextual (maxDischargeDepth := 20) [h]

@[simp] theorem closeExpert_ringOff (s : State) (h : s.ev.ringOff m) : (closeExpert s).ev.ringOff m := by
  unfold closeExpert
  (repeat' split) <;> simp (maxDischargeDepth := 20) [h]

@[simp] theorem closeWindow_ringOff (w : Fin 7) (abandoned : Bool) (s : State) (h : s.ev.ringOff m) : (closeWindow w abandoned
    s).ev.ringOff m := by
  unfold closeWindow
  dsimp only
  (repeat' split) <;> simp (maxDischargeDepth := 20) [h]

@[simp] theorem closeWindows_ringOff (p : Win → Bool) (abandoned : Bool) (s : State) (h : s.ev.ringOff m) : (closeWindows p
    abandoned s).ev.ringOff m := by
  unfold closeWindows
  refine forAll_ringOff _ s h fun t w ht => ?_
  split
  · exact closeWindow_ringOff w abandoned t ht
  · exact ht

@[simp] theorem hostChanged_ringOff (before s : State) (h : s.ev.ringOff m) : (hostChanged before s).ev.ringOff m := by
  unfold hostChanged
  dsimp only
  (repeat' split) <;> simp (maxDischargeDepth := 20) [h]

end

end Sys2Proof.Machine
end

section
/-! Link, bus mastering and function resets (O32). -/

namespace Sys2Proof.Machine

/-! ### A function that is reset -/

section
variable {s t u : State} {fn g : Fin 16}

/-- A function that has been reset: its pairs and its vectors are as at reset, and it masters the bus no more (05 R265, R266). -/
def Func.cleared (f : Func) : Func :=
  { f with pairs := Vector.replicate 4 Pair.reset, msix := List.replicate 32 0, pba := 0, bme := false }

theorem fns_modFn (f : Func → Func) : (s.modFn fn f).port.fns[g] = if fn = g then f s.port.fns[g] else s.port.fns[g] := by
  show (vmod s.port.fns fn f)[g.val] = _
  rw [vmod_getElem]
  simp only [Fin.val_inj]
  rfl

/-- The state in which a function is reset, but for the sessions that it held. -/
def functionCleared (fn : Fin 16) (s : State) : State :=
  { s.modFn fn (fun f => { f with bme := false }) with mbx := vset s.mbx fn Mbx.reset }

/-- The state in which a function's queues and ring are as at reset, and its slots frozen. -/
def functionStopped (fn : Fin 16) (s : State) : State := raiseTenant fn 21 [] (freezeSlots fn (resetRing fn (resetQueues fn s)))

/-- A window that a function's mailbox holds. -/
def heldBy (fn : Fin 16) (w : Win) : Bool := w.owner.any (ofFunction fn)

/-- Closing what a function held: its windows, and its expert session. -/
def sessionsClosed (fn : Fin 16) (s : State) : State :=
  if (closeWindows (heldBy fn) false s).mode.expert.any (ofFunction fn) then closeExpert (closeWindows (heldBy fn) false s)
  else closeWindows (heldBy fn) false s

theorem stageRefresh_port : (stageRefresh s).port = s.port := by simp

theorem stageRefresh_cache : (stageRefresh s).cache = s.cache := by simp

theorem functionCleared_ten : (functionCleared fn s).ten g = s.ten g := rfl

theorem resetQueues_port : (resetQueues fn s).port = { s.port with
    cmds := s.port.cmds.filter (fun c => c.fn != fn)
    fns := vmod s.port.fns fn fun f => { f with pairs := Vector.replicate 4 Pair.reset, msix := List.replicate 32 0, pba := 0 } } := by
  unfold resetQueues
  dsimp only
  rw [stageRefresh_port]
  rfl

theorem resetFunction_steps : resetFunction fn s = sessionsClosed fn (functionCleared fn (functionStopped fn s)) := by
  unfold resetFunction
  extract_lets s1 still s2 s3
  have cleared : functionCleared fn (functionStopped fn s) = s2 := rfl
  have closed : s3 = closeWindows (heldBy fn) false s2 := congrArg (closeWindows · false s2) (funext fun w => by
    unfold heldBy
    cases w.owner <;> rfl)
  rw [cleared]
  unfold sessionsClosed
  rw [← closed]
  clear_value s3
  cases s3.mode.expert <;> rfl

theorem sessionsClosed_frame : (sessionsClosed fn s).port = s.port ∧ (sessionsClosed fn s).mbx = s.mbx ∧
    (sessionsClosed fn s).cache = s.cache := by
  unfold sessionsClosed
  split <;> simp

theorem functionStopped_frame : (functionStopped fn s).port = (resetQueues fn s).port ∧ (functionStopped fn s).mbx = s.mbx := by
  unfold functionStopped raiseTenant freezeSlots resetRing
  simp

theorem functionStopped_ten : (functionStopped fn s).ten g = ((resetQueues fn s).modTen fn fun t => { t with frozen := true }).ten g := by
  unfold functionStopped raiseTenant
  rw [ten_raise]
  generalize resetQueues fn s = u
  rfl

theorem resetFunction_port : (resetFunction fn s).port = { s.port with
    cmds := s.port.cmds.filter (fun c => c.fn != fn), fns := vmod s.port.fns fn Func.cleared } := by
  have stopped := (functionStopped_frame (fn := fn) (s := s)).1.trans resetQueues_port
  rw [resetFunction_steps, sessionsClosed_frame.1]
  unfold functionCleared
  generalize functionStopped fn s = t at stopped ⊢
  show ({ t.port with fns := vmod t.port.fns fn fun f => { f with bme := false } } : Port) = _
  rw [stopped]
  dsimp only
  congr 1
  refine Vector.ext fun j hj => ?_
  simp only [vmod_getElem]
  split <;> rfl

theorem resetFunction_fns : (resetFunction fn s).port.fns[g] = if fn = g then s.port.fns[g].cleared else s.port.fns[g] := by
  rw [resetFunction_port]
  exact fns_modFn Func.cleared

theorem resetFunction_mbx : (resetFunction fn s).mbx[g] = if fn = g then Mbx.reset else s.mbx[g] := by
  rw [resetFunction_steps, sessionsClosed_frame.2.1]
  exact (vset_get ..).trans (by rw [functionStopped_frame.2])

theorem resetFunction_cmds : (resetFunction fn s).port.cmds = s.port.cmds.filter (fun c => c.fn != fn) := by
  rw [resetFunction_port]

/-- The slots of a function that is reset freeze (05 R267). -/
theorem resetFunction_frozen : ((resetFunction fn s).ten g).frozen = (fn == g || (s.ten g).frozen) := by
  have kept : ((resetQueues fn s).ten g).frozen = (s.ten g).frozen := by
    unfold resetQueues
    dsimp only
    rw [ten_of_cache _ stageRefresh_cache, ten_modTen]
    split <;> rfl
  rw [resetFunction_steps, ten_of_cache _ sessionsClosed_frame.2.2]
  rw [functionCleared_ten, functionStopped_ten, ten_modTen]
  split
  · rename_i same
    simp [same]
  · rename_i other
    simp [other, kept]

end

/-! ### What a reset leaves of the windows, the ring and the log -/

section
variable {s t u : State} {fn g : Fin 16}

theorem resetFunction_windows (w : Fin 7) : (windowOf (resetFunction fn s) w).owner ≠ some (.mailbox fn) := by
  have closed : windowOf (resetFunction fn s) w = windowOf (closeWindows (heldBy fn) false (functionCleared fn (functionStopped fn s))) w := by
    rw [resetFunction_steps]
    unfold sessionsClosed
    split
    · unfold windowOf
      simp
    · rfl
  rw [closed, closeWindows_windowOf]
  split
  · simp
  · rename_i other
    intro held
    refine other ⟨?_, by rw [held]; rfl⟩
    unfold heldBy
    rw [held]
    simp [ofFunction]

theorem resetFunction_ringOff : (resetFunction fn s).ev.ringOff fn := by
  have off : (functionStopped fn s).ev.ringOff fn := by
    refine raise_ringOff _ _ _ _ ?_
    show (resetRing fn (resetQueues fn s)).ev.ringOff fn
    unfold resetRing Events.ringOff
    simp only [vset_get_self, and_self]
  have closed : (closeWindows (heldBy fn) false (functionCleared fn (functionStopped fn s))).ev.ringOff fn :=
    closeWindows_ringOff _ _ _ off
  rw [resetFunction_steps]
  unfold sessionsClosed
  split
  · exact closeExpert_ringOff _ closed
  · exact closed

theorem resetFunction_logged : Logged (tenantEv fn.val 21) s (resetFunction fn s) := by
  have told : Logged (tenantEv fn.val 21) s (functionStopped fn s) :=
    (raise_told (freezeSlots fn (resetRing fn (resetQueues fn s))) (tenantEv fn.val 21) .host []).loggedFrom
      (by simp [freezeSlots, resetRing]) (by simp [freezeSlots, resetRing]) (by simp [freezeSlots, resetRing])
  rw [resetFunction_steps]
  refine told.grows ?_
  show Grows false (functionCleared fn (functionStopped fn s)).ev _
  unfold sessionsClosed
  split
  · exact closeExpert_grows _ (closeWindows_grows _ _ _ (.refl _))
  · exact closeWindows_grows _ _ _ (.refl _)

theorem resetFunction_sameLog : SameLog s (resetFunction fn s) := ⟨by simp, by simp, by simp⟩

/-- A pass that tells something of every item has told it of each. -/
theorem forAll_logged {n : Nat} {f : State → Fin n → State} {ev : Fin n → Nat} (grows : ∀ e t a, Grows false e t.ev → Grows false e (f t a).ev)
    (same : ∀ t a, SameLog t (f t a)) (told : ∀ t a, Logged (ev a) t (f t a)) (a : Fin n) : Logged (ev a) s (forAll n f s) := by
  have later : ∀ (l : List (Fin n)) (t : State), Grows false t.ev (l.foldl f t).ev := fun l t =>
    List.foldlRecOn (motive := fun u : State => Grows false t.ev u.ev) l f (.refl _) fun u h b _ => grows _ u b h
  have walk : ∀ (l : List (Fin n)) (t : State), SameLog s t → a ∈ l → Logged (ev a) s (l.foldl f t) := by
    intro l
    induction l with
    | nil => exact fun _ _ mem => absurd mem (by simp)
    | cons b l ih =>
      intro t h mem
      obtain ⟨isl, dict, started⟩ := h
      obtain ⟨isl', dict', started'⟩ := same t b
      by_cases here : a = b
      · subst here
        refine Logged.grows (t := f t a) (fun runs log enabled => told t a ?_ ?_ ?_) (later l _)
        · rw [controlRuns_of_isl isl, runs]
        · rw [started, log]
        · rw [evEnabled_of isl dict, enabled]
      · exact ih _ ⟨isl'.trans isl, dict'.trans dict, started'.trans started⟩ ((List.mem_cons.1 mem).resolve_left here)
  exact walk _ s ⟨rfl, rfl, rfl⟩ (List.mem_finRange a)

/-! ### Passes over the functions -/

/-- What a pass over the functions reads of one: its registers and its mailbox. -/
def functionOf (s : State) (n : Fin 16) : Func × Mbx := (s.port.fns[n], s.mbx[n])

theorem resetFunction_functionOf : functionOf (resetFunction fn s) g =
    if fn = g then ((functionOf s g).1.cleared, Mbx.reset) else functionOf s g := by
  unfold functionOf
  rw [resetFunction_fns, resetFunction_mbx]
  split <;> rfl

theorem resetEvery_eq : resetEvery s = forAll 16 (fun t n => resetFunction n t) s := rfl

theorem resetEvery_functionOf (n : Fin 16) : functionOf (resetEvery s) n = ((functionOf s n).1.cleared, Mbx.reset) :=
  forAll_read functionOf (fun _ x => (x.1.cleared, Mbx.reset))
    (fun t a b other => by rw [resetFunction_functionOf, if_neg (Ne.symm other)])
    (fun t a => by rw [resetFunction_functionOf, if_pos rfl]) n

theorem resetEvery_frozen (n : Fin 16) : ((resetEvery s).ten n).frozen = true := by
  rw [resetEvery_eq]
  exact forAll_read (fun (t : State) n => (t.ten n).frozen) (fun _ _ => true)
    (fun t a b other => by rw [resetFunction_frozen]; simp [Ne.symm other])
    (fun t a => by rw [resetFunction_frozen]; simp) n

/-- The commands of one function. -/
def cmdsOf (s : State) (n : Fin 16) : List Cmd := s.port.cmds.filter (fun c => c.fn == n)

theorem resetFunction_cmdsOf : cmdsOf (resetFunction fn s) g = if fn = g then [] else cmdsOf s g := by
  unfold cmdsOf
  rw [resetFunction_cmds, List.filter_filter]
  split
  · rename_i same
    subst same
    simp
  · rename_i other
    refine List.filter_congr fun c _ => ?_
    by_cases its : c.fn = g
    · simp [its, Ne.symm other]
    · simp [its]

theorem resetEvery_cmds : (resetEvery s).port.cmds = [] := by
  have none (n : Fin 16) : cmdsOf (resetEvery s) n = [] := by
    rw [resetEvery_eq]
    exact forAll_read cmdsOf (fun _ _ => []) (fun t a b other => by rw [resetFunction_cmdsOf, if_neg (Ne.symm other)])
      (fun t a => by rw [resetFunction_cmdsOf, if_pos rfl]) n
  refine List.eq_nil_iff_forall_not_mem.2 fun c mem => ?_
  have there : c ∈ cmdsOf (resetEvery s) c.fn := List.mem_filter.2 ⟨mem, by simp⟩
  rw [none] at there
  cases there

theorem resetEvery_logged (n : Fin 16) : Logged (tenantEv n.val 21) s (resetEvery s) :=
  forAll_logged (ev := fun n => tenantEv n.val 21) (fun _ t a h => resetFunction_grows a t h) (fun _ _ => resetFunction_sameLog)
    (fun _ _ => resetFunction_logged) n

/-- What a pass that resets some functions leaves: each of them as at reset, and the others. -/
def resetSome (p : Fin 16 → Func → Bool) (s : State) : State := forAll 16 (fun t n => if p n t.port.fns[n] then resetFunction n t else t) s

theorem resetSome_functionOf (p : Fin 16 → Func → Bool) (n : Fin 16) : functionOf (resetSome p s) n =
    if p n (functionOf s n).1 then ((functionOf s n).1.cleared, Mbx.reset) else functionOf s n :=
  forAll_read functionOf (fun n x => if p n x.1 then (x.1.cleared, Mbx.reset) else x)
    (fun t a b other => by
      split
      · rw [resetFunction_functionOf, if_neg (Ne.symm other)]
      · rfl)
    (fun t a => by
      show functionOf (if p a (functionOf t a).1 then resetFunction a t else t) a = _
      split
      · rw [resetFunction_functionOf, if_pos rfl]
      · rfl) n

theorem resetFunctions_eq : resetFunctions s = resetSome (fun _ f => f.enabled) s := rfl

/-- What a pass over the functions leaves of the rest. -/
structure KeepsRest (s t : State) : Prop where
  life : t.life = s.life
  isl : t.isl = s.isl
  dict : t.dict = s.dict
  rails : t.rails = s.rails
  keep : t.keep = s.keep
  linkState : t.port.linkState = s.port.linkState
  vfs : t.port.vfs = s.port.vfs
  videoTenant : t.cache.videoTenant = s.cache.videoTenant
  linkSpeed : t.port.linkSpeed = s.port.linkSpeed
  linkWidth : t.port.linkWidth = s.port.linkWidth

theorem KeepsRest.refl : KeepsRest s s := ⟨rfl, rfl, rfl, rfl, rfl, rfl, rfl, rfl, rfl, rfl⟩

theorem KeepsRest.trans (h : KeepsRest s t) (k : KeepsRest t u) : KeepsRest s u :=
  ⟨k.life.trans h.life, k.isl.trans h.isl, k.dict.trans h.dict, k.rails.trans h.rails, k.keep.trans h.keep,
    k.linkState.trans h.linkState, k.vfs.trans h.vfs, k.videoTenant.trans h.videoTenant,
    k.linkSpeed.trans h.linkSpeed, k.linkWidth.trans h.linkWidth⟩

theorem resetFunction_rest : KeepsRest s (resetFunction fn s) := by
  refine ⟨by simp, by simp, by simp, by simp, by simp, by rw [resetFunction_port], by rw [resetFunction_port], ?_,
    by rw [resetFunction_port], by rw [resetFunction_port]⟩
  rw [resetFunction_steps, sessionsClosed_frame.2.2]
  show (functionStopped fn s).cache.videoTenant = _
  unfold functionStopped raiseTenant
  simp only [raise_frame]
  show (resetQueues fn s).cache.videoTenant = _
  unfold resetQueues
  dsimp only
  rw [stageRefresh_cache]
  rfl

theorem forAll_keepsRest {n : Nat} {f : State → Fin n → State} (each : ∀ t a, KeepsRest t (f t a)) : KeepsRest s (forAll n f s) :=
  forAll_inv (inv := KeepsRest s) .refl fun t a h => h.trans (each t a)

theorem resetEvery_rest : KeepsRest s (resetEvery s) := forAll_keepsRest fun _ _ => resetFunction_rest

theorem resetSome_rest (p : Fin 16 → Func → Bool) : KeepsRest s (resetSome p s) := forAll_keepsRest fun t n => by
  split
  · exact resetFunction_rest
  · exact .refl

/-! ### The host's attachment -/

theorem hostChanged_rest (before : State) : KeepsRest s (hostChanged before s) := by
  refine ⟨by simp, by simp, by simp, by simp, by simp, by simp, by simp, ?_, by simp, by simp⟩
  rcases hostChanged_cache before s with cache | ⟨u, n, cache, thaws⟩
  · rw [cache]
  · rw [thaws, ← cache]
    unfold thawSlots raiseTenant
    split
    · simp only [raise_frame]
      rfl
    · rfl

/-- Only the video tenant's slots thaw when the host goes (05 R268). -/
theorem hostChanged_frozen (before : State) {m : Fin 16} (other : m ≠ s.cache.videoTenant) :
    ((hostChanged before s).ten m).frozen = (s.ten m).frozen := by
  unfold hostChanged
  extract_lets t u
  have cache : u.cache = s.cache := by
    unfold u t
    split <;> simp
  split
  · rw [thawSlots_ten, cache, ten_of_cache _ cache]
    simp [Ne.symm other]
  · rw [ten_of_cache _ cache]

theorem activityRefresh_host : (activityRefresh s).mode.host = hostAttach s.port := by
  unfold activityRefresh
  dsimp only
  generalize geyser : (if bitIf (geyserRuns s.packEst || geyserRuns s.bankEst) 0 = s.mode.geyser then s else _) = u
  have port : u.port = s.port := by
    rw [← geyser]
    split <;> simp
  rw [port]
  split
  · rename_i same
    exact same.symm
  · unfold modeChanged
    simp

/-- The host's mode is whether it is attached (03 R115). -/
theorem hostChanged_host (before : State) : (hostChanged before s).mode.host = hostAttach s.port := by
  have modes : (modesRefresh s).mode.host = hostAttach s.port := by
    unfold modesRefresh
    have effective (t : State) : (outageEffRefresh t).mode.host = t.mode.host := by
      unfold outageEffRefresh modeFallback modeChanged
      dsimp only
      (repeat' split) <;> simp
    have gates (t : State) : (gateMissingRefresh t).mode.host = t.mode.host := by
      unfold gateMissingRefresh
      simp
    rw [effective, gates, activityRefresh_host]
    simp
  unfold hostChanged
  dsimp only
  generalize attached : (if hostAttach before.port = 0 ∧ hostAttach (modesRefresh s).port = 1 then closeSessions (modesRefresh s)
    else modesRefresh s) = u
  have same : u.mode.host = hostAttach s.port := by
    rw [← modes, ← attached]
    split <;> simp
  split
  · simpa using same
  · exact same

end

/-! ### Bus mastering -/

section
variable {s t u : State} {fn g : Fin 16} {qp k : Fin 4}

/-- From `s` to `t` only the port and the event system have changed. -/
def HostOnly (s t : State) : Prop := t = withEvents { s with port := t.port } t

theorem HostOnly.trans (h : HostOnly s t) (g : HostOnly t u) : HostOnly s u := by
  unfold HostOnly at *
  rw [h] at g
  exact g

theorem raise_hostOnly (ev : Nat) (i : EvIsland) (vs : List (Nat × Nat)) : HostOnly s (raise s ev i vs) := by
  have raised := raise_eq s ev i vs
  have port : (raise s ev i vs).port = s.port := by simp
  unfold HostOnly
  rw [port]
  exact raised

/-- From `s` to `t` one pair has worked off doorbells: it waits for the same ones, and the other pairs and what the functions
themselves hold are as they were. -/
structure PairOnly (fn : Fin 16) (qp : Fin 4) (s t : State) : Prop where
  only : HostOnly s t
  others : ∀ g k, (g, k) ≠ (fn, qp) → t.pair g k = s.pair g k
  recorded : (t.pair fn qp).recorded = (s.pair fn qp).recorded
  function : ∀ g : Fin 16, t.port.fns[g] = { s.port.fns[g] with pairs := t.port.fns[g].pairs }
  apart : ∀ g : Fin 16, g ≠ fn → t.port.fns[g] = s.port.fns[g]
  sent : ∀ o ∈ s.out, o ∈ t.out

theorem PairOnly.refl : PairOnly fn qp s s := ⟨rfl, fun _ _ _ => rfl, rfl, fun _ => rfl, fun _ _ => rfl, fun _ h => h⟩

theorem PairOnly.trans (h : PairOnly fn qp s t) (j : PairOnly fn qp t u) : PairOnly fn qp s u where
  only := h.only.trans j.only
  others g k other := (j.others g k other).trans (h.others g k other)
  recorded := j.recorded.trans h.recorded
  function g := by rw [j.function, h.function]
  apart g other := (j.apart g other).trans (h.apart g other)
  sent o mem := j.sent o (h.sent o mem)

theorem modPair_function (f : Pair → Pair) : (s.modPair fn qp f).port.fns[g] =
    { s.port.fns[g] with pairs := (s.modPair fn qp f).port.fns[g].pairs } ∧
    (g ≠ fn → (s.modPair fn qp f).port.fns[g] = s.port.fns[g]) := by
  have read : (s.modPair fn qp f).port.fns[g] =
      if fn = g then { s.port.fns[g] with pairs := vmod s.port.fns[g].pairs qp f } else s.port.fns[g] := fns_modFn _
  refine ⟨?_, fun other => by rw [read, if_neg (Ne.symm other)]⟩
  rw [read]
  split <;> rfl

theorem modPair_only {f : Pair → Pair} (keeps : ∀ p, (f p).recorded = p.recorded) : PairOnly fn qp s (s.modPair fn qp f) where
  only := rfl
  others g k other := pair_modPair_ne _ _ _ _ _ _ other
  recorded := by rw [pair_modPair_self, keeps]
  function g := (modPair_function f).1
  apart g := (modPair_function f).2
  sent _ mem := mem

theorem raise_pairOnly (ev : Nat) (i : EvIsland) (vs : List (Nat × Nat)) : PairOnly fn qp s (raise s ev i vs) := by
  have port : (raise s ev i vs).port = s.port := by simp
  exact ⟨raise_hostOnly .., fun g k _ => pair_raise .., by rw [pair_raise], fun g => by rw [port], fun g _ => by rw [port],
    fun _ => raise_sent _ _ _⟩

theorem stopPair_only (code : Byte) : PairOnly fn qp s (stopPair fn qp code s) := by
  unfold stopPair raiseTenant
  refine PairOnly.trans ?_ (raise_pairOnly _ _ _)
  exact modPair_only fun _ => rfl

theorem takeDoorbell_only (head : Bool) (v : BitVec 32) : PairOnly fn qp s (takeDoorbell fn qp head v s) := by
  cases head with
  | true =>
    show PairOnly fn qp s (takeCqHead fn qp v s)
    unfold takeCqHead
    dsimp only
    split
    · exact .refl
    · split
      · exact stopPair_only 1
      · exact modPair_only fun _ => rfl
  | false =>
    show PairOnly fn qp s (takeTail fn qp v s)
    unfold takeTail
    dsimp only
    split
    · exact .refl
    · split
      · exact stopPair_only 1
      · exact modPair_only fun _ => rfl

/-- What a pair has recorded is taken, and is recorded no more (05 R204). -/
def replayed (fn : Fin 16) (qp : Fin 4) (s : State) : State :=
  (s.pair fn qp).recorded.foldl (fun u v => takeDoorbell fn qp v.1 v.2 u) (s.modPair fn qp (fun p => { p with recorded := [] }))

theorem replayTails_eq (open_ : doorbellWaits s fn = false) : replayTails fn s = forAll 4 (fun t qp => replayed fn qp t) s := by
  unfold replayTails
  rw [if_neg (by simp [open_])]
  rfl

theorem replayed_work : PairOnly fn qp (s.modPair fn qp (fun p => { p with recorded := [] })) (replayed fn qp s) :=
  List.foldlRecOn (motive := PairOnly fn qp (s.modPair fn qp (fun p => { p with recorded := [] }))) _ _ .refl
    fun _ h v _ => h.trans (takeDoorbell_only v.1 v.2)

theorem replayed_recorded : ((replayed fn qp s).pair fn k).recorded = if k = qp then [] else (s.pair fn k).recorded := by
  have work := replayed_work (s := s) (fn := fn) (qp := qp)
  split
  · rename_i same
    rw [same, work.recorded, pair_modPair_self]
  · rename_i other
    rw [work.others fn k (by simp [other]), pair_modPair_ne _ _ _ _ _ _ (by simp [other])]

/-- From `s` to `t` a function has taken doorbells, and the other functions and its own registers are as they were. -/
structure FunctionOnly (fn : Fin 16) (s t : State) : Prop where
  only : HostOnly s t
  function : ∀ g : Fin 16, t.port.fns[g] = { s.port.fns[g] with pairs := t.port.fns[g].pairs }
  apart : ∀ g : Fin 16, g ≠ fn → t.port.fns[g] = s.port.fns[g]
  sent : ∀ o ∈ s.out, o ∈ t.out

theorem FunctionOnly.trans (h : FunctionOnly fn s t) (j : FunctionOnly fn t u) : FunctionOnly fn s u where
  only := h.only.trans j.only
  function g := by rw [j.function, h.function]
  apart g other := (j.apart g other).trans (h.apart g other)
  sent o mem := j.sent o (h.sent o mem)

theorem replayed_only : FunctionOnly fn s (replayed fn qp s) := by
  have begun : FunctionOnly fn s (s.modPair fn qp (fun p => { p with recorded := [] })) :=
    ⟨rfl, fun _ => (modPair_function _).1, fun _ => (modPair_function _).2, fun _ mem => mem⟩
  obtain ⟨only, _, _, function, apart, sent⟩ := replayed_work (s := s) (fn := fn) (qp := qp)
  exact begun.trans ⟨only, function, apart, sent⟩

theorem replayTails_only : FunctionOnly fn s (replayTails fn s) := by
  have refl : FunctionOnly fn s s := ⟨rfl, fun _ => rfl, fun _ _ => rfl, fun _ mem => mem⟩
  cases waits : doorbellWaits s fn with
  | true =>
    unfold replayTails
    rw [if_pos waits]
    exact refl
  | false =>
    rw [replayTails_eq waits]
    exact forAll_inv (inv := FunctionOnly fn s) refl fun t qp h => h.trans replayed_only

theorem replayTails_recorded (open_ : doorbellWaits s fn = false) : ((replayTails fn s).pair fn qp).recorded = [] := by
  rw [replayTails_eq open_]
  exact forAll_read (fun (t : State) k => (t.pair fn k).recorded) (fun _ _ => []) (fun t a b other => by rw [replayed_recorded, if_neg other])
    (fun t a => by rw [replayed_recorded, if_pos rfl]) qp

/-- The vectors that waited are sent, and wait no more (05 R204). -/
theorem sendPending_eq : sendPending fn s = { s with
    port := (s.modFn fn (fun f => { f with pba := 0 })).port
    out := s.out ++ ((List.range 32).filter (s.port.fns[fn].pba.getLsbD ·)).map (Output.msix fn) } := by
  unfold sendPending
  rw [sends_eq]
  rfl

/-- A function that may master the bus, before what was recorded is taken. -/
def busMastered (fn : Fin 16) (mps mrrs : Nat) (s : State) : State :=
  sendPending fn (s.modFn fn (fun f => deviceControl mps mrrs { f with bme := true }))

theorem busMastered_fns (mps mrrs : Nat) : (busMastered fn mps mrrs s).port.fns[g] =
    if fn = g then { deviceControl mps mrrs { s.port.fns[g] with bme := true } with pba := 0 } else s.port.fns[g] := by
  unfold busMastered
  rw [sendPending_eq]
  refine (fns_modFn _).trans ?_
  rw [fns_modFn]
  split <;> rfl

theorem busMastered_pair (mps mrrs : Nat) (k : Fin 4) : (busMastered fn mps mrrs s).pair g k = s.pair g k := by
  show (busMastered fn mps mrrs s).port.fns[g].pairs[k] = _
  rw [busMastered_fns]
  split <;> rfl

theorem busMastered_only (mps mrrs : Nat) : HostOnly s (busMastered fn mps mrrs s) := by
  unfold busMastered
  rw [sendPending_eq]
  rfl

theorem busMastered_sent (mps mrrs : Nat) {v : Nat} (few : v < 32) (waits : s.port.fns[fn].pba.getLsbD v = true) :
    Output.msix fn v ∈ (busMastered fn mps mrrs s).out := by
  unfold busMastered
  rw [sendPending_eq]
  refine List.mem_append_right _ (List.mem_map.2 ⟨v, List.mem_filter.2 ⟨List.mem_range.2 few, ?_⟩, rfl⟩)
  rw [fns_modFn, if_pos rfl]
  exact waits

/-! ### The link -/

/-- The VFs are the functions after PF0, in order (05 R201). -/
theorem fnEnabled_iff (vfs : Nat) (n : Fin 16) : fnEnabled (min vfs 15) n = decide (n.val ≤ vfs) := by
  have places (k : Nat) : vfFunction (k + 1) = k + 1 := by
    unfold vfFunction sriov
    dsimp only
    omega
  rw [Bool.eq_iff_iff, decide_eq_true_iff]
  unfold fnEnabled
  simp only [places, Bool.or_eq_true, beq_iff_eq, List.any_eq_true, List.mem_range]
  constructor
  · rintro (rfl | ⟨k, few, at_⟩)
    · exact Nat.zero_le _
    · omega
  · intro inside
    by_cases zero : n = 0
    · exact .inl zero
    · have positive : n.val ≠ 0 := fun h => zero (Fin.ext h)
      exact .inr ⟨n.val - 1, by omega, by omega⟩

theorem disableVfs_fns : (disableVfs s).port.fns[g] = if g = 0 then s.port.fns[g] else { s.port.fns[g] with enabled := false } :=
  vmapIdx_getElem ..

/-- The port of a link that is up, with what the host enables (05 R200, R201). -/
def linked (speed width vfs : Nat) (s : State) : State := { s with port := { s.port with
  linkState := 2, linkSpeed := min speed (s.cfg 0x2200 4), linkWidth := width, vfs := min vfs 15
  fns := vmapIdx (fun n f => { f with enabled := fnEnabled (min vfs 15) n }) s.port.fns } }

theorem linked_fns (speed width vfs : Nat) (n : Fin 16) : (linked speed width vfs s).port.fns[n] =
    { s.port.fns[n] with enabled := decide (n.val ≤ vfs) } :=
  (vmapIdx_getElem ..).trans (by rw [fnEnabled_iff]; rfl)

/-- The events of a link that comes up: that it is, and that it is less than it could be (05 R200). -/
def linkTold (t : State) : State := raiseIf (linkDegraded t) (raise t 24 .host []) 26 .host []

theorem linkTold_told : Told 24 s (linkTold s) := (raise_told s 24 .host []).grows (raiseIf_grows _ _ _ _ _ (.refl _))

theorem linkTold_logged (degraded : linkDegraded s = true) : Logged 26 s (linkTold s) :=
  (raiseIf_told _ _ _ _ _ degraded).loggedFrom (by simp) (by simp) (by simp)

theorem linkTold_frame : (linkTold s).port = s.port ∧ (linkTold s).life = s.life ∧ (linkTold s).isl = s.isl ∧ (linkTold s).dict = s.dict ∧
    (linkTold s).time = s.time ∧ (linkTold s).mbx = s.mbx ∧ (linkTold s).win = s.win ∧ (linkTold s).rails = s.rails := by
  unfold linkTold
  simp

theorem linked_degraded {speed width vfs : Nat} (slow : speed < s.cfg 0x2200 4 ∨ width < 4) :
    linkDegraded (linked speed width vfs s) = true := by
  rcases slow with slow | narrow
  · have less : (linked speed width vfs s).port.linkSpeed < (linked speed width vfs s).cfg 0x2200 4 :=
      lt_of_le_of_lt (Nat.min_le_left ..) slow
    simp [linkDegraded, less]
  · have less : (linked speed width vfs s).port.linkWidth < 4 := narrow
    simp [linkDegraded, less]

/-- Every function reset, and the VFs disabled (05 R201, R271). -/
def allReset (s : State) : State := disableVfs (resetEvery s)

theorem functionOf_fst (n : Fin 16) : (functionOf s n).1 = s.port.fns[n] := rfl
theorem functionOf_snd (n : Fin 16) : (functionOf s n).2 = s.mbx[n] := rfl

theorem resetEvery_fns (n : Fin 16) : (resetEvery s).port.fns[n] = s.port.fns[n].cleared := by
  rw [← functionOf_fst, resetEvery_functionOf, functionOf_fst]

theorem resetEvery_mbx (n : Fin 16) : (resetEvery s).mbx[n] = Mbx.reset := by
  rw [← functionOf_snd, resetEvery_functionOf]

theorem disableVfs_port : (disableVfs s).port.cmds = s.port.cmds ∧ (disableVfs s).port.vfs = 0 ∧
    (disableVfs s).port.linkState = s.port.linkState ∧ (disableVfs s).port.linkSpeed = s.port.linkSpeed ∧
    (disableVfs s).port.linkWidth = s.port.linkWidth := ⟨rfl, rfl, rfl, rfl, rfl⟩

theorem allReset_fns (n : Fin 16) : (allReset s).port.fns[n].pairs = Vector.replicate 4 Pair.reset ∧
    (n ≠ 0 → (allReset s).port.fns[n].enabled = false) := by
  unfold allReset
  rw [disableVfs_fns, resetEvery_fns]
  refine ⟨?_, fun other => by rw [if_neg other]⟩
  split <;> rfl

theorem allReset_mbx (n : Fin 16) : (allReset s).mbx[n] = Mbx.reset := by
  have same : (allReset s).mbx = (resetEvery s).mbx := by simp [allReset]
  rw [same, resetEvery_mbx]

theorem allReset_cache : (allReset s).cache = (resetEvery s).cache := by simp [allReset]

theorem allReset_frozen (n : Fin 16) : ((allReset s).ten n).frozen = true := by
  rw [ten_of_cache _ allReset_cache, resetEvery_frozen]

theorem allReset_cmds : (allReset s).port.cmds = [] := by
  unfold allReset
  rw [disableVfs_port.1, resetEvery_cmds]

theorem allReset_logged (n : Fin 16) : Logged (tenantEv n.val 21) s (allReset s) :=
  (resetEvery_logged n).grows (by
    unfold allReset
    simp)

/-- What hostChanged leaves after every function has been reset. -/
theorem allReset_changed (before : State) : ∃ t, hostChanged before (allReset s) = t ∧ t.port.linkState = s.port.linkState ∧
    t.port.vfs = 0 ∧ (∀ n : Fin 16, t.port.fns[n].pairs = Vector.replicate 4 Pair.reset ∧ t.mbx[n] = Mbx.reset ∧
      Logged (tenantEv n.val 21) s t ∧ (n ≠ s.cache.videoTenant → (t.ten n).frozen = true)) ∧ t.port.cmds = [] ∧
    (∀ n : Fin 16, n ≠ 0 → t.port.fns[n].enabled = false) ∧ t.mode.host = hostAttach (allReset s).port ∧ t.life = s.life ∧
    t.isl = s.isl ∧ t.dict = s.dict ∧ t.rails = s.rails ∧ t.keep = s.keep := by
  have rest := (resetEvery_rest (s := s))
  have changed := hostChanged_rest (s := allReset s) before
  have port : (hostChanged before (allReset s)).port = (allReset s).port := by simp
  have mbx : (hostChanged before (allReset s)).mbx = (allReset s).mbx := by simp
  obtain ⟨_, vfs, linkState, _⟩ := disableVfs_port (s := resetEvery s)
  obtain ⟨_, isl, life, _, _, dict, _, _, _, _, _, _, _, _, _, _, rails, keep, _⟩ := disableVfs_frame (resetEvery s)
  refine ⟨_, rfl, changed.linkState.trans (linkState.trans rest.linkState), changed.vfs.trans vfs, fun n => ⟨?_, ?_, ?_, fun other => ?_⟩,
    ?_, fun n other => ?_, hostChanged_host before, changed.life.trans (life.trans rest.life), changed.isl.trans (isl.trans rest.isl),
    changed.dict.trans (dict.trans rest.dict), changed.rails.trans (rails.trans rest.rails), changed.keep.trans (keep.trans rest.keep)⟩
  · rw [port]
    exact (allReset_fns n).1
  · rw [mbx]
    exact allReset_mbx n
  · exact (allReset_logged n).grows (hostChanged_grows _ _ (.refl _))
  · rw [hostChanged_frozen before (by rw [allReset_cache, rest.videoTenant]; exact other)]
    exact allReset_frozen n
  · rw [port]
    exact allReset_cmds
  · rw [port]
    exact (allReset_fns n).2 other

/-- What it leaves of the functions when some are reset. -/
theorem resetSome_changed (before : State) (p : Fin 16 → Func → Bool) (n : Fin 16) : functionOf (hostChanged before (resetSome p s)) n =
    if p n s.port.fns[n] then (s.port.fns[n].cleared, Mbx.reset) else (s.port.fns[n], s.mbx[n]) := by
  have same : functionOf (hostChanged before (resetSome p s)) n = functionOf (resetSome p s) n := by
    unfold functionOf
    simp
  rw [same, resetSome_functionOf]
  rfl

/-- A link that is lost, before its functions are reset (05 R271). -/
def unlinked (s : State) : State := raise { s with port := { s.port with linkState := 0, linkSpeed := 0, linkWidth := 0 } } 25 .host []

theorem linkLost_eq : linkLost s = hostChanged s (allReset (unlinked s)) := rfl

theorem unlinked_frame : (unlinked s).port = { s.port with linkState := 0, linkSpeed := 0, linkWidth := 0 } ∧
    (unlinked s).cache = s.cache ∧ (unlinked s).life = s.life ∧ (unlinked s).isl = s.isl ∧ (unlinked s).dict = s.dict ∧
    (unlinked s).rails = s.rails ∧ (unlinked s).keep = s.keep ∧ (unlinked s).ev.started = s.ev.started := by
  unfold unlinked
  simp

theorem unlinked_told : Told 25 s (unlinked s) := (raise_told _ 25 .host []).of rfl rfl rfl

/-! ### The events told before a reset -/

theorem resetQueues_grown {held : Bool} {e : Events} (h : Grows held e s.ev) : Grows held e (resetQueues fn s).ev :=
  stageRefresh_grows _ h

theorem closeExpert_grown {held : Bool} {e : Events} (h : Grows held e s.ev) : Grows held e (closeExpert s).ev := by
  unfold closeExpert
  split
  · exact h
  · exact raise_grows _ _ _ _ h

theorem closeWindow_grown {held : Bool} {e : Events} (w : Fin 7) (abandoned : Bool) (h : Grows held e s.ev) :
    Grows held e (closeWindow w abandoned s).ev := by
  unfold closeWindow
  dsimp only
  split
  · exact raiseIf_grows _ _ _ _ _ h
  · exact h

theorem closeWindows_grown {held : Bool} {e : Events} (p : Win → Bool) (abandoned : Bool) (h : Grows held e s.ev) :
    Grows held e (closeWindows p abandoned s).ev := by
  unfold closeWindows
  refine forAll_grows _ _ h fun t w each => ?_
  split
  · exact closeWindow_grown w abandoned each
  · exact each

theorem resetFunction_grown {held : Bool} {e : Events} (h : Grows held e s.ev) : Grows held e (resetFunction fn s).ev := by
  have ring : Grows held e (resetRing fn (resetQueues fn s)).ev := by
    obtain ⟨pending, sup, ctl⟩ := resetQueues_grown (fn := fn) h
    exact ⟨pending, sup, ctl⟩
  have stopped : Grows held e (functionStopped fn s).ev := raise_grows _ _ _ _ ring
  have closed : Grows held e (closeWindows (heldBy fn) false (functionCleared fn (functionStopped fn s))).ev := closeWindows_grown _ _ stopped
  rw [resetFunction_steps]
  unfold sessionsClosed
  split
  · exact closeExpert_grown closed
  · exact closed

theorem allReset_grown {held : Bool} {e : Events} (h : Grows held e s.ev) : Grows held e (allReset s).ev := by
  have same : (allReset s).ev = (resetEvery s).ev := by simp [allReset]
  rw [same, resetEvery_eq]
  exact forAll_grows _ _ h fun t n each => resetFunction_grown each

theorem allReset_link : (allReset s).port.linkState = s.port.linkState ∧ (allReset s).port.linkSpeed = s.port.linkSpeed ∧
    (allReset s).port.linkWidth = s.port.linkWidth := by
  unfold allReset
  obtain ⟨_, _, linkState, linkSpeed, linkWidth⟩ := disableVfs_port (s := resetEvery s)
  have rest := resetEvery_rest (s := s)
  exact ⟨linkState.trans rest.linkState, linkSpeed.trans rest.linkSpeed, linkWidth.trans rest.linkWidth⟩

/-! ### The VFs disabled -/

/-- The VFs that are enabled, each reset (05 R270). -/
def vfsReset (s : State) : State := resetSome (fun n f => n != 0 && f.enabled) s

theorem vfsReset_rest : KeepsRest s (vfsReset s) := by
  unfold vfsReset
  exact resetSome_rest _

theorem exec_vfEnableClear (host : s.island .host = .running) : exec .vfEnableClear s = .next (hostChanged s (disableVfs (vfsReset s))) := by
  have pass : forAll 16 (fun t n => if n ≠ 0 ∧ t.port.fns[n].enabled then resetFunction n t else t) s = vfsReset s := by
    unfold vfsReset resetSome
    congr 1
    funext t n
    simp
  show execVfEnableClear s = _
  unfold execVfEnableClear
  rw [if_neg (by simp [host]), pass]

theorem vfsReset_fns (n : Fin 16) : (vfsReset s).port.fns[n] = if n ≠ 0 ∧ s.port.fns[n].enabled then s.port.fns[n].cleared else s.port.fns[n] := by
  rw [← functionOf_fst, vfsReset, resetSome_functionOf, functionOf_fst]
  by_cases reset : n ≠ 0 ∧ s.port.fns[n].enabled
  · rw [if_pos reset, if_pos (by simpa using reset)]
  · rw [if_neg reset, if_neg (by simpa using reset)]
    rfl

theorem vfsReset_mbx {n : Fin 16} (other : n ≠ 0) (enabled : s.port.fns[n].enabled = true) : (vfsReset s).mbx[n] = Mbx.reset := by
  rw [← functionOf_snd, vfsReset, resetSome_functionOf, functionOf_fst, if_pos (by rw [enabled]; simpa using other)]

end

end Sys2Proof.Machine
end

section
open Sys2Proof Sys2Proof.Machine

/-- Settles O32: each reset function by function, and bus mastering through what the pairs' doorbells leave. -/
theorem linkAndFunctionResets : Obligations.LinkAndFunctionResets := by
  unfold Obligations.LinkAndFunctionResets
  refine ⟨fun speed width vfs s ready host down => ?_, fun s up => ?_, fun fn mps mrrs s reached => ?_, fun fn s reached notPF0 => ?_,
    fun s reached => ?_, fun s host => ?_, fun s up => ?_⟩
  · have step : exec (.linkUp speed width vfs) s = .next (hostChanged s (linkTold (linked speed width vfs s))) := by
      show execLinkUp speed width vfs s = _
      unfold execLinkUp
      rw [if_neg (by simp [ready, host, down])]
      rfl
    obtain ⟨port, life, isl, dict, time, mbx, win, rails⟩ := linkTold_frame (s := linked speed width vfs s)
    obtain ⟨time', isl', life', nor', dict', mbx', win', port', adm', pack', bank', packEst', bankEst', rails', _⟩ :=
      hostChanged_frame s (linkTold (linked speed width vfs s))
    have grows (held : Bool) := hostChanged_grows (held := held) s (linkTold (linked speed width vfs s)) (.refl _)
    refine ⟨_, step, ?_, fun slow => ?_, ?_, ?_, ?_, ?_, fun n => ?_, life'.trans life, isl'.trans isl, dict'.trans dict, time'.trans time,
      mbx'.trans mbx, win'.trans win, rails'.trans rails⟩
    · have told : Told 24 s (linkTold (linked speed width vfs s)) := linkTold_told.of (s' := linked speed width vfs s) rfl rfl rfl
      exact told.grows (grows true)
    · have told : Logged 26 s (linkTold (linked speed width vfs s)) := linkTold_logged (s := linked speed width vfs s) (linked_degraded slow)
      exact told.grows (grows false)
    all_goals rw [port', port]
    · rfl
    · rfl
    · rfl
    · rfl
    · rw [linked_fns]
      exact ⟨rfl, rfl⟩
  · obtain ⟨port, cache, life, isl, dict, rails, keep, started⟩ := unlinked_frame (s := s)
    obtain ⟨t, changed, link, vfs, functions, cmds, disabled, attach, life', isl', dict', rails', keep'⟩ :=
      allReset_changed (s := unlinked s) s
    have down : exec .linkDown s = .next t := by
      show execLinkDown s = _
      unfold execLinkDown
      rw [if_pos up, linkLost_eq, changed]
    refine ⟨t, down, ?_, link.trans (by rw [port]), ?_, ?_, vfs, fun n => ?_, cmds, disabled, ?_, life'.trans life, isl'.trans isl,
      dict'.trans dict, rails'.trans rails, keep'.trans keep⟩
    · rw [← changed]
      exact unlinked_told.grows (hostChanged_grows _ _ (allReset_grown (.refl _)))
    · rw [← changed]
      simp [allReset_link, port]
    · rw [← changed]
      simp [allReset_link, port]
    · obtain ⟨pairs, mbx, logged, frozen⟩ := functions n
      exact ⟨pairs, mbx, fun a b c => logged ((controlRuns_of_isl isl).trans a) (started.trans b) ((evEnabled_of isl dict _).trans c),
        fun other => frozen (by rw [cache]; exact other)⟩
    · rw [attach]
      unfold hostAttach
      rw [if_neg]
      rintro ⟨linked, _⟩
      rw [allReset_link.1, port] at linked
      cases linked
  · refine ⟨replayTails fn (busMastered fn mps mrrs s), ?_, ?_⟩
    · show execBusMasterEnable fn mps mrrs s = _
      unfold execBusMasterEnable
      rw [if_neg (by simp [reached])]
      rfl
    have work := replayTails_only (s := busMastered fn mps mrrs s) (fn := fn)
    have own : (busMastered fn mps mrrs s).port.fns[fn] = { deviceControl mps mrrs { s.port.fns[fn] with bme := true } with pba := 0 } := by
      rw [busMastered_fns, if_pos rfl]
    have now := work.function fn
    rw [own] at now
    refine ⟨by rw [now]; rfl, fun known => ?_, fun known => ?_, by rw [now], fun v waits => work.sent _ (busMastered_sent _ _ v.isLt waits),
      fun out idle qp => ?_, fun boot qp => ?_, fun g other => ?_, (busMastered_only mps mrrs).trans work.only⟩
    · rw [now]
      have listed : mps = 128 ∨ mps = 256 ∨ mps = 512 := by simpa using known
      exact if_pos listed
    · rw [now]
      exact if_pos (List.contains_iff_mem.2 known)
    · refine replayTails_recorded ?_
      unfold doorbellWaits
      have bme : (busMastered fn mps mrrs s).port.fns[fn].bme = true := by rw [own]; rfl
      have life : (busMastered fn mps mrrs s).life = s.life := by rw [busMastered_only]; rfl
      rw [bme, life]
      simp [out, idle]
    · have life : (busMastered fn mps mrrs s).life = s.life := by rw [busMastered_only]; rfl
      have waits : doorbellWaits (busMastered fn mps mrrs s) fn = true := by
        unfold doorbellWaits
        rw [life]
        simp [boot]
      unfold replayTails
      rw [if_pos waits]
      exact busMastered_pair mps mrrs qp
    · rw [work.apart g other, busMastered_fns, if_neg (Ne.symm other)]
  · have port : (hostChanged s (resetFunction fn s)).port = (resetFunction fn s).port := by simp
    have mbx : (hostChanged s (resetFunction fn s)).mbx = (resetFunction fn s).mbx := by simp
    have step : exec (.functionLevelReset fn) s = .next (hostChanged s (resetFunction fn s)) := by
      show execFunctionLevelReset fn s = _
      unfold execFunctionLevelReset
      rw [if_neg (by simp [reached]), if_neg notPF0]
    have enabled : s.port.fns[fn].enabled = true := (Bool.and_eq_true_iff.1 reached).1
    obtain ⟨off, start⟩ := hostChanged_ringOff s _ (resetFunction_ringOff (s := s) (fn := fn))
    refine ⟨_, step, ?_, ?_, ?_, ?_, fun c mem => ?_, off, start, fun other => ?_, fun w => ?_, fun g other => ⟨?_, ?_⟩, ?_⟩
    · rw [port, resetFunction_fns, if_pos rfl]
      rfl
    · rw [port, resetFunction_fns, if_pos rfl]
      rfl
    · rw [port, resetFunction_fns, if_pos rfl]
      exact enabled
    · rw [mbx, resetFunction_mbx, if_pos rfl]
    · rw [port, resetFunction_cmds] at mem
      simpa using (List.mem_filter.1 mem).2
    · rw [hostChanged_frozen s (by rw [resetFunction_rest.videoTenant]; exact other), resetFunction_frozen]
      simp
    · have same : (hostChanged s (resetFunction fn s)).win = (resetFunction fn s).win := by simp
      rw [same]
      exact resetFunction_windows w
    · rw [port, resetFunction_fns, if_neg (Ne.symm other)]
    · rw [mbx, resetFunction_mbx, if_neg (Ne.symm other)]
    · simp
  · have step : exec (.functionLevelReset 0) s = .next (hostChanged s (resetSome (fun _ f => f.enabled) s)) := by
      show execFunctionLevelReset 0 s = _
      unfold execFunctionLevelReset
      rw [if_neg (by simp [reached]), if_pos rfl]
      rfl
    have changed := hostChanged_rest (s := resetSome (fun _ f => f.enabled) s) s
    have rest := resetSome_rest (s := s) (fun _ f => f.enabled)
    have read := resetSome_changed (s := s) s (fun _ f => f.enabled)
    refine ⟨_, step, fun n on => ?_, fun n off => ?_, changed.linkState.trans rest.linkState, changed.life.trans rest.life,
      changed.isl.trans rest.isl, changed.dict.trans rest.dict, changed.rails.trans rest.rails⟩
    · have now := read n
      rw [if_pos on] at now
      exact ⟨by rw [← functionOf_fst, now]; rfl, by rw [← functionOf_snd, now]⟩
    · have now := read n
      rw [if_neg (by rw [off]; exact Bool.false_ne_true)] at now
      exact ⟨by rw [← functionOf_fst, now], by rw [← functionOf_snd, now]⟩
  · have port : (hostChanged s (disableVfs (vfsReset s))).port = (disableVfs (vfsReset s)).port := by simp
    have mbx : (hostChanged s (disableVfs (vfsReset s))).mbx = (vfsReset s).mbx := by simp
    have changed := hostChanged_rest (s := disableVfs (vfsReset s)) s
    have rest := vfsReset_rest (s := s)
    obtain ⟨_, vfs, linkState, _⟩ := disableVfs_port (s := vfsReset s)
    obtain ⟨_, isl, life, _, _, dict, _, _, _, _, _, _, _, _, _, _, rails, _⟩ := disableVfs_frame (vfsReset s)
    refine ⟨_, exec_vfEnableClear host, ?_, ?_, fun n other => ⟨?_, fun enabled => ⟨?_, ?_⟩⟩,
      changed.linkState.trans (linkState.trans rest.linkState), changed.life.trans (life.trans rest.life),
      changed.isl.trans (isl.trans rest.isl), changed.dict.trans (dict.trans rest.dict), changed.rails.trans (rails.trans rest.rails)⟩
    · rw [port, vfs]
    · rw [port, disableVfs_fns, if_pos rfl, vfsReset_fns, if_neg (by simp)]
    · rw [port, disableVfs_fns, if_neg other]
    · rw [port, disableVfs_fns, if_neg other, vfsReset_fns, if_pos ⟨other, enabled⟩]
      rfl
    · rw [mbx, vfsReset_mbx other enabled]
  · obtain ⟨t, changed, link, vfs, functions, cmds, disabled, _, life, isl, dict, rails, keep⟩ := allReset_changed (s := s) s
    refine ⟨t, ?_, link.trans up, vfs, functions, cmds, disabled, life, isl, dict, rails, keep⟩
    show execHotReset s = _
    unfold execHotReset
    rw [if_neg (by simp [up])]
    exact congrArg Host.Outcome.next changed
end

section
/-! What entering a state and following the islands leave as it is. -/

namespace Sys2Proof.Machine

/-! ### What the steps of a BOOT leave as it is: the node's state and number, the hold-up path, the slots of DRAM and PORT_READY -/

@[simp] theorem raise_canNode (s : State) (ev : Nat) (i : EvIsland) (vs : List (Nat × Nat)) : (raise s ev i vs).can.nmt = s.can.nmt ∧
    (raise s ev i vs).can.node = s.can.node := by
  rw [raise_eq]
  exact ⟨rfl, rfl⟩

@[simp] theorem raiseIf_canNode (b : Bool) (s : State) (ev : Nat) (i : EvIsland) (vs : List (Nat × Nat)) :
    (raiseIf b s ev i vs).can.nmt = s.can.nmt ∧ (raiseIf b s ev i vs).can.node = s.can.node := by
  rw [raiseIf_eq]
  exact ⟨rfl, rfl⟩

@[simp] theorem foldl_canNode_nmt {α : Type} (f : State → α → State) (l : List α) (s : State)
    (h : ∀ t a, (f t a).can.nmt = t.can.nmt) : (l.foldl f s).can.nmt = s.can.nmt := foldl_keeps (fun t => t.can.nmt) f h l s

@[simp] theorem forAll_canNode_nmt {n : Nat} (f : State → Fin n → State) (s : State) (h : ∀ t a, (f t a).can.nmt = t.can.nmt) :
    (forAll n f s).can.nmt = s.can.nmt := foldl_keeps (fun t => t.can.nmt) f h _ s

@[simp] theorem foldl_canNode_node {α : Type} (f : State → α → State) (l : List α) (s : State)
    (h : ∀ t a, (f t a).can.node = t.can.node) : (l.foldl f s).can.node = s.can.node := foldl_keeps (fun t => t.can.node) f h l s

@[simp] theorem forAll_canNode_node {n : Nat} (f : State → Fin n → State) (s : State) (h : ∀ t a, (f t a).can.node = t.can.node) :
    (forAll n f s).can.node = s.can.node := foldl_keeps (fun t => t.can.node) f h _ s

theorem logRecs_canNode (n : Nat) (l : List Rec) (x : EvPart) (s : State) : (logRecs s n l x).can.nmt = x.can.nmt ∧
    (logRecs s n l x).can.node = x.can.node := by
  have like := logRecs_can s n l x
  unfold CanLike at like
  rw [like]
  exact ⟨rfl, rfl⟩

@[simp] theorem releaseHeld_canNode (s : State) : (releaseHeld s).can.nmt = s.can.nmt ∧ (releaseHeld s).can.node = s.can.node := by
  unfold releaseHeld
  dsimp only
  split
  · exact ⟨rfl, rfl⟩
  · exact logRecs_canNode ..

@[simp] theorem startCharge_canNode (s : State) (c : Channel) : (startCharge s c).can.nmt = s.can.nmt ∧ (startCharge s
    c).can.node = s.can.node := by
  unfold startCharge
  dsimp only
  (repeat' split) <;> simp

@[simp] theorem chargeRefresh_canNode (s : State) (c : Channel) : (chargeRefresh s c).can.nmt = s.can.nmt ∧ (chargeRefresh s
    c).can.node = s.can.node := by
  unfold chargeRefresh
  dsimp only
  (repeat' split) <;> simp

@[simp] theorem chargesRefresh_canNode (s : State) : (chargesRefresh s).can.nmt = s.can.nmt ∧ (chargesRefresh s).can.node =
    s.can.node := by
  unfold chargesRefresh
  (repeat' split) <;> simp

@[simp] theorem gateMissingRefresh_canNode (s : State) : (gateMissingRefresh s).can.nmt = s.can.nmt ∧ (gateMissingRefresh
    s).can.node = s.can.node := by
  unfold gateMissingRefresh
  (repeat' split) <;> simp

@[simp] theorem endAssist_canNode (s : State) : (endAssist s).can.nmt = s.can.nmt ∧ (endAssist s).can.node = s.can.node := by
  unfold endAssist
  (repeat' split) <;> simp

@[simp] theorem discardLearn_canNode (c : Channel) (why : Cause) (s : State) : (discardLearn c why s).can.nmt = s.can.nmt ∧
    (discardLearn c why s).can.node = s.can.node := by
  unfold discardLearn
  (repeat' split) <;> simp

@[simp] theorem geyserAbort_canNode (c : Channel) (s : State) : (geyserAbort c s).can.nmt = s.can.nmt ∧ (geyserAbort c
    s).can.node = s.can.node := by
  unfold geyserAbort
  dsimp only
  (repeat' split) <;> simp

@[simp] theorem geyserAbortAll_canNode (s : State) : (geyserAbortAll s).can.nmt = s.can.nmt ∧ (geyserAbortAll s).can.node =
    s.can.node := by
  unfold geyserAbortAll
  (repeat' split) <;> simp

@[simp] theorem stopBorrowing_canNode (s : State) : (stopBorrowing s).can.nmt = s.can.nmt ∧ (stopBorrowing s).can.node =
    s.can.node := by
  unfold stopBorrowing
  (repeat' split) <;> simp +contextual

@[simp] theorem modeChanged_canNode (dim old new : Nat) (s : State) : (modeChanged dim old new s).can.nmt = s.can.nmt ∧
    (modeChanged dim old new s).can.node = s.can.node := by
  unfold modeChanged
  (repeat' split) <;> simp

@[simp] theorem modeFallback_canNode (a b : Nat) (s : State) : (modeFallback a b s).can.nmt = s.can.nmt ∧ (modeFallback a b
    s).can.node = s.can.node := by
  unfold modeFallback
  (repeat' split) <;> simp

@[simp] theorem outageEffRefresh_canNode (s : State) : (outageEffRefresh s).can.nmt = s.can.nmt ∧ (outageEffRefresh
    s).can.node = s.can.node := by
  unfold outageEffRefresh
  dsimp only
  (repeat' split) <;> simp

@[simp] theorem activityRefresh_canNode (s : State) : (activityRefresh s).can.nmt = s.can.nmt ∧ (activityRefresh s).can.node =
    s.can.node := by
  unfold activityRefresh
  dsimp only
  (repeat' split) <;> simp

@[simp] theorem fitRefresh_canNode (s : State) : (fitRefresh s).can.nmt = s.can.nmt ∧ (fitRefresh s).can.node = s.can.node :=
    by
  unfold fitRefresh
  dsimp only
  (repeat' split) <;> simp

@[simp] theorem modesRefresh_canNode (s : State) : (modesRefresh s).can.nmt = s.can.nmt ∧ (modesRefresh s).can.node =
    s.can.node := by
  unfold modesRefresh
  (repeat' split) <;> simp

@[simp] theorem stageRefresh_canNode (s : State) : (stageRefresh s).can.nmt = s.can.nmt ∧ (stageRefresh s).can.node =
    s.can.node := by
  unfold stageRefresh
  dsimp only
  (repeat' split) <;> simp

@[simp] theorem endProbation_canNode (d : Fin 16) (s : State) : (endProbation d s).can.nmt = s.can.nmt ∧ (endProbation d
    s).can.node = s.can.node := by
  unfold endProbation
  (repeat' split) <;> simp

@[simp] theorem endProbations_canNode (s : State) : (endProbations s).can.nmt = s.can.nmt ∧ (endProbations s).can.node =
    s.can.node := by
  unfold endProbations
  (repeat' split) <;> simp +contextual

@[simp] theorem raiseTenant_canNode (fn : Fin 16) (k : Nat) (vs : List (Nat × Nat)) (s : State) : (raiseTenant fn k vs
    s).can.nmt = s.can.nmt ∧ (raiseTenant fn k vs s).can.node = s.can.node := by
  unfold raiseTenant
  (repeat' split) <;> simp

@[simp] theorem stopPair_canNode (fn : Fin 16) (qp : Fin 4) (code : Byte) (s : State) : (stopPair fn qp code s).can.nmt =
    s.can.nmt ∧ (stopPair fn qp code s).can.node = s.can.node := by
  unfold stopPair
  (repeat' split) <;> simp

@[simp] theorem takeTail_canNode (fn : Fin 16) (qp : Fin 4) (v : BitVec 32) (s : State) : (takeTail fn qp v s).can.nmt =
    s.can.nmt ∧ (takeTail fn qp v s).can.node = s.can.node := by
  unfold takeTail
  dsimp only
  (repeat' split) <;> simp

@[simp] theorem takeCqHead_canNode (fn : Fin 16) (qp : Fin 4) (v : BitVec 32) (s : State) : (takeCqHead fn qp v s).can.nmt =
    s.can.nmt ∧ (takeCqHead fn qp v s).can.node = s.can.node := by
  unfold takeCqHead
  dsimp only
  (repeat' split) <;> simp

@[simp] theorem takeDoorbell_canNode (fn : Fin 16) (qp : Fin 4) (head : Bool) (v : BitVec 32) (s : State) : (takeDoorbell fn
    qp head v s).can.nmt = s.can.nmt ∧ (takeDoorbell fn qp head v s).can.node = s.can.node := by
  unfold takeDoorbell
  (repeat' split) <;> simp

@[simp] theorem replayTails_canNode (fn : Fin 16) (s : State) : (replayTails fn s).can.nmt = s.can.nmt ∧ (replayTails fn
    s).can.node = s.can.node := by
  unfold replayTails
  (repeat' split) <;> simp +contextual

@[simp] theorem noteThrottle_canNode (n : Fin 16) (new : Nat) (s : State) : (noteThrottle n new s).can.nmt = s.can.nmt ∧
    (noteThrottle n new s).can.node = s.can.node := by
  unfold noteThrottle
  dsimp only
  (repeat' split) <;> simp

@[simp] theorem resetQueues_canNode (fn : Fin 16) (s : State) : (resetQueues fn s).can.nmt = s.can.nmt ∧ (resetQueues fn
    s).can.node = s.can.node := by
  unfold resetQueues
  dsimp only
  (repeat' split) <;> simp +contextual

@[simp] theorem thawSlots_canNode (n : Fin 16) (s : State) : (thawSlots n s).can.nmt = s.can.nmt ∧ (thawSlots n s).can.node =
    s.can.node := by
  unfold thawSlots
  (repeat' split) <;> simp

@[simp] theorem segPut_canNode (n : Fin 16) (lba : Nat) (bs : List Block) (s : State) : (segPut n lba bs s).2.can.nmt =
    s.can.nmt ∧ (segPut n lba bs s).2.can.node = s.can.node := by
  unfold segPut
  dsimp only
  split
  · simp
  · split
    · simp
    · split
      · simp
      · split
        · simp
        · rename_i taken
          rw [takeSlots_eq _ _ _ _ _ _ _ taken]
          simp

@[simp] theorem putHeader_canNode (n : Fin 16) (g : Segment) (flags : Nat) (s : State) : (putHeader n g flags s).2.can.nmt =
    s.can.nmt ∧ (putHeader n g flags s).2.can.node = s.can.node := by
  unfold putHeader
  dsimp only
  (repeat' split) <;> simp

@[simp] theorem flushSegment_canNode (n : Fin 16) (s : State) : (flushSegment n s).2.can.nmt = s.can.nmt ∧ (flushSegment n
    s).2.can.node = s.can.node := by
  unfold flushSegment
  dsimp only
  (repeat' split) <;> simp

@[simp] theorem sealSegment_canNode (n : Fin 16) (why : Cause) (flags : Nat) (s : State) : (sealSegment n why flags s).can.nmt
    = s.can.nmt ∧ (sealSegment n why flags s).can.node = s.can.node := by
  unfold sealSegment
  dsimp only
  (repeat' split) <;> simp

@[simp] theorem pauseRecording_canNode (n : Fin 16) (why : Cause) (s : State) : (pauseRecording n why s).can.nmt = s.can.nmt ∧
    (pauseRecording n why s).can.node = s.can.node := by
  unfold pauseRecording
  dsimp only
  (repeat' split) <;> simp

@[simp] theorem closeSegment_canNode (n : Fin 16) (why : Cause) (flags : Nat) (s : State) : (closeSegment n why flags
    s).can.nmt = s.can.nmt ∧ (closeSegment n why flags s).can.node = s.can.node := by
  unfold closeSegment
  dsimp only
  (repeat' split) <;> simp

@[simp] theorem stopEncode_canNode (n : Fin 16) (why close : Cause) (flags : Nat) (dest : EncRun) (s : State) : (stopEncode n
    why close flags dest s).can.nmt = s.can.nmt ∧ (stopEncode n why close flags dest s).can.node = s.can.node := by
  unfold stopEncode
  dsimp only
  (repeat' split) <;> simp

@[simp] theorem admitStream_canNode (ok : Fin 16 → Bool) (n : Fin 16) (s : State) : (admitStream ok n s).can.nmt = s.can.nmt ∧
    (admitStream ok n s).can.node = s.can.node := by
  unfold admitStream
  (repeat' split) <;> simp

@[simp] theorem admitStreams_canNode (s : State) : (admitStreams s).can.nmt = s.can.nmt ∧ (admitStreams s).can.node =
    s.can.node := by
  unfold admitStreams
  refine ⟨forAll_canNode_nmt _ _ fun t n => ?_, forAll_canNode_node _ _ fun t n => ?_⟩
  · split <;> simp
  · split <;> simp

@[simp] theorem stopStream_canNode (n : Fin 16) (why close : Cause) (flags : Nat) (dest : StreamRun) (s : State) : (stopStream
    n why close flags dest s).can.nmt = s.can.nmt ∧ (stopStream n why close flags dest s).can.node = s.can.node := by
  unfold stopStream
  dsimp only
  (repeat' split) <;> simp

@[simp] theorem startStream_canNode (n : Fin 16) (s : State) : (startStream n s).can.nmt = s.can.nmt ∧ (startStream n
    s).can.node = s.can.node := by
  unfold startStream
  dsimp only
  (repeat' split) <;> simp

@[simp] theorem streamsRefresh_canNode (s : State) : (streamsRefresh s).can.nmt = s.can.nmt ∧ (streamsRefresh s).can.node =
    s.can.node := by
  unfold streamsRefresh
  (repeat' split) <;> simp +contextual

@[simp] theorem closeSession_canNode (d : Fin 2) (why : Nat) (s : State) : (closeSession d why s).can.nmt = s.can.nmt ∧
    (closeSession d why s).can.node = s.can.node := by
  unfold closeSession
  (repeat' split) <;> simp

@[simp] theorem closeSessions_canNode (s : State) : (closeSessions s).can.nmt = s.can.nmt ∧ (closeSessions s).can.node =
    s.can.node := by
  unfold closeSessions
  (repeat' split) <;> simp +contextual

@[simp] theorem restartVideo_canNode (s : State) : (restartVideo s).can.nmt = s.can.nmt ∧ (restartVideo s).can.node =
    s.can.node := by
  unfold restartVideo
  (repeat' split) <;> simp

@[simp] theorem closeLock_canNode (by_ : Option Session) (s : State) : (closeLock by_ s).can.nmt = s.can.nmt ∧ (closeLock by_
    s).can.node = s.can.node := by
  unfold closeLock
  (repeat' split) <;> simp

@[simp] theorem closeExpert_canNode (s : State) : (closeExpert s).can.nmt = s.can.nmt ∧ (closeExpert s).can.node = s.can.node
    := by
  unfold closeExpert
  (repeat' split) <;> simp

@[simp] theorem closeWindow_canNode (w : Fin 7) (abandoned : Bool) (s : State) : (closeWindow w abandoned s).can.nmt =
    s.can.nmt ∧ (closeWindow w abandoned s).can.node = s.can.node := by
  unfold closeWindow
  dsimp only
  (repeat' split) <;> simp

@[simp] theorem closeWindows_canNode (p : Win → Bool) (abandoned : Bool) (s : State) : (closeWindows p abandoned s).can.nmt =
    s.can.nmt ∧ (closeWindows p abandoned s).can.node = s.can.node := by
  unfold closeWindows
  refine ⟨forAll_canNode_nmt _ _ fun t w => ?_, forAll_canNode_node _ _ fun t w => ?_⟩
  · split <;> simp
  · split <;> simp

@[simp] theorem hostChanged_canNode (before s : State) : (hostChanged before s).can.nmt = s.can.nmt ∧ (hostChanged before
    s).can.node = s.can.node := by
  unfold hostChanged
  dsimp only
  (repeat' split) <;> simp

@[simp] theorem resetFunction_canNode (fn : Fin 16) (s : State) : (resetFunction fn s).can.nmt = s.can.nmt ∧ (resetFunction fn
    s).can.node = s.can.node := by
  unfold resetFunction
  dsimp only
  (repeat' split) <;> simp

@[simp] theorem resetEvery_canNode (s : State) : (resetEvery s).can.nmt = s.can.nmt ∧ (resetEvery s).can.node = s.can.node :=
    by
  unfold resetEvery
  (repeat' split) <;> simp +contextual

@[simp] theorem linkLost_canNode (s : State) : (linkLost s).can.nmt = s.can.nmt ∧ (linkLost s).can.node = s.can.node := by
  unfold linkLost
  dsimp only
  (repeat' split) <;> simp

@[simp] theorem hostStops_canNode (s : State) : (hostStops s).can.nmt = s.can.nmt ∧ (hostStops s).can.node = s.can.node := by
  unfold hostStops
  dsimp only
  (repeat' split) <;> simp

@[simp] theorem islandsRefresh_canNode (s : State) : (islandsRefresh s).can.nmt = s.can.nmt ∧ (islandsRefresh s).can.node =
    s.can.node := by
  unfold islandsRefresh
  dsimp only
  (repeat' split) <;> simp +contextual

@[simp] theorem enterState_canNode (d : DevState) (why : Cause) (s : State) : (enterState d why s).can.nmt = s.can.nmt ∧
    (enterState d why s).can.node = s.can.node := by
  unfold enterState
  dsimp only
  (repeat' split) <;> simp

@[simp] theorem foldl_armed_en {α : Type} (f : State → α → State) (l : List α) (s : State)
    (h : ∀ t a, (f t a).hold.en = t.hold.en) : (l.foldl f s).hold.en = s.hold.en := foldl_keeps (fun t => t.hold.en) f h l s

@[simp] theorem forAll_armed_en {n : Nat} (f : State → Fin n → State) (s : State) (h : ∀ t a, (f t a).hold.en = t.hold.en) :
    (forAll n f s).hold.en = s.hold.en := foldl_keeps (fun t => t.hold.en) f h _ s

@[simp] theorem foldl_armed_packClosed {α : Type} (f : State → α → State) (l : List α) (s : State)
    (h : ∀ t a, (f t a).hold.packClosed = t.hold.packClosed) : (l.foldl f s).hold.packClosed = s.hold.packClosed := foldl_keeps (fun t => t.hold.packClosed) f h l s

@[simp] theorem forAll_armed_packClosed {n : Nat} (f : State → Fin n → State) (s : State) (h : ∀ t a, (f t a).hold.packClosed = t.hold.packClosed) :
    (forAll n f s).hold.packClosed = s.hold.packClosed := foldl_keeps (fun t => t.hold.packClosed) f h _ s

@[simp] theorem foldl_armed_bankClosed {α : Type} (f : State → α → State) (l : List α) (s : State)
    (h : ∀ t a, (f t a).hold.bankClosed = t.hold.bankClosed) : (l.foldl f s).hold.bankClosed = s.hold.bankClosed := foldl_keeps (fun t => t.hold.bankClosed) f h l s

@[simp] theorem forAll_armed_bankClosed {n : Nat} (f : State → Fin n → State) (s : State) (h : ∀ t a, (f t a).hold.bankClosed = t.hold.bankClosed) :
    (forAll n f s).hold.bankClosed = s.hold.bankClosed := foldl_keeps (fun t => t.hold.bankClosed) f h _ s

@[simp] theorem gateMissingRefresh_armed (s : State) : (gateMissingRefresh s).hold.en = s.hold.en ∧ (gateMissingRefresh
    s).hold.packClosed = s.hold.packClosed ∧ (gateMissingRefresh s).hold.bankClosed = s.hold.bankClosed := by
  unfold gateMissingRefresh
  (repeat' split) <;> simp

@[simp] theorem modesRefresh_armed (s : State) : (modesRefresh s).hold.en = s.hold.en ∧ (modesRefresh s).hold.packClosed =
    s.hold.packClosed ∧ (modesRefresh s).hold.bankClosed = s.hold.bankClosed := by
  unfold modesRefresh
  (repeat' split) <;> simp

@[simp] theorem hostChanged_armed (before s : State) : (hostChanged before s).hold.en = s.hold.en ∧ (hostChanged before
    s).hold.packClosed = s.hold.packClosed ∧ (hostChanged before s).hold.bankClosed = s.hold.bankClosed := by
  unfold hostChanged
  dsimp only
  (repeat' split) <;> simp

@[simp] theorem linkLost_armed (s : State) : (linkLost s).hold.en = s.hold.en ∧ (linkLost s).hold.packClosed =
    s.hold.packClosed ∧ (linkLost s).hold.bankClosed = s.hold.bankClosed := by
  unfold linkLost
  dsimp only
  (repeat' split) <;> simp

@[simp] theorem hostStops_armed (s : State) : (hostStops s).hold.en = s.hold.en ∧ (hostStops s).hold.packClosed =
    s.hold.packClosed ∧ (hostStops s).hold.bankClosed = s.hold.bankClosed := by
  unfold hostStops
  dsimp only
  (repeat' split) <;> simp

@[simp] theorem islandsRefresh_armed (s : State) : (islandsRefresh s).hold.en = s.hold.en ∧ (islandsRefresh s).hold.packClosed
    = s.hold.packClosed ∧ (islandsRefresh s).hold.bankClosed = s.hold.bankClosed := by
  unfold islandsRefresh
  dsimp only
  (repeat' split) <;> simp +contextual

@[simp] theorem foldl_usable {α : Type} (f : State → α → State) (l : List α) (s : State)
    (h : ∀ t a, (f t a).cache.usable = t.cache.usable) : (l.foldl f s).cache.usable = s.cache.usable := foldl_keeps (fun t => t.cache.usable) f h l s

@[simp] theorem forAll_usable {n : Nat} (f : State → Fin n → State) (s : State) (h : ∀ t a, (f t a).cache.usable = t.cache.usable) :
    (forAll n f s).cache.usable = s.cache.usable := foldl_keeps (fun t => t.cache.usable) f h _ s

@[simp] theorem State.modTen_usable (s : State) (n : Fin 16) (f : Tenant → Tenant) : (State.modTen s n f).cache.usable =
    s.cache.usable := by
  unfold State.modTen
  (repeat' split) <;> simp

theorem evictClean_usable {n : Fin 16} {keep : List Nat} {k : Nat} {s t : State} (taken : evictClean n keep k s = some t) :
    t.cache.usable = s.cache.usable := by
  induction k generalizing s with
  | zero =>
    obtain rfl : s = t := Option.some.inj taken
    rfl
  | succ k ih =>
    unfold evictClean at taken
    split at taken
    · cases taken
    · have := ih taken
      exact this

@[simp] theorem noteThrottle_usable (n : Fin 16) (new : Nat) (s : State) : (noteThrottle n new s).cache.usable =
    s.cache.usable := by
  unfold noteThrottle
  dsimp only
  (repeat' split) <;> simp

@[simp] theorem writeBlock_usable (n : Fin 16) (vol : BitVec 32) (seq : Nat) (dirty recording : Bool) (p : Nat × Block) (s : State) :
    (writeBlock n vol seq dirty recording p s).cache.usable = s.cache.usable := by
  cases taken : withHandle s.cache n vol with
  | none => rw [writeBlock_of_noHandle taken]
  | some hx =>
    rw [writeBlock_cache taken]
    split
    · rfl
    · exact withHandle_usable taken

@[simp] theorem applyBlocks_usable (n : Fin 16) (vol : BitVec 32) (lba : Nat) (dirty recording : Bool) (bs : List Block) (s : State) :
    (applyBlocks n vol lba dirty recording bs s).cache.usable = s.cache.usable := by
  unfold applyBlocks
  exact (foldl_usable _ _ _ fun t p => writeBlock_usable ..).trans (ensureKey_usable ..)

@[simp] theorem applyPut_usable (n : Fin 16) (vol : BitVec 32) (lba : Nat) (dirty recording : Bool) (bs : List Block) (s :
    State) : (applyPut n vol lba dirty recording bs s).cache.usable = s.cache.usable := by
  unfold applyPut
  dsimp only
  (repeat' split) <;> simp

@[simp] theorem resetQueues_usable (fn : Fin 16) (s : State) : (resetQueues fn s).cache.usable = s.cache.usable := by
  unfold resetQueues
  dsimp only
  (repeat' split) <;> simp +contextual

@[simp] theorem freezeSlots_usable (n : Fin 16) (s : State) : (freezeSlots n s).cache.usable = s.cache.usable := by
  unfold freezeSlots
  (repeat' split) <;> simp

@[simp] theorem thawSlots_usable (n : Fin 16) (s : State) : (thawSlots n s).cache.usable = s.cache.usable := by
  unfold thawSlots
  (repeat' split) <;> simp

@[simp] theorem segPut_usable (n : Fin 16) (lba : Nat) (bs : List Block) (s : State) : (segPut n lba bs s).2.cache.usable =
    s.cache.usable := by
  unfold segPut
  dsimp only
  split
  · simp
  · split
    · simp
    · split
      · simp
      · split
        · simp
        · rename_i taken
          have slots := evictClean_usable taken
          simpa using slots

@[simp] theorem putHeader_usable (n : Fin 16) (g : Segment) (flags : Nat) (s : State) : (putHeader n g flags s).2.cache.usable
    = s.cache.usable := by
  unfold putHeader
  dsimp only
  (repeat' split) <;> simp

@[simp] theorem flushSegment_usable (n : Fin 16) (s : State) : (flushSegment n s).2.cache.usable = s.cache.usable := by
  unfold flushSegment
  dsimp only
  (repeat' split) <;> simp

@[simp] theorem sealSegment_usable (n : Fin 16) (why : Cause) (flags : Nat) (s : State) : (sealSegment n why flags
    s).cache.usable = s.cache.usable := by
  unfold sealSegment
  dsimp only
  (repeat' split) <;> simp

@[simp] theorem pauseRecording_usable (n : Fin 16) (why : Cause) (s : State) : (pauseRecording n why s).cache.usable =
    s.cache.usable := by
  unfold pauseRecording
  dsimp only
  (repeat' split) <;> simp

@[simp] theorem closeSegment_usable (n : Fin 16) (why : Cause) (flags : Nat) (s : State) : (closeSegment n why flags
    s).cache.usable = s.cache.usable := by
  unfold closeSegment
  dsimp only
  (repeat' split) <;> simp

@[simp] theorem stopEncode_usable (n : Fin 16) (why close : Cause) (flags : Nat) (dest : EncRun) (s : State) : (stopEncode n
    why close flags dest s).cache.usable = s.cache.usable := by
  unfold stopEncode
  dsimp only
  (repeat' split) <;> simp

@[simp] theorem stopStream_usable (n : Fin 16) (why close : Cause) (flags : Nat) (dest : StreamRun) (s : State) : (stopStream
    n why close flags dest s).cache.usable = s.cache.usable := by
  unfold stopStream
  dsimp only
  (repeat' split) <;> simp

@[simp] theorem hostChanged_usable (before s : State) : (hostChanged before s).cache.usable = s.cache.usable := by
  unfold hostChanged
  dsimp only
  (repeat' split) <;> simp

@[simp] theorem resetFunction_usable (fn : Fin 16) (s : State) : (resetFunction fn s).cache.usable = s.cache.usable := by
  unfold resetFunction
  dsimp only
  (repeat' split) <;> simp

@[simp] theorem resetEvery_usable (s : State) : (resetEvery s).cache.usable = s.cache.usable := by
  unfold resetEvery
  (repeat' split) <;> simp +contextual

@[simp] theorem linkLost_usable (s : State) : (linkLost s).cache.usable = s.cache.usable := by
  unfold linkLost
  dsimp only
  (repeat' split) <;> simp

@[simp] theorem hostStops_usable (s : State) : (hostStops s).cache.usable = s.cache.usable := by
  unfold hostStops
  dsimp only
  (repeat' split) <;> simp

@[simp] theorem islandsRefresh_usable (s : State) : (islandsRefresh s).cache.usable = s.cache.usable := by
  unfold islandsRefresh
  dsimp only
  (repeat' split) <;> simp +contextual

@[simp] theorem foldl_portReady {α : Type} (f : State → α → State) (l : List α) (s : State)
    (h : ∀ t a, (f t a).port.ready = t.port.ready) : (l.foldl f s).port.ready = s.port.ready := foldl_keeps (fun t => t.port.ready) f h l s

@[simp] theorem forAll_portReady {n : Nat} (f : State → Fin n → State) (s : State) (h : ∀ t a, (f t a).port.ready = t.port.ready) :
    (forAll n f s).port.ready = s.port.ready := foldl_keeps (fun t => t.port.ready) f h _ s

@[simp] theorem State.modFn_portReady (s : State) (fn : Fin 16) (f : Func → Func) : (State.modFn s fn f).port.ready =
    s.port.ready := by
  unfold State.modFn
  (repeat' split) <;> simp

@[simp] theorem State.modPair_portReady (s : State) (fn : Fin 16) (qp : Fin 4) (f : Pair → Pair) : (State.modPair s fn qp
    f).port.ready = s.port.ready := by
  unfold State.modPair
  (repeat' split) <;> simp

@[simp] theorem stopPair_portReady (fn : Fin 16) (qp : Fin 4) (code : Byte) (s : State) : (stopPair fn qp code s).port.ready =
    s.port.ready := by
  unfold stopPair
  (repeat' split) <;> simp

@[simp] theorem takeTail_portReady (fn : Fin 16) (qp : Fin 4) (v : BitVec 32) (s : State) : (takeTail fn qp v s).port.ready =
    s.port.ready := by
  unfold takeTail
  dsimp only
  (repeat' split) <;> simp

@[simp] theorem takeCqHead_portReady (fn : Fin 16) (qp : Fin 4) (v : BitVec 32) (s : State) : (takeCqHead fn qp v
    s).port.ready = s.port.ready := by
  unfold takeCqHead
  dsimp only
  (repeat' split) <;> simp

@[simp] theorem takeDoorbell_portReady (fn : Fin 16) (qp : Fin 4) (head : Bool) (v : BitVec 32) (s : State) : (takeDoorbell fn
    qp head v s).port.ready = s.port.ready := by
  unfold takeDoorbell
  (repeat' split) <;> simp

@[simp] theorem replayTails_portReady (fn : Fin 16) (s : State) : (replayTails fn s).port.ready = s.port.ready := by
  unfold replayTails
  (repeat' split) <;> simp +contextual

@[simp] theorem resetQueues_portReady (fn : Fin 16) (s : State) : (resetQueues fn s).port.ready = s.port.ready := by
  unfold resetQueues
  dsimp only
  (repeat' split) <;> simp +contextual

@[simp] theorem resetFunction_portReady (fn : Fin 16) (s : State) : (resetFunction fn s).port.ready = s.port.ready := by
  unfold resetFunction
  dsimp only
  (repeat' split) <;> simp

@[simp] theorem resetEvery_portReady (s : State) : (resetEvery s).port.ready = s.port.ready := by
  unfold resetEvery
  (repeat' split) <;> simp +contextual

@[simp] theorem disableVfs_portReady (s : State) : (disableVfs s).port.ready = s.port.ready := by
  unfold disableVfs
  (repeat' split) <;> simp

@[simp] theorem linkLost_portReady (s : State) : (linkLost s).port.ready = s.port.ready := by
  unfold linkLost
  dsimp only
  (repeat' split) <;> simp

@[simp] theorem hostStops_portReady (s : State) : (hostStops s).port.ready = s.port.ready := by
  unfold hostStops
  dsimp only
  (repeat' split) <;> simp

@[simp] theorem islandsRefresh_portReady (s : State) : (islandsRefresh s).port.ready = s.port.ready := by
  unfold islandsRefresh
  dsimp only
  (repeat' split) <;> simp +contextual

@[simp] theorem haltIslands_portReady (s : State) : (haltIslands s).port.ready = s.port.ready := by
  unfold haltIslands
  (repeat' split) <;> simp

@[simp] theorem enterState_portReady (d : DevState) (why : Cause) (s : State) : (enterState d why s).port.ready = s.port.ready
    := by
  unfold enterState
  dsimp only
  (repeat' split) <;> simp

@[simp] theorem foldl_undelivered {α : Type} (f : State → α → State) (l : List α) (s : State) (h : s.isl.undelivered = [])
    (each : ∀ t a, t.isl.undelivered = [] → (f t a).isl.undelivered = []) : (l.foldl f s).isl.undelivered = [] :=
  List.foldlRecOn l f h fun t ht a _ => each t a ht

@[simp] theorem forAll_undelivered {n : Nat} (f : State → Fin n → State) (s : State) (h : s.isl.undelivered = [])
    (each : ∀ t a, t.isl.undelivered = [] → (f t a).isl.undelivered = []) : (forAll n f s).isl.undelivered = [] :=
  foldl_undelivered f _ s h each

@[simp] theorem State.setIsland_undelivered (s : State) (i : Island) (r : IslandRun) (h : s.isl.undelivered = []) :
    (State.setIsland s i r).isl.undelivered = [] := by
  unfold State.setIsland
  (repeat' split) <;> simp (maxDischargeDepth := 20) [h]

@[simp] theorem State.startIsland_undelivered (s : State) (i : Island) (h : s.isl.undelivered = []) :
    (s.startIsland i).isl.undelivered = [] := by
  show (s.setIsland i .running).isl.undelivered.filter _ = []
  rw [State.setIsland_undelivered s i .running h]
  rfl

@[simp] theorem State.stopIsland_undelivered (s : State) (i : Island) (h : s.isl.undelivered = []) : (State.stopIsland s
    i).isl.undelivered = [] := by
  unfold State.stopIsland
  (repeat' split) <;> simp (maxDischargeDepth := 20) [h]

@[simp] theorem islandRefresh_undelivered (i : Island) (s : State) (h : s.isl.undelivered = []) : (islandRefresh i
    s).isl.undelivered = [] := by
  unfold islandRefresh
  (repeat' split) <;> simp (maxDischargeDepth := 20) [h]

@[simp] theorem islandsRefresh_undelivered (s : State) (h : s.isl.undelivered = []) : (islandsRefresh s).isl.undelivered = []
    := by
  unfold islandsRefresh
  dsimp only
  (repeat' split) <;> simp +contextual (maxDischargeDepth := 20) [h]

@[simp] theorem enterState_undelivered (d : DevState) (why : Cause) (s : State) (h : s.isl.undelivered = []) : (enterState d
    why s).isl.undelivered = [] := by
  unfold enterState
  dsimp only
  (repeat' split) <;> simp (maxDischargeDepth := 20) [h]

end Sys2Proof.Machine
end

section
/-! The steps of a BOOT (O29). -/

namespace Sys2Proof.Machine

/-! ### A BOOT step that ends -/

section
variable {s : State} {r : BootReport} {aOk bOk : Bool} {aVersion bVersion : BitVec 32} {aReads bReads : Nat}

theorem exec_bootStepComplete (runs : boots s = true) (free : bootYields s = false) : exec (.bootStepComplete r) s = .next (stepEnds r s) := by
  show execBootStepComplete r s = _
  unfold execBootStepComplete
  rw [if_pos ⟨runs, free⟩]

/-- Only the steps that end a BOOT give way to a condition of higher rank (02 R65). -/
theorem bootYields_of_step (last : s.life.bootStep ≠ 11) (configuration : s.life.bootStep ≠ 7) : bootYields s = false := by
  unfold bootYields
  simp [last, configuration]

theorem exec_earlyStep (runs : boots s = true) (last : s.life.bootStep ≠ 11) (configuration : s.life.bootStep ≠ 7) :
    exec (.bootStepComplete r) s = .next (stepEnds r s) :=
  exec_bootStepComplete runs (bootYields_of_step last configuration)

@[simp] theorem nextStep_life (n : Nat) (s : State) : (nextStep n s).life = { s.life with bootStep := n } := by
  unfold nextStep
  simp

theorem startFirmware_noTrial (none : s.life.trialState = 0) : startFirmware s =
    { s with life := { s.life with bootStep := 6, fwTrial := false, fwFallback := false, otherSlot := false, otherTrial := false } } := by
  unfold startFirmware
  dsimp only
  rw [if_pos none]

/-! ### The firmware is loaded -/

/-- The firmware of a slot runs, with what step 6 reported of it (02 R81). -/
def firmwareRuns (ofB : Bool) (aVersion bVersion : BitVec 32) (aReads bReads : Nat) (s : State) : State :=
  nextStep 7 { s with life := { s.life with
    runningB := ofB, fwVersion := if ofB then bVersion else aVersion, fwReads := max 1 (if ofB then bReads else aReads) } }

/-- The firmware of a slot verifies and its write has not broken off (02 R81). -/
def verifies (ofB aOk bOk : Bool) (s : State) : Bool := if ofB then bOk && s.nor.slotB.whole else aOk && s.nor.slotA.whole

theorem verifies_other : verifies (!chosenB s) aOk bOk s = if chosenB s then aOk && s.nor.slotA.whole else bOk && s.nor.slotB.whole := by
  unfold verifies
  cases chosenB s <;> rfl

theorem firmwareLoaded_eq : firmwareLoaded aOk bOk aVersion bVersion aReads bReads s =
    if s.life.otherSlot then
      (if verifies (!chosenB s) aOk bOk s then firmwareRuns (!chosenB s) aVersion bVersion aReads bReads s else noFirmware s)
    else if verifies (chosenB s) aOk bOk s then firmwareRuns (chosenB s) aVersion bVersion aReads bReads s
    else if verifies (!chosenB s) aOk bOk s then firmwareRuns (!chosenB s) aVersion bVersion aReads bReads (fallBack s)
    else noFirmware s := rfl

theorem firmwareRuns_life (ofB : Bool) : (firmwareRuns ofB aVersion bVersion aReads bReads s).life = { s.life with
    bootStep := 7, runningB := ofB, fwVersion := if ofB then bVersion else aVersion, fwReads := max 1 (if ofB then bReads else aReads) } := by
  unfold firmwareRuns
  rw [nextStep_life]

theorem firmwareRuns_frame (ofB : Bool) : (firmwareRuns ofB aVersion bVersion aReads bReads s).dict = s.dict ∧
    (firmwareRuns ofB aVersion bVersion aReads bReads s).rails = s.rails ∧ (firmwareRuns ofB aVersion bVersion aReads bReads s).keep = s.keep := by
  unfold firmwareRuns
  simp

theorem fallBack_life : (fallBack s).life.fwFallback = true ∧ (fallBack s).life.fwTrial = false := by
  have cancelled (t : State) : (cancelTrial t).life.fwTrial = false := by
    unfold cancelTrial
    split
    · simp
    · rename_i off
      simpa using off
  exact ⟨rfl, cancelled _⟩

/-- With neither slot verified a cold BOOT ends in HALT with cause 1 (02 R86, R88). -/
theorem firmwareLoaded_none (a : (aOk && s.nor.slotA.whole) = false) (b : (bOk && s.nor.slotB.whole) = false) :
    firmwareLoaded aOk bOk aVersion bVersion aReads bReads s = noFirmware s := by
  have neither (ofB : Bool) : verifies ofB aOk bOk s = false := by
    unfold verifies
    rw [a, b, ite_self]
  rw [firmwareLoaded_eq]
  simp [neither]

theorem noFirmware_cold (cold : coldRuns s = true) : noFirmware s = enterHalt 1 true false (raise (cancelTrial s) 69 .supervisor []) := by
  unfold noFirmware
  dsimp only
  rw [if_pos cold]

end

/-! ### The stored configuration in force -/

section
variable {s t : State} {ok : Bool}

@[simp] theorem configureCold_life (s : State) : (configureCold s).life = { s.life with socKnown := true } := by
  unfold configureCold startEstimators
  simp

theorem groupRefresh_canNode (s : State) : (groupRefresh s).can.nmt = s.can.nmt ∧ (groupRefresh s).can.node = s.can.node := by
  unfold groupRefresh setGroup
  dsimp only
  split <;> simp

@[simp] theorem configureCold_canNode (s : State) : (configureCold s).can.nmt = s.can.nmt ∧ (configureCold s).can.node = s.can.node := by
  unfold configureCold
  simp [groupRefresh_canNode]

/-- The state in which the stored configuration is in force and CAN FD starts (02 step 7). -/
def configRead (ok : Bool) (s : State) : State :=
  let s0 := dropUnconfigured .bank (dropUnconfigured .pack (if ok then applyStored (fun _ => true) s else defaultsOnly s))
  let s1 := { s0 with
    nor := settleVoid s0.nor, life.configuredAt := s.time.now, cache.videoTenant := Fin.ofNat 16 (s0.cfg 0x2400 5) }
  let s2 := raiseIf (!ok || (coldRuns s && (storedCopy s.nor).isNone)) s1 79 .control []
  canStart (storedValues s.nor) (policyRefresh (modesRefresh (followConfig s (if coldRuns s then configureCold s2 else s2))))

theorem configured_eq : configured ok s =
    if coldRuns s = false then bootDone (configRead ok s)
    else if isSticky (configRead ok s) then
      enterHalt (configRead ok s).life.haltCause true true { configRead ok s with life.bootStep := 8 }
    else startMemoryRails (configRead ok s) := by
  unfold configured configRead
  dsimp only

/-- What the stored configuration leaves as it was, and what it has set. -/
structure Configured (s t : State) : Prop where
  life : t.life = { s.life with configuredAt := t.life.configuredAt, socKnown := t.life.socKnown }
  isl : t.isl = { s.isl with undelivered := [] }
  values : t.dict = (applyStored (fun _ => true) s).dict
  keep : t.keep = s.keep
  flash : t.flash = s.flash
  outage : t.outage = s.outage
  nmt : t.can.nmt = .preOperational
  node : t.can.node = valueIn (storedValues s.nor) 0x2003 1

theorem configRead_configured (s : State) : Configured s (configRead true s) := by
  unfold configRead
  dsimp only
  constructor
  all_goals cases coldRuns s <;> simp [followConfig_frame, configureCold_frame, applyStored, applySaved]
  all_goals rfl

end

/-! ### The end of a BOOT -/

section
variable {s t u : State} {d : DevState}

@[simp] theorem replayTails_grows {held : Bool} {base : Events} (fn : Fin 16) (s : State) (h : Grows held base s.ev) :
    Grows held base (replayTails fn s).ev := by
  have taken (t : State) (qp : Fin 4) (v : Bool × BitVec 32) (ht : Grows held base t.ev) :
      Grows held base (takeDoorbell fn qp v.1 v.2 t).ev := by
    unfold takeDoorbell takeCqHead takeTail
    dsimp only
    (repeat' split) <;> simp [ht]
  unfold replayTails
  split
  · exact h
  · exact forAll_grows _ _ h fun t qp ht => foldl_grows _ _ _ ht fun u v hu => taken u qp v hu

theorem islandRefresh_noFault {i : Island} (j : Island) (sound : s.island i ≠ .fault) : (islandRefresh j s).island i ≠ .fault := by
  have set (r : IslandRun) (fits : r ≠ .fault) : (s.setIsland j r).island i ≠ .fault := by
    rw [island_setIsland]
    split
    · exact fits
    · exact sound
  unfold islandRefresh
  split
  · split
    · exact sound
    · exact sound
    · exact set .running (by decide)
  · split
    · exact set .starting (by decide)
    · exact set .stopped (by decide)

theorem island_of_isl (same : t.isl = s.isl) (i : Island) : t.island i = s.island i := by
  unfold State.island
  rw [same]

/-- No island fails when the islands follow a state. -/
theorem islandsRefresh_noFault {i : Island} (sound : s.island i ≠ .fault) : (islandsRefresh s).island i ≠ .fault := by
  have followed : (allIslands.foldl (fun u j => islandRefresh j u) s).island i ≠ .fault :=
    List.foldlRecOn (motive := fun u : State => u.island i ≠ .fault) _ _ sound fun _ h j _ => islandRefresh_noFault j h
  have stopped (t : State) : (hostStops t).island i = t.island i := island_of_isl (by simp) i
  have released (t : State) : (releaseHeld t).island i = t.island i := island_of_isl (by simp) i
  unfold islandsRefresh
  dsimp only
  split <;> split <;> simpa only [stopped, released] using followed

theorem enterState_noFault {i : Island} (why : Cause) (sound : s.island i ≠ .fault) : (enterState d why s).island i ≠ .fault := by
  have follows : (islandsRefresh (entering d s)).island i ≠ .fault := islandsRefresh_noFault sound
  have entered_isl : (entered d why s).isl = (islandsRefresh (entering d s)).isl := by
    unfold entered
    simp
  have same : (enterState d why s).isl = (islandsRefresh (entering d s)).isl := by
    rw [enterState_eq]
    split
    · simpa using entered_isl
    · simpa using entered_isl
  rw [island_of_isl same]
  exact follows

/-- The islands whose fault the end of a BOOT looks for (01 R31). -/
def bootIslands : List Island := [.supervisor, .host, .memory, .flash]

theorem restartFaulted_eq (sound : ∀ i ∈ bootIslands, s.island i ≠ .fault) : restartFaulted s = s := by
  have none : bootIslands.find? (fun i => s.island i == .fault) = none :=
    List.find?_eq_none.2 fun i mem => by simpa using sound i mem
  unfold bootIslands at none
  unfold restartFaulted
  rw [none]

theorem freezeHolders_keeps (s : State) : (freezeHolders s).can.nmt = s.can.nmt ∧ (freezeHolders s).can.node = s.can.node ∧
    (freezeHolders s).ev.started = s.ev.started := by
  have frozen (t : State) (n : Fin 16) :
      (if 0 < countSlots t.cache (fun q => q.tenant == n) then freezeSlots n t else t) = { t with cache :=
        (if 0 < countSlots t.cache (fun q => q.tenant == n) then freezeSlots n t else t).cache } := by
    split <;> rfl
  unfold freezeHolders
  refine ⟨?_, ?_, ?_⟩
  · exact (thawSlots_canNode _ _).1.trans (forAll_canNode_nmt _ _ fun t n => by rw [frozen])
  · exact (thawSlots_canNode _ _).2.trans (forAll_canNode_node _ _ fun t n => by rw [frozen])
  · have thawed (t : State) (n : Fin 16) : (thawSlots n t).ev.started = t.ev.started := by
      simp
    exact (thawed _ _).trans (forAll_log _ _ fun t n => by rw [frozen])

/-- The state at the end of a BOOT's last step, and what follows of it (02 R77, R107, R109; 05 R272; 09 R507). -/
def bootFollowed (s : State) : State :=
  let s1 := if coldRuns s then freezeHolders (stretchFree s) else { s with life.selfRefresh := false }
  { s1 with
    life := { s1.life with bootStep := 12, bootDuration := s.time.now - s.life.bootAt, haltRepeat := 0 }
    rails.pfwLow := false
    flash.restoring := if coldRuns s then bootTarget s == .restore else s.flash.restoring
    flash.restoreTotal := if coldRuns s then unrestoredCount s.cache else s.flash.restoreTotal }

/-- The state in which a BOOT leaves its last step, before the state that follows is entered. -/
def bootFinished (s : State) : State := { raise (bootFollowed s) 65 .control [] with life.boot := .none }

/-- The doorbells recorded while a BOOT ran are taken, and what was to be recorded is (02 R77; 05 R204). -/
def bootResumes (s : State) : State := forAll 16 (fun t n => replayTails n t) (restartVideo (keepWriteEnd 0 s))

theorem bootDone_eq (outage : s.life.restarting = false) :
    bootDone s = restartFaulted (bootResumes (enterState (bootTarget s) .completion (bootFinished s))) := by
  unfold bootDone bootResumes bootFinished bootFollowed
  rw [if_neg (by simp [outage])]

theorem bootFollowed_frame : (bootFollowed s).isl = s.isl ∧ (bootFollowed s).dict = s.dict ∧ (bootFollowed s).port = s.port ∧
    (bootFollowed s).rails.pfwLow = false ∧ (bootFollowed s).keep = s.keep ∧ (bootFollowed s).can.nmt = s.can.nmt ∧
    (bootFollowed s).can.node = s.can.node ∧ (bootFollowed s).ev.started = s.ev.started := by
  unfold bootFollowed
  dsimp only
  split <;> simp [freezeHolders_frame, stretchFree_frame, freezeHolders_keeps]

theorem bootFollowed_life : (bootFollowed s).life = { s.life with
    bootStep := 12, bootDuration := s.time.now - s.life.bootAt, haltRepeat := 0
    selfRefresh := if coldRuns s then s.life.selfRefresh else false } := by
  unfold bootFollowed
  dsimp only
  split <;> simp [freezeHolders_frame, stretchFree_frame]

theorem bootFinished_frame : (bootFinished s).isl = s.isl ∧ (bootFinished s).dict = s.dict ∧ (bootFinished s).port = s.port ∧
    (bootFinished s).rails.pfwLow = false ∧ (bootFinished s).keep = s.keep ∧ (bootFinished s).can.nmt = s.can.nmt ∧
    (bootFinished s).can.node = s.can.node ∧ (bootFinished s).life = { (bootFollowed s).life with boot := .none } := by
  obtain ⟨isl, dict, port, low, keep, nmt, node, _⟩ := bootFollowed_frame (s := s)
  unfold bootFinished
  simp [isl, dict, port, low, keep, nmt, node]

theorem bootFinished_logged : Logged 65 s (bootFinished s) := by
  obtain ⟨isl, dict, _, _, _, _, _, started⟩ := bootFollowed_frame (s := s)
  have told : Logged 65 s (raise (bootFollowed s) 65 .control []) := (raise_told (bootFollowed s) 65 .control []).loggedFrom isl dict started
  exact told

/-- What the end of a BOOT leaves. -/
structure BootEnded (s t : State) : Prop where
  dev : t.life.dev = bootTarget s
  boot : t.life.boot = .none
  step : t.life.bootStep = 12
  repeated : t.life.haltRepeat = 0
  refresh : coldRuns s = false → t.life.selfRefresh = false
  pfw : t.rails.pfwLow = false
  lifeEnd : t.keep.lifeEnd = 0
  dict : t.dict = s.dict
  ready : t.port.ready = s.port.ready
  nmt : t.can.nmt = s.can.nmt
  told : Logged 65 s t

theorem keepWriteEnd_lifeEnd (n : Nat) (s : State) : (keepWriteEnd n s).keep.lifeEnd = n := by
  unfold keepWriteEnd keepWrite keepWriteSnap keepPut
  dsimp only
  split <;> rfl

@[simp] theorem keepWriteEnd_stays (n : Nat) (s : State) (base : Events) (h : Grows false base s.ev) : Grows false base (keepWriteEnd n s).ev :=
  ⟨h.pending, fun no => absurd no (by decide), fun no => absurd no (by decide)⟩

theorem bootResumes_frame : (bootResumes s).life = s.life ∧ (bootResumes s).isl = s.isl ∧ (bootResumes s).rails = s.rails ∧
    (bootResumes s).keep.lifeEnd = 0 ∧ (bootResumes s).dict = s.dict ∧ (bootResumes s).port.ready = s.port.ready ∧
    (bootResumes s).can.nmt = s.can.nmt := by
  unfold bootResumes
  simp [keepWriteEnd_lifeEnd]

theorem bootResumes_grows {base : Events} (h : Grows false base s.ev) : Grows false base (bootResumes s).ev := by
  unfold bootResumes
  exact forAll_grows _ _ (restartVideo_grows _ (keepWriteEnd_stays 0 s base h)) fun t n ht => replayTails_grows n t ht

theorem bootDone_ended (outage : s.life.restarting = false) (sound : ∀ i ∈ bootIslands, s.island i ≠ .fault) : BootEnded s (bootDone s) := by
  obtain ⟨isl, dict, port, low, keep, nmt, node, life⟩ := bootFinished_frame (s := s)
  obtain ⟨life', isl', rails', lifeEnd, dict', ready, nmt'⟩ := bootResumes_frame (s := enterState (bootTarget s) .completion (bootFinished s))
  have entered := enterState_frame (bootTarget s) .completion (bootFinished s)
  have still : ∀ i ∈ bootIslands, (bootResumes (enterState (bootTarget s) .completion (bootFinished s))).island i ≠ .fault := fun i mem => by
    rw [island_of_isl isl']
    refine enterState_noFault _ ?_
    rw [island_of_isl isl]
    exact sound i mem
  rw [bootDone_eq outage, restartFaulted_eq still]
  rw [enterState_life, life, bootFollowed_life] at life'
  constructor
  · rw [life']
  · rw [life']
  · rw [life']
  · rw [life']
  · intro warm
    rw [life', warm]
    rfl
  · rw [rails']
    simp [low]
  · exact lifeEnd
  · rw [dict']
    simp [dict]
  · rw [ready]
    simp [port]
  · rw [nmt']
    simp [nmt]
  · exact bootFinished_logged.grows (bootResumes_grows (enterState_grows _ _ _ (.refl _)))

end

/-! ### The dies that step 10 finds -/

section
variable {s t u : State} {d : Fin 16} {interface rate : Nat}

theorem flashAll_sends (os : List FlashOp) : Sends s (flashAll d os s) :=
  List.foldlRecOn (motive := Sends s) os _ (.refl _) fun u h o _ => h.trans (flashDo_sends d u o)

theorem Sends.flash_eq (h : Sends s t) : t.flash = s.flash := by
  obtain ⟨l, rfl⟩ := h
  rfl

theorem dieMissing_only : OnlyDie d s (dieMissing d s) := by
  unfold dieMissing
  split
  · exact (modDie_only _).trans (raise_only ..)
  · exact modDie_only _

theorem probeDie_only (p : DieProbe) : OnlyDie d s (probeDie interface rate d p s) := by
  cases p with
  | missing => exact (flashAll_sends _).only.trans dieMissing_only
  | rejected => exact ((flashAll_sends _).only.trans (raise_only ..)).trans dieMissing_only
  | accepted b g c => exact ((flashAll_sends _).only.trans (flashAll_sends _).only).trans (modDie_only _)

/-- A die after the probe, given whether the chain uses it and the pages of its pseudo-SLC mode (12 R646 to R651, R692). -/
def probedDie (used : Bool) (slcPages : Nat) (p : DieProbe) (x : Die) : Die :=
  match p with
  | .accepted b g c =>
    { x with state := if x.retiredInTable then .retired else .active, blocks := b, pages := if slcPages = 0 then g else slcPages, c := c }
  | _ => if used then { x with state := .retired, cause := 4, retiredInTable := true } else { x with state := .absent }

theorem dieMissing_die : (dieMissing d s).flash.die[d] = probedDie (chainUses s.flash d) 0 .missing s.flash.die[d] := by
  unfold dieMissing probedDie
  dsimp only
  split
  · have same : (raise (s.modDie d fun x => { x with state := .retired, cause := 4, retiredInTable := true }) (576 + d.val) .flash
        [(1, 4)]).flash = (s.modDie d fun x => { x with state := .retired, cause := 4, retiredInTable := true }).flash := raise_flash ..
    exact (congrArg (fun x : Flash => x.die[d]) same).trans ((modDie_die ..).trans (if_pos rfl))
  · exact (modDie_die ..).trans (if_pos rfl)

theorem setUpDie_sends : Sends s (setUpDie d interface rate s) := flashAll_sends _

theorem probeDie_die (p : DieProbe) : (probeDie interface rate d p s).flash.die[d] =
    probedDie (chainUses s.flash d) (s.cfg 0x2900 8) p s.flash.die[d] := by
  cases p with
  | missing =>
    have sent : (flashAll d [.reset, .readId] s).flash = s.flash := (flashAll_sends _).flash_eq
    show (dieMissing d (flashAll d [.reset, .readId] s)).flash.die[d] = _
    rw [dieMissing_die, sent]
    rfl
  | rejected =>
    have sent : (flashAll d [.reset, .readId, .readParameterPage] s).flash = s.flash := (flashAll_sends _).flash_eq
    show (dieMissing d (raise (flashAll d [.reset, .readId, .readParameterPage] s) 513 .flash [])).flash.die[d] = _
    rw [dieMissing_die, raise_flash, sent]
    rfl
  | accepted b g c =>
    have sent : (setUpDie d interface rate (flashAll d [.reset, .readId, .readParameterPage] s)).flash = s.flash :=
      ((flashAll_sends _).trans setUpDie_sends).flash_eq
    show (State.modDie (setUpDie d interface rate (flashAll d [.reset, .readId, .readParameterPage] s)) d _).flash.die[d] = _
    rw [modDie_die, if_pos rfl, sent]
    rfl

theorem OnlyDie.other {b : Fin 16} (h : OnlyDie d s t) (other : b ≠ d) : t.flash.die[b] = s.flash.die[b] := by
  have whole : t = withEvents (s.modDie d fun _ => t.flash.die[d]) t := h
  have same : t.flash = (s.modDie d fun _ => t.flash.die[d]).flash := by
    have read := congrArg State.flash whole
    exact read
  rw [same, modDie_die, if_neg other]

/-- From `s` to `t` only the dies and the event system have changed. -/
def DiesOnly (s t : State) : Prop := t = withEvents { s with flash := { s.flash with die := t.flash.die } } t

theorem DiesOnly.trans (h : DiesOnly s t) (k : DiesOnly t u) : DiesOnly s u := by
  unfold DiesOnly at *
  rw [h] at k
  exact k

theorem OnlyDie.dies (h : OnlyDie d s t) : DiesOnly s t := by
  unfold OnlyDie at h
  unfold DiesOnly
  rw [h]
  rfl

/-- Every die probed, one after the other. -/
def diesProbed (interface rate : Nat) (dies : List DieProbe) (s : State) : State :=
  forAll 16 (fun t d => probeDie interface rate d (dies.getD d.val .missing) t) s

theorem diesProbed_only (dies : List DieProbe) : DiesOnly s (diesProbed interface rate dies s) :=
  forAll_inv (inv := DiesOnly s) rfl fun _ _ h => h.trans (probeDie_only _).dies

theorem diesProbed_die (dies : List DieProbe) (d : Fin 16) : (diesProbed interface rate dies s).flash.die[d] =
    probedDie (chainUses s.flash d) (s.cfg 0x2900 8) (dies.getD d.val .missing) s.flash.die[d] := by
  have start : DiesOnly s s := rfl
  refine forAll_item (fun (t : State) (a : Fin 16) => t.flash.die[a])
    (fun a x y => y = probedDie (chainUses s.flash a) (s.cfg 0x2900 8) (dies.getD a.val .missing) x) (inv := DiesOnly s) start
    (fun _ _ h => h.trans (probeDie_only _).dies) (fun t a b other => ?_) (fun t a only => ?_) d
  · exact (probeDie_only _).other other
  · have chain : chainUses t.flash a = chainUses s.flash a := by rw [only]; rfl
    have cfg : t.cfg 0x2900 8 = s.cfg 0x2900 8 := by rw [only]; rfl
    rw [probeDie_die, chain, cfg]


/-! ### Step 10 ends -/

/-- The dies stand as probed, with the interface and the rate (12 R646, R649). -/
structure Probed (s t : State) : Prop where
  die : ∀ d : Fin 16, t.flash.die[d].state = s.flash.die[d].state ∧ t.flash.die[d].blocks = s.flash.die[d].blocks ∧
    t.flash.die[d].pages = s.flash.die[d].pages ∧ t.flash.die[d].c = s.flash.die[d].c
  interface : t.flash.interface = s.flash.interface
  rate : t.flash.rate = s.flash.rate
  dict : t.dict = s.dict
  keep : t.keep = s.keep

theorem Probed.of (die : t.flash.die = s.flash.die) (interface : t.flash.interface = s.flash.interface)
    (rate : t.flash.rate = s.flash.rate) (dict : t.dict = s.dict) (keep : t.keep = s.keep) : Probed s t :=
  ⟨fun d => by rw [die]; exact ⟨rfl, rfl, rfl, rfl⟩, interface, rate, dict, keep⟩

theorem Probed.trans (h : Probed s t) (k : Probed t u) : Probed s u where
  die d := by
    obtain ⟨state, blocks, pages, c⟩ := k.die d
    obtain ⟨state', blocks', pages', c'⟩ := h.die d
    exact ⟨state.trans state', blocks.trans blocks', pages.trans pages', c.trans c'⟩
  interface := k.interface.trans h.interface
  rate := k.rate.trans h.rate
  dict := k.dict.trans h.dict
  keep := k.keep.trans h.keep

theorem Probed.of_flash (flash : t.flash = s.flash) (dict : t.dict = s.dict) (keep : t.keep = s.keep) : Probed s t :=
  .of (by rw [flash]) (by rw [flash]) (by rw [flash]) dict keep

theorem raise_probed (ev : Nat) (i : EvIsland) (vs : List (Nat × Nat)) : Probed s (raise s ev i vs) :=
  .of_flash (by simp) (by simp) (by simp)

theorem loadIndex_probed : Probed s (loadIndex s) := by
  have read (t : State) (c : Nat) (es : List Epoch) (h : Probed s t) : Probed s (es.foldl (fun t e => readMeta c e t) t) :=
    List.foldlRecOn (motive := Probed s) es _ h fun u hu e _ => hu.trans (.of_flash (by simp) (by simp) (by simp))
  unfold loadIndex
  split
  · exact .of_flash rfl rfl rfl
  · rename_i m _
    refine List.foldlRecOn (motive := Probed s) _ _ ?_ fun u hu e _ => hu.trans (.of_flash (by simp) (by simp) (by simp))
    exact (read s m.cPerPage m.chain.reverse (.of_flash rfl rfl rfl)).trans (.of_flash rfl rfl rfl)

theorem findImage_probed : Probed s (findImage s) := by
  unfold findImage
  split
  · exact .of_flash rfl rfl rfl
  · split
    · exact .of_flash (by simp) (by simp) (by simp)
    · exact Probed.trans (t := { s with adm.formatHold := false }) (.of_flash rfl rfl rfl) loadIndex_probed

theorem repairKeys_probed : Probed s (repairKeys s) := by
  unfold repairKeys
  split
  · exact .of (by simp) (by simp) (by simp) (by simp) (by simp)
  · exact .of_flash rfl rfl rfl

/-- The interface that every die that was accepted is brought to, and its rate (12 R649). -/
def flashReached (interface rate : Nat) (s : State) : State :=
  { s with flash := { restale s.flash with interface := interface, rate := rate } }

theorem flashReached_die (d : Fin 16) : (flashReached interface rate s).flash.die[d].state = s.flash.die[d].state ∧
    (flashReached interface rate s).flash.die[d].blocks = s.flash.die[d].blocks ∧
    (flashReached interface rate s).flash.die[d].pages = s.flash.die[d].pages ∧
    (flashReached interface rate s).flash.die[d].c = s.flash.die[d].c := by
  have read : (flashReached interface rate s).flash.die[d] = { s.flash.die[d] with
      table := (flashReached interface rate s).flash.die[d].table } := by
    unfold flashReached restale
    simp only [Fin.getElem_fin, vmapIdx_getElem]
  rw [read]
  exact ⟨rfl, rfl, rfl, rfl⟩

/-- The manifest that step 10 finds, and an incomplete image that it tells of (11 R642; 12 R676). -/
def imageFound (s : State) : State :=
  match (findImage s).flash.incomplete with
  | some e => raise { findImage s with flash.incomplete := none } 461 .flash [(4, e.1), (4, e.2)]
  | none => findImage s

theorem imageFound_probed : Probed s (imageFound s) := by
  unfold imageFound
  split
  · refine findImage_probed.trans (.trans (t := { findImage s with flash.incomplete := none }) ?_ (raise_probed ..))
    exact .of rfl rfl rfl rfl rfl
  · exact findImage_probed

/-- The host-side rails that follow step 10 (02 R75). -/
def startHostRails (s : State) : State := if stepsWithGroup s then upWork s else walkUp [1, 2, 3] s

theorem startHostRails_frame : (startHostRails s).flash = s.flash ∧ (startHostRails s).dict = s.dict ∧ (startHostRails s).keep = s.keep ∧
    (startHostRails s).life = s.life := by
  unfold startHostRails
  split <;> simp

/-- What step 10 tells of the flash: a rate that was lowered, the dies found, and each bad copy (12 R649, R673). -/
def flashTold (dies : List DieProbe) (interface : Nat) (downgraded : Bool) (badCopies : Nat) (s : State) : State :=
  (List.range badCopies).foldl (fun t _ => raise t 515 .flash []) (raise (raiseIf downgraded s 514 .flash []) 512 .flash
    [(1, (List.finRange 16).countP (fun d => dieAccepted (dies.getD d.val .missing))), (1, interface)])

theorem flashTold_probed (dies : List DieProbe) (downgraded : Bool) (badCopies : Nat) :
    Probed s (flashTold dies interface downgraded badCopies s) := by
  unfold flashTold
  refine List.foldlRecOn (motive := Probed s) _ _ ?_ fun t h _ _ => h.trans (raise_probed ..)
  exact .trans (.of_flash (by simp) (by simp) (by simp)) (raise_probed ..)

theorem flashFound_eq (dies : List DieProbe) (downgraded : Bool) (badCopies : Nat) :
    flashFound dies interface rate downgraded badCopies s = startHostRails (nextStep 11 (repairKeys (imageFound (flashTold dies interface
      downgraded badCopies (flashReached interface (min rate (s.cfg 0x2900 3)) (diesProbed interface (min rate (s.cfg 0x2900 3)) dies s)))))) := rfl

/-- What step 10 leaves of the dies. -/
theorem flashFound_leaves (dies : List DieProbe) (downgraded : Bool) (badCopies : Nat) {t : State}
    (found : flashFound dies interface rate downgraded badCopies s = t) : t.life.bootStep = 11 ∧ t.flash.interface = interface ∧
    t.flash.rate = min rate (s.cfg 0x2900 3) ∧ t.dict = s.dict ∧ t.keep = s.keep ∧ ∀ d : Fin 16,
      t.flash.die[d].state = (probedDie (chainUses s.flash d) (s.cfg 0x2900 8) (dies.getD d.val .missing) s.flash.die[d]).state ∧
      t.flash.die[d].blocks = (probedDie (chainUses s.flash d) (s.cfg 0x2900 8) (dies.getD d.val .missing) s.flash.die[d]).blocks ∧
      t.flash.die[d].pages = (probedDie (chainUses s.flash d) (s.cfg 0x2900 8) (dies.getD d.val .missing) s.flash.die[d]).pages ∧
      t.flash.die[d].c = (probedDie (chainUses s.flash d) (s.cfg 0x2900 8) (dies.getD d.val .missing) s.flash.die[d]).c := by
  rw [flashFound_eq] at found
  have only := diesProbed_only (s := s) (interface := interface) (rate := min rate (s.cfg 0x2900 3)) dies
  have die := diesProbed_die (s := s) (interface := interface) (rate := min rate (s.cfg 0x2900 3)) dies
  have dict : (diesProbed interface (min rate (s.cfg 0x2900 3)) dies s).dict = s.dict := by rw [only]; rfl
  have keep : (diesProbed interface (min rate (s.cfg 0x2900 3)) dies s).keep = s.keep := by rw [only]; rfl
  generalize diesProbed interface (min rate (s.cfg 0x2900 3)) dies s = p at found die dict keep
  have reached := flashReached_die (s := p) (interface := interface) (rate := min rate (s.cfg 0x2900 3))
  have told := (flashTold_probed (s := flashReached interface (min rate (s.cfg 0x2900 3)) p) (interface := interface) dies downgraded
    badCopies).trans (imageFound_probed.trans repairKeys_probed)
  generalize repairKeys _ = w at found told
  obtain ⟨flash, dict', keep', life⟩ := startHostRails_frame (s := nextStep 11 w)
  have after : Probed w t := by
    rw [← found]
    exact .of_flash (flash.trans (by simp)) (dict'.trans (by simp)) (keep'.trans (by simp))
  have all := told.trans after
  refine ⟨by rw [← found, life, nextStep_life], all.interface, all.rate, all.dict.trans dict, all.keep.trans keep, fun d => ?_⟩
  obtain ⟨state, blocks, pages, c⟩ := all.die d
  obtain ⟨state', blocks', pages', c'⟩ := reached d
  rw [state, blocks, pages, c, state', blocks', pages', c', die]
  exact ⟨rfl, rfl, rfl, rfl⟩

end

/-! ### Steps 7 to 9 -/

section
variable {s t : State} {r : BootReport}

theorem startMemoryRails_leaves : (startMemoryRails s).life = { s.life with bootStep := 8 } ∧ (startMemoryRails s).dict = s.dict ∧
    (startMemoryRails s).keep = s.keep ∧ (startMemoryRails s).flash = s.flash ∧ (startMemoryRails s).can.nmt = s.can.nmt ∧
    (startMemoryRails s).can.node = s.can.node ∧ (s.isl.undelivered = [] → (startMemoryRails s).isl.undelivered = []) := by
  have step : (nextStep 8 s).can.nmt = s.can.nmt ∧ (nextStep 8 s).can.node = s.can.node ∧
      (s.isl.undelivered = [] → (nextStep 8 s).isl.undelivered = []) := by
    unfold nextStep
    exact ⟨(islandsRefresh_canNode _).1, (islandsRefresh_canNode _).2, fun none => islandsRefresh_undelivered _ none⟩
  obtain ⟨nmt, node, none⟩ := step
  unfold startMemoryRails
  dsimp only
  split
  · exact ⟨nextStep_life .., by simp, by simp, by simp, nmt, node, none⟩
  · refine ⟨by simp, by simp, by simp, by simp, ?_, ?_, fun no => ?_⟩
    · simpa using nmt
    · simpa using node
    · simpa using none no

theorem armHold_closed : (armHold s).hold.en = true ∧ (armHold s).hold.packClosed = true ∧ (armHold s).hold.bankClosed = true := by
  unfold armHold setSource
  dsimp only
  (repeat' split) <;> exact ⟨rfl, rfl, rfl⟩

theorem memoryRailsUp_hold : (memoryRailsUp s).hold.en = true ∧ (memoryRailsUp s).hold.packClosed = true ∧
    (memoryRailsUp s).hold.bankClosed = true := by
  obtain ⟨en, pack, bank⟩ := armHold_closed (s := s)
  unfold memoryRailsUp nextStep
  generalize armHold s = u at *
  obtain ⟨en', pack', bank'⟩ := islandsRefresh_armed { u with life.bootStep := 9 }
  exact ⟨en'.trans en, pack'.trans pack, bank'.trans bank⟩

theorem memoryRailsUp_life : (memoryRailsUp s).life = { s.life with bootStep := 9 } := by
  unfold memoryRailsUp
  simp

theorem startLog_started (seed : List Rec) : (startLog s seed).ev.started = true := by
  unfold startLog
  dsimp only
  rw [logRecs_started]

theorem dramTrained_leaves (gib : Nat) : (dramTrained gib s).life = { s.life with bootStep := 10, dramGib := gib, dramLost := false } ∧
    (dramTrained gib s).cache.usable = slotCount gib (s.cfg 0x2020 5) ∧ (dramTrained gib s).ev.started = true ∧
    (dramTrained gib s).dict = s.dict ∧ (dramTrained gib s).keep = s.keep ∧ (dramTrained gib s).flash = s.flash := by
  unfold dramTrained
  dsimp only
  refine ⟨by simp, ?_, ?_, by simp, by simp, by simp⟩
  · unfold nextStep
    rw [islandsRefresh_usable]
    simp
  · unfold nextStep
    rw [islandsRefresh_log]
    exact startLog_started _

/-! ### A restart on the outage path that ends -/

theorem restartDone_sinter (sinter : s.life.dev = .sinter) : (restartDone s).life =
    { s.life with restarting := false, bootDuration := s.time.now - s.life.bootAt } ∧ (restartDone s).outage = s.outage := by
  unfold restartDone
  extract_lets life0 t u
  have life : u.life = { s.life with restarting := false, bootDuration := s.time.now - s.life.bootAt } := by
    simp [u, t, life0]
  have outage : u.outage = s.outage := by
    simp [u, t, life0]
  have dev : u.life.dev = .sinter := by
    rw [life]
    exact sinter
  rw [dev]
  exact ⟨life, outage⟩

theorem bootDone_restarting (outage : s.life.restarting = true) : bootDone s = restartDone { s with life.bootStep := 12 } := by
  unfold bootDone
  rw [if_pos outage]

/-! ### The step in hand -/

theorem portReady_ready : (portReady s).port.ready = true := by
  unfold portReady
  rw [forAll_portReady]
  intro t r
  split <;> simp

theorem coldRuns_of_warm {d : DevState} (warm : s.life.boot = .warm d) : coldRuns s = false := by
  unfold coldRuns
  simp [warm]

theorem coldRuns_of_dev (other : s.life.dev ≠ .boot) : coldRuns s = false := by
  unfold coldRuns
  simp [other]

theorem Configured.coldRuns (h : Configured s t) : coldRuns t = coldRuns s := by
  unfold Machine.coldRuns
  rw [h.life]

theorem Configured.isSticky (h : Configured s t) : isSticky t = isSticky s := by
  unfold Machine.isSticky
  rw [h.life]

theorem Configured.island (h : Configured s t) (i : Island) : t.island i = s.island i := by
  have run : t.isl.run = s.isl.run := by rw [h.isl]
  unfold State.island
  rw [run]

theorem stepEnds_step1 (step : s.life.bootStep = 1) : stepEnds r s = nextStep 3 s := by
  simp only [stepEnds, step]

theorem stepEnds_step3 (step : s.life.bootStep = 3) :
    stepEnds .done s = if s.life.step2Done then startSupplies s else precisionStep s := by
  simp only [stepEnds, step]

theorem stepEnds_step4 (step : s.life.bootStep = 4) : stepEnds .done s = if s.rails.pos = 4 then chargesRefresh (nextStep 5 s) else s := by
  simp only [stepEnds, step]

theorem stepEnds_step5 (step : s.life.bootStep = 5) : stepEnds .done s = startFirmware (nextStep 6 { s with time.onRc := false }) := by
  simp only [stepEnds, step]

theorem stepEnds_step6 {aOk bOk : Bool} {aVersion bVersion : BitVec 32} {aReads bReads : Nat} (step : s.life.bootStep = 6) :
    stepEnds (.firmware aOk bOk aVersion bVersion aReads bReads) s = firmwareLoaded aOk bOk aVersion bVersion aReads bReads s := by
  simp only [stepEnds, step]

theorem stepEnds_step7 (step : s.life.bootStep = 7) : stepEnds .done s = configured true s := by
  simp only [stepEnds, step]

theorem stepEnds_step8 (step : s.life.bootStep = 8) : stepEnds .done s = if memoryUp s then memoryRailsUp s else s := by
  simp only [stepEnds, step]

theorem stepEnds_step9 (gib : Nat) (step : s.life.bootStep = 9) : stepEnds (.dram gib) s = dramTrained gib s := by
  simp only [stepEnds, step]

theorem stepEnds_step10 (dies : List DieProbe) (interface rate : Nat) (downgraded : Bool) (badCopies : Nat) (step : s.life.bootStep = 10) :
    stepEnds (.flash dies interface rate downgraded badCopies) s = flashFound dies interface rate downgraded badCopies s := by
  simp only [stepEnds, step]

theorem stepEnds_step11 (step : s.life.bootStep = 11) : stepEnds .done s = if hostSideUp s then bootDone (portReady s) else s := by
  simp only [stepEnds, step]

end

end Sys2Proof.Machine
end

section
open Sys2Proof Sys2Proof.Machine

/-- Settles O29: each step that ends, from what its passes leave. -/
theorem bootSteps : Obligations.BootSteps := by
  unfold Obligations.BootSteps
  have early {s : State} {n : Nat} (at_ : s.life.bootStep = n) (last : n ≠ 11 := by decide) (configuration : n ≠ 7 := by decide) :
      bootYields s = false := bootYields_of_step (at_ ▸ last) (at_ ▸ configuration)
  refine ⟨fun r s runs step => ?_, fun s runs step first => ?_, fun s runs step second => ?_, fun s runs step up => ?_,
    fun s runs step trial => ?_, fun a b av bv ar br s runs step slot ok => ?_, fun a b av bv ar br s runs step slot bad ok => ?_,
    fun a b av bv ar br s runs step slot ok => ?_, fun a b av bv ar br s runs cold step noA noB => ?_, fun s runs cold step sticky => ?_,
    fun d s runs dev warm step restart yields sound => ?_, fun s runs dev restart step => ?_, fun s runs step up => ?_,
    fun gib s runs step => ?_, fun ds i rt dn bad s runs step => ?_, fun s runs cold restart step up yields sound => ?_⟩
  · have ends : stepEnds r s = nextStep 3 s := stepEnds_step1 step
    exact ⟨_, (exec_bootStepComplete runs (early step)).trans (congrArg Host.Outcome.next ends), nextStep_life .., by simp, by simp, by simp,
      by simp, by simp⟩
  · have ends : stepEnds .done s = precisionStep s := by
      rw [stepEnds_step3 step, if_neg (by simp [first])]
    refine ⟨_, (exec_bootStepComplete runs (early step)).trans (congrArg Host.Outcome.next ends), ?_, raise_eq ..⟩
    exact (raise_told { s with life := { s.life with step2Done := true, scanReduced := false } } 307 .supervisor []).of rfl rfl rfl
  · have ends : stepEnds .done s = startSupplies s := by
      rw [stepEnds_step3 step, if_pos second]
    have rails : (startSupplies s).rails = { s.rails with pos := 0, en := vset s.rails.en (0 : Fin 4) true } := by
      unfold startSupplies
      simp
    refine ⟨_, (exec_bootStepComplete runs (early step)).trans (congrArg Host.Outcome.next ends), ?_, by rw [rails], ?_, fun k other => ?_,
      ?_, ?_⟩
    · unfold startSupplies
      simp
    · rw [rails]
      exact vset_get_self ..
    · rw [rails]
      exact vset_get_ne _ _ other
    · unfold startSupplies
      simp
    · unfold startSupplies
      simp
  · have ends : stepEnds .done s = chargesRefresh (nextStep 5 s) := by
      rw [stepEnds_step4 step, if_pos up]
    exact ⟨_, (exec_bootStepComplete runs (early step)).trans (congrArg Host.Outcome.next ends), by simp, by simp, by simp, by simp⟩
  · have ends : stepEnds .done s = startFirmware (nextStep 6 { s with time.onRc := false }) :=
      stepEnds_step5 step
    have none : (nextStep 6 { s with time.onRc := false }).life.trialState = 0 := by simpa using trial
    rw [startFirmware_noTrial none] at ends
    exact ⟨_, (exec_bootStepComplete runs (early step)).trans (congrArg Host.Outcome.next ends), by simp, by simp, by simp, by simp, by simp⟩
  · have ends : stepEnds (.firmware a b av bv ar br) s = firmwareRuns (chosenB s) av bv ar br s := by
      rw [stepEnds_step6 step, firmwareLoaded_eq, if_neg (by simp [slot]), if_pos (by unfold verifies; exact ok)]
    obtain ⟨dict, rails, keep⟩ := firmwareRuns_frame (s := s) (aVersion := av) (bVersion := bv) (aReads := ar) (bReads := br) (chosenB s)
    have life := firmwareRuns_life (s := s) (aVersion := av) (bVersion := bv) (aReads := ar) (bReads := br) (chosenB s)
    refine ⟨_, (exec_bootStepComplete runs (early step)).trans (congrArg Host.Outcome.next ends), ?_, ?_, ?_, ?_, dict, rails, keep⟩
    all_goals rw [life]
  · have ends : stepEnds (.firmware a b av bv ar br) s = firmwareRuns (!chosenB s) av bv ar br (fallBack s) := by
      rw [stepEnds_step6 step, firmwareLoaded_eq, if_neg (by simp [slot]), if_neg (by unfold verifies; simp [bad]), if_pos (by rw [verifies_other]; exact ok)]
    obtain ⟨dict, rails, -⟩ := firmwareRuns_frame (s := fallBack s) (aVersion := av) (bVersion := bv) (aReads := ar) (bReads := br) (!chosenB s)
    have life := firmwareRuns_life (s := fallBack s) (aVersion := av) (bVersion := bv) (aReads := ar) (bReads := br) (!chosenB s)
    obtain ⟨fallen, trial⟩ := fallBack_life (s := s)
    refine ⟨_, (exec_bootStepComplete runs (early step)).trans (congrArg Host.Outcome.next ends), by rw [life], by rw [life],
      by rw [life]; exact fallen, by rw [life]; exact trial, dict.trans (by simp), rails.trans (by simp)⟩
  · have ends : stepEnds (.firmware a b av bv ar br) s = firmwareRuns (!chosenB s) av bv ar br s := by
      rw [stepEnds_step6 step, firmwareLoaded_eq, if_pos slot, if_pos (by rw [verifies_other]; exact ok)]
    obtain ⟨dict, rails, keep⟩ := firmwareRuns_frame (s := s) (aVersion := av) (bVersion := bv) (aReads := ar) (bReads := br) (!chosenB s)
    have life := firmwareRuns_life (s := s) (aVersion := av) (bVersion := bv) (aReads := ar) (bReads := br) (!chosenB s)
    refine ⟨_, (exec_bootStepComplete runs (early step)).trans (congrArg Host.Outcome.next ends), ?_, ?_, ?_, dict, rails, keep⟩
    all_goals rw [life]
  · have ends : stepEnds (.firmware a b av bv ar br) s = enterHalt 1 true false (raise (cancelTrial s) 69 .supervisor []) := by
      rw [stepEnds_step6 step, firmwareLoaded_none noA noB, noFirmware_cold cold]
    obtain ⟨dev, cause, -⟩ := enterHalt_life 1 true false (raise (cancelTrial s) 69 .supervisor [])
    exact ⟨_, (exec_bootStepComplete runs (early step)).trans (congrArg Host.Outcome.next ends), dev, cause, enterHalt_lifeEnd ..⟩
  · have read := configRead_configured s
    have ends : stepEnds .done s = startMemoryRails (configRead true s) := by
      rw [stepEnds_step7 step, configured_eq, if_neg (by simp [cold]), if_neg (by simp [read.isSticky, sticky])]
    have free : bootYields s = false := by
      unfold bootYields
      simp [cold, step]
    generalize configRead true s = u at read ends
    obtain ⟨life, dict, keep, flash, nmt, node, none⟩ := startMemoryRails_leaves (s := u)
    refine ⟨_, (exec_bootStepComplete runs free).trans (congrArg Host.Outcome.next ends), by rw [life], ?_, by rw [dict, read.values],
      none (by rw [read.isl]), nmt.trans read.nmt, node.trans read.node, keep.trans read.keep, flash.trans read.flash⟩
    unfold coldRuns at cold
    rw [life]
    show u.life.dev = .boot
    rw [read.life]
    simpa using (Bool.and_eq_true_iff.1 cold).1
  · have read := configRead_configured s
    have ends : stepEnds .done s = bootDone (configRead true s) := by
      rw [stepEnds_step7 step, configured_eq, if_pos (coldRuns_of_warm warm)]
    generalize configRead true s = u at read ends
    have ended := bootDone_ended (s := u) (by rw [read.life]; exact restart)
      (fun i mem => by rw [read.island]; exact sound i mem)
    have target : bootTarget u = d := by
      unfold bootTarget
      have same : u.life.boot = .warm d := by rw [read.life]; exact warm
      rw [same]
    exact ⟨_, (exec_bootStepComplete runs yields).trans (congrArg Host.Outcome.next ends), ended.dev.trans target, ended.boot, ended.step,
      ended.repeated, ended.refresh (by rw [read.coldRuns]; exact coldRuns_of_warm warm), ended.nmt.trans read.nmt, ended.lifeEnd⟩
  · have read := configRead_configured s
    have sinter : s.life.dev ≠ .boot := by simp [dev]
    have ends : stepEnds .done s = restartDone { configRead true s with life.bootStep := 12 } := by
      rw [stepEnds_step7 step, configured_eq, if_pos (coldRuns_of_dev sinter), bootDone_restarting (by rw [read.life]; exact restart)]
    have free : bootYields s = false := by
      unfold bootYields
      simp [dev]
    generalize configRead true s = u at read ends
    obtain ⟨life, outage⟩ := restartDone_sinter (s := { u with life.bootStep := 12 }) (by
      show u.life.dev = .sinter
      rw [read.life]
      exact dev)
    refine ⟨_, (exec_bootStepComplete runs free).trans (congrArg Host.Outcome.next ends), ?_, by rw [life], by rw [life],
      outage.trans read.outage⟩
    rw [life]
    show u.life.dev = .sinter
    rw [read.life]
    exact dev
  · have ends : stepEnds .done s = memoryRailsUp s := by
      rw [stepEnds_step8 step, if_pos up]
    obtain ⟨en, pack, bank⟩ := memoryRailsUp_hold (s := s)
    exact ⟨_, (exec_bootStepComplete runs (early step)).trans (congrArg Host.Outcome.next ends), memoryRailsUp_life,
      en, pack, bank, by simp [memoryRailsUp_frame], by simp [memoryRailsUp_frame], by simp [memoryRailsUp_frame]⟩
  · have ends : stepEnds (.dram gib) s = dramTrained gib s := stepEnds_step9 gib step
    exact ⟨_, (exec_bootStepComplete runs (early step)).trans (congrArg Host.Outcome.next ends), dramTrained_leaves gib⟩
  · have ends : stepEnds (.flash ds i rt dn bad) s = flashFound ds i rt dn bad s := stepEnds_step10 ds i rt dn bad step
    obtain ⟨t, found⟩ : ∃ t, flashFound ds i rt dn bad s = t := ⟨_, rfl⟩
    obtain ⟨at_, interface, rate, dict, keep, dies⟩ := flashFound_leaves ds dn bad found
    refine ⟨t, (exec_bootStepComplete runs (early step)).trans (congrArg Host.Outcome.next (ends.trans found)), at_, interface, rate,
      fun d bl g c is => ?_, fun d is off => ?_, dict, keep⟩
    · obtain ⟨state, blocks, pages, cells⟩ := dies d
      rw [List.getD_eq_getElem?_getD, is] at state blocks pages cells
      exact ⟨state, blocks, pages, cells⟩
    · obtain ⟨state, -⟩ := dies d
      rw [List.getD_eq_getElem?_getD, is, off] at state
      exact state
  · have ends : stepEnds .done s = bootDone (portReady s) := by
      rw [stepEnds_step11 step, if_pos up]
    have ended := bootDone_ended (s := portReady s) (by simpa using restart) (fun i mem => by
      rw [island_of_isl (portReady_frame s).2.1]
      exact sound i mem)
    have boot : s.life.boot = .cold := by
      unfold coldRuns at cold
      simpa using (Bool.and_eq_true_iff.1 cold).2
    have target : bootTarget (portReady s) = if 0 < unrestoredCount s.cache then .restore else .serve := by
      unfold bootTarget
      simp [boot]
    refine ⟨_, (exec_bootStepComplete runs yields).trans (congrArg Host.Outcome.next ends), ended.dev.trans target, ended.boot, ended.step,
      ended.repeated, ?_, ended.pfw, ?_, ended.dict.trans (by simp), ended.lifeEnd⟩
    · rw [ended.ready, portReady_ready]
    · exact fun a b c => ended.told ((controlRuns_of_isl (by simp)).trans a) (by simpa using b) ((evEnabled_of (by simp) (by simp) _).trans c)
end

section
/-! What the CCI sends next, and frames inserted and dropped. -/

namespace Sys2Proof.Machine

/-! ### What the CCI sends next -/

section
variable {s t u : State} {n m : Fin 16} {p : Fin 4} {x y z : Stream}

/-- Of a stream only which of its sets are due, and whether a direct transfer runs, may have changed. -/
structure Pumped (x y : Stream) : Prop where
  rest : y = { x with pendingSets := y.pendingSets, cciRunning := y.cciRunning }
  sets : y.pendingSets.map (fun q => (q.id, q.failures)) = x.pendingSets.map (fun q => (q.id, q.failures))
  due : ∀ q ∈ y.pendingSets, q.due = true → ∃ r ∈ x.pendingSets, r.id = q.id ∧ r.due = true
  idle : x.cciOp = 0 → y.cciRunning = x.cciRunning

theorem Pumped.refl (x : Stream) : Pumped x x := ⟨rfl, rfl, fun q mem due => ⟨q, mem, rfl, due⟩, fun _ => rfl⟩

theorem Pumped.trans (h : Pumped x y) (k : Pumped y z) : Pumped x z where
  rest := by rw [k.rest, h.rest]
  sets := k.sets.trans h.sets
  due q mem due := by
    obtain ⟨r, mem', same, due'⟩ := k.due q mem due
    obtain ⟨r', mem'', same', due''⟩ := h.due r mem' due'
    exact ⟨r', mem'', same'.trans same, due''⟩
  idle no := (k.idle (by rw [h.rest]; exact no)).trans (h.idle no)

theorem holdSets_sets (id : Nat) (x : Stream) :
    (holdSets id x).pendingSets.map (fun q => (q.id, q.failures)) = x.pendingSets.map (fun q => (q.id, q.failures)) := by
  unfold holdSets
  rw [List.map_map]
  refine List.map_congr_left fun q _ => ?_
  dsimp only [Function.comp]
  split <;> rfl

theorem holdSets_due {id : Nat} {q : ExpSet} (mem : q ∈ (holdSets id x).pendingSets) (due : q.due = true) :
    q.id < id ∧ q ∈ x.pendingSets := by
  obtain ⟨r, mem', rfl⟩ := List.mem_map.1 mem
  by_cases later : id ≤ r.id
  · rw [if_pos later] at due
    cases due
  · rw [if_neg later]
    exact ⟨by omega, mem'⟩

theorem holdSets_pumped (id : Nat) (x : Stream) : Pumped x (holdSets id x) where
  rest := rfl
  sets := holdSets_sets id x
  due q mem due := ⟨q, (holdSets_due mem due).2, rfl, due⟩
  idle _ := rfl

/-- From `s` to `t` the CCI has sent: of the streams only what waits to be sent has changed, of the ports only the bursts. -/
structure PumpStep (s t : State) : Prop where
  step : VideoStep s t
  stream : ∀ m, Pumped (strOf s m) (strOf t m)
  port : ∀ p, portOf t p = { portOf s p with burst := (portOf t p).burst }

theorem PumpStep.refl (s : State) : PumpStep s s := ⟨.refl s, fun _ => .refl _, fun _ => rfl⟩

theorem PumpStep.trans (h : PumpStep s t) (k : PumpStep t u) : PumpStep s u where
  step := h.step.trans k.step
  stream m := (h.stream m).trans (k.stream m)
  port p := by rw [k.port, h.port]

theorem startBurst_pump (x : ExpSet) : PumpStep s (startBurst n x s) := by
  have begun : PumpStep s (s.modPort (portNo s n) (fun y => { y with burst := some (n, x.id, (strOf s n).number, false) })) := by
    refine ⟨(VideoStep.refl s).csi _ _, fun m => ?_, fun p => ?_⟩
    · rw [strOf_modPort]
      exact .refl _
    · rw [portOf_modPort]
      split <;> rfl
  unfold startBurst
  exact List.foldlRecOn (motive := PumpStep s) x.writes _ begun fun t h w _ => ⟨h.step.send _, h.stream, h.port⟩

theorem startDirect_pump (due : directDue s n = true) : PumpStep s (startDirect n s) := by
  have busy : (strOf s n).cciOp ≠ 0 := by
    unfold directDue at due
    simp only [Bool.and_eq_true, bne_iff_ne] at due
    exact due.1.1
  refine ⟨((VideoStep.refl s).stream n _).send _, fun m => ?_, fun p => rfl⟩
  show Pumped (strOf s m) (strOf (s.modStream n (fun x => { x with cciRunning := true })) m)
  rw [strOf_modStream]
  split
  · rename_i same
    subst same
    exact ⟨rfl, rfl, fun q mem due => ⟨q, mem, rfl, due⟩, fun no => absurd no busy⟩
  · exact .refl _

theorem heldBack_pump (id : Nat) (ev : Nat) (vs : List (Nat × Nat)) :
    PumpStep s (raise (s.modStream n (holdSets id)) ev .capture vs) := by
  refine ⟨((VideoStep.refl s).stream n _).raise _ _ _, fun m => ?_, fun p => by rw [portOf_raise]; rfl⟩
  rw [strOf_raise, strOf_modStream]
  split
  · exact holdSets_pumped _ _
  · exact .refl _

theorem pumpStream_pump (n : Fin 16) (s : State) : PumpStep s (pumpStream n s) := by
  unfold pumpStream
  split
  · exact .refl s
  · split
    · split
      · exact startBurst_pump _
      · split
        · exact .refl s
        · split
          · exact startBurst_pump _
          · dsimp only
            split
            · rename_i due
              exact (heldBack_pump _ _ _).trans (startDirect_pump due)
            · exact heldBack_pump _ _ _
    · split
      · rename_i due
        exact startDirect_pump due
      · exact .refl s

theorem pumpPort_pump (p : Fin 4) (s : State) : PumpStep s (pumpPort p s) := by
  unfold pumpPort
  refine forAll_inv (inv := PumpStep s) (.refl s) fun t a h => ?_
  split
  · exact h.trans (pumpStream_pump a t)
  · exact h

end

/-! ### Inserted and dropped frames -/

section
variable {s t : State} {n m : Fin 16} {g : Fin 4} {t0 k number cause : Nat}

theorem portOf_congr (same : t.video.port = s.video.port) (p : Fin 4) : portOf t p = portOf s p := by
  unfold portOf
  rw [same]

theorem strOf_countTick : strOf (countTick g k s) m = strOf s m := rfl

/-- A stream with a frame inserted for tick k (13 R743, R746). -/
def withInserted (k number : Nat) (queue : List Frame) (x : Stream) : Stream :=
  pruneEffects number { x with
    inserted := x.inserted + 1, underrun := x.underrun + 1, nextTick := max x.nextTick (k + 1), number := number
    surplus := false, queue := queue }

/-- The frame that fills a tick, with no picture of its own (13 R743, R745). -/
def tickFrame (n : Fin 16) (g : Fin 4) (t0 k number : Nat) (s : State) : Frame :=
  ⟨metaFor n number (tickTime s g t0 k) k true s, [], 0, ⟨[], [], []⟩, 0, false, false, [], s.time.now⟩

/-- A tick filled and told, before the member is suspended for it. -/
def tickFilled (n : Fin 16) (g : Fin 4) (t0 k number : Nat) (s : State) : State :=
  raiseIf ((strOf s n).underrun == 0) (countTick g k (s.modStream n fun x => withInserted k number
    (if takesFrames s n then x.queue ++ [tickFrame n g t0 k number s] else x.queue) x)) (streamEv n.val 3) .capture []

theorem insertFrame_eq : insertFrame n g t0 k number s = suspendIfDue n g (tickFilled n g t0 k number s) := rfl

theorem suspendIfDue_step (n : Fin 16) (g : Fin 4) (s : State) : VideoStep s (suspendIfDue n g s) := by
  unfold suspendIfDue
  split
  · exact ((VideoStep.refl s).stream n _).raise _ _ _
  · exact .refl s

theorem suspendIfDue_port (n : Fin 16) (g : Fin 4) (s : State) : (suspendIfDue n g s).video.port = s.video.port := by
  unfold suspendIfDue
  split
  · simp [State.modStream]
  · rfl

theorem suspendIfDue_stream (n : Fin 16) (g : Fin 4) (s : State) : strOf (suspendIfDue n g s) n =
    { strOf s n with state := if underrunLimit s g ≤ (strOf s n).underrun then .suspended else (strOf s n).state } := by
  unfold suspendIfDue
  split
  · rw [strOf_raise, strOf_modStream, if_pos rfl]
  · rfl

theorem suspendIfDue_other (other : m ≠ n) : strOf (suspendIfDue n g s) m = strOf s m := by
  unfold suspendIfDue
  split
  · rw [strOf_raise, strOf_modStream, if_neg (Ne.symm other)]
  · rfl

theorem tickFilled_step (n : Fin 16) (g : Fin 4) (t0 k number : Nat) (s : State) : VideoStep s (tickFilled n g t0 k number s) :=
  (((VideoStep.refl s).stream n _).video _).raiseIf _ _ _ _

theorem tickFilled_port (n : Fin 16) (g : Fin 4) (t0 k number : Nat) (s : State) :
    (tickFilled n g t0 k number s).video.port = s.video.port := by
  unfold tickFilled
  simp [State.modStream, countTick]

theorem tickFilled_stream (n : Fin 16) (g : Fin 4) (t0 k number : Nat) (s : State) : ∃ queue, strOf (tickFilled n g t0 k number s) n =
    withInserted k number queue (strOf s n) := by
  unfold tickFilled
  rw [strOf_raiseIf, strOf_countTick, strOf_modStream, if_pos rfl]
  exact ⟨_, rfl⟩

theorem tickFilled_other (other : m ≠ n) : strOf (tickFilled n g t0 k number s) m = strOf s m := by
  unfold tickFilled
  rw [strOf_raiseIf, strOf_countTick, strOf_modStream, if_neg (Ne.symm other)]

/-- The first of several inserted frames in a row is told (13 R746). -/
theorem tickFilled_told (first : (strOf s n).underrun = 0) : Told (streamEv n.val 3) s (tickFilled n g t0 k number s) :=
  (raiseIf_told _ _ _ _ _ (by simp [first])).of rfl rfl rfl

theorem insertFrame_step (n : Fin 16) (g : Fin 4) (t0 k number : Nat) (s : State) : VideoStep s (insertFrame n g t0 k number s) :=
  (tickFilled_step n g t0 k number s).trans (suspendIfDue_step n g _)

theorem insertFrame_port (n : Fin 16) (g : Fin 4) (t0 k number : Nat) (s : State) :
    (insertFrame n g t0 k number s).video.port = s.video.port :=
  (suspendIfDue_port n g _).trans (tickFilled_port n g t0 k number s)

theorem insertFrame_stream (n : Fin 16) (g : Fin 4) (t0 k number : Nat) (s : State) : ∃ queue, strOf (insertFrame n g t0 k number s) n =
    { withInserted k number queue (strOf s n) with
      state := if underrunLimit s g ≤ (strOf s n).underrun + 1 then .suspended else (strOf s n).state } := by
  obtain ⟨queue, stream⟩ := tickFilled_stream n g t0 k number s
  have limit : underrunLimit (tickFilled n g t0 k number s) g = underrunLimit s g := by
    unfold underrunLimit
    rw [(tickFilled_step n g t0 k number s).cfg]
  refine ⟨queue, ?_⟩
  rw [insertFrame_eq, suspendIfDue_stream, stream, limit]
  rfl

theorem insertFrame_other (other : m ≠ n) : strOf (insertFrame n g t0 k number s) m = strOf s m :=
  (suspendIfDue_other other).trans (tickFilled_other other)

theorem noteDrop_step (n : Fin 16) (cause : Nat) (s : State) : VideoStep s (noteDrop n cause s) :=
  ((VideoStep.refl s).stream n _).raiseIf _ _ _ _

theorem noteDrop_port (n : Fin 16) (cause : Nat) (s : State) : (noteDrop n cause s).video.port = s.video.port := by
  unfold noteDrop
  simp [State.modStream]

/-- A stream with one frame more dropped. -/
def withDrop (dropAt : Option Nat) (x : Stream) : Stream := { x with dropped := x.dropped + 1, dropAt := dropAt }

theorem noteDrop_stream (n : Fin 16) (cause : Nat) (s : State) : ∃ at_, strOf (noteDrop n cause s) n = withDrop at_ (strOf s n) := by
  unfold noteDrop
  dsimp only
  rw [strOf_raiseIf, strOf_modStream, if_pos rfl]
  exact ⟨_, rfl⟩

theorem noteDrop_other (other : m ≠ n) : strOf (noteDrop n cause s) m = strOf s m := by
  unfold noteDrop
  dsimp only
  rw [strOf_raiseIf, strOf_modStream, if_neg (Ne.symm other)]

/-- A drop is told unless one was told in the last second (13 R719). -/
theorem noteDrop_told (due : secondPassed s (strOf s n).dropAt = true) : Told (streamEv n.val 2) s (noteDrop n cause s) := by
  unfold noteDrop
  dsimp only
  exact (raiseIf_told _ _ _ _ _ due).of rfl rfl rfl

theorem dropCur_none (none : (strOf s n).cur = none) : dropCur n cause s = s := by
  unfold dropCur
  rw [none]

/-- The frame in progress given up, before its tick is filled (13 R719). -/
def curDropped (n : Fin 16) (cause : Nat) (f : Frame) (s : State) : State :=
  let u := noteDrop n cause (s.modStream n (fun x => { x with cur := none }))
  if f.rejoin then dueIdr n .idrRejoin u else u

/-- The tick of a frame that was given up is filled while its stream runs (13 R743). -/
def tickRefilled (n : Fin 16) (f : Frame) (s : State) : State :=
  match groupOf s n with
  | none => s
  | some g => match s.video.group[g].start with
    | some t0 => if (strOf s n).state = .running then insertFrame n g t0 f.md.tick f.md.number s else s
    | none => s

theorem dropCur_some {f : Frame} (some : (strOf s n).cur = some f) : dropCur n cause s = tickRefilled n f (curDropped n cause f s) := by
  unfold dropCur
  rw [some]
  rfl

theorem curDropped_step (f : Frame) : VideoStep s (curDropped n cause f s) := by
  have dropped := ((VideoStep.refl s).stream n (fun x => { x with cur := none })).trans (noteDrop_step n cause _)
  unfold curDropped dueIdr
  dsimp only
  split
  · exact dropped.enc n _
  · exact dropped

theorem curDropped_port (f : Frame) : (curDropped n cause f s).video.port = s.video.port := by
  have dropped := noteDrop_port n cause (s.modStream n (fun x => { x with cur := none }))
  unfold curDropped dueIdr
  dsimp only
  split
  · exact dropped
  · exact dropped

theorem curDropped_stream (f : Frame) : ∃ at_, strOf (curDropped n cause f s) n = { withDrop at_ (strOf s n) with cur := none } := by
  obtain ⟨at_, dropped⟩ := noteDrop_stream n cause (s.modStream n (fun x => { x with cur := none }))
  rw [strOf_modStream, if_pos rfl] at dropped
  refine ⟨at_, ?_⟩
  unfold curDropped dueIdr
  dsimp only
  split
  · rw [strOf_modEnc, dropped]
    rfl
  · rw [dropped]
    rfl

theorem curDropped_other (f : Frame) (other : m ≠ n) : strOf (curDropped n cause f s) m = strOf s m := by
  unfold curDropped dueIdr
  dsimp only
  split
  · rw [strOf_modEnc, noteDrop_other other, strOf_modStream, if_neg (Ne.symm other)]
  · rw [noteDrop_other other, strOf_modStream, if_neg (Ne.symm other)]

/-- What giving up the frame in progress leaves of its stream, of the others, and of the ports. -/
structure Dropped (n : Fin 16) (s t : State) : Prop where
  step : VideoStep s t
  port : t.video.port = s.video.port
  cur : (strOf t n).cur = none
  dropped : (strOf t n).dropped = (strOf s n).dropped + if (strOf s n).cur.isSome then 1 else 0
  captured : (strOf t n).captured = (strOf s n).captured
  other : ∀ m, m ≠ n → strOf t m = strOf s m

theorem curDropped_dropped {f : Frame} (some : (strOf s n).cur = some f) : Dropped n s (curDropped n cause f s) := by
  obtain ⟨at_, stream⟩ := curDropped_stream (s := s) (n := n) (cause := cause) f
  refine ⟨curDropped_step f, curDropped_port f, by rw [stream], ?_, by rw [stream]; rfl, fun m => curDropped_other f⟩
  rw [stream, some]
  rfl

theorem Dropped.insert (h : Dropped n s t) : Dropped n s (insertFrame n g t0 k number t) := by
  obtain ⟨queue, stream⟩ := insertFrame_stream n g t0 k number t
  refine ⟨h.step.trans (insertFrame_step ..), (insertFrame_port ..).trans h.port, ?_, ?_, ?_,
    fun m other => (insertFrame_other other).trans (h.other m other)⟩
  all_goals rw [stream]
  · exact h.cur
  · exact h.dropped
  · exact h.captured

theorem dropCur_dropped (n : Fin 16) (cause : Nat) (s : State) : Dropped n s (dropCur n cause s) := by
  cases cur : (strOf s n).cur with
  | none =>
    rw [dropCur_none cur]
    exact ⟨.refl s, rfl, cur, by rw [cur]; rfl, rfl, fun _ _ => rfl⟩
  | some f =>
    have dropped := curDropped_dropped (cause := cause) cur
    rw [dropCur_some cur]
    unfold tickRefilled
    split
    · exact dropped
    · split
      · split
        · exact dropped.insert
        · exact dropped
      · exact dropped

/-- A frame in progress that no tick waits for is given up alone. -/
theorem dropCur_solo (solo : groupOf s n = none) : ∃ at_, strOf (dropCur n cause s) n =
    { strOf s n with cur := none, dropped := (strOf s n).dropped + (if (strOf s n).cur.isSome then 1 else 0), dropAt := at_ } := by
  cases cur : (strOf s n).cur with
  | none =>
    rw [dropCur_none cur]
    refine ⟨(strOf s n).dropAt, ?_⟩
    generalize strOf s n = x at cur
    cases x
    simpa using cur
  | some f =>
    obtain ⟨at_, stream⟩ := curDropped_stream (s := s) (n := n) (cause := cause) f
    have alone : groupOf (curDropped n cause f s) n = none := by
      unfold groupOf at solo ⊢
      rw [(curDropped_step f).sc]
      exact solo
    refine ⟨at_, ?_⟩
    rw [dropCur_some cur]
    unfold tickRefilled
    rw [alone]
    exact stream

end

end Sys2Proof.Machine
end

section
/-! Ports, frames in progress and the events told, through what the islands and the streams do. -/

namespace Sys2Proof.Machine

/-! ### Ports and frames in progress through what the islands and the streams do -/

/-- A stream has no frame in progress. -/
def Video.noFrame (v : Video) (n : Fin 16) : Prop := v.stream[n].cur = none

section
variable {n0 : Fin 16} {held : Bool} {base : Events}

@[simp] theorem foldl_csi {α : Type} (f : State → α → State) (l : List α) (s : State)
    (h : ∀ t a, (f t a).video.port = t.video.port) : (l.foldl f s).video.port = s.video.port := foldl_keeps (fun t => t.video.port) f h l s

@[simp] theorem forAll_csi {n : Nat} (f : State → Fin n → State) (s : State) (h : ∀ t a, (f t a).video.port = t.video.port) :
    (forAll n f s).video.port = s.video.port := foldl_keeps (fun t => t.video.port) f h _ s

@[simp] theorem State.modStream_csi (s : State) (n : Fin 16) (f : Stream → Stream) : (State.modStream s n f).video.port =
    s.video.port := by
  unfold State.modStream
  (repeat' split) <;> simp

@[simp] theorem State.modEnc_csi (s : State) (n : Fin 16) (f : Encoder → Encoder) : (State.modEnc s n f).video.port =
    s.video.port := by
  unfold State.modEnc
  (repeat' split) <;> simp

@[simp] theorem State.modRec_csi (s : State) (n : Fin 16) (f : Recorder → Recorder) : (State.modRec s n f).video.port =
    s.video.port := by
  unfold State.modRec
  (repeat' split) <;> simp

@[simp] theorem State.modDec_csi (s : State) (d : Fin 2) (f : Session_ → Session_) : (State.modDec s d f).video.port =
    s.video.port := by
  unfold State.modDec
  (repeat' split) <;> simp

@[simp] theorem setSeg_csi (n : Fin 16) (g : Option Segment) (s : State) : (setSeg n g s).video.port = s.video.port := by
  unfold setSeg
  (repeat' split) <;> simp

@[simp] theorem flushSegment_csi (n : Fin 16) (s : State) : (flushSegment n s).2.video.port = s.video.port := by
  unfold flushSegment
  dsimp only
  (repeat' split) <;> simp

@[simp] theorem sealSegment_csi (n : Fin 16) (why : Cause) (flags : Nat) (s : State) : (sealSegment n why flags s).video.port
    = s.video.port := by
  unfold sealSegment
  dsimp only
  (repeat' split) <;> simp

@[simp] theorem pauseRecording_csi (n : Fin 16) (why : Cause) (s : State) : (pauseRecording n why s).video.port = s.video.port
    := by
  unfold pauseRecording
  dsimp only
  (repeat' split) <;> simp

@[simp] theorem closeSegment_csi (n : Fin 16) (why : Cause) (flags : Nat) (s : State) : (closeSegment n why flags
    s).video.port = s.video.port := by
  unfold closeSegment
  dsimp only
  (repeat' split) <;> simp

@[simp] theorem dropStarted_csi (n : Fin 16) (s : State) : (dropStarted n s).video.port = s.video.port := by
  unfold dropStarted
  (repeat' split) <;> simp

@[simp] theorem stopEncode_csi (n : Fin 16) (why close : Cause) (flags : Nat) (dest : EncRun) (s : State) : (stopEncode n why
    close flags dest s).video.port = s.video.port := by
  unfold stopEncode
  dsimp only
  (repeat' split) <;> simp

@[simp] theorem admitStream_csi (ok : Fin 16 → Bool) (n : Fin 16) (s : State) : (admitStream ok n s).video.port = s.video.port
    := by
  unfold admitStream
  (repeat' split) <;> simp

@[simp] theorem groupsRefresh_csi (s : State) : (groupsRefresh s).video.port = s.video.port := rfl

@[simp] theorem regroup_csi (before : State) (n : Fin 16) (s : State) : (regroup before n s).video.port = s.video.port := by
  unfold regroup
  dsimp only
  (repeat' split) <;> simp

@[simp] theorem stopStream_csi (n : Fin 16) (why close : Cause) (flags : Nat) (dest : StreamRun) (s : State) : (stopStream n
    why close flags dest s).video.port = s.video.port := by
  unfold stopStream
  dsimp only
  (repeat' split) <;> simp

@[simp] theorem startStream_csi (n : Fin 16) (s : State) : (startStream n s).video.port = s.video.port := by
  unfold startStream
  dsimp only
  (repeat' split) <;> simp

@[simp] theorem closeSession_csi (d : Fin 2) (why : Nat) (s : State) : (closeSession d why s).video.port = s.video.port := by
  unfold closeSession
  (repeat' split) <;> simp

@[simp] theorem closeSessions_csi (s : State) : (closeSessions s).video.port = s.video.port := by
  unfold closeSessions
  (repeat' split) <;> simp +contextual

@[simp] theorem clearLayers_csi (n : Fin 16) (s : State) : (clearLayers n s).video.port = s.video.port := by
  unfold clearLayers
  (repeat' split) <;> simp

@[simp] theorem streamChanged_csi (before : State) (n : Fin 16) (s : State) : (streamChanged before n s).video.port =
    s.video.port := by
  unfold streamChanged
  dsimp only
  (repeat' split) <;> simp

@[simp] theorem hostChanged_csi (before s : State) : (hostChanged before s).video.port = s.video.port := by
  unfold hostChanged
  dsimp only
  (repeat' split) <;> simp

@[simp] theorem linkLost_csi (s : State) : (linkLost s).video.port = s.video.port := by
  unfold linkLost
  dsimp only
  (repeat' split) <;> simp

@[simp] theorem hostStops_csi (s : State) : (hostStops s).video.port = s.video.port := by
  unfold hostStops
  dsimp only
  (repeat' split) <;> simp

@[simp] theorem islandsRefresh_csi (s : State) : (islandsRefresh s).video.port = s.video.port := by
  unfold islandsRefresh
  dsimp only
  (repeat' split) <;> simp +contextual

@[simp] theorem foldl_noFrame {α : Type} (f : State → α → State) (l : List α) (s : State) (h : s.video.noFrame n0)
    (each : ∀ t a, t.video.noFrame n0 → (f t a).video.noFrame n0) : (l.foldl f s).video.noFrame n0 :=
  List.foldlRecOn l f h fun t ht a _ => each t a ht

@[simp] theorem forAll_noFrame {n : Nat} (f : State → Fin n → State) (s : State) (h : s.video.noFrame n0)
    (each : ∀ t a, t.video.noFrame n0 → (f t a).video.noFrame n0) : (forAll n f s).video.noFrame n0 :=
  foldl_noFrame f _ s h each

@[simp] theorem State.modDec_noFrame (s : State) (d : Fin 2) (f : Session_ → Session_) (h : s.video.noFrame n0) :
    (State.modDec s d f).video.noFrame n0 := h

@[simp] theorem closeSession_noFrame (d : Fin 2) (why : Nat) (s : State) (h : s.video.noFrame n0) : (closeSession d why
    s).video.noFrame n0 := by
  unfold closeSession
  (repeat' split) <;> simp (maxDischargeDepth := 20) [h]

@[simp] theorem closeSessions_noFrame (s : State) (h : s.video.noFrame n0) : (closeSessions s).video.noFrame n0 := by
  unfold closeSessions
  (repeat' split) <;> simp +contextual (maxDischargeDepth := 20) [h]

@[simp] theorem hostChanged_noFrame (before s : State) (h : s.video.noFrame n0) : (hostChanged before s).video.noFrame n0 :=
    by
  unfold hostChanged
  dsimp only
  (repeat' split) <;> simp (maxDischargeDepth := 20) [h]

@[simp] theorem linkLost_noFrame (s : State) (h : s.video.noFrame n0) : (linkLost s).video.noFrame n0 := by
  unfold linkLost
  dsimp only
  (repeat' split) <;> simp (maxDischargeDepth := 20) [h]

@[simp] theorem hostStops_noFrame (s : State) (h : s.video.noFrame n0) : (hostStops s).video.noFrame n0 := by
  unfold hostStops
  dsimp only
  (repeat' split) <;> simp (maxDischargeDepth := 20) [h]

@[simp] theorem islandsRefresh_noFrame (s : State) (h : s.video.noFrame n0) : (islandsRefresh s).video.noFrame n0 := by
  unfold islandsRefresh
  dsimp only
  (repeat' split) <;> simp +contextual (maxDischargeDepth := 20) [h]

@[simp] theorem clearLayers_grows (n : Fin 16) (s : State) (h : Grows held base s.ev) : Grows held base (clearLayers n s).ev
    := by
  unfold clearLayers
  (repeat' split) <;> simp (maxDischargeDepth := 20) [h]

@[simp] theorem streamChanged_grows (before : State) (n : Fin 16) (s : State) (h : Grows held base s.ev) : Grows held base
    (streamChanged before n s).ev := by
  unfold streamChanged
  dsimp only
  (repeat' split) <;> simp (maxDischargeDepth := 20) [h]

end

end Sys2Proof.Machine
end

section
/-! Clock lanes, CCI bursts and group ticks (O42). -/

namespace Sys2Proof.Machine

/-! ### The clock lane of a port -/

section
variable {s t : State} {port : Fin 4} {n : Fin 16}

theorem portNo_congr (same : t.sc = s.sc) (n : Fin 16) : portNo t n = portNo s n := by
  unfold portNo
  rw [same]

/-- Every frame in progress on a port given up (13 R716). -/
def portDropped (port : Fin 4) (s : State) : State := forAll 16 (fun u n => if portNo u n = port then dropCur n 4 u else u) s

theorem portDropped_step (port : Fin 4) (s : State) : VideoStep s (portDropped port s) := by
  unfold portDropped
  refine forAll_inv (inv := VideoStep s) (.refl s) fun t n h => ?_
  split
  · exact h.trans (dropCur_dropped n 4 t).step
  · exact h

theorem portDropped_port (port : Fin 4) (s : State) : (portDropped port s).video.port = s.video.port := by
  unfold portDropped
  refine forAll_csi _ _ fun t n => ?_
  split
  · exact (dropCur_dropped n 4 t).port
  · rfl

theorem portDropped_cur (on : portNo s n = port) : (portDropped port s).video.noFrame n := by
  unfold portDropped Video.noFrame
  refine forAll_item (fun (t : State) (m : Fin 16) => strOf t m) (fun m _ y => portNo s m = port → y.cur = none) (inv := VideoStep s)
    (.refl s) (fun t m h => ?_) (fun t a b other => ?_) (fun t m h on => ?_) n on
  · split
    · exact h.trans (dropCur_dropped m 4 t).step
    · exact h
  · split
    · exact (dropCur_dropped a 4 t).other b other
    · rfl
  · rw [if_pos ((portNo_congr h.sc m).trans on)]
    exact (dropCur_dropped m 4 t).cur

theorem portStarted_keeps (before : State) (port : Fin 4) (s : State) : (portStarted before port s).video.port = s.video.port ∧
    (portStarted before port s).life = s.life ∧ (portStarted before port s).dict = s.dict ∧ (portStarted before port s).rails = s.rails := by
  have keeps {ρ : Type} (read : State → ρ) (start : ∀ t m, read (startStream m t) = read t)
      (changed : ∀ t m, read (streamChanged before m t) = read t) : read (portStarted before port s) = read s :=
    foldl_keeps read _ (fun t m => by
      split
      · split
        · exact start t m
        · exact changed t m
      · rfl) _ _
  exact ⟨keeps (·.video.port) (fun t m => startStream_csi m t) (fun t m => streamChanged_csi before m t),
    keeps (·.life) (fun t m => by simp) (fun t m => by simp), keeps (·.dict) (fun t m => by simp) (fun t m => by simp),
    keeps (·.rails) (fun t m => by simp) (fun t m => by simp)⟩

theorem portStarted_grows (before : State) (port : Fin 4) {held : Bool} {base : Events} (h : Grows held base s.ev) :
    Grows held base (portStarted before port s).ev :=
  forAll_grows _ _ h fun t m each => by
    split
    · split
      · exact startStream_grows m t each
      · exact streamChanged_grows before m t each
    · exact each

end

/-! ### A burst that ends -/

section
variable {s t : State} {port : Fin 4} {n : Fin 16} {id g : Nat} {met failed : Bool}

/-- A port whose burst has ended. -/
def burstOver (port : Fin 4) (s : State) : State := s.modPort port (fun x => { x with burst := none })

theorem settleSet_effects (port : Fin 4) (n : Fin 16) (id g : Nat) (met failed : Bool) (s : State) :
    (strOf (settleSet n id g met failed (burstOver port s)) n).effects =
      (strOf s n).effects ++ [⟨effectFrame s n g met, id, met && !failed, failed⟩] := by
  unfold settleSet
  rw [strOf_modStream, if_pos rfl]
  rfl

theorem settleSet_step (port : Fin 4) (n : Fin 16) (id g : Nat) (met failed : Bool) (s : State) :
    VideoStep s (settleSet n id g met failed (burstOver port s)) :=
  ((VideoStep.refl s).csi port _).stream n _

/-- A set that is sent again in the next blanking (13 R733). -/
def setAgain (n : Fin 16) (id : Nat) (s : State) : State :=
  s.modStream n (fun x => holdSets id { x with
    pendingSets := x.pendingSets.map (fun q => if q.id = id then { q with failures := q.failures + 1 } else q) })

/-- A set that has failed once before it was given up, or waits to be sent again (13 R733). -/
def failsFirst (s : State) (n : Fin 16) (id : Nat) : Bool := (strOf s n).pendingSets.any fun q => q.id == id && q.failures == 0

theorem burstFails_eq (burst : (portOf s port).burst = some (n, id, g, met)) : burstFails port s =
    if failsFirst s n id then pumpPort port (setAgain n id (burstOver port s))
    else if setWaits s n id then pumpPort port (raise (settleSet n id g met true (burstOver port s)) (streamEv n.val 9) .capture [])
    else pumpPort port (burstOver port s) := by
  unfold burstFails
  rw [burst]
  rfl

theorem burstFails_step (port : Fin 4) (s : State) : VideoStep s (burstFails port s) := by
  cases burst : (portOf s port).burst with
  | none =>
    unfold burstFails
    rw [burst]
    exact .refl s
  | some b =>
    obtain ⟨n, id, g, met⟩ := b
    have ended : VideoStep s (burstOver port s) := (VideoStep.refl s).csi port _
    rw [burstFails_eq burst]
    split
    · exact (ended.stream n _).trans (pumpPort_pump ..).step
    · split
      · exact ((settleSet_step ..).raise _ _ _).trans (pumpPort_pump ..).step
      · exact ended.trans (pumpPort_pump ..).step

theorem setAgain_sets (port : Fin 4) (n : Fin 16) (id : Nat) (s : State) :
    (strOf (setAgain n id (burstOver port s)) n).pendingSets.map (fun q => (q.id, q.failures)) =
      (strOf s n).pendingSets.map (fun q => (q.id, if q.id = id then q.failures + 1 else q.failures)) := by
  unfold setAgain
  rw [strOf_modStream, if_pos rfl, holdSets_sets, List.map_map]
  refine List.map_congr_left fun q _ => ?_
  dsimp only [Function.comp]
  split <;> rfl

theorem setAgain_due (port : Fin 4) {q : ExpSet} (mem : q ∈ (strOf (setAgain n id (burstOver port s)) n).pendingSets) (due : q.due = true) :
    q.id < id := by
  unfold setAgain at mem
  rw [strOf_modStream, if_pos rfl] at mem
  exact (holdSets_due mem due).1

/-! ### A direct transfer that ends -/

/-- A direct transfer over, with its result (13 R735). -/
def directOver (n : Fin 16) (r : Nat) (s : State) : State :=
  s.modStream n (fun x => { x with cciResult := r, cciOp := 0, cciRunning := false })

theorem directOver_stream (n : Fin 16) (r : Nat) (s : State) :
    strOf (directOver n r s) n = { strOf s n with cciResult := r, cciOp := 0, cciRunning := false } := by
  unfold directOver
  rw [strOf_modStream, if_pos rfl]

/-- What a direct transfer's end leaves as its result (13 R735). -/
def directResult : CciEnd → Nat
  | .ok _ => 2
  | .nack => 3
  | .timeout => 4

/-- A direct transfer over, with what it read (13 R735). -/
def directDone (n : Fin 16) (e : CciEnd) (s : State) : State :=
  match e with
  | .ok v => if (strOf s n).cciOp == 2 then (directOver n 2 s).setHeld (blockIndex 0x4011 n.val) 2 (v.toNat % 256 ^ s.sc n 0x4011 3)
    else directOver n 2 s
  | .nack => directOver n 3 s
  | .timeout => directOver n 4 s

theorem directDone_stream (n : Fin 16) (e : CciEnd) (s : State) : strOf (directDone n e s) n =
    { strOf s n with cciResult := directResult e, cciOp := 0, cciRunning := false } := by
  cases e with
  | ok v =>
    unfold directDone
    dsimp only
    split
    · exact directOver_stream n 2 s
    · exact directOver_stream n 2 s
  | nack => exact directOver_stream n 3 s
  | timeout => exact directOver_stream n 4 s

theorem directDone_step {e : CciEnd} (none : (strOf s n).cciOp ≠ 2 ∨ e = .nack ∨ e = .timeout) : VideoStep s (directDone n e s) := by
  have ended (r : Nat) : VideoStep s (directOver n r s) := (VideoStep.refl s).stream n _
  cases e with
  | ok v =>
    have written : ¬((strOf s n).cciOp == 2) = true := by simpa using none
    unfold directDone
    dsimp only
    rw [if_neg written]
    exact ended 2
  | nack => exact ended 3
  | timeout => exact ended 4

/-- A sub-entry 2 has no default that follows another entry, but for the COB-ID of EMCY. -/
theorem defaultOf_second {vals vals' : SMap Nat} {index : Nat} (other : index ≠ 0x1014) : defaultOf vals index 2 = defaultOf vals' index 2 := by
  have same (r : Row) : dynDefault (plainValue vals) r index 2 = dynDefault (plainValue vals') r index 2 := by
    unfold dynDefault
    rw [if_neg other, if_neg other]
    simp
  unfold defaultOf
  split
  · exact same _
  · rfl

theorem valueIn_putValue_second {vals : SMap Nat} {index v : Nat} (other : index ≠ 0x1014) :
    valueIn (putValue vals index 2 v) index 2 = v := by
  by_cases default : v = defaultOf vals index 2
  · have found : mapFind (putValue vals index 2 v) (key index 2) = none := by
      unfold putValue
      rw [if_pos default, mapFind_mapErase, if_pos rfl]
    unfold valueIn
    rw [found, default]
    exact defaultOf_second other
  · have found : mapFind (putValue vals index 2 v) (key index 2) = some v := by
      unfold putValue
      rw [if_neg default, mapFind_mapSet, if_pos rfl]
    unfold valueIn
    rw [found]

theorem directDone_read {v : BitVec 32} (read : (strOf s n).cciOp = 2) :
    valueIn (directDone n (.ok v) s).dict.values (blockIndex 0x4011 n.val) 2 = v.toNat % 256 ^ s.sc n 0x4011 3 := by
  unfold directDone
  dsimp only
  rw [if_pos (by simp [read])]
  refine valueIn_putValue_second (Nat.ne_of_gt ?_)
  unfold blockIndex
  omega

/-- What the CCI sends next leaves a stream without a transfer of its own as it is, but for its sets. -/
theorem pumped_idle (p : Fin 4) (ended : strOf t n = { strOf s n with cciResult := id, cciOp := 0, cciRunning := false }) :
    (strOf (pumpPort p t) n).cciRunning = false ∧ (strOf (pumpPort p t) n).cciOp = 0 ∧ (strOf (pumpPort p t) n).cciResult = id := by
  have pumped := (pumpPort_pump p t).stream n
  refine ⟨?_, ?_, ?_⟩
  · rw [pumped.idle (by rw [ended]), ended]
  · rw [pumped.rest, ended]
  · rw [pumped.rest, ended]

end

end Sys2Proof.Machine
end

section
open Sys2Proof Sys2Proof.Machine

/-- Settles O42: the lanes through what the islands leave of the ports, the rest as steps of the video part. -/
theorem clockLanesCciAndTicks : Obligations.ClockLanesCciAndTicks := by
  unfold Obligations.ClockLanesCciAndTicks
  refine ⟨fun port s runs on => ?_, fun port rate s stopped on => ?_, fun port rate s runs => ?_, fun port n id g met s burst waits => ?_,
    fun port n id g met s burst first => ?_, fun port n id g met s burst waits second => ?_, fun port s busy => ?_, fun port s free => ?_,
    fun n e s running => ?_, fun n g t0 s group start runs late => ?_⟩
  · have run : exec (.clockLaneLost port) s = .next (islandsRefresh (portDropped port
        (raise (s.modPort port (fun x => { x with state := .noClock, rate := 0 })) (portEv port.val 1) .capture []))) := by
      show execClockLaneLost port s = _
      unfold execClockLaneLost
      rw [if_neg (by simp [runs, on])]
      rfl
    have told : Told (portEv port.val 1) s (raise (s.modPort port (fun x => { x with state := .noClock, rate := 0 })) (portEv port.val 1)
        .capture []) := (raise_told ..).of rfl rfl rfl
    have step : VideoStep s (raise (s.modPort port (fun x => { x with state := .noClock, rate := 0 })) (portEv port.val 1) .capture []) :=
      ((VideoStep.refl s).csi port _).raise _ _ _
    have lane : portOf (raise (s.modPort port (fun x => { x with state := .noClock, rate := 0 })) (portEv port.val 1) .capture []) port =
        { portOf s port with state := .noClock, rate := 0 } := by
      rw [portOf_raise, portOf_modPort, if_pos rfl]
    generalize raise _ (portEv port.val 1) .capture [] = u at run told step lane
    have dropped := step.trans (portDropped_step port u)
    have same : portOf (islandsRefresh (portDropped port u)) port = portOf u port :=
      portOf_congr ((islandsRefresh_csi _).trans (portDropped_port port u)) port
    refine ⟨_, run, by rw [same, lane], by rw [same, lane],
      Logged.grows ((portDropped_step port u).tells _ _ told).logged (islandsRefresh_grows _ (.refl _)), fun n at_ => ?_, ?_, ?_, ?_⟩
    · exact islandsRefresh_noFrame _ (portDropped_cur ((portNo_congr step.sc n).trans at_))
    · simpa using dropped.life
    · simpa using dropped.dict
    · simpa using dropped.rails
  · have run : exec (.clockLaneUp port rate) s = .next (portStarted s port (islandsRefresh
        (raise (s.modPort port (fun x => { x with state := .idle, rate := rate })) (portEv port.val 0) .capture []))) := by
      show execClockLaneUp port rate s = _
      unfold execClockLaneUp
      rw [if_neg (by simp [stopped, on])]
    have told : Logged (portEv port.val 0) s (raise (s.modPort port (fun x => { x with state := .idle, rate := rate })) (portEv port.val 0)
        .capture []) := ((VideoStep.refl s).csi port _).logged (raise_told ..)
    have step : VideoStep s (raise (s.modPort port (fun x => { x with state := .idle, rate := rate })) (portEv port.val 0) .capture []) :=
      ((VideoStep.refl s).csi port _).raise _ _ _
    have lane : portOf (raise (s.modPort port (fun x => { x with state := .idle, rate := rate })) (portEv port.val 0) .capture []) port =
        { portOf s port with state := .idle, rate := rate } := by
      rw [portOf_raise, portOf_modPort, if_pos rfl]
    generalize raise _ (portEv port.val 0) .capture [] = u at run told step lane
    obtain ⟨ports, life, dict, rails⟩ := portStarted_keeps s port (islandsRefresh u)
    have same : portOf (portStarted s port (islandsRefresh u)) port = portOf u port := portOf_congr (ports.trans (islandsRefresh_csi u)) port
    refine ⟨_, run, by rw [same, lane], by rw [same, lane], told.grows (portStarted_grows s port (islandsRefresh_grows _ (.refl _))),
      life.trans ?_, dict.trans ?_, rails.trans ?_⟩
    · simpa using step.life
    · simpa using step.dict
    · simpa using step.rails
  · show execClockLaneUp port rate s = _
    unfold execClockLaneUp
    rw [if_pos (.inl runs)]
  · have run : exec (.cciBurstComplete port) s = .next (pumpPort port (raiseIf met (settleSet n id g met false (burstOver port s))
        (streamEv n.val 8) .capture [])) := by
      have waits' : setWaits s n id = true := waits
      show execCciBurstComplete port s = _
      unfold execCciBurstComplete
      rw [burst]
      dsimp only
      rw [if_pos waits']
      rfl
    have settled := settleSet_step port n id g met false s
    have pumped := pumpPort_pump port (raiseIf met (settleSet n id g met false (burstOver port s)) (streamEv n.val 8) .capture [])
    refine ⟨_, run, ?_, fun on => ?_, ((settled.raiseIf _ _ _ _).trans pumped.step).frame⟩
    · rw [(pumped.stream n).rest, strOf_raiseIf]
      refine (settleSet_effects port n id g met false s).trans ?_
      cases met <;> rfl
    · exact pumped.step.tells _ _ ((raiseIf_told _ _ _ _ _ on).of settled.isl settled.dict (by rfl))
  · have run : exec (.cciNack port) s = .next (pumpPort port (setAgain n id (burstOver port s))) := by
      show Host.Outcome.next (burstFails port s) = _
      rw [burstFails_eq burst, if_pos (show failsFirst s n id = true from first)]
    have pumped := pumpPort_pump port (setAgain n id (burstOver port s))
    have step : VideoStep s (setAgain n id (burstOver port s)) := ((VideoStep.refl s).csi port _).stream n _
    refine ⟨_, run, (pumped.stream n).sets.trans (setAgain_sets ..), fun q mem later => ?_, (step.trans pumped.step).frame⟩
    cases due : q.due with
    | false => rfl
    | true =>
      obtain ⟨r, mem', same, due'⟩ := (pumped.stream n).due q mem due
      have earlier := setAgain_due port mem' due'
      omega
  · have run : exec (.cciNack port) s = .next (pumpPort port (raise (settleSet n id g met true (burstOver port s)) (streamEv n.val 9)
        .capture [])) := by
      show Host.Outcome.next (burstFails port s) = _
      rw [burstFails_eq burst, if_neg (by unfold failsFirst; rw [second]; exact Bool.false_ne_true), if_pos waits]
    have settled := settleSet_step port n id g met true s
    have pumped := pumpPort_pump port (raise (settleSet n id g met true (burstOver port s)) (streamEv n.val 9) .capture [])
    refine ⟨_, run, ?_, pumped.step.tells _ _ ((raise_told ..).of settled.isl settled.dict rfl), ((settled.raise _ _ _).trans pumped.step).frame⟩
    rw [(pumped.stream n).rest, strOf_raise]
    refine (settleSet_effects port n id g met true s).trans ?_
    rw [Bool.not_true, Bool.and_false]
  · have run : exec (.cciBusStuck port) s = .next (burstFails port (raise s (portEv port.val 4) .capture [])) := by
      show execCciBusStuck port s = _
      unfold execCciBusStuck
      rw [if_neg (by rw [busy]; exact Bool.false_ne_true)]
    exact ⟨_, run, (burstFails_step ..).tells _ _ (raise_told ..), (((VideoStep.refl s).raise _ _ _).trans (burstFails_step ..)).frame⟩
  · show execCciBusStuck port s = _
    unfold execCciBusStuck
    rw [if_pos free]
  · have run : exec (.cciDirectTransferDone n e) s = .next (pumpPort (portNo s n) (directDone n e s)) := by
      show execCciDirectTransferDone n e s = _
      unfold execCciDirectTransferDone
      rw [if_neg (by rw [running]; exact Bool.noConfusion)]
      rfl
    have stream := directDone_stream n e s
    obtain ⟨idle, op, result⟩ := pumped_idle (portNo s n) stream
    have pumped := (pumpPort_pump (portNo s n) (directDone n e s)).step
    refine ⟨_, run, idle, op, result, fun v data read => ?_, fun none => ?_⟩
    · unfold State.held
      rw [pumped.dict, data]
      exact directDone_read read
    · exact (VideoStep.trans (directDone_step none) pumped).frame
  · have due : ¬ (((strOf s n).state ≠ .running) ∨ s.time.timeBase < tickTime s g t0 (strOf s n).nextTick + groupTolerance s g) := by
      rintro (other | early)
      · exact other runs
      · omega
    have run : exec (.tickToleranceExpiry n) s = .next (insertFrame n g t0 (strOf s n).nextTick ((strOf s n).number + 1) s) := by
      show execTickToleranceExpiry n s = _
      unfold execTickToleranceExpiry
      rw [group]
      dsimp only
      rw [start]
      dsimp only
      rw [if_neg due]
    obtain ⟨queue, stream⟩ := insertFrame_stream n g t0 (strOf s n).nextTick ((strOf s n).number + 1) s
    refine ⟨_, run, ?_, ?_, ?_, ?_, fun first => (suspendIfDue_step ..).tells _ _ (tickFilled_told first), ?_, (insertFrame_step ..).frame⟩
    all_goals rw [stream]
    · rfl
    · rfl
    · rfl
    · exact max_eq_right (Nat.le_succ _)
    · dsimp only
      rw [runs]
      constructor
      · intro same
        by_contra few
        rw [if_neg few] at same
        cases same
      · exact fun many => if_pos many
end

section
/-! Frame starts, long packets and frame ends (O41). -/

namespace Sys2Proof.Machine

/-! ### The frame start -/

section
variable {s t : State} {port vc p : Fin 4} {n m : Fin 16} {g : Fin 4} {t0 : Nat}

theorem setPort_step (port : Fin 4) (r : PortRun) (s : State) : VideoStep s (setPort port r s) := (VideoStep.refl s).csi port _

theorem exec_frameStart (takes : portTakes s port = true) (at_ : streamAt s port vc = some n) :
    exec (.frameStart port vc) s = .next (frameStarts n (setPort port .receiving s)) := by
  show execFrameStart port vc s = _
  unfold execFrameStart
  rw [if_neg (by rw [takes]; exact Bool.noConfusion), at_]

/-- The blanking of a stream measured, and its sets no longer due (13 R728). -/
def blankingEnded (now : Nat) (x : Stream) : Stream := { x with
  blankings := match x.endAt with | some e => (now - e) :: x.blankings.take 7 | none => x.blankings
  endAt := none
  pendingSets := x.pendingSets.map (fun q => { q with due := false }) }

theorem blankingEnds_step (n : Fin 16) (s : State) : VideoStep s (blankingEnds n s) := ((VideoStep.refl s).stream n _).csi _ _

theorem blankingEnds_stream (n : Fin 16) (s : State) : strOf (blankingEnds n s) n = blankingEnded s.time.now (strOf s n) := by
  unfold blankingEnds
  dsimp only
  rw [strOf_modPort, strOf_modStream, if_pos rfl]
  rfl

theorem blankingEnds_other (other : m ≠ n) : strOf (blankingEnds n s) m = strOf s m := by
  unfold blankingEnds
  dsimp only
  rw [strOf_modPort, strOf_modStream, if_neg (Ne.symm other)]

theorem blankingEnds_port (n : Fin 16) (s : State) (p : Fin 4) : (portOf (blankingEnds n s) p).state = (portOf s p).state := by
  unfold blankingEnds
  dsimp only
  rw [portOf_modPort]
  split <;> rfl

/-- From `x` to `y` the layers and the ROIs of a stream have been taken (13 R752, R758, R766). -/
def LayersTaken (x y : Stream) : Prop :=
  y = { x with layers := y.layers, layersOn := y.layersOn, rois := y.rois, maskPending := y.maskPending }

theorem takeLayers_step (n : Fin 16) (s : State) : VideoStep s (takeLayers n s) :=
  (((VideoStep.refl s).stream n _).raiseIf _ _ _ _).raiseIf _ _ _ _

theorem takeLayers_stream (n : Fin 16) (s : State) : LayersTaken (strOf s n) (strOf (takeLayers n s) n) := by
  unfold takeLayers
  dsimp only
  rw [strOf_raiseIf, strOf_raiseIf, strOf_modStream, if_pos rfl]
  rfl

theorem takeLayers_other (other : m ≠ n) : strOf (takeLayers n s) m = strOf s m := by
  unfold takeLayers
  dsimp only
  rw [strOf_raiseIf, strOf_raiseIf, strOf_modStream, if_neg (Ne.symm other)]

theorem takeLayers_video (n : Fin 16) (s : State) : (takeLayers n s).video.port = s.video.port ∧
    (takeLayers n s).video.group = s.video.group := by
  unfold takeLayers
  dsimp only
  simp [State.modStream]

/-- The state of a frame start, before the frame is taken or dropped. -/
def frameOpened (n : Fin 16) (s : State) : State := takeLayers n (blankingEnds n (dropCur n 2 s))

theorem frameStarts_eq : frameStarts n s = match groupOf (startRunning n (frameOpened n s)) n with
    | none => soloFrame n (startRunning n (frameOpened n s))
    | some g => match (startRunning n (frameOpened n s)).video.group[g].start with
      | some t0 => memberFrame n g t0 (startRunning n (frameOpened n s))
      | none => startRunning n (frameOpened n s) := rfl

/-- From `x` to `y` a frame start has measured the blanking and taken the layers. -/
def Opened (x y : Stream) : Prop := y = { x with
  blankings := y.blankings, endAt := y.endAt, pendingSets := y.pendingSets, layers := y.layers, layersOn := y.layersOn
  rois := y.rois, maskPending := y.maskPending }

theorem LayersTaken.opened {x y : Stream} {now : Nat} (h : LayersTaken (blankingEnded now x) y) : Opened x y := by
  unfold LayersTaken at h
  unfold Opened
  rw [h]
  rfl

theorem frameOpened_stream (n : Fin 16) (s : State) : Opened (strOf (dropCur n 2 s) n) (strOf (frameOpened n s) n) := by
  have taken := takeLayers_stream n (blankingEnds n (dropCur n 2 s))
  rw [blankingEnds_stream] at taken
  exact taken.opened

theorem frameOpened_step (n : Fin 16) (s : State) : VideoStep s (frameOpened n s) :=
  ((dropCur_dropped n 2 s).step.trans (blankingEnds_step n _)).trans (takeLayers_step n _)

theorem frameOpened_other (other : m ≠ n) : strOf (frameOpened n s) m = strOf s m :=
  ((takeLayers_other other).trans (blankingEnds_other other)).trans ((dropCur_dropped n 2 s).other m other)

theorem frameOpened_port (n : Fin 16) (s : State) (p : Fin 4) : (portOf (frameOpened n s) p).state = (portOf s p).state := by
  unfold frameOpened
  rw [portOf_congr (takeLayers_video n _).1, blankingEnds_port, portOf_congr (dropCur_dropped n 2 s).port]

theorem groupOf_congr (same : t.sc = s.sc) (n : Fin 16) : groupOf t n = groupOf s n := by
  unfold groupOf
  rw [same]

/-! ### A stream on its own -/

/-- A stream that runs from its first frame on (13 R740). -/
def running (x : Stream) : Stream := if x.state = .waiting then { x with state := .running, underrun := 0 } else x

theorem startRunning_solo (solo : groupOf s n = none) : VideoStep s (startRunning n s) ∧
    strOf (startRunning n s) n = running (strOf s n) ∧ (∀ m, m ≠ n → strOf (startRunning n s) m = strOf s m) ∧
    (startRunning n s).video.port = s.video.port ∧ ((strOf s n).state = .waiting → Logged (streamEv n.val 0) s (startRunning n s)) := by
  by_cases waits : (strOf s n).state = .waiting
  · have run : startRunning n s = raise (s.modStream n (fun x => { x with state := .running, underrun := 0 })) (streamEv n.val 0)
        .capture [] := by
      have step := ((VideoStep.refl s).stream n (fun x => { x with state := .running, underrun := 0 })).raise (streamEv n.val 0) .capture []
      have still : groupOf (raise (s.modStream n (fun x => { x with state := .running, underrun := 0 })) (streamEv n.val 0) .capture []) n =
          none := (groupOf_congr step.sc n).trans solo
      unfold startRunning
      rw [if_pos waits]
      unfold joinGroup
      rw [still]
    rw [run]
    refine ⟨((VideoStep.refl s).stream n _).raise _ _ _, ?_, fun m other => ?_, by simp [State.modStream],
      fun _ => ((VideoStep.refl s).stream n _).logged (raise_told ..)⟩
    · rw [strOf_raise, strOf_modStream, if_pos rfl, running, if_pos waits]
    · rw [strOf_raise, strOf_modStream, if_neg (Ne.symm other)]
  · have run : startRunning n s = s := by
      unfold startRunning
      rw [if_neg waits, solo]
    rw [run, running, if_neg waits]
    exact ⟨.refl s, rfl, fun _ _ => rfl, rfl, fun h => absurd h waits⟩

/-- A stream with its frame in progress given up, if there was one. -/
def givenUp (dropAt : Option Nat) (x : Stream) : Stream := { x with
  cur := none, dropped := x.dropped + (if x.cur.isSome then 1 else 0), dropAt := dropAt }

/-- A frame that starts on a stream without a group, before it is taken or dropped. -/
structure SoloReady (n : Fin 16) (s u : State) : Prop where
  step : VideoStep s u
  stream : ∃ at_ y, Opened (givenUp at_ (strOf s n)) y ∧ ((strOf s n).cur = none → at_ = (strOf s n).dropAt) ∧ strOf u n = running y
  other : ∀ m, m ≠ n → strOf u m = strOf s m
  port : ∀ p, (portOf u p).state = (portOf s p).state
  told : (strOf s n).state = .waiting → Logged (streamEv n.val 0) s u

theorem soloReady (solo : groupOf s n = none) : SoloReady n s (startRunning n (frameOpened n s)) := by
  have opened := frameOpened_step n s
  obtain ⟨started, stream, other, port, told⟩ := startRunning_solo (s := frameOpened n s) ((groupOf_congr opened.sc n).trans solo)
  obtain ⟨at_, dropped⟩ := dropCur_solo (cause := 2) solo
  have taken := frameOpened_stream n s
  rw [dropped] at taken
  change Opened (givenUp at_ (strOf s n)) _ at taken
  have state : (strOf (frameOpened n s) n).state = (strOf s n).state := by
    rw [taken]
    rfl
  refine ⟨opened.trans started, ⟨at_, _, taken, fun none => ?_, stream⟩, fun m h => (other m h).trans (frameOpened_other h),
    fun p => by rw [portOf_congr port, frameOpened_port], fun waits => ?_⟩
  · rw [dropCur_none none] at dropped
    exact (congrArg Stream.dropAt dropped).symm
  · intro runs log enabled
    exact told (state.trans waits) ((controlRuns_of_isl opened.isl).trans runs) (opened.log.trans log)
      ((evEnabled_of opened.isl opened.dict _).trans enabled)

theorem frameStarts_solo (solo : groupOf s n = none) : frameStarts n s = soloFrame n (startRunning n (frameOpened n s)) := by
  have still : groupOf (startRunning n (frameOpened n s)) n = none := (groupOf_congr (soloReady solo).step.sc n).trans solo
  rw [frameStarts_eq, still]

theorem overRate_congr (time : t.time = s.time) (sc : t.sc = s.sc) (start : (strOf t n).startAt = (strOf s n).startAt) :
    overRate t n = overRate s n := by
  unfold overRate
  rw [time, sc, start]

/-! ### A frame that is taken -/

theorem acceptFrame_step (n : Fin 16) (time tick : Nat) (rejoin : Bool) (s : State) : VideoStep s (acceptFrame n time tick rejoin s) :=
  (VideoStep.refl s).stream n _

theorem acceptFrame_stream (n : Fin 16) (time tick : Nat) (rejoin : Bool) (s : State) : ∃ f,
    (strOf (acceptFrame n time tick rejoin s) n).cur = some f ∧ f.lines = [] ∧ f.md.number = (strOf s n).number + 1 ∧ f.md.time = time ∧
    f.md.tick = tick ∧ f.md.inserted = false ∧
    strOf (acceptFrame n time tick rejoin s) n = pruneEffects ((strOf s n).number + 1) { strOf s n with
      number := (strOf s n).number + 1, cur := some f, surplus := false, startAt := some s.time.now } := by
  unfold acceptFrame
  dsimp only
  rw [strOf_modStream, if_pos rfl]
  exact ⟨_, rfl, rfl, rfl, rfl, rfl, rfl, rfl⟩

theorem acceptFrame_other (time tick : Nat) (rejoin : Bool) (other : m ≠ n) :
    strOf (acceptFrame n time tick rejoin s) m = strOf s m := by
  unfold acceptFrame
  dsimp only
  rw [strOf_modStream, if_neg (Ne.symm other)]

theorem acceptFrame_port (time tick : Nat) (rejoin : Bool) : (acceptFrame n time tick rejoin s).video.port = s.video.port := rfl

/-! ### A member of a group -/

theorem startRunning_member (group : groupOf s n = some g) (runs : (strOf s n).state = .running) (start : s.video.group[g].start = some t0) :
    startRunning n s = s := by
  unfold startRunning
  rw [if_neg (by simp [runs]), group]
  dsimp only
  rw [if_neg (by rw [start]; exact Bool.noConfusion)]

theorem frameOpened_idle (none : (strOf s n).cur = none) : Opened (strOf s n) (strOf (frameOpened n s) n) ∧
    (frameOpened n s).video.group = s.video.group := by
  have taken := frameOpened_stream n s
  rw [dropCur_none none] at taken
  refine ⟨taken, ?_⟩
  unfold frameOpened
  rw [dropCur_none none, (takeLayers_video n _).2]
  rfl

theorem frameStarts_member (group : groupOf s n = some g) (runs : (strOf s n).state = .running) (none : (strOf s n).cur = none)
    (start : s.video.group[g].start = some t0) : frameStarts n s = memberFrame n g t0 (frameOpened n s) := by
  obtain ⟨opened, groups⟩ := frameOpened_idle none
  have still : groupOf (frameOpened n s) n = some g := (groupOf_congr (frameOpened_step n s).sc n).trans group
  have state : (strOf (frameOpened n s) n).state = .running := by
    rw [opened]
    exact runs
  have starts : (frameOpened n s).video.group[g].start = some t0 := by
    rw [groups]
    exact start
  rw [frameStarts_eq, startRunning_member still state starts, still]
  dsimp only
  rw [starts]

theorem firstTick_congr (time : t.time = s.time) (cfg : t.cfg = s.cfg) : firstTick t g t0 = firstTick s g t0 := by
  unfold firstTick groupTolerance groupPeriod
  rw [time, cfg]

theorem tickTime_congr (cfg : t.cfg = s.cfg) (k : Nat) : tickTime t g t0 k = tickTime s g t0 k := by
  unfold tickTime groupPeriod
  rw [cfg]

theorem fillTicks_due {k fuel : Nat} (due : ¬(strOf s n).nextTick < k) : fillTicks n g t0 k fuel s = s := by
  cases fuel with
  | zero => rfl
  | succ fuel =>
    unfold fillTicks
    dsimp only
    rw [if_neg fun h => due h.2]

/-- A member's frame that comes for its next tick is taken for it (13 R741, R745). -/
theorem memberFrame_takes (runs : (strOf s n).state = .running) (room : bufferFree (strOf s n) = true)
    (due : firstTick s g t0 = (strOf s n).nextTick) : memberFrame n g t0 s = countTick g (firstTick s g t0)
      (acceptFrame n (tickTime s g t0 (firstTick s g t0)) (firstTick s g t0) false
        (s.modStream n (fun x => { x with nextTick := firstTick s g t0 + 1 }))) := by
  have back : ((strOf s n).state == .suspended) = false := by rw [runs]; rfl
  unfold memberFrame
  dsimp only
  rw [if_neg (by omega), fillTicks_due (by omega), if_neg (by rw [room]; exact Bool.noConfusion), back]
  rfl

/-- A member's frame that comes after its tick was filled is surplus (13 R742). -/
theorem memberFrame_surplus (late : firstTick s g t0 < (strOf s n).nextTick) : memberFrame n g t0 s = surplusFrame n s := by
  unfold memberFrame
  dsimp only
  rw [if_pos late]

theorem surplusFrame_step (n : Fin 16) (s : State) : VideoStep s (surplusFrame n s) :=
  ((noteDrop_step n 6 s).stream n _).raiseIf _ _ _ _

theorem surplusFrame_stream (n : Fin 16) (s : State) : ∃ at_ u, strOf (surplusFrame n s) n =
    { withDrop at_ (strOf s n) with surplus := true, surplusAt := u } := by
  obtain ⟨at_, dropped⟩ := noteDrop_stream n 6 s
  unfold surplusFrame
  dsimp only
  rw [strOf_raiseIf, strOf_modStream, if_pos rfl, dropped]
  exact ⟨at_, _, rfl⟩

/-! ### Packets -/

theorem exec_longPacket (takes : portTakes s port = true) (dt : BitVec 6) (data : List Byte) : exec (.longPacket port vc dt data .good) s =
    .next (takePacket port (streamAt s port vc) dt data s) := by
  show execLongPacket port vc dt data .good s = _
  unfold execLongPacket
  rw [if_neg (by rw [takes]; exact Bool.noConfusion)]

theorem exec_correctedPacket (takes : portTakes s port = true) (dt : BitVec 6) (data : List Byte) :
    exec (.longPacket port vc dt data .corrected) s =
    .next (takePacket port (streamAt s port vc) dt data (s.modPort port (fun x => { x with errors := x.errors + 1 }))) := by
  show execLongPacket port vc dt data .corrected s = _
  unfold execLongPacket
  rw [if_neg (by rw [takes]; exact Bool.noConfusion)]

theorem exec_badPacket (takes : portTakes s port = true) (dt : BitVec 6) (data : List Byte) {check : PacketCheck}
    (bad : check = .badCrc ∨ check = .badHeader) : exec (.longPacket port vc dt data check) s =
    .next (packetError port (streamAt s port vc) s) := by
  show execLongPacket port vc dt data check s = _
  unfold execLongPacket
  rw [if_neg (by rw [takes]; exact Bool.noConfusion)]
  rcases bad with rfl | rfl
  · rfl
  · rfl

/-- A line of pixels of the stream's format and length, with room in the frame, joins the frame in progress (13 R714, R717). -/
theorem addLine_joins {f : Frame} {format : Nat} {data : List Byte} (cur : (strOf s n).cur = some f)
    (same : (strOf s n).format = 0 ∨ (strOf s n).format = format) (length : data.length = lineBytes format (s.sc n 0x4000 2))
    (room : f.lines.length < s.sc n 0x4000 3) : addLine n format data s = s.modStream n (fun x => { x with
      format := format, cur := some { f with lines := f.lines ++ [data], format := format } }) := by
  unfold addLine
  dsimp only
  rw [cur]
  dsimp only
  rw [if_neg (fun h => same.elim h.1 h.2), if_neg (fun h => h.elim (fun h => h length) (by omega))]

theorem modPort_congr {a b : CsiPort → CsiPort} (same : a (portOf s port) = b (portOf s port)) : s.modPort port a = s.modPort port b := by
  have same' : a s.video.port[port] = b s.video.port[port] := same
  unfold State.modPort vmod
  rw [same']

theorem unknownPacket_port (port : Fin 4) (s : State) : portOf (unknownPacket port s) port = { portOf s port with
    unknown := (portOf s port).unknown + 1
    unknownAt := if secondPassed s (portOf s port).unknownAt then some s.time.now else (portOf s port).unknownAt } := by
  unfold unknownPacket
  dsimp only
  rw [portOf_raiseIf, portOf_modPort, if_pos rfl]

/-- A data type that is not listed changes its port's counter, and what its event does (13 R711). -/
theorem unknownPacket_counts (port : Fin 4) (s : State) : unknownPacket port s = withEvents (s.modPort port (fun x => { x with
    unknown := x.unknown + 1, unknownAt := (portOf (unknownPacket port s) port).unknownAt })) (unknownPacket port s) := by
  rw [unknownPacket_port]
  have counted : s.modPort port (fun x => { x with
      unknown := x.unknown + 1
      unknownAt := if secondPassed s (portOf s port).unknownAt then some s.time.now else (portOf s port).unknownAt }) =
      s.modPort port (fun x => { x with
        unknown := x.unknown + 1
        unknownAt := if secondPassed s (portOf s port).unknownAt then some s.time.now else x.unknownAt }) := modPort_congr rfl
  exact (raiseIf_eq ..).trans (congrArg (fun u => withEvents u (unknownPacket port s)) counted.symm)

/-- A port whose packet could not be used, before its frame is given up (13 R715). -/
def packetRefused (port : Fin 4) (s : State) : State :=
  raiseIf (secondPassed s (portOf s port).errorAt) (s.modPort port (fun x => { x with
    state := .error, errorAt := if secondPassed s (portOf s port).errorAt then some s.time.now else x.errorAt })) (portEv port.val 2)
    .capture []

theorem packetError_some : packetError port (some n) s = dropCur n 1 (packetRefused port s) := rfl

theorem packetRefused_step (port : Fin 4) (s : State) : VideoStep s (packetRefused port s) :=
  ((VideoStep.refl s).csi port _).raiseIf _ _ _ _

theorem packetRefused_stream : strOf (packetRefused port s) m = strOf s m := by
  unfold packetRefused
  rw [strOf_raiseIf, strOf_modPort]

theorem packetRefused_port : (portOf (packetRefused port s) port).state = .error := by
  unfold packetRefused
  rw [portOf_raiseIf, portOf_modPort, if_pos rfl]

theorem packetRefused_told (due : secondPassed s (portOf s port).errorAt = true) : Told (portEv port.val 2) s (packetRefused port s) :=
  (raiseIf_told _ _ _ _ _ due).of rfl rfl rfl

/-! ### Frame ends -/

theorem completeFrame_step (n : Fin 16) (f : Frame) (s : State) : VideoStep s (completeFrame n f s) := (VideoStep.refl s).stream n _

theorem completeFrame_stream (n : Fin 16) (f : Frame) (s : State) : ∃ st g, st.md = f.md ∧ g.md = f.md ∧ g.rowsLeft = f.rowsLeft ∧
    strOf (completeFrame n f s) n = { strOf s n with
      cur := none, captured := (strOf s n).captured + 1, underrun := 0, stats := some st
      queue := if takesFrames s n then (strOf s n).queue ++ [g] else (strOf s n).queue } := by
  unfold completeFrame
  dsimp only
  rw [strOf_modStream, if_pos rfl]
  exact ⟨_, { f with lines := [], picture := drawAll n.val (s.sc n 0x4000 2) f.md (strOf s n).layers (convert f.format f.lines) },
    rfl, rfl, rfl, rfl⟩

/-- A stream in the vertical blanking after a frame (13 R725, R726). -/
def blankingBegun (now : Nat) (x : Stream) : Stream := { x with
  endAt := some now, pendingSets := x.pendingSets.map (fun q => { q with due := true }) }

theorem blankingBegins_pump (n : Fin 16) (s : State) :
    VideoStep s (blankingBegins n s) ∧ Pumped (blankingBegun s.time.now (strOf s n)) (strOf (blankingBegins n s) n) := by
  have pumped := pumpPort_pump (portNo s n) (s.modStream n (blankingBegun s.time.now))
  have stream := pumped.stream n
  rw [strOf_modStream, if_pos rfl] at stream
  exact ⟨((VideoStep.refl s).stream n _).trans pumped.step, stream⟩

/-- A frame end once the frame in progress is complete or given up: the port no longer receives (13 R716). -/
def portIdle (port : Fin 4) (s : State) : State := if (portOf s port).state = .receiving then setPort port .idle s else s

theorem portIdle_step (port : Fin 4) (s : State) : VideoStep s (portIdle port s) := by
  unfold portIdle
  split
  · exact setPort_step ..
  · exact .refl s

theorem portIdle_port : (portOf (portIdle port s) port).state ≠ .receiving := by
  unfold portIdle
  split
  · unfold setPort
    rw [portOf_modPort, if_pos rfl]
    exact PortRun.noConfusion
  · assumption

theorem portIdle_stream : strOf (portIdle port s) m = strOf s m := by
  unfold portIdle setPort
  split
  · rw [strOf_modPort]
  · rfl

/-- What becomes of the frame in progress at a frame end (13 R714, R717). -/
def frameClosed (n : Fin 16) (f : Frame) (s : State) : State :=
  if f.lines.length = s.sc n 0x4000 3 then completeFrame n f s else dropCur n 2 s

theorem exec_frameEnd {f : Frame} (takes : portTakes s port = true) (at_ : streamAt s port vc = some n) (live : streamLive s n = true)
    (first : (strOf s n).endAt = none) (cur : (strOf s n).cur = some f) :
    exec (.frameEnd port vc) s = .next (portIdle port (blankingBegins n (frameClosed n f s))) := by
  have ends : frameEnds port n s = blankingBegins n (frameClosed n f s) := by
    unfold frameEnds frameClosed
    dsimp only
    rw [if_neg (by simp [live, first]), cur]
  show execFrameEnd port vc s = _
  unfold execFrameEnd
  rw [if_neg (by rw [takes]; exact Bool.noConfusion), at_]
  dsimp only
  rw [ends]
  rfl

end

end Sys2Proof.Machine
end

section
open Sys2Proof Sys2Proof.Machine

/-- Settles O41: a frame start through the stream it opens, packets and frame ends case by case. -/
theorem framesAndPackets : Obligations.FramesAndPackets := by
  unfold Obligations.FramesAndPackets
  refine ⟨fun port vc s off => ?_, fun port vc n s takes at_ solo rate room => ?_, fun port vc n s takes at_ solo idle bars => ?_,
    fun port vc n g t0 s takes at_ group start runs idle room due => ?_, fun port vc n g t0 s takes at_ group start runs idle late => ?_,
    fun port vc n f data s takes at_ cur format length room => ?_, fun port vc data s takes => ⟨?_, ?_⟩,
    fun port vc dt data s takes long null yuv legacy => ?_, fun port vc n dt data check s takes at_ bad => ?_,
    fun port vc n f s takes at_ live first cur whole => ?_, fun port vc n f s takes at_ live first cur short => ?_⟩
  · show execFrameStart port vc s = _
    unfold execFrameStart
    rw [if_pos off]
  · have begun := setPort_step port .receiving s
    have stream (m : Fin 16) : strOf (setPort port .receiving s) m = strOf s m := rfl
    have receiving : (portOf (setPort port .receiving s) port).state = .receiving := by
      unfold setPort
      rw [portOf_modPort, if_pos rfl]
    have run := exec_frameStart takes at_
    generalize setPort port .receiving s = v at begun stream receiving run
    have solo' : groupOf v n = none := (groupOf_congr begun.sc n).trans solo
    rw [frameStarts_solo solo'] at run
    obtain ⟨step, ⟨at', y, opened, -, is⟩, other, ports, told⟩ := soloReady solo'
    generalize startRunning n (frameOpened n v) = u at run step is other ports told
    rw [stream] at opened told
    have yState : y.state = (strOf s n).state := by rw [opened]; rfl
    have whole := begun.trans step
    have start : (strOf u n).startAt = (strOf s n).startAt := by
      rw [is, running, opened]
      split <;> rfl
    have free : bufferFree (strOf u n) = true := by
      rw [← room, is, running, opened]
      split <;> rfl
    have taken : soloFrame n u = acceptFrame n u.time.timeBase 0 false u := by
      unfold soloFrame
      rw [if_neg (by rw [overRate_congr whole.time whole.sc start, rate]; exact Bool.noConfusion), if_pos free]
    rw [taken] at run
    obtain ⟨f, cur, lines, number, time, -, inserted, leaves⟩ := acceptFrame_stream n u.time.timeBase 0 false u
    have uNumber : (strOf u n).number = (strOf s n).number := by
      rw [is, running, opened]
      split <;> rfl
    refine ⟨_, f, run, cur, lines, number.trans (by rw [uNumber]), time.trans (by rw [whole.time]), inserted, ?_, ?_, ?_, fun waits => ⟨?_, ?_⟩,
      fun m apart => ?_, (whole.trans (acceptFrame_step ..)).frame⟩
    · rw [leaves, uNumber]
      rfl
    · rw [leaves]
      show (strOf u n).dropped = _
      rw [is, running, opened]
      split <;> rfl
    · rw [portOf_congr (acceptFrame_port ..), ports, receiving]
    · rw [leaves]
      show (strOf u n).state = .running
      rw [is, running, if_pos (yState.trans waits)]
    · intro a b c
      exact (told waits) ((controlRuns_of_isl begun.isl).trans a) (begun.log.trans b) ((evEnabled_of begun.isl begun.dict _).trans c)
    · rw [acceptFrame_other _ _ _ apart, other m apart, stream]
  · have begun := setPort_step port .receiving s
    have stream (m : Fin 16) : strOf (setPort port .receiving s) m = strOf s m := rfl
    have run := exec_frameStart takes at_
    generalize setPort port .receiving s = v at begun stream run
    have solo' : groupOf v n = none := (groupOf_congr begun.sc n).trans solo
    rw [frameStarts_solo solo'] at run
    obtain ⟨step, ⟨at', y, opened, same, is⟩, -, -, -⟩ := soloReady solo'
    generalize startRunning n (frameOpened n v) = u at run step is
    rw [stream] at opened same
    have whole := begun.trans step
    have start : (strOf u n).startAt = (strOf s n).startAt := by
      rw [is, running, opened]
      split <;> rfl
    have dropAt : (strOf u n).dropAt = (strOf s n).dropAt := by
      rw [is, running, opened, ← same idle]
      split <;> rfl
    have cur : (strOf u n).cur = none := by
      rw [is, running, opened]
      split <;> rfl
    have number : (strOf u n).number = (strOf s n).number := by
      rw [is, running, opened]
      split <;> rfl
    have dropped : (strOf u n).dropped = (strOf s n).dropped := by
      have none : (givenUp at' (strOf s n)).dropped = (strOf s n).dropped := by
        unfold givenUp
        rw [idle]
        rfl
      rw [← none, is, running, opened]
      split <;> rfl
    have queue : (strOf u n).queue = (strOf s n).queue := by
      rw [is, running, opened]
      split <;> rfl
    have given : ∃ cause, soloFrame n u = noteDrop n cause u := by
      unfold soloFrame
      rcases bars with fast | full
      · exact ⟨7, by rw [if_pos (by rw [overRate_congr whole.time whole.sc start]; exact fast)]⟩
      · have full' : bufferFree (strOf u n) = false := by
          rw [← full]
          unfold bufferFree
          rw [queue, cur, idle]
        split
        · exact ⟨7, rfl⟩
        · exact ⟨5, by rw [if_neg (by rw [full']; exact Bool.noConfusion)]⟩
    obtain ⟨cause, given⟩ := given
    rw [given] at run
    obtain ⟨at'', leaves⟩ := noteDrop_stream n cause u
    refine ⟨_, run, by rw [leaves]; exact cur, by rw [leaves]; exact number, ?_, fun second => ?_, (whole.trans (noteDrop_step ..)).frame⟩
    · rw [leaves, ← dropped]
      rfl
    · refine whole.logged (noteDrop_told ?_)
      rw [dropAt]
      unfold secondPassed at second ⊢
      rw [whole.time]
      exact second
  · have begun := setPort_step port .receiving s
    have stream (m : Fin 16) : strOf (setPort port .receiving s) m = strOf s m := rfl
    have groups : (setPort port .receiving s).video.group = s.video.group := rfl
    have run := exec_frameStart takes at_
    generalize setPort port .receiving s = v at begun stream groups run
    have idle' : (strOf v n).cur = none := by rw [stream]; exact idle
    rw [frameStarts_member ((groupOf_congr begun.sc n).trans group) (by rw [stream]; exact runs) idle' (by rw [groups]; exact start)] at run
    have step := frameOpened_step n v
    obtain ⟨opened, -⟩ := frameOpened_idle idle'
    generalize frameOpened n v = u at run step opened
    rw [stream] at opened
    have whole := begun.trans step
    have first : firstTick u g t0 = firstTick s g t0 := firstTick_congr whole.time whole.cfg
    rw [memberFrame_takes (by rw [opened]; exact runs) (by rw [← room, opened]; rfl) (by rw [first, due, opened]), first,
      tickTime_congr whole.cfg] at run
    obtain ⟨f, cur, -, number, time, tick, -, leaves⟩ := acceptFrame_stream n (tickTime s g t0 (firstTick s g t0)) (firstTick s g t0) false
      (u.modStream n (fun x => { x with nextTick := firstTick s g t0 + 1 }))
    rw [strOf_modStream, if_pos rfl] at number leaves
    refine ⟨_, f, run, cur, number.trans (by rw [opened]), tick, time, ?_, ?_⟩
    · rw [strOf_countTick, leaves]
      rfl
    · exact ((whole.stream n _).trans (acceptFrame_step ..)).video _ |>.frame
  · have begun := setPort_step port .receiving s
    have stream (m : Fin 16) : strOf (setPort port .receiving s) m = strOf s m := rfl
    have groups : (setPort port .receiving s).video.group = s.video.group := rfl
    have run := exec_frameStart takes at_
    generalize setPort port .receiving s = v at begun stream groups run
    have idle' : (strOf v n).cur = none := by rw [stream]; exact idle
    rw [frameStarts_member ((groupOf_congr begun.sc n).trans group) (by rw [stream]; exact runs) idle' (by rw [groups]; exact start)] at run
    have step := frameOpened_step n v
    obtain ⟨opened, -⟩ := frameOpened_idle idle'
    generalize frameOpened n v = u at run step opened
    rw [stream] at opened
    have whole := begun.trans step
    have first : firstTick u g t0 = firstTick s g t0 := firstTick_congr whole.time whole.cfg
    rw [memberFrame_surplus (by rw [first, opened]; exact late)] at run
    obtain ⟨at', v', leaves⟩ := surplusFrame_stream n u
    refine ⟨_, run, ?_, ?_, ?_, ?_, by rw [leaves], (whole.trans (surplusFrame_step ..)).frame⟩
    all_goals rw [leaves, opened]
    · exact idle
    · rfl
    · rfl
    · rfl
  · have run := exec_longPacket (vc := vc) takes 0x1E data
    have line : takePacket port (some n) 0x1E data s = addLine n 1 data s := by
      unfold takePacket
      rw [if_neg (by decide), if_pos (by decide), if_pos rfl]
    rw [run, at_, line, addLine_joins cur (by omega) length room]
  · rw [exec_longPacket takes]
    unfold takePacket
    rw [if_pos (.inl rfl)]
  · rw [exec_correctedPacket takes]
    unfold takePacket
    rw [if_pos (.inl rfl)]
  · have run := exec_longPacket (vc := vc) takes dt data
    have unlisted : takePacket port (streamAt s port vc) dt data s = unknownPacket port s := by
      unfold takePacket
      rw [if_neg (fun h => h.elim null (by omega)), if_neg (fun h => h.elim yuv legacy)]
    have port' := unknownPacket_port port s
    exact ⟨unknownPacket port s, by rw [run, unlisted], by rw [port'], fun due => (raiseIf_told _ _ _ _ _ due).of rfl rfl rfl,
      unknownPacket_counts port s⟩
  · have run := exec_badPacket (vc := vc) takes dt data bad
    rw [at_, packetError_some] at run
    have dropped := dropCur_dropped n 1 (packetRefused port s)
    have refused := packetRefused_step port s
    refine ⟨_, run, dropped.cur, ?_, ?_, fun due => dropped.step.tells _ _ (packetRefused_told due), (refused.trans dropped.step).frame⟩
    · rw [portOf_congr dropped.port, packetRefused_port]
    · rw [dropped.dropped, packetRefused_stream]
  · have closed : frameClosed n f s = completeFrame n f s := by
      unfold frameClosed
      rw [if_pos whole]
    have run := exec_frameEnd takes at_ live first cur
    rw [closed] at run
    obtain ⟨st, q, md, md', rows, stream⟩ := completeFrame_stream n f s
    have step := completeFrame_step n f s
    obtain ⟨step', pumped⟩ := blankingBegins_pump n (completeFrame n f s)
    have leaves : strOf (portIdle port (blankingBegins n (completeFrame n f s))) n = strOf (blankingBegins n (completeFrame n f s)) n :=
      portIdle_stream
    have rest := pumped.rest
    rw [step.time, stream] at rest
    refine ⟨_, run, by rw [leaves, rest]; rfl, by rw [leaves, rest]; rfl, by rw [leaves, rest]; rfl, by rw [leaves, rest]; rfl,
      ⟨st, by rw [leaves, rest]; rfl, md⟩, fun on => ⟨q, ?_, md', rows⟩, fun off => ?_, portIdle_port,
      ((step.trans step').trans (portIdle_step ..)).frame⟩
    · rw [leaves, rest]
      exact if_pos on
    · rw [leaves, rest]
      exact if_neg (by rw [off]; exact Bool.noConfusion)
  · have closed : frameClosed n f s = dropCur n 2 s := by
      unfold frameClosed
      rw [if_neg short]
    have run := exec_frameEnd takes at_ live first cur
    rw [closed] at run
    have dropped := dropCur_dropped n 2 s
    obtain ⟨step', pumped⟩ := blankingBegins_pump n (dropCur n 2 s)
    have leaves : strOf (portIdle port (blankingBegins n (dropCur n 2 s))) n = strOf (blankingBegins n (dropCur n 2 s)) n := portIdle_stream
    have rest := pumped.rest
    refine ⟨_, run, ?_, ?_, ?_, ((dropped.step.trans step').trans (portIdle_step ..)).frame⟩
    all_goals rw [leaves, rest]
    · exact dropped.cur
    · exact dropped.captured
    · refine dropped.dropped.trans ?_
      rw [cur]
      rfl
end
